-- ==== Sys2Proof/Word.lean ====
section
/-! DEFINITION. The word and byte types, and the two halves of the device (00_scope R4, 01 R16). -/

namespace Sys2Proof

/-- A register is 32 bits wide; bit 0 is its least significant bit (R4). -/
abbrev Word := BitVec 32

/-- A byte of an image, a message or a memory. -/
abbrev Byte := BitVec 8

/-- The two halves, West being the boot half (R16). -/
inductive Half where
  | west
  | east
  deriving DecidableEq, Repr

/-- 0 for West and 1 for East, the half bit of every layout that has one (Table 1.3). -/
def Half.num : Half → Nat
  | .west => 0
  | .east => 1

/-- The half that a half bit names. -/
def Half.ofNum (n : Nat) : Half := if n % 2 = 0 then .west else .east

/-- The other half. -/
def Half.other : Half → Half
  | .west => .east
  | .east => .west

end Sys2Proof
end

