-- ==== Sys2Proof/Syntax.lean ====
section
/-! DEFINITION. The commands of the block: one constructor for each row of spec/opcode_table.json.
The operands of a command are what the outside supplies that the state does not determine: who accesses
what with which value, which unit an event concerns, bytes that come from host memory or from a wire, and
the physical outcome of an event (a verify result, a training result, a temperature). -/

namespace Sys2Proof

/-- The two command ports of an NV controller (R121). -/
inductive NvPort where
  | host
  | loader
  deriving DecidableEq, Repr

/-- The Passage traffic classes (Table 1.4). -/
inductive PClass where
  | control
  | token
  | activation
  | move
  deriving DecidableEq, Repr

/-- A node of an admitted graph: context, GRAPH_ID and node index. -/
structure NodeRef where
  ctx : Nat
  gid : Nat
  node : Nat
  deriving DecidableEq, Repr

/-- One cell of a row as a physical step finds it: column 0 to 543 (512 + k is checksum column k), the
cell of the pair (0 positive, 1 negative) and the level the cell stands at. -/
structure CellAt where
  col : Nat
  cell : Nat
  level : Nat
  deriving DecidableEq, Repr

/-- What a margin read finds in one row (Table 4.3): the cells that are not CENTRE, by class. -/
structure MarginRow where
  lowGuard : List CellAt
  highGuard : Nat
  out : List CellAt
  deriving DecidableEq, Repr

/-- The physical result of one NV step (R58). `verify` names the cells not yet at their level. -/
inductive StepResult where
  | verified
  | notVerified
  | margin (r : MarginRow)
  deriving DecidableEq, Repr

/-- What the checkers find on the words that an access moves (R231, R233): words right after a replay, T2 words corrected, and the byte
offsets, counted from the first byte read, at which a word is newly found uncorrectable. -/
structure Scan where
  replayed : Nat := 0
  corrected : Nat := 0
  bad : List Nat := []
  deriving DecidableEq, Repr

/-- Who started an object command: the MEM_CMD registers or a MEMORY node (R211). -/
inductive MemSrc where
  | regs
  | node (n : NodeRef)
  deriving DecidableEq, Repr

/-- The four quota registers of a context (Table 8.6). -/
inductive QuotaKind where
  | t0
  | t1
  | pool
  | t2
  deriving DecidableEq, Repr

/-- The unit a node dispatch concerns (Table 10.9). -/
inductive UnitRef where
  | gallery (g : Nat)
  | plaza
  | stage
  | engine (e : Nat)
  | memory
  | causeway
  | nop
  deriving DecidableEq, Repr

/-- A Page Response (R264, R265). -/
inductive PageResp where
  | success
  | invalidRequest
  | failure
  deriving DecidableEq, Repr

/-- What a training of a Causeway port finds (R326): what the far end advertises, and the lanes that lock at each rate here (`lanes112`,
`lanes56`) and at the far end (`peer112`, `peer56`). -/
structure TrainResult where
  peerVer2 : Bool
  peerRate112 : Bool
  peerNode : Nat
  peerPort : Nat
  lanes112 : List Nat
  lanes56 : List Nat
  peer112 : List Nat
  peer56 : List Nat
  deriving DecidableEq, Repr

/-- How a PCIe training ends: a speed code (0 16, 1 32, 2 64 GT/s) and a width, or no link (R360). -/
structure PcieLink where
  speed : Nat
  width : Nat
  deriving DecidableEq, Repr

/-- Where a security message came from (R428). -/
inductive SecPath where
  | mailbox
  | mctp
  deriving DecidableEq, Repr

/-- The two controllers of the management plane that restart (R28, R29). -/
inductive Controller where
  | management
  | power
  deriving DecidableEq, Repr

/-- A command of the device: one row of the table each. Numbers are natural numbers; `WellFormed` gives
their ranges. `func` is the PCIe function of an access (0 the physical function, R362). Where bytes come
from host memory (T3) or a wire, they are an operand. -/
inductive Instr where
  -- register space (ch. 0, 1)
  | registerWrite (func off width value : Nat)
  | heldWriteApply (h : Half)
  | deferredReadComplete (func off width : Nat) (timedOut : Bool)
  | passageTransferArrive (dst : Half) (cls : PClass) (parityFailures : Nat)
  | wakeLinkCommand
  -- waves (ch. 2, 3, 4, 7)
  | inputBlockDelivered (h : Half) (gal : Nat) (chk : Scan)
  | waveStart (h : Half) (gal : Nat)
  | planeSelectDone (h : Half) (gal : Nat)
  | slicePassEnd (h : Half) (gal : Nat)
  | waveEnd (h : Half) (gal : Nat)
  | healthWatchExpire (h : Half) (plane : Nat)
  | correctionReady (h : Half) (gal : Nat)
  | mergePass (h : Half) (gal : Nat)
  | mergeDeadline (n : NodeRef)
  | outputLand (h : Half) (gal : Nat) (chk : Scan)
  -- NV steps, planes, ages (ch. 2, 4)
  | nvStepStart (h : Half) (seam : Nat)
  | nvStepEnd (h : Half) (seam : Nat) (res : StepResult)
  | seamPlaneCfgWrite (h : Half) (seam value : Nat)
  | planeTableCommit (h : Half)
  | refreshDue (h : Half) (plane : Nat)
  | refreshComplete (h : Half) (plane : Nat)
  | wallMinuteTick
  | nvWallMinutesWrite (h : Half) (value : Nat)
  | stuckStateWrite (h : Half) (idx value : Nat)
  -- weight store commands (ch. 5)
  | seqAWrite (h : Half) (func width value : Nat)
  | seqBWrite (h : Half) (func width value : Nat)
  | seqTimeout (h : Half)
  | programRows (h : Half) (port : NvPort)
  | erasePlane (h : Half) (port : NvPort)
  | refreshPlane (h : Half) (port : NvPort)
  | marginRead (h : Half) (port : NvPort)
  | contReadEnter (h : Half) (port : NvPort)
  | contReadExit (h : Half) (port : NvPort)
  | protectSet (h : Half) (port : NvPort)
  | protectUnlock (h : Half) (port : NvPort)
  | unlockFailDelayEnd (h : Half)
  | otpRead (h : Half) (port : NvPort)
  | otpProgram (h : Half) (port : NvPort)
  | statusRead (h : Half) (port : NvPort)
  | cmdReset (h : Half) (port : NvPort)
  | nvCommandComplete (h : Half) (port : NvPort)
  | pulseStart (h : Half)
  | programRowDone (h : Half) (port : NvPort) (k stepUs : Nat)
  | pulseLimitExpire (h : Half) (port : NvPort) (k : Nat) (cells : List CellAt)
  | eraseTimeLimit (h : Half) (port : NvPort) (cells : List (Nat × CellAt))
  | ledgerCommit (h : Half)
  | ledgerCompactDone (h : Half)
  | ledgerScanDone (h : Half)
  | contReadApertureRead (h : Half) (func off len : Nat)
  | rowSenseDone (h : Half) (plane row : Nat) (notCentre : List CellAt)
  | brownoutTrip (h : Half)
  | nvControllerReset (h : Half)
  -- weight sets (ch. 6)
  | create (h : Half) (set ctx : Nat)
  | openSlot (h : Half) (set slot version : Nat)
  | arm (h : Half) (set slot : Nat)
  | discard (h : Half) (set slot : Nat)
  | delete (h : Half) (set : Nat)
  | wsetCommitDone (h : Half)
  | switchSets (ctx : Nat)
  | wsetSwitchMsgArrive
  | wsetRelease (h : Half) (set slot : Nat)
  | ldrDoorbell (h : Half) (tail : Nat)
  | load (h : Half) (desc image : List Byte) (chk : Scan) (fault : Bool)
  | eraseSet (h : Half) (desc : List Byte) (fault : Bool)
  | ldrAbort (h : Half)
  | ldrDescDone (h : Half)
  -- Plaza and Sidestreet (ch. 7)
  | matmul (h : Half)
  | gather (h : Half)
  | vector (h : Half)
  | plazaOpComplete (h : Half) (chk : Scan)
  | lowrankFallback (h : Half)
  | stage (h : Half)
  | stageDone (h : Half) (data : List Byte) (chk : Scan) (fault : Bool)
  | sdsSetCtrlWrite (h : Half) (set value : Nat)
  | sdsSetRegionWrite (h : Half) (set value : Nat)
  -- memory (ch. 8)
  | alloc (h : Half)
  | free (h : Half) (src : MemSrc)
  | move (h : Half) (src : MemSrc)
  | setSweep (h : Half) (src : MemSrc)
  | zeroFillDone (h : Half)
  | poolRetry (h : Half)
  | evictDone (h : Half) (idx : Nat) (chk : Scan)
  | allocTimeout (h : Half) (k : Nat)
  | moveCopyStart (h : Half) (idx : Nat)
  | moveCopyDone (h : Half) (idx : Nat) (chk : Scan)
  | bar2Access (func off len : Nat) (wr : Option (List Byte)) (chk : Scan)
  | quotaWrite (h : Half) (kind : QuotaKind) (ctx value : Nat)
  | poolCtrlWrite (h : Half) (value : Nat)
  | sweepBurst (h : Half) (chk : Scan)
  | sweepPassEnd (h : Half)
  -- streams (ch. 9)
  | transferStart (eng : Nat)
  | transferComplete (eng : Nat) (data : List Byte) (chk : Scan) (readFail : Bool)
  | ringAttach (h : Half) (ring eng : Nat) (consumer : Bool)
  | slotFull (h : Half) (ring : Nat) (data : List Byte) (chk : Scan)
  | ringSlotRelease (h : Half) (ring : Nat)
  | drainEnd (eng : Nat)
  | strArmGo (eng value : Nat)
  | shadowStart (eng : Nat)
  | strAbort (eng : Nat)
  | pageFaultStop (eng : Nat) (index : List Nat) (data : List Byte)
  | pageResponse (eng : Nat) (code : PageResp)
  | pageRequestTimeout (eng : Nat)
  | ringCfgWrite (h : Half) (ring value : Nat)
  -- graphs and the Junction (ch. 10)
  | sqDoorbell (func ctx value : Nat)
  | cqDoorbell (func ctx value : Nat)
  | graphRead (ctx : Nat) (entry desc : List Byte) (fault : Bool)
  | admissionPoint (ctx : Nat)
  | reserveTimeout (ctx : Nat)
  | admissionMsgArrive
  | nodeDispatch (h : Half) (unit : UnitRef)
  | escalation (n : NodeRef)
  | nodeComplete (n : NodeRef)
  | tokenArrive (h : Half)
  | abortGraph (func ctx gid : Nat)
  | abortContext (func ctx : Nat)
  | retryNode (func ctx gid node : Nat) (bytes : List Byte)
  | ctxCfgWrite (ctx value : Nat)
  -- sequencer programs (ch. 11)
  | programStart (h : Half) (gal : Nat)
  | nop (h : Half) (gal : Nat)
  | wave (h : Half) (gal : Nat)
  | rowmaskSet (h : Half) (gal : Nat)
  | rowmaskOpen (h : Half) (gal : Nat)
  | rowmaskClose (h : Half) (gal : Nat)
  | rowmaskAll (h : Half) (gal : Nat)
  | split (h : Half) (gal : Nat)
  | acc (h : Half) (gal : Nat)
  | check (h : Half) (gal : Nat)
  | scale (h : Half) (gal : Nat)
  | emit (h : Half) (gal : Nat)
  | waitBarrier (h : Half) (gal : Nat)
  | waitLanded (h : Half) (gal : Nat)
  | waitIdle (h : Half) (gal : Nat)
  | signal (h : Half) (gal : Nat)
  | loop (h : Half) (gal : Nat)
  | br (h : Half) (gal : Nat)
  | seti (h : Half) (gal : Nat)
  | add (h : Half) (gal : Nat)
  | endProgram (h : Half) (gal : Nat)
  | sequencerStallEnd (h : Half) (gal : Nat)
  | illegalInstruction (h : Half) (gal : Nat)
  | seqWatchdog (h : Half) (gal : Nat)
  | galProgWrite (h : Half) (idx value : Nat)
  -- Causeway (ch. 12)
  | portEnWrite (port value : Nat)
  | retrain (port : Nat)
  | trainingDone (port : Nat) (res : TrainResult)
  | trainingRetry (port : Nat)
  | laneLoss (port lane : Nat)
  | flitReceive (port : Nat) (flit : List Byte) (credits : List Nat)
  | routeWrite (h : Half) (idx value : Nat)
  | data (h : Half) (flit : List Byte)
  | e2eOpen (h : Half) (flit : List Byte)
  | openAck (h : Half) (flit : List Byte)
  | reject (h : Half) (flit : List Byte)
  | ack (h : Half) (flit : List Byte)
  | ackTimer (h : Half) (queue : Nat)
  | sqValidWrite (h : Half) (queue value : Nat)
  | sqEpochHoldEnd (h : Half) (queue : Nat)
  | openResend (h : Half) (queue : Nat)
  | rqValidWrite (h : Half) (queue value : Nat)
  | e2eTimeout (h : Half) (queue : Nat)
  | regRead (src epoch space off count tag : Nat)
  | regWrite (src epoch space off be tag : Nat) (words : List Word)
  | regResp (src epoch tag status : Nat) (words : List Word)
  | mgmtAccessTimeout (tag : Nat)
  | notify (src epoch : Nat) (payload : List Byte)
  | heartbeat (src epoch : Nat)
  | heartbeatTimer
  | heartbeatLoss
  | takeover (src epoch : Nat)
  | rejectEpoch (src epoch cur master : Nat)
  | budgetPeriod (measuredW : Nat)
  | budgetReport (src epoch measuredW capW slack reasons : Nat)
  | budgetGrant (src epoch capW : Nat)
  | budgetRevert
  | flush (n : NodeRef)
  | barrier (n : NodeRef)
  | arrive (h : Half) (flit : List Byte)
  | release (h : Half) (flit : List Byte)
  | barrierTimeout (n : NodeRef)
  | barrierEnWrite (h : Half) (bar value : Nat)
  | dispatch (n : NodeRef)
  | collect (n : NodeRef)
  | returnRows (n : NodeRef)
  | combine (n : NodeRef)
  | batchTimeout (n : NodeRef)
  -- host interface (ch. 13)
  | pcieLinkTrain (link : Option PcieLink)
  | pcieTrainRetry
  | vfFlr (func : Nat)
  | flrDone (func : Nat)
  | pfReset (linkDown : Bool)
  | d3hotEntry (func : Nat)
  | atsInvalidate (func pasid addr len tag : Nat)
  | priReset (func : Nat)
  | t3ReadFail (n : Option NodeRef) (addr pasid : Nat)
  | poisonedWrite (func addr value : Nat)
  | msixUnmask (func : Nat) (entry : Option Nat)
  | pciCtxFuncWrite (ctx value : Nat)
  -- power (ch. 14)
  | domainHold (dom value : Nat)
  | domainDisable (dom value : Nat)
  | wakeAdmit
  | domainOn (dom : Nat) (selfTestFail : Bool)
  | domainIdleExpire (dom : Nat)
  | domainOff (dom : Nat)
  | pllLock (h : Half) (bit : Nat)
  | powerPeriod (measuredW estimatedW : Nat) (tmax : Int)
  | opChangeDone (h : Half)
  | gateWindowClose
  | gateWindowOpen
  | thermalTrip
  | capWrite (value : Nat)
  | estimateDivergeClear
  | powerRestart
  | powerRestartDone
  | mgmtRestart
  | mgmtRestartDone
  | controllerWatchdog (c : Controller)
  -- boot, resets, security (ch. 15, 16, 18)
  | powerOn (straps : Nat)
  | powerOff
  | railOutOfRange (rail : Nat)
  | deviceReset (heldNs : Nat)
  | perstRelease (octalOk : Bool) (failWest failEast flashBad : Nat) (siteHot : Bool)
  | trialExpire (kind : Nat)
  | mctpControl (cmd : List Byte)
  | getVersion (path : SecPath) (msg : List Byte)
  | getIdentity (path : SecPath) (msg : List Byte)
  | getCert (path : SecPath) (msg : List Byte)
  | getMeasurements (path : SecPath) (msg : List Byte)
  | getAttestState (path : SecPath) (msg : List Byte)
  | attestTokenTick
  | kekInstall (path : SecPath) (msg : List Byte)
  | kekClear (path : SecPath) (msg : List Byte)
  | debugChallenge (path : SecPath) (msg : List Byte)
  | debugUnlock (path : SecPath) (msg : List Byte)
  | updBegin (path : SecPath) (msg : List Byte)
  | updData (path : SecPath) (msg : List Byte)
  | updEnd (path : SecPath) (msg : List Byte)
  | updActivate (path : SecPath) (msg : List Byte)
  | updCommit (path : SecPath) (msg : List Byte)
  | updStatus (path : SecPath) (msg : List Byte)
  | errHostHeadWrite (h : Half) (value : Nat)
  | mgmtHeadAdvance (h : Half)
  | brownoutRecover (h : Half)
  | deviceWatchdogExpire
  | refclkLoss
  | refclkReturn
  | tapInstruction (code : Nat)
  deriving DecidableEq, Repr

end Sys2Proof
end

