-- ==== Sys2Proof/Decode.lean ====
section
/-! DEFINITION. The table's words. Every row of spec/opcode_table.json has an empty list of fields: no row gives bits, so no word spells a
command. Commands come as data, with the operands their rows name. -/

namespace Sys2Proof

/-- The command that a word of `nbits` bits spells by the table's bits: none, since no row has bits. -/
def decodeTableWord (_nbits _w : Nat) : Option Instr := none

end Sys2Proof
end

