-- ==== Sys2Proof/Machine/RegMap.lean ====
section
/-! DEFINITION. The register map: the byte address of every register of the spec's register tables (R11, R31), the place of
each field, its access type (Table 0.5) and its reset value. A register's address is half base + heading offset + n x stride;
device-wide registers (R36, R410) and registers that exist only in West have their home in West's block. The registers of
the PCIe capability (R379) are kept above BAR0, at 0x0400_0000 + their offset. -/

namespace Sys2Proof

/-- Base of a half's register space within BAR0 (R31). -/
def Half.base : Half → Nat
  | .west => 0
  | .east => 0x02000000

end Sys2Proof

namespace Sys2Proof.Machine

/-- The place of a field: byte offset of its word in the register (non-zero only in MEM_HOME), lowest bit and length. -/
structure Fld where
  off : Nat := 0
  lo : Nat
  len : Nat
  deriving DecidableEq, Repr

/-- Access types (Table 0.5). -/
inductive Acc where
  | ro
  | rw
  | wo
  | w1c
  | w1s
  | rwl
  deriving DecidableEq, Repr

/-- Which blocks hold a register: both halves, one home for the device (reads through either half), West only, or the
PCIe capability. -/
inductive Scope where
  | half
  | device
  | west
  | pci
  deriving DecidableEq, Repr

/-- One register of the map. `devIdx` says that its index is device-wide and each half holds only its own (R17, R270, R359).
`pfOnly` says that it is reachable only through the physical function (R115). -/
structure RegDesc where
  base : Nat
  count : Nat
  stride : Nat
  scope : Scope
  pfOnly : Bool
  devIdx : Bool
  fields : List (Fld × Acc)
  deriving DecidableEq, Repr


/-- Where the model keeps the registers of the PCIe capability (R379). -/
def pciBase : Nat := 0x04000000


/-- BOOT_IDENT, 01 R36. -/
def BOOT_IDENT (h : Half) : Nat := h.base + 0x0

@[reducible] def BOOT_IDENT.DEVICE : Fld := { off := 0, lo := 0, len := 16 }

@[reducible] def BOOT_IDENT.STEPPING : Fld := { off := 0, lo := 16, len := 4 }

@[reducible] def BOOT_IDENT.GENERATION : Fld := { off := 0, lo := 20, len := 4 }

@[reducible] def BOOT_IDENT.HALF : Fld := { off := 0, lo := 24, len := 1 }

/-- BOOT_UID, 01 R36. -/
def BOOT_UID (h : Half) (n : Nat) : Nat := h.base + 0x10 + n * 0x4

@[reducible] def BOOT_UID.UID : Fld := { off := 0, lo := 0, len := 32 }

/-- BOOT_FIT_CODE, 01 R36. -/
def BOOT_FIT_CODE (h : Half) (n : Nat) : Nat := h.base + 0x20 + n * 0x4

@[reducible] def BOOT_FIT_CODE.FIT_CODE : Fld := { off := 0, lo := 0, len := 32 }

/-- BOOT_GLOBAL_STATUS, 01 R36. -/
def BOOT_GLOBAL_STATUS : Nat := 0x30

@[reducible] def BOOT_GLOBAL_STATUS.WEST_READY : Fld := { off := 0, lo := 0, len := 1 }

@[reducible] def BOOT_GLOBAL_STATUS.EAST_READY : Fld := { off := 0, lo := 1, len := 1 }

@[reducible] def BOOT_GLOBAL_STATUS.PASSAGE_UP : Fld := { off := 0, lo := 2, len := 1 }

@[reducible] def BOOT_GLOBAL_STATUS.FIT_MISMATCH : Fld := { off := 0, lo := 3, len := 1 }

@[reducible] def BOOT_GLOBAL_STATUS.NODE_ID : Fld := { off := 0, lo := 16, len := 14 }

/-- BOOT_BLOCK_VERSION, 01 R36. -/
def BOOT_BLOCK_VERSION (h : Half) (n : Nat) : Nat := h.base + 0x100 + n * 0x4

@[reducible] def BOOT_BLOCK_VERSION.VERSION : Fld := { off := 0, lo := 0, len := 8 }

/-- SEAM_CTRL, 02 R66. -/
def SEAM_CTRL (h : Half) (n : Nat) : Nat := h.base + 0xB00000 + n * 0x40

@[reducible] def SEAM_CTRL.ZSKIP_EN : Fld := { off := 0, lo := 0, len := 1 }

@[reducible] def SEAM_CTRL.NV_DEFER : Fld := { off := 0, lo := 16, len := 8 }

/-- SEAM_PLANE_CFG, 02 R66. -/
def SEAM_PLANE_CFG (h : Half) (n : Nat) : Nat := h.base + 0xB00004 + n * 0x40

@[reducible] def SEAM_PLANE_CFG.EN : Fld := { off := 0, lo := 0, len := 16 }

@[reducible] def SEAM_PLANE_CFG.W7 : Fld := { off := 0, lo := 16, len := 16 }

/-- SEAM_STATUS, 02 R66. -/
def SEAM_STATUS (h : Half) (n : Nat) : Nat := h.base + 0xB00008 + n * 0x40

@[reducible] def SEAM_STATUS.STATE : Fld := { off := 0, lo := 0, len := 3 }

@[reducible] def SEAM_STATUS.PLANE : Fld := { off := 0, lo := 4, len := 4 }

@[reducible] def SEAM_STATUS.NV_PENDING : Fld := { off := 0, lo := 8, len := 1 }

@[reducible] def SEAM_STATUS.CFG_PENDING : Fld := { off := 0, lo := 9, len := 1 }

@[reducible] def SEAM_STATUS.LATCH_A_FULL : Fld := { off := 0, lo := 10, len := 1 }

@[reducible] def SEAM_STATUS.LATCH_B_FULL : Fld := { off := 0, lo := 11, len := 1 }

/-- SEAM_EVENT, 02 R66. -/
def SEAM_EVENT (h : Half) (n : Nat) : Nat := h.base + 0xB0000C + n * 0x40

@[reducible] def SEAM_EVENT.SAT : Fld := { off := 0, lo := 0, len := 1 }

@[reducible] def SEAM_EVENT.PULSE_GUARD : Fld := { off := 0, lo := 1, len := 1 }

@[reducible] def SEAM_EVENT.DISABLED_PLANE : Fld := { off := 0, lo := 2, len := 1 }

@[reducible] def SEAM_EVENT.NV_FORCED : Fld := { off := 0, lo := 3, len := 1 }

@[reducible] def SEAM_EVENT.W7_MISMATCH : Fld := { off := 0, lo := 4, len := 1 }

/-- SEAM_WAVE_COUNT, 02 R66. -/
def SEAM_WAVE_COUNT (h : Half) (n : Nat) : Nat := h.base + 0xB00010 + n * 0x40

@[reducible] def SEAM_WAVE_COUNT.WAVES : Fld := { off := 0, lo := 0, len := 32 }

/-- SEAM_SLICE_COUNT, 02 R66. -/
def SEAM_SLICE_COUNT (h : Half) (n : Nat) : Nat := h.base + 0xB00014 + n * 0x40

@[reducible] def SEAM_SLICE_COUNT.SLICES : Fld := { off := 0, lo := 0, len := 32 }

/-- SEAM_SKIP_COUNT, 02 R66. -/
def SEAM_SKIP_COUNT (h : Half) (n : Nat) : Nat := h.base + 0xB00018 + n * 0x40

@[reducible] def SEAM_SKIP_COUNT.SKIPS : Fld := { off := 0, lo := 0, len := 32 }

/-- SEAM_SAT_COUNT, 02 R66. -/
def SEAM_SAT_COUNT (h : Half) (n : Nat) : Nat := h.base + 0xB0001C + n * 0x40

@[reducible] def SEAM_SAT_COUNT.SATURATIONS : Fld := { off := 0, lo := 0, len := 32 }

/-- SEAM_NV_WAIT, 02 R66. -/
def SEAM_NV_WAIT (h : Half) (n : Nat) : Nat := h.base + 0xB00020 + n * 0x40

@[reducible] def SEAM_NV_WAIT.WAIT_US : Fld := { off := 0, lo := 0, len := 32 }

/-- GAL_STATUS, 03 R89. -/
def GAL_STATUS (h : Half) (n : Nat) : Nat := h.base + 0xA00000 + n * 0x100

@[reducible] def GAL_STATUS.WAVE_ACTIVE : Fld := { off := 0, lo := 0, len := 1 }

@[reducible] def GAL_STATUS.PASS : Fld := { off := 0, lo := 1, len := 3 }

@[reducible] def GAL_STATUS.SLICE : Fld := { off := 0, lo := 4, len := 3 }

@[reducible] def GAL_STATUS.GAIN : Fld := { off := 0, lo := 8, len := 3 }

@[reducible] def GAL_STATUS.RPP : Fld := { off := 0, lo := 11, len := 2 }

@[reducible] def GAL_STATUS.GROUP : Fld := { off := 0, lo := 13, len := 3 }

@[reducible] def GAL_STATUS.OUTFMT : Fld := { off := 0, lo := 16, len := 2 }

/-- GAL_EVENT, 03 R89. -/
def GAL_EVENT (h : Half) (n : Nat) : Nat := h.base + 0xA00004 + n * 0x100

@[reducible] def GAL_EVENT.CLIPPED : Fld := { off := 0, lo := 0, len := 1 }

@[reducible] def GAL_EVENT.ACC_SAT : Fld := { off := 0, lo := 1, len := 1 }

@[reducible] def GAL_EVENT.FP_RANGE : Fld := { off := 0, lo := 2, len := 1 }

@[reducible] def GAL_EVENT.NAN_OUT : Fld := { off := 0, lo := 3, len := 1 }

/-- GAL_RETRY_COUNT, 03 R89. -/
def GAL_RETRY_COUNT (h : Half) (n : Nat) : Nat := h.base + 0xA00008 + n * 0x100

@[reducible] def GAL_RETRY_COUNT.PASSES : Fld := { off := 0, lo := 0, len := 32 }

/-- GAL_CLIP_COUNT, 03 R89. -/
def GAL_CLIP_COUNT (h : Half) (n : Nat) : Nat := h.base + 0xA0000C + n * 0x100

@[reducible] def GAL_CLIP_COUNT.CLAMPS : Fld := { off := 0, lo := 0, len := 32 }

/-- CHM_RETRY, 03 R89. -/
def CHM_RETRY (h : Half) (n : Nat) : Nat := h.base + 0xA20000 + n * 0x20

@[reducible] def CHM_RETRY.HALF_SPLITS : Fld := { off := 0, lo := 0, len := 16 }

@[reducible] def CHM_RETRY.QUARTER_SPLITS : Fld := { off := 0, lo := 16, len := 16 }

/-- CHM_CLIP, 03 R89. -/
def CHM_CLIP (h : Half) (n : Nat) : Nat := h.base + 0xA20004 + n * 0x20

@[reducible] def CHM_CLIP.CLAMPS : Fld := { off := 0, lo := 0, len := 32 }

/-- GAL_CHK_CTRL, 04 R114. -/
def GAL_CHK_CTRL (h : Half) (n : Nat) : Nat := h.base + 0xA00010 + n * 0x100

@[reducible] def GAL_CHK_CTRL.EN : Fld := { off := 0, lo := 0, len := 1 }

@[reducible] def GAL_CHK_CTRL.MISS_ACTION : Fld := { off := 0, lo := 1, len := 1 }

@[reducible] def GAL_CHK_CTRL.MARGIN : Fld := { off := 0, lo := 16, len := 16 }

/-- GAL_CHK_EVENT, 04 R114. -/
def GAL_CHK_EVENT (h : Half) (n : Nat) : Nat := h.base + 0xA00014 + n * 0x100

@[reducible] def GAL_CHK_EVENT.MISS : Fld := { off := 0, lo := 0, len := 1 }

@[reducible] def GAL_CHK_EVENT.EXCLUDED : Fld := { off := 0, lo := 1, len := 1 }

/-- GAL_CHK_TESTS, 04 R114. -/
def GAL_CHK_TESTS (h : Half) (n : Nat) : Nat := h.base + 0xA00018 + n * 0x100

@[reducible] def GAL_CHK_TESTS.TESTS : Fld := { off := 0, lo := 0, len := 32 }

/-- GAL_CHK_MISSES, 04 R114. -/
def GAL_CHK_MISSES (h : Half) (n : Nat) : Nat := h.base + 0xA0001C + n * 0x100

@[reducible] def GAL_CHK_MISSES.MISSES : Fld := { off := 0, lo := 0, len := 32 }

/-- GAL_CHK_LAST, 04 R114. -/
def GAL_CHK_LAST (h : Half) (n : Nat) : Nat := h.base + 0xA00020 + n * 0x100

@[reducible] def GAL_CHK_LAST.GROUP : Fld := { off := 0, lo := 0, len := 5 }

@[reducible] def GAL_CHK_LAST.OUT_GROUP : Fld := { off := 0, lo := 5, len := 4 }

@[reducible] def GAL_CHK_LAST.PLANE : Fld := { off := 0, lo := 9, len := 4 }

/-- GAL_CHK_LAST_DELTA, 04 R114. -/
def GAL_CHK_LAST_DELTA (h : Half) (n : Nat) : Nat := h.base + 0xA00024 + n * 0x100

@[reducible] def GAL_CHK_LAST_DELTA.DELTA : Fld := { off := 0, lo := 0, len := 32 }

/-- GAL_CHK_LAST_TOL, 04 R114. -/
def GAL_CHK_LAST_TOL (h : Half) (n : Nat) : Nat := h.base + 0xA00028 + n * 0x100

@[reducible] def GAL_CHK_LAST_TOL.TOL : Fld := { off := 0, lo := 0, len := 32 }

/-- NV_REFRESH_CTRL, 04 R114. -/
def NV_REFRESH_CTRL (h : Half) : Nat := h.base + 0xC01000

@[reducible] def NV_REFRESH_CTRL.EN : Fld := { off := 0, lo := 0, len := 1 }

@[reducible] def NV_REFRESH_CTRL.CATCHUP : Fld := { off := 0, lo := 1, len := 1 }

@[reducible] def NV_REFRESH_CTRL.BG_PARALLEL : Fld := { off := 0, lo := 8, len := 8 }

@[reducible] def NV_REFRESH_CTRL.CU_PARALLEL : Fld := { off := 0, lo := 16, len := 8 }

/-- NV_REFRESH_INTERVAL, 04 R114. -/
def NV_REFRESH_INTERVAL (h : Half) : Nat := h.base + 0xC01004

@[reducible] def NV_REFRESH_INTERVAL.MINUTES : Fld := { off := 0, lo := 0, len := 16 }

/-- NV_WALL_MINUTES, 04 R114. -/
def NV_WALL_MINUTES (h : Half) : Nat := h.base + 0xC01008

@[reducible] def NV_WALL_MINUTES.MINUTES : Fld := { off := 0, lo := 0, len := 32 }

/-- NV_REFRESH_STATUS, 04 R114. -/
def NV_REFRESH_STATUS (h : Half) : Nat := h.base + 0xC0100C

@[reducible] def NV_REFRESH_STATUS.DUE : Fld := { off := 0, lo := 0, len := 16 }

@[reducible] def NV_REFRESH_STATUS.HIGH_GUARD : Fld := { off := 0, lo := 16, len := 16 }

/-- NV_CHK_POLICY, 04 R114. -/
def NV_CHK_POLICY (h : Half) : Nat := h.base + 0xC01010

@[reducible] def NV_CHK_POLICY.CHK_THRESH : Fld := { off := 0, lo := 0, len := 4 }

@[reducible] def NV_CHK_POLICY.WATCH : Fld := { off := 0, lo := 16, len := 16 }

/-- NV_STUCK_LOC, 04 R114. -/
def NV_STUCK_LOC (h : Half) (n : Nat) : Nat := h.base + 0xC40000 + n * 0x8

@[reducible] def NV_STUCK_LOC.PLANE : Fld := { off := 0, lo := 0, len := 16 }

@[reducible] def NV_STUCK_LOC.ROW : Fld := { off := 0, lo := 16, len := 10 }

/-- NV_STUCK_INFO, 04 R114. -/
def NV_STUCK_INFO (h : Half) (n : Nat) : Nat := h.base + 0xC40004 + n * 0x8

@[reducible] def NV_STUCK_INFO.COL : Fld := { off := 0, lo := 0, len := 10 }

@[reducible] def NV_STUCK_INFO.CELL : Fld := { off := 0, lo := 10, len := 1 }

@[reducible] def NV_STUCK_INFO.KIND : Fld := { off := 0, lo := 11, len := 1 }

@[reducible] def NV_STUCK_INFO.LEVEL : Fld := { off := 0, lo := 12, len := 3 }

@[reducible] def NV_STUCK_INFO.W_INT : Fld := { off := 0, lo := 16, len := 4 }

@[reducible] def NV_STUCK_INFO.W_ACT : Fld := { off := 0, lo := 20, len := 4 }

@[reducible] def NV_STUCK_INFO.STATE : Fld := { off := 0, lo := 24, len := 2 }

/-- NV_PLANE_HEALTH, 04 R114. -/
def NV_PLANE_HEALTH (h : Half) (n : Nat) : Nat := h.base + 0xC80000 + n * 0x10

@[reducible] def NV_PLANE_HEALTH.NSTATE : Fld := { off := 0, lo := 0, len := 2 }

@[reducible] def NV_PLANE_HEALTH.STATE : Fld := { off := 0, lo := 2, len := 3 }

@[reducible] def NV_PLANE_HEALTH.INCOMPLETE : Fld := { off := 0, lo := 5, len := 1 }

@[reducible] def NV_PLANE_HEALTH.MISS_COUNT : Fld := { off := 0, lo := 8, len := 8 }

@[reducible] def NV_PLANE_HEALTH.PE_CYCLES : Fld := { off := 0, lo := 16, len := 14 }

/-- NV_PLANE_SUSPECT, 04 R114. -/
def NV_PLANE_SUSPECT (h : Half) (n : Nat) : Nat := h.base + 0xC80004 + n * 0x10

@[reducible] def NV_PLANE_SUSPECT.GROUPS : Fld := { off := 0, lo := 0, len := 32 }

/-- NV_PLANE_AGE, 04 R114. -/
def NV_PLANE_AGE (h : Half) (n : Nat) : Nat := h.base + 0xC80008 + n * 0x10

@[reducible] def NV_PLANE_AGE.MINUTES : Fld := { off := 0, lo := 0, len := 32 }

/-- NV_CMD_STATUS, 05 R155. -/
def NV_CMD_STATUS (h : Half) : Nat := h.base + 0xC00000

@[reducible] def NV_CMD_STATUS.PORT_STATE : Fld := { off := 0, lo := 0, len := 3 }

@[reducible] def NV_CMD_STATUS.DONE : Fld := { off := 0, lo := 3, len := 1 }

@[reducible] def NV_CMD_STATUS.SEQ_ERR : Fld := { off := 0, lo := 4, len := 1 }

@[reducible] def NV_CMD_STATUS.CMD : Fld := { off := 0, lo := 8, len := 8 }

@[reducible] def NV_CMD_STATUS.RESULT : Fld := { off := 0, lo := 16, len := 8 }

/-- NV_CMD_TAG, 05 R155. -/
def NV_CMD_TAG (h : Half) : Nat := h.base + 0xC00004

@[reducible] def NV_CMD_TAG.TAG : Fld := { off := 0, lo := 0, len := 32 }

/-- NV_CMD_PROGRESS, 05 R155. -/
def NV_CMD_PROGRESS (h : Half) : Nat := h.base + 0xC00008

@[reducible] def NV_CMD_PROGRESS.DONE_UNITS : Fld := { off := 0, lo := 0, len := 16 }

@[reducible] def NV_CMD_PROGRESS.TOTAL_UNITS : Fld := { off := 0, lo := 16, len := 16 }

/-- NV_CMD_CTRL, 05 R155. -/
def NV_CMD_CTRL (h : Half) : Nat := h.base + 0xC0000C

@[reducible] def NV_CMD_CTRL.IRQ_EN : Fld := { off := 0, lo := 0, len := 1 }

/-- NV_PUMP_STATUS, 05 R155. -/
def NV_PUMP_STATUS (h : Half) : Nat := h.base + 0xC00010

@[reducible] def NV_PUMP_STATUS.PULSING : Fld := { off := 0, lo := 0, len := 10 }

@[reducible] def NV_PUMP_STATUS.IN_PROGRAM : Fld := { off := 0, lo := 16, len := 12 }

/-- NV_LDR_STATUS, 05 R155. -/
def NV_LDR_STATUS (h : Half) : Nat := h.base + 0xC00020

@[reducible] def NV_LDR_STATUS.PORT_STATE : Fld := { off := 0, lo := 0, len := 3 }

@[reducible] def NV_LDR_STATUS.DONE : Fld := { off := 0, lo := 3, len := 1 }

@[reducible] def NV_LDR_STATUS.SEQ_ERR : Fld := { off := 0, lo := 4, len := 1 }

@[reducible] def NV_LDR_STATUS.CMD : Fld := { off := 0, lo := 8, len := 8 }

@[reducible] def NV_LDR_STATUS.RESULT : Fld := { off := 0, lo := 16, len := 8 }

/-- NV_BROWNOUT, 05 R155. -/
def NV_BROWNOUT (h : Half) : Nat := h.base + 0xC00100

@[reducible] def NV_BROWNOUT.TRIPS : Fld := { off := 0, lo := 0, len := 16 }

@[reducible] def NV_BROWNOUT.ACTIVE : Fld := { off := 0, lo := 16, len := 1 }

/-- NV_LEDGER_STATUS, 05 R155. -/
def NV_LEDGER_STATUS (h : Half) : Nat := h.base + 0xC00200

@[reducible] def NV_LEDGER_STATUS.FREE : Fld := { off := 0, lo := 0, len := 12 }

@[reducible] def NV_LEDGER_STATUS.BANK : Fld := { off := 0, lo := 12, len := 1 }

@[reducible] def NV_LEDGER_STATUS.COMPACTING : Fld := { off := 0, lo := 13, len := 1 }

@[reducible] def NV_LEDGER_STATUS.INCOMPLETE_COUNT : Fld := { off := 0, lo := 16, len := 16 }

/-- NV_INCOMPLETE, 05 R155. -/
def NV_INCOMPLETE (h : Half) (n : Nat) : Nat := h.base + 0xC00210 + n * 0x4

@[reducible] def NV_INCOMPLETE.PLANE : Fld := { off := 0, lo := 0, len := 16 }

@[reducible] def NV_INCOMPLETE.VALID : Fld := { off := 0, lo := 16, len := 1 }

/-- NV_PROT_STATE, 05 R155. -/
def NV_PROT_STATE (h : Half) (n : Nat) : Nat := h.base + 0xC00400 + n * 0x4

@[reducible] def NV_PROT_STATE.MODE : Fld := { off := 0, lo := 0, len := 2 }

@[reducible] def NV_PROT_STATE.FAIL_COUNT : Fld := { off := 0, lo := 4, len := 4 }

/-- JCT_WSET_CTRL, 06 R177. -/
def JCT_WSET_CTRL (h : Half) (n : Nat) : Nat := h.base + 0x380000 + n * 0x40

@[reducible] def JCT_WSET_CTRL.CONTEXT : Fld := { off := 0, lo := 0, len := 8 }

@[reducible] def JCT_WSET_CTRL.VALID : Fld := { off := 0, lo := 8, len := 1 }

@[reducible] def JCT_WSET_CTRL.ROUTE : Fld := { off := 0, lo := 9, len := 1 }

@[reducible] def JCT_WSET_CTRL.CUR_SLOT : Fld := { off := 0, lo := 10, len := 1 }

@[reducible] def JCT_WSET_CTRL.HAS_CURRENT : Fld := { off := 0, lo := 11, len := 1 }

/-- JCT_WSET_FOOT, 06 R177. -/
def JCT_WSET_FOOT (h : Half) (n : Nat) : Nat := h.base + 0x380004 + n * 0x40

@[reducible] def JCT_WSET_FOOT.FIRST : Fld := { off := 0, lo := 0, len := 9 }

@[reducible] def JCT_WSET_FOOT.COUNT : Fld := { off := 0, lo := 16, len := 10 }

/-- JCT_WSET_CMD, 06 R177. -/
def JCT_WSET_CMD (h : Half) (n : Nat) : Nat := h.base + 0x380008 + n * 0x40

@[reducible] def JCT_WSET_CMD.OP : Fld := { off := 0, lo := 0, len := 4 }

@[reducible] def JCT_WSET_CMD.SLOT : Fld := { off := 0, lo := 4, len := 1 }

@[reducible] def JCT_WSET_CMD.CONTEXT : Fld := { off := 0, lo := 8, len := 8 }

@[reducible] def JCT_WSET_CMD.VERSION : Fld := { off := 0, lo := 16, len := 16 }

/-- JCT_WSET_RESULT, 06 R177. -/
def JCT_WSET_RESULT (h : Half) (n : Nat) : Nat := h.base + 0x38000C + n * 0x40

@[reducible] def JCT_WSET_RESULT.OP : Fld := { off := 0, lo := 0, len := 4 }

@[reducible] def JCT_WSET_RESULT.SLOT : Fld := { off := 0, lo := 4, len := 1 }

@[reducible] def JCT_WSET_RESULT.DONE : Fld := { off := 0, lo := 5, len := 1 }

@[reducible] def JCT_WSET_RESULT.CODE : Fld := { off := 0, lo := 8, len := 8 }

@[reducible] def JCT_WSET_RESULT.RELEASED : Fld := { off := 0, lo := 16, len := 2 }

/-- JCT_WSET_SLOT, 06 R177. -/
def JCT_WSET_SLOT (h : Half) (n : Nat) : Nat := h.base + 0x380010 + n * 0x20

@[reducible] def JCT_WSET_SLOT.STATE : Fld := { off := 0, lo := 0, len := 3 }

@[reducible] def JCT_WSET_SLOT.VERSION : Fld := { off := 0, lo := 16, len := 16 }

/-- JCT_WSET_MAP_LO, 06 R177. -/
def JCT_WSET_MAP_LO (h : Half) (n : Nat) : Nat := h.base + 0x380014 + n * 0x20

@[reducible] def JCT_WSET_MAP_LO.P_LO : Fld := { off := 0, lo := 0, len := 32 }

/-- JCT_WSET_MAP_HI, 06 R177. -/
def JCT_WSET_MAP_HI (h : Half) (n : Nat) : Nat := h.base + 0x380018 + n * 0x20

@[reducible] def JCT_WSET_MAP_HI.P_HI : Fld := { off := 0, lo := 0, len := 32 }

/-- JCT_WSET_LIVE, 06 R177. -/
def JCT_WSET_LIVE (h : Half) (n : Nat) : Nat := h.base + 0x38001C + n * 0x20

@[reducible] def JCT_WSET_LIVE.LVALID : Fld := { off := 0, lo := 0, len := 16 }

@[reducible] def JCT_WSET_LIVE.IN_FLIGHT : Fld := { off := 0, lo := 16, len := 16 }

/-- JCT_WSET_SWITCH_LIST, 06 R177. -/
def JCT_WSET_SWITCH_LIST (n : Nat) : Nat := 0x388000 + n * 0x4

@[reducible] def JCT_WSET_SWITCH_LIST.SET : Fld := { off := 0, lo := 0, len := 9 }

@[reducible] def JCT_WSET_SWITCH_LIST.HALF : Fld := { off := 0, lo := 9, len := 1 }

@[reducible] def JCT_WSET_SWITCH_LIST.SLOT : Fld := { off := 0, lo := 10, len := 1 }

@[reducible] def JCT_WSET_SWITCH_LIST.VALID : Fld := { off := 0, lo := 15, len := 1 }

/-- JCT_WSET_SWITCH, 06 R177. -/
def JCT_WSET_SWITCH : Nat := 0x388020

@[reducible] def JCT_WSET_SWITCH.CONTEXT : Fld := { off := 0, lo := 0, len := 8 }

@[reducible] def JCT_WSET_SWITCH.GO : Fld := { off := 0, lo := 8, len := 1 }

@[reducible] def JCT_WSET_SWITCH.CODE : Fld := { off := 0, lo := 16, len := 8 }

/-- NV_LDR_RING_LO, 06 R177. -/
def NV_LDR_RING_LO (h : Half) : Nat := h.base + 0xC02000

@[reducible] def NV_LDR_RING_LO.BASE_LO : Fld := { off := 0, lo := 6, len := 26 }

/-- NV_LDR_RING_HI, 06 R177. -/
def NV_LDR_RING_HI (h : Half) : Nat := h.base + 0xC02004

@[reducible] def NV_LDR_RING_HI.BASE_HI : Fld := { off := 0, lo := 0, len := 32 }

/-- NV_LDR_RING_CTRL, 06 R177. -/
def NV_LDR_RING_CTRL (h : Half) : Nat := h.base + 0xC02008

@[reducible] def NV_LDR_RING_CTRL.EN : Fld := { off := 0, lo := 0, len := 1 }

@[reducible] def NV_LDR_RING_CTRL.WHERE : Fld := { off := 0, lo := 1, len := 1 }

@[reducible] def NV_LDR_RING_CTRL.ABORT : Fld := { off := 0, lo := 2, len := 1 }

@[reducible] def NV_LDR_RING_CTRL.IRQ_EN : Fld := { off := 0, lo := 3, len := 1 }

@[reducible] def NV_LDR_RING_CTRL.SIZE : Fld := { off := 0, lo := 4, len := 4 }

@[reducible] def NV_LDR_RING_CTRL.PASID : Fld := { off := 0, lo := 8, len := 20 }

/-- NV_LDR_TAIL, 06 R177. -/
def NV_LDR_TAIL (h : Half) : Nat := h.base + 0xC0200C

@[reducible] def NV_LDR_TAIL.TAIL : Fld := { off := 0, lo := 0, len := 10 }

/-- NV_LDR_HEAD, 06 R177. -/
def NV_LDR_HEAD (h : Half) : Nat := h.base + 0xC02010

@[reducible] def NV_LDR_HEAD.HEAD : Fld := { off := 0, lo := 0, len := 10 }

@[reducible] def NV_LDR_HEAD.BUSY : Fld := { off := 0, lo := 16, len := 1 }

/-- PLZ_STATUS, 07 R205. -/
def PLZ_STATUS (h : Half) : Nat := h.base + 0x800000

@[reducible] def PLZ_STATUS.BUSY : Fld := { off := 0, lo := 0, len := 1 }

@[reducible] def PLZ_STATUS.KIND : Fld := { off := 0, lo := 1, len := 3 }

@[reducible] def PLZ_STATUS.QUADS : Fld := { off := 0, lo := 4, len := 2 }

@[reducible] def PLZ_STATUS.WAIT_SLOT : Fld := { off := 0, lo := 6, len := 1 }

@[reducible] def PLZ_STATUS.FALLBACK : Fld := { off := 0, lo := 7, len := 1 }

/-- PLZ_EVENT, 07 R205. -/
def PLZ_EVENT (h : Half) : Nat := h.base + 0x800004

@[reducible] def PLZ_EVENT.FP_RANGE : Fld := { off := 0, lo := 0, len := 1 }

@[reducible] def PLZ_EVENT.NAN_OUT : Fld := { off := 0, lo := 1, len := 1 }

@[reducible] def PLZ_EVENT.INT_SAT : Fld := { off := 0, lo := 2, len := 1 }

@[reducible] def PLZ_EVENT.FALLBACK : Fld := { off := 0, lo := 3, len := 1 }

@[reducible] def PLZ_EVENT.GATHER_RANGE : Fld := { off := 0, lo := 4, len := 1 }

@[reducible] def PLZ_EVENT.EMPTY_ROW : Fld := { off := 0, lo := 5, len := 1 }

/-- PLZ_OP_COUNT, 07 R205. -/
def PLZ_OP_COUNT (h : Half) : Nat := h.base + 0x800008

@[reducible] def PLZ_OP_COUNT.OPS : Fld := { off := 0, lo := 0, len := 32 }

/-- PLZ_BUSY_CYCLES, 07 R205. -/
def PLZ_BUSY_CYCLES (h : Half) : Nat := h.base + 0x80000C

@[reducible] def PLZ_BUSY_CYCLES.CYCLES : Fld := { off := 0, lo := 0, len := 32 }

/-- PLZ_WAIT_CYCLES, 07 R205. -/
def PLZ_WAIT_CYCLES (h : Half) : Nat := h.base + 0x800010

@[reducible] def PLZ_WAIT_CYCLES.CYCLES : Fld := { off := 0, lo := 0, len := 32 }

/-- PLZ_FALLBACK_COUNT, 07 R205. -/
def PLZ_FALLBACK_COUNT (h : Half) : Nat := h.base + 0x800014

@[reducible] def PLZ_FALLBACK_COUNT.FALLBACKS : Fld := { off := 0, lo := 0, len := 32 }

/-- SDS_STATUS, 07 R205. -/
def SDS_STATUS (h : Half) : Nat := h.base + 0x900000

@[reducible] def SDS_STATUS.INTERIM : Fld := { off := 0, lo := 0, len := 11 }

@[reducible] def SDS_STATUS.BUSY : Fld := { off := 0, lo := 11, len := 1 }

/-- SDS_EVENT, 07 R205. -/
def SDS_EVENT (h : Half) : Nat := h.base + 0x900004

@[reducible] def SDS_EVENT.SKIPPED : Fld := { off := 0, lo := 0, len := 1 }

@[reducible] def SDS_EVENT.STAGE_ERROR : Fld := { off := 0, lo := 1, len := 1 }

@[reducible] def SDS_EVENT.REGION_REFUSED : Fld := { off := 0, lo := 2, len := 1 }

@[reducible] def SDS_EVENT.OUTLIER_UNMASKED : Fld := { off := 0, lo := 3, len := 1 }

/-- SDS_SKIP_COUNT, 07 R205. -/
def SDS_SKIP_COUNT (h : Half) : Nat := h.base + 0x900008

@[reducible] def SDS_SKIP_COUNT.WAVES : Fld := { off := 0, lo := 0, len := 32 }

/-- SDS_TIER_WAIT, 07 R205. -/
def SDS_TIER_WAIT (h : Half) : Nat := h.base + 0x90000C

@[reducible] def SDS_TIER_WAIT.CYCLES : Fld := { off := 0, lo := 0, len := 32 }

/-- SDS_MERGE_WAIT, 07 R205. -/
def SDS_MERGE_WAIT (h : Half) : Nat := h.base + 0x900010

@[reducible] def SDS_MERGE_WAIT.CYCLES : Fld := { off := 0, lo := 0, len := 32 }

/-- SDS_SET_CTRL, 07 R205. -/
def SDS_SET_CTRL (h : Half) (n : Nat) : Nat := h.base + 0x901000 + n * 0x10

@[reducible] def SDS_SET_CTRL.CONTEXT : Fld := { off := 0, lo := 0, len := 8 }

@[reducible] def SDS_SET_CTRL.VALID : Fld := { off := 0, lo := 8, len := 1 }

@[reducible] def SDS_SET_CTRL.STATE : Fld := { off := 0, lo := 9, len := 2 }

@[reducible] def SDS_SET_CTRL.STAGE_WAITING : Fld := { off := 0, lo := 11, len := 1 }

@[reducible] def SDS_SET_CTRL.USERS : Fld := { off := 0, lo := 16, len := 12 }

/-- SDS_SET_REGION, 07 R205. -/
def SDS_SET_REGION (h : Half) (n : Nat) : Nat := h.base + 0x901004 + n * 0x10

@[reducible] def SDS_SET_REGION.BASE : Fld := { off := 0, lo := 0, len := 16 }

@[reducible] def SDS_SET_REGION.SIZE : Fld := { off := 0, lo := 16, len := 16 }

/-- SDS_CTX_QUOTA, 07 R205. -/
def SDS_CTX_QUOTA (h : Half) (n : Nat) : Nat := h.base + 0x902000 + n * 0x4

@[reducible] def SDS_CTX_QUOTA.LIMIT : Fld := { off := 0, lo := 0, len := 16 }

@[reducible] def SDS_CTX_QUOTA.USED : Fld := { off := 0, lo := 16, len := 16 }

/-- MEM_CMD, 08 R242. -/
def MEM_CMD (h : Half) (n : Nat) : Nat := h.base + 0x400000 + n * 0x4

@[reducible] def MEM_CMD.WORD : Fld := { off := 0, lo := 0, len := 32 }

/-- MEM_CMD_CTRL, 08 R242. -/
def MEM_CMD_CTRL (h : Half) : Nat := h.base + 0x400020

@[reducible] def MEM_CMD_CTRL.GO : Fld := { off := 0, lo := 0, len := 1 }

@[reducible] def MEM_CMD_CTRL.BUSY : Fld := { off := 0, lo := 1, len := 1 }

@[reducible] def MEM_CMD_CTRL.DONE : Fld := { off := 0, lo := 2, len := 1 }

@[reducible] def MEM_CMD_CTRL.RESULT : Fld := { off := 0, lo := 8, len := 8 }

/-- MEM_POOL_CTRL, 08 R242. -/
def MEM_POOL_CTRL (h : Half) : Nat := h.base + 0x400100

@[reducible] def MEM_POOL_CTRL.BASE : Fld := { off := 0, lo := 0, len := 16 }

@[reducible] def MEM_POOL_CTRL.SIZE : Fld := { off := 0, lo := 16, len := 16 }

/-- MEM_POOL_STATUS, 08 R242. -/
def MEM_POOL_STATUS (h : Half) : Nat := h.base + 0x400104

@[reducible] def MEM_POOL_STATUS.USED : Fld := { off := 0, lo := 0, len := 16 }

@[reducible] def MEM_POOL_STATUS.WAITERS : Fld := { off := 0, lo := 16, len := 16 }

/-- MEM_HOME, 08 R242. -/
def MEM_HOME (h : Half) (n : Nat) : Nat := h.base + 0x500000 + n * 0x20

@[reducible] def MEM_HOME.VERSION : Fld := { off := 0, lo := 0, len := 4 }

@[reducible] def MEM_HOME.STATE : Fld := { off := 0, lo := 4, len := 2 }

@[reducible] def MEM_HOME.TIER : Fld := { off := 0, lo := 6, len := 2 }

@[reducible] def MEM_HOME.CONTEXT : Fld := { off := 0, lo := 8, len := 8 }

@[reducible] def MEM_HOME.GEN : Fld := { off := 0, lo := 16, len := 14 }

@[reducible] def MEM_HOME.SWEEP : Fld := { off := 0, lo := 30, len := 1 }

@[reducible] def MEM_HOME.EVICT_FAIL : Fld := { off := 0, lo := 31, len := 1 }

@[reducible] def MEM_HOME.FLAGS : Fld := { off := 4, lo := 0, len := 8 }

@[reducible] def MEM_HOME.USE_W : Fld := { off := 4, lo := 8, len := 8 }

@[reducible] def MEM_HOME.USE_R : Fld := { off := 4, lo := 16, len := 16 }

@[reducible] def MEM_HOME.BASE : Fld := { off := 16, lo := 0, len := 20 }

@[reducible] def MEM_HOME.DEST : Fld := { off := 20, lo := 0, len := 20 }

@[reducible] def MEM_HOME.DEST_TIER : Fld := { off := 20, lo := 31, len := 1 }

@[reducible] def MEM_HOME.LAST_USE : Fld := { off := 24, lo := 0, len := 32 }

@[reducible] def MEM_HOME.BACKING : Fld := { off := 28, lo := 0, len := 20 }

@[reducible] def MEM_HOME.SIZE_LO : Fld := { off := 8, lo := 0, len := 32 }

@[reducible] def MEM_HOME.SIZE_HI : Fld := { off := 12, lo := 0, len := 4 }

/-- MEM_CTX_T0, 08 R242. -/
def MEM_CTX_T0 (h : Half) (n : Nat) : Nat := h.base + 0x401000 + n * 0x20

@[reducible] def MEM_CTX_T0.LIMIT : Fld := { off := 0, lo := 0, len := 16 }

@[reducible] def MEM_CTX_T0.USED : Fld := { off := 0, lo := 16, len := 16 }

/-- MEM_CTX_T1, 08 R242. -/
def MEM_CTX_T1 (h : Half) (n : Nat) : Nat := h.base + 0x401004 + n * 0x20

@[reducible] def MEM_CTX_T1.LIMIT : Fld := { off := 0, lo := 0, len := 16 }

@[reducible] def MEM_CTX_T1.USED : Fld := { off := 0, lo := 16, len := 16 }

/-- MEM_CTX_T2_LIMIT, 08 R242. -/
def MEM_CTX_T2_LIMIT (h : Half) (n : Nat) : Nat := h.base + 0x401008 + n * 0x20

@[reducible] def MEM_CTX_T2_LIMIT.LIMIT : Fld := { off := 0, lo := 0, len := 20 }

/-- MEM_CTX_T2_USED, 08 R242. -/
def MEM_CTX_T2_USED (h : Half) (n : Nat) : Nat := h.base + 0x40100C + n * 0x20

@[reducible] def MEM_CTX_T2_USED.USED : Fld := { off := 0, lo := 0, len := 20 }

/-- MEM_CTX_POOL, 08 R242. -/
def MEM_CTX_POOL (h : Half) (n : Nat) : Nat := h.base + 0x401010 + n * 0x20

@[reducible] def MEM_CTX_POOL.LIMIT : Fld := { off := 0, lo := 0, len := 16 }

@[reducible] def MEM_CTX_POOL.USED : Fld := { off := 0, lo := 16, len := 16 }

/-- MEM_EVENT, 08 R242. -/
def MEM_EVENT (h : Half) : Nat := h.base + 0x400120

@[reducible] def MEM_EVENT.ALLOC_TIMEOUT : Fld := { off := 0, lo := 0, len := 1 }

@[reducible] def MEM_EVENT.PARITY_UE : Fld := { off := 0, lo := 1, len := 1 }

@[reducible] def MEM_EVENT.SECDED_CE : Fld := { off := 0, lo := 2, len := 1 }

@[reducible] def MEM_EVENT.SECDED_UE : Fld := { off := 0, lo := 3, len := 1 }

@[reducible] def MEM_EVENT.SUBWORD_DISCARD : Fld := { off := 0, lo := 4, len := 1 }

@[reducible] def MEM_EVENT.EVICT_FAIL : Fld := { off := 0, lo := 5, len := 1 }

@[reducible] def MEM_EVENT.ACCESS_REFUSED : Fld := { off := 0, lo := 6, len := 1 }

/-- MEM_PARITY_REPLAY, 08 R242. -/
def MEM_PARITY_REPLAY (h : Half) : Nat := h.base + 0x400130

@[reducible] def MEM_PARITY_REPLAY.REPLAYS : Fld := { off := 0, lo := 0, len := 32 }

/-- MEM_PARITY_UE, 08 R242. -/
def MEM_PARITY_UE (h : Half) : Nat := h.base + 0x400134

@[reducible] def MEM_PARITY_UE.WORDS : Fld := { off := 0, lo := 0, len := 32 }

/-- MEM_SECDED_CE, 08 R242. -/
def MEM_SECDED_CE (h : Half) : Nat := h.base + 0x400138

@[reducible] def MEM_SECDED_CE.WORDS : Fld := { off := 0, lo := 0, len := 32 }

/-- MEM_SECDED_UE, 08 R242. -/
def MEM_SECDED_UE (h : Half) : Nat := h.base + 0x40013C

@[reducible] def MEM_SECDED_UE.WORDS : Fld := { off := 0, lo := 0, len := 32 }

/-- MEM_ALLOC_WAIT, 08 R242. -/
def MEM_ALLOC_WAIT (h : Half) : Nat := h.base + 0x400140

@[reducible] def MEM_ALLOC_WAIT.US : Fld := { off := 0, lo := 0, len := 32 }

/-- MEM_BIND_WAIT, 08 R242. -/
def MEM_BIND_WAIT (h : Half) : Nat := h.base + 0x400144

@[reducible] def MEM_BIND_WAIT.US : Fld := { off := 0, lo := 0, len := 32 }

/-- MEM_EVICT_COUNT, 08 R242. -/
def MEM_EVICT_COUNT (h : Half) : Nat := h.base + 0x400148

@[reducible] def MEM_EVICT_COUNT.OBJECTS : Fld := { off := 0, lo := 0, len := 32 }

/-- MEM_MOVE_COUNT, 08 R242. -/
def MEM_MOVE_COUNT (h : Half) : Nat := h.base + 0x40014C

@[reducible] def MEM_MOVE_COUNT.OBJECTS : Fld := { off := 0, lo := 0, len := 32 }

/-- MEM_SELFTEST, 08 R242. -/
def MEM_SELFTEST (h : Half) : Nat := h.base + 0x400150

@[reducible] def MEM_SELFTEST.BANK_FAIL : Fld := { off := 0, lo := 0, len := 16 }

@[reducible] def MEM_SELFTEST.LANES_FAIL : Fld := { off := 0, lo := 16, len := 4 }

@[reducible] def MEM_SELFTEST.STACK_FAIL : Fld := { off := 0, lo := 20, len := 2 }

@[reducible] def MEM_SELFTEST.DONE : Fld := { off := 0, lo := 31, len := 1 }

/-- SWP_CTRL, 08 R242. -/
def SWP_CTRL (h : Half) : Nat := h.base + 0x404000

@[reducible] def SWP_CTRL.EN_T1 : Fld := { off := 0, lo := 0, len := 1 }

@[reducible] def SWP_CTRL.EN_T2 : Fld := { off := 0, lo := 1, len := 1 }

/-- SWP_RATE, 08 R242. -/
def SWP_RATE (h : Half) : Nat := h.base + 0x404004

@[reducible] def SWP_RATE.T1_MIBS : Fld := { off := 0, lo := 0, len := 16 }

@[reducible] def SWP_RATE.T2_MIBS : Fld := { off := 0, lo := 16, len := 16 }

/-- SWP_STATUS, 08 R242. -/
def SWP_STATUS (h : Half) : Nat := h.base + 0x404008

@[reducible] def SWP_STATUS.TIER : Fld := { off := 0, lo := 0, len := 1 }

@[reducible] def SWP_STATUS.BEHIND : Fld := { off := 0, lo := 1, len := 1 }

/-- SWP_POS, 08 R242. -/
def SWP_POS (h : Half) : Nat := h.base + 0x40400C

@[reducible] def SWP_POS.BURST : Fld := { off := 0, lo := 0, len := 32 }

/-- SWP_PASSES, 08 R242. -/
def SWP_PASSES (h : Half) : Nat := h.base + 0x404010

@[reducible] def SWP_PASSES.PASSES : Fld := { off := 0, lo := 0, len := 32 }

/-- SWP_CE, 08 R242. -/
def SWP_CE (h : Half) : Nat := h.base + 0x404014

@[reducible] def SWP_CE.WORDS : Fld := { off := 0, lo := 0, len := 32 }

/-- SWP_UE, 08 R242. -/
def SWP_UE (h : Half) : Nat := h.base + 0x404018

@[reducible] def SWP_UE.WORDS : Fld := { off := 0, lo := 0, len := 32 }

/-- STR_CTRL, 09 R270. -/
def STR_CTRL (h : Half) (n : Nat) : Nat := h.base + 0x600000 + n * 0x40

@[reducible] def STR_CTRL.ABORT : Fld := { off := 0, lo := 0, len := 1 }

@[reducible] def STR_CTRL.IRQ_EN : Fld := { off := 0, lo := 1, len := 1 }

/-- STR_STATUS, 09 R270. -/
def STR_STATUS (h : Half) (n : Nat) : Nat := h.base + 0x600004 + n * 0x40

@[reducible] def STR_STATUS.STATE : Fld := { off := 0, lo := 0, len := 3 }

@[reducible] def STR_STATUS.SHADOW_FULL : Fld := { off := 0, lo := 3, len := 1 }

@[reducible] def STR_STATUS.ORIGIN : Fld := { off := 0, lo := 4, len := 1 }

@[reducible] def STR_STATUS.CAUSE : Fld := { off := 0, lo := 5, len := 3 }

@[reducible] def STR_STATUS.RING : Fld := { off := 0, lo := 8, len := 6 }

@[reducible] def STR_STATUS.ATTACHED : Fld := { off := 0, lo := 14, len := 1 }

@[reducible] def STR_STATUS.ROLE : Fld := { off := 0, lo := 15, len := 1 }

/-- STR_ARM_LO, 09 R270. -/
def STR_ARM_LO (h : Half) (n : Nat) : Nat := h.base + 0x600008 + n * 0x40

@[reducible] def STR_ARM_LO.HANDLE : Fld := { off := 0, lo := 0, len := 32 }

/-- STR_ARM_HI, 09 R270. -/
def STR_ARM_HI (h : Half) (n : Nat) : Nat := h.base + 0x60000C + n * 0x40

@[reducible] def STR_ARM_HI.OFFSET : Fld := { off := 0, lo := 0, len := 32 }

/-- STR_ARM_CTRL, 09 R270. -/
def STR_ARM_CTRL (h : Half) (n : Nat) : Nat := h.base + 0x600010 + n * 0x40

@[reducible] def STR_ARM_CTRL.CONTEXT : Fld := { off := 0, lo := 0, len := 8 }

@[reducible] def STR_ARM_CTRL.GO : Fld := { off := 0, lo := 8, len := 1 }

@[reducible] def STR_ARM_CTRL.RESUME : Fld := { off := 0, lo := 9, len := 1 }

@[reducible] def STR_ARM_CTRL.CODE : Fld := { off := 0, lo := 16, len := 8 }

@[reducible] def STR_ARM_CTRL.DONE : Fld := { off := 0, lo := 24, len := 1 }

/-- STR_FAULT_LO, 09 R270. -/
def STR_FAULT_LO (h : Half) (n : Nat) : Nat := h.base + 0x600014 + n * 0x40

@[reducible] def STR_FAULT_LO.ADDR_LO : Fld := { off := 0, lo := 0, len := 32 }

/-- STR_FAULT_HI, 09 R270. -/
def STR_FAULT_HI (h : Half) (n : Nat) : Nat := h.base + 0x600018 + n * 0x40

@[reducible] def STR_FAULT_HI.ADDR_HI : Fld := { off := 0, lo := 0, len := 32 }

/-- STR_FAULT_INFO, 09 R270. -/
def STR_FAULT_INFO (h : Half) (n : Nat) : Nat := h.base + 0x60001C + n * 0x40

@[reducible] def STR_FAULT_INFO.PASID : Fld := { off := 0, lo := 0, len := 20 }

@[reducible] def STR_FAULT_INFO.WRITE : Fld := { off := 0, lo := 20, len := 1 }

@[reducible] def STR_FAULT_INFO.PENDING : Fld := { off := 0, lo := 21, len := 1 }

/-- STR_BEATS, 09 R270. -/
def STR_BEATS (h : Half) (n : Nat) : Nat := h.base + 0x600020 + n * 0x40

@[reducible] def STR_BEATS.BEATS : Fld := { off := 0, lo := 0, len := 32 }

/-- STR_FAULTS, 09 R270. -/
def STR_FAULTS (h : Half) (n : Nat) : Nat := h.base + 0x600024 + n * 0x40

@[reducible] def STR_FAULTS.FAULTS : Fld := { off := 0, lo := 0, len := 32 }

/-- STR_DRAIN_CYCLES, 09 R270. -/
def STR_DRAIN_CYCLES (h : Half) (n : Nat) : Nat := h.base + 0x600028 + n * 0x40

@[reducible] def STR_DRAIN_CYCLES.CYCLES : Fld := { off := 0, lo := 0, len := 32 }

/-- STR_POS, 09 R270. -/
def STR_POS (h : Half) (n : Nat) : Nat := h.base + 0x610000 + n * 0x4

@[reducible] def STR_POS.INDEX : Fld := { off := 0, lo := 0, len := 24 }

/-- STR_FAULT_CTRL, 09 R270. -/
def STR_FAULT_CTRL (h : Half) : Nat := h.base + 0x620000

@[reducible] def STR_FAULT_CTRL.TIMEOUT_MS : Fld := { off := 0, lo := 0, len := 16 }

/-- STR_EVENT, 09 R270. -/
def STR_EVENT (h : Half) : Nat := h.base + 0x620004

@[reducible] def STR_EVENT.ARM_DONE : Fld := { off := 0, lo := 0, len := 1 }

@[reducible] def STR_EVENT.REARM_REJECTED : Fld := { off := 0, lo := 1, len := 1 }

@[reducible] def STR_EVENT.PAGE_FAULT : Fld := { off := 0, lo := 2, len := 1 }

@[reducible] def STR_EVENT.RING_BROKEN : Fld := { off := 0, lo := 3, len := 1 }

/-- STR_RING_CFG, 09 R270. -/
def STR_RING_CFG (h : Half) (n : Nat) : Nat := h.base + 0x640000 + n * 0x20

@[reducible] def STR_RING_CFG.VALID : Fld := { off := 0, lo := 0, len := 1 }

@[reducible] def STR_RING_CFG.SLOTS : Fld := { off := 0, lo := 4, len := 5 }

@[reducible] def STR_RING_CFG.SLOT_KIB : Fld := { off := 0, lo := 9, len := 9 }

@[reducible] def STR_RING_CFG.CONTEXT : Fld := { off := 0, lo := 24, len := 8 }

/-- STR_RING_BASE, 09 R270. -/
def STR_RING_BASE (h : Half) (n : Nat) : Nat := h.base + 0x640004 + n * 0x20

@[reducible] def STR_RING_BASE.HANDLE : Fld := { off := 0, lo := 0, len := 32 }

/-- STR_RING_OFFSET, 09 R270. -/
def STR_RING_OFFSET (h : Half) (n : Nat) : Nat := h.base + 0x640008 + n * 0x20

@[reducible] def STR_RING_OFFSET.OFFSET : Fld := { off := 0, lo := 0, len := 32 }

/-- STR_RING_STATE, 09 R270. -/
def STR_RING_STATE (h : Half) (n : Nat) : Nat := h.base + 0x64000C + n * 0x20

@[reducible] def STR_RING_STATE.HEAD : Fld := { off := 0, lo := 0, len := 5 }

@[reducible] def STR_RING_STATE.TAIL : Fld := { off := 0, lo := 8, len := 5 }

@[reducible] def STR_RING_STATE.FULL : Fld := { off := 0, lo := 16, len := 5 }

@[reducible] def STR_RING_STATE.PRODUCER : Fld := { off := 0, lo := 21, len := 1 }

@[reducible] def STR_RING_STATE.CONSUMER : Fld := { off := 0, lo := 22, len := 1 }

@[reducible] def STR_RING_STATE.BROKEN : Fld := { off := 0, lo := 23, len := 1 }

/-- STR_RING_FULL_CYCLES, 09 R270. -/
def STR_RING_FULL_CYCLES (h : Half) (n : Nat) : Nat := h.base + 0x640010 + n * 0x20

@[reducible] def STR_RING_FULL_CYCLES.CYCLES : Fld := { off := 0, lo := 0, len := 32 }

/-- STR_RING_ERR, 09 R270. -/
def STR_RING_ERR (h : Half) (n : Nat) : Nat := h.base + 0x640014 + n * 0x20

@[reducible] def STR_RING_ERR.SLOT_ERR : Fld := { off := 0, lo := 0, len := 16 }

/-- STR_STALL, 09 R270. -/
def STR_STALL (h : Half) (n : Nat) : Nat := h.base + 0x660000 + n * 0x4

@[reducible] def STR_STALL.CYCLES : Fld := { off := 0, lo := 0, len := 32 }

/-- JCT_CAPS, 10 R302. -/
def JCT_CAPS (h : Half) : Nat := h.base + 0x200000

@[reducible] def JCT_CAPS.FMT_MASK : Fld := { off := 0, lo := 0, len := 8 }

@[reducible] def JCT_CAPS.NODE_SLOTS : Fld := { off := 0, lo := 8, len := 12 }

/-- JCT_STATUS, 10 R302. -/
def JCT_STATUS (h : Half) : Nat := h.base + 0x200004

@[reducible] def JCT_STATUS.NODES : Fld := { off := 0, lo := 0, len := 12 }

@[reducible] def JCT_STATUS.GRAPHS : Fld := { off := 0, lo := 12, len := 11 }

@[reducible] def JCT_STATUS.RESERVING : Fld := { off := 0, lo := 23, len := 1 }

/-- JCT_EVENT, 10 R302. -/
def JCT_EVENT (h : Half) : Nat := h.base + 0x200008

@[reducible] def JCT_EVENT.REFUSED : Fld := { off := 0, lo := 0, len := 1 }

@[reducible] def JCT_EVENT.ESCALATED : Fld := { off := 0, lo := 1, len := 1 }

@[reducible] def JCT_EVENT.OPEN_NODE : Fld := { off := 0, lo := 2, len := 1 }

@[reducible] def JCT_EVENT.CQ_FULL : Fld := { off := 0, lo := 3, len := 1 }

@[reducible] def JCT_EVENT.DOORBELL_IGNORED : Fld := { off := 0, lo := 4, len := 1 }

/-- JCT_STARVE, 10 R302. -/
def JCT_STARVE (h : Half) (n : Nat) : Nat := h.base + 0x200010 + n * 0x4

@[reducible] def JCT_STARVE.US : Fld := { off := 0, lo := 0, len := 16 }

/-- JCT_ADMIT_CTRL, 10 R302. -/
def JCT_ADMIT_CTRL (h : Half) : Nat := h.base + 0x200020

@[reducible] def JCT_ADMIT_CTRL.RESERVE_US : Fld := { off := 0, lo := 0, len := 16 }

/-- JCT_CONTROL, 10 R302. -/
def JCT_CONTROL : Nat := 0x200030

@[reducible] def JCT_CONTROL.OP : Fld := { off := 0, lo := 0, len := 2 }

@[reducible] def JCT_CONTROL.GO : Fld := { off := 0, lo := 2, len := 1 }

@[reducible] def JCT_CONTROL.DONE : Fld := { off := 0, lo := 3, len := 1 }

@[reducible] def JCT_CONTROL.CODE : Fld := { off := 0, lo := 4, len := 4 }

@[reducible] def JCT_CONTROL.CONTEXT : Fld := { off := 0, lo := 8, len := 8 }

@[reducible] def JCT_CONTROL.NODE : Fld := { off := 0, lo := 16, len := 12 }

/-- JCT_CONTROL_GRAPH, 10 R302. -/
def JCT_CONTROL_GRAPH : Nat := 0x200034

@[reducible] def JCT_CONTROL_GRAPH.GRAPH_ID : Fld := { off := 0, lo := 0, len := 16 }

@[reducible] def JCT_CONTROL_GRAPH.REASON : Fld := { off := 0, lo := 16, len := 8 }

/-- JCT_DISPATCHES, 10 R302. -/
def JCT_DISPATCHES (h : Half) : Nat := h.base + 0x200100

@[reducible] def JCT_DISPATCHES.NODES : Fld := { off := 0, lo := 0, len := 32 }

/-- JCT_ESCALATIONS, 10 R302. -/
def JCT_ESCALATIONS (h : Half) : Nat := h.base + 0x200104

@[reducible] def JCT_ESCALATIONS.NODES : Fld := { off := 0, lo := 0, len := 32 }

/-- JCT_TOKENS_OUT, 10 R302. -/
def JCT_TOKENS_OUT (h : Half) : Nat := h.base + 0x200108

@[reducible] def JCT_TOKENS_OUT.TOKENS : Fld := { off := 0, lo := 0, len := 32 }

/-- JCT_TOKENS_IN, 10 R302. -/
def JCT_TOKENS_IN (h : Half) : Nat := h.base + 0x20010C

@[reducible] def JCT_TOKENS_IN.TOKENS : Fld := { off := 0, lo := 0, len := 32 }

/-- JCT_REFUSALS, 10 R302. -/
def JCT_REFUSALS (h : Half) : Nat := h.base + 0x200110

@[reducible] def JCT_REFUSALS.GRAPHS : Fld := { off := 0, lo := 0, len := 32 }

/-- JCT_READY_WAIT, 10 R302. -/
def JCT_READY_WAIT (h : Half) (n : Nat) : Nat := h.base + 0x200120 + n * 0x4

@[reducible] def JCT_READY_WAIT.US : Fld := { off := 0, lo := 0, len := 32 }

/-- JCT_CTX_CFG, 10 R302. -/
def JCT_CTX_CFG (n : Nat) : Nat := 0x210000 + n * 0x40

@[reducible] def JCT_CTX_CFG.EN : Fld := { off := 0, lo := 0, len := 1 }

@[reducible] def JCT_CTX_CFG.FMT_VERSION : Fld := { off := 0, lo := 1, len := 3 }

@[reducible] def JCT_CTX_CFG.PRIO_FLOOR : Fld := { off := 0, lo := 4, len := 2 }

@[reducible] def JCT_CTX_CFG.SQ_WHERE : Fld := { off := 0, lo := 6, len := 1 }

@[reducible] def JCT_CTX_CFG.CQ_WHERE : Fld := { off := 0, lo := 7, len := 1 }

@[reducible] def JCT_CTX_CFG.SQ_SIZE : Fld := { off := 0, lo := 8, len := 4 }

@[reducible] def JCT_CTX_CFG.CQ_SIZE : Fld := { off := 0, lo := 12, len := 4 }

@[reducible] def JCT_CTX_CFG.MAX_GRAPHS : Fld := { off := 0, lo := 16, len := 7 }

/-- JCT_CTX_SQ_LO, 10 R302. -/
def JCT_CTX_SQ_LO (n : Nat) : Nat := 0x210004 + n * 0x40

@[reducible] def JCT_CTX_SQ_LO.BASE_LO : Fld := { off := 0, lo := 6, len := 26 }

/-- JCT_CTX_SQ_HI, 10 R302. -/
def JCT_CTX_SQ_HI (n : Nat) : Nat := 0x210008 + n * 0x40

@[reducible] def JCT_CTX_SQ_HI.BASE_HI : Fld := { off := 0, lo := 0, len := 32 }

/-- JCT_CTX_SQ_STATE, 10 R302. -/
def JCT_CTX_SQ_STATE (n : Nat) : Nat := 0x21000C + n * 0x40

@[reducible] def JCT_CTX_SQ_STATE.HEAD : Fld := { off := 0, lo := 0, len := 12 }

@[reducible] def JCT_CTX_SQ_STATE.TAIL : Fld := { off := 0, lo := 16, len := 12 }

/-- JCT_CTX_CQ_LO, 10 R302. -/
def JCT_CTX_CQ_LO (n : Nat) : Nat := 0x210010 + n * 0x40

@[reducible] def JCT_CTX_CQ_LO.BASE_LO : Fld := { off := 0, lo := 5, len := 27 }

/-- JCT_CTX_CQ_HI, 10 R302. -/
def JCT_CTX_CQ_HI (n : Nat) : Nat := 0x210014 + n * 0x40

@[reducible] def JCT_CTX_CQ_HI.BASE_HI : Fld := { off := 0, lo := 0, len := 32 }

/-- JCT_CTX_CQ_STATE, 10 R302. -/
def JCT_CTX_CQ_STATE (n : Nat) : Nat := 0x210018 + n * 0x40

@[reducible] def JCT_CTX_CQ_STATE.TAIL : Fld := { off := 0, lo := 0, len := 14 }

@[reducible] def JCT_CTX_CQ_STATE.PHASE : Fld := { off := 0, lo := 14, len := 1 }

@[reducible] def JCT_CTX_CQ_STATE.HEAD : Fld := { off := 0, lo := 16, len := 14 }

/-- JCT_CTX_PASID, 10 R302. -/
def JCT_CTX_PASID (n : Nat) : Nat := 0x21001C + n * 0x40

@[reducible] def JCT_CTX_PASID.PASID : Fld := { off := 0, lo := 0, len := 20 }

/-- JCT_CTX_INFLIGHT, 10 R302. -/
def JCT_CTX_INFLIGHT (n : Nat) : Nat := 0x210020 + n * 0x40

@[reducible] def JCT_CTX_INFLIGHT.GRAPHS : Fld := { off := 0, lo := 0, len := 7 }

@[reducible] def JCT_CTX_INFLIGHT.NODES : Fld := { off := 0, lo := 16, len := 13 }

/-- GAL_SEQ_CTRL, 11 R321. -/
def GAL_SEQ_CTRL (h : Half) (n : Nat) : Nat := h.base + 0xA00030 + n * 0x100

@[reducible] def GAL_SEQ_CTRL.WDOG_US : Fld := { off := 0, lo := 0, len := 16 }

/-- GAL_SEQ_STATUS, 11 R321. -/
def GAL_SEQ_STATUS (h : Half) (n : Nat) : Nat := h.base + 0xA00034 + n * 0x100

@[reducible] def GAL_SEQ_STATUS.RUNNING : Fld := { off := 0, lo := 0, len := 1 }

@[reducible] def GAL_SEQ_STATUS.PC : Fld := { off := 0, lo := 1, len := 10 }

@[reducible] def GAL_SEQ_STATUS.STATE : Fld := { off := 0, lo := 11, len := 3 }

@[reducible] def GAL_SEQ_STATUS.MISS : Fld := { off := 0, lo := 14, len := 1 }

@[reducible] def GAL_SEQ_STATUS.CLIP : Fld := { off := 0, lo := 15, len := 1 }

/-- GAL_SEQ_EVENT, 11 R321. -/
def GAL_SEQ_EVENT (h : Half) (n : Nat) : Nat := h.base + 0xA00038 + n * 0x100

@[reducible] def GAL_SEQ_EVENT.ILLEGAL : Fld := { off := 0, lo := 0, len := 1 }

@[reducible] def GAL_SEQ_EVENT.WDOG : Fld := { off := 0, lo := 1, len := 1 }

@[reducible] def GAL_SEQ_EVENT.PC_RANGE : Fld := { off := 0, lo := 2, len := 1 }

@[reducible] def GAL_SEQ_EVENT.STORE_REFUSED : Fld := { off := 0, lo := 3, len := 1 }

@[reducible] def GAL_SEQ_EVENT.DEST_SAT : Fld := { off := 0, lo := 4, len := 1 }

/-- GAL_SEQ_FAULT, 11 R321. -/
def GAL_SEQ_FAULT (h : Half) (n : Nat) : Nat := h.base + 0xA0003C + n * 0x100

@[reducible] def GAL_SEQ_FAULT.PC : Fld := { off := 0, lo := 0, len := 10 }

@[reducible] def GAL_SEQ_FAULT.CAUSE : Fld := { off := 0, lo := 12, len := 4 }

/-- GAL_SEQ_FAULT_WORD, 11 R321. -/
def GAL_SEQ_FAULT_WORD (h : Half) (n : Nat) : Nat := h.base + 0xA00040 + n * 0x100

@[reducible] def GAL_SEQ_FAULT_WORD.WORD : Fld := { off := 0, lo := 0, len := 32 }

/-- GAL_SEQ_INSTR, 11 R321. -/
def GAL_SEQ_INSTR (h : Half) (n : Nat) : Nat := h.base + 0xA00044 + n * 0x100

@[reducible] def GAL_SEQ_INSTR.WORDS : Fld := { off := 0, lo := 0, len := 32 }

/-- GAL_SEQ_STALL, 11 R321. -/
def GAL_SEQ_STALL (h : Half) (n : Nat) : Nat := h.base + 0xA00048 + n * 0x100

@[reducible] def GAL_SEQ_STALL.NS : Fld := { off := 0, lo := 0, len := 32 }

/-- GAL_SEQ_WAITS, 11 R321. -/
def GAL_SEQ_WAITS (h : Half) (n : Nat) : Nat := h.base + 0xA0004C + n * 0x100

@[reducible] def GAL_SEQ_WAITS.NS : Fld := { off := 0, lo := 0, len := 32 }

/-- GAL_PROG, 11 R321. -/
def GAL_PROG (h : Half) (n : Nat) : Nat := h.base + 0xA40000 + n * 0x4

@[reducible] def GAL_PROG.WORD : Fld := { off := 0, lo := 0, len := 32 }

/-- GAL_SEQ_CNT, 11 R321. -/
def GAL_SEQ_CNT (h : Half) (n : Nat) : Nat := h.base + 0xA60000 + n * 0x4

@[reducible] def GAL_SEQ_CNT.VALUE : Fld := { off := 0, lo := 0, len := 32 }

/-- CSW_PORT_CFG, 12 R359. -/
def CSW_PORT_CFG (h : Half) (n : Nat) : Nat := h.base + 0xE00000 + n * 0x40

@[reducible] def CSW_PORT_CFG.EN : Fld := { off := 0, lo := 0, len := 1 }

@[reducible] def CSW_PORT_CFG.VER_MAX : Fld := { off := 0, lo := 1, len := 2 }

@[reducible] def CSW_PORT_CFG.RATE_112_EN : Fld := { off := 0, lo := 3, len := 1 }

@[reducible] def CSW_PORT_CFG.MIN_WIDTH : Fld := { off := 0, lo := 4, len := 2 }

@[reducible] def CSW_PORT_CFG.EXPECT_NODE : Fld := { off := 0, lo := 6, len := 14 }

@[reducible] def CSW_PORT_CFG.EXPECT_PORT : Fld := { off := 0, lo := 20, len := 3 }

@[reducible] def CSW_PORT_CFG.EXPECT_EN : Fld := { off := 0, lo := 23, len := 1 }

@[reducible] def CSW_PORT_CFG.RETRAIN : Fld := { off := 0, lo := 24, len := 1 }

/-- CSW_PORT_STATUS, 12 R359. -/
def CSW_PORT_STATUS (h : Half) (n : Nat) : Nat := h.base + 0xE00004 + n * 0x40

@[reducible] def CSW_PORT_STATUS.STATE : Fld := { off := 0, lo := 0, len := 3 }

@[reducible] def CSW_PORT_STATUS.VER : Fld := { off := 0, lo := 3, len := 2 }

@[reducible] def CSW_PORT_STATUS.RATE : Fld := { off := 0, lo := 5, len := 1 }

@[reducible] def CSW_PORT_STATUS.WIDTH : Fld := { off := 0, lo := 6, len := 2 }

@[reducible] def CSW_PORT_STATUS.LANES : Fld := { off := 0, lo := 8, len := 4 }

@[reducible] def CSW_PORT_STATUS.PEER_NODE : Fld := { off := 0, lo := 12, len := 14 }

@[reducible] def CSW_PORT_STATUS.PEER_PORT : Fld := { off := 0, lo := 26, len := 3 }

/-- CSW_PORT_EVENT, 12 R359. -/
def CSW_PORT_EVENT (h : Half) (n : Nat) : Nat := h.base + 0xE00008 + n * 0x40

@[reducible] def CSW_PORT_EVENT.CRC_ERR : Fld := { off := 0, lo := 0, len := 1 }

@[reducible] def CSW_PORT_EVENT.REPLAY : Fld := { off := 0, lo := 1, len := 1 }

@[reducible] def CSW_PORT_EVENT.RETRAIN : Fld := { off := 0, lo := 2, len := 1 }

@[reducible] def CSW_PORT_EVENT.WIDTH_DOWN : Fld := { off := 0, lo := 3, len := 1 }

@[reducible] def CSW_PORT_EVENT.RATE_DOWN : Fld := { off := 0, lo := 4, len := 1 }

@[reducible] def CSW_PORT_EVENT.DOWN : Fld := { off := 0, lo := 5, len := 1 }

@[reducible] def CSW_PORT_EVENT.MISMATCH : Fld := { off := 0, lo := 6, len := 1 }

@[reducible] def CSW_PORT_EVENT.REPLAY_LIMIT : Fld := { off := 0, lo := 7, len := 1 }

/-- CSW_PORT_TX_FLITS, 12 R359. -/
def CSW_PORT_TX_FLITS (h : Half) (n : Nat) : Nat := h.base + 0xE0000C + n * 0x40

@[reducible] def CSW_PORT_TX_FLITS.FLITS : Fld := { off := 0, lo := 0, len := 32 }

/-- CSW_PORT_RX_FLITS, 12 R359. -/
def CSW_PORT_RX_FLITS (h : Half) (n : Nat) : Nat := h.base + 0xE00010 + n * 0x40

@[reducible] def CSW_PORT_RX_FLITS.FLITS : Fld := { off := 0, lo := 0, len := 32 }

/-- CSW_PORT_CRC_ERRS, 12 R359. -/
def CSW_PORT_CRC_ERRS (h : Half) (n : Nat) : Nat := h.base + 0xE00014 + n * 0x40

@[reducible] def CSW_PORT_CRC_ERRS.FLITS : Fld := { off := 0, lo := 0, len := 32 }

/-- CSW_PORT_REPLAYS, 12 R359. -/
def CSW_PORT_REPLAYS (h : Half) (n : Nat) : Nat := h.base + 0xE00018 + n * 0x40

@[reducible] def CSW_PORT_REPLAYS.EVENTS : Fld := { off := 0, lo := 0, len := 32 }

/-- CSW_PORT_RETRAINS, 12 R359. -/
def CSW_PORT_RETRAINS (h : Half) (n : Nat) : Nat := h.base + 0xE0001C + n * 0x40

@[reducible] def CSW_PORT_RETRAINS.EVENTS : Fld := { off := 0, lo := 0, len := 32 }

/-- CSW_NODE, 12 R359. -/
def CSW_NODE (h : Half) : Nat := h.base + 0xE01000

@[reducible] def CSW_NODE.NODE : Fld := { off := 0, lo := 0, len := 14 }

@[reducible] def CSW_NODE.HOSTLESS : Fld := { off := 0, lo := 14, len := 1 }

/-- CSW_MASTER_CFG, 12 R359. -/
def CSW_MASTER_CFG : Nat := 0xE01004

@[reducible] def CSW_MASTER_CFG.BACKUP : Fld := { off := 0, lo := 0, len := 14 }

@[reducible] def CSW_MASTER_CFG.BACKUP_EN : Fld := { off := 0, lo := 14, len := 1 }

@[reducible] def CSW_MASTER_CFG.HEARTBEAT_MS : Fld := { off := 0, lo := 16, len := 8 }

@[reducible] def CSW_MASTER_CFG.LOSS_MS : Fld := { off := 0, lo := 24, len := 8 }

/-- CSW_MASTER_STATUS, 12 R359. -/
def CSW_MASTER_STATUS : Nat := 0xE01008

@[reducible] def CSW_MASTER_STATUS.ROLE : Fld := { off := 0, lo := 0, len := 2 }

@[reducible] def CSW_MASTER_STATUS.MASTER : Fld := { off := 0, lo := 2, len := 14 }

@[reducible] def CSW_MASTER_STATUS.EPOCH : Fld := { off := 0, lo := 16, len := 16 }

/-- CSW_E2E_CTRL, 12 R359. -/
def CSW_E2E_CTRL (h : Half) : Nat := h.base + 0xE0100C

@[reducible] def CSW_E2E_CTRL.TIMEOUT_MS : Fld := { off := 0, lo := 0, len := 16 }

/-- CSW_EVENT, 12 R359. -/
def CSW_EVENT (h : Half) : Nat := h.base + 0xE01010

@[reducible] def CSW_EVENT.ROUTE_DROP : Fld := { off := 0, lo := 0, len := 1 }

@[reducible] def CSW_EVENT.TAKEOVER : Fld := { off := 0, lo := 1, len := 1 }

@[reducible] def CSW_EVENT.MGMT_REFUSED : Fld := { off := 0, lo := 2, len := 1 }

@[reducible] def CSW_EVENT.QUEUE_BROKEN : Fld := { off := 0, lo := 3, len := 1 }

@[reducible] def CSW_EVENT.BARRIER_BROKEN : Fld := { off := 0, lo := 4, len := 1 }

@[reducible] def CSW_EVENT.BUDGET_REVERT : Fld := { off := 0, lo := 5, len := 1 }

@[reducible] def CSW_EVENT.BATCH_TIMEOUT : Fld := { off := 0, lo := 6, len := 1 }

/-- CSW_ROUTE_DROPS, 12 R359. -/
def CSW_ROUTE_DROPS (h : Half) : Nat := h.base + 0xE01014

@[reducible] def CSW_ROUTE_DROPS.FLITS : Fld := { off := 0, lo := 0, len := 32 }

/-- CSW_ROUTE, 12 R359. -/
def CSW_ROUTE (h : Half) (n : Nat) : Nat := h.base + 0xE10000 + n * 0x4

@[reducible] def CSW_ROUTE.PRIMARY : Fld := { off := 0, lo := 0, len := 3 }

@[reducible] def CSW_ROUTE.P_VALID : Fld := { off := 0, lo := 3, len := 1 }

@[reducible] def CSW_ROUTE.P_DATELINE : Fld := { off := 0, lo := 4, len := 1 }

@[reducible] def CSW_ROUTE.ALT : Fld := { off := 0, lo := 5, len := 3 }

@[reducible] def CSW_ROUTE.A_VALID : Fld := { off := 0, lo := 8, len := 1 }

@[reducible] def CSW_ROUTE.A_DATELINE : Fld := { off := 0, lo := 9, len := 1 }

@[reducible] def CSW_ROUTE.LOCAL : Fld := { off := 0, lo := 10, len := 1 }

/-- CSW_SQ_CFG, 12 R359. -/
def CSW_SQ_CFG (h : Half) (n : Nat) : Nat := h.base + 0xE20000 + n * 0x20

@[reducible] def CSW_SQ_CFG.VALID : Fld := { off := 0, lo := 0, len := 1 }

@[reducible] def CSW_SQ_CFG.CONTEXT : Fld := { off := 0, lo := 1, len := 8 }

@[reducible] def CSW_SQ_CFG.DEST_NODE : Fld := { off := 0, lo := 9, len := 14 }

@[reducible] def CSW_SQ_CFG.DEST_HALF : Fld := { off := 0, lo := 23, len := 1 }

@[reducible] def CSW_SQ_CFG.DEST_QUEUE : Fld := { off := 0, lo := 24, len := 6 }

/-- CSW_SQ_STATE, 12 R359. -/
def CSW_SQ_STATE (h : Half) (n : Nat) : Nat := h.base + 0xE20004 + n * 0x20

@[reducible] def CSW_SQ_STATE.STATE : Fld := { off := 0, lo := 0, len := 2 }

@[reducible] def CSW_SQ_STATE.PRODUCER : Fld := { off := 0, lo := 2, len := 1 }

@[reducible] def CSW_SQ_STATE.EPOCH : Fld := { off := 0, lo := 3, len := 8 }

/-- CSW_SQ_SENT, 12 R359. -/
def CSW_SQ_SENT (h : Half) (n : Nat) : Nat := h.base + 0xE20008 + n * 0x20

@[reducible] def CSW_SQ_SENT.BYTES : Fld := { off := 0, lo := 0, len := 32 }

/-- CSW_SQ_ACKED, 12 R359. -/
def CSW_SQ_ACKED (h : Half) (n : Nat) : Nat := h.base + 0xE2000C + n * 0x20

@[reducible] def CSW_SQ_ACKED.BYTES : Fld := { off := 0, lo := 0, len := 32 }

/-- CSW_RQ_CFG, 12 R359. -/
def CSW_RQ_CFG (h : Half) (n : Nat) : Nat := h.base + 0xE30000 + n * 0x20

@[reducible] def CSW_RQ_CFG.VALID : Fld := { off := 0, lo := 0, len := 1 }

@[reducible] def CSW_RQ_CFG.CONTEXT : Fld := { off := 0, lo := 1, len := 8 }

@[reducible] def CSW_RQ_CFG.SRC_NODE : Fld := { off := 0, lo := 9, len := 14 }

@[reducible] def CSW_RQ_CFG.SRC_HALF : Fld := { off := 0, lo := 23, len := 1 }

@[reducible] def CSW_RQ_CFG.SRC_QUEUE : Fld := { off := 0, lo := 24, len := 6 }

/-- CSW_RQ_BASE, 12 R359. -/
def CSW_RQ_BASE (h : Half) (n : Nat) : Nat := h.base + 0xE30004 + n * 0x20

@[reducible] def CSW_RQ_BASE.HANDLE : Fld := { off := 0, lo := 0, len := 32 }

/-- CSW_RQ_OFFSET, 12 R359. -/
def CSW_RQ_OFFSET (h : Half) (n : Nat) : Nat := h.base + 0xE30008 + n * 0x20

@[reducible] def CSW_RQ_OFFSET.OFFSET : Fld := { off := 0, lo := 0, len := 32 }

/-- CSW_RQ_SIZE, 12 R359. -/
def CSW_RQ_SIZE (h : Half) (n : Nat) : Nat := h.base + 0xE3000C + n * 0x20

@[reducible] def CSW_RQ_SIZE.KIB : Fld := { off := 0, lo := 0, len := 13 }

/-- CSW_RQ_STATE, 12 R359. -/
def CSW_RQ_STATE (h : Half) (n : Nat) : Nat := h.base + 0xE30010 + n * 0x20

@[reducible] def CSW_RQ_STATE.STATE : Fld := { off := 0, lo := 0, len := 2 }

@[reducible] def CSW_RQ_STATE.CONSUMER : Fld := { off := 0, lo := 2, len := 1 }

@[reducible] def CSW_RQ_STATE.EPOCH : Fld := { off := 0, lo := 3, len := 8 }

/-- CSW_RQ_FILL, 12 R359. -/
def CSW_RQ_FILL (h : Half) (n : Nat) : Nat := h.base + 0xE30014 + n * 0x20

@[reducible] def CSW_RQ_FILL.BYTES : Fld := { off := 0, lo := 0, len := 32 }

/-- CSW_RQ_STALE, 12 R359. -/
def CSW_RQ_STALE (h : Half) (n : Nat) : Nat := h.base + 0xE30018 + n * 0x20

@[reducible] def CSW_RQ_STALE.RECORDS : Fld := { off := 0, lo := 0, len := 32 }

/-- CSW_BAR_CFG, 12 R359. -/
def CSW_BAR_CFG (h : Half) (n : Nat) : Nat := h.base + 0xE40000 + n * 0x10

@[reducible] def CSW_BAR_CFG.EN : Fld := { off := 0, lo := 0, len := 1 }

@[reducible] def CSW_BAR_CFG.CONTEXT : Fld := { off := 0, lo := 1, len := 8 }

@[reducible] def CSW_BAR_CFG.ROOT : Fld := { off := 0, lo := 9, len := 1 }

@[reducible] def CSW_BAR_CFG.PARENT : Fld := { off := 0, lo := 10, len := 14 }

@[reducible] def CSW_BAR_CFG.PARENT_HALF : Fld := { off := 0, lo := 24, len := 1 }

@[reducible] def CSW_BAR_CFG.CHILDREN : Fld := { off := 0, lo := 25, len := 5 }

@[reducible] def CSW_BAR_CFG.LOCAL : Fld := { off := 0, lo := 30, len := 1 }

/-- CSW_BAR_STATUS, 12 R359. -/
def CSW_BAR_STATUS (h : Half) (n : Nat) : Nat := h.base + 0xE40004 + n * 0x10

@[reducible] def CSW_BAR_STATUS.GEN : Fld := { off := 0, lo := 0, len := 16 }

@[reducible] def CSW_BAR_STATUS.ARRIVED : Fld := { off := 0, lo := 16, len := 5 }

@[reducible] def CSW_BAR_STATUS.LOCAL_ARRIVED : Fld := { off := 0, lo := 21, len := 1 }

@[reducible] def CSW_BAR_STATUS.BROKEN : Fld := { off := 0, lo := 22, len := 1 }

/-- CSW_BAR_TIME, 12 R359. -/
def CSW_BAR_TIME (h : Half) (n : Nat) : Nat := h.base + 0xE40008 + n * 0x10

@[reducible] def CSW_BAR_TIME.US : Fld := { off := 0, lo := 0, len := 32 }

/-- CSW_EXPERT_MAP, 12 R359. -/
def CSW_EXPERT_MAP (h : Half) (n : Nat) : Nat := h.base + 0xE50000 + n * 0x4

@[reducible] def CSW_EXPERT_MAP.QUEUE : Fld := { off := 0, lo := 0, len := 6 }

@[reducible] def CSW_EXPERT_MAP.VALID : Fld := { off := 0, lo := 6, len := 1 }

/-- CSW_BUDGET_CFG, 12 R359. -/
def CSW_BUDGET_CFG : Nat := 0xE60000

@[reducible] def CSW_BUDGET_CFG.PERIOD_MS : Fld := { off := 0, lo := 0, len := 8 }

@[reducible] def CSW_BUDGET_CFG.STEP_W : Fld := { off := 0, lo := 8, len := 8 }

@[reducible] def CSW_BUDGET_CFG.MACHINE_KW : Fld := { off := 0, lo := 16, len := 16 }

/-- CSW_BUDGET_STATUS, 12 R359. -/
def CSW_BUDGET_STATUS (h : Half) : Nat := h.base + 0xE60004

@[reducible] def CSW_BUDGET_STATUS.GRANT_W : Fld := { off := 0, lo := 0, len := 10 }

@[reducible] def CSW_BUDGET_STATUS.SLACK_PERMILLE : Fld := { off := 0, lo := 10, len := 10 }

@[reducible] def CSW_BUDGET_STATUS.REVERTED : Fld := { off := 0, lo := 20, len := 1 }

/-- PCI_EVENT, 13 R379. -/
def PCI_EVENT : Nat := pciBase + 0x10

@[reducible] def PCI_EVENT.BAD_ACCESS : Fld := { off := 0, lo := 0, len := 1 }

@[reducible] def PCI_EVENT.DB_FOREIGN : Fld := { off := 0, lo := 1, len := 1 }

@[reducible] def PCI_EVENT.DB_RANGE : Fld := { off := 0, lo := 2, len := 1 }

@[reducible] def PCI_EVENT.POISONED_WRITE : Fld := { off := 0, lo := 3, len := 1 }

@[reducible] def PCI_EVENT.T3_READ_FAIL : Fld := { off := 0, lo := 4, len := 1 }

@[reducible] def PCI_EVENT.FLR_DONE : Fld := { off := 0, lo := 5, len := 1 }

/-- PCI_FLR_ACTIVE, 13 R379. -/
def PCI_FLR_ACTIVE (n : Nat) : Nat := pciBase + 0x14 + n * 0x4

@[reducible] def PCI_FLR_ACTIVE.FUNCS : Fld := { off := 0, lo := 0, len := 32 }

/-- PCI_CTX_FUNC, 13 R379. -/
def PCI_CTX_FUNC (n : Nat) : Nat := pciBase + 0x40 + n * 0x4

@[reducible] def PCI_CTX_FUNC.FUNC : Fld := { off := 0, lo := 0, len := 6 }

@[reducible] def PCI_CTX_FUNC.VECTOR : Fld := { off := 0, lo := 6, len := 5 }

/-- PWR_DOMAIN_CTRL, 14 R410. -/
def PWR_DOMAIN_CTRL (n : Nat) : Nat := 0x100000 + n * 0x4

@[reducible] def PWR_DOMAIN_CTRL.HOLD : Fld := { off := 0, lo := 0, len := 1 }

@[reducible] def PWR_DOMAIN_CTRL.DISABLE : Fld := { off := 0, lo := 1, len := 1 }

/-- PWR_DOMAIN_STATUS, 14 R410. -/
def PWR_DOMAIN_STATUS (n : Nat) : Nat := 0x100400 + n * 0x4

@[reducible] def PWR_DOMAIN_STATUS.STATE : Fld := { off := 0, lo := 0, len := 3 }

@[reducible] def PWR_DOMAIN_STATUS.KEEP : Fld := { off := 0, lo := 3, len := 1 }

@[reducible] def PWR_DOMAIN_STATUS.WAKES : Fld := { off := 0, lo := 16, len := 16 }

/-- PWR_IDLE_US, 14 R410. -/
def PWR_IDLE_US (n : Nat) : Nat := 0x100800 + n * 0x4

@[reducible] def PWR_IDLE_US.US : Fld := { off := 0, lo := 0, len := 16 }

/-- PWR_WAKE_STATUS, 14 R410. -/
def PWR_WAKE_STATUS : Nat := 0x100900

@[reducible] def PWR_WAKE_STATUS.QUEUED : Fld := { off := 0, lo := 0, len := 8 }

@[reducible] def PWR_WAKE_STATUS.RECENT : Fld := { off := 0, lo := 8, len := 4 }

@[reducible] def PWR_WAKE_STATUS.WAKES : Fld := { off := 0, lo := 16, len := 16 }

/-- PWR_CAP, 14 R410. -/
def PWR_CAP : Nat := 0x101000

@[reducible] def PWR_CAP.CAP_W : Fld := { off := 0, lo := 0, len := 10 }

@[reducible] def PWR_CAP.SOURCE : Fld := { off := 0, lo := 10, len := 2 }

@[reducible] def PWR_CAP.EFFECTIVE_W : Fld := { off := 0, lo := 16, len := 10 }

/-- PWR_LIMIT_CFG, 14 R410. -/
def PWR_LIMIT_CFG : Nat := 0x101004

@[reducible] def PWR_LIMIT_CFG.SAFE_OP : Fld := { off := 0, lo := 0, len := 4 }

@[reducible] def PWR_LIMIT_CFG.OP_MAX : Fld := { off := 0, lo := 4, len := 4 }

@[reducible] def PWR_LIMIT_CFG.THROTTLE_C : Fld := { off := 0, lo := 8, len := 8 }

@[reducible] def PWR_LIMIT_CFG.BOARD_MAX_W : Fld := { off := 0, lo := 16, len := 10 }

/-- PWR_OP_STATUS, 14 R410. -/
def PWR_OP_STATUS : Nat := 0x101008

@[reducible] def PWR_OP_STATUS.OP_WEST : Fld := { off := 0, lo := 0, len := 4 }

@[reducible] def PWR_OP_STATUS.OP_EAST : Fld := { off := 0, lo := 4, len := 4 }

@[reducible] def PWR_OP_STATUS.CEILING : Fld := { off := 0, lo := 8, len := 4 }

@[reducible] def PWR_OP_STATUS.MEASURED_ONLY : Fld := { off := 0, lo := 12, len := 1 }

@[reducible] def PWR_OP_STATUS.CHANGING : Fld := { off := 0, lo := 13, len := 1 }

@[reducible] def PWR_OP_STATUS.GATE_SHARE : Fld := { off := 0, lo := 16, len := 10 }

/-- PWR_POWER, 14 R410. -/
def PWR_POWER : Nat := 0x10100C

@[reducible] def PWR_POWER.MEASURED_W : Fld := { off := 0, lo := 0, len := 10 }

@[reducible] def PWR_POWER.ESTIMATED_W : Fld := { off := 0, lo := 16, len := 10 }

/-- PWR_PHASE_OP, 14 R410. -/
def PWR_PHASE_OP (n : Nat) : Nat := 0x101010 + n * 0x4

@[reducible] def PWR_PHASE_OP.OP : Fld := { off := 0, lo := 0, len := 4 }

/-- PWR_EVENT, 14 R410. -/
def PWR_EVENT : Nat := 0x101020

@[reducible] def PWR_EVENT.ESTIMATE_DIVERGE : Fld := { off := 0, lo := 0, len := 1 }

@[reducible] def PWR_EVENT.THROTTLE : Fld := { off := 0, lo := 1, len := 1 }

@[reducible] def PWR_EVENT.GATING : Fld := { off := 0, lo := 2, len := 1 }

@[reducible] def PWR_EVENT.TRIP : Fld := { off := 0, lo := 3, len := 1 }

@[reducible] def PWR_EVENT.DISABLE_REFUSED : Fld := { off := 0, lo := 4, len := 1 }

@[reducible] def PWR_EVENT.CAP_REFUSED : Fld := { off := 0, lo := 5, len := 1 }

@[reducible] def PWR_EVENT.WAKE_REFUSED : Fld := { off := 0, lo := 6, len := 1 }

/-- PWR_TEMP, 14 R410. -/
def PWR_TEMP : Nat := 0x101024

@[reducible] def PWR_TEMP.TMAX : Fld := { off := 0, lo := 0, len := 16 }

@[reducible] def PWR_TEMP.PEAK : Fld := { off := 0, lo := 16, len := 16 }

/-- PWR_REASON, 14 R410. -/
def PWR_REASON : Nat := 0x101028

@[reducible] def PWR_REASON.ACTIVE : Fld := { off := 0, lo := 0, len := 8 }

/-- PWR_REASON_TIME, 14 R410. -/
def PWR_REASON_TIME (n : Nat) : Nat := 0x101040 + n * 0x4

@[reducible] def PWR_REASON_TIME.US : Fld := { off := 0, lo := 0, len := 32 }

/-- CLK_PLL_STATUS, 14 R410. -/
def CLK_PLL_STATUS (h : Half) : Nat := h.base + 0x102000

@[reducible] def CLK_PLL_STATUS.MAIN_A : Fld := { off := 0, lo := 0, len := 1 }

@[reducible] def CLK_PLL_STATUS.MAIN_B : Fld := { off := 0, lo := 1, len := 1 }

@[reducible] def CLK_PLL_STATUS.MAIN_SEL : Fld := { off := 0, lo := 2, len := 1 }

@[reducible] def CLK_PLL_STATUS.RAMP : Fld := { off := 0, lo := 3, len := 1 }

@[reducible] def CLK_PLL_STATUS.PASSAGE : Fld := { off := 0, lo := 4, len := 1 }

@[reducible] def CLK_PLL_STATUS.DRAM : Fld := { off := 0, lo := 5, len := 2 }

@[reducible] def CLK_PLL_STATUS.SERDES : Fld := { off := 0, lo := 7, len := 4 }

@[reducible] def CLK_PLL_STATUS.PCIE : Fld := { off := 0, lo := 11, len := 1 }

@[reducible] def CLK_PLL_STATUS.REF_OK : Fld := { off := 0, lo := 12, len := 1 }

/-- CLK_US_LO, 14 R410. -/
def CLK_US_LO (h : Half) : Nat := h.base + 0x102010

@[reducible] def CLK_US_LO.US : Fld := { off := 0, lo := 0, len := 32 }

/-- CLK_US_HI, 14 R410. -/
def CLK_US_HI (h : Half) : Nat := h.base + 0x102014

@[reducible] def CLK_US_HI.US : Fld := { off := 0, lo := 0, len := 32 }

/-- XING_STATUS, 14 R410. -/
def XING_STATUS (n : Nat) : Nat := 0x103000 + n * 0x4

@[reducible] def XING_STATUS.VALUE_OVR : Fld := { off := 0, lo := 0, len := 1 }

@[reducible] def XING_STATUS.EVENT_OVR : Fld := { off := 0, lo := 1, len := 1 }

@[reducible] def XING_STATUS.RESYNCS : Fld := { off := 0, lo := 16, len := 16 }

/-- XING_OVR_COUNT, 14 R410. -/
def XING_OVR_COUNT : Nat := 0x103400

@[reducible] def XING_OVR_COUNT.EVENTS : Fld := { off := 0, lo := 0, len := 32 }

/-- BOOT_STATUS, 15 R440. -/
def BOOT_STATUS : Nat := 0xF00000

@[reducible] def BOOT_STATUS.STAGE : Fld := { off := 0, lo := 0, len := 4 }

@[reducible] def BOOT_STATUS.FLASH_MODE : Fld := { off := 0, lo := 4, len := 2 }

@[reducible] def BOOT_STATUS.SLOT : Fld := { off := 0, lo := 6, len := 3 }

@[reducible] def BOOT_STATUS.TRIAL : Fld := { off := 0, lo := 9, len := 3 }

@[reducible] def BOOT_STATUS.FAIL_KIND : Fld := { off := 0, lo := 12, len := 3 }

@[reducible] def BOOT_STATUS.LOCKED : Fld := { off := 0, lo := 15, len := 1 }

/-- BOOT_IMAGE, 15 R440. -/
def BOOT_IMAGE (n : Nat) : Nat := 0xF00010 + n * 0x4

@[reducible] def BOOT_IMAGE.SVN : Fld := { off := 0, lo := 0, len := 16 }

@[reducible] def BOOT_IMAGE.VERIFIED : Fld := { off := 0, lo := 16, len := 1 }

@[reducible] def BOOT_IMAGE.FAIL_CODE : Fld := { off := 0, lo := 20, len := 4 }

/-- BOOT_WDOG_CTRL, 15 R440. -/
def BOOT_WDOG_CTRL : Nat := 0xF00030

@[reducible] def BOOT_WDOG_CTRL.TRIAL_MS : Fld := { off := 0, lo := 0, len := 16 }

/-- SEC_MBOX_CTRL, 15 R440. -/
def SEC_MBOX_CTRL : Nat := 0xF01000

@[reducible] def SEC_MBOX_CTRL.GO : Fld := { off := 0, lo := 0, len := 1 }

@[reducible] def SEC_MBOX_CTRL.BUSY : Fld := { off := 0, lo := 1, len := 1 }

@[reducible] def SEC_MBOX_CTRL.DONE : Fld := { off := 0, lo := 2, len := 1 }

/-- SEC_STATE, 15 R440. -/
def SEC_STATE : Nat := 0xF01004

@[reducible] def SEC_STATE.DEBUG_DISABLE : Fld := { off := 0, lo := 0, len := 1 }

@[reducible] def SEC_STATE.DEBUG_OPEN : Fld := { off := 0, lo := 1, len := 1 }

@[reducible] def SEC_STATE.DEBUG_PENDING : Fld := { off := 0, lo := 2, len := 1 }

@[reducible] def SEC_STATE.CFG_SIGNED : Fld := { off := 0, lo := 3, len := 1 }

@[reducible] def SEC_STATE.TOKENS : Fld := { off := 0, lo := 4, len := 5 }

/-- SEC_ATTEST_Q, 15 R440. -/
def SEC_ATTEST_Q : Nat := 0xF01008

@[reducible] def SEC_ATTEST_Q.NEXT_Q : Fld := { off := 0, lo := 0, len := 21 }

/-- SEC_KEK_VALID, 15 R440. -/
def SEC_KEK_VALID (n : Nat) : Nat := 0xF01020 + n * 0x4

@[reducible] def SEC_KEK_VALID.CONTEXTS : Fld := { off := 0, lo := 0, len := 32 }

/-- SEC_MBOX_REQ, 15 R440. -/
def SEC_MBOX_REQ (n : Nat) : Nat := 0xF02000 + n * 0x4

@[reducible] def SEC_MBOX_REQ.WORD : Fld := { off := 0, lo := 0, len := 32 }

/-- SEC_MBOX_RESP, 15 R440. -/
def SEC_MBOX_RESP (n : Nat) : Nat := 0xF03000 + n * 0x4

@[reducible] def SEC_MBOX_RESP.WORD : Fld := { off := 0, lo := 0, len := 32 }

/-- ERR_CTRL, 16 R455. -/
def ERR_CTRL (h : Half) : Nat := h.base + 0xF80000

@[reducible] def ERR_CTRL.IRQ_EN : Fld := { off := 0, lo := 0, len := 1 }

@[reducible] def ERR_CTRL.HOST_EN : Fld := { off := 0, lo := 1, len := 1 }

/-- ERR_STATUS, 16 R455. -/
def ERR_STATUS (h : Half) : Nat := h.base + 0xF80004

@[reducible] def ERR_STATUS.OVERFLOW : Fld := { off := 0, lo := 0, len := 1 }

@[reducible] def ERR_STATUS.MGMT_HEAD : Fld := { off := 0, lo := 11, len := 11 }

/-- ERR_TAIL, 16 R455. -/
def ERR_TAIL (h : Half) : Nat := h.base + 0xF80008

@[reducible] def ERR_TAIL.TAIL : Fld := { off := 0, lo := 0, len := 11 }

/-- ERR_HOST_HEAD, 16 R455. -/
def ERR_HOST_HEAD (h : Half) : Nat := h.base + 0xF8000C

@[reducible] def ERR_HOST_HEAD.HEAD : Fld := { off := 0, lo := 0, len := 11 }

/-- ERR_SERVICE_CTRL, 16 R455. -/
def ERR_SERVICE_CTRL : Nat := 0xF80010

@[reducible] def ERR_SERVICE_CTRL.MGMT_RESTART : Fld := { off := 0, lo := 0, len := 1 }

@[reducible] def ERR_SERVICE_CTRL.POWER_RESTART : Fld := { off := 0, lo := 1, len := 1 }

/-- ERR_LOST, 16 R455. -/
def ERR_LOST (h : Half) (n : Nat) : Nat := h.base + 0xF80100 + n * 0x4

@[reducible] def ERR_LOST.RECORDS : Fld := { off := 0, lo := 0, len := 32 }

/-- ERR_RESET_CAUSE, 16 R455. -/
def ERR_RESET_CAUSE : Nat := 0xF80200

@[reducible] def ERR_RESET_CAUSE.CAUSE : Fld := { off := 0, lo := 0, len := 4 }

/-- ERR_POWERED_S, 16 R455. -/
def ERR_POWERED_S : Nat := 0xF80204

@[reducible] def ERR_POWERED_S.S : Fld := { off := 0, lo := 0, len := 32 }

/-- ERR_UNREADY_MS, 16 R455. -/
def ERR_UNREADY_MS : Nat := 0xF80208

@[reducible] def ERR_UNREADY_MS.MS : Fld := { off := 0, lo := 0, len := 32 }

/-- ERR_RECORD, 16 R455. -/
def ERR_RECORD (h : Half) (n : Nat) : Nat := h.base + 0xF90000 + n * 0x4

@[reducible] def ERR_RECORD.WORD : Fld := { off := 0, lo := 0, len := 32 }

/-- The BOOT_ registers of the map, part 1. -/
def regsBOOT1 : List RegDesc := [
  { base := 0x0, count := 1, stride := 0x4, scope := .half, pfOnly := false, devIdx := false,
    fields := [(BOOT_IDENT.DEVICE, .ro), (BOOT_IDENT.STEPPING, .ro), (BOOT_IDENT.GENERATION, .ro), (BOOT_IDENT.HALF, .ro)] },
  { base := 0x10, count := 4, stride := 0x4, scope := .half, pfOnly := false, devIdx := false,
    fields := [(BOOT_UID.UID, .ro)] },
  { base := 0x20, count := 2, stride := 0x4, scope := .half, pfOnly := false, devIdx := false,
    fields := [(BOOT_FIT_CODE.FIT_CODE, .ro)] },
  { base := 0x30, count := 1, stride := 0x4, scope := .device, pfOnly := false, devIdx := false,
    fields := [(BOOT_GLOBAL_STATUS.WEST_READY, .ro), (BOOT_GLOBAL_STATUS.EAST_READY, .ro), (BOOT_GLOBAL_STATUS.PASSAGE_UP, .ro), (BOOT_GLOBAL_STATUS.FIT_MISMATCH, .ro), (BOOT_GLOBAL_STATUS.NODE_ID, .ro)] },
  { base := 0x100, count := 16, stride := 0x4, scope := .half, pfOnly := false, devIdx := false,
    fields := [(BOOT_BLOCK_VERSION.VERSION, .ro)] },
  { base := 0xF00000, count := 1, stride := 0x4, scope := .west, pfOnly := false, devIdx := false,
    fields := [(BOOT_STATUS.STAGE, .ro), (BOOT_STATUS.FLASH_MODE, .ro), (BOOT_STATUS.SLOT, .ro), (BOOT_STATUS.TRIAL, .ro), (BOOT_STATUS.FAIL_KIND, .ro), (BOOT_STATUS.LOCKED, .ro)] },
  { base := 0xF00010, count := 6, stride := 0x4, scope := .west, pfOnly := false, devIdx := false,
    fields := [(BOOT_IMAGE.SVN, .ro), (BOOT_IMAGE.VERIFIED, .ro), (BOOT_IMAGE.FAIL_CODE, .ro)] },
  { base := 0xF00030, count := 1, stride := 0x4, scope := .west, pfOnly := true, devIdx := false,
    fields := [(BOOT_WDOG_CTRL.TRIAL_MS, .rw)] }]

/-- The SEAM_ registers of the map, part 1. -/
def regsSEAM1 : List RegDesc := [
  { base := 0xB00000, count := 2048, stride := 0x40, scope := .half, pfOnly := false, devIdx := false,
    fields := [(SEAM_CTRL.ZSKIP_EN, .rw), (SEAM_CTRL.NV_DEFER, .rw)] },
  { base := 0xB00004, count := 2048, stride := 0x40, scope := .half, pfOnly := false, devIdx := false,
    fields := [(SEAM_PLANE_CFG.EN, .rw), (SEAM_PLANE_CFG.W7, .rw)] },
  { base := 0xB00008, count := 2048, stride := 0x40, scope := .half, pfOnly := false, devIdx := false,
    fields := [(SEAM_STATUS.STATE, .ro), (SEAM_STATUS.PLANE, .ro), (SEAM_STATUS.NV_PENDING, .ro), (SEAM_STATUS.CFG_PENDING, .ro), (SEAM_STATUS.LATCH_A_FULL, .ro), (SEAM_STATUS.LATCH_B_FULL, .ro)] },
  { base := 0xB0000C, count := 2048, stride := 0x40, scope := .half, pfOnly := false, devIdx := false,
    fields := [(SEAM_EVENT.SAT, .w1c), (SEAM_EVENT.PULSE_GUARD, .w1c), (SEAM_EVENT.DISABLED_PLANE, .w1c), (SEAM_EVENT.NV_FORCED, .w1c), (SEAM_EVENT.W7_MISMATCH, .w1c)] },
  { base := 0xB00010, count := 2048, stride := 0x40, scope := .half, pfOnly := false, devIdx := false,
    fields := [(SEAM_WAVE_COUNT.WAVES, .ro)] },
  { base := 0xB00014, count := 2048, stride := 0x40, scope := .half, pfOnly := false, devIdx := false,
    fields := [(SEAM_SLICE_COUNT.SLICES, .ro)] },
  { base := 0xB00018, count := 2048, stride := 0x40, scope := .half, pfOnly := false, devIdx := false,
    fields := [(SEAM_SKIP_COUNT.SKIPS, .ro)] },
  { base := 0xB0001C, count := 2048, stride := 0x40, scope := .half, pfOnly := false, devIdx := false,
    fields := [(SEAM_SAT_COUNT.SATURATIONS, .ro)] },
  { base := 0xB00020, count := 2048, stride := 0x40, scope := .half, pfOnly := false, devIdx := false,
    fields := [(SEAM_NV_WAIT.WAIT_US, .ro)] }]

/-- The GAL_ registers of the map, part 1. -/
def regsGAL1 : List RegDesc := [
  { base := 0xA00000, count := 32, stride := 0x100, scope := .half, pfOnly := false, devIdx := false,
    fields := [(GAL_STATUS.WAVE_ACTIVE, .ro), (GAL_STATUS.PASS, .ro), (GAL_STATUS.SLICE, .ro), (GAL_STATUS.GAIN, .ro), (GAL_STATUS.RPP, .ro), (GAL_STATUS.GROUP, .ro), (GAL_STATUS.OUTFMT, .ro)] },
  { base := 0xA00004, count := 32, stride := 0x100, scope := .half, pfOnly := false, devIdx := false,
    fields := [(GAL_EVENT.CLIPPED, .w1c), (GAL_EVENT.ACC_SAT, .w1c), (GAL_EVENT.FP_RANGE, .w1c), (GAL_EVENT.NAN_OUT, .w1c)] },
  { base := 0xA00008, count := 32, stride := 0x100, scope := .half, pfOnly := false, devIdx := false,
    fields := [(GAL_RETRY_COUNT.PASSES, .ro)] },
  { base := 0xA0000C, count := 32, stride := 0x100, scope := .half, pfOnly := false, devIdx := false,
    fields := [(GAL_CLIP_COUNT.CLAMPS, .ro)] },
  { base := 0xA00010, count := 32, stride := 0x100, scope := .half, pfOnly := false, devIdx := false,
    fields := [(GAL_CHK_CTRL.EN, .rw), (GAL_CHK_CTRL.MISS_ACTION, .rw), (GAL_CHK_CTRL.MARGIN, .rw)] },
  { base := 0xA00014, count := 32, stride := 0x100, scope := .half, pfOnly := false, devIdx := false,
    fields := [(GAL_CHK_EVENT.MISS, .w1c), (GAL_CHK_EVENT.EXCLUDED, .w1c)] },
  { base := 0xA00018, count := 32, stride := 0x100, scope := .half, pfOnly := false, devIdx := false,
    fields := [(GAL_CHK_TESTS.TESTS, .ro)] },
  { base := 0xA0001C, count := 32, stride := 0x100, scope := .half, pfOnly := false, devIdx := false,
    fields := [(GAL_CHK_MISSES.MISSES, .ro)] },
  { base := 0xA00020, count := 32, stride := 0x100, scope := .half, pfOnly := false, devIdx := false,
    fields := [(GAL_CHK_LAST.GROUP, .ro), (GAL_CHK_LAST.OUT_GROUP, .ro), (GAL_CHK_LAST.PLANE, .ro)] },
  { base := 0xA00024, count := 32, stride := 0x100, scope := .half, pfOnly := false, devIdx := false,
    fields := [(GAL_CHK_LAST_DELTA.DELTA, .ro)] },
  { base := 0xA00028, count := 32, stride := 0x100, scope := .half, pfOnly := false, devIdx := false,
    fields := [(GAL_CHK_LAST_TOL.TOL, .ro)] },
  { base := 0xA00030, count := 32, stride := 0x100, scope := .half, pfOnly := true, devIdx := false,
    fields := [(GAL_SEQ_CTRL.WDOG_US, .rw)] }]

/-- The GAL_ registers of the map, part 2. -/
def regsGAL2 : List RegDesc := [
  { base := 0xA00034, count := 32, stride := 0x100, scope := .half, pfOnly := false, devIdx := false,
    fields := [(GAL_SEQ_STATUS.RUNNING, .ro), (GAL_SEQ_STATUS.PC, .ro), (GAL_SEQ_STATUS.STATE, .ro), (GAL_SEQ_STATUS.MISS, .ro), (GAL_SEQ_STATUS.CLIP, .ro)] },
  { base := 0xA00038, count := 32, stride := 0x100, scope := .half, pfOnly := false, devIdx := false,
    fields := [(GAL_SEQ_EVENT.ILLEGAL, .w1c), (GAL_SEQ_EVENT.WDOG, .w1c), (GAL_SEQ_EVENT.PC_RANGE, .w1c), (GAL_SEQ_EVENT.STORE_REFUSED, .w1c), (GAL_SEQ_EVENT.DEST_SAT, .w1c)] },
  { base := 0xA0003C, count := 32, stride := 0x100, scope := .half, pfOnly := false, devIdx := false,
    fields := [(GAL_SEQ_FAULT.PC, .ro), (GAL_SEQ_FAULT.CAUSE, .ro)] },
  { base := 0xA00040, count := 32, stride := 0x100, scope := .half, pfOnly := false, devIdx := false,
    fields := [(GAL_SEQ_FAULT_WORD.WORD, .ro)] },
  { base := 0xA00044, count := 32, stride := 0x100, scope := .half, pfOnly := false, devIdx := false,
    fields := [(GAL_SEQ_INSTR.WORDS, .ro)] },
  { base := 0xA00048, count := 32, stride := 0x100, scope := .half, pfOnly := false, devIdx := false,
    fields := [(GAL_SEQ_STALL.NS, .ro)] },
  { base := 0xA0004C, count := 32, stride := 0x100, scope := .half, pfOnly := false, devIdx := false,
    fields := [(GAL_SEQ_WAITS.NS, .ro)] },
  { base := 0xA40000, count := 32768, stride := 0x4, scope := .half, pfOnly := true, devIdx := false,
    fields := [(GAL_PROG.WORD, .rw)] },
  { base := 0xA60000, count := 256, stride := 0x4, scope := .half, pfOnly := false, devIdx := false,
    fields := [(GAL_SEQ_CNT.VALUE, .ro)] }]

/-- The CHM_ registers of the map, part 1. -/
def regsCHM1 : List RegDesc := [
  { base := 0xA20000, count := 512, stride := 0x20, scope := .half, pfOnly := false, devIdx := false,
    fields := [(CHM_RETRY.HALF_SPLITS, .ro), (CHM_RETRY.QUARTER_SPLITS, .ro)] },
  { base := 0xA20004, count := 512, stride := 0x20, scope := .half, pfOnly := false, devIdx := false,
    fields := [(CHM_CLIP.CLAMPS, .ro)] }]

/-- The NV_ registers of the map, part 1. -/
def regsNV1 : List RegDesc := [
  { base := 0xC01000, count := 1, stride := 0x4, scope := .half, pfOnly := false, devIdx := false,
    fields := [(NV_REFRESH_CTRL.EN, .rw), (NV_REFRESH_CTRL.CATCHUP, .ro), (NV_REFRESH_CTRL.BG_PARALLEL, .rw), (NV_REFRESH_CTRL.CU_PARALLEL, .rw)] },
  { base := 0xC01004, count := 1, stride := 0x4, scope := .half, pfOnly := false, devIdx := false,
    fields := [(NV_REFRESH_INTERVAL.MINUTES, .rw)] },
  { base := 0xC01008, count := 1, stride := 0x4, scope := .half, pfOnly := false, devIdx := false,
    fields := [(NV_WALL_MINUTES.MINUTES, .rw)] },
  { base := 0xC0100C, count := 1, stride := 0x4, scope := .half, pfOnly := false, devIdx := false,
    fields := [(NV_REFRESH_STATUS.DUE, .ro), (NV_REFRESH_STATUS.HIGH_GUARD, .ro)] },
  { base := 0xC01010, count := 1, stride := 0x4, scope := .half, pfOnly := false, devIdx := false,
    fields := [(NV_CHK_POLICY.CHK_THRESH, .rw), (NV_CHK_POLICY.WATCH, .rw)] },
  { base := 0xC40000, count := 1024, stride := 0x8, scope := .half, pfOnly := false, devIdx := false,
    fields := [(NV_STUCK_LOC.PLANE, .ro), (NV_STUCK_LOC.ROW, .ro)] },
  { base := 0xC40004, count := 1024, stride := 0x8, scope := .half, pfOnly := false, devIdx := false,
    fields := [(NV_STUCK_INFO.COL, .ro), (NV_STUCK_INFO.CELL, .ro), (NV_STUCK_INFO.KIND, .ro), (NV_STUCK_INFO.LEVEL, .ro), (NV_STUCK_INFO.W_INT, .ro), (NV_STUCK_INFO.W_ACT, .ro), (NV_STUCK_INFO.STATE, .rw)] },
  { base := 0xC80000, count := 32768, stride := 0x10, scope := .half, pfOnly := false, devIdx := false,
    fields := [(NV_PLANE_HEALTH.NSTATE, .ro), (NV_PLANE_HEALTH.STATE, .ro), (NV_PLANE_HEALTH.INCOMPLETE, .ro), (NV_PLANE_HEALTH.MISS_COUNT, .ro), (NV_PLANE_HEALTH.PE_CYCLES, .ro)] },
  { base := 0xC80004, count := 32768, stride := 0x10, scope := .half, pfOnly := false, devIdx := false,
    fields := [(NV_PLANE_SUSPECT.GROUPS, .w1c)] },
  { base := 0xC80008, count := 32768, stride := 0x10, scope := .half, pfOnly := false, devIdx := false,
    fields := [(NV_PLANE_AGE.MINUTES, .ro)] },
  { base := 0xC00000, count := 1, stride := 0x4, scope := .half, pfOnly := false, devIdx := false,
    fields := [(NV_CMD_STATUS.PORT_STATE, .ro), (NV_CMD_STATUS.DONE, .w1c), (NV_CMD_STATUS.SEQ_ERR, .w1c), (NV_CMD_STATUS.CMD, .ro), (NV_CMD_STATUS.RESULT, .ro)] },
  { base := 0xC00004, count := 1, stride := 0x4, scope := .half, pfOnly := false, devIdx := false,
    fields := [(NV_CMD_TAG.TAG, .ro)] }]

/-- The NV_ registers of the map, part 2. -/
def regsNV2 : List RegDesc := [
  { base := 0xC00008, count := 1, stride := 0x4, scope := .half, pfOnly := false, devIdx := false,
    fields := [(NV_CMD_PROGRESS.DONE_UNITS, .ro), (NV_CMD_PROGRESS.TOTAL_UNITS, .ro)] },
  { base := 0xC0000C, count := 1, stride := 0x4, scope := .half, pfOnly := false, devIdx := false,
    fields := [(NV_CMD_CTRL.IRQ_EN, .rw)] },
  { base := 0xC00010, count := 1, stride := 0x4, scope := .half, pfOnly := false, devIdx := false,
    fields := [(NV_PUMP_STATUS.PULSING, .ro), (NV_PUMP_STATUS.IN_PROGRAM, .ro)] },
  { base := 0xC00020, count := 1, stride := 0x4, scope := .half, pfOnly := false, devIdx := false,
    fields := [(NV_LDR_STATUS.PORT_STATE, .ro), (NV_LDR_STATUS.DONE, .ro), (NV_LDR_STATUS.SEQ_ERR, .ro), (NV_LDR_STATUS.CMD, .ro), (NV_LDR_STATUS.RESULT, .ro)] },
  { base := 0xC00100, count := 1, stride := 0x4, scope := .half, pfOnly := false, devIdx := false,
    fields := [(NV_BROWNOUT.TRIPS, .ro), (NV_BROWNOUT.ACTIVE, .ro)] },
  { base := 0xC00200, count := 1, stride := 0x4, scope := .half, pfOnly := false, devIdx := false,
    fields := [(NV_LEDGER_STATUS.FREE, .ro), (NV_LEDGER_STATUS.BANK, .ro), (NV_LEDGER_STATUS.COMPACTING, .ro), (NV_LEDGER_STATUS.INCOMPLETE_COUNT, .ro)] },
  { base := 0xC00210, count := 4, stride := 0x4, scope := .half, pfOnly := false, devIdx := false,
    fields := [(NV_INCOMPLETE.PLANE, .ro), (NV_INCOMPLETE.VALID, .ro)] },
  { base := 0xC00400, count := 512, stride := 0x4, scope := .half, pfOnly := false, devIdx := false,
    fields := [(NV_PROT_STATE.MODE, .ro), (NV_PROT_STATE.FAIL_COUNT, .ro)] },
  { base := 0xC02000, count := 1, stride := 0x4, scope := .half, pfOnly := true, devIdx := false,
    fields := [(NV_LDR_RING_LO.BASE_LO, .rw)] },
  { base := 0xC02004, count := 1, stride := 0x4, scope := .half, pfOnly := true, devIdx := false,
    fields := [(NV_LDR_RING_HI.BASE_HI, .rw)] },
  { base := 0xC02008, count := 1, stride := 0x4, scope := .half, pfOnly := true, devIdx := false,
    fields := [(NV_LDR_RING_CTRL.EN, .rw), (NV_LDR_RING_CTRL.WHERE, .rw), (NV_LDR_RING_CTRL.ABORT, .w1s), (NV_LDR_RING_CTRL.IRQ_EN, .rw), (NV_LDR_RING_CTRL.SIZE, .rw), (NV_LDR_RING_CTRL.PASID, .rw)] },
  { base := 0xC0200C, count := 1, stride := 0x4, scope := .half, pfOnly := true, devIdx := false,
    fields := [(NV_LDR_TAIL.TAIL, .rw)] }]

/-- The NV_ registers of the map, part 3. -/
def regsNV3 : List RegDesc := [
  { base := 0xC02010, count := 1, stride := 0x4, scope := .half, pfOnly := true, devIdx := false,
    fields := [(NV_LDR_HEAD.HEAD, .ro), (NV_LDR_HEAD.BUSY, .ro)] }]

/-- The JCT_ registers of the map, part 1. -/
def regsJCT1 : List RegDesc := [
  { base := 0x380000, count := 512, stride := 0x40, scope := .half, pfOnly := true, devIdx := false,
    fields := [(JCT_WSET_CTRL.CONTEXT, .ro), (JCT_WSET_CTRL.VALID, .ro), (JCT_WSET_CTRL.ROUTE, .rw), (JCT_WSET_CTRL.CUR_SLOT, .ro), (JCT_WSET_CTRL.HAS_CURRENT, .ro)] },
  { base := 0x380004, count := 512, stride := 0x40, scope := .half, pfOnly := true, devIdx := false,
    fields := [(JCT_WSET_FOOT.FIRST, .rw), (JCT_WSET_FOOT.COUNT, .rw)] },
  { base := 0x380008, count := 512, stride := 0x40, scope := .half, pfOnly := true, devIdx := false,
    fields := [(JCT_WSET_CMD.OP, .wo), (JCT_WSET_CMD.SLOT, .wo), (JCT_WSET_CMD.CONTEXT, .wo), (JCT_WSET_CMD.VERSION, .wo)] },
  { base := 0x38000C, count := 512, stride := 0x40, scope := .half, pfOnly := true, devIdx := false,
    fields := [(JCT_WSET_RESULT.OP, .ro), (JCT_WSET_RESULT.SLOT, .ro), (JCT_WSET_RESULT.DONE, .w1c), (JCT_WSET_RESULT.CODE, .ro), (JCT_WSET_RESULT.RELEASED, .w1c)] },
  { base := 0x380010, count := 1024, stride := 0x20, scope := .half, pfOnly := true, devIdx := false,
    fields := [(JCT_WSET_SLOT.STATE, .ro), (JCT_WSET_SLOT.VERSION, .ro)] },
  { base := 0x380014, count := 1024, stride := 0x20, scope := .half, pfOnly := true, devIdx := false,
    fields := [(JCT_WSET_MAP_LO.P_LO, .rw)] },
  { base := 0x380018, count := 1024, stride := 0x20, scope := .half, pfOnly := true, devIdx := false,
    fields := [(JCT_WSET_MAP_HI.P_HI, .rw)] },
  { base := 0x38001C, count := 1024, stride := 0x20, scope := .half, pfOnly := true, devIdx := false,
    fields := [(JCT_WSET_LIVE.LVALID, .rw), (JCT_WSET_LIVE.IN_FLIGHT, .ro)] },
  { base := 0x388000, count := 8, stride := 0x4, scope := .west, pfOnly := true, devIdx := false,
    fields := [(JCT_WSET_SWITCH_LIST.SET, .rw), (JCT_WSET_SWITCH_LIST.HALF, .rw), (JCT_WSET_SWITCH_LIST.SLOT, .rw), (JCT_WSET_SWITCH_LIST.VALID, .rw)] },
  { base := 0x388020, count := 1, stride := 0x4, scope := .west, pfOnly := true, devIdx := false,
    fields := [(JCT_WSET_SWITCH.CONTEXT, .rw), (JCT_WSET_SWITCH.GO, .w1s), (JCT_WSET_SWITCH.CODE, .ro)] },
  { base := 0x200000, count := 1, stride := 0x4, scope := .half, pfOnly := false, devIdx := false,
    fields := [(JCT_CAPS.FMT_MASK, .ro), (JCT_CAPS.NODE_SLOTS, .ro)] },
  { base := 0x200004, count := 1, stride := 0x4, scope := .half, pfOnly := false, devIdx := false,
    fields := [(JCT_STATUS.NODES, .ro), (JCT_STATUS.GRAPHS, .ro), (JCT_STATUS.RESERVING, .ro)] }]

/-- The JCT_ registers of the map, part 2. -/
def regsJCT2 : List RegDesc := [
  { base := 0x200008, count := 1, stride := 0x4, scope := .half, pfOnly := false, devIdx := false,
    fields := [(JCT_EVENT.REFUSED, .w1c), (JCT_EVENT.ESCALATED, .w1c), (JCT_EVENT.OPEN_NODE, .w1c), (JCT_EVENT.CQ_FULL, .w1c), (JCT_EVENT.DOORBELL_IGNORED, .w1c)] },
  { base := 0x200010, count := 4, stride := 0x4, scope := .half, pfOnly := true, devIdx := false,
    fields := [(JCT_STARVE.US, .rw)] },
  { base := 0x200020, count := 1, stride := 0x4, scope := .half, pfOnly := true, devIdx := false,
    fields := [(JCT_ADMIT_CTRL.RESERVE_US, .rw)] },
  { base := 0x200030, count := 1, stride := 0x4, scope := .west, pfOnly := false, devIdx := false,
    fields := [(JCT_CONTROL.OP, .rw), (JCT_CONTROL.GO, .w1s), (JCT_CONTROL.DONE, .w1c), (JCT_CONTROL.CODE, .ro), (JCT_CONTROL.CONTEXT, .rw), (JCT_CONTROL.NODE, .rw)] },
  { base := 0x200034, count := 1, stride := 0x4, scope := .west, pfOnly := false, devIdx := false,
    fields := [(JCT_CONTROL_GRAPH.GRAPH_ID, .rw), (JCT_CONTROL_GRAPH.REASON, .ro)] },
  { base := 0x200100, count := 1, stride := 0x4, scope := .half, pfOnly := false, devIdx := false,
    fields := [(JCT_DISPATCHES.NODES, .ro)] },
  { base := 0x200104, count := 1, stride := 0x4, scope := .half, pfOnly := false, devIdx := false,
    fields := [(JCT_ESCALATIONS.NODES, .ro)] },
  { base := 0x200108, count := 1, stride := 0x4, scope := .half, pfOnly := false, devIdx := false,
    fields := [(JCT_TOKENS_OUT.TOKENS, .ro)] },
  { base := 0x20010C, count := 1, stride := 0x4, scope := .half, pfOnly := false, devIdx := false,
    fields := [(JCT_TOKENS_IN.TOKENS, .ro)] },
  { base := 0x200110, count := 1, stride := 0x4, scope := .half, pfOnly := false, devIdx := false,
    fields := [(JCT_REFUSALS.GRAPHS, .ro)] },
  { base := 0x200120, count := 4, stride := 0x4, scope := .half, pfOnly := false, devIdx := false,
    fields := [(JCT_READY_WAIT.US, .ro)] },
  { base := 0x210000, count := 256, stride := 0x40, scope := .west, pfOnly := true, devIdx := false,
    fields := [(JCT_CTX_CFG.EN, .rw), (JCT_CTX_CFG.FMT_VERSION, .rw), (JCT_CTX_CFG.PRIO_FLOOR, .rw), (JCT_CTX_CFG.SQ_WHERE, .rw), (JCT_CTX_CFG.CQ_WHERE, .rw), (JCT_CTX_CFG.SQ_SIZE, .rw), (JCT_CTX_CFG.CQ_SIZE, .rw), (JCT_CTX_CFG.MAX_GRAPHS, .rw)] }]

/-- The JCT_ registers of the map, part 3. -/
def regsJCT3 : List RegDesc := [
  { base := 0x210004, count := 256, stride := 0x40, scope := .west, pfOnly := true, devIdx := false,
    fields := [(JCT_CTX_SQ_LO.BASE_LO, .rw)] },
  { base := 0x210008, count := 256, stride := 0x40, scope := .west, pfOnly := true, devIdx := false,
    fields := [(JCT_CTX_SQ_HI.BASE_HI, .rw)] },
  { base := 0x21000C, count := 256, stride := 0x40, scope := .west, pfOnly := true, devIdx := false,
    fields := [(JCT_CTX_SQ_STATE.HEAD, .ro), (JCT_CTX_SQ_STATE.TAIL, .ro)] },
  { base := 0x210010, count := 256, stride := 0x40, scope := .west, pfOnly := true, devIdx := false,
    fields := [(JCT_CTX_CQ_LO.BASE_LO, .rw)] },
  { base := 0x210014, count := 256, stride := 0x40, scope := .west, pfOnly := true, devIdx := false,
    fields := [(JCT_CTX_CQ_HI.BASE_HI, .rw)] },
  { base := 0x210018, count := 256, stride := 0x40, scope := .west, pfOnly := true, devIdx := false,
    fields := [(JCT_CTX_CQ_STATE.TAIL, .ro), (JCT_CTX_CQ_STATE.PHASE, .ro), (JCT_CTX_CQ_STATE.HEAD, .rw)] },
  { base := 0x21001C, count := 256, stride := 0x40, scope := .west, pfOnly := true, devIdx := false,
    fields := [(JCT_CTX_PASID.PASID, .rw)] },
  { base := 0x210020, count := 256, stride := 0x40, scope := .west, pfOnly := true, devIdx := false,
    fields := [(JCT_CTX_INFLIGHT.GRAPHS, .ro), (JCT_CTX_INFLIGHT.NODES, .ro)] }]

/-- The PLZ_ registers of the map, part 1. -/
def regsPLZ1 : List RegDesc := [
  { base := 0x800000, count := 1, stride := 0x4, scope := .half, pfOnly := false, devIdx := false,
    fields := [(PLZ_STATUS.BUSY, .ro), (PLZ_STATUS.KIND, .ro), (PLZ_STATUS.QUADS, .ro), (PLZ_STATUS.WAIT_SLOT, .ro), (PLZ_STATUS.FALLBACK, .ro)] },
  { base := 0x800004, count := 1, stride := 0x4, scope := .half, pfOnly := false, devIdx := false,
    fields := [(PLZ_EVENT.FP_RANGE, .w1c), (PLZ_EVENT.NAN_OUT, .w1c), (PLZ_EVENT.INT_SAT, .w1c), (PLZ_EVENT.FALLBACK, .w1c), (PLZ_EVENT.GATHER_RANGE, .w1c), (PLZ_EVENT.EMPTY_ROW, .w1c)] },
  { base := 0x800008, count := 1, stride := 0x4, scope := .half, pfOnly := false, devIdx := false,
    fields := [(PLZ_OP_COUNT.OPS, .ro)] },
  { base := 0x80000C, count := 1, stride := 0x4, scope := .half, pfOnly := false, devIdx := false,
    fields := [(PLZ_BUSY_CYCLES.CYCLES, .ro)] },
  { base := 0x800010, count := 1, stride := 0x4, scope := .half, pfOnly := false, devIdx := false,
    fields := [(PLZ_WAIT_CYCLES.CYCLES, .ro)] },
  { base := 0x800014, count := 1, stride := 0x4, scope := .half, pfOnly := false, devIdx := false,
    fields := [(PLZ_FALLBACK_COUNT.FALLBACKS, .ro)] }]

/-- The SDS_ registers of the map, part 1. -/
def regsSDS1 : List RegDesc := [
  { base := 0x900000, count := 1, stride := 0x4, scope := .half, pfOnly := false, devIdx := false,
    fields := [(SDS_STATUS.INTERIM, .ro), (SDS_STATUS.BUSY, .ro)] },
  { base := 0x900004, count := 1, stride := 0x4, scope := .half, pfOnly := false, devIdx := false,
    fields := [(SDS_EVENT.SKIPPED, .w1c), (SDS_EVENT.STAGE_ERROR, .w1c), (SDS_EVENT.REGION_REFUSED, .w1c), (SDS_EVENT.OUTLIER_UNMASKED, .w1c)] },
  { base := 0x900008, count := 1, stride := 0x4, scope := .half, pfOnly := false, devIdx := false,
    fields := [(SDS_SKIP_COUNT.WAVES, .ro)] },
  { base := 0x90000C, count := 1, stride := 0x4, scope := .half, pfOnly := false, devIdx := false,
    fields := [(SDS_TIER_WAIT.CYCLES, .ro)] },
  { base := 0x900010, count := 1, stride := 0x4, scope := .half, pfOnly := false, devIdx := false,
    fields := [(SDS_MERGE_WAIT.CYCLES, .ro)] },
  { base := 0x901000, count := 256, stride := 0x10, scope := .half, pfOnly := true, devIdx := false,
    fields := [(SDS_SET_CTRL.CONTEXT, .rw), (SDS_SET_CTRL.VALID, .rw), (SDS_SET_CTRL.STATE, .ro), (SDS_SET_CTRL.STAGE_WAITING, .ro), (SDS_SET_CTRL.USERS, .ro)] },
  { base := 0x901004, count := 256, stride := 0x10, scope := .half, pfOnly := true, devIdx := false,
    fields := [(SDS_SET_REGION.BASE, .rw), (SDS_SET_REGION.SIZE, .rw)] },
  { base := 0x902000, count := 256, stride := 0x4, scope := .half, pfOnly := true, devIdx := false,
    fields := [(SDS_CTX_QUOTA.LIMIT, .rw), (SDS_CTX_QUOTA.USED, .ro)] }]

/-- The MEM_ registers of the map, part 1. -/
def regsMEM1 : List RegDesc := [
  { base := 0x400000, count := 8, stride := 0x4, scope := .half, pfOnly := true, devIdx := false,
    fields := [(MEM_CMD.WORD, .rw)] },
  { base := 0x400020, count := 1, stride := 0x4, scope := .half, pfOnly := true, devIdx := false,
    fields := [(MEM_CMD_CTRL.GO, .w1s), (MEM_CMD_CTRL.BUSY, .ro), (MEM_CMD_CTRL.DONE, .w1c), (MEM_CMD_CTRL.RESULT, .ro)] },
  { base := 0x400100, count := 1, stride := 0x4, scope := .half, pfOnly := true, devIdx := false,
    fields := [(MEM_POOL_CTRL.BASE, .rw), (MEM_POOL_CTRL.SIZE, .rw)] },
  { base := 0x400104, count := 1, stride := 0x4, scope := .half, pfOnly := true, devIdx := false,
    fields := [(MEM_POOL_STATUS.USED, .ro), (MEM_POOL_STATUS.WAITERS, .ro)] },
  { base := 0x500000, count := 32768, stride := 0x20, scope := .half, pfOnly := true, devIdx := false,
    fields := [(MEM_HOME.VERSION, .ro), (MEM_HOME.STATE, .ro), (MEM_HOME.TIER, .ro), (MEM_HOME.CONTEXT, .ro), (MEM_HOME.GEN, .ro), (MEM_HOME.SWEEP, .ro), (MEM_HOME.EVICT_FAIL, .ro), (MEM_HOME.FLAGS, .ro), (MEM_HOME.USE_W, .ro), (MEM_HOME.USE_R, .ro), (MEM_HOME.BASE, .ro), (MEM_HOME.DEST, .ro), (MEM_HOME.DEST_TIER, .ro), (MEM_HOME.LAST_USE, .ro), (MEM_HOME.BACKING, .ro), (MEM_HOME.SIZE_LO, .ro), (MEM_HOME.SIZE_HI, .ro)] },
  { base := 0x401000, count := 256, stride := 0x20, scope := .half, pfOnly := true, devIdx := false,
    fields := [(MEM_CTX_T0.LIMIT, .rw), (MEM_CTX_T0.USED, .ro)] },
  { base := 0x401004, count := 256, stride := 0x20, scope := .half, pfOnly := true, devIdx := false,
    fields := [(MEM_CTX_T1.LIMIT, .rw), (MEM_CTX_T1.USED, .ro)] },
  { base := 0x401008, count := 256, stride := 0x20, scope := .half, pfOnly := true, devIdx := false,
    fields := [(MEM_CTX_T2_LIMIT.LIMIT, .rw)] },
  { base := 0x40100C, count := 256, stride := 0x20, scope := .half, pfOnly := true, devIdx := false,
    fields := [(MEM_CTX_T2_USED.USED, .ro)] },
  { base := 0x401010, count := 256, stride := 0x20, scope := .half, pfOnly := true, devIdx := false,
    fields := [(MEM_CTX_POOL.LIMIT, .rw), (MEM_CTX_POOL.USED, .ro)] },
  { base := 0x400120, count := 1, stride := 0x4, scope := .half, pfOnly := true, devIdx := false,
    fields := [(MEM_EVENT.ALLOC_TIMEOUT, .w1c), (MEM_EVENT.PARITY_UE, .w1c), (MEM_EVENT.SECDED_CE, .w1c), (MEM_EVENT.SECDED_UE, .w1c), (MEM_EVENT.SUBWORD_DISCARD, .w1c), (MEM_EVENT.EVICT_FAIL, .w1c), (MEM_EVENT.ACCESS_REFUSED, .w1c)] },
  { base := 0x400130, count := 1, stride := 0x4, scope := .half, pfOnly := false, devIdx := false,
    fields := [(MEM_PARITY_REPLAY.REPLAYS, .ro)] }]

/-- The MEM_ registers of the map, part 2. -/
def regsMEM2 : List RegDesc := [
  { base := 0x400134, count := 1, stride := 0x4, scope := .half, pfOnly := false, devIdx := false,
    fields := [(MEM_PARITY_UE.WORDS, .ro)] },
  { base := 0x400138, count := 1, stride := 0x4, scope := .half, pfOnly := false, devIdx := false,
    fields := [(MEM_SECDED_CE.WORDS, .ro)] },
  { base := 0x40013C, count := 1, stride := 0x4, scope := .half, pfOnly := false, devIdx := false,
    fields := [(MEM_SECDED_UE.WORDS, .ro)] },
  { base := 0x400140, count := 1, stride := 0x4, scope := .half, pfOnly := false, devIdx := false,
    fields := [(MEM_ALLOC_WAIT.US, .ro)] },
  { base := 0x400144, count := 1, stride := 0x4, scope := .half, pfOnly := false, devIdx := false,
    fields := [(MEM_BIND_WAIT.US, .ro)] },
  { base := 0x400148, count := 1, stride := 0x4, scope := .half, pfOnly := false, devIdx := false,
    fields := [(MEM_EVICT_COUNT.OBJECTS, .ro)] },
  { base := 0x40014C, count := 1, stride := 0x4, scope := .half, pfOnly := false, devIdx := false,
    fields := [(MEM_MOVE_COUNT.OBJECTS, .ro)] },
  { base := 0x400150, count := 1, stride := 0x4, scope := .half, pfOnly := true, devIdx := false,
    fields := [(MEM_SELFTEST.BANK_FAIL, .ro), (MEM_SELFTEST.LANES_FAIL, .ro), (MEM_SELFTEST.STACK_FAIL, .ro), (MEM_SELFTEST.DONE, .ro)] }]

/-- The SWP_ registers of the map, part 1. -/
def regsSWP1 : List RegDesc := [
  { base := 0x404000, count := 1, stride := 0x4, scope := .half, pfOnly := true, devIdx := false,
    fields := [(SWP_CTRL.EN_T1, .rw), (SWP_CTRL.EN_T2, .rw)] },
  { base := 0x404004, count := 1, stride := 0x4, scope := .half, pfOnly := true, devIdx := false,
    fields := [(SWP_RATE.T1_MIBS, .rw), (SWP_RATE.T2_MIBS, .rw)] },
  { base := 0x404008, count := 1, stride := 0x4, scope := .half, pfOnly := false, devIdx := false,
    fields := [(SWP_STATUS.TIER, .ro), (SWP_STATUS.BEHIND, .w1c)] },
  { base := 0x40400C, count := 1, stride := 0x4, scope := .half, pfOnly := false, devIdx := false,
    fields := [(SWP_POS.BURST, .ro)] },
  { base := 0x404010, count := 1, stride := 0x4, scope := .half, pfOnly := false, devIdx := false,
    fields := [(SWP_PASSES.PASSES, .ro)] },
  { base := 0x404014, count := 1, stride := 0x4, scope := .half, pfOnly := false, devIdx := false,
    fields := [(SWP_CE.WORDS, .ro)] },
  { base := 0x404018, count := 1, stride := 0x4, scope := .half, pfOnly := false, devIdx := false,
    fields := [(SWP_UE.WORDS, .ro)] }]

/-- The STR_ registers of the map, part 1. -/
def regsSTR1 : List RegDesc := [
  { base := 0x600000, count := 64, stride := 0x40, scope := .half, pfOnly := false, devIdx := true,
    fields := [(STR_CTRL.ABORT, .w1s), (STR_CTRL.IRQ_EN, .rw)] },
  { base := 0x600004, count := 64, stride := 0x40, scope := .half, pfOnly := false, devIdx := true,
    fields := [(STR_STATUS.STATE, .ro), (STR_STATUS.SHADOW_FULL, .ro), (STR_STATUS.ORIGIN, .ro), (STR_STATUS.CAUSE, .ro), (STR_STATUS.RING, .ro), (STR_STATUS.ATTACHED, .ro), (STR_STATUS.ROLE, .ro)] },
  { base := 0x600008, count := 64, stride := 0x40, scope := .half, pfOnly := true, devIdx := true,
    fields := [(STR_ARM_LO.HANDLE, .rw)] },
  { base := 0x60000C, count := 64, stride := 0x40, scope := .half, pfOnly := true, devIdx := true,
    fields := [(STR_ARM_HI.OFFSET, .rw)] },
  { base := 0x600010, count := 64, stride := 0x40, scope := .half, pfOnly := true, devIdx := true,
    fields := [(STR_ARM_CTRL.CONTEXT, .rw), (STR_ARM_CTRL.GO, .w1s), (STR_ARM_CTRL.RESUME, .rw), (STR_ARM_CTRL.CODE, .ro), (STR_ARM_CTRL.DONE, .w1c)] },
  { base := 0x600014, count := 64, stride := 0x40, scope := .half, pfOnly := false, devIdx := true,
    fields := [(STR_FAULT_LO.ADDR_LO, .ro)] },
  { base := 0x600018, count := 64, stride := 0x40, scope := .half, pfOnly := false, devIdx := true,
    fields := [(STR_FAULT_HI.ADDR_HI, .ro)] },
  { base := 0x60001C, count := 64, stride := 0x40, scope := .half, pfOnly := false, devIdx := true,
    fields := [(STR_FAULT_INFO.PASID, .ro), (STR_FAULT_INFO.WRITE, .ro), (STR_FAULT_INFO.PENDING, .ro)] },
  { base := 0x600020, count := 64, stride := 0x40, scope := .half, pfOnly := false, devIdx := true,
    fields := [(STR_BEATS.BEATS, .ro)] },
  { base := 0x600024, count := 64, stride := 0x40, scope := .half, pfOnly := false, devIdx := true,
    fields := [(STR_FAULTS.FAULTS, .ro)] },
  { base := 0x600028, count := 64, stride := 0x40, scope := .half, pfOnly := false, devIdx := true,
    fields := [(STR_DRAIN_CYCLES.CYCLES, .ro)] },
  { base := 0x610000, count := 512, stride := 0x4, scope := .half, pfOnly := false, devIdx := true,
    fields := [(STR_POS.INDEX, .ro)] }]

/-- The STR_ registers of the map, part 2. -/
def regsSTR2 : List RegDesc := [
  { base := 0x620000, count := 1, stride := 0x4, scope := .half, pfOnly := true, devIdx := false,
    fields := [(STR_FAULT_CTRL.TIMEOUT_MS, .rw)] },
  { base := 0x620004, count := 1, stride := 0x4, scope := .half, pfOnly := false, devIdx := false,
    fields := [(STR_EVENT.ARM_DONE, .w1c), (STR_EVENT.REARM_REJECTED, .w1c), (STR_EVENT.PAGE_FAULT, .w1c), (STR_EVENT.RING_BROKEN, .w1c)] },
  { base := 0x640000, count := 64, stride := 0x20, scope := .half, pfOnly := true, devIdx := false,
    fields := [(STR_RING_CFG.VALID, .rw), (STR_RING_CFG.SLOTS, .rw), (STR_RING_CFG.SLOT_KIB, .rw), (STR_RING_CFG.CONTEXT, .rw)] },
  { base := 0x640004, count := 64, stride := 0x20, scope := .half, pfOnly := true, devIdx := false,
    fields := [(STR_RING_BASE.HANDLE, .rw)] },
  { base := 0x640008, count := 64, stride := 0x20, scope := .half, pfOnly := true, devIdx := false,
    fields := [(STR_RING_OFFSET.OFFSET, .rw)] },
  { base := 0x64000C, count := 64, stride := 0x20, scope := .half, pfOnly := false, devIdx := false,
    fields := [(STR_RING_STATE.HEAD, .ro), (STR_RING_STATE.TAIL, .ro), (STR_RING_STATE.FULL, .ro), (STR_RING_STATE.PRODUCER, .ro), (STR_RING_STATE.CONSUMER, .ro), (STR_RING_STATE.BROKEN, .ro)] },
  { base := 0x640010, count := 64, stride := 0x20, scope := .half, pfOnly := false, devIdx := false,
    fields := [(STR_RING_FULL_CYCLES.CYCLES, .ro)] },
  { base := 0x640014, count := 64, stride := 0x20, scope := .half, pfOnly := false, devIdx := false,
    fields := [(STR_RING_ERR.SLOT_ERR, .ro)] },
  { base := 0x660000, count := 512, stride := 0x4, scope := .half, pfOnly := false, devIdx := false,
    fields := [(STR_STALL.CYCLES, .ro)] }]

/-- The CSW_ registers of the map, part 1. -/
def regsCSW1 : List RegDesc := [
  { base := 0xE00000, count := 8, stride := 0x40, scope := .half, pfOnly := true, devIdx := true,
    fields := [(CSW_PORT_CFG.EN, .rw), (CSW_PORT_CFG.VER_MAX, .rw), (CSW_PORT_CFG.RATE_112_EN, .rw), (CSW_PORT_CFG.MIN_WIDTH, .rw), (CSW_PORT_CFG.EXPECT_NODE, .rw), (CSW_PORT_CFG.EXPECT_PORT, .rw), (CSW_PORT_CFG.EXPECT_EN, .rw), (CSW_PORT_CFG.RETRAIN, .w1s)] },
  { base := 0xE00004, count := 8, stride := 0x40, scope := .half, pfOnly := false, devIdx := true,
    fields := [(CSW_PORT_STATUS.STATE, .ro), (CSW_PORT_STATUS.VER, .ro), (CSW_PORT_STATUS.RATE, .ro), (CSW_PORT_STATUS.WIDTH, .ro), (CSW_PORT_STATUS.LANES, .ro), (CSW_PORT_STATUS.PEER_NODE, .ro), (CSW_PORT_STATUS.PEER_PORT, .ro)] },
  { base := 0xE00008, count := 8, stride := 0x40, scope := .half, pfOnly := true, devIdx := true,
    fields := [(CSW_PORT_EVENT.CRC_ERR, .w1c), (CSW_PORT_EVENT.REPLAY, .w1c), (CSW_PORT_EVENT.RETRAIN, .w1c), (CSW_PORT_EVENT.WIDTH_DOWN, .w1c), (CSW_PORT_EVENT.RATE_DOWN, .w1c), (CSW_PORT_EVENT.DOWN, .w1c), (CSW_PORT_EVENT.MISMATCH, .w1c), (CSW_PORT_EVENT.REPLAY_LIMIT, .w1c)] },
  { base := 0xE0000C, count := 8, stride := 0x40, scope := .half, pfOnly := false, devIdx := true,
    fields := [(CSW_PORT_TX_FLITS.FLITS, .ro)] },
  { base := 0xE00010, count := 8, stride := 0x40, scope := .half, pfOnly := false, devIdx := true,
    fields := [(CSW_PORT_RX_FLITS.FLITS, .ro)] },
  { base := 0xE00014, count := 8, stride := 0x40, scope := .half, pfOnly := false, devIdx := true,
    fields := [(CSW_PORT_CRC_ERRS.FLITS, .ro)] },
  { base := 0xE00018, count := 8, stride := 0x40, scope := .half, pfOnly := false, devIdx := true,
    fields := [(CSW_PORT_REPLAYS.EVENTS, .ro)] },
  { base := 0xE0001C, count := 8, stride := 0x40, scope := .half, pfOnly := false, devIdx := true,
    fields := [(CSW_PORT_RETRAINS.EVENTS, .ro)] },
  { base := 0xE01000, count := 1, stride := 0x4, scope := .half, pfOnly := true, devIdx := false,
    fields := [(CSW_NODE.NODE, .ro), (CSW_NODE.HOSTLESS, .ro)] },
  { base := 0xE01004, count := 1, stride := 0x4, scope := .west, pfOnly := true, devIdx := false,
    fields := [(CSW_MASTER_CFG.BACKUP, .rwl), (CSW_MASTER_CFG.BACKUP_EN, .rwl), (CSW_MASTER_CFG.HEARTBEAT_MS, .rw), (CSW_MASTER_CFG.LOSS_MS, .rw)] },
  { base := 0xE01008, count := 1, stride := 0x4, scope := .west, pfOnly := false, devIdx := false,
    fields := [(CSW_MASTER_STATUS.ROLE, .ro), (CSW_MASTER_STATUS.MASTER, .ro), (CSW_MASTER_STATUS.EPOCH, .ro)] },
  { base := 0xE0100C, count := 1, stride := 0x4, scope := .half, pfOnly := true, devIdx := false,
    fields := [(CSW_E2E_CTRL.TIMEOUT_MS, .rw)] }]

/-- The CSW_ registers of the map, part 2. -/
def regsCSW2 : List RegDesc := [
  { base := 0xE01010, count := 1, stride := 0x4, scope := .half, pfOnly := true, devIdx := false,
    fields := [(CSW_EVENT.ROUTE_DROP, .w1c), (CSW_EVENT.TAKEOVER, .w1c), (CSW_EVENT.MGMT_REFUSED, .w1c), (CSW_EVENT.QUEUE_BROKEN, .w1c), (CSW_EVENT.BARRIER_BROKEN, .w1c), (CSW_EVENT.BUDGET_REVERT, .w1c), (CSW_EVENT.BATCH_TIMEOUT, .w1c)] },
  { base := 0xE01014, count := 1, stride := 0x4, scope := .half, pfOnly := false, devIdx := false,
    fields := [(CSW_ROUTE_DROPS.FLITS, .ro)] },
  { base := 0xE10000, count := 16384, stride := 0x4, scope := .half, pfOnly := true, devIdx := false,
    fields := [(CSW_ROUTE.PRIMARY, .rw), (CSW_ROUTE.P_VALID, .rw), (CSW_ROUTE.P_DATELINE, .rw), (CSW_ROUTE.ALT, .rw), (CSW_ROUTE.A_VALID, .rw), (CSW_ROUTE.A_DATELINE, .rw), (CSW_ROUTE.LOCAL, .rw)] },
  { base := 0xE20000, count := 64, stride := 0x20, scope := .half, pfOnly := true, devIdx := false,
    fields := [(CSW_SQ_CFG.VALID, .rw), (CSW_SQ_CFG.CONTEXT, .rw), (CSW_SQ_CFG.DEST_NODE, .rw), (CSW_SQ_CFG.DEST_HALF, .rw), (CSW_SQ_CFG.DEST_QUEUE, .rw)] },
  { base := 0xE20004, count := 64, stride := 0x20, scope := .half, pfOnly := false, devIdx := false,
    fields := [(CSW_SQ_STATE.STATE, .ro), (CSW_SQ_STATE.PRODUCER, .ro), (CSW_SQ_STATE.EPOCH, .ro)] },
  { base := 0xE20008, count := 64, stride := 0x20, scope := .half, pfOnly := false, devIdx := false,
    fields := [(CSW_SQ_SENT.BYTES, .ro)] },
  { base := 0xE2000C, count := 64, stride := 0x20, scope := .half, pfOnly := false, devIdx := false,
    fields := [(CSW_SQ_ACKED.BYTES, .ro)] },
  { base := 0xE30000, count := 64, stride := 0x20, scope := .half, pfOnly := true, devIdx := false,
    fields := [(CSW_RQ_CFG.VALID, .rw), (CSW_RQ_CFG.CONTEXT, .rw), (CSW_RQ_CFG.SRC_NODE, .rw), (CSW_RQ_CFG.SRC_HALF, .rw), (CSW_RQ_CFG.SRC_QUEUE, .rw)] },
  { base := 0xE30004, count := 64, stride := 0x20, scope := .half, pfOnly := true, devIdx := false,
    fields := [(CSW_RQ_BASE.HANDLE, .rw)] },
  { base := 0xE30008, count := 64, stride := 0x20, scope := .half, pfOnly := true, devIdx := false,
    fields := [(CSW_RQ_OFFSET.OFFSET, .rw)] },
  { base := 0xE3000C, count := 64, stride := 0x20, scope := .half, pfOnly := true, devIdx := false,
    fields := [(CSW_RQ_SIZE.KIB, .rw)] },
  { base := 0xE30010, count := 64, stride := 0x20, scope := .half, pfOnly := false, devIdx := false,
    fields := [(CSW_RQ_STATE.STATE, .ro), (CSW_RQ_STATE.CONSUMER, .ro), (CSW_RQ_STATE.EPOCH, .ro)] }]

/-- The CSW_ registers of the map, part 3. -/
def regsCSW3 : List RegDesc := [
  { base := 0xE30014, count := 64, stride := 0x20, scope := .half, pfOnly := false, devIdx := false,
    fields := [(CSW_RQ_FILL.BYTES, .ro)] },
  { base := 0xE30018, count := 64, stride := 0x20, scope := .half, pfOnly := false, devIdx := false,
    fields := [(CSW_RQ_STALE.RECORDS, .ro)] },
  { base := 0xE40000, count := 64, stride := 0x10, scope := .half, pfOnly := true, devIdx := false,
    fields := [(CSW_BAR_CFG.EN, .rw), (CSW_BAR_CFG.CONTEXT, .rw), (CSW_BAR_CFG.ROOT, .rw), (CSW_BAR_CFG.PARENT, .rw), (CSW_BAR_CFG.PARENT_HALF, .rw), (CSW_BAR_CFG.CHILDREN, .rw), (CSW_BAR_CFG.LOCAL, .rw)] },
  { base := 0xE40004, count := 64, stride := 0x10, scope := .half, pfOnly := false, devIdx := false,
    fields := [(CSW_BAR_STATUS.GEN, .ro), (CSW_BAR_STATUS.ARRIVED, .ro), (CSW_BAR_STATUS.LOCAL_ARRIVED, .ro), (CSW_BAR_STATUS.BROKEN, .ro)] },
  { base := 0xE40008, count := 64, stride := 0x10, scope := .half, pfOnly := true, devIdx := false,
    fields := [(CSW_BAR_TIME.US, .ro)] },
  { base := 0xE50000, count := 4096, stride := 0x4, scope := .half, pfOnly := true, devIdx := false,
    fields := [(CSW_EXPERT_MAP.QUEUE, .rw), (CSW_EXPERT_MAP.VALID, .rw)] },
  { base := 0xE60000, count := 1, stride := 0x4, scope := .west, pfOnly := true, devIdx := false,
    fields := [(CSW_BUDGET_CFG.PERIOD_MS, .rw), (CSW_BUDGET_CFG.STEP_W, .rw), (CSW_BUDGET_CFG.MACHINE_KW, .rw)] },
  { base := 0xE60004, count := 1, stride := 0x4, scope := .half, pfOnly := false, devIdx := false,
    fields := [(CSW_BUDGET_STATUS.GRANT_W, .ro), (CSW_BUDGET_STATUS.SLACK_PERMILLE, .ro), (CSW_BUDGET_STATUS.REVERTED, .ro)] }]

/-- The PCI_ registers of the map, part 1. -/
def regsPCI1 : List RegDesc := [
  { base := 0x10, count := 1, stride := 0x4, scope := .pci, pfOnly := false, devIdx := false,
    fields := [(PCI_EVENT.BAD_ACCESS, .w1c), (PCI_EVENT.DB_FOREIGN, .w1c), (PCI_EVENT.DB_RANGE, .w1c), (PCI_EVENT.POISONED_WRITE, .w1c), (PCI_EVENT.T3_READ_FAIL, .w1c), (PCI_EVENT.FLR_DONE, .w1c)] },
  { base := 0x14, count := 2, stride := 0x4, scope := .pci, pfOnly := false, devIdx := false,
    fields := [(PCI_FLR_ACTIVE.FUNCS, .ro)] },
  { base := 0x40, count := 256, stride := 0x4, scope := .pci, pfOnly := false, devIdx := false,
    fields := [(PCI_CTX_FUNC.FUNC, .rw), (PCI_CTX_FUNC.VECTOR, .rw)] }]

/-- The PWR_ registers of the map, part 1. -/
def regsPWR1 : List RegDesc := [
  { base := 0x100000, count := 144, stride := 0x4, scope := .device, pfOnly := false, devIdx := false,
    fields := [(PWR_DOMAIN_CTRL.HOLD, .rw), (PWR_DOMAIN_CTRL.DISABLE, .rw)] },
  { base := 0x100400, count := 144, stride := 0x4, scope := .device, pfOnly := false, devIdx := false,
    fields := [(PWR_DOMAIN_STATUS.STATE, .ro), (PWR_DOMAIN_STATUS.KEEP, .ro), (PWR_DOMAIN_STATUS.WAKES, .ro)] },
  { base := 0x100800, count := 13, stride := 0x4, scope := .device, pfOnly := false, devIdx := false,
    fields := [(PWR_IDLE_US.US, .rw)] },
  { base := 0x100900, count := 1, stride := 0x4, scope := .device, pfOnly := false, devIdx := false,
    fields := [(PWR_WAKE_STATUS.QUEUED, .ro), (PWR_WAKE_STATUS.RECENT, .ro), (PWR_WAKE_STATUS.WAKES, .ro)] },
  { base := 0x101000, count := 1, stride := 0x4, scope := .device, pfOnly := false, devIdx := false,
    fields := [(PWR_CAP.CAP_W, .rw), (PWR_CAP.SOURCE, .ro), (PWR_CAP.EFFECTIVE_W, .ro)] },
  { base := 0x101004, count := 1, stride := 0x4, scope := .device, pfOnly := false, devIdx := false,
    fields := [(PWR_LIMIT_CFG.SAFE_OP, .rw), (PWR_LIMIT_CFG.OP_MAX, .rwl), (PWR_LIMIT_CFG.THROTTLE_C, .rw), (PWR_LIMIT_CFG.BOARD_MAX_W, .rwl)] },
  { base := 0x101008, count := 1, stride := 0x4, scope := .device, pfOnly := false, devIdx := false,
    fields := [(PWR_OP_STATUS.OP_WEST, .ro), (PWR_OP_STATUS.OP_EAST, .ro), (PWR_OP_STATUS.CEILING, .ro), (PWR_OP_STATUS.MEASURED_ONLY, .ro), (PWR_OP_STATUS.CHANGING, .ro), (PWR_OP_STATUS.GATE_SHARE, .ro)] },
  { base := 0x10100C, count := 1, stride := 0x4, scope := .device, pfOnly := false, devIdx := false,
    fields := [(PWR_POWER.MEASURED_W, .ro), (PWR_POWER.ESTIMATED_W, .ro)] },
  { base := 0x101010, count := 4, stride := 0x4, scope := .device, pfOnly := false, devIdx := false,
    fields := [(PWR_PHASE_OP.OP, .rw)] },
  { base := 0x101020, count := 1, stride := 0x4, scope := .device, pfOnly := false, devIdx := false,
    fields := [(PWR_EVENT.ESTIMATE_DIVERGE, .w1c), (PWR_EVENT.THROTTLE, .w1c), (PWR_EVENT.GATING, .w1c), (PWR_EVENT.TRIP, .w1c), (PWR_EVENT.DISABLE_REFUSED, .w1c), (PWR_EVENT.CAP_REFUSED, .w1c), (PWR_EVENT.WAKE_REFUSED, .w1c)] },
  { base := 0x101024, count := 1, stride := 0x4, scope := .device, pfOnly := false, devIdx := false,
    fields := [(PWR_TEMP.TMAX, .ro), (PWR_TEMP.PEAK, .ro)] },
  { base := 0x101028, count := 1, stride := 0x4, scope := .device, pfOnly := false, devIdx := false,
    fields := [(PWR_REASON.ACTIVE, .ro)] }]

/-- The PWR_ registers of the map, part 2. -/
def regsPWR2 : List RegDesc := [
  { base := 0x101040, count := 8, stride := 0x4, scope := .device, pfOnly := false, devIdx := false,
    fields := [(PWR_REASON_TIME.US, .ro)] }]

/-- The CLK_ registers of the map, part 1. -/
def regsCLK1 : List RegDesc := [
  { base := 0x102000, count := 1, stride := 0x4, scope := .half, pfOnly := false, devIdx := false,
    fields := [(CLK_PLL_STATUS.MAIN_A, .ro), (CLK_PLL_STATUS.MAIN_B, .ro), (CLK_PLL_STATUS.MAIN_SEL, .ro), (CLK_PLL_STATUS.RAMP, .ro), (CLK_PLL_STATUS.PASSAGE, .ro), (CLK_PLL_STATUS.DRAM, .ro), (CLK_PLL_STATUS.SERDES, .ro), (CLK_PLL_STATUS.PCIE, .ro), (CLK_PLL_STATUS.REF_OK, .ro)] },
  { base := 0x102010, count := 1, stride := 0x4, scope := .half, pfOnly := false, devIdx := false,
    fields := [(CLK_US_LO.US, .ro)] },
  { base := 0x102014, count := 1, stride := 0x4, scope := .half, pfOnly := false, devIdx := false,
    fields := [(CLK_US_HI.US, .ro)] }]

/-- The XING_ registers of the map, part 1. -/
def regsXING1 : List RegDesc := [
  { base := 0x103000, count := 144, stride := 0x4, scope := .device, pfOnly := false, devIdx := false,
    fields := [(XING_STATUS.VALUE_OVR, .w1c), (XING_STATUS.EVENT_OVR, .w1c), (XING_STATUS.RESYNCS, .ro)] },
  { base := 0x103400, count := 1, stride := 0x4, scope := .device, pfOnly := false, devIdx := false,
    fields := [(XING_OVR_COUNT.EVENTS, .ro)] }]

/-- The SEC_ registers of the map, part 1. -/
def regsSEC1 : List RegDesc := [
  { base := 0xF01000, count := 1, stride := 0x4, scope := .west, pfOnly := true, devIdx := false,
    fields := [(SEC_MBOX_CTRL.GO, .w1s), (SEC_MBOX_CTRL.BUSY, .ro), (SEC_MBOX_CTRL.DONE, .w1c)] },
  { base := 0xF01004, count := 1, stride := 0x4, scope := .west, pfOnly := false, devIdx := false,
    fields := [(SEC_STATE.DEBUG_DISABLE, .ro), (SEC_STATE.DEBUG_OPEN, .ro), (SEC_STATE.DEBUG_PENDING, .ro), (SEC_STATE.CFG_SIGNED, .ro), (SEC_STATE.TOKENS, .ro)] },
  { base := 0xF01008, count := 1, stride := 0x4, scope := .west, pfOnly := false, devIdx := false,
    fields := [(SEC_ATTEST_Q.NEXT_Q, .ro)] },
  { base := 0xF01020, count := 8, stride := 0x4, scope := .west, pfOnly := false, devIdx := false,
    fields := [(SEC_KEK_VALID.CONTEXTS, .ro)] },
  { base := 0xF02000, count := 1024, stride := 0x4, scope := .west, pfOnly := true, devIdx := false,
    fields := [(SEC_MBOX_REQ.WORD, .rw)] },
  { base := 0xF03000, count := 1024, stride := 0x4, scope := .west, pfOnly := true, devIdx := false,
    fields := [(SEC_MBOX_RESP.WORD, .ro)] }]

/-- The ERR_ registers of the map, part 1. -/
def regsERR1 : List RegDesc := [
  { base := 0xF80000, count := 1, stride := 0x4, scope := .half, pfOnly := true, devIdx := false,
    fields := [(ERR_CTRL.IRQ_EN, .rw), (ERR_CTRL.HOST_EN, .rw)] },
  { base := 0xF80004, count := 1, stride := 0x4, scope := .half, pfOnly := true, devIdx := false,
    fields := [(ERR_STATUS.OVERFLOW, .w1c), (ERR_STATUS.MGMT_HEAD, .ro)] },
  { base := 0xF80008, count := 1, stride := 0x4, scope := .half, pfOnly := true, devIdx := false,
    fields := [(ERR_TAIL.TAIL, .ro)] },
  { base := 0xF8000C, count := 1, stride := 0x4, scope := .half, pfOnly := true, devIdx := false,
    fields := [(ERR_HOST_HEAD.HEAD, .rw)] },
  { base := 0xF80010, count := 1, stride := 0x4, scope := .west, pfOnly := true, devIdx := false,
    fields := [(ERR_SERVICE_CTRL.MGMT_RESTART, .w1s), (ERR_SERVICE_CTRL.POWER_RESTART, .w1s)] },
  { base := 0xF80100, count := 16, stride := 0x4, scope := .half, pfOnly := true, devIdx := false,
    fields := [(ERR_LOST.RECORDS, .ro)] },
  { base := 0xF80200, count := 1, stride := 0x4, scope := .west, pfOnly := true, devIdx := false,
    fields := [(ERR_RESET_CAUSE.CAUSE, .ro)] },
  { base := 0xF80204, count := 1, stride := 0x4, scope := .west, pfOnly := true, devIdx := false,
    fields := [(ERR_POWERED_S.S, .ro)] },
  { base := 0xF80208, count := 1, stride := 0x4, scope := .west, pfOnly := true, devIdx := false,
    fields := [(ERR_UNREADY_MS.MS, .ro)] },
  { base := 0xF90000, count := 16384, stride := 0x4, scope := .half, pfOnly := true, devIdx := false,
    fields := [(ERR_RECORD.WORD, .ro)] }]

/-- Every register of BAR0, in the map's order. -/
def regTable : List RegDesc :=
  regsBOOT1 ++ regsSEAM1 ++ regsGAL1 ++ regsGAL2 ++ regsCHM1 ++ regsNV1 ++ regsNV2 ++ regsNV3 ++ regsJCT1 ++ regsJCT2 ++ regsJCT3 ++ regsPLZ1 ++ regsSDS1 ++ regsMEM1 ++ regsMEM2 ++ regsSWP1 ++ regsSTR1 ++ regsSTR2 ++ regsCSW1 ++ regsCSW2 ++ regsCSW3 ++ regsPWR1 ++ regsPWR2 ++ regsCLK1 ++ regsXING1 ++ regsSEC1 ++ regsERR1

/-- Registers with a non-zero reset value that is the same for every index: base, count, stride and value (the Reset columns). -/
def resetList : List (Nat × Nat × Nat × Nat) := [
  (0x0, 1, 0x4, 0x107C32),
  (0xB00000, 2048, 0x40, 0x7D0001),
  (0xA00000, 32, 0x100, 0xE),
  (0xA00010, 32, 0x100, 0x3),
  (0xC01000, 1, 0x4, 0x400803),
  (0xC01004, 1, 0x4, 0x5A0),
  (0xC01010, 1, 0x4, 0x400003),
  (0xC80008, 32768, 0x10, 0xFFFFFFFF),
  (0xC02008, 1, 0x4, 0x40),
  (0x500000, 32768, 0x20, 0x1),
  (0x404000, 1, 0x4, 0x3),
  (0x404004, 1, 0x4, 0x4000040),
  (0x620000, 1, 0x4, 0x64),
  (0x640000, 64, 0x20, 0x8030),
  (0x200000, 1, 0x4, 0x80006),
  (0x200010, 4, 0x4, 0x7D0),
  (0x200020, 1, 0x4, 0x1F4),
  (0x210000, 256, 0x40, 0x108602),
  (0x210018, 256, 0x40, 0x4000),
  (0xA00030, 32, 0x100, 0x3E8),
  (0xE01004, 1, 0x4, 0x14010000),
  (0xE01008, 1, 0x4, 0x10000),
  (0xE0100C, 1, 0x4, 0x32),
  (0xE3000C, 64, 0x20, 0x40),
  (0xE40000, 64, 0x10, 0x40000000),
  (0xE60000, 1, 0x4, 0xA0A),
  (0x4000040, 256, 0x4, 0x200),
  (0x101000, 1, 0x4, 0x400),
  (0x101004, 1, 0x4, 0x6906),
  (0x101008, 1, 0x4, 0x3E80F00),
  (0xF00030, 1, 0x4, 0x2710),
  (0xF01004, 1, 0x4, 0x40)]

/-- Registers whose reset value differs by index, at their West address: BOOT_BLOCK_VERSION (Table 1.12), PWR_IDLE_US
(Table 14.2) and PWR_PHASE_OP (Table 14.11). -/
def resetByIndex (a : Nat) : Nat :=
  if 0x100 ≤ a ∧ a < 0x130 then 1
  else if 0x100800 ≤ a ∧ a < 0x100834 then
    [100, 50, 50, 100, 10000, 0, 0, 50, 1000, 100, 0, 0, 0].getD ((a - 0x100800) / 4) 0
  else if 0x101010 ≤ a ∧ a < 0x101020 then [15, 11, 5, 0].getD ((a - 0x101010) / 4) 0
  else 0

/-- Does address `o` belong to the indexed run (base, count, stride)? -/
def inRun (o base count stride : Nat) : Bool :=
  decide (base ≤ o) && decide ((o - base) % stride = 0) && decide ((o - base) / stride < count)

/-- The reset value of the word at byte address `a` of the register store (the Reset columns of the register tables).
BOOT_IDENT.HALF is 1 in East's block. -/
def resetNat (a : Nat) : Nat :=
  let o := if a < 0x04000000 then a % 0x02000000 else a
  let v := match resetList.find? (fun e => inRun o e.1 e.2.1 e.2.2.1) with
    | some e => e.2.2.2
    | none => resetByIndex o
  if a = 0x02000000 then v + 0x1000000 else v

/-- The reset value as a word. -/
def resetWord (a : Nat) : Word := BitVec.ofNat 32 (resetNat a)

end Sys2Proof.Machine
end

