-- ==== Sys2Proof/Machine/Bits.lean ====
section
/-! DEFINITION. Bit fields of numbers and of register words, and little-endian byte strings (R4). -/

namespace Sys2Proof.Machine

/-- Bits [lo+len-1:lo] of a number. -/
def bits (n lo len : Nat) : Nat := (n >>> lo) % 2 ^ len

/-- Bit `i` of a number as a truth value. -/
def bit (n i : Nat) : Bool := bits n i 1 == 1

/-- 1 for true, 0 for false. -/
def b2n (b : Bool) : Nat := if b then 1 else 0

/-- Two's complement reading of the low `w` bits of a number. -/
def signed (w n : Nat) : Int :=
  let m := n % 2 ^ w
  if m < 2 ^ (w - 1) then (m : Int) else (m : Int) - 2 ^ w

/-- The low `w` bits of an integer in two's complement. -/
def unsigned (w : Nat) (i : Int) : Nat := (i % (2 ^ w : Int)).toNat

/-- An integer limited to the range [lo, hi]. -/
def clampInt (lo hi i : Int) : Int := if i < lo then lo else if hi < i then hi else i

/-- The mask of a field within its word. -/
def fmask (f : Fld) : Word := BitVec.ofNat 32 (2 ^ f.len - 1) <<< f.lo

/-- The value of a field of a word. -/
def getF (w : Word) (f : Fld) : Nat := (w.extractLsb' f.lo f.len).toNat

/-- A word with one field replaced by the low bits of `v`; every other bit is kept. -/
def putF (w : Word) (f : Fld) (v : Nat) : Word :=
  (w &&& ~~~ fmask f) ||| ((BitVec.ofNat 32 v <<< f.lo) &&& fmask f)

/-- Fields of which only some values can be read: base, count and stride of their registers, lowest bit and length, the least and the greatest
value that reads as written, and what any other value reads as. -/
def normFields : List (Nat × Nat × Nat × Nat × Nat × Nat × Nat × Nat) := [
  (0xC01000, 1, 4, 8, 8, 1, 64, 1), (0xC01000, 1, 4, 16, 8, 1, 64, 64), (0xC02008, 1, 4, 4, 4, 4, 10, 4),
  (0x101004, 1, 4, 8, 8, 85, 105, 105), (0xF00030, 1, 4, 0, 16, 100, 60000, 10000),
  (0x404004, 1, 4, 0, 16, 1, 4096, 64), (0x404004, 1, 4, 16, 16, 1, 16384, 1024), (0x620000, 1, 4, 0, 16, 1, 60000, 100),
  (0x640000, 64, 0x20, 4, 5, 3, 16, 3), (0x640000, 64, 0x20, 9, 9, 1, 256, 64),
  (0x210000, 256, 0x40, 8, 4, 4, 12, 6), (0x210000, 256, 0x40, 12, 4, 4, 14, 8), (0x210000, 256, 0x40, 16, 7, 1, 64, 16),
  (0xE00000, 8, 0x40, 1, 2, 1, 2, 2), (0xE00000, 8, 0x40, 4, 2, 0, 2, 0),
  (0xE01004, 1, 4, 16, 8, 1, 255, 1), (0xE01004, 1, 4, 24, 8, 2, 255, 20), (0xE0100C, 1, 4, 0, 16, 1, 60000, 50),
  (0xE3000C, 64, 0x20, 0, 13, 1, 4096, 64), (0xE40000, 64, 0x10, 25, 5, 0, 16, 0), (0xE60000, 1, 4, 0, 8, 1, 255, 10)]

/-- A word as the register at offset `o` of a half holds it: fields with a value that reads as another take that other. -/
def normWord (o v : Nat) : Nat :=
  normFields.foldl (fun v e =>
    let (base, count, stride, lo, len, mn, mx, other) := e
    let x := bits v lo len
    if inRun o base count stride && (decide (x < mn) || decide (mx < x)) then v - x * 2 ^ lo + other * 2 ^ lo else v) v

/-- The number that a little-endian byte string spells (R4). -/
def leNat : List Byte → Nat
  | [] => 0
  | b :: bs => b.toNat + 256 * leNat bs

/-- The number that a big-endian byte string spells (R5). -/
def beNat (bs : List Byte) : Nat := leNat bs.reverse

/-- The low `k` bytes of a number, least significant first (R4). -/
def leBytes : Nat → Nat → List Byte
  | 0, _ => []
  | k + 1, n => BitVec.ofNat 8 n :: leBytes k (n / 256)

/-- The low `k` bytes of a number, most significant first (R5). -/
def beBytes (k n : Nat) : List Byte := (leBytes k n).reverse

/-- `len` bytes of a string from offset `off`; bytes past its end are left out. -/
def slice (bs : List Byte) (off len : Nat) : List Byte := (bs.drop off).take len

/-- The little-endian field of `k` bytes at offset `off`. -/
def fieldLE (bs : List Byte) (off k : Nat) : Nat := leNat (slice bs off k)

/-- The 32-bit word at offset `off`. -/
def u32 (bs : List Byte) (off : Nat) : Nat := fieldLE bs off 4

/-- The 16-bit field at offset `off`. -/
def u16 (bs : List Byte) (off : Nat) : Nat := fieldLE bs off 2

/-- The 64-bit field at offset `off`. -/
def u64 (bs : List Byte) (off : Nat) : Nat := fieldLE bs off 8

/-- Bits [hi:lo] of the 32-bit word at offset `off`: the way the spec's layouts name a field. -/
def fld (bs : List Byte) (off hi lo : Nat) : Nat := bits (u32 bs off) lo (hi + 1 - lo)

/-- Every byte of the range [off, off+len) is zero: a reserved range (R7). -/
def zeroRange (bs : List Byte) (off len : Nat) : Bool := (slice bs off len).all (· == 0)

/-- `n` zero bytes. -/
def zeros (n : Nat) : List Byte := List.replicate n 0

/-- A byte string cut or filled with zeros to length `n`. -/
def padTo (n : Nat) (bs : List Byte) : List Byte := bs.take n ++ zeros (n - bs.length)

/-- The ceiling of a division. -/
def ceilDiv (a b : Nat) : Nat := (a + b - 1) / b

/-- Parity of the set bits of the low `w` bits of a number: true when odd. -/
def oddParity : Nat → Nat → Bool
  | 0, _ => false
  | w + 1, n => xor (n % 2 == 1) (oddParity w (n / 2))

end Sys2Proof.Machine
end

