-- ==== Sys2Proof/Machine/Sha.lean ====
section
/-! DEFINITION. SHA-256 (FIPS 180-4), HMAC-SHA-256 (RFC 2104), CRC-32 with the IEEE 802.3 polynomial and CRC-16-CCITT, over byte strings
(R134, R139, R142, R146). -/

namespace Sys2Proof.Machine

/-- The 32-bit words of a number of `k` words, the first in the highest place. -/
def wordsOf (k n : Nat) : List (BitVec 32) := (List.range k).map (fun i => BitVec.ofNat 32 (n >>> (32 * (k - 1 - i))))

/-- The round constants of SHA-256, eight words to a number. -/
def shaK : List (BitVec 32) :=
  List.flatten [
    wordsOf 8 0x428a2f9871374491b5c0fbcfe9b5dba53956c25b59f111f1923f82a4ab1c5ed5,
    wordsOf 8 0xd807aa9812835b01243185be550c7dc372be5d7480deb1fe9bdc06a7c19bf174,
    wordsOf 8 0xe49b69c1efbe47860fc19dc6240ca1cc2de92c6f4a7484aa5cb0a9dc76f988da,
    wordsOf 8 0x983e5152a831c66db00327c8bf597fc7c6e00bf3d5a7914706ca635114292967,
    wordsOf 8 0x27b70a852e1b21384d2c6dfc53380d13650a7354766a0abb81c2c92e92722c85,
    wordsOf 8 0xa2bfe8a1a81a664bc24b8b70c76c51a3d192e819d6990624f40e3585106aa070,
    wordsOf 8 0x19a4c1161e376c082748774c34b0bcb5391c0cb34ed8aa4a5b9cca4f682e6ff3,
    wordsOf 8 0x748f82ee78a5636f84c878148cc7020890befffaa4506cebbef9a3f7c67178f2]

/-- The initial hash value. -/
def shaInit : List (BitVec 32) := wordsOf 8 0x6a09e667bb67ae853c6ef372a54ff53a510e527f9b05688c1f83d9ab5be0cd19

/-- The message schedule: `k` words more, the words so far newest first. -/
def shaExpand : Nat → List (BitVec 32) → List (BitVec 32)
  | 0, ws => ws
  | k + 1, ws =>
    let x := ws.getD 14 0
    let y := ws.getD 1 0
    let s0 := x.rotateRight 7 ^^^ x.rotateRight 18 ^^^ (x >>> 3)
    let s1 := y.rotateRight 17 ^^^ y.rotateRight 19 ^^^ (y >>> 10)
    shaExpand k ((ws.getD 15 0 + s0 + ws.getD 6 0 + s1) :: ws)

/-- One round on the working variables a to h. -/
def shaRound (v : List (BitVec 32)) (kw : BitVec 32 × BitVec 32) : List (BitVec 32) :=
  match v with
  | [a, b, c, d, e, f, g, h] =>
    let s1 := e.rotateRight 6 ^^^ e.rotateRight 11 ^^^ e.rotateRight 25
    let ch := (e &&& f) ^^^ (~~~ e &&& g)
    let t1 := h + s1 + ch + kw.1 + kw.2
    let s0 := a.rotateRight 2 ^^^ a.rotateRight 13 ^^^ a.rotateRight 22
    let maj := (a &&& b) ^^^ (a &&& c) ^^^ (b &&& c)
    [t1 + (s0 + maj), a, b, c, d + t1, e, f, g]
  | _ => v

/-- One 64-byte block. -/
def shaBlock (hs : List (BitVec 32)) (blk : List Byte) : List (BitVec 32) :=
  let ws := (List.range 16).map (fun i => BitVec.ofNat 32 (beNat (slice blk (4 * i) 4)))
  let sched := (shaExpand 48 ws.reverse).reverse
  List.zipWith (· + ·) hs ((shaK.zip sched).foldl shaRound hs)

/-- The padded message: 0x80, zeros, and the bit length in 64 bits. -/
def shaPad (m : List Byte) : List Byte :=
  m ++ [0x80] ++ zeros ((119 - m.length % 64) % 64) ++ beBytes 8 (8 * m.length)

/-- SHA-256 of a byte string. -/
def sha256 (m : List Byte) : List Byte :=
  let p := shaPad m
  ((List.range (p.length / 64)).foldl (fun hs i => shaBlock hs (slice p (64 * i) 64)) shaInit).flatMap
    (fun w => beBytes 4 w.toNat)

/-- HMAC-SHA-256 with a key of at most 64 bytes. -/
def hmac256 (key m : List Byte) : List Byte :=
  let k := padTo 64 key
  sha256 (k.map (· ^^^ 0x5c) ++ sha256 (k.map (· ^^^ 0x36) ++ m))

/-- One bit of a reflected CRC-32. -/
def crcBits : Nat → BitVec 32 → BitVec 32
  | 0, c => c
  | k + 1, c => match c.getLsbD 0 with
    | true => crcBits k ((c >>> 1) ^^^ 0xEDB88320)
    | false => crcBits k (c >>> 1)

/-- CRC-32 of a byte string (IEEE 802.3). -/
def crc32 (m : List Byte) : BitVec 32 :=
  ~~~ (m.foldl (fun c b => crcBits 8 (c ^^^ b.setWidth 32)) 0xFFFFFFFF)

/-- CRC-16-CCITT of a byte string: the polynomial x^16 + x^12 + x^5 + 1, the highest bit of each byte first. DESIGN CHOICE (log entry
76): it starts from 0xFFFF. -/
def crc16 (m : List Byte) : BitVec 16 :=
  let shift (c : BitVec 16) (_ : Nat) : BitVec 16 := if c.getLsbD 15 then (c <<< 1) ^^^ 0x1021 else c <<< 1
  m.foldl (fun c b => (List.range 8).foldl shift (c ^^^ ((b.setWidth 16 : BitVec 16) <<< (8 : Nat)))) 0xFFFF

end Sys2Proof.Machine
end

