-- ==== Sys2Proof/Machine/Hss.lean ====
section
/-! DEFINITION. Hash-based signatures of RFC 8554 with the parameters of R412 and R413: LMOTS_SHA256_N32_W8 one-time signatures, LMS trees of
height 10 and 20 over SHA-256, two-level HSS verification, and the signature of the attestation key with private values by Appendix A. -/

namespace Sys2Proof.Machine

/-! ## One-time signatures (RFC 8554, section 4) -/

/-- A hash of what a tree's identifier, a number, a tag and data give. -/
def lmHash (ident : List Byte) (n tag : Nat) (data : List Byte) : List Byte := sha256 (ident ++ beBytes 4 n ++ beBytes 2 tag ++ data)

/-- The chain of digit `i` of one-time key `q`, `n` steps on from step `start`. -/
def otsChain (ident : List Byte) (q i start n : Nat) (x : List Byte) : List Byte :=
  (List.range n).foldl (fun t j => lmHash ident q i (beBytes 1 (start + j) ++ t)) x

/-- The 34 digits of a message hash: its 32 bytes and the two of their checksum. -/
def otsDigits (h : List Byte) : List Nat :=
  let d := h.map BitVec.toNat
  let c := (d.map (fun x => 255 - x)).foldl (· + ·) 0
  d ++ [c / 256, c % 256]

/-- The digits that key `q` signs of a message with randomizer `c`. -/
def otsMessage (ident : List Byte) (q : Nat) (c msg : List Byte) : List Nat := otsDigits (lmHash ident q 0x8181 (c ++ msg))

/-- The public key that the ends of the 34 chains give. -/
def otsPublic (ident : List Byte) (q : Nat) (ends : Nat → List Byte) : List Byte :=
  lmHash ident q 0x8080 ((List.range 34).flatMap ends)

/-- The public key that a signature (its 4-byte type, the randomizer and 34 values) gives for a message. -/
def otsCandidate (ident : List Byte) (q : Nat) (sig msg : List Byte) : List Byte :=
  let ds := otsMessage ident q (slice sig 4 32) msg
  otsPublic ident q (fun i => otsChain ident q i (ds.getD i 0) (255 - ds.getD i 0) (slice sig (36 + 32 * i) 32))

/-! ## Trees (RFC 8554, section 5) -/

/-- The root that a leaf's key and its path give: at each level the node's number says on which side it stands. -/
def lmsClimb (ident : List Byte) (node : Nat) (key : List Byte) (path : List (List Byte)) : List Byte :=
  (path.foldl (fun (p : Nat × List Byte) sib =>
    (p.1 / 2, lmHash ident (p.1 / 2) 0x8383 (if p.1 % 2 = 1 then sib ++ p.2 else p.2 ++ sib))) (node, lmHash ident node 0x8282 key)).2

/-- Bytes of a signature of a tree of height `h`. -/
def lmsLen (h : Nat) : Nat := 1132 + 32 * h

/-- Verification under a public key of 56 bytes (type, one-time type, identifier, root) of a tree of height `h` whose type is `type`. -/
def lmsVerify (h type : Nat) (pub msg sig : List Byte) : Bool :=
  let q := beNat (sig.take 4)
  let ident := slice pub 8 16
  let path := (List.range h).map (fun i => slice sig (1132 + 32 * i) 32)
  decide (pub.length = 56) && decide (sig.length = lmsLen h) && beNat (pub.take 4) == type && beNat (slice pub 4 4) == 4 &&
  beNat (slice sig 4 4) == 4 && beNat (slice sig 1128 4) == type && decide (q < 2 ^ h) &&
  decide (lmsClimb ident (2 ^ h + q) (otsCandidate ident q (slice sig 4 1124) msg) path = pub.drop 24)

/-- HSS verification with two levels of LMS_SHA256_M32_H10 (RFC 8554, section 6; R413): a public key of 60 bytes and a signature of 2,964. -/
def hssVerify (pub msg sig : List Byte) : Bool :=
  let mid := slice sig 1456 56
  decide (pub.length = 60) && decide (sig.length = 2964) && beNat (pub.take 4) == 2 && beNat (sig.take 4) == 1 &&
  lmsVerify 10 6 (pub.drop 4) mid (slice sig 4 1452) && lmsVerify 10 6 mid msg (sig.drop 1512)

/-! ## The attestation key (R412, Table 15.1): LMS_SHA256_M32_H20 -/

/-- The start of a chain, by the pseudorandom method of Appendix A. -/
def otsSecret (ident seed : List Byte) (q i : Nat) : List Byte := lmHash ident q i ([0xFF] ++ seed)

/-- Node `r` of the tree, `k` levels above the leaves. -/
def lmsNode (ident seed : List Byte) (h : Nat) : Nat → Nat → List Byte
  | 0, r => lmHash ident r 0x8282 (otsPublic ident (r - 2 ^ h) (fun i => otsChain ident (r - 2 ^ h) i 0 255 (otsSecret ident seed (r - 2 ^ h) i)))
  | k + 1, r => lmHash ident r 0x8383 (lmsNode ident seed h k (2 * r) ++ lmsNode ident seed h k (2 * r + 1))

/-- The public key of a tree. -/
def lmsPublic (ident seed : List Byte) (h type : Nat) : List Byte :=
  beBytes 4 type ++ beBytes 4 4 ++ ident ++ lmsNode ident seed h h 1

/-- The signature of a message with key `q` and randomizer `c`. -/
def lmsSign (ident seed : List Byte) (h type q : Nat) (c msg : List Byte) : List Byte :=
  let ds := otsMessage ident q c msg
  beBytes 4 q ++ beBytes 4 4 ++ c ++
    (List.range 34).flatMap (fun i => otsChain ident q i 0 (ds.getD i 0) (otsSecret ident seed q i)) ++ beBytes 4 type ++
    (List.range h).flatMap (fun i =>
      let r := (2 ^ h + q) / 2 ^ i
      lmsNode ident seed h i (if r % 2 = 0 then r + 1 else r - 1))

end Sys2Proof.Machine
end

