-- ==== Sys2Proof/Config.lean ====
section
/-! DEFINITION. What an implementation fixes and the free values. Every constant here is opaque: no proof can see its value, and
a statement about it holds for every value. Log entry 3 names the free values, log entry 5 the functions the spec takes from
other standards or leaves to the implementation. -/

namespace Sys2Proof.Config

/-- The n-th free value: what the spec leaves open each time the model meets it (log entry 3). -/
opaque free : Nat → Nat

/-- Which of the values that R190 allows the device's exp (0), reciprocal square root (1), sigmoid (2) and tanh (3) give for an FP32 code:
modulo 3, the correctly rounded one, the next in magnitude, or the one before (log entry 5). -/
opaque fp32Func : Nat → Nat → Nat

/-- DS, the secret of the key block, of a device with a UID (R411, log entry 5). -/
opaque deviceSecret : List Byte → List Byte

/-- The randomizer of the attestation signature with one-time index q, which RFC 8554 leaves free (log entry 5). -/
opaque lmsRandom : Nat → List Byte

/-- The signature of the manufacturing key under parts 1 to 5 of CERT (R411, R413). -/
opaque certSign : List Byte → List Byte

/-- The answer that DSP0236 requires to an MCTP control message (R428). -/
opaque mctpAnswer : List Byte → List Byte

/-- Chroyth's JEP106 code, which the spec does not state (R435). -/
opaque jep106 : Nat

/-- Chroyth's Vendor ID, which the spec does not state (R361). -/
opaque vendorId : Nat

/-- A fresh random nonce: the n-th that the device draws (R436). -/
opaque nonce : Nat → List Byte

end Sys2Proof.Config
end

