-- ==== Sys2Proof/Machine/Map.lean ====
section
/-! DEFINITION. Sparse maps keyed by numbers, in one canonical form: keys strictly rising, and no entry equal to what an
unlisted key reads as. Equal maps are equal lists. Registers, memories, stored rows and tables are held this way. -/

namespace Sys2Proof.Machine

/-- The value at key `k`; an unlisted key reads as `d k`. -/
def mapGet {α : Type} (d : Nat → α) : List (Nat × α) → Nat → α
  | [], k => d k
  | e :: m, k => if k = e.1 then e.2 else mapGet d m k

/-- The map without key `k`. -/
def mapErase {α : Type} (m : List (Nat × α)) (k : Nat) : List (Nat × α) := m.filter (fun e => !(e.1 == k))

/-- The map with an entry put before the first larger key. -/
def mapInsert {α : Type} (k : Nat) (v : α) : List (Nat × α) → List (Nat × α)
  | [] => [(k, v)]
  | e :: m => if k < e.1 then (k, v) :: e :: m else e :: mapInsert k v m

/-- The map with `v` at key `k`; writing what an unlisted key reads as removes the entry. -/
def mapSet {α : Type} [DecidableEq α] (d : Nat → α) (m : List (Nat × α)) (k : Nat) (v : α) : List (Nat × α) :=
  if v = d k then mapErase m k else mapInsert k v (mapErase m k)

/-- The canonical form: keys strictly rising and no entry equal to what an unlisted key reads as. -/
def mapWf {α : Type} [DecidableEq α] (d : Nat → α) (m : List (Nat × α)) : Bool :=
  decide ((m.map Prod.fst).Pairwise (· < ·)) && m.all (fun e => !decide (e.2 = d e.1))

/-- The map with every key of [lo, lo+len) back at what an unlisted key reads as. -/
def mapEraseRange {α : Type} (m : List (Nat × α)) (lo len : Nat) : List (Nat × α) :=
  m.filter (fun e => decide (e.1 < lo) || decide (lo + len ≤ e.1))

/-- What an unlisted byte of T1, T2 and the SRAM buffers reads as: zero (DESIGN CHOICE, log entry 4). -/
def zeroByte (_ : Nat) : Byte := 0

/-- `len` bytes from address `a`. -/
def memRead (d : Nat → Byte) (m : List (Nat × Byte)) : Nat → Nat → List Byte
  | _, 0 => []
  | a, len + 1 => mapGet d m a :: memRead d m (a + 1) len

/-- The memory with the bytes `bs` stored from address `a`, lowest first. -/
def memWrite (d : Nat → Byte) (m : List (Nat × Byte)) : Nat → List Byte → List (Nat × Byte)
  | _, [] => m
  | a, b :: bs => memWrite d (mapSet d m a b) (a + 1) bs

end Sys2Proof.Machine
end

