-- ==== Sys2Proof/Machine/State.lean ====
section
/-! DEFINITION. The state of the device as plain data, the reasons a command stops, and the state after reset. Every value that
a register shows lives in `regs`, keyed by the register's byte address (R11); the structures below hold the rest. -/

namespace Sys2Proof.Machine

/-- Reasons a command stops with a fault. None of the device's commands faults: its errors are status codes, event bits and
log records. -/
inductive Fault where
  /-- Raised by no command. Safe: a machine that never faults proves nothing by it. -/
  | none
  deriving DecidableEq, Repr

/-- Reasons a command is refused by the model. -/
inductive Refusal where
  /-- Raised by an arm of `exec` whose row has no meaning yet. Safe: nothing can be proved of it. -/
  | notModelled (mnemonic : String)
  /-- Raised by RAIL_OUT_OF_RANGE (R468: the behaviour is unspecified until the next PERST_N assertion). Safe: the model
  stops where the device may do anything. -/
  | behaviourUnspecified
  /-- Raised by TAP_INSTRUCTION for an instruction that a debug-open boot allows within its SCOPE (R435, R436): the spec does
  not say what the debug unit does. Safe: the model stops. -/
  | debugUnitUnspecified
  deriving DecidableEq, Repr

/-! ## What the device sends to the outside -/

/-- A thing the device has sent to the outside: to the host, a link, the sideband, a pin, the regulators. -/
inductive Output where
  /-- An MSI-X message of a function's vector (R369, R370). -/
  | msix (func entry : Nat)
  /-- A posted write of bytes to host memory (T3), with Requester ID `func` and a PASID, if any (R364, R373). -/
  | t3Write (func : Nat) (pasid : Option Nat) (addr : Nat) (bytes : List Byte)
  /-- A read of bytes of host memory (T3), with Requester ID `func` and a PASID, if any (R364, R373). -/
  | t3Read (func : Nat) (pasid : Option Nat) (addr len : Nat)
  /-- A host read's completion (R32, R363). -/
  | readDone (func off : Nat) (bytes : List Byte)
  /-- A PRI Page Request (R263). -/
  | pageRequest (eng addr pasid : Nat) (wr : Bool)
  /-- An ATS Invalidate Completion (R373). -/
  | invalidateDone (func tag : Nat)
  /-- A flit given to a Causeway port (R330). -/
  | flit (port : Nat) (bytes : List Byte)
  /-- A stomped flit sent on in transit (R332). -/
  | stompedFlit (port : Nat) (bytes : List Byte)
  /-- Credits of a port's sub-channel, VC x 2 + DL, given back to the far end (R333). -/
  | credit (port sub : Nat)
  /-- What a port advertises as it trains at a lane rate, 0 for 56 and 1 for 112 Gb/s: its highest version, whether it takes 112 Gb/s, its
  node ID, its own number and its locked lanes (R326). -/
  | advert (port rate ver : Nat) (rate112 : Bool) (node num : Nat) (lanes : List Nat)
  /-- A response message on a security path (R428). -/
  | response (path : SecPath) (bytes : List Byte)
  /-- A response to an MCTP control message (R428). -/
  | mctp (bytes : List Byte)
  /-- A signal ball driven to a level (R400, R472, R473). -/
  | pin (name : String) (level : Bool)
  /-- A voltage command to a half's regulators: the operating point's VLOGIC and VSRAM in mV (R391, R463). -/
  | regulator (h : Half) (vlogic vsram : Nat)
  /-- The value a debug test access port instruction shifts out (R435). -/
  | tap (value : Nat)
  deriving DecidableEq, Repr

/-! ## Graphs -/

/-- Where an admitted node stands. `arriving`: an East node whose admission message is on the Passage (R284). `binding`:
dispatched, waiting under R224 or R226. `waking`: bound, waiting for a power grant. `ready`, `running`: as the spec uses the
words. `ended`: its unit is done with it and NODE_COMPLETE is due. `opened`: completed without releasing (R296). `done`:
completed with a releasing status, or in an aborted graph. -/
inductive NodePhase where
  | arriving
  | waiting
  | ready
  | binding
  | waking
  | running
  | ended
  | opened
  | done
  deriving DecidableEq, Repr

/-- Where a request that crosses the Passage stands: not sent, on its way, or there. -/
inductive Crossing where
  | none
  | sent
  | there
  deriving DecidableEq, Repr

/-- A node of a graph: its 128 bytes (Table 10.4) and its progress. -/
structure Node where
  bytes : List Byte := []
  phase : NodePhase := .waiting
  /-- predecessors that have not released (R285) -/
  preds : Nat := 0
  /-- microsecond at which it became ready (R289) -/
  readyUs : Nat := 0
  /-- its place in the order in which nodes became ready; nodes that one command made ready share it (R289) -/
  readyOrd : Nat := 0
  /-- order number of its escalation, if escalated (R291) -/
  escal : Option Nat := none
  /-- retries (R297) -/
  attempt : Nat := 0
  /-- worst status so far, in the order of R294; and the flags of Table 10.10 -/
  prim : Nat := 0
  flags : Nat := 0
  detail : Nat := 0
  detail2 : Nat := 0
  /-- dispatched at least once (R298) -/
  dispatched : Bool := false
  /-- a Passage transfer of the node failed (R23) -/
  passFail : Bool := false
  /-- handles now bound, with the writer mark (R222) -/
  bound : List (Nat × Bool) := []
  /-- its request to bind objects of the other half, which travels over the Passage (R245) -/
  ask : Crossing := .none
  /-- objects whose home moved while the node was bound to the source (R225): handle and the home granule it keeps -/
  homes : List (Nat × Nat × Nat) := []
  /-- Galleries that have passed END, and Galleries halted (R317, R318) -/
  galsEnded : List Nat := []
  stopped : Bool := false
  /-- bound to its correction set (R197), and its deadline passed (R193, R203) -/
  setBound : Bool := false
  late : Bool := false
  deriving DecidableEq, Repr

/-- A weight-set pin of a graph: half, set and slot (R173). -/
structure Pin where
  half : Half
  set : Nat
  slot : Nat
  deriving DecidableEq, Repr

/-- A graph that has been read: where its descriptor is, its header and tables, its pins and its nodes. -/
structure Graph where
  ctx : Nat
  gid : Nat
  header : List Byte := []
  inT1 : Bool := false
  addr : Nat := 0
  wsets : List Nat := []
  pins : List Pin := []
  nodes : List Node := []
  edges : List (Nat × Nat) := []
  /-- admission order number -/
  seq : Nat := 0
  aborted : Bool := false
  /-- complete, with its GRAPH entry held behind a full queue (R301) -/
  ending : Bool := false
  deriving DecidableEq, Repr

/-- One completion entry as it waits or is written: its 32 bytes but for PHASE (Table 10.13). -/
abbrev CqEntry := List Byte

/-- The Junction's view of a context beside its registers. -/
structure Ctx where
  /-- the head graph that waits at step 3 or 4 of R282, and when its wait at step 4 began -/
  waiting : Option Graph := none
  waitUs : Nat := 0
  /-- its place in the order in which waits began (R283) -/
  waitOrd : Nat := 0
  /-- node slots held for it in West and East (R283), once its wait passed RESERVE_US -/
  reserved : Bool := false
  /-- completion entries held behind a full queue (R301); a GRAPH entry with its GRAPH_ID -/
  held : List (CqEntry × Option Nat) := []
  /-- a function-level reset runs (R375, R376) -/
  reset : Bool := false
  deriving DecidableEq, Repr

/-- A dependence token: the graph, with its admission order number, its consumer node, and its producer (R286). -/
structure Token where
  ctx : Nat
  gid : Nat
  node : Nat
  src : Nat
  seq : Nat := 0
  deriving DecidableEq, Repr

/-! ## Waves and sequencers -/

/-- What one Chamber has formed of a running wave: the passes it needs in the current slice, the value V and the results C of its
544 columns (512 data, 32 checksum), its clamp marks, and the terms of R83 and R93 for its four Seams. -/
structure ChmAcc where
  need : List Nat := []
  v : List Int := []
  c : List Int := []
  clamped : List Bool := []
  /-- |s_b| x rows driven in final passes, per Seam (Q of R93) -/
  q : List Nat := [0, 0, 0, 0]
  /-- |s_b| x error term, per Seam (E of R83) -/
  e : List Nat := [0, 0, 0, 0]
  deriving DecidableEq, Repr

/-- The steps a wave goes through: delivery of its inputs, waiting with a full latch, plane select, slices, waiting for its
correction and the merge (`ended`), output. -/
inductive WavePhase where
  | filling
  | latched
  | selecting
  | slices
  | ended
  | output
  deriving DecidableEq, Repr

/-- One wave of a Gallery: the settings its WAVE copied (R307, R308) and what it has formed. `ord` is its number in the program's run,
`begun` that its input delivery has begun, `order` when (R201), `outOff` and `sbOff` the byte offsets of its vector's output and of its scale and bias. -/
structure Wave where
  node : NodeRef
  ord : Nat := 0
  lplane : Nat := 0
  plane : Nat := 0
  inmode : Nat := 0
  gain : Nat := 0
  group : Nat := 0
  outfmt : Nat := 0
  rpp : Nat := 0
  /-- unmasked rows as runs [lo, hi) of the numbering of R109 -/
  mask : List (Nat × Nat) := []
  acc : Bool := false
  uniform : Bool := false
  sbOff : Nat := 0
  emit : Bool := true
  outOff : Nat := 0
  inAddr : Nat := 0
  latch : Nat := 0
  begun : Bool := true
  order : Nat := 0
  phase : WavePhase := .filling
  w7 : Bool := false
  /-- input block of each Seam position (R74) -/
  blocks : List (List Byte) := []
  /-- slice and pass now running; pass 7 when none -/
  slice : Nat := 0
  pass : Nat := 7
  /-- what each Chamber has formed, by Chamber -/
  chms : List (Nat × ChmAcc) := []
  /-- T and the clamp marks of the 544 columns of each output group -/
  t : List (Nat × List Int) := []
  clampT : List (Nat × List Bool) := []
  /-- STUCK_INTERIM terms taken at slice 0: IN_ROW, column within the Gallery's output, weight difference (R109) -/
  stuck : List (Nat × Nat × Int) := []
  /-- correction c of the Gallery's output columns, FP32 codes; columns not listed have +0.0 -/
  corr : List (Nat × Nat) := []
  corrReady : Bool := false
  /-- output beats not yet landed: byte offset in the output object and bytes -/
  beats : List (Nat × List Byte) := []
  deriving DecidableEq, Repr

/-- Why a sequencer stands still (Table 11.3). -/
inductive SeqWait where
  | none
  | latch
  | check
  | barrier
  | landed
  | idle
  | fin
  deriving DecidableEq, Repr

/-- The chamber sequencer of a Gallery beside its registers (Table 11.1). -/
structure SeqSt where
  /-- word to execute next -/
  npc : Nat := 0
  wait : SeqWait := .none
  mask : List (Nat × Nat) := [(0, 65536)]
  rpp : Nat := 0
  add : Bool := false
  uniform : Bool := false
  scaleReg : Option Nat := none
  emit : Bool := true
  emitReg : Option Nat := none
  signals : List Nat := [0, 0, 0, 0, 0, 0, 0, 0]
  waits : List Nat := [0, 0, 0, 0, 0, 0, 0, 0]
  /-- the CHECK record since the last CHECK (R314) -/
  missed : Bool := false
  clipped : Bool := false
  /-- waves issued since the program start, and the microsecond from which the watchdog counts (R319) -/
  issued : Nat := 0
  dogUs : Nat := 0
  deriving DecidableEq, Repr

/-- A Gallery beside its registers: the node that holds it, its sequencer, and its waves, oldest first. -/
structure Gal where
  node : Option NodeRef := none
  /-- the program has been started for the node (R303) -/
  started : Bool := false
  seq : SeqSt := {}
  waves : List Wave := []
  /-- the input latch that the next wave takes: 0 A, 1 B (R50) -/
  latch : Nat := 0
  deriving DecidableEq, Repr

/-! ## NV controller -/

/-- What an NV step belongs to: a command of a port, or a refresh (R58, R102). -/
inductive StepFor where
  | cmd (p : NvPort)
  | refresh
  deriving DecidableEq, Repr

/-- The kinds of NV step: a program pulse with its verify, an erase pulse, the verify that
follows one, a margin read, a refresh re-pulse with its verify. -/
inductive StepKind where
  | program
  | erase
  | verify
  | margin
  | repulse
  deriving DecidableEq, Repr

/-- An NV step on a plane's row; `us` is the microsecond at which it became pending (R59), and, once it runs, at which it started. `len`:
microseconds that the pulse of a running program or re-pulse step takes, before the step's verify (R102, R124). -/
structure NvStep where
  own : StepFor
  kind : StepKind
  plane : Nat
  row : Nat := 0
  us : Nat := 0
  len : Nat := 0
  deriving DecidableEq, Repr

/-- What the plane table holds of a plane beside its registers (R92, R105, R128). -/
structure PlaneRec where
  /-- residual bounds of the 32 groups -/
  rho : List Nat := []
  /-- minute of the last completed program, refresh or margin read; none: UNKNOWN -/
  minute : Option Int := none
  /-- whole minutes since an event recorded while the wall count was 0 -/
  elapsed : Option Nat := none
  /-- rows marked written since the last erase -/
  written : List Nat := []
  /-- waves tested on the plane with no miss since it entered WATCH -/
  clean : Nat := 0
  deriving DecidableEq, Repr

/-- One row that a command programs: the 544 weights intended, the levels to reach, and where it stands: its first pulse asked for, that
pulse begun, its cells verified, the row done. -/
structure RowJob where
  plane : Nat
  row : Nat
  want : List Int := []
  cells : List (Nat × Nat) := []
  queued : Bool := false
  started : Bool := false
  verified : Bool := false
  done : Bool := false
  deriving DecidableEq, Repr

/-- What a running weight store command waits for or does. -/
inductive NvPhase where
  | commit
  | ledgerBegin
  | steps
  | ledgerDone
  | delay
  | ending (result : Nat)
  deriving DecidableEq, Repr

/-- A running weight store command. `planes` are the planes it names; of a running erase, the plane at its head. -/
structure NvCmd where
  code : Nat
  tag : Nat := 0
  phase : NvPhase := .steps
  planes : List Nat := []
  rows : List RowJob := []
  /-- range of the row buffer that is write-protected (R128) -/
  range : Nat × Nat := (0, 0)
  group : Nat := 0
  mode : Nat := 0
  hash : List Byte := []
  /-- rows of a margin read: next and last; digest kind and expected digest -/
  first : Nat := 0
  next : Nat := 0
  last : Nat := 0
  digest : Nat := 0
  expect : List Byte := []
  /-- counts LOW_GUARD, HIGH_GUARD and OUT, and the first OUT cell with its row; an unregistered cell was OUT -/
  low : Nat := 0
  high : Nat := 0
  out : Nat := 0
  firstOut : Option (Nat × CellAt) := none
  outFound : Bool := false
  /-- pairs registered, the longest row step time, and a pair that found no entry -/
  pairs : Nat := 0
  longest : Nat := 0
  noEntry : Bool := false
  /-- result words from offset 0x08 on -/
  words : List Nat := []
  /-- CMD_RESETs that wait for the running pulses, oldest first, by TAG (R145) -/
  abort : List Nat := []
  /-- a command refused at LAUNCH, whose completion is still to be taken up by the loader (R119) -/
  refused : Bool := false
  deriving DecidableEq, Repr

/-- A command port (R118, R121): the key sequence's step and command byte, the running command, a continuous read's plane and image, and
the loader port's last completion. -/
structure NvPortSt where
  step : Nat := 0
  key : Nat := 0
  cmd : Option NvCmd := none
  cont : Option (Nat × Nat) := none
  deriving DecidableEq, Repr

/-- A Ledger record (Table 5.12). -/
structure LedgerRec where
  type : Nat
  subject : Nat
  seq : Nat
  value : Nat
  version : Nat := 1
  crc : Nat := 0
  deriving DecidableEq, Repr

/-- What waits for a Ledger commit. -/
inductive LedgerFor where
  | cmd (p : NvPort)
  | attest (path : SecPath) (msg : List Byte)
  deriving DecidableEq, Repr

/-- A refresh of a plane (R101 to R104): next row, LOW_GUARD cells and pulses of the row, whether it is urgent, runs, and belongs to a
REFRESH_PLANE command, and the class counts it has found. -/
structure Refresh where
  plane : Nat
  row : Nat := 0
  low : List CellAt := []
  pulses : Nat := 0
  urgent : Bool := false
  running : Bool := false
  cmd : Bool := false
  lowN : Nat := 0
  highN : Nat := 0
  outN : Nat := 0
  deriving DecidableEq, Repr

/-- The release of a slot that waits for its commit (R174): the set and slot, its footprint, and the planes whose EN it clears. -/
structure WsetRel where
  set : Nat
  slot : Nat
  foot : Nat × Nat := (0, 0)
  planes : List Nat := []
  deriving DecidableEq, Repr

/-- A host read of the continuous-read aperture that waits for a sense (R136). -/
structure ContRead where
  func : Nat
  off : Nat
  len : Nat
  deriving DecidableEq, Repr

/-- The NV controller of a half beside its registers. -/
structure NvHalf where
  host : NvPortSt := {}
  ldr : NvPortSt := {}
  /-- stored rows: key plane x 1024 + row, 544 pairs of levels; an unlisted row is erased -/
  rows : List (Nat × List (Nat × Nat)) := []
  /-- W4 codes last written to the 544 pairs of a stored row, kept where a pair that is not registered may hold another weight (R107); an
  unlisted row's codes are the weights it holds -/
  codes : List (Nat × List Int) := []
  planes : List (Nat × PlaneRec) := []
  /-- SEAM_PLANE_CFG as committed (R64), by Seam; Seams with a commit due -/
  cfg : List (Nat × Word) := []
  committing : List Nat := []
  /-- password hash of a protection group (R139) -/
  hashes : List (Nat × List Byte) := []
  /-- weight-set registers as committed (R176), by register address; sets with a commit due -/
  wsets : List (Nat × Word) := []
  wsetDirty : List Nat := []
  /-- the running weight-set commit: its sets and the words it writes; releases that wait for a commit, and those that the running one
  includes -/
  wsetRun : List Nat := []
  wsetSnap : List (Nat × Word) := []
  wsetRel : List WsetRel := []
  wsetRelRun : List WsetRel := []
  /-- sets whose accepted command waits for a commit, and those whose command the running one includes -/
  wsetDone : List Nat := []
  wsetDoneRun : List Nat := []
  /-- the weight window: parameter block and result area by word, row buffer by byte -/
  param : List (Nat × Word) := []
  result : List (Nat × Word) := []
  buffer : List Host.Cell := []
  otp : List (Nat × Word) := []
  /-- Ledger: the active bank, the written slots of banks 0 and 1, the next SEQ, a compaction, records that wait -/
  bank : Nat := 0
  bank0 : List LedgerRec := []
  bank1 : List LedgerRec := []
  nextSeq : Nat := 1
  compacting : Bool := false
  ledgerQ : List (LedgerRec × LedgerFor) := []
  scanned : Bool := false
  incomplete : List Nat := []
  /-- steps pending on a Seam and running on it -/
  pending : List (Nat × List NvStep) := []
  running : List (Nat × NvStep) := []
  /-- pulses that wait for the pump budget in the order requested, and pulses it has let start whose step waits for its Seam (R125) -/
  pulseQ : List NvStep := []
  pulsing : List NvStep := []
  refreshes : List Refresh := []
  unlockFails : Nat := 0
  /-- a brown-out, reset or watchdog expiry has stopped the controller until its reset (R150, R152) -/
  stopping : Bool := false
  /-- held rows of a continuous read, and reads that wait -/
  sensed : List (Nat × List Byte) := []
  reads : List ContRead := []
  /-- rows, as plane x 1024 + row, that a T0 source waits to be sensed, and the row it holds sensed (R136, R196, R246): by stream engine, or 64
  for the STAGE -/
  slcAsk : List (Nat × Nat) := []
  slcHeld : List (Nat × Nat) := []
  deriving DecidableEq, Repr

/-- What a loader's descriptor still has to do: program lists of rows, prove its planes, erase its planes, or end (R168 to R170). -/
inductive LdrPhase where
  | idle
  | program
  | prove
  | erase
  | ended
  deriving DecidableEq, Repr

/-- The loader of a half (R168 to R170): its descriptor; the image bytes that it has got, and that its source has failed after them; the content key
once the key port has answered, and that it has been asked (R27); the packed header once step 3 has passed; how many row records of the mask it has
dealt with, those of the list now in program, and the weight rows that it expects, as plane x 1024 + row; the planes still to be proved or erased and
those proved, and the result fields. `asked`: a request of it stands at the loader port; `told`: its command was cut short, with this result.
`aborted`: ABORT has been written. -/
structure LoaderSt where
  desc : List Byte := []
  phase : LdrPhase := .idle
  load : Bool := false
  enc : Bool := false
  set : Nat := 0
  slot : Nat := 0
  image : List Byte := []
  failed : Bool := false
  keyAsked : Bool := false
  key : Option (Option (List Byte)) := none
  header : List Byte := []
  used : Nat := 0
  recs : List (List Byte) := []
  built : List (Nat × List Byte) := []
  planes : List Nat := []
  proved : List Nat := []
  asked : Bool := false
  told : Option (NvCmd × Nat) := none
  aborted : Bool := false
  result : Nat := 0
  nvResult : Nat := 0
  rows : Nat := 0
  pairs : Nat := 0
  failPlane : Nat := 0
  deriving DecidableEq, Repr

/-! ## Memory -/

/-- A zero fill in progress: the granules it covers, whose they were, and the charge it holds (R229). `entry` is the home-table
entry of an ALLOC with INIT_ZERO. -/
structure Fill where
  tier : Nat
  base : Nat
  len : Nat
  ctx : Nat
  pool : Bool := false
  charged : Bool := true
  entry : Option Nat := none
  deriving DecidableEq, Repr

/-- An ALLOC that is not complete, or a MOVE of an EVICTABLE object to the pool that waits for a run: the entry, the placement held
so far (R217), and who asked. `tier` 0: no run yet. `move` marks the MOVE; `other` the half and entry that a MOVE with DEST_OTHER
comes from (R228). -/
structure AllocReq where
  idx : Nat
  src : MemSrc
  block : List Byte
  ctx : Nat
  flags : Nat
  size : Nat
  tier : Nat := 0
  base : Nat := 0
  pool : Bool := false
  /-- first T2 granule of an EVICTABLE object's backing -/
  backing : Option Nat := none
  startUs : Nat := 0
  move : Bool := false
  other : Option (Half × Nat) := none
  deriving DecidableEq, Repr

/-- A copy of a MOVE or of an eviction (R224, R218). -/
structure Copy where
  idx : Nat
  evict : Bool
  src : MemSrc
  started : Bool := false
  /-- the other half's entry of a MOVE with DEST_OTHER (R228) -/
  other : Option Nat := none
  /-- its bytes were lost on the Passage (R23) -/
  failed : Bool := false
  deriving DecidableEq, Repr

/-- The memory tiers of a half beside their registers. -/
structure MemHalf where
  t1 : List Host.Cell := []
  t2 : List Host.Cell := []
  /-- words whose stored parity or check bits fail: T1 by word number, T2 by 64-bit word number (R231, R233) -/
  badT1 : List Nat := []
  badT2 : List Nat := []
  fills : List Fill := []
  allocs : List AllocReq := []
  allocWait : List AllocReq := []
  copies : List Copy := []
  /-- commands that wait for a MOVING or EVICTING object (R227) -/
  waiting : List (MemSrc × List Byte) := []
  /-- the objects of the Sweeper's pass, each with its entry as it was when the pass began (R239) -/
  sweep : List (Nat × List Word) := []
  /-- microsecond at which the pass began (R241) -/
  sweepUs : Nat := 0
  /-- a source run that bound nodes still use after a move (R225): handle index, tier, base, granules, charges to pool -/
  olds : List (Nat × Fill) := []
  deriving DecidableEq, Repr

/-! ## Streams -/

/-- A chain armed on an engine (R260). -/
structure Chain where
  node : Option NodeRef
  ctx : Nat
  handle : Nat
  off : Nat
  resume : Bool
  /-- descriptors loaded so far, and whether one of them has been run (R266) -/
  loaded : Nat := 0
  begun : Bool := false
  /-- the request of a STR_ARM chain to bind objects of the other half (R245) -/
  ask : Crossing := .none
  deriving DecidableEq, Repr

/-- A stream engine beside its registers (R243, R260). -/
structure Engine where
  chain : Option Chain := none
  shadow : Option Chain := none
  /-- the descriptor of the running transfer, where it lies, and bytes delivered counted from its first element -/
  desc : List Byte := []
  handle : Nat := 0
  off : Nat := 0
  done : Nat := 0
  /-- bytes read from host memory, or come from the other half, and not yet delivered; which of them are uncorrectable; and the bytes
  asked for over the Passage, counted from the first element -/
  pack : List Byte := []
  packBad : List Nat := []
  asked : Nat := 0
  /-- it has read uncorrectable data (R268) -/
  bad : Bool := false
  /-- slots of its ring that the transfer has filled; while it drains, those of them not yet released (R258) -/
  filled : Nat := 0
  drain : Nat := 0
  /-- objects that a STR_ARM chain has bound, with the writer mark (R261) -/
  bound : List (Nat × Bool) := []
  /-- homes that the chain keeps of objects moved while it held them bound (R225) -/
  homes : List (Nat × Nat × Nat) := []
  deriving DecidableEq, Repr

/-- A party of a slot ring or of a queue (R254, R337): an engine, the Plaza or the loader of the half, or a CAUSEWAY node. -/
inductive Party where
  | engine (e : Nat)
  | plaza
  | loader
  | node (n : NodeRef)
  deriving DecidableEq, Repr

/-- A slot ring beside its registers (R252 to R256). -/
structure Ring where
  producer : Option Party := none
  consumer : Option Party := none
  waitProd : List Party := []
  waitCons : List Party := []
  /-- T1 byte address of slot 0, settled when VALID is written -/
  buf : Nat := 0
  /-- bytes in the slot being filled, lengths of the FULL slots from HEAD on, bytes read of the slot at HEAD -/
  fill : Nat := 0
  lens : List Nat := []
  taken : Nat := 0
  deriving DecidableEq, Repr

/-! ## Plaza and Sidestreet -/

/-- The Plaza of a half (R187, R192, R193): its node, the bytes of a streamed B taken so far and the tiles they are, whether the result has
been written, whether it has given the streamed B up for the low-rank path, the tiles that it then still has to release unread, and the
microsecond at which a streamed operation started. -/
structure PlazaSt where
  node : Option NodeRef := none
  startUs : Option Nat := none
  data : List Byte := []
  tiles : Nat := 0
  written : Bool := false
  fallback : Bool := false
  skip : Nat := 0
  deriving DecidableEq, Repr

/-- A STAGE running or waiting (R196), and the bytes that it has read of a T0 source. -/
structure StageSt where
  node : Option NodeRef := none
  running : Bool := false
  data : List Byte := []
  deriving DecidableEq, Repr

/-! ## Causeway -/

/-- One flit of a send queue that has not been acknowledged (R338): its PSN, its bytes of payload, and its number among all flits that
the queue has ever built. -/
structure Unacked where
  psn : Nat
  len : Nat
  ser : Nat
  deriving DecidableEq, Repr

/-- A flit that a half holds (R340): since which microsecond of the half, 1 for the hop unless the half built it, and the port and
sub-channel whose receive buffer it stands in. -/
structure PortFlit where
  flit : List Byte
  since : Nat := 0
  hop : Nat := 0
  src : Option (Nat × Nat) := none
  deriving DecidableEq, Repr

/-- A port beside its registers (R326 to R333): the LSEQ it sends next and expects next, its replay buffer, the flits that wait for it, the
flits sent since the last DATA flit, the resends counted from one LSEQ, the lanes it may train on, and, by sub-channel (VC x 2 + DL), the
flits sent for which the far end has given no credit back. -/
structure PortSt where
  txSeq : Nat := 0
  rxSeq : Nat := 0
  replay : List PortFlit := []
  wait : List PortFlit := []
  sinceData : Nat := 0
  resends : Nat := 0
  resendFrom : Nat := 0
  lanes : List Nat := [0, 1, 2, 3]
  used : List Nat := [0, 0, 0, 0, 0, 0]
  deriving DecidableEq, Repr

/-- A send queue beside its registers (R338 to R341): next PSN, the receiver's LIMIT, flits not acknowledged, flits ever built, the epoch
counter, the time of the last write of VALID 1, whether it is held in IDLE (R340), and its producers. -/
structure SendQ where
  psn : Nat := 0
  limit : Nat := 0
  unacked : List Unacked := []
  built : Nat := 0
  counter : Nat := 0
  lastUs : Option Nat := none
  holding : Bool := false
  producer : Option Party := none
  waitProd : List Party := []
  deriving DecidableEq, Repr

/-- A receive queue beside its registers (R338 to R341): the T1 byte address of its buffer and its size as settled when VALID was
written, bytes received and consumed since the OPEN, the next PSN, the DATA flits and the bytes freed since the last ACK, the bytes taken of an
expert record that has not come whole, and its consumers. -/
structure RecvQ where
  buf : Nat := 0
  size : Nat := 0
  received : Nat := 0
  consumed : Nat := 0
  psn : Nat := 0
  since : Nat := 0
  freed : Nat := 0
  part : List Byte := []
  consumer : Option Party := none
  waitCons : List Party := []
  deriving DecidableEq, Repr

/-- A barrier of a half (R356, R357): the sources of the ARRIVEs counted, as node and half number, and the node that waits. -/
structure Barrier where
  arrived : List (Nat × Nat) := []
  node : Option NodeRef := none
  deriving DecidableEq, Repr

/-- A CAUSEWAY node under way (R347 to R358). `marks`: for FLUSH and BARRIER, the number of the last flit each queue had built at the
dispatch; for DISPATCH and RETURN, the bytes each queue has accepted of the node. `pos`: the receive queue served next. `ends`: queues
whose END has come. `used`: slots filled, by region. `cells`: (m, j) written, as m x K + j. -/
structure CswOp where
  node : NodeRef
  marks : List (Nat × Nat) := []
  pos : Nat := 0
  ends : List Nat := []
  used : List (Nat × Nat) := []
  cells : List Nat := []
  full : Nat := 0
  deriving DecidableEq, Repr

/-- A management register access that waits for an off domain (R343): a read of `count` words, or a write with its BE and words. -/
structure MgmtAcc where
  src : Nat
  tag : Nat
  space : Nat
  off : Nat
  count : Nat
  be : Nat
  write : Option (List Word)
  deriving DecidableEq, Repr

/-- What waits for the end of a restart of the management controller (R28): a management message or timer, or a period's report (measured W, cap W,
slack, reasons). -/
inductive MgmtOp where
  | cmd (i : Instr)
  | period (measured cap slack reasons : Nat)
  deriving DecidableEq, Repr

/-- The management controller's own state (R324, R343 to R346): accesses that wait, as master the last report of each node (node, measured
W, cap W, slack) and the cap last granted to each, and the answers and notices received. -/
structure CswDev where
  acc : List MgmtAcc := []
  reports : List (Nat × Nat × Nat × Nat) := []
  grants : List (Nat × Nat) := []
  resps : List (Nat × Nat × Nat × List Word) := []
  notices : List (Nat × List Byte) := []
  /-- vectors and error-log records of a host-less device that wait to be sent in NOTIFY, oldest first -/
  notes : List (List Byte) := []
  /-- throttle reasons that have held since the last budget period (R402) -/
  reasons : Nat := 0
  /-- microseconds of the budget period, and those of them in which no node ran but such as wait for other devices (R345) -/
  periodUs : Nat := 0
  slackUs : Nat := 0
  /-- host-less members that the master has heard of, and whether they have been given NV_WALL_MINUTES (R105, R323) -/
  members : List (Nat × Bool) := []
  /-- what waits for the end of a restart of the management controller, oldest first (R28) -/
  held : List MgmtOp := []
  deriving DecidableEq, Repr

/-! ## Passage, power, host interface, boot, security -/

/-- A host access of a half's BAR0 space or of its T1 (R32, R230), `width` bytes wide: the value written, if it is a write of a register or
of the weight window; for BAR2 the bytes of a write, and what the checkers find. -/
structure HeldAcc where
  func : Nat
  off : Nat
  width : Nat := 4
  write : Option Nat := none
  bar2 : Option (Option (List Byte) × Scan) := none
  deriving DecidableEq, Repr

/-- A transfer waiting on the Passage towards a half (R20 to R23). -/
inductive PassMsg where
  /-- an admission message: the graph and its admission order number (R284) -/
  | admitMsg (ctx gid seq : Nat)
  /-- a dependence token (R286) -/
  | token (t : Token)
  /-- a switch of East's sets (R173): pairs of set and the slot made CURRENT -/
  | switch (sets : List (Nat × Nat))
  /-- payload of a stream engine: bytes for an object's place in the far half's tiers, with the node they belong to (R245) -/
  | payload (n : Option NodeRef) (eng tier addr : Nat) (bytes : List Byte)
  /-- payload that a stream engine reads in the other half for a stream side or host memory, with the offsets of its uncorrectable bytes -/
  | feed (n : Option NodeRef) (eng : Nat) (bytes : List Byte) (bad : List Nat)
  /-- a request to bind the other half's objects for a node, or for an engine's STR_ARM chain (R245) -/
  | bind (n : Option NodeRef) (eng : Nat)
  /-- the bytes of an entry's object that moves to the other half, to T1 or T2 there (R228) -/
  | move (idx tier addr : Nat) (bytes : List Byte)
  /-- a power command: wake (true) or switch off a domain of East -/
  | power (dom : Nat) (on : Bool)
  /-- a host access of East, and the bytes that a read of it returns (R32, R34) -/
  | access (a : HeldAcc)
  | answer (func off : Nat) (bytes : List Byte)
  /-- a request of East's loader to the key port, and its answer: the content key, or none (R27) -/
  | keyAsk (ctx : Nat) (wrapped : List Byte)
  | keyGive (key : Option (List Byte))
  /-- a flit: for an egress port of the far half, or for delivery there (R335) -/
  | flit (x : PortFlit) (out : Option Nat)
  deriving DecidableEq, Repr

/-- One command of the wake link or its acknowledgement (R26). -/
structure WakeLink where
  wake : Bool
  ack : Bool
  deriving DecidableEq, Repr

/-- A running change of a half's operating point (R391). -/
structure OpChange where
  target : Nat
  /-- the clock has been switched to the new frequency -/
  switched : Bool := false
  deriving DecidableEq, Repr

/-- The power controller's state beside its registers. -/
structure PowerSt where
  wakeQ : List Nat := []
  /-- wake requests for domains that are SLEEPING (R384) -/
  wakeLater : List Nat := []
  /-- microseconds of the admissions of the last 10 µs -/
  recent : List Nat := []
  capCeil : Nat := 15
  capShare : Nat := 1000
  capCalm : Nat := 0
  thCeil : Nat := 15
  thShare : Nat := 1000
  thCalm : Nat := 0
  diverge : Nat := 0
  divergeClear : Bool := false
  changeW : Option OpChange := none
  changeE : Option OpChange := none
  /-- operating point at which the idle MAIN PLL of a half is locked -/
  idleW : Option Nat := none
  idleE : Option Nat := none
  /-- PLLs started and not yet locked: half and bit of CLK_PLL_STATUS -/
  starting : List (Half × Nat) := []
  gateOpen : Bool := true
  /-- a temperature has been read since device reset (PWR_TEMP.PEAK) -/
  tempRead : Bool := false
  restarting : Bool := false
  mgmtRestarting : Bool := false
  grant : Option Nat := none
  hostCap : Option Nat := none
  wakeLink : List WakeLink := []
  deriving DecidableEq, Repr

/-- A PCIe function (R361, R362, R369). The fields are the standard's controls that this device's rules read. -/
structure FuncSt where
  msixEn : Bool := false
  msixMask : Bool := false
  /-- vectors whose own mask bit is cleared, and pending bits -/
  unmasked : List Nat := []
  pendBits : List Nat := []
  d3 : Bool := false
  flr : Bool := false
  pasidEn : Bool := false
  atsEn : Bool := false
  /-- Device Control and Device Control 2; the addresses in BAR0, BAR2 and BAR4 (R361, R362) -/
  devCtl : Nat := 0x2010
  devCtl2 : Nat := 0
  bars : List Nat := [0, 0, 0]
  deriving DecidableEq, Repr

/-- The host port (R360 to R379). -/
structure PcieSt where
  link : Option PcieLink := none
  /-- a training is under way (R360) -/
  training : Bool := false
  vfEnable : Bool := false
  numVfs : Nat := 0
  priEn : Bool := false
  priAlloc : Nat := 0
  /-- the addresses in the VF BARs of the SR-IOV capability (R362) -/
  vfBars : List Nat := [0, 0, 0]
  funcs : List (Nat × FuncSt) := []
  msixTable : List (Nat × Word) := []
  /-- engines whose page request is outstanding, and engines that wait to send one (R374); 64 stands for West's Junction -/
  requests : List Nat := []
  waitReq : List Nat := []
  deriving DecidableEq, Repr

/-- West's Junction waits for a page of an entry's graph (R282 step 1): the context and its PASID, the address, and the GRAPH_ID as far as the header
has been read. -/
structure PageWait where
  ctx : Nat
  pasid : Nat
  addr : Nat
  gid : Nat
  deriving DecidableEq, Repr

/-- Where the device stands between power-on and work (R400, R421, R422, R467). -/
inductive Stage where
  | off
  | held
  | thermHeld
  | running
  | recovery
  deriving DecidableEq, Repr

/-- The boot path (R414 to R427). The slots that run, the trials and the lock show in BOOT_STATUS; the checks of the slots in BOOT_IMAGE. -/
structure BootSt where
  /-- SB_SEL in bit 0 and SB_ADDR in bits [3:1], as sampled (R472) -/
  straps : Nat := 0
  /-- PERST_N is asserted; REFCLK is present (R453) -/
  perst : Bool := true
  refOk : Bool := false
  /-- the boot flash's bytes; an unlisted byte reads erased -/
  flash : List Host.Cell := []
  /-- where the flash fails to read and write, as PERST_RELEASE found it: bit 2k + slot for a slot, bit 6 + c for directory copy c -/
  flashBad : Nat := 0
  /-- the kind whose slot stands between UPD_BEGIN and UPD_END (R424) -/
  update : Option Nat := none
  /-- SVN and BODY_DIGEST of the image that runs of each kind (R430), and the MIN_SVN fields of the booted configuration (R427) -/
  svns : List Nat := [0, 0, 0]
  digests : List (List Byte) := []
  minMgmt : Nat := 0
  minPower : Nat := 0
  /-- cause code of Table 16.4 that the next boot records -/
  cause : Nat := 0
  deriving DecidableEq, Repr

/-- The security engine (R428 to R437). Its flags and its tokens show in SEC_STATE. -/
structure SecSt where
  /-- key-encryption keys by context (R433) -/
  keks : List (Nat × List Byte) := []
  /-- the outstanding nonce, and how many have been drawn (R436) -/
  nonce : Option (List Byte) := none
  drawn : Nat := 0
  /-- SCOPE of an accepted token, and of the present debug-open boot (R436, R437) -/
  pendScope : Nat := 0
  scope : Nat := 0
  /-- microsecond of West's counter at the last token tick (R432) -/
  tokenUs : Nat := 0
  /-- the MCTP request that waits while the mailbox's is served (R428) -/
  held : Option (List Byte) := none
  deriving DecidableEq, Repr

/-! ## The halves and the device -/

/-- One half beside its registers (R16, R19). -/
structure HalfState where
  /-- microsecond counter, and the held upper word of a CLK_US_LO read (R381) -/
  us : Nat := 0
  usHi : Option Nat := none
  /-- error-log SEQ of the newest record (R441) -/
  logSeq : Nat := 0
  /-- translations the half holds: function, PASID and page number (R373) -/
  atc : List (Nat × Nat × Nat) := []
  gals : List (Nat × Gal) := []
  nv : NvHalf := {}
  ldr : LoaderSt := {}
  plaza : PlazaSt := {}
  stage : StageSt := {}
  sdsBuf : List Host.Cell := []
  mem : MemHalf := {}
  rings : List (Nat × Ring) := []
  sqs : List (Nat × SendQ) := []
  rqs : List (Nat × RecvQ) := []
  bars : List (Nat × Barrier) := []
  cswOps : List CswOp := []
  /-- flits delivered to the half and not yet acted on, oldest first (R335) -/
  inbox : List (List Byte) := []
  /-- Passage transfers on the way to this half, oldest first, one list for each class (R20, R21) -/
  control : List PassMsg := []
  token : List PassMsg := []
  activation : List PassMsg := []
  move : List PassMsg := []
  /-- beats that the other classes have been granted since a Move transfer began to wait or was last granted one (R20) -/
  lent : Nat := 0
  /-- tokens that arrived before their admission message (R286) -/
  early : List Token := []
  /-- the one-deep write buffer and the accesses behind it (R32) -/
  accesses : List HeldAcc := []
  deriving DecidableEq, Repr

/-- The device. -/
structure State where
  /-- commands that wait, first in, first out -/
  pending : List Instr := []
  /-- registers by byte address; an unlisted register reads as its reset value -/
  regs : List (Nat × Word) := []
  west : HalfState := {}
  east : HalfState := {}
  outbox : List Output := []
  /-- the model's own counter, to which the free values of Config are applied (log entry 3) -/
  freeCtr : Nat := 0
  /-- the model's own count of happenings whose order a rule looks at: deliveries begun, nodes ready, waits of contexts -/
  order : Nat := 0
  stage : Stage := .held
  power : PowerSt := {}
  pcie : PcieSt := {}
  boot : BootSt := {}
  sec : SecSt := {}
  engines : List (Nat × Engine) := []
  ports : List (Nat × PortSt) := []
  csw : CswDev := {}
  ctxs : List (Nat × Ctx) := []
  /-- admitted graphs, in admission order -/
  graphs : List Graph := []
  admitSeq : Nat := 0
  /-- aborted graphs, as context and GRAPH_ID, that the command in JCT_CONTROL waits for (R299) -/
  jctWait : List (Nat × Nat) := []
  escalSeq : Nat := 0
  /-- context number the round robin serves next (R282) -/
  rrNext : Nat := 0
  /-- the page that West's Junction waits for (R282) -/
  jctPage : Option PageWait := none
  /-- microseconds of REFCLK since the last second and the last unready millisecond counted (R453) -/
  subSec : Nat := 0
  subMs : Nat := 0
  deriving DecidableEq, Repr

/-- The half's own state. -/
def State.half (s : State) : Half → HalfState
  | .west => s.west
  | .east => s.east

/-- The state with a half's own state replaced. -/
def State.setHalf (s : State) (h : Half) (x : HalfState) : State :=
  match h with
  | .west => { s with west := x }
  | .east => { s with east := x }

/-- Words 0 to 47 of a half's OTP row as the model's part is shipped (DESIGN CHOICE, log entry 9): UID, FIT_CODE and FW_ROOT_HASH zero, stepping
A0, grade AA, and the voltage table of Table 14.5 with 850 mV for VSRAM, DYN_PERMILLE 1,000 and VALID 1; word 48 has DEBUG_LOCK. -/
def otpWords (h : Half) : List (Nat × Word) :=
  (if h = .east then [(6, (256 : Word))] else []) ++
    ([600, 617, 633, 650, 667, 683, 700, 717, 733, 750, 767, 783, 800, 817, 833, 850].zipIdx.flatMap (fun (e : Nat × Nat) =>
      let v := 350 + 50 * e.2 + e.1 * 2 ^ 12 + 850 * 2 ^ 22 + 1000 * 2 ^ 42 + 2 ^ 63
      [(16 + 2 * e.2, BitVec.ofNat 32 v), (17 + 2 * e.2, BitVec.ofNat 32 (v / 2 ^ 32))])) ++
    [(48, (1 : Word))]

/-- The NV controller of a half as shipped (R476): every plane erased, a Ledger whose bank 0 holds its BANK_OPEN, and an OTP row with a
good CRC_TEST. The generation 1 and the SEQ 0 of that record are DESIGN CHOICES (log entry 9). -/
def NvHalf.shipped (h : Half) : NvHalf := { bank0 := [{ type := 6, subject := 0, seq := 0, value := 1, crc := 0x215A }], otp := otpWords h ++ [(63, match h with | .west => 0xD54C6B5F | .east => 0xB108BDFB)] }

/-- The machine right after power-on, held in reset with PERST_N asserted (R465): every register at its reset value, no command
waiting, memory with nothing listed. -/
def State.reset : State := { west := { nv := NvHalf.shipped .west }, east := { nv := NvHalf.shipped .east } }

end Sys2Proof.Machine
end

