-- ==== Sys2Proof/Machine/Ops.lean ====
section
/-! DEFINITION. The operations every family shares: registers and their fields, outputs, free values, the error log (R441 to
R447), MSI-X (R370), wake requests (R385, R481), memory bytes, objects by handle (R208), and nodes of graphs. -/

namespace Sys2Proof.Machine

/-! ## Registers -/

/-- The register word at byte address `a`. -/
def State.rd (s : State) (a : Nat) : Word := mapGet resetWord s.regs a

/-- The state with a register word written. -/
def State.wr (s : State) (a : Nat) (v : Word) : State := { s with regs := mapSet resetWord s.regs a v }

/-- A field of a register. -/
def State.rf (s : State) (a : Nat) (f : Fld) : Nat := getF (s.rd (a + f.off)) f

/-- The state with a field of a register written; the register's other bits are kept. -/
def State.wf (s : State) (a : Nat) (f : Fld) (v : Nat) : State := s.wr (a + f.off) (putF (s.rd (a + f.off)) f v)

/-- A one-bit field as a truth value. -/
def State.on (s : State) (a : Nat) (f : Fld) : Bool := s.rf a f == 1

/-- The state with `n` added to a counter that wraps. -/
def State.add (s : State) (a : Nat) (f : Fld) (n : Nat) : State := s.wf a f (s.rf a f + n)

/-- The state with `n` added to a counter that saturates at its field's largest value. -/
def State.addSat (s : State) (a : Nat) (f : Fld) (n : Nat) : State := s.wf a f (min (s.rf a f + n) (2 ^ f.len - 1))

/-- The state with `n` taken from a counter, not below 0. -/
def State.sub (s : State) (a : Nat) (f : Fld) (n : Nat) : State := s.wf a f (s.rf a f - n)

/-! ## Halves, outputs, free values -/

/-- The state with a function applied to a half's own state. -/
def State.modHalf (s : State) (h : Half) (f : HalfState → HalfState) : State := s.setHalf h (f (s.half h))

/-- The state with an output sent. -/
def State.send (s : State) (o : Output) : State := { s with outbox := s.outbox ++ [o] }

/-- A free value, and the state with the counter advanced (log entry 3). -/
def State.fresh (s : State) : Nat × State := (Config.free s.freeCtr, { s with freeCtr := s.freeCtr + 1 })

/-- The number of a happening, and the state with the count advanced. -/
def State.stamp (s : State) : Nat × State := (s.order, { s with order := s.order + 1 })

/-- Is the device past its boot and not held in reset (R421, R400)? -/
def State.live (s : State) : Bool := s.stage == .running

/-- The device is past its boot: it runs, or its boot ROM stands in during recovery (R422). -/
def State.awake (s : State) : Bool := s.live || s.stage == .recovery

/-- The microsecond counter of a half (R381). -/
def State.us (s : State) (h : Half) : Nat := (s.half h).us

/-! ## MSI-X (R369, R370) -/

/-- The state of a PCIe function. -/
def State.func (s : State) (f : Nat) : FuncSt := mapGet (fun _ => {}) s.pcie.funcs f

/-- The state with a PCIe function's state replaced. -/
def State.setFunc (s : State) (f : Nat) (x : FuncSt) : State :=
  { s with pcie := { s.pcie with funcs := mapSet (fun _ => {}) s.pcie.funcs f x } }

/-- Is the vector open: MSI-X enabled for the function, and neither the function nor the vector masked? -/
def FuncSt.vectorOpen (f : FuncSt) (entry : Nat) : Bool := f.msixEn && !f.msixMask && f.unmasked.contains entry

/-- A host-less device sends a vector or a record to its master in NOTIFY (R343): it waits in `csw.notes`. -/
def State.note (s : State) (bs : List Byte) : State := { s with csw := { s.csw with notes := s.csw.notes ++ [bs] } }

/-- Has the device no PCIe host (R323)? -/
def State.hostless (s : State) : Bool := s.on (CSW_NODE .west) CSW_NODE.HOSTLESS

/-- An event for a vector: a message when the vector is open, else its pending bit (R370). A host-less device notifies its master instead
(R343, R369). -/
def State.msix (s : State) (f entry : Nat) : State :=
  if s.hostless then s.note (leBytes 4 (32 * f + entry))
  else if (s.func f).vectorOpen entry then s.send (.msix f entry)
  else if (s.func f).pendBits.contains entry then s
  else s.setFunc f { s.func f with pendBits := (s.func f).pendBits ++ [entry] }

/-- A posted write to host memory of a function; it carries a PASID while the function's PASID Enable is 1 (R364, R373). -/
def State.t3Put (s : State) (func pasid addr : Nat) (bs : List Byte) : State :=
  s.send (.t3Write func (if (s.func func).pasidEn then some pasid else none) addr bs)

/-! ## The error log (R441 to R447) -/

/-- What a rule asks to be recorded: the fields of Table 16.1 that apply. `event` is 1 + the number of the event bit set. -/
structure LogReq where
  cls : Nat
  sev : Nat
  src : Nat
  code : Nat := 0
  event : Nat := 0
  ctx : Option Nat := none
  func : Nat := 0
  tag : Nat := 0
  gid : Nat := 0
  node : Nat := 0
  handle : Nat := 0
  addr : Nat := 0
  subject : Nat := 0
  kind : Nat := 0
  pasid : Nat := 0
  detail : Nat := 0
  deriving DecidableEq, Repr

/-- A record of class DATA, DEGRADED (Table 16.2). -/
def logData (src : Nat) : LogReq := { cls := 1, sev := 1, src := src }
/-- A record of class SEAM_HEALTH: ACTION for REPROG_REQUIRED and UNUSABLE, otherwise INFO (Table 16.2). -/
def logHealth (plane state misses : Nat) : LogReq :=
  { cls := 2, sev := if state = 4 ∨ state = 5 then 2 else 0, src := 7, subject := plane, kind := 1,
    detail := state + misses * 256 }
/-- A record of class NV_COMMAND, ACTION (Table 16.2): the command byte and the port. -/
def logNv (cmd port code : Nat) : LogReq := { cls := 3, sev := 2, src := 7, code := code, detail := cmd + port * 256 }
/-- A record of class SOFTWARE, INFO: a refused or discarded write, with the value written (Table 16.2). -/
def logSoft (src value : Nat) : LogReq := { cls := 4, sev := 0, src := src, detail := value % 2 ^ 32 }
/-- A record of class HOST, DEGRADED (Table 16.2). -/
def logHost (src : Nat) : LogReq := { cls := 5, sev := 1, src := src }
/-- A record of class LINK, DEGRADED: the port's width before and after (Table 16.2). -/
def logLink (before after : Nat) : LogReq := { cls := 6, sev := 1, src := 8, detail := before + after * 4 }
/-- A record of class POWER, DEGRADED (Table 16.2). -/
def logPower : LogReq := { cls := 7, sev := 1, src := 1 }
/-- A record of class BOOT, FATAL: the FAIL_CODE (Table 16.2). -/
def logBoot (fail : Nat) : LogReq := { cls := 8, sev := 3, src := 9, detail := fail }
/-- A record of class CONTROLLER, DEGRADED: the kind (Table 16.2). -/
def logCtrl (src kind : Nat) : LogReq := { cls := 9, sev := 1, src := src, detail := kind }
/-- A record of class RESET, INFO: the cause code (Table 16.2). -/
def logReset (cause : Nat) : LogReq := { cls := 10, sev := 0, src := 9, detail := cause }

/-- The sixteen words of a record (Table 16.1). -/
def LogReq.words (r : LogReq) (h : Half) (seq time : Nat) : List Nat :=
  [ 1 + r.sev * 16 + r.cls * 256 + h.num * 2 ^ 16 + r.src * 2 ^ 17,
    r.code % 256 + (r.event % 256) * 256,
    seq, 0, time % 2 ^ 32, time / 2 ^ 32 % 2 ^ 32,
    (match r.ctx with | some c => c % 256 + 256 | none => 0) + r.func * 2 ^ 9,
    r.tag % 2 ^ 32, r.gid % 2 ^ 16 + (r.node % 4096) * 2 ^ 16, r.handle % 2 ^ 32,
    r.addr % 2 ^ 32, r.addr / 2 ^ 32 % 2 ^ 32,
    r.subject % 2 ^ 16 + r.kind * 2 ^ 16, r.pasid % 2 ^ 20,
    r.detail % 2 ^ 32, r.detail / 2 ^ 32 % 2 ^ 32 ]

/-- Unread records of a reader whose head is `head` (R446). -/
def unread (tail head : Nat) : Nat := (tail + 2048 - head) % 2048

/-- Unread records of the reader that stands furthest behind: the management controller's, and the host's while HOST_EN is 1. -/
def State.logTaken (s : State) (h : Half) : Nat :=
  let t := s.rf (ERR_TAIL h) ERR_TAIL.TAIL
  let m := unread t (s.rf (ERR_STATUS h) ERR_STATUS.MGMT_HEAD)
  if s.on (ERR_CTRL h) ERR_CTRL.HOST_EN then max m (unread t (s.rf (ERR_HOST_HEAD h) ERR_HOST_HEAD.HEAD)) else m

/-- Word `w` of the newest record of a half. -/
def State.newestWord (s : State) (h : Half) (w : Nat) : Nat :=
  (s.rd (ERR_RECORD h (16 * ((s.rf (ERR_TAIL h) ERR_TAIL.TAIL + 1023) % 1024) + w))).toNat

/-- May a record be merged into the newest one (R445): a record exists that no reader has passed, its TIME lies at most 1 ms back
(a TIME ahead of the counter is of before the last reset), and its CLASS, CODE, EVENT, SUBJECT, SUBJECT_KIND, CONTEXT and CTX_VALID are the same? -/
def State.mergeable (s : State) (h : Half) (r : LogReq) : Bool :=
  let t := s.rf (ERR_TAIL h) ERR_TAIL.TAIL
  let ws := r.words h 0 0
  decide (s.newestWord h 2 ≠ 0) &&
  decide (unread t (s.rf (ERR_STATUS h) ERR_STATUS.MGMT_HEAD) ≠ 0) &&
  decide (unread t (s.rf (ERR_HOST_HEAD h) ERR_HOST_HEAD.HEAD) ≠ 0) &&
  decide (s.newestWord h 4 + s.newestWord h 5 * 2 ^ 32 ≤ s.us h) &&
  decide (s.us h - (s.newestWord h 4 + s.newestWord h 5 * 2 ^ 32) ≤ 1000) &&
  decide (bits (s.newestWord h 0) 8 8 = bits (ws.getD 0 0) 8 8) &&
  decide (bits (s.newestWord h 1) 0 16 = bits (ws.getD 1 0) 0 16) &&
  decide (s.newestWord h 12 = ws.getD 12 0) &&
  decide (bits (s.newestWord h 6) 0 9 = bits (ws.getD 6 0) 0 9)

/-- Write words from address `a` on, one register each. -/
def State.wrWords (s : State) : Nat → List Nat → State
  | _, [] => s
  | a, w :: ws => (s.wr a (BitVec.ofNat 32 w)).wrWords (a + 4) ws

/-- SEQ of the record after one with SEQ `n`: it wraps from 0xFFFF_FFFF to 1 (R441). -/
def nextSeq (n : Nat) : Nat := if n = 0xFFFFFFFF then 1 else n + 1

/-- A new record takes the slot at TAIL; TAIL advances, and the log vector is raised when IRQ_EN is 1 (R441, R447). A host-less device also
sends the record to its master (R343). -/
def State.logNew (s : State) (h : Half) (r : LogReq) : State :=
  let t := s.rf (ERR_TAIL h) ERR_TAIL.TAIL
  let q := nextSeq (s.half h).logSeq
  let s1 := s.wrWords (ERR_RECORD h (16 * (t % 1024))) (r.words h q (s.us h))
  let s2 := (s1.modHalf h (fun x => { x with logSeq := q })).wf (ERR_TAIL h) ERR_TAIL.TAIL (t + 1)
  let s3 := if s.on (ERR_CTRL h) ERR_CTRL.IRQ_EN then s2.msix 0 h.num else s2
  if s.hostless then s3.note ((r.words h q (s.us h)).flatMap (leBytes 4)) else s3

/-- A record that finds no room is dropped and counted (R446). -/
def State.logDrop (s : State) (h : Half) (r : LogReq) : State :=
  (s.addSat (ERR_LOST h r.cls) ERR_LOST.RECORDS 1).wf (ERR_STATUS h) ERR_STATUS.OVERFLOW 1

/-- Record a happening in a half's log: merge it (R445), drop it for want of room (R446), or write a new record. -/
def State.log (s : State) (h : Half) (r : LogReq) : State :=
  if s.mergeable h r then
    let a := ERR_RECORD h (16 * ((s.rf (ERR_TAIL h) ERR_TAIL.TAIL + 1023) % 1024) + 1)
    let f : Fld := { lo := 16, len := 16 }
    s.addSat a f 1
  else if s.logTaken h ≥ 1024 ∨ (s.logTaken h = 1023 ∧ r.sev ≠ 3) then s.logDrop h r
  else s.logNew h r

/-! ## Domains and wake requests (R383 to R388, R481) -/

/-- Domain of Gallery `g` of a half, and so on (Table 14.2). -/
def galDom (h : Half) (g : Nat) : Nat := 32 * h.num + g
def plazaDom (h : Half) (q : Nat) : Nat := 64 + 4 * h.num + q
def sdsDom (h : Half) : Nat := 72 + h.num
def bankDom (h : Half) (b : Nat) : Nat := 74 + 16 * h.num + b
def phyDom (h : Half) (k : Nat) : Nat := 106 + 2 * h.num + k
def portDom (p : Nat) : Nat := 110 + p
def pcieDom : Nat := 118
def clusterDom (e : Nat) : Nat := 119 + e / 8
def jctDom (h : Half) : Nat := 127 + h.num
def pumpDom (h : Half) : Nat := 129 + h.num
def passDom (h : Half) : Nat := 131 + h.num
def lanesDom (h : Half) (k : Nat) : Nat := 133 + 4 * h.num + k
def sensorDom (h : Half) : Nat := 141 + h.num

/-- Class of a domain (Table 14.2). -/
def domClass (d : Nat) : Nat :=
  if d < 64 then 0 else if d < 72 then 1 else if d < 74 then 2 else if d < 106 then 3 else if d < 110 then 4
  else if d < 118 then 5 else if d = 118 then 6 else if d < 127 then 7 else if d < 129 then 8 else if d < 131 then 9
  else if d < 133 then 10 else if d < 141 then 11 else 12

/-- Half of a domain; sensor cluster 143, of the package, counts as West's. -/
def domHalf (d : Nat) : Half :=
  Half.ofNum (if d < 64 then d / 32 else if d < 72 then (d - 64) / 4 else if d < 74 then d - 72
    else if d < 106 then (d - 74) / 16 else if d < 110 then (d - 106) / 2 else if d < 118 then (d - 110) / 4
    else if d = 118 then 0 else if d < 127 then (d - 119) / 4 else if d < 129 then d - 127 else if d < 131 then d - 129
    else if d < 133 then d - 131 else if d < 141 then (d - 133) / 4 else if d < 143 then d - 141 else 0)

/-- The Lanes segment that serves a domain, if one does (Table 14.15). -/
def lanesOf (d : Nat) : List Nat :=
  let h := domHalf d
  match domClass d with
  | 1 => [lanesDom h ((d - 64) % 4)]
  | 2 => [lanesDom h 0]
  | 3 => [lanesDom h ((d - 74) % 16 / 4)]
  | 4 => [lanesDom h (if (d - 106) % 2 = 0 then 0 else 2)]
  | 5 => [lanesDom h ((d - 110) % 4)]
  | 7 => [lanesDom h ((d - 119) % 4)]
  | 8 => [lanesDom h 0]
  | 10 => [lanesDom h 0]
  | _ => []

/-- The domains that serve a domain, in the order in which they wake: the half's sensor cluster, then the Lanes segment. -/
def servers (d : Nat) : List Nat :=
  if domClass d = 12 then [] else sensorDom (domHalf d) :: lanesOf d

/-- State code of a domain (Table 14.8). -/
def State.dom (s : State) (d : Nat) : Nat := s.rf (PWR_DOMAIN_STATUS d) PWR_DOMAIN_STATUS.STATE

/-- Is a domain ON? -/
def State.domOn (s : State) (d : Nat) : Bool := s.dom d == 3

/-- PLL bit of CLK_PLL_STATUS that a domain needs (R380), where one does. -/
def pllOf (d : Nat) : Option Nat :=
  match domClass d with
  | 0 => some 3
  | 4 => some (5 + (d - 106) % 2)
  | 5 => some (7 + (d - 110) % 4)
  | 6 => some 11
  | 10 => some 4
  | _ => none

/-- Is a PLL locked? -/
def State.pllLocked (s : State) (h : Half) (b : Nat) : Bool := bit (s.rd (CLK_PLL_STATUS h)).toNat b

/-- A PLL starts when the first domain it serves requests a wake (R380). -/
def State.startPll (s : State) (d : Nat) : State :=
  match pllOf d with
  | none => s
  | some b =>
    let h := domHalf d
    if s.pllLocked h b ∨ s.power.starting.contains (h, b) then s
    else { s with power := { s.power with starting := s.power.starting ++ [(h, b)] } }

/-- One wake request joins the sequencer's queue: an OFF domain becomes QUEUED, one that is SLEEPING waits until it is OFF, any
other is left as it is (R384, R385). -/
def State.enqueueWake (s : State) (d : Nat) : State :=
  match s.dom d with
  | 0 =>
    let s1 := s.wf (PWR_DOMAIN_STATUS d) PWR_DOMAIN_STATUS.STATE 1
    State.startPll { s1 with power := { s1.power with wakeQ := s1.power.wakeQ ++ [d] } } d
  | 4 =>
    if s.power.wakeLater.contains d then s
    else { s with power := { s.power with wakeLater := s.power.wakeLater ++ [d] } }
  | _ => s

/-- The requests that a wake of `d` raises, in order: both Passage ends first for an East domain while either is off (R26), then
the domains that serve it (R481), then the domain. -/
def State.wakeOrder (s : State) (d : Nat) : List Nat :=
  let pre := if domHalf d = .east ∧ (s.dom 131 = 0 ∨ s.dom 131 = 4 ∨ s.dom 132 = 0 ∨ s.dom 132 = 4)
    then servers 131 ++ [131] ++ servers 132 ++ [132] else []
  pre ++ servers d ++ [d]

/-- A wake request (R385). A request for a disabled domain is refused, sets WAKE_REFUSED and is recorded (R388); the second
component says whether it was taken. -/
def State.wake (s : State) (d : Nat) : State × Bool :=
  if s.on (PWR_DOMAIN_CTRL d) PWR_DOMAIN_CTRL.DISABLE then
    ((s.wf PWR_EVENT PWR_EVENT.WAKE_REFUSED 1).log (domHalf d)
      { logPower with event := 7, subject := d, kind := 4 }, false)
  else ((s.wakeOrder d).foldl State.enqueueWake s, true)

/-- Raise a wake request for a domain that is not ON. -/
def State.need (s : State) (d : Nat) : State := if s.domOn d then s else (s.wake d).1

/-- Wake requests for a list of domains; true when all were taken. -/
def State.wakeAll (s : State) (ds : List Nat) : State × Bool :=
  ds.foldl (fun p d => if p.1.domOn d then p else let q := p.1.wake d; (q.1, p.2 && q.2)) (s, true)

/-! ## Memory bytes -/

/-- `len` bytes of a half's T1 or T2 from byte address `a` (tier 1 or 2). -/
def State.memBytes (s : State) (h : Half) (tier a len : Nat) : List Byte :=
  memRead zeroByte (if tier = 1 then (s.half h).mem.t1 else (s.half h).mem.t2) a len

/-- Words of `g` bytes that a store of `len` bytes from `a` covers whole. -/
def wholeWords (g a len : Nat) : List Nat :=
  (List.range ((a + len) / g - ceilDiv a g)).map (fun i => ceilDiv a g + i)

/-- Bytes stored in T1 or T2. A word replaced whole gets fresh parity or check bits (R232, R233). -/
def State.memPut (s : State) (h : Half) (tier a : Nat) (bs : List Byte) : State :=
  s.modHalf h (fun x =>
    if tier = 1 then
      { x with mem := { x.mem with
        t1 := memWrite zeroByte x.mem.t1 a bs
        badT1 := x.mem.badT1.filter (fun w => !(wholeWords 4 a bs.length).contains w) } }
    else
      { x with mem := { x.mem with
        t2 := memWrite zeroByte x.mem.t2 a bs
        badT2 := x.mem.badT2.filter (fun w => !(wholeWords 8 a bs.length).contains w) } })

/-- Words of `g` bytes that a store of `len` bytes from `a` covers in part: at most its first and its last. -/
def partWords (g a len : Nat) : List Nat :=
  if len = 0 then []
  else
    let ws := if (a + len - 1) / g = a / g then [a / g] else [a / g, (a + len - 1) / g]
    ws.filter (fun w => !(decide (a ≤ g * w) && decide (g * w + g ≤ a + len)))

/-- Bytes of a word of a tier: 4 in T1, 8 in T2 (R231, R233). -/
def wordBytes (tier : Nat) : Nat := if tier = 1 then 4 else 8

/-- Uncorrectable words of a tier of a half. -/
def State.badWords (s : State) (h : Half) (tier : Nat) : List Nat :=
  if tier = 1 then (s.half h).mem.badT1 else (s.half h).mem.badT2

/-- A word of T1 (by word number) or T2 (by 64-bit word number) has been found uncorrectable: it stays so until it is replaced whole
(R232, R233). -/
def State.markBad (s : State) (h : Half) (tier w : Nat) : State :=
  s.modHalf h (fun x =>
    if tier = 1 then (if x.mem.badT1.contains w then x else { x with mem := { x.mem with badT1 := x.mem.badT1 ++ [w] } })
    else if x.mem.badT2.contains w then x else { x with mem := { x.mem with badT2 := x.mem.badT2 ++ [w] } })

/-- Replays that succeeded and T2 words corrected are counted (R231, R233). -/
def State.scanCount (s : State) (h : Half) (tier : Nat) (c : Scan) : State :=
  let s1 := if c.replayed = 0 then s else s.add (MEM_PARITY_REPLAY h) MEM_PARITY_REPLAY.REPLAYS c.replayed
  if tier = 1 ∨ c.corrected = 0 then s1
  else (s1.add (MEM_SECDED_CE h) MEM_SECDED_CE.WORDS c.corrected).wf (MEM_EVENT h) MEM_EVENT.SECDED_CE 1

/-- A store of which the words `bad` are uncorrectable and covered in part: those bytes are discarded, each with SUBWORD_DISCARD and a record
(R232, R233). -/
def State.putParts (s : State) (h : Half) (tier a : Nat) (bs : List Byte) (bad : List Nat) : State :=
  if bad.isEmpty then s.memPut h tier a bs
  else
    let g := wordBytes tier
    let skip := if bad.contains (a / g) then min (g - a % g) bs.length else 0
    let e := a + bs.length
    let cut := if bad.contains ((e - 1) / g) then min ((e - 1) % g + 1) (bs.length - skip) else 0
    bad.foldl (fun s w => (s.wf (MEM_EVENT h) MEM_EVENT.SUBWORD_DISCARD 1).log h { logData 3 with event := 5, addr := max a (g * w) })
      (s.memPut h tier (a + skip) ((bs.drop skip).take (bs.length - skip - cut)))

/-- A store finds the words `new` uncorrectable as it reads the words that it covers in part. -/
def State.putFinds (s : State) (h : Half) (tier a : Nat) (bs : List Byte) (new : List Nat) : State :=
  let s1 := new.foldl (fun s w => s.markBad h tier w) s
  s1.putParts h tier a bs ((partWords (wordBytes tier) a bs.length).filter (fun w => (s1.badWords h tier).contains w))

/-- A unit's store in T1 or T2. A word covered in part is read first: a free value says which of them turn out uncorrectable and how many are
corrected (R232, R233; log entry 3). -/
def State.storeBytes (s : State) (h : Half) (tier a : Nat) (bs : List Byte) : State :=
  let ps := partWords (wordBytes tier) a bs.length
  if ps.isEmpty then s.memPut h tier a bs
  else
    let v := s.fresh
    let new := (ps.zipIdx.filter (fun e => bit v.1 e.2)).map Prod.fst
    (v.2.scanCount h tier { corrected := v.1 / 4 % (ps.length + 1 - new.length) }).putFinds h tier a bs new

/-- A zero fill of a run of bytes: unlisted bytes read zero (R229). -/
def State.memZero (s : State) (h : Half) (tier a len : Nat) : State :=
  s.modHalf h (fun x =>
    if tier = 1 then
      { x with mem := { x.mem with
        t1 := mapEraseRange x.mem.t1 a len
        badT1 := x.mem.badT1.filter (fun w => !(decide (a ≤ 4 * w) && decide (4 * w < a + len))) } }
    else
      { x with mem := { x.mem with
        t2 := mapEraseRange x.mem.t2 a len
        badT2 := x.mem.badT2.filter (fun w => !(decide (a ≤ 8 * w) && decide (8 * w < a + len))) } })

/-- A number into a rising list, once. -/
def insertNat (x : Nat) : List Nat → List Nat
  | [] => [x]
  | y :: ys => if x < y then x :: y :: ys else if x = y then y :: ys else y :: insertNat x ys

/-- The uncorrectable words that `len` bytes from `a` meet, rising. -/
def State.badIn (s : State) (h : Half) (tier a len : Nat) : List Nat :=
  ((s.badWords h tier).filter (fun w => decide (wordBytes tier * w < a + len) && decide (a < wordBytes tier * w + wordBytes tier))).foldr
    insertNat []

/-- Does a read of `len` bytes meet a bad word of the tier? -/
def State.memBad (s : State) (h : Half) (tier a len : Nat) : Bool := !(s.badIn h tier a len).isEmpty

/-- The words of a read of `len` bytes from `a` at the byte offsets `offs` are found uncorrectable. -/
def State.findBad (s : State) (h : Half) (tier a len : Nat) (offs : List Nat) : State :=
  (offs.filter (fun o => decide (o < len))).foldl (fun s o => s.markBad h tier ((a + o) / wordBytes tier)) s

/-- Uncorrectable words reported: the event bit and the counter (R235). -/
def State.countBad (s : State) (h : Half) (tier n : Nat) : State :=
  if n = 0 then s
  else if tier = 1 then (s.wf (MEM_EVENT h) MEM_EVENT.PARITY_UE 1).add (MEM_PARITY_UE h) MEM_PARITY_UE.WORDS n
  else (s.wf (MEM_EVENT h) MEM_EVENT.SECDED_UE 1).add (MEM_SECDED_UE h) MEM_SECDED_UE.WORDS n

/-- A read of `len` bytes of a tier and what its checkers find: replays and corrections are counted, uncorrectable words, found now or known,
are counted and listed, rising (R231, R233, R235). -/
def State.scanWords (s : State) (h : Half) (tier a len : Nat) (offs : List Nat) : State × List Nat :=
  let s1 := s.findBad h tier a len offs
  let ws := s1.badIn h tier a len
  (s1.countBad h tier ws.length, ws)
def State.scan (s : State) (h : Half) (tier a len : Nat) (c : Scan) : State × List Nat :=
  (s.scanCount h tier c).scanWords h tier a len c.bad

/-- As `scanWords`, for words that an earlier read of the same bytes has reported: only those newly found count and are listed. -/
def State.scanNew (s : State) (h : Half) (tier a len : Nat) (offs : List Nat) : State × List Nat :=
  let s1 := s.findBad h tier a len offs
  let ws := (s1.badIn h tier a len).filter (fun w => !(s.badWords h tier).contains w)
  (s1.countBad h tier ws.length, ws)

/-- The record of an uncorrectable word: the tier by its event, the byte address, and the object's handle where one exists (R235). -/
def State.logWord (s : State) (h : Half) (tier w handle : Nat) : State :=
  s.log h { logData 3 with event := if tier = 1 then 2 else 4, addr := wordBytes tier * w, handle := handle }

/-! ## Objects (R207, R208, R222) -/

/-- An object as a bound name reaches it: its half and entry, the tier and byte address of its home, and its size in bytes. -/
structure Obj where
  half : Half
  idx : Nat
  tier : Nat
  addr : Nat
  size : Nat
  deriving DecidableEq, Repr

/-- Granule size of a tier (R207). -/
def granule (tier : Nat) : Nat := if tier = 1 then 4096 else 65536

/-- Half, index and generation of a handle (Table 8.2). -/
def handleHalf (v : Nat) : Half := Half.ofNum (bits v 15 1)
def handleIdx (v : Nat) : Nat := bits v 0 15
def handleGen (v : Nat) : Nat := bits v 16 14

/-- The state code of a home-table entry (Table 8.8). -/
def State.objState (s : State) (h : Half) (i : Nat) : Nat := s.rf (MEM_HOME h i) MEM_HOME.STATE

/-- SIZE of an entry, 36 bits. -/
def State.objSize (s : State) (h : Half) (i : Nat) : Nat :=
  s.rf (MEM_HOME h i) MEM_HOME.SIZE_LO + s.rf (MEM_HOME h i) MEM_HOME.SIZE_HI * 2 ^ 32

/-- Does the handle name a non-FREE entry of the context, with its generation, in the half (R208, R213)? -/
def State.handleOk (s : State) (h : Half) (ctx v : Nat) : Bool :=
  decide (v < 2 ^ 30) && decide (handleHalf v = h) && decide (handleGen v ≠ 0) &&
  decide (s.objState h (handleIdx v) ≠ 0) &&
  decide (s.rf (MEM_HOME h (handleIdx v)) MEM_HOME.GEN = handleGen v) &&
  decide (s.rf (MEM_HOME h (handleIdx v)) MEM_HOME.CONTEXT = ctx)

/-- The object of an entry at its present home. -/
def State.objAt (s : State) (h : Half) (i : Nat) : Obj :=
  let t := s.rf (MEM_HOME h i) MEM_HOME.TIER
  { half := h, idx := i, tier := t, addr := s.rf (MEM_HOME h i) MEM_HOME.BASE * granule t, size := s.objSize h i }

/-- The object a handle names, if it is not stale and belongs to the context. -/
def State.object (s : State) (h : Half) (ctx v : Nat) : Option Obj :=
  if s.handleOk h ctx v then some (s.objAt h (handleIdx v)) else none

/-- Is the object a PIN_T1 object? -/
def State.isPin (s : State) (h : Half) (i : Nat) : Bool := bit (s.rf (MEM_HOME h i) MEM_HOME.FLAGS) 0

/-- Bytes of an object. -/
def State.objRead (s : State) (o : Obj) (off len : Nat) : List Byte := s.memBytes o.half o.tier (o.addr + off) len

/-- Bytes stored in an object. -/
def State.objWrite (s : State) (o : Obj) (off : Nat) (bs : List Byte) : State := s.storeBytes o.half o.tier (o.addr + off) bs

/-! ## Nodes and graphs -/

/-- KIND, half, PRIO and the other fields of a node's 128 bytes (Table 10.4). -/
def Node.kind (n : Node) : Nat := fld n.bytes 0 3 0
def Node.half (n : Node) : Half := Half.ofNum (fld n.bytes 0 4 4)
def Node.prio (n : Node) : Nat := fld n.bytes 0 6 5
def Node.notify (n : Node) : Bool := fld n.bytes 0 7 7 == 1
def Node.resume (n : Node) : Bool := fld n.bytes 0 8 8 == 1
def Node.bindW (n : Node) : Nat := fld n.bytes 4 7 0
def Node.unit (n : Node) : Nat := fld n.bytes 8 15 0
def Node.tag (n : Node) : Nat := u32 n.bytes 12
def Node.bind (n : Node) (i : Nat) : Nat := u32 n.bytes (0x20 + 4 * i)

/-- CONTINUE and the status array of a graph (Table 10.2). -/
def Graph.cont (g : Graph) : Bool := fld g.header 0 6 6 == 1
def Graph.phase (g : Graph) : Nat := fld g.header 0 5 4
def Graph.status (g : Graph) : Nat := u64 g.header 0x10
def Graph.statusT1 (g : Graph) : Bool := fld g.header 0x18 0 0 == 1

/-- A graph named by context and GRAPH_ID. -/
def State.graph (s : State) (ctx gid : Nat) : Option Graph := s.graphs.find? (fun g => g.ctx == ctx && g.gid == gid)

/-- The node a reference names, with its graph. -/
def State.node (s : State) (r : NodeRef) : Option (Graph × Node) :=
  match s.graph r.ctx r.gid with
  | none => none
  | some g => match g.nodes[r.node]? with
    | none => none
    | some n => some (g, n)

/-- The state with a function applied to one graph. -/
def State.modGraph (s : State) (ctx gid : Nat) (f : Graph → Graph) : State :=
  { s with graphs := s.graphs.map (fun g => if g.ctx == ctx && g.gid == gid then f g else g) }

/-- The state with a function applied to one node. -/
def State.modNode (s : State) (r : NodeRef) (f : Node → Node) : State :=
  s.modGraph r.ctx r.gid (fun g => { g with nodes := g.nodes.modify r.node f })

/-- Rank of a primary status in the order of R294: the larger rank wins. -/
def primRank (p : Nat) : Nat :=
  if p = 5 then 5 else if p = 4 then 4 else if p = 3 then 3 else if p = 2 then 2 else if p = 1 then 1 else 0

/-- The worse of two primary statuses (R294). -/
def worse (p q : Nat) : Nat := if primRank p < primRank q then q else p

/-- The flag bit of Table 10.10 that a primary status carries: DEGRADED, CLIPPED and DATA_ERROR have one. -/
def primFlag (p : Nat) : Nat := if p = 1 then 1 else if p = 2 then 2 else if p = 3 then 4 else 0

/-- Mark a node with a status that it will complete with (R294). -/
def Node.mark (n : Node) (p : Nat) : Node :=
  { n with prim := worse n.prim p, flags := n.flags ||| primFlag p }

/-- Mark a node of the state. -/
def State.markNode (s : State) (r : NodeRef) (p : Nat) : State := s.modNode r (fun n => n.mark p)

/-- A node's unit is done with it: the status is added and NODE_COMPLETE is due (R287). A node that has ended already is left. -/
def State.endNode (s : State) (r : NodeRef) (p : Nat) : State :=
  s.modNode r (fun n => if n.phase = .ended ∨ n.phase = .opened ∨ n.phase = .done then n
    else { n.mark p with phase := .ended })

/-- As `endNode`, with the DETAIL and DETAIL2 fields of the status word (Table 10.10). -/
def State.endNodeD (s : State) (r : NodeRef) (p d d2 : Nat) : State :=
  (s.modNode r (fun n => { n with detail := d, detail2 := d2 })).endNode r p

/-- Is the node in a given phase? -/
def State.nodeIn (s : State) (r : NodeRef) (ph : NodePhase) : Bool :=
  match s.node r with
  | some (_, n) => n.phase == ph
  | none => false

/-- Has the graph of a node been aborted? -/
def State.nodeAborted (s : State) (r : NodeRef) : Bool :=
  match s.graph r.ctx r.gid with
  | some g => g.aborted
  | none => true

/-- A log request with a node's context, graph, index and TAG (Table 16.1). -/
def State.logNode (s : State) (h : Half) (r : NodeRef) (q : LogReq) : State :=
  s.log h { q with ctx := some r.ctx, gid := r.gid, node := r.node,
                   tag := match s.node r with | some (_, n) => n.tag | none => 0 }

/-- The object that a bind entry of a node names, at the home the node keeps (R222, R225). -/
def State.bindObj (s : State) (r : NodeRef) (i : Nat) : Option Obj :=
  match s.node r with
  | none => none
  | some (_, n) =>
    if n.bind i = 0 then none
    else
      let h := handleHalf (n.bind i)
      let o := s.objAt h (handleIdx (n.bind i))
      match n.homes.find? (fun e => e.1 == n.bind i) with
      | some (_, t, a) => some { o with tier := t, addr := a }
      | none => some o

/-! ## Galleries, engines and other keyed parts -/

/-- A Gallery of a half. -/
def State.gal (s : State) (h : Half) (g : Nat) : Gal := mapGet (fun _ => {}) (s.half h).gals g
def State.setGal (s : State) (h : Half) (g : Nat) (x : Gal) : State :=
  s.modHalf h (fun y => { y with gals := mapSet (fun _ => {}) y.gals g x })

/-- A stream engine, numbered device-wide (R17). -/
def State.engine (s : State) (e : Nat) : Engine := mapGet (fun _ => {}) s.engines e
def State.setEngine (s : State) (e : Nat) (x : Engine) : State :=
  { s with engines := mapSet (fun _ => {}) s.engines e x }

/-- Half of a stream engine. -/
def engHalf (e : Nat) : Half := Half.ofNum (e / 32)

/-- A slot ring of a half. -/
def State.ring (s : State) (h : Half) (r : Nat) : Ring := mapGet (fun _ => {}) (s.half h).rings r
def State.setRing (s : State) (h : Half) (r : Nat) (x : Ring) : State :=
  s.modHalf h (fun y => { y with rings := mapSet (fun _ => {}) y.rings r x })

/-- A context beside its registers. -/
def State.ctx (s : State) (c : Nat) : Ctx := mapGet (fun _ => {}) s.ctxs c
def State.setCtx (s : State) (c : Nat) (x : Ctx) : State := { s with ctxs := mapSet (fun _ => {}) s.ctxs c x }

/-- A port, numbered device-wide; and queues and barriers of a half. -/
def State.port (s : State) (p : Nat) : PortSt := mapGet (fun _ => {}) s.ports p
def State.setPort (s : State) (p : Nat) (x : PortSt) : State := { s with ports := mapSet (fun _ => {}) s.ports p x }
def portHalf (p : Nat) : Half := Half.ofNum (p / 4)
def State.sq (s : State) (h : Half) (q : Nat) : SendQ := mapGet (fun _ => {}) (s.half h).sqs q
def State.setSq (s : State) (h : Half) (q : Nat) (x : SendQ) : State :=
  s.modHalf h (fun y => { y with sqs := mapSet (fun _ => {}) y.sqs q x })
def State.rq (s : State) (h : Half) (q : Nat) : RecvQ := mapGet (fun _ => {}) (s.half h).rqs q
def State.setRq (s : State) (h : Half) (q : Nat) (x : RecvQ) : State :=
  s.modHalf h (fun y => { y with rqs := mapSet (fun _ => {}) y.rqs q x })
def State.bar (s : State) (h : Half) (b : Nat) : Barrier := mapGet (fun _ => {}) (s.half h).bars b
def State.setBar (s : State) (h : Half) (b : Nat) (x : Barrier) : State :=
  s.modHalf h (fun y => { y with bars := mapSet (fun _ => {}) y.bars b x })

/-- Is the Passage up (R36)? -/
def State.passOn (s : State) : Bool := s.on BOOT_GLOBAL_STATUS BOOT_GLOBAL_STATUS.PASSAGE_UP

/-- A message joins a Passage class towards a half (R20, R21). -/
def State.passControl (s : State) (dst : Half) (m : PassMsg) : State :=
  s.modHalf dst (fun x => { x with control := x.control ++ [m] })
def State.passToken (s : State) (dst : Half) (m : PassMsg) : State :=
  s.modHalf dst (fun x => { x with token := x.token ++ [m] })
def State.passActivation (s : State) (dst : Half) (m : PassMsg) : State :=
  s.modHalf dst (fun x => { x with activation := x.activation ++ [m] })
def State.passMove (s : State) (dst : Half) (m : PassMsg) : State :=
  s.modHalf dst (fun x => { x with move := x.move ++ [m] })

/-- The transfers of a class towards a half, oldest first. -/
def HalfState.cls (x : HalfState) : PClass → List PassMsg
  | .control => x.control
  | .token => x.token
  | .activation => x.activation
  | .move => x.move

/-- The half with the transfers of a class replaced. -/
def HalfState.setCls (x : HalfState) (k : PClass) (l : List PassMsg) : HalfState :=
  match k with
  | .control => { x with control := l }
  | .token => { x with token := l }
  | .activation => { x with activation := l }
  | .move => { x with move := l }

/-- Bytes of data that a transfer carries. -/
def PassMsg.len : PassMsg → Nat
  | .payload _ _ _ _ bs => bs.length
  | .feed _ _ bs _ => bs.length
  | .move _ _ _ bs => bs.length
  | .answer _ _ bs => bs.length
  | .flit x _ => x.flit.length
  | _ => 0

/-- 64-byte beats of a transfer: one at least. -/
def PassMsg.beats (m : PassMsg) : Nat := max 1 ((m.len + 63) / 64)

/-- Does Passage payload of a token's producer still travel towards the half (R22)? -/
def HalfState.holdsToken (x : HalfState) (t : Token) : Bool :=
  x.activation.any (fun m => match m with
    | .payload n _ _ _ _ => n == some { ctx := t.ctx, gid := t.gid, node := t.src }
    | _ => false)

/-- Is a transfer held back under R22: a token for its node's data? -/
def HalfState.holds (x : HalfState) : PassMsg → Bool
  | .token t => x.holdsToken t
  | _ => false

/-- May the oldest transfer of a class go, as far as the class itself says? -/
def HalfState.canGo (x : HalfState) (k : PClass) : Bool :=
  match (x.cls k).head? with
  | some m => !x.holds m
  | none => false

/-- Is it the Move class's turn, which gets one beat in 16 while a Move transfer waits (R20): have 15 beats of the other classes gone for each beat
of the oldest? -/
def HalfState.moveDue (x : HalfState) : Bool :=
  match x.move with
  | m :: _ => decide (15 * m.beats ≤ x.lent)
  | [] => false

/-- Is the oldest transfer of a class the one that the Passage sends next towards the half (R20): no transfer of a higher class waits that may go,
and the Move class has its grant? -/
def HalfState.turn (x : HalfState) (k : PClass) : Bool :=
  x.canGo k && match k with
    | .control => !x.moveDue
    | .token => !x.moveDue && !x.canGo .control
    | .activation => !x.moveDue && !x.canGo .control && !x.canGo .token
    | .move => x.moveDue || !(x.canGo .control || x.canGo .token || x.canGo .activation)

/-- The oldest transfer of a class has gone; its beats count for or against the Move class's grant. -/
def HalfState.sent (x : HalfState) (k : PClass) (m : PassMsg) (q : List PassMsg) : HalfState :=
  let y := x.setCls k q
  { y with lent := if y.move.isEmpty then 0 else if k = .move then y.lent - 15 * m.beats else y.lent + m.beats }

/-- The bytes of a read are given to the host; from East they cross the Passage (R34). -/
def State.readGive (s : State) (h : Half) (f off : Nat) (bs : List Byte) : State :=
  match h with
  | .west => s.send (.readDone f off bs)
  | .east => s.passControl .west (.answer f off bs)

/-- A command's effect as an outcome: the next state. -/
def done (s : State) : Host.Outcome State Fault Refusal := .next s

/-- A command's effect on a device that has power, held in reset or not. -/
def whenPowered (s : State) (f : State → State) : Host.Outcome State Fault Refusal :=
  .next (if s.stage = .off then s else f s)

/-- A command's effect on a device that is past its boot; a device that is off, held in reset or in recovery does nothing with
it (R400, R421, R422). -/
def whenLive (s : State) (f : State → State) : Host.Outcome State Fault Refusal :=
  .next (if s.live then f s else s)

/-- A command's effect on a device that runs or is in recovery; one that is off or held in reset does nothing with it. -/
def whenAwake (s : State) (f : State → State) : Host.Outcome State Fault Refusal :=
  .next (if s.awake then f s else s)

end Sys2Proof.Machine
end

