-- ==== Sys2Proof/Machine/Power.lean ====
section
/-! DEFINITION. Power domains, wakes, operating points, the cap and thermal loops, gating and throttle reasons (chapter 14). -/

namespace Sys2Proof.Machine

/-! ## What keeps a domain on (Table 14.2, R481) -/

/-- Nodes of admitted graphs that satisfy a test, with their names. -/
def State.nodesWhere (s : State) (p : Graph → Node → Bool) : List (NodeRef × Node) :=
  s.graphs.flatMap (fun g =>
    (List.range g.nodes.length).filterMap (fun i =>
      match g.nodes[i]? with
      | some n => if p g n then some ({ ctx := g.ctx, gid := g.gid, node := i }, n) else none
      | none => none))

/-- Has the node been dispatched and not yet completed? -/
def Node.active (n : Node) : Bool :=
  n.phase == .binding || n.phase == .waking || n.phase == .running || n.phase == .ended

/-- Entries of a half's home table that are not FREE. Only listed register words can differ from FREE. -/
def State.liveEntries (s : State) (h : Half) : List Nat :=
  (s.regs.filter (fun e => decide (MEM_HOME h 0 ≤ e.1) && decide (e.1 < MEM_HOME h 32768) &&
    decide ((e.1 - MEM_HOME h 0) % 32 = 0) && decide (getF e.2 MEM_HOME.STATE ≠ 0))).map
    (fun e => (e.1 - MEM_HOME h 0) / 32)

/-- Granules of an entry's object. -/
def State.objGranules (s : State) (h : Half) (i : Nat) : Nat :=
  ceilDiv (s.objSize h i) (granule (s.rf (MEM_HOME h i) MEM_HOME.TIER))

/-- Do two runs (base, length) meet? -/
def runsMeet (a la b lb : Nat) : Bool := decide (0 < la ∧ 0 < lb) && decide (a < b + lb) && decide (b < a + la)

/-- T1 granules of a half that belong to an object, to a run held or to a fill: base and length. -/
def State.t1Runs (s : State) (h : Half) : List (Nat × Nat) :=
  let m := (s.half h).mem
  ((s.liveEntries h).filter (fun i => s.rf (MEM_HOME h i) MEM_HOME.TIER == 1)).map
      (fun i => (s.rf (MEM_HOME h i) MEM_HOME.BASE, s.objGranules h i)) ++
    ((s.liveEntries h).filter (fun i => (s.objState h i == 2 || s.objState h i == 3) &&
        s.rf (MEM_HOME h i) MEM_HOME.DEST_TIER == 0)).map
      (fun i => (s.rf (MEM_HOME h i) MEM_HOME.DEST, ceilDiv (s.objSize h i) 4096)) ++
    (m.fills.filter (fun f => f.tier == 1)).map (fun f => (f.base, f.len)) ++
    ((m.olds.map Prod.snd).filter (fun f => f.tier == 1)).map (fun f => (f.base, f.len)) ++
    (m.allocs.filter (fun a => a.tier == 1)).map (fun a => (a.base, ceilDiv a.size 4096))

/-- Addresses and words of the stuck-cell entries that are not FREE: entry, location word and information word (R107). -/
def State.stuckEntries (s : State) (h : Half) : List (Nat × Word × Word) :=
  (s.regs.filter (fun e => decide (NV_STUCK_INFO h 0 ≤ e.1) && decide (e.1 < NV_STUCK_INFO h 1024) &&
    decide ((e.1 - NV_STUCK_INFO h 0) % 8 = 0) && decide (getF e.2 NV_STUCK_INFO.STATE ≠ 0))).map
    (fun e => ((e.1 - NV_STUCK_INFO h 0) / 8, s.rd (NV_STUCK_LOC h ((e.1 - NV_STUCK_INFO h 0) / 8)), e.2))

/-- Quadrants that the Plaza's running operation uses (R178). -/
def State.plazaQuads (s : State) (h : Half) : Nat :=
  match (s.half h).plaza.node with
  | none => 0
  | some r => match s.node r with
    | none => 0
    | some (_, n) => if fld n.bytes 0x40 9 8 = 0 then 4 else if fld n.bytes 0x40 9 8 = 1 then 2 else 1

/-- Is any engine of the cluster running a chain or holding a shadow? -/
def State.clusterBusy (s : State) (c : Nat) : Bool :=
  s.engines.any (fun e => decide (e.1 / 8 = c) && (e.2.chain.isSome || e.2.shadow.isSome))

/-- Does T2 of a half hold a bound object? -/
def State.inT2 (s : State) (h : Half) (b : Nat × Bool) : Bool :=
  decide (handleHalf b.1 = h) && s.rf (MEM_HOME h (handleIdx b.1)) MEM_HOME.TIER == 2

/-- Is T2 of the half in use: by a fill, a copy, a move on its way, the loader's image, a dispatched node or a STR_ARM chain? -/
def State.t2Busy (s : State) (h : Half) : Bool :=
  let m := (s.half h).mem
  m.fills.any (fun f => f.tier == 2) || !m.copies.isEmpty || m.allocs.any (fun a => a.tier == 2) ||
  ((s.half h).ldr.phase == .program && fld (s.half h).ldr.desc 0 13 12 == 1) ||
  (s.nodesWhere (fun _ n => n.active)).any (fun e => e.2.bound.any (s.inT2 h)) ||
  s.engines.any (fun e => e.2.bound.any (s.inT2 h))

/-- Domains that hold a run of a half's T1 (its SRAM banks) or T2 (its DRAM PHYs). -/
def runDoms (h : Half) (tier base len : Nat) : List Nat :=
  if tier = 1 then ((List.range 16).filter (fun b => runsMeet base len (2048 * b) 2048)).map (bankDom h)
  else [phyDom h 0, phyDom h 1]

/-- Domains that hold an entry's object. -/
def State.objDoms (s : State) (h : Half) (i : Nat) : List Nat :=
  runDoms h (s.rf (MEM_HOME h i) MEM_HOME.TIER) (s.rf (MEM_HOME h i) MEM_HOME.BASE) (s.objGranules h i)

/-- Domains that hold bound objects, each once. -/
def State.boundDoms (s : State) (l : List (Nat × Bool)) : List Nat :=
  (l.flatMap (fun b => s.objDoms (handleHalf b.1) (handleIdx b.1))).eraseDups

/-- Has an NV step of the Gallery's Seams been asked for or is one running? -/
def State.galNvBusy (s : State) (h : Half) (g : Nat) : Bool :=
  let nv := (s.half h).nv
  nv.pending.any (fun e => decide (e.1 / 64 = g) && !e.2.isEmpty) || nv.running.any (fun e => decide (e.1 / 64 = g))

/-- Is the domain on for the conditions of Lanes segments and sensor clusters: WAKING, ON or SLEEPING (R481)? -/
def State.domCounts (s : State) (d : Nat) : Bool := s.dom d == 2 || s.dom d == 3 || s.dom d == 4

/-- A context's EN. -/
def State.ctxEn (s : State) (c : Nat) : Bool := s.on (JCT_CTX_CFG c) JCT_CTX_CFG.EN

/-- Does a context have EN 1? -/
def State.anyCtxEn (s : State) : Bool := (List.range 256).any (fun c => s.ctxEn c)

/-- Does a Causeway port have EN 1? -/
def State.portEn (s : State) (p : Nat) : Bool := s.on (CSW_PORT_CFG (portHalf p) p) CSW_PORT_CFG.EN

/-- The keep-on condition of a domain (Table 14.2; R24, R60, R178, R204, R238, R359, R481). -/
def State.keepOn (s : State) (d : Nat) : Bool :=
  let h := domHalf d
  match domClass d with
  | 0 => (s.gal h (d % 32)).node.isSome || !(s.gal h (d % 32)).waves.isEmpty || s.galNvBusy h (d % 32)
  | 1 => decide ((d - 64) % 4 < s.plazaQuads h)
  | 2 => ((List.range 32).any (fun g => s.domOn (galDom h g)) &&
      ((s.stuckEntries h).any (fun e => getF e.2.2 NV_STUCK_INFO.STATE == 1) ||
        !(s.nodesWhere (fun _ n => n.active && n.kind == 1 && decide (n.half = h) && fld n.bytes 0x64 8 0 != 0x1FF)).isEmpty)) ||
      (s.half h).stage.node.isSome
  | 3 => let b := (d - 74) % 16
    (s.t1Runs h).any (fun r => runsMeet r.1 r.2 (2048 * b) 2048) ||
      runsMeet (s.rf (MEM_POOL_CTRL h) MEM_POOL_CTRL.BASE) (s.rf (MEM_POOL_CTRL h) MEM_POOL_CTRL.SIZE) (2048 * b) 2048
  | 4 => s.t2Busy h
  | 5 => s.portEn (d - 110) || ((d - 110) % 4 == 0 && (List.range 3).any (fun i => s.domOn (d + 1 + i)))
  | 6 => s.stage == .running || s.stage == .recovery
  | 7 => s.clusterBusy (d - 119)
  | 8 => if d = 127 then s.anyCtxEn || !s.graphs.isEmpty
         else s.graphs.any (fun g => g.nodes.any (fun n => decide (n.half = .east) && n.phase != .done))
  | 9 => !(s.half h).nv.pulseQ.isEmpty || !(s.half h).nv.pulsing.isEmpty
  | 10 => s.pcie.link.isSome || s.anyCtxEn || !s.graphs.isEmpty || (List.range 8).any (fun p => s.portEn p)
  | 11 => (List.range 144).any (fun e => (lanesOf e).contains d && s.domCounts e)
  | _ => if d = 143 then s.stage == .running || s.stage == .recovery
         else (List.range 144).any (fun e => (servers e).contains d && s.domCounts e)

/-- Keep-on conditions that have become true raise wake requests (R385). -/
def State.keepWakes (s : State) (ds : List Nat) : State :=
  ds.foldl (fun s d => if s.keepOn d && (s.dom d == 0 || s.dom d == 4) then (s.wake d).1 else s) s

/-! ## Nodes that wait for a grant (R292) -/

/-- Domains that a node needs to run: those of its unit (its Galleries and the Sidestreet, its Plaza quadrants, its cluster), and those that hold
the objects it binds (R292, R408). -/
def State.nodeDoms (s : State) (n : Node) : List Nat :=
  let h := n.half
  let unit := match n.kind with
    | 1 => (List.range (bits n.unit 5 6)).map (fun i => galDom h (bits n.unit 0 5 + i)) ++
        (if fld n.bytes 0x64 8 0 = 0x1FF then [] else [sdsDom h])
    | 2 => (List.range (if fld n.bytes 0x40 9 8 = 0 then 4 else if fld n.bytes 0x40 9 8 = 1 then 2 else 1)).map (plazaDom h)
    | 3 => [sdsDom h]
    | 4 => [clusterDom (bits n.unit 0 6)]
    | _ => []
  unit ++ s.boundDoms n.bound

/-- Nodes in WAKING whose domains are all ON start (R292). -/
def State.startWoken (s : State) : State :=
  (s.nodesWhere (fun _ n => n.phase == .waking)).foldl (fun s e =>
    if (s.nodeDoms e.2).all s.domOn then s.modNode e.1 (fun n => { n with phase := .running }) else s) s

/-- A refused wake of domain `d` ends every node that waits for it with FAULT_RETRY (R388). -/
def State.refuseWaiters (s : State) (d : Nat) : State :=
  (s.nodesWhere (fun _ n => n.phase == .waking)).foldl (fun s e =>
    if (s.nodeDoms e.2).contains d then s.endNode e.1 4 else s) s

/-- A wake request of domain `d`; where it is refused, the nodes that wait for the domain end (R388). -/
def State.wakeOrRefuse (s : State) (d : Nat) : State :=
  let w := s.wake d
  if w.2 then w.1 else w.1.refuseWaiters d

/-- Domains of the same PLL. -/
def pllUsers (d : Nat) : List Nat :=
  (List.range 144).filter (fun e => decide (domHalf e = domHalf d) && decide (pllOf e = pllOf d) && (pllOf e).isSome)

/-- A PLL stops when the last domain it serves is off (R380). -/
def State.stopPll (s : State) (d : Nat) : State :=
  match pllOf d with
  | none => s
  | some b =>
    if (pllUsers d).all (fun e => s.dom e == 0) then
      let s1 := s.wf (CLK_PLL_STATUS (domHalf d)) { lo := b, len := 1 } 0
      { s1 with power := { s1.power with starting := s1.power.starting.filter (· != (domHalf d, b)) } }
    else s

/-! ## PWR_DOMAIN_CTRL (R388) -/

/-- A write of PWR_DOMAIN_CTRL[d], judged with the HOLD value it carries (R388, R25). -/
def State.domainCtrl (s : State) (d v : Nat) : State :=
  let hold := bits v 0 1
  if bit v 1 then
    let cls := domClass d
    let kind := cls = 0 ∨ cls = 1 ∨ cls = 7 ∨ (cls = 5 ∧ s.portEn (d - 110) = false)
    if kind ∧ s.keepOn d = false ∧ hold = 0 then
      let s1 := (s.wf (PWR_DOMAIN_CTRL d) PWR_DOMAIN_CTRL.HOLD 0).wf (PWR_DOMAIN_CTRL d) PWR_DOMAIN_CTRL.DISABLE 1
      if s.dom d = 1 then
        let s2 := s1.wf (PWR_DOMAIN_STATUS d) PWR_DOMAIN_STATUS.STATE 0
        let s3 := State.stopPll { s2 with power := { s2.power with wakeQ := s2.power.wakeQ.filter (· != d) } } d
        let s4 := (s3.wf PWR_EVENT PWR_EVENT.WAKE_REFUSED 1).log (domHalf d) { logPower with event := 7, subject := d, kind := 4 }
        s4.refuseWaiters d
      else s1
    else (s.wf PWR_EVENT PWR_EVENT.DISABLE_REFUSED 1).log .west { logPower with event := 5, subject := d, kind := 4 }
  else
    let s1 := (s.wf (PWR_DOMAIN_CTRL d) PWR_DOMAIN_CTRL.DISABLE 0).wf (PWR_DOMAIN_CTRL d) PWR_DOMAIN_CTRL.HOLD hold
    if hold = 1 then (s1.wake d).1 else s1

/-- DOMAIN_HOLD (R388, R385): a write of PWR_DOMAIN_CTRL that carries DISABLE 0. -/
def execDomainHold (d v : Nat) (s : State) : Host.Outcome State Fault Refusal :=
  whenLive s (fun s => if d < 144 then s.domainCtrl d (bits v 0 1) else s)

/-- DOMAIN_DISABLE (R388, R25): a write of PWR_DOMAIN_CTRL that carries DISABLE 1. -/
def execDomainDisable (d v : Nat) (s : State) : Host.Outcome State Fault Refusal :=
  whenLive s (fun s => if d < 144 then s.domainCtrl d (bits v 0 1 + 2) else s)

/-! ## The wake sequencer (R386) -/

/-- Admissions of the last 10 µs. -/
def State.recentWakes (s : State) : List Nat := s.power.recent.filter (fun t => decide (s.west.us < t + 10))

/-- Is the domain switched by East's logic beside domain 132: the sensor cluster and Lanes segment that serve it? No command for them can cross
the Passage, which is off whenever they are; the spec leaves open how they are commanded (DESIGN CHOICE, log entry 64). -/
def besideLink (d : Nat) : Bool := d == 137 || d == 142

/-- Does the domain take its commands over the Passage: every domain of East but 132 and the two beside it (R16, R26)? -/
def viaPassage (d : Nat) : Bool := decide (domHalf d = .east) && d != 132 && !besideLink d

/-- WAKE_ADMIT (R386): the head of the queue is admitted while fewer than 8 wakes were admitted in the last 10 µs and the power
controller is not restarting (R29). The command to an East domain travels over the Passage, or for domain 132 over the wake
link (R26); the two domains beside it need none (log entry 64). A WAKING domain counts as on for the domains that serve it, which wake if they have gone off (R385, R481). -/
def State.wakeAdmit (s : State) : State :=
  match s.power.wakeQ with
  | [] => s
  | d :: q =>
    if s.power.restarting ∨ s.recentWakes.length ≥ 8 then s
    else
      let s1 := (s.wf (PWR_DOMAIN_STATUS d) PWR_DOMAIN_STATUS.STATE 2).add (PWR_DOMAIN_STATUS d) PWR_DOMAIN_STATUS.WAKES 1
      let s2 := s1.add PWR_WAKE_STATUS PWR_WAKE_STATUS.WAKES 1
      let s3 := { s2 with power := { s2.power with wakeQ := q, recent := s.recentWakes ++ [s.west.us] } }
      let s4 := if d = 132 then { s3 with power := { s3.power with wakeLink := s3.power.wakeLink ++ [{ wake := true, ack := false }] } }
        else if viaPassage d then s3.passControl .east (.power d true)
        else s3
      s4.keepWakes (servers d)

/-- WAKE_ADMIT. -/
def execWakeAdmit (s : State) : Host.Outcome State Fault Refusal := whenLive s State.wakeAdmit

/-- Is a power command for the domain still on its way? -/
def State.cmdTravels (s : State) (d : Nat) : Bool :=
  s.east.control.contains (.power d true) ||
  (decide (d = 132) && s.power.wakeLink.contains { wake := true, ack := false })

/-- No plane is active in any Seam of a Gallery that powers on (R55). -/
def State.galleryOn (s : State) (h : Half) (g : Nat) : State :=
  (List.range 64).foldl (fun s i =>
    (s.wf (SEAM_STATUS h (64 * g + i)) SEAM_STATUS.STATE 0).wf (SEAM_STATUS h (64 * g + i)) SEAM_STATUS.PLANE 0) s

/-- The Passage handshake ends when both ends are ON (Table 14.2, R36). -/
def State.passageUp (s : State) : State :=
  s.wf BOOT_GLOBAL_STATUS BOOT_GLOBAL_STATUS.PASSAGE_UP (b2n (s.domOn 131 && s.domOn 132))

/-- DOMAIN_ON (R386): a WAKING domain becomes ON once its PLL is locked, every domain that serves it is ON (R481) and its command
has arrived; its Crossings resynchronize (R407). An SRAM bank repeats its checker test (R237). A Gallery or a port may make the keep-on
condition of the Sidestreet (R204) or of the half's first port (R359) true. -/
def State.domainOn (s : State) (d : Nat) (bad : Bool) : State :=
  let h := domHalf d
  let pllOk : Bool := match pllOf d with | some b => s.pllLocked h b | none => true
  if s.dom d = 2 ∧ pllOk ∧ (servers d).all s.domOn ∧ s.cmdTravels d = false ∧ s.power.restarting = false then
    let s1 := (s.wf (PWR_DOMAIN_STATUS d) PWR_DOMAIN_STATUS.STATE 3).add (XING_STATUS d) XING_STATUS.RESYNCS 1
    let s2 := match domClass d with
      | 0 => (s1.galleryOn h (d % 32)).keepWakes [sdsDom h]
      | 3 => if bad then
          let m := s1.rf (MEM_SELFTEST h) MEM_SELFTEST.BANK_FAIL
          (s1.wf (MEM_SELFTEST h) MEM_SELFTEST.BANK_FAIL (m ||| 2 ^ ((d - 74) % 16))).log h
            { logBoot 0 with src := 3, subject := d, kind := 4 }
        else s1
      | 5 => s1.keepWakes [110 + 4 * h.num]
      | 10 => s1.passageUp
      | _ => s1
    s2.startWoken
  else s

/-- DOMAIN_ON. -/
def execDomainOn (d : Nat) (bad : Bool) (s : State) : Host.Outcome State Fault Refusal :=
  whenLive s (fun s => if d < 144 then s.domainOn d bad else s)

/-- May an ON domain go to SLEEPING (R384): HOLD 0, no keep-on condition, no wake request waiting? -/
def State.maySleep (s : State) (d : Nat) : Bool :=
  s.domOn d && !s.on (PWR_DOMAIN_CTRL d) PWR_DOMAIN_CTRL.HOLD && !s.keepOn d && !s.power.wakeLater.contains d &&
  !s.power.restarting

/-- Does a power command for an East domain still wait to cross the Passage? -/
def State.powerPending (s : State) (p : Nat → Bool) : Bool :=
  s.east.control.any (fun m => match m with
    | .power d _ => p d
    | _ => false)

/-- A domain that may goes to SLEEPING (R384); a Passage end that does takes the Passage down. -/
def State.toSleep (s : State) (d : Nat) : State :=
  if s.maySleep d then
    let s1 := s.wf (PWR_DOMAIN_STATUS d) PWR_DOMAIN_STATUS.STATE 4
    if domClass d = 10 then s1.passageUp else s1
  else s

/-- DOMAIN_IDLE_EXPIRE (R384). Domain 132 goes to SLEEPING on a command over the wake link, sent once no command for any other
East domain is pending; the other East domains on a command over the Passage (R16, R26). -/
def State.domainIdle (s : State) (d : Nat) : State :=
  if !s.maySleep d then s
  else if d = 132 then
    if s.powerPending (fun _ => true) then s
    else { s with power := { s.power with wakeLink := s.power.wakeLink ++ [{ wake := false, ack := false }] } }
  else if viaPassage d then
    if s.powerPending (· == d) then s else s.passControl .east (.power d false)
  else s.toSleep d

/-- DOMAIN_IDLE_EXPIRE. -/
def execDomainIdleExpire (d : Nat) (s : State) : Host.Outcome State Fault Refusal :=
  whenLive s (fun s => if d < 144 then s.domainIdle d else s)

/-- DOMAIN_OFF (R384): a SLEEPING domain is OFF; a wake request that came meanwhile is queued, or refused if the domain has been disabled. -/
def State.domainOff (s : State) (d : Nat) : State :=
  if s.dom d = 4 ∧ s.power.restarting = false then
    let s1 := (s.wf (PWR_DOMAIN_STATUS d) PWR_DOMAIN_STATUS.STATE 0).stopPll d
    let s2 := if domClass d = 10 then s1.passageUp else s1
    if s2.power.wakeLater.contains d then
      ({ s2 with power := { s2.power with wakeLater := s2.power.wakeLater.filter (· != d) } } : State).wakeOrRefuse d
    else s2
  else s

/-- DOMAIN_OFF. -/
def execDomainOff (d : Nat) (s : State) : Host.Outcome State Fault Refusal :=
  whenLive s (fun s => if d < 144 then s.domainOff d else s)

/-- WAKE_LINK_COMMAND (R26): the oldest thing on the wake link arrives. A wake command reaches East's switch logic, which
acknowledges it; a switch-off command makes East's Passage end SLEEPING; an acknowledgement ends the exchange. -/
def State.wakeLinkCmd (s : State) : State :=
  match s.power.wakeLink with
  | [] => s
  | m :: q =>
    if m.ack then { s with power := { s.power with wakeLink := q } }
    else
      let s1 := { s with power := { s.power with wakeLink := q ++ [{ m with ack := true }] } }
      if m.wake then s1 else s1.toSleep 132

/-- WAKE_LINK_COMMAND. -/
def execWakeLinkCommand (s : State) : Host.Outcome State Fault Refusal := whenLive s State.wakeLinkCmd

/-! ## Operating points (R389 to R391) -/

/-- OTP word of a half (R142). -/
def State.otpWord (s : State) (h : Half) (w : Nat) : Nat := (mapGet (fun _ => 0) (s.half h).nv.otp w).toNat

/-- The 64-bit entry of operating point `k` (R389). -/
def State.voltEntry (s : State) (h : Half) (k : Nat) : Nat := s.otpWord h (16 + 2 * k) + s.otpWord h (17 + 2 * k) * 2 ^ 32

/-- Present operating point of a half. -/
def State.op (s : State) (h : Half) : Nat :=
  match h with
  | .west => s.rf PWR_OP_STATUS PWR_OP_STATUS.OP_WEST
  | .east => s.rf PWR_OP_STATUS PWR_OP_STATUS.OP_EAST
def State.setOp (s : State) (h : Half) (k : Nat) : State :=
  match h with
  | .west => s.wf PWR_OP_STATUS PWR_OP_STATUS.OP_WEST k
  | .east => s.wf PWR_OP_STATUS PWR_OP_STATUS.OP_EAST k

/-- The running change of a half, and the point its idle PLL is locked at. -/
def PowerSt.change (p : PowerSt) : Half → Option OpChange
  | .west => p.changeW
  | .east => p.changeE
def PowerSt.setChange (p : PowerSt) (h : Half) (c : Option OpChange) : PowerSt :=
  match h with
  | .west => { p with changeW := c }
  | .east => { p with changeE := c }
def PowerSt.idle (p : PowerSt) : Half → Option Nat
  | .west => p.idleW
  | .east => p.idleE
def PowerSt.setIdle (p : PowerSt) (h : Half) (k : Option Nat) : PowerSt :=
  match h with
  | .west => { p with idleW := k }
  | .east => { p with idleE := k }

/-- Running nodes of a PHASE in a half, as the Junction reports them (R293). -/
def State.phaseRuns (s : State) (h : Half) (p : Nat) : Bool :=
  !(s.nodesWhere (fun g n => decide (n.half = h) && n.phase == .running && decide (g.phase = p))).isEmpty

/-- A half's target point (R390). -/
def State.opTarget (s : State) (h : Half) : Nat :=
  let ps := (List.range 4).filter (s.phaseRuns h)
  if ps.isEmpty then s.rf (PWR_PHASE_OP 3) PWR_PHASE_OP.OP
  else (ps.map (fun p => s.rf (PWR_PHASE_OP p) PWR_PHASE_OP.OP)).foldl max 0

/-- OP_MAX, SAFE_OP, and measured-only mode. -/
def State.opMax (s : State) : Nat := s.rf PWR_LIMIT_CFG PWR_LIMIT_CFG.OP_MAX
def State.measuredOnly (s : State) : Bool := s.on PWR_OP_STATUS PWR_OP_STATUS.MEASURED_ONLY

/-- The point at which a half should run (R390). -/
def State.opChosen (s : State) (h : Half) : Nat :=
  let m := min (min (s.opTarget h) (min s.power.capCeil s.power.thCeil)) s.opMax
  if s.measuredOnly then min m (s.rf PWR_LIMIT_CFG PWR_LIMIT_CFG.SAFE_OP) else m

/-- The voltages of a point are commanded to the half's regulators (R391). -/
def State.regulate (s : State) (h : Half) (k : Nat) : State :=
  s.send (.regulator h (bits (s.voltEntry h k) 12 10) (bits (s.voltEntry h k) 22 10))

/-- The idle MAIN PLL's bit of CLK_PLL_STATUS. -/
def State.idleMain (s : State) (h : Half) : Nat :=
  if s.rf (CLK_PLL_STATUS h) CLK_PLL_STATUS.MAIN_SEL = 0 then 1 else 0

/-- The clock of a half is switched to the PLL locked at the new frequency; a lowering commands its voltages after that (R391). -/
def State.opSwitch (s : State) (h : Half) (c : OpChange) : State :=
  let old := s.op h
  let s1 := { s with power := (s.power.setChange h (some { c with switched := true })).setIdle h (some old) }
  let s2 := (s1.setOp h c.target).wf (CLK_PLL_STATUS h) CLK_PLL_STATUS.MAIN_SEL (s.idleMain h)
  if c.target < old then s2.regulate h c.target else s2

/-- A lowering switches the clock as soon as the idle PLL is locked. -/
def State.opLower (s : State) (h : Half) : State :=
  match s.power.change h with
  | some c =>
    if !c.switched && decide (c.target < s.op h) && s.pllLocked h (s.idleMain h) && !s.power.restarting then s.opSwitch h c else s
  | none => s

/-- Start a change of a half's point when the chosen point differs and none is running (R391): the idle PLL is locked at the new
frequency unless it is already, and a raise commands the voltages first. -/
def State.opStep (s : State) (h : Half) : State :=
  let k := s.opChosen h
  if s.power.restarting ∨ (s.power.change h).isSome ∨ k = s.op h then s
  else
    let s1 := { s with power := s.power.setChange h (some { target := k }) }
    let s2 := s1.wf PWR_OP_STATUS PWR_OP_STATUS.CHANGING 1
    let s3 := if s.power.idle h = some k then s2
      else
        let t := s2.wf (CLK_PLL_STATUS h) { lo := s.idleMain h, len := 1 } 0
        { t with power := { t.power with starting := t.power.starting ++ [(h, s.idleMain h)] } }
    if k > s.op h then s3.regulate h k else s3.opLower h

/-- Both halves. -/
def State.opSteps (s : State) : State := (s.opStep .west).opStep .east

/-- OP_CHANGE_DONE (R391): the regulators have acknowledged the new voltages. A raise switches the clock now, to a PLL that is locked; a change whose
clock has been switched has ended, and a new target that arose meanwhile is taken up. -/
def State.opDone (s : State) (h : Half) : State :=
  match s.power.change h with
  | none => s
  | some c =>
    if s.power.restarting ∨ (!c.switched ∧ s.pllLocked h (s.idleMain h) = false) then s
    else if !c.switched ∧ c.target < s.op h then s.opLower h
    else
      let s1 := if c.switched then s else s.opSwitch h c
      let s2 := { s1 with power := s1.power.setChange h none }
      (s2.wf PWR_OP_STATUS PWR_OP_STATUS.CHANGING (b2n (s2.power.change h.other).isSome)).opStep h

/-- OP_CHANGE_DONE. -/
def execOpChangeDone (h : Half) (s : State) : Host.Outcome State Fault Refusal := whenLive s (fun s => s.opDone h)

/-- PLL_LOCK (R380): a started PLL locks; a lowering of the operating point that waits for it goes on (R391). -/
def State.pllLock (s : State) (h : Half) (b : Nat) : State :=
  if s.power.starting.contains (h, b) then
    let s1 := s.wf (CLK_PLL_STATUS h) { lo := b, len := 1 } 1
    State.opLower { s1 with power := { s1.power with starting := s1.power.starting.filter (· != (h, b)) } } h
  else s

/-- PLL_LOCK. -/
def execPllLock (h : Half) (b : Nat) (s : State) : Host.Outcome State Fault Refusal :=
  whenLive s (fun s => if b < 13 then s.pllLock h b else s)

/-! ## The cap (R393, R394) -/

/-- The effective cap: the source value limited to 150 W to BOARD_MAX_W (R393). -/
def State.effectiveCap (s : State) : Nat :=
  let v := match s.power.grant with | some g => g | none => s.rf PWR_CAP PWR_CAP.CAP_W
  max 150 (min v (s.rf PWR_LIMIT_CFG PWR_LIMIT_CFG.BOARD_MAX_W))

/-- Show the source and the effective cap in PWR_CAP. -/
def State.showCap (s : State) : State :=
  let src := if s.power.grant.isSome then 2 else if s.power.hostCap.isSome then 0 else 1
  (s.wf PWR_CAP PWR_CAP.SOURCE src).wf PWR_CAP PWR_CAP.EFFECTIVE_W s.effectiveCap

/-- A write of PWR_CAP.CAP_W (R393). -/
def State.capWrite (s : State) (v : Nat) : State :=
  let w := bits v 0 10
  if 150 ≤ w ∧ w ≤ 550 then
    State.showCap { (s.wf PWR_CAP PWR_CAP.CAP_W w) with power := { s.power with hostCap := some w } }
  else (s.wf PWR_EVENT PWR_EVENT.CAP_REFUSED 1).log .west { logPower with event := 6 }

/-- CAP_WRITE. -/
def execCapWrite (v : Nat) (s : State) : Host.Outcome State Fault Refusal := whenLive s (fun s => s.capWrite v)

/-- ESTIMATE_DIVERGE_CLEAR (R398): normal mode resumes at the next period. -/
def execEstimateDivergeClear (s : State) : Host.Outcome State Fault Refusal :=
  whenLive s (fun s =>
    let s1 := s.wf PWR_EVENT PWR_EVENT.ESTIMATE_DIVERGE 0
    if s.measuredOnly then { s1 with power := { s1.power with divergeClear := true } } else s1)

/-- One loop's ceiling, gate share and count of calm periods. -/
structure LoopSt where
  ceil : Nat
  share : Nat
  calm : Nat
  deriving DecidableEq, Repr

/-- One period of a loop (R394): `lower` when its quantity is too high, `calm` when it is low enough to count towards a
relaxation. -/
def loopStep (l : LoopSt) (lower calm : Bool) (higher opMax : Nat) : LoopSt :=
  if lower then
    if higher > 0 then { l with ceil := higher - 1, calm := 0 }
    else { ceil := 0, share := max 50 (l.share - 50), calm := 0 }
  else if calm then
    if l.calm + 1 ≥ 10 then
      if l.share < 1000 then { l with share := min 1000 (l.share + 50), calm := 0 }
      else { l with ceil := if l.ceil < opMax then l.ceil + 1 else l.ceil, calm := 0 }
    else { l with calm := l.calm + 1 }
  else { l with calm := 0 }

/-- The effective gate share (R396). -/
def State.gateShare (s : State) : Nat := min s.power.capShare s.power.thShare

/-- Show the lower ceiling and the effective share in PWR_OP_STATUS; GATING is set when floor gating begins. -/
def State.showLoops (s : State) : State :=
  let before := s.rf PWR_OP_STATUS PWR_OP_STATUS.GATE_SHARE
  let s1 := (s.wf PWR_OP_STATUS PWR_OP_STATUS.CEILING (min s.power.capCeil s.power.thCeil)).wf PWR_OP_STATUS
    PWR_OP_STATUS.GATE_SHARE s.gateShare
  if before = 1000 ∧ s.gateShare < 1000 then s1.wf PWR_EVENT PWR_EVENT.GATING 1 else s1

/-- The thermal throttle in 1/16 °C; values outside 85 to 105 read as 105 (Table 14.10). -/
def State.throttle16 (s : State) : Int :=
  let t := s.rf PWR_LIMIT_CFG PWR_LIMIT_CFG.THROTTLE_C
  16 * ((if 85 ≤ t ∧ t ≤ 105 then t else 105 : Nat) : Int)

/-- Show the measurements of a period (Tables 14.11, 14.12). -/
def State.showPower (s : State) (m e : Nat) (tmax : Int) : State :=
  let peak := if s.power.tempRead then max tmax (signed 16 (s.rf PWR_TEMP PWR_TEMP.PEAK)) else tmax
  ((((({ s with power := { s.power with tempRead := true } } : State).wf PWR_POWER PWR_POWER.MEASURED_W (min m 1023)).wf PWR_POWER
    PWR_POWER.ESTIMATED_W (min e 1023)).wf PWR_TEMP PWR_TEMP.TMAX (unsigned 16 tmax)).wf PWR_TEMP PWR_TEMP.PEAK (unsigned 16 peak))

/-- The divergence test of a period (R398). -/
def State.divergeStep (s : State) (m e : Nat) : State :=
  let s0 := if s.power.divergeClear then
      { (s.wf PWR_OP_STATUS PWR_OP_STATUS.MEASURED_ONLY 0) with power := { s.power with divergeClear := false, diverge := 0 } }
    else s
  if s0.measuredOnly then s0
  else
    let apart := if e ≥ m then e - m else m - e
    let n := if 5 * apart > m then s0.power.diverge + 1 else 0
    let s1 := { s0 with power := { s0.power with diverge := n } }
    if n ≥ 10 then
      ((s1.wf PWR_OP_STATUS PWR_OP_STATUS.MEASURED_ONLY 1).wf PWR_EVENT PWR_EVENT.ESTIMATE_DIVERGE 1).log .west
        { logPower with event := 1 }
    else s1

/-- POWER_PERIOD (R394, R398, R399): the measurements are shown, the divergence test and both loops run, and each half takes up the
point chosen. During a restart of the power controller nothing changes (R29). -/
def State.powerPeriod (s : State) (m e : Nat) (tmax : Int) : State :=
  if s.power.restarting then s
  else
    let s1 := (s.showPower m e tmax).divergeStep m e
    let p := if s1.measuredOnly then m else max e m
    let cap := s1.effectiveCap
    let higher := max (s.op .west) (s.op .east)
    let c := loopStep { ceil := s1.power.capCeil, share := s1.power.capShare, calm := s1.power.capCalm }
      (decide (p > cap)) (decide (100 * p ≤ 95 * cap)) higher s1.opMax
    let hot := decide (tmax ≥ s.throttle16)
    let t := loopStep { ceil := s1.power.thCeil, share := s1.power.thShare, calm := s1.power.thCalm }
      hot (decide (tmax ≤ s.throttle16 - 80)) higher s1.opMax
    let s2 := { s1 with power := { s1.power with
      capCeil := c.ceil, capShare := c.share, capCalm := c.calm, thCeil := t.ceil, thShare := t.share, thCalm := t.calm } }
    let s3 := if t.ceil < s1.power.thCeil ∨ t.share < s1.power.thShare then s2.wf PWR_EVENT PWR_EVENT.THROTTLE 1 else s2
    s3.showLoops.opSteps

/-- POWER_PERIOD. -/
def execPowerPeriod (m e : Nat) (tmax : Int) (s : State) : Host.Outcome State Fault Refusal :=
  whenLive s (fun s => s.powerPeriod m e tmax)

/-- GATE_WINDOW_CLOSE (R396): the open part of a window ends in the microsecond in which the effective share of its 10 µs is over, when the share is
below 1,000. -/
def execGateWindowClose (s : State) : Host.Outcome State Fault Refusal :=
  whenLive s (fun s =>
    if s.gateShare < 1000 ∧ s.gateShare / 100 ≤ s.west.us % 10 then { s with power := { s.power with gateOpen := false } } else s)

/-- Input deliveries that the closed window held back begin, all at once (R396). -/
def State.beginHeld (s : State) : State :=
  let t := s.stamp
  let start (w : Wave) : Wave := if w.begun then w else { w with begun := true, order := t.1 }
  let all (x : HalfState) : HalfState := { x with gals := x.gals.map (fun e => (e.1, { e.2 with waves := e.2.waves.map start })) }
  (t.2.modHalf .west all).modHalf .east all

/-- GATE_WINDOW_OPEN (R396): a window begins where the microsecond counter is a multiple of 10. -/
def execGateWindowOpen (s : State) : Host.Outcome State Fault Refusal :=
  whenLive s (fun s => if s.west.us % 10 = 0 then ({ s with power := { s.power with gateOpen := true } }).beginHeld else s)

/-! ## Throttle reasons (R402) -/

/-- Does reason `r` of Table 14.6 hold? -/
def State.reason (s : State) (r : Nat) : Bool :=
  let below (x : Nat) : Bool := decide (x < s.opTarget .west) || decide (x < s.opTarget .east)
  let cap := below s.power.capCeil
  let floor := decide (s.gateShare < 1000)
  match r with
  | 0 => cap
  | 1 => floor
  | 2 => below s.power.thCeil || decide (s.power.thShare < 1000)
  | 3 => s.measuredOnly
  | 4 => s.power.grant.isSome && (cap || floor)
  | 5 => !s.power.wakeQ.isEmpty && decide (s.recentWakes.length ≥ 8)
  | 6 => s.power.restarting
  | 7 => below s.opMax
  | _ => false

/-- The ACTIVE bits of PWR_REASON. -/
def State.reasons (s : State) : Nat := (List.range 8).foldl (fun n r => n + b2n (s.reason r) * 2 ^ r) 0

end Sys2Proof.Machine
end

