-- ==== Sys2Proof/Machine/Link.lean ====
section
/-! DEFINITION. Causeway links (chapter 12, R326 to R336): ports and their training, flits, the link layer and routing. -/

namespace Sys2Proof.Machine

/-! ## Flits (Table 12.4) -/

/-- Fields of a flit. -/
def fVer (b : List Byte) : Nat := fld b 0 1 0
def fVc (b : List Byte) : Nat := fld b 0 3 2
def fDl (b : List Byte) : Nat := fld b 0 4 4
def fType (b : List Byte) : Nat := fld b 0 7 5
def fLseq (b : List Byte) : Nat := fld b 0 15 8
def fLack (b : List Byte) : Nat := fld b 0 23 16
def fLnak (b : List Byte) : Bool := fld b 0 24 24 == 1
def fDestNode (b : List Byte) : Nat := fld b 4 13 0
def fDestHalf (b : List Byte) : Half := Half.ofNum (fld b 4 14 14)
def fSrcNode (b : List Byte) : Nat := fld b 4 29 16
def fSrcHalf (b : List Byte) : Nat := fld b 4 30 30
def fDestQ (b : List Byte) : Nat := fld b 8 5 0
def fSrcQ (b : List Byte) : Nat := fld b 8 13 8
def fLen (b : List Byte) : Nat := fld b 8 23 16
def fSub (b : List Byte) : Nat := fld b 8 31 24
def fInfo (b : List Byte) : Nat := u32 b 0xC
def fPayload (b : List Byte) : List Byte := slice b 0x10 224
def fAge (b : List Byte) : Nat := fld b 0xF8 19 0

/-- Are the reserved fields of a flit zero and its codes assigned (R329)? -/
def fClean (b : List Byte) : Bool :=
  decide (b.length = 256) && fVc b != 3 && decide (fType b ≤ 4) && fld b 0 31 25 == 0 && fld b 4 15 15 == 0 && fld b 4 31 31 == 0 &&
  fld b 8 7 6 == 0 && fld b 8 15 14 == 0 && decide (fLen b ≤ 224) && bits (u64 b 0xF0) 60 4 == 0 && fld b 0xF8 31 20 == 0

/-- A 32-bit word of a byte string replaced. -/
def setWord (b : List Byte) (off v : Nat) : List Byte := b.take off ++ leBytes 4 v ++ b.drop (off + 4)

/-- The PARITY field of a flit: even parity of words 0 to 59. -/
def fParity (b : List Byte) : Nat := (List.range 60).foldl (fun n w => n + 2 ^ w * b2n (oddParity 32 (u32 b (4 * w)))) 0

/-- Is the parity of words 0 to 3 as the flit says (R332)? -/
def fHeaderGood (b : List Byte) : Bool := (List.range 4).all (fun w => bit (u64 b 0xF0) w == oddParity 32 (u32 b (4 * w)))

/-- A flit with its PARITY and CRC computed. -/
def fSeal (b : List Byte) : List Byte :=
  let c := b.take 0xF0 ++ leBytes 8 (fParity b) ++ slice b 0xF8 4
  c ++ leBytes 4 (crc32 c).toNat

/-- A stomped flit: the complement of its correct CRC (R332). -/
def fStomp (b : List Byte) : List Byte :=
  let c := (fSeal b).take 0xFC
  c ++ leBytes 4 (0xFFFFFFFF - (crc32 c).toNat)

/-- A flit as its source builds it: LSEQ, LACK and LVER are set where it leaves on a port. -/
def mkFlit (vc type dest dHalf src sHalf dq sq sub info : Nat) (payload : List Byte) : List Byte :=
  leBytes 4 (vc * 4 + type * 32) ++ leBytes 4 (dest + dHalf * 2 ^ 14 + src * 2 ^ 16 + sHalf * 2 ^ 30) ++
  leBytes 4 (dq + sq * 256 + min payload.length 224 * 2 ^ 16 + sub * 2 ^ 24) ++ leBytes 4 info ++ padTo 224 payload ++ zeros 16

/-- A flit with DL set. -/
def fWithDl (b : List Byte) (dl : Nat) : List Byte := setWord b 0 (u32 b 0 - 16 * fDl b + 16 * dl)

/-- The sub-channel of a flit: VC x 2 + DL (R333). -/
def fSub6 (b : List Byte) : Nat := 2 * fVc b + fDl b

/-- AGE of a flit that a half passes on at a microsecond: the time the half held it is added, and 1 µs for the hop (R340). -/
def PortFlit.age (x : PortFlit) (us : Nat) : Nat := fAge x.flit + (us - x.since) + x.hop
/-- A flit with its AGE as it leaves, saturating; none when AGE would pass 100,000 µs. -/
def PortFlit.aged (x : PortFlit) (us : Nat) : Option (List Byte) :=
  if x.age us > 100000 then none else some (setWord x.flit 0xF8 (x.age us))

/-! ## Ports -/

/-- Register bases of a port, numbered device-wide. -/
def portCfg (p : Nat) : Nat := CSW_PORT_CFG (portHalf p) p
def portStatus (p : Nat) : Nat := CSW_PORT_STATUS (portHalf p) p
def portEvent (p : Nat) : Nat := CSW_PORT_EVENT (portHalf p) p

/-- STATE of a port (Table 12.10): 0 DISABLED, 1 TRAINING, 2 UP, 3 RETRAINING, 4 DOWN, 5 MISMATCH. -/
def State.portState (s : State) (p : Nat) : Nat := s.rf (portStatus p) CSW_PORT_STATUS.STATE
def State.setPortState (s : State) (p v : Nat) : State := s.wf (portStatus p) CSW_PORT_STATUS.STATE v

/-- Does a port take flits: it is UP, or retrains while its flits wait (R328; log entry 40)? -/
def State.portTakes (s : State) (p : Nat) : Bool := s.portState p == 2 || s.portState p == 3

/-- A record of class LINK about a port (Table 16.2). -/
def State.logPort (s : State) (p event before after : Nat) : State :=
  s.log (portHalf p) { logLink before after with event := event, subject := p, kind := 5 }

/-- The last LSEQ received in order. -/
def PortSt.lack (x : PortSt) : Nat := (x.rxSeq + 255) % 256

/-- A flit as it leaves a port now: LVER, LSEQ, LACK and AGE set, parity and CRC computed. One sent again after a long retrain may carry
an AGE above 100,000 µs, and the next half discards it (log entry 79). -/
def State.dress (s : State) (p : Nat) (x : PortFlit) (lseq : Nat) : List Byte :=
  let w := fld x.flit 0 7 2 * 4 + s.rf (portStatus p) CSW_PORT_STATUS.VER + lseq * 256 + (s.port p).lack * 2 ^ 16
  fSeal (setWord (setWord x.flit 0 w) 0xF8 (min 0xFFFFF (x.age (s.us (portHalf p)))))

/-- An IDLE flit, which carries LACK and LNAK (R330). -/
def State.idleFlit (s : State) (p : Nat) (nak : Bool) : List Byte :=
  fSeal (setWord (zeros 256) 0 (s.rf (portStatus p) CSW_PORT_STATUS.VER + (s.port p).lack * 2 ^ 16 + b2n nak * 2 ^ 24))
/-- A port answers with an IDLE flit. -/
def State.sendIdle (s : State) (p : Nat) (nak : Bool) : State := s.send (.flit p (s.idleFlit p nak))

/-- A flit leaves the receive buffer it stood in: its sender gets the credit back (R333). -/
def State.giveCredit (s : State) (x : PortFlit) : State :=
  match x.src with
  | some (q, sub) => s.send (.credit q sub)
  | none => s

/-- A flit is discarded and counted: it has no route, or would be too old (R335, R340). -/
def State.dropFlit (s : State) (h : Half) (x : PortFlit) : State := (s.add (CSW_ROUTE_DROPS h) CSW_ROUTE_DROPS.FLITS 1).giveCredit x

/-- A flit leaves a port: it takes the next LSEQ and a credit of its sub-channel, and stays in the replay buffer (R331, R333). One that
would be too old is discarded (R340). -/
def State.portEmit (s : State) (p : Nat) (f : PortFlit) : State :=
  let x := s.port p
  if f.age (s.us (portHalf p)) > 100000 then s.dropFlit (portHalf p) f
  else
    let k := fSub6 f.flit
    let kept : PortFlit := { f with flit := setWord f.flit 0 (fld f.flit 0 7 0 + x.txSeq * 256), src := none }
    let s1 := (s.send (Output.flit p (s.dress p f x.txSeq))).add (CSW_PORT_TX_FLITS (portHalf p) p) CSW_PORT_TX_FLITS.FLITS 1
    (s1.setPort p { x with
      txSeq := (x.txSeq + 1) % 256
      replay := x.replay ++ [kept]
      used := x.used.set k (x.used.getD k 0 + 1)
      sinceData := if fVc f.flit = 2 then 0 else x.sinceData + 1 }).giveCredit f

/-- Does the far end's receive buffer have room for a flit: each sub-channel holds 32 (R333)? -/
def PortSt.credit (x : PortSt) (f : PortFlit) : Bool := decide (x.used.getD (fSub6 f.flit) 0 < 32)

/-- Which waiting flit goes next (R333): of those with a credit, MGMT before CTRL before DATA, but a DATA flit at least once in every 8. -/
def PortSt.pick (x : PortSt) : Option Nat :=
  let first (vc : Nat) : Option Nat := x.wait.findIdx? (fun f => fVc f.flit == vc && x.credit f)
  match first 2 with
  | some i => if x.sinceData ≥ 7 then some i else ((first 0).or (first 1)).or (some i)
  | none => (first 0).or (first 1)

/-- Waiting flits leave while the port is UP and fewer than 128 flits are unacknowledged. -/
def State.portDrain (s : State) (p : Nat) : Nat → State
  | 0 => s
  | k + 1 =>
    let x := s.port p
    if s.portState p = 2 ∧ x.replay.length < 128 then
      match x.pick with
      | some i => match x.wait[i]? with
        | some f => State.portDrain ((s.setPort p { x with wait := x.wait.eraseIdx i }).portEmit p f) p k
        | none => s
      | none => s
    else s

/-- A flit is given to a port. -/
def State.portSend (s : State) (p : Nat) (f : PortFlit) : State :=
  let x := s.port p
  State.portDrain (s.setPort p { x with wait := x.wait ++ [f] }) p (x.wait.length + 1)

/-- Credits that the far end gives back, by sub-channel. -/
def State.takeCredits (s : State) (p : Nat) (cs : List Nat) : State :=
  let x := s.port p
  State.portDrain (s.setPort p { x with used := (List.range 6).map (fun k => x.used.getD k 0 - cs.getD k 0) }) p x.wait.length

/-- Lanes that a port uses. -/
def State.lanesUsed (s : State) (p : Nat) : List Nat :=
  (List.range 4).filter (fun l => bit (s.rf (portStatus p) CSW_PORT_STATUS.LANES) l)

/-- A retrain on some of the lanes starts (R328). -/
def State.startRetrain (s : State) (p : Nat) (lanes : List Nat) : State :=
  (((s.setPort p { s.port p with lanes := lanes }).setPortState p 3).wf (portEvent p) CSW_PORT_EVENT.RETRAIN 1).add (CSW_PORT_RETRAINS (portHalf p) p) CSW_PORT_RETRAINS.EVENTS 1

/-- The unacknowledged flits are sent again, in order. -/
def State.resendAll (s : State) (p : Nat) : State :=
  let x := s.port p
  let s1 := (x.replay.foldl (fun s f => s.send (Output.flit p (s.dress p f (fLseq f.flit)))) s).add
    (CSW_PORT_TX_FLITS (portHalf p) p) CSW_PORT_TX_FLITS.FLITS x.replay.length
  if x.replay.isEmpty then s else s1.wf (portEvent p) CSW_PORT_EVENT.REPLAY 1

/-- A LACK acknowledges every flit up to it; a LNAK has the rest sent again, and after 8 resends from one LSEQ the port retrains
(R331). -/
def State.linkAcked (s : State) (p lack : Nat) (nak : Bool) : State :=
  let x := s.port p
  let rest := match x.replay.findIdx? (fun f => fLseq f.flit == lack) with
    | some i => x.replay.drop (i + 1)
    | none => x.replay
  let s1 := s.setPort p { x with replay := rest }
  match nak, rest with
  | true, f :: _ =>
    let n := if x.resendFrom = fLseq f.flit ∧ x.resends ≠ 0 then x.resends + 1 else 1
    let s2 := ((s1.setPort p { s1.port p with resends := n, resendFrom := fLseq f.flit }).resendAll p).add
      (CSW_PORT_REPLAYS (portHalf p) p) CSW_PORT_REPLAYS.EVENTS 1
    if n ≥ 8 then
      let w := s2.rf (portStatus p) CSW_PORT_STATUS.WIDTH
      ((s2.setPort p { s2.port p with resends := 0 }).wf (portEvent p) CSW_PORT_EVENT.REPLAY_LIMIT 1).logPort p 8 w w |>.startRetrain p (s.lanesUsed p)
    else s2
  | _, _ => State.portDrain s1 p x.wait.length

/-! ## Training (R326 to R328) -/

/-- VER_MAX and MIN_WIDTH as they read: values that the register does not hold read as their defaults. -/
def State.verMax (s : State) (p : Nat) : Nat := if s.rf (portCfg p) CSW_PORT_CFG.VER_MAX = 1 then 1 else 2
def State.minWidth (s : State) (p : Nat) : Nat :=
  if s.rf (portCfg p) CSW_PORT_CFG.MIN_WIDTH = 3 then 0 else s.rf (portCfg p) CSW_PORT_CFG.MIN_WIDTH

/-- The width that locked lanes allow, and the lanes used (R326). -/
def widthOf (ls : List Nat) : Option (Nat × List Nat) :=
  let has (l : Nat) : Bool := ls.contains l
  if has 0 && has 1 && has 2 && has 3 then some (2, [0, 1, 2, 3])
  else if has 0 && has 1 then some (1, [0, 1])
  else if has 2 && has 3 then some (1, [2, 3])
  else ((List.range 4).find? has).map (fun l => (0, [l]))

/-- The width that lanes allow, no less than MIN_WIDTH. -/
def widthFrom (ls : List Nat) (min : Nat) : Option (Nat × List Nat) :=
  match widthOf ls with
  | some (w, l) => if min ≤ w then some (w, l) else none
  | none => none

/-- The port goes DOWN: its flits are discarded (R328). -/
def State.portDown (s : State) (p : Nat) : State :=
  let was := s.portState p
  let w := s.rf (portStatus p) CSW_PORT_STATUS.WIDTH
  let s1 := (s.setPortState p 4).wf (portEvent p) CSW_PORT_EVENT.DOWN 1
  let s2 := (s1.port p).wait.foldl (fun s f => s.giveCredit f) (s1.setPort p { s1.port p with replay := [], wait := [] })
  if was = 3 then s2.logPort p 6 w 0 else s2

/-- The port comes UP with a rate, width and lanes. A first training begins LSEQ 0 and all credits; a retrain keeps both
and sends again (log entry 41). -/
def State.portUp (s : State) (p ver rate w : Nat) (ls : List Nat) : State :=
  let was := s.portState p
  let old := s.rf (portStatus p) CSW_PORT_STATUS.WIDTH
  let a := portStatus p
  let mask := ls.foldl (fun n l => n + 2 ^ l) 0
  let s1 := ((((s.setPortState p 2).wf a CSW_PORT_STATUS.VER ver).wf a CSW_PORT_STATUS.RATE rate).wf a CSW_PORT_STATUS.WIDTH w).wf a
    CSW_PORT_STATUS.LANES mask
  if was = 3 then
    let s2 := if w < old then (s1.wf (portEvent p) CSW_PORT_EVENT.WIDTH_DOWN 1).logPort p 4 old w else s1
    let s3 := s2.resendAll p
    State.portDrain s3 p (s3.port p).wait.length
  else
    let s2 := s1.setPort p { s1.port p with txSeq := 0, rxSeq := 0, replay := [], resends := 0, used := [0, 0, 0, 0, 0, 0] }
    State.portDrain s2 p (s2.port p).wait.length

/-- What a port advertises as it trains at a rate: the lanes that lock, of those it may use (R326, R328). -/
def State.advertise (s : State) (p rate : Nat) (ls : List Nat) : State :=
  s.send (.advert p rate (s.verMax p) (decide (s.verMax p = 2) && s.on (portCfg p) CSW_PORT_CFG.RATE_112_EN)
    (s.rf (CSW_NODE (portHalf p)) CSW_NODE.NODE) p (ls.filter (fun i => (s.port p).lanes.contains i)))

/-- Lanes that a training may use: locked at both ends, and not excluded (R326, R328). -/
def State.lanesOk (s : State) (p : Nat) (mine peer : List Nat) : List Nat :=
  mine.filter (fun i => peer.contains i && (s.port p).lanes.contains i)

/-- Training ends with what it found: a trial at 112 Gb/s where this end takes it, then at 56; the peer check, version, rate and width (R326,
R327). -/
def State.trained (s : State) (p : Nat) (t : TrainResult) : State :=
  let ver := if s.verMax p = 2 ∧ t.peerVer2 then 2 else 1
  let own112 := decide (s.verMax p = 2) && s.on (portCfg p) CSW_PORT_CFG.RATE_112_EN
  let try112 := decide (ver = 2) && own112 && t.peerRate112
  let w112 := if try112 then widthFrom (s.lanesOk p t.lanes112 t.peer112) (s.minWidth p) else none
  let w := match w112 with
    | some x => some (1, x)
    | none => (widthFrom (s.lanesOk p t.lanes56 t.peer56) (s.minWidth p)).map (fun x => (0, x))
  let sa := if own112 then s.advertise p 1 t.lanes112 else s
  let sb := if w112.isSome then sa else sa.advertise p 0 t.lanes56
  match w with
  | none => sb.portDown p
  | some (rate, wd, ls) =>
    let s0 := (sb.wf (portStatus p) CSW_PORT_STATUS.PEER_NODE t.peerNode).wf (portStatus p) CSW_PORT_STATUS.PEER_PORT t.peerPort
    let wrong := s.on (portCfg p) CSW_PORT_CFG.EXPECT_EN &&
      !(decide (t.peerNode = s.rf (portCfg p) CSW_PORT_CFG.EXPECT_NODE) && decide (t.peerPort = s.rf (portCfg p) CSW_PORT_CFG.EXPECT_PORT))
    if wrong || decide (t.peerNode = s.rf (CSW_NODE (portHalf p)) CSW_NODE.NODE) then
      let s1 := ((s0.setPortState p 5).wf (portEvent p) CSW_PORT_EVENT.MISMATCH 1).logPort p 7 0 0
      (s1.port p).wait.foldl (fun s f => s.giveCredit f) (s1.setPort p { s1.port p with replay := [], wait := [] })
    else (if try112 && rate == 0 then s0.wf (portEvent p) CSW_PORT_EVENT.RATE_DOWN 1 else s0).portUp p ver rate wd ls

/-- TRAINING_DONE (R326, R327): a training or retrain of the port ends. -/
def execTrainingDone (p : Nat) (t : TrainResult) (s : State) : Host.Outcome State Fault Refusal :=
  whenLive s (fun s => if (s.portState p = 1 ∨ s.portState p = 3) ∧ s.domOn (portDom p) then s.trained p t else s)

/-- TRAINING_RETRY (R327): a port that is DOWN or in MISMATCH trains again while EN is 1. -/
def execTrainingRetry (p : Nat) (s : State) : Host.Outcome State Fault Refusal :=
  whenLive s (fun s => if (s.portState p = 4 ∨ s.portState p = 5) ∧ s.portEn p then s.setPortState p 1 else s)

/-- LANE_LOSS (R328): a lane in use is lost and the port retrains on those of its lanes that are left. -/
def execLaneLoss (p lane : Nat) (s : State) : Host.Outcome State Fault Refusal :=
  whenLive s (fun s =>
    if s.portState p = 2 ∧ bit (s.rf (portStatus p) CSW_PORT_STATUS.LANES) lane then
      s.startRetrain p ((s.lanesUsed p).filter (· != lane))
    else s)

/-- A write of CSW_PORT_CFG (R326): EN 0 to 1 trains the port and wakes its domain, EN 0 disables it, RETRAIN retrains a port that is
UP and trains one that is not. -/
def State.portCfgWrite (s : State) (p v : Nat) : State :=
  let was := s.portEn p
  let s1 := (s.wr (portCfg p) (BitVec.ofNat 32 (normWord 0xE00000 (bits v 0 24)))).wf (portCfg p) CSW_PORT_CFG.RETRAIN 0
  let fresh : PortSt := {}
  if !bit v 0 then (s1.setPortState p 0).setPort p fresh
  else if !was then ((s1.setPortState p 1).setPort p fresh).keepWakes [portDom p, 131, 132]
  else if bit v 24 then
    let s2 := s1.setPort p { s1.port p with lanes := [0, 1, 2, 3] }
    if s.portState p = 2 then s2.startRetrain p [0, 1, 2, 3] else if s.portState p = 3 then s2 else s2.setPortState p 1
  else s1

/-- PORT_EN_WRITE (R326): a write of CSW_PORT_CFG with RETRAIN 0. -/
def execPortEnWrite (p v : Nat) (s : State) : Host.Outcome State Fault Refusal :=
  whenLive s (fun s => if p < 8 then s.portCfgWrite p (bits v 0 24) else s)

/-- RETRAIN (R326): a write of CSW_PORT_CFG that changes nothing but RETRAIN. -/
def execRetrain (p : Nat) (s : State) : Host.Outcome State Fault Refusal :=
  whenLive s (fun s => if p < 8 then s.portCfgWrite p (bits (s.rd (portCfg p)).toNat 0 24 + 2 ^ 24) else s)

/-! ## Routing (R335, R336) -/

/-- Where a half's route table sends a flit: delivery at this device, an egress port with its dateline mark, or nowhere. -/
inductive Route where
  | here
  | port (p dl : Nat)
  | none
  deriving DecidableEq, Repr

/-- The route of a destination node (R335): PRIMARY when it is UP, else ALT when that is UP. A flit whose port retrains waits for it, so that
none is lost (R328; log entry 40). -/
def State.route (s : State) (h : Half) (dest : Nat) : Route :=
  let a := CSW_ROUTE h dest
  let p := s.rf a CSW_ROUTE.PRIMARY
  let q := s.rf a CSW_ROUTE.ALT
  let viaP := Route.port p (s.rf a CSW_ROUTE.P_DATELINE)
  let viaQ := Route.port q (s.rf a CSW_ROUTE.A_DATELINE)
  if s.on a CSW_ROUTE.LOCAL then .here
  else if s.on a CSW_ROUTE.P_VALID && s.portState p == 2 then viaP
  else if s.on a CSW_ROUTE.A_VALID && s.portState q == 2 then viaQ
  else if s.on a CSW_ROUTE.P_VALID && s.portTakes p then viaP
  else if s.on a CSW_ROUTE.A_VALID && s.portTakes q then viaQ
  else .none

/-- A flit is discarded for want of a route (R335). -/
def State.routeDrop (s : State) (h : Half) (x : PortFlit) : State :=
  ((s.dropFlit h x).wf (CSW_EVENT h) CSW_EVENT.ROUTE_DROP 1).log h { logLink 0 0 with event := 1 }

/-- A flit joins the Passage towards the other half in the class of its type (R335). -/
def State.passFlit (s : State) (dst : Half) (x : PortFlit) (out : Option Nat) : State :=
  let s1 := s.giveCredit x
  let y : PortFlit := { x with src := none }
  if fType x.flit = 1 then s1.passActivation dst (.flit y out)
  else if fType x.flit = 4 then s1.passControl dst (.flit y out) else s1.passToken dst (.flit y out)

/-- A flit is delivered to a half, unless it would be too old (R340): it waits for the row of its type. A management flit's row carries its
message (log entry 42). -/
def State.deliver (s : State) (h : Half) (x : PortFlit) : State :=
  match x.aged (s.us h) with
  | none => s.dropFlit h x
  | some b => if fType b = 4 then s.giveCredit x else (s.modHalf h (fun y => { y with inbox := y.inbox ++ [b] })).giveCredit x

/-- A flit that enters on a port of the half or leaves one of its queues is routed. -/
def State.routeFlit (s : State) (h : Half) (x : PortFlit) : State :=
  match s.route h (fDestNode x.flit) with
  | .here => if fDestHalf x.flit = h then s.deliver h x else s.passFlit h.other x none
  | .port p dl =>
    let y : PortFlit := if dl = 1 then { x with flit := fWithDl x.flit 1 } else x
    if portHalf p = h then s.portSend p y else s.passFlit h.other y (some p)
  | .none => s.routeDrop h x

/-- A flit that a half builds is routed. -/
def State.sourceFlit (s : State) (h : Half) (b : List Byte) : State := s.routeFlit h { flit := b, since := s.us h }

/-- A flit has crossed the Passage to half `h`: it carries the time that the half it comes from held it, and leaves on its port or is
delivered here, one hop further (R340). -/
def State.flitCrossed (s : State) (h : Half) (x : PortFlit) (out : Option Nat) : State :=
  match x.aged (s.us h.other) with
  | none => s.dropFlit h.other x
  | some b =>
    let y : PortFlit := { flit := b, since := s.us h, hop := 1 }
    match out with
    | some p => if s.portTakes p then s.portSend p y else s.routeDrop h y
    | none => s.deliver h y

/-! ## Receiving (R330 to R332) -/

/-- Are words 0 to 3 of a flit sound: their parity holds, reserved fields are zero, codes assigned and LVER the link's (R329, R332)? -/
def State.headSound (s : State) (p : Nat) (b : List Byte) : Bool :=
  fHeaderGood b && fVc b != 3 && decide (1 ≤ fType b) && decide (fType b ≤ 4) && fld b 0 31 25 == 0 && fld b 4 15 15 == 0 &&
  fld b 4 31 31 == 0 && fld b 8 7 6 == 0 && fld b 8 15 14 == 0 && decide (fLen b ≤ 224) &&
  fVer b == s.rf (portStatus p) CSW_PORT_STATUS.VER

/-- Could a flit with a sound header have begun on an egress port before its end came in: the flit is next in LSEQ, and the port is UP with
nothing waiting, room in its replay buffer and a credit (R331, R332)? -/
def State.cutsThrough (s : State) (p q : Nat) (b : List Byte) : Bool :=
  let x := s.port q
  fLseq b == (s.port p).rxSeq && s.portState q == 2 && x.wait.isEmpty && decide (x.replay.length < 128) &&
  x.credit { flit := b }

/-- A flit that fails its checks (R330): discarded, with LNAK; a copy that has begun on an egress port of the half is stomped (R332). -/
def State.flitBad (s : State) (p : Nat) (b : List Byte) : State :=
  let h := portHalf p
  let s1 := ((s.wf (portEvent p) CSW_PORT_EVENT.CRC_ERR 1).add (CSW_PORT_CRC_ERRS h p) CSW_PORT_CRC_ERRS.FLITS 1).sendIdle p true
  match s.route h (fDestNode b) with
  | .port q dl =>
    let c := if dl = 1 then fWithDl b 1 else b
    if portHalf q = h ∧ s.headSound p b ∧ s.cutsThrough p q c then
      s1.send (.stompedFlit q (fStomp (s.dress q { flit := c, since := s.us h, hop := 1 } (s.port q).txSeq)))
    else s1
  | _ => s1

/-- A good flit: its LACK and LNAK act, and one that is not IDLE is taken when it is next in LSEQ, and routed. -/
def State.flitGood (s : State) (p : Nat) (b : List Byte) : State :=
  let h := portHalf p
  let s1 := s.linkAcked p (fLack b) (fLnak b)
  if fType b = 0 then s1
  else if fLseq b ≠ (s1.port p).rxSeq then s1.sendIdle p false
  else
    let s2 := (s1.setPort p { s1.port p with rxSeq := (fLseq b + 1) % 256 }).add (CSW_PORT_RX_FLITS h p) CSW_PORT_RX_FLITS.FLITS 1
    (s2.sendIdle p false).routeFlit h { flit := b, since := s.us h, hop := 1, src := some (p, fSub6 b) }

/-- Is a flit stomped: its CRC is the complement of the right one (R332)? -/
def fStomped (b : List Byte) : Bool := u32 b 0xFC == 0xFFFFFFFF - (crc32 (b.take 0xFC)).toNat
/-- Does a flit pass its checks: the parity of its words, its CRC, reserved fields zero, codes assigned (R329, R330)? -/
def fSound (b : List Byte) : Bool := fClean b && bits (u64 b 0xF0) 0 60 == fParity b && u32 b 0xFC == (crc32 (b.take 0xFC)).toNat

/-- FLIT_RECEIVE (R330): a flit arrives on a port that is UP, and with it the credits that the far end gives back. DESIGN CHOICE (log entry
80): the flit has no field for credits, so they are the row's operand, one number for each sub-channel. -/
def execFlitReceive (p : Nat) (b : List Byte) (credits : List Nat) (s : State) : Host.Outcome State Fault Refusal :=
  whenLive s (fun s =>
    if p < 8 ∧ s.portState p = 2 then
      let s1 := s.takeCredits p credits
      if fStomped b then s1
      else if fSound b ∧ fVer b = s.rf (portStatus p) CSW_PORT_STATUS.VER then s1.flitGood p b
      else s1.flitBad p b
    else s)

/-- ROUTE_WRITE (R336): a write of CSW_ROUTE. -/
def execRouteWrite (h : Half) (i v : Nat) (s : State) : Host.Outcome State Fault Refusal :=
  whenLive s (fun s => if i < 16384 then s.wr (CSW_ROUTE h i) (BitVec.ofNat 32 (bits v 0 11)) else s)

end Sys2Proof.Machine
end

