-- ==== Sys2Proof/Machine/Operands.lean ====
section
/-! DEFINITION. The operand structures the commands read: the object command block (Table 8.4), the stream descriptor (Table 9.2),
the sequencer's instruction words (Table 11.2) and the fields of GALLERY nodes (Table 10.6). -/

namespace Sys2Proof.Machine

/-! ## Object command block (Table 8.4) -/

def blkVersion (b : List Byte) : Nat := fld b 0 3 0
def blkOp (b : List Byte) : Nat := fld b 0 7 4
def blkCtx (b : List Byte) : Nat := fld b 0 15 8
def blkFlags (b : List Byte) : Nat := fld b 0 23 16
def blkInitZero (b : List Byte) : Bool := fld b 0 24 24 == 1
def blkPlace (b : List Byte) : Bool := fld b 0 25 25 == 1
def blkDestT2 (b : List Byte) : Bool := fld b 0 26 26 == 1
def blkDestOther (b : List Byte) : Bool := fld b 0 27 27 == 1
def blkHandle (b : List Byte) : Nat := u32 b 4
def blkSize (b : List Byte) : Nat := bits (u64 b 8) 0 36
def blkBase (b : List Byte) : Nat := fld b 0x10 19 0
def blkTimeout (b : List Byte) : Nat := u32 b 0x14

/-- Reserved fields of the block are zero; RESULT and DONE are the device's own (Table 8.4). -/
def blkReservedZero (b : List Byte) : Bool :=
  fld b 0 31 28 == 0 && bits (u64 b 8) 36 28 == 0 && fld b 0x10 31 20 == 0 && fld b 0x18 31 9 == 0 && u32 b 0x1C == 0

/-- Flags of Table 8.3. -/
def flagPin (f : Nat) : Bool := bit f 0
def flagPrefer (f : Nat) : Bool := bit f 1
def flagT2Only (f : Nat) : Bool := bit f 2
def flagMovable (f : Nat) : Bool := bit f 3
def flagEvictable (f : Nat) : Bool := bit f 4
def flagWest (f : Nat) : Bool := bit f 5
def flagEast (f : Nat) : Bool := bit f 6

/-- R210: is the flag set valid? -/
def flagsValid (f : Nat) : Bool :=
  (b2n (flagPin f) + b2n (flagPrefer f) + b2n (flagT2Only f) == 1) &&
  (b2n (flagWest f) + b2n (flagEast f) == 1) &&
  !(flagMovable f && flagPin f) && (!flagEvictable f || (flagPrefer f && flagMovable f)) && !bit f 7

/-- The half that a valid flag set names. -/
def flagHalf (f : Nat) : Half := if flagEast f then .east else .west

/-! ## Stream descriptor (Table 9.2) -/

def dscVersion (b : List Byte) : Nat := fld b 0 3 0
def dscSrcKind (b : List Byte) : Nat := fld b 0 7 4
def dscDstKind (b : List Byte) : Nat := fld b 0 11 8
def dscElem (b : List Byte) : Nat := fld b 0 14 12
def dscDims (b : List Byte) : Nat := fld b 0 17 15
def dscLayerEnd (b : List Byte) : Bool := fld b 0 18 18 == 1
def dscSlotEnd (b : List Byte) : Bool := fld b 0 19 19 == 1
def dscLast (b : List Byte) : Bool := fld b 0 20 20 == 1
def dscTag (b : List Byte) : Nat := u32 b 4
def dscSrc (b : List Byte) : Nat := u64 b 8
def dscDst (b : List Byte) : Nat := u64 b 0x10
def dscPasid (b : List Byte) : Nat := fld b 0x18 19 0
def dscCount (b : List Byte) (d : Nat) : Nat := bits (u32 b (0x20 + 4 * d)) 0 24
def dscSrcStride (b : List Byte) (d : Nat) : Int := signed 32 (u32 b (0x38 + 4 * (d - 1)))
def dscDstStride (b : List Byte) (d : Nat) : Int := signed 32 (u32 b (0x48 + 4 * (d - 1)))
def dscNext (b : List Byte) : Nat := u64 b 0x58
def dscResume (b : List Byte) (d : Nat) : Nat := bits (u32 b (0x60 + 4 * d)) 0 24
def dscDone (b : List Byte) : Bool := fld b 0x74 8 8 == 1
def dscResumeValid (b : List Byte) : Bool := fld b 0x74 9 9 == 1

/-- Elements of a transfer (R248). -/
def dscTotal (b : List Byte) : Nat :=
  dscCount b 0 * dscCount b 1 * dscCount b 2 * dscCount b 3 * dscCount b 4

/-- The index vector of linear element `k`, i0 varying fastest (R248). -/
def dscIndex (b : List Byte) (k : Nat) : List Nat :=
  let c (d : Nat) : Nat := max 1 (dscCount b d)
  [k % c 0, k / c 0 % c 1, k / (c 0 * c 1) % c 2, k / (c 0 * c 1 * c 2) % c 3, k / (c 0 * c 1 * c 2 * c 3) % c 4]

/-- The linear number of an index vector. -/
def dscLinear (b : List Byte) (ix : List Nat) : Nat :=
  let c (d : Nat) : Nat := max 1 (dscCount b d)
  ix.getD 0 0 + c 0 * (ix.getD 1 0 + c 1 * (ix.getD 2 0 + c 2 * (ix.getD 3 0 + c 3 * ix.getD 4 0)))

/-- Byte offset of an element from the address field of its side (R248). -/
def dscOffset (b : List Byte) (stride : Nat → Int) (k : Nat) : Int :=
  let ix := dscIndex b k
  (ix.getD 0 0 * 2 ^ dscElem b : Nat) + (ix.getD 1 0 : Nat) * stride 1 + (ix.getD 2 0 : Nat) * stride 2 +
    (ix.getD 3 0 : Nat) * stride 3 + (ix.getD 4 0 : Nat) * stride 4

/-! ## GALLERY payload (Table 10.6) -/

def Node.galFirst (n : Node) : Nat := bits n.unit 0 5
def Node.galCount (n : Node) : Nat := bits n.unit 5 6
def Node.gals (n : Node) : List Nat := (List.range n.galCount).map (fun i => n.galFirst + i)
def Node.wset (n : Node) : Nat := fld n.bytes 0x40 7 0
def Node.chmMask (n : Node) : Nat := fld n.bytes 0x40 23 8
def Node.progEntry (n : Node) : Nat := fld n.bytes 0x44 9 0
def Node.param (n : Node) : Nat := u32 n.bytes 0x48
def Node.vectors (n : Node) : Nat := fld n.bytes 0x4C 15 0
def Node.inShared (n : Node) : Bool := fld n.bytes 0x4C 16 16 == 1
def Node.inOffset (n : Node) : Nat := u32 n.bytes 0x50
def Node.inStride (n : Node) : Nat := u32 n.bytes 0x54
def Node.outOffset (n : Node) : Nat := u32 n.bytes 0x58
def Node.outStride (n : Node) : Nat := u32 n.bytes 0x5C
def Node.sbOffset (n : Node) : Nat := u32 n.bytes 0x60
def Node.cset (n : Node) : Nat := fld n.bytes 0x64 8 0
def Node.deadline (n : Node) : Nat := fld n.bytes 0x64 31 16

/-- Chambers of CHM_MASK. -/
def Node.chms (n : Node) : List Nat := (List.range 16).filter (fun c => bit n.chmMask c)

/-! ## Sequencer instruction words (Table 11.2) -/

/-- A decoded instruction of a chamber sequencer. -/
inductive SeqInstr where
  | nop
  | wave (lplane inmode gain group outfmt : Nat) (vinc iuse : Bool) (ireg : Nat)
  | rowmask (mop freg lreg : Nat)
  | split (rpp : Nat)
  | acc (add : Bool)
  | check
  | scale (uniform : Bool) (reg : Option Nat)
  | emit (en : Bool) (reg : Option Nat)
  | wait (mode event : Nat)
  | signal (event : Nat)
  | loop (reg target : Nat)
  | br (cond reg target : Nat)
  | seti (dst imm : Nat)
  | add (dst : Nat) (src : Option Nat) (imm : Nat)
  | fin
  deriving DecidableEq, Repr

/-- Why a word is illegal: the CAUSE codes 1 to 3 of Table 11.11. -/
abbrev SeqDecode := Except Nat SeqInstr

/-- A reserved bit set gives cause 2, a refused field value cause 3. -/
def seqGuard (reservedZero fieldsOk : Bool) (i : SeqInstr) : SeqDecode :=
  if !reservedZero then .error 2 else if !fieldsOk then .error 3 else .ok i

/-- Decode a store word by Table 11.2 (R305). A field that its Reserved column says must be zero counts as reserved bits (log entry 61). -/
def seqDecode (w : Nat) : SeqDecode :=
  let f (hi lo : Nat) : Nat := bits w lo (hi + 1 - lo)
  let z (hi lo : Nat) : Bool := f hi lo == 0
  match f 31 27 with
  | 0x00 => seqGuard (z 26 0) true .nop
  | 0x01 => seqGuard (z 7 0) (f 20 18 != 7 && decide (f 17 15 ≤ 4))
      (.wave (f 26 23) (f 22 21) (f 20 18) (f 17 15) (f 14 13) (f 12 12 == 1) (f 11 11 == 1) (f 10 8))
  | 0x02 => seqGuard (z 18 0 && (f 26 25 != 3 || (z 24 22 && z 21 19))) true (.rowmask (f 26 25) (f 24 22) (f 21 19))
  | 0x03 => seqGuard (z 24 0) true (.split (f 26 25))
  | 0x04 => seqGuard (z 25 0) true (.acc (f 26 26 == 1))
  | 0x05 => seqGuard (z 26 0) true .check
  | 0x06 => seqGuard (z 21 0 && (f 25 25 == 1 || z 24 22)) true
      (.scale (f 26 26 == 1) (if f 25 25 = 1 then some (f 24 22) else none))
  | 0x07 => seqGuard (z 21 0 && (f 25 25 == 1 || z 24 22)) true
      (.emit (f 26 26 == 1) (if f 25 25 = 1 then some (f 24 22) else none))
  | 0x08 => seqGuard (z 21 0 && (f 26 25 == 0 || z 24 22)) (f 26 25 != 3) (.wait (f 26 25) (f 24 22))
  | 0x09 => seqGuard (z 26 25 && z 21 0) true (.signal (f 24 22))
  | 0x0A => seqGuard (z 23 10) true (.loop (f 26 24) (f 9 0))
  | 0x0B => seqGuard (z 19 10 && (f 26 23 == 1 || f 26 23 == 2 || z 22 20)) (decide (f 26 23 ≤ 6))
      (.br (f 26 23) (f 22 20) (f 9 0))
  | 0x0C => .ok (.seti (f 26 24) (f 23 0))
  | 0x0D => seqGuard (if f 23 23 = 1 then z 19 0 else z 22 20) true
      (.add (f 26 24) (if f 23 23 = 1 then some (f 22 20) else none) (f 19 0))
  | 0x1F => seqGuard (z 26 0) true .fin
  | _ => .error 1

/-- Do the fields of an instruction fit its word, with no refused value and every field that the word does not use zero (Table 11.2)? -/
def SeqInstr.wf : SeqInstr → Bool
  | .nop => true
  | .wave lp im gn gr fmt _ _ r => decide (lp < 16) && decide (im < 4) && decide (gn < 7) && decide (gr ≤ 4) && decide (fmt < 4) && decide (r < 8)
  | .rowmask m f l => decide (m < 4) && decide (f < 8) && decide (l < 8) && (m != 3 || (f == 0 && l == 0))
  | .split k => decide (k < 4)
  | .acc _ => true
  | .check => true
  | .scale _ r => decide (r.getD 0 < 8)
  | .emit _ r => decide (r.getD 0 < 8)
  | .wait m e => decide (m < 3) && decide (e < 8) && (m == 0 || e == 0)
  | .signal e => decide (e < 8)
  | .loop r t => decide (r < 8) && decide (t < 1024)
  | .br c r t => decide (c ≤ 6) && decide (r < 8) && decide (t < 1024) && (c == 1 || c == 2 || r == 0)
  | .seti d v => decide (d < 8) && decide (v < 2 ^ 24)
  | .add d src imm => decide (d < 8) && (match src with | some r => decide (r < 8) && imm == 0 | none => decide (imm < 2 ^ 20))
  | .fin => true

/-- The store word of an instruction, by Table 11.2. -/
def seqEncode : SeqInstr → Nat
  | .nop => 0
  | .wave lp im gn gr fmt v i r => 0x01 * 2 ^ 27 + lp * 2 ^ 23 + im * 2 ^ 21 + gn * 2 ^ 18 + gr * 2 ^ 15 + fmt * 2 ^ 13 + b2n v * 2 ^ 12 +
      b2n i * 2 ^ 11 + r * 2 ^ 8
  | .rowmask m f l => 0x02 * 2 ^ 27 + m * 2 ^ 25 + f * 2 ^ 22 + l * 2 ^ 19
  | .split k => 0x03 * 2 ^ 27 + k * 2 ^ 25
  | .acc a => 0x04 * 2 ^ 27 + b2n a * 2 ^ 26
  | .check => 0x05 * 2 ^ 27
  | .scale u r => 0x06 * 2 ^ 27 + b2n u * 2 ^ 26 + b2n r.isSome * 2 ^ 25 + r.getD 0 * 2 ^ 22
  | .emit e r => 0x07 * 2 ^ 27 + b2n e * 2 ^ 26 + b2n r.isSome * 2 ^ 25 + r.getD 0 * 2 ^ 22
  | .wait m e => 0x08 * 2 ^ 27 + m * 2 ^ 25 + e * 2 ^ 22
  | .signal e => 0x09 * 2 ^ 27 + e * 2 ^ 22
  | .loop r t => 0x0A * 2 ^ 27 + r * 2 ^ 24 + t
  | .br c r t => 0x0B * 2 ^ 27 + c * 2 ^ 23 + r * 2 ^ 20 + t
  | .seti d v => 0x0C * 2 ^ 27 + d * 2 ^ 24 + v
  | .add d src imm => 0x0D * 2 ^ 27 + d * 2 ^ 24 + b2n src.isSome * 2 ^ 23 + src.getD 0 * 2 ^ 20 + imm
  | .fin => 0x1F * 2 ^ 27

end Sys2Proof.Machine
end

