-- ==== Sys2Proof/Machine/Memory.lean ====
section
/-! DEFINITION. Memory tiers and objects: object commands, placement, the pool, bindings, moves and evictions, the BAR2 aperture and
the Sweeper (chapter 8). -/

namespace Sys2Proof.Machine

/-! ## Runs, charges and entries -/

/-- The state with a function applied to a half's memory state. -/
def State.modMem (s : State) (h : Half) (f : MemHalf → MemHalf) : State :=
  s.modHalf h (fun x => { x with mem := f x.mem })

/-- Runs of a tier that are not free (R217): homes, backings, destinations of moves and evictions, fills, sources that bound nodes
still use, placements of ALLOCs in progress. -/
def State.runs (s : State) (h : Half) (tier : Nat) : List (Nat × Nat) :=
  if tier = 1 then
    s.t1Runs h ++ (((s.half h).mem.allocWait).filter (fun a => a.tier == 1)).map (fun a => (a.base, ceilDiv a.size 4096))
  else
    let m := (s.half h).mem
    let live := s.liveEntries h
    (live.filter (fun i => s.rf (MEM_HOME h i) MEM_HOME.TIER == 2)).map
        (fun i => (s.rf (MEM_HOME h i) MEM_HOME.BASE, ceilDiv (s.objSize h i) 65536)) ++
      (live.filter (fun i => flagEvictable (s.rf (MEM_HOME h i) MEM_HOME.FLAGS))).map
        (fun i => (s.rf (MEM_HOME h i) MEM_HOME.BACKING, ceilDiv (s.objSize h i) 65536)) ++
      (live.filter (fun i => s.objState h i == 2 && s.rf (MEM_HOME h i) MEM_HOME.DEST_TIER == 1)).map
        (fun i => (s.rf (MEM_HOME h i) MEM_HOME.DEST, ceilDiv (s.objSize h i) 65536)) ++
      (m.fills.filter (fun f => f.tier == 2)).map (fun f => (f.base, f.len)) ++
      ((m.olds.map Prod.snd).filter (fun f => f.tier == 2)).map (fun f => (f.base, f.len)) ++
      ((m.allocs ++ m.allocWait).filter (fun a => a.tier == 2)).map (fun a => (a.base, ceilDiv a.size 65536)) ++
      (m.allocs ++ m.allocWait).filterMap (fun a => a.backing.map (fun b => (b, ceilDiv a.size 65536)))

/-- The pool region of a half: base and size in granules (R216). -/
def State.pool (s : State) (h : Half) : Nat × Nat :=
  (s.rf (MEM_POOL_CTRL h) MEM_POOL_CTRL.BASE, s.rf (MEM_POOL_CTRL h) MEM_POOL_CTRL.SIZE)

/-- Granules of a tier. -/
def tierSize (tier : Nat) : Nat := if tier = 1 then 32768 else 786432

/-- Is the run [b, b+n) inside [lo, hi) and free of every run of the list? -/
def runFree (used : List (Nat × Nat)) (lo hi b n : Nat) : Bool :=
  decide (lo ≤ b) && decide (b + n ≤ hi) && used.all (fun r => !runsMeet b n r.1 r.2)

/-- First fit: the lowest start of a free run, which is the region's start or the end of a used run (R217). -/
def firstFit (used : List (Nat × Nat)) (lo hi n : Nat) : Option Nat :=
  ((lo :: used.map (fun r => r.1 + r.2)).filter (fun b => runFree used lo hi b n)).foldl
    (fun m b => match m with | none => some b | some c => some (min b c)) none

/-- A placement's answer: the first granule, or a result code of Table 8.5. -/
abbrev Place := Except Nat Nat

/-- Place a run of `n` granules outside the pool, at BASE or first-fit (R217). T1 runs keep out of the pool region. -/
def State.place (s : State) (h : Half) (tier n : Nat) (at' : Option Nat) : Place :=
  let p := s.pool h
  let used := s.runs h tier ++ (if tier = 1 ∧ p.2 ≠ 0 then [p] else [])
  match at' with
  | some b => if runFree used 0 (tierSize tier) b n then .ok b else .error 0x45
  | none => match firstFit used 0 (tierSize tier) n with
    | some b => .ok b
    | none => .error 0x44

/-- Usage and limit of a context's quota: tier 1 outside the pool, the pool, tier 2 (Table 8.15). -/
def State.quotaUsed (s : State) (h : Half) (c tier : Nat) (pool : Bool) : Nat :=
  if tier = 2 then s.rf (MEM_CTX_T2_USED h c) MEM_CTX_T2_USED.USED
  else if pool then s.rf (MEM_CTX_POOL h c) MEM_CTX_POOL.USED else s.rf (MEM_CTX_T1 h c) MEM_CTX_T1.USED
def State.quotaLimit (s : State) (h : Half) (c tier : Nat) (pool : Bool) : Nat :=
  if tier = 2 then s.rf (MEM_CTX_T2_LIMIT h c) MEM_CTX_T2_LIMIT.LIMIT
  else if pool then s.rf (MEM_CTX_POOL h c) MEM_CTX_POOL.LIMIT else s.rf (MEM_CTX_T1 h c) MEM_CTX_T1.LIMIT
def State.setUsed (s : State) (h : Half) (c tier : Nat) (pool : Bool) (v : Nat) : State :=
  if tier = 2 then s.wf (MEM_CTX_T2_USED h c) MEM_CTX_T2_USED.USED v
  else if pool then (s.wf (MEM_CTX_POOL h c) MEM_CTX_POOL.USED v)
  else s.wf (MEM_CTX_T1 h c) MEM_CTX_T1.USED v

/-- Charge or release granules (R215). -/
def State.charge (s : State) (h : Half) (c tier : Nat) (pool : Bool) (n : Nat) : State :=
  s.setUsed h c tier pool (s.quotaUsed h c tier pool + n)
def State.uncharge (s : State) (h : Half) (c tier : Nat) (pool : Bool) (n : Nat) : State :=
  s.setUsed h c tier pool (s.quotaUsed h c tier pool - n)

/-- Does a charge of `n` fit the quota? -/
def State.quotaFits (s : State) (h : Half) (c tier : Nat) (pool : Bool) (n : Nat) : Bool :=
  decide (s.quotaUsed h c tier pool + n ≤ s.quotaLimit h c tier pool)

/-- The pool granules held by objects, shown in MEM_POOL_STATUS.USED: the sum of the contexts' POOL usages. -/
def State.poolUsed (s : State) (h : Half) : Nat :=
  (List.range 256).foldl (fun n c => n + s.quotaUsed h c 1 true) 0

/-- A run leaves an object: its granules stay held and charged until their zero fill ends (R229). -/
def State.release (s : State) (h : Half) (f : Fill) : State :=
  (s.modMem h (fun m => { m with fills := m.fills ++ [f] })).keepWakes (runDoms h f.tier f.base f.len)

/-- The lowest number that is not in the list. -/
def lowestFree (used : List Nat) : Nat :=
  ((List.range (used.length + 1)).filter (fun i => !used.contains i)).headD 0

/-- The free home-table entry with the lowest INDEX, if any (R213); entries of ALLOCs in progress are taken (R217). -/
def State.freeEntry (s : State) (h : Half) : Option Nat :=
  let m := (s.half h).mem
  let i := lowestFree (s.liveEntries h ++ ((m.allocs ++ m.allocWait).filter (fun a => !a.move)).map (fun a => a.idx))
  if i < 32768 then some i else none

/-- GEN after one more ALLOC: it wraps from 16,383 to 1 (R208). -/
def nextGen (g : Nat) : Nat := if g ≥ 16383 then 1 else g + 1

/-- The handle of an entry as it stands (Table 8.2). -/
def State.handleOf (s : State) (h : Half) (i : Nat) : Nat :=
  i + h.num * 2 ^ 15 + s.rf (MEM_HOME h i) MEM_HOME.GEN * 2 ^ 16

/-- Write a field of a home-table entry. -/
def State.home (s : State) (h : Half) (i : Nat) (f : Fld) (v : Nat) : State := s.wf (MEM_HOME h i) f v

/-- An ALLOC completes: the entry is RESIDENT at its run, with a new GEN (R208, Table 8.9). -/
def State.allocEntry (s : State) (h : Half) (a : AllocReq) (swept : Bool) : State :=
  let g := nextGen (s.rf (MEM_HOME h a.idx) MEM_HOME.GEN)
  let set : List (Fld × Nat) := [(MEM_HOME.STATE, 1), (MEM_HOME.TIER, a.tier), (MEM_HOME.CONTEXT, a.ctx), (MEM_HOME.GEN, g),
    (MEM_HOME.SWEEP, b2n swept), (MEM_HOME.EVICT_FAIL, 0), (MEM_HOME.FLAGS, a.flags), (MEM_HOME.USE_W, 0),
    (MEM_HOME.USE_R, 0), (MEM_HOME.SIZE_LO, a.size), (MEM_HOME.SIZE_HI, a.size / 2 ^ 32), (MEM_HOME.BASE, a.base),
    (MEM_HOME.DEST, 0), (MEM_HOME.DEST_TIER, 0), (MEM_HOME.LAST_USE, s.us h), (MEM_HOME.BACKING, a.backing.getD 0)]
  set.foldl (fun s e => s.home h a.idx e.1 e.2) s

/-! ## Ending an object command (R212, R213) -/

/-- An object command ends with a code of Table 8.5 and, where it makes one, a new handle: in MEM_CMD and MEM_CMD_CTRL, or as the
completion of its MEMORY node. -/
def State.memEnd (s : State) (h : Half) (src : MemSrc) (code : Nat) (handle : Option Nat) : State :=
  match src with
  | .regs =>
    let w6 : Fld := { lo := 0, len := 9 }
    let s1 := s.wf (MEM_CMD h 6) w6 (code + 256)
    let s2 := match handle with | some v => s1.wr (MEM_CMD h 1) (BitVec.ofNat 32 v) | none => s1
    ((s2.wf (MEM_CMD_CTRL h) MEM_CMD_CTRL.BUSY 0).wf (MEM_CMD_CTRL h) MEM_CMD_CTRL.DONE 1).wf (MEM_CMD_CTRL h)
      MEM_CMD_CTRL.RESULT code
  | .node r => s.endNodeD r (if code = 0 then 0 else 4) code (if code = 0 then handle.getD 0 else 0)

/-! ## The ager (R218, R219) -/

/-- Age of an object in µs: modulo 2^32, capped at 2^31. -/
def State.objAge (s : State) (h : Half) (i : Nat) : Nat :=
  min (2 ^ 31) ((s.us h + 2 ^ 32 - s.rf (MEM_HOME h i) MEM_HOME.LAST_USE) % 2 ^ 32)

/-- Is the entry a candidate for eviction: RESIDENT in the pool, unbound, EVICT_FAIL 0? -/
def State.candidate (s : State) (h : Half) (i : Nat) : Bool :=
  s.objState h i == 1 && s.rf (MEM_HOME h i) MEM_HOME.TIER == 1 && flagEvictable (s.rf (MEM_HOME h i) MEM_HOME.FLAGS) &&
  s.rf (MEM_HOME h i) MEM_HOME.USE_R == 0 && s.rf (MEM_HOME h i) MEM_HOME.USE_W == 0 &&
  s.rf (MEM_HOME h i) MEM_HOME.EVICT_FAIL == 0

/-- The oldest candidate; equal ages go to the lower INDEX. -/
def State.oldest (s : State) (h : Half) : Option Nat :=
  ((s.liveEntries h).filter (s.candidate h)).foldl (fun m i =>
    match m with
    | none => some i
    | some j => if s.objAge h i > s.objAge h j then some i else some j) none

/-- The ager puts an object in EVICTING (Table 8.9): its backing is the destination. -/
def State.evict (s : State) (h : Half) (i : Nat) : State :=
  let s1 := ((s.home h i MEM_HOME.STATE 3).home h i MEM_HOME.DEST (s.rf (MEM_HOME h i) MEM_HOME.BACKING)).home h i
    MEM_HOME.DEST_TIER 1
  (s1.modMem h (fun m => { m with copies := m.copies ++ [{ idx := i, evict := true, src := .regs, started := true }] })).keepWakes
    [phyDom h 0, phyDom h 1]

/-- Is an eviction of the half running, or a fill of pool granules? Their granules are about to become free. -/
def State.poolFreeing (s : State) (h : Half) : Bool :=
  (s.half h).mem.copies.any (fun c => c.evict) || (s.half h).mem.fills.any (fun f => f.pool)

/-! ## Binding (R222 to R226) -/

/-- Why a bind cannot be done now, or that it can. -/
inductive Bind where
  | ok
  | wait
  | stale
  deriving DecidableEq, Repr

/-- May a node of a context bind a handle: stale or FREE is an error; EVICTING waits; a writer waits while MOVING (R222, R224,
R226). -/
def State.canBind (s : State) (h : Half) (ctx v : Nat) (writer : Bool) : Bind :=
  if !s.handleOk h ctx v then .stale
  else if s.objState h (handleIdx v) = 3 then .wait
  else if s.objState h (handleIdx v) = 2 ∧ writer then .wait
  else .ok

/-- Bind an object: USE_R or USE_W rises (R222). -/
def State.bindObject (s : State) (v : Nat) (writer : Bool) : State :=
  let a := MEM_HOME (handleHalf v) (handleIdx v)
  if writer then s.add a MEM_HOME.USE_W 1 else s.add a MEM_HOME.USE_R 1

/-- Unbind an object: the use count falls and LAST_USE is set, while the entry is still the object's (R222). A source run kept for
nodes that were bound before a move is released when the last of them completes (R225). -/
def State.unbindObject (s : State) (v : Nat) (writer : Bool) : State :=
  let h := handleHalf v
  let i := handleIdx v
  let a := MEM_HOME h i
  let s1 := if s.rf a MEM_HOME.GEN = handleGen v ∧ s.objState h i ≠ 0 then
      (if writer then s.sub a MEM_HOME.USE_W 1 else s.sub a MEM_HOME.USE_R 1).wf a MEM_HOME.LAST_USE (s.us h)
    else s
  let stillUsed := s1.graphs.any (fun g => g.nodes.any (fun n => n.homes.any (fun e => e.1 == v))) ||
    s1.engines.any (fun e => e.2.homes.any (fun x => x.1 == v))
  if stillUsed then s1
  else
    let rel := (s1.half h).mem.olds.filter (fun e => e.1 == v)
    let s2 := s1.modMem h (fun m => { m with olds := m.olds.filter (fun e => !(e.1 == v)) })
    rel.foldl (fun s e => s.release h e.2) s2

/-- Handles that a node binds, with the writer mark (R276). -/
def Node.binds (n : Node) : List (Nat × Bool) :=
  ((List.range 8).filter (fun i => n.bind i != 0)).map (fun i => (n.bind i, bit n.bindW i))

/-- Does the node bind an object of the other half: a stream node with a PASSAGE side (R245)? -/
def Node.bindsFar (n : Node) : Bool := n.binds.any (fun b => handleHalf b.1 != n.half)

/-- The request of a node to bind objects of the other half travels in the Control class, and the node waits for it (R245). -/
def State.askBind (s : State) (r : NodeRef) (n : Node) : State :=
  (s.modNode r (fun n => { n with phase := .binding, ask := .sent })).passControl n.half.other (.bind (some r) n.unit)

/-- Try to bind every object of a dispatched node in order: the bound node goes on, a wait keeps it in `binding`, a stale handle
ends it with DATA_ERROR and is recorded (R222). `next` is what follows binding. -/
def State.tryBind (s : State) (r : NodeRef) (next : State → State) : State :=
  match s.node r with
  | none => s
  | some (_, n) =>
    if n.bindsFar ∧ n.ask = .none then s.askBind r n
    else if n.bindsFar ∧ n.ask = .sent then s
    else
    let res := n.binds.map (fun b => s.canBind (handleHalf b.1) r.ctx b.1 b.2)
    if res.contains .stale then
      let bad := (n.binds.find? (fun b => s.canBind (handleHalf b.1) r.ctx b.1 b.2 == .stale)).map Prod.fst
      (s.endNode r 3).logNode n.half r { logData 2 with handle := bad.getD 0 }
    else if res.contains .wait then s.modNode r (fun n => { n with phase := .binding })
    else
      let s1 := n.binds.foldl (fun s b => s.bindObject b.1 b.2) s
      next (s1.modNode r (fun n => { n with bound := n.binds }))

/-! ## Placing an ALLOC (R213, R217) -/

/-- Granules of a size in a tier. -/
def granulesOf (tier size : Nat) : Nat := ceilDiv size (granule tier)

/-- An ALLOC's run outside the pool: quota, then space and placement. -/
def State.tryTier (s : State) (h : Half) (c tier size : Nat) (at' : Option Nat) : Place :=
  if s.quotaFits h c tier false (granulesOf tier size) then s.place h tier (granulesOf tier size) at' else .error 0x43

/-- A pool placement: the first free run of the pool (R217). -/
def State.poolFit (s : State) (h : Half) (n : Nat) : Option Nat :=
  let p := s.pool h
  firstFit (s.runs h 1) p.1 (p.1 + p.2) n

/-- Domains of a half's memory: its SRAM banks and DRAM PHYs. -/
def memDoms (h : Half) : List Nat := (List.range 16).map (bankDom h) ++ [phyDom h 0, phyDom h 1]

/-- An ALLOC's run has been found: with INIT_ZERO the fill begins and everything is held (R217), else the ALLOC completes. -/
def State.allocPlaced (s : State) (h : Half) (a : AllocReq) (zero : Bool) : State :=
  let n := granulesOf a.tier a.size
  let s1 := if a.backing = some a.base ∧ a.tier = 2 then s else s.charge h a.ctx a.tier a.pool n
  if zero then
    let fl : Fill := { tier := a.tier, base := a.base, len := n, ctx := a.ctx, pool := a.pool, charged := false, entry := some a.idx }
    (s1.modMem h (fun m => { m with allocs := m.allocs ++ [a], fills := m.fills ++ [fl] })).keepWakes (memDoms h)
  else
    let s2 := s1.allocEntry h a false
    (s2.memEnd h a.src 0 (some (s2.handleOf h a.idx))).keepWakes (memDoms h)

/-- A waiting pool placement holds its backing no longer (R219). -/
def State.dropBacking (s : State) (h : Half) (a : AllocReq) : State :=
  match a.backing with
  | some _ => if a.move then s else s.uncharge h a.ctx 2 false (granulesOf 2 a.size)
  | none => s

/-- The half whose command a pool placement belongs to: that of the object, for a move between Halves. -/
def AllocReq.cmdHalf (a : AllocReq) (h : Half) : Half := match a.other with | some e => e.1 | none => h

/-- A waiting pool placement gives up: the backing's charge ends with it (R219). -/
def State.allocFail (s : State) (h : Half) (a : AllocReq) (code : Nat) : State :=
  (s.dropBacking h a).memEnd (a.cmdHalf h) a.src code none

/-- A MOVE's destination is held: the object enters MOVING (R224). -/
def State.startMove (s : State) (h : Half) (i tier base : Nat) (src : MemSrc) (other : Option Nat) : State :=
  let s1 := ((s.home h i MEM_HOME.STATE 2).home h i MEM_HOME.DEST base).home h i MEM_HOME.DEST_TIER (tier - 1)
  (s1.modMem h (fun m => { m with copies := m.copies ++ [{ idx := i, evict := false, src := src, other := other }] })).keepWakes
    (s.objDoms h i ++ runDoms (if other.isSome then h.other else h) tier base (granulesOf tier (s.objSize h i)))

/-- A move between Halves has found its new place: the receiving Half charges the context and the copy starts. -/
def State.moveOtherGo (s : State) (h : Half) (i : Nat) (src : MemSrc) (a : AllocReq) : State :=
  let o := h.other
  let s1 := s.charge o a.ctx a.tier a.pool (granulesOf a.tier a.size)
  (s1.modMem o (fun m => { m with allocs := m.allocs ++ [a] })).startMove h i a.tier a.base src (some a.idx)

/-- A pool placement that has found a run: an ALLOC goes on, a MOVE to the pool, from this half or the other, enters MOVING. -/
def State.poolPlaced (s : State) (h : Half) (a : AllocReq) (base : Nat) : State :=
  match a.other with
  | some e => s.moveOtherGo e.1 e.2 a.src { a with tier := 1, base := base, pool := true }
  | none =>
    if a.move then
      (s.charge h a.ctx 1 true (granulesOf 1 a.size)).startMove h a.idx 1 base a.src none
    else s.allocPlaced h { a with tier := 1, base := base, pool := true } (blkInitZero a.block)

/-- A pool placement that the context's POOL limit no longer admits: the home is the backing (R217). -/
def State.poolBacked (s : State) (h : Half) (a : AllocReq) : State :=
  let b := a.backing.getD 0
  match a.other with
  | some e => (s.uncharge h a.ctx 2 false (granulesOf 2 a.size)).moveOtherGo e.1 e.2 a.src { a with tier := 2, base := b }
  | none => if a.move then s.memEnd h a.src 0 none else s.allocPlaced h { a with tier := 2, base := b } (blkInitZero a.block)

/-- An allocation ends with NO_SPACE: after a wait it sets ALLOC_TIMEOUT (Table 8.16). -/
def State.poolNoSpace (s : State) (h : Half) (a : AllocReq) (waited : Bool) : State :=
  (if waited then s.wf (MEM_EVENT h) MEM_EVENT.ALLOC_TIMEOUT 1 else s).allocFail h a 0x44

/-- May the placement wait in the pool's queue: not with TIMEOUT 0, which a MOVE uses whatever its block says (R219, R224)? -/
def AllocReq.waits (a : AllocReq) : Bool := !a.move && a.other.isNone && blkTimeout a.block != 0

/-- One try of a pool placement that is the head of the queue (R218, R219), where it has waited already or not: the new state, and whether it
is settled. -/
def State.poolTry (s : State) (h : Half) (a : AllocReq) (waited : Bool) : State × Bool :=
  if !s.quotaFits h a.ctx 1 true (granulesOf 1 a.size) then (s.poolBacked h a, true)
  else match s.poolFit h (granulesOf 1 a.size) with
    | some b => (s.poolPlaced h a b, true)
    | none =>
      if s.poolFreeing h then (s, false)
      else match s.oldest h with
        | some i => (s.evict h i, false)
        | none => if a.waits then (s, false) else (s.poolNoSpace h a waited, true)

/-- A pool placement joins the queue; at its head it is tried at once. With TIMEOUT 0 it does not wait behind others. -/
def State.poolAsk (s : State) (h : Half) (a : AllocReq) : State :=
  if (s.half h).mem.allocWait.isEmpty then
    let t := s.poolTry h a false
    if t.2 then t.1 else t.1.modMem h (fun m => { m with allocWait := m.allocWait ++ [a] })
  else if a.waits then s.modMem h (fun m => { m with allocWait := m.allocWait ++ [a] })
  else s.poolNoSpace h a false

/-- ALLOC after its format and half checks (R213, R217). -/
def State.allocCmd (s : State) (h : Half) (src : MemSrc) (b : List Byte) : State :=
  match s.freeEntry h with
  | none => s.memEnd h src 0x46 none
  | some i =>
    let f := blkFlags b
    let at' := if blkPlace b then some (blkBase b) else none
    let a : AllocReq := { idx := i, src := src, block := b, ctx := blkCtx b, flags := f, size := blkSize b, startUs := s.us h }
    let put (t : Nat) (p : Place) : State :=
      match p with
      | .ok g => s.allocPlaced h { a with tier := t, base := g } (blkInitZero b)
      | .error c => s.memEnd h src c none
    if flagPin f then put 1 (s.tryTier h a.ctx 1 a.size at')
    else if flagT2Only f then put 2 (s.tryTier h a.ctx 2 a.size at')
    else if flagEvictable f then
      match s.tryTier h a.ctx 2 a.size at' with
      | .error c => s.memEnd h src c none
      | .ok g =>
        let s1 := s.charge h a.ctx 2 false (granulesOf 2 a.size)
        let a1 := { a with backing := some g }
        if s1.quotaFits h a.ctx 1 true (granulesOf 1 a.size) then s1.poolAsk h a1
        else s1.allocPlaced h { a1 with tier := 2, base := g } (blkInitZero b)
    else
      match s.tryTier h a.ctx 1 a.size at' with
      | .ok g => put 1 (.ok g)
      | .error _ => put 2 (s.tryTier h a.ctx 2 a.size none)

/-! ## FREE, MOVE, SET_SWEEP (R224 to R229) -/

/-- Releasing every run of an unbound object: the entry is FREE at once (R229, Table 8.9). -/
def State.freeEntryRuns (s : State) (h : Half) (i : Nat) : State :=
  let a := MEM_HOME h i
  let f := s.rf a MEM_HOME.FLAGS
  let t := s.rf a MEM_HOME.TIER
  let c := s.rf a MEM_HOME.CONTEXT
  let ev := flagEvictable f
  let home : Fill := { tier := t, base := s.rf a MEM_HOME.BASE, len := granulesOf t (s.objSize h i), ctx := c,
                       pool := ev && t == 1 }
  let back : Fill := { tier := 2, base := s.rf a MEM_HOME.BACKING, len := granulesOf 2 (s.objSize h i), ctx := c }
  let s1 := (((s.home h i MEM_HOME.STATE 0).home h i MEM_HOME.TIER 0).home h i MEM_HOME.EVICT_FAIL 0).home h i MEM_HOME.SWEEP 0
  let s2 := s1.release h home
  if ev ∧ t = 1 then s2.release h back else s2

/-- FREE of a RESIDENT object (Table 8.10): IN_USE while a node is bound. -/
def State.freeResident (s : State) (h : Half) (i : Nat) (src : MemSrc) : State :=
  if s.rf (MEM_HOME h i) MEM_HOME.USE_R ≠ 0 ∨ s.rf (MEM_HOME h i) MEM_HOME.USE_W ≠ 0 then s.memEnd h src 0x47 none
  else (s.freeEntryRuns h i).memEnd h src 0 none

/-- Is the message a move of the bytes of the other half's entry `i`? -/
def PassMsg.moves (m : PassMsg) (i : Nat) : Bool := match m with
  | .move j _ _ _ => j == i
  | _ => false

/-- A copy of the other half's entry `i` that has not yet crossed the Passage stops. -/
def State.dropMove (s : State) (o : Half) (i : Nat) : State :=
  s.modHalf o (fun x => { x with move := x.move.filter (fun m => !m.moves i) })

/-- The destination of an abandoned move is released under R229; in the other half the entry taken is given back, and no more of the copy
crosses the Passage. -/
def State.dropDest (s : State) (h : Half) (i : Nat) (c : Copy) : State :=
  let a := MEM_HOME h i
  let ctx := s.rf a MEM_HOME.CONTEXT
  let ev := flagEvictable (s.rf a MEM_HOME.FLAGS)
  let t := s.rf a MEM_HOME.DEST_TIER + 1
  match c.other with
  | some j =>
    let o := h.other
    let mine := (s.half o).mem.allocs.filter (fun x => x.idx == j)
    let s1 := (s.modMem o (fun m => { m with allocs := m.allocs.filter (fun x => !(x.idx == j)) })).dropMove o i
    mine.foldl (fun s x =>
      let s1 := s.release o { tier := x.tier, base := x.base, len := granulesOf x.tier x.size, ctx := x.ctx, pool := x.pool }
      match x.backing with
      | some b => if x.tier = 2 then s1 else s1.release o { tier := 2, base := b, len := granulesOf 2 x.size, ctx := x.ctx }
      | none => s1) s1
  | none =>
    if ev ∧ t = 2 then s
    else s.release h { tier := t, base := s.rf a MEM_HOME.DEST, len := granulesOf t (s.objSize h i), ctx := ctx,
                       pool := ev && t == 1 }

/-- The copy of an object's MOVE or eviction. -/
def State.copyOf (s : State) (h : Half) (i : Nat) : Option Copy := (s.half h).mem.copies.find? (fun c => c.idx == i)
def State.dropCopy (s : State) (h : Half) (i : Nat) : State :=
  s.modMem h (fun m => { m with copies := m.copies.filter (fun c => !(c.idx == i)) })

/-- FREE (R229, Table 8.10). -/
def State.freeCmd (s : State) (h : Half) (src : MemSrc) (b : List Byte) : State :=
  let i := handleIdx (blkHandle b)
  match s.objState h i with
  | 2 => match s.copyOf h i with
    | some c =>
      let s1 := ((s.dropDest h i c).dropCopy h i).home h i MEM_HOME.STATE 1
      (s1.memEnd h c.src 0x49 none).freeResident h i src
    | none => s.freeResident h i src
  | 3 => s.modMem h (fun m => { m with waiting := m.waiting ++ [(src, b)] })
  | _ => s.freeResident h i src

/-- The place tried for a move between Halves: taken, or the move ends with its code. -/
def State.moveOtherPut (s : State) (h : Half) (i : Nat) (src : MemSrc) (a : AllocReq) (t : Nat) : Place → State
  | .ok g => s.moveOtherGo h i src { a with tier := t, base := g }
  | .error c => s.memEnd h src c none

/-- The places a move between Halves tries in the receiving Half, in the order of an allocation there. -/
def State.moveOtherTry (s : State) (h : Half) (i : Nat) (src : MemSrc) (a : AllocReq) (f : Nat) (at' : Option Nat) : State :=
  let o := h.other
  if flagT2Only f then s.moveOtherPut h i src a 2 (s.tryTier o a.ctx 2 a.size at')
  else if flagEvictable f then
    match s.tryTier o a.ctx 2 a.size at' with
    | .error c => s.memEnd h src c none
    | .ok g =>
      if s.quotaFits o a.ctx 1 true (granulesOf 1 a.size) then
        (s.charge o a.ctx 2 false (granulesOf 2 a.size)).poolAsk o { a with backing := some g }
      else s.moveOtherGo h i src { a with tier := 2, base := g, backing := some g }
  else match s.tryTier o a.ctx 1 a.size at' with
    | .ok g => s.moveOtherPut h i src a 1 (.ok g)
    | .error _ => s.moveOtherPut h i src a 2 (s.tryTier o a.ctx 2 a.size none)

/-- The destination of a MOVE with DEST_OTHER: an ALLOC of the other half with the same flags, HALF changed (R228). -/
def State.moveOther (s : State) (h : Half) (i : Nat) (src : MemSrc) (b : List Byte) : State :=
  let o := h.other
  let a0 := MEM_HOME h i
  let f := s.rf a0 MEM_HOME.FLAGS
  let f' := f - 32 * b2n (flagWest f) - 64 * b2n (flagEast f) + (if o = .west then 32 else 64)
  let at' := if blkPlace b then some (blkBase b) else none
  match s.freeEntry o with
  | none => s.memEnd h src 0x46 none
  | some j =>
    let a : AllocReq := { idx := j, src := src, block := b, ctx := s.rf a0 MEM_HOME.CONTEXT, flags := f', size := s.objSize h i,
                          startUs := s.us o, other := some (h, i) }
    s.moveOtherTry h i src a f at'

/-- MOVE (R224, R228, Table 8.10). -/
def State.moveCmd (s : State) (h : Half) (src : MemSrc) (b : List Byte) : State :=
  let i := handleIdx (blkHandle b)
  let a := MEM_HOME h i
  let f := s.rf a MEM_HOME.FLAGS
  let t := s.rf a MEM_HOME.TIER
  let dt := if blkDestT2 b then 2 else 1
  if s.objState h i ≠ 1 then s.modMem h (fun m => { m with waiting := m.waiting ++ [(src, b)] })
  else if !flagMovable f then s.memEnd h src 0x48 none
  else if blkDestOther b then s.moveOther h i src b
  else if flagT2Only f ∧ dt = 1 then s.memEnd h src 0x40 none
  else if dt = t ∧ (!blkPlace b ∨ flagEvictable f) then s.memEnd h src 0 none
  else if flagEvictable f then
    if dt = 2 then s.startMove h i 2 (s.rf a MEM_HOME.BACKING) src none
    else if s.quotaFits h (s.rf a MEM_HOME.CONTEXT) 1 true (granulesOf 1 (s.objSize h i)) then
      s.poolAsk h { idx := i, src := src, block := b, ctx := s.rf a MEM_HOME.CONTEXT, flags := f, size := s.objSize h i,
                    startUs := s.us h, move := true }
    else s.memEnd h src 0 none
  else
    match s.tryTier h (s.rf a MEM_HOME.CONTEXT) dt (s.objSize h i) (if blkPlace b then some (blkBase b) else none) with
    | .error c => s.memEnd h src c none
    | .ok g => (s.charge h (s.rf a MEM_HOME.CONTEXT) dt false (granulesOf dt (s.objSize h i))).startMove h i dt g src none

/-- SET_SWEEP (Table 8.10): the SWEEP bit is set in any state. -/
def State.setSweepCmd (s : State) (h : Half) (src : MemSrc) (b : List Byte) : State :=
  (s.home h (handleIdx (blkHandle b)) MEM_HOME.SWEEP 1).memEnd h src 0 none

/-- The checks of R213 that come before the operation's own. -/
def State.memCheck (s : State) (h : Half) (b : List Byte) : Nat :=
  let op := blkOp b
  if blkVersion b ≠ 1 ∨ !blkReservedZero b ∨ op = 0 ∨ op > 4 then 0x40
  else if op = 1 then
    if !flagsValid (blkFlags b) ∨ blkSize b = 0 ∨ blkSize b > 51539607552 then 0x40
    else if flagHalf (blkFlags b) ≠ h then 0x41
    else 0
  else if handleHalf (blkHandle b) ≠ h then 0x41
  else if !s.handleOk h (blkCtx b) (blkHandle b) then 0x42
  else 0

/-- Run an object command (R211 to R213). -/
def State.memRun (s : State) (h : Half) (src : MemSrc) (b : List Byte) : State :=
  let c := s.memCheck h b
  if c ≠ 0 then s.memEnd h src c none
  else match blkOp b with
    | 1 => s.allocCmd h src b
    | 2 => s.freeCmd h src b
    | 3 => s.moveCmd h src b
    | _ => s.setSweepCmd h src b

/-- The first waiting command of an object that no longer has to wait: none while the object is EVICTING, a FREE alone while it is MOVING
(Table 8.10). -/
def State.memReady (s : State) (h : Half) (i : Nat) : Option (MemSrc × List Byte) :=
  (s.half h).mem.waiting.find? (fun e => handleIdx (blkHandle e.2) == i && s.objState h i != 3 && (s.objState h i != 2 || blkOp e.2 == 2))

/-- Commands that waited for an object to leave MOVING or EVICTING are checked afresh, in order (Table 8.10). -/
def State.recheckGo (s : State) (h : Half) (i : Nat) : Nat → State
  | 0 => s
  | k + 1 => match s.memReady h i with
    | none => s
    | some e => State.recheckGo ((s.modMem h (fun m => { m with waiting := m.waiting.erase e })).memRun h e.1 e.2) h i k
def State.memRecheck (s : State) (h : Half) (i : Nat) : State := s.recheckGo h i (s.half h).mem.waiting.length

/-- An object command is taken; a FREE that ends a MOVE lets the commands that waited for it go on (Table 8.10). -/
def State.memTake (s : State) (h : Half) (src : MemSrc) (b : List Byte) : State :=
  let s1 := s.memRun h src b
  if blkOp b = 2 ∧ s.objState h (handleIdx (blkHandle b)) = 2 then s1.memRecheck h (handleIdx (blkHandle b)) else s1

/-- The command block in MEM_CMD. -/
def State.memCmdBlock (s : State) (h : Half) : List Byte :=
  (List.range 8).flatMap (fun i => leBytes 4 (s.rd (MEM_CMD h i)).toNat)

/-- A GO in MEM_CMD_CTRL (Table 8.12): ignored while BUSY. -/
def State.memGo (s : State) (h : Half) : State :=
  if s.on (MEM_CMD_CTRL h) MEM_CMD_CTRL.BUSY then s
  else (s.wf (MEM_CMD_CTRL h) MEM_CMD_CTRL.BUSY 1).memTake h .regs (s.memCmdBlock h)

/-- Has the command of a MEMORY node been taken, and does it wait or copy? -/
def State.memTaken (s : State) (h : Half) (src : MemSrc) : Bool :=
  let m := (s.half h).mem
  m.copies.any (fun c => c.src == src) || m.allocWait.any (fun a => a.src == src) || m.waiting.any (fun w => w.1 == src) ||
  (s.half h.other).mem.allocWait.any (fun a => a.other.isSome && a.src == src)

/-- An object command with a given OP: a GO whose block in MEM_CMD carries it, or a running MEMORY node whose payload does. -/
def State.memOp (s : State) (h : Half) (op : Nat) (src : MemSrc) : State :=
  match src with
  | .regs => if blkOp (s.memCmdBlock h) = op then s.memGo h else s
  | .node r => match s.node r with
    | none => s
    | some (_, n) =>
      let b := slice n.bytes 0x40 32
      if n.kind = 5 ∧ n.half = h ∧ n.phase = .running ∧ blkOp b = op ∧ s.memTaken h src = false then s.memTake h src b else s

/-- ALLOC (R217): a GO with an ALLOC block; nodes never carry ALLOC (R211). -/
def execAlloc (h : Half) (s : State) : Host.Outcome State Fault Refusal := whenLive s (fun s => s.memOp h 1 .regs)
/-- FREE (R229). -/
def execFree (h : Half) (src : MemSrc) (s : State) : Host.Outcome State Fault Refusal := whenLive s (fun s => s.memOp h 2 src)
/-- MOVE (R224). -/
def execMove (h : Half) (src : MemSrc) (s : State) : Host.Outcome State Fault Refusal := whenLive s (fun s => s.memOp h 3 src)
/-- SET_SWEEP (R239, Table 8.10). -/
def execSetSweep (h : Half) (src : MemSrc) (s : State) : Host.Outcome State Fault Refusal :=
  whenLive s (fun s => s.memOp h 4 src)

/-! ## Fills, evictions, copies -/

/-- ZERO_FILL_DONE (R229, R217): the oldest fill ends. An INIT_ZERO object becomes RESIDENT and is marked for sweeping (R239);
released granules are free and their charge ends. -/
def State.fillDone (s : State) (h : Half) : State :=
  match (s.half h).mem.fills with
  | [] => s
  | f :: fs =>
    if !(runDoms h f.tier f.base f.len).all s.domOn then s else
    let s1 := (s.memZero h f.tier (f.base * granule f.tier) (f.len * granule f.tier)).modMem h (fun m => { m with fills := fs })
    match f.entry with
    | none => if f.charged then s1.uncharge h f.ctx f.tier f.pool f.len else s1
    | some i => match s1.half h |>.mem.allocs.find? (fun a => a.idx == i) with
      | none => s1
      | some a =>
        let s2 := (s1.modMem h (fun m => { m with allocs := m.allocs.filter (fun x => !(x.idx == i)) })).allocEntry h a true
        s2.memEnd h a.src 0 (some (s2.handleOf h i))

/-- ZERO_FILL_DONE. -/
def execZeroFillDone (h : Half) (s : State) : Host.Outcome State Fault Refusal := whenLive s (fun s => s.fillDone h)

/-- µs an allocation has waited, added to MEM_ALLOC_WAIT when its wait ends. -/
def State.allocWaited (s : State) (h : Half) (a : AllocReq) : State :=
  s.add (MEM_ALLOC_WAIT h) MEM_ALLOC_WAIT.US (s.us h - a.startUs)

/-- Does a waiting pool placement still stand? A MOVE that waits finds its object RESIDENT outside the pool as before. -/
def State.poolStands (s : State) (h : Half) (a : AllocReq) : Bool :=
  match a.other with
  | some e => s.handleOk e.1 a.ctx (blkHandle a.block) && s.objState e.1 e.2 == 1
  | none => !a.move || (s.handleOk h a.ctx (blkHandle a.block) && s.objState h a.idx == 1 &&
      s.rf (MEM_HOME h a.idx) MEM_HOME.TIER == 2)

/-- POOL_RETRY (R219): the head of the queue is tried. A MOVE whose object has changed since is checked afresh. -/
def State.poolRetry (s : State) (h : Half) : State :=
  match (s.half h).mem.allocWait with
  | [] => s
  | a :: q =>
    let s0 := s.modMem h (fun m => { m with allocWait := q })
    if !s.poolStands h a then ((s0.dropBacking h a).allocWaited h a).memRun (a.cmdHalf h) a.src a.block
    else
      let t := s0.poolTry h a true
      if t.2 then t.1.allocWaited h a else t.1.modMem h (fun m => { m with allocWait := a :: m.allocWait })

/-- POOL_RETRY. -/
def execPoolRetry (h : Half) (s : State) : Host.Outcome State Fault Refusal := whenLive s (fun s => s.poolRetry h)

/-- ALLOC_TIMEOUT (R219): the k-th waiting allocation has waited TIMEOUT µs, 0 for a MOVE (R224), and ends with NO_SPACE, holding nothing. -/
def State.allocTimeout (s : State) (h : Half) (k : Nat) : State :=
  match (s.half h).mem.allocWait[k]? with
  | none => s
  | some a => ((s.modMem h (fun m => { m with allocWait := m.allocWait.eraseIdx k })).allocWaited h a).poolNoSpace h a true

/-- ALLOC_TIMEOUT. -/
def execAllocTimeout (h : Half) (k : Nat) (s : State) : Host.Outcome State Fault Refusal :=
  whenLive s (fun s => s.allocTimeout h k)

/-- Nodes, and STR_ARM chains, that are bound to an object keep its old home when the home switches (R225, R261). -/
def State.keepOldHome (s : State) (v tier addr : Nat) : State :=
  { s with
    graphs := s.graphs.map (fun g => { g with nodes := g.nodes.map (fun n =>
      if n.active && n.bound.any (fun b => b.1 == v) && !n.homes.any (fun e => e.1 == v)
      then { n with homes := n.homes ++ [(v, tier, addr)] } else n) })
    engines := s.engines.map (fun e =>
      if e.2.bound.any (fun b => b.1 == v) && !e.2.homes.any (fun x => x.1 == v)
      then (e.1, { e.2 with homes := e.2.homes ++ [(v, tier, addr)] }) else e) }

/-- The source run of a finished move: kept while a node is bound to it, else released (R225). The backing of an EVICTABLE object is never
released: it stays the object's (R217). -/
def State.leaveSource (s : State) (h : Half) (i : Nat) (v : Nat) (f : Fill) (backing : Bool) : State :=
  if s.rf (MEM_HOME h i) MEM_HOME.USE_R ≠ 0 ∨ s.rf (MEM_HOME h i) MEM_HOME.USE_W ≠ 0 then
    let s1 := s.keepOldHome v f.tier (f.base * granule f.tier)
    if backing then s1 else s1.modMem h (fun m => { m with olds := m.olds ++ [(v, f)] })
  else if backing then s else s.release h f

/-- The fill that the present home run of an entry would need. -/
def State.homeFill (s : State) (h : Half) (i : Nat) : Fill :=
  let a := MEM_HOME h i
  let t := s.rf a MEM_HOME.TIER
  { tier := t, base := s.rf a MEM_HOME.BASE, len := granulesOf t (s.objSize h i), ctx := s.rf a MEM_HOME.CONTEXT,
    pool := flagEvictable (s.rf a MEM_HOME.FLAGS) && t == 1 }

/-- Are the domains that hold a copy's source and destination on (R408)? -/
def State.copyOn (s : State) (h : Half) (i : Nat) (c : Copy) : Bool :=
  let t := s.rf (MEM_HOME h i) MEM_HOME.DEST_TIER + 1
  (s.objDoms h i ++ runDoms (if c.other.isSome then h.other else h) t (s.rf (MEM_HOME h i) MEM_HOME.DEST)
    (granulesOf t (s.objSize h i))).all s.domOn

/-- Bytes of an object copied to a run. -/
def State.copyBytes (s : State) (h : Half) (i tier base : Nat) : State :=
  let o := s.objAt h i
  s.memPut h tier (base * granule tier) (s.objRead o 0 o.size)

/-- What the checkers find on the bytes of an object that is copied: counted, and each uncorrectable word recorded; the second component
says whether there is one (R231, R233, R235). -/
def State.copyScan (s : State) (h : Half) (i : Nat) (chk : Scan) : State × Bool :=
  let o := s.objAt h i
  let p := s.scan h o.tier o.addr o.size chk
  (p.2.foldl (fun s w => s.logWord h o.tier w (s.handleOf h i)) p.1, !p.2.isEmpty)

/-- EVICT_DONE (R220): the home switches to the backing and the pool granules are released; bad data leave the object in the pool
with EVICT_FAIL. -/
def State.evictDone (s : State) (h : Half) (i : Nat) (chk : Scan) : State :=
  match s.copyOf h i with
  | none => s
  | some c =>
    if !c.evict ∨ !s.copyOn h i c then s
    else
      let p := s.copyScan h i chk
      let s1 := p.1.dropCopy h i
      let s2 := if p.2 then
          (((s1.home h i MEM_HOME.STATE 1).home h i MEM_HOME.EVICT_FAIL 1).wf (MEM_EVENT h) MEM_EVENT.EVICT_FAIL 1).log h
            { logData 3 with event := 6, handle := s.handleOf h i }
        else
          let f := s.homeFill h i
          let b := s.rf (MEM_HOME h i) MEM_HOME.BACKING
          let t := ((((s1.copyBytes h i 2 b).home h i MEM_HOME.TIER 2).home h i MEM_HOME.BASE b).home h i MEM_HOME.STATE 1)
          (t.release h f).add (MEM_EVICT_COUNT h) MEM_EVICT_COUNT.OBJECTS 1
      s2.memRecheck h i

/-- The copy of an accepted MOVE starts once no writer is bound (R224); to the other half it travels in the Move class (R228). -/
def State.moveCopyStart (s : State) (h : Half) (i : Nat) : State :=
  match s.copyOf h i with
  | none => s
  | some c =>
    if c.evict ∨ c.started ∨ s.rf (MEM_HOME h i) MEM_HOME.USE_W ≠ 0 ∨ !s.copyOn h i c then s
    else
      let s1 := s.modMem h (fun m => { m with copies := m.copies.map (fun x => if x.idx == i then { x with started := true } else x) })
      match c.other with
      | none => s1
      | some j => match (s1.half h.other).mem.allocs.find? (fun a => a.idx == j) with
        | none => s1
        | some a =>
          let o := s1.objAt h i
          s1.passMove h.other (.move i a.tier (a.base * granule a.tier) (s1.objRead o 0 o.size))

/-- MOVE_COPY_START. -/
def execMoveCopyStart (h : Half) (i : Nat) (s : State) : Host.Outcome State Fault Refusal :=
  whenLive s (fun s => s.moveCopyStart h i)

/-- The end of a move within a half (R225). -/
def State.moveHere (s : State) (h : Half) (i : Nat) (c : Copy) : State :=
  let v := s.handleOf h i
  let f := s.homeFill h i
  let t := s.rf (MEM_HOME h i) MEM_HOME.DEST_TIER + 1
  let b := s.rf (MEM_HOME h i) MEM_HOME.DEST
  let ev := flagEvictable (s.rf (MEM_HOME h i) MEM_HOME.FLAGS)
  let s1 := (((s.copyBytes h i t b).home h i MEM_HOME.TIER t).home h i MEM_HOME.BASE b).home h i MEM_HOME.STATE 1
  ((s1.leaveSource h i v f (ev && f.tier == 2)).add (MEM_MOVE_COUNT h) MEM_MOVE_COUNT.OBJECTS 1).memEnd h c.src 0 none

/-- The end of a move to the other half (R228): the new entry is RESIDENT, the old one is freed and its GEN rises. -/
def State.moveThere (s : State) (h : Half) (i j : Nat) (c : Copy) : State :=
  match (s.half h.other).mem.allocs.find? (fun a => a.idx == j) with
  | none => s
  | some a =>
    let v := s.handleOf h i
    let s1 := (s.modMem h.other (fun m => { m with allocs := m.allocs.filter (fun x => !(x.idx == j)) })).allocEntry h.other a false
    let f := s1.homeFill h i
    let back : Fill := { tier := 2, base := s.rf (MEM_HOME h i) MEM_HOME.BACKING, len := granulesOf 2 (s.objSize h i), ctx := f.ctx }
    let s2 := s1.leaveSource h i v f false
    let s3 := if f.pool then s2.release h back else s2
    let g := nextGen (s.rf (MEM_HOME h i) MEM_HOME.GEN)
    let s4 := (((((s3.home h i MEM_HOME.STATE 0).home h i MEM_HOME.TIER 0).home h i MEM_HOME.GEN g).home h i MEM_HOME.USE_R 0).home
      h i MEM_HOME.SWEEP 0).home h i MEM_HOME.EVICT_FAIL 0
    (s4.add (MEM_MOVE_COUNT h) MEM_MOVE_COUNT.OBJECTS 1).memEnd h c.src 0 (some (s4.handleOf h.other j))

/-- A MOVE whose data are bad, or were lost on the Passage (R23), ends with DATA_ERROR; the object stays where it was. -/
def State.moveBad (s : State) (h : Half) (i : Nat) (c : Copy) : State :=
  (((s.dropDest h i c).dropCopy h i).home h i MEM_HOME.STATE 1).memEnd h c.src 0x4A none

/-- MOVE_COPY_DONE (R225, R228): the home switches in one update; uncorrectable source data end the MOVE with DATA_ERROR. A copy to the
other half ends once its bytes have left the Passage. -/
def State.moveCopyDone (s : State) (h : Half) (i : Nat) (chk : Scan) : State :=
  match s.copyOf h i with
  | none => s
  | some c =>
    if c.evict ∨ !c.started ∨ (c.other.isSome ∧ (s.half h.other).move.any (fun m => m.moves i)) then s
    else
      let p := s.copyScan h i chk
      let s2 := if p.2 || c.failed then p.1.moveBad h i c
        else match c.other with
          | none => (p.1.dropCopy h i).moveHere h i c
          | some j => (p.1.dropCopy h i).moveThere h i j c
      s2.memRecheck h i

/-- What a unit's read finds out about a range of an object: every uncorrectable word is counted and recorded (R235). The second component
is true when the data are uncorrectable. -/
def State.checkRead (s : State) (o : Obj) (off len : Nat) (chk : Scan) : State × Bool :=
  let p := s.scan o.half o.tier (o.addr + off) len chk
  (p.2.foldl (fun s w => s.logWord o.half o.tier w (s.handleOf o.half o.idx)) p.1, !p.2.isEmpty)

/-- Bytes that a unit reads from an object for a node: an uncorrectable read marks the node with DATA_ERROR (R235); a byte outside the
object is a free value (log entry 13). -/
def State.unitRead (s : State) (r : NodeRef) (o : Obj) (off len : Nat) (chk : Scan) : State × List Byte :=
  let inside := min len (o.size - off)
  let p := if inside = 0 then (s, false) else s.checkRead o off inside chk
  let s1 := if p.2 then p.1.markNode r 3 else p.1
  let out := (List.range (len - inside)).map (fun i => BitVec.ofNat 8 (Config.free (s1.freeCtr + i)))
  ({ s1 with freeCtr := s1.freeCtr + (len - inside) }, s.objRead o off inside ++ out)

/-- Bytes that a unit writes to an object; bytes outside the object are dropped (log entry 13). -/
def State.unitWrite (s : State) (o : Obj) (off : Nat) (bs : List Byte) : State := s.objWrite o off (bs.take (o.size - off))

/-! ## BAR2 (R230 to R235, R363) -/

/-- Does a virtual or the physical function exist (R362)? -/
def State.funcExists (s : State) (f : Nat) : Bool := decide (f = 0) || (s.pcie.vfEnable && decide (f ≤ s.pcie.numVfs) && decide (f ≤ 63))

/-- Does function `f` exist and take accesses: the physical function, or an enabled virtual function; neither in reset nor in
D3hot (R362, R375, R378)? -/
def State.funcActive (s : State) (f : Nat) : Bool :=
  s.funcExists f && !(s.func f).flr && !(s.func f).d3

/-- Is T1 byte `a` in a PIN_T1 object that a context of the function owns (R230)? -/
def State.bar2Allowed (s : State) (h : Half) (f a : Nat) : Bool :=
  decide (f = 0) || (s.liveEntries h).any (fun i =>
    s.isPin h i && decide (s.rf (PCI_CTX_FUNC (s.rf (MEM_HOME h i) MEM_HOME.CONTEXT)) PCI_CTX_FUNC.FUNC = f) &&
    decide (s.rf (MEM_HOME h i) MEM_HOME.BASE ≤ a / 4096) &&
    decide (a / 4096 < s.rf (MEM_HOME h i) MEM_HOME.BASE + s.objGranules h i))

/-- The value that a write's record carries: its first four bytes. -/
def wrValue (wr : Option (List Byte)) : Nat := match wr with
  | some bs => leNat (bs.take 4)
  | none => 0

/-- An access that R363 refuses: recorded, with PCI_EVENT.BAD_ACCESS; a read completes with zeros. -/
def State.badAccess (s : State) (f off len : Nat) (wr : Bool) (v : Nat) : State :=
  let s1 := (s.wf PCI_EVENT PCI_EVENT.BAD_ACCESS 1).log .west { logSoft 12 v with event := 1, func := f, addr := off }
  if wr then s1 else s1.send (.readDone f off (zeros len))

/-- The object that lies at byte address `a` of T1, by its entry. -/
def State.t1Entry (s : State) (h : Half) (a : Nat) : Option Nat :=
  (s.liveEntries h).find? (fun i => s.rf (MEM_HOME h i) MEM_HOME.TIER == 1 && decide (s.rf (MEM_HOME h i) MEM_HOME.BASE ≤ a / 4096) &&
    decide (a / 4096 < s.rf (MEM_HOME h i) MEM_HOME.BASE + s.objGranules h i))

/-- The handle of that object, or 0. -/
def State.t1Handle (s : State) (h : Half) (a : Nat) : Nat := match s.t1Entry h a with
  | some i => s.handleOf h i
  | none => 0

/-- A BAR2 read of T1 (R231, R235): uncorrectable words are returned as read and recorded. -/
def State.bar2Read (s : State) (h : Half) (f off a len : Nat) (chk : Scan) : State :=
  let p := s.scan h 1 a len chk
  (p.2.foldl (fun s w => s.logWord h 1 w (s.t1Handle h (4 * w))) p.1).readGive h f off (s.memBytes h 1 a len)

/-- A BAR2 write of T1 (R232): the words covered in part are read first, and a part-word write to a word whose stored parity fails is discarded
and recorded. -/
def State.bar2Write (s : State) (h : Half) (a : Nat) (bs : List Byte) (chk : Scan) : State :=
  let new := (partWords 4 a bs.length).filter (fun w => chk.bad.any (fun o => decide (o < bs.length) && (a + o) / 4 == w))
  (s.scanCount h 1 chk).putFinds h 1 a bs new

/-- A BAR2 access that has reached its half (R230, R363). In a bank that is off it waits, without a wake (R408). -/
def State.bar2Here (s : State) (f off width : Nat) (wr : Option (List Byte)) (chk : Scan) : State :=
  let h := Half.ofNum (off / 0x08000000)
  let a := off % 0x08000000
  if (List.range width).all (fun i => s.bar2Allowed h f (a + i)) then
    if !s.domOn (bankDom h (a / 0x800000)) then
      s.modHalf h (fun x => { x with accesses := x.accesses ++ [{ func := f, off := off, width := width, bar2 := some (wr, chk) }] })
    else match wr with
      | some bs => s.bar2Write h a bs chk
      | none => s.bar2Read h f off a width chk
  else
    let s1 := (s.wf (MEM_EVENT h) MEM_EVENT.ACCESS_REFUSED 1).log h { logSoft 3 (wrValue wr) with event := 7, func := f, addr := off }
    if wr.isSome then s1 else s1.readGive h f off (zeros width)

/-- A BAR2 access of the host (R230, R363): one that is not within a 64-byte block is refused; to East it crosses the Passage in the Control
class (log entry 63). A function that does not exist answers nothing (R362). -/
def State.bar2 (s : State) (f off len : Nat) (wr : Option (List Byte)) (chk : Scan) : State :=
  let n := match wr with | some bs => bs.length | none => len
  if !s.funcExists f then s
  else if !s.funcActive f ∨ off ≥ 0x10000000 ∨ n = 0 ∨ n > 64 ∨ off % 64 + n > 64 then s.badAccess f off n wr.isSome (wrValue wr)
  else if off < 0x08000000 then s.bar2Here f off n wr chk
  else s.passControl .east (.access { func := f, off := off, width := n, bar2 := some (wr, chk) })

/-- BAR2_ACCESS. -/
def execBar2Access (f off len : Nat) (wr : Option (List Byte)) (chk : Scan) (s : State) : Host.Outcome State Fault Refusal :=
  whenLive s (fun s => s.bar2 f off len wr chk)

/-! ## Quotas and the pool region (R214, R216) -/

/-- Sum over the contexts of one limit, with context `c` at `v`. -/
def State.limitSum (s : State) (h : Half) (kind : QuotaKind) (c v : Nat) : Nat :=
  (List.range 256).foldl (fun n i => n + (if i = c then v else match kind with
    | .t0 => s.rf (MEM_CTX_T0 h i) MEM_CTX_T0.LIMIT
    | .t1 => s.rf (MEM_CTX_T1 h i) MEM_CTX_T1.LIMIT
    | .pool => s.rf (MEM_CTX_POOL h i) MEM_CTX_POOL.LIMIT
    | .t2 => s.rf (MEM_CTX_T2_LIMIT h i) MEM_CTX_T2_LIMIT.LIMIT)) 0

/-- A write of a context's limit (R214). -/
def State.quotaWrite (s : State) (h : Half) (kind : QuotaKind) (c w : Nat) : State :=
  let v := match kind with | .t2 => bits w 0 20 | _ => bits w 0 16
  let used := match kind with
    | .t0 => s.rf (MEM_CTX_T0 h c) MEM_CTX_T0.USED
    | .t1 => s.quotaUsed h c 1 false
    | .pool => s.quotaUsed h c 1 true
    | .t2 => s.quotaUsed h c 2 false
  let ok : Bool := decide (used ≤ v) && (match kind with
    | .t0 => decide (s.limitSum h .t0 c v ≤ 32768)
    | .t1 => decide (s.limitSum h .t1 c v + (s.pool h).2 ≤ 32768)
    | .pool => true
    | .t2 => decide (s.limitSum h .t2 c v ≤ 786432))
  if ok then match kind with
    | .t0 => s.wf (MEM_CTX_T0 h c) MEM_CTX_T0.LIMIT v
    | .t1 => s.wf (MEM_CTX_T1 h c) MEM_CTX_T1.LIMIT v
    | .pool => s.wf (MEM_CTX_POOL h c) MEM_CTX_POOL.LIMIT v
    | .t2 => s.wf (MEM_CTX_T2_LIMIT h c) MEM_CTX_T2_LIMIT.LIMIT v
  else s.log h { logSoft 3 w with ctx := some c }

/-- QUOTA_WRITE. -/
def execQuotaWrite (h : Half) (kind : QuotaKind) (c w : Nat) (s : State) : Host.Outcome State Fault Refusal :=
  whenLive s (fun s => if c < 256 then s.quotaWrite h kind c w else s)

/-- Would the pool region [b, b+n) leave a T1 object, or the place that a move or an ALLOC in progress holds for one, outside its region
class (R216)? -/
def State.poolCuts (s : State) (h : Half) (b n : Nat) : Bool :=
  (s.liveEntries h).any (fun i =>
    s.rf (MEM_HOME h i) MEM_HOME.TIER == 1 &&
    (if flagEvictable (s.rf (MEM_HOME h i) MEM_HOME.FLAGS) then
        !(decide (b ≤ s.rf (MEM_HOME h i) MEM_HOME.BASE) && decide (s.rf (MEM_HOME h i) MEM_HOME.BASE + s.objGranules h i ≤ b + n))
      else runsMeet (s.rf (MEM_HOME h i) MEM_HOME.BASE) (s.objGranules h i) b n)) ||
  (s.liveEntries h).any (fun i =>
    s.objState h i == 2 && s.rf (MEM_HOME h i) MEM_HOME.DEST_TIER == 0 && (s.copyOf h i).any (fun c => c.other.isNone) &&
    (let d := s.rf (MEM_HOME h i) MEM_HOME.DEST
     let k := ceilDiv (s.objSize h i) 4096
     if flagEvictable (s.rf (MEM_HOME h i) MEM_HOME.FLAGS) then !(decide (b ≤ d) && decide (d + k ≤ b + n)) else runsMeet d k b n)) ||
  (s.half h).mem.allocs.any (fun a => a.tier == 1 &&
    (if a.pool then !(decide (b ≤ a.base) && decide (a.base + granulesOf 1 a.size ≤ b + n))
     else runsMeet a.base (granulesOf 1 a.size) b n))

/-- A write of MEM_POOL_CTRL (R216). -/
def State.poolCtrlWrite (s : State) (h : Half) (w : Nat) : State :=
  let b := bits w 0 16
  let n := bits w 16 16
  if b + n > 32768 ∨ s.limitSum h .t1 256 0 + n > 32768 ∨ s.poolCuts h b n then s.log h (logSoft 3 w)
  else ((s.wf (MEM_POOL_CTRL h) MEM_POOL_CTRL.BASE b).wf (MEM_POOL_CTRL h) MEM_POOL_CTRL.SIZE n).keepWakes
    ((List.range 16).map (bankDom h))

/-- POOL_CTRL_WRITE. -/
def execPoolCtrlWrite (h : Half) (w : Nat) (s : State) : Host.Outcome State Fault Refusal :=
  whenLive s (fun s => s.poolCtrlWrite h w)

/-! ## The Sweeper (R239 to R241) -/

/-- The words of a home-table entry. -/
def State.entryWords (s : State) (h : Half) (i : Nat) : List Word := (List.range 8).map (fun k => s.rd (MEM_HOME h i + 4 * k))

/-- The objects that a pass beginning now sweeps: RESIDENT with SWEEP 1, each with its entry (R239). -/
def State.sweepList (s : State) (h : Half) : List (Nat × List Word) :=
  ((s.liveEntries h).filter (fun i => s.objState h i == 1 && s.on (MEM_HOME h i) MEM_HOME.SWEEP)).map (fun i => (i, s.entryWords h i))

/-- Objects of a tier that the pass still sweeps: those whose entry is as it was when the pass began; entry, first burst and number of
bursts. -/
def State.sweepRuns (s : State) (h : Half) (tier : Nat) : List (Nat × Nat × Nat) :=
  (((s.half h).mem.sweep.filter (fun e => s.entryWords h e.1 == e.2)).map Prod.fst).filter (fun i =>
    s.rf (MEM_HOME h i) MEM_HOME.TIER == tier) |>.map (fun i =>
      (i, s.rf (MEM_HOME h i) MEM_HOME.BASE * granule tier / 64, s.objGranules h i * granule tier / 64))

/-- The next burst of a tier at or after `pos`, with its object. -/
def nextBurst (runs : List (Nat × Nat × Nat)) (pos : Nat) : Option (Nat × Nat) :=
  (runs.filterMap (fun r => if pos < r.2.1 + r.2.2 then some (r.1, max pos r.2.1) else none)).foldl
    (fun m e => match m with | none => some e | some x => if e.2 < x.2 then some e else some x) none

/-- The burst the Sweeper reads next: tier, object, burst index. T1 comes first, then T2 (R239). -/
def State.sweepNext (s : State) (h : Half) : Option (Nat × Nat × Nat) :=
  let pos := s.rf (SWP_POS h) SWP_POS.BURST
  let t2 (p : Nat) : Option (Nat × Nat × Nat) :=
    if s.on (SWP_CTRL h) SWP_CTRL.EN_T2 then (nextBurst (s.sweepRuns h 2) p).map (fun e => (2, e)) else none
  if s.on (SWP_STATUS h) SWP_STATUS.TIER then t2 pos
  else
    match (if s.on (SWP_CTRL h) SWP_CTRL.EN_T1 then nextBurst (s.sweepRuns h 1) pos else none) with
    | some e => some (1, e)
    | none => t2 0

/-- SWEEP_BURST (R240): the Sweeper reads its next burst, writes each corrected T2 word back, and reports each uncorrectable word without
changing it. It reads nothing while a gating window is closed (R396). -/
def State.sweepBurst (s : State) (h : Half) (chk : Scan) : State :=
  if !s.power.gateOpen then s
  else match s.sweepNext h with
  | none => s
  | some (t, i, b) =>
    if !(s.objDoms h i).all s.domOn then (s.objDoms h i).foldl State.need s else
    let s1 := (s.wf (SWP_STATUS h) SWP_STATUS.TIER (t - 1)).wf (SWP_POS h) SWP_POS.BURST (b + 1)
    let p := s1.scan h t (64 * b) 64 chk
    let s2 := if t = 1 ∨ chk.corrected = 0 then p.1 else p.1.add (SWP_CE h) SWP_CE.WORDS chk.corrected
    let s3 := if p.2 = [] then s2 else s2.add (SWP_UE h) SWP_UE.WORDS p.2.length
    p.2.foldl (fun s w => s.logWord h t w (s.handleOf h i)) s3

/-- SWEEP_BURST. -/
def execSweepBurst (h : Half) (chk : Scan) (s : State) : Host.Outcome State Fault Refusal :=
  whenLive s (fun s => s.sweepBurst h chk)

/-- Bytes of a tier that the pass has to sweep. -/
def State.sweepBytes (s : State) (h : Half) (tier : Nat) : Nat :=
  if s.on (SWP_CTRL h) (if tier = 1 then SWP_CTRL.EN_T1 else SWP_CTRL.EN_T2) then ((s.sweepRuns h tier).map (fun r => 64 * r.2.2)).foldl (· + ·) 0
  else 0

/-- A sweep rate in MiB/s as it reads (Table 8.19). -/
def sweepRate (v top other : Nat) : Nat := if 1 ≤ v ∧ v ≤ top then v else other

/-- Has the pass taken more than twice its nominal time, the bytes marked divided by the rates (R241)? -/
def State.sweepLate (s : State) (h : Half) : Bool :=
  let r1 := sweepRate (s.rf (SWP_RATE h) SWP_RATE.T1_MIBS) 4096 64
  let r2 := sweepRate (s.rf (SWP_RATE h) SWP_RATE.T2_MIBS) 16384 1024
  let n := s.sweepBytes h 1 * r2 + s.sweepBytes h 2 * r1
  decide (n ≠ 0) && decide (2 * 1000000 * n < (s.us h - (s.half h).mem.sweepUs) * (2 ^ 20 * r1 * r2))

/-- SWEEP_PASS_END (R239, R241): no burst of either tier is left; the next pass begins at T1, with the objects that are marked then. -/
def execSweepPassEnd (h : Half) (s : State) : Host.Outcome State Fault Refusal :=
  whenLive s (fun s =>
    if (s.sweepNext h).isSome then s
    else
      let s1 := ((s.add (SWP_PASSES h) SWP_PASSES.PASSES 1).wf (SWP_STATUS h) SWP_STATUS.TIER 0).wf (SWP_POS h) SWP_POS.BURST 0
      let s2 := s1.modMem h (fun m => { m with sweep := s.sweepList h, sweepUs := s.us h })
      if s.sweepLate h then s2.wf (SWP_STATUS h) SWP_STATUS.BEHIND 1 else s2)

end Sys2Proof.Machine
end

