-- ==== Sys2Proof/Machine/Queue.lean ====
section
/-! DEFINITION. Causeway queue pairs (R337 to R341): send queues, receive queues, and the flits DATA, OPEN, OPEN_ACK, REJECT and ACK. -/

namespace Sys2Proof.Machine

/-! ## Flits of a half's queues and barriers -/

/-- The device's node ID (R322). -/
def State.nodeId (s : State) : Nat := s.rf (CSW_NODE .west) CSW_NODE.NODE

/-- A flit of TYPE 1 to 3 that the half sends to a node and half: `dq` the receive queue or barrier, `sq` the send queue. -/
def State.sendFlit (s : State) (h : Half) (type sub dest dHalf dq sq info : Nat) (payload : List Byte) : State :=
  s.sourceFlit h (mkFlit (if type = 1 then 2 else 1) type dest dHalf s.nodeId h.num dq sq sub info payload)

/-- What flits keep in order among themselves (R342): type, source and queues. -/
def fKey (b : List Byte) : Nat × Nat × Nat × Nat × Nat := (fType b, fSrcNode b, fSrcHalf b, fSrcQ b, fDestQ b)

/-- A delivered flit of a type and subtype is acted on: it leaves the inbox, unless an older one of its order is still there. -/
def State.takeFlit (s : State) (h : Half) (type sub : Nat) (b : List Byte) : Option State :=
  if fType b = type ∧ fSub b = sub ∧ (s.half h).inbox.find? (fun x => decide (fKey x = fKey b)) = some b then
    some (s.modHalf h (fun x => { x with inbox := x.inbox.erase b }))
  else none

/-- The effect of a delivered flit's row: none when no such flit is due. -/
def State.onFlit (s : State) (h : Half) (type sub : Nat) (b : List Byte) (f : State → State) : State :=
  match s.takeFlit h type sub b with
  | some t => f t
  | none => s

/-! ## Send queues -/

/-- Registers of a send queue. -/
def State.sqCfg (s : State) (h : Half) (q : Nat) (f : Fld) : Nat := s.rf (CSW_SQ_CFG h q) f
def State.sqState (s : State) (h : Half) (q : Nat) : Nat := s.rf (CSW_SQ_STATE h q) CSW_SQ_STATE.STATE
def State.setSqState (s : State) (h : Half) (q v : Nat) : State := s.wf (CSW_SQ_STATE h q) CSW_SQ_STATE.STATE v
def State.sqEpoch (s : State) (h : Half) (q : Nat) : Nat := s.rf (CSW_SQ_STATE h q) CSW_SQ_STATE.EPOCH

/-- A flit from a send queue to its receive queue. -/
def State.sqFlit (s : State) (h : Half) (q type sub info : Nat) (payload : List Byte) : State :=
  s.sendFlit h type sub (s.sqCfg h q CSW_SQ_CFG.DEST_NODE) (s.sqCfg h q CSW_SQ_CFG.DEST_HALF) (s.sqCfg h q CSW_SQ_CFG.DEST_QUEUE) q
    info payload

/-- The queue sends OPEN (R339). -/
def State.sqOpen (s : State) (h : Half) (q : Nat) : State := s.sqFlit h q 2 1 (s.sqEpoch h q * 2 ^ 24) []

/-- The queue enters CONNECTING and sends its first OPEN. -/
def State.sqConnect (s : State) (h : Half) (q : Nat) : State := (s.setSqState h q 1).sqOpen h q

/-- A queue pair's end breaks (R341). -/
def State.queueBroken (s : State) (h : Half) (q : Nat) : State :=
  (s.wf (CSW_EVENT h) CSW_EVENT.QUEUE_BROKEN 1).log h { logLink 0 0 with event := 4, subject := q, kind := 6 }

def State.sqBreak (s : State) (h : Half) (q : Nat) : State := (s.setSqState h q 3).queueBroken h q

/-- Bytes that the receiver's LIMIT still allows (R338). -/
def State.sqRoom (s : State) (h : Half) (q : Nat) : Nat :=
  ((s.sq h q).limit + 2 ^ 32 - s.rf (CSW_SQ_SENT h q) CSW_SQ_SENT.BYTES) % 2 ^ 32

/-- One DATA flit is built: its bytes are accepted. -/
def State.sqBuild (s : State) (h : Half) (q : Nat) (bs : List Byte) : State :=
  let x := s.sq h q
  let s1 := s.setSq h q { x with
    psn := (x.psn + 1) % 2 ^ 24
    unacked := x.unacked ++ [{ psn := x.psn, len := bs.length, ser := x.built + 1 }]
    built := x.built + 1 }
  (s1.add (CSW_SQ_SENT h q) CSW_SQ_SENT.BYTES bs.length).sqFlit h q 1 0 (x.psn + s.sqEpoch h q * 2 ^ 24) bs

/-- The queue packs bytes into flits of 224, a shorter one only when they end the producer's transfer, within LIMIT; the second component
is the number of bytes accepted. -/
def State.sqPush (s : State) (h : Half) (q : Nat) (bs : List Byte) (last : Bool) : Nat → State × Nat
  | 0 => (s, 0)
  | k + 1 =>
    let n := if bs.length ≥ 224 then 224 else if last then bs.length else 0
    if s.sqState h q = 2 ∧ n ≠ 0 ∧ n ≤ s.sqRoom h q then
      let p := State.sqPush (s.sqBuild h q (bs.take n)) h q (bs.drop n) last k
      (p.1, p.2 + n)
    else (s, 0)

/-- Flits that some bytes need. -/
def flitsFor (n : Nat) : Nat := n / 224 + 1

/-- How many of `n` bytes the queue accepts now. -/
def State.sqAccepts (s : State) (h : Half) (q n : Nat) (last : Bool) : Nat :=
  if s.sqState h q ≠ 2 then 0
  else if n ≤ s.sqRoom h q ∧ last then n
  else min (n / 224) (s.sqRoom h q / 224) * 224

/-- A write of CSW_SQ_CFG: while VALID is 1 the other fields are locked (R359, R480). VALID 1 takes a new EPOCH, and connects once 1 ms has
passed since the write of VALID 1 before (R339, R340). -/
def State.sqCfgWrite (s : State) (h : Half) (q v : Nat) : State :=
  let a := CSW_SQ_CFG h q
  let v := bits v 0 30
  if s.on a CSW_SQ_CFG.VALID ∧ v / 2 ≠ (s.rd a).toNat / 2 then s.log h { logSoft 8 v with subject := q, kind := 6 }
  else
    let x := s.sq h q
    let s0 := ((s.wr a (BitVec.ofNat 32 v)).wf (CSW_SQ_SENT h q) CSW_SQ_SENT.BYTES 0).wf (CSW_SQ_ACKED h q) CSW_SQ_ACKED.BYTES 0
    if bit v 0 then
      let c := if x.counter ≥ 255 then 1 else x.counter + 1
      let held := match x.lastUs with
        | some t => decide (s.us h < t + 1000)
        | none => false
      let s1 := s0.setSq h q { x with psn := 0, limit := 0, unacked := [], counter := c, lastUs := some (s.us h), holding := held }
      let s2 := (s1.wf (CSW_SQ_STATE h q) CSW_SQ_STATE.EPOCH c).setSqState h q 0
      if held then s2 else s2.sqConnect h q
    else (s0.setSq h q { x with unacked := [], holding := false }).setSqState h q 0

/-- SQ_VALID_WRITE (R340). -/
def execSqValidWrite (h : Half) (q v : Nat) (s : State) : Host.Outcome State Fault Refusal :=
  whenLive s (fun s => if q < 64 then s.sqCfgWrite h q v else s)

/-- SQ_EPOCH_HOLD_END (R340). -/
def execSqEpochHoldEnd (h : Half) (q : Nat) (s : State) : Host.Outcome State Fault Refusal :=
  whenLive s (fun s => if (s.sq h q).holding then (s.setSq h q { s.sq h q with holding := false }).sqConnect h q else s)

/-- OPEN_RESEND (R339). -/
def execOpenResend (h : Half) (q : Nat) (s : State) : Host.Outcome State Fault Refusal :=
  whenLive s (fun s => if s.sqState h q = 1 then s.sqOpen h q else s)

/-- E2E_TIMEOUT (R341): the oldest unacknowledged flit, or CONNECTING, has lasted TIMEOUT_MS. -/
def execE2eTimeout (h : Half) (q : Nat) (s : State) : Host.Outcome State Fault Refusal :=
  whenLive s (fun s => if s.sqState h q = 1 ∨ (s.sqState h q = 2 ∧ (s.sq h q).unacked ≠ []) then s.sqBreak h q else s)

/-- Does a flit come from the receive queue that a send queue names? -/
def State.sqNames (s : State) (h : Half) (b : List Byte) : Bool :=
  let q := fSrcQ b
  s.on (CSW_SQ_CFG h q) CSW_SQ_CFG.VALID && decide (s.sqCfg h q CSW_SQ_CFG.DEST_NODE = fSrcNode b) &&
  decide (s.sqCfg h q CSW_SQ_CFG.DEST_HALF = fSrcHalf b) && decide (s.sqCfg h q CSW_SQ_CFG.DEST_QUEUE = fDestQ b)

/-- OPEN_ACK (R339): a CONNECTING queue of that EPOCH enters OPEN with the receiver's LIMIT. -/
def State.openAck (s : State) (h : Half) (b : List Byte) : State :=
  let q := fSrcQ b
  if s.sqNames h b ∧ s.sqState h q = 1 ∧ bits (fInfo b) 24 8 = s.sqEpoch h q then
    (s.setSq h q { s.sq h q with limit := u32 (fPayload b) 0 }).setSqState h q 2
  else s

/-- OPEN_ACK. -/
def execOpenAck (h : Half) (b : List Byte) (s : State) : Host.Outcome State Fault Refusal :=
  whenLive s (fun s => s.onFlit h 2 2 b (fun s => s.openAck h b))

/-- REJECT (R341): the pair breaks. -/
def execReject (h : Half) (b : List Byte) (s : State) : Host.Outcome State Fault Refusal :=
  whenLive s (fun s => s.onFlit h 2 3 b (fun s =>
    if s.sqNames h b ∧ (s.sqState h (fSrcQ b) = 1 ∨ s.sqState h (fSrcQ b) = 2) then s.sqBreak h (fSrcQ b) else s))

/-- ACK (R338): flits up to its PSN are acknowledged and LIMIT is the receiver's. -/
def State.ackIn (s : State) (h : Half) (b : List Byte) : State :=
  let q := fSrcQ b
  let x := s.sq h q
  if s.sqNames h b ∧ s.sqState h q = 2 then
    let k := match x.unacked.findIdx? (fun u => decide (u.psn = bits (fInfo b) 0 24)) with
      | some i => i + 1
      | none => 0
    let n := (x.unacked.take k).foldl (fun n u => n + u.len) 0
    (s.setSq h q { x with unacked := x.unacked.drop k, limit := u32 (fPayload b) 0 }).add (CSW_SQ_ACKED h q) CSW_SQ_ACKED.BYTES n
  else s

/-! ## Receive queues -/

/-- Registers of a receive queue. -/
def State.rqState (s : State) (h : Half) (q : Nat) : Nat := s.rf (CSW_RQ_STATE h q) CSW_RQ_STATE.STATE
def State.setRqState (s : State) (h : Half) (q v : Nat) : State := s.wf (CSW_RQ_STATE h q) CSW_RQ_STATE.STATE v

/-- Does a flit come from the send queue that a VALID receive queue names? -/
def State.rqNames (s : State) (h : Half) (b : List Byte) : Bool :=
  let a := CSW_RQ_CFG h (fDestQ b)
  s.on a CSW_RQ_CFG.VALID && decide (s.rf a CSW_RQ_CFG.SRC_NODE = fSrcNode b) && decide (s.rf a CSW_RQ_CFG.SRC_HALF = fSrcHalf b) &&
  decide (s.rf a CSW_RQ_CFG.SRC_QUEUE = fSrcQ b)

/-- An answer to the sender of a flit. -/
def State.answer (s : State) (h : Half) (b : List Byte) (sub info : Nat) (payload : List Byte) : State :=
  s.sendFlit h 2 sub (fSrcNode b) (fSrcHalf b) (fDestQ b) (fSrcQ b) info payload

/-- LIMIT of a receive queue: bytes consumed plus the buffer's size (R338). -/
def RecvQ.limit (x : RecvQ) : Nat := (x.consumed + x.size) % 2 ^ 32

/-- The queue sends ACK. -/
def State.rqAck (s : State) (h : Half) (q : Nat) : State :=
  let x := s.rq h q
  let a := CSW_RQ_CFG h q
  (s.setRq h q { x with since := 0, freed := 0 }).sendFlit h 2 4 (s.rf a CSW_RQ_CFG.SRC_NODE) (s.rf a CSW_RQ_CFG.SRC_HALF) q
    (s.rf a CSW_RQ_CFG.SRC_QUEUE) ((x.psn + 2 ^ 24 - 1) % 2 ^ 24) (leBytes 4 x.limit)

/-- FILL shows the bytes buffered and not consumed. -/
def State.showFill (s : State) (h : Half) (q : Nat) : State :=
  s.wf (CSW_RQ_FILL h q) CSW_RQ_FILL.BYTES ((s.rq h q).received - (s.rq h q).consumed)

/-- Bytes that a consumer can take. -/
def State.rqAvail (s : State) (h : Half) (q : Nat) : Nat := (s.rq h q).received - (s.rq h q).consumed

/-- The next `n` bytes of a receive queue's buffer, from `off` bytes beyond the consumed ones. -/
def State.rqPeek (s : State) (h : Half) (q off n : Nat) : List Byte :=
  let x := s.rq h q
  let p := (x.consumed + off) % max 1 x.size
  let k := min n (x.size - p)
  s.memBytes h 1 (x.buf + p) k ++ s.memBytes h 1 x.buf (n - k)

/-- A consumer has taken bytes; an ACK goes out when an eighth of the buffer is free again (R338). -/
def State.rqConsume (s : State) (h : Half) (q n : Nat) : State :=
  let x := s.rq h q
  let s1 := (s.setRq h q { x with consumed := x.consumed + n, freed := x.freed + n }).showFill h q
  if n ≠ 0 ∧ x.freed + n ≥ x.size / 8 ∧ s.rqState h q = 2 then s1.rqAck h q else s1

/-- A flit's bytes land in the buffer. -/
def State.rqLand (s : State) (h : Half) (q : Nat) (bs : List Byte) : State :=
  let x := s.rq h q
  let p := x.received % max 1 x.size
  let k := min bs.length (x.size - p)
  let s1 := (s.storeBytes h 1 (x.buf + p) (bs.take k)).storeBytes h 1 x.buf (bs.drop k)
  (s1.setRq h q { x with received := x.received + bs.length, psn := (x.psn + 1) % 2 ^ 24, since := x.since + 1 }).showFill h q

/-- DATA (R338, R339, R341): a flit of the adopted EPOCH lands when it is next in PSN, else the pair breaks; others are discarded. -/
def State.dataIn (s : State) (h : Half) (b : List Byte) : State :=
  let q := fDestQ b
  if s.rqNames h b ∧ s.rqState h q = 2 ∧ bits (fInfo b) 24 8 = s.rf (CSW_RQ_STATE h q) CSW_RQ_STATE.EPOCH then
    if bits (fInfo b) 0 24 = (s.rq h q).psn then
      let s1 := s.rqLand h q ((fPayload b).take (fLen b))
      if (s1.rq h q).since ≥ 16 then s1.rqAck h q else s1
    else (s.setRqState h q 3).queueBroken h q
  else s

/-- DATA. -/
def execData (h : Half) (b : List Byte) (s : State) : Host.Outcome State Fault Refusal :=
  whenLive s (fun s => s.onFlit h 1 0 b (fun s => s.dataIn h b))

/-- E2E_OPEN (R339, R341): a receive queue that waits for the sender adopts the EPOCH and answers OPEN_ACK; a CONNECTED one answers again,
or breaks when the EPOCH is another; any other answers REJECT (log entry 43). -/
def State.openIn (s : State) (h : Half) (b : List Byte) : State :=
  let q := fDestQ b
  let e := bits (fInfo b) 24 8
  let ok (s : State) : State := s.answer h b 2 (e * 2 ^ 24) (leBytes 4 (s.rq h q).limit)
  if s.rqNames h b ∧ s.rqState h q = 1 then ok ((s.setRqState h q 2).wf (CSW_RQ_STATE h q) CSW_RQ_STATE.EPOCH e)
  else if s.rqNames h b ∧ s.rqState h q = 2 then
    if e = s.rf (CSW_RQ_STATE h q) CSW_RQ_STATE.EPOCH then ok s else (s.setRqState h q 3).queueBroken h q
  else s.answer h b 3 0 []

/-- OPEN. -/
def execE2eOpen (h : Half) (b : List Byte) (s : State) : Host.Outcome State Fault Refusal :=
  whenLive s (fun s => s.onFlit h 2 1 b (fun s => s.openIn h b))

/-- ACK_TIMER (R338): 2 µs have passed since a DATA flit that is not acknowledged. -/
def execAckTimer (h : Half) (q : Nat) (s : State) : Host.Outcome State Fault Refusal :=
  whenLive s (fun s => if s.rqState h q = 2 ∧ (s.rq h q).since ≠ 0 then s.rqAck h q else s)

/-- SIZE of a receive queue's buffer in bytes; values that it does not hold read as 64 KiB. -/
def State.rqSize (s : State) (h : Half) (q : Nat) : Nat :=
  let k := s.rf (CSW_RQ_SIZE h q) CSW_RQ_SIZE.KIB
  1024 * (if 1 ≤ k ∧ k ≤ 4096 then k else 64)

/-- A T1 byte range of a context's PIN_T1 object, if the handle names one that holds it. -/
def State.pinRange (s : State) (h : Half) (ctx v off len : Nat) : Option Nat :=
  match s.object h ctx v with
  | some o => if s.isPin h o.idx && decide (o.tier = 1) && decide (off + len ≤ o.size) then some (o.addr + off) else none
  | none => none

/-- A write of CSW_RQ_CFG (R339, R340): while VALID is 1 the other fields are locked; VALID 1 waits for an OPEN, with the buffer in a PIN_T1
object of the context (log entry 43). -/
def State.rqCfgWrite (s : State) (h : Half) (q v : Nat) : State :=
  let a := CSW_RQ_CFG h q
  let v := bits v 0 30
  let refused := s.log h { logSoft 8 v with subject := q, kind := 6 }
  if s.on a CSW_RQ_CFG.VALID ∧ v / 2 ≠ (s.rd a).toNat / 2 then refused
  else
    let x := s.rq h q
    let clear (s : State) (st buf size : Nat) : State :=
      (((s.wr a (BitVec.ofNat 32 v)).setRq h q { x with
        buf := buf
        size := size
        received := 0
        consumed := 0
        psn := 0
        since := 0
        freed := 0
        part := [] }).setRqState h q st).showFill h q
    if bit v 0 then
      match s.pinRange h (bits v 1 8) (s.rf (CSW_RQ_BASE h q) CSW_RQ_BASE.HANDLE) (s.rf (CSW_RQ_OFFSET h q) CSW_RQ_OFFSET.OFFSET / 64 * 64)
          (s.rqSize h q) with
      | some b => (clear s 1 b (s.rqSize h q)).wf (CSW_RQ_STATE h q) CSW_RQ_STATE.EPOCH 0
      | none => refused
    else clear s 0 0 0

/-- RQ_VALID_WRITE (R340). -/
def execRqValidWrite (h : Half) (q v : Nat) (s : State) : Host.Outcome State Fault Refusal :=
  whenLive s (fun s => if q < 64 then s.rqCfgWrite h q v else s)

/-! ## Producers and consumers (R337, R254) -/

/-- A party becomes the producer of a send queue, or waits its turn. -/
def State.sqAttach (s : State) (h : Half) (q : Nat) (p : Party) : State × Bool :=
  let x := s.sq h q
  if x.producer = some p then (s, true)
  else if x.producer = none then ((s.setSq h q { x with producer := some p, waitProd := x.waitProd.erase p }).wf (CSW_SQ_STATE h q)
    CSW_SQ_STATE.PRODUCER 1, true)
  else if x.waitProd.contains p then (s, false)
  else (s.setSq h q { x with waitProd := x.waitProd ++ [p] }, false)

/-- A party leaves a send queue; the next in arrival order takes its place. -/
def State.sqDetach (s : State) (h : Half) (q : Nat) (p : Party) : State :=
  let x := s.sq h q
  if x.producer = some p then
    (s.setSq h q { x with producer := x.waitProd.head?, waitProd := x.waitProd.tail }).wf (CSW_SQ_STATE h q) CSW_SQ_STATE.PRODUCER
      (b2n (!x.waitProd.isEmpty))
  else s.setSq h q { x with waitProd := x.waitProd.erase p }

/-- A party becomes the consumer of a receive queue, or waits its turn. -/
def State.rqAttach (s : State) (h : Half) (q : Nat) (p : Party) : State × Bool :=
  let x := s.rq h q
  if x.consumer = some p then (s, true)
  else if x.consumer = none then ((s.setRq h q { x with consumer := some p, waitCons := x.waitCons.erase p }).wf (CSW_RQ_STATE h q)
    CSW_RQ_STATE.CONSUMER 1, true)
  else if x.waitCons.contains p then (s, false)
  else (s.setRq h q { x with waitCons := x.waitCons ++ [p] }, false)

/-- A party leaves a receive queue; the next in arrival order takes its place. -/
def State.rqDetach (s : State) (h : Half) (q : Nat) (p : Party) : State :=
  let x := s.rq h q
  if x.consumer = some p then
    (s.setRq h q { x with consumer := x.waitCons.head?, waitCons := x.waitCons.tail }).wf (CSW_RQ_STATE h q) CSW_RQ_STATE.CONSUMER
      (b2n (!x.waitCons.isEmpty))
  else s.setRq h q { x with waitCons := x.waitCons.erase p }

/-- A party leaves every queue of a half. -/
def State.leaveQueues (s : State) (h : Half) (p : Party) : State :=
  let s1 := ((s.half h).sqs.filter (fun e => decide (e.1 < 64))).foldl (fun s e => s.sqDetach h e.1 p) s
  ((s1.half h).rqs.filter (fun e => decide (e.1 < 64))).foldl (fun s e => s.rqDetach h e.1 p) s1

/-- Why a queue cannot serve a context's transfer: RING_CONFIG 0x63, RING_BROKEN 0x66, or 0 (R337). -/
def State.sqCode (s : State) (h : Half) (ctx q : Nat) : Nat :=
  if q > 63 ∨ !s.on (CSW_SQ_CFG h q) CSW_SQ_CFG.VALID ∨ s.sqCfg h q CSW_SQ_CFG.CONTEXT ≠ ctx then 0x63
  else if s.sqState h q = 3 then 0x66 else 0

def State.rqCode (s : State) (h : Half) (ctx q : Nat) : Nat :=
  if q > 63 ∨ !s.on (CSW_RQ_CFG h q) CSW_RQ_CFG.VALID ∨ s.rf (CSW_RQ_CFG h q) CSW_RQ_CFG.CONTEXT ≠ ctx then 0x63
  else if s.rqState h q = 3 then 0x66 else 0

end Sys2Proof.Machine
end

