-- ==== Sys2Proof/Machine/Plane.lean ====
section
/-! DEFINITION. The plane table of a half (R85, R92, R98, R105, R114): plane records, plane enable bits, health, residual bounds, and
the stuck-cell register (R107 to R111). Planes are named by bits [14:0] of the plane ID, the index of the NV_PLANE_ registers. -/

namespace Sys2Proof.Machine

/-- Index of a Seam in its half: Gallery x 64 + Chamber x 4 + Seam (R18). -/
def seamOf (g c k : Nat) : Nat := 64 * g + 4 * c + k

/-- The state with a function applied to a half's NV controller. -/
def State.modNv (s : State) (h : Half) (f : NvHalf → NvHalf) : State := s.modHalf h (fun x => { x with nv := f x.nv })

/-- The plane table record of a plane. -/
def State.planeRec (s : State) (h : Half) (p : Nat) : PlaneRec := mapGet (fun _ => {}) (s.half h).nv.planes p
def State.modPlane (s : State) (h : Half) (p : Nat) (f : PlaneRec → PlaneRec) : State :=
  s.modNv h (fun n => { n with planes := mapSet (fun _ => {}) n.planes p (f (mapGet (fun _ => {}) n.planes p)) })

/-! ## Stored rows (R40, R43) -/

/-- The 544 pairs of levels (positive, negative) of a row: columns 0 to 511, then checksum columns. An unlisted row is erased. -/
def State.pairs (s : State) (h : Half) (p row : Nat) : List (Nat × Nat) :=
  mapGet (fun _ => List.replicate 544 (0, 0)) (s.half h).nv.rows (1024 * p + row)
def State.setPairs (s : State) (h : Half) (p row : Nat) (v : List (Nat × Nat)) : State :=
  s.modNv h (fun n => { n with rows := mapSet (fun _ => List.replicate 544 (0, 0)) n.rows (1024 * p + row) v })

/-- The weight of a pair (R40). -/
def pairW (p : Nat × Nat) : Int := (p.1 : Int) - p.2

/-- The codes last written to a row's pairs, as weights (R107). -/
def State.codes (s : State) (h : Half) (p row : Nat) : List Int :=
  match mapGet (fun _ => []) (s.half h).nv.codes (1024 * p + row) with
  | [] => (s.pairs h p row).map pairW
  | l => l
/-- A row's pairs now hold `v` and had `want` written last. -/
def State.writeRow (s : State) (h : Half) (p row : Nat) (v : List (Nat × Nat)) (want : List Int) : State :=
  (s.setPairs h p row v).modNv h (fun n => { n with
    codes := mapSet (fun _ => []) n.codes (1024 * p + row) (if v.map pairW = want then [] else want) })
/-- A row's pairs now hold `v`; the codes last written stay. -/
def State.driftRow (s : State) (h : Half) (p row : Nat) (v : List (Nat × Nat)) : State := s.writeRow h p row v (s.codes h p row)

/-- The weight of a W4 code (Table 2.1). -/
def w4 (c : Nat) : Int := signed 4 c
/-- The W4 code of a weight. -/
def w4Code (w : Int) : Nat := unsigned 4 w

/-- The canonical pair of a weight (R41). -/
def canonical (w : Int) : Nat × Nat := if 0 ≤ w then (w.toNat, 0) else (0, (-w).toNat)

/-- The checksum weight of a group's sum of data weights (R91). -/
def chkWeight (sum : Int) : Int :=
  let m : Int := ((sum.natAbs + 8) / 16 : Nat)
  if sum < 0 then -m else m

/-! ## Plane enable (R61 to R64) -/

/-- EN and W7 of a plane in SEAM_PLANE_CFG. -/
def State.planeEn (s : State) (h : Half) (p : Nat) : Bool :=
  bit (s.rf (SEAM_PLANE_CFG h (p / 16)) SEAM_PLANE_CFG.EN) (p % 16)
def State.planeW7 (s : State) (h : Half) (p : Nat) : Bool :=
  bit (s.rf (SEAM_PLANE_CFG h (p / 16)) SEAM_PLANE_CFG.W7) (p % 16)

/-- A number with one bit set to a value. -/
def withBit (n i : Nat) (v : Bool) : Nat := n - 2 ^ i * b2n (bit n i) + 2 ^ i * b2n v

/-- SEAM_PLANE_CFG of a Seam has changed: its commit to the plane table is due (R64). -/
def State.cfgPending (s : State) (h : Half) (seam : Nat) : State :=
  let s1 := s.wf (SEAM_STATUS h seam) SEAM_STATUS.CFG_PENDING 1
  s1.modNv h (fun n => if n.committing.contains seam then n else { n with committing := n.committing ++ [seam] })

/-- Set or clear a plane's EN bit, with its commit. -/
def State.setEn (s : State) (h : Half) (p : Nat) (v : Bool) : State :=
  if s.planeEn h p = v then s
  else
    let a := SEAM_PLANE_CFG h (p / 16)
    (s.wf a SEAM_PLANE_CFG.EN (withBit (s.rf a SEAM_PLANE_CFG.EN) (p % 16) v)).cfgPending h (p / 16)

/-- Releases of slots whose commit has not ended (R174). -/
def NvHalf.releases (n : NvHalf) : List WsetRel := n.wsetRel ++ n.wsetRelRun
/-- Planes of a Seam whose EN a release has cleared and that it commits together with its slot's state. -/
def NvHalf.relPlanes (n : NvHalf) (seam : Nat) : List Nat :=
  (n.releases.filter (fun r => decide (4 * r.foot.1 ≤ seam) && decide (seam < 4 * (r.foot.1 + r.foot.2)))).flatMap WsetRel.planes
/-- The word of a Seam that a commit of SEAM_PLANE_CFG writes: as it stands, but for the EN bits that releases hold back. -/
def State.cfgWord (s : State) (h : Half) (seam : Nat) : Word :=
  let w := s.rd (SEAM_PLANE_CFG h seam)
  let old := getF (mapGet (fun _ => 0) (s.half h).nv.cfg seam) SEAM_PLANE_CFG.EN
  putF w SEAM_PLANE_CFG.EN (((s.half h).nv.relPlanes seam).foldl (fun m p => withBit m p (bit old p)) (getF w SEAM_PLANE_CFG.EN))

/-- Set or clear a plane's W7 bit, with its commit. -/
def State.setW7 (s : State) (h : Half) (p : Nat) (v : Bool) : State :=
  if s.planeW7 h p = v then s
  else
    let a := SEAM_PLANE_CFG h (p / 16)
    (s.wf a SEAM_PLANE_CFG.W7 (withBit (s.rf a SEAM_PLANE_CFG.W7) (p % 16) v)).cfgPending h (p / 16)

/-! ## Ages and numeric states (R85, R105) -/

/-- The operator's minute count. -/
def State.wall (s : State) (h : Half) : Nat := s.rf (NV_WALL_MINUTES h) NV_WALL_MINUTES.MINUTES

/-- A plane's age in minutes; none while it is unknown (R105). -/
def State.planeAge (s : State) (h : Half) (p : Nat) : Option Nat :=
  if s.wall h = 0 then none else (s.planeRec h p).minute.map (fun m => ((s.wall h : Int) - m).toNat)

/-- The refresh interval in minutes. -/
def State.interval (s : State) (h : Half) : Nat := s.rf (NV_REFRESH_INTERVAL h) NV_REFRESH_INTERVAL.MINUTES

/-- Numeric state of a plane (Table 3.8): 0 FRESH, 1 AGED, 2 OVERDUE, 3 WORN. An unknown age counts as OVERDUE. -/
def State.nstate (s : State) (h : Half) (p : Nat) : Nat :=
  let pe := s.rf (NV_PLANE_HEALTH h p) NV_PLANE_HEALTH.PE_CYCLES
  if pe > 10000 then 3
  else match s.planeAge h p with
    | none => 2
    | some a => if 2 * a > 3 * s.interval h then 2 else if pe ≤ 3000 then 0 else 1

/-- An event that renews a plane's age has completed: a program, refresh or margin read (R105). While NV_WALL_MINUTES is 0 the record
is UNKNOWN and the minutes since the event are counted. -/
def State.renewAge (s : State) (h : Half) (p : Nat) : State :=
  s.modPlane h p (fun r => if s.wall h = 0 then { r with minute := none, elapsed := some 0 }
    else { r with minute := some (s.wall h : Int), elapsed := none })

/-! ## Health (R98, R99) -/

/-- Health code of a plane (Table 4.1). -/
def State.health (s : State) (h : Half) (p : Nat) : Nat := s.rf (NV_PLANE_HEALTH h p) NV_PLANE_HEALTH.STATE

/-- Plane ID of a plane of a half (R18). -/
def planeId (h : Half) (p : Nat) : Nat := 32768 * h.num + p

/-- A record of a plane's new health state. -/
def State.healthLog (s : State) (h : Half) (p : Nat) : State :=
  s.log h (logHealth (planeId h p) (s.health h p) (s.rf (NV_PLANE_HEALTH h p) NV_PLANE_HEALTH.MISS_COUNT))

/-- An urgent refresh of a plane is queued (Table 4.2, R103). DESIGN CHOICE (log entry 67): a refresh of the plane that is queued or
running already becomes urgent and goes on from its row. -/
def State.queueUrgent (s : State) (h : Half) (p : Nat) : State :=
  s.modNv h (fun n =>
    if n.refreshes.any (fun r => r.plane == p) then
      { n with refreshes := n.refreshes.map (fun r => if r.plane == p then { r with urgent := true } else r) }
    else { n with refreshes := n.refreshes ++ [{ plane := p, urgent := true }] })

/-- A plane enters a health state, with Table 4.2's device action. -/
def State.enterHealth (s : State) (h : Half) (p code : Nat) : State :=
  let a := NV_PLANE_HEALTH h p
  let s1 := (s.wf a NV_PLANE_HEALTH.STATE code).modPlane h p (fun r => { r with clean := 0 })
  match code with
  | 0 => (s1.wf a NV_PLANE_HEALTH.MISS_COUNT 0).wf (NV_PLANE_SUSPECT h p) NV_PLANE_SUSPECT.GROUPS 0
  | 2 => s1.queueUrgent h p
  | 3 => s1.wf a NV_PLANE_HEALTH.MISS_COUNT 0
  | 4 => s1.healthLog h p
  | 5 => (s1.setEn h p false).healthLog h p
  | _ => s1

/-- A margin read has found an uncorrectable cell: any state but UNUSABLE goes to REPROG_REQUIRED, with a record each time (Table
4.2). -/
def State.reprogRequired (s : State) (h : Half) (p : Nat) : State :=
  if s.health h p = 5 then s else s.enterHealth h p 4

/-- CHK_THRESH and WATCH of NV_CHK_POLICY; 0 acts as 1. -/
def State.chkThresh (s : State) (h : Half) : Nat := max 1 (s.rf (NV_CHK_POLICY h) NV_CHK_POLICY.CHK_THRESH)
def State.watchWaves (s : State) (h : Half) : Nat := 64 * max 1 (s.rf (NV_CHK_POLICY h) NV_CHK_POLICY.WATCH)

/-- A wave's misses are charged to a plane (R96, R98, R99): the suspect bits of the missing groups, and MISS_COUNT but in
REFRESH_URGENT. -/
def State.chargeMiss (s : State) (h : Half) (p : Nat) (groups : List Nat) : State :=
  let b := NV_PLANE_SUSPECT h p
  let mask := groups.foldl (fun m k => m ||| 2 ^ k) (s.rf b NV_PLANE_SUSPECT.GROUPS)
  let s1 := s.wf b NV_PLANE_SUSPECT.GROUPS mask
  if s.health h p = 2 then s1
  else
    let s2 := (s1.addSat (NV_PLANE_HEALTH h p) NV_PLANE_HEALTH.MISS_COUNT 1).modPlane h p (fun r => { r with clean := 0 })
    let s3 := if s.health h p = 0 then s2.enterHealth h p 1 else s2
    let reached := decide (s3.rf (NV_PLANE_HEALTH h p) NV_PLANE_HEALTH.MISS_COUNT ≥ s3.chkThresh h)
    if reached ∧ s3.health h p = 1 then s3.enterHealth h p 2
    else if reached ∧ s3.health h p = 3 then s3.enterHealth h p 4
    else s3

/-- A tested wave on a plane in WATCH with no miss charged to it. -/
def State.cleanWave (s : State) (h : Half) (p : Nat) : State :=
  if s.health h p = 3 then s.modPlane h p (fun r => { r with clean := r.clean + 1 }) else s

/-- One more program/erase cycle; the record when the count passes 10,000. -/
def State.peCycle (s : State) (h : Half) (p : Nat) : State :=
  let a := NV_PLANE_HEALTH h p
  let s1 := s.addSat a NV_PLANE_HEALTH.PE_CYCLES 1
  if s.rf a NV_PLANE_HEALTH.PE_CYCLES = 10000 then
    s1.log h { logHealth (planeId h p) (s.health h p) (s.rf a NV_PLANE_HEALTH.MISS_COUNT) with sev := 0 }
  else s1

/-! ## Residual bounds (R92) -/

/-- ρ of a group of a plane. -/
def State.rho (s : State) (h : Half) (p k : Nat) : Nat := (s.planeRec h p).rho.getD k 0

/-- The 32 bounds with one raised to at least `v`, saturating at 255. -/
def rhoList (r : List Nat) (f : Nat → Nat → Nat) : List Nat :=
  (List.range 32).map (fun k => min 255 (f k (r.getD k 0)))

/-- |r| of each group of a row as its pairs stand: the sum of the 16 data weights less 16 times the checksum weight. -/
def residuals (ps : List (Nat × Nat)) : List Nat :=
  (List.range 32).map (fun k =>
    let sum := (List.range 16).foldl (fun (a : Int) j => a + pairW (ps.getD (16 * k + j) (0, 0))) 0
    (sum - 16 * pairW (ps.getD (512 + k) (0, 0))).natAbs)

/-- ρ rises to |r| of a row just written. -/
def State.rhoRow (s : State) (h : Half) (p : Nat) (ps : List (Nat × Nat)) : State :=
  let r := residuals ps
  s.modPlane h p (fun x => { x with rho := rhoList x.rho (fun k v => max v (r.getD k 0)) })

/-- Stored rows of a plane that are not erased. -/
def State.planeRows (s : State) (h : Half) (p : Nat) : List (Nat × List (Nat × Nat)) :=
  ((s.half h).nv.rows.filter (fun e => decide (e.1 / 1024 = p))).map (fun e => (e.1 % 1024, e.2))

/-- ρ after an erase: the largest |r| over the plane's rows. -/
def State.rhoErase (s : State) (h : Half) (p : Nat) : State :=
  let rs := (s.planeRows h p).map (fun e => residuals e.2)
  s.modPlane h p (fun x => { x with rho := (List.range 32).map (fun k => min 255 ((rs.map (fun r => r.getD k 0)).foldl max 0)) })

/-- The held weight of a registered pair has changed by `d`: ρ of its group rises (R92). -/
def State.rhoHeld (s : State) (h : Half) (p col d : Nat) : State :=
  let k := if col < 512 then col / 16 else col - 512
  let r := if col < 512 then d else 16 * d
  s.modPlane h p (fun x => { x with rho := rhoList x.rho (fun i v => if i = k then v + r else v) })

/-! ## The stuck-cell register (R107 to R113) -/

/-- Index of the entry of a pair, if it is registered. -/
def State.stuckFind (s : State) (h : Half) (p row col : Nat) : Option Nat :=
  let used := s.regs.filter (fun e => decide (NV_STUCK_INFO h 0 ≤ e.1) && decide (e.1 < NV_STUCK_INFO h 1024) &&
    decide ((e.1 - NV_STUCK_INFO h 0) % 8 = 0) && decide (getF e.2 NV_STUCK_INFO.STATE ≠ 0))
  (used.map (fun e => (e.1 - NV_STUCK_INFO h 0) / 8)).find? (fun i =>
    s.rf (NV_STUCK_LOC h i) NV_STUCK_LOC.PLANE == planeId h p && s.rf (NV_STUCK_LOC h i) NV_STUCK_LOC.ROW == row &&
    s.rf (NV_STUCK_INFO h i) NV_STUCK_INFO.COL == col)

/-- The lowest free entry. -/
def State.stuckFree (s : State) (h : Half) : Option Nat :=
  (List.range 1024).find? (fun i => s.rf (NV_STUCK_INFO h i) NV_STUCK_INFO.STATE == 0)

/-- State of an entry by its weights: INTERIM when they differ, else MATCHED (R107). -/
def stuckState (wInt wAct : Int) : Nat := if wInt = wAct then 2 else 1

/-- Write an entry. -/
def State.stuckPut (s : State) (h : Half) (i p row col cell kind level : Nat) (wInt wAct : Int) (st : Nat) : State :=
  let a := NV_STUCK_LOC h i
  let b := NV_STUCK_INFO h i
  let s1 := (s.wf a NV_STUCK_LOC.PLANE (planeId h p)).wf a NV_STUCK_LOC.ROW row
  let s2 := ((s1.wf b NV_STUCK_INFO.COL col).wf b NV_STUCK_INFO.CELL cell).wf b NV_STUCK_INFO.KIND kind
  let s3 := (s2.wf b NV_STUCK_INFO.LEVEL level).wf b NV_STUCK_INFO.W_INT (w4Code wInt)
  (s3.wf b NV_STUCK_INFO.W_ACT (w4Code wAct)).wf b NV_STUCK_INFO.STATE st

/-- A pair must be registered (R107): its entry is updated, or the lowest free one is taken; with none free the plane becomes UNUSABLE,
with a record each time (R108). The second component is false in that case. -/
def State.registerPair (s : State) (h : Half) (p row col cell kind level : Nat) (wInt wAct : Int) : State × Bool :=
  match s.stuckFind h p row col with
  | some i => (s.stuckPut h i p row col cell kind level wInt wAct (stuckState wInt wAct), true)
  | none => match s.stuckFree h with
    | some i => (s.stuckPut h i p row col cell kind level wInt wAct (stuckState wInt wAct), true)
    | none => (s.enterHealth h p 5, false)

/-- W_ACT of an entry follows the weight its pair now holds, and ρ rises by the change (R92, R107). LEVEL follows only a change of the
cell that the entry names. -/
def State.stuckHeld (s : State) (h : Half) (i p col cell level : Nat) (wAct : Int) : State :=
  let b := NV_STUCK_INFO h i
  let old := w4 (s.rf b NV_STUCK_INFO.W_ACT)
  let s0 := s.wf b NV_STUCK_INFO.W_ACT (w4Code wAct)
  let s1 := if s.rf b NV_STUCK_INFO.CELL = cell then s0.wf b NV_STUCK_INFO.LEVEL level else s0
  let s2 := if s.rf b NV_STUCK_INFO.STATE = 3 then s1
    else s1.wf b NV_STUCK_INFO.STATE (stuckState (w4 (s.rf b NV_STUCK_INFO.W_INT)) wAct)
  s2.rhoHeld h p col (wAct - old).natAbs

/-- Entries of a plane. -/
def State.stuckOf (s : State) (h : Half) (p : Nat) : List Nat :=
  (List.range 1024).filter (fun i => s.rf (NV_STUCK_INFO h i) NV_STUCK_INFO.STATE != 0 &&
    s.rf (NV_STUCK_LOC h i) NV_STUCK_LOC.PLANE == planeId h p)

/-- Does the half hold an INTERIM entry (R194, R201)? -/
def State.interimCount (s : State) (h : Half) : Nat :=
  (s.regs.filter (fun e => decide (NV_STUCK_INFO h 0 ≤ e.1) && decide (e.1 < NV_STUCK_INFO h 1024) &&
    decide ((e.1 - NV_STUCK_INFO h 0) % 8 = 0) && decide (getF e.2 NV_STUCK_INFO.STATE = 1))).length

/-- Bytes 0 to 271 of a row's weight image (Table 5.8). -/
def weightRow (ps : List (Nat × Nat)) : List Byte :=
  (List.range 272).map (fun i => BitVec.ofNat 8 (w4Code (pairW (ps.getD (2 * i) (0, 0))) + 16 * w4Code (pairW (ps.getD (2 * i + 1) (0, 0)))))

end Sys2Proof.Machine
end

