-- ==== Sys2Proof/Machine/NvBase.lean ====
section
/-! DEFINITION. The NV controller's common parts (chapter 05): command ports and completions, NV steps and their arbitration with waves,
the pump budget, the Ledger, INCOMPLETE planes, refreshes, and the outcome of a command that is cut short. -/

namespace Sys2Proof.Machine

/-! ## Ports and completions (R118, R122) -/

/-- Number of a port in a record's detail. -/
def nvPortNum : NvPort → Nat
  | .host => 0
  | .loader => 1

def NvHalf.port (n : NvHalf) : NvPort → NvPortSt
  | .host => n.host
  | .loader => n.ldr

def NvHalf.setPort (n : NvHalf) (p : NvPort) (x : NvPortSt) : NvHalf :=
  match p with
  | .host => { n with host := x }
  | .loader => { n with ldr := x }

/-- The status register of a port: both have the layout of NV_CMD_STATUS (Tables 5.17, 5.22). -/
def nvStatusAddr (h : Half) : NvPort → Nat
  | .host => NV_CMD_STATUS h
  | .loader => NV_LDR_STATUS h

/-- PORT_STATE as the port stands: BUSY, CONT_READ, or the key sequence's step (R118). -/
def NvPortSt.state (x : NvPortSt) : Nat := if x.cmd.isSome then 4 else if x.cont.isSome then 5 else x.step

/-- Change a port; PORT_STATE follows. -/
def State.modPort (s : State) (h : Half) (p : NvPort) (f : NvPortSt → NvPortSt) : State :=
  let x := f ((s.half h).nv.port p)
  (s.modNv h (fun n => n.setPort p x)).wf (nvStatusAddr h p) NV_CMD_STATUS.PORT_STATE x.state

/-- The running command of a port. -/
def State.nvCmd (s : State) (h : Half) (p : NvPort) : Option NvCmd := ((s.half h).nv.port p).cmd

/-- Change the running command of a port. -/
def State.modCmd (s : State) (h : Half) (p : NvPort) (f : NvCmd → NvCmd) : State :=
  s.modPort h p (fun x => { x with cmd := x.cmd.map f })

/-- The result area with its words (Table 5.4); unlisted words read zero. -/
def resultArea (ws : List Nat) : List (Nat × Word) :=
  (List.range ws.length).foldl (fun m i => mapSet (fun _ => 0) m i (BitVec.ofNat 32 (ws.getD i 0))) []

/-- A completion (R122): the result area, the status register, the completion vector. -/
def State.nvComplete (s : State) (h : Half) (p : NvPort) (code result tag : Nat) (words : List Nat) : State :=
  let a := nvStatusAddr h p
  let s1 := ((s.wf a NV_CMD_STATUS.CMD code).wf a NV_CMD_STATUS.RESULT result).wf a NV_CMD_STATUS.DONE 1
  match p with
  | .loader => s1
  | .host =>
    let s2 := s1.modNv h (fun n => { n with result := resultArea ([code + 256 * result, tag] ++ words) })
    if s.on (NV_CMD_CTRL h) NV_CMD_CTRL.IRQ_EN then s2.msix 0 (2 + h.num) else s2

/-- The loader learns how a command of its port that was cut short has ended. -/
def State.tellLoader (s : State) (h : Half) (p : NvPort) (c : NvCmd) (r : Nat) : State :=
  match p with
  | .host => s
  | .loader => s.modHalf h (fun x => { x with ldr := { x.ldr with told := some (c, r) } })

/-- A running command ends with a result; NV_COMMAND_COMPLETE is due. -/
def State.nvFinish (s : State) (h : Half) (p : NvPort) (result : Nat) : State :=
  s.modCmd h p (fun c => { c with phase := .ending result })

/-- A broken sequence (R118): IDLE, SEQ_ERR, a record. -/
def State.seqErr (s : State) (h : Half) : State :=
  let c := (s.half h).nv.host.key
  ((s.modPort h .host (fun x => { x with step := 0, key := 0 })).wf (NV_CMD_STATUS h) NV_CMD_STATUS.SEQ_ERR 1).log h { logNv c 0 2 with event := 5 }

/-! ## Steps and the pump budget (R58, R59, R125) -/

def pendingOf (n : NvHalf) (seam : Nat) : List NvStep := mapGet (fun _ => []) n.pending seam
def setPending (n : NvHalf) (seam : Nat) (l : List NvStep) : NvHalf :=
  { n with pending := mapSet (fun _ => []) n.pending seam l }

/-- NV_PENDING of a Seam follows its pending steps. -/
def State.showPending (s : State) (h : Half) (seam : Nat) : State :=
  s.wf (SEAM_STATUS h (seam % 2048)) SEAM_STATUS.NV_PENDING (b2n (!(pendingOf (s.half h).nv seam).isEmpty))

/-- An NV step becomes pending on its Seam (R58, R59); a Gallery that is off is woken. -/
def State.askStep (s : State) (h : Half) (x : NvStep) : State :=
  let seam := x.plane / 16 % 2048
  let s1 := s.modNv h (fun n => setPending n seam (pendingOf n seam ++ [{ x with us := s.us h }]))
  (s1.showPending h seam).need (galDom h (seam / 64))

/-- A pulse asks for the pump budget; the NV pump is woken. -/
def State.askPulse (s : State) (h : Half) (x : NvStep) : State :=
  (s.modNv h (fun n => { n with pulseQ := n.pulseQ ++ [x] })).need (pumpDom h)

/-- Does a step apply a pulse? -/
def StepKind.isPulse : StepKind → Bool
  | .program | .erase | .repulse => true
  | .verify | .margin => false

/-- Row-equivalents of a pulse (R125). -/
def pulseWeight (x : NvStep) : Nat := if x.kind = .erase then 128 else 1

/-- Is a running step in its pulse? An erase pulse is a step of its own; the pulse of a program or re-pulse step has a length that the
spec bounds and does not fix, and the step's verify follows it (R124, R131; log entry 77). -/
def NvStep.inPulse (us : Nat) (x : NvStep) : Bool :=
  match x.kind with
  | .erase => true
  | .program | .repulse => decide (us < x.us + x.len)
  | .verify | .margin => false

/-- Row-equivalents now in pulse. -/
def State.inPulse (s : State) (h : Half) : Nat :=
  (((s.half h).nv.running.filter (fun e => e.2.inPulse (s.us h))).map (fun e => pulseWeight e.2)).foldl (· + ·) 0
/-- Row-equivalents of the pulses that the budget has let start and whose step still waits for its Seam. -/
def NvHalf.booked (n : NvHalf) : Nat := (n.pulsing.map pulseWeight).foldl (· + ·) 0

/-- Class of a waiting pulse: urgent re-pulse, command pulse, scheduled re-pulse (R125). The re-pulses of a REFRESH_PLANE that is not
urgent are command pulses (R132). -/
def NvHalf.pulseClass (n : NvHalf) (x : NvStep) : Nat :=
  if x.own ≠ .refresh then 1
  else match n.refreshes.find? (fun r => r.plane == x.plane) with
    | some r => if r.urgent then 0 else if r.cmd then 1 else 2
    | none => 2

/-- Index of the first waiting pulse in the strict order. -/
def NvHalf.firstPulse (n : NvHalf) : Option Nat :=
  let idx (c : Nat) : Nat := n.pulseQ.findIdx (fun x => n.pulseClass x == c)
  if idx 0 < n.pulseQ.length then some (idx 0)
  else if idx 1 < n.pulseQ.length then some (idx 1)
  else if idx 2 < n.pulseQ.length then some (idx 2) else none

/-- PULSE_START (R125): the first waiting pulse is let start once it fits the budget of 512; it becomes its Seam's pending step. -/
def State.pulseStart (s : State) (h : Half) : State :=
  let n := (s.half h).nv
  match n.firstPulse with
  | none => s
  | some i => match n.pulseQ[i]? with
    | none => s
    | some x =>
      if n.stopping || !s.domOn (pumpDom h) || decide (s.inPulse h + n.booked + pulseWeight x > 512) then s
      else (s.modNv h (fun n => { n with pulseQ := n.pulseQ.eraseIdx i, pulsing := n.pulsing ++ [x] })).askStep h x

/-- PULSE_START. -/
def execPulseStart (h : Half) (s : State) : Host.Outcome State Fault Refusal := whenLive s (fun s => s.pulseStart h)

/-- Chambers of the Gallery that a wave uses, as Seam numbers. -/
def State.waveSeams (s : State) (g : Nat) (w : Wave) : List Nat :=
  (match s.node w.node with | some (_, n) => (List.range 16).filter (fun c => bit (fld n.bytes 0x40 23 8) c) | none => []).flatMap
    (fun c => (List.range 4).map (fun k => seamOf g c k))

/-- Does a wave run on the Seam? -/
def State.waveOn (s : State) (h : Half) (seam : Nat) : Bool :=
  (s.gal h (seam / 64)).waves.any (fun w => (w.phase == .selecting || w.phase == .slices) && (s.waveSeams (seam / 64) w).contains seam)

/-- Does a wave wait for the Seam in the sense of R59: its latch is full and neither R202 nor its Gallery's wake holds it back? -/
def State.waveWaits (s : State) (h : Half) (seam : Nat) : Bool :=
  let ws := (s.gal h (seam / 64)).waves
  s.domOn (galDom h (seam / 64)) &&
  decide ((ws.filter (fun w => w.phase == .selecting || w.phase == .slices || w.phase == .ended)).length < 2) &&
  ws.any (fun w => w.phase == .latched && (s.waveSeams (seam / 64) w).contains seam)

/-- The pending step of a Seam that goes first: a command's before a refresh's (R103). -/
def firstStep (l : List NvStep) : Option NvStep :=
  match l.find? (fun x => x.own != .refresh) with
  | some x => some x
  | none => l.head?

/-- A step as it starts: a program or re-pulse step has a pulse of 1 to 20 µs, of a length that the spec leaves open (R124; log entries 3
and 77). -/
def State.begunStep (s : State) (h : Half) (x : NvStep) : NvStep × State :=
  match x.kind with
  | .program | .repulse => ({ x with us := s.us h, len := 1 + s.fresh.1 % 20 }, s.fresh.2)
  | _ => ({ x with us := s.us h }, s)

/-- A row whose first pulse begins is a started row (R128, R153). -/
def State.rowStarts (s : State) (h : Half) (x : NvStep) : State :=
  match x.own, x.kind with
  | .cmd p, .program => s.modCmd h p (fun c => { c with
      rows := c.rows.map (fun r => if r.plane == x.plane && r.row == x.row then { r with started := true } else r) })
  | _, _ => s

/-- NV_STEP_START (R58, R59): the Seam is NO_PLANE or READY with no wave running; a waiting wave goes first until the step has been
pending for NV_DEFER. -/
def State.stepStart (s : State) (h : Half) (seam : Nat) : State :=
  let n := (s.half h).nv
  match firstStep (pendingOf n seam) with
  | none => s
  | some x =>
    let st := s.rf (SEAM_STATUS h seam) SEAM_STATUS.STATE
    let old := decide (16 * s.rf (SEAM_CTRL h seam) SEAM_CTRL.NV_DEFER ≤ s.us h - x.us)
    if n.stopping || !n.scanned || !s.domOn (galDom h (seam / 64)) || (st != 0 && st != 2) || s.waveOn h seam ||
        (s.waveWaits h seam && !old) then s
    else
      let b := s.begunStep h x
      let s1 := (b.2.rowStarts h x).modNv h (fun n => { setPending n seam ((pendingOf n seam).erase x) with
        running := n.running ++ [(seam, b.1)]
        pulsing := n.pulsing.filter (fun y => !(y.own == x.own && y.kind == x.kind && y.plane == x.plane && y.row == x.row)) })
      let a := SEAM_STATUS h seam
      let s2 := ((s1.wf a SEAM_STATUS.STATE 4).wf a SEAM_STATUS.PLANE 0).showPending h seam
      if s.waveWaits h seam then s2.wf (SEAM_EVENT h seam) SEAM_EVENT.NV_FORCED 1 else s2

/-- NV_STEP_START. -/
def execNvStepStart (h : Half) (seam : Nat) (s : State) : Host.Outcome State Fault Refusal :=
  whenLive s (fun s => if seam < 2048 then s.stepStart h seam else s)

/-- The steps and waiting pulses that satisfy a test are dropped; a running step that is no pulse is abandoned with its Seam in NO_PLANE. -/
def State.dropSteps (s : State) (h : Half) (p : NvStep → Bool) : State :=
  let n := (s.half h).nv
  let seams := (n.pending.filter (fun e => e.2.any p)).map Prod.fst
  let gone := (n.running.filter (fun e => p e.2 && !e.2.kind.isPulse)).map Prod.fst
  let s1 := s.modNv h (fun n => { n with
    pending := (n.pending.map (fun e => (e.1, e.2.filter (fun x => !p x)))).filter (fun e => !e.2.isEmpty)
    pulseQ := n.pulseQ.filter (fun x => !p x)
    pulsing := n.pulsing.filter (fun x => !p x)
    running := n.running.filter (fun e => !(p e.2 && !e.2.kind.isPulse)) })
  let s2 := gone.foldl (fun s x => (s.wf (SEAM_STATUS h (x % 2048)) SEAM_STATUS.STATE 0).wf (SEAM_STATUS h (x % 2048)) SEAM_STATUS.PLANE 0) s1
  seams.foldl (fun s x => s.showPending h x) s2

/-! ## The Ledger (R146 to R148) -/

/-- The bytes of a record that its CRC covers: bits [111:0] (Table 5.12). -/
def LedgerRec.body (r : LedgerRec) : List Byte :=
  [BitVec.ofNat 8 (r.type % 16 + 16 * (r.version % 16)), 0] ++ leBytes 2 r.subject ++ leBytes 4 r.seq ++ leBytes 4 r.value ++ [0, 0]
/-- A record as the device writes it: VERSION 0x1 and its CRC. -/
def LedgerRec.sealed (r : LedgerRec) (seq : Nat) : LedgerRec :=
  let x := { r with seq := seq, version := 1 }
  { x with crc := (crc16 x.body).toNat }
/-- Is a record present: its CRC holds, and its TYPE and VERSION are listed (R147)? -/
def LedgerRec.valid (r : LedgerRec) : Bool :=
  r.crc == (crc16 r.body).toNat && decide (1 ≤ r.type) && decide (r.type ≤ 6) && r.version == 1

/-- The written slots of a bank. -/
def NvHalf.bankOf (n : NvHalf) (b : Nat) : List LedgerRec := if b = 0 then n.bank0 else n.bank1
def NvHalf.setBank (n : NvHalf) (b : Nat) (l : List LedgerRec) : NvHalf := if b = 0 then { n with bank0 := l } else { n with bank1 := l }
/-- The records of the active bank in slot order; a bad one is absent. -/
def NvHalf.ledger (n : NvHalf) : List LedgerRec := (n.bankOf n.bank).filter LedgerRec.valid
/-- Free slots of the active bank. -/
def NvHalf.slotsFree (n : NvHalf) : Nat := 2048 - (n.bankOf n.bank).length
/-- The generation of a bank with a valid BANK_OPEN in slot 0. -/
def NvHalf.bankGen (n : NvHalf) (b : Nat) : Option Nat :=
  match n.bankOf b with
  | r :: _ => if r.valid && r.type == 6 then some r.value else none
  | [] => none
/-- The bank whose valid BANK_OPEN has the higher generation (R149). -/
def NvHalf.newestBank (n : NvHalf) : Nat :=
  match n.bankGen 0, n.bankGen 1 with
  | some a, some b => if a < b then 1 else 0
  | none, some _ => 1
  | _, none => 0

/-- NV_LEDGER_STATUS follows the Ledger. -/
def State.showLedger (s : State) (h : Half) : State :=
  let n := (s.half h).nv
  let a := NV_LEDGER_STATUS h
  ((s.wf a NV_LEDGER_STATUS.FREE n.slotsFree).wf a NV_LEDGER_STATUS.BANK n.bank).wf a NV_LEDGER_STATUS.COMPACTING
    (b2n n.compacting)

/-- A record is to be committed before what waits for it (R146). -/
def State.askLedger (s : State) (h : Half) (type subject value : Nat) (w : LedgerFor) : State :=
  s.modNv h (fun n => { n with ledgerQ := n.ledgerQ ++ [({ type := type, subject := subject, seq := 0, value := value }, w)] })

/-- The records that compaction copies: every ERASE_BEGIN or PROT_BEGIN without a later DONE of its subject, and the latest
ATTEST_ADVANCE (R148). -/
def ledgerLive : List LedgerRec → List LedgerRec
  | [] => []
  | r :: rs =>
    let later (t : Nat) : Bool := rs.any (fun x => x.type == t && (t == 5 || x.subject == r.subject))
    let keep := (r.type == 1 && !later 2) || (r.type == 3 && !later 4) || (r.type == 5 && !later 5)
    if keep then r :: ledgerLive rs else ledgerLive rs

/-- Records with rising SEQ from `n` on. -/
def reseq (n : Nat) : List LedgerRec → List LedgerRec
  | [] => []
  | r :: rs => r.sealed n :: reseq (n + 1) rs

/-- Compaction begins when 16 or fewer slots are free: the other bank is erased (R148). -/
def NvHalf.startCompact (n : NvHalf) : NvHalf :=
  if !n.compacting && decide (n.slotsFree ≤ 16) then { n.setBank (1 - n.bank) [] with compacting := true } else n

/-- LEDGER_COMPACT_DONE (R148): the records stand in slots 1 onwards of the other bank, and its BANK_OPEN, written last, makes it the
active one. -/
def State.ledgerCompact (s : State) (h : Half) : State :=
  if (s.half h).nv.compacting then
    (s.modNv h (fun n =>
      let live := ledgerLive n.ledger
      let head : LedgerRec := { type := 6, subject := 0, seq := 0, value := (n.bankGen n.bank).getD 0 + 1 }
      { n.setBank (1 - n.bank) (head.sealed (n.nextSeq + live.length) :: reseq n.nextSeq live) with
        bank := 1 - n.bank, nextSeq := n.nextSeq + live.length + 1, compacting := false })).showLedger h
  else s

/-- LEDGER_COMPACT_DONE. -/
def execLedgerCompactDone (h : Half) (s : State) : Host.Outcome State Fault Refusal :=
  whenLive s (fun s => s.ledgerCompact h)

/-- The oldest waiting record is committed in the next slot; compaction starts when 16 or fewer slots are free. -/
def State.ledgerWrite (s : State) (h : Half) (r : LedgerRec) : State :=
  (s.modNv h (fun n =>
    ({ n.setBank n.bank (n.bankOf n.bank ++ [r.sealed n.nextSeq]) with
      nextSeq := n.nextSeq + 1, ledgerQ := n.ledgerQ.tail }).startCompact)).showLedger h

/-! ## INCOMPLETE planes (R156) -/

/-- NV_INCOMPLETE and INCOMPLETE_COUNT follow the list. DESIGN CHOICE (log entry 74): PLANE reads 0 in an entry with VALID 0. -/
def State.showIncomplete (s : State) (h : Half) : State :=
  let l := (s.half h).nv.incomplete
  let s1 := s.wf (NV_LEDGER_STATUS h) NV_LEDGER_STATUS.INCOMPLETE_COUNT l.length
  (List.range 4).foldl (fun s i => match l[i]? with
    | some p => (s.wf (NV_INCOMPLETE h i) NV_INCOMPLETE.PLANE (planeId h p)).wf (NV_INCOMPLETE h i) NV_INCOMPLETE.VALID 1
    | none => (s.wf (NV_INCOMPLETE h i) NV_INCOMPLETE.PLANE 0).wf (NV_INCOMPLETE h i) NV_INCOMPLETE.VALID 0) s1

/-- A plane becomes INCOMPLETE, or ceases to be. -/
def State.setIncomplete (s : State) (h : Half) (p : Nat) (v : Bool) : State :=
  let s1 := s.modNv h (fun n => { n with incomplete := if v then insertNat p n.incomplete else n.incomplete.filter (· != p) })
  (s1.wf (NV_PLANE_HEALTH h p) NV_PLANE_HEALTH.INCOMPLETE (b2n v)).showIncomplete h

/-! ## Refreshes (R101 to R104) -/

/-- Change the refresh of a plane. -/
def State.modRefresh (s : State) (h : Half) (p : Nat) (f : Refresh → Refresh) : State :=
  s.modNv h (fun n => { n with refreshes := n.refreshes.map (fun r => if r.plane == p then f r else r) })

/-- Does a plane's age make it due (R103, R105)? -/
def State.planeDue (s : State) (h : Half) (p : Nat) : Bool :=
  match s.planeAge h p with
  | none => true
  | some a => decide (s.interval h ≤ a)

/-- Enabled planes of a half: planes of the Seams whose SEAM_PLANE_CFG is not zero. -/
def State.enabledPlanes (s : State) (h : Half) : List Nat :=
  (s.regs.filter (fun e => decide (SEAM_PLANE_CFG h 0 ≤ e.1) && decide (e.1 < SEAM_PLANE_CFG h 2048) &&
    decide ((e.1 - SEAM_PLANE_CFG h 0) % 64 = 0))).flatMap (fun e =>
      ((List.range 16).filter (fun i => bit (getF e.2 SEAM_PLANE_CFG.EN) i)).map (fun i => 16 * ((e.1 - SEAM_PLANE_CFG h 0) / 64) + i))

/-- CATCHUP clears once no enabled plane is due (R105). -/
def State.checkCatchup (s : State) (h : Half) : State :=
  if (s.enabledPlanes h).any (fun p => s.planeDue h p) then s else s.wf (NV_REFRESH_CTRL h) NV_REFRESH_CTRL.CATCHUP 0

/-- Seams that refreshes may use at once while CATCHUP is 0, and those that scheduled ones may use now (R103, Table 4.13). -/
def State.bgLimit (s : State) (h : Half) : Nat :=
  let v := s.rf (NV_REFRESH_CTRL h) NV_REFRESH_CTRL.BG_PARALLEL
  if 1 ≤ v ∧ v ≤ 64 then v else 1
def State.refreshLimit (s : State) (h : Half) : Nat :=
  if s.on (NV_REFRESH_CTRL h) NV_REFRESH_CTRL.CATCHUP then
    let v := s.rf (NV_REFRESH_CTRL h) NV_REFRESH_CTRL.CU_PARALLEL
    if 1 ≤ v ∧ v ≤ 64 then v else 64
  else s.bgLimit h

/-- May a queued refresh start: its Seam refreshes no other plane; an urgent one at once, a REFRESH_PLANE's within BG_PARALLEL (R132),
another within the limit, a scheduled one only while EN is 1 and on an enabled plane? DESIGN CHOICE (log entry 68): an urgent refresh
waits for a scheduled one that already runs on its Seam. -/
def State.mayRefresh (s : State) (h : Half) (r : Refresh) : Bool :=
  let n := (s.half h).nv
  let run := n.refreshes.filter (·.running)
  !r.running && n.scanned && !n.stopping && !run.any (fun x => x.plane / 16 == r.plane / 16) &&
  (r.cmd || s.planeEn h r.plane) &&
  (r.urgent || decide ((run.filter (fun x => !x.urgent)).length < (if r.cmd then s.bgLimit h else s.refreshLimit h))) &&
  (r.urgent || r.cmd || s.on (NV_REFRESH_CTRL h) NV_REFRESH_CTRL.EN)

/-- Order of two queued refreshes (R103, R132): urgent, then a command's, then by age, unknown first, equal ages by plane. -/
def State.refreshBefore (s : State) (h : Half) (a b : Refresh) : Bool :=
  let cls (r : Refresh) : Nat := if r.urgent then 0 else if r.cmd then 1 else 2
  if cls a ≠ cls b then decide (cls a < cls b)
  else match s.planeAge h a.plane, s.planeAge h b.plane with
    | none, none => decide (a.plane < b.plane)
    | none, some _ => true
    | some _, none => false
    | some x, some y => if x = y then decide (a.plane < b.plane) else decide (y < x)

/-- The refresh that starts next, if any may. -/
def State.nextRefresh (s : State) (h : Half) : Option Refresh :=
  ((s.half h).nv.refreshes.filter (fun r => s.mayRefresh h r)).foldl (fun best r => match best with
    | none => some r
    | some b => if s.refreshBefore h r b then some r else some b) none

/-- Start queued refreshes as long as one may start. -/
def State.schedule (s : State) (h : Half) : Nat → State
  | 0 => s
  | k + 1 => match s.nextRefresh h with
    | none => s
    | some r =>
      let s1 := s.modRefresh h r.plane (fun x => { x with running := true })
      State.schedule (s1.askStep h { own := .refresh, kind := .margin, plane := r.plane, row := r.row }) h k

/-- A refresh may not go on: no REFRESH_PLANE asked for it and its plane's EN bit is 0 (R103). -/
def State.barred (s : State) (h : Half) (r : Refresh) : Bool := !r.cmd && !s.planeEn h r.plane

/-- Refreshes of planes that are no longer enabled stop (R103). An urgent one stays queued, to run from row 0 once its plane is enabled
(Table 4.1). -/
def State.stopBarred (s : State) (h : Half) : State :=
  let off := (s.half h).nv.refreshes.filter (fun r => s.barred h r)
  if off.isEmpty then s
  else
    (s.modNv h (fun n => { n with refreshes := n.refreshes.filterMap (fun r =>
      if s.barred h r then (if r.urgent then some { plane := r.plane, urgent := true } else none) else some r) })).dropSteps h
      (fun x => x.own == .refresh && off.any (fun r => r.plane == x.plane))

/-- The queued refreshes are looked at again: CATCHUP clears once nothing is due, barred ones stop, and what may start does. -/
def State.runRefresh (s : State) (h : Half) : State :=
  let s1 := (s.checkCatchup h).stopBarred h
  s1.schedule h (s1.half h).nv.refreshes.length

/-- A plane's refresh ends without completing (R103). -/
def State.endRefresh (s : State) (h : Half) (p : Nat) : State :=
  (s.modNv h (fun n => { n with refreshes := n.refreshes.filter (fun r => r.plane != p) })).dropSteps h
    (fun x => x.own == .refresh && x.plane == p)

/-! ## A command cut short (R145, R153, R154) -/

/-- Levels of an interrupted pulse: each cell stands at a level that the spec leaves open, no higher than `top` (log entry 3). -/
def partialLevels (free : Nat) (top : List (Nat × Nat)) : List (Nat × Nat) :=
  (List.range 544).map (fun j =>
    let t := top.getD j (0, 0)
    (Config.free (free + 2 * j) % (t.1 + 1), Config.free (free + 2 * j + 1) % (t.2 + 1)))

/-- A row of a plane whose erase was cut, left with partial levels; the erase writes the weight 0 (R107). -/
def State.partialRow (s : State) (h : Half) (p row : Nat) (top : List (Nat × Nat)) : State :=
  let s1 := s.writeRow h p row (partialLevels s.freeCtr top) (List.replicate 544 0)
  { s1 with freeCtr := s1.freeCtr + 1088 }

/-- Mark rows of planes written (R128). -/
def State.markWritten (s : State) (h : Half) (rows : List RowJob) : State :=
  rows.foldl (fun s r => s.modPlane h r.plane (fun x => { x with written := insertNat r.row x.written })) s

/-! ## Feeding rows (R128) -/

/-- Seams with a row in program or about to be, over both ports. -/
def NvHalf.seamsInProgram (n : NvHalf) : List Nat :=
  let rows (x : NvPortSt) : List RowJob := match x.cmd with | some c => c.rows | none => []
  ((rows n.host ++ rows n.ldr).filter (fun r => r.queued && !r.done)).map (fun r => r.plane / 16)

/-- Row `k` of the port's command asks for its first pulse if its Seam has no row in program (R128). -/
def State.feedRow (s : State) (h : Half) (p : NvPort) (k : Nat) : State :=
  match s.nvCmd h p with
  | none => s
  | some c => match c.rows[k]? with
    | none => s
    | some r =>
      if r.queued || !c.abort.isEmpty || (s.half h).nv.seamsInProgram.contains (r.plane / 16) then s
      else (s.modCmd h p (fun c => { c with rows := c.rows.modify k (fun r => { r with queued := true }) })).askPulse h
        { own := .cmd p, kind := .program, plane := r.plane, row := r.row }

/-- Rows go into program in record order on both ports, unless the controller is stopping. -/
def State.feed (s : State) (h : Half) : State :=
  let one (s : State) (p : NvPort) : State :=
    match s.nvCmd h p with
    | some c => if c.code = 0x10 ∧ c.phase = .steps then (List.range c.rows.length).foldl (fun s k => s.feedRow h p k) s else s
    | none => s
  if (s.half h).nv.stopping then s else one (one s .host) .loader

/-! ## Commands cut short -/

/-- EN 0 of planes stands in the plane table, whether or not the commit that a cut command waited for has ended (Table 5.15, R149). -/
def State.tableEnOff (s : State) (h : Half) (ps : List Nat) : State :=
  s.modNv h (fun n => { n with cfg := ps.foldl (fun m q =>
    let w := mapGet (fun _ => 0) m (q / 16)
    mapSet (fun _ => 0) m (q / 16) (putF w SEAM_PLANE_CFG.EN (withBit (getF w SEAM_PLANE_CFG.EN) (q % 16) false))) n.cfg })

/-- A row with partial levels, and the codes its writing aimed at. -/
def State.partialJob (s : State) (h : Half) (r : RowJob) : State :=
  let v := partialLevels s.freeCtr r.cells
  let s1 := s.writeRow h r.plane r.row v r.want
  { s1 with freeCtr := s1.freeCtr + 1088 }

/-- The plane whose erase a command is cut in: an ERASE_PLANE's, or the one at the head of a PROTECT_UNLOCK whose PROT_BEGIN has
committed (R141, R156). -/
def State.erasePlane (s : State) (h : Half) (p : NvPort) (c : NvCmd) : Option Nat :=
  let begun := !(s.half h).nv.ledgerQ.any (fun e => decide (e.2 = .cmd p) && e.1.type == 3)
  match c.phase with
  | .ending _ => none
  | _ => if c.code = 0x20 ∨ (c.code = 0x61 ∧ begun) then c.planes.head? else none

/-- What a command that is aborted or interrupted leaves behind (Table 5.15). -/
def State.cutShort (s : State) (h : Half) (p : NvPort) (c : NvCmd) : State :=
  let s1 := (s.dropSteps h (fun x => x.own == .cmd p)).modNv h (fun n =>
    { n with ledgerQ := n.ledgerQ.filter (fun e => !decide (e.2 = .cmd p)) })
  match c.code with
  | 0x10 =>
    (c.rows.filter (fun r => r.started && !r.verified)).foldl (fun s r => s.partialJob h r)
      ((s1.markWritten h c.rows).tableEnOff h (c.rows.map (fun r => r.plane)))
  | 0x30 => c.planes.foldl (fun s q => s.endRefresh h q) s1
  | 0x71 =>
    let w := c.words.getD 0 0
    let v := BitVec.ofNat 32 (c.words.getD 1 0)
    let got := mapGet (fun _ => 0) (s1.half h).nv.otp w ||| (v &&& BitVec.ofNat 32 (Config.free s1.freeCtr))
    let s2 := s1.modNv h (fun n => { n with otp := mapSet (fun _ => 0) n.otp w got })
    { s2 with freeCtr := s2.freeCtr + 1 }
  | _ => match s.erasePlane h p c with
    | none => s1
    | some q =>
      let s2 := if c.phase = .steps then (s1.planeRows h q).foldl (fun s e => s.partialRow h q e.1 e.2) s1 else s1
      (s2.tableEnOff h [q]).setIncomplete h q true

/-- The running command of a port ends with ABORTED or INTERRUPTED, and with it every CMD_RESET that waited for its pulses: with OK after
ABORTED, else INTERRUPTED too (R122, R145, R150). Rows and refreshes that it held back go on. -/
def State.nvCut (s : State) (h : Half) (p : NvPort) (result : Nat) : State :=
  match s.nvCmd h p with
  | none => s
  | some c =>
    let s1 := ((s.cutShort h p c).modPort h p (fun x => { x with cmd := none })).nvComplete h p c.code result c.tag []
    let s2 := c.abort.foldl (fun s t => s.nvComplete h p 0xF0 (if result = 0x11 then 0 else result) t []) s1
    ((s2.tellLoader h p c result).feed h).runRefresh h

/-- A record of an interrupted command: port, command, TAG and subject (R154). DEDUCED (log entry 78): of several planes the subject is
the first, and a command that names none has no subject, since SUBJECT_KIND lists no group and no OTP word. -/
def State.logCut (s : State) (h : Half) (p : NvPort) (c : NvCmd) : State :=
  let ps := c.planes ++ c.rows.map (fun r => r.plane)
  s.log h { logNv c.code (nvPortNum p) 0x12 with
    tag := c.tag
    subject := if ps.isEmpty then 0 else planeId h (ps.headD 0)
    kind := if ps.isEmpty then 0 else 1 }

end Sys2Proof.Machine
end

