-- ==== Sys2Proof/Machine/NvCmd.lean ====
section
/-! DEFINITION. The weight store commands (R115 to R145): the key sequence, the parameter block, the checks of a launch, and what an
accepted command begins. -/

namespace Sys2Proof.Machine

/-! ## The key sequence (R117, R118) -/

/-- A write of SEQ_A or SEQ_B: the next key write advances the sequence, any other breaks it. -/
def State.seqWrite (s : State) (h : Half) (isB : Bool) (width v : Nat) : State :=
  let n := (s.half h).nv
  if n.stopping then s.seqErr h
  else match n.host.step, isB, decide (width = 2) with
    | 0, false, true => if v = 0xC3 then s.modPort h .host (fun x => { x with step := 1 }) else s.seqErr h
    | 1, true, true => if v = 0x3C then s.modPort h .host (fun x => { x with step := 2 }) else s.seqErr h
    | 2, false, true => if v < 256 then s.modPort h .host (fun x => { x with step := 3, key := v }) else s.seqErr h
    | _, _, _ => s.seqErr h

/-- SEQ_A_WRITE (R118); through any function but the physical one the write is discarded (R115). -/
def execSeqAWrite (h : Half) (func width v : Nat) (s : State) : Host.Outcome State Fault Refusal :=
  whenLive s (fun s => if func = 0 then s.seqWrite h false width v else s)

/-- SEQ_B_WRITE (R118). -/
def execSeqBWrite (h : Half) (func width v : Nat) (s : State) : Host.Outcome State Fault Refusal :=
  whenLive s (fun s => if func = 0 then s.seqWrite h true width v else s)

/-- Any other write to the window breaks a sequence in KEY1 or KEY2 (R118). -/
def State.seqOther (s : State) (h : Half) : State :=
  let k := (s.half h).nv.host.step
  if k = 1 ∨ k = 2 then s.seqErr h else s

/-- SEQ_TIMEOUT (R118): 10 ms since key write 1 without a LAUNCH. -/
def State.seqTimeout (s : State) (h : Half) : State :=
  let x := (s.half h).nv.host
  if x.step = 0 then s
  else
    let c := if x.step = 3 then x.key else 0
    ((s.modPort h .host (fun x => { x with step := 0, key := 0 })).nvComplete h .host c 3 0 []).log h (logNv c 0 3)

/-- SEQ_TIMEOUT. -/
def execSeqTimeout (h : Half) (s : State) : Host.Outcome State Fault Refusal := whenLive s (fun s => s.seqTimeout h)

/-! ## Parameters and the checks (R119) -/

/-- The 32 words of the parameter block. -/
def State.paramBlock (s : State) (h : Half) : List Nat :=
  (List.range 32).map (fun i => (mapGet (fun _ => 0) (s.half h).nv.param i).toNat)

/-- Bits of word `i` of the parameter block that a command defines; every other bit from offset 0x08 to 0x7B is reserved (R119). -/
def paramMask (code i : Nat) : Nat :=
  let pass := if 4 ≤ i ∧ i ≤ 7 then 0xFFFFFFFF else 0
  match code with
  | 0x10 => if i = 2 then 0xFFFFF else if i = 3 then 0x7FF else 0
  | 0x20 => if i = 2 then 0xFFFF else 0
  | 0x30 => if i = 2 then 0x1FFFF else 0
  | 0x40 => if i = 2 then 0xFFFF else if i = 3 then 0x3FF03FF else if i = 4 then 3 else if 8 ≤ i ∧ i ≤ 15 then 0xFFFFFFFF else 0
  | 0x50 => if i = 2 then 0xFFFF else if i = 3 then 3 else 0
  | 0x60 => if i = 2 then 0x301FF else pass
  | 0x61 => if i = 2 then 0x1FF else pass
  | 0x70 => if i = 2 then 0x3F3F else 0
  | 0x71 => if i = 2 then 0x3F else if i = 3 then 0xFFFFFFFF else 0
  | _ => 0

/-- Is every reserved bit of the parameters zero? -/
def paramsClean (code : Nat) (b : List Nat) : Bool :=
  (List.range 29).all (fun i => b.getD (i + 2) 0 &&& (0xFFFFFFFF - paramMask code (i + 2)) == 0)

/-- 32-bit words of the parameters as bytes. -/
def wordsLE (ws : List Nat) : List Byte := ws.flatMap (leBytes 4)

/-- Commands of a port (Table 5.2). -/
def portTakes (p : NvPort) (code : Nat) : Bool :=
  match p with
  | .host => [0x10, 0x20, 0x30, 0x40, 0x50, 0x5F, 0x60, 0x61, 0x70, 0x71, 0x80, 0xF0].contains code
  | .loader => [0x10, 0x20, 0x40, 0x80, 0xF0].contains code

/-- Does the port's state accept the command (R120)? -/
def NvPortSt.accepts (x : NvPortSt) (code : Nat) : Bool :=
  if x.cmd.isSome then code == 0x80 || code == 0xF0
  else if x.cont.isSome then code == 0x5F || code == 0x80 || code == 0xF0
  else true

/-- Planes that a running command holds (R121). -/
def NvCmd.held (c : NvCmd) : List Nat := c.planes ++ c.rows.map (fun r => r.plane)

/-- Does the other port hold the plane? A PROTECT_UNLOCK that erases a confidential group holds its 64 planes. -/
def State.heldByOther (s : State) (h : Half) (p : NvPort) (q : Nat) : Bool :=
  match s.nvCmd h (match p with | .host => .loader | .loader => .host) with
  | none => false
  | some c => (match c.phase with | .ending _ => false | _ => true) &&
      (c.held.contains q || (c.code == 0x61 && s.rf (NV_PROT_STATE h c.group) NV_PROT_STATE.MODE == 2 && q / 64 == c.group))

/-- Protection mode of a plane's group (R138). -/
def State.protMode (s : State) (h : Half) (q : Nat) : Nat := s.rf (NV_PROT_STATE h (q / 64)) NV_PROT_STATE.MODE

/-- May the port program, or erase, the plane (Table 5.9)? `enc`: for a weight set created on the encrypted route. -/
def State.mayProgram (s : State) (h : Half) (p : NvPort) (enc : Bool) (q : Nat) : Bool :=
  s.protMode h q == 0 || (s.protMode h q == 2 && p == .loader && enc)

/-! ## Row records (R126 to R128) -/

/-- A record of a list (Table 5.7): PLANE, ROW, SLC, its weights and whether it is well formed. -/
structure RowRec where
  plane : Nat
  row : Nat
  slc : Bool
  clean : Bool
  data : List Byte
  deriving DecidableEq, Repr

/-- The record at the head of 264 bytes. -/
def rowRec (b : List Byte) : RowRec :=
  { plane := fld b 0 15 0, row := fld b 0 25 16, slc := fld b 0 26 26 == 1,
    clean := fld b 0 31 27 == 0 && fld b 4 3 0 == 1 && fld b 4 31 4 == 0, data := slice b 8 256 }

/-- The records of a list. -/
def rowRecs : Nat → List Byte → List RowRec
  | 0, _ => []
  | k + 1, b => rowRec b :: rowRecs k (b.drop 264)

/-- The W4 code of column `j` of packed codes. -/
def nibble (d : List Byte) (j : Nat) : Nat := bits (d.getD (j / 2) 0).toNat (4 * (j % 2)) 4

/-- Does W4 data hold the code 0b1000? -/
def RowRec.invalid (r : RowRec) : Bool := !r.slc && (List.range 512).any (fun j => nibble r.data j == 8)

/-- The 544 weights of a W4 row: 512 data weights and the checksum weights of R91. -/
def rowWeights (d : List Byte) : List Int :=
  let ws := (List.range 512).map (fun j => w4 (nibble d j))
  ws ++ (List.range 32).map (fun k => chkWeight ((slice16 ws k).foldl (· + ·) 0))
where
  slice16 (ws : List Int) (k : Nat) : List Int := (ws.drop (16 * k)).take 16

/-- The level pair that a registered pair is programmed to (R41): its stuck cell as near to the canonical level as it can stand, the
other cell at the level that brings the weight nearest. -/
def stuckTarget (cell kind level : Nat) (w : Int) : Nat × Nat :=
  let c := canonical w
  let lim (x : Nat) : Nat := if kind = 0 then min x level else max x level
  if cell = 0 then
    let lp := lim c.1
    (lp, (clampInt 0 7 (lp - w)).toNat)
  else
    let ln := lim c.2
    ((clampInt 0 7 (ln + w)).toNat, ln)

/-- The levels that a row's pairs are programmed to: canonical, but for registered pairs. -/
def State.rowTargets (s : State) (h : Half) (q row : Nat) (ws : List Int) : List (Nat × Nat) :=
  let es := (s.stuckOf h q).filter (fun i => s.rf (NV_STUCK_LOC h i) NV_STUCK_LOC.ROW == row)
  es.foldl (fun ps i =>
    let b := NV_STUCK_INFO h i
    let col := s.rf b NV_STUCK_INFO.COL
    ps.set col (stuckTarget (s.rf b NV_STUCK_INFO.CELL) (s.rf b NV_STUCK_INFO.KIND) (s.rf b NV_STUCK_INFO.LEVEL) (ws.getD col 0)))
    (ws.map canonical)

/-- The levels of an SLC row: its checksum cells stay erased (Table 5.7). -/
def slcTargets (d : List Byte) : List (Nat × Nat) :=
  let lev (j : Nat) : Nat := if bit (d.getD (j / 8) 0).toNat (j % 8) then 7 else 0
  (List.range 512).map (fun i => (lev (2 * i), lev (2 * i + 1))) ++ List.replicate 32 (0, 0)

/-- A record as a row to program. -/
def State.rowJob (s : State) (h : Half) (r : RowRec) : RowJob :=
  let q := r.plane % 32768
  let cells := if r.slc then slcTargets r.data else s.rowTargets h q r.row (rowWeights r.data)
  { plane := q, row := r.row, want := if r.slc then cells.map pairW else rowWeights r.data, cells := cells }

/-- Do two records name the same plane and row? -/
def dupRec : List RowRec → Bool
  | [] => false
  | r :: rs => rs.any (fun x => x.plane == r.plane && x.row == r.row) || dupRec rs

/-- The checks of R127 in their order. -/
def State.recsCheck (s : State) (h : Half) (p : NvPort) (enc : Bool) (rs : List RowRec) : Nat :=
  if rs.any (fun r => !r.clean) then 5
  else if rs.any (fun r => r.plane / 32768 != h.num) then 7
  else if rs.any RowRec.invalid then 8
  else if dupRec rs then 0x0A
  else if rs.any (fun r => (s.half h).nv.incomplete.contains (r.plane % 32768)) then 0x0B
  else if rs.any (fun r => s.heldByOther h p (r.plane % 32768)) then 0x0C
  else if rs.any (fun r => !s.mayProgram h p enc (r.plane % 32768)) then 0x0D
  else if rs.any (fun r => (s.planeRec h (r.plane % 32768)).written.contains r.row) then 9
  else 0

/-- The list's bytes in the row buffer. -/
def State.listBytes (s : State) (h : Half) (off count : Nat) : List Byte := memRead zeroByte (s.half h).nv.buffer off (264 * count)

/-! ## The checks of a launch -/

/-- Header and command byte (Tables 5.2, 5.3): the code of the first failing check, or 0. -/
def headerCheck (p : NvPort) (code launch : Nat) (b : List Nat) : Nat :=
  let w := b.getD 0 0
  if !portTakes p code ∨ bits w 0 8 ≠ code ∨ bits launch 0 8 ≠ code then 4
  else if bits w 8 4 ≠ 1 ∨ bits w 12 20 ≠ 0 ∨ bits launch 8 24 ≠ 0 then 5
  else 0

/-- The command's own parameters. -/
def paramCheck (code : Nat) (b : List Nat) : Nat :=
  let a := b.getD 2 0
  let c := b.getD 3 0
  if !paramsClean code b then 5
  else match code with
    | 0x10 => if a % 8 ≠ 0 ∨ c = 0 ∨ c > 1024 then 5 else if a + 264 * c > 0x100000 then 0x15 else 0
    | 0x40 => if bits c 0 10 > bits c 16 10 ∨ b.getD 4 0 = 3 then 5 else 0
    | 0x50 => if c = 3 then 5 else 0
    | 0x60 => if bits a 16 2 = 0 ∨ bits a 16 2 = 3 then 5 else 0
    | 0x70 => if bits a 8 6 = 0 ∨ bits a 0 6 + bits a 8 6 > 64 then 5 else 0
    | _ => 0

/-- Preconditions of a command that names one plane: WRONG_HALF, PLANE_BUSY, PROTECTED. -/
def State.planeCheck (s : State) (h : Half) (p : NvPort) (id : Nat) (refused : Bool) : Nat :=
  if id / 32768 ≠ h.num then 7 else if s.heldByOther h p (id % 32768) then 0x0C else if refused then 0x0D else 0

/-- Is the OTP word writable in the field with this value (R143)? -/
def otpWritable (w v : Nat) : Bool := (decide (49 ≤ w) && decide (w ≤ 55)) || (w == 48 && (v == 0 || v == 2))

/-- The command's preconditions. -/
def State.preCheck (s : State) (h : Half) (p : NvPort) (enc : Bool) (code : Nat) (b : List Nat) (rs : List RowRec) : Nat :=
  let a := b.getD 2 0
  let id := bits a 0 16
  match code with
  | 0x10 => s.recsCheck h p enc rs
  | 0x20 => s.planeCheck h p id (s.protMode h (id % 32768) != 0)
  | 0x30 => s.planeCheck h p id false
  | 0x40 => s.planeCheck h p id (s.protMode h (id % 32768) == 2 && b.getD 4 0 == 1)
  | 0x50 => s.planeCheck h p id (s.protMode h (id % 32768) == 2)
  | 0x60 => if s.rf (NV_PROT_STATE h (bits a 0 9)) NV_PROT_STATE.MODE = 0 then 0 else 0x0D
  | 0x61 => if (s.half h).nv.unlockFails ≥ 8 then 0x0F
            else if s.rf (NV_PROT_STATE h (bits a 0 9)) NV_PROT_STATE.MODE = 0 then 0x0D else 0
  | 0x71 => if otpWritable (bits a 0 6) (b.getD 3 0) then 0 else 0x10
  | _ => 0

/-! ## What an accepted command begins -/

/-- The command's steps on a plane begin: EN is cleared and its commit is due (R62, R131). -/
def State.eraseBegin (s : State) (h : Half) (p : NvPort) (q : Nat) : State :=
  (s.setEn h q false).modCmd h p (fun c => { c with phase := .commit })

/-- SHA-256 of the half's UID followed by the password (R139). -/
def State.passHash (s : State) (h : Half) (b : List Nat) : List Byte :=
  sha256 ((List.range 4).flatMap (fun i => leBytes 4 (mapGet (fun _ => 0) (s.half h).nv.otp i).toNat) ++ wordsLE ((b.drop 4).take 4))

/-- NV_PUMP_STATUS as the half stands (Table 5.21): row-equivalents in pulse, and rows in program. -/
def State.pumpWord (s : State) (h : Half) : Word :=
  let rows (x : NvPortSt) : Nat := match x.cmd with
    | some c => (c.rows.filter (fun r => r.started && !r.done)).length
    | none => 0
  let n := (s.half h).nv
  putF (putF 0 NV_PUMP_STATUS.PULSING (s.inPulse h)) NV_PUMP_STATUS.IN_PROGRAM (rows n.host + rows n.ldr)

/-- The snapshot of STATUS_READ (Table 5.11). -/
def State.statusWords (s : State) (h : Half) : List Nat :=
  [(s.rd (NV_CMD_STATUS h)).toNat, (s.rd (NV_LDR_STATUS h)).toNat, (s.rd (NV_LEDGER_STATUS h)).toNat,
    (s.pumpWord h).toNat, (s.rd (NV_BROWNOUT h)).toNat, (s.rd (NV_CMD_PROGRESS h)).toNat]

/-- Progress of the host port's command (Table 5.19): rows of a PROGRAM_ROWS or MARGIN_READ, planes of an ERASE_PLANE, REFRESH_PLANE or
PROTECT_UNLOCK. DESIGN CHOICE (log entry 75): once no command runs, the register keeps the last command's counts. -/
def State.progress (s : State) (h : Half) (p : NvPort) (done total : Nat) : State :=
  match p with
  | .loader => s
  | .host => (s.wf (NV_CMD_PROGRESS h) NV_CMD_PROGRESS.DONE_UNITS done).wf (NV_CMD_PROGRESS h) NV_CMD_PROGRESS.TOTAL_UNITS total

/-- A command is put on its port. -/
def State.putCmd (s : State) (h : Half) (p : NvPort) (c : NvCmd) (total : Nat) : State :=
  (s.modPort h p (fun x => { x with cmd := some c })).progress h p 0 total

/-- A refresh that a REFRESH_PLANE asks for: it runs from row 0, urgent or ahead of scheduled ones (R132); an urgent refresh of the plane
that is queued already stays urgent (log entry 67). -/
def State.askRefresh (s : State) (h : Half) (q : Nat) (urgent : Bool) : State :=
  let was := (s.half h).nv.refreshes.any (fun r => r.plane == q && r.urgent)
  ((s.endRefresh h q).modNv h (fun n => { n with refreshes := n.refreshes ++ [{ plane := q, urgent := urgent || was, cmd := true }] })).runRefresh h

/-- Host reads that wait for a sense complete with zeros when a continuous read ends. -/
def State.flushReads (s : State) (h : Half) : State :=
  ((s.half h).nv.reads.foldl (fun s r => s.readGive h r.func (0x02000000 * h.num + 0x01800000 + r.off) (zeros r.len)) s).modNv h
    (fun n => { n with reads := [], sensed := [] })

/-- A port leaves CONT_READ (R136, R145); only the host port reads continuously (Table 5.2). -/
def State.endCont (s : State) (h : Half) (p : NvPort) : State :=
  match p with
  | .host => (s.modPort h .host (fun x => { x with cont := none })).flushReads h
  | .loader => s

/-- Is a step one that the port's command runs: its own, or a refresh that its REFRESH_PLANE asked for? -/
def NvHalf.ownStep (n : NvHalf) (p : NvPort) (x : NvStep) : Bool :=
  x.own == .cmd p || (x.own == .refresh && (match (n.port p).cmd with
    | some c => c.code == 0x30 && c.planes.contains x.plane
    | none => false))
/-- Does a pulse of the port's command run on a Seam now? -/
def NvHalf.ownPulse (n : NvHalf) (p : NvPort) : Bool := n.running.any (fun e => n.ownStep p e.2 && e.2.kind.isPulse)

/-- CMD_RESET (R145): the running command starts no further step and ends with ABORTED once its running pulses have ended; then CMD_RESET
itself completes with OK. With none it ends a continuous read and completes. -/
def State.resetCmd (s : State) (h : Half) (p : NvPort) (tag : Nat) : State :=
  match s.nvCmd h p with
  | none => (s.endCont h p).nvComplete h p 0xF0 0 tag []
  | some c =>
    if c.refused then
      let r := match c.phase with
        | .ending r => r
        | _ => 4
      (((s.modPort h p (fun x => { x with cmd := none })).nvComplete h p c.code r c.tag []).nvComplete h p 0xF0 0 tag []).tellLoader h p c r
    else
      let n := (s.half h).nv
      let s1 := (s.dropSteps h (n.ownStep p)).modCmd h p (fun c => { c with abort := c.abort ++ [tag] })
      if n.ownPulse p then s1 else s1.nvCut h p 0x11

/-- What an accepted command begins. -/
def State.nvStart (s : State) (h : Half) (p : NvPort) (code : Nat) (b : List Nat) (rs : List RowRec) : State :=
  let a := b.getD 2 0
  let c3 := b.getD 3 0
  let q := bits a 0 15
  let base : NvCmd := { code := code, tag := b.getD 1 0 }
  match code with
  | 0x10 =>
    let jobs := rs.map (s.rowJob h)
    let range := match p with | .host => (a, a + 264 * c3) | .loader => (0, 0)
    let s1 := s.putCmd h p { base with phase := .commit, rows := jobs, range := range } jobs.length
    (jobs.foldl (fun s r => (s.setEn h r.plane false).endRefresh h r.plane) s1).runRefresh h
  | 0x20 => (s.putCmd h p { base with planes := [q] } 1).eraseBegin h p q
  | 0x30 => (s.putCmd h p { base with planes := [q] } 1).askRefresh h q (bit a 16)
  | 0x40 =>
    let s1 := s.putCmd h p { base with
      planes := [q]
      first := bits c3 0 10
      next := bits c3 0 10
      last := bits c3 16 10
      digest := b.getD 4 0
      expect := wordsLE ((b.drop 8).take 8) } (bits c3 16 10 + 1 - bits c3 0 10)
    s1.askStep h { own := .cmd p, kind := .margin, plane := q, row := bits c3 0 10 }
  | 0x50 => (s.modPort h p (fun x => { x with cont := some (q, bits c3 0 2) })).nvComplete h p code 0 base.tag []
  | 0x5F => (s.endCont h p).nvComplete h p code 0 base.tag []
  | 0x60 =>
    (s.putCmd h p { base with
      phase := .ledgerBegin
      group := bits a 0 9
      mode := bits a 16 2
      hash := s.passHash h b } 0).askLedger h 3 (bits a 0 9) (bits a 16 2) (.cmd p)
  | 0x61 =>
    let g := bits a 0 9
    if s.passHash h b = mapGet (fun _ => []) (s.half h).nv.hashes g then
      let conf := s.rf (NV_PROT_STATE h g) NV_PROT_STATE.MODE == 2
      let ps := if conf then (List.range 64).map (fun i => 64 * g + i) else []
      (s.putCmd h p { base with phase := .ledgerBegin, group := g, planes := ps } ps.length).askLedger h 3 g 0 (.cmd p)
    else s.putCmd h p { base with phase := .delay, group := g } 0
  | 0x70 =>
    let ws := (List.range (bits a 8 6)).map (fun i => (mapGet (fun _ => 0) (s.half h).nv.otp (bits a 0 6 + i)).toNat)
    s.putCmd h p { base with phase := .ending 0, words := ws } 0
  | 0x71 => s.putCmd h p { base with phase := .steps, words := [bits a 0 6, c3] } 0
  | 0x80 => s.nvComplete h p code 0 base.tag (s.statusWords h)
  | _ => s.resetCmd h p base.tag

/-- A rejected command (R119): a completion and nothing else; on the loader port the loader takes it up. -/
def State.nvReject (s : State) (h : Half) (p : NvPort) (code result tag : Nat) : State :=
  match p with
  | .host => s.nvComplete h p code result tag []
  | .loader => s.putCmd h p { code := code, tag := tag, phase := .ending result, refused := true } 0

/-- A launched command: the checks of R119 in their order, then the command. -/
def State.nvRun (s : State) (h : Half) (p : NvPort) (enc : Bool) (code launch : Nat) (b : List Nat) (recs : List Byte) : State :=
  let tag := b.getD 1 0
  let s0 := match p with | .host => s.wf (NV_CMD_TAG h) NV_CMD_TAG.TAG tag | .loader => s
  let rs := if code = 0x10 then rowRecs (b.getD 3 0) recs else []
  let r := if !((s.half h).nv.port p).accepts code then 6
    else if headerCheck p code launch b ≠ 0 then headerCheck p code launch b
    else if paramCheck code b ≠ 0 then paramCheck code b
    else s.preCheck h p enc code b rs
  if r ≠ 0 then s0.nvReject h p code r tag else s0.nvStart h p code b rs

/-- A write of LAUNCH on the host port (R117, R118): ARMED, it launches the command of the sequence; otherwise it breaks the sequence. -/
def State.launchWrite (s : State) (h : Half) (v : Nat) : State :=
  let x := (s.half h).nv.host
  if (s.half h).nv.stopping ∨ x.step ≠ 3 then s.seqErr h
  else
    let b := s.paramBlock h
    (s.modPort h .host (fun x => { x with step := 0, key := 0 })).nvRun h .host false x.key v b
      (if x.key = 0x10 then s.listBytes h (b.getD 2 0) (min 1024 (b.getD 3 0)) else [])

/-- A command named by a row, launched on the host port. The loader launches its own commands. -/
def State.hostLaunch (s : State) (h : Half) (p : NvPort) (code : Nat) : State :=
  match p with
  | .host => s.launchWrite h code
  | .loader => s

/-! ## The end of commands without steps -/

/-- OTP_PROGRAM's word takes its bits (R143). -/
def State.otpDone (s : State) (h : Half) (c : NvCmd) : State :=
  let w := c.words.getD 0 0
  let v := mapGet (fun _ => 0) (s.half h).nv.otp w ||| BitVec.ofNat 32 (c.words.getD 1 0)
  s.modNv h (fun n => { n with otp := mapSet (fun _ => 0) n.otp w v })

/-- A command that has ended, or that takes no step, completes (R122), unless the controller is stopping (R150). The second component is
the command that has completed and its result. -/
def State.nvEnd (s : State) (h : Half) (p : NvPort) : State × Option (NvCmd × Nat) :=
  match s.nvCmd h p with
  | none => (s, none)
  | some c =>
    let fin (s : State) (r : Nat) (ws : List Nat) : State × Option (NvCmd × Nat) :=
      (((s.modPort h p (fun x => { x with cmd := none })).nvComplete h p c.code r c.tag ws), some (c, r))
    if (s.half h).nv.stopping then (s, none)
    else match c.phase with
      | .ending r => fin s r c.words
      | .steps => if c.code = 0x71 then fin (s.otpDone h c) 0 [] else (s, none)
      | _ => (s, none)

/-- UNLOCK_FAIL_DELAY_END (R140): FAIL_COUNT rises and the unlock ends with PASSWORD. -/
def State.unlockFailed (s : State) (h : Half) : State :=
  match s.nvCmd h .host with
  | none => s
  | some c =>
    if c.phase = .delay ∧ (s.half h).nv.stopping = false then
      ((s.addSat (NV_PROT_STATE h c.group) NV_PROT_STATE.FAIL_COUNT 1).modNv h (fun n =>
        { n with unlockFails := n.unlockFails + 1 })).nvFinish h .host 0x0E
    else s

/-- UNLOCK_FAIL_DELAY_END. -/
def execUnlockFailDelayEnd (h : Half) (s : State) : Host.Outcome State Fault Refusal := whenLive s (fun s => s.unlockFailed h)

end Sys2Proof.Machine
end

