-- ==== Sys2Proof/Machine/NvEvents.lean ====
section
/-! DEFINITION. The NV controller's events (chapters 04 and 05): ends of NV steps, rows and erases, refreshes, plane-table commits, ages,
continuous reads, and brown-out. -/

namespace Sys2Proof.Machine

/-! ## Programming rows (R128 to R130) -/

/-- An INTERIM entry of the half may keep its Sidestreet on (R204), which then wakes. -/
def State.interimWake (s : State) (h : Half) : State := s.keepWakes [sdsDom h]

/-- A row's held pairs enter the register's entries (R111): W_INT is the code written, W_ACT the weight reached. -/
def State.rowEntries (s : State) (h : Half) (r : RowJob) : State :=
  let ps := s.pairs h r.plane r.row
  (((s.stuckOf h r.plane).filter (fun i => s.rf (NV_STUCK_LOC h i) NV_STUCK_LOC.ROW == r.row)).foldl (fun s i =>
    let b := NV_STUCK_INFO h i
    let col := s.rf b NV_STUCK_INFO.COL
    let wi := r.want.getD col 0
    let wa := pairW (ps.getD col (0, 0))
    ((s.wf b NV_STUCK_INFO.W_INT (w4Code wi)).wf b NV_STUCK_INFO.W_ACT (w4Code wa)).wf b NV_STUCK_INFO.STATE (stuckState wi wa)) s).interimWake h

/-- Planes of a command whose every row is marked written take a new age (R130). -/
def State.fullPlanes (s : State) (h : Half) (c : NvCmd) : State :=
  (c.rows.map (fun r => r.plane)).eraseDups.foldl (fun s q =>
    if (s.planeRec h q).written.length = 1024 then s.renewAge h q else s) s

/-- Result code of a command by the pairs it registered (R123, R129). -/
def NvCmd.stuckResult (c : NvCmd) : Nat := if c.noEntry then 0x13 else if 0 < c.pairs then 1 else 0

/-- The weight row that a row should read as: the weights intended, with W_ACT for registered pairs (R137). -/
def State.expectedRow (s : State) (h : Half) (q row : Nat) (want : List Int) : List Byte :=
  let es := (s.stuckOf h q).filter (fun i => s.rf (NV_STUCK_LOC h i) NV_STUCK_LOC.ROW == row)
  weightRow ((es.foldl (fun l i => l.set (s.rf (NV_STUCK_INFO h i) NV_STUCK_INFO.COL) (w4 (s.rf (NV_STUCK_INFO h i) NV_STUCK_INFO.W_ACT)))
    want).map canonical)

/-- The loader builds the image that it expects of its planes row by row, as each row's programming completes (R169 step 7). -/
def State.buildRow (s : State) (h : Half) (p : NvPort) (r : RowJob) : State :=
  match p with
  | .host => s
  | .loader => s.modHalf h (fun x => { x with ldr := { x.ldr with
      built := x.ldr.built ++ [(1024 * r.plane + r.row, s.expectedRow h r.plane r.row r.want)] } })

/-- PROGRAM_ROW_DONE (R128): row `k` has verified; bounds, entries and counts follow, and the rows that
waited for its Seam go into program, the other port's too. -/
def State.rowDone (s : State) (h : Half) (p : NvPort) (k us : Nat) : State :=
  match s.nvCmd h p with
  | none => s
  | some c => match c.rows[k]? with
    | none => s
    | some r =>
      if !r.verified || r.done || (s.half h).nv.stopping || c.phase ≠ .steps then s
      else
        let s1 := (((s.rhoRow h r.plane (s.pairs h r.plane r.row)).rowEntries h r).buildRow h p r).modCmd h p (fun c => { c with
          rows := c.rows.modify k (fun r => { r with done := true })
          longest := max c.longest us })
        match s1.nvCmd h p with
        | none => s1
        | some c1 =>
          let n := (c1.rows.filter (fun r => r.done)).length
          let s2 := s1.progress h p n c1.rows.length
          if n = c1.rows.length then
            (((s2.fullPlanes h c1).modCmd h p (fun c => { c with words := [n, c1.pairs, c1.longest] })).nvFinish h p c1.stuckResult).feed h
          else s2.feed h

/-- PROGRAM_ROW_DONE. -/
def execProgramRowDone (h : Half) (p : NvPort) (k us : Nat) (s : State) : Host.Outcome State Fault Refusal :=
  whenLive s (fun s => s.rowDone h p k us)

/-- The levels of listed cells of a row. -/
def setCells (ps : List (Nat × Nat)) (cs : List CellAt) : List (Nat × Nat) :=
  cs.foldl (fun ps c =>
    let x := ps.getD c.col (0, 0)
    ps.set c.col (if c.cell = 0 then (c.level % 8, x.2) else (x.1, c.level % 8))) ps

/-- The pairs of failing cells are registered (R107): one entry a pair, named by its first failing cell. `level` gives the level that a
cell should have reached and `want` the weight written. The second component counts pairs, the third is true when one found no entry. -/
def State.registerCells (s : State) (h : Half) (q row : Nat) (target : List (Nat × Nat)) (want : Nat → Int) (cs : List CellAt) :
    State × Nat × Bool :=
  let held := s.pairs h q row
  let cols := (cs.map (fun c => c.col)).eraseDups
  cols.foldl (fun acc col =>
    match cs.find? (fun c => c.col == col) with
    | none => acc
    | some c =>
      let t := target.getD col (0, 0)
      let aim := if c.cell = 0 then t.1 else t.2
      let kind := if c.level % 8 < aim then 0 else 1
      let p := acc.1.registerPair h q row col c.cell kind (c.level % 8) (want col) (pairW (held.getD col (0, 0)))
      (p.1, if p.2 then acc.2.1 + 1 else acc.2.1, acc.2.2 || !p.2)) (s, 0, false)

/-- Cells that a row has. -/
def okCells (cs : List CellAt) : List CellAt := cs.filter (fun c => decide (c.col < 544) && decide (c.cell < 2))

/-- PULSE_LIMIT_EXPIRE (R129): a started row has used 6 ms of step time; the cells that have not verified are registered at the levels
they stand at. No pulse of the row runs at that moment. -/
def State.pulseLimit (s : State) (h : Half) (p : NvPort) (k : Nat) (cells : List CellAt) : State :=
  match s.nvCmd h p with
  | none => s
  | some c => match c.rows[k]? with
    | none => s
    | some r =>
      let mine (x : NvStep) : Bool := x.own == .cmd p && x.plane == r.plane && x.row == r.row
      if !r.started || r.verified || (s.half h).nv.stopping || (s.half h).nv.running.any (fun e => mine e.2) || (okCells cells).isEmpty then s
      else
        let s1 := (s.dropSteps h mine).writeRow h r.plane r.row (setCells r.cells (okCells cells)) r.want
        let x := s1.registerCells h r.plane r.row r.cells (fun col => r.want.getD col 0) (okCells cells)
        (x.1.interimWake h).modCmd h p (fun c => { c with
          rows := c.rows.modify k (fun r => { r with verified := true })
          pairs := c.pairs + x.2.1
          noEntry := c.noEntry || x.2.2 })

/-- PULSE_LIMIT_EXPIRE. -/
def execPulseLimitExpire (h : Half) (p : NvPort) (k : Nat) (cells : List CellAt) (s : State) : Host.Outcome State Fault Refusal :=
  whenLive s (fun s => s.pulseLimit h p k cells)

/-! ## Erasing (R131, R140, R141) -/

/-- The plane at the head of a running erase. -/
def NvCmd.erasing (c : NvCmd) : Option Nat :=
  if (c.code = 0x20 ∨ c.code = 0x61) ∧ c.phase = .steps then c.planes.head? else none

/-- An erase has ended its steps: rows, bounds, entries, health, marks and age (R92, R107, R111, Table 4.2); ERASE_DONE is to be
committed. `cells` are the cells still above level 0, with their rows. A pair that is registered already keeps its entry's KIND, LEVEL and
W_ACT (R111). -/
def State.eraseApply (s : State) (h : Half) (p : NvPort) (q : Nat) (cells : List (Nat × CellAt)) : State :=
  let rows := (cells.map Prod.fst).eraseDups
  let s1 := s.modNv h (fun n => { n with rows := mapEraseRange n.rows (1024 * q) 1024, codes := mapEraseRange n.codes (1024 * q) 1024 })
  let erased : List (Nat × Nat) := List.replicate 544 (0, 0)
  let step (acc : State × Nat × Bool) (row : Nat) : State × Nat × Bool :=
    let cs := okCells ((cells.filter (fun e => e.1 == row)).map Prod.snd)
    let s2 := acc.1.writeRow h q row (setCells erased cs) (erased.map pairW)
    let x := s2.registerCells h q row erased (fun _ => 0) (cs.filter (fun c => !(s2.stuckFind h q row c.col).isSome))
    (x.1, acc.2.1 + x.2.1, acc.2.2 || x.2.2)
  let r := rows.foldl step (s1, 0, false)
  let s4 := (r.1.stuckOf h q).foldl (fun s i => s.wf (NV_STUCK_INFO h i) NV_STUCK_INFO.STATE 3) r.1
  let s5 := s4.rhoErase h q
  let s6 := if r.2.2 then s5 else s5.enterHealth h q 0
  let s7 := ((s6.modPlane h q (fun x => { x with written := [] })).renewAge h q).modCmd h p (fun c => { c with
    phase := .ledgerDone
    pairs := c.pairs + r.2.1
    noEntry := c.noEntry || r.2.2 })
  s7.askLedger h 2 (planeId h q) (min 16383 (s.rf (NV_PLANE_HEALTH h q) NV_PLANE_HEALTH.PE_CYCLES + 1)) (.cmd p)

/-- ERASE_TIME_LIMIT (R131): 40 ms of step time have passed; the cells still above level 0 are registered. -/
def State.eraseLimit (s : State) (h : Half) (p : NvPort) (cells : List (Nat × CellAt)) : State :=
  match s.nvCmd h p with
  | none => s
  | some c => match c.erasing with
    | none => s
    | some q =>
      let mine (x : NvStep) : Bool := x.own == .cmd p
      if (s.half h).nv.stopping || !c.abort.isEmpty || (s.half h).nv.running.any (fun e => mine e.2) then s
      else (s.dropSteps h mine).eraseApply h p q (cells.filter (fun e => decide (e.1 < 1024) && decide (0 < e.2.level % 8)))

/-- ERASE_TIME_LIMIT. -/
def execEraseTimeLimit (h : Half) (p : NvPort) (cells : List (Nat × CellAt)) (s : State) : Host.Outcome State Fault Refusal :=
  whenLive s (fun s => s.eraseLimit h p cells)

/-- The change of a group's mode waits for its PROT_DONE; until that has committed the group keeps its mode (R149, R153). -/
def State.protDone (s : State) (h : Half) (p : NvPort) (g mode : Nat) : State :=
  (s.modCmd h p (fun c => { c with phase := .ledgerDone })).askLedger h 4 g mode (.cmd p)

/-- PROT_DONE has committed: the group has its new mode and hash, or becomes OPEN and its hash is cleared (R139, R140). -/
def State.protApply (s : State) (h : Half) (c : NvCmd) : State :=
  if c.code = 0x60 then
    (s.wf (NV_PROT_STATE h c.group) NV_PROT_STATE.MODE c.mode).modNv h (fun n =>
      { n with hashes := mapSet (fun _ => []) n.hashes c.group c.hash })
  else (s.wf (NV_PROT_STATE h c.group) NV_PROT_STATE.MODE 0).modNv h (fun n => { n with hashes := mapErase n.hashes c.group })

/-- The next record or step of a command whose Ledger record has committed (R131, R139, R141, R146). DESIGN CHOICE (log entry 73): a
PROTECT_UNLOCK whose erases registered pairs, or found no entry free, ends with an erase's result for that. -/
def State.ledgerStep (s : State) (h : Half) (p : NvPort) (r : LedgerRec) : State :=
  match s.nvCmd h p with
  | none => s
  | some c =>
    match r.type with
    | 1 => match c.planes with
      | q :: _ => (s.modCmd h p (fun c => { c with phase := .steps })).askPulse h { own := .cmd p, kind := .erase, plane := q }
      | [] => s
    | 2 => match c.planes with
      | [] => s
      | q :: rest =>
        let s1 := (s.peCycle h q).setIncomplete h q false
        if c.code = 0x20 then
          let t := s1.fresh
          ((t.2.modCmd h p (fun c => { c with words := [t.1 % 40001, r.value] })).progress h p 1 1).nvFinish h p c.stuckResult
        else
          let s2 := (s1.modCmd h p (fun c => { c with planes := rest })).progress h p (64 - rest.length) 64
          match rest with
          | q2 :: _ => s2.eraseBegin h p q2
          | [] => s2.protDone h p c.group 0
    | 3 =>
      if c.code = 0x60 then s.protDone h p c.group c.mode
      else match c.planes with
        | q :: _ => s.eraseBegin h p q
        | [] => s.protDone h p c.group 0
    | 4 => (s.protApply h c).nvFinish h p (if c.code = 0x60 then 0 else c.stuckResult)
    | _ => s

/-- May the record be committed now: an ERASE_BEGIN waits for the waves that run on its plane (R131)? -/
def State.ledgerReady (s : State) (h : Half) (r : LedgerRec) : Bool :=
  !(r.type == 1 && s.waveOn h (r.subject % 32768 / 16))

/-! ## Margin reads (R101, R133) -/

/-- OUT cells of a row change the stored levels. A registered pair's entry follows; the second component is true when a cell was not
registered. -/
def State.outCells (s : State) (h : Half) (q row : Nat) (cs : List CellAt) : State × Bool :=
  let s1 := if cs.isEmpty then s else s.driftRow h q row (setCells (s.pairs h q row) cs)
  cs.foldl (fun acc c =>
    match acc.1.stuckFind h q row c.col with
    | none => (acc.1, true)
    | some i => (acc.1.stuckHeld h i q c.col c.cell (c.level % 8) (pairW ((acc.1.pairs h q row).getD c.col (0, 0))), acc.2)) (s1, false)

/-- What every margin read of a row does: OUT cells, REPROG_REQUIRED, and the HIGH_GUARD count. The second component says that an
unregistered cell was OUT. -/
def State.marginRow (s : State) (h : Half) (q row : Nat) (m : MarginRow) : State × Bool :=
  let x := s.outCells h q row (okCells m.out)
  let s0 := x.1.interimWake h
  let s1 := if x.2 then s0.reprogRequired h q else s0
  (s1.addSat (NV_REFRESH_STATUS h) NV_REFRESH_STATUS.HIGH_GUARD m.highGuard, x.2)

/-- The digest of a tile (R134). -/
def State.tileDigest (s : State) (h : Half) (q first last : Nat) : List Byte :=
  sha256 ((List.range (last + 1 - first)).flatMap (fun i => weightRow (s.pairs h q (first + i))))

/-- The class counts of rows read (R132, R133): CENTRE, LOW_GUARD, HIGH_GUARD, OUT. -/
def classWords (rows low high out : Nat) : List Nat := [rows * 1088 - low - high - out, low, high, out]
/-- The first OUT cell of a MARGIN_READ, in the layouts of NV_STUCK_LOC and of INFO bits [10:0] (R133). -/
def outWords (q : Nat) (h : Half) : Option (Nat × CellAt) → List Nat
  | some (r, c) => [planeId h q + r * 2 ^ 16, c.col + c.cell * 1024]
  | none => [0, 0]

/-- A MARGIN_READ has read its last row (R133). -/
def State.marginEnd (s : State) (h : Half) (p : NvPort) (c : NvCmd) (q : Nat) : State :=
  let whole := decide (c.first = 0) && decide (c.last = 1023)
  let s1 := if whole && decide (c.low = 0) && decide (c.out = 0) then s.renewAge h q else s
  let s2 := if c.low > 0 then s1.queueUrgent h q else s1
  let d := if c.digest = 0 then [] else s.tileDigest h q c.first c.last
  let ws := classWords (c.last + 1 - c.first) c.low c.high c.out ++ outWords q h c.firstOut ++
    (if c.digest = 1 then (List.range 8).map (fun i => u32 d (4 * i)) else [])
  let r := if c.outFound then 0x14 else if c.digest = 2 ∧ d ≠ c.expect then 0x16 else 0
  ((s2.modCmd h p (fun c => { c with words := ws })).nvFinish h p r).runRefresh h

/-- One row of a MARGIN_READ has been read. -/
def State.marginStep (s : State) (h : Half) (p : NvPort) (x : NvStep) (m : MarginRow) : State :=
  let y := s.marginRow h x.plane x.row m
  let first : Option (Nat × CellAt) := (okCells m.out).head?.map (fun c => (x.row, c))
  let s1 := y.1.modCmd h p (fun c => { c with
    low := c.low + m.lowGuard.length
    high := c.high + m.highGuard
    out := c.out + m.out.length
    outFound := c.outFound || y.2
    firstOut := if c.firstOut.isSome then c.firstOut else first
    next := c.next + 1 })
  match s1.nvCmd h p with
  | none => s1
  | some c =>
    let s2 := s1.progress h p (c.next - c.first) (c.last + 1 - c.first)
    if c.next > c.last then s2.marginEnd h p c x.plane
    else s2.askStep h { own := .cmd p, kind := .margin, plane := x.plane, row := c.next }

/-! ## Refreshes (R101 to R104) -/

/-- The refresh goes on to its next row; past row 1023 REFRESH_COMPLETE is due. One whose plane is no longer enabled stops (R103). -/
def State.refreshNext (s : State) (h : Half) (q : Nat) : State :=
  let s1 := s.modRefresh h q (fun r => { r with row := r.row + 1, low := [], pulses := 0 })
  match (s1.half h).nv.refreshes.find? (fun r => r.plane == q) with
  | some r =>
    if s1.barred h r then s1.runRefresh h
    else if r.row < 1024 then s1.askStep h { own := .refresh, kind := .margin, plane := q, row := r.row }
    else s1
  | none => s1

/-- A refresh's margin read of a row: LOW_GUARD cells are re-pulsed. -/
def State.refreshMargin (s : State) (h : Half) (q row : Nat) (m : MarginRow) : State :=
  let y := s.marginRow h q row m
  let s1 := y.1.modRefresh h q (fun r => { r with
    low := okCells m.lowGuard
    lowN := r.lowN + m.lowGuard.length
    highN := r.highN + m.highGuard
    outN := r.outN + m.out.length })
  if (okCells m.lowGuard).isEmpty then s1.refreshNext h q
  else s1.askPulse h { own := .refresh, kind := .repulse, plane := q, row := row }

/-- The LOW_GUARD cells that 8 pulses did not bring to CENTRE are registered with their decoded levels (R101); W_INT of a new entry is the
code last written to the pair (R107). -/
def State.registerLow (s : State) (h : Half) (q row : Nat) (cs : List CellAt) : State :=
  let ps := s.pairs h q row
  let codes := s.codes h q row
  cs.foldl (fun s c =>
    let p := ps.getD c.col (0, 0)
    let lev := if c.cell = 0 then p.1 else p.2
    match s.stuckFind h q row c.col with
    | some i => s.stuckHeld h i q c.col c.cell lev (pairW p)
    | none => (s.registerPair h q row c.col c.cell 0 lev (codes.getD c.col 0) (pairW p)).1) s

/-- A re-pulse step of a refresh has ended; `left` are the cells still not CENTRE. -/
def State.refreshPulse (s : State) (h : Half) (q row : Nat) (left : List CellAt) : State :=
  let s1 := s.modRefresh h q (fun r => { r with low := left, pulses := r.pulses + 1 })
  match (s1.half h).nv.refreshes.find? (fun r => r.plane == q) with
  | none => s1
  | some r =>
    if left.isEmpty then s1.refreshNext h q
    else if r.pulses ≥ 8 then ((s1.registerLow h q row left).interimWake h).refreshNext h q
    else if s1.barred h r then s1.runRefresh h
    else s1.askPulse h { own := .refresh, kind := .repulse, plane := q, row := row }

/-- The running refresh of a plane at a row, if there is one. -/
def State.refreshAt (s : State) (h : Half) (q row : Nat) : Option Refresh :=
  (s.half h).nv.refreshes.find? (fun r => r.plane == q && r.running && r.row == row)

/-- REFRESH_COMPLETE (R102, Table 4.2): the last row is done and the age is zero. DESIGN CHOICE (log entry 69): a REFRESH_PLANE ends with
OK whatever its margin reads found and registered. -/
def State.refreshDone (s : State) (h : Half) (q : Nat) : State :=
  match s.refreshAt h q 1024 with
  | none => s
  | some r =>
    let s1 := (s.renewAge h q).modNv h (fun n => { n with refreshes := n.refreshes.filter (fun r => r.plane != q) })
    let s2 := if r.urgent && s1.health h q == 2 then s1.enterHealth h q 3 else s1
    let s3 := if r.cmd then
        ((s2.modCmd h .host (fun c => { c with words := classWords 1024 r.lowN r.highN r.outN })).progress h .host 1 1).nvFinish h .host 0
      else s2
    s3.runRefresh h

/-- REFRESH_COMPLETE. -/
def execRefreshComplete (h : Half) (q : Nat) (s : State) : Host.Outcome State Fault Refusal := whenLive s (fun s => s.refreshDone h q)

/-- Every enabled plane that is due is queued (R103). -/
def State.queueDue (s : State) (h : Half) : State :=
  let due := (s.enabledPlanes h).filter (fun q => s.planeDue h q && !(s.half h).nv.refreshes.any (fun r => r.plane == q))
  s.modNv h (fun n => { n with refreshes := n.refreshes ++ due.map (fun q => { plane := q }) })

/-- REFRESH_DUE (R103): an enabled plane's age has reached the interval, or is unknown; it and every other plane that is due are queued,
and the oldest start first. -/
def State.refreshDue (s : State) (h : Half) (q : Nat) : State :=
  if s.planeEn h q && s.planeDue h q && !(s.half h).nv.refreshes.any (fun r => r.plane == q) then (s.queueDue h).runRefresh h else s

/-- REFRESH_DUE. -/
def execRefreshDue (h : Half) (q : Nat) (s : State) : Host.Outcome State Fault Refusal :=
  whenLive s (fun s => if q < 32768 then s.refreshDue h q else s)

/-! ## NV_STEP_END (R58, R125) -/

/-- The result of a step that a command asked for. Each erase pulse is followed by a verify step, and that by the next pulse or the end
of the erase (R131). -/
def State.cmdStep (s : State) (h : Half) (p : NvPort) (x : NvStep) (res : StepResult) : State :=
  match s.nvCmd h p with
  | none => s
  | some c =>
    match x.kind, res with
    | .program, .verified =>
      let k := c.rows.findIdx (fun r => r.plane == x.plane && r.row == x.row && !r.done)
      match c.rows[k]? with
      | none => s
      | some r => (s.writeRow h x.plane x.row r.cells r.want).modCmd h p (fun c => { c with
          rows := c.rows.modify k (fun r => { r with verified := true }) })
    | .erase, _ => s.askStep h { own := .cmd p, kind := .verify, plane := x.plane }
    | .verify, .verified => s.eraseApply h p x.plane []
    | .verify, _ => s.askPulse h { own := .cmd p, kind := .erase, plane := x.plane }
    | .margin, .margin m => s.marginStep h p x m
    | .margin, _ => s.marginStep h p x { lowGuard := [], highGuard := 0, out := [] }
    | .program, _ => s.askPulse h { own := .cmd p, kind := .program, plane := x.plane, row := x.row }
    | .repulse, _ => s

/-- The result of a step of a refresh. -/
def State.refreshStep (s : State) (h : Half) (x : NvStep) (res : StepResult) : State :=
  match s.refreshAt h x.plane x.row with
  | none => s
  | some r =>
    match x.kind, res with
    | .margin, .margin m => s.refreshMargin h x.plane x.row m
    | .margin, _ => s.refreshMargin h x.plane x.row { lowGuard := [], highGuard := 0, out := [] }
    | _, .verified => s.refreshPulse h x.plane x.row []
    | _, .notVerified => s.refreshPulse h x.plane x.row r.low
    | _, .margin m => s.refreshPulse h x.plane x.row (r.low.filter (fun c => m.lowGuard.any (fun d => d.col == c.col && d.cell == c.cell)))

/-- CMD_RESETs that waited for their port's running pulses take effect once the last of these has ended (R145). -/
def State.abortDue (s : State) (h : Half) (p : NvPort) : State :=
  match s.nvCmd h p with
  | none => s
  | some c => if c.abort.isEmpty ∨ (s.half h).nv.ownPulse p = true then s else s.nvCut h p 0x11

/-- Does a CMD_RESET wait for the step's command? -/
def NvHalf.aborting (n : NvHalf) (x : NvStep) : Bool :=
  let at_ (p : NvPort) : Bool := n.ownStep p x && (match (n.port p).cmd with | some c => !c.abort.isEmpty | none => false)
  at_ .host || at_ .loader

/-- NV_STEP_END (R58): the Seam goes to NO_PLANE and the command or refresh acts on the result. While the controller waits for its reset,
or a CMD_RESET for the command's pulses, a pulse ends without result (R145, R150). -/
def State.stepEnd (s : State) (h : Half) (seam : Nat) (res : StepResult) : State :=
  match (s.half h).nv.running.find? (fun e => e.1 == seam) with
  | none => s
  | some (_, x) =>
    let s1 := s.modNv h (fun n => { n with running := n.running.filter (fun e => e.1 != seam) })
    let s2 := (s1.wf (SEAM_STATUS h seam) SEAM_STATUS.STATE 0).wf (SEAM_STATUS h seam) SEAM_STATUS.PLANE 0
    if (s.half h).nv.stopping then s2
    else if (s.half h).nv.aborting x then (s2.abortDue h .host).abortDue h .loader
    else match x.own with
      | .cmd p => s2.cmdStep h p x res
      | .refresh => s2.refreshStep h x res

/-- NV_STEP_END. -/
def execNvStepEnd (h : Half) (seam : Nat) (res : StepResult) (s : State) : Host.Outcome State Fault Refusal :=
  whenPowered s (fun s => s.stepEnd h seam res)

/-! ## The plane table (R64, R128, R131) -/

/-- A command that waits for a plane-table commit goes on. -/
def State.afterCommit (s : State) (h : Half) (p : NvPort) : State :=
  match s.nvCmd h p with
  | none => s
  | some c =>
    if c.phase ≠ .commit ∨ (s.half h).nv.stopping then s
    else match c.planes with
      | q :: _ => (((s.endRefresh h q).runRefresh h).modCmd h p (fun c => { c with phase := .ledgerBegin })).askLedger h 1 (planeId h q)
          (s.rf (NV_PLANE_HEALTH h q) NV_PLANE_HEALTH.PE_CYCLES) (.cmd p)
      | [] => ((s.markWritten h c.rows).modCmd h p (fun c => { c with phase := .steps })).feed h

/-- PLANE_TABLE_COMMIT (R64): the changed SEAM_PLANE_CFG words are in the table; CFG_PENDING clears, but where a release still waits for its
own commit (R174), and waiting commands go on. -/
def State.tableCommit (s : State) (h : Half) : State :=
  let seams := (s.half h).nv.committing
  let s1 := seams.foldl (fun s x => (s.modNv h (fun n => { n with cfg := mapSet (fun _ => 0) n.cfg x (s.cfgWord h x) })).wf
    (SEAM_STATUS h x) SEAM_STATUS.CFG_PENDING (b2n (!((s.half h).nv.relPlanes x).isEmpty))) s
  ((s1.modNv h (fun n => { n with committing := [] })).afterCommit h .host).afterCommit h .loader

/-- PLANE_TABLE_COMMIT. -/
def execPlaneTableCommit (h : Half) (s : State) : Host.Outcome State Fault Refusal := whenLive s (fun s => s.tableCommit h)

/-- A write of SEAM_PLANE_CFG (R64, R99): discarded when it changes W7 of a plane that stays enabled; the EN bit of an UNUSABLE plane
stays 0. -/
def State.planeCfgWrite (s : State) (h : Half) (seam v : Nat) : State :=
  let a := SEAM_PLANE_CFG h seam
  let en := s.rf a SEAM_PLANE_CFG.EN
  let w7 := s.rf a SEAM_PLANE_CFG.W7
  let en2 := bits v 0 16
  let w72 := bits v 16 16
  let clash := (List.range 16).any (fun i => bit en i && bit en2 i && bit w7 i != bit w72 i)
  if clash then s.log h { logSoft 7 v with subject := 2048 * h.num + seam, kind := 3 }
  else
    let barred := (List.range 16).filter (fun i => bit en2 i && s.health h (16 * seam + i) == 5)
    let en3 := barred.foldl (fun m i => withBit m i false) en2
    let s1 := ((s.wf a SEAM_PLANE_CFG.EN en3).wf a SEAM_PLANE_CFG.W7 w72).cfgPending h seam
    let s2 := if barred.isEmpty then s1 else s1.log h { logSoft 7 v with subject := planeId h (16 * seam + barred.headD 0), kind := 1 }
    s2.runRefresh h

/-- SEAM_PLANE_CFG_WRITE. -/
def execSeamPlaneCfgWrite (h : Half) (seam v : Nat) (s : State) : Host.Outcome State Fault Refusal :=
  whenLive s (fun s => if seam < 2048 then s.planeCfgWrite h seam v else s)

/-- A write of NV_STUCK_INFO (R112): FREE frees a LATENT entry of a disabled plane, any other write of STATE is discarded. -/
def State.stuckWrite (s : State) (h : Half) (i v : Nat) : State :=
  let b := NV_STUCK_INFO h i
  let q := s.rf (NV_STUCK_LOC h i) NV_STUCK_LOC.PLANE % 32768
  if bits v 24 2 = 0 ∧ s.rf b NV_STUCK_INFO.STATE = 3 ∧ s.planeEn h q = false then s.wf b NV_STUCK_INFO.STATE 0
  else s.log h { logSoft 7 v with subject := i, kind := 11 }

/-- STUCK_STATE_WRITE. -/
def execStuckStateWrite (h : Half) (i v : Nat) (s : State) : Host.Outcome State Fault Refusal :=
  whenLive s (fun s => if i < 1024 then s.stuckWrite h i v else s)

/-! ## Ages (R105) -/

/-- Planes with a record. -/
def State.recPlanes (s : State) (h : Half) : List Nat := (s.half h).nv.planes.map Prod.fst

/-- One minute of OSC: the wall count advances, or, while it is 0, the minutes since each recorded event. CATCHUP clears if no enabled
plane is due. -/
def State.minute (s : State) (h : Half) : State :=
  (if s.wall h = 0 then
    (s.recPlanes h).foldl (fun s q => s.modPlane h q (fun r => { r with elapsed := r.elapsed.map (· + 1) })) s
  else s.add (NV_WALL_MINUTES h) NV_WALL_MINUTES.MINUTES 1).checkCatchup h

/-- WALL_MINUTE_TICK (R105): the always-on domain counts as long as it has power. -/
def execWallMinuteTick (s : State) : Host.Outcome State Fault Refusal :=
  .next (if s.stage = .off then s else (s.minute .west).minute .east)

/-- A write of NV_WALL_MINUTES (R105). The minute of an event counted before the first write may lie before minute 0. -/
def State.wallWrite (s : State) (h : Half) (v : Nat) : State :=
  let w := v % 2 ^ 32
  if w < s.wall h then s.log h (logSoft 7 v)
  else if w = 0 then s
  else
    let s1 := s.wf (NV_WALL_MINUTES h) NV_WALL_MINUTES.MINUTES w
    let s2 := (s.recPlanes h).foldl (fun s q => s.modPlane h q (fun r => match r.elapsed with
      | some e => { r with minute := some ((w : Int) - e), elapsed := none }
      | none => r)) s1
    s2.runRefresh h

/-- NV_WALL_MINUTES_WRITE. -/
def execNvWallMinutesWrite (h : Half) (v : Nat) (s : State) : Host.Outcome State Fault Refusal :=
  whenLive s (fun s => s.wallWrite h v)

/-! ## Continuous read (R135, R136) -/

/-- A row of an image (Table 5.8), 1,024 bytes. `odd` are the cells that are not CENTRE, at the levels sensed. -/
def imageRow (image : Nat) (ps0 : List (Nat × Nat)) (odd : List CellAt) : List Byte :=
  let ps := setCells ps0 odd
  let p (j : Nat) : Nat × Nat := ps.getD j (0, 0)
  let off (j c : Nat) : Nat := b2n (odd.any (fun x => x.col == j && x.cell == c))
  padTo 1024 (match image with
    | 0 => weightRow ps
    | 1 => (List.range 544).map (fun j => BitVec.ofNat 8 ((p j).1 + 8 * off j 0 + 16 * (p j).2 + 128 * off j 1))
    | _ => (List.range 128).map (fun i => BitVec.ofNat 8 ((List.range 8).foldl (fun n b =>
        let c := p (4 * i + b / 2)
        n + 2 ^ b * b2n (decide (4 ≤ (if b % 2 = 0 then c.1 else c.2)))) 0)))

/-- BAR0 offset of a byte of the aperture. -/
def apertureOff (h : Half) (off : Nat) : Nat := 0x02000000 * h.num + 0x01800000 + off

/-- CONT_READ_APERTURE_READ (R136): a held row answers at once, another row is to be sensed. Through any function
but the physical one the aperture reads zero (R115). DESIGN CHOICE (log entry 70): so it does outside CONT_READ. -/
def State.apertureRead (s : State) (h : Half) (func off len : Nat) : State :=
  let n := (s.half h).nv
  match n.host.cont with
  | some (q, _) =>
    if func ≠ 0 then s.readGive h func (apertureOff h off) (zeros len)
    else match n.sensed.find? (fun e => e.1 == off / 1024) with
      | some (_, bs) => s.readGive h func (apertureOff h off) (slice bs (off % 1024) len)
      | none => (s.modNv h (fun n => { n with reads := n.reads ++ [{ func := func, off := off, len := len }] })).need (galDom h (q / 1024))
  | none => s.readGive h func (apertureOff h off) (zeros len)

/-- CONT_READ_APERTURE_READ. -/
def execContReadApertureRead (h : Half) (func off len : Nat) (s : State) : Host.Outcome State Fault Refusal :=
  whenLive s (fun s =>
    if off < 0x100000 ∧ 4 ≤ len ∧ len ≤ 64 ∧ off % 4 = 0 ∧ len % 4 = 0 ∧ off % 64 + len ≤ 64 then s.apertureRead h func off len else s)

/-- May a row of a plane be sensed: its Gallery is ON and its Seam has no wave and no NV step running (R58, R136)? -/
def State.maySense (s : State) (h : Half) (q : Nat) : Bool :=
  let st := s.rf (SEAM_STATUS h (q / 16)) SEAM_STATUS.STATE
  s.domOn (galDom h (q / 1024)) && (st == 0 || st == 2) && !s.waveOn h (q / 16) && !(s.half h).nv.stopping && (s.half h).nv.scanned

/-- A sensed row is the one that stream engines' T0_SLC sources wait for (R246). -/
def NvHalf.slcSensed (n : NvHalf) (r : Nat) : NvHalf :=
  (n.slcAsk.filter (fun e => e.2 == r)).foldl (fun n e => { n with
    slcAsk := n.slcAsk.filter (· != e), slcHeld := n.slcHeld.filter (fun x => x.1 != e.1) ++ [e] }) n

/-- ROW_SENSE_DONE (R136): the row is held, waiting reads of it complete, and the Seam has no active plane. At most four rows of a
continuous read are held. -/
def State.senseDone (s : State) (h : Half) (q row : Nat) (odd : List CellAt) : State :=
  let slc := (s.half h).nv.slcAsk.any (fun e => e.2 == 1024 * q + row)
  let cont := (s.half h).nv.host.cont.filter (fun c => c.1 == q)
  if !s.maySense h q || (!slc && cont.isNone) then s
  else
    let s0 := ((s.wf (SEAM_STATUS h (q / 16)) SEAM_STATUS.STATE 0).wf (SEAM_STATUS h (q / 16)) SEAM_STATUS.PLANE 0).modNv h
      (fun n => n.slcSensed (1024 * q + row))
    match cont with
    | some (_, image) =>
      let bs := imageRow image (s.pairs h q row) (okCells odd)
      let mine (r : ContRead) : Bool := r.off / 1024 == row
      let s1 := ((s.half h).nv.reads.filter mine).foldl (fun s r =>
        s.readGive h r.func (apertureOff h r.off) (slice bs (r.off % 1024) r.len)) s0
      s1.modNv h (fun n => { n with
        sensed := (n.sensed.filter (fun e => e.1 != row) ++ [(row, bs)]).drop ((n.sensed.filter (fun e => e.1 != row)).length - 3)
        reads := n.reads.filter (fun r => !mine r) })
    | none => s0

/-- ROW_SENSE_DONE. -/
def execRowSenseDone (h : Half) (q row : Nat) (odd : List CellAt) (s : State) : Host.Outcome State Fault Refusal :=
  whenLive s (fun s => if q < 32768 ∧ row < 1024 then s.senseDone h q row odd else s)

/-! ## Brown-out and reset of the controller (R104, R149, R150, R152, R154) -/

/-- The controller stops: no step starts any more, steps that are no pulse are abandoned, and an open key sequence ends. -/
def State.nvStop (s : State) (h : Half) : State :=
  let s1 := s.dropSteps h (fun _ => true)
  (s1.modNv h (fun n => { n with stopping := true })).modPort h .host (fun x => { x with step := 0, key := 0 })

/-- BROWNOUT_TRIP (R150): the detector trips. A trip while one is being handled is counted. -/
def State.brownout (s : State) (h : Half) : State :=
  ((s.addSat (NV_BROWNOUT h) NV_BROWNOUT.TRIPS 1).wf (NV_BROWNOUT h) NV_BROWNOUT.ACTIVE 1).nvStop h

/-- BROWNOUT_TRIP. -/
def execBrownoutTrip (h : Half) (s : State) : Host.Outcome State Fault Refusal := whenPowered s (fun s => s.brownout h)

/-- A port's running command is interrupted, and every CMD_RESET that waits for its pulses: the records of R154 and the completions. A
command refused at LAUNCH has its own result. -/
def State.interrupt (s : State) (h : Half) (p : NvPort) : State :=
  match s.nvCmd h p with
  | none => s
  | some c =>
    if c.refused then s
    else (c.abort.foldl (fun s t => s.logCut h p { code := 0xF0, tag := t }) (s.logCut h p c)).nvCut h p 0x12

/-- The controller and both its ports are reset: commands are interrupted, refreshes end, and the Ledger scan is due (R104, R149). A
compaction that was under way left the active bank as it was. -/
def State.nvReset (s : State) (h : Half) : State :=
  let s1 := ((s.interrupt h .host).interrupt h .loader).endCont h .host
  let s2 := s1.modNv h (fun n => { n with
    pending := []
    pulseQ := []
    pulsing := []
    refreshes := []
    slcAsk := []
    slcHeld := []
    scanned := false
    stopping := false
    compacting := false })
  (((s.half h).nv.pending.map Prod.fst).foldl (fun s x => s.showPending h x) s2).showLedger h

/-- BROWNOUT_RECOVER (R150): the rail is back above the threshold. -/
def execBrownoutRecover (h : Half) (s : State) : Host.Outcome State Fault Refusal :=
  whenPowered s (fun s => s.wf (NV_BROWNOUT h) NV_BROWNOUT.ACTIVE 0)

/-- Subjects of records of type `b` with no later record of type `d`. -/
def ledgerOpen (b d : Nat) : List LedgerRec → List Nat
  | [] => []
  | r :: rs => if r.type = b ∧ !rs.any (fun x => x.type == d && x.subject == r.subject) then r.subject :: ledgerOpen b d rs
    else ledgerOpen b d rs

/-- Planes of a half in REFRESH_URGENT. -/
def State.urgentPlanes (s : State) (h : Half) : List Nat :=
  (s.regs.filter (fun e => decide (NV_PLANE_HEALTH h 0 ≤ e.1) && decide (e.1 < NV_PLANE_HEALTH h 32768) &&
    decide ((e.1 - NV_PLANE_HEALTH h 0) % 16 = 0) && decide (getF e.2 NV_PLANE_HEALTH.STATE = 2))).map
    (fun e => (e.1 - NV_PLANE_HEALTH h 0) / 16)

/-- The Ledger scan (R104, R149): the bank with the higher generation is the active one; planes with an ERASE_BEGIN and no ERASE_DONE are
INCOMPLETE and disabled; urgent refreshes are queued again; and with 16 or fewer slots free compaction begins (R148). -/
def State.ledgerScan (s : State) (h : Half) : State :=
  let s0 := s.modNv h (fun n => { n with scanned := true, bank := n.newestBank })
  let bad := (ledgerOpen 1 2 (s0.half h).nv.ledger).map (· % 32768)
  let s1 := bad.foldl (fun s q => (s.setIncomplete h q true).setEn h q false) s0
  (((s1.urgentPlanes h).foldl (fun s q => s.queueUrgent h q) s1).modNv h NvHalf.startCompact).showLedger h |>.showIncomplete h

/-- The scan that follows an NV-controller reset ends. -/
def State.scanDone (s : State) (h : Half) : State :=
  if (s.half h).nv.scanned ∨ (s.half h).nv.stopping then s else (s.ledgerScan h).runRefresh h

/-- LEDGER_SCAN_DONE. -/
def execLedgerScanDone (h : Half) (s : State) : Host.Outcome State Fault Refusal := whenLive s (fun s => s.scanDone h)

end Sys2Proof.Machine
end

