-- ==== Sys2Proof/Machine/Float.lean ====
section
/-! DEFINITION. Floating-point values held exactly as a sign, a natural significand and a power of two, and the roundings to
nearest even of the formats the device uses: FP32, BF16, FP8 E4M3 and FP8 E5M2 (R72, R73). Subnormal values are kept. -/

namespace Sys2Proof.Machine

/-- A floating-point value. `fin neg m e` is ± m x 2^e, with m = 0 for a signed zero. -/
inductive Fp where
  | nan
  | inf (neg : Bool)
  | fin (neg : Bool) (m : Nat) (e : Int)
  deriving DecidableEq, Repr

/-- A format: exponent bits, stored fraction bits, and whether its top exponent holds finite values (E4M3). -/
structure FpFmt where
  ebits : Nat
  mbits : Nat
  topFinite : Bool := false
  deriving DecidableEq, Repr

def fp32 : FpFmt := { ebits := 8, mbits := 23 }
def bf16 : FpFmt := { ebits := 8, mbits := 7 }
def e4m3 : FpFmt := { ebits := 4, mbits := 3, topFinite := true }
def e5m2 : FpFmt := { ebits := 5, mbits := 2 }

/-- Exponent bias of a format. -/
def FpFmt.bias (f : FpFmt) : Int := 2 ^ (f.ebits - 1) - 1

/-- Exponent of the last place of a subnormal value. -/
def FpFmt.emin (f : FpFmt) : Int := 1 - f.bias - f.mbits

/-- The value of a code. -/
def Fp.ofBits (f : FpFmt) (c : Nat) : Fp :=
  let s := bit c (f.ebits + f.mbits)
  let ex := bits c f.mbits f.ebits
  let fr := bits c 0 f.mbits
  if ex = 2 ^ f.ebits - 1 ∧ f.topFinite = false then if fr = 0 then .inf s else .nan
  else if ex = 2 ^ f.ebits - 1 ∧ fr = 2 ^ f.mbits - 1 then .nan
  else if ex = 0 then .fin s fr f.emin
  else .fin s (2 ^ f.mbits + fr) (f.emin + ex - 1)

/-- m / 2^k rounded to the nearest integer, ties to even. -/
def rne (m k : Nat) : Nat :=
  let q := m / 2 ^ k
  let r := m % 2 ^ k
  if k = 0 then m
  else if 2 * r > 2 ^ k ∨ (2 * r = 2 ^ k ∧ q % 2 = 1) then q + 1 else q

/-- A significand rounded to nearest even at a format's precision, with an unbounded exponent above and the format's subnormal
range below. -/
def FpFmt.round (f : FpFmt) (m : Nat) (e : Int) : Nat × Int :=
  let t := max ((Nat.log2 m : Int) + e - f.mbits) f.emin
  if m = 0 then (0, f.emin)
  else if t ≤ e then (m * 2 ^ (e - t).toNat, t)
  else (rne m (t - e).toNat, t)

/-- The largest finite value of a format, as a significand and the exponent of its last place. -/
def FpFmt.top (f : FpFmt) : Nat × Int :=
  if f.topFinite then (2 ^ (f.mbits + 1) - 2, f.bias + 1 - f.mbits)
  else (2 ^ (f.mbits + 1) - 1, f.bias - f.mbits)

/-- Is a rounded magnitude beyond the format's largest finite value? -/
def FpFmt.beyond (f : FpFmt) (m : Nat) (e : Int) : Bool :=
  let t := f.top
  if e ≤ t.2 then decide (m > t.1 * 2 ^ (t.2 - e).toNat) else decide (m * 2 ^ (e - t.2).toNat > t.1)

/-- The code of an infinity (formats that have one), and of the largest finite magnitude. -/
def FpFmt.signBit (f : FpFmt) (neg : Bool) : Nat := if neg then 2 ^ (f.ebits + f.mbits) else 0
def FpFmt.infCode (f : FpFmt) (neg : Bool) : Nat := f.signBit neg + (2 ^ f.ebits - 1) * 2 ^ f.mbits
def FpFmt.topCode (f : FpFmt) (neg : Bool) : Nat :=
  f.signBit neg + (if f.topFinite then 2 ^ (f.ebits + f.mbits) - 2 else (2 ^ f.ebits - 1) * 2 ^ f.mbits - 1)

/-- The code of a finite value that the format holds exactly, given as a rounded significand and its last place. -/
def FpFmt.finCode (f : FpFmt) (neg : Bool) (m : Nat) (e : Int) : Nat :=
  let p := m * 2 ^ (e - f.emin).toNat
  let k := Nat.log2 p
  if p < 2 ^ f.mbits then f.signBit neg + p
  else f.signBit neg + (k - f.mbits + 1) * 2 ^ f.mbits + (p / 2 ^ (k - f.mbits) - 2 ^ f.mbits)

/-- The FP32 code of a value, rounded to nearest even; a value beyond the range becomes infinite. -/
def Fp.bits32 (x : Fp) : Nat :=
  match x with
  | .nan => 0x7FC00000
  | .inf n => fp32.infCode n
  | .fin n m e =>
    let r := fp32.round m e
    if fp32.beyond r.1 r.2 then fp32.infCode n else fp32.finCode n r.1 r.2

/-- A finite value as a signed integer times 2^e, for a given e not above its own. -/
def scaledInt (neg : Bool) (m : Nat) (e t : Int) : Int :=
  let v : Int := (m * 2 ^ (e - t).toNat : Nat)
  if neg then -v else v

/-- The exact sum of two values. An exact zero sum is +0 unless both are -0 (round to nearest). -/
def Fp.plus (x y : Fp) : Fp :=
  match x, y with
  | .nan, _ => .nan
  | _, .nan => .nan
  | .inf a, .inf b => if a = b then .inf a else .nan
  | .inf a, _ => .inf a
  | _, .inf b => .inf b
  | .fin a m e, .fin b n g =>
    let t := min e g
    let v := scaledInt a m e t + scaledInt b n g t
    if v = 0 then .fin (a && b) 0 t else .fin (decide (v < 0)) v.natAbs t

/-- The exact product of two values. -/
def Fp.times (x y : Fp) : Fp :=
  match x, y with
  | .nan, _ => .nan
  | _, .nan => .nan
  | .inf a, .inf b => .inf (xor a b)
  | .inf a, .fin b n _ => if n = 0 then .nan else .inf (xor a b)
  | .fin a m _, .inf b => if m = 0 then .nan else .inf (xor a b)
  | .fin a m e, .fin b n g => .fin (xor a b) (m * n) (e + g)

/-- An integer as a value. -/
def Fp.ofInt (i : Int) : Fp := .fin (decide (i < 0)) i.natAbs 0

/-- FP32 addition, multiplication and fused multiply-add of codes, each with one rounding to nearest even. -/
def fpAdd (a b : Nat) : Nat := ((Fp.ofBits fp32 a).plus (Fp.ofBits fp32 b)).bits32
def fpMul (a b : Nat) : Nat := ((Fp.ofBits fp32 a).times (Fp.ofBits fp32 b)).bits32
def fpFma (a b c : Nat) : Nat := (((Fp.ofBits fp32 a).times (Fp.ofBits fp32 b)).plus (Fp.ofBits fp32 c)).bits32

/-- An integer converted to FP32. -/
def fpOfInt (i : Int) : Nat := (Fp.ofInt i).bits32

/-- A BF16 code widened exactly to FP32. -/
def bf16To32 (c : Nat) : Nat := c % 65536 * 65536

/-- The exact quotient of two values, rounded to FP32: division with one rounding. -/
def fpDiv (a b : Nat) : Nat :=
  match Fp.ofBits fp32 a, Fp.ofBits fp32 b with
  | .nan, _ => 0x7FC00000
  | _, .nan => 0x7FC00000
  | .inf _, .inf _ => 0x7FC00000
  | .inf x, .fin y _ _ => fp32.infCode (xor x y)
  | .fin x _ _, .inf y => fp32.signBit (xor x y)
  | .fin x m e, .fin y n g =>
    if n = 0 then (if m = 0 then 0x7FC00000 else fp32.infCode (xor x y))
    else
      -- 200 extra bits and a sticky bit keep the rounding exact
      let q := m * 2 ^ 200 / n
      let sticky := if m * 2 ^ 200 % n = 0 then 0 else 1
      (Fp.fin (xor x y) (2 * q + sticky) (e - g - 201)).bits32

/-- Is x < y? NaN compares false. -/
def fpLt (a b : Nat) : Bool :=
  match Fp.ofBits fp32 a, Fp.ofBits fp32 b with
  | .nan, _ => false
  | _, .nan => false
  | .inf x, .inf y => x && !y
  | .inf x, .fin _ _ _ => x
  | .fin _ _ _, .inf y => !y
  | .fin x m e, .fin y n g => let t := min e g; decide (scaledInt x m e t < scaledInt y n g t)

/-- Is the code a NaN? -/
def fpIsNan (a : Nat) : Bool := match Fp.ofBits fp32 a with | .nan => true | _ => false

end Sys2Proof.Machine
end

