-- ==== Sys2Proof/Machine/Flags.lean ====
section
/-! DEFINITION. Results that come with flags: the output conversions of R73 (range and NaN), and the saturating additions of the
Chamber accumulator (R69) and of accumulating writes (R311). -/

namespace Sys2Proof.Machine

/-- A converted output value with its flags. -/
structure Conv where
  code : Nat
  range : Bool := false
  nan : Bool := false
  deriving DecidableEq, Repr

/-- Conversion of an FP32 code to an output format (R73): out-of-range values become infinite in BF16 and the largest finite
magnitude in the FP8 formats; every finite value beyond the range and every infinite value sets `range`, a NaN sets `nan`. -/
def convert (f : FpFmt) (v : Nat) : Conv :=
  match Fp.ofBits fp32 v with
  | .nan =>
    { code := if f = bf16 then 0x7FC0 else if f = e4m3 then 0x7F else 0x7E, nan := true }
  | .inf n => { code := if f = e4m3 then f.topCode n else f.infCode n, range := true }
  | .fin n m e =>
    let r := f.round m e
    if f.beyond r.1 r.2 then { code := if f = bf16 then f.infCode n else f.topCode n, range := true }
    else { code := f.finCode n r.1 r.2 }

/-- The format of an OUTFMT code 0 to 2 (R72). -/
def outFmt (k : Nat) : FpFmt := if k = 0 then bf16 else if k = 1 then e4m3 else e5m2

/-- Bytes per output value of an OUTFMT code (R278). -/
def outBytes (k : Nat) : Nat := if k = 0 then 2 else if k = 3 then 4 else 1

/-- Addition in the 24-bit Chamber accumulator: the sum, and whether it was set to a limit (R69). -/
def acc24 (a b : Int) : Int × Bool :=
  let v := a + b
  (clampInt (-8388608) 8388607 v, decide (v < -8388608) || decide (8388607 < v))

/-- Addition of an accumulating write: the sum, and whether it saturated (R311). -/
def acc32 (a b : Int) : Int × Bool :=
  let v := a + b
  (clampInt (-2147483648) 2147483647 v, decide (v < -2147483648) || decide (2147483647 < v))

end Sys2Proof.Machine
end

