-- ==== Sys2Proof/Machine/Wave.lean ====
section
/-! DEFINITION. Waves of a Gallery: input delivery, plane select, slices and passes, split retry, accumulation, the checksum test, the
Sidestreet's correction, the merge and the output (chapters 02, 03, 04, R160, R200 to R203, R278). -/

namespace Sys2Proof.Machine

/-! ## The shape of a wave -/

/-- Chambers per output group (Table 3.2). -/
def Wave.g (w : Wave) : Nat := 2 ^ w.group
/-- Slices of the input mode (Table 2.3), and is the mode A4, is it signed? -/
def Wave.a4 (w : Wave) : Bool := decide (w.inmode ≥ 2)
def Wave.slices (w : Wave) : Nat := if w.a4 then 4 else 8
def Wave.signedIn (w : Wave) : Bool := decide (w.inmode % 2 = 0)
/-- Bytes of an input block (R50). -/
def Wave.blockLen (w : Wave) : Nat := if w.a4 then 512 else 1024

/-- Slice weight s_b (Table 2.3). -/
def Wave.sb (w : Wave) (b : Nat) : Int :=
  if w.signedIn ∧ b + 1 = w.slices then -(2 ^ b : Int) else 2 ^ b

/-- The input code of a row of a block (R50). -/
def Wave.inputCode (w : Wave) (pos r : Nat) : Nat :=
  let blk := w.blocks.getD pos []
  if w.a4 then bits (blk.getD (r / 2) 0).toNat (4 * (r % 2)) 4 else (blk.getD r 0).toNat

/-- The input of a row of the IN_ROW numbering of R109, as coded in the wave's mode. -/
def Wave.inputAt (w : Wave) (inRow : Nat) : Int :=
  let c := w.inputCode (inRow / 1024) (inRow % 1024)
  if w.signedIn then signed w.slices c else (c : Int)

/-- Is a row of the IN_ROW numbering unmasked (R51, R309)? -/
def maskHas (m : List (Nat × Nat)) (i : Nat) : Bool := m.any (fun r => decide (r.1 ≤ i) && decide (i < r.2))

/-- Seam position of Seam k of Chamber c (R74). -/
def Wave.pos (w : Wave) (c k : Nat) : Nat := 4 * (c % w.g) + k

/-- Output groups that contain a Chamber of the list, ascending (R70, R278). -/
def Wave.groups (w : Wave) (chms : List Nat) : List Nat :=
  (List.range (16 / w.g)).filter (fun og => chms.any (fun c => c / w.g == og))

/-- Columns of an output group (R71). -/
def Wave.width (w : Wave) : Nat := if w.w7 then 256 else 512

/-- Rows that a Seam position drives in slice b: unmasked, with bit b set (R45, R51). -/
def Wave.driven (w : Wave) (pos b : Nat) : List Nat :=
  (List.range 1024).filter (fun r => maskHas w.mask (1024 * pos + r) && bit (w.inputCode pos r) b)

/-- Rows of a pass (Table 3.4). -/
def passRows (p : Nat) : Nat × Nat := [(0, 1024), (0, 512), (0, 256), (256, 512), (512, 1024), (512, 768), (768, 1024)].getD p (0, 0)

/-- Passes that RPP declares for every converted slice (Table 3.5). -/
def rppPasses (rpp : Nat) : List Nat := if rpp = 1 then [1, 4] else if rpp = 2 then [2, 3, 5, 6] else [0]

/-- Does a saturated pass split, and into which passes (R76, R80)? -/
def splitOf (rpp p : Nat) : List Nat :=
  if rpp = 2 ∨ rpp = 3 then [] else if p = 0 then [1, 4] else if p = 1 then [2, 3] else if p = 4 then [5, 6] else []

/-- The Chambers of a wave: CHM_MASK of its node. -/
def State.waveChms (s : State) (w : Wave) : List Nat := match s.node w.node with | some (_, n) => n.chms | none => []

/-- The Seams of a wave: Chamber and Seam. -/
def chmSeams (chms : List Nat) : List (Nat × Nat) := chms.flatMap (fun c => (List.range 4).map (fun k => (c, k)))

/-- Replace the wave of a Gallery that stands at index i. -/
def State.setWave (s : State) (h : Half) (g i : Nat) (w : Wave) : State :=
  let x := s.gal h g
  s.setGal h g { x with waves := x.waves.set i w }

/-- Remove the wave at index i. -/
def State.dropWave (s : State) (h : Half) (g i : Nat) : State :=
  let x := s.gal h g
  s.setGal h g { x with waves := x.waves.eraseIdx i }

/-- The first wave in one of the phases, with its index. -/
def State.waveIn (s : State) (h : Half) (g : Nat) (ph : List WavePhase) : Option (Nat × Wave) :=
  let ws := (s.gal h g).waves
  let i := ws.findIdx (fun w => ph.contains w.phase)
  (ws[i]?).map (fun w => (i, w))

/-! ## The end of a node's part in its Galleries (R287, R317, R318) -/

/-- Does a Gallery of the node still run its program or hold a wave? -/
def State.galBusy (s : State) (h : Half) (g : Nat) : Bool :=
  !(s.gal h g).waves.isEmpty || s.on (GAL_SEQ_STATUS h g) GAL_SEQ_STATUS.RUNNING || !(s.gal h g).started

/-- A GALLERY node ends once every Gallery has passed END or halted and no wave is left; its Galleries are free. -/
def State.galMaybeEnd (s : State) (r : NodeRef) : State :=
  match s.node r with
  | none => s
  | some (_, n) =>
    if n.phase = .running ∧ n.kind = 1 ∧
        (n.gals.all (fun g => !s.galBusy n.half g) || (n.stopped && n.gals.all (fun g => (s.gal n.half g).waves.isEmpty))) then
      (n.gals.foldl (fun s g => s.setGal n.half g { s.gal n.half g with node := none, started := false }) s).endNode r 0
    else s

/-! ## Input delivery (R74, R278) -/

/-- The input blocks of a wave, positions 0 to 4G - 1, which lie one after another in the input object. -/
def Wave.readBlocks (w : Wave) (s : State) (o : Obj) (chk : Scan) : State × List (List Byte) :=
  let p := s.unitRead w.node o w.inAddr (4 * w.g * w.blockLen) chk
  (p.1, (List.range (4 * w.g)).map (fun i => Machine.slice p.2 (i * w.blockLen) w.blockLen))

/-- The field of SEAM_STATUS that shows a latch full. -/
def latchFld (l : Nat) : Fld := if l = 0 then SEAM_STATUS.LATCH_A_FULL else SEAM_STATUS.LATCH_B_FULL

/-- Write a field of SEAM_STATUS in every Seam of a wave. -/
def State.seamsWf (s : State) (h : Half) (g : Nat) (chms : List Nat) (f : Fld) (v : Nat) : State :=
  (chmSeams chms).foldl (fun s e => s.wf (SEAM_STATUS h (seamOf g e.1 e.2)) f v) s

/-- INPUT_BLOCK_DELIVERED (R74): the wave's latch becomes full. A closed gating window lets no delivery begin (R396),
and one that it held back begins when it opens. -/
def State.inputDelivered (s : State) (h : Half) (g : Nat) (chk : Scan) : State :=
  match s.waveIn h g [.filling] with
  | none => s
  | some (i, w) =>
    match s.bindObj w.node 0 with
    | none => s
    | some o =>
      if w.begun = false then s
      else
        let p := w.readBlocks s o chk
        (p.1.setWave h g i { w with phase := .latched, blocks := p.2 }).seamsWf h g (s.waveChms w) (latchFld w.latch) 1

/-- INPUT_BLOCK_DELIVERED. -/
def execInputBlockDelivered (h : Half) (g : Nat) (chk : Scan) (s : State) : Host.Outcome State Fault Refusal :=
  whenLive s (fun s => if g < 32 then s.inputDelivered h g chk else s)

/-! ## Start, plane select and refusal (R55 to R61, R160, R202) -/

/-- Slot to which a node's graph is pinned for its weight set: set and slot (R173). -/
def State.pinOf (s : State) (r : NodeRef) : Option (Nat × Nat) :=
  match s.node r with
  | none => none
  | some (gr, n) =>
    let set := bits (gr.wsets.getD n.wset 0) 0 9
    (gr.pins.find? (fun p => decide (p.half = n.half) && p.set == set)).map (fun p => (set, p.slot))

/-- Physical plane of a logical plane in a slot; none when the slot does not map it (R159, R160). -/
def State.mapPlane (s : State) (h : Half) (set slot l : Nat) : Option Nat :=
  let i := 2 * set + slot
  if bit (s.rf (JCT_WSET_LIVE h i) JCT_WSET_LIVE.LVALID) l then
    some (if l < 8 then bits (s.rf (JCT_WSET_MAP_LO h i) JCT_WSET_MAP_LO.P_LO) (4 * l) 4
      else bits (s.rf (JCT_WSET_MAP_HI h i) JCT_WSET_MAP_HI.P_HI) (4 * (l - 8)) 4)
  else none

/-- Waves of a Gallery that have started and not passed the merge (R202). -/
def Gal.beforeMerge (x : Gal) : Nat :=
  (x.waves.filter (fun w => [WavePhase.selecting, .slices, .ended].contains w.phase)).length

/-- Does a pending NV step of the Seam go ahead of a waiting wave: it has been pending for NV_DEFER or longer (R59)? -/
def State.nvForced (s : State) (h : Half) (seam : Nat) : Bool :=
  (mapGet (fun _ => []) (s.half h).nv.pending seam).any (fun e =>
    decide (16 * s.rf (SEAM_CTRL h seam) SEAM_CTRL.NV_DEFER ≤ s.us h - e.us))

/-- Does a sense of the Seam go ahead of a waiting wave: a continuous read or a T0_SLC source waits for a row of it, as if NV_DEFER were 0
(R136, R246)? -/
def NvHalf.senseWaits (n : NvHalf) (seam : Nat) : Bool :=
  (match n.host.cont with
    | some (q, _) => q / 16 == seam && !n.reads.isEmpty
    | none => false) || n.slcAsk.any (fun e => e.2 / 16384 == seam)

/-- May the wave start: its Gallery is on, no wave of it runs, R202 lets it, and no Seam is taken by an NV step or a sense? -/
def State.mayStart (s : State) (h : Half) (g : Nat) (w : Wave) : Bool :=
  s.domOn (galDom h g) && (s.waveIn h g [.selecting, .slices]).isNone && decide ((s.gal h g).beforeMerge < 2) &&
  (chmSeams (s.waveChms w)).all (fun e =>
    s.rf (SEAM_STATUS h (seamOf g e.1 e.2)) SEAM_STATUS.STATE != 4 && !s.nvForced h (seamOf g e.1 e.2) &&
    !(s.half h).nv.senseWaits (seamOf g e.1 e.2))

/-- A refused wave leaves its Gallery and its latch; its node completes with DATA_ERROR. -/
def State.refuseWave (s : State) (h : Half) (g i : Nat) (w : Wave) : State :=
  (((s.dropWave h g i).seamsWf h g (s.waveChms w) (latchFld w.latch) 0).markNode w.node 3)

/-- INTERIM entries that correct a wave (R109): data pairs of its plane in its Chambers, rows unmasked, with the column numbered over
the Gallery's ranked output groups; on a W7 plane column 2k + 1 counts 8 times. -/
def State.stuckTerms (s : State) (h : Half) (g : Nat) (w : Wave) (chms : List Nat) : List (Nat × Nat × Int) :=
  let groups := w.groups chms
  (s.stuckEntries h).filterMap (fun e =>
    let p := getF e.2.1 NV_STUCK_LOC.PLANE % 32768
    let row := getF e.2.1 NV_STUCK_LOC.ROW
    let col := getF e.2.2 NV_STUCK_INFO.COL
    let seam := p / 16
    let c := seam % 64 / 4
    let inRow := 1024 * w.pos c (seam % 4) + row
    let d := w4 (getF e.2.2 NV_STUCK_INFO.W_INT) - w4 (getF e.2.2 NV_STUCK_INFO.W_ACT)
    if getF e.2.2 NV_STUCK_INFO.STATE = 1 ∧ seam / 64 = g ∧ p % 16 = w.plane ∧ chms.contains c ∧ col < 512 ∧ maskHas w.mask inRow then
      let k := groups.findIdx (· == c / w.g)
      if w.w7 then some (inRow, k * 256 + col / 2, if col % 2 = 1 then 8 * d else d) else some (inRow, k * 512 + col, d)
    else none)

/-! ### Slices (R52 to R54, R76 to R82) -/

/-- Does a Seam skip slice b (R52, R54)? -/
def State.skips (s : State) (h : Half) (g : Nat) (w : Wave) (c k b : Nat) : Bool :=
  s.on (SEAM_CTRL h (seamOf g c k)) SEAM_CTRL.ZSKIP_EN && (w.driven (w.pos c k) b).isEmpty

/-- Rows that a Seam drives in a pass. -/
def Wave.passDriven (w : Wave) (c k b p : Nat) : List Nat :=
  (w.driven (w.pos c k) b).filter (fun r => decide ((passRows p).1 ≤ r) && decide (r < (passRows p).2))

/-- Is a pass that the Chamber needs left out of its timeline share: every Seam skips (R81)? -/
def State.chmSkipsPass (s : State) (h : Half) (g : Nat) (w : Wave) (c b p : Nat) : Bool :=
  (List.range 4).all (fun k => s.on (SEAM_CTRL h (seamOf g c k)) SEAM_CTRL.ZSKIP_EN && (w.passDriven c k b p).isEmpty)

/-- The next pass of the current slice after code `p`: the lowest that a Chamber needs and that some Seam converts (R81). -/
def State.nextPass (s : State) (h : Half) (g : Nat) (w : Wave) (lo : Nat) : Option Nat :=
  (List.range 7).find? (fun p => decide (lo ≤ p) &&
    w.chms.any (fun e => e.2.need.contains p && !s.chmSkipsPass h g w e.1 w.slice p))

/-- The needs of every Chamber at the start of a slice. -/
def Wave.armSlice (w : Wave) (b : Nat) : Wave :=
  { w with slice := b,
           chms := w.chms.map (fun e => (e.1, { e.2 with need := rppPasses w.rpp, v := List.replicate 544 0 })) }

/-- Count the Seams that skip slice b (SEAM_SKIP_COUNT). -/
def State.countSkips (s : State) (h : Half) (g : Nat) (w : Wave) (b : Nat) : State :=
  (chmSeams (w.chms.map Prod.fst)).foldl (fun s e =>
    if s.skips h g w e.1 e.2 b then s.add (SEAM_SKIP_COUNT h (seamOf g e.1 e.2)) SEAM_SKIP_COUNT.SKIPS 1 else s) s

/-- Go on to the next slice of the list that is not left out (R53), or past the last one. DESIGN CHOICE (log entry 65): GAL_STATUS.SLICE
keeps the last slice's number once no slice runs. -/
def State.enterSlice (s : State) (h : Half) (g i : Nat) (w : Wave) : List Nat → State
  | [] =>
    let s1 := s.setWave h g i { w with slice := w.slices, pass := 7 }
    s1.wf (GAL_STATUS h g) GAL_STATUS.PASS 7
  | b :: bs =>
    let s1 := s.countSkips h g w b
    let w1 := w.armSlice b
    match s1.nextPass h g w1 0 with
    | none => s1.enterSlice h g i w bs
    | some p =>
      let s2 := s1.setWave h g i { w1 with pass := p }
      (s2.wf (GAL_STATUS h g) GAL_STATUS.PASS p).wf (GAL_STATUS h g) GAL_STATUS.SLICE b

/-- Slices from b on. -/
def Wave.slicesFrom (w : Wave) (b : Nat) : List Nat := (List.range w.slices).filter (fun x => decide (b ≤ x))

/-- Does a debug-open boot treat the plane as having EN 0: it belongs to a CONFIDENTIAL group (R437)? -/
def State.debugHides (s : State) (h : Half) (q : Nat) : Bool :=
  s.on SEC_STATE SEC_STATE.DEBUG_OPEN && s.rf (NV_PROT_STATE h (q / 64)) NV_PROT_STATE.MODE == 2

/-- The wave starts slice 0 (R56, R61): its plane is tested; a refused wave leaves, an accepted one runs. -/
def State.startSlices (s : State) (h : Half) (g i : Nat) (w : Wave) : State :=
  let chms := s.waveChms w
  let seams := (chmSeams chms).map (fun e => seamOf g e.1 e.2)
  let off := seams.filter (fun x => !s.planeEn h (16 * x + w.plane) || s.debugHides h (16 * x + w.plane))
  let w7s := seams.map (fun x => s.planeW7 h (16 * x + w.plane))
  let mixed := w7s.contains true && w7s.contains false
  let s1 := s.seamsWf h g chms SEAM_STATUS.PLANE w.plane
  if !off.isEmpty || mixed then
    let s2 := off.foldl (fun s x => s.wf (SEAM_EVENT h x) SEAM_EVENT.DISABLED_PLANE 1) s1
    let s3 := if mixed then seams.foldl (fun s x => s.wf (SEAM_EVENT h x) SEAM_EVENT.W7_MISMATCH 1) s2 else s2
    let s4 := (s3.refuseWave h g i w).seamsWf h g chms SEAM_STATUS.STATE 2
    let x := if off.isEmpty then seams.headD 0 else off.headD 0
    (s4.logNode h w.node { logSoft 6 0 with event := if off.isEmpty then 5 else 3, subject := planeId h (16 * x + w.plane), kind := 1 }).galMaybeEnd
      w.node
  else
    let w1 := { w with
      phase := .slices
      w7 := w7s.headD false
      chms := chms.map (fun c => (c, { c := List.replicate 544 0, clamped := List.replicate 544 false })) }
    let w2 := { w1 with stuck := s.stuckTerms h g w1 chms }
    let s2 := seams.foldl (fun s x => s.add (SEAM_WAVE_COUNT h x) SEAM_WAVE_COUNT.WAVES 1) (s1.seamsWf h g chms SEAM_STATUS.STATE 3)
    let a := GAL_STATUS h g
    let s3 := ((s2.wf a GAL_STATUS.WAVE_ACTIVE 1).wf a GAL_STATUS.GAIN w.gain).wf a GAL_STATUS.RPP w.rpp
    let s4 := (s3.wf a GAL_STATUS.GROUP w.group).wf a GAL_STATUS.OUTFMT w.outfmt
    s4.enterSlice h g i w2 (w2.slicesFrom 0)

/-- A wave whose logical plane its slot does not map is refused before any select and recorded, naming the set, the slot and L
(R160). -/
def State.refuseLplane (s : State) (h : Half) (g i : Nat) (w : Wave) : State :=
  let pin := (s.pinOf w.node).getD (0, 0)
  let s1 := s.refuseWave h g i w
  (s1.logNode h w.node { logSoft 2 (w.lplane + 16 * pin.2) with subject := pin.1, kind := 10 }).galMaybeEnd w.node

/-- WAVE_START (R57): a plane select first where a Seam needs one (R56), else slice 0 at once. -/
def State.waveStart (s : State) (h : Half) (g : Nat) : State :=
  match s.waveIn h g [.latched] with
  | none => s
  | some (i, w) =>
    if !s.mayStart h g w || s.nodeAborted w.node then s
    else match (s.pinOf w.node).bind (fun p => s.mapPlane h p.1 p.2 w.lplane) with
      | none => s.refuseLplane h g i w
      | some p =>
        let w1 := { w with plane := p }
        let need := (chmSeams (s.waveChms w)).filter (fun e =>
          let a := SEAM_STATUS h (seamOf g e.1 e.2)
          s.rf a SEAM_STATUS.STATE != 2 || s.rf a SEAM_STATUS.PLANE != p)
        if need.isEmpty then (s.setWave h g i w1).startSlices h g i w1
        else need.foldl (fun s e =>
          (s.wf (SEAM_STATUS h (seamOf g e.1 e.2)) SEAM_STATUS.STATE 1).wf (SEAM_STATUS h (seamOf g e.1 e.2)) SEAM_STATUS.PLANE p)
          (s.setWave h g i { w1 with phase := .selecting })

/-- WAVE_START. -/
def execWaveStart (h : Half) (g : Nat) (s : State) : Host.Outcome State Fault Refusal :=
  whenLive s (fun s => if g < 32 then s.waveStart h g else s)

/-- PLANE_SELECT_DONE (R55, R56, R61). A wave of an aborted node ends here with its Seams READY (Table 10.11). -/
def State.selectDone (s : State) (h : Half) (g : Nat) : State :=
  match s.waveIn h g [.selecting] with
  | none => s
  | some (i, w) =>
    if s.nodeAborted w.node then
      let s1 := (s.dropWave h g i).seamsWf h g (s.waveChms w) (latchFld w.latch) 0
      ((s1.seamsWf h g (s.waveChms w) SEAM_STATUS.STATE 2).seamsWf h g (s.waveChms w) SEAM_STATUS.PLANE w.plane).galMaybeEnd w.node
    else s.startSlices h g i w

/-- PLANE_SELECT_DONE. -/
def execPlaneSelectDone (h : Half) (g : Nat) (s : State) : Host.Outcome State Fault Refusal :=
  whenLive s (fun s => if g < 32 then s.selectDone h g else s)

/-! ### One pass of one Seam (R46 to R48, R79, R83, R84) -/

/-- The ideal flip step of a charge sum at gain code g (R46). -/
def flipStep (g S : Nat) : Nat := (2 * S + 2 ^ g) / 2 ^ (g + 1)

/-- The analog term A of Table 3.7 for a driven rows and a plane state. -/
def analogA (a st : Nat) : Nat :=
  let row := if a ≤ 64 then [1, 2, 4] else if a ≤ 256 then [2, 3, 6] else if a ≤ 512 then [3, 4, 8] else [4, 6, 12]
  row.getD (min st 2) 0

/-- The per-pass error term e (R83, R84). -/
def errTerm (g a st : Nat) : Nat := if a = 0 then 0 else 2 ^ g - 1 + analogA a st

/-- The count that a Seam column delivers, from its driven rows, its charge sums and a free value: any count whose distance from the ideal
count f_p - f_n, and from the exact difference of the sums, stays within the error term (R47, R83, R84; log entry 6). On a WORN plane no
bound is promised (R86). -/
def delivered (g a st sp sn free : Nat) : Int :=
  let d : Int := (sp : Int) - sn
  let n : Int := (flipStep g sp : Int) - flipStep g sn
  let e : Int := errTerm g a st
  let lo := max (-((e - d) / (2 ^ g : Int))) (n - e / (2 ^ g : Int))
  let hi := min ((d + e) / (2 ^ g : Int)) (n + e / (2 ^ g : Int))
  if a = 0 then 0
  else if st = 3 then ((free % 1024 : Nat) : Int) - 512
  else lo + ((free % ((hi - lo + 1).toNat) : Nat) : Int)

/-- What one Seam column contributes in a pass: its value or clamp value, whether a comparator did not flip, whether the pulse guard
tripped (R48, R79). -/
structure ColOut where
  v : Int
  noFlip : Bool := false
  guard : Bool := false
  deriving DecidableEq, Repr

/-- A column's contribution. Where one comparator does not flip, the count runs on to the end of ramp step 255, and the pulse guard trips if
it would pass its limit on the way. -/
def colOut (g a st sp sn free : Nat) : ColOut :=
  let n := delivered g a st sp sn free
  let p := decide (flipStep g sp ≥ 256)
  let m := decide (flipStep g sn ≥ 256)
  if p && m then { v := 0, noFlip := true }
  else if p then { v := 127, noFlip := true, guard := decide (flipStep g sn + 127 < 256) }
  else if m then { v := -128, noFlip := true, guard := decide (flipStep g sp + 128 < 256) }
  else if n > 127 then { v := 127, guard := true }
  else if n < -128 then { v := -128, guard := true }
  else { v := n }

/-- Charge sums of the 544 pairs over a list of rows. -/
def chargeSums (rows : List (List (Nat × Nat))) : List (Nat × Nat) :=
  rows.foldl (fun acc ps => (List.range 544).map (fun j =>
    ((acc.getD j (0, 0)).1 + (ps.getD j (0, 0)).1, (acc.getD j (0, 0)).2 + (ps.getD j (0, 0)).2)))
    (List.replicate 544 (0, 0))

/-- The 544 columns of one Seam in a pass. -/
def State.seamPass (s : State) (h : Half) (g : Nat) (w : Wave) (c k : Nat) : List ColOut :=
  let plane := 16 * seamOf g c k + w.plane
  let rows := w.passDriven c k w.slice w.pass
  let sums := chargeSums (rows.map (fun r => s.pairs h plane r))
  (List.range 544).map (fun j =>
    colOut w.gain rows.length (s.nstate h plane) (sums.getD j (0, 0)).1 (sums.getD j (0, 0)).2
      (Config.free (s.freeCtr + 544 * (4 * c + k) + j)))

def ColOut.sat (x : ColOut) : Bool := x.noFlip || x.guard

/-- Column j of a Seam's outputs. -/
def colAt (outs : List (List ColOut)) (k j : Nat) : ColOut := (outs.getD k []).getD j ⟨0, false, false⟩

/-- Sum of a list. -/
def sumNat (l : List Nat) : Nat := l.foldl (· + ·) 0
def sumInt (l : List Int) : Int := l.foldl (· + ·) 0

/-- Counters and events of one Seam for a pass it converts. -/
def State.seamCounts (s : State) (h : Half) (seam : Nat) (cols : List ColOut) : State :=
  let n := (cols.filter ColOut.sat).length
  let s1 := (s.add (SEAM_SLICE_COUNT h seam) SEAM_SLICE_COUNT.SLICES 1).add (SEAM_SAT_COUNT h seam) SEAM_SAT_COUNT.SATURATIONS n
  let s2 := if cols.any (·.noFlip) then s1.wf (SEAM_EVENT h seam) SEAM_EVENT.SAT 1 else s1
  if cols.any (·.guard) then s2.wf (SEAM_EVENT h seam) SEAM_EVENT.PULSE_GUARD 1 else s2

/-- Add a list to another at one index. -/
def addAt (l : List Nat) (i n : Nat) : List Nat := l.set i (l.getD i 0 + n)

/-- One pass of one Chamber: a pass that saturates and splits is discarded and its parts are needed; a final pass enters V, with the
clamp values of its saturated Seam columns (R78, R79). -/
def State.chmPass (s : State) (h : Half) (g : Nat) (w : Wave) (c : Nat) (a : ChmAcc) : State × ChmAcc :=
  let outs : List (List ColOut) := (List.range 4).map (fun k => s.seamPass h g w c k)
  let drove (k : Nat) : Nat := (w.passDriven c k w.slice w.pass).length
  let conv := (List.range 4).filter (fun k => drove k != 0 || !s.on (SEAM_CTRL h (seamOf g c k)) SEAM_CTRL.ZSKIP_EN)
  let s1 := conv.foldl (fun s k => s.seamCounts h (seamOf g c k) (outs.getD k [])) s
  let nsat := sumNat (outs.map (fun o => (o.filter ColOut.sat).length))
  let i := 16 * g + c
  let s2 := if nsat ≠ 0 ∧ w.pass = 0 then s1.add (CHM_RETRY h i) CHM_RETRY.HALF_SPLITS 1 else s1
  let parts := splitOf w.rpp w.pass
  if nsat != 0 && !parts.isEmpty then
    let s3 := if w.pass = 0 then s2 else s2.add (CHM_RETRY h i) CHM_RETRY.QUARTER_SPLITS 1
    (s3, { a with need := a.need ++ parts })
  else
    let sbAbs := (w.sb w.slice).natAbs
    let v : List Int := (List.range 544).map (fun j =>
      a.v.getD j 0 + sumInt ((List.range 4).map (fun k => (colAt outs k j).v)))
    let cl : List Bool := (List.range 544).map (fun j =>
      a.clamped.getD j false || (List.range 4).any (fun k => (colAt outs k j).sat))
    let q := (List.range 4).foldl (fun l k => addAt l k (sbAbs * drove k)) a.q
    let e := (List.range 4).foldl (fun l k => addAt l k
      (sbAbs * errTerm w.gain (drove k) (s.nstate h (16 * seamOf g c k + w.plane)))) a.e
    let s3 := (s2.add (GAL_CLIP_COUNT h g) GAL_CLIP_COUNT.CLAMPS nsat).add (CHM_CLIP h i) CHM_CLIP.CLAMPS nsat
    (s3, { a with v := v, clamped := cl, q := q, e := e })

/-- The end of a slice: every Chamber adds 2^g x s_b x V to its results (R69). -/
def Wave.endSlice (w : Wave) : Wave × Bool :=
  let step (e : Nat × ChmAcc) : (Nat × ChmAcc) × Bool :=
    let r := (List.range 544).map (fun j => acc24 (e.2.c.getD j 0) ((2 ^ w.gain : Int) * w.sb w.slice * e.2.v.getD j 0))
    ((e.1, { e.2 with
      c := r.map Prod.fst
      clamped := (List.range 544).map (fun j => e.2.clamped.getD j false || (r.getD j (0, false)).2) }), r.any Prod.snd)
  let rs := w.chms.map step
  ({ w with chms := rs.map Prod.fst }, rs.any Prod.snd)

/-- SLICE_PASS_END (R76 to R81): the pass's counts reach the Chambers; the next pass, slice, or the end of the slices follows. -/
def State.passEnd (s : State) (h : Half) (g : Nat) : State :=
  match s.waveIn h g [.slices] with
  | none => s
  | some (i, w) =>
    if w.pass ≥ 7 then s
    else
      let r := w.chms.foldl (fun p e =>
        if e.2.need.contains w.pass then
          let q := p.1.chmPass h g w e.1 e.2
          (q.1, p.2 ++ [(e.1, q.2)])
        else (p.1, p.2 ++ [e])) (s, ([] : List (Nat × ChmAcc)))
      let s1 := { r.1 with freeCtr := s.freeCtr + 544 * 64 }
      let s2 := if w.pass ≠ 0 then s1.add (GAL_RETRY_COUNT h g) GAL_RETRY_COUNT.PASSES 1 else s1
      let w1 := { w with chms := r.2 }
      match s2.nextPass h g w1 (w.pass + 1) with
      | some p => (s2.setWave h g i { w1 with pass := p }).wf (GAL_STATUS h g) GAL_STATUS.PASS p
      | none =>
        let e := w1.endSlice
        let s3 := if e.2 then s2.wf (GAL_EVENT h g) GAL_EVENT.ACC_SAT 1 else s2
        s3.enterSlice h g i e.1 (e.1.slicesFrom (w.slice + 1))

/-- SLICE_PASS_END. -/
def execSlicePassEnd (h : Half) (g : Nat) (s : State) : Host.Outcome State Fault Refusal :=
  whenLive s (fun s => if g < 32 then s.passEnd h g else s)

/-! ## The wave's end: T, clamps, the checksum test (R69 to R71, R82, R93 to R99) -/

/-- T and the clamp marks of an output group: the exact sum over its Chambers (R70, R82). -/
def Wave.groupT (w : Wave) (og : Nat) : List Int × List Bool :=
  let cs := (w.chms.filter (fun e => e.1 / w.g == og)).map Prod.snd
  ((List.range 544).map (fun j => (cs.map (fun a => a.c.getD j 0)).foldl (· + ·) 0),
   (List.range 544).map (fun j => cs.any (fun a => a.clamped.getD j false)))

/-- The error bound E of an output group, and the residual term of a column group (R83, R93). -/
def Wave.groupE (w : Wave) (og : Nat) : Nat :=
  ((w.chms.filter (fun e => e.1 / w.g == og)).map (fun e => e.2.e.foldl (· + ·) 0)).foldl (· + ·) 0
def State.groupRhoQ (s : State) (h : Half) (g : Nat) (w : Wave) (og k : Nat) : Nat :=
  ((w.chms.filter (fun e => e.1 / w.g == og)).map (fun e =>
    ((List.range 4).map (fun i => s.rho h (16 * seamOf g e.1 i + w.plane) k * e.2.q.getD i 0)).foldl (· + ·) 0)).foldl (· + ·) 0

/-- The test of one column group (R93): Δ and τ. -/
def State.chkTest (s : State) (h : Half) (g : Nat) (w : Wave) (og k : Nat) (t : List Int) : Int × Nat :=
  let sum := (List.range 16).foldl (fun (a : Int) j => a + t.getD (16 * k + j) 0) 0
  (sum - 16 * t.getD (512 + k) 0,
   32 * w.groupE og + s.groupRhoQ h g w og k + 16 * s.rf (GAL_CHK_CTRL h g) GAL_CHK_CTRL.MARGIN)

/-- Is a column group left out of the test (R82)? -/
def groupClamped (cl : List Bool) (k : Nat) : Bool :=
  (List.range 16).any (fun j => cl.getD (16 * k + j) false) || cl.getD (512 + k) false

/-- One tested group: output group, column group, Δ and τ. -/
structure ChkOut where
  og : Nat
  k : Nat
  delta : Int
  tol : Nat
  deriving DecidableEq, Repr

/-- Results of the tests that run on a wave. DESIGN CHOICE (log entry 66): they are ordered by output group and then by column group, and the
first that misses is the wave's first missing group (R95). -/
def State.chkTests (s : State) (h : Half) (g : Nat) (w : Wave) : List ChkOut :=
  w.t.flatMap (fun e =>
    let cl := mapGet (fun _ => []) w.clampT e.1
    ((List.range 32).filter (fun k => !groupClamped cl k)).map (fun k =>
      let d := s.chkTest h g w e.1 k e.2
      { og := e.1, k := k, delta := d.1, tol := d.2 }))

/-- Does a tested group miss? -/
def ChkOut.miss (x : ChkOut) : Bool := decide (x.delta.natAbs > x.tol)

/-- What a wave's misses do (R95, R96). -/
def State.chkMiss (s : State) (h : Half) (g : Nat) (w : Wave) (ms : List ChkOut) : State :=
  match ms with
  | [] => s
  | m :: _ =>
    let s1 := (s.wf (GAL_CHK_EVENT h g) GAL_CHK_EVENT.MISS 1).add (GAL_CHK_MISSES h g) GAL_CHK_MISSES.MISSES ms.length
    let a := GAL_CHK_LAST h g
    let s2 := ((s1.wf a GAL_CHK_LAST.GROUP m.k).wf a GAL_CHK_LAST.OUT_GROUP m.og).wf a GAL_CHK_LAST.PLANE w.plane
    let delta := unsigned 32 (clampInt (-2147483648) 2147483647 m.delta)
    let tol := min m.tol 0xFFFFFFFF
    let s3 := (s2.wf (GAL_CHK_LAST_DELTA h g) GAL_CHK_LAST_DELTA.DELTA delta).wf (GAL_CHK_LAST_TOL h g) GAL_CHK_LAST_TOL.TOL tol
    let s4 := s3.logNode h w.node { logData 6 with event := 1, subject := 32 * h.num + g, kind := 3, detail := delta + tol * 2 ^ 32 }
    let s5 := if s4.on (GAL_CHK_CTRL h g) GAL_CHK_CTRL.MISS_ACTION then s4.markNode w.node 3 else s4
    w.chms.foldl (fun s e => (List.range 4).foldl (fun s k =>
      let gs := (ms.filter (fun x => x.og == e.1 / w.g)).map ChkOut.k
      if !gs.isEmpty && e.2.q.getD k 0 != 0 then s.chargeMiss h (16 * seamOf g e.1 k + w.plane) gs else s) s) s5

/-- Planes of Seams to which no miss was charged count a clean wave while in WATCH (Table 4.2), where a group of their output group was
tested. -/
def State.chkClean (s : State) (h : Half) (g : Nat) (w : Wave) (xs : List ChkOut) : State :=
  w.chms.foldl (fun s e => (List.range 4).foldl (fun s k =>
    let mine := xs.filter (fun x => x.og == e.1 / w.g)
    if mine.isEmpty || (mine.any ChkOut.miss && e.2.q.getD k 0 != 0) then s
    else s.cleanWave h (16 * seamOf g e.1 k + w.plane)) s) s

/-- The checksum test of a wave (R93 to R96): the new state, and whether a group missed. -/
def State.chkWave (s : State) (h : Half) (g : Nat) (w : Wave) : State × Bool :=
  if s.on (GAL_CHK_CTRL h g) GAL_CHK_CTRL.EN then
    let xs := s.chkTests h g w
    let ms := xs.filter ChkOut.miss
    let s1 := s.add (GAL_CHK_TESTS h g) GAL_CHK_TESTS.TESTS xs.length
    let s2 := if xs.length < 32 * w.t.length then s1.wf (GAL_CHK_EVENT h g) GAL_CHK_EVENT.EXCLUDED 1 else s1
    (((s2.chkMiss h g w ms).chkClean h g w xs).runRefresh h, !ms.isEmpty)
  else (s, false)

/-- WAVE_END (R57, R69 to R71): T for every column, the clamp marks, the checksum test; the Seams are READY and the latch is free.
A wave of an aborted node leaves with no output (Table 10.11). -/
def State.waveEnd (s : State) (h : Half) (g : Nat) : State :=
  match s.waveIn h g [.slices] with
  | none => s
  | some (i, w) =>
    if w.pass < 7 then s
    else
      let chms := w.chms.map Prod.fst
      let ogs := w.groups chms
      let w1 := { w with t := ogs.map (fun og => (og, (w.groupT og).1)), clampT := ogs.map (fun og => (og, (w.groupT og).2)) }
      let clip := w1.clampT.any (fun e => e.2.contains true)
      let s1 := ((s.seamsWf h g chms SEAM_STATUS.STATE 2).seamsWf h g chms (latchFld w.latch) 0).wf (GAL_STATUS h g) GAL_STATUS.WAVE_ACTIVE 0
      let s2 := if clip then (s1.wf (GAL_EVENT h g) GAL_EVENT.CLIPPED 1).markNode w.node 2 else s1
      let c := s2.chkWave h g w1
      let x := c.1.gal h g
      let s3 := c.1.setGal h g { x with seq := { x.seq with missed := x.seq.missed || c.2, clipped := x.seq.clipped || clip } }
      if s.nodeAborted w.node then (s3.dropWave h g i).galMaybeEnd w.node
      else s3.setWave h g i { w1 with phase := .ended }

/-- WAVE_END. -/
def execWaveEnd (h : Half) (g : Nat) (s : State) : Host.Outcome State Fault Refusal :=
  whenLive s (fun s => if g < 32 then s.waveEnd h g else s)

/-- HEALTH_WATCH_EXPIRE (R98): a plane in WATCH has had WATCH x 64 clean waves. -/
def execHealthWatchExpire (h : Half) (p : Nat) (s : State) : Host.Outcome State Fault Refusal :=
  whenLive s (fun s =>
    if s.health h p = 3 ∧ (s.planeRec h p).clean ≥ s.watchWaves h ∧ p < 32768 then s.enterHealth h p 0 else s)

/-! ## The Sidestreet's correction and the merge (R200 to R203) -/

/-- Does the wave pass through the Sidestreet (R201)? One that took stuck-cell terms at its slice 0 does (R109). -/
def State.viaSds (s : State) (h : Half) (w : Wave) (n : Node) : Bool :=
  decide (w.outfmt ≠ 3) && (decide (n.cset ≠ 0x1FF) || decide (s.interimCount h ≠ 0) || !w.stuck.isEmpty)

/-- One term added to the sum of a column: FP32, rounded to nearest even. -/
def corrAdd (m : List (Nat × Nat)) (col : Nat) (term : Fp) : List (Nat × Nat) :=
  mapSet (fun _ => 0) m col ((Fp.ofBits fp32 (mapGet (fun _ => 0) m col)).plus term).bits32

/-- Bytes of a correction set's region from an offset (R199). -/
def State.sdsRead (s : State) (h : Half) (set off len : Nat) : List Byte :=
  memRead zeroByte (s.half h).sdsBuf (64 * s.rf (SDS_SET_REGION h set) SDS_SET_REGION.BASE + off) len

/-- First node output column of a Gallery (R278). -/
def Wave.colBase (w : Wave) (ord : Nat) (chms : List Nat) : Nat := ord * (w.groups chms).length * w.width

/-- Step 1 of R200: the stuck-cell terms. -/
def Wave.stuckCorr (w : Wave) : List (Nat × Nat) :=
  w.stuck.foldl (fun m e => corrAdd m e.2.1 (Fp.ofInt (w.inputAt e.1 * e.2.2))) []

/-- Step 2 of R200: a residual entry's term, for columns of this Gallery. -/
def Wave.residualStep (w : Wave) (base cols : Nat) (m : List (Nat × Nat)) (e : Nat) : List (Nat × Nat) :=
  let inRow := bits e 0 16
  let col := bits e 16 16
  if maskHas w.mask inRow ∧ base ≤ col ∧ col < base + cols then
    corrAdd m (col - base) ((Fp.ofInt (w.inputAt inRow)).times (Fp.ofBits bf16 (bits e 32 16)))
  else m

/-- Residual entries and outlier rows of a staged set: E, H and C (Table 7.6). -/
def State.sdsCounts (s : State) (h : Half) (set : Nat) : Nat × Nat × Nat :=
  let hd := s.sdsRead h set 0 16
  (u32 hd 4, fld hd 8 8 0, fld hd 12 16 0)

/-- Bytes of the OUT_ROW list, padded to a multiple of 8. -/
def outRowBytes (hh : Nat) : Nat := 8 * ceilDiv (2 * hh) 8

/-- Step 3 of R200: outlier row i of the set, for columns of this Gallery. -/
def State.outlierStep (s : State) (h : Half) (set base cols : Nat) (side : List Byte) (m : List (Nat × Nat)) (i : Nat) : List (Nat × Nat) :=
  let k := s.sdsCounts h set
  let x := Fp.ofBits bf16 (u16 side (2 * i))
  let rowOff := 0x20 + 8 * k.1 + outRowBytes k.2.1 + 2 * (i * k.2.2)
  (List.range cols).foldl (fun m j => corrAdd m j (x.times (Fp.ofBits bf16 (leNat (s.sdsRead h set (rowOff + 2 * (base + j)) 2))))) m

/-- An outlier row of the set is unmasked in the wave with a non-zero input (R200). -/
def State.outlierUnmasked (s : State) (h : Half) (set : Nat) (w : Wave) : Bool :=
  let k := s.sdsCounts h set
  (List.range k.2.1).any (fun i =>
    let r := leNat (s.sdsRead h set (0x20 + 8 * k.1 + 2 * i) 2)
    maskHas w.mask r && decide (w.inputAt r ≠ 0))

/-- The full correction of a wave whose node is bound to its set (R200). -/
def State.fullCorr (s : State) (h : Half) (w : Wave) (n : Node) (ord : Nat) (chms : List Nat) : State × List (Nat × Nat) :=
  let set := n.cset
  let k := s.sdsCounts h set
  let base := w.colBase ord chms
  let cols := (w.groups chms).length * w.width
  let m1 := (List.range k.1).foldl (fun m i => w.residualStep base cols m (leNat (s.sdsRead h set (0x20 + 8 * i) 8))) w.stuckCorr
  let p := match s.bindObj w.node 3 with
    | some o => s.unitRead w.node o (2 * k.2.1 * w.ord) (2 * k.2.1) {}
    | none => (s, [])
  let m2 := (List.range k.2.1).foldl (s.outlierStep h set base cols p.2) m1
  let s1 := if s.outlierUnmasked h set w then p.1.wf (SDS_EVENT h) SDS_EVENT.OUTLIER_UNMASKED 1 else p.1
  (s1, m2)

/-- Waves of a half, with their Gallery, that the Sidestreet has still to give a correction: those whose set is bound, or that need
stuck-cell terms only (`bound` true), or those that wait for their set (`bound` false). -/
def State.corrQueue (s : State) (h : Half) (bound : Bool) : List (Nat × Wave) :=
  (s.half h).gals.flatMap (fun e => (e.2.waves.filter (fun w => [WavePhase.slices, .ended].contains w.phase && !w.corrReady &&
    (match s.node w.node with
      | some (_, n) => s.viaSds h w n && (decide (n.cset = 0x1FF) || n.setBound) == bound
      | none => false))).map (fun w => (e.1, w)))
def State.corrWaits (s : State) (h : Half) (bound : Bool) : List Wave := (s.corrQueue h bound).map Prod.snd

/-- Is it the wave's turn (R201): of the waves that wait for no set, none began its input delivery earlier, nor together with it in a lower
Gallery? -/
def State.sdsTurn (s : State) (h : Half) (g : Nat) (w : Wave) : Bool :=
  (s.corrQueue h true).all (fun e => decide (w.order < e.2.order) || (e.2.order == w.order && decide (g ≤ e.1)))

/-- CORRECTION_READY (R200, R201): the Sidestreet has formed the correction of the Gallery's first wave that waits for one, if it is that
wave's turn. A wave whose node names a set needs the node bound to it; at the merge, once the deadline has passed, it takes the stuck-cell
terms alone (R203). -/
def State.correctionReady (s : State) (h : Half) (g : Nat) : State :=
  let ws := (s.gal h g).waves
  let i := ws.findIdx (fun w => [WavePhase.slices, .ended].contains w.phase && !w.corrReady && decide (w.outfmt ≠ 3))
  match ws[i]? with
  | none => s
  | some w => match s.node w.node with
    | none => s
    | some (_, n) =>
      if !s.viaSds h w n then s
      else if n.cset = 0x1FF ∨ n.setBound = true then
        if !s.sdsTurn h g w then s
        else if n.cset = 0x1FF then s.setWave h g i { w with corr := w.stuckCorr, corrReady := true }
        else
          let p := s.fullCorr h w n (g - n.galFirst) (w.chms.map Prod.fst)
          p.1.setWave h g i { w with corr := p.2, corrReady := true }
      else if n.late ∧ w.phase = .ended then
        let s1 := (s.add (SDS_SKIP_COUNT h) SDS_SKIP_COUNT.WAVES 1).wf (SDS_EVENT h) SDS_EVENT.SKIPPED 1
        (s1.markNode w.node 1).setWave h g i { w with corr := w.stuckCorr, corrReady := true }
      else s

/-- Is a correction being formed (SDS_STATUS.BUSY)? -/
def State.sdsBusy (s : State) (h : Half) : Bool := !(s.corrWaits h true).isEmpty

/-- CORRECTION_READY. -/
def execCorrectionReady (h : Half) (g : Nat) (s : State) : Host.Outcome State Fault Refusal :=
  whenLive s (fun s => if g < 32 then s.correctionReady h g else s)

/-- MERGE_DEADLINE (R203): the node's DEADLINE has passed and it is not bound to its set. -/
def execMergeDeadline (r : NodeRef) (s : State) : Host.Outcome State Fault Refusal :=
  whenLive s (fun s => match s.node r with
    | some (_, n) =>
      if n.phase = .running ∧ n.kind = 1 ∧ n.cset ≠ 0x1FF ∧ n.deadline ≠ 0 ∧ n.setBound = false then
        s.modNode r (fun n => { n with late := true })
      else s
    | none => s)

/-! ## The output stage (R72, R73, R278, R311 to R313) -/

/-- T of an output column of a ranked group: composite on a W7 plane (R71). -/
def Wave.colT (w : Wave) (t : List Int) (j : Nat) : Int :=
  if w.w7 then 8 * t.getD (2 * j + 1) 0 + t.getD (2 * j) 0 else t.getD j 0

/-- One output value from T, c, σ and β (R72). -/
def outValue (fmt : Nat) (t : Int) (c sigma beta : Nat) : Conv :=
  if fmt = 3 then { code := unsigned 32 t }
  else convert (outFmt fmt) (fpFma (fpAdd (fpOfInt t) c) (bf16To32 sigma) (bf16To32 beta))

/-- The output values of a wave in a Gallery of ordinal `ord`, in column order. `sb` holds the bytes of σ and β from SB_OFFSET on. -/
def Wave.outputs (w : Wave) (chms : List Nat) (sb : List Byte) : List Conv :=
  let groups := w.groups chms
  (List.range (groups.length * w.width)).map (fun i =>
    let t := mapGet (fun _ => []) w.t (groups.getD (i / w.width) 0)
    let n := if w.uniform then 0 else i
    outValue w.outfmt (w.colT t (i % w.width)) (mapGet (fun _ => 0) w.corr i) (u16 sb (4 * n)) (u16 sb (4 * n + 2)))

/-- Beats of 128 bytes from byte offset `off` (R75). -/
def beatsOf (off : Nat) (bs : List Byte) : List (Nat × List Byte) :=
  (List.range (bs.length / 128)).map (fun i => (off + 128 * i, slice bs (128 * i) 128))

/-- The output stage of a wave that passes the merge: its beats, with the flags of R73. A wave with EMIT off, or that needs a scale and
bias its node does not bind, writes nothing (R308, R313). -/
def State.outputStage (s : State) (h : Half) (g i : Nat) (w : Wave) (n : Node) : State :=
  let chms := w.chms.map Prod.fst
  let ord := g - n.galFirst
  let base := w.colBase ord chms
  let cols := (w.groups chms).length * w.width
  let start (s : State) (bs : List (Nat × List Byte)) : State := s.setWave h g i { w with phase := .output, beats := bs }
  let sbLen := if w.uniform then 4 else 4 * cols
  let sbOff := if w.uniform then w.sbOff else w.sbOff + 4 * base
  if w.outfmt ≠ 3 ∧ n.bind 2 = 0 then start ((s.markNode w.node 3).logNode h w.node { logSoft 6 0 with subject := 32 * h.num + g, kind := 3 }) []
  else
    let p := if w.outfmt = 3 then (s, ([] : List Byte)) else match s.bindObj w.node 2 with
      | some o => s.unitRead w.node o sbOff sbLen {}
      | none => (s, [])
    let ys := w.outputs chms p.2
    let s1 := if ys.any (·.range) then p.1.wf (GAL_EVENT h g) GAL_EVENT.FP_RANGE 1 else p.1
    let s2 := if ys.any (·.nan) then s1.wf (GAL_EVENT h g) GAL_EVENT.NAN_OUT 1 else s1
    let k := outBytes w.outfmt
    start s2 (if w.emit then beatsOf (w.outOff + base * k) (ys.flatMap (fun y => leBytes k y.code)) else [])

/-- The waves left once those in output with no beat left are gone, up to the first that still has one (R482). -/
def landedRest : List Wave → List Wave
  | [] => []
  | w :: ws => if w.phase = .output then (if w.beats.isEmpty then landedRest ws else w :: ws) else w :: landedRest ws

/-- Waves in their output with no beat left are gone, in order; their nodes may end. -/
def State.waveLanded (s : State) (h : Half) (g : Nat) : State :=
  let x := s.gal h g
  let gone := x.waves.filter (fun w => decide (w.phase = .output) && w.beats.isEmpty)
  gone.foldl (fun s w => s.galMaybeEnd w.node) (s.setGal h g { x with waves := landedRest x.waves })

/-- MERGE_PASS (R202): the Gallery's first wave at the merge passes it, with its correction ready or none needed. A wave of an aborted
node writes no output. -/
def State.mergePass (s : State) (h : Half) (g : Nat) : State :=
  match s.waveIn h g [.ended] with
  | none => s
  | some (i, w) => match s.node w.node with
    | none => s
    | some (gr, n) =>
      if gr.aborted then (s.dropWave h g i).galMaybeEnd w.node
      else if s.viaSds h w n ∧ w.corrReady = false then s
      else (s.outputStage h g i w n).waveLanded h g

/-- MERGE_PASS. -/
def execMergePass (h : Half) (g : Nat) (s : State) : Host.Outcome State Fault Refusal :=
  whenLive s (fun s => if g < 32 then s.mergePass h g else s)

/-- The words of an accumulating beat (R311): each INT32 is added to the one at its address; the second component tells saturation. -/
def accBeat (old new : List Byte) : List Byte × Bool :=
  let rs := (List.range (new.length / 4)).map (fun i => acc32 (signed 32 (u32 old (4 * i))) (signed 32 (u32 new (4 * i))))
  (rs.flatMap (fun r => leBytes 4 (unsigned 32 r.1)), rs.any Prod.snd)

/-- OUTPUT_LAND (R482, R311): the next beat of the Gallery's oldest wave in output is written in the output object. `chk` is
what the checkers find on the read of an accumulating write. -/
def State.outputLand (s : State) (h : Half) (g : Nat) (chk : Scan) : State :=
  match s.waveIn h g [.output] with
  | none => s
  | some (i, w) => match w.beats, s.bindObj w.node 1 with
    | [], _ => s.waveLanded h g
    | b :: bs, some o =>
      let s0 := s.setWave h g i { w with beats := bs }
      if w.acc then
        let p := s0.unitRead w.node o b.1 b.2.length chk
        let r := accBeat p.2 b.2
        let s1 := if r.2 then p.1.wf (GAL_SEQ_EVENT h g) GAL_SEQ_EVENT.DEST_SAT 1 else p.1
        (s1.unitWrite o b.1 r.1).waveLanded h g
      else (s0.unitWrite o b.1 b.2).waveLanded h g
    | _ :: bs, none => (s.setWave h g i { w with beats := bs }).waveLanded h g

/-- OUTPUT_LAND. -/
def execOutputLand (h : Half) (g : Nat) (chk : Scan) (s : State) : Host.Outcome State Fault Refusal :=
  whenLive s (fun s => if g < 32 then s.outputLand h g chk else s)

end Sys2Proof.Machine
end

