-- ==== Sys2Proof/Machine/Wset.lean ====
section
/-! DEFINITION. Weight sets (chapter 06): set commands, version switches, pins and releases, and their plane-table commits. -/

namespace Sys2Proof.Machine

/-! ## What the registers say of a set -/

/-- VALID and CONTEXT of a set. -/
def State.setValid (s : State) (h : Half) (n : Nat) : Bool := s.on (JCT_WSET_CTRL h n) JCT_WSET_CTRL.VALID
def State.setCtxNo (s : State) (h : Half) (n : Nat) : Nat := s.rf (JCT_WSET_CTRL h n) JCT_WSET_CTRL.CONTEXT

/-- First Chamber and number of Chambers of a set's footprint (R157). -/
def State.foot (s : State) (h : Half) (n : Nat) : Nat × Nat :=
  (s.rf (JCT_WSET_FOOT h n) JCT_WSET_FOOT.FIRST, s.rf (JCT_WSET_FOOT h n) JCT_WSET_FOOT.COUNT)

/-- Seams of a footprint. -/
def footSeams (f : Nat × Nat) : List Nat := (List.range (4 * f.2)).map (fun i => 4 * f.1 + i)

/-- State code and VERSION of a slot (Table 6.1). -/
def State.slotState (s : State) (h : Half) (n slot : Nat) : Nat := s.rf (JCT_WSET_SLOT h (2 * n + slot)) JCT_WSET_SLOT.STATE
def State.slotVersion (s : State) (h : Half) (n slot : Nat) : Nat := s.rf (JCT_WSET_SLOT h (2 * n + slot)) JCT_WSET_SLOT.VERSION
def State.inFlight (s : State) (h : Half) (n slot : Nat) : Nat := s.rf (JCT_WSET_LIVE h (2 * n + slot)) JCT_WSET_LIVE.IN_FLIGHT

/-- The map of a slot: logical plane and physical plane of each valid entry (R159). -/
def State.slotMap (s : State) (h : Half) (n slot : Nat) : List (Nat × Nat) :=
  (List.range 16).filterMap (fun l => (s.mapPlane h n slot l).map (fun p => (l, p)))

/-- Valid sets of a half. -/
def State.validSets (s : State) (h : Half) : List Nat := (List.range 512).filter (fun n => s.setValid h n)

/-- Do two footprints share a Chamber? -/
def footMeet (a b : Nat × Nat) : Bool := runsMeet a.1 a.2 b.1 b.2

/-- EN of a physical plane in every Seam of a footprint is set to a value. -/
def State.setPlaneEn (s : State) (h : Half) (f : Nat × Nat) (p : Nat) (v : Bool) : State :=
  (footSeams f).foldl (fun s x => s.setEn h (16 * x + p) v) s

/-- T0 granules (planes) that a context's valid sets are charged: 64 for each Chamber, counted once (R158). -/
def State.t0Charge (s : State) (h : Half) (c : Nat) (extra : List (Nat × Nat)) : Nat :=
  let fs := ((s.validSets h).filter (fun n => s.setCtxNo h n == c)).map (fun n => s.foot h n) ++ extra
  64 * ((List.range 512).filter (fun i => fs.any (fun f => decide (f.1 ≤ i) && decide (i < f.1 + f.2)))).length

/-! ## Commits (R176) -/

/-- The words of a set that the plane table holds. -/
def State.setWords (s : State) (h : Half) (n : Nat) : List (Nat × Word) :=
  let a := [JCT_WSET_CTRL h n, JCT_WSET_FOOT h n, JCT_WSET_SLOT h (2 * n), JCT_WSET_SLOT h (2 * n + 1), JCT_WSET_MAP_LO h (2 * n),
    JCT_WSET_MAP_LO h (2 * n + 1), JCT_WSET_MAP_HI h (2 * n), JCT_WSET_MAP_HI h (2 * n + 1)]
  a.map (fun x => (x, s.rd x)) ++ [2 * n, 2 * n + 1].map (fun i => (JCT_WSET_LIVE h i, putF (s.rd (JCT_WSET_LIVE h i)) JCT_WSET_LIVE.IN_FLIGHT 0))

/-- A commit starts when none runs and changes wait: it writes its sets as they stand now, and includes every change and release of them so
far. -/
def State.commitSets (s : State) (h : Half) : State :=
  let n := (s.half h).nv
  if n.wsetRun.isEmpty && !n.wsetDirty.isEmpty then
    s.modNv h (fun n => { n with
      wsetRun := n.wsetDirty
      wsetSnap := n.wsetDirty.flatMap (s.setWords h)
      wsetDirty := []
      wsetRel := []
      wsetRelRun := n.wsetRel
      wsetDone := []
      wsetDoneRun := n.wsetDone })
  else s

/-- A set has changed: its commit is due. -/
def State.markSet (s : State) (h : Half) (n : Nat) : State := s.modNv h (fun x => { x with wsetDirty := insertNat n x.wsetDirty })
def State.setChanged (s : State) (h : Half) (n : Nat) : State := (s.markSet h n).commitSets h

/-- EN of a physical plane is cleared in every Seam of a footprint, to be committed with the release that clears it (R174). -/
def State.releaseEn (s : State) (h : Half) (f : Nat × Nat) (p : Nat) : State :=
  (footSeams f).foldl (fun s x =>
    if s.planeEn h (16 * x + p) then
      (s.wf (SEAM_PLANE_CFG h x) SEAM_PLANE_CFG.EN (withBit (s.rf (SEAM_PLANE_CFG h x) SEAM_PLANE_CFG.EN) p false)).wf
        (SEAM_STATUS h x) SEAM_STATUS.CFG_PENDING 1
    else s) s

/-- The EN bits of a release are in the plane table. A Seam whose register differs from the table by now has a commit due. -/
def State.commitFoot (s : State) (h : Half) (r : WsetRel) : State :=
  (footSeams r.foot).foldl (fun s x =>
    let w := mapGet (fun _ => 0) (s.half h).nv.cfg x
    let w1 := putF w SEAM_PLANE_CFG.EN (r.planes.foldl (fun m p => withBit m p false) (getF w SEAM_PLANE_CFG.EN))
    let s1 := s.modNv h (fun n => { n with cfg := mapSet (fun _ => 0) n.cfg x w1 })
    if s1.cfgWord h x = w1 then
      if (s1.half h).nv.committing.contains x || !((s1.half h).nv.relPlanes x).isEmpty then s1
      else s1.wf (SEAM_STATUS h x) SEAM_STATUS.CFG_PENDING 0
    else s1.cfgPending h x) s

/-- A release whose commit has ended sets RELEASED and raises the half's loader vector (R174). -/
def State.released (s : State) (h : Half) (r : WsetRel) : State :=
  let a := JCT_WSET_RESULT h r.set
  let s1 := (s.commitFoot h r).wf a JCT_WSET_RESULT.RELEASED (s.rf a JCT_WSET_RESULT.RELEASED ||| 2 ^ r.slot)
  s1.msix 0 (4 + h.num)

/-- WSET_COMMIT_DONE (R176): the commit's words and its releases' EN bits are in the table; DONE is set for the commands that it includes,
and the next commit starts. -/
def State.wsetCommit (s : State) (h : Half) : State :=
  let n := (s.half h).nv
  if n.wsetRun.isEmpty then s
  else
    let s1 := s.modNv h (fun x => { x with
      wsets := x.wsetSnap.foldl (fun m e => mapSet (fun _ => 0) m e.1 e.2) x.wsets
      wsetRun := []
      wsetSnap := []
      wsetRelRun := []
      wsetDoneRun := [] })
    let s2 := n.wsetDoneRun.foldl (fun s x => s.wf (JCT_WSET_RESULT h x) JCT_WSET_RESULT.DONE 1) s1
    (n.wsetRelRun.foldl (fun s r => s.released h r) s2).commitSets h

/-- WSET_COMMIT_DONE. -/
def execWsetCommitDone (h : Half) (s : State) : Host.Outcome State Fault Refusal := whenLive s (fun s => s.wsetCommit h)

/-! ## Set commands (R158, R161 to R163, R177) -/

/-- A set command's answer: OP, SLOT and CODE in JCT_WSET_RESULT. A refusal is DONE at once, an accepted command after its commit. -/
def State.setAnswer (s : State) (h : Half) (n op slot code : Nat) : State :=
  let a := JCT_WSET_RESULT h n
  (((s.wf a JCT_WSET_RESULT.OP op).wf a JCT_WSET_RESULT.SLOT slot).wf a JCT_WSET_RESULT.CODE code).wf a JCT_WSET_RESULT.DONE
    (b2n (decide (code ≠ 0)))

/-- An accepted command's change, its answer, and its commit. -/
def State.setAccept (s : State) (h : Half) (n op slot : Nat) : State :=
  ((s.setAnswer h n op slot 0).modNv h (fun x => { x with
    wsetDone := insertNat n x.wsetDone, wsetDoneRun := x.wsetDoneRun.filter (· != n) })).setChanged h n

/-- CREATE's refusals in their order (R158), or 0. -/
def State.createCheck (s : State) (h : Half) (n c : Nat) : Nat :=
  let f := s.foot h n
  if s.setValid h n then 1
  else if f.2 = 0 ∨ f.1 + f.2 > 512 then 9
  else if (s.validSets h).any (fun m => s.setCtxNo h m != c && footMeet f (s.foot h m)) then 2
  else if s.t0Charge h c [f] > s.rf (MEM_CTX_T0 h c) MEM_CTX_T0.LIMIT then 3
  else 0

/-- CREATE (R158): the set is valid, with two EMPTY slots of VERSION 0. -/
def State.wsetCreate (s : State) (h : Half) (n c : Nat) : State :=
  let code := s.createCheck h n c
  if code ≠ 0 then s.setAnswer h n 1 0 code
  else
    let a := JCT_WSET_CTRL h n
    let s1 := (((s.wf a JCT_WSET_CTRL.CONTEXT c).wf a JCT_WSET_CTRL.VALID 1).wf a JCT_WSET_CTRL.CUR_SLOT 0).wf a JCT_WSET_CTRL.HAS_CURRENT 0
    let s2 := (s1.wr (JCT_WSET_SLOT h (2 * n)) 0).wr (JCT_WSET_SLOT h (2 * n + 1)) 0
    (s2.wf (MEM_CTX_T0 h c) MEM_CTX_T0.USED (s2.t0Charge h c [])).setAccept h n 1 0

/-- CREATE. -/
def execCreate (h : Half) (n c : Nat) (s : State) : Host.Outcome State Fault Refusal :=
  whenLive s (fun s => if n < 512 ∧ c < 256 then s.wsetCreate h n c else s)

/-- OPEN (R162). -/
def State.wsetOpen (s : State) (h : Half) (n slot v : Nat) : State :=
  if !s.setValid h n ∨ s.slotState h n slot ≠ 0 then s.setAnswer h n 2 slot 1
  else if v = 0 ∨ v ≤ s.slotVersion h n 0 ∨ v ≤ s.slotVersion h n 1 then s.setAnswer h n 2 slot 4
  else
    let i := 2 * n + slot
    let a := JCT_WSET_SLOT h i
    let s1 := (s.wf a JCT_WSET_SLOT.STATE 1).wf a JCT_WSET_SLOT.VERSION v
    let s2 := ((s1.wr (JCT_WSET_MAP_LO h i) 0).wr (JCT_WSET_MAP_HI h i) 0).wf (JCT_WSET_LIVE h i) JCT_WSET_LIVE.LVALID 0
    s2.setAccept h n 2 slot

/-- OPEN. -/
def execOpenSlot (h : Half) (n slot v : Nat) (s : State) : Host.Outcome State Fault Refusal :=
  whenLive s (fun s => if n < 512 ∧ slot < 2 ∧ v < 65536 then s.wsetOpen h n slot v else s)

/-- Does a load run into the slot? -/
def State.loadRuns (s : State) (h : Half) (n slot : Nat) : Bool :=
  let l := (s.half h).ldr
  l.phase != .idle && l.load && l.set == n && l.slot == slot

/-- Physical planes named by non-EMPTY slots of other valid sets that share a Chamber with a footprint (R163). -/
def State.othersPlanes (s : State) (h : Half) (n : Nat) : List Nat :=
  ((s.validSets h).filter (fun m => m != n && footMeet (s.foot h n) (s.foot h m))).flatMap (fun m =>
    [0, 1].flatMap (fun t => if s.slotState h m t = 0 then [] else (s.slotMap h m t).map Prod.snd))

/-- Are the elements of a list distinct? -/
def allDistinct : List Nat → Bool
  | [] => true
  | x :: xs => !xs.contains x && allDistinct xs

/-- ARM's checks (R163): the first failing code, or 0. -/
def State.armCheck (s : State) (h : Half) (n slot : Nat) : Nat :=
  let m := s.slotMap h n slot
  let other := if s.slotState h n (1 - slot) = 0 then [] else s.slotMap h n (1 - slot)
  if !s.setValid h n ∨ s.slotState h n slot ≠ 1 ∨ m.isEmpty ∨ s.loadRuns h n slot then 1
  else if !allDistinct (m.map Prod.snd) then 5
  else if m.any (fun e => other.any (fun x => x.2 == e.2 && x.1 != e.1)) then 5
  else if m.any (fun e => (s.othersPlanes h n).contains e.2) then 5
  else if (footSeams (s.foot h n)).all (fun x => m.all (fun e => s.planeEn h (16 * x + e.2))) then 0
  else 6

/-- ARM (R163). -/
def State.wsetArm (s : State) (h : Half) (n slot : Nat) : State :=
  let code := s.armCheck h n slot
  if code ≠ 0 then s.setAnswer h n 3 slot code
  else (s.wf (JCT_WSET_SLOT h (2 * n + slot)) JCT_WSET_SLOT.STATE 2).setAccept h n 3 slot

/-- ARM. -/
def execArm (h : Half) (n slot : Nat) (s : State) : Host.Outcome State Fault Refusal :=
  whenLive s (fun s => if n < 512 ∧ slot < 2 then s.wsetArm h n slot else s)

/-- Planes that a slot maps, but for those that the other slot maps while it is not EMPTY (Table 6.2, R174). -/
def State.ownPlanes (s : State) (h : Half) (n slot : Nat) : List Nat :=
  let keep := if s.slotState h n (1 - slot) = 0 then [] else (s.slotMap h n (1 - slot)).map Prod.snd
  ((s.slotMap h n slot).map Prod.snd).filter (fun p => !keep.contains p)

/-- EN is cleared on them. -/
def State.dropPlanes (s : State) (h : Half) (n slot : Nat) : State :=
  ((s.ownPlanes h n slot).foldl (fun s p => s.setPlaneEn h (s.foot h n) p false) s).runRefresh h

/-- DISCARD (Table 6.2). -/
def State.wsetDiscard (s : State) (h : Half) (n slot : Nat) : State :=
  let st := s.slotState h n slot
  if !s.setValid h n ∨ (st ≠ 1 ∧ st ≠ 2) ∨ s.loadRuns h n slot then s.setAnswer h n 4 slot 1
  else if s.inFlight h n slot ≠ 0 then s.setAnswer h n 4 slot 7
  else ((s.dropPlanes h n slot).wf (JCT_WSET_SLOT h (2 * n + slot)) JCT_WSET_SLOT.STATE 0).setAccept h n 4 slot

/-- DISCARD. -/
def execDiscard (h : Half) (n slot : Nat) (s : State) : Host.Outcome State Fault Refusal :=
  whenLive s (fun s => if n < 512 ∧ slot < 2 then s.wsetDiscard h n slot else s)

/-- DELETE (R177). -/
def State.wsetDelete (s : State) (h : Half) (n : Nat) : State :=
  let bad (t : Nat) : Bool := s.slotState h n t == 1 || s.slotState h n t == 4
  if !s.setValid h n ∨ bad 0 ∨ bad 1 then s.setAnswer h n 5 0 1
  else if s.inFlight h n 0 ≠ 0 ∨ s.inFlight h n 1 ≠ 0 then s.setAnswer h n 5 0 7
  else
    let ps := [0, 1].flatMap (fun t => if s.slotState h n t = 0 then [] else (s.slotMap h n t).map Prod.snd)
    let s1 := (ps.foldl (fun s p => s.setPlaneEn h (s.foot h n) p false) s).runRefresh h
    let s2 := (s1.wf (JCT_WSET_SLOT h (2 * n)) JCT_WSET_SLOT.STATE 0).wf (JCT_WSET_SLOT h (2 * n + 1)) JCT_WSET_SLOT.STATE 0
    let s3 := (s2.wf (JCT_WSET_CTRL h n) JCT_WSET_CTRL.VALID 0).wf (JCT_WSET_CTRL h n) JCT_WSET_CTRL.HAS_CURRENT 0
    let c := s.setCtxNo h n
    (s3.wf (MEM_CTX_T0 h c) MEM_CTX_T0.USED (s3.t0Charge h c [])).setAccept h n 5 0

/-- DELETE. -/
def execDelete (h : Half) (n : Nat) (s : State) : Host.Outcome State Fault Refusal :=
  whenLive s (fun s => if n < 512 then s.wsetDelete h n else s)

/-- A write of JCT_WSET_CMD (Table 6.9); an unknown OP gives BAD_STATE. -/
def State.wsetCmd (s : State) (h : Half) (n v : Nat) : State :=
  let slot := bits v 4 1
  match bits v 0 4 with
  | 1 => s.wsetCreate h n (bits v 8 8)
  | 2 => s.wsetOpen h n slot (bits v 16 16)
  | 3 => s.wsetArm h n slot
  | 4 => s.wsetDiscard h n slot
  | 5 => s.wsetDelete h n
  | op => s.setAnswer h n op slot 1

/-! ## Switches, pins and releases (R172 to R174) -/

/-- State code of a slot as West's Junction knows it: switches of East's sets that are still on the Passage count (R173). -/
def State.slotKnown (s : State) (h : Half) (n slot : Nat) : Nat :=
  match h with
  | .west => s.slotState .west n slot
  | .east =>
    let ts := s.east.control.flatMap (fun m => match m with | .switch l => (l.filter (fun e => e.1 == n)).map Prod.snd | _ => [])
    ts.foldl (fun st t => if t = slot then 3 else if st = 3 then 4 else st) (s.slotState .east n slot)

/-- A set switches to a slot (R172); its commit is due together with those of the switch's other sets (R176). -/
def State.switchSet (s : State) (h : Half) (n t : Nat) : State :=
  let other := JCT_WSET_SLOT h (2 * n + (1 - t))
  let s1 := s.wf (JCT_WSET_SLOT h (2 * n + t)) JCT_WSET_SLOT.STATE 3
  let s2 := if s.rf other JCT_WSET_SLOT.STATE = 3 then s1.wf other JCT_WSET_SLOT.STATE 4 else s1
  ((s2.wf (JCT_WSET_CTRL h n) JCT_WSET_CTRL.CUR_SLOT t).wf (JCT_WSET_CTRL h n) JCT_WSET_CTRL.HAS_CURRENT 1).markSet h n

/-- The valid entries of JCT_WSET_SWITCH_LIST: half, set and slot. -/
def State.switchList (s : State) : List (Half × Nat × Nat) :=
  ((List.range 8).filter (fun i => s.on (JCT_WSET_SWITCH_LIST i) JCT_WSET_SWITCH_LIST.VALID)).map (fun i =>
    let a := JCT_WSET_SWITCH_LIST i
    (Half.ofNum (s.rf a JCT_WSET_SWITCH_LIST.HALF), s.rf a JCT_WSET_SWITCH_LIST.SET, s.rf a JCT_WSET_SWITCH_LIST.SLOT))

/-- The check of one entry of a switch (R172). -/
def State.switchCheck (s : State) (c : Nat) (e : Half × Nat × Nat) : Nat :=
  if !s.setValid e.1 e.2.1 ∨ s.setCtxNo e.1 e.2.1 ≠ c then 8
  else if s.slotKnown e.1 e.2.1 e.2.2 ≠ 2 then 1
  else if s.slotKnown e.1 e.2.1 (1 - e.2.2) ≠ 3 ∧ s.slotKnown e.1 e.2.1 (1 - e.2.2) ≠ 0 then 1
  else 0

/-- SWITCH (R172, R173): every entry is checked before anything changes; West's sets switch at once, East's when the message arrives. -/
def State.switchGo (s : State) (c : Nat) : State :=
  let l := s.switchList
  let code := ((l.map (s.switchCheck c)).find? (· != 0)).getD 0
  let s0 := ((s.wf JCT_WSET_SWITCH JCT_WSET_SWITCH.CONTEXT c).wf JCT_WSET_SWITCH JCT_WSET_SWITCH.GO 0).wf JCT_WSET_SWITCH JCT_WSET_SWITCH.CODE code
  if code ≠ 0 then s0
  else
    let s1 := ((l.filter (fun e => e.1 == .west)).foldl (fun s e => s.switchSet .west e.2.1 e.2.2) s0).commitSets .west
    let east := (l.filter (fun e => e.1 == .east)).map Prod.snd
    if east.isEmpty then s1 else s1.passControl .east (.switch east)

/-- SWITCH. -/
def execSwitchSets (c : Nat) (s : State) : Host.Outcome State Fault Refusal :=
  whenLive s (fun s => if c < 256 then s.switchGo c else s)

/-- A switch message takes effect in East. -/
def State.switchArrive (s : State) (l : List (Nat × Nat)) : State :=
  (l.foldl (fun s e => s.switchSet .east e.1 e.2) s).commitSets .east

/-- WSET_SWITCH_MSG_ARRIVE (R173): the oldest Control message to East is a switch. -/
def execWsetSwitchMsgArrive (s : State) : Host.Outcome State Fault Refusal :=
  whenLive s (fun s => match s.east.control with
    | .switch l :: q => if s.passOn then (s.modHalf .east (fun x => { x with control := q })).switchArrive l else s
    | _ => s)

/-- The slot that a graph which names a set pins to (R173): a named version, or the CURRENT slot. -/
def State.pinSlot (s : State) (h : Half) (n : Nat) (version : Option Nat) : Option Nat :=
  match version with
  | none => [0, 1].find? (fun t => s.slotKnown h n t == 3)
  | some v => [0, 1].find? (fun t => s.slotVersion h n t == v &&
      (s.slotKnown h n t == 2 || s.slotKnown h n t == 3 || (s.slotKnown h n t == 4 && decide (0 < s.inFlight h n t))))

/-- A graph is pinned to a slot, or ceases to be (R174). -/
def State.pin (s : State) (p : Pin) : State := s.add (JCT_WSET_LIVE p.half (2 * p.set + p.slot)) JCT_WSET_LIVE.IN_FLIGHT 1
def State.unpin (s : State) (p : Pin) : State := s.sub (JCT_WSET_LIVE p.half (2 * p.set + p.slot)) JCT_WSET_LIVE.IN_FLIGHT 1

/-- WSET_RELEASE (R174): a DRAINING slot with no graph pinned is EMPTY; planes that the CURRENT slot does not map are disabled, and both are
committed together. -/
def State.wsetRelease (s : State) (h : Half) (n slot : Nat) : State :=
  if s.slotState h n slot = 4 ∧ s.inFlight h n slot = 0 then
    let r : WsetRel := { set := n, slot := slot, foot := s.foot h n, planes := s.ownPlanes h n slot }
    let s1 := (r.planes.foldl (fun s p => s.releaseEn h r.foot p) s).wf (JCT_WSET_SLOT h (2 * n + slot)) JCT_WSET_SLOT.STATE 0
    ((s1.modNv h (fun x => { x with wsetRel := x.wsetRel ++ [r] })).setChanged h n).runRefresh h
  else s

/-- WSET_RELEASE. -/
def execWsetRelease (h : Half) (n slot : Nat) (s : State) : Host.Outcome State Fault Refusal :=
  whenLive s (fun s => if n < 512 ∧ slot < 2 then s.wsetRelease h n slot else s)

end Sys2Proof.Machine
end

