-- ==== Sys2Proof/Machine/Stream.lean ====
section
/-! DEFINITION. Streams and transfers (chapter 09): descriptors and their checks, slot rings, moving bytes between endpoints, arms and the
shadow, host page faults, aborts. -/

namespace Sys2Proof.Machine

/-! ## Engines -/

/-- STATE of an engine (Table 9.6): 0 IDLE, 1 LOAD, 2 RUN, 3 PAGE_WAIT, 4 RING_WAIT, 5 ATTACH_WAIT, 6 DRAIN. -/
def strStatus (e : Nat) : Nat := STR_STATUS (engHalf e) e
def State.strState (s : State) (e : Nat) : Nat := s.rf (strStatus e) STR_STATUS.STATE
def State.setStrState (s : State) (e v : Nat) : State := s.wf (strStatus e) STR_STATUS.STATE v

/-- The state with an engine changed. -/
def State.modEng (s : State) (e : Nat) (f : Engine → Engine) : State := s.setEngine e (f (s.engine e))

/-- Context of the running chain. -/
def Engine.ctx (x : Engine) : Nat := match x.chain with | some c => c.ctx | none => 0
def Engine.node (x : Engine) : Option NodeRef := match x.chain with | some c => c.node | none => none

/-- Objects bound for the running chain: by its node, or by the engine for a STR_ARM chain (R250, R261). -/
def State.chainBound (s : State) (e : Nat) : List (Nat × Bool) :=
  match (s.engine e).node with
  | some r => match s.node r with
    | some (_, n) => n.bound
    | none => []
  | none => (s.engine e).bound

/-- The object a handle names for the chain of an engine, at the home that its node, or a STR_ARM chain itself, keeps (R225, R261). -/
def State.chainObj (s : State) (e v : Nat) : Obj :=
  let o := s.objAt (handleHalf v) (handleIdx v)
  let homes := match (s.engine e).node with
    | some r => match s.node r with
      | some (_, n) => n.homes
      | none => []
    | none => (s.engine e).homes
  match homes.find? (fun x => x.1 == v) with
  | some (_, t, a) => { o with tier := t, addr := a }
  | none => o

/-- Is the handle bound by the chain, neither stale nor of another context? -/
def State.chainHas (s : State) (e : Nat) (h : Half) (v : Nat) : Bool :=
  (s.chainBound e).any (fun b => b.1 == v) && s.handleOk h (s.engine e).ctx v

/-! ## Slot rings (R252 to R256) -/

/-- SLOTS and the bytes of a slot; values that the register does not hold read as their defaults. -/
def ringSlotsOf (v : Nat) : Nat := if 3 ≤ v ∧ v ≤ 16 then v else 3
def ringKibOf (v : Nat) : Nat := if 1 ≤ v ∧ v ≤ 256 then v else 64
def State.ringSlots (s : State) (h : Half) (r : Nat) : Nat := ringSlotsOf (s.rf (STR_RING_CFG h r) STR_RING_CFG.SLOTS)
def State.slotBytes (s : State) (h : Half) (r : Nat) : Nat := 1024 * ringKibOf (s.rf (STR_RING_CFG h r) STR_RING_CFG.SLOT_KIB)

/-- A 5-bit slot counter advanced: the index wraps at SLOTS and bit 4 flips there (R253). -/
def slotNext (slots c : Nat) : Nat := if c % 16 + 1 = slots then (16 - c / 16 * 16) else c + 1

def State.ringOn (s : State) (h : Half) (r : Nat) (f : Fld) : Bool := s.on (STR_RING_STATE h r) f

/-- The registers show FULL, PRODUCER and CONSUMER. -/
def State.showRing (s : State) (h : Half) (r : Nat) : State :=
  let x := s.ring h r
  ((s.wf (STR_RING_STATE h r) STR_RING_STATE.FULL x.lens.length).wf (STR_RING_STATE h r) STR_RING_STATE.PRODUCER
    (b2n x.producer.isSome)).wf (STR_RING_STATE h r) STR_RING_STATE.CONSUMER (b2n x.consumer.isSome)

/-- The ring becomes empty: HEAD and TAIL 0, every slot EMPTY (R252). -/
def State.ringReset (s : State) (h : Half) (r : Nat) : State :=
  let x := s.ring h r
  let s1 := s.setRing h r { x with fill := 0, lens := [], taken := 0 }
  let s2 := ((s1.wf (STR_RING_STATE h r) STR_RING_STATE.HEAD 0).wf (STR_RING_STATE h r) STR_RING_STATE.TAIL 0).wf
    (STR_RING_STATE h r) STR_RING_STATE.BROKEN 0
  (s2.wf (STR_RING_ERR h r) STR_RING_ERR.SLOT_ERR 0).showRing h r

/-- The slot being filled becomes FULL with its bytes, and TAIL advances (R253). -/
def State.slotClose (s : State) (h : Half) (r : Nat) : State :=
  let x := s.ring h r
  if x.fill = 0 then s
  else
    let t := s.rf (STR_RING_STATE h r) STR_RING_STATE.TAIL
    let s1 := (s.setRing h r { x with fill := 0, lens := x.lens ++ [x.fill] }).wf (STR_RING_STATE h r) STR_RING_STATE.TAIL
      (slotNext (s.ringSlots h r) t)
    let s2 := match x.producer with
      | some (.engine e) => s1.modEng e (fun y => { y with filled := y.filled + 1 })
      | _ => s1
    s2.showRing h r

/-- The slot at HEAD is released: EMPTY, its error bit cleared, HEAD advanced, and a draining producer one slot nearer its end
(R253, R256, R258). -/
def State.slotRelease (s : State) (h : Half) (r : Nat) : State :=
  let x := s.ring h r
  if x.lens.isEmpty then s
  else
    let hd := s.rf (STR_RING_STATE h r) STR_RING_STATE.HEAD
    let s1 := (s.setRing h r { x with lens := x.lens.tail, taken := x.taken - x.lens.headD 0 }).wf (STR_RING_STATE h r) STR_RING_STATE.HEAD
      (slotNext (s.ringSlots h r) hd)
    let s2 := s1.wf (STR_RING_ERR h r) STR_RING_ERR.SLOT_ERR (withBit (s.rf (STR_RING_ERR h r) STR_RING_ERR.SLOT_ERR) (hd % 16) false)
    let s3 := match x.producer with
      | some (.engine e) => s2.modEng e (fun y => { y with drain := y.drain - 1 })
      | _ => s2
    s3.showRing h r

/-- T1 address of the slot that a counter names. -/
def State.slotAddr (s : State) (h : Half) (r c : Nat) : Nat := (s.ring h r).buf + c % 16 * s.slotBytes h r

/-- Bytes that a producer can place now. -/
def State.ringRoom (s : State) (h : Half) (r : Nat) : Nat :=
  (s.ringSlots h r - (s.ring h r).lens.length) * s.slotBytes h r - (s.ring h r).fill

/-- Bytes that a consumer can take now. -/
def State.ringAvail (s : State) (h : Half) (r : Nat) : Nat := (s.ring h r).lens.foldl (· + ·) 0 - (s.ring h r).taken

/-- Offsets beyond the first `n` bytes, counted from there. -/
def dropOffs (n : Nat) (offs : List Nat) : List Nat := (offs.filter (fun o => decide (n ≤ o))).map (fun o => o - n)

/-- A producer places bytes in the slots from TAIL on; a slot that takes an uncorrectable one of them, by their offsets `bad`, is marked
(R256). -/
def State.ringPut (s : State) (h : Half) (r : Nat) : Nat → List Byte → List Nat → State
  | 0, _, _ => s
  | k + 1, bs, bad =>
    let x := s.ring h r
    let t := s.rf (STR_RING_STATE h r) STR_RING_STATE.TAIL
    let n := min bs.length (s.slotBytes h r - x.fill)
    if n = 0 then s
    else
      let s1 := (s.storeBytes h 1 (s.slotAddr h r t + x.fill) (bs.take n)).setRing h r { x with fill := x.fill + n }
      let s2 := if bad.any (fun o => decide (o < n)) then s1.wf (STR_RING_ERR h r) STR_RING_ERR.SLOT_ERR
        (withBit (s.rf (STR_RING_ERR h r) STR_RING_ERR.SLOT_ERR) (t % 16) true) else s1
      State.ringPut (if x.fill + n = s.slotBytes h r then s2.slotClose h r else s2) h r k (bs.drop n) (dropOffs n bad)

/-- Where `n` bytes from `off` bytes beyond the start of FULL slots of the lengths `lens` lie, for slots from counter `c` on: the slot, its
byte offset and the length of each piece. -/
def ringPieces (slots : Nat) : List Nat → Nat → Nat → Nat → List (Nat × Nat × Nat)
  | [], _, _, _ => []
  | l :: ls, c, off, n =>
    if l ≤ off then ringPieces slots ls (slotNext slots c) (off - l) n
    else
      let m := min n (l - off)
      if m = 0 then [] else (c % 16, off, m) :: ringPieces slots ls (slotNext slots c) 0 (n - m)

/-- The read of several ranges of a tier as one: the uncorrectable words that it meets, in order, and the offsets among the bytes read that lie
in one of them. `offs` are the offsets at which words are newly found uncorrectable. -/
def State.scanRanges (s : State) (h : Half) (tier : Nat) : List (Nat × Nat) → List Nat → State × List Nat × List Nat
  | [], _ => (s, [], [])
  | p :: ps, offs =>
    let q := s.scanWords h tier p.1 p.2 offs
    let r := State.scanRanges q.1 h tier ps (dropOffs p.2 offs)
    (r.1, q.2 ++ r.2.1,
      (List.range p.2).filter (fun i => q.2.contains ((p.1 + i) / wordBytes tier)) ++ r.2.2.map (fun o => o + p.2))

/-- A consumer reads the next `n` bytes of a ring: the bytes, the uncorrectable words met, and the offsets of bytes that are uncorrectable or lie
in a slot marked so (R256). -/
def State.ringTake (s : State) (h : Half) (r n : Nat) (chk : Scan) : State × List Byte × List Nat × List Nat :=
  let x := s.ring h r
  let err := s.rf (STR_RING_ERR h r) STR_RING_ERR.SLOT_ERR
  let ps := ringPieces (s.ringSlots h r) x.lens (s.rf (STR_RING_STATE h r) STR_RING_STATE.HEAD) x.taken n
  let rs := ps.map (fun p => (x.buf + p.1 * s.slotBytes h r + p.2.1, p.2.2))
  let q := (s.scanCount h 1 chk).scanRanges h 1 rs chk.bad
  let marks := ps.flatMap (fun p => List.replicate p.2.2 (bit err p.1))
  (q.1.setRing h r { x with taken := x.taken + marks.length }, rs.flatMap (fun p => s.memBytes h 1 p.1 p.2), q.2.1,
    (List.range marks.length).filter (fun i => marks.getD i false || q.2.2.contains i))

/-- Slots at HEAD that have been read are released; the last `keep` bytes read count as not yet read (R253). -/
def State.ringFree (s : State) (h : Half) (r keep : Nat) : Nat → State
  | 0 => s
  | k + 1 => match (s.ring h r).lens with
    | [] => s
    | l :: _ => if l + keep ≤ (s.ring h r).taken then State.ringFree (s.slotRelease h r) h r keep k else s

/-- Does the ring serve a context's transfers: VALID, of the context, its object still a PIN_T1 object (R254)? -/
def State.ringGood (s : State) (h : Half) (ctx r : Nat) : Bool :=
  s.on (STR_RING_CFG h r) STR_RING_CFG.VALID && decide (s.rf (STR_RING_CFG h r) STR_RING_CFG.CONTEXT = ctx) &&
  (s.pinRange h ctx (s.rf (STR_RING_BASE h r) STR_RING_BASE.HANDLE) 0 0).isSome

/-- A party attaches to a ring's role, or waits in arrival order (R254). -/
def State.ringAttach (s : State) (h : Half) (r : Nat) (cons : Bool) (p : Party) : State × Bool :=
  let x := s.ring h r
  if cons then
    if x.consumer = some p then (s, true)
    else if x.consumer = none ∧ (x.waitCons = [] ∨ x.waitCons.head? = some p) then
      ((s.setRing h r { x with consumer := some p, waitCons := x.waitCons.erase p }).showRing h r, true)
    else if x.waitCons.contains p then (s, false)
    else (s.setRing h r { x with waitCons := x.waitCons ++ [p] }, false)
  else
    if x.producer = some p then (s, true)
    else if x.producer = none ∧ (x.waitProd = [] ∨ x.waitProd.head? = some p) then
      ((s.setRing h r { x with producer := some p, waitProd := x.waitProd.erase p }).showRing h r, true)
    else if x.waitProd.contains p then (s, false)
    else (s.setRing h r { x with waitProd := x.waitProd ++ [p] }, false)

/-- A party leaves both roles of a ring and its waiting lists; a broken ring that nobody is attached to is reset (R255). -/
def State.ringLeave (s : State) (h : Half) (r : Nat) (p : Party) : State :=
  let x := s.ring h r
  let out (o : Option Party) : Option Party := if o = some p then none else o
  let y := { x with producer := out x.producer, consumer := out x.consumer, waitProd := x.waitProd.erase p, waitCons := x.waitCons.erase p }
  let s1 := (s.setRing h r y).showRing h r
  if s.ringOn h r STR_RING_STATE.BROKEN ∧ y.producer = none ∧ y.consumer = none then s1.ringReset h r else s1

/-- A party detaches through an abort (R255): the ring becomes BROKEN, the slot being filled is discarded, and when the consumer leaves
every FULL slot is released. -/
def State.ringAbort (s : State) (h : Half) (r : Nat) (p : Party) : State :=
  let x := s.ring h r
  if x.producer ≠ some p ∧ x.consumer ≠ some p then s.ringLeave h r p
  else
    let s1 := (s.wf (STR_RING_STATE h r) STR_RING_STATE.BROKEN 1).wf (STR_EVENT h) STR_EVENT.RING_BROKEN 1
    let s2 := s1.setRing h r { s1.ring h r with fill := 0 }
    let s3 := if x.consumer = some p then (List.range x.lens.length).foldl (fun s _ => s.slotRelease h r) s2 else s2
    s3.ringLeave h r p

/-- Rings of a half that hold anything. -/
def State.ringsOf (s : State) (h : Half) : List Nat := ((s.half h).rings.map Prod.fst).filter (fun r => decide (r < 64))

/-- A party leaves every ring of a half. -/
def State.leaveRings (s : State) (h : Half) (p : Party) (abort : Bool) : State :=
  (s.ringsOf h).foldl (fun s r => if abort then s.ringAbort h r p else s.ringLeave h r p) s

/-- A write of STR_RING_CFG (R252, R270): while VALID is 1 the fields are locked, except that VALID may be written 0 while no party is
attached; a ring whose slots do not lie in a PIN_T1 object of its context does not become VALID. -/
def State.ringCfgWrite (s : State) (h : Half) (r v : Nat) : State :=
  let a := STR_RING_CFG h r
  let x := s.ring h r
  let ctx := bits v 24 8
  let slots := ringSlotsOf (bits v 4 5)
  let kib := ringKibOf (bits v 9 9)
  let w := b2n (bit v 0) + slots * 16 + kib * 512 + ctx * 2 ^ 24
  let refused := s.log h { logSoft 4 v with subject := r, kind := 9 }
  if s.on a STR_RING_CFG.VALID then
    if w = (s.rd a).toNat then s
    else if w = (s.rd a).toNat - 1 ∧ x.producer = none ∧ x.consumer = none then
      (s.wf a STR_RING_CFG.VALID 0).ringReset h r
    else refused
  else if bit v 0 then
    match s.pinRange h ctx (s.rf (STR_RING_BASE h r) STR_RING_BASE.HANDLE)
        (s.rf (STR_RING_OFFSET h r) STR_RING_OFFSET.OFFSET / 64 * 64) (slots * kib * 1024) with
    | some b => ((s.wr a (BitVec.ofNat 32 w)).setRing h r { x with buf := b }).ringReset h r
    | none => refused
  else s.wr a (BitVec.ofNat 32 w)

/-- RING_CFG_WRITE (R252). -/
def execRingCfgWrite (h : Half) (r v : Nat) (s : State) : Host.Outcome State Fault Refusal :=
  whenLive s (fun s => if r < 64 then s.ringCfgWrite h r v else s)

/-! ## Descriptors and their checks (R245 to R249) -/

/-- Is a kind a stream side: CSW_SEND, CSW_RECV or RING? -/
def streamKind (k : Nat) : Bool := k == 4 || k == 5 || k == 6

/-- Is an address field well formed for its kind (Table 9.1), and aligned to elements of `el` bytes? -/
def addrOk (k el a : Nat) : Bool :=
  if k = 1 ∨ k = 3 then decide (a / 2 ^ 32 % el = 0)
  else if k = 2 then decide (a % el = 0)
  else if k = 4 ∨ k = 5 then decide (a < 256)
  else if k = 6 then decide (a < 64)
  else decide (a < 2 ^ 26)

/-- Lowest and one past the highest byte offset that a side's elements touch, from its address field. -/
def sideSpan (b : List Byte) (stride : Nat → Int) : Int × Int :=
  let ext (d : Nat) : Int := ((dscCount b d : Int) - 1) * stride d
  let neg := (List.range 4).foldl (fun (n : Int) i => n + min 0 (ext (i + 1))) 0
  let pos := (List.range 4).foldl (fun (n : Int) i => n + max 0 (ext (i + 1))) 0
  (neg, pos + (dscCount b 0 * 2 ^ dscElem b : Nat))

/-- Strides of a side. -/
def sideStride (b : List Byte) (dst : Bool) : Nat → Int := if dst then dscDstStride b else dscSrcStride b
def sideKind (b : List Byte) (dst : Bool) : Nat := if dst then dscDstKind b else dscSrcKind b
def sideAddr (b : List Byte) (dst : Bool) : Nat := if dst then dscDst b else dscSrc b

/-- Byte span of an object side within its object. -/
def objSpan (b : List Byte) (dst : Bool) : Int × Int :=
  let p := sideSpan b (sideStride b dst)
  let o : Int := (sideAddr b dst / 2 ^ 32 : Nat)
  (o + p.1, o + p.2)

/-- Format rules of a descriptor (R245, R247, R249): BAD_DESC when false. -/
def dscFormat (b : List Byte) : Bool :=
  let sk := dscSrcKind b
  let dk := dscDstKind b
  let el := 2 ^ dscElem b
  let strides := (List.range 4).map (fun i => dscSrcStride b (i + 1)) ++ (List.range 4).map (fun i => dscDstStride b (i + 1))
  let zeroStr (dst : Bool) : Bool := (List.range 4).all (fun i => sideStride b dst (i + 1) == 0)
  decide (dscVersion b = 1) && fld b 0 31 21 == 0 && fld b 0x18 31 20 == 0 && u32 b 0x1C == 0 && u32 b 0x34 == 0 &&
  fld b 0x74 31 10 == 0 && u32 b 0x7C == 0 && (List.range 5).all (fun d => fld b (0x20 + 4 * d) 31 24 == 0) &&
  [1, 2, 3, 5, 6, 7].contains sk && [1, 2, 3, 4, 6].contains dk && !(sk == 2 && dk == 2) && !(sk == 6 && dk == 6) && !(sk == 3 && dk == 3) &&
  decide (dscElem b ≤ 6) && decide (1 ≤ dscDims b) && decide (dscDims b ≤ 5) &&
  (List.range 5).all (fun d => dscCount b d != 0 && (decide (d < dscDims b) || dscCount b d == 1)) &&
  (!streamKind sk || zeroStr false) && (!streamKind dk || zeroStr true) &&
  addrOk sk el (dscSrc b) && addrOk dk el (dscDst b) && strides.all (fun x => x % (el : Int) == 0) &&
  decide (dscTotal b * el ≤ 2 ^ 36) &&
  !(decide (sk = dk) && (sk == 1 || sk == 3) && decide (dscSrc b % 2 ^ 32 = dscDst b % 2 ^ 32) &&
    decide ((objSpan b false).1 < (objSpan b true).2) && decide ((objSpan b true).1 < (objSpan b false).2))

/-- Half in which an object side's object must lie. -/
def sideHalf (e k : Nat) : Half := if k = 3 then (engHalf e).other else engHalf e

/-- Does every element of a side lie inside its object or plane? A stale object is left to UNBOUND. -/
def State.sideInside (s : State) (e : Nat) (b : List Byte) (dst : Bool) : Bool :=
  let k := sideKind b dst
  let v := sideAddr b dst % 2 ^ 32
  if k = 1 ∨ k = 3 then
    !s.handleOk (sideHalf e k) (s.engine e).ctx v ||
      (decide (0 ≤ (objSpan b dst).1) && decide ((objSpan b dst).2 ≤ (s.chainObj e v).size))
  else if k = 7 then
    let p := sideSpan b (sideStride b dst)
    let first := bits (sideAddr b dst) 16 10
    decide (0 ≤ p.1 + 128 * first) && decide (p.2 ≤ 128 * (1024 - first))
  else true

/-- Is the object of a side bound? -/
def State.sideBound (s : State) (e : Nat) (b : List Byte) (dst : Bool) : Bool :=
  let k := sideKind b dst
  if k = 1 ∨ k = 3 then s.chainHas e (sideHalf e k) (sideAddr b dst % 2 ^ 32) else true

/-- Chamber ownership of a plane by a context (R157). -/
def State.ownsPlane (s : State) (h : Half) (ctx q : Nat) : Bool :=
  (s.validSets h).any (fun n => decide (s.setCtxNo h n = ctx) && decide ((s.foot h n).1 ≤ q / 64) &&
    decide (q / 64 < (s.foot h n).1 + (s.foot h n).2))

/-- Is a T0_SLC source allowed (R246)? -/
def State.slcOk (s : State) (e : Nat) (b : List Byte) : Bool :=
  let id := bits (dscSrc b) 0 16
  let h := engHalf e
  let q := id % 32768
  decide (Half.ofNum (id / 32768) = h) && !s.planeEn h q && s.ownsPlane h (s.engine e).ctx q &&
    decide (s.rf (NV_PROT_STATE h (q / 64)) NV_PROT_STATE.MODE ≠ 2)

/-- The code of a stream side: RING_CONFIG, RING_BROKEN or 0. -/
def State.sideCode (s : State) (e : Nat) (b : List Byte) (dst : Bool) : Nat :=
  let h := engHalf e
  let ctx := (s.engine e).ctx
  let a := sideAddr b dst
  match sideKind b dst with
  | 4 => s.sqCode h ctx a
  | 5 => s.rqCode h ctx a
  | 6 => if !s.ringGood h ctx a then 0x63
    else if dst && s.ringOn h a STR_RING_STATE.BROKEN && (s.ring h a).producer != some (.engine e) then 0x66 else 0
  | _ => 0

/-- The code of a descriptor's checks, in the order of Table 9.3: 0 when all hold. -/
def State.dscCheck (s : State) (e : Nat) (b : List Byte) : Nat :=
  let stream := [s.sideCode e b false, s.sideCode e b true]
  if !dscFormat b then 0x60
  else if !(s.sideInside e b false && s.sideInside e b true) then 0x61
  else if !(s.sideBound e b false && s.sideBound e b true) then 0x62
  else if stream.contains 0x63 then 0x63
  else if stream.contains 0x66 then 0x66
  else if dscSrcKind b = 7 ∧ !s.slcOk e b then 0x6A
  else 0

/-! ## The end of a chain -/

/-- Primary status that a code gives its node (Table 9.3). -/
def codePrim (c : Nat) : Nat :=
  if c = 0 then 0 else if c = 0x64 ∨ c = 0x66 then 4 else if c = 0x68 then 5 else 3

/-- Is the message payload of the engine's chain? -/
def PassMsg.ofEngine (m : PassMsg) (e : Nat) : Bool := match m with
  | .payload _ f _ _ _ => f == e
  | .feed _ f _ _ => f == e
  | _ => false

/-- Bytes of a message that are on their way to the other half's memory. -/
def PassMsg.sent (m : PassMsg) (e : Nat) : Nat := match m with
  | .payload _ f _ _ bs => if f = e then bs.length else 0
  | _ => 0

/-- Bytes that the engine has sent over the Passage and that have not landed. -/
def State.unlanded (s : State) (e : Nat) : Nat := (s.west.activation ++ s.east.activation).foldl (fun n m => n + m.sent e) 0

/-- Payload of an engine is taken off the Passage. -/
def State.dropPayload (s : State) (e : Nat) : State :=
  let keep (x : HalfState) : HalfState := { x with activation := x.activation.filter (fun m => !m.ofEngine e) }
  (s.modHalf .west keep).modHalf .east keep

/-- The device's fields of the running descriptor are written (Table 9.2): CODE, DONE, RESUME_VALID and DELIVERED, and with a page fault
RESUME from STR_POS (R265). An element is delivered once it has landed (R251). -/
def State.dscResult (s : State) (e code : Nat) : State :=
  let x := s.engine e
  let o := s.chainObj e x.handle
  let h := engHalf e
  let fault := code = 0x64
  let res := (List.range 5).flatMap (fun d => leBytes 4 (s.rf (STR_POS h (8 * e + d)) STR_POS.INDEX))
  let w := leBytes 4 (code + b2n (code = 0) * 256 + b2n (decide fault) * 512) ++
    leBytes 4 (min ((x.done - s.unlanded e) / 2 ^ dscElem x.desc) 0xFFFFFFFF)
  if fault then s.objWrite o (x.off + 0x60) (res ++ w) else s.objWrite o (x.off + 0x74) w

/-- A reader of the sense channel, an engine or 64 for the STAGE, waits for no sense and holds no sensed row. -/
def State.dropSense (s : State) (h : Half) (k : Nat) : State :=
  s.modHalf h (fun x => { x with nv := { x.nv with
    slcAsk := x.nv.slcAsk.filter (fun y => y.1 != k), slcHeld := x.nv.slcHeld.filter (fun y => y.1 != k) } })

/-- A reader of the sense channel asks for a row, as plane x 1024 + row, unless it holds or has asked for it; the plane's Gallery is woken
(R136, R246). -/
def State.askSense (s : State) (h : Half) (k r : Nat) : State :=
  let nv := (s.half h).nv
  if nv.slcHeld.contains (k, r) ∨ nv.slcAsk.contains (k, r) then s
  else ((s.dropSense h k).modHalf h (fun y => { y with nv := { y.nv with slcAsk := y.nv.slcAsk ++ [(k, r)] } })).keepWakes
    [galDom h (r / 2 ^ 20)]

/-- The engine has no chain: its status reads IDLE, and nothing of the chain is on its way any more (R269). -/
def State.engClear (s0 : State) (e : Nat) : State :=
  let s := (s0.dropSense (engHalf e) e).dropPayload e
  let sh := s.rf (strStatus e) STR_STATUS.SHADOW_FULL
  let s1 := (s.wr (strStatus e) 0).wf (strStatus e) STR_STATUS.SHADOW_FULL sh
  s1.setEngine e { shadow := (s.engine e).shadow }

/-- Objects that a STR_ARM chain has bound are unbound. -/
def State.engUnbind (s : State) (e : Nat) : State :=
  (s.engine e).bound.foldl (fun s b => s.unbindObject b.1 b.2) (s.modEng e (fun x => { x with bound := [], homes := [] }))

/-- A STR_ARM chain completes into STR_ARM_CTRL and STR_EVENT, and raises the stream vector when IRQ_EN is 1 (R261). -/
def State.armDone (s : State) (e code : Nat) : State :=
  let h := engHalf e
  let s1 := ((s.wf (STR_ARM_CTRL h e) STR_ARM_CTRL.CODE code).wf (STR_ARM_CTRL h e) STR_ARM_CTRL.DONE 1).wf (STR_EVENT h)
    STR_EVENT.ARM_DONE 1
  if s.on (STR_CTRL h e) STR_CTRL.IRQ_EN then s1.msix 0 (6 + h.num) else s1

/-- The chain ends with a code: the engine leaves its rings and queues, and the node or the STR_ARM arm completes (R250, R254, R261). -/
def State.chainEnd (s : State) (e code : Nat) (abort : Bool) : State :=
  let x := s.engine e
  let h := engHalf e
  let tag := dscTag x.desc
  let s1 := (s.leaveRings h (.engine e) abort).leaveQueues h (.engine e)
  let s2 := match x.chain with
    | none => s1
    | some c => match c.node with
      | some r => if code = 0 then s1.endNode r 0 else s1.endNodeD r (codePrim code) code tag
      | none => (s1.engUnbind e).armDone e code
  s2.engClear e

/-- A transfer fails: its code is written and the chain ends with it. -/
def State.transferFail (s : State) (e code : Nat) : State := (s.dscResult e code).chainEnd e code false

/-! ## Starting a transfer (R249, R250, R266) -/

/-- Every object and descriptor object that a chain names, from its first descriptor on, as far as descriptors can be read: a descriptor's
object as written, sources as read, destinations as written (R250, R261). -/
def State.chainNames (s : State) (e ctx : Nat) : Nat → Nat → Nat → List (Nat × Bool)
  | 0, _, _ => []
  | k + 1, v, off =>
    match s.object (engHalf e) ctx v with
    | none => [(v, true)]
    | some o =>
      let b := s.objRead o off 128
      let sides := (if dscSrcKind b = 1 ∨ dscSrcKind b = 3 then [(dscSrc b % 2 ^ 32, false)] else []) ++
        (if dscDstKind b = 1 ∨ dscDstKind b = 3 then [(dscDst b % 2 ^ 32, true)] else [])
      (v, true) :: sides ++ (if dscLast b then [] else s.chainNames e ctx k (dscNext b % 2 ^ 32) (dscNext b / 2 ^ 32))

/-- A STR_ARM chain binds its objects before its first descriptor (R261): done, or waiting under R224 or R226. The request to bind objects of the
other half travels in the Control class (R245). Stale handles are left to the checks. -/
def State.armBind (s : State) (e : Nat) (c : Chain) : State × Bool :=
  if c.node.isSome ∨ c.loaded ≠ 0 ∨ (s.engine e).bound ≠ [] then (s, true)
  else
    let l := ((s.chainNames e c.ctx 256 c.handle c.off).eraseDups).filter (fun b => s.handleOk (handleHalf b.1) c.ctx b.1)
    if c.ask ≠ .there ∧ l.any (fun b => handleHalf b.1 != engHalf e) then
      (if c.ask = .none then (s.modEng e (fun x => { x with chain := some { c with ask := .sent } })).passControl (engHalf e).other (.bind none e)
        else s, false)
    else if l.any (fun b => s.canBind (handleHalf b.1) c.ctx b.1 b.2 == .wait) then (s, false)
    else
      let s1 := (l.foldl (fun s b => s.bindObject b.1 b.2) s).modEng e (fun x => { x with bound := l })
      ((s1.boundDoms l).foldl State.need s1, true)

/-- The ring or queues of a descriptor are attached; false when the engine must wait (R254, R337). -/
def State.attachSides (s : State) (e : Nat) (b : List Byte) : State × Bool :=
  let h := engHalf e
  let p : Party := .engine e
  let src := match dscSrcKind b with
    | 5 => s.rqAttach h (dscSrc b) p
    | 6 => s.ringAttach h (dscSrc b) true p
    | _ => (s, true)
  let dst := match dscDstKind b with
    | 4 => src.1.sqAttach h (dscDst b) p
    | 6 => src.1.ringAttach h (dscDst b) false p
    | _ => (src.1, true)
  (dst.1, src.2 && dst.2)

/-- Is the party attached to a ring? -/
def Ring.has (x : Ring) (p : Party) : Bool := x.producer == some p || x.consumer == some p

/-- The ring that STATUS shows: that of the running descriptor's destination or source, while the engine is attached to it, else the first that it
is attached to (log entry 81). -/
def State.shownRing (s : State) (e : Nat) : Option Nat :=
  let b := (s.engine e).desc
  let h := engHalf e
  let l := (s.ringsOf h).filter (fun r => (s.ring h r).has (.engine e))
  if dscDstKind b = 6 ∧ l.contains (dscDst b) then some (dscDst b)
  else if dscSrcKind b = 6 ∧ l.contains (dscSrc b) then some (dscSrc b)
  else l.head?

/-- STATUS shows the ring that the engine has attached, if any (Table 9.6). -/
def State.showAttach (s : State) (e : Nat) : State :=
  let a := strStatus e
  match s.shownRing e with
  | some r => ((s.wf a STR_STATUS.RING r).wf a STR_STATUS.ATTACHED 1).wf a STR_STATUS.ROLE
      (b2n ((s.ring (engHalf e) r).producer != some (.engine e)))
  | none => ((s.wf a STR_STATUS.RING 0).wf a STR_STATUS.ATTACHED 0).wf a STR_STATUS.ROLE 0

/-- The engine leaves the rings of the running descriptor, at the end of its drain (R254). -/
def State.leaveOwn (s : State) (e : Nat) : State :=
  let b := (s.engine e).desc
  let h := engHalf e
  let s1 := if dscSrcKind b = 6 then s.ringLeave h (dscSrc b) (.engine e) else s
  (if dscDstKind b = 6 then s1.ringLeave h (dscDst b) (.engine e) else s1).showAttach e

/-- STR_POS shows the index of an element. -/
def State.showPos (s : State) (e : Nat) (ix : List Nat) : State :=
  (List.range 5).foldl (fun s d => s.wf (STR_POS (engHalf e) (8 * e + d)) STR_POS.INDEX (ix.getD d 0)) s

/-- The transfer begins to move elements. -/
def State.transferBegin (s : State) (e : Nat) : State :=
  let x := s.engine e
  ((s.setStrState e 2).showAttach e).showPos e (dscIndex x.desc (x.done / 2 ^ dscElem x.desc))

/-- The next descriptor of the chain is loaded and checked. A chain that resumes skips every descriptor with DONE 1 and starts the first other one at
its RESUME (R266). -/
def State.loadNext (s : State) (e : Nat) : Nat → State
  | 0 => s
  | k + 1 =>
    match (s.engine e).chain with
    | none => s
    | some c =>
      let o := s.chainObj e c.handle
      let named := s.chainHas e (engHalf e) c.handle && decide (o.tier = 1) && decide (c.off % 128 = 0) && decide (c.off + 128 ≤ o.size)
      if c.loaded ≥ 256 ∨ !named then s.chainEnd e 0x67 false
      else
        let b := s.objRead o c.off 128
        let c1 := { c with loaded := c.loaded + 1 }
        let next := { c1 with handle := dscNext b % 2 ^ 32, off := dscNext b / 2 ^ 32 }
        if c.resume ∧ dscDone b then
          if dscLast b then s.chainEnd e 0 false
          else State.loadNext (s.modEng e (fun x => { x with chain := some next })) e k
        else
          let start := if c.resume ∧ !c.begun ∧ dscResumeValid b then
            dscLinear b ((List.range 5).map (dscResume b)) * 2 ^ dscElem b else 0
          let s1 := s.modEng e (fun x => { x with
            chain := some { next with begun := true }
            desc := b
            handle := c.handle
            off := c.off
            done := start
            pack := []
            packBad := []
            asked := start
            bad := false
            filled := 0
            drain := 0 })
          let code := s1.dscCheck e b
          if s.memBad o.half o.tier (o.addr + c.off) 128 then (s1.checkRead o c.off 128 {}).1.transferFail e 0x65
          else if code ≠ 0 then s1.transferFail e code
          else
            let p := s1.attachSides e b
            if p.2 then p.1.transferBegin e else p.1.setStrState e 5

/-- May the chain of an engine run: a STR_ARM chain, once the domains of its objects are on (R408), or a node that runs? -/
def State.chainRuns (s : State) (e : Nat) : Bool :=
  match (s.engine e).node with
  | some r => s.nodeIn r .running
  | none => (s.engine e).chain.isSome && (s.boundDoms (s.engine e).bound).all s.domOn

/-- TRANSFER_START (R249, R250): the engine loads the next descriptor of its chain. -/
def execTransferStart (e : Nat) (s : State) : Host.Outcome State Fault Refusal :=
  whenLive s (fun s => match (s.engine e).chain with
    | some c => if s.strState e = 1 ∧ s.chainRuns e ∧ s.domOn (clusterDom e) then
        (let p := s.armBind e c; if p.2 && p.1.chainRuns e then p.1.loadNext e 257 else p.1) else s
    | none => s)

/-- RING_ATTACH (R254): an engine in ATTACH_WAIT attaches when its turn has come; a party whose ring is no longer its context's fails. -/
def execRingAttach (h : Half) (_ring e : Nat) (_consumer : Bool) (s : State) : Host.Outcome State Fault Refusal :=
  whenLive s (fun s =>
    if s.strState e = 5 ∧ engHalf e = h then
      let b := (s.engine e).desc
      let code := max (s.sideCode e b false) (s.sideCode e b true)
      if code ≠ 0 then s.transferFail e code
      else
        let p := s.attachSides e b
        if p.2 then p.1.transferBegin e else p.1
    else s)

/-! ## Moving bytes (R248, R251) -/

/-- Contiguous pieces of a side for bytes `start` to `start + n` of the transfer: offset from the address field, and length. -/
def sidePieces (b : List Byte) (stride : Nat → Int) : Nat → Nat → Nat → List (Int × Nat)
  | 0, _, _ => []
  | k + 1, start, n =>
    let row := dscCount b 0 * 2 ^ dscElem b
    let i := start % max 1 row
    let m := min n (row - i)
    if m = 0 then []
    else (dscOffset b stride (start / max 1 row * dscCount b 0) + i, m) :: sidePieces b stride k (start + m) (n - m)

/-- Pieces of a side of a descriptor. -/
def dscPieces (b : List Byte) (dst : Bool) (start n : Nat) : List (Int × Nat) :=
  sidePieces b (sideStride b dst) (n / max 1 (dscCount b 0 * 2 ^ dscElem b) + 2) start n

/-- Bytes of the SLC image of a plane from a byte offset of its rows (R246, Table 5.8). -/
def State.slcBytes (s : State) (h : Half) (q off len : Nat) : List Byte :=
  (List.range len).map (fun i =>
    let j := off + i
    ((imageRow 2 (s.pairs h q (j / 128)) []).getD (j % 128) 0))

/-- Translations that a half holds for pages that a T3 access touches, at most 8,192 (R373). -/
def State.translate (s : State) (h : Half) (func pasid addr len : Nat) : State :=
  if (s.func func).atsEn then
    let pages := (List.range ((addr + len - 1) / 4096 + 1 - addr / 4096)).map (fun i => (func, pasid, addr / 4096 + i))
    let l := (s.half h).atc.filter (fun x => !pages.contains x) ++ pages
    s.modHalf h (fun x => { x with atc := l.drop (l.length - 8192) })
  else s

/-- PCIe function of a context. -/
def State.ctxFunc (s : State) (c : Nat) : Nat := s.rf (PCI_CTX_FUNC c) PCI_CTX_FUNC.FUNC

/-- PCIe function of a chain's host traffic: its context's, or for a STR_ARM chain the physical function (R364). -/
def State.chainFunc (s : State) (e : Nat) : Nat := if (s.engine e).node.isSome then s.ctxFunc (s.engine e).ctx else 0

/-- A read of host memory by the device, with its translation; it carries a PASID while the function's PASID Enable is 1 (R364, R373). -/
def State.t3Get (s : State) (h : Half) (func pasid addr len : Nat) : State :=
  (s.translate h func pasid addr len).send (.t3Read func (if (s.func func).pasidEn then some pasid else none) addr len)

/-- A record that a transfer read uncorrectable data (R268), when no word of memory can be named. -/
def State.logStream (s : State) (e : Nat) (q : LogReq) : State :=
  s.log (engHalf e) { q with
    ctx := some (s.engine e).ctx
    tag := dscTag (s.engine e).desc
    subject := e
    kind := 8 }

/-- The transfer has read uncorrectable data: it will end with DATA_ERROR, and the first such word is recorded (R268). -/
def State.noteBad (s : State) (e : Nat) (h : Half) (tier handle : Nat) (ws offs : List Nat) : State :=
  if offs.isEmpty ∨ (s.engine e).bad then s
  else
    let s1 := match ws with
      | w :: _ => s.logWord h tier w handle
      | [] => s.logStream e { logData 4 with code := 0x65 }
    s1.modEng e (fun y => { y with bad := true })

/-- Bytes of a transfer in all. -/
def dscBytes (b : List Byte) : Nat := dscTotal b * 2 ^ dscElem b

/-- Does the source lie in the other half and its payload come over the Passage to the engine, for a stream side or host memory? The payload of
a destination object goes straight to its place. -/
def dscFed (b : List Byte) : Bool := decide (dscSrcKind b = 3) && decide (dscDstKind b ≠ 1)

/-- Ranges of T1 that the next `n` bytes of a receive queue lie in. -/
def State.rqRanges (s : State) (h : Half) (q n : Nat) : List (Nat × Nat) :=
  let x := s.rq h q
  let p := x.consumed % max 1 x.size
  let k := min n (x.size - p)
  [(x.buf + p, k), (x.buf, n - k)].filter (fun r => decide (r.2 ≠ 0))

/-- A source object's bytes from byte `start` of the transfer on, and the offsets of uncorrectable ones among them. -/
def State.objTake (s : State) (e start n : Nat) (chk : Scan) : State × List Byte × List Nat :=
  let b := (s.engine e).desc
  let o := s.chainObj e (dscSrc b % 2 ^ 32)
  let rs := (dscPieces b false start n).map (fun p => (o.addr + (((dscSrc b / 2 ^ 32 : Nat) : Int) + p.1).toNat, p.2))
  let q := (s.scanCount o.half o.tier chk).scanRanges o.half o.tier rs chk.bad
  (q.1.noteBad e o.half o.tier (s.handleOf o.half o.idx) q.2.1 q.2.2, rs.flatMap (fun p => s.memBytes o.half o.tier p.1 p.2), q.2.2)

/-! ### T0_SLC sources (R246) -/

/-- Pieces of a T0_SLC source: byte offset in the plane's SLC image, and length. -/
def slcPieces (b : List Byte) (start n : Nat) : List (Nat × Nat) :=
  (dscPieces b false start n).map (fun p => ((((128 * bits (dscSrc b) 16 10 : Nat) : Int) + p.1).toNat, p.2))

/-- Bytes of the first pieces that lie in one row of 128 bytes. -/
def rowRun (row : Nat) : List (Nat × Nat) → Nat
  | [] => 0
  | p :: ps =>
    if p.1 / 128 ≠ row then 0
    else if p.1 % 128 + p.2 ≤ 128 then p.2 + rowRun row ps
    else 128 - p.1 % 128

/-- The row, as plane x 1024 + row, that holds the next byte of the source. -/
def slcRow (b : List Byte) (start : Nat) : Nat := 1024 * bits (dscSrc b) 0 15 + ((slcPieces b start 1).headD (0, 0)).1 / 128

/-- How many of the next `n` bytes the row that the engine holds sensed gives. -/
def State.slcAvail (s : State) (e n : Nat) : Nat :=
  let x := s.engine e
  if (s.half (engHalf e)).nv.slcHeld.contains (e, slcRow x.desc x.done) then
    rowRun (slcRow x.desc x.done % 1024) (slcPieces x.desc x.done n)
  else 0

/-- The engine asks for the sense of the row that holds its next byte. -/
def State.askRow (s : State) (e : Nat) : State :=
  let x := s.engine e
  if dscSrcKind x.desc ≠ 7 ∨ dscBytes x.desc ≤ x.done then s else s.askSense (engHalf e) e (slcRow x.desc x.done)

/-! ### Payload over the Passage (R245) -/

/-- The source's half sends the payload that the engine may have in flight, 128 elements at most (R243), in the Activation class. -/
def State.askFeed (s : State) (e : Nat) (chk : Scan) : State :=
  let x := s.engine e
  let n := min (dscBytes x.desc) (x.done + 128 * 2 ^ dscElem x.desc) - x.asked
  if !dscFed x.desc ∨ n = 0 then s
  else
    let p := s.objTake e x.asked n chk
    (p.1.modEng e (fun y => { y with asked := x.asked + n })).passActivation (engHalf e) (.feed x.node e p.2.1 p.2.2)

/-- Payload of the other half has come to the engine. -/
def State.feedIn (s : State) (e : Nat) (bs : List Byte) (bad : List Nat) : State :=
  s.modEng e (fun y => { y with pack := y.pack ++ bs, packBad := y.packBad ++ bad.map (fun o => o + y.pack.length) })

/-! ### One move -/

/-- How many of `n` bytes the source can give now; T3 gives the bytes read before and not delivered, and the bytes read now. -/
def State.srcAvail (s : State) (e n : Nat) (data : List Byte) : Nat :=
  let b := (s.engine e).desc
  let h := engHalf e
  match dscSrcKind b with
  | 2 => min n ((s.engine e).pack.length + data.length)
  | 3 => if dscFed b then min n (s.engine e).pack.length else n
  | 5 => min n (s.rqAvail h (dscSrc b))
  | 6 => min n (s.ringAvail h (dscSrc b))
  | 7 => s.slcAvail e n
  | _ => n

/-- How many of `n` bytes the destination takes now; `last` says that they end the transfer. -/
def State.dstRoom (s : State) (e n : Nat) (last : Bool) : Nat :=
  let b := (s.engine e).desc
  let h := engHalf e
  match dscDstKind b with
  | 4 => s.sqAccepts h (dscDst b) n last
  | 6 => min n (s.ringRoom h (dscDst b))
  | _ => n

/-- Host memory is read: the device sends the reads, and the bytes wait in the engine. -/
def State.t3Take (s : State) (e : Nat) (data : List Byte) : State :=
  let x := s.engine e
  let s1 := (dscPieces x.desc false (x.done + x.pack.length) data.length).foldl (fun s p =>
    s.t3Get (engHalf e) (s.chainFunc e) (dscPasid x.desc) ((dscSrc x.desc : Int) + p.1).toNat p.2) s
  s1.modEng e (fun y => { y with pack := y.pack ++ data })

/-- The next `n` bytes are taken from those that wait in the engine, with the offsets of uncorrectable ones. -/
def State.packTake (s : State) (e n : Nat) : State × List Byte × List Nat :=
  let x := s.engine e
  (s.modEng e (fun y => { y with pack := x.pack.drop n, packBad := dropOffs n x.packBad }), x.pack.take n,
    x.packBad.filter (fun o => decide (o < n)))

/-- The next `n` bytes are taken from the source: the state, the bytes, and the offsets of uncorrectable ones. -/
def State.srcTake (s : State) (e n : Nat) (data : List Byte) (chk : Scan) : State × List Byte × List Nat :=
  let x := s.engine e
  let b := x.desc
  let h := engHalf e
  match dscSrcKind b with
  | 2 => (s.t3Take e data).packTake e n
  | 3 => if dscFed b then s.packTake e n else s.objTake e x.done n chk
  | 5 =>
    let rs := s.rqRanges h (dscSrc b) n
    let q := (s.scanCount h 1 chk).scanRanges h 1 rs chk.bad
    ((q.1.noteBad e h 1 (s.t1Handle h (4 * q.2.1.headD 0)) q.2.1 q.2.2).rqConsume h (dscSrc b) n, s.rqPeek h (dscSrc b) 0 n, q.2.2)
  | 6 =>
    let q := s.ringTake h (dscSrc b) n chk
    (q.1.noteBad e h 1 (s.t1Handle h (4 * q.2.2.1.headD 0)) q.2.2.1 q.2.2.2, q.2.1, q.2.2.2)
  | 7 => (s, (slcPieces b x.done n).flatMap (fun p => s.slcBytes h (bits (dscSrc b) 0 15) p.1 p.2), [])
  | _ => s.objTake e x.done n chk

/-- Consecutive pieces filled from a byte list. -/
def spread (l : List (Int × Nat)) (bs : List Byte) : List (Int × List Byte) :=
  (l.foldl (fun (acc : List (Int × List Byte) × List Byte) p => (acc.1 ++ [(p.1, acc.2.take p.2)], acc.2.drop p.2)) ([], bs)).1

/-- Bytes are delivered to the destination, from byte `x.done` of the transfer; `bad` are the offsets of uncorrectable ones. A PASSAGE side sends
them over the Passage. -/
def State.dstPut (s : State) (e : Nat) (bs : List Byte) (last : Bool) (bad : List Nat) : State :=
  let x := s.engine e
  let b := x.desc
  let h := engHalf e
  let v := dscDst b % 2 ^ 32
  match dscDstKind b with
  | 2 => (spread (dscPieces b true x.done bs.length) bs).foldl (fun s p =>
      let a := ((dscDst b : Int) + p.1).toNat
      (s.translate h (s.chainFunc e) (dscPasid b) a p.2.length).t3Put (s.chainFunc e) (dscPasid b) a p.2) s
  | 4 => (s.sqPush h (dscDst b) bs last (flitsFor bs.length)).1
  | 6 => s.ringPut h (dscDst b) 18 bs bad
  | _ =>
    let o := s.chainObj e v
    (spread (dscPieces b true x.done bs.length) bs).foldl (fun s p =>
      let off := (((dscDst b / 2 ^ 32 : Nat) : Int) + p.1).toNat
      if dscDstKind b = 3 ∨ dscSrcKind b = 3 then s.passActivation o.half (.payload x.node e o.tier (o.addr + off) p.2)
      else s.objWrite o off p.2) s

/-- The slots of a RING source from which every element read has been delivered are released (R253). -/
def State.srcFree (s : State) (e : Nat) : State :=
  let b := (s.engine e).desc
  if dscSrcKind b = 6 then s.ringFree (engHalf e) (dscSrc b) (s.unlanded e) 16 else s

/-- The engine moves `n` bytes, as many as source and destination allow: STR_BEATS counts 64-byte units and STR_POS the next element. It issues no
element while a gating window is closed (R396). -/
def State.moveBytes (s0 : State) (e n : Nat) (data0 : List Byte) (chk : Scan) : State :=
  if !s0.power.gateOpen then s0 else
  let s := s0.askFeed e chk
  let x := s.engine e
  let b := x.desc
  let left := dscBytes b - x.done
  let data := data0.take (left - x.pack.length)
  let m0 := s.srcAvail e (min n left) data
  let m := s.dstRoom e m0 (decide (m0 = left))
  let p := s.srcTake e m data chk
  let s1 := p.1.dstPut e p.2.1 (decide (m = left)) p.2.2
  let s2 := (s1.modEng e (fun y => { y with done := x.done + m })).srcFree e
  let s3 := s2.add (STR_BEATS (engHalf e) e) STR_BEATS.BEATS ((x.done + m) / 64 - x.done / 64)
  ((s3.showPos e (dscIndex b ((x.done + m) / 2 ^ dscElem b))).setStrState e
    (if m < min n left ∧ (dscDstKind b = 6 ∨ dscSrcKind b = 6) then 4 else 2)).askRow e

/-- Do payloads of the engine still travel over the Passage to their places? -/
def State.payloadPending (s : State) (e : Nat) : Bool := s.unlanded e != 0

/-- The next descriptor follows, or the chain has ended. -/
def State.transferNext (s : State) (e : Nat) : State :=
  if dscLast (s.engine e).desc then s.chainEnd e 0 false else (s.dropSense (engHalf e) e).setStrState e 1

/-- The transfer completes with OK, or with DATA_ERROR when it has read uncorrectable data (R268); with LAYER_END it leaves its rings (R254). -/
def State.transferClose (s : State) (e : Nat) : State :=
  let s1 := if dscLayerEnd (s.engine e).desc then s.leaveOwn e else s
  if (s.engine e).bad then s1.transferFail e 0x65 else (s1.dscResult e 0).transferNext e

/-- Every element has landed: with LAYER_END the transfer drains first, if slots that it filled are still to be released (R258). -/
def State.transferEnd (s : State) (e : Nat) : State :=
  let b := (s.engine e).desc
  let h := engHalf e
  let s1 := if dscDstKind b = 6 ∧ dscSlotEnd b then s.slotClose h (dscDst b) else s
  if dscLayerEnd b ∧ dscDstKind b = 6 ∧ (s1.engine e).filled ≠ 0 ∧ (s1.ring h (dscDst b)).lens ≠ [] then
    (s1.modEng e (fun y => { y with drain := (s1.ring h (dscDst b)).lens.length })).setStrState e 6
  else s1.transferClose e

/-- A consumer at an EMPTY slot of a BROKEN ring, or a queue that has broken or is no longer the context's: the code that ends the transfer,
or 0 (R255, R337). -/
def State.moveCode (s : State) (e : Nat) : Nat :=
  let b := (s.engine e).desc
  let h := engHalf e
  let ctx := (s.engine e).ctx
  let src := match dscSrcKind b with
    | 5 => s.rqCode h ctx (dscSrc b)
    | 6 => if s.ringOn h (dscSrc b) STR_RING_STATE.BROKEN && decide (s.ringAvail h (dscSrc b) = 0) then 0x66 else 0
    | _ => 0
  if src ≠ 0 then src else match dscDstKind b with
    | 4 => s.sqCode h ctx (dscDst b)
    | _ => 0

/-- The transfer fails with a code of its ring or queue once what it has sent has landed (R251). -/
def State.moveFail (s : State) (e code : Nat) : State := if s.payloadPending e then s else s.transferFail e code

/-- Is the engine moving elements: RUN, or held up by its ring? -/
def State.moving (s : State) (e : Nat) : Bool :=
  (s.strState e == 2 || s.strState e == 4) && s.chainRuns e && s.domOn (clusterDom e)

/-- A T3 read of the device has failed (R372). -/
def State.t3Fail (s : State) (addr pasid : Nat) (r : Option NodeRef) : State :=
  let s1 := s.wf PCI_EVENT PCI_EVENT.T3_READ_FAIL 1
  let q := { logHost 12 with event := 5, addr := addr, pasid := pasid }
  match r with
  | some n => s1.logNode .west n q
  | none => s1.log .west q

/-- Address of the next element that an engine reads from host memory. -/
def State.t3Next (s : State) (e : Nat) : Nat :=
  let x := s.engine e
  ((dscSrc x.desc : Int) + ((dscPieces x.desc false (x.done + x.pack.length) 1).head?.map Prod.fst).getD 0).toNat

/-- A read of an engine has failed: it is recorded, and the transfer will end with DATA_ERROR (R268, R372). -/
def State.readBad (s : State) (e addr pasid : Nat) : State :=
  (s.t3Fail addr pasid (s.engine e).node).modEng e (fun y => { y with bad := true })

/-- A read request of an engine fails (R372): zeros stand for the bytes requested, a request of Max Read Request Size or what is left (log entry
87), and the transfer goes on. -/
def State.requestFails (s : State) (e addr pasid : Nat) : State :=
  let x := s.engine e
  let k := min (dscBytes x.desc - x.done - x.pack.length) (128 * 2 ^ bits (s.func 0).devCtl 12 3)
  let s1 := (s.readBad e addr pasid).moveBytes e (x.pack.length + k) (zeros k) {}
  if dscBytes x.desc ≤ (s1.engine e).done ∧ !s1.payloadPending e then s1.transferEnd e else s1

/-- TRANSFER_COMPLETE (R251, R268, R372): the transfer moves what its endpoints allow and completes once every element has landed (log
entry 46). A failed T3 read gives zeros and DATA_ERROR. -/
def State.transferComplete (s : State) (e : Nat) (data : List Byte) (chk : Scan) (readFail : Bool) : State :=
  let x := s.engine e
  let b := x.desc
  let code := s.moveCode e
  if dscBytes b ≤ x.done then (if s.payloadPending e then s else s.transferEnd e)
  else if code ≠ 0 then s.moveFail e code
  else
    let fail := readFail && decide (dscSrcKind b = 2)
    let s0 := if fail then s.readBad e (s.t3Next e) (dscPasid b) else s
    let s1 := s0.moveBytes e (dscBytes b - x.done) (if fail then zeros data.length else data) chk
    if dscBytes b ≤ (s1.engine e).done ∧ !s1.payloadPending e then s1.transferEnd e else s1

/-- TRANSFER_COMPLETE. -/
def execTransferComplete (e : Nat) (data : List Byte) (chk : Scan) (readFail : Bool) (s : State) : Host.Outcome State Fault Refusal :=
  whenLive s (fun s => if s.moving e then s.transferComplete e data chk readFail else s)

/-- SLOT_FULL (R253): the producer fills the slot at TAIL, which becomes FULL. -/
def State.slotFull (s : State) (h : Half) (r : Nat) (data : List Byte) (chk : Scan) : State :=
  match (s.ring h r).producer with
  | some (.engine e) =>
    let x := s.engine e
    let need := s.slotBytes h r - (s.ring h r).fill
    let code := s.moveCode e
    if s.moving e ∧ dscDstKind x.desc = 6 ∧ dscDst x.desc = r then
      if code ≠ 0 then s.moveFail e code
      else if s.ringRoom h r = 0 ∨ dscBytes x.desc < x.done + need then s else s.moveBytes e need data chk
    else s
  | _ => s

/-- SLOT_FULL. -/
def execSlotFull (h : Half) (r : Nat) (data : List Byte) (chk : Scan) (s : State) : Host.Outcome State Fault Refusal :=
  whenLive s (fun s => s.slotFull h r data chk)

/-- Does the Plaza need the next tile of a streamed B from the ring: it is the ring's consumer, its result is not formed and it releases no slots
unread? WAIT_SLOT shows that the slot it needs is not FULL (R192, R257). -/
def State.plazaNeeds (s : State) (h : Half) (r : Nat) : Bool :=
  (s.ring h r).consumer == some .plaza && !(s.half h).plaza.written && !(s.half h).plaza.fallback

/-- RING_SLOT_RELEASE (R253, R193): the Plaza releases the slot whose tile it has taken, and in a fallback each slot unread as it fills; an engine
delivers what is left of the slot and releases it. -/
def State.ringRelease (s : State) (h : Half) (r : Nat) : State :=
  let y := s.ring h r
  match y.consumer with
  | some .plaza =>
    if y.lens = [] then s
    else if y.taken = y.lens.headD 0 then s.slotRelease h r
    else if (s.half h).plaza.skip ≠ 0 then
      (s.slotRelease h r).modHalf h (fun x => { x with plaza := { x.plaza with skip := x.plaza.skip - 1 } })
    else s
  | some (.engine e) =>
    let x := s.engine e
    let need := y.lens.headD 0 - y.taken
    let code := s.moveCode e
    if s.moving e ∧ dscSrcKind x.desc = 6 ∧ dscSrc x.desc = r then
      if code ≠ 0 then s.moveFail e code
      else if y.lens = [] ∨ dscBytes x.desc < x.done + need then s else s.moveBytes e need [] {}
    else s
  | _ => s

/-- RING_SLOT_RELEASE. -/
def execRingSlotRelease (h : Half) (r : Nat) (s : State) : Host.Outcome State Fault Refusal :=
  whenLive s (fun s => s.ringRelease h r)

/-- DRAIN_END (R258): the last slot that the transfer filled has been released; it completes and leaves its rings. -/
def execDrainEnd (e : Nat) (s : State) : Host.Outcome State Fault Refusal :=
  whenLive s (fun s => if s.strState e = 6 ∧ (s.engine e).drain = 0 then s.transferClose e else s)

/-! ## Arms and the shadow (R260, R261) -/

/-- The state of an engine whose chain has just been armed: LOAD. -/
def State.armStart (s : State) (e : Nat) (c : Chain) : State :=
  ((s.modEng e (fun x => { x with chain := some c })).setStrState e 1).wf (strStatus e) STR_STATUS.ORIGIN (b2n c.node.isNone)

/-- An arm: at once on an idle engine, else into the shadow. The caller has seen that the shadow is empty. -/
def State.arm (s : State) (e : Nat) (c : Chain) : State :=
  if (s.engine e).chain.isNone ∧ (s.engine e).shadow.isNone then s.armStart e c
  else (s.modEng e (fun x => { x with shadow := some c })).wf (strStatus e) STR_STATUS.SHADOW_FULL 1

/-- A write of STR_ARM_CTRL (R260, R261): DONE clears by 1, CONTEXT and RESUME are taken, GO arms the engine or is rejected. -/
def State.armCtrlWrite (s : State) (e v : Nat) : State :=
  let h := engHalf e
  let a := STR_ARM_CTRL h e
  let s0 := ((s.wf a STR_ARM_CTRL.CONTEXT (bits v 0 8)).wf a STR_ARM_CTRL.RESUME (bits v 9 1))
  let s1 := if bit v 24 then s0.wf a STR_ARM_CTRL.DONE 0 else s0
  if !bit v 8 then s1
  else if (s.engine e).shadow.isSome then
    (((s1.wf a STR_ARM_CTRL.CODE 0x69).wf a STR_ARM_CTRL.DONE 1).wf (STR_EVENT h) STR_EVENT.REARM_REJECTED 1).log h
      { logSoft 4 v with code := 0x69, event := 2, subject := e, kind := 8 }
  else
    (s1.arm e { node := none, ctx := bits v 0 8, handle := s.rf (STR_ARM_LO h e) STR_ARM_LO.HANDLE,
                off := s.rf (STR_ARM_HI h e) STR_ARM_HI.OFFSET / 128 * 128, resume := bit v 9 }).keepWakes [clusterDom e]

/-- STR_ARM_GO (R260). -/
def execStrArmGo (e v : Nat) (s : State) : Host.Outcome State Fault Refusal :=
  whenLive s (fun s => if e < 64 then s.armCtrlWrite e (if bit v 8 then v else v + 256) else s)

/-- SHADOW_START (R260): the running chain has completed and the arm in the shadow starts. -/
def State.shadowStart (s : State) (e : Nat) : State :=
  match (s.engine e).chain, (s.engine e).shadow with
  | none, some c => ((s.modEng e (fun x => { x with shadow := none })).wf (strStatus e) STR_STATUS.SHADOW_FULL 0).armStart e c
  | _, _ => s

/-- SHADOW_START. -/
def execShadowStart (e : Nat) (s : State) : Host.Outcome State Fault Refusal := whenLive s (fun s => s.shadowStart e)

/-! ## Page faults (R262 to R266, R374) -/

/-- The page request of an engine, or of West's Junction under the number 64, goes to the host (R263, R282). -/
def State.pageSend (s : State) (f : Nat) : State :=
  if f = 64 then match s.jctPage with
    | some p => s.send (.pageRequest 64 p.addr p.pasid false)
    | none => s
  else
    let h := engHalf f
    ((s.wf (STR_FAULT_INFO h f) STR_FAULT_INFO.PENDING 1).add (STR_FAULTS h f) STR_FAULTS.FAULTS 1).send
      (.pageRequest f (s.rf (STR_FAULT_LO h f) STR_FAULT_LO.ADDR_LO + s.rf (STR_FAULT_HI h f) STR_FAULT_HI.ADDR_HI * 2 ^ 32)
        (s.rf (STR_FAULT_INFO h f) STR_FAULT_INFO.PASID) (s.on (STR_FAULT_INFO h f) STR_FAULT_INFO.WRITE))

/-- A page request is sent, or waits for the allocation that the host has written (R374). -/
def State.pageQueue (s : State) (f : Nat) : State :=
  if s.pcie.requests.length < min s.pcie.priAlloc 512 then
    State.pageSend { s with pcie := { s.pcie with requests := s.pcie.requests ++ [f] } } f
  else { s with pcie := { s.pcie with waitReq := s.pcie.waitReq ++ [f] } }

/-- A page request is no longer outstanding: the first that waits may be sent. -/
def State.requestGone (s : State) (e : Nat) : State :=
  let rest := s.pcie.requests.erase e
  let s2 := { s with pcie := { s.pcie with requests := rest, waitReq := s.pcie.waitReq.erase e } }
  match s2.pcie.waitReq with
  | f :: fs =>
    if s2.pcie.priEn ∧ rest.length < min s2.pcie.priAlloc 512 then
      State.pageSend { s2 with pcie := { s2.pcie with requests := rest ++ [f], waitReq := fs } } f
    else s2
  | [] => s2

/-- The page request of an engine ends. -/
def State.requestEnds (s : State) (e : Nat) : State := (s.wf (STR_FAULT_INFO (engHalf e) e) STR_FAULT_INFO.PENDING 0).requestGone e

/-- Elements before the fault that a send queue has not yet built into a flit become the last flit of the transfer (R338). -/
def State.flushPack (s : State) (e : Nat) : State :=
  let x := s.engine e
  if dscDstKind x.desc = 4 ∧ x.pack ≠ [] then
    let p := s.sqPush (engHalf e) (dscDst x.desc) x.pack true (flitsFor x.pack.length)
    let s1 := p.1.modEng e (fun y => { y with done := x.done + p.2, pack := [] })
    if p.2 = x.pack.length then s1 else s1.showPos e (dscIndex x.desc ((x.done + p.2) / 2 ^ dscElem x.desc))
  else s

/-- The transfer ends with PAGE_FAULT (R265). -/
def State.pageFail (s0 : State) (e : Nat) : State :=
  let h := engHalf e
  let s := s0.flushPack e
  let s1 := (s.requestEnds e).wf (STR_EVENT h) STR_EVENT.PAGE_FAULT 1
  let s2 := s1.logStream e { logHost 4 with
    code := 0x64
    event := 3
    addr := s.rf (STR_FAULT_LO h e) STR_FAULT_LO.ADDR_LO + s.rf (STR_FAULT_HI h e) STR_FAULT_HI.ADDR_HI * 2 ^ 32
    pasid := s.rf (STR_FAULT_INFO h e) STR_FAULT_INFO.PASID }
  s2.transferFail e 0x64

/-- The address that a descriptor gives the T3 side's element with an index, and whether the element is written there (R248, R263). -/
def t3Element (b : List Byte) (index : List Nat) : Nat × Bool :=
  let dst := dscDstKind b == 2
  (((sideAddr b dst : Int) + dscOffset b (sideStride b dst) (dscLinear b index)).toNat, dst)

/-- Have the elements before byte `stop` of the transfer gone to their places? A send queue may hold the last of them for a flit that is not full
(R338). -/
def State.stopReached (s : State) (e stop : Nat) : Bool :=
  let x := s.engine e
  !s.payloadPending e &&
  (if dscDstKind x.desc = 4 then decide (x.done + x.pack.length = stop) && decide (stop < x.done + 224) else decide (x.done = stop))

/-- The engine stands at the faulting element and requests the page, or waits for its allocation (R263, R374). -/
def State.pageAsk (s : State) (e : Nat) (index : List Nat) : State :=
  let b := (s.engine e).desc
  let h := engHalf e
  let t := t3Element b index
  let s2 := (((s.showPos e index).wf (STR_FAULT_LO h e) STR_FAULT_LO.ADDR_LO t.1).wf (STR_FAULT_HI h e) STR_FAULT_HI.ADDR_HI
    (t.1 / 2 ^ 32)).wf (STR_FAULT_INFO h e) STR_FAULT_INFO.PASID (dscPasid b)
  let s3 := (s2.wf (STR_FAULT_INFO h e) STR_FAULT_INFO.WRITE (b2n t.2)).setStrState e 3
  if !s.pcie.priEn then s3.pageFail e else s3.pageQueue e

/-- PAGE_FAULT_STOP (R263): the elements before the faulting one are delivered; once they have landed the page is requested. With ATS off there is
no page fault (R373). -/
def State.pageStop (s : State) (e : Nat) (index : List Nat) (data : List Byte) : State :=
  let x := s.engine e
  let b := x.desc
  let stop := dscLinear b index * 2 ^ dscElem b
  if (dscSrcKind b ≠ 2 ∧ dscDstKind b ≠ 2) ∨ !(s.func (s.chainFunc e)).atsEn ∨ stop < x.done ∨ dscBytes b ≤ stop ∨
      dscIndex b (dscLinear b index) ≠ index then s
  else
    let s1 := s.moveBytes e (stop - x.done) (data.take (stop - x.done - x.pack.length)) {}
    if s1.stopReached e stop then s1.pageAsk e index else s1

/-- PAGE_FAULT_STOP. -/
def execPageFaultStop (e : Nat) (index : List Nat) (data : List Byte) (s : State) : Host.Outcome State Fault Refusal :=
  whenLive s (fun s => if s.moving e then s.pageStop e index data else s)

/-- Is a page request of the engine outstanding? -/
def State.pagePending (s : State) (e : Nat) : Bool :=
  decide (s.strState e = 3) && s.on (STR_FAULT_INFO (engHalf e) e) STR_FAULT_INFO.PENDING

/-! ## Aborts (R261, R269) -/

/-- The running chain is aborted: what it was doing stops, its page request is abandoned, it leaves its rings under R255 and completes with
ABORTED. -/
def State.abortChain (s : State) (e : Nat) : State :=
  let s1 := if s.strState e = 3 then s.requestEnds e else s
  let running := s.strState e ≥ 2
  (if running then s1.dscResult e 0x68 else s1).chainEnd e 0x68 true

/-- The arm in the shadow ends with ABORTED. -/
def State.abortShadow (s : State) (e : Nat) : State :=
  match (s.engine e).shadow with
  | none => s
  | some c =>
    let s1 := (s.modEng e (fun x => { x with shadow := none })).wf (strStatus e) STR_STATUS.SHADOW_FULL 0
    match c.node with
    | some r => s1.endNodeD r 5 0x68 0
    | none => s1.armDone e 0x68

/-- A node's chain on an engine is aborted, running or in the shadow (R269). -/
def State.abortEngineNode (s : State) (r : NodeRef) (e : Nat) : State :=
  let x := s.engine e
  if x.node = some r then s.abortChain e
  else match x.shadow with
    | some c => if c.node = some r then s.abortShadow e else s
    | none => s

/-- STR_ABORT (R261): STR_ARM chains of the engine, running or in the shadow, end with ABORTED; ABORT reads 0 again. -/
def State.strAbort (s : State) (e : Nat) : State :=
  let x := s.engine e
  let s1 := match x.shadow with
    | some c => if c.node.isNone then s.abortShadow e else s
    | none => s
  match x.chain with
  | some c => if c.node.isNone then s1.abortChain e else s1
  | none => s1

/-- STR_ABORT. -/
def execStrAbort (e : Nat) (s : State) : Host.Outcome State Fault Refusal :=
  whenLive s (fun s => if e < 64 then s.strAbort e else s)

/-! ## Stall causes (R257) -/

/-- Does a chain's descriptor, from `v` and `off` on, name a ring as its destination? -/
def State.chainRing (s : State) (e ctx r : Nat) : Nat → Nat → Nat → Bool
  | 0, _, _ => false
  | k + 1, v, off =>
    match s.object (engHalf e) ctx v with
    | none => false
    | some o =>
      let b := s.objRead o off 128
      (dscDstKind b == 6 && dscDst b == r) || (!dscLast b && State.chainRing s e ctx r k (dscNext b % 2 ^ 32) (dscNext b / 2 ^ 32))

/-- Does a stream node that waits to bind name the ring? -/
def State.ringBindWait (s : State) (h : Half) (r : Nat) : Bool :=
  s.graphs.any (fun g => !g.aborted && g.nodes.any (fun n => n.kind == 4 && n.phase == .binding && decide (n.half = h) &&
    s.chainRing n.unit g.ctx r 256 (u32 n.bytes 0x40) (u32 n.bytes 0x44)))

/-- Cause of Table 9.4 that the state of a producing engine gives. The model has no channel request queue: for a T2 source a free value
decides between DRAM_BW and DRAM_LAT (log entry 3). -/
def State.engCause (s : State) (e free : Nat) : Nat :=
  let b := (s.engine e).desc
  let h := engHalf e
  if s.strState e = 3 then 2
  else if s.strState e ≠ 2 ∧ s.strState e ≠ 4 then 1
  else if dscSrcKind b = 2 ∧ (s.engine e).pack = [] then 2
  else if dscSrcKind b = 7 then (if (s.half h).nv.slcAsk.any (fun y => y.1 == e) then 5 else 1)
  else if dscSrcKind b = 5 ∧ s.rqAvail h (dscSrc b) = 0 then 3
  else if dscSrcKind b = 3 ∧ (s.engine e).pack = [] then 4
  else if dscSrcKind b ≠ 1 then 1
  else if (s.chainObj e (dscSrc b % 2 ^ 32)).tier = 2 then free % 2
  else 0

/-- Cause of a stall of a ring's consumer (R257). -/
def State.stallCause (s : State) (h : Half) (r free : Nat) : Nat :=
  match (s.ring h r).producer with
  | none => if s.ringBindWait h r then 6 else 7
  | some (.engine e) => s.engCause e free
  | some _ => 1

/-- STR_STATUS.CAUSE: as a producer, the code that applies now. -/
def State.shownCause (s : State) (e : Nat) : Nat :=
  if s.on (strStatus e) STR_STATUS.ATTACHED ∧ s.rf (strStatus e) STR_STATUS.ROLE = 0 then s.engCause e (Config.free s.freeCtr) else 0

/-- Does the consumer of a ring wait for the slot at HEAD (R257): the engine whose descriptor reads the ring, or the Plaza for its next tile? -/
def State.consumerWaits (s : State) (h : Half) (r : Nat) : Bool :=
  (s.ring h r).lens.isEmpty &&
  (match (s.ring h r).consumer with
    | some (.engine e) => s.moving e && decide (dscSrcKind (s.engine e).desc = 6) && decide (dscSrc (s.engine e).desc = r) &&
        decide ((s.engine e).done < dscBytes (s.engine e).desc)
    | some .plaza => s.plazaNeeds h r
    | some _ => false
    | none => false)

/-- Is the producer of a ring stalled because no slot is free (R253)? -/
def State.producerWaits (s : State) (h : Half) (r : Nat) : Bool :=
  decide (s.ringRoom h r = 0) &&
  (match (s.ring h r).producer with
    | some (.engine e) => s.moving e && decide (dscDstKind (s.engine e).desc = 6) && decide (dscDst (s.engine e).desc = r) &&
        decide ((s.engine e).done < dscBytes (s.engine e).desc)
    | _ => false)

end Sys2Proof.Machine
end

