-- ==== Sys2Proof/Machine/Csw.lean ====
section
/-! DEFINITION. CAUSEWAY nodes (chapter 12, R347 to R358): FLUSH, barriers, and the expert-routing operations. -/

namespace Sys2Proof.Machine

/-! ## The payload (Table 12.7) -/

def Node.cswOp (n : Node) : Nat := fld n.bytes 0x40 3 0
def Node.cswBar (n : Node) : Nat := fld n.bytes 0x40 9 4
def Node.cswTimeout (n : Node) : Nat := u32 n.bytes 0x44
def Node.cswQmask (n : Node) : Nat := u64 n.bytes 0x48
def Node.cswM (n : Node) : Nat := fld n.bytes 0x50 15 0
def Node.cswK (n : Node) : Nat := fld n.bytes 0x50 20 16
def Node.cswFirst (n : Node) : Nat := fld n.bytes 0x54 11 0
def Node.cswCount (n : Node) : Nat := fld n.bytes 0x54 24 12
def Node.cswRow (n : Node) : Nat := fld n.bytes 0x58 16 0
def Node.cswBatch (n : Node) : Nat := fld n.bytes 0x5C 15 0
def Node.cswIn (n : Node) : Nat := u32 n.bytes 0x60
def Node.cswInStride (n : Node) : Nat := u32 n.bytes 0x64
def Node.cswRowOff (n : Node) : Nat := u32 n.bytes 0x68
def Node.cswOut (n : Node) : Nat := u32 n.bytes 0x6C

/-- Queues of QMASK. -/
def Node.cswQueues (n : Node) : List Nat := (List.range 64).filter (fun q => bit n.cswQmask q)

/-! ## Nodes under way -/

/-- The half's CAUSEWAY nodes with a function applied to one of them. -/
def State.modOp (s : State) (h : Half) (r : NodeRef) (f : CswOp → CswOp) : State :=
  s.modHalf h (fun x => { x with cswOps := x.cswOps.map (fun o => if o.node = r then f o else o) })

/-- The record of a CAUSEWAY node. -/
def State.opOf (s : State) (h : Half) (r : NodeRef) : CswOp :=
  ((s.half h).cswOps.find? (fun o => decide (o.node = r))).getD { node := r }

/-- A CAUSEWAY node at its dispatch: FLUSH and BARRIER note what each queue had accepted (R347). -/
def State.cswBegin (s : State) (h : Half) (r : NodeRef) (n : Node) : State :=
  let marks := if n.cswOp ≤ 2 then n.cswQueues.map (fun q => (q, (s.sq h q).built)) else []
  s.modHalf h (fun x => { x with cswOps := x.cswOps ++ [{ node := r, marks := marks }] })

/-- A CAUSEWAY node is over: it leaves its queues and barriers and completes. -/
def State.cswEnd (s : State) (h : Half) (r : NodeRef) (prim : Nat) : State :=
  let s1 := (s.leaveQueues h (.node r)).modHalf h (fun x => { x with
    cswOps := x.cswOps.filter (fun o => decide (o.node ≠ r))
    bars := x.bars.map (fun b => (b.1, if b.2.node = some r then { b.2 with node := none } else b.2)) })
  s1.endNode r prim

/-- A running CAUSEWAY node with operation `op`. -/
def State.cswNode (s : State) (r : NodeRef) (op : Nat) : Option Node :=
  match s.node r with
  | some (_, n) => if n.phase = .running ∧ n.kind = 6 ∧ n.cswOp = op then some n else none
  | none => none

/-! ## FLUSH (R347) -/

/-- Has every flit that the queues had built at the dispatch been acknowledged? A BROKEN queue has nothing more to wait for. -/
def State.flushed (s : State) (h : Half) (o : CswOp) : Bool :=
  o.marks.all (fun m => s.sqState h m.1 == 3 || (s.sq h m.1).unacked.all (fun u => decide (m.2 < u.ser)))

/-- Is a queue of QMASK BROKEN? -/
def State.anyBroken (s : State) (h : Half) (n : Node) : Bool := n.cswQueues.any (fun q => s.sqState h q == 3)

/-- A FLUSH node completes once its bytes are acknowledged, with DATA_ERROR when a queue is BROKEN. -/
def State.flushTry (s : State) (r : NodeRef) (n : Node) : State :=
  if s.flushed n.half (s.opOf n.half r) then s.cswEnd n.half r (if s.anyBroken n.half n then 3 else 0) else s

/-- FLUSH. -/
def execFlush (r : NodeRef) (s : State) : Host.Outcome State Fault Refusal :=
  whenLive s (fun s => match s.cswNode r 1 with
    | some n => s.flushTry r n
    | none => s)

/-- ACK (R338): the send queue takes it, and FLUSH nodes whose bytes it covers complete. -/
def execAck (h : Half) (b : List Byte) (s : State) : Host.Outcome State Fault Refusal :=
  whenLive s (fun s => s.onFlit h 2 4 b (fun s =>
    let s1 := s.ackIn h b
    (s1.half h).cswOps.foldl (fun s o => match s.cswNode o.node 1 with
      | some n => s.flushTry o.node n
      | none => s) s1))

/-! ## Barriers (R356 to R358) -/

/-- Registers of a barrier. -/
def State.barCfg (s : State) (h : Half) (b : Nat) (f : Fld) : Nat := s.rf (CSW_BAR_CFG h b) f
def State.barGen (s : State) (h : Half) (b : Nat) : Nat := s.rf (CSW_BAR_STATUS h b) CSW_BAR_STATUS.GEN
def State.barBroken (s : State) (h : Half) (b : Nat) : Bool := s.on (CSW_BAR_STATUS h b) CSW_BAR_STATUS.BROKEN

/-- CHILDREN; values above 16 read as 0. -/
def State.barChildren (s : State) (h : Half) (b : Nat) : Nat :=
  if s.barCfg h b CSW_BAR_CFG.CHILDREN ≤ 16 then s.barCfg h b CSW_BAR_CFG.CHILDREN else 0

/-- The half releases a generation (R357). -/
def State.barRelease (s : State) (h : Half) (b : Nat) : State :=
  let x := s.bar h b
  let gen := s.barGen h b
  let s1 := x.arrived.foldl (fun s c => s.sendFlit h 3 2 c.1 c.2 b 0 gen []) s
  let s2 := (s1.wf (CSW_BAR_TIME h b) CSW_BAR_TIME.US (s.us h)).wr (CSW_BAR_STATUS h b) (BitVec.ofNat 32 ((gen + 1) % 65536))
  let s3 := s2.setBar h b {}
  match x.node with
  | some r => s3.cswEnd h r 0
  | none => s3

/-- Arrivals are complete: the ROOT releases, another half tells its parent (R356). -/
def State.barComplete (s : State) (h : Half) (b : Nat) : State :=
  if s.rf (CSW_BAR_STATUS h b) CSW_BAR_STATUS.ARRIVED = s.barChildren h b + s.barCfg h b CSW_BAR_CFG.LOCAL then
    if s.barCfg h b CSW_BAR_CFG.ROOT = 1 then s.barRelease h b
    else s.sendFlit h 3 1 (s.barCfg h b CSW_BAR_CFG.PARENT) (s.barCfg h b CSW_BAR_CFG.PARENT_HALF) b 0 (s.barGen h b) []
  else s

/-- The barrier breaks (R357). -/
def State.barBreak (s : State) (h : Half) (b : Nat) : State :=
  let s1 := ((s.wf (CSW_BAR_STATUS h b) CSW_BAR_STATUS.BROKEN 1).wf (CSW_EVENT h) CSW_EVENT.BARRIER_BROKEN 1).log h
    { logLink 0 0 with event := 5, subject := b, kind := 7 }
  match (s.bar h b).node with
  | some r => s1.cswEnd h r 4
  | none => s1

/-- An ARRIVE of a child: counted once for its source; another GEN breaks the barrier (R356, R357). -/
def State.arriveIn (s : State) (h : Half) (f : List Byte) : State :=
  let b := fDestQ f
  let src := (fSrcNode f, fSrcHalf f)
  let x := s.bar h b
  if s.barCfg h b CSW_BAR_CFG.EN = 0 ∨ s.barBroken h b then s
  else if fInfo f % 65536 ≠ s.barGen h b then s.barBreak h b
  else if x.arrived.contains src then s
  else ((s.setBar h b { x with arrived := x.arrived ++ [src] }).add (CSW_BAR_STATUS h b) CSW_BAR_STATUS.ARRIVED 1).barComplete h b

/-- ARRIVE. -/
def execArrive (h : Half) (f : List Byte) (s : State) : Host.Outcome State Fault Refusal :=
  whenLive s (fun s => s.onFlit h 3 1 f (fun s => s.arriveIn h f))

/-- RELEASE (R357): the current generation is released; another GEN breaks the barrier. -/
def State.releaseIn (s : State) (h : Half) (f : List Byte) : State :=
  let b := fDestQ f
  if s.barCfg h b CSW_BAR_CFG.EN = 0 ∨ s.barBroken h b then s
  else if fInfo f % 65536 ≠ s.barGen h b then s.barBreak h b
  else s.barRelease h b

/-- RELEASE. -/
def execRelease (h : Half) (f : List Byte) (s : State) : Host.Outcome State Fault Refusal :=
  whenLive s (fun s => s.onFlit h 3 2 f (fun s => s.releaseIn h f))

/-- BARRIER (R358): a node of the barrier's context flushes its queues, makes the local arrival once for the generation, and waits. -/
def State.barrierTry (s : State) (r : NodeRef) (n : Node) : State :=
  let h := n.half
  let b := n.cswBar
  let x := s.bar h b
  if s.barCfg h b CSW_BAR_CFG.EN = 0 ∨ s.barCfg h b CSW_BAR_CFG.CONTEXT ≠ r.ctx then s.cswEnd h r 3
  else if s.barBroken h b then s.cswEnd h r 4
  else if s.anyBroken h n then s.cswEnd h r 3
  else if !s.flushed h (s.opOf h r) ∨ x.node = some r then s
  else
    let s1 := s.setBar h b { x with node := some r }
    if s.on (CSW_BAR_STATUS h b) CSW_BAR_STATUS.LOCAL_ARRIVED ∨ s.barCfg h b CSW_BAR_CFG.LOCAL = 0 then s1
    else ((s1.wf (CSW_BAR_STATUS h b) CSW_BAR_STATUS.LOCAL_ARRIVED 1).add (CSW_BAR_STATUS h b) CSW_BAR_STATUS.ARRIVED 1).barComplete h b

/-- BARRIER. -/
def execBarrier (r : NodeRef) (s : State) : Host.Outcome State Fault Refusal :=
  whenLive s (fun s => match s.cswNode r 2 with
    | some n => s.barrierTry r n
    | none => s)

/-- BARRIER_TIMEOUT (R357): the node completes with FAULT_RETRY and its arrival stays counted. -/
def execBarrierTimeout (r : NodeRef) (s : State) : Host.Outcome State Fault Refusal :=
  whenLive s (fun s => match s.cswNode r 2 with
    | some n => if n.cswTimeout ≠ 0 then s.cswEnd n.half r 4 else s
    | none => s)

/-- A write of CSW_BAR_CFG (R357): EN 1 sets GEN to 0 and clears the arrivals. -/
def State.barCfgWrite (s : State) (h : Half) (b v : Nat) : State :=
  let v := bits v 0 31
  let w := if bits v 25 5 ≤ 16 then v else v - bits v 25 5 * 2 ^ 25
  let s1 := s.wr (CSW_BAR_CFG h b) (BitVec.ofNat 32 w)
  if bit v 0 then (s1.wr (CSW_BAR_STATUS h b) 0).setBar h b { node := (s.bar h b).node } else s1

/-- BARRIER_EN_WRITE. -/
def execBarrierEnWrite (h : Half) (b v : Nat) (s : State) : Host.Outcome State Fault Refusal :=
  whenLive s (fun s => if b < 64 then s.barCfgWrite h b v else s)

/-! ## Expert records (Table 12.8) -/

/-- A header as 16 bytes. -/
def expHeader (node half fin row choice expert count batch arrival : Nat) : List Byte :=
  leBytes 16 (node + half * 2 ^ 14 + fin * 2 ^ 15 + row * 2 ^ 16 + choice * 2 ^ 32 + expert * 2 ^ 36 + count * 2 ^ 64 + batch * 2 ^ 96 +
    2 ^ 112 + arrival * 2 ^ 122)

/-- Fields of a header. -/
def expBits (b : List Byte) (lo len : Nat) : Nat := bits (fieldLE b 0 16) lo len
def expEnd (b : List Byte) : Bool := expBits b 15 1 == 1
def expGood (b : List Byte) : Bool := expBits b 112 4 == 1 && expBits b 48 16 == 0 && expBits b 116 6 == 0

/-- The stream of records for a queue: its records, then END when the queue is in QMASK. -/
def withEnd (s : State) (n : Node) (q : Nat) (recs : List (List Byte)) : List Byte :=
  recs.flatten ++ (if bit n.cswQmask q then expHeader s.nodeId n.half.num 1 0 0 0 recs.length n.cswBatch 0 else [])

/-- Each queue's stream is pushed as far as its LIMIT allows; the node ends once all are accepted (R350, R352). A queue that is not the context's
ends it with DATA_ERROR, a BROKEN one with FAULT_RETRY (R337). -/
def State.pushAll (s : State) (r : NodeRef) (n : Node) (qs : List Nat) (stream : Nat → List Byte) : State :=
  let h := n.half
  let codes := qs.map (s.sqCode h r.ctx)
  if codes.contains 0x63 then s.cswEnd h r 3
  else if codes.contains 0x66 then s.cswEnd h r 4
  else
    let p := qs.foldl (fun (p : State × Bool) q => let a := p.1.sqAttach h q (.node r); (a.1, p.2 && a.2)) (s, true)
    if !p.2 then p.1
    else
      let s1 := qs.foldl (fun s q =>
        let got := mapGet (fun _ => 0) (s.opOf h r).marks q
        let bs := (stream q).drop got
        let a := s.sqPush h q bs true (flitsFor bs.length)
        a.1.modOp h r (fun o => { o with marks := mapSet (fun _ => 0) o.marks q (got + a.2) })) p.1
      if qs.all (fun q => decide (mapGet (fun _ => 0) (s1.opOf h r).marks q = (stream q).length)) then s1.cswEnd h r 0 else s1

/-- The object of a bind entry, or an empty one. -/
def State.bindOr (s : State) (r : NodeRef) (i : Nat) : Obj :=
  (s.bindObj r i).getD { half := .west, idx := 0, tier := 1, addr := 0, size := 0 }

/-- A choice of DISPATCH (R350): row, choice, expert and the queue it goes to, if it goes. -/
structure Choice where
  m : Nat
  j : Nat
  e : Nat
  q : Option Nat
  deriving DecidableEq, Repr

/-- The choices of a DISPATCH node, in order; `idx` are the bytes of each row's index entries. -/
def State.choices (s : State) (n : Node) (idx : Nat → List Byte) : List Choice :=
  (List.range n.cswM).flatMap (fun m => (List.range n.cswK).map (fun j =>
    let e := u32 (idx m) (4 * j)
    let inside := decide (n.cswFirst ≤ e) && decide (e < n.cswFirst + n.cswCount)
    let a := CSW_EXPERT_MAP n.half e
    { m := m, j := j, e := e,
      q := if inside && s.on a CSW_EXPERT_MAP.VALID then some (s.rf a CSW_EXPERT_MAP.QUEUE) else none }))

/-- What DISPATCH sends (R350): the state after its reads, its queues, and the stream of each. -/
def State.dispatchPlan (s : State) (r : NodeRef) (n : Node) : State × List Nat × (Nat → List Byte) :=
  let oi := s.bindOr r 0
  let ro := s.bindOr r 1
  let p0 := (List.range n.cswM).foldl (fun (p : State × List (List Byte)) m =>
    let a := p.1.unitRead r oi (n.cswIn + m * n.cswInStride) (4 * n.cswK) {}
    (a.1, p.2 ++ [a.2])) (s, [])
  let p1 := p0.1.unitRead r ro n.cswRowOff (n.cswM * n.cswRow) {}
  let cs := s.choices n (fun m => p0.2.getD m [])
  let s1 := if cs.any (fun c => c.q.isNone) then p1.1.markNode r 3 else p1.1
  let qs := (n.cswQueues ++ cs.filterMap (fun c => c.q)).eraseDups
  (s1, qs, fun q => withEnd s n q ((cs.filter (fun c => decide (c.q = some q))).map (fun c =>
    expHeader s.nodeId n.half.num 0 c.m c.j c.e 0 n.cswBatch 0 ++ slice p1.2 (c.m * n.cswRow) n.cswRow)))

/-- DISPATCH (R350). -/
def State.dispatchRun (s : State) (r : NodeRef) (n : Node) : State :=
  let p := s.dispatchPlan r n
  p.1.pushAll r n p.2.1 p.2.2

/-- DISPATCH. -/
def execDispatch (r : NodeRef) (s : State) : Host.Outcome State Fault Refusal :=
  whenLive s (fun s => match s.cswNode r 3 with
    | some n => s.dispatchRun r n
    | none => s)

/-- What RETURN sends (R352): every filled slot's header with END 0 and its row, on the queue of its arrival, then END on every queue of QMASK. -/
def State.returnPlan (s : State) (r : NodeRef) (n : Node) : State × List Nat × (Nat → List Byte) :=
  let slots := n.cswCount * n.cswM
  let ph := s.unitRead r (s.bindOr r 0) n.cswIn (16 * slots) {}
  let pr := ph.1.unitRead r (s.bindOr r 1) n.cswRowOff (slots * n.cswRow) {}
  let pc := pr.1.unitRead r (s.bindOr r 2) 0 (4 * n.cswCount) {}
  let used := (List.range n.cswCount).flatMap (fun k => (List.range (min (u32 pc.2 (4 * k)) n.cswM)).map (fun i => k * n.cswM + i))
  let hdr (i : Nat) : List Byte := slice ph.2 (16 * i) 16
  let q (i : Nat) : Nat := expBits (hdr i) 122 6
  let rec' (i : Nat) : List Byte :=
    let v := fieldLE (hdr i) 0 16
    leBytes 16 (v - expBits (hdr i) 15 1 * 2 ^ 15 - expBits (hdr i) 112 4 * 2 ^ 112 + 2 ^ 112) ++ slice pr.2 (i * n.cswRow) n.cswRow
  (pc.1, (n.cswQueues ++ used.map q).eraseDups, fun k => withEnd s n k ((used.filter (fun i => q i == k)).map rec'))

/-- RETURN (R352). -/
def State.returnRun (s : State) (r : NodeRef) (n : Node) : State :=
  let p := s.returnPlan r n
  p.1.pushAll r n p.2.1 p.2.2

/-- RETURN. -/
def execReturnRows (r : NodeRef) (s : State) : Host.Outcome State Fault Refusal :=
  whenLive s (fun s => match s.cswNode r 5 with
    | some n => s.returnRun r n
    | none => s)

/-! ## COLLECT and COMBINE (R351, R353) -/

/-- Bytes of a record by what is known of it: END records have no row. -/
def recordLen (bs : List Byte) (row : Nat) : Nat := if 16 ≤ bs.length ∧ expEnd bs then 16 else 16 + row

/-- The record at the front of a receive queue, as far as it has come. -/
def State.recordSeen (s : State) (h : Half) (q row : Nat) : List Byte :=
  let p := (s.rq h q).part
  let bs := p ++ s.rqPeek h q 0 (min (s.rqAvail h q) (16 + row - p.length))
  bs.take (recordLen bs row)

/-- Can the queue give something of its next record: all that is left of it, or, where the buffer is smaller than a record, a part of it? -/
def State.recordMoves (s : State) (h : Half) (q row : Nat) : Bool :=
  let bs := s.recordSeen h q row
  decide (bs.length = recordLen bs row) ||
    (decide ((s.rq h q).size < 16 + row) && decide ((s.rq h q).part.length < bs.length))

/-- COLLECT places a record (R351). -/
def State.collectRec (s : State) (r : NodeRef) (n : Node) (q : Nat) (rc : List Byte) : State :=
  let h := n.half
  let e := expBits rc 36 12
  let k := e - n.cswFirst
  let o := s.opOf h r
  let used := mapGet (fun _ => 0) o.used k
  if !expGood rc then s.markNode r 3
  else if expBits rc 96 16 ≠ n.cswBatch then s.add (CSW_RQ_STALE h q) CSW_RQ_STALE.RECORDS 1
  else if expEnd rc then s.modOp h r (fun o => { o with ends := o.ends ++ [q] })
  else if e < n.cswFirst ∨ n.cswFirst + n.cswCount ≤ e then s.markNode r 3
  else if n.cswM ≤ used then s.modOp h r (fun o => { o with full := o.full + 1 })
  else
    let slot := k * n.cswM + used
    let v := fieldLE rc 0 16
    let hd := leBytes 16 (v - expBits rc 122 6 * 2 ^ 122 + q * 2 ^ 122)
    ((s.unitWrite (s.bindOr r 0) (n.cswOut + slot * n.cswRow) (rc.drop 16)).unitWrite (s.bindOr r 1) (16 * slot) hd).modOp h r
      (fun o => { o with used := mapSet (fun _ => 0) o.used k (used + 1) })

/-- COMBINE places a record (R353). -/
def State.combineRec (s : State) (r : NodeRef) (n : Node) (q : Nat) (rc : List Byte) : State :=
  let h := n.half
  let m := expBits rc 16 16
  let j := expBits rc 32 4
  let cell := m * n.cswK + j
  if !expGood rc then s.markNode r 3
  else if expBits rc 96 16 ≠ n.cswBatch then s.add (CSW_RQ_STALE h q) CSW_RQ_STALE.RECORDS 1
  else if expEnd rc then s.modOp h r (fun o => { o with ends := o.ends ++ [q] })
  else if n.cswM ≤ m ∨ n.cswK ≤ j ∨ (s.opOf h r).cells.contains cell then s.markNode r 3
  else (s.unitWrite (s.bindOr r 0) (n.cswOut + cell * n.cswRow) (rc.drop 16)).modOp h r (fun o => { o with cells := o.cells ++ [cell] })

/-- Queues not yet ended, in round robin from `pos` on. -/
def rotation (qs ends : List Nat) (pos : Nat) : List Nat :=
  let l := qs.filter (fun q => !ends.contains q)
  l.filter (fun q => decide (pos ≤ q)) ++ l.filter (fun q => decide (q < pos))

/-- The queue that gives the next record: one whose record has come in part, else the next in round robin (R351). -/
def State.recordQueue (s : State) (h : Half) (o : CswOp) (n : Node) : Option Nat :=
  let l := rotation n.cswQueues o.ends o.pos
  match l.find? (fun q => !(s.rq h q).part.isEmpty) with
  | some q => if s.recordMoves h q n.cswRow then some q else none
  | none => l.find? (fun q => s.recordMoves h q n.cswRow)

/-- The bytes of a record that have come are taken from the queue's buffer; uncorrectable ones make the node's data bad (R235). -/
def State.recordTake (s : State) (r : NodeRef) (h : Half) (q : Nat) (bs : List Byte) : State :=
  let k := bs.length - (s.rq h q).part.length
  let p := s.scanRanges h 1 (s.rqRanges h q k) []
  let s1 := if p.2.2.isEmpty then p.1 else (p.2.1.foldl (fun s w => s.logWord h 1 w (s.t1Handle h (4 * w))) p.1).markNode r 3
  s1.rqConsume h q k

/-- The bytes taken of a queue's unfinished record. -/
def State.setPart (s : State) (h : Half) (q : Nat) (bs : List Byte) : State := s.setRq h q { s.rq h q with part := bs }

/-- One record at a time is taken from the queues in round robin, as long as one can be; a record larger than the queue's buffer comes in parts. -/
def State.takeRecords (s : State) (r : NodeRef) (n : Node) (place : State → Nat → List Byte → State) : Nat → State
  | 0 => s
  | k + 1 =>
    let h := n.half
    match s.recordQueue h (s.opOf h r) n with
    | none => s
    | some q =>
      let bs := s.recordSeen h q n.cswRow
      let s1 := s.recordTake r h q bs
      if bs.length = recordLen bs n.cswRow then
        State.takeRecords (((place (s1.setPart h q []) q bs)).modOp h r (fun o => { o with pos := q + 1 })) r n place k
      else State.takeRecords (s1.setPart h q bs) r n place k

/-- COLLECT ends (R351): unused slots are zero-filled, and counts and the number of records discarded for full regions are written. -/
def State.collectEnd (s : State) (r : NodeRef) (n : Node) : State :=
  let h := n.half
  let o := s.opOf h r
  let used (k : Nat) : Nat := mapGet (fun _ => 0) o.used k
  let s1 := (List.range n.cswCount).foldl (fun s k =>
    let slot := k * n.cswM + used k
    let left := n.cswM - used k
    (s.unitWrite (s.bindOr r 0) (n.cswOut + slot * n.cswRow) (zeros (left * n.cswRow))).unitWrite (s.bindOr r 1) (16 * slot) (zeros (16 * left))) s
  let s2 := s1.unitWrite (s.bindOr r 2) 0 ((List.range n.cswCount).flatMap (fun k => leBytes 4 (used k)) ++ leBytes 4 o.full)
  s2.cswEnd h r (if o.full = 0 then 0 else 1)

/-- COMBINE ends (R353): every (m, j) without a row is zero-filled. -/
def State.combineEnd (s : State) (r : NodeRef) (n : Node) : State :=
  let o := s.opOf n.half r
  let missing := (List.range (n.cswM * n.cswK)).filter (fun c => !o.cells.contains c)
  let s1 := missing.foldl (fun s c => s.unitWrite (s.bindOr r 0) (n.cswOut + c * n.cswRow) (zeros n.cswRow)) s
  s1.cswEnd n.half r (if missing.isEmpty then 0 else 1)

/-- COLLECT and COMBINE take what has arrived and end once END has come from every queue. -/
def State.gatherRecords (s : State) (r : NodeRef) (n : Node) (place : State → Nat → List Byte → State) (fin : State → State) : State :=
  let h := n.half
  let codes := n.cswQueues.map (s.rqCode h r.ctx)
  if codes.contains 0x63 then s.cswEnd h r 3
  else if codes.contains 0x66 then s.cswEnd h r 4
  else
    let p := n.cswQueues.foldl (fun (p : State × Bool) q => let a := p.1.rqAttach h q (.node r); (a.1, p.2 && a.2)) (s, true)
    if !p.2 then p.1
    else
      let fuel := n.cswQueues.foldl (fun k q => k + s.rqAvail h q / 16) 1
      let s1 := State.takeRecords p.1 r n place fuel
      if n.cswQueues.all (fun q => (s1.opOf h r).ends.contains q) then fin s1 else s1

/-- COLLECT. -/
def execCollect (r : NodeRef) (s : State) : Host.Outcome State Fault Refusal :=
  whenLive s (fun s => match s.cswNode r 4 with
    | some n => s.gatherRecords r n (fun s q rc => s.collectRec r n q rc) (fun s => s.collectEnd r n)
    | none => s)

/-- COMBINE. -/
def execCombine (r : NodeRef) (s : State) : Host.Outcome State Fault Refusal :=
  whenLive s (fun s => match s.cswNode r 6 with
    | some n => s.gatherRecords r n (fun s q rc => s.combineRec r n q rc) (fun s => s.combineEnd r n)
    | none => s)

/-- BATCH_TIMEOUT (R354): the node ends as if the missing ENDs had come, with DEGRADED. -/
def execBatchTimeout (r : NodeRef) (s : State) : Host.Outcome State Fault Refusal :=
  whenLive s (fun s =>
    let late (s : State) (n : Node) : State := (s.wf (CSW_EVENT n.half) CSW_EVENT.BATCH_TIMEOUT 1).markNode r 1
    match s.cswNode r 4, s.cswNode r 6 with
    | some n, _ => if n.cswTimeout ≠ 0 then (late s n).collectEnd r n else s
    | none, some n => if n.cswTimeout ≠ 0 then (late s n).combineEnd r n else s
    | none, none => s)

/-- An aborted CAUSEWAY node stops and completes with ABORTED; an arrival already sent stays counted (R348). -/
def State.cswAbort (s : State) (r : NodeRef) (n : Node) : State := s.cswEnd n.half r 5

end Sys2Proof.Machine
end

