-- ==== Sys2Proof/Machine/Elementary.lean ====
section
/-! DEFINITION. exp, reciprocal square root, sigmoid and tanh on FP32 codes (R190): the correctly rounded result, computed with 320 fraction
bits, and the value of the device, which lies within one unit in the last place of it and is one function of the input. -/

namespace Sys2Proof.Machine

/-- Fraction bits of the fixed-point numbers below. -/
def fixBits : Nat := 320

/-- ln 2 in fixed point: the sum of 1 / (n 2^n). -/
def fixLn2 : Nat := (List.range 330).foldl (fun s n => s + 2 ^ (fixBits + 32) / ((n + 1) * 2 ^ (n + 1))) 0 / 2 ^ 32

/-- The exponential series of a fixed-point number below 1: `k` terms more from term `t` with number `n` on. -/
def fixSeries (r : Nat) : Nat → Nat → Nat → Nat
  | 0, _, _ => 0
  | k + 1, n, t => t + fixSeries r k (n + 1) (t * r / 2 ^ fixBits / (n + 1))

/-- e^x for x = ± m 2^e as a fixed-point number in [1, 2) and a power of two. -/
def expParts (neg : Bool) (m : Nat) (e : Int) : Nat × Int :=
  let x := scaledInt neg m (e + fixBits) 0
  let k := x / (fixLn2 : Int)
  (fixSeries (x % (fixLn2 : Int)).toNat 90 0 (2 ^ fixBits), k)

/-- The FP32 code of a / b x 2^e, correctly rounded: a sticky bit stands for the part cut off. -/
def ratioBits (neg : Bool) (a b : Nat) (e : Int) : Nat := (Fp.fin neg (2 * (a * 2 ^ fixBits / b) + 1) (e - fixBits - 1)).bits32

/-- Is the magnitude m 2^e at least `n`? -/
def magGe (m : Nat) (e : Int) (n : Nat) : Bool := decide (scaledInt false n 0 (min e 0) ≤ scaledInt false m e (min e 0))

/-- exp, correctly rounded. -/
def expExact (x : Nat) : Nat :=
  match Fp.ofBits fp32 x with
  | .nan => 0x7FC00000
  | .inf n => if n then 0 else fp32.infCode false
  | .fin n m e =>
    if magGe m e 105 then (if n then 0 else fp32.infCode false)
    else let p := expParts n m e; ratioBits false p.1 1 (p.2 - fixBits)

/-- sigmoid, correctly rounded: E / (E + 1) with E = e^x. -/
def sigmoidExact (x : Nat) : Nat :=
  match Fp.ofBits fp32 x with
  | .nan => 0x7FC00000
  | .inf n => if n then 0 else 0x3F800000
  | .fin n m e =>
    if magGe m e 105 then (if n then 0 else 0x3F800000)
    else
      let p := expParts n m e
      ratioBits false (p.1 * 2 ^ p.2.toNat) (p.1 * 2 ^ p.2.toNat + 2 ^ (fixBits + (-p.2).toNat)) 0

/-- tanh, correctly rounded: (E - 1) / (E + 1) with E = e^(2|x|), and the sign of x. -/
def tanhExact (x : Nat) : Nat :=
  match Fp.ofBits fp32 x with
  | .nan => 0x7FC00000
  | .inf n => fp32.signBit n + 0x3F800000
  | .fin n m e =>
    if m = 0 then fp32.signBit n
    else if magGe m e 32 then fp32.signBit n + 0x3F800000
    else
      let p := expParts false m (e + 1)
      ratioBits n (p.1 * 2 ^ p.2.toNat - 2 ^ fixBits) (p.1 * 2 ^ p.2.toNat + 2 ^ fixBits) 0

/-- The integer square root, settled bit by bit from bit `k - 1` down. -/
def rootBits (n : Nat) : Nat → Nat → Nat
  | 0, r => r
  | k + 1, r => rootBits n k (if (r + 2 ^ k) * (r + 2 ^ k) ≤ n then r + 2 ^ k else r)

/-- The reciprocal square root, correctly rounded; of a zero the infinity of its sign, of a negative number NaN. -/
def rsqrtExact (x : Nat) : Nat :=
  match Fp.ofBits fp32 x with
  | .nan => 0x7FC00000
  | .inf n => if n then 0x7FC00000 else 0
  | .fin n m e =>
    if m = 0 then fp32.infCode n
    else if n then 0x7FC00000
    else
      let odd := e % 2 = 1
      let m' := if odd then 2 * m else m
      let e' := if odd then e - 1 else e
      (Fp.fin false (2 * rootBits (2 ^ (2 * fixBits) / m') (fixBits + 1) 0 + 1) (-(e' / 2) - fixBits - 1)).bits32

/-- A code one unit in the last place away from a finite one: 1 up, 2 down in magnitude, any other number the code itself. -/
def ulpStep (c k : Nat) : Nat :=
  if 0x7F800000 ≤ c % 2 ^ 31 then c
  else if k = 1 then c + 1
  else if k = 2 then (if c % 2 ^ 31 = 0 then (2 ^ 31 - c) % 2 ^ 32 + 1 else c - 1)
  else c

/-- The functions of the device (R190): within one unit of the correctly rounded result. Which of the values, the spec leaves open: the
opaque `Config.fp32Func` says, for each function and input (log entry 5). -/
def fpExp (x : Nat) : Nat := ulpStep (expExact x) (Config.fp32Func 0 x % 3)
def fpRsqrt (x : Nat) : Nat := ulpStep (rsqrtExact x) (Config.fp32Func 1 x % 3)
def fpSigmoid (x : Nat) : Nat := ulpStep (sigmoidExact x) (Config.fp32Func 2 x % 3)
def fpTanh (x : Nat) : Nat := ulpStep (tanhExact x) (Config.fp32Func 3 x % 3)

end Sys2Proof.Machine
end

