-- ==== Sys2Proof/Machine/Formats.lean ====
section
/-! DEFINITION. The Plaza's number formats (Table 7.2, R181), its output conversions (R185), and its FP32 functions (R190). -/

namespace Sys2Proof.Machine

/-- Bits of an element of a format code. -/
def fmtBits (f : Nat) : Nat :=
  if f ≤ 3 ∨ f = 9 then 8 else if f = 4 ∨ f = 5 then 6 else if f = 6 then 4 else if f = 7 ∨ f = 8 then 16 else 32

/-- Does the format carry an E8M0 scale for each block of 32? -/
def fmtMx (f : Nat) : Bool := decide (2 ≤ f) && decide (f ≤ 6)

def fp16 : FpFmt := { ebits := 5, mbits := 10 }

/-- The value of a code of a format that has neither infinity nor NaN (FP6 and FP4, R183). -/
def Fp.ofSmall (f : FpFmt) (c : Nat) : Fp :=
  let s := bit c (f.ebits + f.mbits)
  let ex := bits c f.mbits f.ebits
  let fr := bits c 0 f.mbits
  if ex = 0 then .fin s fr f.emin else .fin s (2 ^ f.mbits + fr) (f.emin + ex - 1)

/-- The value of an element code. -/
def elemVal (f c : Nat) : Fp :=
  match f with
  | 0 => Fp.ofBits e4m3 c
  | 1 => Fp.ofBits e5m2 c
  | 2 => Fp.ofBits e4m3 c
  | 3 => Fp.ofBits e5m2 c
  | 4 => Fp.ofSmall { ebits := 2, mbits := 3 } c
  | 5 => Fp.ofSmall { ebits := 3, mbits := 2 } c
  | 6 => Fp.ofSmall { ebits := 2, mbits := 1 } c
  | 7 => Fp.ofBits bf16 c
  | 8 => Fp.ofBits fp16 c
  | 9 => Fp.ofInt (signed 8 c)
  | 10 => Fp.ofBits fp32 c
  | _ => Fp.ofInt (signed 32 c)

/-- The value of an E8M0 scale code. -/
def scaleVal (c : Nat) : Fp := if c = 255 then .nan else .fin false 1 ((c : Int) - 127)

/-- Bytes of the elements of `rows` rows of `n` elements, and of the whole operand with its scales (R181). -/
def elemBytes (f rows n : Nat) : Nat := ceilDiv (rows * n * fmtBits f) 8
def operandBytes (f rows n : Nat) : Nat := elemBytes f rows n + (if fmtMx f then rows * ceilDiv n 32 else 0)

/-- The element code at a linear index of packed elements. -/
def elemCode (f : Nat) (bs : List Byte) (i : Nat) : Nat :=
  let w := fmtBits f
  bits (fieldLE bs (i * w / 8) ((w + 7) / 8 + 1)) (i * w % 8) w

/-- Element (r, i) of an operand of rows of `n` elements with its scale applied. -/
def operandAt (f rows n : Nat) (bs : List Byte) (r i : Nat) : Fp :=
  let v := elemVal f (elemCode f bs (r * n + i))
  if fmtMx f then v.times (scaleVal (bs.getD (elemBytes f rows n + r * ceilDiv n 32 + i / 32) 0).toNat) else v

/-- Output conversion of an FP32 code (R185): FP16 goes beyond its range to infinity and has the NaN 0x7E00; FP32 is the value itself. -/
def convertOut (f v : Nat) : Conv :=
  match f with
  | 0 => convert e4m3 v
  | 1 => convert e5m2 v
  | 7 => convert bf16 v
  | 8 => match Fp.ofBits fp32 v with
    | .nan => { code := 0x7E00, nan := true }
    | .inf n => { code := fp16.infCode n, range := true }
    | .fin n m e =>
      let r := fp16.round m e
      if fp16.beyond r.1 r.2 then { code := fp16.infCode n, range := true } else { code := fp16.finCode n r.1 r.2 }
  | _ => { code := v }

/-- Does R185 give the conversion to a format? -/
def fmtOutKnown (f : Nat) : Bool := [0, 1, 7, 8, 10, 11].contains f

/-- Sum of a chunk by a binary tree that first adds elements 2i and 2i + 1 (R190). -/
def treeSum : Nat → List Nat → Nat
  | _, [] => 0
  | _, [x] => x
  | 0, x :: _ => x
  | k + 1, xs => treeSum k (pairs xs)
where
  pairs : List Nat → List Nat
    | x :: y :: r => fpAdd x y :: pairs r
    | l => l

/-- A row sum (R190): chunks of 256, each by the tree, added in order to a sum that starts at +0.0. -/
def rowSum : Nat → Nat → List Nat → Nat
  | 0, acc, _ => acc
  | k + 1, acc, xs => if xs.isEmpty then acc else rowSum k (fpAdd acc (treeSum 9 (xs.take 256))) (xs.drop 256)

/-- The row sum of a list of FP32 codes. -/
def fpRowSum (xs : List Nat) : Nat := rowSum (xs.length / 256 + 1) 0 xs

/-- GELU_TANH (Table 7.5), each step rounded. -/
def gelu (x : Nat) : Nat :=
  let t := fpMul 0x3D372713 (fpMul (fpMul x x) x)
  let w := fpTanh (fpMul 0x3F4C422A (fpAdd x t))
  fpMul (fpMul 0x3F000000 x) (fpAdd 0x3F800000 w)

/-- One component of ROPE: the exact value of a·c ± b·d, rounded once. -/
def ropePart (a c b d : Nat) (neg : Bool) : Nat :=
  let p := (Fp.ofBits fp32 a).times (Fp.ofBits fp32 c)
  let q := (Fp.ofBits fp32 b).times (Fp.ofBits fp32 d)
  let q' := if neg then q.times (.fin true 1 0) else q
  (p.plus q').bits32

/-- Is the code minus infinity? -/
def fpIsNegInf (x : Nat) : Bool := x == 0xFF800000

/-- Is `a` ranked before `b` in TOPK: larger, NaN below everything (R191)? -/
def topBefore (a b : Nat) : Bool := if fpIsNan a then false else if fpIsNan b then true else fpLt b a

/-- Insert an indexed value into a descending list; equal values keep the lower index first. -/
def topInsert (x : Nat × Nat) : List (Nat × Nat) → List (Nat × Nat)
  | [] => [x]
  | y :: r => if topBefore x.1 y.1 then x :: y :: r else y :: topInsert x r

/-- The `k` largest values of a row with their indices. -/
def topK (k : Nat) (xs : List Nat) : List (Nat × Nat) :=
  ((xs.zip (List.range xs.length)).foldl (fun l x => topInsert x l) []).take k

end Sys2Proof.Machine
end

