-- ==== Sys2Proof/Machine/Plaza.lean ====
section
/-! DEFINITION. The Plaza (chapter 07, R178 to R193): the operation block, MATMUL, GATHER and VECTOR, the vector tail, streamed operands and the
low-rank fallback. -/

namespace Sys2Proof.Machine

/-! ## The operation block (Table 7.3), at offset 0x40 of the node -/

/-- The 64 bytes of the block. -/
def Node.op (n : Node) : List Byte := slice n.bytes 0x40 64
def opVersion (b : List Byte) : Nat := fld b 0 3 0
def opKind (b : List Byte) : Nat := fld b 0 7 4
def opQuads (b : List Byte) : Nat := fld b 0 9 8
def opStreamed (b : List Byte) : Bool := fld b 0 10 10 == 1
def opLowrank (b : List Byte) : Bool := fld b 0 11 11 == 1
def opAFmt (b : List Byte) : Nat := fld b 4 3 0
def opBFmt (b : List Byte) : Nat := fld b 4 7 4
def opOutFmt (b : List Byte) : Nat := fld b 4 11 8
def opAux2Fmt (b : List Byte) : Nat := fld b 4 15 12
def opM (b : List Byte) : Nat := fld b 8 15 0
def opK (b : List Byte) : Nat := fld b 0xC 20 0
def opN (b : List Byte) : Nat := fld b 0x10 20 0
def opFunc (b : List Byte) : Nat := u32 b 0x14
def opA (b : List Byte) : Nat := u32 b 0x18
def opB (b : List Byte) : Nat := u32 b 0x1C
def opOut (b : List Byte) : Nat := u32 b 0x20
def opAux1 (b : List Byte) : Nat := u32 b 0x24
def opAux2 (b : List Byte) : Nat := u32 b 0x28
def opU (b : List Byte) : Nat := u32 b 0x2C
def opV (b : List Byte) : Nat := u32 b 0x30
def opRank (b : List Byte) : Nat := fld b 0x34 10 0
def opDeadline (b : List Byte) : Nat := fld b 0x34 31 16
def opP (b : List Byte) : Nat := u32 b 0x38
def opTopk (b : List Byte) : Nat := fld b 0x3C 4 0

/-- The functions of the tail, in order: code 0x00 ends the chain. -/
def opChain (b : List Byte) : List Nat :=
  ((List.range 4).map (fun i => bits (opFunc b) (8 * i) 8)).takeWhile (· != 0)

/-- Columns of a tile, 64Q, and rows of a tile: 512 when both operands are MXFP4, else 256 (R178, R188). -/
def opCols (b : List Byte) : Nat := 64 * (if opQuads b = 0 then 4 else if opQuads b = 1 then 2 else 1)
def opKt (b : List Byte) : Nat := if opAFmt b = 6 ∧ opBFmt b = 6 then 512 else 256

/-- Tiles of B: row blocks and column blocks. -/
def opRowBlocks (b : List Byte) : Nat := ceilDiv (opK b) (opKt b)
def opTiles (b : List Byte) : Nat := opRowBlocks b * ceilDiv (opN b) (opCols b)

/-- Rows of K and columns of N in tile `t`, in the order of R188: column blocks outer, row blocks inner. -/
def tileK (b : List Byte) (t : Nat) : Nat := min (opKt b) (opK b - t % max 1 (opRowBlocks b) * opKt b)
def tileN (b : List Byte) (t : Nat) : Nat := min (opCols b) (opN b - t / max 1 (opRowBlocks b) * opCols b)
/-- Bytes of a tile: its columns as rows of K, then their scales (R181). -/
def tileBytes (b : List Byte) (t : Nat) : Nat := operandBytes (opBFmt b) (tileN b t) (tileK b t)
/-- Where tile `t` begins among the tiles taken. -/
def tileStart (b : List Byte) (t : Nat) : Nat := (List.range t).foldl (fun n i => n + tileBytes b i) 0

/-! ## Products (R182 to R184) -/

/-- One block of 32 of a floating-point product: its exact sum. -/
def blockSum (a b : Nat → Fp) (lo n : Nat) : Fp :=
  (List.range n).foldl (fun acc i => acc.plus ((a (lo + i)).times (b (lo + i)))) (.fin false 0 0)

/-- The accumulator after a block: one rounding, and an exactly zero sum is +0.0; a NaN stays (R182, R183). -/
def accBlock (acc : Nat) (p : Fp) : Nat :=
  match (Fp.ofBits fp32 acc).plus p with
  | .fin _ 0 _ => 0
  | x => x.bits32

/-- An element of a floating-point MATMUL, as an FP32 code. -/
def dotFp (a b : Nat → Fp) (k : Nat) : Nat :=
  (List.range (ceilDiv k 32)).foldl (fun acc j => accBlock acc (blockSum a b (32 * j) (min 32 (k - 32 * j)))) 0

/-- An element of an INT8 MATMUL and whether it saturated (R184). -/
def dotInt (a b : Nat → Int) (k : Nat) : Int × Bool :=
  (List.range (ceilDiv k 32)).foldl (fun acc j =>
    let p := (List.range (min 32 (k - 32 * j))).foldl (fun t i => t + a (32 * j + i) * b (32 * j + i)) 0
    let r := acc32 acc.1 p
    (r.1, acc.2 || r.2)) (0, false)

/-! ## The tail (R189 to R191) -/

/-- What the tail reads: AUX1 as bytes, AUX2 as bytes, and the operation block. -/
structure Tail where
  aux1 : List Byte
  aux2 : List Byte
  op : List Byte
  deriving DecidableEq, Repr

/-- Bytes of AUX1 that a function takes. -/
def auxUse (b : List Byte) (f : Nat) : Nat :=
  if f = 1 ∨ f = 0x11 then 4 * opN b else if f = 0x10 then 2 * opN b else if f = 7 then opM b * (opN b / 2) * 8 else 0

/-- Where the vectors of the i-th function of the chain begin in AUX1. -/
def auxStart (b : List Byte) (i : Nat) : Nat := ((opChain b).take i).foldl (fun n f => n + auxUse b f) 0

/-- A BF16 value of AUX1 as an FP32 code: the `v`-th vector from a base, element `n`. -/
def Tail.vec (t : Tail) (base v n : Nat) : Nat := bf16To32 (fieldLE t.aux1 (base + 2 * (v * opN t.op + n)) 2)

/-- An elementwise function on row `m` (Table 7.5). -/
def Tail.elem (t : Tail) (base f m : Nat) (xs : List Nat) : List Nat :=
  let at' (i : Nat) : Nat := xs.getD i 0
  let aux2 (i : Nat) : Nat := (operandAt (opAux2Fmt t.op) (opM t.op) (opN t.op) t.aux2 m i).bits32
  let idx := List.range xs.length
  match f with
  | 1 => idx.map (fun i => fpFma (at' i) (t.vec base 0 i) (t.vec base 1 i))
  | 2 => idx.map (fun i => fpAdd (at' i) (aux2 i))
  | 3 => idx.map (fun i => fpMul (at' i) (aux2 i))
  | 4 => idx.map (fun i => fpMul (at' i) (fpSigmoid (at' i)))
  | 5 => idx.map (fun i => gelu (at' i))
  | 6 => idx.map (fun i => fpExp (at' i))
  | 7 => idx.map (fun i =>
      let j := i / 2 * 2
      let c := u32 t.aux1 (base + 8 * (m * (opN t.op / 2) + i / 2))
      let s := u32 t.aux1 (base + 8 * (m * (opN t.op / 2) + i / 2) + 4)
      if j + 1 ≥ xs.length then at' i
      else if i = j then ropePart (at' j) c (at' (j + 1)) s true else ropePart (at' j) s (at' (j + 1)) c false)
  | _ => xs

/-- A row function (Table 7.5, R191): the row, and whether a SOFTMAX row was all minus infinity. -/
def Tail.row (t : Tail) (base f : Nat) (xs : List Nat) : List Nat × Bool :=
  let n := fpOfInt xs.length
  let p := opP t.op
  let idx := List.range xs.length
  let at' (i : Nat) : Nat := xs.getD i 0
  match f with
  | 0x10 =>
    let r := fpRsqrt (fpAdd (fpDiv (fpRowSum (xs.map (fun x => fpMul x x))) n) p)
    (idx.map (fun i => fpMul (fpMul (at' i) r) (t.vec base 0 i)), false)
  | 0x11 =>
    let mu := fpDiv (fpRowSum xs) n
    let neg (x : Nat) : Nat := x ^^^ 0x80000000
    let d := xs.map (fun x => fpAdd x (neg mu))
    let r := fpRsqrt (fpAdd (fpDiv (fpRowSum (d.map (fun x => fpMul x x))) n) p)
    (idx.map (fun i => fpFma (fpMul (d.getD i 0) r) (t.vec base 0 i) (t.vec base 1 i)), false)
  | 0x12 =>
    let u := xs.map (fun x => fpMul p x)
    if u.all fpIsNegInf then (u.map (fun _ => 0), true)
    else
      let mx := u.foldl (fun a x => if fpLt a x then x else a) 0xFF800000
      let e := u.map (fun x => if fpIsNegInf x then 0 else fpExp (fpAdd x (mx ^^^ 0x80000000)))
      let sum := fpRowSum e
      (e.map (fun x => fpDiv x sum), false)
  | _ => (xs, false)

/-- A row of the result after the tail: its FP32 codes, the indices of a TOPK, and whether a SOFTMAX row was empty. -/
structure TailOut where
  vals : List Nat
  idx : List Nat := []
  empty : Bool := false
  deriving DecidableEq, Repr

/-- The tail applied to row `m`, function by function. -/
def Tail.run (t : Tail) (m : Nat) (xs : List Nat) : TailOut :=
  let fs := opChain t.op
  (List.range fs.length).foldl (fun (o : TailOut) i =>
    let f := fs.getD i 0
    let base := auxStart t.op i
    if f = 0x13 then
      let l := topK (opTopk t.op) o.vals
      { o with vals := l.map Prod.fst, idx := l.map Prod.snd }
    else if f ≥ 0x10 then
      let r := t.row base f o.vals
      { o with vals := r.1, empty := o.empty || r.2 }
    else { o with vals := t.elem base f m o.vals }) { vals := xs }

/-! ## Output -/

/-- Bytes of a converted row and the flags it raises. A format whose conversion the spec does not give is written with free values (log
entry 47). -/
def State.rowBytes (s : State) (f : Nat) (o : TailOut) : State × List Byte :=
  let cs := o.vals.map (convertOut f)
  let free := (List.range (ceilDiv (o.vals.length * fmtBits f) 8)).map (fun i => BitVec.ofNat 8 (Config.free (s.freeCtr + i)))
  if fmtOutKnown f then (s, cs.flatMap (fun c => leBytes (fmtBits f / 8) c.code) ++ o.idx.flatMap (leBytes 4))
  else ({ s with freeCtr := s.freeCtr + free.length }, free ++ o.idx.flatMap (leBytes 4))

/-- The event bits of a row's conversion and tail. -/
def State.rowEvents (s : State) (h : Half) (f : Nat) (o : TailOut) : State :=
  let cs := o.vals.map (convertOut f)
  let s1 := if cs.any (fun c => c.range) then s.wf (PLZ_EVENT h) PLZ_EVENT.FP_RANGE 1 else s
  let s2 := if cs.any (fun c => c.nan) then s1.wf (PLZ_EVENT h) PLZ_EVENT.NAN_OUT 1 else s1
  if o.empty then s2.wf (PLZ_EVENT h) PLZ_EVENT.EMPTY_ROW 1 else s2

/-- The object that a handle of the node's names, at the home the node keeps (R222, R225). -/
def State.nodeObj (s : State) (r : NodeRef) (v : Nat) : Obj :=
  let o := s.objAt (handleHalf v) (handleIdx v)
  match s.node r with
  | none => o
  | some (_, n) => match n.homes.find? (fun x => x.1 == v) with
    | some (_, t, a) => { o with tier := t, addr := a }
    | none => o

/-- The Plaza of a half with its fields changed. -/
def State.modPlaza (s : State) (h : Half) (f : PlazaSt → PlazaSt) : State := s.modHalf h (fun x => { x with plaza := f x.plaza })

/-- The rows of a result go through the tail and out, one after another. -/
def State.putRows (s : State) (h : Half) (r : NodeRef) (op : List Byte) (rows : List (List Nat)) : State :=
  let aux (v len : Nat) : List Byte := if v = 0 then [] else s.objRead (s.nodeObj r v) 0 len
  let t : Tail := {
    aux1 := aux (opAux1 op) ((opChain op).foldl (fun n f => n + auxUse op f) 0)
    aux2 := if (opChain op).any (fun f => f == 2 || f == 3) then aux (opAux2 op) (operandBytes (opAux2Fmt op) (opM op) (opN op)) else []
    op := op }
  let out := s.nodeObj r (opOut op)
  let res := (List.range rows.length).foldl (fun (p : State × Nat) m =>
    let o := t.run m (rows.getD m [])
    let b := (p.1.rowEvents h (opOutFmt op) o).rowBytes (opOutFmt op) o
    (b.1.unitWrite out p.2 b.2, p.2 + b.2.length)) (s, 0)
  res.1.modPlaza h (fun x => { x with written := true })

/-! ## MATMUL -/

/-- An operand's bytes for a node: bytes beyond its object are free values. -/
def State.operand (s : State) (r : NodeRef) (v f rows n : Nat) : State × List Byte :=
  s.unitRead r (s.nodeObj r v) 0 (operandBytes f rows n) {}

/-- An INT8 MATMUL whose output is INT32 puts out its accumulators (R184, R185). -/
def State.putInts (s : State) (h : Half) (r : NodeRef) (op : List Byte) (rows : List (List Int)) : State :=
  (s.unitWrite (s.nodeObj r (opOut op)) 0 (rows.flatMap (fun row => row.flatMap (fun v => leBytes 4 (unsigned 32 v))))).modPlaza h
    (fun x => { x with written := true })

/-- The product of A (M rows of K) with B, given as its element (n, k), with tail and output (R182 to R185, R189). -/
def State.product (s : State) (h : Half) (r : NodeRef) (op a : List Byte) (bInt : Nat → Nat → Int) (bVal : Nat → Nat → Fp) : State :=
  let m := opM op
  let n := opN op
  let k := opK op
  if opAFmt op = 9 then
    let rows := (List.range m).map (fun i => (List.range n).map (fun j =>
      dotInt (fun x => signed 8 (elemCode 9 a (i * k + x))) (bInt j) k))
    let s1 := if rows.any (fun l => l.any Prod.snd) then s.wf (PLZ_EVENT h) PLZ_EVENT.INT_SAT 1 else s
    if opOutFmt op = 11 then s1.putInts h r op (rows.map (fun l => l.map Prod.fst))
    else s1.putRows h r op (rows.map (fun l => l.map (fun v => fpOfInt v.1)))
  else s.putRows h r op ((List.range m).map (fun i => (List.range n).map (fun j =>
    dotFp (operandAt (opAFmt op) m k a i) (bVal j) k)))

/-- MATMUL with B in T1. -/
def State.matmulPlain (s : State) (h : Half) (r : NodeRef) (op : List Byte) : State :=
  let pa := s.operand r (opA op) (opAFmt op) (opM op) (opK op)
  let pb := pa.1.operand r (opB op) (opBFmt op) (opN op) (opK op)
  pb.1.product h r op pa.2 (fun j x => signed 8 (elemCode 9 pb.2 (j * opK op + x))) (operandAt (opBFmt op) (opN op) (opK op) pb.2)

/-- Element (n, k) of a B taken tile by tile: its tile, and the row and element within it. -/
def tileAt {α : Type} (op : List Byte) (f : Nat → Nat → Nat → Nat → List Byte → α) (data : List Byte) (n k : Nat) : α :=
  let t := n / max 1 (opCols op) * opRowBlocks op + k / opKt op
  f (tileN op t) (tileK op t) (n % max 1 (opCols op)) (k % opKt op) (slice data (tileStart op t) (tileBytes op t))

/-- MATMUL with every tile of B taken from the ring. -/
def State.matmulTiles (s : State) (h : Half) (r : NodeRef) (op : List Byte) : State :=
  let pa := s.operand r (opA op) (opAFmt op) (opM op) (opK op)
  let d := (s.half h).plaza.data
  pa.1.product h r op pa.2 (tileAt op (fun _ kk i x bs => signed 8 (elemCode 9 bs (i * kk + x))) d)
    (tileAt op (fun nn kk i x bs => operandAt (opBFmt op) nn kk bs i x) d)

/-- The ring of a streamed operation. -/
def State.plazaRing (s : State) (r : NodeRef) : Option Nat :=
  match s.node r with
  | some (_, n) => if opStreamed n.op then some (opB n.op % 256) else none
  | none => none

/-- Does the operation wait for a slot: the ring's consumer, with the slot it needs not FULL (R192)? WAIT_SLOT reads 1 then, and the cycles are
those that STR_STALL counts (R257). -/
def State.plazaWaits (s : State) (h : Half) : Bool :=
  match (s.half h).plaza.node with
  | none => false
  | some r => match s.plazaRing r with
    | some q => s.plazaNeeds h q && (s.ring h q).lens.isEmpty
    | none => false

/-- The operation ends without output; the node completes with a status (R254, R255). -/
def State.opFails (s : State) (h : Half) (r : NodeRef) (prim : Nat) : State :=
  (s.markNode r prim).modPlaza h (fun x => { x with written := true, skip := 0 })

/-- Uncorrectable words of a ring's slots are recorded (R235). -/
def State.logSlots (s : State) (h : Half) (ws : List Nat) : State := ws.foldl (fun s w => s.logWord h 1 w (s.t1Handle h (4 * w))) s

/-- A streamed MATMUL attaches to its ring at its start or waits its turn (R254), takes the tile in the slot at HEAD, and computes once it has them
all (R192). -/
def State.matmulStream (s0 : State) (h : Half) (r : NodeRef) (op : List Byte) : State :=
  let q := opB op % 256
  let p := s0.ringAttach h q true .plaza
  let s := p.1.modPlaza h (fun z => { z with startUs := some (z.startUs.getD (s0.us h)) })
  let y := s.ring h q
  let x := (s.half h).plaza
  if !s0.ringGood h r.ctx q ∨ q > 63 then s0.opFails h r 3
  else if !p.2 then s
  else if y.lens.isEmpty then (if s.ringOn h q STR_RING_STATE.BROKEN then s.opFails h r 4 else s)
  else if y.taken = y.lens.headD 0 then s
  else
    let len := y.lens.headD 0
    let t := s.ringTake h q len {}
    let need := tileBytes op x.tiles
    let free := (List.range (need - len)).map (fun i => BitVec.ofNat 8 (Config.free (t.1.freeCtr + i)))
    let s1 := ({ t.1 with freeCtr := t.1.freeCtr + (need - len) }).modPlaza h (fun z => { z with
      data := z.data ++ (t.2.1.take need ++ free)
      tiles := z.tiles + 1 })
    let s2 := if t.2.2.2.isEmpty then s1 else (s1.logSlots h t.2.2.1).markNode r 3
    if x.tiles + 1 = opTiles op then s2.matmulTiles h r op else s2

/-! ## GATHER and VECTOR -/

/-- GATHER (R191): row A[m] of table B into row m of OUT, converted; an index beyond the table gives zeros and DATA_ERROR. A row of FP32
is the value itself (R185), and a format that R185 gives no conversion to is copied as it stands when the table is in it. -/
def State.gatherRun (s : State) (h : Half) (r : NodeRef) (op : List Byte) : State :=
  let n := opN op
  let f := opBFmt op
  let tb := s.nodeObj r (opB op)
  let rows := 8 * tb.size / max 1 (n * fmtBits f + (if fmtMx f then 8 * ceilDiv n 32 else 0))
  let pi := s.unitRead r (s.nodeObj r (opA op)) 0 (4 * opM op) {}
  let pt := pi.1.unitRead r tb 0 (operandBytes f rows n) {}
  let idx := (List.range (opM op)).map (fun m => u32 pi.2 (4 * m))
  let bad := idx.any (fun i => decide (rows ≤ i))
  let s1 := if bad then (pt.1.markNode r 3).wf (PLZ_EVENT h) PLZ_EVENT.GATHER_RANGE 1 else pt.1
  let out := s1.nodeObj r (opOut op)
  let same := decide (f = opOutFmt op) && !fmtMx f && (decide (f = 10) || !fmtOutKnown f)
  let rb := fmtBits (opOutFmt op) * n / 8
  let res := idx.foldl (fun (p : State × Nat) i =>
    if rows ≤ i then (p.1.unitWrite out p.2 (zeros rb), p.2 + rb)
    else if same then (p.1.unitWrite out p.2 (slice pt.2 (i * rb) rb), p.2 + rb)
    else
      let o : TailOut := { vals := (List.range n).map (fun j => (operandAt f rows n pt.2 i j).bits32) }
      let b := (p.1.rowEvents h (opOutFmt op) o).rowBytes (opOutFmt op) o
      (b.1.unitWrite out p.2 b.2, p.2 + b.2.length)) (s1, 0)
  res.1.modPlaza h (fun x => { x with written := true })

/-- VECTOR (R189): the rows of A through the tail. -/
def State.vectorRun (s : State) (h : Half) (r : NodeRef) (op : List Byte) : State :=
  let pa := s.operand r (opA op) (opAFmt op) (opM op) (opN op)
  pa.1.putRows h r op ((List.range (opM op)).map (fun m => (List.range (opN op)).map (fun j =>
    (operandAt (opAFmt op) (opM op) (opN op) pa.2 m j).bits32)))

/-- The node that the Plaza runs with its operation block, while its result is still to be formed. -/
def State.plazaOp (s : State) (h : Half) (kind : Nat) : Option (NodeRef × List Byte) :=
  match (s.half h).plaza.node with
  | none => none
  | some r => match s.node r with
    | some (_, n) => if n.phase = .running ∧ opKind n.op = kind ∧ !(s.half h).plaza.written then some (r, n.op) else none
    | none => none

/-- GATHER (R191). -/
def execGather (h : Half) (s : State) : Host.Outcome State Fault Refusal :=
  whenLive s (fun s => match s.plazaOp h 2 with
    | some (r, op) => s.gatherRun h r op
    | none => s)

/-- VECTOR (R189). -/
def execVector (h : Half) (s : State) : Host.Outcome State Fault Refusal :=
  whenLive s (fun s => match s.plazaOp h 3 with
    | some (r, op) => s.vectorRun h r op
    | none => s)

/-! ## The fallback and the end (R187, R193) -/

/-- A low-rank factor's bytes: they are read from a PIN_T1 object of T1; what the Plaza reads of another is left open, and the bytes are free
values (log entry 82). -/
def State.factor (s : State) (r : NodeRef) (v f rows n : Nat) : State × List Byte :=
  let o := s.nodeObj r v
  let len := operandBytes f rows n
  if s.isPin o.half o.idx then s.operand r v f rows n
  else ({ s with freeCtr := s.freeCtr + len }, (List.range len).map (fun i => BitVec.ofNat 8 (Config.free (s.freeCtr + i))))

/-- The event bits of h's conversion to BF16 (R185). -/
def State.hiddenEvents (s : State) (h : Half) (cs : List Conv) : State :=
  let s1 := if cs.any (fun c => c.range) then s.wf (PLZ_EVENT h) PLZ_EVENT.FP_RANGE 1 else s
  if cs.any (fun c => c.nan) then s1.wf (PLZ_EVENT h) PLZ_EVENT.NAN_OUT 1 else s1

/-- The fallback's products once every slot has been released (R193): h = x·U rounded to BF16, then y = h·V with the tail. U and V are in B's
format (log entry 48). -/
def State.fallback (s : State) (h : Half) (r : NodeRef) (op : List Byte) : State :=
  let m := opM op
  let k := opK op
  let rk := opRank op
  let pa := s.operand r (opA op) (opAFmt op) m k
  let pu := pa.1.factor r (opU op) (opBFmt op) rk k
  let pv := pu.1.factor r (opV op) (opBFmt op) (opN op) rk
  let hid := (List.range m).map (fun i => (List.range rk).map (fun j =>
    convert bf16 (dotFp (operandAt (opAFmt op) m k pa.2 i) (operandAt (opBFmt op) rk k pu.2 j) k)))
  let rows := (List.range m).map (fun i => (List.range (opN op)).map (fun j =>
    dotFp (fun x => Fp.ofBits bf16 (((hid.getD i []).map (fun c => c.code)).getD x 0)) (operandAt (opBFmt op) (opN op) rk pv.2 j) rk))
  let s1 := (pv.1.hiddenEvents h hid.flatten).putRows h r op rows
  let s2 := (s1.add (PLZ_FALLBACK_COUNT h) PLZ_FALLBACK_COUNT.FALLBACKS 1).wf (PLZ_EVENT h) PLZ_EVENT.FALLBACK 1
  s2.markNode r 1

/-- A fallback under way: the products follow the release of the last slot; a ring that breaks before ends the operation (R255). -/
def State.fallbackGo (s : State) (h : Half) (r : NodeRef) (op : List Byte) : State :=
  let q := opB op % 256
  if (s.half h).plaza.skip = 0 then s.fallback h r op
  else if s.ringOn h q STR_RING_STATE.BROKEN ∧ (s.ring h q).lens.isEmpty then s.opFails h r 4 else s

/-- MATMUL (R182, R192): the operation that the Plaza runs forms its result, takes the next tile of a streamed B, or ends a fallback. No tile begins while a
gating window is closed (R396). -/
def execMatmul (h : Half) (s : State) : Host.Outcome State Fault Refusal :=
  whenLive s (fun s => match s.plazaOp h 1 with
    | some (r, op) => if !s.power.gateOpen then s else if (s.half h).plaza.fallback then s.fallbackGo h r op
      else if opStreamed op then s.matmulStream h r op else s.matmulPlain h r op
    | none => s)

/-- LOWRANK_FALLBACK (R193): the operation waits for a slot with its deadline passed, so that tiles are still to come. The slots still to come
are to be released unread. -/
def execLowrankFallback (h : Half) (s : State) : Host.Outcome State Fault Refusal :=
  whenLive s (fun s => match s.plazaOp h 1 with
    | some (_, op) =>
      let x := (s.half h).plaza
      let late := decide (opDeadline op ≠ 0) && x.startUs.any (fun t => decide (opDeadline op ≤ s.us h - t))
      if opStreamed op && opLowrank op && late && s.plazaWaits h then
        (s.modPlaza h (fun x => { x with data := [], fallback := true, skip := opTiles op - x.tiles })).wf (PLZ_STATUS h) PLZ_STATUS.FALLBACK 1
      else s
    | none => s)

/-- The Plaza becomes idle (R187). -/
def State.plazaIdle (s : State) (h : Half) : State :=
  let s1 := ((s.wf (PLZ_STATUS h) PLZ_STATUS.BUSY 0).wf (PLZ_STATUS h) PLZ_STATUS.FALLBACK 0).add
    (PLZ_OP_COUNT h) PLZ_OP_COUNT.OPS 1
  s1.modPlaza h (fun _ => {})

/-- What the checkers found on the operand A: words newly found uncorrectable are counted and recorded, and make the node's data bad (R235). -/
def State.plazaChecks (s : State) (r : NodeRef) (op : List Byte) (chk : Scan) : State :=
  let o := s.nodeObj r (opA op)
  let len := min o.size (if opKind op = 2 then 4 * opM op else operandBytes (opAFmt op) (opM op) (if opKind op = 1 then opK op else opN op))
  let p := (s.scanCount o.half o.tier chk).scanNew o.half o.tier o.addr len chk.bad
  let s1 := p.2.foldl (fun s w => s.logWord o.half o.tier w (s.handleOf o.half o.idx)) p.1
  if p.2.isEmpty then s1 else s1.markNode r 3

/-- PLAZA_OP_COMPLETE (R187): the last output byte has been written; the Plaza leaves its ring and becomes idle, and the node completes. -/
def execPlazaOpComplete (h : Half) (chk : Scan) (s : State) : Host.Outcome State Fault Refusal :=
  whenLive s (fun s =>
    match (s.half h).plaza.node with
    | none => s
    | some r =>
      if (s.half h).plaza.written then
        let op := match s.node r with | some (_, n) => n.op | none => []
        (((s.plazaChecks r op chk).leaveRings h .plaza false).plazaIdle h).endNode r 0
      else s)

/-- A node takes the Plaza at its dispatch: BUSY, KIND and QUADS show it. -/
def State.plazaBegin (s : State) (h : Half) (r : NodeRef) (n : Node) : State :=
  let a := PLZ_STATUS h
  (((s.wf a PLZ_STATUS.BUSY 1).wf a PLZ_STATUS.KIND (opKind n.op)).wf a PLZ_STATUS.QUADS (opQuads n.op)).modPlaza h
    (fun _ => { node := some r })

/-- The running operation is aborted: nothing more is written, and its ring is left under R255. -/
def State.plazaAbort (s : State) (h : Half) (r : NodeRef) : State :=
  if (s.half h).plaza.node = some r then ((s.leaveRings h .plaza true).plazaIdle h).endNode r 5 else s

end Sys2Proof.Machine
end

