-- ==== Sys2Proof/Machine/Sequencer.lean ====
section
/-! DEFINITION. The chamber sequencers (chapter 11): program start, the instructions, stalls, faults and the watchdog. -/

namespace Sys2Proof.Machine

/-! ## Registers of a sequencer -/

/-- CNT[n] of a Gallery's sequencer. -/
def State.cnt (s : State) (h : Half) (g n : Nat) : Nat := s.rf (GAL_SEQ_CNT h (8 * g + n)) GAL_SEQ_CNT.VALUE
def State.setCnt (s : State) (h : Half) (g n v : Nat) : State := s.wf (GAL_SEQ_CNT h (8 * g + n)) GAL_SEQ_CNT.VALUE v

/-- The sequencer of a Gallery changed. -/
def State.modSeq (s : State) (h : Half) (g : Nat) (f : SeqSt → SeqSt) : State :=
  let x := s.gal h g
  s.setGal h g { x with seq := f x.seq }

/-- STATE of GAL_SEQ_STATUS (Table 11.9). -/
def State.seqState (s : State) (h : Half) (g v : Nat) : State := s.wf (GAL_SEQ_STATUS h g) GAL_SEQ_STATUS.STATE v

/-- Is the Gallery's sequencer running? -/
def State.seqRunning (s : State) (h : Half) (g : Nat) : Bool := s.on (GAL_SEQ_STATUS h g) GAL_SEQ_STATUS.RUNNING

/-- Start state of a program (Table 11.1). -/
def State.seqInit (s : State) (h : Half) (g : Nat) (n : Node) : State :=
  let s1 := s.setGal h g { s.gal h g with started := true, seq := { npc := n.progEntry, dogUs := s.us h } }
  let s2 := (List.range 8).foldl (fun s i =>
    s.setCnt h g i (if i = 1 then n.vectors else if i = 2 then n.param else 0)) s1
  let a := GAL_SEQ_STATUS h g
  let s3 := ((s2.wf a GAL_SEQ_STATUS.RUNNING 1).wf a GAL_SEQ_STATUS.PC n.progEntry).wf a GAL_SEQ_STATUS.STATE 1
  (s3.wf a GAL_SEQ_STATUS.MISS 0).wf a GAL_SEQ_STATUS.CLIP 0

/-- PROGRAM_START (R303): the node that holds the Gallery is running and its program has not started here. -/
def State.progStart (s : State) (h : Half) (g : Nat) : State :=
  match (s.gal h g).node with
  | none => s
  | some r => match s.node r with
    | none => s
    | some (_, n) =>
      if n.phase = .running ∧ n.kind = 1 ∧ (s.gal h g).started = false then s.seqInit h g n else s

/-- PROGRAM_START. -/
def execProgramStart (h : Half) (g : Nat) (s : State) : Host.Outcome State Fault Refusal :=
  whenLive s (fun s => if g < 32 then s.progStart h g else s)

/-! ## Stopping a node (R318, R319) -/

/-- Halt the sequencers of a node's Galleries: nothing further is decoded. -/
def State.haltSeqs (s : State) (n : Node) : State :=
  n.gals.foldl (fun s g =>
    let s1 := if s.seqRunning n.half g then
      (s.seqState n.half g 6).wf (GAL_SEQ_STATUS n.half g) GAL_SEQ_STATUS.RUNNING 0 else s
    (s1.setGal n.half g { s1.gal n.half g with started := true }).modSeq n.half g (fun q => { q with wait := .none })) s

/-- Stop a node for a fault of one of its sequencers: the fault registers, the event bit, the record; the node completes with DATA_ERROR
once its waves have ended (R318). `ev` is the event field's number in GAL_SEQ_EVENT. -/
def State.stopNode (s : State) (h : Half) (g : Nat) (r : NodeRef) (pc cause word ev : Nat) : State :=
  match s.node r with
  | none => s
  | some (_, n) =>
    let a := GAL_SEQ_FAULT h g
    let s1 := ((s.wf a GAL_SEQ_FAULT.PC pc).wf a GAL_SEQ_FAULT.CAUSE cause).wf (GAL_SEQ_FAULT_WORD h g) GAL_SEQ_FAULT_WORD.WORD word
    let s2 := (s1.wf (GAL_SEQ_EVENT h g) { lo := ev, len := 1 } 1).logNode h r
      { logSoft 6 0 with code := cause, event := ev + 1, subject := 32 * h.num + g, kind := 3 }
    let s3 := (s2.markNode r 3).modNode r (fun n => { n with stopped := true })
    (s3.haltSeqs n).galMaybeEnd r

/-! ## Fetch and advance (R305, R306) -/

/-- The decoded instruction at a sequencer's next word; WAVE with ADD 1 and an OUTFMT other than 0b11 is illegal (R311). -/
def seqDecodeAt (word : Nat) (q : SeqSt) : SeqDecode :=
  match seqDecode word with
  | .ok (.wave a b c d fmt v i k) => if q.add && fmt != 3 then .error 3 else .ok (.wave a b c d fmt v i k)
  | x => x

/-- The word that a running sequencer that does not stall executes next: node, word address, word, and what it decodes to. -/
def State.seqFetch (s : State) (h : Half) (g : Nat) : Option (NodeRef × Nat × Nat × SeqDecode) :=
  match (s.gal h g).node with
  | none => none
  | some r =>
    let q := (s.gal h g).seq
    if s.seqRunning h g && q.wait == .none && decide (g < 32) && !s.nodeAborted r then
      let w := s.rf (GAL_PROG h (1024 * g + q.npc)) GAL_PROG.WORD
      some (r, q.npc, w, seqDecodeAt w q)
    else none

/-- The instruction at the sequencer's next word, when it is legal. -/
def State.seqInstr (s : State) (h : Half) (g : Nat) : Option SeqInstr :=
  match s.seqFetch h g with
  | some (_, _, _, .ok i) => some i
  | _ => none

/-- An instruction has executed: the counter, PC, and the next word; passing word 1023 stops the node with PC_RANGE (R306). -/
def State.seqGo (s : State) (h : Half) (g next : Nat) : State :=
  let q := (s.gal h g).seq
  let s1 := (s.add (GAL_SEQ_INSTR h g) GAL_SEQ_INSTR.WORDS 1).wf (GAL_SEQ_STATUS h g) GAL_SEQ_STATUS.PC q.npc
  let s2 := (s1.modSeq h g (fun q => { q with npc := next, wait := .none })).seqState h g 1
  if next ≥ 1024 then
    match (s.gal h g).node with
    | some r => s2.stopNode h g r q.npc 4 0 2
    | none => s2
  else s2

/-- The instruction has executed and the next word follows. -/
def State.seqNext (s : State) (h : Half) (g : Nat) : State := s.seqGo h g ((s.gal h g).seq.npc + 1)

/-- The instruction stalls (Table 11.3), shown in PC and STATE. -/
def State.seqStall (s : State) (h : Half) (g : Nat) (w : SeqWait) (st : Nat) : State :=
  ((s.modSeq h g (fun q => { q with wait := w })).wf (GAL_SEQ_STATUS h g) GAL_SEQ_STATUS.PC (s.gal h g).seq.npc).seqState h g st

/-- Run an effect on a Gallery whose next instruction passes a match. -/
def onInstr (h : Half) (g : Nat) (f : State → SeqInstr → State) (s : State) : Host.Outcome State Fault Refusal :=
  whenLive s (fun s => match s.seqInstr h g with
    | some i => f s i
    | none => s)

/-! ## Issuing a wave (R308) -/

/-- Latches that waves hold: from their WAVE to the end of their slices. -/
def Gal.latches (x : Gal) : List Nat :=
  (x.waves.filter (fun w => [WavePhase.filling, .latched, .selecting, .slices].contains w.phase)).map Wave.latch

/-- The latch that no wave holds, if one is free: the one after the last used (R50). -/
def Gal.freeLatch (x : Gal) : Option Nat :=
  let a := x.latch % 2
  if !x.latches.contains a then some a else if !x.latches.contains (1 - a) then some (1 - a) else none

/-- A WAVE that finds a latch: the wave copies the staged settings, delivery of its inputs begins, and VINC steps CNT[0]. The next wave takes the
other latch (R50). -/
def State.issueWave (s0 : State) (h : Half) (g : Nat) (r : NodeRef) (n : Node) (latch : Nat) (w : Wave) (vinc iuse : Bool)
    (ireg : Nat) : State :=
  let s := s0.stamp.2
  let x := s.gal h g
  let q := x.seq
  let v := s.cnt h g 0
  let ord := if n.inShared then 0 else g - n.galFirst
  let w1 : Wave := { w with
    node := r
    ord := q.issued
    rpp := q.rpp
    mask := q.mask
    acc := q.add
    uniform := q.uniform
    sbOff := n.sbOffset + (match q.scaleReg with | some k => s.cnt h g k | none => 0)
    emit := q.emit
    outOff := n.outOffset + v * n.outStride + (match q.emitReg with | some k => s.cnt h g k | none => 0)
    latch := latch
    begun := s.power.gateOpen
    order := s0.stamp.1 }
  let w2 : Wave := { w1 with
    inAddr := n.inOffset + v * n.inStride + ord * 4 * w1.g * w1.blockLen + (if iuse then s.cnt h g ireg else 0) }
  let s1 := s.setGal h g { x with
    waves := x.waves ++ [w2]
    latch := 1 - latch
    seq := { q with issued := q.issued + 1, dogUs := s.us h } }
  (if vinc then s1.setCnt h g 0 ((v + 1) % 2 ^ 32) else s1).seqNext h g

/-- WAVE: issue, or stall while both latches are held. -/
def State.seqWave (s : State) (h : Half) (g : Nat) (w : Wave) (vinc iuse : Bool) (ireg : Nat) : State :=
  match (s.gal h g).node with
  | none => s
  | some r => match s.node r, (s.gal h g).freeLatch with
    | some (_, n), some l => s.issueWave h g r n l w vinc iuse ireg
    | _, _ => s.seqStall h g .latch 2

/-! ## Staged settings (R307 to R313) -/

/-- Mask the rows [lo, hi) of a mask. -/
def maskClose (m : List (Nat × Nat)) (lo hi : Nat) : List (Nat × Nat) :=
  (m.flatMap (fun r => [(r.1, min r.2 lo), (max r.1 hi, r.2)])).filter (fun r => decide (r.1 < r.2))

/-- Unmask the rows [lo, hi). -/
def maskOpen (m : List (Nat × Nat)) (lo hi : Nat) : List (Nat × Nat) :=
  if lo < hi then maskClose m lo hi ++ [(lo, hi)] else m

/-- ROWMASK on rows `first` to `last` (R309): a range whose first row is above its last changes nothing; otherwise it is clipped to the
rows below 65,536. -/
def rowmask (mop first last : Nat) (m : List (Nat × Nat)) : List (Nat × Nat) :=
  let lo := min first 65536
  let hi := min (last + 1) 65536
  if mop = 3 then [(0, 65536)]
  else if first > last then m
  else if mop = 0 then maskOpen [] lo hi
  else if mop = 1 then maskOpen m lo hi
  else maskClose m lo hi

/-- An instruction that changes only the staged settings. -/
def State.stageSet (s : State) (h : Half) (g : Nat) (f : SeqSt → SeqSt) : State := (s.modSeq h g f).seqNext h g

/-- ROWMASK with an MOP. -/
def State.seqRowmask (s : State) (h : Half) (g mop freg lreg : Nat) : State :=
  s.stageSet h g (fun q => { q with mask := rowmask mop (s.cnt h g freg) (s.cnt h g lreg) q.mask })

/-! ## The instructions -/

/-- NOP. -/
def execNop (h : Half) (g : Nat) (s : State) : Host.Outcome State Fault Refusal :=
  onInstr h g (fun s i => match i with | .nop => s.seqNext h g | _ => s) s

/-- WAVE (R308). -/
def execWave (h : Half) (g : Nat) (s : State) : Host.Outcome State Fault Refusal :=
  onInstr h g (fun s i => match i with
    | .wave lp im gn gr fmt vinc iuse ireg =>
      s.seqWave h g { node := ⟨0, 0, 0⟩, lplane := lp, inmode := im, gain := gn, group := gr, outfmt := fmt } vinc iuse ireg
    | _ => s) s

/-- ROWMASK SET (R309). -/
def execRowmaskSet (h : Half) (g : Nat) (s : State) : Host.Outcome State Fault Refusal :=
  onInstr h g (fun s i => match i with | .rowmask 0 f l => s.seqRowmask h g 0 f l | _ => s) s
/-- ROWMASK OPEN (R309). -/
def execRowmaskOpen (h : Half) (g : Nat) (s : State) : Host.Outcome State Fault Refusal :=
  onInstr h g (fun s i => match i with | .rowmask 1 f l => s.seqRowmask h g 1 f l | _ => s) s
/-- ROWMASK CLOSE (R309). -/
def execRowmaskClose (h : Half) (g : Nat) (s : State) : Host.Outcome State Fault Refusal :=
  onInstr h g (fun s i => match i with | .rowmask 2 f l => s.seqRowmask h g 2 f l | _ => s) s
/-- ROWMASK ALL (R309). -/
def execRowmaskAll (h : Half) (g : Nat) (s : State) : Host.Outcome State Fault Refusal :=
  onInstr h g (fun s i => match i with | .rowmask 3 f l => s.seqRowmask h g 3 f l | _ => s) s

/-- SPLIT (R310). -/
def execSplit (h : Half) (g : Nat) (s : State) : Host.Outcome State Fault Refusal :=
  onInstr h g (fun s i => match i with | .split k => s.stageSet h g (fun q => { q with rpp := k }) | _ => s) s

/-- ACC (R311). -/
def execAcc (h : Half) (g : Nat) (s : State) : Host.Outcome State Fault Refusal :=
  onInstr h g (fun s i => match i with | .acc a => s.stageSet h g (fun q => { q with add := a }) | _ => s) s

/-- SCALE (R312). -/
def execScale (h : Half) (g : Nat) (s : State) : Host.Outcome State Fault Refusal :=
  onInstr h g (fun s i => match i with
    | .scale u r => s.stageSet h g (fun q => { q with uniform := u, scaleReg := r })
    | _ => s) s

/-- EMIT (R313). -/
def execEmit (h : Half) (g : Nat) (s : State) : Host.Outcome State Fault Refusal :=
  onInstr h g (fun s i => match i with
    | .emit en r => s.stageSet h g (fun q => { q with emit := en, emitReg := r })
    | _ => s) s

/-- Has the checksum test of every wave decoded so far ended (R314)? -/
def Gal.tested (x : Gal) : Bool := x.latches.isEmpty

/-- CHECK sets the MISS and CLIP flags and clears its record (R314). -/
def State.seqCheck (s : State) (h : Half) (g : Nat) : State :=
  let q := (s.gal h g).seq
  let a := GAL_SEQ_STATUS h g
  let s1 := (s.wf a GAL_SEQ_STATUS.MISS (b2n q.missed)).wf a GAL_SEQ_STATUS.CLIP (b2n q.clipped)
  (s1.modSeq h g (fun q => { q with missed := false, clipped := false })).seqNext h g

/-- CHECK (R314). -/
def execCheck (h : Half) (g : Nat) (s : State) : Host.Outcome State Fault Refusal :=
  onInstr h g (fun s i => match i with
    | .check => if (s.gal h g).tested then s.seqCheck h g else s.seqStall h g .check 4
    | _ => s) s

/-- SIGNALs of an event that a Gallery has executed in the program it runs; none before its start (Table 11.1, R316). -/
def Gal.signalled (x : Gal) (e : Nat) : Nat := if x.started then x.seq.signals.getD e 0 else 0

/-- Does a barrier hold: every Gallery of the node has signalled the event often enough or has passed END (R316)? -/
def State.barrierHolds (s : State) (h : Half) (g e : Nat) : Bool :=
  match (s.gal h g).node with
  | none => false
  | some r => match s.node r with
    | none => false
    | some (_, n) => n.gals.all (fun x => n.galsEnded.contains x ||
        decide ((s.gal h g).seq.waits.getD e 0 ≤ (s.gal h x).signalled e))

/-- WAIT BARRIER (R316). -/
def execWaitBarrier (h : Half) (g : Nat) (s : State) : Host.Outcome State Fault Refusal :=
  onInstr h g (fun s i => match i with
    | .wait 0 e =>
      let s1 := s.modSeq h g (fun q => { q with waits := addAt q.waits e 1 })
      if s1.barrierHolds h g e then s1.seqNext h g else s1.seqStall h g .barrier 3
    | _ => s) s

/-- Have all output writes of the waves decoded so far landed (R316)? -/
def Gal.landed (x : Gal) : Bool := x.waves.isEmpty
/-- Have all waves decoded so far sent their last output beat (R316)? -/
def Gal.idle (x : Gal) : Bool := x.waves.all (fun w => w.phase == .output)

/-- WAIT LANDED (R316). -/
def execWaitLanded (h : Half) (g : Nat) (s : State) : Host.Outcome State Fault Refusal :=
  onInstr h g (fun s i => match i with
    | .wait 1 _ => if (s.gal h g).landed then s.seqNext h g else s.seqStall h g .landed 3
    | _ => s) s

/-- WAIT IDLE (R316). -/
def execWaitIdle (h : Half) (g : Nat) (s : State) : Host.Outcome State Fault Refusal :=
  onInstr h g (fun s i => match i with
    | .wait 2 _ => if (s.gal h g).idle then s.seqNext h g else s.seqStall h g .idle 3
    | _ => s) s

/-- SIGNAL (R316). -/
def execSignal (h : Half) (g : Nat) (s : State) : Host.Outcome State Fault Refusal :=
  onInstr h g (fun s i => match i with
    | .signal e => s.stageSet h g (fun q => { q with signals := addAt q.signals e 1 })
    | _ => s) s

/-- LOOP (R315). -/
def State.seqLoop (s : State) (h : Half) (g r target : Nat) : State :=
  let v := s.cnt h g r
  if v = 0 then s.seqNext h g
  else
    let s1 := s.setCnt h g r (v - 1)
    if v = 1 then s1.seqNext h g else s1.seqGo h g target

/-- LOOP. -/
def execLoop (h : Half) (g : Nat) (s : State) : Host.Outcome State Fault Refusal :=
  onInstr h g (fun s i => match i with | .loop r t => s.seqLoop h g r t | _ => s) s

/-- Conditions of BR (Table 11.4). -/
def State.brHolds (s : State) (h : Half) (g cond r : Nat) : Bool :=
  let a := GAL_SEQ_STATUS h g
  match cond with
  | 0 => true
  | 1 => s.cnt h g r == 0
  | 2 => s.cnt h g r != 0
  | 3 => s.on a GAL_SEQ_STATUS.MISS
  | 4 => !s.on a GAL_SEQ_STATUS.MISS
  | 5 => s.on a GAL_SEQ_STATUS.CLIP
  | _ => !s.on a GAL_SEQ_STATUS.CLIP

/-- BR (R315). -/
def execBr (h : Half) (g : Nat) (s : State) : Host.Outcome State Fault Refusal :=
  onInstr h g (fun s i => match i with
    | .br c r t => if s.brHolds h g c r then s.seqGo h g t else s.seqNext h g
    | _ => s) s

/-- SETI (R315). -/
def execSeti (h : Half) (g : Nat) (s : State) : Host.Outcome State Fault Refusal :=
  onInstr h g (fun s i => match i with | .seti d v => (s.setCnt h g d v).seqNext h g | _ => s) s

/-- ADD (R315): CNT[SRC], or the sign-extended IMM; the sum wraps modulo 2^32. -/
def State.seqAdd (s : State) (h : Half) (g d : Nat) (src : Option Nat) (imm : Nat) : State :=
  let x : Nat := match src with | some r => s.cnt h g r | none => unsigned 32 (signed 20 imm)
  (s.setCnt h g d ((s.cnt h g d + x) % 2 ^ 32)).seqNext h g

/-- ADD. -/
def execAdd (h : Half) (g : Nat) (s : State) : Host.Outcome State Fault Refusal :=
  onInstr h g (fun s i => match i with | .add d src imm => s.seqAdd h g d src imm | _ => s) s

/-- END ends the Gallery's part of the node (R317). -/
def State.seqEnd (s : State) (h : Half) (g : Nat) : State :=
  match (s.gal h g).node with
  | none => s
  | some r =>
    let q := (s.gal h g).seq
    let a := GAL_SEQ_STATUS h g
    let s1 := ((s.add (GAL_SEQ_INSTR h g) GAL_SEQ_INSTR.WORDS 1).wf a GAL_SEQ_STATUS.PC q.npc).wf a GAL_SEQ_STATUS.RUNNING 0
    let s2 := (s1.seqState h g 0).modSeq h g (fun q => { q with wait := .none })
    (s2.modNode r (fun n => { n with galsEnded := n.galsEnded ++ [g] })).galMaybeEnd r

/-- END (R317). -/
def execEndProgram (h : Half) (g : Nat) (s : State) : Host.Outcome State Fault Refusal :=
  onInstr h g (fun s i => match i with
    | .fin => if (s.gal h g).landed then s.seqEnd h g else s.seqStall h g .fin 5
    | _ => s) s

/-! ## Stalls, faults, the store -/

/-- The instruction at which a running sequencer stalls. -/
def State.seqStalled (s : State) (h : Half) (g : Nat) : Option SeqInstr :=
  let q := (s.gal h g).seq
  match (s.gal h g).node with
  | none => none
  | some r =>
    if s.seqRunning h g && q.wait != .none && decide (g < 32) && !s.nodeAborted r then
      match seqDecodeAt (s.rf (GAL_PROG h (1024 * g + q.npc)) GAL_PROG.WORD) q with
      | .ok i => some i
      | .error _ => none
    else none

/-- SEQUENCER_STALL_END (R306): a stalled WAVE, CHECK, WAIT or END finds its condition met and the sequencer proceeds. -/
def State.stallEnd (s : State) (h : Half) (g : Nat) : State :=
  let x := s.gal h g
  match s.seqStalled h g with
  | some (.wave lp im gn gr fmt vinc iuse ireg) =>
    s.seqWave h g { node := ⟨0, 0, 0⟩, lplane := lp, inmode := im, gain := gn, group := gr, outfmt := fmt } vinc iuse ireg
  | some .check => if x.tested then s.seqCheck h g else s
  | some (.wait 0 e) => if s.barrierHolds h g e then s.seqNext h g else s
  | some (.wait 1 _) => if x.landed then s.seqNext h g else s
  | some (.wait _ _) => if x.idle then s.seqNext h g else s
  | some .fin => if x.landed then s.seqEnd h g else s
  | _ => s

/-- SEQUENCER_STALL_END. -/
def execSequencerStallEnd (h : Half) (g : Nat) (s : State) : Host.Outcome State Fault Refusal :=
  whenLive s (fun s => s.stallEnd h g)

/-- ILLEGAL_INSTRUCTION (R318): the sequencer decodes an illegal instruction. -/
def execIllegalInstruction (h : Half) (g : Nat) (s : State) : Host.Outcome State Fault Refusal :=
  whenLive s (fun s => match s.seqFetch h g with
    | some (r, pc, w, .error cause) => (s.wf (GAL_SEQ_STATUS h g) GAL_SEQ_STATUS.PC pc).stopNode h g r pc cause w 0
    | _ => s)

/-- The watchdog limit in microseconds; 0 acts as 1,000 (Table 11.8). -/
def State.dogLimit (s : State) (h : Half) (g : Nat) : Nat :=
  let v := s.rf (GAL_SEQ_CTRL h g) GAL_SEQ_CTRL.WDOG_US
  if v = 0 then 1000 else v

/-- Has the watchdog's count passed its limit: the time since the later of the program start and the last WAVE that started a wave, where a
stall of a WAVE for a latch does not count (R319)? -/
def State.dogExpired (s : State) (h : Half) (g : Nat) : Bool :=
  let q := (s.gal h g).seq
  q.wait != .latch && decide (s.dogLimit h g < s.us h - q.dogUs)

/-- SEQ_WATCHDOG (R319): the watchdog of a running sequencer expires. -/
def execSeqWatchdog (h : Half) (g : Nat) (s : State) : Host.Outcome State Fault Refusal :=
  whenLive s (fun s => match (s.gal h g).node with
    | some r => if s.seqRunning h g && decide (g < 32) && s.dogExpired h g then
        s.stopNode h g r (s.rf (GAL_SEQ_STATUS h g) GAL_SEQ_STATUS.PC) 5 0 1 else s
    | none => s)

/-- A write of a store word (R304). -/
def State.galProgWrite (s : State) (h : Half) (i v : Nat) : State :=
  let g := i / 1024
  if s.seqRunning h g then
    (s.wf (GAL_SEQ_EVENT h g) GAL_SEQ_EVENT.STORE_REFUSED 1).log h
      { logSoft 6 v with event := 4, subject := 32 * h.num + g, kind := 3, addr := GAL_PROG h i }
  else s.wf (GAL_PROG h i) GAL_PROG.WORD v

/-- GAL_PROG_WRITE. -/
def execGalProgWrite (h : Half) (i v : Nat) (s : State) : Host.Outcome State Fault Refusal :=
  whenLive s (fun s => if i < 32768 then s.galProgWrite h i v else s)

end Sys2Proof.Machine
end

