-- ==== Sys2Proof/Machine/Sidestreet.lean ====
section
/-! DEFINITION. The Sidestreet's correction sets (chapter 07, R194 to R199): their registers, STAGE nodes, and binding Gallery nodes to a set. -/

namespace Sys2Proof.Machine

/-! ## Set registers (R199, R205) -/

/-- Fields of a set. -/
def State.csetValid (s : State) (h : Half) (k : Nat) : Bool := s.on (SDS_SET_CTRL h k) SDS_SET_CTRL.VALID
def State.csetState (s : State) (h : Half) (k : Nat) : Nat := s.rf (SDS_SET_CTRL h k) SDS_SET_CTRL.STATE
def State.setCsetState (s : State) (h : Half) (k v : Nat) : State := s.wf (SDS_SET_CTRL h k) SDS_SET_CTRL.STATE v
def State.csetUsers (s : State) (h : Half) (k : Nat) : Nat := s.rf (SDS_SET_CTRL h k) SDS_SET_CTRL.USERS
def State.csetBase (s : State) (h : Half) (k : Nat) : Nat := s.rf (SDS_SET_REGION h k) SDS_SET_REGION.BASE
def State.csetSize (s : State) (h : Half) (k : Nat) : Nat := s.rf (SDS_SET_REGION h k) SDS_SET_REGION.SIZE

/-- Does a region of `n` units from `b` overlap the region of a VALID set other than `k`, or pass the end of the buffer? -/
def State.regionMeets (s : State) (h : Half) (k b n : Nat) : Bool :=
  decide (65536 < b + n) ||
  (List.range 256).any (fun j => j != k && s.csetValid h j && runsMeet b n (s.csetBase h j) (s.csetSize h j))

/-- Does a region of `n` units fit the quota of a context (R199)? -/
def State.regionFits (s : State) (h : Half) (c n : Nat) : Bool :=
  decide (s.rf (SDS_CTX_QUOTA h c) SDS_CTX_QUOTA.USED + n ≤ s.rf (SDS_CTX_QUOTA h c) SDS_CTX_QUOTA.LIMIT)

/-- A region write is refused (R199). -/
def State.regionRefused (s : State) (h : Half) (k v : Nat) : State :=
  (s.wf (SDS_EVENT h) SDS_EVENT.REGION_REFUSED 1).log h { logSoft 5 v with event := 3, subject := k, kind := 11 }

/-- The node of a STAGE that runs or waits, and its fields (Table 7.8). -/
def stgSet (n : Node) : Nat := fld n.bytes 0x40 7 0
def stgSource (n : Node) : Nat := fld n.bytes 0x40 9 8
def stgAddr (n : Node) : Nat := u64 n.bytes 0x48
def stgPasid (n : Node) : Nat := fld n.bytes 0x50 19 0
def stgLength (n : Node) : Nat := u32 n.bytes 0x54

/-- Does the node's set exist for its context? -/
def State.stageMine (s : State) (h : Half) (r : NodeRef) (n : Node) : Bool :=
  s.csetValid h (stgSet n) && decide (s.rf (SDS_SET_CTRL h (stgSet n)) SDS_SET_CTRL.CONTEXT = r.ctx)

/-- Does a STAGE of its owner run or wait for set `k`? A STAGE of another context does nothing to the set. -/
def State.stagesSet (s : State) (h : Half) (k : Nat) : Bool :=
  match (s.half h).stage.node with
  | some r => match s.node r with
    | some (_, n) => stgSet n == k && s.stageMine h r n
    | none => false
  | none => false

/-- A write of SDS_SET_CTRL (R199, R205). While VALID is 1 only VALID 0 is taken, with no user and no STAGE of the set; VALID 1 takes the region
against the context's quota. -/
def State.setCtrlWrite (s : State) (h : Half) (k v : Nat) : State :=
  let a := SDS_SET_CTRL h k
  let c := s.rf a SDS_SET_CTRL.CONTEXT
  let refused := s.log h { logSoft 5 v with subject := k, kind := 11 }
  if s.csetValid h k then
    if bits v 0 8 ≠ c then refused
    else if bit v 8 then s
    else if s.csetUsers h k ≠ 0 ∨ s.stagesSet h k then refused
    else ((s.wf a SDS_SET_CTRL.VALID 0).setCsetState h k 0).sub (SDS_CTX_QUOTA h c) SDS_CTX_QUOTA.USED (s.csetSize h k)
  else if !bit v 8 then s.wf a SDS_SET_CTRL.CONTEXT (bits v 0 8)
  else if s.regionMeets h k (s.csetBase h k) (s.csetSize h k) ∨ !s.regionFits h (bits v 0 8) (s.csetSize h k) then s.regionRefused h k v
  else (((s.wf a SDS_SET_CTRL.CONTEXT (bits v 0 8)).wf a SDS_SET_CTRL.VALID 1).setCsetState h k 0).add (SDS_CTX_QUOTA h (bits v 0 8))
    SDS_CTX_QUOTA.USED (s.csetSize h k)

/-- SDS_SET_CTRL_WRITE. -/
def execSdsSetCtrlWrite (h : Half) (k v : Nat) (s : State) : Host.Outcome State Fault Refusal :=
  whenLive s (fun s => if k < 256 then s.setCtrlWrite h k v else s)

/-- A write of SDS_SET_REGION (R199): only while the set is not VALID, within the context's quota and clear of other VALID sets. -/
def State.setRegionWrite (s : State) (h : Half) (k v : Nat) : State :=
  let w := bits v 0 32
  if s.csetValid h k then (if w = (s.rd (SDS_SET_REGION h k)).toNat then s else s.regionRefused h k v)
  else if s.regionMeets h k (w % 65536) (w / 65536) ∨ !s.regionFits h (s.rf (SDS_SET_CTRL h k) SDS_SET_CTRL.CONTEXT) (w / 65536) then
    s.regionRefused h k v
  else s.wr (SDS_SET_REGION h k) (BitVec.ofNat 32 w)

/-- SDS_SET_REGION_WRITE. -/
def execSdsSetRegionWrite (h : Half) (k v : Nat) (s : State) : Host.Outcome State Fault Refusal :=
  whenLive s (fun s => if k < 256 then s.setRegionWrite h k v else s)

/-! ## Binding (R197, R198, R203) -/

/-- The first WAVE of a node's program, from PROG_ENTRY on in its first Gallery's store (log entry 50). -/
def State.firstWave (s : State) (n : Node) : Nat → Nat → Option (Nat × Nat)
  | 0, _ => none
  | k + 1, i =>
    if i ≥ 1024 then none
    else match seqDecode (s.rd (GAL_PROG n.half (1024 * n.galFirst + i))).toNat with
      | .ok (.wave l _ _ group _ _ _ _) => some (l, group)
      | .ok .fin => none
      | _ => s.firstWave n k (i + 1)

/-- Output columns of a node (R278): GAL_COUNT x P x W, for the group size and plane of its first wave. -/
def State.nodeColumns (s : State) (r : NodeRef) (n : Node) : Option Nat :=
  match s.firstWave n 1024 n.progEntry with
  | none => none
  | some (l, group) =>
    let p := (List.range 16).countP (fun og => n.chms.any (fun c => c / 2 ^ group == og))
    let w7 : Bool := match (s.pinOf r).bind (fun q => s.mapPlane n.half q.1 q.2 l) with
      | some q => s.planeW7 n.half (16 * seamOf n.galFirst (n.chms.headD 0) 0 + q)
      | none => false
    some (n.galCount * p * (if w7 then 256 else 512))

/-- Does the staged set suit the node: of its context, with C the node's output columns (R198)? -/
def State.setSuits (s : State) (r : NodeRef) (n : Node) : Bool :=
  decide (s.rf (SDS_SET_CTRL n.half n.cset) SDS_SET_CTRL.CONTEXT = r.ctx) &&
  (match s.nodeColumns r n with
    | some c => decide ((s.sdsCounts n.half n.cset).2.2 = c)
    | none => true)

/-- The node binds to its set, and USERS rises. -/
def State.bindCset (s : State) (r : NodeRef) (n : Node) : State :=
  (s.add (SDS_SET_CTRL n.half n.cset) SDS_SET_CTRL.USERS 1).modNode r (fun n => { n with setBound := true })

/-- A Gallery node at its dispatch (R197, R198, R203): it binds to a READY set with no STAGE waiting; with DEADLINE 0 and an EMPTY set that no
STAGE is dispatched for it goes without from the start. A node that the READY set has bound while it waited is bound already. False when the
node ends with DATA_ERROR. -/
def State.dispatchCset (s : State) (r : NodeRef) (n : Node) : State × Bool :=
  let k := n.cset
  if k = 0x1FF ∨ n.setBound = true then (s, true)
  else if s.csetState n.half k = 2 ∧ !s.on (SDS_SET_CTRL n.half k) SDS_SET_CTRL.STAGE_WAITING ∧ !s.stagesSet n.half k then
    if s.setSuits r n then (s.bindCset r n, true)
    else ((s.logNode n.half r { logSoft 5 0 with subject := k, kind := 11 }).endNode r 3, false)
  else if n.deadline = 0 ∧ s.csetState n.half k = 0 ∧ !s.stagesSet n.half k then (s.modNode r (fun n => { n with late := true }), true)
  else (s, true)

/-- Gallery nodes of a half that wait for a set: dispatched, and not bound to it. -/
def State.csetWaiters (s : State) (h : Half) (k : Nat) : List (NodeRef × Node) :=
  s.nodesWhere (fun _ n => n.kind == 1 && decide (n.half = h) && n.cset == k && !n.setBound &&
    (n.phase == .binding || n.phase == .waking || n.phase == .running))

/-- The set has become READY: its waiting nodes bind, or fail R198 and go without. -/
def State.lateBind (s : State) (h : Half) (k : Nat) : State :=
  (s.csetWaiters h k).foldl (fun s e =>
    if s.setSuits e.1 e.2 then s.bindCset e.1 e.2
    else ((s.logNode h e.1 { logSoft 5 0 with subject := k, kind := 11 }).markNode e.1 3).modNode e.1 (fun n => { n with late := true })) s

/-! ## STAGE (R196, R197) -/

/-- A STAGE node at its dispatch: its set is STAGING, or the STAGE waits while the set has users. -/
def State.stageBegin (s : State) (h : Half) (r : NodeRef) (n : Node) : State :=
  let k := stgSet n
  let s1 := s.modHalf h (fun x => { x with stage := { node := some r } })
  if !s.stageMine h r n then s1
  else if s.csetUsers h k ≠ 0 then s1.wf (SDS_SET_CTRL h k) SDS_SET_CTRL.STAGE_WAITING 1
  else s1.setCsetState h k 1

/-- The STAGE of a half is over. -/
def State.stageEnd (s : State) (h : Half) (k st : Nat) : State :=
  (((s.setCsetState h k st).wf (SDS_SET_CTRL h k) SDS_SET_CTRL.STAGE_WAITING 0).modHalf h (fun x => { x with stage := {} })).dropSense h 64

/-- The STAGE fails (R196): the set is EMPTY, and nodes that wait for it go without (R203). -/
def State.stageFails (s : State) (h : Half) (r : NodeRef) (k : Nat) (mine : Bool) : State :=
  let s1 := (s.wf (SDS_EVENT h) SDS_EVENT.STAGE_ERROR 1).logNode h r { logSoft 5 0 with event := 2, subject := k, kind := 11 }
  let s2 := if mine then
      (s1.csetWaiters h k).foldl (fun s e => s.modNode e.1 (fun n => { n with late := true })) (s1.stageEnd h k 0)
    else s1.modHalf h (fun x => { x with stage := {} })
  s2.endNode r 3

/-- May the STAGE read its T0 source: an SLC plane of its half, with EN 0, in a Chamber of the context's (R196)? -/
def State.stageT0Ok (s : State) (h : Half) (r : NodeRef) (n : Node) : Bool :=
  let id := bits (stgAddr n) 0 16
  stgSource n != 0 || (decide (Half.ofNum (id / 32768) = h) && !s.planeEn h (id % 32768) && s.ownsPlane h r.ctx (id % 32768) &&
    decide (stgLength n ≤ 128 * (1024 - bits (stgAddr n) 16 10)))

/-- Rows that the STAGE has to sense, and the row it needs next, as plane x 1024 + row (R196). -/
def State.stageRow (s : State) (h : Half) (n : Node) : Nat :=
  1024 * bits (stgAddr n) 0 15 + bits (stgAddr n) 16 10 + (s.half h).stage.data.length / 128

/-- A STAGE of a T0 source takes the row that has been sensed for it, and asks for the next one (R136, R196). -/
def State.stageSense (s : State) (h : Half) (n : Node) : State :=
  let x := (s.half h).stage
  let left := stgLength n - x.data.length
  let r := s.stageRow h n
  if stgSource n ≠ 0 ∨ left = 0 then s
  else if (s.half h).nv.slcHeld.contains (64, r) then
    let bs := s.slcBytes h (r / 1024) (128 * (r % 1024)) (min 128 left)
    let s1 := (s.modHalf h (fun y => { y with stage := { y.stage with data := y.stage.data ++ bs } })).dropSense h 64
    if left ≤ 128 then s1 else s1.askSense h 64 (r + 1)
  else s.askSense h 64 r

/-- The copy of a STAGE starts: its set is STAGING; a T3 source is read from the host under the context's function (R364). -/
def State.stageStart (s : State) (h : Half) (r : NodeRef) (n : Node) : State :=
  let k := stgSet n
  let s1 := ((s.setCsetState h k 1).wf (SDS_SET_CTRL h k) SDS_SET_CTRL.STAGE_WAITING 0).modHalf h (fun x =>
    { x with stage := { x.stage with running := true } })
  if stgSource n = 3 then s1.t3Get h (s.ctxFunc r.ctx) (stgPasid n) (stgAddr n) (stgLength n) else s1.stageSense h n

/-- STAGE (R196, R197): the running STAGE node starts its copy, once its set has no user, and not while a gating window is closed (R396); of a
T0 source it goes on from row to row. -/
def execStage (h : Half) (s : State) : Host.Outcome State Fault Refusal :=
  whenLive s (fun s =>
    match (s.half h).stage.node with
    | none => s
    | some r => match s.node r with
      | none => s
      | some (_, n) =>
        let k := stgSet n
        if !s.nodeIn r .running then s
        else if (s.half h).stage.running then s.stageSense h n
        else if !s.stageMine h r n then s.stageFails h r k false
        else if s.csetUsers h k ≠ 0 then s
        else if !s.stageT0Ok h r n then s.stageFails h r k true
        else if !s.power.gateOpen then s else s.stageStart h r n)

/-- The bytes of a STAGE's source, and whether they could not be read: T3 bytes are the operand, which a failed read leaves out (R372). -/
def State.stageBytes (s : State) (h : Half) (r : NodeRef) (n : Node) (data : List Byte) (chk : Scan) (fault : Bool) :
    State × List Byte × Bool :=
  let len := stgLength n
  match stgSource n with
  | 0 => (s, (s.half h).stage.data, false)
  | 3 => (s, data.take len, fault || decide (data.length < len))
  | _ =>
    let o := s.nodeObj r (stgAddr n % 2 ^ 32)
    let off := stgAddr n / 2 ^ 32
    let p := s.checkRead o off (min len (o.size - off)) chk
    (p.1, s.objRead o off len, p.2 || decide (o.size < off + len))

/-- The checks of a set before its copy ends (R196): its size fits the region, VERSION and reserved fields, the padding, the entries. -/
def csetGood (b : List Byte) (region : Nat) : Bool :=
  let e := u32 b 4
  let hh := fld b 8 8 0
  let c := fld b 12 16 0
  let rows := 0x20 + 8 * e
  let total := rows + outRowBytes hh + 2 * hh * c
  decide (u32 b 0 = 1) && fld b 8 31 9 == 0 && fld b 12 31 17 == 0 && zeroRange b 16 16 &&
  decide (e ≤ 524276) && decide (hh ≤ 256) && decide (1 ≤ c) && decide (c ≤ 65536) && decide (total ≤ b.length) && decide (total ≤ region) &&
  zeroRange b (rows + 2 * hh) (outRowBytes hh - 2 * hh) &&
  (List.range e).all (fun i =>
    let x := u64 b (0x20 + 8 * i)
    bits x 48 4 == 1 && bits x 52 4 == 1 && bits x 56 8 == 0 && decide (bits x 16 16 < c))

/-- STAGE_DONE (R196): the copy has been read whole. A good set is READY and its waiting nodes bind; a bad one leaves the set EMPTY. -/
def State.stageDone (s : State) (h : Half) (r : NodeRef) (n : Node) (data : List Byte) (chk : Scan) (fault : Bool) : State :=
  let k := stgSet n
  let p := s.stageBytes h r n data chk fault
  if p.2.2 ∨ !csetGood p.2.1 (64 * s.csetSize h k) ∨ 64 * s.csetSize h k < p.2.1.length then p.1.stageFails h r k true
  else
    let s1 := p.1.modHalf h (fun x => { x with sdsBuf := memWrite zeroByte x.sdsBuf (64 * s.csetBase h k) p.2.1 })
    ((s1.stageEnd h k 2).lateBind h k).endNode r 0

/-- STAGE_DONE. -/
def execStageDone (h : Half) (data : List Byte) (chk : Scan) (fault : Bool) (s : State) : Host.Outcome State Fault Refusal :=
  whenLive s (fun s =>
    match (s.half h).stage.node with
    | none => s
    | some r => match s.node r with
      | none => s
      | some (_, n) =>
        if (s.half h).stage.running ∧ (stgSource n ≠ 0 ∨ (s.half h).stage.data.length = stgLength n) then s.stageDone h r n data chk fault
        else s)

/-- The STAGE of an aborted node stops, whether it copies, waits for its set's users or for a wake, and leaves its set EMPTY (Table 10.11). Nodes
already bound keep the contents that they are bound to. -/
def State.stageAbort (s : State) (h : Half) (r : NodeRef) : State :=
  if (s.half h).stage.node ≠ some r then s
  else match s.node r with
    | none => s
    | some (_, n) =>
      (if s.stageMine h r n then s.stageEnd h (stgSet n) 0 else s.modHalf h (fun x => { x with stage := {} })).endNode r 5

end Sys2Proof.Machine
end

