-- ==== Sys2Proof/Machine/GraphCheck.lean ====
section
/-! DEFINITION. Reading a graph descriptor and checking it in the order of Table 10.8 (R272 to R281): submission entry, header, weight-set
table, nodes of every kind and edges. -/

namespace Sys2Proof.Machine

/-! ## Submission entry (Table 10.1) and header (Table 10.2) -/

def entVersion (e : List Byte) : Nat := fld e 0 3 0
def entInT1 (e : List Byte) : Bool := fld e 0 4 4 == 1
def entAddr (e : List Byte) : Nat := u64 e 8
def entLength (e : List Byte) : Nat := u32 e 0x10
/-- Reserved fields of the entry are zero. -/
def entClean (e : List Byte) : Bool := fld e 0 31 5 == 0 && u32 e 4 == 0 && zeroRange e 0x14 0x2C

def hdrVersion (d : List Byte) : Nat := fld d 0 3 0
def hdrId (d : List Byte) : Nat := fld d 4 15 0
def hdrNodes (d : List Byte) : Nat := fld d 8 12 0
def hdrWsets (d : List Byte) : Nat := fld d 8 22 16
def hdrEdges (d : List Byte) : Nat := fld d 0xC 14 0
def hdrStatus (d : List Byte) : Nat := u64 d 0x10
def hdrStatusT1 (d : List Byte) : Bool := fld d 0x18 0 0 == 1
def hdrAfter (d : List Byte) : Nat := fld d 0x1C 15 0
def hdrAfterValid (d : List Byte) : Bool := fld d 0x1C 16 16 == 1

/-- Reserved fields of the header are zero; AFTER_GRAPH and AFTER_VALID are reserved in format 1 (R274). -/
def hdrClean (d : List Byte) : Bool :=
  fld d 0 31 7 == 0 && fld d 4 31 16 == 0 && fld d 8 15 13 == 0 && fld d 8 31 23 == 0 && fld d 0xC 31 15 == 0 && fld d 0x18 31 1 == 0 &&
  fld d 0x1C 31 17 == 0 && (hdrVersion d == 2 || u32 d 0x1C == 0) && zeroRange d 0x20 0x20

/-- Bytes of the weight-set table with its padding, and where nodes and edges begin (R273). -/
def wsetBytes (d : List Byte) : Nat := 128 * ceilDiv (8 * hdrWsets d) 128
def nodesOff (d : List Byte) : Nat := 64 + wsetBytes d
def edgesOff (d : List Byte) : Nat := nodesOff d + 128 * hdrNodes d
def dscLen (d : List Byte) : Nat := edgesOff d + 4 * hdrEdges d

/-- The graph of a descriptor: its tables as read. -/
def graphOf (ctx : Nat) (inT1 : Bool) (addr : Nat) (d : List Byte) : Graph :=
  { ctx := ctx, gid := hdrId d, header := slice d 0 64, inT1 := inT1, addr := addr,
    wsets := (List.range (hdrWsets d)).map (fun i => u64 d (64 + 8 * i)),
    nodes := (List.range (hdrNodes d)).map (fun i => { bytes := slice d (nodesOff d + 128 * i) 128 }),
    edges := (List.range (hdrEdges d)).map (fun i =>
      let e := u32 d (edgesOff d + 4 * i)
      (bits e 0 12, bits e 12 12)) }

/-! ## Weight-set entries (Table 10.3) -/

def wsetSet (w : Nat) : Nat := bits w 0 9
def wsetHalf (w : Nat) : Half := Half.ofNum (bits w 9 1)
def wsetExplicit (w : Nat) : Bool := bit w 10
def wsetVersion (w : Nat) : Nat := bits w 16 16
def wsetClean (version w : Nat) : Bool :=
  bits w 11 5 == 0 && bits w 32 32 == 0 && (version == 2 || (bits w 10 1 == 0 && bits w 16 16 == 0))
/-- VERSION is 1 to 65,535 when EXPLICIT is 1, and 0 otherwise. -/
def wsetFormat (w : Nat) : Bool := if wsetExplicit w then wsetVersion w != 0 else wsetVersion w == 0

/-! ## Nodes: reserved fields (Tables 10.4 to 10.6, 7.3, 7.8, 8.4, 12.7) -/

/-- Fields of a CAUSEWAY payload that an operation names (R347 to R353, Table 12.7). -/
def cswNames (op : Nat) (f : String) : Bool :=
  match f with
  | "BAR" => op == 2
  | "TIMEOUT" => op == 2 || op == 4 || op == 6
  | "M" => decide (3 ≤ op)
  | "K" => op == 3 || op == 6
  | "EXPERT" => op == 3 || op == 4 || op == 5
  | "ROW" => decide (3 ≤ op)
  | "BATCH" => decide (3 ≤ op)
  | "IN" => op == 3 || op == 5
  | "STRIDE" => op == 3
  | "ROWS" => op == 3 || op == 5
  | "OUT" => op == 4 || op == 6
  | _ => true

/-- Fields of a CAUSEWAY payload that its operation does not name are zero. -/
def cswClean (n : Node) : Bool :=
  let z (f : String) (v : Nat) : Bool := cswNames n.cswOp f || v == 0
  fld n.bytes 0x40 31 10 == 0 && fld n.bytes 0x50 31 21 == 0 && fld n.bytes 0x54 31 25 == 0 && fld n.bytes 0x58 31 17 == 0 &&
  fld n.bytes 0x5C 31 16 == 0 && zeroRange n.bytes 0x70 16 &&
  z "BAR" n.cswBar && z "TIMEOUT" n.cswTimeout && z "M" n.cswM && z "K" n.cswK && z "EXPERT" (u32 n.bytes 0x54) && z "ROW" n.cswRow &&
  z "BATCH" n.cswBatch && z "IN" n.cswIn && z "STRIDE" n.cswInStride && z "ROWS" n.cswRowOff && z "OUT" n.cswOut

/-- Reserved fields of a node's payload are zero. -/
def payloadClean (n : Node) : Bool :=
  let b := n.bytes
  match n.kind with
  | 1 => fld b 0x40 31 24 == 0 && fld b 0x44 31 10 == 0 && fld b 0x4C 31 17 == 0 && fld b 0x64 15 9 == 0 && zeroRange b 0x68 0x18
  | 2 => fld b 0x40 31 12 == 0 && fld b 0x44 31 16 == 0 && fld b 0x48 31 16 == 0 && fld b 0x4C 31 21 == 0 && fld b 0x50 31 21 == 0 &&
      fld b 0x74 15 11 == 0 && fld b 0x7C 31 5 == 0
  | 3 => fld b 0x40 31 10 == 0 && u32 b 0x44 == 0 && fld b 0x50 31 20 == 0 && zeroRange b 0x58 0x28
  | 4 => zeroRange b 0x48 0x38
  | 5 => fld b 0x40 31 28 == 0 && bits (u64 b 0x48) 36 28 == 0 && fld b 0x50 31 20 == 0 && fld b 0x58 31 9 == 0 && zeroRange b 0x5C 0x24
  | 6 => cswClean n
  | 7 => zeroRange b 0x40 0x40
  | _ => true

/-- Reserved fields of a node are zero (R7). -/
def nodeClean (n : Node) : Bool :=
  fld n.bytes 0 31 9 == 0 && fld n.bytes 4 31 8 == 0 && fld n.bytes 8 31 16 == 0 && zeroRange n.bytes 0x10 16 && payloadClean n

/-! ## Nodes: field rules (R276 to R279) -/

/-- Is a bind entry an object, bound as given? -/
def Node.bindAs (n : Node) (i : Nat) (writer : Bool) : Bool := n.bind i != 0 && bit n.bindW i == writer
/-- Is a bind entry 0, or an object bound as given? -/
def Node.bindOpt (n : Node) (i : Nat) (writer : Bool) : Bool := n.bind i == 0 || bit n.bindW i == writer
/-- Are the bind entries from `i` on 0? -/
def Node.bindNone (n : Node) (i : Nat) : Bool := (List.range 8).all (fun j => decide (j < i) || n.bind j == 0)
/-- Does the bind list hold a handle, bound as given? -/
def Node.lists (n : Node) (v : Nat) (writer : Bool) : Bool := n.binds.any (fun b => b.1 == v && b.2 == writer)

/-- GALLERY (Tables 10.5 and 10.6, R277). -/
def galleryFormat (g : Graph) (n : Node) : Bool :=
  decide (n.unit < 2048) && decide (1 ≤ n.galCount) && decide (n.galCount ≤ 32) && decide (n.galFirst + n.galCount ≤ 32) &&
  decide (n.wset < g.wsets.length) && decide (1 ≤ n.vectors) && (decide (n.cset ≤ 255) || n.cset == 0x1FF) &&
  n.bindAs 0 false && n.bindAs 1 true && n.bindOpt 2 false && n.bindOpt 3 false && (n.cset != 0x1FF || n.bind 3 == 0) && n.bindNone 4

/-- The tail functions of Table 7.5, those that are elementwise, and those that read AUX1. -/
def tailKnown (f : Nat) : Bool := (decide (1 ≤ f) && decide (f ≤ 7)) || (decide (0x10 ≤ f) && decide (f ≤ 0x13))
def tailElem (f : Nat) : Bool := decide (f ≤ 7)
def tailAux1 (f : Nat) : Bool := [1, 7, 0x10, 0x11].contains f

/-- The chain of a PLAZA operation (R189). -/
def chainFormat (b : List Byte) : Bool :=
  let ch := opChain b
  ch.all tailKnown && (opKind b == 3 || ch.all tailElem) && decide (ch.countP (fun f => f == 2 || f == 3) ≤ 1) &&
  (!ch.contains 0x13 || (decide (1 ≤ opTopk b) && decide (opTopk b ≤ 16))) &&
  (!(ch.contains 2 || ch.contains 3) || [0, 1, 7, 10].contains (opAux2Fmt b))

/-- The formats of a PLAZA operation (R180, R181, Table 7.2). -/
def fmtFormat (b : List Byte) : Bool :=
  let m := opKind b == 1
  decide (opAFmt b ≤ 0xB) && decide (opBFmt b ≤ 0xB) && decide (opOutFmt b ≤ 0xB) &&
  (!m || ((opAFmt b == 9) == (opBFmt b == 9) && !([10, 11].contains (opAFmt b)) && !([10, 11].contains (opBFmt b)))) &&
  (opOutFmt b != 0xB || (m && opAFmt b == 9)) &&
  (!m || !(fmtMx (opAFmt b) || fmtMx (opBFmt b)) || opK b % 32 == 0)

/-- The objects of a PLAZA operation are in the bind list: OUT as a writer, every other as a reader (R279). -/
def plazaBinds (n : Node) : Bool :=
  let b := n.op
  let ch := opChain b
  n.lists (opOut b) true && n.lists (opA b) false &&
  (opKind b == 3 || opStreamed b || n.lists (opB b) false) &&
  (if ch.any tailAux1 then opAux1 b != 0 && n.lists (opAux1 b) false else opAux1 b == 0) &&
  (!(ch.contains 2 || ch.contains 3) || n.lists (opAux2 b) false) &&
  (!opLowrank b || (n.lists (opU b) false && n.lists (opV b) false))

/-- PLAZA (Table 7.3, R180, R181, R186, R189, R279). -/
def plazaFormat (n : Node) : Bool :=
  let b := n.op
  let m := opKind b == 1
  n.unit == 0 && opVersion b == 1 && decide (1 ≤ opKind b) && decide (opKind b ≤ 3) && opQuads b != 3 &&
  (!opStreamed b || m) && (!opLowrank b || opStreamed b) && decide (1 ≤ opM b) && (!m || decide (opM b ≤ 4096)) &&
  (if m then decide (1 ≤ opK b) && decide (opK b ≤ 1048575) else opK b == 0) && decide (1 ≤ opN b) && decide (opN b ≤ 1048575) &&
  (!opLowrank b || (decide (1 ≤ opRank b) && decide (opRank b ≤ 1024))) && (!opStreamed b || decide (opB b < 256)) &&
  chainFormat b && fmtFormat b && plazaBinds n

/-- STAGE (Table 7.8, R279). -/
def stageFormat (n : Node) : Bool :=
  n.unit == 0 && stgLength n % 8 == 0 && (!(stgSource n == 1 || stgSource n == 2) || n.lists (stgAddr n % 2 ^ 32) false)

/-- STREAM (Table 10.5). -/
def streamFormat (n : Node) : Bool := decide (n.unit < 64) && engHalf n.unit == n.half && u32 n.bytes 0x44 % 128 == 0

/-- MEMORY (R211, Table 8.4): FREE, MOVE or SET_SWEEP of the node's own context; it binds nothing (R279). -/
def memoryFormat (g : Graph) (n : Node) : Bool :=
  let b := slice n.bytes 0x40 32
  n.unit == 0 && blkVersion b == 1 && decide (2 ≤ blkOp b) && decide (blkOp b ≤ 4) && blkCtx b == g.ctx && fld b 0x18 8 0 == 0 && n.bindNone 0

/-- CAUSEWAY (R347 to R353, Table 12.7). -/
def cswFormat (n : Node) : Bool :=
  let op := n.cswOp
  n.unit == 0 && decide (1 ≤ op) && decide (op ≤ 6) &&
  (!cswNames op "K" || (decide (1 ≤ n.cswK) && decide (n.cswK ≤ 16))) &&
  (!cswNames op "EXPERT" || (decide (1 ≤ n.cswCount) && decide (n.cswCount ≤ 4096))) &&
  (!cswNames op "ROW" || (decide (16 ≤ n.cswRow) && decide (n.cswRow ≤ 65536) && n.cswRow % 16 == 0)) &&
  (match op with
    | 3 => n.bindAs 0 false && n.bindAs 1 false && n.bindNone 2
    | 4 => n.bindAs 0 true && n.bindAs 1 true && n.bindAs 2 true && n.bindNone 3
    | 5 => n.bindAs 0 false && n.bindAs 1 false && n.bindAs 2 false && n.bindNone 3
    | 6 => n.bindAs 0 true && n.bindNone 1
    | _ => n.bindNone 0)

/-- The set of a STAGE belongs to the node's context (Table 7.8). -/
def State.stageOwned (s : State) (g : Graph) (n : Node) : Bool :=
  n.kind != 3 || s.rf (SDS_SET_CTRL n.half (stgSet n)) SDS_SET_CTRL.CONTEXT == g.ctx

/-- Does the node keep the field rules of its kind (R276)? -/
def nodeFormat (g : Graph) (n : Node) : Bool :=
  (!n.resume || n.kind == 4) &&
  (match n.kind with
    | 1 => galleryFormat g n
    | 2 => plazaFormat n
    | 3 => stageFormat n
    | 4 => streamFormat n
    | 5 => memoryFormat g n
    | 6 => cswFormat n
    | 7 => n.unit == 0
    | _ => false)

/-- R19, R279 and Table 10.6: the objects of the node's half, and a weight set of its half. -/
def nodeHalfRule (g : Graph) (n : Node) : Bool :=
  (n.kind == 4 || n.binds.all (fun b => handleHalf b.1 == n.half)) && (n.kind != 1 || wsetHalf (g.wsets.getD n.wset 0) == n.half)

/-- R160: every Chamber of CHM_MASK of every Gallery of the node lies in the set's footprint. -/
def State.nodeFootprint (s : State) (g : Graph) (n : Node) : Bool :=
  n.kind != 1 ||
  (let f := s.foot n.half (wsetSet (g.wsets.getD n.wset 0))
   n.gals.all (fun x => n.chms.all (fun c => decide (f.1 ≤ 16 * x + c) && decide (16 * x + c < f.1 + f.2))))

/-! ## Graphs -/

/-- First node that fails a test. -/
def Graph.firstNot (g : Graph) (p : Node → Bool) : Option Nat := g.nodes.findIdx? (fun n => !p n)

/-- A refusal: its reason of Table 10.8 and the node that failed, or 0xFFF. -/
abbrev Refused := Option (Nat × Nat)

/-- A check of every node. -/
def Graph.nodesPass (g : Graph) (code : Nat) (p : Node → Bool) : Refused := (g.firstNot p).map (fun i => (code, i))
/-- A check of the graph as a whole. -/
def pass (code : Nat) (p : Bool) : Refused := if p then none else some (code, 0xFFF)

/-- The limits of Table 10.7 that apply to one graph (R281). -/
def Graph.limits (g : Graph) : Bool :=
  decide (1 ≤ g.nodes.length) && decide (g.nodes.length ≤ 4096) && decide (g.nodes.countP (fun n => n.half == .west) ≤ 2048) &&
  decide (g.nodes.countP (fun n => n.half == .east) ≤ 2048) && decide (g.edges.length ≤ 16384) && decide (g.wsets.length ≤ 64) &&
  (List.range g.nodes.length).all (fun i => decide (g.edges.countP (fun e => e.2 == i) ≤ 255))

/-- Edges name nodes, join different nodes and do not repeat (R280). -/
def edgesFormat (k : Nat) : List (Nat × Nat) → Bool
  | [] => true
  | e :: es => decide (e.1 < k) && decide (e.2 < k) && e.1 != e.2 && !es.contains e && edgesFormat k es

/-- Nodes left after `fuel` rounds in which every node with no predecessor left is taken away. -/
def peel (edges : List (Nat × Nat)) : Nat → List Nat → List Nat
  | 0, l => l
  | fuel + 1, l =>
    let free := l.filter (fun i => !edges.any (fun e => e.2 == i && l.contains e.1))
    if free.isEmpty then l else peel edges fuel (l.filter (fun i => !free.contains i))

/-- Do the edges form no cycle (R280)? -/
def Graph.acyclic (g : Graph) : Bool := (peel g.edges g.nodes.length (List.range g.nodes.length)).isEmpty

/-- STATUS is a multiple of 8 and, in T1, leaves room for the status array in a PIN_T1 object of the context (R273). -/
def State.statusFormat (s : State) (ctx : Nat) (d : List Byte) : Bool :=
  if hdrStatusT1 d then hdrStatus d / 2 ^ 32 % 8 == 0 &&
    (s.pinRange .west ctx (hdrStatus d % 2 ^ 32) (hdrStatus d / 2 ^ 32) (8 * hdrNodes d)).isSome
  else hdrStatus d % 8 == 0

/-- Is a half ready, and is the Passage up (R39)? -/
def State.halfReady (s : State) (h : Half) : Bool :=
  match h with
  | .west => s.on BOOT_GLOBAL_STATUS BOOT_GLOBAL_STATUS.WEST_READY
  | .east => s.on BOOT_GLOBAL_STATUS BOOT_GLOBAL_STATUS.EAST_READY

/-- The halves that the graph's nodes use are ready, and the Passage is up where it has an East node or a cross-half edge (R39). -/
def State.halvesUp (s : State) (n : Node) : Bool :=
  s.halfReady n.half && (n.half == .west || s.on BOOT_GLOBAL_STATUS BOOT_GLOBAL_STATUS.PASSAGE_UP)

/-- The descriptor parts of FORMAT that are no node's: lengths, addresses, STATUS, GRAPH_ID, weight-set table and edges (R273, R275, R280). -/
def State.graphFormat (s : State) (ctx : Nat) (e d : List Byte) (g : Graph) : Bool :=
  decide (64 ≤ entLength e) && entLength e == dscLen d && (if entInT1 e then entAddr e / 2 ^ 32 else entAddr e) % 128 == 0 &&
  s.statusFormat ctx d && (s.graph ctx (hdrId d)).isNone && zeroRange d (64 + 8 * hdrWsets d) (wsetBytes d - 8 * hdrWsets d) &&
  g.wsets.all wsetFormat && edgesFormat g.nodes.length g.edges

/-- Reserved bits of the edges are zero. -/
def edgesClean (d : List Byte) : Bool := (List.range (hdrEdges d)).all (fun i => fld d (edgesOff d + 4 * i) 31 24 == 0)

/-- The checks of Table 10.8 from BAD_VERSION to CYCLE, in order: the first that fails. -/
def State.graphCheck (s : State) (ctx : Nat) (e d : List Byte) : Refused :=
  let g := graphOf ctx (entInT1 e) (entAddr e) d
  pass 0x81 (entVersion e == 1 && (decide (d.length < 4) || hdrVersion d == s.rf (JCT_CTX_CFG ctx) JCT_CTX_CFG.FMT_VERSION)) <|>
  pass 0x82 (entClean e && hdrClean d && g.wsets.all (wsetClean (hdrVersion d)) && edgesClean d) <|>
  g.nodesPass 0x82 nodeClean <|>
  pass 0x83 g.limits <|>
  pass 0x84 (s.graphFormat ctx e d g) <|>
  g.nodesPass 0x84 (fun n => nodeFormat g n && s.stageOwned g n) <|>
  g.nodesPass 0x85 (nodeHalfRule g) <|>
  g.nodesPass 0x86 s.halvesUp <|>
  pass 0x87 (g.wsets.all (fun w => s.setValid (wsetHalf w) (wsetSet w) && s.setCtxNo (wsetHalf w) (wsetSet w) == ctx)) <|>
  g.nodesPass 0x88 (s.nodeFootprint g) <|>
  pass 0x89 g.acyclic

/-- The checks that a retried node's bytes must pass again (R297): R276, R277 and R279. -/
def State.nodeCheck (s : State) (g : Graph) (n : Node) : Nat :=
  if !nodeClean n then 0x82 else if !(nodeFormat g n && s.stageOwned g n) then 0x84 else if !nodeHalfRule g n then 0x85
  else if !s.nodeFootprint g n then 0x88 else 0

end Sys2Proof.Machine
end

