-- ==== Sys2Proof/Machine/Junction.lean ====
section
/-! DEFINITION. The Junctions (chapter 10, R271 to R293, R301): rings and completion queues, reading and refusing graphs, admission, tokens,
escalation and dispatch. -/

namespace Sys2Proof.Machine

/-! ## Rings and queues of a context (R271, R301, Table 10.19) -/

/-- Entries of the submission ring and of the completion queue: sizes out of range read as 6 and 8. -/
def State.sqSize (s : State) (c : Nat) : Nat :=
  let z := s.rf (JCT_CTX_CFG c) JCT_CTX_CFG.SQ_SIZE
  2 ^ (if 4 ≤ z ∧ z ≤ 12 then z else 6)
def State.cqSize (s : State) (c : Nat) : Nat :=
  let z := s.rf (JCT_CTX_CFG c) JCT_CTX_CFG.CQ_SIZE
  2 ^ (if 4 ≤ z ∧ z ≤ 14 then z else 8)
def State.maxGraphs (s : State) (c : Nat) : Nat :=
  let z := s.rf (JCT_CTX_CFG c) JCT_CTX_CFG.MAX_GRAPHS
  if 1 ≤ z ∧ z ≤ 64 then z else 16

def State.sqHead (s : State) (c : Nat) : Nat := s.rf (JCT_CTX_SQ_STATE c) JCT_CTX_SQ_STATE.HEAD
def State.sqTail (s : State) (c : Nat) : Nat := s.rf (JCT_CTX_SQ_STATE c) JCT_CTX_SQ_STATE.TAIL
def State.cqHead (s : State) (c : Nat) : Nat := s.rf (JCT_CTX_CQ_STATE c) JCT_CTX_CQ_STATE.HEAD
def State.cqTail (s : State) (c : Nat) : Nat := s.rf (JCT_CTX_CQ_STATE c) JCT_CTX_CQ_STATE.TAIL
/-- Unread submission entries (R368). -/
def State.sqUnread (s : State) (c : Nat) : Nat := (s.sqTail c + s.sqSize c - s.sqHead c % s.sqSize c) % s.sqSize c
def State.sqBase (s : State) (c : Nat) : Nat :=
  64 * s.rf (JCT_CTX_SQ_LO c) JCT_CTX_SQ_LO.BASE_LO + 2 ^ 32 * s.rf (JCT_CTX_SQ_HI c) JCT_CTX_SQ_HI.BASE_HI
def State.cqBase (s : State) (c : Nat) : Nat :=
  32 * s.rf (JCT_CTX_CQ_LO c) JCT_CTX_CQ_LO.BASE_LO + 2 ^ 32 * s.rf (JCT_CTX_CQ_HI c) JCT_CTX_CQ_HI.BASE_HI
def State.ctxPasid (s : State) (c : Nat) : Nat := s.rf (JCT_CTX_PASID c) JCT_CTX_PASID.PASID

/-- The PIN_T1 object of a context in West's T1 that holds a byte range, if one does (R271). -/
def State.pinCover (s : State) (c a len : Nat) : Option Obj :=
  ((s.liveEntries .west).find? (fun i => s.isPin .west i && s.rf (MEM_HOME .west i) MEM_HOME.CONTEXT == c &&
    decide ((s.objAt .west i).addr ≤ a) && decide (a + len ≤ (s.objAt .west i).addr + (s.objAt .west i).size))).map (s.objAt .west)

/-- Bytes the Junction stores for a context: in host memory under the context's PASID, or in West's T1. -/
def State.ctxPut (s : State) (c : Nat) (t1 : Bool) (a : Nat) (bs : List Byte) : State :=
  if t1 then (if (s.pinCover c a bs.length).isSome then s.storeBytes .west 1 a bs else s)
  else (s.translate .west (s.ctxFunc c) (s.ctxPasid c) a bs.length).t3Put (s.ctxFunc c) (s.ctxPasid c) a bs

/-! ## Completion entries (Table 10.13) -/

/-- An entry with PHASE 0. -/
def cqEntry (kind gid node w0 w1 tag notRun time : Nat) : CqEntry :=
  leBytes 4 (1 + 16 * kind) ++ leBytes 4 (gid % 2 ^ 16 + 2 ^ 16 * (node % 4096)) ++ leBytes 4 w0 ++ leBytes 4 w1 ++ leBytes 4 tag ++
    leBytes 4 notRun ++ leBytes 8 time

/-- Is the queue full: TAIL would reach HEAD (R301)? -/
def State.cqFull (s : State) (c : Nat) : Bool := (s.cqTail c + 1) % s.cqSize c == s.cqHead c

/-- Unpin a graph, and free its slots: it is admitted no longer (R298). Its context's waiting graph that follows it ends its wait at step 3. -/
def State.dropGraph (s : State) (c gid : Nat) : State :=
  match s.graph c gid with
  | none => s
  | some g =>
    let s1 := g.pins.eraseDups.foldl State.unpin s
    let s2 := { s1 with graphs := s1.graphs.filter (fun x => !(x.ctx == c && x.gid == gid)) }
    let s3 := match (s2.ctx c).waiting with
      | some w => if hdrAfterValid w.header && hdrAfter w.header == gid then
          s2.stamp.2.setCtx c { s2.ctx c with waitUs := s2.us .west, waitOrd := s2.stamp.1 } else s2
      | none => s2
    if s3.jctWait.contains (c, gid) then
      let l := s3.jctWait.filter (· != (c, gid))
      let s4 := { s3 with jctWait := l }
      if l.isEmpty then s4.wf JCT_CONTROL JCT_CONTROL.DONE 1 else s4
    else s3

/-- Write one entry at TAIL; PHASE flips at each wrap, and the context's vector is raised once the entry has landed (R301). While the
context is being reset the entry counts as consumed at once (R376). -/
def State.cqWrite (s : State) (c : Nat) (e : CqEntry × Option Nat) : State :=
  let a := JCT_CTX_CQ_STATE c
  let ph := s.rf a JCT_CTX_CQ_STATE.PHASE
  let t := s.cqTail c
  let bs := setWord e.1 0 (u32 e.1 0 + 256 * ph)
  let s1 := s.ctxPut c (s.on (JCT_CTX_CFG c) JCT_CTX_CFG.CQ_WHERE) (s.cqBase c + 32 * t) bs
  let t' := (t + 1) % s.cqSize c
  let s2 := (s1.wf a JCT_CTX_CQ_STATE.TAIL t').wf a JCT_CTX_CQ_STATE.PHASE (if t' = 0 then 1 - ph else ph)
  let s3 := if (s.ctx c).reset then s2.wf a JCT_CTX_CQ_STATE.HEAD t' else s2
  let s4 := s3.msix (s.ctxFunc c) (s.rf (PCI_CTX_FUNC c) PCI_CTX_FUNC.VECTOR)
  match e.2 with
  | some gid => s4.dropGraph c gid
  | none => s4

/-- Entries held behind a full queue are written in order as HEAD advances (R301). -/
def State.cqDrain (s : State) (c : Nat) : Nat → State
  | 0 => s
  | k + 1 => match (s.ctx c).held with
    | [] => s
    | e :: es => if s.cqFull c then s else State.cqDrain ((s.setCtx c { s.ctx c with held := es }).cqWrite c e) c k

/-- A completion entry is written, or held in order behind a full queue (R301). -/
def State.cqPut (s : State) (c : Nat) (e : CqEntry) (gid : Option Nat) : State :=
  if (s.ctx c).held.isEmpty ∧ s.cqFull c = false then s.cqWrite c (e, gid)
  else (s.setCtx c { s.ctx c with held := (s.ctx c).held ++ [(e, gid)] }).wf (JCT_EVENT .west) JCT_EVENT.CQ_FULL 1

/-- A graph is refused (R282): its REFUSED entry, the event and the count. -/
def State.refuse (s : State) (c gid reason node : Nat) : State :=
  let s1 := s.cqPut c (cqEntry 3 gid node reason 0 0 0 (s.us .west)) none
  (s1.wf (JCT_EVENT .west) JCT_EVENT.REFUSED 1).add (JCT_REFUSALS .west) JCT_REFUSALS.GRAPHS 1

/-! ## Reading a graph (R272, R282 steps 1 and 2) -/

/-- Bytes of West's T1 in a PIN_T1 object of the context; none when outside one or uncorrectable (R235). -/
def State.t1Fetch (s : State) (c a len : Nat) (chk : Scan) : State × Option (List Byte) :=
  match s.pinCover c a len with
  | none => (s, none)
  | some o =>
    let p := s.checkRead o (a - o.addr) len chk
    (p.1, if p.2 then none else some (s.memBytes .west 1 a len))

/-- Bytes of host memory that the operand gives; too few is a failed read (R372). -/
def State.t3Fetch (s : State) (c a len : Nat) (bs : List Byte) : State × Option (List Byte) :=
  let s1 := s.t3Get .west (s.ctxFunc c) (s.ctxPasid c) a len
  if bs.length < len then (s1.t3Fail a (s.ctxPasid c) none, none) else (s1, some (bs.take len))

/-- What a read of the Junction comes to: bytes, a failure with the GRAPH_ID as far as the header could be read, or a page that is absent at an
address. -/
inductive Fetched where
  | got (bs : List Byte)
  | failed (gid : Nat)
  | absent (addr gid : Nat)
  deriving DecidableEq, Repr

/-- GRAPH_ID of a header of which the bytes have been read; 0 when it could not be read (Table 10.13). -/
def gidRead (bs : List Byte) : Nat := if bs.length < 64 then 0 else hdrId bs

/-- A read for a context in host memory: with ATS on, `fault` is a page that is absent from the first byte not given on (R282, R373). -/
def State.t3Page (s : State) (c a len : Nat) (bs : List Byte) (fault : Bool) (gid : Nat) : State × Fetched :=
  if fault ∧ (s.func (s.ctxFunc c)).atsEn then (s, .absent (a + min bs.length (len - 1)) gid)
  else match s.t3Fetch c a len (if fault then [] else bs) with
    | (s1, some b) => (s1, .got b)
    | (s1, none) => (s1, .failed gid)

/-- The submission entry at HEAD. A page fault is the entry's where its bytes are not given. -/
def State.readEntry (s : State) (c : Nat) (entry : List Byte) (fault : Bool) : State × Fetched :=
  let a := s.sqBase c + 64 * s.sqHead c
  if s.on (JCT_CTX_CFG c) JCT_CTX_CFG.SQ_WHERE then match s.t1Fetch c a 64 {} with
    | (s1, some b) => (s1, .got b)
    | (s1, none) => (s1, .failed 0)
  else s.t3Page c a 64 entry (fault && decide (entry.length < 64)) 0

/-- GRAPH_ID of a descriptor in T1 that is not read whole: its header may be readable. -/
def State.t1Gid (s : State) (c v off : Nat) : Nat :=
  match s.pinRange .west c v off 64 with
  | some a => if s.memBad .west 1 a 64 then 0 else hdrId (s.memBytes .west 1 a 64)
  | none => 0

/-- The graph descriptor that an entry names. In T1 `fault` is an uncorrectable first word (R235), in T3 an absent page. -/
def State.readDesc (s : State) (c : Nat) (e desc : List Byte) (fault : Bool) : State × Fetched :=
  if entInT1 e then
    let v := entAddr e % 2 ^ 32
    let off := entAddr e / 2 ^ 32
    match s.pinRange .west c v off (entLength e) with
    | some a => match s.t1Fetch c a (entLength e) (if fault then { bad := [0] } else {}) with
      | (s1, some b) => (s1, .got b)
      | (s1, none) => (s1, .failed (s1.t1Gid c v off))
    | none => (s, .failed (s.t1Gid c v off))
  else s.t3Page c (entAddr e) (entLength e) desc fault (gidRead desc)

/-- May the Junction read an entry of the context: EN 1, an unread entry, no graph of it at step 3 or 4, no reset, and no page that the Junction
waits for? -/
def State.mayRead (s : State) (c : Nat) : Bool :=
  s.ctxEn c && decide (s.sqUnread c ≠ 0) && (s.ctx c).waiting.isNone && !(s.ctx c).reset && s.jctPage.isNone

/-- Is it the context's turn in the round robin (R282)? -/
def State.turnOf (s : State) (c : Nat) : Bool :=
  s.mayRead c && (List.range 256).all (fun d =>
    decide ((d + 256 - s.rrNext % 256) % 256 ≥ (c + 256 - s.rrNext % 256) % 256) || !s.mayRead d)

/-- HEAD moves past the entry, and the round robin to the next context. -/
def State.entryDone (s : State) (c : Nat) : State :=
  { s.wf (JCT_CTX_SQ_STATE c) JCT_CTX_SQ_STATE.HEAD ((s.sqHead c + 1) % s.sqSize c) with rrNext := (c + 1) % 256 }

/-- The entry at HEAD is refused because its graph cannot be read: SOURCE. -/
def State.refuseSource (s : State) (c gid : Nat) : State := (s.refuse c gid 0x80 0xFFF).entryDone c

/-- A page that the Junction reads is absent: it is requested, and the Junction waits, or with PRI off the graph is refused (R282, R373, R374; log
entry 83). -/
def State.jctAsk (s : State) (c addr gid : Nat) : State :=
  if s.pcie.priEn then
    State.pageQueue { s with jctPage := some { ctx := c, pasid := s.ctxPasid c, addr := addr, gid := gid } } 64
  else s.refuseSource c gid

/-- The graph that an entry names has been read: it is refused, or waits at step 3. -/
def State.graphTake (s : State) (c : Nat) (e d : List Byte) : State :=
  match s.graphCheck c e d with
  | some r => (s.refuse c (gidRead d) r.1 r.2).entryDone c
  | none =>
    let s3 := (s.entryDone c).stamp.2
    s3.setCtx c { s3.ctx c with
      waiting := some (graphOf c (entInT1 e) (entAddr e) d)
      waitUs := s.us .west
      waitOrd := s.stamp.1
      reserved := false }

/-- GRAPH_READ (R272, R282): West's Junction reads the next entry of the context and the graph it names, and checks it. -/
def State.graphRead (s : State) (c : Nat) (entry desc : List Byte) (fault : Bool) : State :=
  match s.readEntry c entry fault with
  | (s1, .failed gid) => s1.refuseSource c gid
  | (s1, .absent a gid) => s1.jctAsk c a gid
  | (s1, .got e) => match s1.readDesc c e desc fault with
    | (s2, .failed gid) => s2.refuseSource c gid
    | (s2, .absent a gid) => s2.jctAsk c a gid
    | (s2, .got d) => s2.graphTake c e d

/-- GRAPH_READ. -/
def execGraphRead (c : Nat) (entry desc : List Byte) (fault : Bool) (s : State) : Host.Outcome State Fault Refusal :=
  whenLive s (fun s => if c < 256 ∧ s.turnOf c ∧ s.domOn (jctDom .west) then s.graphRead c entry desc fault else s)

/-- The Junction no longer waits for a page of a context. -/
def State.dropPage (s : State) (c : Nat) : State :=
  match s.jctPage with
  | some p => if p.ctx = c then State.requestGone { s with jctPage := none } 64 else s
  | none => s

/-- The Junction's page request ends: on Success the entry is read again in its turn, else its graph is refused with SOURCE (R282). -/
def State.jctPageEnds (s : State) (ok : Bool) : State :=
  match s.jctPage with
  | none => s
  | some p =>
    let s1 := State.requestGone { s with jctPage := none } 64
    if ok then s1 else s1.refuseSource p.ctx p.gid

/-- PAGE_RESPONSE (R264, R265, R282): Success resumes the transfer at the faulting element, another code ends it; engine 64 stands for West's
Junction. A response that nothing waits for is ignored. -/
def execPageResponse (e : Nat) (code : PageResp) (s : State) : Host.Outcome State Fault Refusal :=
  whenLive s (fun s =>
    if e = 64 then (if s.pcie.requests.contains 64 then s.jctPageEnds (code == .success) else s)
    else if s.pagePending e then
      match code with
      | .success => (s.requestEnds e).setStrState e 2
      | _ => s.pageFail e
    else s)

/-- PAGE_REQUEST_TIMEOUT (R265, R282): no response came within TIMEOUT_MS. -/
def execPageRequestTimeout (e : Nat) (s : State) : Host.Outcome State Fault Refusal :=
  whenLive s (fun s =>
    if e = 64 then (if s.pcie.requests.contains 64 then s.jctPageEnds false else s)
    else if s.pagePending e then s.pageFail e else s)

/-! ## Admission (R282 steps 3 to 5, R283, R284) -/

/-- Does a node release its edges with the status it has (R285)? -/
def Node.releases (g : Graph) (n : Node) : Bool := decide (n.prim ≤ 2) || (n.prim == 3 && g.cont && !n.passFail)

/-- Does the node hold its slot: not yet completed with a releasing status (R298)? -/
def Node.holdsSlot (g : Graph) (n : Node) : Bool := !(n.phase == .done && n.releases g)

/-- Node slots in use, and those that a graph needs, in a half (Table 10.7). -/
def State.slotsUsed (s : State) (h : Half) : Nat :=
  (s.graphs.map (fun g => g.nodes.countP (fun n => n.half == h && n.holdsSlot g))).foldl (· + ·) 0
def Graph.slotsNeeded (g : Graph) (h : Half) : Nat := g.nodes.countP (fun n => n.half == h)

/-- Does the graph still wait at step 3: an admitted graph of the context carries its AFTER_GRAPH? -/
def State.waitsAfter (s : State) (g : Graph) : Bool := hdrAfterValid g.header && (s.graph g.ctx (hdrAfter g.header)).isSome

/-- Graphs that wait at step 4, with their contexts. Only listed contexts can hold one. -/
def State.waiters (s : State) : List (Nat × Graph) :=
  s.ctxs.filterMap (fun e => match e.2.waiting with
    | some g => if s.waitsAfter g then none else some (e.1, g)
    | none => none)

/-- Did the wait of context `a` begin before that of context `b`? -/
def State.waitsLonger (s : State) (a b : Nat) : Bool := decide ((s.ctx a).waitOrd < (s.ctx b).waitOrd)

/-- Node slots of a half held for graphs whose wait began before that of context `c` (R283). -/
def State.slotsHeld (s : State) (c : Nat) (h : Half) : Nat :=
  ((s.waiters.filter (fun w => (s.ctx w.1).reserved && s.waitsLonger w.1 c)).map (fun w => w.2.slotsNeeded h)).foldl (· + ·) 0

/-- Are the slots free that the graph of context `c` needs (R282 step 4, Table 10.7)? -/
def State.graphFits (s : State) (c : Nat) (g : Graph) : Bool :=
  decide (s.graphs.length < 1024) && decide (s.graphs.countP (fun x => x.ctx == c) < s.maxGraphs c) &&
  [Half.west, Half.east].all (fun h => g.slotsNeeded h == 0 || decide (s.slotsUsed h + s.slotsHeld c h + g.slotsNeeded h ≤ 2048))

/-- Is a slot of the half held (R283): a graph whose wait has passed RESERVE_US needs slots there, and one is free for it to hold? -/
def State.reserving (s : State) (h : Half) : Bool :=
  decide (s.slotsUsed h < 2048) && s.waiters.any (fun w => (s.ctx w.1).reserved && w.2.slotsNeeded h != 0)

/-- The pins of a graph: one for each entry of its weight-set table; none when an entry has no slot to pin (R173). -/
def State.takePins (s : State) : List Nat → Option (List Pin)
  | [] => some []
  | w :: ws =>
    match s.pinSlot (wsetHalf w) (wsetSet w) (if wsetExplicit w then some (wsetVersion w) else none), s.takePins ws with
    | some t, some ps => some ({ half := wsetHalf w, set := wsetSet w, slot := t } :: ps)
    | _, _ => none

/-- A node at the admission point: West's nodes with no predecessor are ready (R284). -/
def Graph.admitNode (g : Graph) (us ord i : Nat) (n : Node) : Node :=
  let k := g.edges.countP (fun e => e.2 == i)
  { n with
    preds := k
    phase := if n.half = .east then .arriving else if k = 0 then .ready else .waiting
    readyUs := us
    readyOrd := ord }

/-- ADMISSION_POINT (R282 step 5, R284). -/
def State.admitGraph (s : State) (c : Nat) (g : Graph) : State :=
  let s0 := s.setCtx c { s.ctx c with waiting := none, reserved := false }
  match s.takePins g.wsets with
  | none => s0.refuse c g.gid 0x8A 0xFFF
  | some ps =>
    let s1 := ps.eraseDups.foldl State.pin s0
    let g1 := { g with
      pins := ps
      seq := s.admitSeq
      nodes := g.nodes.mapIdx (fun i n => g.admitNode (s.us .west) s.order i n) }
    let s2 := { s1 with graphs := s1.graphs ++ [g1], admitSeq := s.admitSeq + 1, order := s.order + 1 }
    let s3 := if g.slotsNeeded .east = 0 then s2 else s2.passControl .east (.admitMsg c g.gid s.admitSeq)
    s3.keepWakes [127, 128, 131, 132]

/-- The head graph of a context passes its admission point once it fits and no graph that has waited longer fits. -/
def State.admissionPoint (s : State) (c : Nat) : State :=
  match (s.ctx c).waiting with
  | none => s
  | some g =>
    if s.waitsAfter g ∨ s.graphFits c g = false ∨ s.waiters.any (fun w => s.waitsLonger w.1 c && s.graphFits w.1 w.2) then s
    else s.admitGraph c g

/-- ADMISSION_POINT. -/
def execAdmissionPoint (c : Nat) (s : State) : Host.Outcome State Fault Refusal :=
  whenLive s (fun s => if c < 256 ∧ s.domOn (jctDom .west) then s.admissionPoint c else s)

/-- RESERVE_TIMEOUT (R283): a head graph has waited at step 4 for longer than RESERVE_US; slots are held for it. -/
def execReserveTimeout (c : Nat) (s : State) : Host.Outcome State Fault Refusal :=
  whenLive s (fun s => match (s.ctx c).waiting with
    | some g =>
      if !s.waitsAfter g ∧ s.us .west - (s.ctx c).waitUs > s.rf (JCT_ADMIT_CTRL .west) JCT_ADMIT_CTRL.RESERVE_US then
        s.setCtx c { s.ctx c with reserved := true } else s
    | none => s)

/-! ## Tokens and admission messages (R284, R286) -/

/-- A predecessor of a node has released: with none left the node is ready (R285). Nodes that become ready together share one place in the order:
whoever calls this takes a new one first. -/
def State.released1 (s : State) (r : NodeRef) : State :=
  s.modNode r (fun n =>
    let k := n.preds - 1
    if n.phase = .waiting ∧ k = 0 then { n with preds := 0, phase := .ready, readyUs := s.us n.half, readyOrd := s.order }
    else { n with preds := k })

/-- A token is acted on: held while its consumer's admission message is on its way, discarded for an aborted or ended graph (R286, R299). -/
def State.actToken (s : State) (h : Half) (t : Token) : State :=
  let r : NodeRef := { ctx := t.ctx, gid := t.gid, node := t.node }
  match s.node r with
  | none => s
  | some (g, n) =>
    if g.aborted ∨ g.seq ≠ t.seq then s
    else if n.phase = .arriving then s.modHalf h (fun x => { x with early := x.early ++ [t] })
    else s.released1 r

/-- A token that has crossed the Passage reaches the half's Junction. -/
def State.tokenIn (s : State) (h : Half) (t : Token) : State :=
  (s.stamp.2.add (JCT_TOKENS_IN h) JCT_TOKENS_IN.TOKENS 1).actToken h t

/-- The oldest token towards a half arrives in its turn (R20), unless R22 holds it back. -/
def State.tokenArrive (s : State) (h : Half) : State :=
  match (s.half h).token with
  | .token t :: q =>
    if (s.half h).turn .token && s.passOn then (s.modHalf h (fun x => x.sent .token (.token t) q)).tokenIn h t else s
  | _ => s

/-- TOKEN_ARRIVE (R286). -/
def execTokenArrive (h : Half) (s : State) : Host.Outcome State Fault Refusal := whenLive s (fun s => s.tokenArrive h)

/-- An admission message reaches East: the graph's East nodes take their places, and tokens that came before it act (R284, R286). -/
def State.admitEast (s0 : State) (c gid seq : Nat) : State :=
  let s := s0.stamp.2
  let s1 := s.modGraph c gid (fun g => if g.seq ≠ seq then g else { g with nodes := g.nodes.map (fun n =>
    if n.phase = .arriving then
      { n with phase := if n.preds = 0 then .ready else .waiting, readyUs := s.us .east, readyOrd := s.order } else n) })
  let own (t : Token) : Bool := t.ctx == c && t.gid == gid && t.seq == seq
  let mine := s1.east.early.filter own
  let s2 := s1.modHalf .east (fun x => { x with early := x.early.filter (fun t => !own t) })
  mine.foldl (fun s t => s.actToken .east t) s2

/-- ADMISSION_MSG_ARRIVE (R284): the oldest Control message to East is an admission. -/
def execAdmissionMsgArrive (s : State) : Host.Outcome State Fault Refusal :=
  whenLive s (fun s => match s.east.control with
    | .admitMsg c gid seq :: q =>
      if s.east.turn .control && s.passOn then
        (s.modHalf .east (fun x => x.sent .control (.admitMsg c gid seq) q)).admitEast c gid seq
      else s
    | _ => s)

/-! ## The order of ready nodes (R289 to R291) -/

/-- Effective level of a node (R289). -/
def State.level (s : State) (g : Graph) (n : Node) : Nat := max n.prio (s.rf (JCT_CTX_CFG g.ctx) JCT_CTX_CFG.PRIO_FLOOR)

/-- A ready node with what R289 orders it by. -/
structure Ready where
  ref : NodeRef
  node : Node
  level : Nat
  seq : Nat
  deriving DecidableEq, Repr

/-- Lexicographic order of equally long lists. -/
def lexLt : List Nat → List Nat → Bool
  | a :: as, b :: bs => decide (a < b) || (a == b && lexLt as bs)
  | _, _ => false

/-- The order of R289: escalated first and earlier escalation first, lower level, earlier ready time, earlier admission, lower index. -/
def Ready.before (a b : Ready) : Bool :=
  let key (x : Ready) : List Nat := match x.node.escal with
    | some k => [0, k]
    | none => [1, 0]
  lexLt (key a ++ [a.level, a.node.readyOrd, a.seq, a.ref.node]) (key b ++ [b.level, b.node.readyOrd, b.seq, b.ref.node])

/-- Ready nodes of a half that satisfy a test. -/
def State.readyNodes (s : State) (h : Half) (p : Node → Bool) : List Ready :=
  s.graphs.flatMap (fun g => if g.aborted then [] else (List.range g.nodes.length).filterMap (fun i => match g.nodes[i]? with
    | some n => if n.phase == .ready && n.half == h && p n then
        some { ref := { ctx := g.ctx, gid := g.gid, node := i }, node := n, level := s.level g n, seq := g.seq } else none
    | none => none))

/-- The first of a list in the order of R289. -/
def firstReady : List Ready → Option Ready
  | [] => none
  | r :: rs => some (rs.foldl (fun m x => if x.before m then x else m) r)

/-- ESCALATION (R291): a node has been ready for longer than its level's bound. -/
def State.escalate (s : State) (r : NodeRef) : State :=
  match s.node r with
  | none => s
  | some (g, n) =>
    let us := s.rf (JCT_STARVE n.half (s.level g n)) JCT_STARVE.US
    if n.phase = .ready ∧ n.escal.isNone ∧ !g.aborted ∧ us ≠ 0 ∧ s.us n.half - n.readyUs > us then
      let s1 := s.modNode r (fun n => { n with escal := some s.escalSeq })
      let s2 := { s1 with escalSeq := s.escalSeq + 1 }
      (s2.wf (JCT_EVENT n.half) JCT_EVENT.ESCALATED 1).add (JCT_ESCALATIONS n.half) JCT_ESCALATIONS.NODES 1
    else s

/-- ESCALATION. -/
def execEscalation (r : NodeRef) (s : State) : Host.Outcome State Fault Refusal := whenLive s (fun s => s.escalate r)

/-! ## Dispatch (R288, R290, R292) -/

/-- Nodes of a half that are dispatched and not ended, of a kind, that satisfy a test. -/
def State.busyNodes (s : State) (h : Half) (kind : Nat) (p : Node → Bool) : Nat :=
  (s.nodesWhere (fun _ n => n.kind == kind && n.half == h && (n.phase == .binding || n.phase == .waking || n.phase == .running) && p n)).length

/-- May a CAUSEWAY node be dispatched (R347)? -/
def State.cswFree (s : State) (h : Half) (n : Node) : Bool :=
  if n.cswOp ≤ 2 then decide (s.busyNodes h 6 (fun m => decide (m.cswOp ≤ 2)) < 16) &&
    (n.cswOp != 2 || s.busyNodes h 6 (fun m => m.cswOp == 2 && m.cswBar == n.cswBar) == 0)
  else decide (s.busyNodes h 6 (fun m => decide (3 ≤ m.cswOp)) < 4)

/-- The first ready node that names a Gallery (R289). -/
def State.firstAt (s : State) (h : Half) (g : Nat) : Option Ready :=
  firstReady (s.readyNodes h (fun n => n.kind == 1 && n.gals.contains g))

/-- Does no node run in the Gallery? -/
def State.galFree (s : State) (h : Half) (g : Nat) : Bool := (s.gal h g).node.isNone && (s.gal h g).waves.isEmpty

/-- The node to dispatch to a unit now, if its unit is free (Table 10.9). A GALLERY node is dispatched once every Gallery it names is idle and
it stands first at each of them: until then it holds the idle ones (R290). -/
def State.pick (s : State) (h : Half) (u : UnitRef) : Option Ready :=
  match u with
  | .gallery g => match s.firstAt h g with
    | some x => if x.node.gals.all (fun j => s.galFree h j && (s.firstAt h j).map Ready.ref == some x.ref) then some x else none
    | none => none
  | .plaza => if (s.half h).plaza.node.isNone then firstReady (s.readyNodes h (fun n => n.kind == 2)) else none
  | .stage => if (s.half h).stage.node.isNone then firstReady (s.readyNodes h (fun n => n.kind == 3)) else none
  | .engine e => if (s.engine e).shadow.isNone ∧ s.strState e ≠ 6 then
      firstReady (s.readyNodes h (fun n => n.kind == 4 && n.unit == e)) else none
  | .memory => if s.busyNodes h 5 (fun _ => true) < 4 then firstReady (s.readyNodes h (fun n => n.kind == 5)) else none
  | .causeway => firstReady (s.readyNodes h (fun n => n.kind == 6 && s.cswFree h n))
  | .nop => firstReady (s.readyNodes h (fun n => n.kind == 7))

/-- The node takes hold of its unit (R292). -/
def State.takeUnit (s : State) (r : NodeRef) (n : Node) : State :=
  let h := n.half
  match n.kind with
  | 1 => n.gals.foldl (fun s g => s.setGal h g { s.gal h g with node := some r, started := false }) s
  | 2 => s.plazaBegin h r n
  | 3 => s.modHalf h (fun x => { x with stage := { node := some r } })
  | 4 => s.arm n.unit { node := some r, ctx := r.ctx, handle := u32 n.bytes 0x40, off := u32 n.bytes 0x44, resume := n.resume }
  | 6 => s.cswBegin h r n
  | _ => s

/-- A unit held by a node that has ended is given up. -/
def State.freeUnit (s : State) (r : NodeRef) (n : Node) : State :=
  let h := n.half
  match n.kind with
  | 1 => n.gals.foldl (fun s g => if (s.gal h g).node = some r then s.setGal h g { s.gal h g with node := none, started := false } else s) s
  | 2 => if (s.half h).plaza.node = some r then s.plazaIdle h else s
  | 3 => if (s.half h).stage.node = some r then s.modHalf h (fun x => { x with stage := {} }) else s
  | 4 =>
    let e := n.unit
    if (s.engine e).node = some r then s.engClear e
    else match (s.engine e).shadow with
      | some c => if c.node = some r then (s.modEng e (fun x => { x with shadow := none })).wf (strStatus e) STR_STATUS.SHADOW_FULL 0 else s
      | none => s
  | 6 => s.modHalf h (fun x => { x with cswOps := x.cswOps.filter (fun o => decide (o.node ≠ r)) })
  | _ => s

/-- The tier checks of R223: Galleries and the Plaza use T1, but for the table of a GATHER; a STAGE reads the tier it names. -/
def State.tiersOk (s : State) (n : Node) : Bool :=
  let tier (v : Nat) : Nat := s.rf (MEM_HOME (handleHalf v) (handleIdx v)) MEM_HOME.TIER
  match n.kind with
  | 1 => n.binds.all (fun b => tier b.1 == 1)
  | 2 => n.binds.all (fun b => tier b.1 == 1 || (opKind n.op == 2 && b.1 == opB n.op && !b.2) || !([opA n.op, opB n.op, opOut n.op,
      opAux1 n.op, opAux2 n.op, opU n.op, opV n.op].contains b.1))
  | 3 => !(stgSource n == 1 || stgSource n == 2) || tier (stgAddr n % 2 ^ 32) == stgSource n
  | _ => true

/-- What follows binding (R292, R197): the tier checks, the correction set or the STAGE's set, and the wakes; then the node runs or waits for
its grant. -/
def State.afterBind (r : NodeRef) (s : State) : State :=
  match s.node r with
  | none => s
  | some (_, n) =>
    if !s.tiersOk n then s.endNode r 4
    else
      let p := if n.kind = 1 then s.dispatchCset r n else if n.kind = 3 then (s.stageBegin n.half r n, true) else (s, true)
      if !p.2 then p.1
      else
        let doms := p.1.nodeDoms n
        let w := p.1.wakeAll doms
        if !w.2 then w.1.endNode r 4
        else w.1.modNode r (fun n => { n with phase := if doms.all w.1.domOn then .running else .waking })

/-- A node is dispatched (R292). NOP completes with OK at once. -/
def State.dispatch (s : State) (h : Half) (x : Ready) : State :=
  let r := x.ref
  let s1 := s.modNode r (fun n => { n with
    phase := .binding
    dispatched := true
    escal := none
    prim := 0
    flags := 0
    detail := 0
    detail2 := 0 })
  let s2 := (s1.add (JCT_DISPATCHES h) JCT_DISPATCHES.NODES 1).add (JCT_READY_WAIT h x.level) JCT_READY_WAIT.US (s.us h - x.node.readyUs)
  if x.node.kind = 7 then s2.endNode r 0 else (s2.takeUnit r x.node).tryBind r (State.afterBind r)

/-- Dispatched nodes that wait to bind try again (R224, R226). -/
def State.rebind (s : State) : State :=
  (s.nodesWhere (fun g n => n.phase == .binding && !g.aborted)).foldl (fun s e => s.tryBind e.1 (State.afterBind e.1)) s

/-- NODE_DISPATCH (R288 to R292): the Junction of a half dispatches the first ready node to a free unit; none while a gating window is closed
(R396). -/
def execNodeDispatch (h : Half) (u : UnitRef) (s : State) : Host.Outcome State Fault Refusal :=
  whenLive s (fun s =>
    if s.power.gateOpen ∧ s.domOn (jctDom h) then
      match s.pick h u with
      | some x => s.dispatch h x
      | none => s
    else s)

end Sys2Proof.Machine
end

