-- ==== Sys2Proof/Machine/JctEnd.lean ====
section
/-! DEFINITION. Completion of nodes and graphs, aborts and retries, the configuration of contexts and their doorbells (R285, R294 to R302, R365 to
R368), and the ends of evictions and moves, after which waiting nodes bind (R225, R226). -/

namespace Sys2Proof.Machine

/-! ## Status words (Table 10.10) -/

/-- The status word of a node that has completed. -/
def Node.statusWord (n : Node) : Nat :=
  n.prim + 16 * n.flags + 2 ^ 8 * (n.detail % 256) + 2 ^ 16 * min n.attempt 15 + 2 ^ 32 * n.detail2

/-- Write a node's status word at STATUS + 8 x index (R295). -/
def State.putStatus (s : State) (g : Graph) (i w : Nat) : State :=
  if g.statusT1 then
    match s.pinRange .west g.ctx (g.status % 2 ^ 32) (g.status / 2 ^ 32 + 8 * i) 8 with
    | some a => s.storeBytes .west 1 a (leBytes 8 w)
    | none => s
  else s.ctxPut g.ctx false (g.status + 8 * i) (leBytes 8 w)

/-! ## Graph completion (R298) -/

/-- Has the graph completed: every node with a releasing status, or, in an aborted graph, every dispatched node? -/
def Graph.complete (g : Graph) : Bool :=
  if g.aborted then g.nodes.all (fun n => !n.active) else g.nodes.all (fun n => n.phase == .done)

/-- Was a node never dispatched? Its status is NOT_RUN. -/
def Node.notRun (n : Node) : Bool := !n.dispatched

/-- The GRAPH entry's PRIMARY and flags. A graph none of whose nodes was dispatched has no primary to take: a free value (log entry 54). -/
def State.graphStatus (s : State) (g : Graph) : State × Nat :=
  let ran := g.nodes.filter (fun n => !n.notRun)
  if ran.isEmpty then (s.fresh.2, s.fresh.1 % 16)
  else (s, (ran.foldl (fun p n => worse p n.prim) 0) + 16 * (ran.foldl (fun f n => f ||| n.flags) 0))

/-- The graph completes: NOT_RUN words, the GRAPH entry, and then its pins and slots (R298, R301). -/
def State.graphEnd (s : State) (g : Graph) : State :=
  let none' := (List.range g.nodes.length).filter (fun i => (g.nodes.getD i { bytes := [] }).notRun)
  let s1 := none'.foldl (fun s i => s.putStatus g i 6) s
  let p := s1.graphStatus g
  let s2 := p.1.modGraph g.ctx g.gid (fun g => { g with ending := true })
  s2.cqPut g.ctx (cqEntry 2 g.gid 0 p.2 0 0 none'.length (s.us .west)) (some g.gid)

/-- Complete a graph if it has completed and its entry has not been formed. -/
def State.graphMaybeEnd (s : State) (c gid : Nat) : State :=
  match s.graph c gid with
  | some g => if g.complete && !g.ending then s.graphEnd g else s
  | none => s

/-! ## Node completion (R285 to R287, R295, R296) -/

/-- Its edges release: within a half the consumer's count falls, across the halves a token is sent (R285, R286). -/
def State.releaseEdges (s0 : State) (g : Graph) (n : Node) (i : Nat) : State :=
  (g.edges.filter (fun e => e.1 == i)).foldl (fun s e =>
    match g.nodes[e.2]? with
    | none => s
    | some m =>
      if m.half = n.half then s.released1 { ctx := g.ctx, gid := g.gid, node := e.2 }
      else (s.add (JCT_TOKENS_OUT n.half) JCT_TOKENS_OUT.TOKENS 1).passToken m.half
        (.token { ctx := g.ctx, gid := g.gid, node := e.2, src := i, seq := g.seq })) s0.stamp.2

/-- What the node held is given back: its objects, its correction set and its unit (R222, R197). -/
def State.nodeLeaves (s : State) (r : NodeRef) (n : Node) : State :=
  let s1 := s.modNode r (fun n => { n with bound := [], homes := [], setBound := false })
  let s2 := n.bound.foldl (fun s b => s.unbindObject b.1 b.2) s1
  let s3 := if n.setBound then s2.sub (SDS_SET_CTRL n.half n.cset) SDS_SET_CTRL.USERS 1 else s2
  s3.freeUnit r n

/-- NODE_COMPLETE: a node whose unit is done with it completes. -/
def State.nodeComplete (s : State) (r : NodeRef) : State :=
  match s.node r with
  | none => s
  | some (g, n) =>
    if n.phase ≠ .ended then s
    else
      let w := n.statusWord
      let s1 := (s.nodeLeaves r n).putStatus g r.node w
      let open' := !n.releases g && !g.aborted
      let s2 := s1.modNode r (fun n => { n with phase := if open' then .opened else .done })
      let s3 := if open' then s2.wf (JCT_EVENT n.half) JCT_EVENT.OPEN_NODE 1
        else if g.aborted then s2 else s2.releaseEdges g n r.node
      let s4 := if n.notify ∨ n.prim = 3 ∨ n.prim = 4 then
          s3.cqPut r.ctx (cqEntry 1 r.gid r.node (w % 2 ^ 32) n.detail2 n.tag 0 (s.us n.half)) none
        else s3
      (s4.graphMaybeEnd r.ctx r.gid).rebind

/-- NODE_COMPLETE. -/
def execNodeComplete (r : NodeRef) (s : State) : Host.Outcome State Fault Refusal := whenLive s (fun s => s.nodeComplete r)

/-! ## Aborts (R299, Tables 10.11 and 10.12) -/

/-- A wave of an aborted node that has not started its passes goes; its latch is empty again. -/
def State.dropUnstarted (s : State) (h : Half) (g : Nat) (n : Node) : State :=
  let ws := (s.gal h g).waves
  let s1 := (ws.filter (fun w => w.phase == .latched)).foldl (fun s w => s.seamsWf h g n.chms (latchFld w.latch) 0) s
  s1.setGal h g { s1.gal h g with waves := ws.filter (fun w => w.phase != .filling && w.phase != .latched) }

/-- A running GALLERY node stops: no further wave starts, and a running wave ends its passes without output. -/
def State.galAbort (s : State) (r : NodeRef) (n : Node) : State :=
  let s1 := n.gals.foldl (fun s g => s.dropUnstarted n.half g n) (s.haltSeqs n)
  ((s1.markNode r 5).modNode r (fun n => { n with stopped := true })).galMaybeEnd r

/-- Pool placements of a source in a half are dropped, with the backings they hold. -/
def State.dropWaits (s : State) (h : Half) (src : MemSrc) : State :=
  ((s.half h).mem.allocWait.filter (fun a => a.src == src)).foldl (fun s a => s.dropBacking h a)
    (s.modMem h (fun m => { m with allocWait := m.allocWait.filter (fun a => !(a.src == src)) }))

/-- A running MEMORY node stops: a MOVE is abandoned as by a FREE (Table 8.10), one that still waits is dropped, and a FREE or SET_SWEEP runs to its
end, whether it has been taken or not (Table 10.11). -/
def State.memAbort (s : State) (r : NodeRef) (n : Node) : State :=
  let h := n.half
  let src : MemSrc := .node r
  let m := (s.half h).mem
  if blkOp (slice n.bytes 0x40 32) ≠ 3 then s.markNode r 5 else
  let s0 := ((s.modMem h (fun m => { m with waiting := m.waiting.filter (fun w => !(w.1 == src)) })).dropWaits h src).dropWaits h.other src
  let s1 := (m.copies.filter (fun c => c.src == src && !c.evict)).foldl (fun s c =>
    (((s.dropDest h c.idx c).dropCopy h c.idx).home h c.idx MEM_HOME.STATE 1).memRecheck h c.idx) s0
  s1.endNodeD r 5 (if m.copies.any (fun c => c.src == src) then 0x49 else 0) 0

/-- A dispatched node of a graph at its abort. A node that a fault has ended and that has not completed ends with ABORTED (Table 11.5). -/
def State.abortNode (s : State) (r : NodeRef) (n : Node) : State :=
  match n.phase with
  | .binding => if n.kind = 3 then s.stageAbort n.half r else s.endNode r 5
  | .waking => if n.kind = 3 then s.stageAbort n.half r else s.endNode r 5
  | .running => match n.kind with
    | 1 => s.galAbort r n
    | 2 => s.plazaAbort n.half r
    | 3 => s.stageAbort n.half r
    | 4 => s.abortEngineNode r n.unit
    | 5 => s.memAbort r n
    | 6 => s.cswAbort r n
    | _ => s.endNode r 5
  | .ended => if n.kind = 1 ∧ n.stopped = true then s.markNode r 5 else s
  | _ => s

/-- The abort point of one graph. -/
def State.abortGraph (s : State) (c gid : Nat) : State :=
  match s.graph c gid with
  | none => s
  | some g =>
    if g.aborted then s
    else
      let s1 := s.modGraph c gid (fun g => { g with aborted := true })
      let s2 := (List.range g.nodes.length).foldl (fun s i => match g.nodes[i]? with
        | some n => s.abortNode { ctx := c, gid := gid, node := i } n
        | none => s) s1
      s2.graphMaybeEnd c gid

/-- Admitted graphs of a context that are not complete. -/
def State.ctxGraphs (s : State) (c : Nat) : List Nat := (s.graphs.filter (fun g => g.ctx == c)).map (fun g => g.gid)

/-- ABORT_CONTEXT's work on a context: its waiting graph and every unread entry are refused with ABORTED, and its admitted graphs abort. -/
def State.abortCtx (s : State) (c : Nat) : State :=
  let s1 := match (s.ctx c).waiting with
    | some g => (s.setCtx c { s.ctx c with waiting := none, reserved := false }).refuse c g.gid 0x8B 0xFFF
    | none => s
  let gid (i : Nat) : Nat := match s.jctPage with
    | some p => if p.ctx = c ∧ i = 0 then p.gid else 0
    | none => 0
  let s2 := (List.range (s1.sqUnread c)).foldl (fun s i => s.refuse c (gid i) 0x8B 0xFFF) (s1.dropPage c)
  let s3 := s2.wf (JCT_CTX_SQ_STATE c) JCT_CTX_SQ_STATE.HEAD (s2.sqTail c)
  (s3.ctxGraphs c).foldl (fun s gid => s.abortGraph c gid) s3

/-- A command in JCT_CONTROL as its GO finds it: OP, CONTEXT, NODE and GRAPH_ID are in the registers, GO reads 0. -/
def State.jctSet (s : State) (op c node gid : Nat) : State :=
  ((((s.wf JCT_CONTROL JCT_CONTROL.OP op).wf JCT_CONTROL JCT_CONTROL.CONTEXT c).wf JCT_CONTROL JCT_CONTROL.NODE node).wf JCT_CONTROL
    JCT_CONTROL.GO 0).wf JCT_CONTROL_GRAPH JCT_CONTROL_GRAPH.GRAPH_ID gid

/-- A command in JCT_CONTROL completes with a code. -/
def State.jctDone (s : State) (code : Nat) : State :=
  (s.wf JCT_CONTROL JCT_CONTROL.CODE code).wf JCT_CONTROL JCT_CONTROL.DONE 1

/-- An abort in JCT_CONTROL is under way for graphs: DONE is set when all have completed. -/
def State.jctAwait (s : State) (c : Nat) (gids : List Nat) : State :=
  let l := (gids.filter (fun g => (s.graph c g).isSome)).map (fun g => (c, g))
  let s1 := { s.wf JCT_CONTROL JCT_CONTROL.CODE 0 with jctWait := l }
  if l.isEmpty then s1.wf JCT_CONTROL JCT_CONTROL.DONE 1 else s1

/-- May the function command a context: its owner or the physical function (R302, R364)? -/
def State.owns (s : State) (func c : Nat) : Bool := func == 0 || func == s.ctxFunc c

/-- A GO that names another function's context is DENIED and recorded (R302). -/
def State.denied (s : State) (func v : Nat) : State := (s.log .west { logSoft 2 v with code := 3, func := func }).jctDone 3

/-- ABORT_GRAPH through JCT_CONTROL. -/
def State.goAbortGraph (s : State) (func c gid : Nat) : State :=
  if !s.owns func c then s.denied func (s.rd JCT_CONTROL).toNat
  else (s.abortGraph c gid).jctAwait c [gid]

/-- ABORT_CONTEXT through JCT_CONTROL. -/
def State.goAbortContext (s : State) (func c : Nat) : State :=
  if !s.owns func c then s.denied func (s.rd JCT_CONTROL).toNat
  else
    let gs := s.ctxGraphs c
    (s.abortCtx c).jctAwait c gs

/-- RETRY_NODE through JCT_CONTROL (R297). `bytes` are the node's bytes where the descriptor is in host memory. -/
def State.goRetry (s : State) (func c gid node : Nat) (bytes : List Byte) : State :=
  let r : NodeRef := { ctx := c, gid := gid, node := node }
  if !s.owns func c then s.denied func (s.rd JCT_CONTROL).toNat
  else match s.node r with
    | none => s.jctDone 1
    | some (g, n) =>
      if n.phase ≠ .opened ∨ g.aborted then s.jctDone 1
      else
        let off := 64 + 128 * ceilDiv (8 * g.wsets.length) 128 + 128 * node
        let p := if g.inT1 then match s.pinRange .west c (g.addr % 2 ^ 32) (g.addr / 2 ^ 32 + off) 128 with
            | some a => s.t1Fetch c a 128 {}
            | none => (s, none)
          else s.t3Fetch c (g.addr + off) 128 bytes
        match p with
        | (s1, none) => (s1.wf JCT_CONTROL_GRAPH JCT_CONTROL_GRAPH.REASON 0x80).jctDone 2
        | (s1, some b) =>
          let m : Node := { n with bytes := b }
          let checked := s1.nodeCheck g m
          let code := if checked = 0 ∧ (m.kind ≠ n.kind ∨ m.half ≠ n.half) then 0x84 else checked
          if code ≠ 0 then (s1.wf JCT_CONTROL_GRAPH JCT_CONTROL_GRAPH.REASON code).jctDone 2
          else
            let fresh : Node := {
              bytes := b
              phase := .ready
              readyUs := s.us n.half
              readyOrd := s.order + 1
              attempt := n.attempt + 1
              dispatched := true
              prim := n.prim
              flags := n.flags
              detail := n.detail
              detail2 := n.detail2 }
            (s1.stamp.2.modNode r (fun _ => fresh)).jctDone 0

/-- ABORT_GRAPH. -/
def execAbortGraph (func c gid : Nat) (s : State) : Host.Outcome State Fault Refusal :=
  whenLive s (fun s => if c < 256 then (s.jctSet 0 c (s.rf JCT_CONTROL JCT_CONTROL.NODE) gid).goAbortGraph func c gid else s)

/-- ABORT_CONTEXT. -/
def execAbortContext (func c : Nat) (s : State) : Host.Outcome State Fault Refusal :=
  whenLive s (fun s => if c < 256 then
    (s.jctSet 1 c (s.rf JCT_CONTROL JCT_CONTROL.NODE) (s.rf JCT_CONTROL_GRAPH JCT_CONTROL_GRAPH.GRAPH_ID)).goAbortContext func c else s)

/-- RETRY_NODE (R297). -/
def execRetryNode (func c gid node : Nat) (bytes : List Byte) (s : State) : Host.Outcome State Fault Refusal :=
  whenLive s (fun s => if c < 256 then (s.jctSet 2 c node gid).goRetry func c gid node bytes else s)

/-! ## Configuration of a context (R274, R302) -/

/-- A write of JCT_CTX_CFG: its fields but EN are locked while EN is 1, an unsupported format is refused, and EN 0 is refused while the context
has graphs. A write of EN 1 sets HEAD and TAIL to 0 and PHASE to 1 (R302). While the fit codes differ the device admits no context (R37, log entry
34). -/
def State.ctxCfgWrite (s : State) (c v : Nat) : State :=
  let a := JCT_CTX_CFG c
  let v := normWord a (bits v 0 23)
  let old := (s.rd a).toNat
  let refused := s.log .west { logSoft 2 v with addr := a, ctx := some c }
  if s.ctxEn c ∧ v / 2 ≠ old / 2 then refused
  else if bits v 1 3 ≠ 1 ∧ bits v 1 3 ≠ 2 then refused
  else if !bit v 0 ∧ (s.graphs.any (fun g => g.ctx == c) ∨ (s.ctx c).waiting.isSome) then refused
  else if bit v 0 ∧ s.on BOOT_GLOBAL_STATUS BOOT_GLOBAL_STATUS.FIT_MISMATCH then refused
  else
    let s1 := (s.wr a (BitVec.ofNat 32 v)).dropPage c
    if bit v 0 then
      let q := JCT_CTX_CQ_STATE c
      let s2 := (s1.wf (JCT_CTX_SQ_STATE c) JCT_CTX_SQ_STATE.HEAD 0).wf (JCT_CTX_SQ_STATE c) JCT_CTX_SQ_STATE.TAIL 0
      let s3 := ((s2.wf q JCT_CTX_CQ_STATE.HEAD 0).wf q JCT_CTX_CQ_STATE.TAIL 0).wf q JCT_CTX_CQ_STATE.PHASE 1
      s3.keepWakes [127, 131, 132]
    else s1

/-- CTX_CFG_WRITE. -/
def execCtxCfgWrite (c v : Nat) (s : State) : Host.Outcome State Fault Refusal :=
  whenLive s (fun s => if c < 256 then s.ctxCfgWrite c v else s)

/-! ## Doorbells (R365 to R368) -/

/-- A discarded doorbell: its event bit of PCI_EVENT and its record (R367). -/
def State.dbBad (s : State) (f : Fld) (func c v : Nat) : State :=
  (s.wf PCI_EVENT f 1).log .west { logSoft 12 v with event := f.lo + 1, func := func, ctx := some c }

/-- The checks of Table 13.4 that both doorbells share, in order; none when they pass. `limit` bounds the value. -/
def State.dbCheck (s : State) (func c v limit : Nat) : Option State :=
  if !s.funcActive func then
    (if func = 0 ∨ (s.pcie.vfEnable ∧ func ≤ s.pcie.numVfs) then some (s.dbBad PCI_EVENT.BAD_ACCESS func c v) else some s)
  else if !s.owns func c then some (s.dbBad PCI_EVENT.DB_FOREIGN func c v)
  else if limit ≤ v then some (s.dbBad PCI_EVENT.DB_RANGE func c v)
  else if !s.ctxEn c then
    some ((s.wf (JCT_EVENT .west) JCT_EVENT.DOORBELL_IGNORED 1).log .west { logSoft 2 v with event := 5, func := func, ctx := some c })
  else if !s.halfReady .west then some (s.log .west { logSoft 2 v with func := func, ctx := some c })
  else none

/-- A write of PCI_DB_SQ_TAIL. -/
def State.sqBell (s : State) (func c v : Nat) : State :=
  if c < 256 then (s.dbCheck func c v (s.sqSize c)).getD (s.wf (JCT_CTX_SQ_STATE c) JCT_CTX_SQ_STATE.TAIL v) else s

/-- SQ_DOORBELL (R271, R367). -/
def execSqDoorbell (func c v : Nat) (s : State) : Host.Outcome State Fault Refusal := whenLive s (fun s => s.sqBell func c v)

/-- A new HEAD of a completion queue: held entries are written as it advances (R301). -/
def State.cqHeadSet (s : State) (c v : Nat) : State :=
  (s.wf (JCT_CTX_CQ_STATE c) JCT_CTX_CQ_STATE.HEAD v).cqDrain c (s.ctx c).held.length

/-- A write of PCI_DB_CQ_HEAD. -/
def State.cqBell (s : State) (func c v : Nat) : State :=
  let n := s.cqSize c
  if c < 256 then
    match s.dbCheck func c v n with
    | some s1 => s1
    | none => if (v + n - s.cqHead c % n) % n > (s.cqTail c + n - s.cqHead c % n) % n then s.dbBad PCI_EVENT.DB_RANGE func c v
      else s.cqHeadSet c v
  else s

/-- CQ_DOORBELL (R366, R367). -/
def execCqDoorbell (func c v : Nat) (s : State) : Host.Outcome State Fault Refusal := whenLive s (fun s => s.cqBell func c v)

/-! ## Evictions and moves end; waiting nodes bind (R225, R226) -/

/-- EVICT_DONE (R220). -/
def execEvictDone (h : Half) (i : Nat) (chk : Scan) (s : State) : Host.Outcome State Fault Refusal :=
  whenLive s (fun s => (s.evictDone h i chk).rebind)

/-- MOVE_COPY_DONE (R225, R228). -/
def execMoveCopyDone (h : Half) (i : Nat) (chk : Scan) (s : State) : Host.Outcome State Fault Refusal :=
  whenLive s (fun s => (s.moveCopyDone h i chk).rebind)

end Sys2Proof.Machine
end

