-- ==== Sys2Proof/Machine/Aes.lean ====
section
/-! DEFINITION. AES-256 (FIPS 197), its key wrap (NIST SP 800-38F, KW) and its Galois/Counter mode (NIST SP 800-38D), over byte strings, as the
loader and the security engine use them (R165, R433). The substitution box is computed from its definition, an inverse and an affine map. -/

namespace Sys2Proof.Machine

/-! ## The byte field -/

/-- Product of two bytes modulo x^8 + x^4 + x^3 + x + 1, over `k` bits of the second. -/
def aesTimes : Nat → Nat → Nat → Nat
  | 0, _, _ => 0
  | k + 1, a, b =>
    (if b % 2 = 1 then a else 0) ^^^ aesTimes k (if a < 128 then 2 * a else (2 * a) % 256 ^^^ 27) (b / 2)

/-- Product of two bytes. -/
def byteMul (a b : Nat) : Nat := aesTimes 8 a b

/-- The inverse of a byte, its 254th power; that of 0 is 0. -/
def byteInv (a : Nat) : Nat :=
  let a2 := byteMul a a
  let a3 := byteMul a2 a
  let a12 := let a6 := byteMul a3 a3; byteMul a6 a6
  let a15 := byteMul a12 a3
  let a240 := (List.range 4).foldl (fun x _ => byteMul x x) a15
  byteMul (byteMul a240 a12) a2

/-- A byte turned left by `k` bits. -/
def byteTurn (a k : Nat) : Nat := (a * 2 ^ k) % 256 + a / 2 ^ (8 - k)

/-- The substitution of a byte and its inverse. -/
def subByte (a : Nat) : Nat :=
  let x := byteInv a
  ([1, 2, 3, 4].foldl (fun y k => y ^^^ byteTurn x k) x) ^^^ 99
def unsubByte (a : Nat) : Nat := byteInv (byteTurn a 1 ^^^ byteTurn a 3 ^^^ byteTurn a 6 ^^^ 5)

/-! ## Round keys -/

/-- Byte-wise exclusive or. -/
def xorAll (a b : List Nat) : List Nat := List.zipWith (fun x y => x ^^^ y) a b

/-- The key schedule: `k` words more from word number `i` on, the words so far newest first. -/
def aesWords : Nat → Nat → Nat → List (List Nat) → List (List Nat)
  | 0, _, _, ws => ws
  | k + 1, i, rc, ws =>
    let p := ws.headD []
    let t :=
      if i % 8 = 0 then xorAll ((p.drop 1 ++ p.take 1).map subByte) [rc, 0, 0, 0]
      else if i % 8 = 4 then p.map subByte else p
    aesWords k (i + 1) (if i % 8 = 0 then byteMul rc 2 else rc) (xorAll (ws.getD 7 []) t :: ws)

/-- The fifteen round keys of a 32-byte key, as byte lists. -/
def aesKeys (key : List Byte) : List (List Nat) :=
  let k := (padTo 32 key).map (·.toNat)
  let w := ((aesWords 52 8 1 ((List.range 8).map (fun i => (k.drop (4 * i)).take 4)).reverse).reverse).flatten
  (List.range 15).map (fun r => (w.drop (16 * r)).take 16)

/-! ## One block, as 16 bytes column by column -/

/-- Row r of the block turned by r columns: to the left with step 1, to the right with step 3. -/
def turnRows (step : Nat) (b : List Nat) : List Nat :=
  (List.range 16).map (fun i => b.getD (i % 4 + 4 * ((i / 4 + step * (i % 4)) % 4)) 0)

/-- Every column multiplied by a circulant whose first row is given. -/
def mixCols (row : List Nat) (b : List Nat) : List Nat :=
  (List.range 16).map (fun i => (List.range 4).foldl (fun x j =>
    x ^^^ byteMul (b.getD (4 * (i / 4) + j) 0) (row.getD ((j + 4 - i % 4) % 4) 0)) 0)

/-- One block enciphered: thirteen full rounds and a last one without the mix. -/
def aesEncrypt (ks : List (List Nat)) (b : List Nat) : List Nat :=
  let half (x : List Nat) : List Nat := turnRows 1 (x.map subByte)
  let x := (List.range 13).foldl (fun x r => xorAll (mixCols [2, 3, 1, 1] (half x)) (ks.getD (r + 1) [])) (xorAll b (ks.getD 0 []))
  xorAll (half x) (ks.getD 14 [])

/-- One block deciphered: the same steps undone in reverse. -/
def aesDecrypt (ks : List (List Nat)) (b : List Nat) : List Nat :=
  let half (x : List Nat) : List Nat := (turnRows 3 x).map unsubByte
  let x := (List.range 13).foldl (fun x r => mixCols [14, 11, 13, 9] (xorAll (half x) (ks.getD (13 - r) []))) (xorAll b (ks.getD 14 []))
  xorAll (half x) (ks.getD 0 [])

/-! ## Key wrap -/

/-- One step of the unwrapping: the check value, and the semiblocks with number `i` (from 1) deciphered against step number `t`. -/
def unwrapStep (ks : List (List Nat)) (n : Nat) (x : List Nat × List (List Nat)) (t : Nat) : List Nat × List (List Nat) :=
  let i := (t - 1) % n
  let d := aesDecrypt ks (xorAll x.1 ((beBytes 8 t).map (·.toNat)) ++ x.2.getD i [])
  (d.take 8, x.2.set i (d.drop 8))

/-- AES key unwrap: the bytes wrapped, or none when the check value is not A6 eight times. -/
def aesUnwrap (key wrapped : List Byte) : Option (List Byte) :=
  let ks := aesKeys key
  let n := wrapped.length / 8 - 1
  let w := wrapped.map (·.toNat)
  let r := (List.range (6 * n)).foldl (fun x j => unwrapStep ks n x (6 * n - j))
    (w.take 8, (List.range n).map (fun i => (w.drop (8 * i + 8)).take 8))
  if wrapped.length % 8 = 0 ∧ 2 ≤ n ∧ r.1 = List.replicate 8 0xA6 then some (r.2.flatten.map (BitVec.ofNat 8)) else none

/-! ## Galois/Counter mode -/

/-- Product of two blocks as 128-bit numbers whose bit 127 has weight 1, over `k` bits of the first. -/
def ghashTimes : Nat → Nat → Nat → Nat
  | 0, _, _ => 0
  | k + 1, x, v =>
    (if 2 ^ 127 ≤ x then v else 0) ^^^ ghashTimes k (2 * x % 2 ^ 128) (if v % 2 = 1 then v / 2 ^^^ 225 * 2 ^ 120 else v / 2)

/-- The hash of a byte string whose length is a multiple of 16. -/
def ghash (h : Nat) (m : List Byte) : Nat :=
  (List.range (m.length / 16)).foldl (fun y i => ghashTimes 128 (y ^^^ beNat (slice m (16 * i) 16)) h) 0

/-- A byte string filled with zeros to a multiple of 16. -/
def fill16 (m : List Byte) : List Byte := m ++ zeros ((16 - m.length % 16) % 16)

/-- `n` bytes of key stream for a 12-byte IV: the counter's blocks from 2 on. -/
def gcmStream (ks : List (List Nat)) (iv : List Byte) (n : Nat) : List Nat :=
  ((List.range (ceilDiv n 16)).flatMap (fun i => aesEncrypt ks ((iv ++ beBytes 4 (i + 2)).map (·.toNat)))).take n

/-- AES-256-GCM decryption: the plaintext, or none when the tag does not match. -/
def aesGcmOpen (key iv aad text tag : List Byte) : Option (List Byte) :=
  let ks := aesKeys key
  let h := beNat ((aesEncrypt ks (List.replicate 16 0)).map (BitVec.ofNat 8))
  let s := ghash h (fill16 aad ++ fill16 text ++ beBytes 8 (8 * aad.length) ++ beBytes 8 (8 * text.length))
  let t := beNat ((aesEncrypt ks ((iv ++ beBytes 4 1).map (·.toNat))).map (BitVec.ofNat 8)) ^^^ s
  if tag = beBytes 16 t then some ((xorAll (text.map (·.toNat)) (gcmStream ks iv text.length)).map (BitVec.ofNat 8)) else none

end Sys2Proof.Machine
end

