-- ==== Sys2Proof/Machine/Loader.lean ====
section
/-! DEFINITION. The loader of a half (R164 to R171): its ring, the checks of a LOAD and an ERASE, images of both routes, and its requests to the
loader port; and the commands that a port takes from the host or from the loader, with their completion. -/

namespace Sys2Proof.Machine

/-- The state with a function applied to a half's loader. -/
def State.modLdr (s : State) (h : Half) (f : LoaderSt → LoaderSt) : State := s.modHalf h (fun x => { x with ldr := f x.ldr })

/-! ## The ring (R168) -/

/-- Descriptors of the ring: 2^SIZE, where a SIZE outside 4 to 10 reads as 4. -/
def State.ldrRing (s : State) (h : Half) : Nat :=
  let z := s.rf (NV_LDR_RING_CTRL h) NV_LDR_RING_CTRL.SIZE
  if 4 ≤ z ∧ z ≤ 10 then 2 ^ z else 16

/-- HEAD of the ring, and the address of its descriptor. -/
def State.ldrHead (s : State) (h : Half) : Nat := s.rf (NV_LDR_HEAD h) NV_LDR_HEAD.HEAD
def State.ldrAddr (s : State) (h : Half) : Nat :=
  64 * s.rf (NV_LDR_RING_LO h) NV_LDR_RING_LO.BASE_LO + s.rf (NV_LDR_RING_HI h) NV_LDR_RING_HI.BASE_HI * 2 ^ 32 + 64 * s.ldrHead h

/-- Is the ring in T1? -/
def State.ldrInT1 (s : State) (h : Half) : Bool := s.on (NV_LDR_RING_CTRL h) NV_LDR_RING_CTRL.WHERE

/-- May the loader take a descriptor? -/
def State.ldrMayTake (s : State) (h : Half) : Bool :=
  s.on (NV_LDR_RING_CTRL h) NV_LDR_RING_CTRL.EN && (s.half h).ldr.phase == .idle && !(s.half h).nv.stopping &&
  decide (s.ldrHead h % s.ldrRing h ≠ s.rf (NV_LDR_TAIL h) NV_LDR_TAIL.TAIL % s.ldrRing h)

/-- The loader's read of a run of a tier: the state after what the checkers find, and how many bytes come before the first uncorrectable word. -/
def State.ldScan (s : State) (h : Half) (tier a len : Nat) (chk : Scan) : State × Nat :=
  let s1 := (s.scanCount h tier chk).findBad h tier a len chk.bad
  match s1.badIn h tier a len with
  | [] => (s1, len)
  | w :: _ => ((s1.countBad h tier 1).logWord h tier w 0, min len (wordBytes tier * w - a))

/-- Half, and address in its T1, of a T1 address of a ring. -/
def ldrPlace (a : Nat) : Half × Nat := (Half.ofNum (a / 0x08000000), a % 0x08000000)

/-- The 64 bytes of the descriptor at HEAD: from T1, or the bytes that host memory gave. -/
def State.ldrDesc (s : State) (h : Half) (t3 : List Byte) : List Byte :=
  if s.ldrInT1 h then s.memBytes (ldrPlace (s.ldrAddr h)).1 1 (ldrPlace (s.ldrAddr h)).2 64 else padTo 64 t3

/-- The read of the descriptor at HEAD, and how many of its 64 bytes it gives (R372). -/
def State.ldrRead (s : State) (h : Half) (t3 : List Byte) : State × Nat :=
  let a := s.ldrAddr h
  if s.ldrInT1 h then s.ldScan (ldrPlace a).1 1 (ldrPlace a).2 64 {}
  else
    let pasid := s.rf (NV_LDR_RING_CTRL h) NV_LDR_RING_CTRL.PASID
    let s1 := s.t3Get h 0 pasid a 64
    if t3.length < 64 then (s1.t3Fail a pasid none, 0) else (s1, 64)

/-- LDR_DOORBELL (R168): a write of NV_LDR_TAIL posts descriptors. -/
def execLdrDoorbell (h : Half) (tail : Nat) (s : State) : Host.Outcome State Fault Refusal :=
  whenLive s (fun s => s.wf (NV_LDR_TAIL h) NV_LDR_TAIL.TAIL tail)

/-! ## Descriptor fields (Table 6.6) -/

def ldOp (d : List Byte) : Nat := fld d 0 7 4
def ldSlot (d : List Byte) : Nat := fld d 0 8 8
def ldSource (d : List Byte) : Nat := fld d 0 13 12
def ldWset (d : List Byte) : Nat := fld d 4 8 0
def ldMask (d : List Byte) : Nat := fld d 8 15 0
def ldAddress (d : List Byte) : Nat := u64 d 0x10
def ldPasid (d : List Byte) : Nat := fld d 0x18 19 0
def ldLength (d : List Byte) : Nat := u64 d 0x20

/-- Reserved fields, VERSION, OP and SOURCE of a descriptor. -/
def ldClean (d : List Byte) : Bool :=
  fld d 0 3 0 == 1 && (ldOp d == 1 || ldOp d == 2) && ldSource d != 3 && fld d 0 11 9 == 0 && fld d 0 31 14 == 0 && fld d 4 31 9 == 0 &&
  fld d 8 31 16 == 0 && fld d 0x18 31 20 == 0 && u32 d 0x1C == 0 && fld d 0x38 31 16 == 0 && u32 d 0x3C == 0 &&
  (ldSource d != 2 || ldAddress d < 256)

/-! ## Images (R164, R165) -/

/-- Is a packed header well formed for a footprint of `count` Chambers (Table 6.3)? -/
def packedOk (b : List Byte) (count : Nat) : Bool :=
  decide (b.length = 64) && u32 b 0 == 0x57537C32 && fld b 4 3 0 == 1 && fld b 4 31 4 == 0 && fld b 0xC 9 0 == count &&
  fld b 0xC 31 10 == 0 && u32 b 0x14 == 0

def pkLplanes (b : List Byte) : Nat := fld b 8 15 0
def pkW7 (b : List Byte) : Nat := fld b 8 31 16
def pkChambers (b : List Byte) : Nat := fld b 0xC 9 0
def pkRecords (b : List Byte) : Nat := u32 b 0x10

/-- Sort key of an image record: bits [14:0] of word 0, then ROW (R164). -/
def recKey (r : List Byte) : Nat := fld r 0 14 0 * 1024 + fld r 0 25 16

/-- The field rules of a record (Table 6.4), and the order after the record before it. -/
def recOk (hd : List Byte) (prev : Option Nat) (r : List Byte) : Bool :=
  bit (pkLplanes hd) (fld r 0 3 0) && decide (fld r 0 14 6 < pkChambers hd) && fld r 0 15 15 == 0 && fld r 0 31 26 == 0 && u32 r 4 == 0 &&
  (match prev with | none => true | some k => decide (k < recKey r))

/-- The records of an image up to the first that breaks a rule; the flag says that one did. -/
def goodRecs (hd : List Byte) : Nat → Option Nat → List Byte → List (List Byte) × Bool
  | 0, _, _ => ([], false)
  | k + 1, prev, b =>
    let r := b.take 264
    if r.length < 264 then ([], false)
    else if recOk hd prev r then
      let x := goodRecs hd k (some (recKey r)) (b.drop 264)
      (r :: x.1, x.2)
    else ([], true)

/-- What a source has given of an image: more is to come, all of LENGTH has come, or it has failed after the bytes got. -/
inductive Got where
  | more
  | all
  | failed
  deriving DecidableEq, Repr

/-- What the bytes of an image got so far come to: more are needed; the key port must unwrap a key; step 3 fails; or the packed header, the good
records in order, and how they end. The end is none while more records are to come; else a code, 0 for a complete image, with true where it is
step 6 that finds it. -/
inductive Image where
  | wait
  | key (wrapped : List Byte)
  | fail (code : Nat)
  | good (header : List Byte) (recs : List (List Byte)) (tail : Option (Bool × Nat))
  deriving DecidableEq, Repr

/-- Bytes are missing: they are still to come, or the source has failed or LENGTH is too short. -/
def Got.short (g : Got) : Image := if g = .more then .wait else .fail 0x26

/-- An image after its header: records, then the count, LENGTH and digest checks of step 6. `bytes` are the plain record bytes got, `auth` says that
a segment after them failed, `short` that LENGTH does not match. -/
def imageOf (hd bytes : List Byte) (auth short : Bool) (got : Got) : Image :=
  let n := pkRecords hd
  let g := goodRecs hd (min n (bytes.length / 264)) none bytes
  let tail : Option (Bool × Nat) :=
    if g.2 then some (false, 0x23)
    else if g.1.length = n then some (true, if short then 0x26 else if sha256 (bytes.take (264 * n)) ≠ slice hd 0x20 32 then 0x28 else 0)
    else if auth then some (false, 0x24)
    else match got with
      | .more => none
      | .all => some (true, 0x26)
      | .failed => some (false, 0x26)
  .good hd g.1 tail

/-- A packed image (R164). -/
def packedImage (b : List Byte) (len count : Nat) (got : Got) : Image :=
  let hd := b.take 64
  if hd.length < 64 then got.short
  else if !packedOk hd count then .fail 0x23
  else imageOf hd (b.drop 64) false (len != 64 + 264 * pkRecords hd) got

/-- The IV of segment `k`: IV_BASE with bytes 8 to 11 XORed with k, big-endian (R165). -/
def segIv (base : List Byte) (k : Nat) : List Byte :=
  base.take 8 ++ ((base.drop 8).zip (beBytes 4 k)).map (fun p => p.1 ^^^ p.2)

/-- The plain records of segments `k` on as far as they have come: authenticated one by one; the second component says that one failed. -/
def openSegs (key env : List Byte) (segRecs : Nat) : Nat → Nat → Nat → List Byte → List Byte × Bool
  | 0, _, _, _ => ([], false)
  | fuel + 1, k, left, b =>
    let n := 264 * min segRecs left
    if b.length < n + 16 then ([], false)
    else match aesGcmOpen key (segIv (slice env 0x38 12) k) (env ++ leBytes 4 k) (b.take n) (slice b n 16) with
      | none => ([], true)
      | some p =>
        let x := openSegs key env segRecs fuel (k + 1) (left - min segRecs left) (b.drop (n + 16))
        (padTo n p ++ x.1, x.2)

/-- Is an envelope header well formed (Table 6.5)? -/
def envOk (e : List Byte) : Bool :=
  u32 e 0 == 0x57457C32 && fld e 4 3 0 == 1 && fld e 4 31 4 == 0 && decide (1 ≤ u16 e 8) && decide (u16 e 8 ≤ 3968) && fld e 8 31 16 == 0 &&
  zeroRange e 0x44 60

/-- An encrypted image (R165): key, segment 0, segment count, then the other segments. `key` is the key port's answer. -/
def encryptedImage (key : Option (Option (List Byte))) (b : List Byte) (len count : Nat) (got : Got) : Image :=
  let e := b.take 128
  if e.length < 128 then got.short
  else if !envOk e then .fail 0x23
  else match key with
    | none => .key (slice e 0x10 40)
    | some none => .fail 0x25
    | some (some key) =>
      if b.length < 208 then got.short
      else match aesGcmOpen key (segIv (slice e 0x38 12) 0) (e ++ leBytes 4 0) (slice b 128 64) (slice b 192 16) with
        | none => .fail 0x24
        | some p =>
          let hd := padTo 64 p
          let segs := ceilDiv (pkRecords hd) (u16 e 8)
          if !packedOk hd count ∨ u32 e 0xC ≠ 1 + segs then .fail 0x23
          else
            let x := openSegs key e (u16 e 8) segs 1 (pkRecords hd) (b.drop 208)
            imageOf hd x.1 x.2 (len != 208 + 264 * pkRecords hd + 16 * segs) got

/-- A record as the row record of Table 5.7 that the loader sends (R169), for the physical plane of its logical plane. -/
def rowRecord (h : Half) (first p : Nat) (r : List Byte) : List Byte :=
  let plane := planeId h (((first + fld r 0 14 6) * 4 + fld r 0 5 4) * 16 + p)
  leBytes 4 (plane + fld r 0 25 16 * 2 ^ 16) ++ leBytes 4 1 ++ slice r 8 256

/-! ## Taking a descriptor (R166, R169, R170) -/

/-- Logical planes of a descriptor's mask. -/
def maskPlanes (m : Nat) : List Nat := (List.range 16).filter (fun l => bit m l)

/-- Physical planes of the mask in a slot. -/
def State.ldPhys (s : State) (h : Half) (n slot m : Nat) : List Nat := (maskPlanes m).filterMap (fun l => s.mapPlane h n slot l)

/-- Planes of the mask in every Seam of the footprint, in ascending plane number. -/
def State.ldAllPlanes (s : State) (h : Half) (n slot m : Nat) : List Nat :=
  (footSeams (s.foot h n)).flatMap (fun x => ((List.range 16).filter (fun p => (s.ldPhys h n slot m).contains p)).map (fun p => 16 * x + p))

/-- Is R166 broken: Chambers of the footprint that are CONFIDENTIAL must be all of them for an encrypted set's LOAD, none for a packed set;
an ERASE of an encrypted set is refused. -/
def State.routeBroken (s : State) (h : Half) (n : Nat) (load : Bool) : Bool :=
  let f := s.foot h n
  let conf (i : Nat) : Bool := s.rf (NV_PROT_STATE h (f.1 + i)) NV_PROT_STATE.MODE == 2
  if s.on (JCT_WSET_CTRL h n) JCT_WSET_CTRL.ROUTE then !(load && (List.range f.2).all conf) else (List.range f.2).any conf

/-- Checks of steps 1 and 2 of a LOAD, or of an ERASE: the first failing code, or 0. -/
def State.ldCheck (s : State) (h : Half) (d : List Byte) : Nat :=
  let n := ldWset d
  let t := ldSlot d
  let st := s.slotState h n t
  let inside := ldMask d &&& s.rf (JCT_WSET_LIVE h (2 * n + t)) JCT_WSET_LIVE.LVALID == ldMask d
  let load := ldOp d == 1
  if !ldClean d then 0x20
  else if !s.setValid h n ∨ (if load then st ≠ 1 else st ≠ 0 ∧ st ≠ 1) ∨ !inside then 0x21
  else if load ∧ (s.ldAllPlanes h n t (ldMask d)).any (fun q => s.planeEn h q) then 0x22
  else if !load ∧ s.slotState h n (1 - t) ≠ 0 ∧
      (s.ldPhys h n t (ldMask d)).any (fun p => ((s.slotMap h n (1 - t)).map Prod.snd).contains p) then 0x2C
  else if s.routeBroken h n load then 0x27
  else 0

/-- A descriptor ends with a code; LDR_DESC_DONE is due. A request to the key port that is still on its way is dropped. -/
def State.ldEnd (s : State) (h : Half) (code : Nat) : State :=
  let notKey (m : PassMsg) : Bool := match m with
    | .keyAsk _ _ => false
    | .keyGive _ => false
    | _ => true
  let drop (x : HalfState) : HalfState := { x with control := x.control.filter notKey }
  let s1 := match h with
    | .west => s
    | .east => (s.modHalf .west drop).modHalf .east drop
  let d := (s.half h).ldr.desc
  (if ldSource d = 2 then s1.rqDetach h (ldAddress d) .loader else s1).modLdr h (fun l => { l with phase := .ended, result := code, asked := false })

/-- A descriptor has completed: OK_STUCK when pairs were registered. -/
def State.ldGood (s : State) (h : Half) : State := s.ldEnd h (if 0 < (s.half h).ldr.pairs then 1 else 0)

/-- The loader goes on to its next plane, or has done with them. Of the planes proved, those that are not UNUSABLE are enabled (R99, R169). -/
def State.ldNext (s : State) (h : Half) : State :=
  let l := (s.half h).ldr
  if !l.planes.isEmpty then s
  else match l.phase with
    | .prove =>
      let en := l.proved.filter (fun q => s.health h q != 5)
      ((en.foldl (fun s q => s.setEn h q true) s).modLdr h (fun l => { l with proved := en })).ldGood h
    | .erase => s.ldGood h
    | _ => s

/-! ## The key port (R27) -/

/-- The content key that a wrapped key unwraps to under a context's key-encryption key; none refuses (R165, R433). -/
def State.keyPort (s : State) (c : Nat) (wrapped : List Byte) : Option (List Byte) :=
  ((s.sec.keks.find? (fun e => e.1 == c)).map Prod.snd).bind (fun k => aesUnwrap k wrapped)

/-- The loader asks the key port: West's at once, East's in the Control class. -/
def State.keyAsk (s : State) (h : Half) (wrapped : List Byte) : State :=
  let l := (s.half h).ldr
  let c := s.setCtxNo h l.set
  match h with
  | .west => s.modLdr .west (fun l => { l with keyAsked := true, key := some (s.keyPort c wrapped) })
  | .east => if l.keyAsked then s
    else (s.modLdr .east (fun l => { l with keyAsked := true })).passControl .west (.keyAsk c wrapped)

/-! ## Reading an image (R169 steps 3 to 6) -/

/-- What the bytes that a load has got come to. -/
def State.ldLook (s : State) (h : Half) : Image :=
  let l := (s.half h).ldr
  let len := ldLength l.desc
  let got : Got := if l.failed then .failed else if len ≤ l.image.length then .all else .more
  let count := (s.foot h l.set).2
  if l.enc then encryptedImage l.key l.image len count got else packedImage l.image len count got

/-- Step 4: W7 of every mapped plane of the mask, from the packed header, in every Seam of the footprint. -/
def State.ldW7 (s : State) (h : Half) (hd : List Byte) : State :=
  let l := (s.half h).ldr
  if !l.header.isEmpty then s
  else ((maskPlanes (ldMask l.desc)).foldl (fun s lp => match s.mapPlane h l.set l.slot lp with
    | some p => (footSeams (s.foot h l.set)).foldl (fun s x => s.setW7 h (16 * x + p) (bit (pkW7 hd) lp)) s
    | none => s) s).modLdr h (fun l => { l with header := hd })

/-- The next list of row records goes into program. -/
def State.ldList (s : State) (h : Half) (todo : List (List Byte)) : State :=
  let l := (s.half h).ldr
  s.modLdr h (fun x => { x with
    used := x.used + todo.length
    recs := todo.filterMap (fun r => (s.mapPlane h l.set l.slot (fld r 0 3 0)).map (fun p => rowRecord h (s.foot h l.set).1 p r)) })

/-- Steps 3 to 6 as far as the image has come. DEDUCED (log entry 84): the loader reads on once a list of 1,024 rows has been programmed, and a
failure of step 5 ends the load without the list that it is in the middle of. -/
def State.ldGo (s : State) (h : Half) : State :=
  let l := (s.half h).ldr
  if l.phase ≠ .program ∨ l.asked ∨ !l.recs.isEmpty then s
  else match s.ldLook h with
    | .wait => s
    | .key _ => s
    | .fail c => s.ldEnd h c
    | .good hd recs tail =>
      let s1 := s.ldW7 h hd
      let todo := ((recs.filter (fun r => bit (ldMask l.desc) (fld r 0 3 0))).drop l.used).take 1024
      match tail with
      | none => if todo.length < 1024 then s1 else s1.ldList h todo
      | some (last, c) =>
        if todo.length = 1024 ∨ (last ∧ !todo.isEmpty) then s1.ldList h todo
        else if c ≠ 0 then s1.ldEnd h c
        else (s1.modLdr h (fun l => { l with phase := .prove })).ldNext h

/-- The loader goes on with its image; on the encrypted route it asks for the key first. -/
def State.ldStep (s : State) (h : Half) : State :=
  if (s.half h).ldr.phase ≠ .program then s
  else match s.ldLook h with
    | .key w => (s.keyAsk h w).ldGo h
    | _ => s.ldGo h

/-- Bytes of a source have come: they are added to the image, up to the first that could not be read. -/
def State.ldAdd (s : State) (h : Half) (bs : List Byte) (failed : Bool) : State :=
  s.modLdr h (fun l => { l with image := l.image ++ bs, failed := failed })

/-- A Causeway source: the loader becomes the queue's consumer in its turn, and takes the bytes that it holds (R337). -/
def State.ldQueue (s : State) (h : Half) (chk : Scan) : State :=
  let l := (s.half h).ldr
  let q := ldAddress l.desc
  let code := s.rqCode h (s.setCtxNo h l.set) q
  if code = 0x63 then s.ldAdd h [] true
  else
    let p := s.rqAttach h q .loader
    let n := min (ldLength l.desc - l.image.length) (p.1.rqAvail h q)
    if !p.2 then p.1
    else if n = 0 then (if code ≠ 0 ∧ l.image.length < ldLength l.desc then p.1.ldAdd h [] true else p.1)
    else
      let bs := p.1.rqPeek h q 0 n
      let r := (p.1.scanCount h 1 chk).scanRanges h 1 (p.1.rqRanges h q n) chk.bad
      let s1 := match r.2.1 with
        | w :: _ => r.1.logWord h 1 w (r.1.t1Handle h (4 * w))
        | [] => r.1
      (s1.rqConsume h q n).ldAdd h (bs.take (r.2.2.headD n)) (!r.2.2.isEmpty)

/-- The bytes of a load's source that can be read now: of T3 those that the host gave, of an object in T2, or of a Causeway receive queue. -/
def State.ldSourceRead (s : State) (h : Half) (t3 : List Byte) (chk : Scan) (fault : Bool) : State :=
  let l := (s.half h).ldr
  let d := l.desc
  let len := ldLength d
  match ldSource d with
  | 0 =>
    let bad := fault || decide (t3.length < len)
    let s1 := s.t3Get h 0 (ldPasid d) (ldAddress d) len
    (if bad then s1.t3Fail (ldAddress d) (ldPasid d) none else s1).ldAdd h (t3.take len) bad
  | 1 =>
    let off := ldAddress d / 2 ^ 32
    match s.object h (s.setCtxNo h l.set) (ldAddress d % 2 ^ 32) with
    | none => s.ldAdd h [] true
    | some o =>
      if !(s.objDoms h o.idx).all s.domOn then (s.objDoms h o.idx).foldl State.need s else
      let n := min len (o.size - off)
      let p := s.ldScan h o.tier (o.addr + off) n chk
      p.1.ldAdd h (s.objRead o off p.2) (decide (p.2 < len))
  | _ => s.ldQueue h chk

/-- The loader starts on a descriptor. -/
def State.ldTake (s : State) (h : Half) (d : List Byte) : State :=
  (s.modLdr h (fun _ => { desc := d, phase := .ended, load := ldOp d == 1, set := ldWset d, slot := ldSlot d })).wf (NV_LDR_HEAD h)
    NV_LDR_HEAD.BUSY 1

/-- LOAD (R169): steps 1 and 2, and what can be read of the image. -/
def State.ldLoad (s : State) (h : Half) (d t3 : List Byte) (chk : Scan) (fault : Bool) : State :=
  let s0 := s.ldTake h d
  let c := s.ldCheck h d
  if c ≠ 0 then s0.ldEnd h c
  else
    ((s0.modLdr h (fun l => { l with
      phase := .program
      enc := s.on (JCT_WSET_CTRL h (ldWset d)) JCT_WSET_CTRL.ROUTE
      planes := s.ldAllPlanes h (ldWset d) (ldSlot d) (ldMask d) })).ldSourceRead h t3 chk fault).ldStep h

/-- The descriptor at HEAD cannot be read: it ends with SOURCE. -/
def State.ldUnread (s : State) (h : Half) : State := (s.ldTake h []).ldEnd h 0x26

/-- LOAD: the loader takes the descriptor at HEAD, unless it is an ERASE; of a Causeway source it goes on as bytes come, of a T2 source once the domains of
the object are on (log entry 84). -/
def execLoad (h : Half) (desc image : List Byte) (chk : Scan) (fault : Bool) (s : State) : Host.Outcome State Fault Refusal :=
  whenLive s (fun s =>
    let l := (s.half h).ldr
    let d := s.ldrDesc h desc
    if s.ldrMayTake h then
      let p := s.ldrRead h desc
      if ldOp d = 2 then s else if p.2 = 64 then p.1.ldLoad h d image chk fault else p.1.ldUnread h
    else if l.phase = .program ∧ ldSource l.desc = 2 ∧ !l.failed then (s.ldQueue h chk).ldStep h
    else if l.phase = .program ∧ ldSource l.desc = 1 ∧ l.image = [] ∧ !l.failed then (s.ldSourceRead h [] chk fault).ldStep h
    else s)

/-- ERASE (R170): the planes of the mask are erased one after another on the loader port. -/
def State.ldErase (s : State) (h : Half) (d : List Byte) : State :=
  let s0 := s.ldTake h d
  let c := s.ldCheck h d
  if c ≠ 0 then s0.ldEnd h c
  else (s0.modLdr h (fun l => { l with phase := .erase, planes := s.ldAllPlanes h (ldWset d) (ldSlot d) (ldMask d) })).ldNext h

/-- ERASE. -/
def execEraseSet (h : Half) (desc : List Byte) (fault : Bool) (s : State) : Host.Outcome State Fault Refusal :=
  whenLive s (fun s =>
    let t3 := if fault then [] else desc
    if s.ldrMayTake h then
      let p := s.ldrRead h t3
      if p.2 ≠ 64 then p.1.ldUnread h else if ldOp (s.ldrDesc h desc) = 2 then p.1.ldErase h (s.ldrDesc h desc) else s
    else s)

/-- ABORT of the ring (R168): EN is cleared and the running load is to end through CMD_RESET on the loader port; with no command running there
it ends at once. -/
def State.ldrAbort (s : State) (h : Half) : State :=
  let s1 := s.wf (NV_LDR_RING_CTRL h) NV_LDR_RING_CTRL.EN 0
  if (s.half h).ldr.phase = .idle ∨ (s.half h).ldr.phase = .ended then s1
  else
    let s2 := s1.wf (NV_LDR_RING_CTRL h) NV_LDR_RING_CTRL.ABORT 1
    if (s.half h).ldr.asked then s2.modLdr h (fun l => { l with aborted := true }) else s2.ldEnd h 0x2B

/-- LDR_ABORT (R168). -/
def execLdrAbort (h : Half) (s : State) : Host.Outcome State Fault Refusal := whenLive s (fun s => s.ldrAbort h)

/-! ## Requests of the loader (R169, R170) -/

/-- The expected weight image of a plane (R137): the rows that the load has programmed as they were built, and erased rows. -/
def State.expectedDigest (s : State) (h : Half) (q : Nat) : List Byte :=
  sha256 ((List.range 1024).flatMap (fun row =>
    match (s.half h).ldr.built.find? (fun e => e.1 == 1024 * q + row) with
    | some e => e.2
    | none => s.expectedRow h q row (List.replicate 544 0)))

/-- The parameter words of a loader request. -/
def ldParams (code : Nat) (ps : List Nat) : List Nat := [code + 256, 0] ++ ps ++ List.replicate (30 - ps.length) 0

/-- The loader's next request, if it has the given command byte; an ABORT goes through CMD_RESET (R168). -/
def State.ldAsk (s : State) (h : Half) (code : Nat) : State :=
  let l := (s.half h).ldr
  if (s.half h).nv.stopping then s
  else match s.nvCmd h .loader with
  | some c => if code = 0xF0 ∧ l.aborted ∧ c.abort.isEmpty then s.resetCmd h .loader 0 else s
  | none =>
    if l.asked then s
    else
      let go (b : List Nat) (recs : List Byte) : State :=
        (s.modLdr h (fun l => { l with asked := true })).nvRun h .loader l.enc code code b recs
      match code, l.phase with
      | 0x10, .program => if l.recs.isEmpty then s else go (ldParams 0x10 [0, l.recs.length]) l.recs.flatten
      | 0x40, .prove => match l.planes with
        | [] => s
        | q :: _ => go (ldParams 0x40 ([planeId h q, 1023 * 2 ^ 16, 2, 0, 0, 0] ++
            (List.range 8).map (fun i => u32 (s.expectedDigest h q) (4 * i)))) []
      | 0x20, .erase => match l.planes with
        | [] => s
        | q :: _ => go (ldParams 0x20 [planeId h q]) []
      | _, _ => s

/-- What the loader does with the completion of its request: rows programmed and pairs registered are counted whatever the result. -/
def State.ldDone (s : State) (h : Half) (c : NvCmd) (r : Nat) : State :=
  let l := (s.half h).ldr
  let s0 := s.modLdr h (fun l => { l with
    asked := false
    told := none
    rows := l.rows + c.rows.countP (fun x => x.done)
    pairs := l.pairs + c.pairs })
  let nvBad : State := (s0.modLdr h (fun l => { l with nvResult := r })).ldEnd h 0x2A
  if l.aborted then s0.ldEnd h 0x2B
  else match c.code with
    | 0x10 => if r ≤ 1 then (s0.modLdr h (fun l => { l with recs := [] })).ldStep h else nvBad
    | 0x40 =>
      if r = 0 then (s0.modLdr h (fun l => { l with planes := l.planes.tail, proved := l.proved ++ l.planes.take 1 })).ldNext h
      else (s0.modLdr h (fun l => { l with nvResult := r, failPlane := planeId h (l.planes.headD 0) })).ldEnd h
        (if r = 0x14 ∨ r = 0x16 then 0x29 else 0x2A)
    | 0x20 => if r ≤ 1 then (s0.modLdr h (fun l => { l with planes := l.planes.tail })).ldNext h else nvBad
    | _ => s0

/-- LDR_DESC_DONE (R168): the result fields are written, HEAD advances and the loader vector is raised. A request that was cut short ends the
descriptor with ABORTED or NV. -/
def State.ldFinish (s0 : State) (h : Half) : State :=
  let s := match (s0.half h).ldr.told with
    | some (c, r) => if (s0.half h).ldr.asked then s0.ldDone h c r else s0
    | none => s0
  let l := (s.half h).ldr
  if l.phase ≠ .ended then s
  else
    let bs := leBytes 4 (l.result + 256 + l.nvResult * 2 ^ 16) ++ leBytes 4 l.rows ++ leBytes 4 l.pairs ++
      leBytes 4 (if l.result ≤ 1 then l.proved.length else 0) ++ leBytes 4 l.failPlane
    let a := s.ldrAddr h + 0x28
    let pasid := s.rf (NV_LDR_RING_CTRL h) NV_LDR_RING_CTRL.PASID
    let s1 := if s.ldrInT1 h then s.storeBytes (Half.ofNum (a / 0x08000000)) 1 (a % 0x08000000) bs
      else (s.translate h 0 pasid a bs.length).t3Put 0 pasid a bs
    let s2 := ((s1.wf (NV_LDR_HEAD h) NV_LDR_HEAD.HEAD ((s.ldrHead h + 1) % s.ldrRing h)).wf (NV_LDR_HEAD h) NV_LDR_HEAD.BUSY 0).wf
      (NV_LDR_RING_CTRL h) NV_LDR_RING_CTRL.ABORT 0
    let s3 := s2.modLdr h (fun _ => {})
    if s.on (NV_LDR_RING_CTRL h) NV_LDR_RING_CTRL.IRQ_EN then s3.msix 0 (4 + h.num) else s3

/-- LDR_DESC_DONE. -/
def execLdrDescDone (h : Half) (s : State) : Host.Outcome State Fault Refusal := whenLive s (fun s => s.ldFinish h)

/-! ## The commands of both ports -/

/-- A command of a port: the host's write of LAUNCH, or the loader's next request. -/
def State.portCmd (s : State) (h : Half) (p : NvPort) (code : Nat) : State :=
  match p with
  | .host => s.launchWrite h code
  | .loader => s.ldAsk h code

/-- PROGRAM_ROWS (R126 to R128). -/
def execProgramRows (h : Half) (p : NvPort) (s : State) : Host.Outcome State Fault Refusal := whenLive s (fun s => s.portCmd h p 0x10)
/-- ERASE_PLANE (R131). -/
def execErasePlane (h : Half) (p : NvPort) (s : State) : Host.Outcome State Fault Refusal := whenLive s (fun s => s.portCmd h p 0x20)
/-- REFRESH_PLANE (R132). -/
def execRefreshPlane (h : Half) (p : NvPort) (s : State) : Host.Outcome State Fault Refusal := whenLive s (fun s => s.portCmd h p 0x30)
/-- MARGIN_READ (R133). -/
def execMarginRead (h : Half) (p : NvPort) (s : State) : Host.Outcome State Fault Refusal := whenLive s (fun s => s.portCmd h p 0x40)
/-- CONT_READ_ENTER (R135). -/
def execContReadEnter (h : Half) (p : NvPort) (s : State) : Host.Outcome State Fault Refusal := whenLive s (fun s => s.portCmd h p 0x50)
/-- CONT_READ_EXIT (R136). -/
def execContReadExit (h : Half) (p : NvPort) (s : State) : Host.Outcome State Fault Refusal := whenLive s (fun s => s.portCmd h p 0x5F)
/-- PROTECT_SET (R139). -/
def execProtectSet (h : Half) (p : NvPort) (s : State) : Host.Outcome State Fault Refusal := whenLive s (fun s => s.portCmd h p 0x60)
/-- PROTECT_UNLOCK (R140, R141). -/
def execProtectUnlock (h : Half) (p : NvPort) (s : State) : Host.Outcome State Fault Refusal := whenLive s (fun s => s.portCmd h p 0x61)
/-- OTP_READ (R143). -/
def execOtpRead (h : Half) (p : NvPort) (s : State) : Host.Outcome State Fault Refusal := whenLive s (fun s => s.portCmd h p 0x70)
/-- OTP_PROGRAM (R143). -/
def execOtpProgram (h : Half) (p : NvPort) (s : State) : Host.Outcome State Fault Refusal := whenLive s (fun s => s.portCmd h p 0x71)
/-- STATUS_READ (R144). -/
def execStatusRead (h : Half) (p : NvPort) (s : State) : Host.Outcome State Fault Refusal := whenLive s (fun s => s.portCmd h p 0x80)
/-- CMD_RESET (R145). -/
def execCmdReset (h : Half) (p : NvPort) (s : State) : Host.Outcome State Fault Refusal := whenLive s (fun s => s.portCmd h p 0xF0)

/-- NV_COMMAND_COMPLETE (R122): a command that has ended completes; the loader acts on a completion of its request. -/
def execNvCommandComplete (h : Half) (p : NvPort) (s : State) : Host.Outcome State Fault Refusal :=
  whenLive s (fun s =>
    let x := s.nvEnd h p
    match p, x.2 with
    | .loader, some (c, r) => x.1.ldDone h c r
    | _, _ => x.1)

end Sys2Proof.Machine
end

