-- ==== Sys2Proof/Machine/Pcie.lean ====
section
/-! DEFINITION. The host port (chapter 13): training, function-level resets, D3hot, address translation, failed reads and poisoned writes, MSI-X
masks, and the ownership of contexts. Doorbells are in JctEnd, BAR accesses in Memory and Register. -/

namespace Sys2Proof.Machine

/-! ## Training (R360) -/

/-- May the port train to a speed and a width: 16, 32 or 64 GT/s (codes 0 to 2), x16, x8 or x4? -/
def linkOk (l : PcieLink) : Bool := decide (l.speed ≤ 2) && (l.width == 16 || l.width == 8 || l.width == 4)

/-- A training ends. Failing, it is recorded and retried. -/
def State.linkTrain (s : State) (r : Option PcieLink) : State :=
  if !s.pcie.training then s
  else match r.filter linkOk with
    | some l => ({ s with pcie := { s.pcie with link := some l, training := false } } : State).keepWakes [131, 132]
    | none => ({ s with pcie := { s.pcie with link := none, training := false } } : State).log .west (logHost 12)

/-- PCIE_LINK_TRAIN: the port trains from the release of PERST_N on, in recovery too (R421, R422). -/
def execPcieLinkTrain (link : Option PcieLink) (s : State) : Host.Outcome State Fault Refusal :=
  .next (if s.stage = .running ∨ s.stage = .recovery then s.linkTrain link else s)

/-- PCIE_TRAIN_RETRY: 100 ms after a training that failed, the port trains again. -/
def execPcieTrainRetry (s : State) : Host.Outcome State Fault Refusal :=
  .next (if (s.stage = .running ∨ s.stage = .recovery) ∧ s.pcie.link = none then
    { s with pcie := { s.pcie with training := true } } else s)

/-! ## Functions -/

/-- Contexts that a function owns (R364). -/
def State.ctxsOf (s : State) (f : Nat) : List Nat := (List.range 256).filter (fun c => s.ctxFunc c == f)

/-- Show that a function is, or is no longer, in a function-level reset. -/
def State.flrShow (s : State) (f : Nat) (v : Bool) : State := s.wf (PCI_FLR_ACTIVE (f / 32)) { lo := f % 32, len := 1 } (b2n v)

/-- The reset of a context begins (R375, R376): entries already written count as consumed, held entries are written, and the context is
aborted. -/
def State.ctxReset (s : State) (c : Nat) : State :=
  let s1 := s.setCtx c { s.ctx c with reset := true }
  (s1.cqHeadSet c (s1.cqTail c)).abortCtx c

/-- The reset of a context has ended: EN 0, and what it waited for is forgotten. -/
def State.ctxResetEnd (s : State) (c : Nat) : State :=
  (s.wf (JCT_CTX_CFG c) JCT_CTX_CFG.EN 0).setCtx c { s.ctx c with reset := false }

/-- No graph of the context is left and no entry of it is held. -/
def State.ctxIdle (s : State) (c : Nat) : Bool := (s.ctxGraphs c).isEmpty && (s.ctx c).held.isEmpty

/-- A function-level reset begins (R375): its accesses are discarded from now on, and its contexts are reset. -/
def State.flr (s : State) (f : Nat) : State :=
  (s.ctxsOf f).foldl State.ctxReset ((s.setFunc f { s.func f with flr := true }).flrShow f true)

/-- The vectors of a function's MSI-X table: its entries in BAR4 return to what they were (R375). -/
def State.msixClear (s : State) (f : Nat) : State :=
  { s with pcie := { s.pcie with msixTable := mapEraseRange s.pcie.msixTable (128 * f) 128 } }

/-- Translations of a half that a test picks are dropped. -/
def State.atcDrop (s : State) (hit : Nat × Nat × Nat → Bool) : State :=
  let drop (x : HalfState) : HalfState := { x with atc := x.atc.filter (fun e => !hit e) }
  (s.modHalf .west drop).modHalf .east drop

/-- The function's configuration state and MSI-X table are reset as PCIe requires (R375), and with ATS Enable its translations go. -/
def State.funcClear (s : State) (f : Nat) : State :=
  ((s.msixClear f).atcDrop (fun e => e.1 == f)).setFunc f { d3 := (s.func f).d3 }

/-- FLR_DONE (R375): the reset of a function ends when its contexts are idle. -/
def State.flrEnd (s : State) (f : Nat) : State :=
  if (s.func f).flr ∧ (s.ctxsOf f).all s.ctxIdle then
    ((((s.ctxsOf f).foldl State.ctxResetEnd s).funcClear f).flrShow f false).wf PCI_EVENT PCI_EVENT.FLR_DONE 1
  else s

/-- VF_FLR (R375): the function leaves D3hot, as PCIe requires. -/
def execVfFlr (f : Nat) (s : State) : Host.Outcome State Fault Refusal :=
  whenLive s (fun s => if f ≠ 0 ∧ s.funcExists f ∧ !(s.func f).flr then (s.setFunc f { s.func f with d3 := false }).flr f else s)

/-- FLR_DONE. -/
def execFlrDone (f : Nat) (s : State) : Host.Outcome State Fault Refusal := whenLive s (fun s => if f < 64 then s.flrEnd f else s)

/-- Page requests that are outstanding end as a Response Failure, and none is sent while PRI is off (R374, R265). -/
def State.priEnd (s : State) : State :=
  let es := s.pcie.requests ++ s.pcie.waitReq
  es.foldl (fun s e => if e = 64 then s.jctPageEnds false else s.pageFail e) { s with pcie := { s.pcie with priEn := false } }

/-- Every engine's STR_ARM chains end with ABORTED (R261, R377). -/
def State.abortArms (s : State) : State := (List.range 64).foldl State.strAbort s

/-- PF_RESET (R377): every context is reset, the host side of the NV controllers, the loaders and the STR_ARM chains end, virtual functions
vanish and every context is the physical function's again. `down`: the link has gone down and trains again. -/
def State.pfReset (s : State) (down : Bool) : State :=
  let s1 := ({ s with pcie := { s.pcie with vfEnable := false, numVfs := 0, priAlloc := 0, vfBars := [0, 0, 0] } } : State).priEnd
  let s2 := (List.range 256).foldl State.ctxReset s1
  let s3 := ((s2.setFunc 0 { s2.func 0 with flr := true }).flrShow 0 true)
  let s4 := ((s3.nvRun .west .host false 0xF0 0xF0 [0x1F0]  []).nvRun .east .host false 0xF0 0xF0 [0x1F0] [])
  let s5 := ((s4.ldrAbort .west).ldrAbort .east).abortArms
  let s6 := (List.range 256).foldl (fun s c => s.wr (PCI_CTX_FUNC c) (resetWord (PCI_CTX_FUNC c))) s5
  let s7 := (List.range 63).foldl (fun s i => ((s.funcClear (i + 1)).setFunc (i + 1) {}).flrShow (i + 1) false) s6
  if down then { s7 with pcie := { s7.pcie with link := none, training := true } } else s7

/-- PF_RESET. -/
def execPfReset (linkDown : Bool) (s : State) : Host.Outcome State Fault Refusal := whenLive s (fun s => s.pfReset linkDown)

/-- D3HOT_ENTRY (R378): a function with an enabled context is reset before it enters D3hot. -/
def execD3hotEntry (f : Nat) (s : State) : Host.Outcome State Fault Refusal :=
  whenLive s (fun s =>
    if s.funcExists f ∧ !(s.func f).d3 then
      let s1 := s.setFunc f { s.func f with d3 := true }
      if (s.ctxsOf f).any s.ctxEn ∧ !(s.func f).flr then s1.flr f else s1
    else s)

/-! ## Address translation (R373, R374) -/

/-- ATS_INVALIDATE (R373): translations of the range are dropped, and the completion is sent. -/
def execAtsInvalidate (f pasid addr len tag : Nat) (s : State) : Host.Outcome State Fault Refusal :=
  whenLive s (fun s =>
    if (s.func f).atsEn then
      let hit (e : Nat × Nat × Nat) : Bool := e.1 == f && e.2.1 == pasid && decide (addr / 4096 ≤ e.2.2) && decide (e.2.2 * 4096 < addr + len)
      (s.atcDrop hit).send (.invalidateDone f tag)
    else s)

/-- PRI_RESET (R374): PRI belongs to the physical function and is shared by every function (Table 13.1). -/
def execPriReset (f : Nat) (s : State) : Host.Outcome State Fault Refusal := whenLive s (fun s => if f = 0 then s.priEnd else s)

/-! ## Errors on the link (R371, R372) -/

/-- T3_READ_FAIL (R372): the failure is recorded. A stream node whose engine reads host memory gets zeros for the bytes requested and
will complete with DATA_ERROR. -/
def execT3ReadFail (n : Option NodeRef) (addr pasid : Nat) (s : State) : Host.Outcome State Fault Refusal :=
  whenLive s (fun s =>
    match n with
    | none => s.t3Fail addr pasid none
    | some r =>
      match (List.range 64).find? (fun e => s.moving e && dscSrcKind (s.engine e).desc == 2 &&
          (match (s.engine e).chain with | some c => c.node == some r | none => false)) with
      | some e => s.requestFails e addr pasid
      | none => s.t3Fail addr pasid n)

/-- POISONED_WRITE (R371). -/
def execPoisonedWrite (f addr _value : Nat) (s : State) : Host.Outcome State Fault Refusal :=
  whenLive s (fun s => (s.wf PCI_EVENT PCI_EVENT.POISONED_WRITE 1).log .west { logHost 12 with event := 4, func := f, addr := addr })

/-! ## MSI-X masks (R370) -/

/-- Send one message for each vector that is open and pending. -/
def State.msixFlush (s : State) (f : Nat) : State :=
  (List.range 32).foldl (fun s e =>
    if (s.func f).vectorOpen e ∧ (s.func f).pendBits.contains e then
      (s.setFunc f { s.func f with pendBits := (s.func f).pendBits.filter (· != e) }).send (.msix f e)
    else s) s

/-- MSIX_UNMASK: a vector, or with none given the function, is unmasked. -/
def execMsixUnmask (f : Nat) (entry : Option Nat) (s : State) : Host.Outcome State Fault Refusal :=
  whenLive s (fun s =>
    if s.funcActive f then
      let x := s.func f
      (s.setFunc f (match entry with
        | none => { x with msixMask := false }
        | some e => { x with unmasked := if e < 32 then insertNat e x.unmasked else x.unmasked })).msixFlush f
    else s)

/-! ## Ownership of contexts (R364, R379) -/

/-- A write of PCI_CTX_FUNC: only while the context has EN 0, to a function up to NumVFs; FUNC 0 takes VECTOR 8 or above. -/
def State.ctxFuncWrite (s : State) (c v : Nat) : State :=
  let w := bits v 0 11
  let bad := s.log .west { logSoft 12 v with ctx := some c }
  if s.ctxEn c then (if w = (s.rd (PCI_CTX_FUNC c)).toNat then s else bad)
  else if s.pcie.numVfs < bits w 0 6 ∨ (bits w 0 6 = 0 ∧ bits w 6 5 < 8) then bad
  else s.wr (PCI_CTX_FUNC c) (BitVec.ofNat 32 w)

/-- PCI_CTX_FUNC_WRITE. -/
def execPciCtxFuncWrite (c v : Nat) (s : State) : Host.Outcome State Fault Refusal :=
  whenLive s (fun s => if c < 256 then s.ctxFuncWrite c v else s)

end Sys2Proof.Machine
end

