-- ==== Sys2Proof/Machine/Boot.lean ====
section
/-! DEFINITION. Resets and the boot path: what a device reset, a power-off and a thermal trip keep (R441, R448), the boot flash and its images
(R414 to R427), the boot of Table 15.6, and the restarts of the two controllers (R28 to R30, R425, R426). -/

namespace Sys2Proof.Machine

/-! ## What survives a reset (R105, R114, R176, R400, R441, R455) -/

/-- Registers of the plane table: NV_CHK_POLICY, NV_STUCK_, NV_PLANE_HEALTH and NV_PLANE_SUSPECT survive power-off (R114). -/
def keptCold (a : Nat) : Bool :=
  let o := a % 0x02000000
  decide (a < 0x04000000) && (o == 0xC01010 || (decide (0xC40000 ≤ o) && decide (o < 0xC42000)) ||
    (decide (0xC80000 ≤ o) && decide (o < 0xD00000)))

/-- Registers that survive a device reset: those, NV_WALL_MINUTES (R105) and the error log with its pointers and counters (R441, R455). -/
def keptReg (a : Nat) : Bool :=
  let o := a % 0x02000000
  keptCold a || (decide (a < 0x04000000) && (o == 0xC01008 || (decide (0xF80000 ≤ o) && decide (o < 0xFA0000))))

/-- Protection modes of a half, which the plane table keeps (R138): group and mode. -/
def State.protModes (s : State) (h : Half) : List (Nat × Nat) :=
  (s.regs.filter (fun e => decide (NV_PROT_STATE h 0 ≤ e.1) && decide (e.1 < NV_PROT_STATE h 512))).map
    (fun e => ((e.1 - NV_PROT_STATE h 0) / 4, getF e.2 NV_PROT_STATE.MODE))

/-- The registers of a half that show its plane table: protection modes, SEAM_PLANE_CFG (R64) and the weight sets as last committed (R176). -/
def State.loadTable (s : State) (h : Half) (modes : List (Nat × Nat)) : State :=
  let s1 := modes.foldl (fun s e => s.wf (NV_PROT_STATE h e.1) NV_PROT_STATE.MODE e.2) s
  let s2 := (s.half h).nv.cfg.foldl (fun s e => s.wr (SEAM_PLANE_CFG h e.1) e.2) s1
  (s.half h).nv.wsets.foldl (fun s e => s.wr e.1 e.2) s2

/-- Every register at its reset value but those that `keep` names and those that show the plane tables. -/
def State.wipe (s : State) (keep : Nat → Bool) : State :=
  let t := { s with regs := s.regs.filter (fun e => keep e.1) }
  (t.loadTable .west (s.protModes .west)).loadTable .east (s.protModes .east)

/-- An NV controller after a reset of the device: planes, plane table, Ledger, OTP row and row buffer. While pulses still run, so do the
commands they belong to (R152). -/
def NvHalf.kept (n : NvHalf) : NvHalf :=
  let base : NvHalf := {
    rows := n.rows
    codes := n.codes
    planes := n.planes
    cfg := n.cfg
    hashes := n.hashes
    wsets := n.wsets
    buffer := n.buffer
    otp := n.otp
    bank := n.bank
    bank0 := n.bank0
    bank1 := n.bank1
    nextSeq := n.nextSeq
    incomplete := n.incomplete }
  if n.running.isEmpty then base
  else { base with host := n.host, ldr := n.ldr, running := n.running, pulsing := n.pulsing, stopping := n.stopping }

/-- The same at power-off: the row buffer is lost, and so are the minutes counted since events that no minute names (R105, R116). -/
def NvHalf.cold (n : NvHalf) : NvHalf :=
  { n.kept with buffer := [], planes := n.planes.map (fun e => (e.1, { e.2 with elapsed := none })) }

/-- A device reset reaches an NV controller (R152): it stops, and is reset at once when no pulse runs. -/
def State.nvDevReset (s : State) (h : Half) : State :=
  let s1 := s.nvStop h
  if (s1.half h).nv.running.isEmpty then s1.nvReset h else s1

/-- A half after a device reset: its log's SEQ and its NV controller. -/
def HalfState.kept (x : HalfState) : HalfState := { logSeq := x.logSeq, nv := x.nv.kept }

/-- A device reset (Table 16.4): all work and every register but those that survive. A DEBUG_PENDING makes the boot that follows
debug-open (R437). -/
def State.devReset (s : State) (cause : Nat) : State :=
  let s0 := { s with pcie := {}, csw := {} }
  let s1 := (s0.nvDevReset .west).nvDevReset .east
  let s2 := ({ s1 with
    west := s1.west.kept
    east := s1.east.kept
    stage := .held
    power := {}
    pcie := {}
    boot := { s1.boot with update := none, svns := [0, 0, 0], digests := [], minMgmt := 0, minPower := 0, cause := cause }
    sec := { drawn := s1.sec.drawn, scope := s1.sec.pendScope }
    engines := []
    ports := []
    csw := {}
    ctxs := []
    graphs := []
    admitSeq := 0
    jctWait := []
    escalSeq := 0
    rrNext := 0
    jctPage := none } : State).wipe keptReg
  let s3 := s2.wf PWR_EVENT PWR_EVENT.TRIP (s.rf PWR_EVENT PWR_EVENT.TRIP)
  s3.wf SEC_STATE SEC_STATE.DEBUG_OPEN (s.rf SEC_STATE SEC_STATE.DEBUG_PENDING)

/-- DEVICE_RESET (R467): an assertion of PERST_N of 10 µs or more resets the device, one below 1 µs is ignored, and between the two a free
value decides. A device held by a trip stays held. -/
def execDeviceReset (heldNs : Nat) (s : State) : Host.Outcome State Fault Refusal :=
  whenPowered s (fun s =>
    let act (s : State) : State :=
      if s.boot.perst then s
      else
        let s1 := if s.stage = .thermHeld then s else s.devReset 1
        { s1 with boot := { s1.boot with perst := true } }.send (.pin "XSPI_RESET_N" false)
    if heldNs < 1000 then s
    else if 10000 ≤ heldNs then act s
    else if s.fresh.1 % 2 = 0 then act s.fresh.2 else s.fresh.2)

/-- THERMAL_TRIP (R400): the device is held in reset, its switched domains are off, and PWR_EVENT.TRIP is set. -/
def execThermalTrip (s : State) : Host.Outcome State Fault Refusal :=
  whenPowered s (fun s =>
    if s.stage = .thermHeld then s
    else
      let temp := s.rd PWR_TEMP
      let s1 := s.log .west { logPower with sev := 3, event := 4, detail := s.rf PWR_TEMP PWR_TEMP.TMAX }
      let s2 := ({ s1.devReset 2 with stage := .thermHeld } : State).wr PWR_TEMP temp
      (s2.wf PWR_EVENT PWR_EVENT.TRIP 1).send (.pin "THERMTRIP_N" false))

/-- The command registers of a half's NV controller at their reset values (R155). -/
def State.nvWipe (s : State) (h : Half) : State :=
  let mine (a : Nat) : Bool := decide (NV_CMD_STATUS h ≤ a) && decide (a < NV_LDR_RING_LO h + 0x100) && !keptReg a
  let modes := s.protModes h
  let t := { s with regs := s.regs.filter (fun e => !mine e.1) }
  (modes.foldl (fun s e => s.wf (NV_PROT_STATE h e.1) NV_PROT_STATE.MODE e.2) t).modNv h NvHalf.kept

/-- NV_CONTROLLER_RESET (R150, R152): once the last running pulse has ended. In a device held in reset, its registers end at their reset
values. -/
def execNvControllerReset (h : Half) (s : State) : Host.Outcome State Fault Refusal :=
  whenPowered s (fun s =>
    if (s.half h).nv.stopping ∧ (s.half h).nv.running = [] then
      let s1 := s.nvReset h
      if s.live then s1 else s1.nvWipe h
    else s)

/-- DEVICE_WATCHDOG_EXPIRE (R152): both NV controllers stop; each is reset once its last running pulse has ended. -/
def execDeviceWatchdogExpire (s : State) : Host.Outcome State Fault Refusal :=
  whenLive s (fun s => (s.nvStop .west).nvStop .east)

/-! ## Power (R465, R466, R468) -/

/-- What the device keeps without power (Table 16.4): planes, plane tables, Ledgers and OTP rows, and the board's flash. Running pulses end
first (R464). -/
def State.unpowered (s : State) : State :=
  let cut (s : State) (h : Half) : State := ((s.nvStop h).modNv h (fun n => { n with running := [], pulsing := [] })).nvReset h
  let s1 := cut (cut s .west) .east
  ({ pending := s.pending
     regs := s1.regs
     west := { nv := s1.west.nv.cold }
     east := { nv := s1.east.nv.cold }
     outbox := s.outbox
     freeCtr := s1.freeCtr
     stage := .off
     boot := { flash := s.boot.flash }
     sec := { drawn := s.sec.drawn } } : State).wipe keptCold

/-- POWER_OFF (R466). -/
def execPowerOff (s : State) : Host.Outcome State Fault Refusal := whenPowered s State.unpowered

/-- POWER_ON (R465, R472): the device is held in reset with PERST_N asserted; the straps are sampled. -/
def execPowerOn (straps : Nat) (s : State) : Host.Outcome State Fault Refusal :=
  .next (if s.stage = .off then { s with stage := .held, boot := { s.boot with straps := straps % 16 } } else s)

/-- RAIL_OUT_OF_RANGE (R468): a rail other than VNV, VAON or VIO leaves its range. While PERST_N is deasserted the device's behaviour is
unspecified until the next assertion; while it is asserted, or without power, the device stays as it is. -/
def execRailOutOfRange (_rail : Nat) (s : State) : Host.Outcome State Fault Refusal :=
  if s.stage = .off ∨ s.boot.perst then .next s else .refused .behaviourUnspecified

/-- REFCLK_LOSS and REFCLK_RETURN (R453): the counters that run on REFCLK stand still without it. -/
def execRefclkLoss (s : State) : Host.Outcome State Fault Refusal :=
  whenPowered s (fun s => { s with boot := { s.boot with refOk := false } })

/-- REFCLK_RETURN. -/
def execRefclkReturn (s : State) : Host.Outcome State Fault Refusal :=
  whenPowered s (fun s => { s with boot := { s.boot with refOk := true } })

/-! ## The boot flash (R414 to R417) -/

/-- An unlisted byte of the flash is erased (log entry 11). -/
def flashErased (_ : Nat) : Byte := 0xFF

/-- Bytes of the flash, and the flash with bytes written or a range erased. -/
def State.flashRead (s : State) (a len : Nat) : List Byte := memRead flashErased s.boot.flash a len
def State.flashWrite (s : State) (a : Nat) (bs : List Byte) : State :=
  { s with boot := { s.boot with flash := memWrite flashErased s.boot.flash a bs } }
def State.flashErase (s : State) (a len : Nat) : State :=
  { s with boot := { s.boot with flash := mapEraseRange s.boot.flash a len } }

/-- Base and size of a slot (Table 15.2). -/
def slotSize (k : Nat) : Nat := if k = 1 then 0x400000 else 0x100000
def slotBase (k slot : Nat) : Nat := (if k = 0 then 0x10000 else if k = 1 then 0x210000 else 0xA10000) + slot * slotSize k

/-- A directory copy, and whether it is valid (R417). -/
def State.dirCopy (s : State) (c : Nat) : List Byte := s.flashRead (0x1000 * c) 256
def dirValid (b : List Byte) : Bool :=
  u32 b 0 == 0x44497C32 && fld b 4 3 0 == 1 && decide (sha256 (b.take 0xE0) = b.drop 0xE0)

/-- Does the flash fail at a slot, or at a directory copy (Table 15.12, FAIL_CODE 7; Table 15.8, FLASH)? -/
def State.slotBad (s : State) (k slot : Nat) : Bool := bit s.boot.flashBad (2 * k + slot)
def State.dirBad (s : State) (c : Nat) : Bool := bit s.boot.flashBad (6 + c)

/-- A copy that reads and is valid. -/
def State.dirGood (s : State) (c : Nat) : Bool := !s.dirBad c && dirValid (s.dirCopy c)

/-- The copy in use: the valid one with the higher SEQ; none when no copy is valid. -/
def State.dirUsed (s : State) : Option Nat :=
  if s.dirGood 0 then (if s.dirGood 1 && decide (u32 (s.dirCopy 0) 8 < u32 (s.dirCopy 1) 8) then some 1 else some 0)
  else if s.dirGood 1 then some 1 else none

/-- The copy that the next directory goes into (R417). -/
def State.dirNext (s : State) : Nat := match s.dirUsed with | some c => 1 - c | none => 0

/-- ACTIVE and TRY of a kind; A and 0 when no copy is valid. -/
def State.dirWord (s : State) (k : Nat) : Nat := match s.dirUsed with | some c => u32 (s.dirCopy c) (0xC + 4 * k) | none => 0
def State.dirActive (s : State) (k : Nat) : Nat := bits (s.dirWord k) 0 1
def State.dirTry (s : State) (k : Nat) : Bool := bit (s.dirWord k) 1

/-- A new directory with the word of one kind changed: it goes into the copy not in use, with SEQ one higher (R417). Where that copy fails,
nothing is written. -/
def State.dirWrite (s : State) (k w : Nat) : State :=
  let c := s.dirNext
  let q := match s.dirUsed with | some c => u32 (s.dirCopy c) 8 + 1 | none => 1
  let b := padTo 0xE0 ((leBytes 4 0x44497C32 ++ leBytes 4 1 ++ leBytes 4 q) ++
    ((List.range 3).flatMap (fun i => leBytes 4 (if i = k then w else bits (s.dirWord i) 0 2))))
  if s.dirBad c then s else s.flashWrite (0x1000 * c) (b ++ sha256 b)

/-! ## Images (R418 to R420) -/

/-- Header, body, public key and signature of a slot's image. -/
def State.imgHeader (s : State) (k slot : Nat) : List Byte := s.flashRead (slotBase k slot) 128
def imgLen (hd : List Byte) : Nat := u32 hd 8
def imgSvn (hd : List Byte) : Nat := fld hd 0xC 15 0
def imgDigest (hd : List Byte) : List Byte := slice hd 0x10 32
def imgSigLen (hd : List Byte) : Nat := u32 hd 0x30
def imgPub (hd : List Byte) : List Byte := slice hd 0x34 60
def State.imgBody (s : State) (k slot : Nat) : List Byte := s.flashRead (slotBase k slot + 128) (imgLen (s.imgHeader k slot))
def State.imgSig (s : State) (k slot : Nat) : List Byte :=
  let hd := s.imgHeader k slot
  s.flashRead (slotBase k slot + 128 + imgLen hd) (imgSigLen hd)

/-- Little-endian bytes of OTP words of a half. -/
def State.otpBytes (s : State) (h : Half) (w n : Nat) : List Byte := (List.range n).flatMap (fun i => leBytes 4 (s.otpWord h (w + i)))

/-- CFG_SIGNED of West's OTP row (R419). -/
def State.cfgSigned (s : State) : Bool := bit (s.otpWord .west 49) 0

/-- Sum of one LIMIT of the 256 contexts in a quota table of the body. -/
def quotaSum (b : List Byte) (off w : Nat) : Nat := ((List.range 256).map (fun c => u32 b (off + 16 * c + 4 * w))).foldl (· + ·) 0

/-- Do a half's quota table and pool meet R214 and R216, with their reserved bits zero? -/
def quotaOk (b : List Byte) (off poolOff : Nat) : Bool :=
  let pool := u32 b poolOff
  (List.range 256).all (fun c => decide (u32 b (off + 16 * c) < 65536) && decide (u32 b (off + 16 * c + 4) < 65536) &&
    decide (u32 b (off + 16 * c + 8) < 65536) && decide (u32 b (off + 16 * c + 12) < 2 ^ 20)) &&
  decide (bits pool 0 16 + bits pool 16 16 ≤ 32768) && decide (quotaSum b off 0 ≤ 32768) &&
  decide (quotaSum b off 1 + bits pool 16 16 ≤ 32768) && decide (quotaSum b off 3 ≤ 786432)

/-- The checks of a configuration body (R420). -/
def cfgBodyOk (b : List Byte) : Bool :=
  let cap := fld b 4 9 0
  let board := fld b 4 25 16
  decide (b.length = 139328) && fld b 0 31 30 == 0 && fld b 4 15 10 == 0 && fld b 4 31 26 == 0 && fld b 8 15 8 == 0 &&
  decide (150 ≤ cap) && decide (cap ≤ board) && decide (board ≤ 550) && decide (fld b 8 7 4 ≤ fld b 8 3 0) &&
  (List.range 8).all (fun p => fld b (0x10 + 4 * p) 31 24 == 0 && normWord 0xE00000 (u32 b (0x10 + 4 * p)) == u32 b (0x10 + 4 * p)) &&
  fld b 0x38 31 16 == 0 && u32 b 0x3C == 0 && quotaOk b 0x40 0x30 && quotaOk b 0x1040 0x34 &&
  (List.range 32768).all (fun i => fld b (0x2040 + 4 * i) 31 11 == 0)

/-- FAIL_CODE of an image (R418, R419, Table 15.12): the failure found first, 0 when it verifies. -/
def State.imgCheck (s : State) (k slot : Nat) : Nat :=
  let hd := s.imgHeader k slot
  let pub := imgPub hd
  let msg := hd ++ s.imgBody k slot
  let signed (root : List Byte) (n : Nat) : Nat :=
    if (sha256 pub).take n ≠ root then 3
    else if imgSigLen hd ≠ 2964 ∨ !hssVerify pub msg (s.imgSig k slot) then 4 else 0
  if s.slotBad k slot then 7
  else if u32 hd 0 ≠ 0x494D7C32 ∨ fld hd 4 3 0 ≠ 1 ∨ fld hd 4 5 4 ≠ k ∨ fld hd 4 31 6 ≠ 0 ∨ fld hd 0xC 31 16 ≠ 0 ∨ !zeroRange hd 0x70 16 ∨
      128 + imgLen hd + imgSigLen hd > slotSize k ∨ (imgSigLen hd ≠ 0 ∧ imgSigLen hd ≠ 2964) then 1
  else if sha256 (s.imgBody k slot) ≠ imgDigest hd then 2
  else if k ≠ 0 then signed (s.otpBytes .west 8 8) 32
  else
    let c := if s.cfgSigned then signed (s.otpBytes .west 50 6) 24 else if imgSigLen hd ≠ 0 ∨ !zeroRange hd 0x34 60 then 1 else 0
    if c ≠ 0 then c else if cfgBodyOk (s.imgBody 0 slot) then 0 else 6

/-- The check of a slot with the MIN_SVN of the booted configuration (R421): 5 when the SVN is too low. -/
def State.slotCheck (s : State) (k slot : Nat) : Nat :=
  let c := s.imgCheck k slot
  let mn := if k = 1 then s.boot.minMgmt else if k = 2 then s.boot.minPower else 0
  if c ≠ 0 then c else if imgSvn (s.imgHeader k slot) < mn then 5 else 0

/-- A slot is checked, and BOOT_IMAGE shows the outcome; a failure is recorded (Table 16.2). -/
def State.slotShow (s : State) (k slot : Nat) : State :=
  let c := s.slotCheck k slot
  let a := BOOT_IMAGE (2 * k + slot)
  let s1 := ((s.wf a BOOT_IMAGE.SVN (if c = 0 then imgSvn (s.imgHeader k slot) else s.rf a BOOT_IMAGE.SVN)).wf a BOOT_IMAGE.VERIFIED
    (b2n (c == 0))).wf a BOOT_IMAGE.FAIL_CODE c
  if c = 0 then s1 else s1.log .west (logBoot c)

/-- An image runs: its slot, its SVN and its digest are kept, and whether it runs on trial. -/
def State.runImage (s : State) (k slot : Nat) (trial : Bool) : State :=
  let hd := s.imgHeader k slot
  let s1 := { s with boot := { s.boot with
    svns := s.boot.svns.set k (imgSvn hd)
    digests := (padDigests s.boot.digests).set k (imgDigest hd) } }
  (s1.wf BOOT_STATUS { lo := 6 + k, len := 1 } slot).wf BOOT_STATUS { lo := 9 + k, len := 1 } (b2n trial)
where padDigests (l : List (List Byte)) : List (List Byte) := if l.isEmpty then [zeros 32, zeros 32, zeros 32] else l

/-- The slot of a kind that boots (R421, R425): on TRY 1 the directory is rewritten with TRY 0 and the other slot is tried; a slot that fails
gives way to the other one. The flag says that the image is verified and has been taken. -/
def State.pickImage (s : State) (k : Nat) : State × Bool :=
  let act := s.dirActive k
  let s0 := if s.dirTry k then s.dirWrite k act else s
  let first := if s.dirTry k then 1 - act else act
  let s1 := s0.slotShow k first
  if s1.slotCheck k first = 0 then (s1.runImage k first (s.dirTry k), true)
  else
    let s2 := s1.slotShow k (1 - first)
    if s2.slotCheck k (1 - first) = 0 then (s2.runImage k (1 - first) false, true) else (s2, false)

/-! ## The boot of Table 15.6 -/

/-- Words of the configuration body written to registers, from address `a` on with stride `d`. -/
def State.cfgWords (s : State) (b : List Byte) (off n a d : Nat) : State :=
  (List.range n).foldl (fun s i => s.wr (a + d * i) (BitVec.ofNat 32 (u32 b (off + 4 * i)))) s

/-- The LIMIT fields of a half's contexts (Table 15.5). -/
def State.cfgQuotas (s : State) (h : Half) (b : List Byte) (off : Nat) : State :=
  (List.range 256).foldl (fun s c =>
    let w (i : Nat) : Nat := u32 b (off + 16 * c + 4 * i)
    (((s.wf (MEM_CTX_T0 h c) MEM_CTX_T0.LIMIT (w 0)).wf (MEM_CTX_T1 h c) MEM_CTX_T1.LIMIT (w 1)).wf (MEM_CTX_POOL h c) MEM_CTX_POOL.LIMIT
      (w 2)).wf (MEM_CTX_T2_LIMIT h c) MEM_CTX_T2_LIMIT.LIMIT (w 3)) s

/-- Node, backup and role (R322 to R324). -/
def State.cfgNode (s : State) (b : List Byte) : State :=
  let node := fld b 0 13 0
  let role := if node = 0 then 1 else if fld b 0 15 15 = 1 ∧ fld b 0 29 16 = node then 2 else 0
  let s1 := (s.wr (CSW_NODE .west) (BitVec.ofNat 32 (fld b 0 14 0))).wr (CSW_NODE .east) (BitVec.ofNat 32 (fld b 0 14 0))
  let s2 := (s1.wf BOOT_GLOBAL_STATUS BOOT_GLOBAL_STATUS.NODE_ID node).wf CSW_MASTER_CFG CSW_MASTER_CFG.BACKUP (fld b 0 29 16)
  (s2.wf CSW_MASTER_CFG CSW_MASTER_CFG.BACKUP_EN (fld b 0 15 15)).wf CSW_MASTER_STATUS CSW_MASTER_STATUS.ROLE role

/-- Step 8: every value of the body is written into its register (R420). -/
def State.applyCfg (s : State) (b : List Byte) : State :=
  let s1 := s.cfgNode b
  let s2 := (s1.wf PWR_CAP PWR_CAP.CAP_W (fld b 4 9 0)).wf PWR_LIMIT_CFG PWR_LIMIT_CFG.BOARD_MAX_W (fld b 4 25 16)
  let s3 := (s2.wf PWR_LIMIT_CFG PWR_LIMIT_CFG.OP_MAX (fld b 8 3 0)).wf PWR_LIMIT_CFG PWR_LIMIT_CFG.SAFE_OP (fld b 8 7 4)
  let s4 := (s3.showCap).wf CSW_BUDGET_CFG CSW_BUDGET_CFG.MACHINE_KW (fld b 8 31 16)
  let s5 := (List.range 4).foldl (fun s n => s.wf (PWR_PHASE_OP n) PWR_PHASE_OP.OP (bits (u32 b 0x38) (4 * n) 4)) s4
  let s6 := ((s5.wr (MEM_POOL_CTRL .west) (BitVec.ofNat 32 (u32 b 0x30))).wr (MEM_POOL_CTRL .east) (BitVec.ofNat 32 (u32 b 0x34)))
  let s7 := (s6.cfgQuotas .west b 0x40).cfgQuotas .east b 0x1040
  let s8 := (s7.cfgWords b 0x2040 16384 (CSW_ROUTE .west 0) 4).cfgWords b 0x12040 16384 (CSW_ROUTE .east 0) 4
  let s9 := (List.range 8).foldl (fun s p => s.portCfgWrite p (fld b (0x10 + 4 * p) 23 0)) s8
  s9.keepWakes ((List.range 32).map (fun i => bankDom (Half.ofNum (i / 16)) (i % 16)))

/-- Step 3: identity registers show the OTP rows; West's fit code is shown through both blocks (R36, R37). -/
def State.showOtp (s : State) : State :=
  let f (s : State) (h : Half) : State :=
    let s1 := (List.range 4).foldl (fun s i => s.wf (BOOT_UID h i) BOOT_UID.UID (s.otpWord h i)) s
    let s2 := (List.range 2).foldl (fun s i => s.wf (BOOT_FIT_CODE h i) BOOT_FIT_CODE.FIT_CODE (s.otpWord .west (4 + i))) s1
    s2.wf (BOOT_IDENT h) BOOT_IDENT.STEPPING (bits (s.otpWord h 6) 0 4)
  let s1 := f (f s .west) .east
  (s1.wf SEC_STATE SEC_STATE.DEBUG_DISABLE (bits (s.otpWord .west 48) 1 1)).wf SEC_STATE SEC_STATE.CFG_SIGNED (b2n s.cfgSigned)

/-- Do the fit codes of the two OTP rows differ (R37)? -/
def State.fitDiffers (s : State) : Bool := s.otpWord .west 4 != s.otpWord .east 4 || s.otpWord .west 5 != s.otpWord .east 5

/-- CRC_TEST of a half's OTP row is good (R142). -/
def State.otpGood (s : State) (h : Half) : Bool := (crc32 (s.otpBytes h 0 48)).toNat == s.otpWord h 63

/-- Every entry of a half's voltage table is usable (R389). -/
def State.voltGood (s : State) (h : Half) : Bool :=
  (List.range 16).all (fun k => bits (s.voltEntry h k) 0 12 == 350 + 50 * k && bit (s.voltEntry h k) 63)

/-- The domain of a checker, by its bit of MEM_SELFTEST: SRAM banks, Lanes segments, the encoder and decoder of each stack (R237). -/
def checkerDom (h : Half) (i : Nat) : Nat := if i < 16 then bankDom h i else if i < 20 then lanesDom h (i - 16) else phyDom h (i - 20)

/-- The faults that keep a half from becoming ready are recorded, one record for each failing checker: OTP check, fit codes, voltage table, self-test (R37, R142, R237, R389). -/
def State.bootFaults (s : State) (h : Half) (fail : Nat) : State :=
  let s1 := if s.otpGood h then s else s.log h { logBoot 0 with src := 7 }
  let s2 := if s.fitDiffers then s1.log h { logBoot 0 with src := 0 } else s1
  let s3 := if s.voltGood h then s2 else s2.log h { logBoot 0 with src := 1 }
  let s4 := ((List.range 22).filter (fun i => bit fail i)).foldl (fun s i =>
    s.log h { logBoot 0 with src := 3, subject := checkerDom h i, kind := 4 }) s3
  s4.wr (MEM_SELFTEST h) (BitVec.ofNat 32 (fail % 2 ^ 22 + 2 ^ 31))

/-- May a half become ready? -/
def State.halfGood (s : State) (h : Half) (fail : Nat) : Bool :=
  s.otpGood h && !s.fitDiffers && s.voltGood h && decide (fail % 2 ^ 22 = 0)

/-- A domain that the boot switches on (step 7, R383). -/
def State.bootOn (s : State) (d : Nat) : State :=
  let s1 := (s.wf (PWR_DOMAIN_STATUS d) PWR_DOMAIN_STATUS.STATE 3).add (PWR_DOMAIN_STATUS d) PWR_DOMAIN_STATUS.WAKES 1
  (s1.add PWR_WAKE_STATUS PWR_WAKE_STATUS.WAKES 1).add (XING_STATUS d) XING_STATUS.RESYNCS 1

/-- Step 7: the power controller starts, commands operating point 0 and locks the MAIN PLLs; the Junctions, the Passage ends, the sensor
clusters and what serves them are on. -/
def State.bootPower (s : State) : State :=
  let pll (s : State) (h : Half) : State :=
    ((s.wf (CLK_PLL_STATUS h) CLK_PLL_STATUS.MAIN_A 1).wf (CLK_PLL_STATUS h) CLK_PLL_STATUS.MAIN_B 1).wf (CLK_PLL_STATUS h)
      CLK_PLL_STATUS.PASSAGE 1
  let s1 := ((pll (pll s .west) .east).wf (CLK_PLL_STATUS .west) CLK_PLL_STATUS.PCIE 1)
  let s2 := [118, 141, 142, 143, 133, 137, 127, 128, 131, 132].foldl State.bootOn s1
  ({ s2 with power := { s2.power with idleW := some 0, idleE := some 0 } } : State).regulate .west 0 |>.regulate .east 0

/-- Weight sets after a reset (R176): each DRAINING slot is released and its release is committed; contexts are charged for their sets. -/
def State.bootSets (s : State) (h : Half) : State :=
  let sets := s.validSets h
  let s1 := (sets.flatMap (fun n => [(n, 0), (n, 1)])).foldl (fun s e =>
    if s.slotState h e.1 e.2 = 4 then (s.wsetRelease h e.1 e.2).wsetCommit h else s) s
  (sets.map (fun n => s.setCtxNo h n)).foldl (fun s c => s.wf (MEM_CTX_T0 h c) MEM_CTX_T0.USED (s.t0Charge h c [])) s1

/-- The next one-time-key index: VALUE of the latest ATTEST_ADVANCE in West's Ledger (R431). -/
def State.ledgerQNext (s : State) : Nat :=
  match (s.west.nv.ledger.filter (fun r => r.type == 5)).getLast? with
  | some r => r.value
  | none => 0

/-- Steps 7 to 10 of Table 15.6. -/
def State.bootRun (s : State) (fw fe : Nat) : State :=
  let body := s.imgBody 0 (s.rf BOOT_STATUS { lo := 6, len := 1 })
  let s0 := { s with boot := { s.boot with minMgmt := fld body 0xC 15 0, minPower := fld body 0xC 31 16 } }
  let s1 := (((s0.bootPower.bootFaults .west fw).bootFaults .east fe).passageUp).applyCfg body
  let s2 := (s1.wf BOOT_STATUS BOOT_STATUS.LOCKED 1)
  let s3 := (s2.bootSets .west).bootSets .east
  let s4 := (s3.wf BOOT_GLOBAL_STATUS BOOT_GLOBAL_STATUS.WEST_READY (b2n (s.halfGood .west fw))).wf BOOT_GLOBAL_STATUS
    BOOT_GLOBAL_STATUS.EAST_READY (b2n (s.halfGood .east fe))
  let s5 := ({ s4 with stage := .running } : State).wf BOOT_STATUS BOOT_STATUS.STAGE 5
  let s6 := (s5.log .west (logReset s.boot.cause)).wf ERR_RESET_CAUSE ERR_RESET_CAUSE.CAUSE s.boot.cause
  let s7 := (s6.checkCatchup .west).checkCatchup .east
  ((if s.halfGood .west fw then s7.runRefresh .west else s7) |> fun t => if s.halfGood .east fe then t.runRefresh .east else t)

/-- Steps 2 to 6: OTP, Ledgers, flash and images; the flags say which kinds have an image. The configuration is verified first, and its
MIN_SVN fields hold for both kinds of firmware. -/
def State.bootLoad (s : State) (octal : Bool) : State × List Bool :=
  let s1 := (s.showOtp).wf BOOT_GLOBAL_STATUS BOOT_GLOBAL_STATUS.FIT_MISMATCH (b2n s.fitDiffers)
  let s2 := (s1.ledgerScan .west).ledgerScan .east
  let s3 := (s2.wf SEC_ATTEST_Q SEC_ATTEST_Q.NEXT_Q s2.ledgerQNext).wf BOOT_STATUS BOOT_STATUS.FLASH_MODE (if octal then 1 else 2)
  let c := s3.pickImage 0
  let body := c.1.imgBody 0 (c.1.rf BOOT_STATUS { lo := 6, len := 1 })
  let s4 := if c.2 then { c.1 with boot := { c.1.boot with minMgmt := fld body 0xC 15 0, minPower := fld body 0xC 31 16 } } else c.1
  let m := s4.pickImage 1
  let p := m.1.pickImage 2
  (p.1, [c.2, m.2, p.2])

/-- The boot (R421, R422): a kind without an image leaves the device in recovery. -/
def State.bootAll (s : State) (octal : Bool) (fw fe : Nat) : State :=
  let b := s.bootLoad octal
  if b.2.all id then b.1.bootRun fw fe
  else
    let n := (List.range 3).foldl (fun n k => n + 2 ^ k * b2n !(b.2.getD k true)) 0
    ({ b.1 with stage := .recovery } : State).wf BOOT_STATUS BOOT_STATUS.STAGE 6 |>.wf BOOT_STATUS BOOT_STATUS.FAIL_KIND n

/-- The device leaves reset: the flash is released, PCIe training begins and REFCLK is stable (Table 15.6, steps 1 and 2). -/
def State.perstUp (s : State) : State :=
  let s1 := { s with boot := { s.boot with perst := false, refOk := true }, pcie := { s.pcie with training := true } }
  let s2 := if s.stage = .thermHeld then ({ s1 with stage := .held } : State).wr PWR_TEMP 0 |>.send (.pin "THERMTRIP_N" true) else s1
  s2.send (.pin "XSPI_RESET_N" true)

/-- PERST_RELEASE (R421, R400): the device boots, once the pulses of before the reset have ended. After a trip it stays held while a site
reads 100 °C or more. `octalOk`: the flash reads in octal DTR; `failWest`, `failEast`: the checkers that fail their self-test, as MEM_SELFTEST
shows them; `flashBad`: where the flash fails (boot.flashBad). -/
def execPerstRelease (octalOk : Bool) (failWest failEast flashBad : Nat) (siteHot : Bool) (s : State) : Host.Outcome State Fault Refusal :=
  .next (
    if (s.stage = .held ∨ s.stage = .thermHeld) ∧ s.boot.perst ∧ !s.west.nv.stopping ∧ !s.east.nv.stopping then
      if s.stage = .thermHeld ∧ siteHot then { s with boot := { s.boot with perst := false } }
      else ({ s with boot := { s.boot with flashBad := flashBad } } : State).perstUp.bootAll octalOk failWest failEast
    else s)

/-! ## Restarts of the controllers (R28 to R30, R425, R426, R449) -/

/-- Does a kind run on trial? -/
def State.onTrial (s : State) (k : Nat) : Bool := s.on BOOT_STATUS { lo := 9 + k, len := 1 }

/-- A trial that ends without a commit fails, and is recorded (R425, Table 16.2). -/
def State.trialFails (s : State) (k : Nat) : State :=
  if s.onTrial k then (s.wf BOOT_STATUS { lo := 9 + k, len := 1 } 0).log .west (logCtrl 13 k) else s

/-- MCTP requests receive no response across a restart of the management controller (R28): one that is held or waits for the Ledger is
dropped. -/
def State.dropMctp (s : State) : State :=
  ({ s with sec := { s.sec with held := none } } : State).modNv .west (fun n => { n with
    ledgerQ := n.ledgerQ.filter (fun e => match e.2 with | .attest .mctp _ => false | _ => true) })

/-- A controller restarts: kind 1 the management controller, kind 2 the power controller. -/
def State.ctrlRestart (s : State) (k : Nat) : State :=
  let s1 := s.trialFails k
  if k = 1 then
    ({ s1 with power := { s1.power with mgmtRestarting := true }, boot := { s1.boot with update := none } } : State).dropMctp
  else { s1 with power := { s1.power with restarting := true } }

/-- Is a controller restarting? -/
def State.ctrlDown (s : State) (k : Nat) : Bool := if k = 1 then s.power.mgmtRestarting else s.power.restarting

/-- MGMT_RESTART and POWER_RESTART in ERR_SERVICE_CTRL (R449): discarded and recorded while the controller restarts or runs on trial. -/
def State.serviceRestart (s : State) (k : Nat) : State :=
  if s.ctrlDown k ∨ s.onTrial k then s.log .west (logSoft 9 k) else s.ctrlRestart k

/-- MGMT_RESTART. -/
def execMgmtRestart (s : State) : Host.Outcome State Fault Refusal := whenLive s (fun s => s.serviceRestart 1)

/-- POWER_RESTART (R29). -/
def execPowerRestart (s : State) : Host.Outcome State Fault Refusal := whenLive s (fun s => s.serviceRestart 2)

/-- POWER_RESTART_DONE (R30): the image that R425 selects runs; waiting wakes go on. -/
def execPowerRestartDone (s : State) : Host.Outcome State Fault Refusal :=
  whenLive s (fun s =>
    if s.power.restarting then
      let p := s.pickImage 2
      if p.2 then { p.1 with power := { p.1.power with restarting := false } } else p.1
    else s)

/-- CONTROLLER_WATCHDOG (R426): recorded, and the controller restarts. -/
def execControllerWatchdog (c : Controller) (s : State) : Host.Outcome State Fault Refusal :=
  whenLive s (fun s =>
    let k := match c with | .management => 1 | .power => 2
    if s.ctrlDown k then s else (s.log .west (logCtrl (12 + k) k)).ctrlRestart k)

/-- TRIAL_EXPIRE (R425): the trial of a kind fails; its controller restarts, or for the configuration the device resets with cause 3 and boots
when PERST_RELEASE says how the boot goes. -/
def execTrialExpire (kind : Nat) (s : State) : Host.Outcome State Fault Refusal :=
  whenLive s (fun s =>
    if kind < 3 ∧ s.onTrial kind then
      if kind = 0 then
        let s1 := (s.trialFails 0).devReset 3
        { s1 with boot := { s1.boot with perst := true } }
      else s.ctrlRestart kind
    else s)

end Sys2Proof.Machine
end

