-- ==== Sys2Proof/Machine/ErrLog.lean ====
section
/-! DEFINITION. The error log's own commands: the host's head and the management controller's head (R446, R454). -/

namespace Sys2Proof.Machine

/-- A write of ERR_HOST_HEAD. A head beyond TAIL, counted from the present head, is discarded (Table 16.7). -/
def State.hostHead (s : State) (h : Half) (v : Nat) : State :=
  let old := s.rf (ERR_HOST_HEAD h) ERR_HOST_HEAD.HEAD
  let new := v % 2048
  if unread new old ≤ unread (s.rf (ERR_TAIL h) ERR_TAIL.TAIL) old then s.wf (ERR_HOST_HEAD h) ERR_HOST_HEAD.HEAD new else s

/-- ERR_HOST_HEAD_WRITE (R446, R454). -/
def execErrHostHeadWrite (h : Half) (v : Nat) (s : State) : Host.Outcome State Fault Refusal :=
  whenLive s (fun s => s.hostHead h v)

/-- Time of the record at the management controller's head. -/
def State.mgmtRecTime (s : State) (h : Half) : Nat :=
  let a := 16 * (s.rf (ERR_STATUS h) ERR_STATUS.MGMT_HEAD % 1024)
  (s.rd (ERR_RECORD h (a + 4))).toNat + (s.rd (ERR_RECORD h (a + 5))).toNat * 2 ^ 32

/-- May the management controller pass the record at its head: one is unread, the controller is not restarting, an East record can cross the
Passage (R27), the boot's step 10 has ended, and the record is 1 ms old or more (R446)? The counter restarts with the device, so a TIME ahead of it is of before the last
reset, and older than the boot. -/
def State.mgmtMayPass (s : State) (h : Half) : Bool :=
  decide (unread (s.rf (ERR_TAIL h) ERR_TAIL.TAIL) (s.rf (ERR_STATUS h) ERR_STATUS.MGMT_HEAD) ≠ 0) &&
  !s.power.mgmtRestarting && (h == .west || s.passOn) && decide (s.mgmtRecTime h + 1000 ≤ s.us h ∨ s.us h < s.mgmtRecTime h)

/-- MGMT_HEAD_ADVANCE (R446): the management controller passes one record. -/
def execMgmtHeadAdvance (h : Half) (s : State) : Host.Outcome State Fault Refusal :=
  whenLive s (fun s => if s.mgmtMayPass h then s.add (ERR_STATUS h) ERR_STATUS.MGMT_HEAD 1 else s)

end Sys2Proof.Machine
end

