-- ==== Sys2Proof/Machine/Kem.lean ====
section
/-! DEFINITION. ML-KEM-1024 (FIPS 203; R412, R433) over the functions of FIPS 202: key generation from two seeds, and decapsulation. -/

namespace Sys2Proof.Machine

/-! ## KECCAK (FIPS 202): 25 lanes, lane x + 5 y -/

/-- Rotation of each lane: the walk of FIPS 202, section 3.2.2, gives the t-th lane that it visits t (t + 1) / 2 places. -/
def kecTurns : List Nat :=
  let walk := (List.range 24).foldl (fun (acc : List (Nat × Nat) × Nat × Nat) t =>
    (acc.1 ++ [(acc.2.1 + 5 * acc.2.2, (t + 1) * (t + 2) / 2 % 64)], acc.2.2, (2 * acc.2.1 + 3 * acc.2.2) % 5)) ([], 1, 0)
  (List.range 25).map (fun i => ((walk.1.find? (fun e => e.1 == i)).map Prod.snd).getD 0)

/-- The bit that the shift register of section 3.2.5 gives after `t` steps. -/
def kecBit (t : Nat) : Bool :=
  bit ((List.range t).foldl (fun r _ => if 128 ≤ r then (2 * r) ^^^ 0x171 else 2 * r) 1) 0

/-- The constant of a round. -/
def kecConst (round : Nat) : BitVec 64 :=
  BitVec.ofNat 64 (((List.range 7).map (fun j => if kecBit (j + 7 * round) then 2 ^ (2 ^ j - 1) else 0)).foldl (· + ·) 0)

/-- One round. -/
def kecRound (a : List (BitVec 64)) (round : Nat) : List (BitVec 64) :=
  let at' (l : List (BitVec 64)) (x y : Nat) : BitVec 64 := l.getD (x % 5 + 5 * (y % 5)) 0
  let par := (List.range 5).map (fun x => (List.range 5).foldl (fun v y => v ^^^ at' a x y) 0)
  let mix (i : Nat) : BitVec 64 := a.getD i 0 ^^^ par.getD ((i + 4) % 5) 0 ^^^ (par.getD ((i + 1) % 5) 0).rotateLeft 1
  let turned := (List.range 25).map (fun i =>
    let src := (i % 5 + 3 * (i / 5)) % 5 + 5 * (i % 5)
    (mix src).rotateLeft (kecTurns.getD src 0))
  (List.range 25).map (fun i =>
    let v := at' turned i (i / 5) ^^^ (~~~ (at' turned (i % 5 + 1) (i / 5)) &&& at' turned (i % 5 + 2) (i / 5))
    if i = 0 then v ^^^ kecConst round else v)

/-- The permutation. -/
def kecPerm (a : List (BitVec 64)) : List (BitVec 64) := (List.range 24).foldl kecRound a

/-- A block of `rate` bytes is taken in. -/
def kecTake (a : List (BitVec 64)) (blk : List Byte) : List (BitVec 64) :=
  kecPerm ((List.range 25).map (fun i => a.getD i 0 ^^^ BitVec.ofNat 64 (leNat (slice blk (8 * i) 8))))

/-- `n` blocks of output. -/
def kecGive (rate : Nat) : Nat → List (BitVec 64) → List Byte
  | 0, _ => []
  | n + 1, a => (a.flatMap (fun w => leBytes 8 w.toNat)).take rate ++ kecGive rate n (kecPerm a)

/-- A message with its suffix and padding, in whole blocks. -/
def kecPad (rate suffix : Nat) (m : List Byte) : List Byte :=
  let body := m ++ [BitVec.ofNat 8 suffix]
  let p := body ++ zeros ((rate - body.length % rate) % rate)
  p.dropLast ++ [p.getLastD 0 ||| 0x80]

/-- The sponge: `len` bytes of output. -/
def sponge (rate suffix : Nat) (m : List Byte) (len : Nat) : List Byte :=
  let p := kecPad rate suffix m
  let a := (List.range (p.length / rate)).foldl (fun a i => kecTake a (slice p (rate * i) rate)) (List.replicate 25 0)
  (kecGive rate (len / rate + 1) a).take len

def sha3short (m : List Byte) : List Byte := sponge 136 0x06 m 32
def sha3long (m : List Byte) : List Byte := sponge 72 0x06 m 64
def shakeFast (m : List Byte) (len : Nat) : List Byte := sponge 168 0x1F m len
def shakeWide (m : List Byte) (len : Nat) : List Byte := sponge 136 0x1F m len

/-! ## Polynomials: 256 coefficients modulo 3,329 -/

/-- Sum of a function over numbers below `n`. -/
def sumTo (n : Nat) (f : Nat → Nat) : Nat := ((List.range n).map f).foldl (· + ·) 0

/-- Powers of 17, whose order is 256. -/
def zetaPowers : List Nat := ((List.range 255).foldl (fun l _ => l ++ [l.getLastD 1 * 17 % 3329]) [1])

/-- 17 to the odd power of pair `i` times `j`; with `back` its inverse. -/
def zeta (i j : Nat) (back : Bool) : Nat :=
  let rev := sumTo 7 (fun b => bits i b 1 * 2 ^ (6 - b))
  let e := (2 * rev + 1) * j % 256
  zetaPowers.getD (if back then (256 - e) % 256 else e) 1

/-- The number-theoretic transform: pair `i` holds the values of the even and the odd coefficients at its root. -/
def ntt (f : List Nat) : List Nat :=
  (List.range 256).map (fun k => sumTo 128 (fun j => f.getD (2 * j + k % 2) 0 * zeta (k / 2) j false) % 3329)

/-- Its inverse; 3,303 is the inverse of 128. -/
def nttBack (f : List Nat) : List Nat :=
  (List.range 256).map (fun k => 3303 * sumTo 128 (fun i => f.getD (2 * i + k % 2) 0 * zeta i (k / 2) true) % 3329)

/-- Product of two transforms, pair by pair. -/
def nttMul (f g : List Nat) : List Nat :=
  (List.range 256).map (fun k =>
    let e := k - k % 2
    let a (i : Nat) : Nat := f.getD (e + i) 0
    let b (i : Nat) : Nat := g.getD (e + i) 0
    (if k % 2 = 0 then a 0 * b 0 + a 1 * b 1 * zeta (k / 2) 1 false else a 0 * b 1 + a 1 * b 0) % 3329)

/-- Sum and difference. -/
def polyAdd (f g : List Nat) : List Nat := List.zipWith (fun a b => (a + b) % 3329) f g
def polySub (f g : List Nat) : List Nat := List.zipWith (fun a b => (a + 3329 - b) % 3329) f g

/-- Sum of the products of two vectors of transforms. -/
def polyDot (f g : List (List Nat)) : List Nat := (List.zipWith nttMul f g).foldl polyAdd (List.replicate 256 0)

/-- Coefficients packed in `d` bits each, and unpacked. -/
def polyPack (d : Nat) (f : List Nat) : List Byte := leBytes (32 * d) (sumTo 256 (fun i => f.getD i 0 % 2 ^ d * 2 ^ (d * i)))
def polyUnpack (d : Nat) (b : List Byte) : List Nat :=
  (List.range 256).map (fun i => let v := leNat b / 2 ^ (d * i) % 2 ^ d; if d = 12 then v % 3329 else v)

/-- Compression to `d` bits and back, to the nearest. -/
def squeeze (d x : Nat) : Nat := (2 ^ (d + 1) * x + 3329) / 6658 % 2 ^ d
def unsqueeze (d y : Nat) : Nat := (6658 * y + 2 ^ d) / 2 ^ (d + 1)

/-- A uniform transform from a seed: 12-bit candidates below 3,329, three bytes giving two. 280 triples are drawn, as FIPS 203 allows. -/
def polyUniform (seed : List Byte) : List Nat :=
  let st := shakeFast seed 840
  let cand (i : Nat) : List Nat := let v := leNat (slice st (3 * i) 3); [v % 4096, v / 4096]
  padNat (((List.range 280).flatMap cand).filter (fun v => decide (v < 3329)) |>.take 256)
where padNat (l : List Nat) : List Nat := l ++ List.replicate (256 - l.length) 0

/-- A small polynomial from a seed and a number: the difference of two sums of two bits. -/
def polySmall (seed : List Byte) (n : Nat) : List Nat :=
  let v := leNat (shakeWide (seed ++ [BitVec.ofNat 8 n]) 128)
  (List.range 256).map (fun i => (bits v (4 * i) 1 + bits v (4 * i + 1) 1 + 3329 - (bits v (4 * i + 2) 1 + bits v (4 * i + 3) 1)) % 3329)

/-! ## The scheme: vectors of four polynomials, ciphertexts of 11 and 5 bits -/

/-- Entry of the public matrix: row `i`, column `j`. -/
def kemEntry (rho : List Byte) (i j : Nat) : List Nat := polyUniform (rho ++ [BitVec.ofNat 8 j, BitVec.ofNat 8 i])

/-- The secret vector, and the public key, that a seed gives. -/
def kemSecretVec (d : List Byte) : List (List Nat) :=
  (List.range 4).map (fun n => ntt (polySmall ((sha3long (d ++ [4])).drop 32) n))
def kemPublicKey (d : List Byte) : List Byte :=
  let g := sha3long (d ++ [4])
  let rho := g.take 32
  let s := kemSecretVec d
  (List.range 4).flatMap (fun i => polyPack 12 (polyAdd (polyDot ((List.range 4).map (kemEntry rho i)) s) (ntt (polySmall (g.drop 32) (4 + i))))) ++ rho

/-- Encryption of 32 bytes under a public key with given randomness. -/
def kemEncrypt (ek m r : List Byte) : List Byte :=
  let rho := ek.drop 1536
  let t := (List.range 4).map (fun i => polyUnpack 12 (slice ek (384 * i) 384))
  let y := (List.range 4).map (fun n => ntt (polySmall r n))
  let u (j : Nat) : List Nat := polyAdd (nttBack (polyDot ((List.range 4).map (fun i => kemEntry rho i j)) y)) (polySmall r (4 + j))
  let v := polyAdd (polyAdd (nttBack (polyDot t y)) (polySmall r 8)) ((polyUnpack 1 m).map (unsqueeze 1))
  (List.range 4).flatMap (fun j => polyPack 11 ((u j).map (squeeze 11))) ++ polyPack 5 (v.map (squeeze 5))

/-- Decryption with the secret vector. -/
def kemDecrypt (s : List (List Nat)) (c : List Byte) : List Byte :=
  let u := (List.range 4).map (fun j => ntt ((polyUnpack 11 (slice c (352 * j) 352)).map (unsqueeze 11)))
  let v := (polyUnpack 5 (c.drop 1408)).map (unsqueeze 5)
  polyPack 1 ((polySub v (nttBack (polyDot s u))).map (squeeze 1))

/-- Decapsulation with the key of the seeds d and z: the shared key, or, for a ciphertext that does not encrypt again to itself, the rejection
key. -/
def kemDecaps (d z c : List Byte) : List Byte :=
  let ek := kemPublicKey d
  let m := kemDecrypt (kemSecretVec d) c
  let g := sha3long (m ++ sha3short ek)
  if kemEncrypt ek m (g.drop 32) = c then g.take 32 else shakeWide (z ++ c) 32

end Sys2Proof.Machine
end

