-- ==== Sys2Proof/Machine/Security.lean ====
section
/-! DEFINITION. The security messages and their two transports (R428, R429), attestation (R430 to R432), context keys (R433, R434), debug
(R435 to R437), the update commands (R424), the commit of Ledger records (R146), and the end of a restart of the management controller. -/

namespace Sys2Proof.Machine

/-! ## Messages (R428, R429) -/

/-- Fields of a message. -/
def msgCode (m : List Byte) : Nat := fld m 0 15 8
def msgLen (m : List Byte) : Nat := fld m 0 27 16
def msgTag (m : List Byte) : Nat := fld m 4 15 0
def msgBody (m : List Byte) : List Byte := m.drop 8

/-- Is the header of a request well formed: version 1, a length of at most 4,088 that is the message's, and every other bit zero? -/
def msgOk (m : List Byte) : Bool :=
  fld m 0 3 0 == 1 && fld m 0 7 4 == 0 && fld m 0 31 28 == 0 && fld m 4 31 16 == 0 && decide (msgLen m ≤ 4088) &&
  decide (m.length = 8 + msgLen m)

/-- A response: the request's CODE and TAG, a result and a payload. -/
def msgResp (m : List Byte) (result : Nat) (payload : List Byte) : List Byte :=
  leBytes 4 (1 + msgCode m * 2 ^ 8 + payload.length * 2 ^ 16) ++ leBytes 4 (msgTag m + result * 2 ^ 16) ++ payload

/-- Payload length of a request of a code; none for a code that Table 15.8 does not list. UPD_DATA has any length from 8 on. -/
def payloadLen (code : Nat) : Option (Nat × Nat) :=
  match code with
  | 0x01 => some (0, 0)
  | 0x02 => some (0, 0)
  | 0x03 => some (8, 8)
  | 0x04 => some (32, 32)
  | 0x05 => some (0, 0)
  | 0x10 => some (1612, 1612)
  | 0x11 => some (4, 4)
  | 0x20 => some (0, 0)
  | 0x21 => some (3092, 3092)
  | 0x30 => some (4, 4)
  | 0x31 => some (8, 4080)
  | 0x32 => some (4, 4)
  | 0x33 => some (4, 4)
  | 0x34 => some (4, 4)
  | 0x35 => some (0, 0)
  | _ => none

/-- Is a code served in recovery (Table 15.8)? -/
def inRecovery (code : Nat) : Bool := !(code == 0x04 || code == 0x10 || code == 0x11)

/-- A response goes out: into SEC_MBOX_RESP, or over MCTP with SB_ALERT_N asserted while it waits. -/
def State.secAnswer (s : State) (p : SecPath) (bs : List Byte) : State :=
  match p with
  | .mailbox =>
    let s1 := s.wrWords (SEC_MBOX_RESP 0) ((List.range (ceilDiv bs.length 4)).map (fun i => u32 bs (4 * i)))
    ((s1.wf SEC_MBOX_CTRL SEC_MBOX_CTRL.BUSY 0).wf SEC_MBOX_CTRL SEC_MBOX_CTRL.DONE 1).send (.response .mailbox bs)
  | .mctp => ((s.send (.pin "SB_ALERT_N" false)).send (.response .mctp bs)).send (.pin "SB_ALERT_N" true)

/-- The request in the mailbox: as many bytes of SEC_MBOX_REQ as its LENGTH says. -/
def State.mboxMsg (s : State) : List Byte :=
  let n := 2 + ceilDiv (bits (s.rd (SEC_MBOX_REQ 0)).toNat 16 12) 4
  let bs := (List.range (min n 1024)).flatMap (fun i => leBytes 4 (s.rd (SEC_MBOX_REQ i)).toNat)
  bs.take (8 + msgLen bs)

/-- Does a GET_MEASUREMENTS wait for its Ledger record? -/
def State.attesting (s : State) : Bool :=
  s.west.nv.ledgerQ.any (fun e => match e.2 with | .attest _ _ => true | .cmd _ => false)

/-- Does one that came over MCTP? -/
def State.attestingMctp (s : State) : Bool :=
  s.west.nv.ledgerQ.any (fun e => match e.2 with | .attest .mctp _ => true | _ => false)

/-! ## The messages -/

/-- West's UID and fit code, from the OTP row (R142). -/
def State.uidBytes (s : State) : List Byte := s.otpBytes .west 0 4
def State.fitBytes (s : State) : List Byte := s.otpBytes .west 4 2

/-- A value derived from DS with a label (R412). -/
def State.derived (s : State) (label : String) : List Byte :=
  hmac256 (padTo 32 (Config.deviceSecret s.uidBytes)) (label.toList.map (fun c => BitVec.ofNat 8 c.toNat))

/-- EK, and I, SEED and public key of the attestation key (Table 15.1). -/
def State.ekBytes (s : State) : List Byte := kemPublicKey (s.derived "KEM-D")
def State.attIdent (s : State) : List Byte := (s.derived "ATT-I").take 16
def State.attSeed (s : State) : List Byte := s.derived "ATT-SEED"
def State.attPub (s : State) : List Byte := lmsPublic s.attIdent s.attSeed 20 8

/-- Payload of GET_IDENTITY (Table 15.8): the low byte of OTP word 6 holds STEPPING and GRADE. -/
def State.identity (s : State) : List Byte :=
  s.uidBytes ++ s.fitBytes ++ leBytes 4 (bits (s.otpWord .west 6) 0 8) ++
    leBytes 4 (if s.live then s.rf BOOT_GLOBAL_STATUS BOOT_GLOBAL_STATUS.NODE_ID else 0xFFFFFFFF) ++ s.attPub ++ s.ekBytes

/-- CERT (R413). -/
def State.cert (s : State) : List Byte :=
  let b := leBytes 4 1 ++ s.uidBytes ++ s.fitBytes ++ s.attPub ++ sha256 s.ekBytes
  b ++ padTo 2964 (Config.certSign b)

/-- Payload of GET_ATTEST_STATE: seconds to the next token, counted up to the whole second. -/
def State.attestState (s : State) : List Byte :=
  leBytes 4 (s.rf SEC_ATTEST_Q SEC_ATTEST_Q.NEXT_Q) ++ leBytes 4 (s.rf SEC_STATE SEC_STATE.TOKENS) ++
    leBytes 4 (480 - (s.us .west - s.sec.tokenUs) / 1000000)

/-- The measurement report (Table 15.9) for a nonce and an index. -/
def State.report (s : State) (nonce : List Byte) (q : Nat) : List Byte :=
  let st (f : Fld) : Nat := s.rf SEC_STATE f
  let dig (k : Nat) : List Byte := padTo 32 (s.boot.digests.getD k [])
  padTo 256 (leBytes 4 (1 + st SEC_STATE.DEBUG_OPEN * 2 ^ 8 + st SEC_STATE.DEBUG_DISABLE * 2 ^ 9 + st SEC_STATE.CFG_SIGNED * 2 ^ 10 +
      s.rf BOOT_STATUS BOOT_STATUS.TRIAL * 2 ^ 11) ++
    leBytes 4 (s.rf BOOT_GLOBAL_STATUS BOOT_GLOBAL_STATUS.NODE_ID + bits (s.otpWord .west 6) 0 4 * 2 ^ 16) ++
    s.fitBytes ++ s.uidBytes ++ nonce ++ leBytes 4 q ++
    leBytes 4 (s.boot.svns.getD 1 0 + s.boot.svns.getD 2 0 * 2 ^ 16) ++ dig 0 ++ dig 1 ++ dig 2 ++ s.otpBytes .west 8 8 ++
    (if s.cfgSigned then s.otpBytes .west 50 6 else zeros 24))

/-- GET_MEASUREMENTS (R431, R432): EXHAUSTED, RATE, or a token is taken and the ATTEST_ADVANCE record is to be committed. -/
def State.measure (s : State) (p : SecPath) (m : List Byte) : State :=
  let q := s.rf SEC_ATTEST_Q SEC_ATTEST_Q.NEXT_Q
  if 1048576 ≤ q then s.secAnswer p (msgResp m 4 [])
  else if s.rf SEC_STATE SEC_STATE.TOKENS = 0 then s.secAnswer p (msgResp m 3 [])
  else (s.sub SEC_STATE SEC_STATE.TOKENS 1).askLedger .west 5 0 (q + 1) (.attest p m)

/-- The record is committed: the device signs with its index (R431). -/
def State.attestSign (s : State) (p : SecPath) (m : List Byte) (next : Nat) : State :=
  let s1 := s.wf SEC_ATTEST_Q SEC_ATTEST_Q.NEXT_Q next
  let r := s1.report (msgBody m) (next - 1)
  s1.secAnswer p (msgResp m 0 (r ++ lmsSign s.attIdent s.attSeed 20 8 (next - 1) (padTo 32 (Config.lmsRandom (next - 1))) r))

/-- A context's bit in SEC_KEK_VALID. -/
def State.kekShow (s : State) (c : Nat) (v : Bool) : State := s.wf (SEC_KEK_VALID (c / 32)) { lo := c % 32, len := 1 } (b2n v)

/-- KEK_INSTALL (R433). -/
def State.kekPut (s : State) (b : List Byte) : State × Nat :=
  let c := u32 b 0
  if 256 ≤ c then (s, 1)
  else if s.on SEC_STATE SEC_STATE.DEBUG_OPEN then (s, 6)
  else
    let k := kemDecaps (s.derived "KEM-D") (s.derived "KEM-Z") (slice b 4 1568)
    let w := hmac256 k ([0x4B, 0x45, 0x4B] ++ [BitVec.ofNat 8 c])
    match aesUnwrap w (slice b 1572 40) with
    | none => (s, 5)
    | some kek =>
      (({ s with sec := { s.sec with keks := (s.sec.keks.filter (fun e => e.1 != c)) ++ [(c, kek)] } } : State).kekShow c true, 0)

/-- KEK_CLEAR (R434). -/
def State.kekDrop (s : State) (b : List Byte) : State × Nat :=
  let c := u32 b 0
  if 256 ≤ c then (s, 1)
  else (({ s with sec := { s.sec with keks := s.sec.keks.filter (fun e => e.1 != c) } } : State).kekShow c false, 0)

/-- DEBUG_CHALLENGE (R436): a fresh nonce. -/
def State.challenge (s : State) : State × List Byte :=
  let n := padTo 32 (Config.nonce s.sec.drawn)
  ({ s with sec := { s.sec with nonce := some n, drawn := s.sec.drawn + 1 } }, n)

/-- Does a token open the device: MAGIC, UID, the outstanding nonce, the key's hash and the signature? -/
def State.tokenOk (s : State) (b : List Byte) : Bool :=
  u32 b 0 == 0x44427C32 && decide (slice b 8 16 = s.uidBytes) && decide (s.sec.nonce = some (slice b 0x18 32)) &&
  decide (sha256 (slice b 0x38 60) = s.otpBytes .west 8 8) && hssVerify (slice b 0x38 60) (b.take 0x80) (slice b 0x80 2964)

/-- DEBUG_UNLOCK (R436): the nonce is spent either way. -/
def State.unlockDebug (s : State) (b : List Byte) : State × Nat :=
  if s.on SEC_STATE SEC_STATE.DEBUG_DISABLE then (s, 7)
  else if fld b 4 3 0 ≠ 1 ∨ fld b 4 7 4 ≠ 0 ∨ fld b 4 31 11 ≠ 0 ∨ !zeroRange b 0x74 12 then (s, 1)
  else
    let spent (t : State) : State := { t with sec := { t.sec with nonce := none } }
    if s.tokenOk b then
      (spent (({ s with sec := { s.sec with pendScope := fld b 4 10 8 } } : State).wf SEC_STATE SEC_STATE.DEBUG_PENDING 1), 0)
    else (spent s, 5)

/-! ## Updates (R424) -/

/-- The slot that update commands of a kind act on: the one that is not ACTIVE. -/
def State.updSlot (s : State) (k : Nat) : Nat := 1 - s.dirActive k

/-- UPD_BEGIN. -/
def State.updBegin (s : State) (k : Nat) : State × Nat :=
  if s.onTrial k then (s, 6)
  else if s.slotBad k (s.updSlot k) then (s.wf (BOOT_IMAGE (2 * k + s.updSlot k)) BOOT_IMAGE.VERIFIED 0, 9)
  else
    let s1 := s.flashErase (slotBase k (s.updSlot k)) (slotSize k)
    (({ s1 with boot := { s1.boot with update := some k } } : State).wf (BOOT_IMAGE (2 * k + s.updSlot k)) BOOT_IMAGE.VERIFIED 0, 0)

/-- UPD_DATA. Bytes that would lie past the slot make the message malformed. -/
def State.updData (s : State) (k : Nat) (b : List Byte) : State × Nat :=
  if s.boot.update ≠ some k then (s, 6)
  else if slotSize k < u32 b 4 + (b.length - 8) then (s, 1)
  else if s.slotBad k (s.updSlot k) then (s, 9)
  else (s.flashWrite (slotBase k (s.updSlot k) + u32 b 4) (b.drop 8), 0)

/-- UPD_END: the slot is verified. A key hash or signature that fails answers AUTH, a flash that fails FLASH; the spec gives no result for
the other failures (a free value). -/
def State.updEnd (s : State) (k : Nat) : State × Nat :=
  if s.boot.update ≠ some k then (s, 6)
  else
    let s1 := ({ s with boot := { s.boot with update := none } } : State).slotShow k (s.updSlot k)
    let c := s1.slotCheck k (s.updSlot k)
    if c = 0 then (s1, 0) else if c = 3 ∨ c = 4 then (s1, 5) else if c = 7 then (s1, 9) else (s1.fresh.2, s1.fresh.1 % 10)

/-- UPD_ACTIVATE: TRY 1 is written; a controller restarts, while the configuration's trial waits for the next device reset. -/
def State.updActivate (s : State) (k : Nat) : State × Nat :=
  if s.boot.update = some k ∨ !s.on (BOOT_IMAGE (2 * k + s.updSlot k)) BOOT_IMAGE.VERIFIED then (s, 6)
  else if s.dirBad s.dirNext then (s, 9)
  else (s.dirWrite k (s.dirActive k + 2), 0)

/-- UPD_COMMIT: the tried slot becomes ACTIVE, and the trial is over. -/
def State.updCommit (s : State) (k : Nat) : State × Nat :=
  if s.onTrial k ∧ s.dirBad s.dirNext then (s, 9)
  else if s.onTrial k then
    ((s.dirWrite k (s.rf BOOT_STATUS { lo := 6 + k, len := 1 })).wf BOOT_STATUS { lo := 9 + k, len := 1 } 0, 0)
  else (s, 6)

/-- Payload of UPD_STATUS: both directory copies, then BOOT_IMAGE. -/
def State.updShow (s : State) : List Byte :=
  s.dirCopy 0 ++ s.dirCopy 1 ++ (List.range 6).flatMap (fun i => leBytes 4 (s.rd (BOOT_IMAGE i)).toNat)

/-- An update command on the kind that its payload names. -/
def State.updRun (s : State) (code : Nat) (b : List Byte) : State × Nat :=
  let k := u32 b 0
  if 3 ≤ k then (s, 1)
  else match code with
    | 0x30 => s.updBegin k
    | 0x31 => s.updData k b
    | 0x32 => s.updEnd k
    | 0x33 => s.updActivate k
    | _ => s.updCommit k

/-! ## Serving a message -/

/-- Answer with a result and no payload. -/
def State.secDone (p : SecPath) (m : List Byte) (r : State × Nat) : State := r.1.secAnswer p (msgResp m r.2 [])

/-- What a well-formed request of a listed code does. -/
def State.secRun (s : State) (p : SecPath) (m : List Byte) : State :=
  let b := msgBody m
  let ok (s : State) (payload : List Byte) : State := s.secAnswer p (msgResp m 0 payload)
  match msgCode m with
  | 0x01 => ok s (leBytes 4 2)
  | 0x02 => ok s s.identity
  | 0x03 => if 4000 < u32 b 4 then s.secAnswer p (msgResp m 1 []) else ok s (slice s.cert (u32 b 0) (u32 b 4))
  | 0x04 => s.measure p m
  | 0x05 => ok s s.attestState
  | 0x10 => State.secDone p m (s.kekPut b)
  | 0x11 => State.secDone p m (s.kekDrop b)
  | 0x20 => ok s.challenge.1 s.challenge.2
  | 0x21 => State.secDone p m (s.unlockDebug b)
  | 0x33 =>
    let r := s.updRun 0x33 b
    let s1 := State.secDone p m r
    if r.2 = 0 ∧ u32 b 0 ≠ 0 ∧ s.live then s1.ctrlRestart (u32 b 0) else s1
  | 0x35 => if s.dirBad 0 ∨ s.dirBad 1 then s.secAnswer p (msgResp m 9 []) else ok s s.updShow
  | c => State.secDone p m (s.updRun c b)

/-- One request is served (R429): BAD_MSG, UNKNOWN and RECOVERY come first. -/
def State.secServe (s : State) (p : SecPath) (m : List Byte) : State :=
  let bad (r : Nat) : State := s.secAnswer p (msgResp m r [])
  if !msgOk m then bad 1
  else match payloadLen (msgCode m) with
    | none => bad 2
    | some (lo, hi) =>
      if !s.live && !inRecovery (msgCode m) then bad 8
      else if msgLen m < lo ∨ hi < msgLen m then bad 1
      else s.secRun p m

/-- The mailbox holds a request that may be served now. -/
def State.mboxDue (s : State) : Bool := s.on SEC_MBOX_CTRL SEC_MBOX_CTRL.BUSY && !s.power.mgmtRestarting && !s.attesting

/-- Serve the request in the mailbox, if one is due. -/
def State.mboxServe (s : State) : State := if s.mboxDue then s.secServe .mailbox s.mboxMsg else s

/-- Serve the MCTP request that waits, once the security engine is free. -/
def State.heldServe (s : State) : State :=
  match s.sec.held with
  | none => s
  | some m =>
    if s.attesting ∨ s.power.mgmtRestarting then s
    else ({ s with sec := { s.sec with held := none } } : State).secServe .mctp m

/-- A request arrives over MCTP: it is dropped while the management controller restarts (R28) or while MCTP holds one already (R428); a request
that the mailbox holds is served first. -/
def State.mctpServe (s : State) (m : List Byte) : State :=
  if s.power.mgmtRestarting ∨ s.attestingMctp ∨ s.sec.held.isSome then s
  else ({ s.mboxServe with sec := { s.mboxServe.sec with held := some m } } : State).heldServe

/-- A message's row: `code` is its CODE. A message that is malformed or has a code that no row has is served by any row; the mailbox's request
is the one in SEC_MBOX_REQ. -/
def State.secMsg (s : State) (p : SecPath) (code : Nat) (msg : List Byte) : State :=
  let m := match p with | .mailbox => s.mboxMsg | .mctp => msg
  let mine : Bool := !msgOk m || (payloadLen (msgCode m)).isNone || msgCode m == code
  if mine then match p with
    | .mailbox => s.mboxServe.heldServe
    | .mctp => s.mctpServe m
  else s

/-! ## The rows -/

/-- MCTP_CONTROL (R428): what DSP0236 requires is answered. -/
def execMctpControl (cmd : List Byte) (s : State) : Host.Outcome State Fault Refusal :=
  whenPowered s (fun s =>
    if s.power.mgmtRestarting then s
    else ((s.send (.pin "SB_ALERT_N" false)).send (.mctp (Config.mctpAnswer cmd))).send (.pin "SB_ALERT_N" true))

/-- GET_VERSION (R429). -/
def execGetVersion (p : SecPath) (msg : List Byte) (s : State) : Host.Outcome State Fault Refusal :=
  whenPowered s (fun s => s.secMsg p 0x01 msg)

/-- GET_IDENTITY (Table 15.8). -/
def execGetIdentity (p : SecPath) (msg : List Byte) (s : State) : Host.Outcome State Fault Refusal :=
  whenPowered s (fun s => s.secMsg p 0x02 msg)

/-- GET_CERT (R413). -/
def execGetCert (p : SecPath) (msg : List Byte) (s : State) : Host.Outcome State Fault Refusal :=
  whenPowered s (fun s => s.secMsg p 0x03 msg)

/-- GET_MEASUREMENTS (R430 to R432). -/
def execGetMeasurements (p : SecPath) (msg : List Byte) (s : State) : Host.Outcome State Fault Refusal :=
  whenPowered s (fun s => s.secMsg p 0x04 msg)

/-- GET_ATTEST_STATE. -/
def execGetAttestState (p : SecPath) (msg : List Byte) (s : State) : Host.Outcome State Fault Refusal :=
  whenPowered s (fun s => s.secMsg p 0x05 msg)

/-- ATTEST_TOKEN_TICK (R432): 480 s have passed. -/
def execAttestTokenTick (s : State) : Host.Outcome State Fault Refusal :=
  whenAwake s (fun s =>
    let s1 := s.wf SEC_STATE SEC_STATE.TOKENS (min 16 (s.rf SEC_STATE SEC_STATE.TOKENS + 1))
    { s1 with sec := { s1.sec with tokenUs := s1.us .west } })

/-- KEK_INSTALL (R433). -/
def execKekInstall (p : SecPath) (msg : List Byte) (s : State) : Host.Outcome State Fault Refusal :=
  whenPowered s (fun s => s.secMsg p 0x10 msg)

/-- KEK_CLEAR (R434). -/
def execKekClear (p : SecPath) (msg : List Byte) (s : State) : Host.Outcome State Fault Refusal :=
  whenPowered s (fun s => s.secMsg p 0x11 msg)

/-- DEBUG_CHALLENGE (R436). -/
def execDebugChallenge (p : SecPath) (msg : List Byte) (s : State) : Host.Outcome State Fault Refusal :=
  whenPowered s (fun s => s.secMsg p 0x20 msg)

/-- DEBUG_UNLOCK (R436). -/
def execDebugUnlock (p : SecPath) (msg : List Byte) (s : State) : Host.Outcome State Fault Refusal :=
  whenPowered s (fun s => s.secMsg p 0x21 msg)

/-- UPD_BEGIN (R424). -/
def execUpdBegin (p : SecPath) (msg : List Byte) (s : State) : Host.Outcome State Fault Refusal :=
  whenPowered s (fun s => s.secMsg p 0x30 msg)

/-- UPD_DATA. -/
def execUpdData (p : SecPath) (msg : List Byte) (s : State) : Host.Outcome State Fault Refusal :=
  whenPowered s (fun s => s.secMsg p 0x31 msg)

/-- UPD_END. -/
def execUpdEnd (p : SecPath) (msg : List Byte) (s : State) : Host.Outcome State Fault Refusal :=
  whenPowered s (fun s => s.secMsg p 0x32 msg)

/-- UPD_ACTIVATE. -/
def execUpdActivate (p : SecPath) (msg : List Byte) (s : State) : Host.Outcome State Fault Refusal :=
  whenPowered s (fun s => s.secMsg p 0x33 msg)

/-- UPD_COMMIT. -/
def execUpdCommit (p : SecPath) (msg : List Byte) (s : State) : Host.Outcome State Fault Refusal :=
  whenPowered s (fun s => s.secMsg p 0x34 msg)

/-- UPD_STATUS. -/
def execUpdStatus (p : SecPath) (msg : List Byte) (s : State) : Host.Outcome State Fault Refusal :=
  whenPowered s (fun s => s.secMsg p 0x35 msg)

/-! ## The Ledger's commits (R146, R431) -/

/-- May a waiting record be committed now: a signature waits while the management controller restarts (R28)? -/
def State.commitReady (s : State) (h : Half) (e : LedgerRec × LedgerFor) : Bool :=
  match e.2 with
  | .cmd _ => s.ledgerReady h e.1
  | .attest _ _ => !s.power.mgmtRestarting

/-- LEDGER_COMMIT: the oldest record that may be committed is, and what it guards proceeds. -/
def State.ledgerCommit (s : State) (h : Half) : State :=
  let n := (s.half h).nv
  if n.compacting ∨ n.stopping ∨ !n.scanned then s
  else match n.ledgerQ.find? (s.commitReady h) with
    | none => s
    | some e =>
      let s1 := (s.modNv h (fun n => { n with ledgerQ := e :: n.ledgerQ.erase e })).ledgerWrite h e.1
      match e.2 with
      | .cmd p => s1.ledgerStep h p e.1
      | .attest p m => (s1.attestSign p m e.1.value).mboxServe.heldServe

/-- LEDGER_COMMIT. -/
def execLedgerCommit (h : Half) (s : State) : Host.Outcome State Fault Refusal := whenLive s (fun s => s.ledgerCommit h)

/-! ## The test access port (R435) -/

/-- TAP_INSTRUCTION: `code` 0 is BYPASS, 1 IDCODE, 2 SAMPLE/PRELOAD, 3 EXTEST, any other another instruction, which acts only within the SCOPE
of a debug-open boot; what it then does is not given. SAMPLE/PRELOAD and EXTEST concern the balls alone. -/
def execTapInstruction (code : Nat) (s : State) : Host.Outcome State Fault Refusal :=
  if s.stage = .off then .next s
  else match code with
    | 0 => .next (s.send (.tap 0))
    | 1 => .next (s.send (.tap (1 + (Config.jep106 % 2 ^ 11) * 2 + 0x7C32 * 2 ^ 12 + bits (s.otpWord .west 6) 0 4 * 2 ^ 28)))
    | 2 => .next s
    | 3 => .next s
    | _ =>
      if s.on SEC_STATE SEC_STATE.DEBUG_OPEN ∧ s.sec.scope ≠ 0 then .refused .debugUnitUnspecified else .next s

end Sys2Proof.Machine
end

