-- ==== Sys2Proof/Machine/Register.lean ====
section
/-! DEFINITION. Host accesses of the register space (R11, R12, R31, R32, R363, R480): where an offset leads, the writes with an effect of their own,
the writes that only set fields, the values that reads see, the weight window (R115, R116), BAR4 (R365) and the PCIe capability (R379).

Offsets of an access are numbered as one space: BAR0 from 0, the DVSEC registers from 0x0400_0000, the standard's controls of a function from
0x0500_0000 (log entry 10), BAR4 from 0x0800_0000. -/

namespace Sys2Proof.Machine

/-! ## Where an offset leads (R11, R31, R270, R359) -/

/-- Bytes of one index of a register: more than 4 for MEM_HOME alone. -/
def RegDesc.span (r : RegDesc) : Nat := r.fields.foldl (fun n f => max n (f.1.off + 4)) 4

/-- The register at offset `o` of a half: its description, its index and the offset of the word in it. -/
def regFind (o : Nat) : Option (RegDesc × Nat × Nat) :=
  match regTable.find? (fun r => decide (r.base ≤ o) && decide ((o - r.base) / r.stride < r.count) && decide ((o - r.base) % r.stride < r.span)) with
  | some r => some (r, (o - r.base) / r.stride, (o - r.base) % r.stride)
  | none => none

/-- Does the half hold the register's index: West alone holds some, and each half its own part of a device-wide index? -/
def RegDesc.held (r : RegDesc) (h : Half) (n : Nat) : Bool :=
  match r.scope with
  | .west => decide (h = .west)
  | .half => !r.devIdx || decide (2 * n / r.count = h.num)
  | _ => true

/-- Where the word lives in `regs`. -/
def RegDesc.home (r : RegDesc) (h : Half) (o : Nat) : Nat :=
  match r.scope with
  | .half => h.base + o
  | _ => o

/-- Version index of the block that holds an offset (Table 1.7), which names it in a log record. -/
def blockOf (o : Nat) : Nat :=
  if o < 0x100000 then 0 else if o < 0x200000 then 1 else if o < 0x400000 then 2 else if o < 0x600000 then 3 else if o < 0x800000 then 4
  else if o < 0xA00000 then 5 else if o < 0xC00000 then 6 else if o < 0xE00000 then 7 else if o < 0xF00000 then 8
  else if o < 0x1000000 then 9 else 10

/-- Domain of the block's register at an offset; none in the always-on blocks (Table 1.7). -/
def regDom (h : Half) (o : Nat) : Option Nat :=
  match blockOf o with
  | 2 => some (jctDom h)
  | 3 => some (lanesDom h 0)
  | 4 =>
    let e := if o < 0x610000 then (o - 0x600000) / 0x40 else if o < 0x620000 then (o - 0x610000) / 32 else 64
    some (clusterDom (if e / 32 = h.num then e else 32 * h.num))
  | 5 => some (if o < 0x900000 then plazaDom h 0 else sdsDom h)
  | 6 =>
    let g := if o < 0xA20000 then (o - 0xA00000) / 0x100 else if o < 0xA40000 then (o - 0xA20000) / 0x200
      else if o < 0xA60000 then (o - 0xA40000) / 0x1000 else if o < 0xB00000 then (o - 0xA60000) / 0x20 else (o - 0xB00000) / 0x1000
    some (galDom h (g % 32))
  | 8 =>
    let p := (o - 0xE00000) / 0x40
    some (portDom (if p / 4 = h.num ∧ p < 8 then p else 4 * h.num))
  | _ => none

/-! ## Writes that set fields (R12, R480) -/

/-- Do the fields of this register that a state condition locks accept no write now (R177, R270, R302, R359)? RWL fields are apart. -/
def State.locks (s : State) (h : Half) (r : RegDesc) (n : Nat) : Bool :=
  match r.base with
  | 0x380000 => s.setValid h n
  | 0x380004 => s.setValid h n
  | 0x380014 => s.rf (JCT_WSET_SLOT h n) JCT_WSET_SLOT.STATE != 1
  | 0x380018 => s.rf (JCT_WSET_SLOT h n) JCT_WSET_SLOT.STATE != 1
  | 0x38001C => s.rf (JCT_WSET_SLOT h n) JCT_WSET_SLOT.STATE != 1
  | 0xC02000 => s.on (NV_LDR_RING_CTRL h) NV_LDR_RING_CTRL.EN
  | 0xC02004 => s.on (NV_LDR_RING_CTRL h) NV_LDR_RING_CTRL.EN
  | 0xC02008 => s.on (NV_LDR_RING_CTRL h) NV_LDR_RING_CTRL.EN
  | 0x210004 => s.ctxEn n
  | 0x210008 => s.ctxEn n
  | 0x210010 => s.ctxEn n
  | 0x210014 => s.ctxEn n
  | 0x21001C => s.ctxEn n
  | 0x640004 => s.on (STR_RING_CFG h n) STR_RING_CFG.VALID
  | 0x640008 => s.on (STR_RING_CFG h n) STR_RING_CFG.VALID
  | 0xE30004 => s.on (CSW_RQ_CFG h n) CSW_RQ_CFG.VALID
  | 0xE30008 => s.on (CSW_RQ_CFG h n) CSW_RQ_CFG.VALID
  | 0xE3000C => s.on (CSW_RQ_CFG h n) CSW_RQ_CFG.VALID
  | _ => false

/-- Fields of NV_LDR_RING_CTRL that stay writable while EN is 1. -/
def freeField (f : Fld) : Bool := f == NV_LDR_RING_CTRL.EN || f == NV_LDR_RING_CTRL.IRQ_EN

/-- Is one field locked? -/
def State.fieldLocked (s : State) (h : Half) (r : RegDesc) (n : Nat) (e : Fld × Acc) : Bool :=
  match e.2 with
  | .rwl => s.on BOOT_STATUS BOOT_STATUS.LOCKED
  | .rw => s.locks h r n && !(r.base == 0xC02008 && freeField e.1)
  | _ => false

/-- A field's new value by its access type. -/
def fieldWrite (old v : Word) (e : Fld × Acc) : Nat :=
  match e.2 with
  | .ro => getF old e.1
  | .wo => getF old e.1
  | .w1c => getF (old &&& ~~~ v) e.1
  | .w1s => getF (old ||| v) e.1
  | _ => getF v e.1

/-- The word that a write leaves: fields by their access types, and values that read as others. -/
def foldFields (r : RegDesc) (o wo : Nat) (old v : Word) : Word :=
  BitVec.ofNat 32 (normWord o ((r.fields.filter (fun e => e.1.off == wo)).foldl (fun w e => putF w e.1 (fieldWrite old v e)) old).toNat)

/-- Would a write change a locked field (R480)? -/
def State.regLocked (s : State) (h : Half) (o : Nat) (r : RegDesc) (n wo v : Nat) : Bool :=
  let nv := BitVec.ofNat 32 (normWord o (BitVec.ofNat 32 v).toNat)
  r.fields.any (fun e => e.1.off == wo && s.fieldLocked h r n e && getF nv e.1 != getF (s.rd (r.home h o)) e.1)

/-- A write to a register without an effect of its own. A write that would change a locked field is discarded as a whole and recorded. -/
def State.regSet (s : State) (h : Half) (o : Nat) (r : RegDesc) (n wo v : Nat) : State :=
  let a := r.home h o
  if s.regLocked h o r n wo v then s.log h { logSoft (blockOf o) v with addr := a }
  else s.wr a (foldFields r o wo (s.rd a) (BitVec.ofNat 32 v))

/-! ## Writes with an effect of their own -/

/-- A write of JCT_CONTROL (R302): through the physical function, or the function that owns the context it names. A RETRY_NODE whose descriptor
is in host memory keeps GO until its row brings the node's bytes. -/
def State.jctWrite (s : State) (func v : Nat) : State :=
  let c := bits v 8 8
  let gid := s.rf JCT_CONTROL_GRAPH JCT_CONTROL_GRAPH.GRAPH_ID
  let node := bits v 16 12
  if !s.owns func c ∧ !bit v 2 then s
  else
    let s0 := if bit v 3 then s.wf JCT_CONTROL JCT_CONTROL.DONE 0 else s
    let s1 := s0.jctSet (bits v 0 2) c node gid
    if !bit v 2 then s1
    else match bits v 0 2 with
      | 0 => s1.goAbortGraph func c gid
      | 1 => s1.goAbortContext func c
      | 2 =>
        if (match s1.graph c gid with | some g => !g.inT1 | none => false) && s1.owns func c then s1.wf JCT_CONTROL JCT_CONTROL.GO 1
        else s1.goRetry func c gid node []
      | _ => s1.log .west { logSoft 2 v with addr := JCT_CONTROL, func := func }

/-- A write of JCT_CONTROL_GRAPH (R302). -/
def State.jctGraphWrite (s : State) (func v : Nat) : State :=
  if s.owns func (s.rf JCT_CONTROL JCT_CONTROL.CONTEXT) then s.wf JCT_CONTROL_GRAPH JCT_CONTROL_GRAPH.GRAPH_ID (bits v 0 16) else s

/-- A write of SEC_MBOX_CTRL (R428): DONE clears by 1; GO sends the request unless one is held. -/
def State.mboxWrite (s : State) (v : Nat) : State :=
  let s1 := if bit v 2 then s.wf SEC_MBOX_CTRL SEC_MBOX_CTRL.DONE 0 else s
  if bit v 0 then s1.wf SEC_MBOX_CTRL SEC_MBOX_CTRL.BUSY 1 else s1

/-- A write of a word of the mailbox's request. -/
def State.mboxReqWrite (s : State) (n v : Nat) : State :=
  if s.on SEC_MBOX_CTRL SEC_MBOX_CTRL.BUSY then s.log .west { logSoft 9 v with addr := SEC_MBOX_REQ n }
  else s.wr (SEC_MBOX_REQ n) (BitVec.ofNat 32 v)

/-- A write of NV_REFRESH_INTERVAL: 60 to 1,440 minutes. -/
def State.intervalWrite (s : State) (h : Half) (v : Nat) : State :=
  let m := bits v 0 16
  if 60 ≤ m ∧ m ≤ 1440 then ((s.wf (NV_REFRESH_INTERVAL h) NV_REFRESH_INTERVAL.MINUTES m).checkCatchup h).runRefresh h
  else s.log h (logSoft 7 v)

/-- A write of SDS_CTX_QUOTA (R199): a limit below what the context uses is refused. -/
def State.sdsQuotaWrite (s : State) (h : Half) (c v : Nat) : State :=
  let m : Nat := getF (BitVec.ofNat 32 v) SDS_CTX_QUOTA.LIMIT
  if m < s.rf (SDS_CTX_QUOTA h c) SDS_CTX_QUOTA.USED then
    (s.wf (SDS_EVENT h) SDS_EVENT.REGION_REFUSED 1).log h { logSoft 5 v with event := 3, ctx := some c }
  else s.wf (SDS_CTX_QUOTA h c) SDS_CTX_QUOTA.LIMIT m

/-- A write of MEM_CMD_CTRL (Table 8.12). -/
def State.memCtrlWrite (s : State) (h : Half) (v : Nat) : State :=
  let s1 := if bit v 2 then s.wf (MEM_CMD_CTRL h) MEM_CMD_CTRL.DONE 0 else s
  if bit v 0 then s1.memGo h else s1

/-- A write of STR_CTRL (Table 9.6). -/
def State.strCtrlWrite (s : State) (h : Half) (e v : Nat) : State :=
  let s1 := s.wf (STR_CTRL h e) STR_CTRL.IRQ_EN (getF (BitVec.ofNat 32 v) STR_CTRL.IRQ_EN)
  if getF (BitVec.ofNat 32 v) STR_CTRL.ABORT = 1 then s1.strAbort e else s1

/-- A write of JCT_WSET_SWITCH. -/
def State.switchWrite (s : State) (v : Nat) : State :=
  if bit v 8 then s.switchGo (bits v 0 8) else s.wf JCT_WSET_SWITCH JCT_WSET_SWITCH.CONTEXT (bits v 0 8)

/-- A write of NV_LDR_RING_CTRL: ABORT ends the running load, unless the write is discarded for a locked field (R177, R480). -/
def State.ringCtrlWrite (s : State) (h : Half) (o : Nat) (r : RegDesc) (v : Nat) : State :=
  let w := v - bits v 2 1 * 4
  let s1 := s.regSet h o r 0 0 w
  if bit v 2 ∧ s.regLocked h o r 0 0 w = false then s1.ldrAbort h else s1

/-- A write of PWR_EVENT: a cleared ESTIMATE_DIVERGE ends measured-only mode (R398). -/
def State.pwrEventWrite (s : State) (v : Nat) : State :=
  let s1 := s.wr PWR_EVENT (s.rd PWR_EVENT &&& ~~~ BitVec.ofNat 32 v)
  if bit v 0 ∧ s.measuredOnly then { s1 with power := { s1.power with divergeClear := true } } else s1

/-- A write of ERR_SERVICE_CTRL (R449). -/
def State.serviceWrite (s : State) (v : Nat) : State :=
  let s1 := if bit v 0 then s.serviceRestart 1 else s
  if bit v 1 then s1.serviceRestart 2 else s1

/-- A write of a weight-set register is committed with its set (R176). -/
def State.wsetRegWrite (s : State) (h : Half) (o : Nat) (r : RegDesc) (n v : Nat) : State :=
  let s1 := s.regSet h o r n 0 v
  if s1.rd (r.home h o) = s.rd (r.home h o) then s1
  else s1.setChanged h (if r.base < 0x380010 then n else n / 2)

/-- A write to a register of a half's BAR0 blocks. -/
def State.regEffect (s : State) (func : Nat) (h : Half) (o : Nat) (r : RegDesc) (n wo v : Nat) : State :=
  match r.base with
  | 0xB00004 => s.planeCfgWrite h n v
  | 0xC01008 => s.wallWrite h v
  | 0xC01004 => s.intervalWrite h v
  | 0xC01000 => (s.regSet h o r n wo v).runRefresh h
  | 0xC40004 => s.stuckWrite h n v
  | 0xC02008 => s.ringCtrlWrite h o r v
  | 0x380000 => s.wsetRegWrite h o r n v
  | 0x380004 => s.wsetRegWrite h o r n v
  | 0x380014 => s.wsetRegWrite h o r n v
  | 0x380018 => s.wsetRegWrite h o r n v
  | 0x38001C => s.wsetRegWrite h o r n v
  | 0x380008 => s.wsetCmd h n v
  | 0x388020 => s.switchWrite v
  | 0x901000 => s.setCtrlWrite h n v
  | 0x901004 => s.setRegionWrite h n v
  | 0x902000 => s.sdsQuotaWrite h n v
  | 0x400020 => s.memCtrlWrite h v
  | 0x400100 => s.poolCtrlWrite h v
  | 0x401000 => s.quotaWrite h .t0 n v
  | 0x401004 => s.quotaWrite h .t1 n v
  | 0x401008 => s.quotaWrite h .t2 n v
  | 0x401010 => s.quotaWrite h .pool n v
  | 0x600000 => s.strCtrlWrite h n v
  | 0x600010 => s.armCtrlWrite n v
  | 0x640000 => s.ringCfgWrite h n v
  | 0x200030 => s.jctWrite func v
  | 0x200034 => s.jctGraphWrite func v
  | 0x210000 => s.ctxCfgWrite n v
  | 0x210018 => s.cqHeadSet n (bits v 16 14)
  | 0xA40000 => s.galProgWrite h n v
  | 0xE00000 => s.portCfgWrite n v
  | 0xE20000 => s.sqCfgWrite h n v
  | 0xE30000 => s.rqCfgWrite h n v
  | 0xE40000 => s.barCfgWrite h n v
  | 0x100000 => s.domainCtrl n (bits v 0 2)
  | 0x100800 => if [5, 6, 10, 11, 12].contains n then s else s.regSet h o r n wo v
  | 0x101000 => s.capWrite v
  | 0x101020 => s.pwrEventWrite v
  | 0xF8000C => s.hostHead h v
  | 0xF80010 => s.serviceWrite v
  | 0xF01000 => s.mboxWrite v
  | 0xF02000 => s.mboxReqWrite n v
  | _ => s.regSet h o r n wo v

/-- A 32-bit write at offset `o` of a half. PWR_ and XING_ registers take writes through West's block only (R410). -/
def State.regWrite (s : State) (func : Nat) (h : Half) (o v : Nat) : State :=
  match regFind o with
  | none => s
  | some (r, n, wo) =>
    if !r.held h n ∨ (r.pfOnly ∧ func ≠ 0) then s
    else if r.scope = .device then
      if func ≠ 0 ∨ o < 0x100000 then s
      else if h = .east then s.log .east { logSoft 1 v with addr := h.base + o }
      else s.regEffect func h o r n wo v
    else s.regEffect func h o r n wo v

/-! ## Reads -/

/-- Fields that follow the device's state and are not kept as words (Tables 4.13, 5.21, 7.13, 8.13, 9.6, 10.15, 14.8, 14.9, 14.12). -/
def State.regView (s : State) (h : Half) (r : RegDesc) (n : Nat) (w : Word) : Word :=
  match r.base with
  | 0x102000 => putF w CLK_PLL_STATUS.REF_OK (b2n s.boot.refOk)
  | 0x100400 => putF w PWR_DOMAIN_STATUS.KEEP (b2n (s.keepOn n))
  | 0x100800 => if [5, 6, 10, 11, 12].contains n then 0 else w
  | 0x100900 => putF (putF w PWR_WAKE_STATUS.QUEUED s.power.wakeQ.length) PWR_WAKE_STATUS.RECENT s.recentWakes.length
  | 0x101028 => putF w PWR_REASON.ACTIVE s.reasons
  | 0x200004 =>
    let g := s.graphs.countP (fun g => g.nodes.any (fun x => decide (x.half = h)))
    putF (putF (putF w JCT_STATUS.NODES (s.slotsUsed h)) JCT_STATUS.GRAPHS g) JCT_STATUS.RESERVING (b2n (s.reserving h))
  | 0x210020 =>
    let gs := s.graphs.filter (fun g => g.ctx == n)
    putF (putF w JCT_CTX_INFLIGHT.GRAPHS gs.length) JCT_CTX_INFLIGHT.NODES
      ((gs.map (fun g => g.nodes.countP (fun x => x.holdsSlot g))).foldl (· + ·) 0)
  | 0x400104 => putF (putF w MEM_POOL_STATUS.WAITERS (s.half h).mem.allocWait.length) MEM_POOL_STATUS.USED (s.poolUsed h)
  | 0x800000 => putF w PLZ_STATUS.WAIT_SLOT (b2n (s.plazaWaits h))
  | 0x600004 => putF w STR_STATUS.CAUSE (s.shownCause n)
  | 0x900000 => putF (putF w SDS_STATUS.INTERIM (s.interimCount h)) SDS_STATUS.BUSY (b2n (s.sdsBusy h))
  | 0xC80000 => putF w NV_PLANE_HEALTH.NSTATE (s.nstate h n)
  | 0xC80008 => match s.planeAge h n with
    | some a => BitVec.ofNat 32 (min a 0xFFFFFFFE)
    | none => 0xFFFFFFFF
  | 0xC00010 => s.pumpWord h
  | 0xC0100C => putF w NV_REFRESH_STATUS.DUE (min 65535 ((s.enabledPlanes h).countP (fun p => s.planeDue h p)))
  | 0xC40004 =>
    if s.rf (NV_PROT_STATE h (s.rf (NV_STUCK_LOC h n) NV_STUCK_LOC.PLANE % 32768 / 64)) NV_PROT_STATE.MODE = 2 ∧ getF w NV_STUCK_INFO.STATE ≠ 0 then
      putF (putF w NV_STUCK_INFO.W_INT 0) NV_STUCK_INFO.W_ACT 0
    else w
  | _ => w

/-- A read at offset `o` of a half, and what it does: a read of CLK_US_LO holds CLK_US_HI until that is read (R381). -/
def State.regRead (s : State) (func : Nat) (h : Half) (o : Nat) : State × Nat :=
  match regFind o with
  | none => (s, 0)
  | some (r, n, _) =>
    if !r.held h n ∨ (r.pfOnly ∧ func ≠ 0) then (s, 0)
    else if r.base = 0x102010 then
      (s.modHalf h (fun x => { x with usHi := some (x.us / 2 ^ 32) }), s.us h % 2 ^ 32)
    else if r.base = 0x102014 then
      (s.modHalf h (fun x => { x with usHi := none }), ((s.half h).usHi.getD (s.us h / 2 ^ 32)) % 2 ^ 32)
    else if (r.base = 0x200030 ∨ r.base = 0x200034) ∧ !s.owns func (s.rf JCT_CONTROL JCT_CONTROL.CONTEXT) then (s, 0)
    else (s, (s.regView h r n (s.rd (r.home h o))).toNat)

/-! ## The weight window (R115, R116) -/

/-- Does an access of the parameter block, result area, row buffer or aperture have a size and place that R116 allows? DESIGN CHOICE (log
entry 72): any multiple of 4 bytes, at a multiple of 4, that does not cross a 64-byte boundary. -/
def windowFits (o width : Nat) : Bool :=
  decide (4 ≤ width) && decide (width ≤ 64) && decide (width % 4 = 0) && decide (o % 4 = 0) && decide (o % 64 + width ≤ 64)

/-- Is an offset of the weight window in a region that takes accesses of 4 to 64 bytes (Table 5.1)? -/
def windowWide (o : Nat) : Bool :=
  (decide (0x4000 ≤ o) && decide (o < 0x4080)) || (decide (0x5000 ≤ o) && decide (o < 0x5200)) ||
  (decide (0x100000 ≤ o) && decide (o < 0x200000)) || (decide (0x800000 ≤ o) && decide (o < 0x900000))

/-- Does the window take an access of `width` bytes at an offset: those of R116, and elsewhere aligned 32-bit accesses (R363)? -/
def windowTakes (o width : Nat) : Bool := if windowWide o then windowFits o width else decide (width = 4) && decide (o % 4 = 0)

/-- Does a running command protect bytes of the row buffer that a write would store (R128)? -/
def State.rowGuarded (s : State) (h : Half) (a len : Nat) : Bool :=
  match (s.half h).nv.host.cmd with
  | some c => decide (a < c.range.2) && decide (c.range.1 < a + len)
  | none => false

/-- A write of bytes into the parameter block; LAUNCH comes last. -/
def State.paramWrite (s : State) (h : Half) (o : Nat) (bs : List Byte) : State :=
  let ws := (List.range (bs.length / 4)).map (fun i => ((o - 0x4000) / 4 + i, u32 bs (4 * i)))
  let s1 := (ws.filter (fun e => e.1 < 31)).foldl (fun s e =>
    s.modNv h (fun n => { n with param := mapSet (fun _ => 0) n.param e.1 (BitVec.ofNat 32 e.2) })) s
  match ws.find? (fun e => e.1 == 31) with
  | some e => s1.launchWrite h e.2
  | none => s1.seqOther h

/-- A write of `width` bytes at an offset of a half's weight window. DESIGN CHOICE (log entry 71): a write of the row buffer that lies only
partly in the protected range of R128 is discarded whole. -/
def State.windowWrite (s : State) (func : Nat) (h : Half) (o width v : Nat) : State :=
  let bs := leBytes width v
  if func ≠ 0 then (if windowTakes o width then s else s.badAccess func (0x02000000 * h.num + 0x01000000 + o) width true v)
  else if o = 0x1A5A ∧ width = 2 then s.seqWrite h false 2 v
  else if o = 0x25A5 ∧ width = 2 then s.seqWrite h true 2 v
  else if o < 0x1A5C ∧ 0x1A5A < o + width then s.seqWrite h false 0 v
  else if o < 0x25A7 ∧ 0x25A5 < o + width then s.seqWrite h true 0 v
  else if !windowTakes o width then (s.badAccess func (0x02000000 * h.num + 0x01000000 + o) width true v).seqOther h
  else if 0x4000 ≤ o ∧ o < 0x4080 then s.paramWrite h o bs
  else if 0x100000 ≤ o ∧ o < 0x200000 then
    if s.rowGuarded h (o - 0x100000) width then (s.log h { logSoft 10 v with addr := o }).seqOther h
    else (s.modNv h (fun n => { n with buffer := memWrite zeroByte n.buffer (o - 0x100000) bs })).seqOther h
  else s.seqOther h

/-- Bytes of a map of words, from word `i` on. -/
def wordBytesOf (m : List (Nat × Word)) (i width : Nat) : List Byte :=
  (List.range (width / 4)).flatMap (fun k => leBytes 4 (mapGet (fun _ => 0) m (i + k)).toNat)

/-- A read of `width` bytes at an offset of a half's weight window; a read of the aperture may have to wait for a sense. -/
def State.windowRead (s : State) (func : Nat) (h : Half) (o width : Nat) : State :=
  let off := 0x02000000 * h.num + 0x01000000 + o
  if !windowTakes o width then s.badAccess func off width false 0
  else if func ≠ 0 then s.readGive h func off (zeros width)
  else if 0x4000 ≤ o ∧ o < 0x4080 then s.readGive h func off (wordBytesOf (s.half h).nv.param ((o - 0x4000) / 4) width)
  else if 0x5000 ≤ o ∧ o < 0x5200 then s.readGive h func off (wordBytesOf (s.half h).nv.result ((o - 0x5000) / 4) width)
  else if 0x100000 ≤ o ∧ o < 0x200000 then s.readGive h func off (memRead zeroByte (s.half h).nv.buffer (o - 0x100000) width)
  else if 0x800000 ≤ o ∧ o < 0x900000 then s.apertureRead h func (o - 0x800000) width
  else s.readGive h func off (zeros width)

/-! ## The PCIe capability and the standard's controls (R361, R370, R373, R374, R378, R379) -/

/-- A write of a DVSEC register. -/
def State.dvsecWrite (s : State) (o v : Nat) : State :=
  if o = 0x10 then s.wr PCI_EVENT (s.rd PCI_EVENT &&& ~~~ BitVec.ofNat 32 v)
  else if 0x40 ≤ o ∧ o < 0x440 then s.ctxFuncWrite ((o - 0x40) / 4) v
  else s

/-- A word of the DVSEC: its header as PCIe lays it out, then its registers. -/
def State.dvsecRead (s : State) (o : Nat) : Nat :=
  if o = 0 then 0x10023
  else if o = 4 then Config.vendorId % 2 ^ 16 + 2 ^ 16 + 0x440 * 2 ^ 20
  else if o = 8 then 1
  else if o < 0x440 then (s.rd (pciBase + o)).toNat
  else 0

/-- A function enters D3hot or leaves it (R378). -/
def State.setPm (s : State) (f : Nat) (d3 : Bool) : State :=
  let s1 := s.setFunc f { s.func f with d3 := d3 }
  if d3 && !(s.func f).d3 && (s.ctxsOf f).any s.ctxEn && !(s.func f).flr then s1.flr f else s1

/-- VF Enable and NumVFs: NumVFs changes only while VF Enable is 0; clearing VF Enable resets the virtual functions. -/
def State.sriovWrite (s : State) (v : Nat) : State :=
  let n := bits v 16 16
  if s.pcie.vfEnable then
    if bit v 0 then s
    else
      let s1 := (List.range s.pcie.numVfs).foldl (fun s i => if (s.func (i + 1)).flr then s else s.flr (i + 1)) s
      { s1 with pcie := { s1.pcie with vfEnable := false } }
  else if n ≤ 63 then { s with pcie := { s.pcie with numVfs := n, vfEnable := bit v 0 } } else s

/-! ### Capabilities of Table 13.1 and BARs (R361, R362)

PRESUMED (log entry 10): the places of the bits within a word are those of the PCI Express standard. -/

/-- Size of the BARs of Table 13.2: BAR0, BAR2 and BAR4. -/
def barSize (i : Nat) : Nat := if i = 0 then 0x04000000 else if i = 1 then 0x10000000 else 0x100000

/-- A write of one word of a 64-bit BAR: address bits below the size stay 0. -/
def barWrite (bars : List Nat) (k v : Nat) : List Nat :=
  let i := k / 2
  let old := bars.getD i 0
  let a := if k % 2 = 0 then old / 2 ^ 32 * 2 ^ 32 + v % 2 ^ 32 else old % 2 ^ 32 + v % 2 ^ 32 * 2 ^ 32
  bars.set i (a / barSize i * barSize i)

/-- A read of one word of a BAR: a 64-bit memory BAR, BAR2 prefetchable. -/
def barRead (bars : List Nat) (k : Nat) : Nat :=
  let a := bars.getD (k / 2) 0
  if k % 2 = 0 then a % 2 ^ 32 + 4 + (if k = 2 then 8 else 0) else a / 2 ^ 32 % 2 ^ 32

/-- Device Control as a write leaves it: Max Payload Size 128 to 512 bytes, Max Read Request Size 128 to 4,096 bytes, Relaxed Ordering. A size
that the device does not support is not taken (log entry 10). -/
def devCtlWrite (old v : Nat) : Nat :=
  let mps := if bits v 5 3 ≤ 2 then bits v 5 3 else bits old 5 3
  let mrrs := if bits v 12 3 ≤ 5 then bits v 12 3 else bits old 12 3
  16 * bits v 4 1 + 32 * mps + 4096 * mrrs

/-- A read-only word of the capabilities of Table 13.1, by its offset; those of the physical function alone read 0 elsewhere. -/
def capWord (f o : Nat) : Nat :=
  match o with
  | 0x50 => 31
  | 0x54 => 0x80004
  | 0x58 => 0x90004
  | 0x5C => 2
  | 0x64 => 0b1110 + 3 * 2 ^ 16
  | 0x6C => 3
  | 0x70 => 0b10 * 2 ^ 10
  | 0x74 => if f = 0 then 63 + 63 * 2 ^ 16 else 0
  | 0x78 => if f = 0 then 1 + 2 ^ 16 else 0
  | 0x7C => if f = 0 then 0x7C33 * 2 ^ 16 else 0
  | 0x80 => 20 * 2 ^ 8
  | 0x84 => 2 ^ 5
  | 0x88 => if f = 0 then 512 else 0
  | 0x8C => if f = 0 then 2 ^ 31 else 0
  | 0x90 => 0x10001
  | 0x94 => 0x1000E
  | _ => 0

/-- A write of one of the standard's controls of a function (log entry 10). -/
def State.pcieWrite (s : State) (f o v : Nat) : State :=
  let x := s.func f
  if !s.funcExists f then s
  else if o = 0x00 then (s.setFunc f { x with msixEn := bit v 0, msixMask := bit v 1 }).msixFlush f
  else if o = 0x04 then s.setPm f (bit v 0)
  else if o = 0x08 then s.setFunc f { x with pasidEn := bit v 0 }
  else if o = 0x0C then s.setFunc f { x with atsEn := bit v 0 }
  else if o = 0x60 then s.setFunc f { x with devCtl := devCtlWrite x.devCtl v }
  else if o = 0x68 then s.setFunc f { x with devCtl2 := bits v 0 4 + 4096 * bits v 12 1 }
  else if f ≠ 0 then s
  else if 0x20 ≤ o ∧ o < 0x38 then s.setFunc f { x with bars := barWrite x.bars ((o - 0x20) / 4) v }
  else if 0x38 ≤ o ∧ o < 0x50 then { s with pcie := { s.pcie with vfBars := barWrite s.pcie.vfBars ((o - 0x38) / 4) v } }
  else if o = 0x10 then (if bit v 0 then { s with pcie := { s.pcie with priEn := true } } else s.priEnd)
  else if o = 0x14 then { s with pcie := { s.pcie with priAlloc := v % 2 ^ 32 } }
  else if o = 0x18 then s.sriovWrite v
  else s

/-- A read of one of them; at 0x1C the identity of the physical function (R361). -/
def State.pcieRead (s : State) (f o : Nat) : Nat :=
  let x := s.func f
  if !s.funcExists f then 0
  else if o = 0x00 then b2n x.msixEn + 2 * b2n x.msixMask
  else if o = 0x04 then b2n x.d3
  else if o = 0x08 then b2n x.pasidEn
  else if o = 0x0C then b2n x.atsEn
  else if o = 0x60 then x.devCtl
  else if o = 0x68 then x.devCtl2
  else if 0x50 ≤ o then capWord f o
  else if f ≠ 0 then 0
  else if 0x20 ≤ o ∧ o < 0x38 then barRead x.bars ((o - 0x20) / 4)
  else if 0x38 ≤ o ∧ o < 0x50 then barRead s.pcie.vfBars ((o - 0x38) / 4)
  else if o = 0x10 then b2n s.pcie.priEn
  else if o = 0x14 then s.pcie.priAlloc
  else if o = 0x18 then b2n s.pcie.vfEnable + s.pcie.numVfs * 2 ^ 16
  else if o = 0x1C then Config.vendorId % 2 ^ 16 + 0x7C32 * 2 ^ 16
  else 0

/-! ## BAR4 (R365 to R370) -/

/-- A vector's mask bit is written: unmasking sends a pending message. -/
def State.vectorMask (s : State) (f e : Nat) (masked : Bool) : State :=
  let x := s.func f
  (s.setFunc f { x with unmasked := if masked then x.unmasked.filter (· != e) else insertNat e x.unmasked }).msixFlush f

/-- A write of a doorbell page or of the MSI-X table. -/
def State.bar4Write (s : State) (f o v : Nat) : State :=
  if o < 0x80000 then
    if o % 0x800 = 0 then s.sqBell f (o / 0x800) v else if o % 0x800 = 4 then s.cqBell f (o / 0x800) v else s
  else if o < 0x80200 then
    let k := (o - 0x80000) / 4
    if k % 4 = 3 then s.vectorMask f (k / 4) (bit v 0)
    else { s with pcie := { s.pcie with msixTable := mapSet (fun _ => 0) s.pcie.msixTable (128 * f + k) (BitVec.ofNat 32 v) } }
  else s

/-- A read of BAR4: doorbell pages read zero. -/
def State.bar4Read (s : State) (f o : Nat) : Nat :=
  if 0x80000 ≤ o ∧ o < 0x80200 then
    let k := (o - 0x80000) / 4
    if k % 4 = 3 then b2n (!(s.func f).unmasked.contains (k / 4)) else (mapGet (fun _ => 0) s.pcie.msixTable (128 * f + k)).toNat
  else if o = 0x90000 then (s.func f).pendBits.foldl (fun n e => n ||| 2 ^ e) 0
  else 0

/-! ## Accesses (R32, R363, R422) -/

/-- May the block be reached: every block once the boot has ended, the identity and the boot and security blocks in recovery (R422)? -/
def State.reachable (s : State) (o : Nat) : Bool := s.live || (s.stage == .recovery && (blockOf o == 0 || blockOf o == 9))

/-- Is the waiting access a held write of a register (R32)? -/
def HeldAcc.isHeldWrite (a : HeldAcc) : Bool := a.bar2.isNone && a.write.isSome

/-- Does a register access have to wait: its domain is off, or a write of the half's switched blocks is held (R32)? A read that waits keeps
nothing else waiting. -/
def State.mustWait (s : State) (h : Half) (o : Nat) : Bool :=
  match regDom h o with
  | none => false
  | some d => !s.domOn d || (s.half h).accesses.any HeldAcc.isHeldWrite

/-- An access of BAR0 takes place in its half: of the weight window, or of a register. -/
def State.accessDo (s : State) (h : Half) (a : HeldAcc) : State :=
  let o := a.off % 0x02000000
  match a.write with
  | some v => if 0x01000000 ≤ o then s.windowWrite a.func h (o - 0x01000000) a.width v else s.regWrite a.func h o v
  | none =>
    if 0x01000000 ≤ o then s.windowRead a.func h (o - 0x01000000) a.width
    else
      let p := s.regRead a.func h o
      p.1.readGive h a.func a.off (leBytes 4 p.2)

/-- An access has reached its half: it takes place, or waits (R32). A read that waits already waits on. -/
def State.accessIn (s : State) (h : Half) (a : HeldAcc) : State :=
  match a.bar2 with
  | some (wr, chk) => s.bar2Here a.func a.off a.width wr chk
  | none =>
    let o := a.off % 0x02000000
    let waits := (s.half h).accesses.contains a && a.write.isNone
    if o < 0x01000000 ∧ s.mustWait h o then
      (if waits then s else s.modHalf h (fun x => { x with accesses := x.accesses ++ [a] }))
    else (if waits then s.modHalf h (fun x => { x with accesses := x.accesses.erase a }) else s).accessDo h a

/-- Is a read on its way to East, or its answer on the way back? -/
def State.readTravels (s : State) (a : HeldAcc) : Bool :=
  s.east.control.contains (.access a) || s.west.control.any (fun m => match m with
    | .answer f off _ => f == a.func && off == a.off
    | _ => false)

/-- An access of BAR0 goes to its half: to East over the Passage, in the Control class (R16, R26; log entry 63). -/
def State.accessGo (s : State) (a : HeldAcc) : State :=
  if a.off < 0x02000000 then s.accessIn .west a
  else if a.write.isSome then s.passControl .east (.access a)
  else if s.east.accesses.contains a then s.accessIn .east a
  else if s.readTravels a then s else s.passControl .east (.access a)

/-- Can a BAR0 access be taken at all: registers by aligned 32-bit accesses (R363)? The weight window judges for itself. -/
def bar0Ok (off width : Nat) : Bool := decide (0x01000000 ≤ off % 0x02000000) || (decide (width = 4) && decide (off % 4 = 0))

/-- May an offset of BAR0 be reached now: a register under R422, the weight window once the boot has ended? -/
def State.bar0Reach (s : State) (off : Nat) : Bool :=
  if 0x01000000 ≤ off % 0x02000000 then s.live else s.reachable (off % 0x02000000)

/-- A write access of a function, `width` bytes wide. -/
def State.hostWrite (s : State) (func off width v : Nat) : State :=
  if 0x05000000 ≤ off ∧ off < 0x08000000 then s.pcieWrite func (off - 0x05000000) v
  else if 0x04000000 ≤ off ∧ off < 0x05000000 then (if func = 0 then s.dvsecWrite (off - 0x04000000) v else s)
  else if !s.funcExists func ∨ 0x08100000 ≤ off then s
  else if !s.funcActive func then s.badAccess func off width true v
  else if 0x08000000 ≤ off then
    if width = 4 ∧ off % 4 = 0 then s.bar4Write func (off - 0x08000000) v else s.badAccess func off width true v
  else if !bar0Ok off width then s.badAccess func off width true v
  else if !s.bar0Reach off then s
  else s.accessGo { func := func, off := off, width := width, write := some v }

/-- A read access of a function, `width` bytes wide. -/
def State.hostRead (s : State) (func off width : Nat) : State :=
  let give (s : State) (v : Nat) : State := s.send (.readDone func off (leBytes width v))
  if 0x05000000 ≤ off ∧ off < 0x08000000 then give s (s.pcieRead func (off - 0x05000000))
  else if 0x04000000 ≤ off ∧ off < 0x05000000 then give s (if func = 0 then s.dvsecRead (off - 0x04000000) else 0)
  else if !s.funcExists func ∨ 0x08100000 ≤ off then s
  else if !s.funcActive func then s.badAccess func off width false 0
  else if 0x08000000 ≤ off then
    if width = 4 ∧ off % 4 = 0 then give s (s.bar4Read func (off - 0x08000000)) else s.badAccess func off width false 0
  else if !bar0Ok off width then s.badAccess func off width false 0
  else if !s.bar0Reach off then give s 0
  else s.accessGo { func := func, off := off, width := width }

/-- The host port is up: past the boot or in recovery (R422). -/
def State.hostUp (s : State) : Bool := s.live || s.stage == .recovery

/-- REGISTER_WRITE (R12, R32). -/
def execRegisterWrite (func off width v : Nat) (s : State) : Host.Outcome State Fault Refusal :=
  .next (if s.hostUp then s.hostWrite func off width v else s)

/-- May a waiting access of a half go: its domain is on? -/
def State.accessReady (s : State) (h : Half) (a : HeldAcc) : Bool :=
  match a.bar2 with
  | some _ => s.domOn (bankDom h (a.off % 0x08000000 / 0x800000))
  | none => match regDom h (a.off % 0x02000000) with
    | some d => s.domOn d
    | none => true

/-- A waiting access takes place. -/
def State.accessRun (s : State) (h : Half) (a : HeldAcc) : State :=
  match a.bar2 with
  | some (wr, chk) => s.bar2Here a.func a.off a.width wr chk
  | none => s.accessDo h a

/-- The first waiting access that may go: its domain is on, and no held write of a register stands before it (accesses of BAR2 wait for their
bank alone). -/
def State.accessNext (s : State) (h : Half) : List HeldAcc → Option HeldAcc
  | [] => none
  | a :: q =>
    if s.accessReady h a then some a
    else if a.isHeldWrite then q.find? (fun b => b.bar2.isSome && s.accessReady h b)
    else s.accessNext h q

/-- Waiting accesses of a half take place, in order behind a held write. -/
def State.accessDrain (s : State) (h : Half) : Nat → State
  | 0 => s
  | k + 1 => match s.accessNext h (s.half h).accesses with
    | none => s
    | some a => State.accessDrain ((s.modHalf h (fun x => { x with accesses := x.accesses.erase a })).accessRun h a) h k

/-- HELD_WRITE_APPLY (R32): the domain of the held write has woken. -/
def execHeldWriteApply (h : Half) (s : State) : Host.Outcome State Fault Refusal :=
  whenLive s (fun s => s.accessDrain h (s.half h).accesses.length)

/-- The host gives a read up: what waits or travels of it is dropped (R32). -/
def State.readDrop (s : State) (func off : Nat) : State :=
  let keepAcc (a : HeldAcc) : Bool := !(a.func == func && a.off == off && a.bar2.isNone && a.write.isNone)
  let keepMsg (m : PassMsg) : Bool := match m with
    | .access a => keepAcc a
    | .answer f o _ => !(f == func && o == off)
    | _ => true
  let drop (x : HalfState) : HalfState := { x with accesses := x.accesses.filter keepAcc, control := x.control.filter keepMsg }
  (s.modHalf .west drop).modHalf .east drop

/-- DEFERRED_READ_COMPLETE (R32): the read completes when its domain is on; a read whose completion timeout has fired at the host is dropped. -/
def execDeferredReadComplete (func off width : Nat) (timedOut : Bool) (s : State) : Host.Outcome State Fault Refusal :=
  .next (if !s.hostUp then s else if timedOut then s.readDrop func off else s.hostRead func off width)

end Sys2Proof.Machine
end

