-- ==== Sys2Proof/Machine/Mgmt.lean ====
section
/-! DEFINITION. Management over the Causeway (R323 to R325, R343 to R346): EPOCH and master, register accesses of the master, notices, heartbeats,
and the power budget. A row carries the message that a MGMT flit has brought to West (log entry 42). -/

namespace Sys2Proof.Machine

/-! ## Messages -/

/-- EPOCH, master and role of the device. -/
def State.epoch (s : State) : Nat := s.rf CSW_MASTER_STATUS CSW_MASTER_STATUS.EPOCH
def State.master (s : State) : Nat := s.rf CSW_MASTER_STATUS CSW_MASTER_STATUS.MASTER
def State.role (s : State) : Nat := s.rf CSW_MASTER_STATUS CSW_MASTER_STATUS.ROLE
def State.setRole (s : State) (v : Nat) : State := s.wf CSW_MASTER_STATUS CSW_MASTER_STATUS.ROLE v

/-- Does the management controller do a master's duties now: it is the master and runs? -/
def State.mastering (s : State) : Bool := s.role == 1 && !s.power.mgmtRestarting

/-- A management message is sent to a node (Tables 12.5, 12.6). -/
def State.mgmtSend (s : State) (dest sub : Nat) (payload : List Byte) : State :=
  s.sourceFlit .west (mkFlit 0 4 dest 0 s.nodeId 0 0 0 sub s.epoch payload)

/-- The fields of a message, one 32-bit word each. -/
def mgmtWords (l : List Nat) : List Byte := l.flatMap (leBytes 4)

/-- The master changes: the event is set (Table 12.12). -/
def State.setMaster (s : State) (node : Nat) : State :=
  if s.master = node then s
  else (s.wf CSW_MASTER_STATUS CSW_MASTER_STATUS.MASTER node).wf (CSW_EVENT .west) CSW_EVENT.TAKEOVER 1

/-- What every management message does first (R324): a higher EPOCH is adopted with its sender as master, and a master that learns of another one
is DEPOSED; a lower EPOCH is answered with REJECT_EPOCH. The flag says that the message is not discarded. -/
def State.mgmtHear (s : State) (src epoch : Nat) : State × Bool :=
  if s.epoch < epoch then
    let s1 := (s.wf CSW_MASTER_STATUS CSW_MASTER_STATUS.EPOCH epoch).setMaster src
    ((if s.role = 1 then s1.setRole 3 else s1), true)
  else if epoch < s.epoch then (s.mgmtSend src 7 (mgmtWords [s.epoch, s.master]), false)
  else (s, true)

/-- A message that only the current master may send is refused (R325). -/
def State.mgmtRefused (s : State) (src : Nat) : State :=
  (s.wf (CSW_EVENT .west) CSW_EVENT.MGMT_REFUSED 1).log .west { logSoft 8 src with event := 3 }

/-- A message of the master's: what it does when its sender is the current master with the current EPOCH. -/
def State.fromMaster (s : State) (src epoch : Nat) (f : State → State) : State :=
  let p := s.mgmtHear src epoch
  if p.2 ∧ p.1.master = src then f p.1 else p.1.mgmtRefused src

/-- A command of the management plane: the management controller acts on it, or does so after its restart (R28). -/
def whenMgmt (i : Instr) (s : State) (f : State → State) : Host.Outcome State Fault Refusal :=
  whenLive s (fun s =>
    if s.power.mgmtRestarting then { s with csw := { s.csw with held := s.csw.held ++ [.cmd i] } } else f s)

/-! ## Register accesses (R343, R344) -/

/-- The offset of an access in the numbering of host accesses. -/
def mgmtOff (space off : Nat) : Nat := if space = 4 then 0x08000000 + off else off

/-- The half that a word belongs to; BAR4 lies in West. -/
def mgmtHalf (space off : Nat) : Half :=
  if space = 2 then Half.ofNum (off / 0x08000000) else if space = 0 then Half.ofNum (off / 0x02000000) else .west

/-- Is a word a register of a switched block? -/
def mgmtSwitched (space off : Nat) : Bool := space == 0 && (regDom (mgmtHalf space off) (off % 0x02000000)).isSome

/-- Can a word be accessed now: its domain is on, no held write stands before it (R32), and to East the Passage is up with nothing before it in the
Control class (R16, R21)? DEDUCED (log entry 42): an access of East and its answer are one exchange. -/
def State.mgmtWord (s : State) (space off : Nat) : Bool :=
  let h := mgmtHalf space off
  (if space = 2 then s.domOn (bankDom h (off % 0x08000000 / 0x800000))
    else !(space == 0 && s.mustWait h (off % 0x02000000))) &&
  (h == .west || (s.passOn && s.east.control.isEmpty))

/-- Offset of a word in the aperture of a half, where it lies there. -/
def mgmtAperture (space off : Nat) : Option (Half × Nat) :=
  let o := off % 0x02000000
  if space = 0 ∧ off < 0x04000000 ∧ 0x01800000 ≤ o ∧ o < 0x01900000 then some (Half.ofNum (off / 0x02000000), o - 0x01800000) else none

/-- Is a word of the aperture still to be sensed? -/
def State.mgmtSense (s : State) (space off : Nat) : Bool :=
  match mgmtAperture space off with
  | none => false
  | some (h, o) => (s.half h).nv.host.cont.isSome && !(s.half h).nv.sensed.any (fun e => e.1 == o / 1024)

/-- Words of an access. -/
def MgmtAcc.offs (a : MgmtAcc) : List Nat := (List.range a.count).map (fun i => a.off + 4 * i)

/-- May an access take place: every word can be accessed, and a read of the aperture has its row? -/
def State.mgmtReady (s : State) (a : MgmtAcc) : Bool :=
  a.offs.all (fun o => s.mgmtWord a.space o && !(a.write.isNone && s.mgmtSense a.space o))

/-- Does an access wait behind an earlier one: a write of a switched block of the same half (R32)? -/
def MgmtAcc.behind (a e : MgmtAcc) : Bool :=
  e.write.isSome && a.offs.any (fun o => mgmtSwitched a.space o &&
    e.offs.any (fun p => mgmtSwitched e.space p && mgmtHalf e.space p == mgmtHalf a.space o))

/-- One word read for the master. -/
def State.mgmtGet (s : State) (space off : Nat) : State × Nat :=
  let h := Half.ofNum (off / 0x02000000)
  let o := off % 0x02000000
  if space = 2 then
    let g := mgmtHalf 2 off
    let a := off % 0x08000000
    let p := s.scan g 1 a 4 {}
    (p.2.foldl (fun s w => s.logWord g 1 w (s.t1Handle g (4 * w))) p.1, leNat (s.memBytes g 1 a 4))
  else if space = 4 then (s, s.bar4Read 0 off)
  else if o < 0x01000000 then s.regRead 0 h o
  else if 0x01004000 ≤ o ∧ o < 0x01004080 then (s, (mapGet (fun _ => 0) (s.half h).nv.param ((o - 0x01004000) / 4)).toNat)
  else if 0x01005000 ≤ o ∧ o < 0x01005200 then (s, (mapGet (fun _ => 0) (s.half h).nv.result ((o - 0x01005000) / 4)).toNat)
  else if 0x01100000 ≤ o ∧ o < 0x01200000 then (s, leNat (memRead zeroByte (s.half h).nv.buffer (o - 0x01100000) 4))
  else match mgmtAperture space off with
    | some (g, x) => match (s.half g).nv.sensed.find? (fun e => e.1 == x / 1024) with
      | some e => (s, leNat (slice e.2 (x % 1024) 4))
      | none => (s, 0)
    | none => (s, 0)

/-- One word written for the master, by its byte enables. -/
def State.mgmtPut (s : State) (space off be : Nat) (v : Word) : State :=
  let shift := if be = 0b0110 then 1 else if be = 0b1100 then 2 else 0
  let width := if be = 0b1111 then 4 else 2
  let x := bits v.toNat (8 * shift) (8 * width)
  if space = 2 then s.bar2Here 0 (off + shift) width (some (leBytes width x)) {}
  else if space = 0 ∧ 0x02000000 ≤ off ∧ bar0Ok (off + shift) width then
    s.accessIn .east { func := 0, off := off + shift, width := width, write := some x }
  else s.hostWrite 0 (mgmtOff space off + shift) width x

/-- An access takes place and is answered. -/
def State.mgmtRun (s : State) (a : MgmtAcc) : State :=
  match a.write with
  | none =>
    let r := a.offs.foldl (fun (p : State × List Nat) o => let q := p.1.mgmtGet a.space o; (q.1, p.2 ++ [q.2])) (s, [])
    r.1.mgmtSend a.src 3 (mgmtWords ([a.tag, 0] ++ r.2))
  | some ws =>
    let t := (a.offs.zip ws).foldl (fun s e => s.mgmtPut a.space e.1 a.be e.2) s
    t.mgmtSend a.src 3 (mgmtWords [a.tag, 0])

/-- Bytes of a space: BAR0, BAR2 and BAR4 (Table 13.2). -/
def mgmtSpace (space : Nat) : Nat :=
  if space = 0 then 0x04000000 else if space = 2 then 0x10000000 else if space = 4 then 0x00100000 else 0

/-- Can the access be carried out at all: SPACE, COUNT, a word offset inside the space (DESIGN CHOICE, log entry 42), and the byte enables of
R344? -/
def MgmtAcc.ok (a : MgmtAcc) : Bool :=
  decide (1 ≤ a.count) && decide (a.count ≤ 48) && decide (a.off % 4 = 0) && decide (a.off + 4 * a.count ≤ mgmtSpace a.space) &&
  (match a.write with
    | none => true
    | some ws => decide (ws.length = a.count) && (a.be == 0b1111 || a.be == 0b0011 || a.be == 0b0110 || a.be == 0b1100))

/-- The first waiting access that may take place. -/
def State.mgmtNext (s : State) (before : List MgmtAcc) : List MgmtAcc → Option MgmtAcc
  | [] => none
  | a :: q => if s.mgmtReady a && !before.any a.behind then some a else s.mgmtNext (before ++ [a]) q

/-- Accesses that wait take place as they may; none during a restart of the management controller (R28). -/
def State.mgmtDrain (s : State) : Nat → State
  | 0 => s
  | k + 1 => if s.power.mgmtRestarting then s else match s.mgmtNext [] s.csw.acc with
    | none => s
    | some a => State.mgmtDrain (({ s with csw := { s.csw with acc := s.csw.acc.erase a } } : State).mgmtRun a) k

/-- An access of the master arrives: REFUSED, carried out at once, or left to wait. -/
def State.mgmtAccess (s : State) (a : MgmtAcc) : State :=
  if !a.ok then s.mgmtSend a.src 3 (mgmtWords [a.tag, 2])
  else
    let s1 : State := { s with csw := { s.csw with acc := s.csw.acc ++ [a] } }
    s1.mgmtDrain s1.csw.acc.length

/-- A REG_READ of the master. -/
def State.readAsked (s : State) (src epoch space off count tag : Nat) : State :=
  s.fromMaster src epoch (fun s =>
    s.mgmtAccess { src := src, tag := tag, space := space, off := off, count := count, be := 15, write := none })

/-- A REG_WRITE of the master. -/
def State.writeAsked (s : State) (src epoch space off be tag : Nat) (words : List Word) : State :=
  s.fromMaster src epoch (fun s =>
    s.mgmtAccess { src := src, tag := tag, space := space, off := off, count := words.length, be := be, write := some words })

/-- An access that waits is answered with TIMEOUT. -/
def State.accessTimeout (s : State) (tag : Nat) : State :=
  match s.csw.acc.find? (fun a => a.tag == tag) with
  | some a => ({ s with csw := { s.csw with acc := s.csw.acc.erase a } } : State).mgmtSend a.src 3 (mgmtWords [a.tag, 1])
  | none => s

/-- REG_READ. -/
def execRegRead (src epoch space off count tag : Nat) (s : State) : Host.Outcome State Fault Refusal :=
  whenMgmt (.regRead src epoch space off count tag) s (fun s => s.readAsked src epoch space off count tag)

/-- REG_WRITE. -/
def execRegWrite (src epoch space off be tag : Nat) (words : List Word) (s : State) : Host.Outcome State Fault Refusal :=
  whenMgmt (.regWrite src epoch space off be tag words) s (fun s => s.writeAsked src epoch space off be tag words)

/-- MGMT_ACCESS_TIMEOUT (R343): 1 ms after its arrival an access still waits. -/
def execMgmtAccessTimeout (tag : Nat) (s : State) : Host.Outcome State Fault Refusal :=
  whenMgmt (.mgmtAccessTimeout tag) s (fun s => s.accessTimeout tag)

/-! ## The master's duties towards host-less members (R323) -/

/-- A number of free values. -/
def State.freeList (s : State) : Nat → State × List Nat
  | 0 => (s, [])
  | n + 1 => let r := s.fresh.2.freeList n; (r.1, s.fresh.1 :: r.2)

/-- A REG_WRITE of the master to a member. -/
def State.memberWrite (s : State) (node space off be tag : Nat) (words : List Nat) : State :=
  s.mgmtSend node 2 (mgmtWords ([space, off, words.length, be, tag] ++ words))

/-- The firmware of the master manages a host-less member: it sends it a REG_READ or a REG_WRITE, or nothing. What it asks for is the firmware's
own: free values (DESIGN CHOICE, log entry 86). -/
def State.manage (s : State) (node : Nat) : State :=
  let p := s.freeList 5
  let v (i : Nat) : Nat := p.2.getD i 0
  let space := [0, 2, 4].getD (v 1 % 3) 0
  let off := 4 * (v 2 % (mgmtSpace space / 4))
  let count := min (1 + v 3 % 48) ((mgmtSpace space - off) / 4)
  match v 0 % 3 with
  | 0 => p.1
  | 1 => p.1.mgmtSend node 1 (mgmtWords [space, off, count, v 4 % 2 ^ 32])
  | _ =>
    let q := p.1.freeList (count + 1)
    let be := [15, 3, 6, 12].getD (q.2.getD 0 0 % 4) 15
    q.1.memberWrite node space off be (v 4 % 2 ^ 32) ((q.2.drop 1).map (fun x => x % 2 ^ 32))

/-- The master gives NV_WALL_MINUTES of its halves to the members that have not had it (R105), once it has a value itself (log entry 86). -/
def State.supplyWall (s : State) : State :=
  if s.wall .west = 0 then s
  else
    let due := s.csw.members.filter (fun m => !m.2)
    let s1 : State := { s with csw := { s.csw with members := s.csw.members.map (fun m => (m.1, true)) } }
    due.foldl (fun s m => [Half.west, .east].foldl (fun s h =>
      s.memberWrite m.1 0 (0x02000000 * h.num + 0xC01008) 15 0 [s.wall h]) s) s1

/-- The master hears of a host-less member. -/
def State.memberSeen (s : State) (node : Nat) : State :=
  if s.csw.members.any (fun m => m.1 == node) then s
  else { s with csw := { s.csw with members := s.csw.members ++ [(node, false)] } }

/-- A REG_RESP is kept for the master's firmware, which goes on. -/
def State.respIn (s : State) (src epoch tag status : Nat) (words : List Word) : State :=
  let p := s.mgmtHear src epoch
  if p.2 ∧ p.1.role = 1 then
    State.manage { p.1 with csw := { p.1.csw with resps := p.1.csw.resps ++ [(src, tag, status, words)] } } src
  else p.1

/-- REG_RESP. -/
def execRegResp (src epoch tag status : Nat) (words : List Word) (s : State) : Host.Outcome State Fault Refusal :=
  whenMgmt (.regResp src epoch tag status words) s (fun s => s.respIn src epoch tag status words)

/-! ## Notices and heartbeats (R324, R343) -/

/-- A NOTIFY is kept for the master's firmware, which serves the member. -/
def State.notifyIn (s : State) (src epoch : Nat) (payload : List Byte) : State :=
  let p := s.mgmtHear src epoch
  if p.2 ∧ p.1.role = 1 then
    ((State.memberSeen { p.1 with csw := { p.1.csw with notices := p.1.csw.notices ++ [(src, payload)] } } src).supplyWall).manage src
  else p.1

/-- NOTIFY. -/
def execNotify (src epoch : Nat) (payload : List Byte) (s : State) : Host.Outcome State Fault Refusal :=
  whenMgmt (.notify src epoch payload) s (fun s => s.notifyIn src epoch payload)

/-- A host-less device sends what it would have told a host (R343). -/
def State.notesFlush (s : State) : State :=
  if s.power.mgmtRestarting then s
  else s.csw.notes.foldl (fun s b => s.mgmtSend s.master 4 b) { s with csw := { s.csw with notes := [] } }

/-- HEARTBEAT. -/
def execHeartbeat (src epoch : Nat) (s : State) : Host.Outcome State Fault Refusal :=
  whenMgmt (.heartbeat src epoch) s (fun s => (s.mgmtHear src epoch).1)

/-- HEARTBEAT_MS has passed at the master. -/
def State.heartbeatDue (s : State) : State :=
  if s.role = 1 ∧ s.on CSW_MASTER_CFG CSW_MASTER_CFG.BACKUP_EN then s.mgmtSend (s.rf CSW_MASTER_CFG CSW_MASTER_CFG.BACKUP) 5 [] else s

/-- HEARTBEAT_TIMER. -/
def execHeartbeatTimer (s : State) : Host.Outcome State Fault Refusal := whenMgmt .heartbeatTimer s State.heartbeatDue

/-- Nodes of West's route table whose entry is usable (R335), but for this one. -/
def State.routedNodes (s : State) : List Nat :=
  ((s.regs.filter (fun e => decide (CSW_ROUTE .west 0 ≤ e.1) && decide (e.1 < CSW_ROUTE .west 16384))).map
    (fun e => (e.1 - CSW_ROUTE .west 0) / 4)).filter (fun n => n != s.nodeId && s.route .west n != .none)

/-- LOSS_MS have passed at the backup without a HEARTBEAT: it becomes master. -/
def State.becomeMaster (s : State) : State :=
  if s.role = 2 ∧ s.on CSW_MASTER_CFG CSW_MASTER_CFG.BACKUP_EN then
    let s1 := ((s.wf CSW_MASTER_STATUS CSW_MASTER_STATUS.EPOCH (s.epoch + 1)).setMaster s.nodeId).setRole 1
    s1.routedNodes.foldl (fun s n => s.mgmtSend n 6 []) s1
  else s

/-- HEARTBEAT_LOSS. -/
def execHeartbeatLoss (s : State) : Host.Outcome State Fault Refusal := whenMgmt .heartbeatLoss s State.becomeMaster

/-- TAKEOVER. -/
def execTakeover (src epoch : Nat) (s : State) : Host.Outcome State Fault Refusal :=
  whenMgmt (.takeover src epoch) s (fun s => (s.mgmtHear src epoch).1)

/-- A master that receives REJECT_EPOCH is DEPOSED. The EPOCH and master that it names are those of its header and sender (R324). -/
def State.rejectIn (s : State) (src epoch : Nat) : State :=
  let p := s.mgmtHear src epoch
  if s.role = 1 ∧ p.2 then p.1.setRole 3 else p.1

/-- REJECT_EPOCH. -/
def execRejectEpoch (src epoch cur master : Nat) (s : State) : Host.Outcome State Fault Refusal :=
  whenMgmt (.rejectEpoch src epoch cur master) s (fun s => s.rejectIn src epoch)

/-! ## The power budget (R345, R346) -/

/-- A grant is applied as the device's cap, limited to the board's range (R346, R393); GRANT_W shows it as far as its bits hold. -/
def State.grantTake (s : State) (w : Nat) : State :=
  let show' (s : State) (h : Half) : State :=
    (s.wf (CSW_BUDGET_STATUS h) CSW_BUDGET_STATUS.GRANT_W (min w 1023)).wf (CSW_BUDGET_STATUS h) CSW_BUDGET_STATUS.REVERTED 0
  State.showCap { show' (show' s .west) .east with power := { s.power with grant := some w } }

/-- The cap last granted to a node: before the first grant, the cap it reported. -/
def State.lastGrant (s : State) (r : Nat × Nat × Nat × Nat) : Nat :=
  match s.csw.grants.find? (fun e => e.1 == r.1) with
  | some e => e.2
  | none => r.2.2.1

/-- A report is kept: the newest of each node. -/
def State.reportIn (s : State) (node measured cap slack : Nat) : State :=
  { s with csw := { s.csw with reports := s.csw.reports.filter (fun r => r.1 != node) ++ [(node, measured, cap, slack)] } }

/-- The grant of one node: a free value that moves a grant by no more than STEP_W, up for the lowest slack and down for the highest, and keeps the
sum of the grants within MACHINE_KW. Where MACHINE_KW has been written lower than that sum, a grant falls by STEP_W (log entry 31). -/
def State.grantOne (s : State) (r : Nat × Nat × Nat × Nat) : State :=
  let rs := s.csw.reports
  let others := s.csw.grants.filter (fun e => e.1 != r.1)
  let room := 1000 * s.rf CSW_BUDGET_CFG CSW_BUDGET_CFG.MACHINE_KW - (others.map Prod.snd).foldl (· + ·) 0
  let stepW := s.rf CSW_BUDGET_CFG CSW_BUDGET_CFG.STEP_W
  let old := s.lastGrant r
  let step := s.fresh.1 % (stepW + 1)
  let low := rs.any (fun x => decide (r.2.2.2 < x.2.2.2)) && rs.all (fun x => decide (r.2.2.2 ≤ x.2.2.2))
  let high := rs.any (fun x => decide (x.2.2.2 < r.2.2.2)) && rs.all (fun x => decide (x.2.2.2 ≤ r.2.2.2))
  let want := min room (if low then old + step else if high then old - step else old)
  let w := if s.csw.grants.any (fun e => e.1 == r.1) then max (old - stepW) want else want
  let s1 := { s.fresh.2 with csw := { s.csw with grants := others ++ [(r.1, w)] } }
  if r.1 = s.nodeId then s1.grantTake w else s1.mgmtSend r.1 9 (mgmtWords [w])

/-- Does a running node only wait for other devices: for Causeway receive data, itself or through a ring whose producer does (stall cause 3 of
Table 9.4), or on a barrier (R345)? -/
def State.waitsOnOthers (s : State) (r : NodeRef) (n : Node) : Bool :=
  let h := n.half
  let ringWaits (q : Nat) : Bool := s.consumerWaits h q && s.stallCause h q 0 == 3
  (n.kind == 6 && (n.cswOp == 2 ||
    ((n.cswOp == 4 || n.cswOp == 6) && n.cswQueues.all (fun q => !s.recordMoves h q n.cswRow)))) ||
  (s.engines.any (fun e => (e.2.node == some r) && s.moving e.1 &&
    (s.engCause e.1 0 == 3 || (dscSrcKind e.2.desc == 6 && ringWaits (dscSrc e.2.desc))))) ||
  ((s.half h).plaza.node == some r && (s.ringsOf h).any (fun q => (s.ring h q).consumer == some .plaza && ringWaits q))

/-- Does neither half run a node but such as wait for other devices? -/
def State.slackNow (s : State) : Bool :=
  (s.nodesWhere (fun _ n => n.phase == .running)).all (fun e => s.waitsOnOthers e.1 e.2)

/-- One microsecond of the budget period. -/
def State.tickBudget (s : State) : State :=
  { s with csw := { s.csw with periodUs := s.csw.periodUs + 1, slackUs := s.csw.slackUs + b2n s.slackNow } }

/-- SLACK_PERMILLE of the period that ends; of a period without a microsecond, the state of the moment (log entry 31). -/
def State.slack (s : State) : Nat :=
  if s.csw.periodUs = 0 then 1000 * b2n s.slackNow else 1000 * s.csw.slackUs / s.csw.periodUs

/-- The master's duties of a period: the grants, NV_WALL_MINUTES for new members, and what its firmware asks of a member. -/
def State.masterPeriod (s : State) : State :=
  let s1 := (s.csw.reports.foldl State.grantOne s).supplyWall
  let ms := s1.routedNodes
  match ms[s1.fresh.1 % ms.length]? with
  | some m => s1.fresh.2.manage m
  | none => s1

/-- A period's report: to the master, or kept by it, and then the master's duties (R323, R345, R346). -/
def State.periodReport (s : State) (measured cap slack why : Nat) : State :=
  if s.role = 1 then (s.reportIn s.nodeId measured cap slack).masterPeriod
  else s.mgmtSend s.master 8 (mgmtWords [measured, cap, slack, why])

/-- BUDGET_PERIOD: PERIOD_MS has passed. The report waits for the end of a restart (R28). -/
def execBudgetPeriod (measuredW : Nat) (s : State) : Host.Outcome State Fault Refusal :=
  whenLive s (fun s =>
    let cap := s.rf PWR_CAP PWR_CAP.EFFECTIVE_W
    let why := s.csw.reasons ||| s.reasons
    let k := s.slack
    let s1 := ({ s with csw := { s.csw with reasons := 0, periodUs := 0, slackUs := 0 } } : State).wf (CSW_BUDGET_STATUS .west)
      CSW_BUDGET_STATUS.SLACK_PERMILLE k
    let s2 := s1.wf (CSW_BUDGET_STATUS .east) CSW_BUDGET_STATUS.SLACK_PERMILLE k
    if s.power.mgmtRestarting then { s2 with csw := { s2.csw with held := s2.csw.held ++ [.period measuredW cap k why] } }
    else s2.periodReport measuredW cap k why)

/-- A report of a member. -/
def State.reportHeard (s : State) (src epoch measuredW capW slack : Nat) : State :=
  let p := s.mgmtHear src epoch
  if p.2 ∧ p.1.role = 1 then p.1.reportIn src measuredW capW slack else p.1

/-- BUDGET_REPORT. -/
def execBudgetReport (src epoch measuredW capW slack reasons : Nat) (s : State) : Host.Outcome State Fault Refusal :=
  whenMgmt (.budgetReport src epoch measuredW capW slack reasons) s (fun s => s.reportHeard src epoch measuredW capW slack)

/-- BUDGET_GRANT (R325, R346). -/
def execBudgetGrant (src epoch capW : Nat) (s : State) : Host.Outcome State Fault Refusal :=
  whenMgmt (.budgetGrant src epoch capW) s (fun s => s.fromMaster src epoch (fun s => s.grantTake capW))

/-- BUDGET_REVERT (R346): 10 periods without a grant; the cap of the host or the configuration applies again. -/
def execBudgetRevert (s : State) : Host.Outcome State Fault Refusal :=
  whenLive s (fun s =>
    if s.power.grant.isSome then
      let show' (s : State) (h : Half) : State := s.wf (CSW_BUDGET_STATUS h) CSW_BUDGET_STATUS.REVERTED 1
      let s1 := (show' (show' s .west) .east).wf (CSW_EVENT .west) CSW_EVENT.BUDGET_REVERT 1
      State.showCap { s1 with power := { s1.power with grant := none } }
    else s)

/-! ## The end of a restart (R28, R425, R426) -/

/-- What waited for the end of the restart is done. -/
def State.mgmtDo (s : State) : MgmtOp → State
  | .period m cap k why => s.periodReport m cap k why
  | .cmd i => match i with
    | .regRead src ep space off count tag => s.readAsked src ep space off count tag
    | .regWrite src ep space off be tag words => s.writeAsked src ep space off be tag words
    | .mgmtAccessTimeout tag => s.accessTimeout tag
    | .regResp src ep tag status words => s.respIn src ep tag status words
    | .notify src ep payload => s.notifyIn src ep payload
    | .heartbeat src ep => (s.mgmtHear src ep).1
    | .heartbeatTimer => s.heartbeatDue
    | .heartbeatLoss => s.becomeMaster
    | .takeover src ep => (s.mgmtHear src ep).1
    | .rejectEpoch src ep _ _ => s.rejectIn src ep
    | .budgetReport src ep m cap k _ => s.reportHeard src ep m cap k
    | .budgetGrant src ep cap => s.fromMaster src ep (fun s => s.grantTake cap)
    | _ => s

/-- All that waited, in order. -/
def State.mgmtResume (s : State) : State :=
  s.csw.held.foldl State.mgmtDo { s with csw := { s.csw with held := [] } }

/-- MGMT_RESTART_DONE: the image that R425 selects runs, a request in the mailbox is served, and what waited is done. -/
def execMgmtRestartDone (s : State) : Host.Outcome State Fault Refusal :=
  whenLive s (fun s =>
    if s.power.mgmtRestarting then
      let p := s.pickImage 1
      if p.2 then (({ p.1 with power := { p.1.power with mgmtRestarting := false } } : State).mboxServe).mgmtResume else p.1
    else s)

end Sys2Proof.Machine
end

