-- ==== Sys2Proof/Machine/Passage.lean ====
section
/-! DEFINITION. The Passage (chapter 01, R20 to R23): arrival of the oldest transfer of a class in its turn, its parity, and what it carries. -/

namespace Sys2Proof.Machine

/-- A request to bind for a node, or for an engine's STR_ARM chain, has reached the half that holds the objects (R245). -/
def State.bindIn (s : State) (n : Option NodeRef) (e : Nat) : State :=
  match n with
  | some r => match s.node r with
    | some (_, x) =>
      if x.ask = .sent then (s.modNode r (fun n => { n with ask := .there })).tryBind r (State.afterBind r) else s
    | none => s
  | none => match (s.engine e).chain with
    | some c => if c.ask = .sent then s.modEng e (fun x => { x with chain := some { c with ask := .there } }) else s
    | none => s

/-- The key port's answer has reached East's loader (R27). -/
def State.keyIn (s : State) (k : Option (List Byte)) : State :=
  let l := s.east.ldr
  if l.keyAsked ∧ l.key = none then (s.modLdr .east (fun l => { l with key := some k })).ldStep .east else s

/-- A power command has reached the domain that it is for (R16, R26). -/
def State.powerIn (s : State) (d : Nat) (on : Bool) : State := if on then s else s.toSleep d

/-- A transfer has crossed with good parity. -/
def State.passDeliver (s : State) (h : Half) (m : PassMsg) : State :=
  match m with
  | .admitMsg c gid seq => s.admitEast c gid seq
  | .token t => s.tokenIn h t
  | .switch l => s.switchArrive l
  | .payload _ e tier a bs => (s.storeBytes h tier a bs).srcFree e
  | .feed _ e bs bad => s.feedIn e bs bad
  | .bind n e => s.bindIn n e
  | .move _ tier a bs => s.memPut h tier a bs
  | .power d on => s.powerIn d on
  | .access a => s.accessIn h a
  | .answer f off bs => s.send (.readDone f off bs)
  | .keyAsk c w => s.passControl .east (.keyGive (s.keyPort c w))
  | .keyGive k => s.keyIn k
  | .flit x out => s.flitCrossed h x out

/-- A stream transfer's payload has failed on the Passage: its node ends with DATA_ERROR and releases no edge (R23). -/
def State.payloadFails (s : State) (h : Half) (n : Option NodeRef) (e lost : Nat) : State :=
  let s1 := match n with
    | some r => (s.modNode r (fun n => { n with passFail := true })).logNode h r (logData 11)
    | none => s.log h (logData 11)
  (s1.modEng e (fun x => { x with done := x.done - lost })).transferFail e 0x65

/-- A transfer whose fourth attempt fails (R23): it ends with an error and is recorded. A stream's payload ends its node with DATA_ERROR, and the
node never releases; a move's bytes end the MOVE with an error; a host write is discarded as a poisoned one (R371), and a read gets no answer.
DESIGN CHOICE (log entry 55): another Control message is sent again; what a token or a flit carried is lost. -/
def State.passFails (s : State) (h : Half) (m : PassMsg) : State :=
  let again (s : State) : State := s.modHalf h (fun x => { x with control := m :: x.control })
  match m with
  | .payload n e _ _ bs => s.payloadFails h n e bs.length
  | .feed n e _ _ => s.payloadFails h n e 0
  | .move i _ _ _ =>
    (s.modMem h.other (fun y => { y with copies := y.copies.map (fun c => if c.idx = i then { c with failed := true } else c) })).log h (logData 11)
  | .access a =>
    let s1 := s.log h (logData 11)
    if a.write.isSome ∨ a.bar2.any (fun p => p.1.isSome) then
      (s1.wf PCI_EVENT PCI_EVENT.POISONED_WRITE 1).log .west { logHost 12 with event := 4, func := a.func, addr := a.off }
    else s1
  | .answer _ _ _ => s.log h (logData 11)
  | .token t => s.log h { logData 11 with ctx := some t.ctx, gid := t.gid, node := t.node }
  | .flit _ _ => s.log h (logData 11)
  | .admitMsg _ _ _ => again (s.log h (logData 11))
  | .switch _ => again (s.log h (logData 11))
  | .bind _ _ => again (s.log h (logData 11))
  | .power _ _ => again (s.log h (logData 11))
  | .keyAsk _ _ => again (s.log h (logData 11))
  | .keyGive _ => again (s.log h (logData 11))

/-- PASSAGE_TRANSFER_ARRIVE (R20 to R23): the oldest transfer of a class reaches the half in its turn; up to three failed attempts are replayed. -/
def State.passArrive (s : State) (h : Half) (k : PClass) (fails : Nat) : State :=
  match (s.half h).cls k with
  | [] => s
  | m :: q =>
    if (s.half h).turn k && s.passOn then
      let s1 := s.modHalf h (fun x => x.sent k m q)
      if fails ≥ 4 then s1.passFails h m else s1.passDeliver h m
    else s

/-- PASSAGE_TRANSFER_ARRIVE. -/
def execPassageTransferArrive (h : Half) (k : PClass) (fails : Nat) (s : State) : Host.Outcome State Fault Refusal :=
  whenLive s (fun s => s.passArrive h k fails)

end Sys2Proof.Machine
end

