-- ==== Sys2Proof/Machine/Dispatch.lean ====
section
/-! DEFINITION. The dispatch: one arm for each command, each a direct call of its meaning. -/

namespace Sys2Proof.Machine

/-- The effect of a command on everything but the queue. -/
def exec (i : Instr) (s : State) : Host.Outcome State Fault Refusal :=
  match i with
  | .registerWrite func off width value => Sys2Proof.Machine.execRegisterWrite func off width value s
  | .heldWriteApply h => Sys2Proof.Machine.execHeldWriteApply h s
  | .deferredReadComplete func off width timedOut => Sys2Proof.Machine.execDeferredReadComplete func off width timedOut s
  | .passageTransferArrive dst cls parityFailures => Sys2Proof.Machine.execPassageTransferArrive dst cls parityFailures s
  | .wakeLinkCommand => Sys2Proof.Machine.execWakeLinkCommand s
  | .inputBlockDelivered h gal chk => Sys2Proof.Machine.execInputBlockDelivered h gal chk s
  | .waveStart h gal => Sys2Proof.Machine.execWaveStart h gal s
  | .planeSelectDone h gal => Sys2Proof.Machine.execPlaneSelectDone h gal s
  | .slicePassEnd h gal => Sys2Proof.Machine.execSlicePassEnd h gal s
  | .waveEnd h gal => Sys2Proof.Machine.execWaveEnd h gal s
  | .healthWatchExpire h plane => Sys2Proof.Machine.execHealthWatchExpire h plane s
  | .correctionReady h gal => Sys2Proof.Machine.execCorrectionReady h gal s
  | .mergePass h gal => Sys2Proof.Machine.execMergePass h gal s
  | .mergeDeadline n => Sys2Proof.Machine.execMergeDeadline n s
  | .outputLand h gal chk => Sys2Proof.Machine.execOutputLand h gal chk s
  | .nvStepStart h seam => Sys2Proof.Machine.execNvStepStart h seam s
  | .nvStepEnd h seam res => Sys2Proof.Machine.execNvStepEnd h seam res s
  | .seamPlaneCfgWrite h seam value => Sys2Proof.Machine.execSeamPlaneCfgWrite h seam value s
  | .planeTableCommit h => Sys2Proof.Machine.execPlaneTableCommit h s
  | .refreshDue h plane => Sys2Proof.Machine.execRefreshDue h plane s
  | .refreshComplete h plane => Sys2Proof.Machine.execRefreshComplete h plane s
  | .wallMinuteTick => Sys2Proof.Machine.execWallMinuteTick s
  | .nvWallMinutesWrite h value => Sys2Proof.Machine.execNvWallMinutesWrite h value s
  | .stuckStateWrite h idx value => Sys2Proof.Machine.execStuckStateWrite h idx value s
  | .seqAWrite h func width value => Sys2Proof.Machine.execSeqAWrite h func width value s
  | .seqBWrite h func width value => Sys2Proof.Machine.execSeqBWrite h func width value s
  | .seqTimeout h => Sys2Proof.Machine.execSeqTimeout h s
  | .programRows h port => Sys2Proof.Machine.execProgramRows h port s
  | .erasePlane h port => Sys2Proof.Machine.execErasePlane h port s
  | .refreshPlane h port => Sys2Proof.Machine.execRefreshPlane h port s
  | .marginRead h port => Sys2Proof.Machine.execMarginRead h port s
  | .contReadEnter h port => Sys2Proof.Machine.execContReadEnter h port s
  | .contReadExit h port => Sys2Proof.Machine.execContReadExit h port s
  | .protectSet h port => Sys2Proof.Machine.execProtectSet h port s
  | .protectUnlock h port => Sys2Proof.Machine.execProtectUnlock h port s
  | .unlockFailDelayEnd h => Sys2Proof.Machine.execUnlockFailDelayEnd h s
  | .otpRead h port => Sys2Proof.Machine.execOtpRead h port s
  | .otpProgram h port => Sys2Proof.Machine.execOtpProgram h port s
  | .statusRead h port => Sys2Proof.Machine.execStatusRead h port s
  | .cmdReset h port => Sys2Proof.Machine.execCmdReset h port s
  | .nvCommandComplete h port => Sys2Proof.Machine.execNvCommandComplete h port s
  | .pulseStart h => Sys2Proof.Machine.execPulseStart h s
  | .programRowDone h port k stepUs => Sys2Proof.Machine.execProgramRowDone h port k stepUs s
  | .pulseLimitExpire h port k cells => Sys2Proof.Machine.execPulseLimitExpire h port k cells s
  | .eraseTimeLimit h port cells => Sys2Proof.Machine.execEraseTimeLimit h port cells s
  | .ledgerCommit h => Sys2Proof.Machine.execLedgerCommit h s
  | .ledgerCompactDone h => Sys2Proof.Machine.execLedgerCompactDone h s
  | .ledgerScanDone h => Sys2Proof.Machine.execLedgerScanDone h s
  | .contReadApertureRead h func off len => Sys2Proof.Machine.execContReadApertureRead h func off len s
  | .rowSenseDone h plane row notCentre => Sys2Proof.Machine.execRowSenseDone h plane row notCentre s
  | .brownoutTrip h => Sys2Proof.Machine.execBrownoutTrip h s
  | .nvControllerReset h => Sys2Proof.Machine.execNvControllerReset h s
  | .create h set1 ctx => Sys2Proof.Machine.execCreate h set1 ctx s
  | .openSlot h set1 slot version => Sys2Proof.Machine.execOpenSlot h set1 slot version s
  | .arm h set1 slot => Sys2Proof.Machine.execArm h set1 slot s
  | .discard h set1 slot => Sys2Proof.Machine.execDiscard h set1 slot s
  | .delete h set1 => Sys2Proof.Machine.execDelete h set1 s
  | .wsetCommitDone h => Sys2Proof.Machine.execWsetCommitDone h s
  | .switchSets ctx => Sys2Proof.Machine.execSwitchSets ctx s
  | .wsetSwitchMsgArrive => Sys2Proof.Machine.execWsetSwitchMsgArrive s
  | .wsetRelease h set1 slot => Sys2Proof.Machine.execWsetRelease h set1 slot s
  | .ldrDoorbell h tail => Sys2Proof.Machine.execLdrDoorbell h tail s
  | .load h desc image chk fault => Sys2Proof.Machine.execLoad h desc image chk fault s
  | .eraseSet h desc fault => Sys2Proof.Machine.execEraseSet h desc fault s
  | .ldrAbort h => Sys2Proof.Machine.execLdrAbort h s
  | .ldrDescDone h => Sys2Proof.Machine.execLdrDescDone h s
  | .matmul h => Sys2Proof.Machine.execMatmul h s
  | .gather h => Sys2Proof.Machine.execGather h s
  | .vector h => Sys2Proof.Machine.execVector h s
  | .plazaOpComplete h chk => Sys2Proof.Machine.execPlazaOpComplete h chk s
  | .lowrankFallback h => Sys2Proof.Machine.execLowrankFallback h s
  | .stage h => Sys2Proof.Machine.execStage h s
  | .stageDone h data chk fault => Sys2Proof.Machine.execStageDone h data chk fault s
  | .sdsSetCtrlWrite h set1 value => Sys2Proof.Machine.execSdsSetCtrlWrite h set1 value s
  | .sdsSetRegionWrite h set1 value => Sys2Proof.Machine.execSdsSetRegionWrite h set1 value s
  | .alloc h => Sys2Proof.Machine.execAlloc h s
  | .free h src => Sys2Proof.Machine.execFree h src s
  | .move h src => Sys2Proof.Machine.execMove h src s
  | .setSweep h src => Sys2Proof.Machine.execSetSweep h src s
  | .zeroFillDone h => Sys2Proof.Machine.execZeroFillDone h s
  | .poolRetry h => Sys2Proof.Machine.execPoolRetry h s
  | .evictDone h idx chk => Sys2Proof.Machine.execEvictDone h idx chk s
  | .allocTimeout h k => Sys2Proof.Machine.execAllocTimeout h k s
  | .moveCopyStart h idx => Sys2Proof.Machine.execMoveCopyStart h idx s
  | .moveCopyDone h idx chk => Sys2Proof.Machine.execMoveCopyDone h idx chk s
  | .bar2Access func off len wr chk => Sys2Proof.Machine.execBar2Access func off len wr chk s
  | .quotaWrite h kind ctx value => Sys2Proof.Machine.execQuotaWrite h kind ctx value s
  | .poolCtrlWrite h value => Sys2Proof.Machine.execPoolCtrlWrite h value s
  | .sweepBurst h chk => Sys2Proof.Machine.execSweepBurst h chk s
  | .sweepPassEnd h => Sys2Proof.Machine.execSweepPassEnd h s
  | .transferStart eng => Sys2Proof.Machine.execTransferStart eng s
  | .transferComplete eng data chk readFail => Sys2Proof.Machine.execTransferComplete eng data chk readFail s
  | .ringAttach h ring eng consumer => Sys2Proof.Machine.execRingAttach h ring eng consumer s
  | .slotFull h ring data chk => Sys2Proof.Machine.execSlotFull h ring data chk s
  | .ringSlotRelease h ring => Sys2Proof.Machine.execRingSlotRelease h ring s
  | .drainEnd eng => Sys2Proof.Machine.execDrainEnd eng s
  | .strArmGo eng value => Sys2Proof.Machine.execStrArmGo eng value s
  | .shadowStart eng => Sys2Proof.Machine.execShadowStart eng s
  | .strAbort eng => Sys2Proof.Machine.execStrAbort eng s
  | .pageFaultStop eng index data => Sys2Proof.Machine.execPageFaultStop eng index data s
  | .pageResponse eng code => Sys2Proof.Machine.execPageResponse eng code s
  | .pageRequestTimeout eng => Sys2Proof.Machine.execPageRequestTimeout eng s
  | .ringCfgWrite h ring value => Sys2Proof.Machine.execRingCfgWrite h ring value s
  | .sqDoorbell func ctx value => Sys2Proof.Machine.execSqDoorbell func ctx value s
  | .cqDoorbell func ctx value => Sys2Proof.Machine.execCqDoorbell func ctx value s
  | .graphRead ctx entry desc fault => Sys2Proof.Machine.execGraphRead ctx entry desc fault s
  | .admissionPoint ctx => Sys2Proof.Machine.execAdmissionPoint ctx s
  | .reserveTimeout ctx => Sys2Proof.Machine.execReserveTimeout ctx s
  | .admissionMsgArrive => Sys2Proof.Machine.execAdmissionMsgArrive s
  | .nodeDispatch h unit => Sys2Proof.Machine.execNodeDispatch h unit s
  | .escalation n => Sys2Proof.Machine.execEscalation n s
  | .nodeComplete n => Sys2Proof.Machine.execNodeComplete n s
  | .tokenArrive h => Sys2Proof.Machine.execTokenArrive h s
  | .abortGraph func ctx gid => Sys2Proof.Machine.execAbortGraph func ctx gid s
  | .abortContext func ctx => Sys2Proof.Machine.execAbortContext func ctx s
  | .retryNode func ctx gid node bytes => Sys2Proof.Machine.execRetryNode func ctx gid node bytes s
  | .ctxCfgWrite ctx value => Sys2Proof.Machine.execCtxCfgWrite ctx value s
  | .programStart h gal => Sys2Proof.Machine.execProgramStart h gal s
  | .nop h gal => Sys2Proof.Machine.execNop h gal s
  | .wave h gal => Sys2Proof.Machine.execWave h gal s
  | .rowmaskSet h gal => Sys2Proof.Machine.execRowmaskSet h gal s
  | .rowmaskOpen h gal => Sys2Proof.Machine.execRowmaskOpen h gal s
  | .rowmaskClose h gal => Sys2Proof.Machine.execRowmaskClose h gal s
  | .rowmaskAll h gal => Sys2Proof.Machine.execRowmaskAll h gal s
  | .split h gal => Sys2Proof.Machine.execSplit h gal s
  | .acc h gal => Sys2Proof.Machine.execAcc h gal s
  | .check h gal => Sys2Proof.Machine.execCheck h gal s
  | .scale h gal => Sys2Proof.Machine.execScale h gal s
  | .emit h gal => Sys2Proof.Machine.execEmit h gal s
  | .waitBarrier h gal => Sys2Proof.Machine.execWaitBarrier h gal s
  | .waitLanded h gal => Sys2Proof.Machine.execWaitLanded h gal s
  | .waitIdle h gal => Sys2Proof.Machine.execWaitIdle h gal s
  | .signal h gal => Sys2Proof.Machine.execSignal h gal s
  | .loop h gal => Sys2Proof.Machine.execLoop h gal s
  | .br h gal => Sys2Proof.Machine.execBr h gal s
  | .seti h gal => Sys2Proof.Machine.execSeti h gal s
  | .add h gal => Sys2Proof.Machine.execAdd h gal s
  | .endProgram h gal => Sys2Proof.Machine.execEndProgram h gal s
  | .sequencerStallEnd h gal => Sys2Proof.Machine.execSequencerStallEnd h gal s
  | .illegalInstruction h gal => Sys2Proof.Machine.execIllegalInstruction h gal s
  | .seqWatchdog h gal => Sys2Proof.Machine.execSeqWatchdog h gal s
  | .galProgWrite h idx value => Sys2Proof.Machine.execGalProgWrite h idx value s
  | .portEnWrite port value => Sys2Proof.Machine.execPortEnWrite port value s
  | .retrain port => Sys2Proof.Machine.execRetrain port s
  | .trainingDone port res => Sys2Proof.Machine.execTrainingDone port res s
  | .trainingRetry port => Sys2Proof.Machine.execTrainingRetry port s
  | .laneLoss port lane => Sys2Proof.Machine.execLaneLoss port lane s
  | .flitReceive port flit credits => Sys2Proof.Machine.execFlitReceive port flit credits s
  | .routeWrite h idx value => Sys2Proof.Machine.execRouteWrite h idx value s
  | .data h flit => Sys2Proof.Machine.execData h flit s
  | .e2eOpen h flit => Sys2Proof.Machine.execE2eOpen h flit s
  | .openAck h flit => Sys2Proof.Machine.execOpenAck h flit s
  | .reject h flit => Sys2Proof.Machine.execReject h flit s
  | .ack h flit => Sys2Proof.Machine.execAck h flit s
  | .ackTimer h queue => Sys2Proof.Machine.execAckTimer h queue s
  | .sqValidWrite h queue value => Sys2Proof.Machine.execSqValidWrite h queue value s
  | .sqEpochHoldEnd h queue => Sys2Proof.Machine.execSqEpochHoldEnd h queue s
  | .openResend h queue => Sys2Proof.Machine.execOpenResend h queue s
  | .rqValidWrite h queue value => Sys2Proof.Machine.execRqValidWrite h queue value s
  | .e2eTimeout h queue => Sys2Proof.Machine.execE2eTimeout h queue s
  | .regRead src epoch space off count tag => Sys2Proof.Machine.execRegRead src epoch space off count tag s
  | .regWrite src epoch space off be tag words => Sys2Proof.Machine.execRegWrite src epoch space off be tag words s
  | .regResp src epoch tag status words => Sys2Proof.Machine.execRegResp src epoch tag status words s
  | .mgmtAccessTimeout tag => Sys2Proof.Machine.execMgmtAccessTimeout tag s
  | .notify src epoch payload => Sys2Proof.Machine.execNotify src epoch payload s
  | .heartbeat src epoch => Sys2Proof.Machine.execHeartbeat src epoch s
  | .heartbeatTimer => Sys2Proof.Machine.execHeartbeatTimer s
  | .heartbeatLoss => Sys2Proof.Machine.execHeartbeatLoss s
  | .takeover src epoch => Sys2Proof.Machine.execTakeover src epoch s
  | .rejectEpoch src epoch cur master => Sys2Proof.Machine.execRejectEpoch src epoch cur master s
  | .budgetPeriod measuredW => Sys2Proof.Machine.execBudgetPeriod measuredW s
  | .budgetReport src epoch measuredW capW slack reasons => Sys2Proof.Machine.execBudgetReport src epoch measuredW capW slack reasons s
  | .budgetGrant src epoch capW => Sys2Proof.Machine.execBudgetGrant src epoch capW s
  | .budgetRevert => Sys2Proof.Machine.execBudgetRevert s
  | .flush n => Sys2Proof.Machine.execFlush n s
  | .barrier n => Sys2Proof.Machine.execBarrier n s
  | .arrive h flit => Sys2Proof.Machine.execArrive h flit s
  | .release h flit => Sys2Proof.Machine.execRelease h flit s
  | .barrierTimeout n => Sys2Proof.Machine.execBarrierTimeout n s
  | .barrierEnWrite h bar value => Sys2Proof.Machine.execBarrierEnWrite h bar value s
  | .dispatch n => Sys2Proof.Machine.execDispatch n s
  | .collect n => Sys2Proof.Machine.execCollect n s
  | .returnRows n => Sys2Proof.Machine.execReturnRows n s
  | .combine n => Sys2Proof.Machine.execCombine n s
  | .batchTimeout n => Sys2Proof.Machine.execBatchTimeout n s
  | .pcieLinkTrain link => Sys2Proof.Machine.execPcieLinkTrain link s
  | .pcieTrainRetry => Sys2Proof.Machine.execPcieTrainRetry s
  | .vfFlr func => Sys2Proof.Machine.execVfFlr func s
  | .flrDone func => Sys2Proof.Machine.execFlrDone func s
  | .pfReset linkDown => Sys2Proof.Machine.execPfReset linkDown s
  | .d3hotEntry func => Sys2Proof.Machine.execD3hotEntry func s
  | .atsInvalidate func pasid addr len tag => Sys2Proof.Machine.execAtsInvalidate func pasid addr len tag s
  | .priReset func => Sys2Proof.Machine.execPriReset func s
  | .t3ReadFail n addr pasid => Sys2Proof.Machine.execT3ReadFail n addr pasid s
  | .poisonedWrite func addr value => Sys2Proof.Machine.execPoisonedWrite func addr value s
  | .msixUnmask func entry => Sys2Proof.Machine.execMsixUnmask func entry s
  | .pciCtxFuncWrite ctx value => Sys2Proof.Machine.execPciCtxFuncWrite ctx value s
  | .domainHold dom value => Sys2Proof.Machine.execDomainHold dom value s
  | .domainDisable dom value => Sys2Proof.Machine.execDomainDisable dom value s
  | .wakeAdmit => Sys2Proof.Machine.execWakeAdmit s
  | .domainOn dom selfTestFail => Sys2Proof.Machine.execDomainOn dom selfTestFail s
  | .domainIdleExpire dom => Sys2Proof.Machine.execDomainIdleExpire dom s
  | .domainOff dom => Sys2Proof.Machine.execDomainOff dom s
  | .pllLock h bit => Sys2Proof.Machine.execPllLock h bit s
  | .powerPeriod measuredW estimatedW tmax => Sys2Proof.Machine.execPowerPeriod measuredW estimatedW tmax s
  | .opChangeDone h => Sys2Proof.Machine.execOpChangeDone h s
  | .gateWindowClose => Sys2Proof.Machine.execGateWindowClose s
  | .gateWindowOpen => Sys2Proof.Machine.execGateWindowOpen s
  | .thermalTrip => Sys2Proof.Machine.execThermalTrip s
  | .capWrite value => Sys2Proof.Machine.execCapWrite value s
  | .estimateDivergeClear => Sys2Proof.Machine.execEstimateDivergeClear s
  | .powerRestart => Sys2Proof.Machine.execPowerRestart s
  | .powerRestartDone => Sys2Proof.Machine.execPowerRestartDone s
  | .mgmtRestart => Sys2Proof.Machine.execMgmtRestart s
  | .mgmtRestartDone => Sys2Proof.Machine.execMgmtRestartDone s
  | .controllerWatchdog c => Sys2Proof.Machine.execControllerWatchdog c s
  | .powerOn straps => Sys2Proof.Machine.execPowerOn straps s
  | .powerOff => Sys2Proof.Machine.execPowerOff s
  | .railOutOfRange rail => Sys2Proof.Machine.execRailOutOfRange rail s
  | .deviceReset heldNs => Sys2Proof.Machine.execDeviceReset heldNs s
  | .perstRelease octalOk failWest failEast flashBad siteHot => Sys2Proof.Machine.execPerstRelease octalOk failWest failEast flashBad siteHot s
  | .trialExpire kind => Sys2Proof.Machine.execTrialExpire kind s
  | .mctpControl cmd => Sys2Proof.Machine.execMctpControl cmd s
  | .getVersion path msg => Sys2Proof.Machine.execGetVersion path msg s
  | .getIdentity path msg => Sys2Proof.Machine.execGetIdentity path msg s
  | .getCert path msg => Sys2Proof.Machine.execGetCert path msg s
  | .getMeasurements path msg => Sys2Proof.Machine.execGetMeasurements path msg s
  | .getAttestState path msg => Sys2Proof.Machine.execGetAttestState path msg s
  | .attestTokenTick => Sys2Proof.Machine.execAttestTokenTick s
  | .kekInstall path msg => Sys2Proof.Machine.execKekInstall path msg s
  | .kekClear path msg => Sys2Proof.Machine.execKekClear path msg s
  | .debugChallenge path msg => Sys2Proof.Machine.execDebugChallenge path msg s
  | .debugUnlock path msg => Sys2Proof.Machine.execDebugUnlock path msg s
  | .updBegin path msg => Sys2Proof.Machine.execUpdBegin path msg s
  | .updData path msg => Sys2Proof.Machine.execUpdData path msg s
  | .updEnd path msg => Sys2Proof.Machine.execUpdEnd path msg s
  | .updActivate path msg => Sys2Proof.Machine.execUpdActivate path msg s
  | .updCommit path msg => Sys2Proof.Machine.execUpdCommit path msg s
  | .updStatus path msg => Sys2Proof.Machine.execUpdStatus path msg s
  | .errHostHeadWrite h value => Sys2Proof.Machine.execErrHostHeadWrite h value s
  | .mgmtHeadAdvance h => Sys2Proof.Machine.execMgmtHeadAdvance h s
  | .brownoutRecover h => Sys2Proof.Machine.execBrownoutRecover h s
  | .deviceWatchdogExpire => Sys2Proof.Machine.execDeviceWatchdogExpire s
  | .refclkLoss => Sys2Proof.Machine.execRefclkLoss s
  | .refclkReturn => Sys2Proof.Machine.execRefclkReturn s
  | .tapInstruction code => Sys2Proof.Machine.execTapInstruction code s

end Sys2Proof.Machine
end

