-- ==== Sys2Proof/Machine/Tick.lean ====
section
/-! DEFINITION. One microsecond of REFCLK, which passes when no command waits (log entry 17): the counters of time (R66, R205, R242, R257, R270,
R321, R381, R402, R453), and the work that starts as soon as it may without a command of its own: dispatched nodes that wait to bind
(R224, R226), refreshes (R102), management accesses and notices that wait (R343), changes of the operating point (R390). -/

namespace Sys2Proof.Machine

/-- MAIN cycles of a half in a microsecond (R389): 350 MHz and 50 MHz for each operating point; none while a gating window is closed
(R396). -/
def State.mainCycles (s : State) (h : Half) : Nat := if s.power.gateOpen then 350 + 50 * s.op h else 0

/-! ## Service time (R453) -/

/-- A millisecond in which a half was not ready is counted. -/
def State.tickMs (s : State) : State :=
  if s.subMs + 1 < 1000 then { s with subMs := s.subMs + 1 }
  else ({ s with subMs := 0 } : State).addSat ERR_UNREADY_MS ERR_UNREADY_MS.MS 1

/-- ERR_POWERED_S and ERR_UNREADY_MS count while REFCLK is present; every microsecond without WEST_READY or EAST_READY counts towards
a millisecond. -/
def State.tickService (s : State) : State :=
  let s1 := if s.subSec + 1 < 1000000 then { s with subSec := s.subSec + 1 }
    else ({ s with subSec := 0 } : State).addSat ERR_POWERED_S ERR_POWERED_S.S 1
  if s.on BOOT_GLOBAL_STATUS BOOT_GLOBAL_STATUS.WEST_READY ∧ s.on BOOT_GLOBAL_STATUS BOOT_GLOBAL_STATUS.EAST_READY then s1 else s1.tickMs

/-! ## Counters of waiting -/

/-- SEAM_NV_WAIT (R66): a wave waits behind an NV step that runs on the Seam. The reselection after it lasts 200 ns (R55) and ends within the
microsecond. -/
def State.tickSeams (s : State) (h : Half) : State :=
  (s.half h).nv.running.foldl (fun s e =>
    if s.waveWaits h e.1 then s.add (SEAM_NV_WAIT h e.1) SEAM_NV_WAIT.WAIT_US 1 else s) s

/-- GAL_SEQ_STALL and GAL_SEQ_WAITS (Table 11.12), in nanoseconds. -/
def State.tickSeqs (s : State) (h : Half) : State :=
  (s.half h).gals.foldl (fun s e =>
    match s.rf (GAL_SEQ_STATUS h e.1) GAL_SEQ_STATUS.STATE with
    | 2 => s.add (GAL_SEQ_STALL h e.1) GAL_SEQ_STALL.NS 1000
    | 3 | 4 | 5 => s.add (GAL_SEQ_WAITS h e.1) GAL_SEQ_WAITS.NS 1000
    | _ => s) s

/-- PLZ_BUSY_CYCLES, and PLZ_WAIT_CYCLES, which counts the cycles of STR_STALL (Table 7.12, R257). -/
def State.tickPlaza (s : State) (h : Half) : State :=
  let s1 := if s.on (PLZ_STATUS h) PLZ_STATUS.BUSY then s.add (PLZ_BUSY_CYCLES h) PLZ_BUSY_CYCLES.CYCLES (s.mainCycles h) else s
  if s.plazaWaits h then s1.add (PLZ_WAIT_CYCLES h) PLZ_WAIT_CYCLES.CYCLES 1100 else s1

/-- SDS_TIER_WAIT and SDS_MERGE_WAIT (Table 7.15): cycles of each wave at the merge that waits for its set, or for the lanes. -/
def State.tickSds (s : State) (h : Half) : State :=
  let n (bound : Bool) : Nat := (s.corrWaits h bound).countP (fun w => w.phase == .ended)
  (s.add (SDS_TIER_WAIT h) SDS_TIER_WAIT.CYCLES (n false * s.mainCycles h)).add (SDS_MERGE_WAIT h) SDS_MERGE_WAIT.CYCLES
    (n true * s.mainCycles h)

/-- MEM_BIND_WAIT (Table 8.17): a microsecond for each node of the half that waits to bind. -/
def State.tickBind (s : State) (h : Half) : State :=
  s.add (MEM_BIND_WAIT h) MEM_BIND_WAIT.US (s.nodesWhere (fun g n => n.phase == .binding && !g.aborted && decide (n.half = h))).length

/-- STR_STALL and STR_RING_FULL_CYCLES of the rings of a half, in cycles of 1.1 GHz (R257). -/
def State.tickRings (s : State) (h : Half) : State :=
  (s.ringsOf h).foldl (fun s r =>
    let s1 := if s.producerWaits h r then s.add (STR_RING_FULL_CYCLES h r) STR_RING_FULL_CYCLES.CYCLES 1100 else s
    if s.consumerWaits h r then
      let f := s1.fresh
      f.2.add (STR_STALL h (8 * r + s.stallCause h r f.1)) STR_STALL.CYCLES 1100
    else s1) s

/-- STR_DRAIN_CYCLES (R258). -/
def State.tickDrains (s : State) : State :=
  s.engines.foldl (fun s e =>
    if s.strState e.1 = 6 then s.add (STR_DRAIN_CYCLES (engHalf e.1) e.1) STR_DRAIN_CYCLES.CYCLES 1100 else s) s

/-- PWR_REASON_TIME (R402), and the reasons that the next budget report names. -/
def State.tickReasons (s : State) : State :=
  let s1 := (List.range 8).foldl (fun s r => if s.reason r then s.add (PWR_REASON_TIME r) PWR_REASON_TIME.US 1 else s) s
  { s1 with csw := { s1.csw with reasons := s1.csw.reasons ||| s.reasons } }

/-- Every counter of a half. -/
def State.tickHalf (s : State) (h : Half) : State :=
  (((((s.tickSeams h).tickSeqs h).tickPlaza h).tickSds h).tickBind h).tickRings h

/-! ## The microsecond -/

/-- Both microsecond counters advance (R381); they hold 64 bits. -/
def State.tickUs (s : State) : State :=
  (s.modHalf .west (fun x => { x with us := (x.us + 1) % 2 ^ 64 })).modHalf .east (fun x => { x with us := (x.us + 1) % 2 ^ 64 })

/-- The work that needs no command of its own; a half whose chosen point differs from its own begins to change it (R390). -/
def State.tickWork (s : State) : State :=
  let s1 := ((s.runRefresh .west).runRefresh .east).rebind
  ((State.mgmtDrain s1 s1.csw.acc.length).notesFlush).opSteps

/-- One microsecond of REFCLK. Without power or REFCLK nothing counts; the microsecond counters stand at zero while the device is held
in reset; the counters of a device's work need it past its boot. -/
def State.tick (s : State) : State :=
  if s.stage = .off ∨ s.boot.refOk = false then s
  else
    let s1 := s.tickService
    if s.stage = .recovery then s1.tickUs
    else if s.live then ((((s1.tickReasons.tickHalf .west).tickHalf .east).tickDrains).tickBudget).tickWork.tickUs
    else s1

end Sys2Proof.Machine
end

