-- ==== Sys2Proof/Safety.lean ====
section
/-! DEFINITION. What the statements call a sound state: the sparse stores are in their one canonical form, and a device that is off or held
in reset holds no work (R400, R441, R464). -/

namespace Sys2Proof.Machine

/-- The tiers T1 and T2 of a half are in canonical form. -/
def MemHalf.canon (m : MemHalf) : Prop := mapWf zeroByte m.t1 = true ∧ mapWf zeroByte m.t2 = true

/-- A half's memory is in canonical form. -/
def HalfState.canon (x : HalfState) : Prop := x.mem.canon

/-- The boot flash is in canonical form. -/
def BootSt.canon (b : BootSt) : Prop := mapWf flashErased b.flash = true

/-- The register store, both halves' tiers and the flash are in canonical form: addresses strictly rising, nothing listed that an unlisted
address reads as. Two such states that read alike are equal there. -/
def State.canon (s : State) : Prop := mapWf resetWord s.regs = true ∧ s.west.canon ∧ s.east.canon ∧ s.boot.canon

/-- Only registers at the addresses `as` may differ between two states. -/
def onlyRegs (as : List Nat) (s t : State) : Prop := { t with regs := s.regs } = s ∧ ∀ a, a ∉ as → t.rd a = s.rd a

/-- Is the address one of a half's error log registers (R441, R446)? -/
def inLog (h : Half) (a : Nat) : Bool := decide (ERR_CTRL h ≤ a) && decide (a < ERR_RECORD h 16384)

/-- The state with everything but its registers that a log record may change taken from another: what the device has sent or holds to send
to a master, pending MSI-X bits, and the sequence numbers of the two logs. -/
def State.unlogged (t s : State) : State :=
  { t with
    outbox := s.outbox
    csw := { t.csw with notes := s.csw.notes }
    pcie := { t.pcie with funcs := s.pcie.funcs }
    west := { t.west with logSeq := s.west.logSeq }
    east := { t.east with logSeq := s.east.logSeq } }

/-- Only registers at the addresses `as`, and what a log record changes, may differ between two states. -/
def onlyLogged (as : List Nat) (s t : State) : Prop :=
  ({ t.unlogged s with regs := s.regs } : State) = s ∧
    ∀ a, a ∉ as → inLog .west a = false → inLog .east a = false → t.rd a = s.rd a

/-- The status registers of all 144 power domains. -/
def domRegs : List Nat := (List.range 144).map PWR_DOMAIN_STATUS

/-- The stages in which the device does no work: off, held in reset, held by a trip. -/
def Stage.idle : Stage → Bool
  | .off => true
  | .held => true
  | .thermHeld => true
  | .running => false
  | .recovery => false

/-- A device that is off or held holds no graph, no context, no stream chain and no link, and wakes nothing; a step that still runs in an array
belongs to a controller that is stopping (R152). -/
def State.atRest (s : State) : Prop :=
  s.stage.idle = true → s.graphs = [] ∧ s.ctxs = [] ∧ s.engines = [] ∧ s.ports = [] ∧ s.power.wakeQ = [] ∧
    ∀ h, (s.half h).nv.running = [] ∨ (s.half h).nv.stopping = true

/-- The queue is `q`, the stage satisfies `P`, and the stores are canonical. -/
structure State.holds (P : Stage → Prop) (q : List Instr) (s : State) : Prop where
  stage : P s.stage
  queue : s.pending = q
  regs : mapWf resetWord s.regs = true
  west : s.west.canon
  east : s.east.canon
  boot : s.boot.canon

/-- The next state of an outcome, if there is one, holds. -/
def outHolds (P : Stage → Prop) (q : List Instr) (o : Host.Outcome State Fault Refusal) : Prop := ∀ t, o = .next t → t.holds P q

/-- The host port holds the whole key sequence of a command (R117), and the parameter block passes the command's checks (R119). -/
def State.armed (s : State) (h : Half) (code : Nat) : Bool :=
  let n := (s.half h).nv
  let b := s.paramBlock h
  let rs := if code = 0x10 then rowRecs (b.getD 3 0) (s.listBytes h (b.getD 2 0) (min 1024 (b.getD 3 0))) else []
  !n.stopping && n.host.step == 3 && n.host.key == code && n.host.accepts code && headerCheck .host code code b == 0 &&
    paramCheck code b == 0 && s.preCheck h .host false code b rs == 0

/-- The request `m`, well formed, is the one that the security engine serves next on the path: the device has power, its management controller
runs, no request waits, and the mailbox holds `m` or nothing (R28, R428, R429). -/
def State.secReady (s : State) (p : SecPath) (m : List Byte) : Bool :=
  s.stage != .off && !s.power.mgmtRestarting && !s.attesting && s.sec.held.isNone && msgOk m &&
    (match p with
    | .mailbox => s.on SEC_MBOX_CTRL SEC_MBOX_CTRL.BUSY && s.mboxMsg == m
    | .mctp => !s.on SEC_MBOX_CTRL SEC_MBOX_CTRL.BUSY)

end Sys2Proof.Machine
end

