-- ==== Sys2Proof/Certificates/Slice0/Obligations.lean ====
section
/-! DEFINITION. The statements for the provers: what each command does, by the rules of the spec, and what every step keeps. Each clause of a
statement is a completion: it says that `exec` answers a next state and what that state holds. -/

open Sys2Proof Sys2Proof.Machine

/-- DOMAIN_HOLD and DOMAIN_DISABLE (R385, R388): HOLD 1 wakes a domain that is OFF, HOLD 0 only clears the two bits, a disabling that
Table 14.2 allows sets DISABLE, and one that it does not allow changes neither bit, sets DISABLE_REFUSED and is recorded.
DOMAIN_IDLE_EXPIRE and DOMAIN_OFF (R384): an idle domain without HOLD, keep-on condition or wake request turns SLEEPING, and a SLEEPING
domain turns OFF; a wake request that came while it slept queues it. Domain 132 sleeps by a command over the wake link, the other domains
of East that take their commands over the Passage by one that arrives there (R16, R26). Next states are stated of: DOMAIN_HOLD,
DOMAIN_DISABLE, DOMAIN_IDLE_EXPIRE, PASSAGE_TRANSFER_ARRIVE, DOMAIN_OFF. -/
def Obligations.DomainsHeldDisabledAndOff : Prop :=
  (∀ (s : State) (d v : Nat),
    s.live = true → d < 144 → v % 2 = 1 → s.dom d = 0 →
    ∃ t, exec (.domainHold d v) s = .next t ∧ t.rf (PWR_DOMAIN_CTRL d) PWR_DOMAIN_CTRL.HOLD = 1 ∧ t.rf (PWR_DOMAIN_CTRL d)
    PWR_DOMAIN_CTRL.DISABLE = 0 ∧ t.dom d = 1 ∧ t.power.wakeQ.contains d = true ∧ onlyRegs (PWR_DOMAIN_CTRL d :: domRegs) s
    { t with power := s.power }) ∧
  (∀ (s : State) (d v : Nat),
    s.live = true → d < 144 → v % 2 = 0 →
    ∃ t, exec (.domainHold d v) s = .next t ∧ t.rf (PWR_DOMAIN_CTRL d) PWR_DOMAIN_CTRL.HOLD = 0 ∧ t.rf (PWR_DOMAIN_CTRL d)
    PWR_DOMAIN_CTRL.DISABLE = 0 ∧ onlyRegs [PWR_DOMAIN_CTRL d] s t) ∧
  (∀ (s : State) (d v : Nat),
    s.live = true → d < 144 → v % 2 = 0 → s.keepOn d = false → s.dom d ≠ 1 → (domClass d = 0 ∨ domClass d = 1 ∨ domClass d = 7 ∨ domClass
    d = 5 ∧ s.portEn (d - 110) = false) →
    ∃ t, exec (.domainDisable d v) s = .next t ∧ t.rf (PWR_DOMAIN_CTRL d) PWR_DOMAIN_CTRL.HOLD = 0 ∧ t.rf (PWR_DOMAIN_CTRL d)
    PWR_DOMAIN_CTRL.DISABLE = 1 ∧ onlyRegs [PWR_DOMAIN_CTRL d] s t) ∧
  (∀ (s : State) (d v : Nat),
    s.live = true → d < 144 → (v % 2 = 1 ∨ s.keepOn d = true ∨ ¬(domClass d = 0 ∨ domClass d = 1 ∨ domClass d = 7 ∨ domClass d = 5)) →
    ∃ t, exec (.domainDisable d v) s = .next t ∧ t.rf PWR_EVENT PWR_EVENT.DISABLE_REFUSED = 1 ∧ onlyLogged [PWR_EVENT] s t) ∧
  (∀ (s : State) (d : Nat),
    s.live = true → d < 144 → d ≠ 132 → viaPassage d = false → s.maySleep d = true →
    ∃ t, exec (.domainIdleExpire d) s = .next t ∧ t.dom d = 4 ∧ onlyRegs [PWR_DOMAIN_STATUS d, BOOT_GLOBAL_STATUS] s t) ∧
  (∀ (s : State) (d : Nat),
    s.live = true → d < 144 → viaPassage d = true → s.maySleep d = true → s.powerPending (· == d) = false →
    ∃ t, exec (.domainIdleExpire d) s = .next t ∧ t.east.control = s.east.control ++ [PassMsg.power d false] ∧
    ({ t with east := { t.east with control := s.east.control } } : State) = s) ∧
  (∀ (s : State) (d fails : Nat) (q : List PassMsg),
    s.live = true → d < 144 → s.east.control = PassMsg.power d false :: q → s.east.turn .control = true → s.passOn = true → fails < 4 →
    s.maySleep d = true →
    ∃ t, exec (.passageTransferArrive .east .control fails) s = .next t ∧ t.east.control = q ∧ t.dom d = 4) ∧
  (∀ (s : State),
    s.live = true → s.maySleep 132 = true → s.east.control.any (fun m => match m with | .power _ _ => true | _ => false) = false →
    ∃ t, exec (.domainIdleExpire 132) s = .next t ∧ t.power.wakeLink = s.power.wakeLink ++ [WakeLink.mk false false] ∧
    ({ t with power := { t.power with wakeLink := s.power.wakeLink } } : State) = s) ∧
  (∀ (s : State) (d : Nat),
    s.live = true → d < 144 → s.dom d = 4 → s.power.restarting = false → s.power.wakeLater.contains d = false →
    ∃ t, exec (.domainOff d) s = .next t ∧ t.dom d = 0 ∧ onlyRegs [PWR_DOMAIN_STATUS d, CLK_PLL_STATUS .west, CLK_PLL_STATUS .east,
    BOOT_GLOBAL_STATUS] s { t with power := s.power }) ∧
  (∀ (s : State) (d : Nat),
    s.live = true → d < 144 → s.dom d = 4 → s.power.restarting = false → s.power.wakeLater.contains d = true → s.on (PWR_DOMAIN_CTRL d)
    PWR_DOMAIN_CTRL.DISABLE = false →
    ∃ t, exec (.domainOff d) s = .next t ∧ t.dom d = 1 ∧ t.power.wakeLater.contains d = false ∧ t.power.wakeQ.contains d = true)

/-- WAKE_ADMIT and DOMAIN_ON (R386): while fewer than 8 wakes were admitted in the last 10 µs, the domain at the head of the queue becomes
WAKING; a WAKING domain whose PLL is locked and whose serving domains are ON becomes ON. No other domain changes, but that an admission
wakes a serving domain that has gone off (R385, R481), a Gallery that comes on may wake the Sidestreet (R204) and a port the half's first
port (R359); these are then queued. WAKE_LINK_COMMAND (R26) and PLL_LOCK (R380): the oldest thing on the wake link arrives, a wake command
is acknowledged, an acknowledgement ends the exchange; a started PLL shows that it is locked, and no other PLL changes. A lowering of the
operating point that waits for the PLL then switches the clock and commands its voltages (R391). Next states are stated of: WAKE_ADMIT,
DOMAIN_ON, WAKE_LINK_COMMAND, PLL_LOCK. -/
def Obligations.WakesAndPlls : Prop :=
  (∀ (s : State) (d : Nat) (q : List Nat),
    s.live = true → s.power.wakeQ = d :: q → d < 144 → s.power.restarting = false → s.recentWakes.length < 8 →
    ∃ t, exec .wakeAdmit s = .next t ∧ t.dom d = 2 ∧ (∀ e < 144, e ≠ d → s.dom e ≠ 0 → t.dom e = s.dom e) ∧ q <+: t.power.wakeQ ∧
    t.recentWakes.length = s.recentWakes.length + 1) ∧
  (∀ (s : State) (d : Nat) (q : List Nat),
    s.live = true → s.power.wakeQ = d :: q → d < 144 → s.power.restarting = false → s.recentWakes.length < 8 → (∀ e ∈ servers d, s.dom e ≠
    0 ∧ s.dom e ≠ 4) →
    ∃ t, exec .wakeAdmit s = .next t ∧ t.dom d = 2 ∧ t.power.wakeQ = q ∧ t.recentWakes.length = s.recentWakes.length + 1 ∧ onlyRegs
    [PWR_DOMAIN_STATUS d, PWR_WAKE_STATUS] s { t with power := s.power, east := { t.east with control := s.east.control } }) ∧
  (∀ (s : State) (d : Nat) (bad : Bool),
    s.live = true → d < 144 → s.dom d = 2 → (∀ b < 13, pllOf d = some b → s.pllLocked (domHalf d) b = true) → (servers d).all s.domOn =
    true → s.cmdTravels d = false → s.power.restarting = false →
    ∃ t, exec (.domainOn d bad) s = .next t ∧ t.dom d = 3 ∧ (∀ e < 144, e ≠ d → s.dom e ≠ 0 → t.dom e = s.dom e)) ∧
  (∀ (s : State) (d : Nat) (bad : Bool),
    s.live = true → d < 144 → domClass d ≠ 0 → domClass d ≠ 5 → s.dom d = 2 → (∀ b < 13, pllOf d = some b → s.pllLocked (domHalf d) b =
    true) → (servers d).all s.domOn = true → s.cmdTravels d = false → s.power.restarting = false →
    ∃ t, exec (.domainOn d bad) s = .next t ∧ (∀ e < 144, t.dom e = if e = d then 3 else s.dom e) ∧ t.power = s.power) ∧
  (∀ (s : State) (q : List WakeLink),
    s.live = true → s.power.wakeLink = WakeLink.mk true false :: q →
    ∃ t, exec .wakeLinkCommand s = .next t ∧ t.power.wakeLink = q ++ [WakeLink.mk true true] ∧
    ({ t with power := { t.power with wakeLink := s.power.wakeLink } } : State) = s) ∧
  (∀ (s : State) (q : List WakeLink) (w : Bool),
    s.live = true → s.power.wakeLink = WakeLink.mk w true :: q →
    ∃ t, exec .wakeLinkCommand s = .next t ∧ t.power.wakeLink = q ∧ ({ t with power := { t.power with wakeLink := s.power.wakeLink } } :
    State) = s) ∧
  (∀ (s : State) (h : Half) (b : Nat) (c : OpChange),
    s.live = true → b = s.idleMain h → s.power.starting.contains (h, b) = true → s.power.change h = some c → c.switched = false → c.target
    < s.op h → c.target < 16 → s.power.restarting = false →
    ∃ t, exec (.pllLock h b) s = .next t ∧ t.op h = c.target ∧ t.power.change h = some { c with switched := true } ∧ t.outbox = s.outbox
    ++ [Output.regulator h (bits (s.voltEntry h c.target) 12 10) (bits (s.voltEntry h c.target) 22 10)]) ∧
  (∀ (s : State) (h : Half) (b : Nat),
    s.live = true → b < 13 → s.power.starting.contains (h, b) = true → (∀ c, s.power.change h = some c → c.switched = true ∨ s.op h ≤
    c.target ∨ s.power.restarting = true) →
    ∃ t, exec (.pllLock h b) s = .next t ∧ t.pllLocked h b = true ∧ t.power.starting.contains (h, b) = false ∧ (∀ c, c ≠ b → t.pllLocked h
    c = s.pllLocked h c) ∧ onlyRegs [CLK_PLL_STATUS h] s { t with power := s.power })

/-- CAP_WRITE (R393): a value of 150 to 550 W is taken and shown with the effective cap; any other is discarded, sets CAP_REFUSED and is
recorded. ESTIMATE_DIVERGE_CLEAR (R398) clears its event bit and lets normal mode resume at the next period. POWER_PERIOD, OP_CHANGE_DONE
and the gate window (R391, R394, R396, R399): a period shows its measurements and a temperature at or above the throttle lowers the
thermal ceiling below the present point or, at the floor, the thermal gate share by 50; during a restart of the power controller nothing
changes; a raise of the operating point switches the clock once its voltages are acknowledged, a lowering once its PLL is locked, and its
change ends with the acknowledgement; the window closes when its share of 10 µs is over and opens with the next, when every held delivery
begins. Next states are stated of: CAP_WRITE, ESTIMATE_DIVERGE_CLEAR, POWER_PERIOD, OP_CHANGE_DONE, GATE_WINDOW_CLOSE, GATE_WINDOW_OPEN.
-/
def Obligations.CapAndPowerLoops : Prop :=
  (∀ (s : State) (v : Nat),
    s.live = true → 150 ≤ v % 1024 → v % 1024 ≤ 550 →
    ∃ t, exec (.capWrite v) s = .next t ∧ t.rf PWR_CAP PWR_CAP.CAP_W = v % 1024 ∧ t.power.hostCap = some (v % 1024) ∧ (s.power.grant =
    none → t.rf PWR_CAP PWR_CAP.EFFECTIVE_W = max 150 (min (v % 1024) (s.rf PWR_LIMIT_CFG PWR_LIMIT_CFG.BOARD_MAX_W)) ∧ t.rf PWR_CAP
    PWR_CAP.SOURCE = 0) ∧ onlyRegs [PWR_CAP] s { t with power := s.power }) ∧
  (∀ (s : State) (v : Nat),
    s.live = true → (v % 1024 < 150 ∨ 550 < v % 1024) →
    ∃ t, exec (.capWrite v) s = .next t ∧ t.rf PWR_EVENT PWR_EVENT.CAP_REFUSED = 1 ∧ t.rd PWR_CAP = s.rd PWR_CAP ∧ onlyLogged [PWR_EVENT]
    s t) ∧
  (∀ (s : State),
    s.live = true →
    ∃ t, exec .estimateDivergeClear s = .next t ∧ t.rf PWR_EVENT PWR_EVENT.ESTIMATE_DIVERGE = 0 ∧ t.power.divergeClear =
    (s.power.divergeClear || s.measuredOnly) ∧ onlyRegs [PWR_EVENT] s { t with power := s.power }) ∧
  (∀ (s : State) (m e : Nat) (x : Int),
    s.live = true → s.power.restarting = false →
    ∃ t, exec (.powerPeriod m e x) s = .next t ∧ t.rf PWR_POWER PWR_POWER.MEASURED_W = min m 1023 ∧ t.rf PWR_POWER PWR_POWER.ESTIMATED_W =
    min e 1023 ∧ t.rf PWR_TEMP PWR_TEMP.TMAX = unsigned 16 x ∧ (x ≥ s.throttle16 → 0 < max (s.op .west) (s.op .east) → t.power.thCeil =
    max (s.op .west) (s.op .east) - 1 ∧ (max (s.op .west) (s.op .east) - 1 < s.power.thCeil → t.rf PWR_EVENT PWR_EVENT.THROTTLE = 1)) ∧ (x
    ≥ s.throttle16 → max (s.op .west) (s.op .east) = 0 → t.power.thShare = max 50 (s.power.thShare - 50))) ∧
  (∀ (s : State) (m e : Nat) (x : Int),
    s.live = true → s.power.restarting = true →
    exec (.powerPeriod m e x) s = .next s) ∧
  (∀ (s : State) (h : Half) (c : OpChange),
    s.live = true → s.power.restarting = false → s.power.change h = some c → c.switched = false → s.pllLocked h (s.idleMain h) = true →
    s.op h ≤ c.target → c.target < 16 → s.opChosen h = c.target →
    ∃ t, exec (.opChangeDone h) s = .next t ∧ t.op h = c.target ∧ t.op h.other = s.op h.other ∧ t.power.idle h = some (s.op h) ∧
    t.power.change h = none) ∧
  (∀ (s : State) (h : Half) (c : OpChange),
    s.live = true → s.power.restarting = false → s.power.change h = some c → c.switched = false → s.pllLocked h (s.idleMain h) = true →
    c.target < s.op h → c.target < 16 →
    ∃ t, exec (.opChangeDone h) s = .next t ∧ t.op h = c.target ∧ t.op h.other = s.op h.other ∧ t.power.idle h = some (s.op h) ∧
    t.power.change h = some { c with switched := true }) ∧
  (∀ (s : State) (h : Half) (c : OpChange),
    s.live = true → s.power.restarting = false → s.power.change h = some c → c.switched = true → s.opChosen h = s.op h →
    ∃ t, exec (.opChangeDone h) s = .next t ∧ t.power.change h = none ∧ t.op h = s.op h ∧ t.rf PWR_OP_STATUS PWR_OP_STATUS.CHANGING = b2n
    (s.power.change h.other).isSome ∧ onlyRegs [PWR_OP_STATUS] s { t with power := s.power }) ∧
  (∀ (s : State),
    s.live = true → s.gateShare < 1000 → s.gateShare / 100 ≤ s.west.us % 10 →
    ∃ t, exec .gateWindowClose s = .next t ∧ t.power.gateOpen = false ∧ ({ t with power := { t.power with gateOpen := s.power.gateOpen } }
    : State) = s) ∧
  (∀ (s : State),
    s.live = true → s.west.us % 10 = 0 →
    ∃ t, exec .gateWindowOpen s = .next t ∧ t.power.gateOpen = true ∧ (∀ h : Half, ∀ e ∈ (t.half h).gals, ∀ w ∈ e.2.waves, w.begun = true)
    ∧ t.regs = s.regs ∧ t.outbox = s.outbox ∧ t.graphs = s.graphs)

/-- TRAINING_DONE (R326, R327): with lanes enough at 56G the port comes UP with the width they allow and the peer it found; with lanes too
few it goes DOWN and discards its flits; a peer other than the one expected is a MISMATCH. A training or a retrain that finds lanes enough
at a rate both ends take brings the port UP at that rate, 112 Gb/s before 56. Next states are stated of: TRAINING_DONE. -/
def Obligations.PortTrainingEnds : Prop :=
  (∀ (s : State) (p w : Nat) (x : TrainResult) (ls : List Nat),
    s.live = true → p < 8 → s.portState p = 1 → s.domOn (portDom p) = true → s.on (portCfg p) CSW_PORT_CFG.RATE_112_EN = false → s.on
    (portCfg p) CSW_PORT_CFG.EXPECT_EN = false → x.peerNode ≠ s.rf (CSW_NODE (portHalf p)) CSW_NODE.NODE → widthFrom (s.lanesOk p
    x.lanes56 x.peer56) (s.minWidth p) = some (w, ls) →
    ∃ t, exec (.trainingDone p x) s = .next t ∧ t.portState p = 2 ∧ t.rf (portStatus p) CSW_PORT_STATUS.WIDTH = w ∧ t.rf (portStatus p)
    CSW_PORT_STATUS.RATE = 0 ∧ t.rf (portStatus p) CSW_PORT_STATUS.PEER_NODE = x.peerNode % 2 ^ 14 ∧ t.rf (portStatus p)
    CSW_PORT_STATUS.PEER_PORT = x.peerPort % 8 ∧ (∀ q, q ≠ p → t.port q = s.port q)) ∧
  (∀ (s : State) (p : Nat) (x : TrainResult),
    s.live = true → p < 8 → (s.portState p = 1 ∨ s.portState p = 3) → s.domOn (portDom p) = true → widthFrom (s.lanesOk p x.lanes112
    x.peer112) (s.minWidth p) = none → widthFrom (s.lanesOk p x.lanes56 x.peer56) (s.minWidth p) = none →
    ∃ t, exec (.trainingDone p x) s = .next t ∧ t.portState p = 4 ∧ t.rf (portEvent p) CSW_PORT_EVENT.DOWN = 1 ∧ (t.port p).wait = [] ∧
    (t.port p).replay = [] ∧ onlyLogged [portStatus p, portEvent p] s { t with ports := s.ports }) ∧
  (∀ (s : State) (p : Nat) (w : Nat × List Nat) (x : TrainResult),
    s.live = true → p < 8 → s.portState p = 1 → s.domOn (portDom p) = true → s.on (portCfg p) CSW_PORT_CFG.EXPECT_EN = true → x.peerNode ≠
    s.rf (portCfg p) CSW_PORT_CFG.EXPECT_NODE → widthFrom (s.lanesOk p x.lanes56 x.peer56) (s.minWidth p) = some w →
    ∃ t, exec (.trainingDone p x) s = .next t ∧ t.portState p = 5 ∧ t.rf (portEvent p) CSW_PORT_EVENT.MISMATCH = 1 ∧ (t.port p).wait = []
    ∧ (t.port p).replay = [] ∧ onlyLogged [portStatus p, portEvent p] s { t with ports := s.ports }) ∧
  (∀ (s : State) (p w : Nat) (x : TrainResult) (ls : List Nat),
    s.live = true → p < 8 → (s.portState p = 1 ∨ s.portState p = 3) → s.domOn (portDom p) = true → (s.on (portCfg p)
    CSW_PORT_CFG.EXPECT_EN = false ∨ x.peerNode = s.rf (portCfg p) CSW_PORT_CFG.EXPECT_NODE ∧ x.peerPort = s.rf (portCfg p)
    CSW_PORT_CFG.EXPECT_PORT) → x.peerNode ≠ s.rf (CSW_NODE (portHalf p)) CSW_NODE.NODE → s.verMax p = 2 → x.peerVer2 = true → s.on
    (portCfg p) CSW_PORT_CFG.RATE_112_EN = true → x.peerRate112 = true → widthFrom (s.lanesOk p x.lanes112 x.peer112) (s.minWidth p) =
    some (w, ls) →
    ∃ t, exec (.trainingDone p x) s = .next t ∧ t.portState p = 2 ∧ t.rf (portStatus p) CSW_PORT_STATUS.WIDTH = w ∧ t.rf (portStatus p)
    CSW_PORT_STATUS.RATE = 1 ∧ t.rf (portStatus p) CSW_PORT_STATUS.VER = 2 ∧ t.rf (portStatus p) CSW_PORT_STATUS.PEER_NODE = x.peerNode %
    2 ^ 14 ∧ t.rf (portStatus p) CSW_PORT_STATUS.PEER_PORT = x.peerPort % 8 ∧ (∀ q, q ≠ p → t.port q = s.port q)) ∧
  (∀ (s : State) (p w : Nat) (x : TrainResult) (ls : List Nat),
    s.live = true → p < 8 → (s.portState p = 1 ∨ s.portState p = 3) → s.domOn (portDom p) = true → (s.on (portCfg p)
    CSW_PORT_CFG.EXPECT_EN = false ∨ x.peerNode = s.rf (portCfg p) CSW_PORT_CFG.EXPECT_NODE ∧ x.peerPort = s.rf (portCfg p)
    CSW_PORT_CFG.EXPECT_PORT) → x.peerNode ≠ s.rf (CSW_NODE (portHalf p)) CSW_NODE.NODE → (s.verMax p = 1 ∨ x.peerVer2 = false ∨ s.on
    (portCfg p) CSW_PORT_CFG.RATE_112_EN = false ∨ x.peerRate112 = false ∨ widthFrom (s.lanesOk p x.lanes112 x.peer112) (s.minWidth p) =
    none) → widthFrom (s.lanesOk p x.lanes56 x.peer56) (s.minWidth p) = some (w, ls) →
    ∃ t, exec (.trainingDone p x) s = .next t ∧ t.portState p = 2 ∧ t.rf (portStatus p) CSW_PORT_STATUS.WIDTH = w ∧ t.rf (portStatus p)
    CSW_PORT_STATUS.RATE = 0 ∧ t.rf (portStatus p) CSW_PORT_STATUS.VER = (if s.verMax p = 2 ∧ x.peerVer2 = true then 2 else 1) ∧ t.rf
    (portStatus p) CSW_PORT_STATUS.PEER_NODE = x.peerNode % 2 ^ 14 ∧ t.rf (portStatus p) CSW_PORT_STATUS.PEER_PORT = x.peerPort % 8 ∧ (∀
    q, q ≠ p → t.port q = s.port q))

/-- PORT_EN_WRITE, RETRAIN, LANE_LOSS and TRAINING_RETRY (R326 to R328): EN 0 disables a port and forgets its link state, EN from 0 to 1
trains it, RETRAIN and the loss of a lane in use retrain a port that is UP, and a port that is DOWN or in MISMATCH trains again while EN
is 1. What a training keeps of the link state is the model's reading (log entries 40 and 41). Next states are stated of: PORT_EN_WRITE,
RETRAIN, LANE_LOSS, TRAINING_RETRY. -/
def Obligations.PortStateCommands : Prop :=
  (∀ (s : State) (p v : Nat),
    s.live = true → p < 8 → v % 2 = 0 →
    ∃ t, exec (.portEnWrite p v) s = .next t ∧ t.portState p = 0 ∧ t.portEn p = false ∧ t.port p = ({} : PortSt) ∧ (∀ q, q ≠ p → t.port q
    = s.port q) ∧ onlyRegs [portCfg p, portStatus p] s { t with ports := s.ports }) ∧
  (∀ (s : State) (p v : Nat),
    s.live = true → p < 8 → v % 2 = 1 → s.portEn p = false → s.on (PWR_DOMAIN_CTRL (portDom p)) PWR_DOMAIN_CTRL.DISABLE = false →
    ∃ t, exec (.portEnWrite p v) s = .next t ∧ t.portState p = 1 ∧ t.portEn p = true ∧ t.port p = ({} : PortSt) ∧ (s.dom (portDom p) = 0 →
    t.dom (portDom p) = 1) ∧ onlyLogged (PWR_EVENT :: portCfg p :: portStatus p :: domRegs) s
    { t with ports := s.ports, power := s.power }) ∧
  (∀ (s : State) (p : Nat),
    s.live = true → p < 8 → s.portEn p = true → s.portState p = 2 →
    ∃ t, exec (.retrain p) s = .next t ∧ t.portState p = 3 ∧ t.rf (portEvent p) CSW_PORT_EVENT.RETRAIN = 1 ∧ (t.port p).lanes = [0, 1, 2,
    3] ∧ onlyRegs [portCfg p, portStatus p, portEvent p, CSW_PORT_RETRAINS (portHalf p) p] s { t with ports := s.ports }) ∧
  (∀ (s : State) (p l : Nat),
    s.live = true → p < 8 → s.portState p = 2 → bit (s.rf (portStatus p) CSW_PORT_STATUS.LANES) l = true →
    ∃ t, exec (.laneLoss p l) s = .next t ∧ t.portState p = 3 ∧ (t.port p).lanes = (s.lanesUsed p).filter (· != l) ∧ t.rf
    (CSW_PORT_RETRAINS (portHalf p) p) CSW_PORT_RETRAINS.EVENTS = (s.rf (CSW_PORT_RETRAINS (portHalf p) p) CSW_PORT_RETRAINS.EVENTS + 1) %
    2 ^ 32 ∧ onlyRegs [portStatus p, portEvent p, CSW_PORT_RETRAINS (portHalf p) p] s { t with ports := s.ports }) ∧
  (∀ (s : State) (p : Nat),
    s.live = true → p < 8 → (s.portState p = 4 ∨ s.portState p = 5) → s.portEn p = true →
    ∃ t, exec (.trainingRetry p) s = .next t ∧ t.portState p = 1 ∧ onlyRegs [portStatus p] s t)

/-- FLIT_RECEIVE and ROUTE_WRITE (R330 to R332, R335, R336): a stomped flit changes nothing but the credits that come with it, a flit that
fails its checks is counted and answered with LNAK, a good flit for this device waits in its half one hop older, is acknowledged, and
gives its buffer's credit back; a route entry reads as written. That credits come beside a flit is the model's choice (log entry 80).
Whatever waits at the port, a flit with its credits is taken: a good one that is next in LSEQ is counted and goes where its route leads,
one out of order is not taken, an IDLE one acknowledges. Next states are stated of: FLIT_RECEIVE, ROUTE_WRITE. -/
def Obligations.FlitsReceivedAndRouted : Prop :=
  (∀ (s : State) (p : Nat) (b : List Byte) (cs : List Nat),
    s.live = true → p < 8 → s.portState p = 2 → fStomped b = true → (s.port p).wait = [] →
    ∃ t, exec (.flitReceive p b cs) s = .next t ∧ ({ t with ports := s.ports } : State) = s ∧ t.port p =
    { s.port p with used := (List.range 6).map (fun k => (s.port p).used.getD k 0 - cs.getD k 0) } ∧ (∀ q, q ≠ p → t.port q = s.port q)) ∧
  (∀ (s : State) (p : Nat) (b : List Byte) (cs : List Nat),
    s.live = true → p < 8 → s.portState p = 2 → fStomped b = false → (s.port p).wait = [] → (fSound b = false ∨ fVer b ≠ s.rf (portStatus
    p) CSW_PORT_STATUS.VER) →
    ∃ t, exec (.flitReceive p b cs) s = .next t ∧ t.rf (portEvent p) CSW_PORT_EVENT.CRC_ERR = 1 ∧ t.rf (CSW_PORT_CRC_ERRS (portHalf p) p)
    CSW_PORT_CRC_ERRS.FLITS = (s.rf (CSW_PORT_CRC_ERRS (portHalf p) p) CSW_PORT_CRC_ERRS.FLITS + 1) % 2 ^ 32 ∧ t.outbox.contains
    (Output.flit p (s.idleFlit p true)) = true ∧ onlyRegs [portEvent p, CSW_PORT_CRC_ERRS (portHalf p) p] s
    { t with outbox := s.outbox, ports := s.ports }) ∧
  (∀ (s : State) (p : Nat) (b : List Byte) (cs : List Nat),
    s.live = true → p < 8 → s.portState p = 2 → fStomped b = false → fSound b = true → fVer b = s.rf (portStatus p) CSW_PORT_STATUS.VER →
    fType b ≠ 0 → fType b ≠ 4 → fLnak b = false → (s.port p).replay = [] → (s.port p).wait = [] → fLseq b = (s.port p).rxSeq → fAge b <
    100000 → s.on (CSW_ROUTE (portHalf p) (fDestNode b)) CSW_ROUTE.LOCAL = true → fDestHalf b = portHalf p →
    ∃ t, exec (.flitReceive p b cs) s = .next t ∧ (t.half (portHalf p)).inbox = (s.half (portHalf p)).inbox ++ [setWord b 0xF8 (fAge b +
    1)] ∧ (t.port p).rxSeq = (fLseq b + 1) % 256 ∧ (t.port p).lack = fLseq b ∧ t.outbox = s.outbox ++ [Output.flit p (t.idleFlit p false),
    Output.credit p (fSub6 b)] ∧ t.rf (CSW_PORT_RX_FLITS (portHalf p) p) CSW_PORT_RX_FLITS.FLITS = (s.rf (CSW_PORT_RX_FLITS (portHalf p)
    p) CSW_PORT_RX_FLITS.FLITS + 1) % 2 ^ 32 ∧ t.half (portHalf p).other = s.half (portHalf p).other) ∧
  (∀ (s : State) (h : Half) (i v : Nat),
    s.live = true → i < 16384 →
    ∃ t, exec (.routeWrite h i v) s = .next t ∧ t.rd (CSW_ROUTE h i) = BitVec.ofNat 32 (v % 2048) ∧ onlyRegs [CSW_ROUTE h i] s t) ∧
  (∀ (s : State) (p : Nat) (b : List Byte) (cs : List Nat),
    s.live = true → p < 8 → s.portState p = 2 → fStomped b = false → fSound b = true → fVer b = s.rf (portStatus p) CSW_PORT_STATUS.VER →
    fType b ≠ 0 → fLseq b = (s.port p).rxSeq →
    ∃ t, exec (.flitReceive p b cs) s = .next t ∧ (t.port p).rxSeq = (fLseq b + 1) % 256 ∧ t.rf (CSW_PORT_RX_FLITS (portHalf p) p)
    CSW_PORT_RX_FLITS.FLITS = (s.rf (CSW_PORT_RX_FLITS (portHalf p) p) CSW_PORT_RX_FLITS.FLITS + 1) % 2 ^ 32 ∧ t.graphs = s.graphs ∧ ∀ h :
    Half, (t.half h).mem = (s.half h).mem) ∧
  (∀ (s : State) (p q dl : Nat) (b : List Byte),
    s.live = true → p < 8 → q < 8 → p ≠ q → portHalf q = portHalf p → s.portState p = 2 → s.portState q = 2 → (s.port p).wait = [] →
    (s.port q).wait = [] → (s.port p).replay = [] → (s.port q).replay.length < 128 → fStomped b = false → fSound b = true → fVer b = s.rf
    (portStatus p) CSW_PORT_STATUS.VER → fType b ≠ 0 → fLnak b = false → fLseq b = (s.port p).rxSeq → fAge b < 100000 → s.route (portHalf
    p) (fDestNode b) = .port q dl → dl ≤ 1 → (s.port q).credit { flit := if dl = 1 then fWithDl b 1 else b } = true →
    ∃ t, exec (.flitReceive p b []) s = .next t ∧ (t.port p).rxSeq = (fLseq b + 1) % 256 ∧ (t.port q).wait = [] ∧ (t.port q).txSeq =
    ((s.port q).txSeq + 1) % 256 ∧ (t.port q).replay.length = (s.port q).replay.length + 1 ∧ t.rf (CSW_PORT_TX_FLITS (portHalf q) q)
    CSW_PORT_TX_FLITS.FLITS = (s.rf (CSW_PORT_TX_FLITS (portHalf q) q) CSW_PORT_TX_FLITS.FLITS + 1) % 2 ^ 32 ∧ t.outbox.getLast? = some
    (Output.credit p (fSub6 b))) ∧
  (∀ (s : State) (p : Nat) (b : List Byte) (cs : List Nat),
    s.live = true → p < 8 → s.portState p = 2 → fStomped b = false → fSound b = true → fVer b = s.rf (portStatus p) CSW_PORT_STATUS.VER →
    fType b ≠ 0 → fLseq b ≠ (s.port p).rxSeq →
    exec (.flitReceive p b cs) s = .next (((s.takeCredits p cs).linkAcked p (fLack b) (fLnak b)).sendIdle p false)) ∧
  (∀ (s : State) (p : Nat) (b : List Byte) (cs : List Nat),
    s.live = true → p < 8 → s.portState p = 2 → fStomped b = false → fSound b = true → fVer b = s.rf (portStatus p) CSW_PORT_STATUS.VER →
    fType b = 0 →
    exec (.flitReceive p b cs) s = .next ((s.takeCredits p cs).linkAcked p (fLack b) (fLnak b))) ∧
  (∀ (s : State) (p : Nat) (b : List Byte) (cs : List Nat),
    s.live = true → p < 8 → s.portState p = 2 → fStomped b = true →
    exec (.flitReceive p b cs) s = .next (s.takeCredits p cs)) ∧
  (∀ (s : State) (p : Nat) (b : List Byte) (cs : List Nat),
    s.live = true → p < 8 → s.portState p = 2 → fStomped b = false → (fSound b = false ∨ fVer b ≠ s.rf (portStatus p) CSW_PORT_STATUS.VER)
    →
    exec (.flitReceive p b cs) s = .next ((s.takeCredits p cs).flitBad p b))

/-- ERR_HOST_HEAD_WRITE and MGMT_HEAD_ADVANCE (R446, R454): the host's head moves up to TAIL and never beyond it, and the management
controller passes one record that is 1 ms old. That a head beyond TAIL is discarded is the model's reading of Table 16.7. Its number is
log entry 15. Next states are stated of: ERR_HOST_HEAD_WRITE, MGMT_HEAD_ADVANCE. -/
def Obligations.LogHeads : Prop :=
  (∀ (s : State) (h : Half) (v : Nat),
    s.live = true → unread (v % 2048) (s.rf (ERR_HOST_HEAD h) ERR_HOST_HEAD.HEAD) ≤ unread (s.rf (ERR_TAIL h) ERR_TAIL.TAIL) (s.rf
    (ERR_HOST_HEAD h) ERR_HOST_HEAD.HEAD) →
    ∃ t, exec (.errHostHeadWrite h v) s = .next t ∧ t.rf (ERR_HOST_HEAD h) ERR_HOST_HEAD.HEAD = v % 2048 ∧ onlyRegs [ERR_HOST_HEAD h] s t) ∧
  (∀ (s : State) (h : Half) (v : Nat),
    s.live = true → unread (s.rf (ERR_TAIL h) ERR_TAIL.TAIL) (s.rf (ERR_HOST_HEAD h) ERR_HOST_HEAD.HEAD) < unread (v % 2048) (s.rf
    (ERR_HOST_HEAD h) ERR_HOST_HEAD.HEAD) →
    exec (.errHostHeadWrite h v) s = .next s) ∧
  (∀ (s : State) (h : Half),
    s.live = true → s.mgmtMayPass h = true →
    ∃ t, exec (.mgmtHeadAdvance h) s = .next t ∧ t.rf (ERR_STATUS h) ERR_STATUS.MGMT_HEAD = (s.rf (ERR_STATUS h) ERR_STATUS.MGMT_HEAD + 1)
    % 2048 ∧ onlyRegs [ERR_STATUS h] s t)

/-- PASSAGE_TRANSFER_ARRIVE (R20 to R23): the oldest transfer of a class arrives when it is the class's turn, and waits otherwise; a
stream's payload that crosses within four attempts stands at its place in the far half's tier, a store to a part of an uncorrectable word
is discarded (R233), and a dependence token whose fourth attempt fails is recorded and lost. The operand's attempts are what the outside
supplies (log entry 1). The oldest transfer of a class whose turn it is leaves its queue and does in its half what it carries, or after a
fourth failed attempt ends as R23 says. Next states are stated of: PASSAGE_TRANSFER_ARRIVE. -/
def Obligations.PassageTransfers : Prop :=
  (∀ (s : State) (h : Half) (n : Option NodeRef) (e tier a fails : Nat) (bs : List Byte) (q : List PassMsg),
    s.live = true → s.passOn = true → fails < 4 → (s.half h).turn .activation = true → (tier = 1 ∨ tier = 2) → (s.half h).activation =
    PassMsg.payload n e tier a bs :: q → partWords (wordBytes tier) a bs.length = [] → dscSrcKind (s.engine e).desc ≠ 6 →
    ∃ t, exec (.passageTransferArrive h .activation fails) s = .next t ∧ (t.half h).activation = q ∧ t.memBytes h tier a bs.length = bs ∧
    t.half h.other = s.half h.other ∧ t.regs = s.regs ∧ t.outbox = s.outbox) ∧
  (∀ (s : State) (h : Half) (n : Option NodeRef) (e a fails : Nat) (bs : List Byte) (q : List PassMsg),
    s.live = true → s.passOn = true → fails < 4 → (s.half h).turn .activation = true → dscSrcKind (s.engine e).desc ≠ 6 → (s.half
    h).activation = PassMsg.payload n e 2 a bs :: q → 0 < bs.length → a % 8 + bs.length < 8 → a / 8 ∈ (s.half h).mem.badT2 →
    ∃ t, exec (.passageTransferArrive h .activation fails) s = .next t ∧ (t.half h).activation = q ∧ (t.half h).mem.t2 = (s.half h).mem.t2
    ∧ t.rf (MEM_EVENT h) MEM_EVENT.SUBWORD_DISCARD = 1) ∧
  (∀ (s : State) (h : Half) (k : Token) (fails : Nat) (q : List PassMsg),
    s.live = true → s.passOn = true → 4 ≤ fails → (s.half h).token = PassMsg.token k :: q → (s.half h).turn .token = true →
    ∃ t, exec (.passageTransferArrive h .token fails) s = .next t ∧ (t.half h).token = q ∧ t.graphs = s.graphs ∧ onlyLogged [] s
    (t.modHalf h (fun x => { x with token := (s.half h).token, lent := (s.half h).lent }))) ∧
  (∀ (s : State) (h : Half) (k : PClass) (fails : Nat),
    s.live = true → (s.passOn = false ∨ (s.half h).turn k = false) →
    exec (.passageTransferArrive h k fails) s = .next s) ∧
  (∀ (s : State) (h : Half) (k : PClass) (fails : Nat) (m : PassMsg) (q : List PassMsg),
    s.live = true → s.passOn = true → (s.half h).turn k = true → (s.half h).cls k = m :: q → fails < 4 →
    exec (.passageTransferArrive h k fails) s = .next ((s.modHalf h (fun (x : HalfState) => x.sent k m q)).passDeliver h m)) ∧
  (∀ (s : State) (h : Half) (k : PClass) (fails : Nat) (m : PassMsg) (q : List PassMsg),
    s.live = true → s.passOn = true → (s.half h).turn k = true → (s.half h).cls k = m :: q → 4 ≤ fails →
    exec (.passageTransferArrive h k fails) s = .next ((s.modHalf h (fun (x : HalfState) => x.sent k m q)).passFails h m)) ∧
  (∀ (s : State) (h : Half) (fails a tier i : Nat) (bs : List Byte) (q : List PassMsg),
    s.live = true → s.passOn = true → (s.half h).turn .move = true → (s.half h).move = PassMsg.move i tier a bs :: q → fails < 4 → bs ≠ []
    → (tier = 1 ∨ tier = 2) →
    ∃ t, exec (.passageTransferArrive h .move fails) s = .next t ∧ (t.half h).move = q ∧ t.memBytes h tier a bs.length = bs ∧ t.regs =
    s.regs ∧ t.graphs = s.graphs) ∧
  (∀ (s : State) (h : Half) (fails f off : Nat) (bs : List Byte) (q : List PassMsg),
    s.live = true → s.passOn = true → (s.half h).turn .control = true → (s.half h).control = PassMsg.answer f off bs :: q → fails < 4 →
    ∃ t, exec (.passageTransferArrive h .control fails) s = .next t ∧ (t.half h).control = q ∧ t.outbox = s.outbox ++ [Output.readDone f
    off bs] ∧ t.regs = s.regs ∧ t.graphs = s.graphs)

/-- ALLOC (R213, R217): a GO whose block passes the checks, for a PIN_T1 object that quota and space allow, without INIT_ZERO, makes the
lowest free entry RESIDENT at its run with the next GEN, charges the context, and ends with the new handle; a block that fails a check
ends with its result code and allocates nothing. An object of another class takes the first tier that R217 gives it, with INIT_ZERO it
waits for its fill, and an EVICTABLE one takes backing in T2 and a run of the pool. Next states are stated of: ALLOC. -/
def Obligations.AllocCommand : Prop :=
  (∀ (s : State) (h : Half) (i g : Nat),
    s.live = true → s.on (MEM_CMD_CTRL h) MEM_CMD_CTRL.BUSY = false → blkOp (s.memCmdBlock h) = 1 → s.memCheck h (s.memCmdBlock h) = 0 →
    s.freeEntry h = some i → flagPin (blkFlags (s.memCmdBlock h)) = true → blkInitZero (s.memCmdBlock h) = false → s.tryTier h (blkCtx
    (s.memCmdBlock h)) 1 (blkSize (s.memCmdBlock h)) (if blkPlace (s.memCmdBlock h) then some (blkBase (s.memCmdBlock h)) else none) = .ok
    g →
    ∃ t, exec (.alloc h) s = .next t ∧ t.rf (MEM_CMD_CTRL h) MEM_CMD_CTRL.BUSY = 0 ∧ t.rf (MEM_CMD_CTRL h) MEM_CMD_CTRL.DONE = 1 ∧ t.rf
    (MEM_CMD_CTRL h) MEM_CMD_CTRL.RESULT = 0 ∧ t.objState h i = 1 ∧ t.rf (MEM_HOME h i) MEM_HOME.TIER = 1 ∧ t.rf (MEM_HOME h i)
    MEM_HOME.BASE = g ∧ t.rf (MEM_HOME h i) MEM_HOME.GEN = nextGen (s.rf (MEM_HOME h i) MEM_HOME.GEN) ∧ t.rd (MEM_CMD h 1) = BitVec.ofNat
    32 (t.handleOf h i) ∧ t.quotaUsed h (blkCtx (s.memCmdBlock h)) 1 false = s.quotaUsed h (blkCtx (s.memCmdBlock h)) 1 false + granulesOf
    1 (blkSize (s.memCmdBlock h)) ∧ (∀ j < 32768, j ≠ i → t.objState h j = s.objState h j) ∧ (t.half h).mem = (s.half h).mem) ∧
  (∀ (s : State) (h : Half),
    s.live = true → s.on (MEM_CMD_CTRL h) MEM_CMD_CTRL.BUSY = false → blkOp (s.memCmdBlock h) = 1 → s.memCheck h (s.memCmdBlock h) ≠ 0 →
    ∃ t, exec (.alloc h) s = .next t ∧ t.rf (MEM_CMD_CTRL h) MEM_CMD_CTRL.RESULT = s.memCheck h (s.memCmdBlock h) ∧ t.rf (MEM_CMD_CTRL h)
    MEM_CMD_CTRL.DONE = 1 ∧ onlyRegs [MEM_CMD h 6, MEM_CMD_CTRL h] s t) ∧
  (∀ (s : State) (h : Half) (i g : Nat),
    s.live = true → s.on (MEM_CMD_CTRL h) MEM_CMD_CTRL.BUSY = false → blkOp (s.memCmdBlock h) = 1 → s.memCheck h (s.memCmdBlock h) = 0 →
    s.freeEntry h = some i → flagEvictable (blkFlags (s.memCmdBlock h)) = false → s.tryTier h (blkCtx (s.memCmdBlock h)) (if flagT2Only
    (blkFlags (s.memCmdBlock h)) then 2 else 1) (blkSize (s.memCmdBlock h)) (if blkPlace (s.memCmdBlock h) then some (blkBase
    (s.memCmdBlock h)) else none) = .ok g →
    ∃ t, exec (.alloc h) s = .next t ∧ (if blkInitZero (s.memCmdBlock h) then t.objState h i = s.objState h i ∧ t.rf (MEM_CMD_CTRL h)
    MEM_CMD_CTRL.BUSY = 1 ∧ (t.half h).mem.fills = (s.half h).mem.fills ++
    [({ tier := if flagT2Only (blkFlags (s.memCmdBlock h)) then 2 else 1, base := g, len := granulesOf (if flagT2Only (blkFlags (s.memCmdBlock h)) then 2 else 1) (blkSize (s.memCmdBlock h)), ctx := blkCtx (s.memCmdBlock h), charged := false, entry := some i }
    : Fill)] else t.objState h i = 1 ∧ t.rf (MEM_HOME h i) MEM_HOME.TIER = (if flagT2Only (blkFlags (s.memCmdBlock h)) then 2 else 1) ∧
    t.rf (MEM_HOME h i) MEM_HOME.BASE = g ∧ t.rf (MEM_HOME h i) MEM_HOME.GEN = nextGen (s.rf (MEM_HOME h i) MEM_HOME.GEN) ∧ t.rf
    (MEM_CMD_CTRL h) MEM_CMD_CTRL.BUSY = 0 ∧ t.rf (MEM_CMD_CTRL h) MEM_CMD_CTRL.RESULT = 0))

/-- FREE, MOVE and SET_SWEEP by a GO in MEM_CMD_CTRL (R224, R229, R239): FREE of an unbound RESIDENT object makes its entry FREE and
starts the fill of its granules, one in use ends with IN_USE, MOVE of a movable object to the other tier holds the destination and turns
the object MOVING, SET_SWEEP sets its bit. A FREE of an object of any class empties its entry and leaves its runs to be filled; a FREE of
an object in MOVING ends the MOVE; a MOVE or FREE of an object that is EVICTING waits. Next states are stated of: FREE, MOVE, SET_SWEEP.
-/
def Obligations.ObjectCommandsByRegisters : Prop :=
  (∀ (s : State) (h : Half) (i : Nat),
    s.live = true → s.on (MEM_CMD_CTRL h) MEM_CMD_CTRL.BUSY = false → blkOp (s.memCmdBlock h) = 2 → s.memCheck h (s.memCmdBlock h) = 0 → i
    = handleIdx (blkHandle (s.memCmdBlock h)) → s.objState h i = 1 → s.rf (MEM_HOME h i) MEM_HOME.USE_R = 0 → s.rf (MEM_HOME h i)
    MEM_HOME.USE_W = 0 → flagEvictable (s.rf (MEM_HOME h i) MEM_HOME.FLAGS) = false →
    ∃ t, exec (.free h .regs) s = .next t ∧ t.objState h i = 0 ∧ t.rf (MEM_CMD_CTRL h) MEM_CMD_CTRL.RESULT = 0 ∧ t.rf (MEM_CMD_CTRL h)
    MEM_CMD_CTRL.DONE = 1 ∧ (t.half h).mem.fills = (s.half h).mem.fills ++
    [({ tier := s.rf (MEM_HOME h i) MEM_HOME.TIER, base := s.rf (MEM_HOME h i) MEM_HOME.BASE, len := granulesOf (s.rf (MEM_HOME h i) MEM_HOME.TIER) (s.objSize h i), ctx := s.rf (MEM_HOME h i) MEM_HOME.CONTEXT, pool := false }
    : Fill)] ∧ (t.half h).mem.t1 = (s.half h).mem.t1 ∧ (t.half h).mem.t2 = (s.half h).mem.t2 ∧ (∀ j < 32768, j ≠ i → t.objState h j =
    s.objState h j)) ∧
  (∀ (s : State) (h : Half),
    s.live = true → s.on (MEM_CMD_CTRL h) MEM_CMD_CTRL.BUSY = false → blkOp (s.memCmdBlock h) = 2 → s.memCheck h (s.memCmdBlock h) = 0 →
    s.objState h (handleIdx (blkHandle (s.memCmdBlock h))) = 1 → s.rf (MEM_HOME h (handleIdx (blkHandle (s.memCmdBlock h))))
    MEM_HOME.USE_R ≠ 0 →
    ∃ t, exec (.free h .regs) s = .next t ∧ t.rf (MEM_CMD_CTRL h) MEM_CMD_CTRL.RESULT = 0x47 ∧ onlyRegs [MEM_CMD h 6, MEM_CMD_CTRL h] s t) ∧
  (∀ (s : State) (h : Half) (i g tier : Nat),
    s.live = true → s.on (MEM_CMD_CTRL h) MEM_CMD_CTRL.BUSY = false → blkOp (s.memCmdBlock h) = 3 → s.memCheck h (s.memCmdBlock h) = 0 → i
    = handleIdx (blkHandle (s.memCmdBlock h)) → s.objState h i = 1 → flagMovable (s.rf (MEM_HOME h i) MEM_HOME.FLAGS) = true →
    flagEvictable (s.rf (MEM_HOME h i) MEM_HOME.FLAGS) = false → flagT2Only (s.rf (MEM_HOME h i) MEM_HOME.FLAGS) = false → blkDestOther
    (s.memCmdBlock h) = false → tier = (if blkDestT2 (s.memCmdBlock h) then 2 else 1) → tier ≠ s.rf (MEM_HOME h i) MEM_HOME.TIER →
    s.tryTier h (s.rf (MEM_HOME h i) MEM_HOME.CONTEXT) tier (s.objSize h i) (if blkPlace (s.memCmdBlock h) then some (blkBase
    (s.memCmdBlock h)) else none) = .ok g →
    ∃ t, exec (.move h .regs) s = .next t ∧ t.objState h i = 2 ∧ t.rf (MEM_HOME h i) MEM_HOME.DEST = g ∧ t.rf (MEM_HOME h i)
    MEM_HOME.DEST_TIER = tier - 1 ∧ t.rf (MEM_CMD_CTRL h) MEM_CMD_CTRL.BUSY = 1 ∧ (t.half h).mem.copies = (s.half h).mem.copies ++
    [({ idx := i, evict := false, src := .regs } : Copy)] ∧ t.quotaUsed h (s.rf (MEM_HOME h i) MEM_HOME.CONTEXT) tier false = s.quotaUsed
    h (s.rf (MEM_HOME h i) MEM_HOME.CONTEXT) tier false + granulesOf tier (s.objSize h i) ∧ (t.half h).mem.t1 = (s.half h).mem.t1 ∧
    (t.half h).mem.t2 = (s.half h).mem.t2) ∧
  (∀ (s : State) (h : Half),
    s.live = true → s.on (MEM_CMD_CTRL h) MEM_CMD_CTRL.BUSY = false → blkOp (s.memCmdBlock h) = 4 → s.memCheck h (s.memCmdBlock h) = 0 →
    ∃ t, exec (.setSweep h .regs) s = .next t ∧ t.rf (MEM_HOME h (handleIdx (blkHandle (s.memCmdBlock h)))) MEM_HOME.SWEEP = 1 ∧ t.rf
    (MEM_CMD_CTRL h) MEM_CMD_CTRL.RESULT = 0 ∧ onlyRegs [MEM_HOME h (handleIdx (blkHandle (s.memCmdBlock h))), MEM_CMD h 6, MEM_CMD_CTRL
    h] s t) ∧
  (∀ (s : State) (h : Half) (i : Nat),
    s.live = true → s.on (MEM_CMD_CTRL h) MEM_CMD_CTRL.BUSY = false → blkOp (s.memCmdBlock h) = 2 → s.memCheck h (s.memCmdBlock h) = 0 → i
    = handleIdx (blkHandle (s.memCmdBlock h)) → s.objState h i = 1 → s.rf (MEM_HOME h i) MEM_HOME.USE_R = 0 → s.rf (MEM_HOME h i)
    MEM_HOME.USE_W = 0 →
    ∃ t, exec (.free h .regs) s = .next t ∧ t.objState h i = 0 ∧ (s.half h).mem.fills ++ [s.homeFill h i] <+: (t.half h).mem.fills ∧ t.rf
    (MEM_CMD_CTRL h) MEM_CMD_CTRL.RESULT = 0 ∧ t.rf (MEM_CMD_CTRL h) MEM_CMD_CTRL.DONE = 1) ∧
  (∀ (s : State) (h : Half) (i : Nat),
    s.live = true → s.on (MEM_CMD_CTRL h) MEM_CMD_CTRL.BUSY = false → blkOp (s.memCmdBlock h) = 2 → s.memCheck h (s.memCmdBlock h) = 0 → i
    = handleIdx (blkHandle (s.memCmdBlock h)) → s.objState h i = 3 →
    ∃ t, exec (.free h .regs) s = .next t ∧ t.rf (MEM_CMD_CTRL h) MEM_CMD_CTRL.BUSY = 1 ∧ (t.half h).mem.waiting = (s.half h).mem.waiting
    ++ [(MemSrc.regs, s.memCmdBlock h)] ∧ onlyRegs [MEM_CMD_CTRL h] s (t.modMem h (fun _ => (s.half h).mem))) ∧
  (∀ (s : State) (h : Half) (i : Nat),
    s.live = true → s.on (MEM_CMD_CTRL h) MEM_CMD_CTRL.BUSY = false → blkOp (s.memCmdBlock h) = 3 → s.memCheck h (s.memCmdBlock h) = 0 → i
    = handleIdx (blkHandle (s.memCmdBlock h)) → s.objState h i = 3 →
    ∃ t, exec (.move h .regs) s = .next t ∧ t.rf (MEM_CMD_CTRL h) MEM_CMD_CTRL.BUSY = 1 ∧ (t.half h).mem.waiting = (s.half h).mem.waiting
    ++ [(MemSrc.regs, s.memCmdBlock h)] ∧ onlyRegs [MEM_CMD_CTRL h] s (t.modMem h (fun _ => (s.half h).mem))) ∧
  (∀ (s : State) (h : Half) (i : Nat),
    s.live = true → s.on (MEM_CMD_CTRL h) MEM_CMD_CTRL.BUSY = false → blkOp (s.memCmdBlock h) = 3 → s.memCheck h (s.memCmdBlock h) = 0 → i
    = handleIdx (blkHandle (s.memCmdBlock h)) → s.objState h i = 1 → flagMovable (s.rf (MEM_HOME h i) MEM_HOME.FLAGS) = true →
    flagEvictable (s.rf (MEM_HOME h i) MEM_HOME.FLAGS) = true → flagT2Only (s.rf (MEM_HOME h i) MEM_HOME.FLAGS) = false → blkDestOther
    (s.memCmdBlock h) = false → blkDestT2 (s.memCmdBlock h) = true → s.rf (MEM_HOME h i) MEM_HOME.TIER = 1 →
    ∃ t, exec (.move h .regs) s = .next t ∧ t.objState h i = 2 ∧ t.rf (MEM_HOME h i) MEM_HOME.DEST = s.rf (MEM_HOME h i) MEM_HOME.BACKING
    ∧ t.rf (MEM_HOME h i) MEM_HOME.DEST_TIER = 1 ∧ (t.half h).mem.copies = (s.half h).mem.copies ++
    [({ idx := i, evict := false, src := .regs } : Copy)])

/-- FREE, MOVE and SET_SWEEP as the payload of a running MEMORY node (R211, R213, Table 8.10): a command that fails its checks ends the
node with FAULT_RETRY and the code as DETAIL and changes no register; SET_SWEEP of a live handle sets the bit and ends the node. A FREE of
an unbound RESIDENT object ends its node and empties the entry; a MOVE of an object that may not move, or to where it stands, ends its
node. Next states are stated of: FREE, MOVE, SET_SWEEP. -/
def Obligations.ObjectCommandsByNodes : Prop :=
  (∀ (s : State) (h : Half) (r : NodeRef) (g : Graph) (n : Node),
    s.live = true → s.node r = some (g, n) → n.kind = 5 → n.half = h → n.phase = .running → blkOp (slice n.bytes 0x40 32) = 2 → s.memTaken
    h (.node r) = false → s.memCheck h (slice n.bytes 0x40 32) ≠ 0 →
    ∃ t, exec (.free h (.node r)) s = .next t ∧ t.nodeIn r .ended = true ∧ (t.node r).map (fun m : Graph × Node => (m.2.prim, m.2.detail))
    = some (worse n.prim 4, s.memCheck h (slice n.bytes 0x40 32)) ∧ ({ t with graphs := s.graphs } : State) = s) ∧
  (∀ (s : State) (h : Half) (r : NodeRef) (g : Graph) (n : Node),
    s.live = true → s.node r = some (g, n) → n.kind = 5 → n.half = h → n.phase = .running → blkOp (slice n.bytes 0x40 32) = 3 → s.memTaken
    h (.node r) = false → s.memCheck h (slice n.bytes 0x40 32) ≠ 0 →
    ∃ t, exec (.move h (.node r)) s = .next t ∧ t.nodeIn r .ended = true ∧ (t.node r).map (fun m : Graph × Node => (m.2.prim, m.2.detail))
    = some (worse n.prim 4, s.memCheck h (slice n.bytes 0x40 32)) ∧ ({ t with graphs := s.graphs } : State) = s) ∧
  (∀ (s : State) (h : Half) (r : NodeRef) (g : Graph) (n : Node),
    s.live = true → s.node r = some (g, n) → n.kind = 5 → n.half = h → n.phase = .running → blkOp (slice n.bytes 0x40 32) = 4 → s.memTaken
    h (.node r) = false → s.memCheck h (slice n.bytes 0x40 32) = 0 →
    ∃ t, exec (.setSweep h (.node r)) s = .next t ∧ t.nodeIn r .ended = true ∧ t.rf (MEM_HOME h (handleIdx (blkHandle (slice n.bytes 0x40
    32)))) MEM_HOME.SWEEP = 1 ∧ onlyRegs [MEM_HOME h (handleIdx (blkHandle (slice n.bytes 0x40 32)))] s { t with graphs := s.graphs }) ∧
  (∀ (s : State) (h : Half) (r : NodeRef) (g : Graph) (n : Node) (i : Nat),
    s.live = true → s.node r = some (g, n) → n.kind = 5 → n.half = h → n.phase = .running → blkOp (slice n.bytes 0x40 32) = 2 → s.memTaken
    h (.node r) = false → s.memCheck h (slice n.bytes 0x40 32) = 0 → i = handleIdx (blkHandle (slice n.bytes 0x40 32)) → s.objState h i =
    1 → s.rf (MEM_HOME h i) MEM_HOME.USE_R = 0 → s.rf (MEM_HOME h i) MEM_HOME.USE_W = 0 →
    ∃ t, exec (.free h (.node r)) s = .next t ∧ t.objState h i = 0 ∧ t.nodeIn r .ended = true ∧ (s.half h).mem.fills ++ [s.homeFill h i]
    <+: (t.half h).mem.fills) ∧
  (∀ (s : State) (h : Half) (r : NodeRef) (g : Graph) (n : Node) (i : Nat),
    s.live = true → s.node r = some (g, n) → n.kind = 5 → n.half = h → n.phase = .running → blkOp (slice n.bytes 0x40 32) = 3 → s.memTaken
    h (.node r) = false → s.memCheck h (slice n.bytes 0x40 32) = 0 → i = handleIdx (blkHandle (slice n.bytes 0x40 32)) → s.objState h i =
    1 → flagMovable (s.rf (MEM_HOME h i) MEM_HOME.FLAGS) = true → flagT2Only (s.rf (MEM_HOME h i) MEM_HOME.FLAGS) = false → blkDestOther
    (slice n.bytes 0x40 32) = false → blkDestT2 (slice n.bytes 0x40 32) = true → flagEvictable (s.rf (MEM_HOME h i) MEM_HOME.FLAGS) = true
    →
    ∃ t, exec (.move h (.node r)) s = .next t ∧ (if s.rf (MEM_HOME h i) MEM_HOME.TIER = 2 then t.nodeIn r .ended = true ∧ t.regs = s.regs
    else t.objState h i = 2 ∧ (t.half h).mem.copies = (s.half h).mem.copies ++ [({ idx := i, evict := false, src := .node r } : Copy)]))

/-- ZERO_FILL_DONE, POOL_RETRY and ALLOC_TIMEOUT (R217, R219, R229): the oldest fill of released granules reads zero and ends its charge;
a waiting pool placement that finds room completes, and one that has waited TIMEOUT ends with NO_SPACE and its event. MOVE_COPY_START,
MOVE_COPY_DONE and EVICT_DONE (R220, R224, R225, R235, R408): with the memories on, the copy starts once no writer is bound; when it is
done the home switches in one update, the object's bytes read the same at the new home, and the source run is released; bad data end a
MOVE with DATA_ERROR and leave an evicted object where it was with EVICT_FAIL. Where a clause names t.rebind, t is the state before the
nodes that wait to bind try again. Every fill ends with its run zero; a waiting placement that is settled leaves the queue, and its wait
is counted; ALLOC_TIMEOUT ends any of them with NO_SPACE; a copy that is good moves the object, whichever command asked for it, and the
commands that waited for it are checked afresh. Next states are stated of: ZERO_FILL_DONE, POOL_RETRY, ALLOC_TIMEOUT, MOVE_COPY_START,
MOVE_COPY_DONE, EVICT_DONE. -/
def Obligations.FillsWaitsMovesAndEvictions : Prop :=
  (∀ (s : State) (h : Half) (f : Fill) (fs : List Fill),
    s.live = true → (s.half h).mem.fills = f :: fs → f.entry = none → f.charged = true → f.ctx < 256 → f.tier = 2 → f.pool = false →
    (runDoms h f.tier f.base f.len).all s.domOn = true →
    ∃ t, exec (.zeroFillDone h) s = .next t ∧ (t.half h).mem.fills = fs ∧ t.quotaUsed h f.ctx 2 false = s.quotaUsed h f.ctx 2 false -
    f.len ∧ (∀ a, mapGet zeroByte (t.half h).mem.t2 a = if f.base * 65536 ≤ a ∧ a < f.base * 65536 + f.len * 65536 then 0 else mapGet
    zeroByte (s.half h).mem.t2 a) ∧ (t.half h).mem.t1 = (s.half h).mem.t1 ∧ t.half h.other = s.half h.other) ∧
  (∀ (s : State) (h : Half) (a : AllocReq) (q : List AllocReq) (b : Nat),
    s.live = true → (s.half h).mem.allocWait = a :: q → a.move = false → a.other = none → a.src = .regs → a.ctx < 256 → a.idx < 32768 →
    s.quotaFits h a.ctx 1 true (granulesOf 1 a.size) = true → blkInitZero a.block = false → (s.modMem h (fun m =>
    { m with allocWait := q })).poolFit h (granulesOf 1 a.size) = some b →
    ∃ t, exec (.poolRetry h) s = .next t ∧ (t.half h).mem.allocWait = q ∧ t.objState h a.idx = 1 ∧ t.rf (MEM_HOME h a.idx) MEM_HOME.BASE =
    b % 2 ^ 20 ∧ t.rf (MEM_CMD_CTRL h) MEM_CMD_CTRL.RESULT = 0 ∧ t.rf (MEM_CMD_CTRL h) MEM_CMD_CTRL.DONE = 1) ∧
  (∀ (s : State) (h : Half) (k : Nat) (a : AllocReq),
    s.live = true → (s.half h).mem.allocWait[k]? = some a → a.move = false → a.other = none → a.src = .regs → a.ctx < 256 →
    ∃ t, exec (.allocTimeout h k) s = .next t ∧ (t.half h).mem.allocWait = (s.half h).mem.allocWait.eraseIdx k ∧ t.rf (MEM_EVENT h)
    MEM_EVENT.ALLOC_TIMEOUT = 1 ∧ t.rf (MEM_CMD_CTRL h) MEM_CMD_CTRL.RESULT = 0x44 ∧ onlyRegs [MEM_ALLOC_WAIT h, MEM_EVENT h,
    MEM_CTX_T2_USED h a.ctx, MEM_CMD h 6, MEM_CMD_CTRL h] s (t.modMem h (fun m => { m with allocWait := (s.half h).mem.allocWait }))) ∧
  (∀ (s : State) (h : Half) (i : Nat) (c : Copy),
    s.live = true → s.copyOf h i = some c → c.evict = false → c.started = false → c.other = none → s.rf (MEM_HOME h i) MEM_HOME.USE_W = 0
    → s.copyOn h i c = true →
    ∃ t, exec (.moveCopyStart h i) s = .next t ∧ t.copyOf h i = some { c with started := true } ∧ t.regs = s.regs ∧ t.half h.other =
    s.half h.other) ∧
  (∀ (s : State) (h : Half) (i : Nat) (c : Copy),
    s.live = true → i < 32768 → s.copyOf h i = some c → c.evict = false → c.started = true → c.failed = false → c.other = none → c.src =
    .regs → (s.half h).mem.waiting = [] → s.rf (MEM_HOME h i) MEM_HOME.TIER = 1 → s.rf (MEM_HOME h i) MEM_HOME.DEST_TIER = 1 → s.memBad h
    1 (s.objAt h i).addr (s.objSize h i) = false →
    ∃ t : State, exec (.moveCopyDone h i {}) s = .next t.rebind ∧ t.objState h i = 1 ∧ t.rf (MEM_HOME h i) MEM_HOME.TIER = 2 ∧ t.rf
    (MEM_HOME h i) MEM_HOME.BASE = s.rf (MEM_HOME h i) MEM_HOME.DEST ∧ t.copyOf h i = none ∧ t.memBytes h 2 (t.objAt h i).addr (s.objSize
    h i) = s.memBytes h 1 (s.objAt h i).addr (s.objSize h i) ∧ (t.half h).mem.t1 = (s.half h).mem.t1 ∧ t.rf (MEM_CMD_CTRL h)
    MEM_CMD_CTRL.RESULT = 0 ∧ t.rf (MEM_CMD_CTRL h) MEM_CMD_CTRL.DONE = 1) ∧
  (∀ (s : State) (h : Half) (i : Nat) (c : Copy) (chk : Scan),
    s.live = true → i < 32768 → s.copyOf h i = some c → c.evict = false → c.started = true → c.other = none → c.src = .regs → (s.half
    h).mem.waiting = [] → (s.copyScan h i chk).2 = true ∨ c.failed = true →
    ∃ t : State, exec (.moveCopyDone h i chk) s = .next t.rebind ∧ t.objState h i = 1 ∧ t.rf (MEM_HOME h i) MEM_HOME.TIER = s.rf (MEM_HOME
    h i) MEM_HOME.TIER ∧ t.rf (MEM_HOME h i) MEM_HOME.BASE = s.rf (MEM_HOME h i) MEM_HOME.BASE ∧ t.copyOf h i = none ∧ (t.half h).mem.t1 =
    (s.half h).mem.t1 ∧ (t.half h).mem.t2 = (s.half h).mem.t2 ∧ t.rf (MEM_CMD_CTRL h) MEM_CMD_CTRL.RESULT = 0x4A ∧ t.rf (MEM_CMD_CTRL h)
    MEM_CMD_CTRL.DONE = 1) ∧
  (∀ (s : State) (h : Half) (i : Nat) (c : Copy),
    s.live = true → i < 32768 → s.copyOf h i = some c → c.evict = true → (s.half h).mem.waiting = [] → s.rf (MEM_HOME h i) MEM_HOME.TIER =
    1 → s.copyOn h i c = true → s.memBad h 1 (s.objAt h i).addr (s.objSize h i) = false →
    ∃ t : State, exec (.evictDone h i {}) s = .next t.rebind ∧ t.objState h i = 1 ∧ t.rf (MEM_HOME h i) MEM_HOME.TIER = 2 ∧ t.rf (MEM_HOME
    h i) MEM_HOME.BASE = s.rf (MEM_HOME h i) MEM_HOME.BACKING ∧ (t.half h).mem.fills = (s.half h).mem.fills ++ [s.homeFill h i] ∧
    t.memBytes h 2 (t.objAt h i).addr (s.objSize h i) = s.memBytes h 1 (s.objAt h i).addr (s.objSize h i) ∧ onlyRegs [MEM_HOME h i,
    MEM_HOME h i + 16, MEM_EVICT_COUNT h] s (t.modMem h (fun _ => (s.half h).mem))) ∧
  (∀ (s : State) (h : Half) (i : Nat) (c : Copy) (chk : Scan),
    s.live = true → i < 32768 → s.copyOf h i = some c → c.evict = true → (s.half h).mem.waiting = [] → s.copyOn h i c = true → (s.copyScan
    h i chk).2 = true →
    ∃ t : State, exec (.evictDone h i chk) s = .next t.rebind ∧ t.objState h i = 1 ∧ t.rf (MEM_HOME h i) MEM_HOME.EVICT_FAIL = 1 ∧ t.rf
    (MEM_EVENT h) MEM_EVENT.EVICT_FAIL = 1 ∧ (t.half h).mem.t1 = (s.half h).mem.t1 ∧ (t.half h).mem.t2 = (s.half h).mem.t2 ∧ onlyLogged
    [MEM_HOME h i, MEM_EVENT h, MEM_PARITY_UE h, MEM_SECDED_UE h, MEM_PARITY_REPLAY h, MEM_SECDED_CE h] s (t.modMem h (fun _ => (s.half
    h).mem))) ∧
  (∀ (s : State) (h : Half) (f : Fill) (fs : List Fill),
    s.live = true → (s.half h).mem.fills = f :: fs → f.ctx < 256 → (runDoms h f.tier f.base f.len).all s.domOn = true → f.entry = none →
    ∃ t, exec (.zeroFillDone h) s = .next t ∧ (t.half h).mem.fills = fs ∧ (f.charged = true → t.quotaUsed h f.ctx f.tier f.pool =
    s.quotaUsed h f.ctx f.tier f.pool - f.len) ∧ (∀ k < f.len * granule f.tier, t.memBytes h f.tier (f.base * granule f.tier + k) 1 =
    [0])) ∧
  (∀ (s : State) (h : Half) (f : Fill) (fs : List Fill) (i : Nat) (a : AllocReq),
    s.live = true → (s.half h).mem.fills = f :: fs → (runDoms h f.tier f.base f.len).all s.domOn = true → f.entry = some i → i < 32768 →
    (s.half h).mem.allocs.find? (fun (a : AllocReq) => a.idx == i) = some a →
    ∃ t, exec (.zeroFillDone h) s = .next t ∧ (t.half h).mem.fills = fs ∧ t.objState h i = 1 ∧ t.rf (MEM_HOME h i) MEM_HOME.SWEEP = 1 ∧
    t.rf (MEM_HOME h i) MEM_HOME.GEN = nextGen (s.rf (MEM_HOME h i) MEM_HOME.GEN) ∧ (a.src = MemSrc.regs → t.rf (MEM_CMD_CTRL h)
    MEM_CMD_CTRL.DONE = 1)) ∧
  (∀ (s : State) (h : Half) (a : AllocReq) (q : List AllocReq),
    s.live = true → (s.half h).mem.allocWait = a :: q → s.poolStands h a = true → a.ctx < 256 → a.idx < 32768 → a.other.all (fun e =>
    decide (e.2 < 32768)) = true → ((s.modMem h (fun m => { m with allocWait := q })).poolTry h a true).2 = true →
    ∃ t, exec (.poolRetry h) s = .next t ∧ (t.half h).mem.allocWait = q ∧ t.rf (MEM_ALLOC_WAIT h) MEM_ALLOC_WAIT.US = (s.rf
    (MEM_ALLOC_WAIT h) MEM_ALLOC_WAIT.US + (s.us h - a.startUs)) % 2 ^ 32) ∧
  (∀ (s : State) (h : Half) (k : Nat) (a : AllocReq),
    s.live = true → (s.half h).mem.allocWait[k]? = some a → a.ctx < 256 →
    ∃ t, exec (.allocTimeout h k) s = .next t ∧ (t.half h).mem.allocWait = (s.half h).mem.allocWait.eraseIdx k ∧ t.rf (MEM_EVENT h)
    MEM_EVENT.ALLOC_TIMEOUT = 1 ∧ (a.src = MemSrc.regs → t.rf (MEM_CMD_CTRL (a.cmdHalf h)) MEM_CMD_CTRL.RESULT = 0x44 ∧ t.rf (MEM_CMD_CTRL
    (a.cmdHalf h)) MEM_CMD_CTRL.DONE = 1)) ∧
  (∀ (s : State) (h : Half) (i : Nat) (c : Copy) (chk : Scan),
    s.live = true → i < 32768 → s.copyOf h i = some c → c.evict = true → s.copyOn h i c = true → (s.copyScan h i chk).2 = false →
    ∃ t : State, exec (.evictDone h i chk) s = .next (t.memRecheck h i).rebind ∧ t.objState h i = 1 ∧ t.rf (MEM_HOME h i) MEM_HOME.TIER =
    2 ∧ t.rf (MEM_HOME h i) MEM_HOME.BASE = s.rf (MEM_HOME h i) MEM_HOME.BACKING ∧ (t.half h).mem.fills = (s.half h).mem.fills ++
    [s.homeFill h i] ∧ t.rf (MEM_EVICT_COUNT h) MEM_EVICT_COUNT.OBJECTS = (s.rf (MEM_EVICT_COUNT h) MEM_EVICT_COUNT.OBJECTS + 1) % 2 ^ 32) ∧
  (∀ (s : State) (h : Half) (i j : Nat) (c : Copy) (a : AllocReq),
    s.live = true → s.copyOf h i = some c → c.evict = false → c.started = false → s.rf (MEM_HOME h i) MEM_HOME.USE_W = 0 → s.copyOn h i c
    = true → c.other = some j → (s.half h.other).mem.allocs.find? (fun (x : AllocReq) => x.idx == j) = some a →
    ∃ t, exec (.moveCopyStart h i) s = .next t ∧ t.copyOf h i = some { c with started := true } ∧ (t.half h.other).move = (s.half
    h.other).move ++ [PassMsg.move i a.tier (a.base * granule a.tier) (s.objRead (s.objAt h i) 0 (s.objSize h i))] ∧ t.regs = s.regs) ∧
  (∀ (s : State) (h : Half) (i : Nat) (c : Copy) (chk : Scan),
    s.live = true → i < 32768 → s.copyOf h i = some c → c.evict = false → c.started = true → c.failed = false → c.other = none →
    (s.copyScan h i chk).2 = false →
    ∃ t : State, exec (.moveCopyDone h i chk) s = .next (t.memRecheck h i).rebind ∧ t.objState h i = 1 ∧ t.rf (MEM_HOME h i) MEM_HOME.TIER
    = s.rf (MEM_HOME h i) MEM_HOME.DEST_TIER + 1 ∧ t.rf (MEM_HOME h i) MEM_HOME.BASE = s.rf (MEM_HOME h i) MEM_HOME.DEST ∧ t.copyOf h i =
    none ∧ t.rf (MEM_MOVE_COUNT h) MEM_MOVE_COUNT.OBJECTS = (s.rf (MEM_MOVE_COUNT h) MEM_MOVE_COUNT.OBJECTS + 1) % 2 ^ 32 ∧ (c.src =
    MemSrc.regs → t.rf (MEM_CMD_CTRL h) MEM_CMD_CTRL.RESULT = 0 ∧ t.rf (MEM_CMD_CTRL h) MEM_CMD_CTRL.DONE = 1)) ∧
  (∀ (s : State) (h : Half) (i j : Nat) (c : Copy) (a : AllocReq) (chk : Scan),
    s.live = true → i < 32768 → j < 32768 → s.copyOf h i = some c → c.evict = false → c.started = true → c.failed = false → c.other = some
    j → (s.half h.other).move.any (fun m => m.moves i) = false → (s.half h.other).mem.allocs.find? (fun (x : AllocReq) => x.idx == j) =
    some a → (s.copyScan h i chk).2 = false →
    ∃ t : State, exec (.moveCopyDone h i chk) s = .next (t.memRecheck h i).rebind ∧ t.objState h i = 0 ∧ t.objState h.other j = 1 ∧ t.rf
    (MEM_HOME h i) MEM_HOME.GEN = nextGen (s.rf (MEM_HOME h i) MEM_HOME.GEN) ∧ t.copyOf h i = none)

/-- QUOTA_WRITE and POOL_CTRL_WRITE (R214, R216): a limit below the usage, or one that makes the limits exceed the tier, is discarded and
recorded, any other is taken; a pool region that fits is taken. That the refusal is recorded in class SOFTWARE is the model's choice. Its
number is log entry 15. Next states are stated of: QUOTA_WRITE, POOL_CTRL_WRITE. -/
def Obligations.QuotaAndPoolWrites : Prop :=
  (∀ (s : State) (h : Half) (c w : Nat),
    s.live = true → c < 256 → s.quotaUsed h c 2 false ≤ w % 2 ^ 20 → s.limitSum h .t2 c (w % 2 ^ 20) ≤ 786432 →
    ∃ t, exec (.quotaWrite h .t2 c w) s = .next t ∧ t.quotaLimit h c 2 false = w % 2 ^ 20 ∧ onlyRegs [MEM_CTX_T2_LIMIT h c] s t) ∧
  (∀ (s : State) (h : Half) (c w : Nat),
    s.live = true → c < 256 → s.quotaUsed h c 1 true ≤ w % 2 ^ 16 →
    ∃ t, exec (.quotaWrite h .pool c w) s = .next t ∧ t.quotaLimit h c 1 true = w % 2 ^ 16 ∧ t.quotaUsed h c 1 true = s.quotaUsed h c 1
    true ∧ onlyRegs [MEM_CTX_POOL h c] s t) ∧
  (∀ (s : State) (h : Half) (k : QuotaKind) (c w : Nat),
    s.live = true → c < 256 → k = .t1 → w % 2 ^ 16 < s.quotaUsed h c 1 false →
    ∃ t, exec (.quotaWrite h k c w) s = .next t ∧ onlyLogged [] s t) ∧
  (∀ (s : State) (h : Half) (w : Nat),
    s.live = true → w % 2 ^ 16 + w / 2 ^ 16 % 2 ^ 16 ≤ 32768 → s.limitSum h .t1 256 0 + w / 2 ^ 16 % 2 ^ 16 ≤ 32768 → s.poolCuts h (w % 2
    ^ 16) (w / 2 ^ 16 % 2 ^ 16) = false →
    ∃ t, exec (.poolCtrlWrite h w) s = .next t ∧ t.pool h = (w % 2 ^ 16, w / 2 ^ 16 % 2 ^ 16) ∧ (t.half h).mem = (s.half h).mem)

/-- BAR2_ACCESS, SWEEP_BURST and SWEEP_PASS_END (R230, R239 to R241, R363): the physical function reads and writes West's T1 bytes, and
its access to East's crosses the Passage (model's choice, log entry 63); a burst without error only moves the Sweeper on, one with
uncorrectable words counts each of them and changes no byte; a pass end counts the pass and lists what the next one sweeps. The Sweeper
goes on to the next burst whatever its read finds. Next states are stated of: BAR2_ACCESS, SWEEP_BURST, SWEEP_PASS_END. -/
def Obligations.ApertureAndSweeper : Prop :=
  (∀ (s : State) (off : Nat) (bs : List Byte),
    s.live = true → s.funcActive 0 = true → off < 0x08000000 → 0 < bs.length → off % 64 + bs.length ≤ 64 → s.domOn (bankDom .west (off /
    0x800000)) = true → (s.half .west).mem.badT1 = [] →
    ∃ t, exec (.bar2Access 0 off 0 (some bs) {}) s = .next t ∧ (∀ a, mapGet zeroByte (t.half .west).mem.t1 a = if off ≤ a ∧ a < off +
    bs.length then bs.getD (a - off) 0 else mapGet zeroByte (s.half .west).mem.t1 a) ∧ t.regs = s.regs ∧ t.outbox = s.outbox) ∧
  (∀ (s : State) (off n : Nat),
    s.live = true → s.funcActive 0 = true → off < 0x08000000 → 0 < n → off % 64 + n ≤ 64 → s.domOn (bankDom .west (off / 0x800000)) = true
    → s.memBad .west 1 off n = false →
    ∃ t, exec (.bar2Access 0 off n none {}) s = .next t ∧ t.outbox = s.outbox ++ [Output.readDone 0 off (s.memBytes .west 1 off n)] ∧
    ({ t with outbox := s.outbox } : State) = s) ∧
  (∀ (s : State) (off n : Nat),
    s.live = true → s.funcActive 0 = true → 0x08000000 ≤ off → off < 0x10000000 → 0 < n → off % 64 + n ≤ 64 →
    ∃ t, exec (.bar2Access 0 off n none {}) s = .next t ∧ t.east.control = s.east.control ++ [PassMsg.access
    { func := 0, off := off, width := n, bar2 := some (none, {}) }] ∧ ({ t with east := { t.east with control := s.east.control } } :
    State) = s) ∧
  (∀ (s : State) (h : Half) (x i b : Nat),
    s.live = true → s.power.gateOpen = true → s.sweepNext h = some (x, i, b) → (s.objDoms h i).all s.domOn = true → s.memBad h x (64 * b)
    64 = false → (x = 1 ∨ x = 2) →
    ∃ t, exec (.sweepBurst h {}) s = .next t ∧ t.rf (SWP_POS h) SWP_POS.BURST = (b + 1) % 2 ^ 32 ∧ t.rf (SWP_STATUS h) SWP_STATUS.TIER = x
    - 1 ∧ onlyRegs [SWP_POS h, SWP_STATUS h] s t) ∧
  (∀ (s : State) (h : Half) (x i b : Nat),
    s.live = true → s.power.gateOpen = true → s.sweepNext h = some (x, i, b) → (s.objDoms h i).all s.domOn = true → s.memBad h x (64 * b)
    64 = true → (x = 1 ∨ x = 2) →
    ∃ t, exec (.sweepBurst h {}) s = .next t ∧ t.rf (SWP_UE h) SWP_UE.WORDS = (s.rf (SWP_UE h) SWP_UE.WORDS + (s.badIn h x (64 * b)
    64).length) % 2 ^ 32 ∧ onlyLogged [SWP_POS h, SWP_STATUS h, SWP_UE h, MEM_EVENT h, MEM_PARITY_UE h, MEM_SECDED_UE h] s t) ∧
  (∀ (s : State) (h : Half),
    s.live = true → s.sweepNext h = none →
    ∃ t, exec (.sweepPassEnd h) s = .next t ∧ t.rf (SWP_PASSES h) SWP_PASSES.PASSES = (s.rf (SWP_PASSES h) SWP_PASSES.PASSES + 1) % 2 ^ 32
    ∧ t.rf (SWP_STATUS h) SWP_STATUS.TIER = 0 ∧ t.rf (SWP_POS h) SWP_POS.BURST = 0 ∧ (s.sweepLate h = true → t.rf (SWP_STATUS h)
    SWP_STATUS.BEHIND = 1) ∧ (t.half h).mem.sweep = s.sweepList h ∧ onlyRegs [SWP_PASSES h, SWP_STATUS h, SWP_POS h] s (t.modMem h (fun _
    => (s.half h).mem))) ∧
  (∀ (s : State) (h : Half) (x i b : Nat) (chk : Scan),
    s.live = true → s.power.gateOpen = true → s.sweepNext h = some (x, i, b) → (s.objDoms h i).all s.domOn = true →
    ∃ t, exec (.sweepBurst h chk) s = .next t ∧ t.rf (SWP_POS h) SWP_POS.BURST = (b + 1) % 2 ^ 32 ∧ t.rf (SWP_STATUS h) SWP_STATUS.TIER =
    x - 1 ∧ (t.half h).mem.t1 = (s.half h).mem.t1 ∧ (t.half h).mem.t2 = (s.half h).mem.t2) ∧
  (∀ (s : State) (f off len : Nat) (wr : Option (List Byte)) (chk : Scan) (h : Half),
    s.live = true → s.funcActive f = true → off < 0x10000000 → h = Half.ofNum (off / 0x08000000) → 0 < (wr.getD (zeros len)).length → off
    % 64 + (wr.getD (zeros len)).length ≤ 64 → h = .west → (List.range (wr.getD (zeros len)).length).all (fun i => s.bar2Allowed h f (off
    % 0x08000000 + i)) = false →
    ∃ t, exec (.bar2Access f off len wr chk) s = .next t ∧ t.rf (MEM_EVENT h) MEM_EVENT.ACCESS_REFUSED = 1 ∧ (∀ g, (t.half g).mem =
    (s.half g).mem) ∧ (wr = none → t.outbox.contains (Output.readDone f off (zeros len)) = true)) ∧
  (∀ (s : State) (f off : Nat) (bs : List Byte) (chk : Scan),
    s.live = true → s.funcActive f = true → off < 0x08000000 → 0 < bs.length → off % 64 + bs.length ≤ 64 → (List.range bs.length).all (fun
    i => s.bar2Allowed .west f (off + i)) = true → s.domOn (bankDom .west (off / 0x800000)) = true → chk.bad = [] → (partWords 4 off
    bs.length).any (fun w => (s.half .west).mem.badT1.contains w) = false →
    ∃ t, exec (.bar2Access f off 0 (some bs) chk) s = .next t ∧ t.memBytes .west 1 off bs.length = bs ∧ (t.half .east).mem = (s.half
    .east).mem ∧ t.outbox = s.outbox) ∧
  (∀ (s : State) (f off n : Nat) (chk : Scan),
    s.live = true → s.funcActive f = true → off < 0x08000000 → 0 < n → off % 64 + n ≤ 64 → (List.range n).all (fun i => s.bar2Allowed
    .west f (off + i)) = true → s.domOn (bankDom .west (off / 0x800000)) = true →
    ∃ t, exec (.bar2Access f off n none chk) s = .next t ∧ t.outbox.contains (Output.readDone f off (s.memBytes .west 1 off n)) = true ∧
    (t.half .west).mem.t1 = (s.half .west).mem.t1)

/-- SQ_VALID_WRITE, SQ_EPOCH_HOLD_END, OPEN_RESEND and E2E_TIMEOUT (R339 to R341): VALID 1 takes a new EPOCH and connects, or holds the
queue until 1 ms after the last such write; a write that changes a locked field is discarded; an OPEN carries the EPOCH; a timeout breaks
the pair. Next states are stated of: SQ_VALID_WRITE, SQ_EPOCH_HOLD_END, OPEN_RESEND, E2E_TIMEOUT. -/
def Obligations.SendQueueRegisters : Prop :=
  (∀ (s : State) (h : Half) (q v : Nat),
    s.live = true → q < 64 → v % 2 = 1 → s.on (CSW_SQ_CFG h q) CSW_SQ_CFG.VALID = false → (s.sq h q).lastUs = none →
    ∃ t, exec (.sqValidWrite h q v) s = .next t ∧ t.sqState h q = 1 ∧ t.rd (CSW_SQ_CFG h q) = BitVec.ofNat 32 (v % 2 ^ 30) ∧ t.sqEpoch h q
    = (if (s.sq h q).counter ≥ 255 then 1 else (s.sq h q).counter + 1) ∧ (t.sq h q).psn = 0 ∧ (t.sq h q).unacked = [] ∧ (t.sq h q).lastUs
    = some (s.us h) ∧ (∀ r < 64, r ≠ q → t.sqState h r = s.sqState h r ∧ t.sq h r = s.sq h r)) ∧
  (∀ (s : State) (h : Half) (q v u : Nat),
    s.live = true → q < 64 → v % 2 = 1 → s.on (CSW_SQ_CFG h q) CSW_SQ_CFG.VALID = false → (s.sq h q).lastUs = some u → s.us h < u + 1000 →
    ∃ t, exec (.sqValidWrite h q v) s = .next t ∧ t.sqState h q = 0 ∧ (t.sq h q).holding = true ∧ onlyRegs [CSW_SQ_CFG h q, CSW_SQ_SENT h
    q, CSW_SQ_ACKED h q, CSW_SQ_STATE h q] s (t.setHalf h (s.half h)) ∧ (t.half h).mem = (s.half h).mem ∧ (∀ r, r ≠ q → t.sq h r = s.sq h
    r)) ∧
  (∀ (s : State) (h : Half) (q v : Nat),
    s.live = true → q < 64 → s.on (CSW_SQ_CFG h q) CSW_SQ_CFG.VALID = true → v % 2 ^ 30 / 2 ≠ (s.rd (CSW_SQ_CFG h q)).toNat / 2 →
    ∃ t, exec (.sqValidWrite h q v) s = .next t ∧ onlyLogged [] s t) ∧
  (∀ (s : State) (h : Half) (q : Nat),
    s.live = true → q < 64 → (s.sq h q).holding = true →
    ∃ t, exec (.sqEpochHoldEnd h q) s = .next t ∧ t.sqState h q = 1 ∧ (t.sq h q).holding = false ∧ t.sqEpoch h q = s.sqEpoch h q) ∧
  (∀ (s : State) (h : Half) (q : Nat),
    s.live = true → q < 64 → s.sqState h q = 1 →
    ∃ t, exec (.openResend h q) s = .next t ∧ t = s.sourceFlit h (mkFlit 1 2 (s.sqCfg h q CSW_SQ_CFG.DEST_NODE) (s.sqCfg h q
    CSW_SQ_CFG.DEST_HALF) s.nodeId h.num (s.sqCfg h q CSW_SQ_CFG.DEST_QUEUE) q 1 (s.sqEpoch h q * 2 ^ 24) [])) ∧
  (∀ (s : State) (h : Half) (q : Nat),
    s.live = true → q < 64 → (s.sqState h q = 1 ∨ s.sqState h q = 2 ∧ (s.sq h q).unacked ≠ []) →
    ∃ t, exec (.e2eTimeout h q) s = .next t ∧ t.sqState h q = 3 ∧ t.rf (CSW_EVENT h) CSW_EVENT.QUEUE_BROKEN = 1 ∧ onlyLogged [CSW_SQ_STATE
    h q, CSW_EVENT h] s t)

/-- OPEN_ACK, ACK and REJECT (R338, R339, R341): an OPEN_ACK of the queue's EPOCH opens it with the receiver's LIMIT, an ACK takes the
flits up to its PSN from the unacknowledged ones and counts their bytes, a REJECT breaks the pair; the flit leaves the half's inbox. An
ACK acknowledges every flit up to its PSN, however many; answers that fit no state of their queue are discarded. Next states are stated
of: OPEN_ACK, ACK, REJECT. -/
def Obligations.SendQueueAnswers : Prop :=
  (∀ (s : State) (h : Half) (b : List Byte),
    s.live = true → fType b = 2 → fSub b = 2 → (s.half h).inbox.find? (fun x => decide (fKey x = fKey b)) = some b → s.sqNames h b = true
    → s.sqState h (fSrcQ b) = 1 → fInfo b / 2 ^ 24 % 256 = s.sqEpoch h (fSrcQ b) →
    ∃ t, exec (.openAck h b) s = .next t ∧ t.sqState h (fSrcQ b) = 2 ∧ (t.sq h (fSrcQ b)).limit = u32 (fPayload b) 0 ∧ (t.half h).inbox =
    (s.half h).inbox.erase b ∧ t.half h.other = s.half h.other ∧ t.outbox = s.outbox ∧ (∀ a, a ≠ CSW_SQ_STATE h (fSrcQ b) → t.rd a = s.rd
    a)) ∧
  (∀ (s : State) (h : Half) (b : List Byte) (u : Unacked) (us : List Unacked),
    s.live = true → fType b = 2 → fSub b = 4 → (s.half h).inbox.find? (fun x => decide (fKey x = fKey b)) = some b → s.sqNames h b = true
    → s.sqState h (fSrcQ b) = 2 → (s.half h).cswOps = [] → (s.sq h (fSrcQ b)).unacked = u :: us → u.psn = fInfo b % 2 ^ 24 →
    ∃ t, exec (.ack h b) s = .next t ∧ (t.sq h (fSrcQ b)).unacked = us ∧ (t.sq h (fSrcQ b)).limit = u32 (fPayload b) 0 ∧ t.rf
    (CSW_SQ_ACKED h (fSrcQ b)) CSW_SQ_ACKED.BYTES = (s.rf (CSW_SQ_ACKED h (fSrcQ b)) CSW_SQ_ACKED.BYTES + u.len) % 2 ^ 32 ∧ (t.half
    h).inbox = (s.half h).inbox.erase b ∧ (∀ a, a ≠ CSW_SQ_ACKED h (fSrcQ b) → t.rd a = s.rd a)) ∧
  (∀ (s : State) (h : Half) (b : List Byte),
    s.live = true → fType b = 2 → fSub b = 3 → (s.half h).inbox.find? (fun x => decide (fKey x = fKey b)) = some b → s.sqNames h b = true
    → (s.sqState h (fSrcQ b) = 1 ∨ s.sqState h (fSrcQ b) = 2) →
    ∃ t, exec (.reject h b) s = .next t ∧ t.sqState h (fSrcQ b) = 3 ∧ t.rf (CSW_EVENT h) CSW_EVENT.QUEUE_BROKEN = 1 ∧ (t.half h).inbox =
    (s.half h).inbox.erase b) ∧
  (∀ (s : State) (h : Half) (b : List Byte) (i : Nat),
    s.live = true → fType b = 2 → fSub b = 4 → (s.half h).inbox.find? (fun x => decide (fKey x = fKey b)) = some b → s.sqNames h b = true
    → s.sqState h (fSrcQ b) = 2 → (s.sq h (fSrcQ b)).unacked.findIdx? (fun u => decide (u.psn = fInfo b % 2 ^ 24)) = some i →
    ∃ t, exec (.ack h b) s = .next t ∧ (t.sq h (fSrcQ b)).unacked = (s.sq h (fSrcQ b)).unacked.drop (i + 1) ∧ (t.sq h (fSrcQ b)).limit =
    u32 (fPayload b) 0 ∧ t.sqState h (fSrcQ b) = 2 ∧ t.rf (CSW_SQ_ACKED h (fSrcQ b)) CSW_SQ_ACKED.BYTES = (s.rf (CSW_SQ_ACKED h (fSrcQ b))
    CSW_SQ_ACKED.BYTES + (((s.sq h (fSrcQ b)).unacked.take (i + 1)).map (fun (u : Unacked) => u.len)).foldl (· + ·) 0) % 2 ^ 32) ∧
  (∀ (s : State) (h : Half) (b : List Byte),
    s.live = true → fType b = 2 → fSub b = 4 → (s.half h).inbox.find? (fun x => decide (fKey x = fKey b)) = some b → (s.sqNames h b =
    false ∨ s.sqState h (fSrcQ b) ≠ 2) → (s.half h).cswOps = [] →
    exec (.ack h b) s = .next (s.modHalf h (fun (x : HalfState) => ({ x with inbox := x.inbox.erase b } : HalfState)))) ∧
  (∀ (s : State) (h : Half) (b : List Byte),
    s.live = true → fType b = 2 → fSub b = 2 → (s.half h).inbox.find? (fun x => decide (fKey x = fKey b)) = some b → (s.sqNames h b =
    false ∨ s.sqState h (fSrcQ b) ≠ 1 ∨ fInfo b / 2 ^ 24 % 256 ≠ s.sqEpoch h (fSrcQ b)) →
    exec (.openAck h b) s = .next (s.modHalf h (fun (x : HalfState) => ({ x with inbox := x.inbox.erase b } : HalfState)))) ∧
  (∀ (s : State) (h : Half) (b : List Byte),
    s.live = true → fType b = 2 → fSub b = 3 → (s.half h).inbox.find? (fun x => decide (fKey x = fKey b)) = some b → (s.sqNames h b =
    false ∨ s.sqState h (fSrcQ b) ≠ 1 ∧ s.sqState h (fSrcQ b) ≠ 2) →
    exec (.reject h b) s = .next (s.modHalf h (fun (x : HalfState) => ({ x with inbox := x.inbox.erase b } : HalfState))))

/-- DATA, E2E_OPEN and ACK_TIMER (R338, R339, R341): the next DATA flit in PSN lands in the queue's T1 buffer, one out of order breaks the
pair; a queue that waits for its sender adopts the EPOCH of an OPEN; the timer acknowledges what has come. RQ_VALID_WRITE (R339, R340):
VALID 1 with a buffer in a PIN_T1 object of the context waits for an OPEN with an empty buffer, VALID 0 closes the queue, and a write that
changes a locked field is discarded. That a buffer elsewhere is refused is the model's reading (log entry 43). A DATA flit lands also
across the end of the buffer; one of another queue or EPOCH is discarded. An OPEN is answered again by a connected queue of its EPOCH,
breaks one of another, and is rejected elsewhere. Next states are stated of: DATA, E2E_OPEN, ACK_TIMER, RQ_VALID_WRITE. -/
def Obligations.ReceiveQueues : Prop :=
  (∀ (s : State) (h : Half) (b : List Byte),
    s.live = true → fType b = 1 → fSub b = 0 → (s.half h).inbox.find? (fun x => decide (fKey x = fKey b)) = some b → s.rqNames h b = true
    → s.rqState h (fDestQ b) = 2 → fInfo b / 2 ^ 24 % 256 = s.rf (CSW_RQ_STATE h (fDestQ b)) CSW_RQ_STATE.EPOCH → fInfo b % 2 ^ 24 = (s.rq
    h (fDestQ b)).psn → fLen b ≤ 224 → (s.rq h (fDestQ b)).received % (s.rq h (fDestQ b)).size + fLen b ≤ (s.rq h (fDestQ b)).size → 0 <
    (s.rq h (fDestQ b)).size → b.length = 256 → partWords 4 ((s.rq h (fDestQ b)).buf + (s.rq h (fDestQ b)).received % (s.rq h (fDestQ
    b)).size) (fLen b) = [] →
    ∃ t, exec (.data h b) s = .next t ∧ (t.rq h (fDestQ b)).received = (s.rq h (fDestQ b)).received + fLen b ∧ (t.rq h (fDestQ b)).psn =
    (fInfo b % 2 ^ 24 + 1) % 2 ^ 24 ∧ t.memBytes h 1 ((s.rq h (fDestQ b)).buf + (s.rq h (fDestQ b)).received % (s.rq h (fDestQ b)).size)
    (fLen b) = (fPayload b).take (fLen b) ∧ (t.half h).mem.t2 = (s.half h).mem.t2 ∧ (t.half h.other).mem = (s.half h.other).mem) ∧
  (∀ (s : State) (h : Half) (b : List Byte),
    s.live = true → fType b = 1 → fSub b = 0 → (s.half h).inbox.find? (fun x => decide (fKey x = fKey b)) = some b → s.rqNames h b = true
    → s.rqState h (fDestQ b) = 2 → fInfo b / 2 ^ 24 % 256 = s.rf (CSW_RQ_STATE h (fDestQ b)) CSW_RQ_STATE.EPOCH → fInfo b % 2 ^ 24 ≠ (s.rq
    h (fDestQ b)).psn →
    ∃ t, exec (.data h b) s = .next t ∧ t.rqState h (fDestQ b) = 3 ∧ t.rf (CSW_EVENT h) CSW_EVENT.QUEUE_BROKEN = 1 ∧ (t.half h).mem =
    (s.half h).mem) ∧
  (∀ (s : State) (h : Half) (b : List Byte),
    s.live = true → fType b = 2 → fSub b = 1 → (s.half h).inbox.find? (fun x => decide (fKey x = fKey b)) = some b → s.rqNames h b = true
    → s.rqState h (fDestQ b) = 1 →
    ∃ t, exec (.e2eOpen h b) s = .next t ∧ t.rqState h (fDestQ b) = 2 ∧ t.rf (CSW_RQ_STATE h (fDestQ b)) CSW_RQ_STATE.EPOCH = fInfo b / 2
    ^ 24 % 256 ∧ (t.half h).mem = (s.half h).mem) ∧
  (∀ (s : State) (h : Half) (q : Nat),
    s.live = true → q < 64 → s.rqState h q = 2 → (s.rq h q).since ≠ 0 →
    ∃ t, exec (.ackTimer h q) s = .next t ∧ (t.rq h q).since = 0 ∧ (t.rq h q).freed = 0 ∧ t = (s.setRq h q
    { s.rq h q with since := 0, freed := 0 }).sourceFlit h (mkFlit 1 2 (s.rf (CSW_RQ_CFG h q) CSW_RQ_CFG.SRC_NODE) (s.rf (CSW_RQ_CFG h q)
    CSW_RQ_CFG.SRC_HALF) s.nodeId h.num q (s.rf (CSW_RQ_CFG h q) CSW_RQ_CFG.SRC_QUEUE) 4 (((s.rq h q).psn + 2 ^ 24 - 1) % 2 ^ 24) (leBytes
    4 (((s.rq h q).consumed + (s.rq h q).size) % 2 ^ 32)))) ∧
  (∀ (s : State) (h : Half) (q v x : Nat),
    s.live = true → q < 64 → v % 2 = 1 → s.on (CSW_RQ_CFG h q) CSW_RQ_CFG.VALID = false → s.pinRange h (bits (bits v 0 30) 1 8) (s.rf
    (CSW_RQ_BASE h q) CSW_RQ_BASE.HANDLE) (s.rf (CSW_RQ_OFFSET h q) CSW_RQ_OFFSET.OFFSET / 64 * 64) (s.rqSize h q) = some x →
    ∃ t, exec (.rqValidWrite h q v) s = .next t ∧ t.rqState h q = 1 ∧ (t.rq h q).buf = x ∧ (t.rq h q).size = s.rqSize h q ∧ (t.rq h
    q).received = 0 ∧ t.rf (CSW_RQ_FILL h q) CSW_RQ_FILL.BYTES = 0 ∧ t.rd (CSW_RQ_CFG h q) = BitVec.ofNat 32 (v % 2 ^ 30) ∧ onlyRegs
    [CSW_RQ_CFG h q, CSW_RQ_STATE h q, CSW_RQ_FILL h q] s (t.setHalf h (s.half h)) ∧ (t.half h).mem = (s.half h).mem ∧ (∀ r, r ≠ q → t.rq
    h r = s.rq h r)) ∧
  (∀ (s : State) (h : Half) (q v : Nat),
    s.live = true → q < 64 → v % 2 = 0 → v % 2 ^ 30 / 2 = (s.rd (CSW_RQ_CFG h q)).toNat / 2 →
    ∃ t, exec (.rqValidWrite h q v) s = .next t ∧ t.rqState h q = 0 ∧ t.rf (CSW_RQ_FILL h q) CSW_RQ_FILL.BYTES = 0 ∧ onlyRegs [CSW_RQ_CFG
    h q, CSW_RQ_STATE h q, CSW_RQ_FILL h q] s (t.setHalf h (s.half h)) ∧ (t.half h).mem = (s.half h).mem ∧ (∀ r, r ≠ q → t.rq h r = s.rq h
    r)) ∧
  (∀ (s : State) (h : Half) (q v : Nat),
    s.live = true → q < 64 → s.on (CSW_RQ_CFG h q) CSW_RQ_CFG.VALID = true → v % 2 ^ 30 / 2 ≠ (s.rd (CSW_RQ_CFG h q)).toNat / 2 →
    ∃ t, exec (.rqValidWrite h q v) s = .next t ∧ onlyLogged [] s t) ∧
  (∀ (s : State) (h : Half) (b : List Byte),
    s.live = true → fType b = 1 → fSub b = 0 → (s.half h).inbox.find? (fun x => decide (fKey x = fKey b)) = some b → s.rqNames h b = true
    → s.rqState h (fDestQ b) = 2 → fInfo b / 2 ^ 24 % 256 = s.rf (CSW_RQ_STATE h (fDestQ b)) CSW_RQ_STATE.EPOCH → fInfo b % 2 ^ 24 = (s.rq
    h (fDestQ b)).psn →
    ∃ t, exec (.data h b) s = .next t ∧ (t.rq h (fDestQ b)).received = (s.rq h (fDestQ b)).received + ((fPayload b).take (fLen b)).length
    ∧ (t.rq h (fDestQ b)).psn = (fInfo b % 2 ^ 24 + 1) % 2 ^ 24 ∧ (t.rq h (fDestQ b)).consumed = (s.rq h (fDestQ b)).consumed ∧ t.rqState
    h (fDestQ b) = 2 ∧ t.graphs = s.graphs) ∧
  (∀ (s : State) (h : Half) (b : List Byte),
    s.live = true → fType b = 1 → fSub b = 0 → (s.half h).inbox.find? (fun x => decide (fKey x = fKey b)) = some b → (s.rqNames h b =
    false ∨ s.rqState h (fDestQ b) ≠ 2 ∨ fInfo b / 2 ^ 24 % 256 ≠ s.rf (CSW_RQ_STATE h (fDestQ b)) CSW_RQ_STATE.EPOCH) →
    exec (.data h b) s = .next (s.modHalf h (fun (x : HalfState) => ({ x with inbox := x.inbox.erase b } : HalfState)))) ∧
  (∀ (s : State) (h : Half) (b : List Byte),
    s.live = true → fType b = 2 → fSub b = 1 → (s.half h).inbox.find? (fun x => decide (fKey x = fKey b)) = some b → s.rqNames h b = true
    → s.rqState h (fDestQ b) = 2 → fInfo b / 2 ^ 24 % 256 = s.rf (CSW_RQ_STATE h (fDestQ b)) CSW_RQ_STATE.EPOCH →
    exec (.e2eOpen h b) s = .next ((s.modHalf h (fun (x : HalfState) => ({ x with inbox := x.inbox.erase b } : HalfState))).answer h b 2
    (fInfo b / 2 ^ 24 % 256 * 2 ^ 24) (leBytes 4 (s.rq h (fDestQ b)).limit))) ∧
  (∀ (s : State) (h : Half) (b : List Byte),
    s.live = true → fType b = 2 → fSub b = 1 → (s.half h).inbox.find? (fun x => decide (fKey x = fKey b)) = some b → s.rqNames h b = true
    → s.rqState h (fDestQ b) = 2 → fInfo b / 2 ^ 24 % 256 ≠ s.rf (CSW_RQ_STATE h (fDestQ b)) CSW_RQ_STATE.EPOCH →
    ∃ t, exec (.e2eOpen h b) s = .next t ∧ t.rqState h (fDestQ b) = 3 ∧ t.rf (CSW_EVENT h) CSW_EVENT.QUEUE_BROKEN = 1 ∧ (t.half h).inbox =
    (s.half h).inbox.erase b) ∧
  (∀ (s : State) (h : Half) (b : List Byte),
    s.live = true → fType b = 2 → fSub b = 1 → (s.half h).inbox.find? (fun x => decide (fKey x = fKey b)) = some b → (s.rqNames h b =
    false ∨ s.rqState h (fDestQ b) ≠ 1 ∧ s.rqState h (fDestQ b) ≠ 2) →
    exec (.e2eOpen h b) s = .next ((s.modHalf h (fun (x : HalfState) => ({ x with inbox := x.inbox.erase b } : HalfState))).answer h b 3 0
    []))

/-- ARRIVE and RELEASE (R356, R357): an ARRIVE of the current generation is counted once for its source, the last one releases the
generation at the ROOT, a RELEASE ends the generation, and either with another GEN breaks the barrier. BARRIER_EN_WRITE sets GEN to 0.
FLUSH, BARRIER and BARRIER_TIMEOUT (R347, R356 to R358): a FLUSH node completes once every flit it waits for is acknowledged; a BARRIER
node whose queues are flushed arrives once for the generation; its timeout completes it with FAULT_RETRY and its arrival stays counted.
What a BARRIER does on a barrier without EN or with a broken queue is the model's reading (log entry 51). A BARRIER node whose arrival
completes the generation at the ROOT releases it and completes; one whose half has a parent sends ARRIVE to it and waits; one whose half
has arrived, or takes no local arrival, waits. The last ARRIVE at the ROOT releases the generation. Next states are stated of: ARRIVE,
RELEASE, BARRIER_EN_WRITE, FLUSH, BARRIER, BARRIER_TIMEOUT. -/
def Obligations.BarriersAndFlushes : Prop :=
  (∀ (s : State) (h : Half) (f : List Byte),
    s.live = true → fType f = 3 → fSub f = 1 → (s.half h).inbox.find? (fun x => decide (fKey x = fKey f)) = some f → s.barCfg h (fDestQ f)
    CSW_BAR_CFG.EN = 1 → s.barBroken h (fDestQ f) = false → fInfo f % 65536 = s.barGen h (fDestQ f) → (s.bar h (fDestQ
    f)).arrived.contains (fSrcNode f, fSrcHalf f) = false → (s.rf (CSW_BAR_STATUS h (fDestQ f)) CSW_BAR_STATUS.ARRIVED + 1) % 32 ≠
    s.barChildren h (fDestQ f) + s.barCfg h (fDestQ f) CSW_BAR_CFG.LOCAL →
    ∃ t, exec (.arrive h f) s = .next t ∧ (t.bar h (fDestQ f)).arrived = (s.bar h (fDestQ f)).arrived ++ [(fSrcNode f, fSrcHalf f)] ∧ t.rf
    (CSW_BAR_STATUS h (fDestQ f)) CSW_BAR_STATUS.ARRIVED = (s.rf (CSW_BAR_STATUS h (fDestQ f)) CSW_BAR_STATUS.ARRIVED + 1) % 32 ∧ t.barGen
    h (fDestQ f) = s.barGen h (fDestQ f) ∧ (∀ a, a ≠ CSW_BAR_STATUS h (fDestQ f) → t.rd a = s.rd a)) ∧
  (∀ (s : State) (h : Half) (f : List Byte),
    s.live = true → fType f = 3 → fSub f = 1 → (s.half h).inbox.find? (fun x => decide (fKey x = fKey f)) = some f → s.barCfg h (fDestQ f)
    CSW_BAR_CFG.EN = 1 → s.barBroken h (fDestQ f) = false → fInfo f % 65536 ≠ s.barGen h (fDestQ f) →
    ∃ t, exec (.arrive h f) s = .next t ∧ t.barBroken h (fDestQ f) = true ∧ t.rf (CSW_EVENT h) CSW_EVENT.BARRIER_BROKEN = 1) ∧
  (∀ (s : State) (h : Half) (f : List Byte),
    s.live = true → fType f = 3 → fSub f = 2 → (s.half h).inbox.find? (fun x => decide (fKey x = fKey f)) = some f → s.barCfg h (fDestQ f)
    CSW_BAR_CFG.EN = 1 → s.barBroken h (fDestQ f) = false → fInfo f % 65536 = s.barGen h (fDestQ f) →
    ∃ t, exec (.release h f) s = .next t ∧ t.barGen h (fDestQ f) = (s.barGen h (fDestQ f) + 1) % 65536 ∧ t.rf (CSW_BAR_STATUS h (fDestQ
    f)) CSW_BAR_STATUS.ARRIVED = 0 ∧ (t.bar h (fDestQ f)).arrived = [] ∧ t.rf (CSW_BAR_TIME h (fDestQ f)) CSW_BAR_TIME.US = s.us h % 2 ^
    32) ∧
  (∀ (s : State) (h : Half) (b v : Nat),
    s.live = true → b < 64 → v % 2 = 1 → v / 2 ^ 25 % 32 ≤ 16 →
    ∃ t, exec (.barrierEnWrite h b v) s = .next t ∧ t.rd (CSW_BAR_STATUS h b) = 0 ∧ (t.bar h b).arrived = [] ∧ t.rd (CSW_BAR_CFG h b) =
    BitVec.ofNat 32 (v % 2 ^ 31) ∧ onlyRegs [CSW_BAR_CFG h b, CSW_BAR_STATUS h b] s (t.setHalf h (s.half h)) ∧ (t.half h).mem = (s.half
    h).mem ∧ (∀ c, c ≠ b → t.bar h c = s.bar h c)) ∧
  (∀ (s : State) (r : NodeRef) (n : Node),
    s.live = true → s.cswNode r 1 = some n → s.flushed n.half (s.opOf n.half r) = true →
    ∃ t, exec (.flush r) s = .next t ∧ t.nodeIn r .ended = true ∧ (t.node r).map (fun m : Graph × Node => m.2.prim) = some (worse n.prim
    (if s.anyBroken n.half n then 3 else 0)) ∧ (t.half n.half).mem = (s.half n.half).mem ∧ t.outbox = s.outbox) ∧
  (∀ (s : State) (r : NodeRef) (n : Node),
    s.live = true → s.cswNode r 2 = some n → s.barCfg n.half n.cswBar CSW_BAR_CFG.EN = 1 → s.barCfg n.half n.cswBar CSW_BAR_CFG.CONTEXT =
    r.ctx → s.barBroken n.half n.cswBar = false → s.anyBroken n.half n = false → s.flushed n.half (s.opOf n.half r) = true → (s.bar n.half
    n.cswBar).node ≠ some r → s.barCfg n.half n.cswBar CSW_BAR_CFG.LOCAL = 1 → s.on (CSW_BAR_STATUS n.half n.cswBar)
    CSW_BAR_STATUS.LOCAL_ARRIVED = false → (s.rf (CSW_BAR_STATUS n.half n.cswBar) CSW_BAR_STATUS.ARRIVED + 1) % 32 ≠ s.barChildren n.half
    n.cswBar + 1 →
    ∃ t, exec (.barrier r) s = .next t ∧ (t.bar n.half n.cswBar).node = some r ∧ t.rf (CSW_BAR_STATUS n.half n.cswBar)
    CSW_BAR_STATUS.ARRIVED = (s.rf (CSW_BAR_STATUS n.half n.cswBar) CSW_BAR_STATUS.ARRIVED + 1) % 32 ∧ t.on (CSW_BAR_STATUS n.half
    n.cswBar) CSW_BAR_STATUS.LOCAL_ARRIVED = true ∧ t.nodeIn r .running = true ∧ onlyRegs [CSW_BAR_STATUS n.half n.cswBar] s (t.setHalf
    n.half (s.half n.half)) ∧ (t.half n.half).mem = (s.half n.half).mem) ∧
  (∀ (s : State) (r : NodeRef) (n : Node),
    s.live = true → s.cswNode r 2 = some n → n.cswTimeout ≠ 0 →
    ∃ t, exec (.barrierTimeout r) s = .next t ∧ t.nodeIn r .ended = true ∧ (t.node r).map (fun m : Graph × Node => m.2.prim) = some (worse
    n.prim 4) ∧ (∀ b < 64, t.rd (CSW_BAR_STATUS n.half b) = s.rd (CSW_BAR_STATUS n.half b))) ∧
  (∀ (s : State) (r : NodeRef) (n : Node),
    s.live = true → s.cswNode r 2 = some n → s.barCfg n.half n.cswBar CSW_BAR_CFG.EN = 1 → s.barCfg n.half n.cswBar CSW_BAR_CFG.CONTEXT =
    r.ctx → s.barBroken n.half n.cswBar = false → s.anyBroken n.half n = false → s.flushed n.half (s.opOf n.half r) = true → (s.bar n.half
    n.cswBar).node ≠ some r → s.barCfg n.half n.cswBar CSW_BAR_CFG.LOCAL = 1 → s.on (CSW_BAR_STATUS n.half n.cswBar)
    CSW_BAR_STATUS.LOCAL_ARRIVED = false → (s.rf (CSW_BAR_STATUS n.half n.cswBar) CSW_BAR_STATUS.ARRIVED + 1) % 32 = s.barChildren n.half
    n.cswBar + 1 → s.barCfg n.half n.cswBar CSW_BAR_CFG.ROOT = 1 →
    ∃ t, exec (.barrier r) s = .next t ∧ t.nodeIn r .ended = true ∧ (t.node r).map (fun (m : Graph × Node) => m.2.prim) = some (worse
    n.prim 0) ∧ t.barGen n.half n.cswBar = (s.barGen n.half n.cswBar + 1) % 65536 ∧ t.rf (CSW_BAR_STATUS n.half n.cswBar)
    CSW_BAR_STATUS.ARRIVED = 0 ∧ (t.bar n.half n.cswBar).node = none) ∧
  (∀ (s : State) (r : NodeRef) (n : Node),
    s.live = true → s.cswNode r 2 = some n → s.barCfg n.half n.cswBar CSW_BAR_CFG.EN = 1 → s.barCfg n.half n.cswBar CSW_BAR_CFG.CONTEXT =
    r.ctx → s.barBroken n.half n.cswBar = false → s.anyBroken n.half n = false → s.flushed n.half (s.opOf n.half r) = true → (s.bar n.half
    n.cswBar).node ≠ some r → s.barCfg n.half n.cswBar CSW_BAR_CFG.LOCAL = 1 → s.on (CSW_BAR_STATUS n.half n.cswBar)
    CSW_BAR_STATUS.LOCAL_ARRIVED = false → (s.rf (CSW_BAR_STATUS n.half n.cswBar) CSW_BAR_STATUS.ARRIVED + 1) % 32 = s.barChildren n.half
    n.cswBar + 1 → s.barCfg n.half n.cswBar CSW_BAR_CFG.ROOT = 0 →
    exec (.barrier r) s = .next ((((s.setBar n.half n.cswBar { s.bar n.half n.cswBar with node := some r }).wf (CSW_BAR_STATUS n.half
    n.cswBar) CSW_BAR_STATUS.LOCAL_ARRIVED 1).add (CSW_BAR_STATUS n.half n.cswBar) CSW_BAR_STATUS.ARRIVED 1).sendFlit n.half 3 1 (s.barCfg
    n.half n.cswBar CSW_BAR_CFG.PARENT) (s.barCfg n.half n.cswBar CSW_BAR_CFG.PARENT_HALF) n.cswBar 0 (s.barGen n.half n.cswBar) [])) ∧
  (∀ (s : State) (r : NodeRef) (n : Node),
    s.live = true → s.cswNode r 2 = some n → s.barCfg n.half n.cswBar CSW_BAR_CFG.EN = 1 → s.barCfg n.half n.cswBar CSW_BAR_CFG.CONTEXT =
    r.ctx → s.barBroken n.half n.cswBar = false → s.anyBroken n.half n = false → s.flushed n.half (s.opOf n.half r) = true → (s.bar n.half
    n.cswBar).node ≠ some r → (s.barCfg n.half n.cswBar CSW_BAR_CFG.LOCAL = 0 ∨ s.on (CSW_BAR_STATUS n.half n.cswBar)
    CSW_BAR_STATUS.LOCAL_ARRIVED = true) →
    exec (.barrier r) s = .next (s.setBar n.half n.cswBar { s.bar n.half n.cswBar with node := some r })) ∧
  (∀ (s : State) (h : Half) (f : List Byte),
    s.live = true → fType f = 3 → fSub f = 1 → (s.half h).inbox.find? (fun x => decide (fKey x = fKey f)) = some f → s.barCfg h (fDestQ f)
    CSW_BAR_CFG.EN = 1 → s.barBroken h (fDestQ f) = false → fInfo f % 65536 = s.barGen h (fDestQ f) → (s.bar h (fDestQ
    f)).arrived.contains (fSrcNode f, fSrcHalf f) = false → (s.rf (CSW_BAR_STATUS h (fDestQ f)) CSW_BAR_STATUS.ARRIVED + 1) % 32 =
    s.barChildren h (fDestQ f) + s.barCfg h (fDestQ f) CSW_BAR_CFG.LOCAL → s.barCfg h (fDestQ f) CSW_BAR_CFG.ROOT = 1 →
    ∃ t, exec (.arrive h f) s = .next t ∧ t.barGen h (fDestQ f) = (s.barGen h (fDestQ f) + 1) % 65536 ∧ t.rf (CSW_BAR_STATUS h (fDestQ f))
    CSW_BAR_STATUS.ARRIVED = 0 ∧ (t.bar h (fDestQ f)).arrived = [])

/-- DISPATCH and RETURN (R350, R352): once a queue of QMASK has accepted every record and the END record that follows them, the node
completes. Stated first for nodes without rows: the END record alone is built as one flit of 16 bytes. COLLECT, COMBINE and BATCH_TIMEOUT
(R351, R353, R354): once END has come from every queue of QMASK, COLLECT writes its counts and COMBINE fills a missing row with zeros and
ends DEGRADED; a batch timeout ends the node as if the missing ENDs had come, with DEGRADED. That a queue of another context ends a node
with DATA_ERROR is the model's reading (log entry 52). In general: with its queues the context's, OPEN and free, DISPATCH and RETURN hand
every queue its whole stream (the plan's, with the records in order and END last) and end. COLLECT and COMBINE end once every queue has
given its END, COLLECT with the records it discarded counted; a record places its row, and another END is noted. Next states are stated
of: DISPATCH, RETURN, COLLECT, COMBINE, BATCH_TIMEOUT. -/
def Obligations.ExpertOperations : Prop :=
  (∀ (s : State) (r : NodeRef) (n : Node) (q : Nat) (o : CswOp),
    s.live = true → s.cswNode r 3 = some n → n.cswQueues = [q] → n.cswM = 0 → s.sqCode n.half r.ctx q = 0 → (s.sq n.half q).producer =
    none → s.sqState n.half q = 2 → 16 ≤ s.sqRoom n.half q → (s.half n.half).cswOps.find? (fun o => decide (o.node = r)) = some o →
    o.marks = [] →
    ∃ t, exec (.dispatch r) s = .next t ∧ t.nodeIn r .ended = true ∧ (t.sq n.half q).built = (s.sq n.half q).built + 1 ∧ (t.sq n.half
    q).unacked = (s.sq n.half q).unacked ++ [({ psn := (s.sq n.half q).psn, len := 16, ser := (s.sq n.half q).built + 1 } : Unacked)] ∧
    t.rf (CSW_SQ_SENT n.half q) CSW_SQ_SENT.BYTES = (s.rf (CSW_SQ_SENT n.half q) CSW_SQ_SENT.BYTES + 16) % 2 ^ 32) ∧
  (∀ (s : State) (r : NodeRef) (n : Node) (q : Nat) (o : CswOp),
    s.live = true → s.cswNode r 5 = some n → n.cswQueues = [q] → n.cswCount = 0 → s.sqCode n.half r.ctx q = 0 → (s.sq n.half q).producer =
    none → s.sqState n.half q = 2 → 16 ≤ s.sqRoom n.half q → (s.half n.half).cswOps.find? (fun o => decide (o.node = r)) = some o →
    o.marks = [] →
    ∃ t, exec (.returnRows r) s = .next t ∧ t.nodeIn r .ended = true ∧ (t.sq n.half q).built = (s.sq n.half q).built + 1 ∧ (t.sq n.half
    q).unacked = (s.sq n.half q).unacked ++ [({ psn := (s.sq n.half q).psn, len := 16, ser := (s.sq n.half q).built + 1 } : Unacked)] ∧
    t.rf (CSW_SQ_SENT n.half q) CSW_SQ_SENT.BYTES = (s.rf (CSW_SQ_SENT n.half q) CSW_SQ_SENT.BYTES + 16) % 2 ^ 32) ∧
  (∀ (s : State) (r : NodeRef) (n : Node),
    s.live = true → s.cswNode r 4 = some n → n.cswQueues = [] → n.cswCount = 1 → (s.opOf n.half r).used = [] → (s.opOf n.half r).full = 0
    → 8 ≤ (s.bindOr r 2).size → (s.bindOr r 2).tier = 1 ∨ (s.bindOr r 2).tier = 2 → partWords (wordBytes (s.bindOr r 2).tier) (s.bindOr r
    2).addr 8 = [] →
    ∃ t, exec (.collect r) s = .next t ∧ t.nodeIn r .ended = true ∧ (t.node r).map (fun m : Graph × Node => m.2.prim) = some n.prim ∧
    t.memBytes (s.bindOr r 2).half (s.bindOr r 2).tier (s.bindOr r 2).addr 8 = zeros 8 ∧ (∀ a, (∀ q < 64, a ≠ CSW_SQ_STATE n.half q ∧ a ≠
    CSW_RQ_STATE n.half q) → (∀ k : Half, inLog k a = false ∧ a ≠ MEM_EVENT k ∧ a ≠ MEM_SECDED_CE k) → t.rd a = s.rd a)) ∧
  (∀ (s : State) (r : NodeRef) (n : Node),
    s.live = true → s.cswNode r 6 = some n → n.cswQueues = [] → n.cswM = 1 → n.cswK = 1 → (s.opOf n.half r).cells = [] → n.cswOut +
    n.cswRow ≤ (s.bindOr r 0).size → (s.bindOr r 0).tier = 1 ∨ (s.bindOr r 0).tier = 2 → partWords (wordBytes (s.bindOr r 0).tier)
    ((s.bindOr r 0).addr + n.cswOut) n.cswRow = [] →
    ∃ t, exec (.combine r) s = .next t ∧ t.nodeIn r .ended = true ∧ (t.node r).map (fun m : Graph × Node => m.2.prim) = some (worse n.prim
    1) ∧ t.memBytes (s.bindOr r 0).half (s.bindOr r 0).tier ((s.bindOr r 0).addr + n.cswOut) n.cswRow = zeros n.cswRow ∧ (∀ a, (∀ q < 64,
    a ≠ CSW_SQ_STATE n.half q ∧ a ≠ CSW_RQ_STATE n.half q) → t.rd a = s.rd a)) ∧
  (∀ (s : State) (r : NodeRef) (n : Node),
    s.live = true → s.cswNode r 4 = some n → n.cswTimeout ≠ 0 →
    ∃ t, exec (.batchTimeout r) s = .next t ∧ t.nodeIn r .ended = true ∧ t.rf (CSW_EVENT n.half) CSW_EVENT.BATCH_TIMEOUT = 1 ∧ (t.node
    r).map (fun m : Graph × Node => m.2.prim) = some (worse n.prim 1)) ∧
  (∀ (s : State) (r : NodeRef) (n : Node) (o : CswOp),
    s.live = true → s.cswNode r 3 = some n → (s.half n.half).cswOps.find? (fun o => decide (o.node = r)) = some o → o.marks = [] →
    (s.dispatchPlan r n).2.1.all (fun q => decide (s.sqCode n.half r.ctx q = 0) && decide (s.sqState n.half q = 2) && (s.sq n.half
    q).producer.isNone && decide (((s.dispatchPlan r n).2.2 q).length ≤ s.sqRoom n.half q)) = true →
    ∃ t, exec (.dispatch r) s = .next t ∧ t.nodeIn r .ended = true ∧ (s.dispatchPlan r n).2.1.all (fun q => decide ((t.sq n.half q).built
    = (s.sq n.half q).built + (((s.dispatchPlan r n).2.2 q).length + 223) / 224) && decide (t.rf (CSW_SQ_SENT n.half q) CSW_SQ_SENT.BYTES
    = (s.rf (CSW_SQ_SENT n.half q) CSW_SQ_SENT.BYTES + ((s.dispatchPlan r n).2.2 q).length) % 2 ^ 32)) = true) ∧
  (∀ (s : State) (r : NodeRef) (n : Node) (o : CswOp),
    s.live = true → s.cswNode r 5 = some n → (s.half n.half).cswOps.find? (fun o => decide (o.node = r)) = some o → o.marks = [] →
    (s.returnPlan r n).2.1.all (fun q => decide (s.sqCode n.half r.ctx q = 0) && decide (s.sqState n.half q = 2) && (s.sq n.half
    q).producer.isNone && decide (((s.returnPlan r n).2.2 q).length ≤ s.sqRoom n.half q)) = true →
    ∃ t, exec (.returnRows r) s = .next t ∧ t.nodeIn r .ended = true ∧ (s.returnPlan r n).2.1.all (fun q => decide ((t.sq n.half q).built
    = (s.sq n.half q).built + (((s.returnPlan r n).2.2 q).length + 223) / 224) && decide (t.rf (CSW_SQ_SENT n.half q) CSW_SQ_SENT.BYTES =
    (s.rf (CSW_SQ_SENT n.half q) CSW_SQ_SENT.BYTES + ((s.returnPlan r n).2.2 q).length) % 2 ^ 32)) = true) ∧
  (∀ (s : State) (r : NodeRef) (n : Node),
    s.live = true → s.cswNode r 3 = some n →
    exec (.dispatch r) s = .next ((s.dispatchPlan r n).1.pushAll r n (s.dispatchPlan r n).2.1 (s.dispatchPlan r n).2.2)) ∧
  (∀ (s : State) (r : NodeRef) (n : Node),
    s.live = true → s.cswNode r 5 = some n →
    exec (.returnRows r) s = .next ((s.returnPlan r n).1.pushAll r n (s.returnPlan r n).2.1 (s.returnPlan r n).2.2)) ∧
  (∀ (s : State) (r : NodeRef) (n : Node),
    s.live = true → s.cswNode r 4 = some n → n.cswQueues.all (fun q => decide (s.rqCode n.half r.ctx q = 0) && (s.rq n.half
    q).consumer.isNone && (s.opOf n.half r).ends.contains q) = true →
    ∃ t, exec (.collect r) s = .next t ∧ t.nodeIn r .ended = true ∧ (t.node r).map (fun (m : Graph × Node) => m.2.prim) = some (worse
    n.prim (if (s.opOf n.half r).full = 0 then 0 else 1))) ∧
  (∀ (s : State) (r : NodeRef) (n : Node),
    s.live = true → s.cswNode r 6 = some n → n.cswQueues.all (fun q => decide (s.rqCode n.half r.ctx q = 0) && (s.rq n.half
    q).consumer.isNone && (s.opOf n.half r).ends.contains q) = true →
    ∃ t, exec (.combine r) s = .next t ∧ t.nodeIn r .ended = true ∧ (t.node r).map (fun (m : Graph × Node) => m.2.prim) = some (worse
    n.prim (if (List.range (n.cswM * n.cswK)).all (fun c => (s.opOf n.half r).cells.contains c) = true then 0 else 1))) ∧
  (∀ (s : State) (r : NodeRef) (n : Node) (q k : Nat) (o : CswOp) (rc : List Byte),
    s.live = true → s.cswNode r 4 = some n → n.cswQueues = [q] → s.rqCode n.half r.ctx q = 0 → (s.rq n.half q).consumer = some (.node r) →
    (s.half n.half).cswOps.find? (fun o => decide (o.node = r)) = some o → o.ends = [] → (s.rq n.half q).part = [] → 16 + n.cswRow ≤ (s.rq
    n.half q).size → rc = s.rqPeek n.half q 0 (s.rqAvail n.half q) → rc.length = s.rqAvail n.half q → expGood rc = true → expBits rc 96 16
    = n.cswBatch → rc.length = 16 + n.cswRow → expEnd rc = false → n.cswFirst + k = expBits rc 36 12 → k < n.cswCount → mapGet (fun _ =>
    0) o.used k < n.cswM →
    ∃ t, exec (.collect r) s = .next t ∧ t.nodeIn r .running = true ∧ mapGet (fun _ => 0) (t.opOf n.half r).used k = mapGet (fun _ => 0)
    o.used k + 1 ∧ t.rqAvail n.half q = 0) ∧
  (∀ (s : State) (r : NodeRef) (n : Node) (q : Nat) (o : CswOp) (rc : List Byte),
    s.live = true → s.cswNode r 6 = some n → n.cswQueues = [q] → s.rqCode n.half r.ctx q = 0 → (s.rq n.half q).consumer = some (.node r) →
    (s.half n.half).cswOps.find? (fun o => decide (o.node = r)) = some o → o.ends = [] → (s.rq n.half q).part = [] → 16 + n.cswRow ≤ (s.rq
    n.half q).size → rc = s.rqPeek n.half q 0 (s.rqAvail n.half q) → rc.length = s.rqAvail n.half q → expGood rc = true → expBits rc 96 16
    = n.cswBatch → rc.length = 16 + n.cswRow → expEnd rc = false → expBits rc 16 16 < n.cswM → expBits rc 32 4 < n.cswK → o.cells.contains
    (expBits rc 16 16 * n.cswK + expBits rc 32 4) = false →
    ∃ t, exec (.combine r) s = .next t ∧ t.nodeIn r .running = true ∧ (t.opOf n.half r).cells = o.cells ++ [expBits rc 16 16 * n.cswK +
    expBits rc 32 4] ∧ t.rqAvail n.half q = 0) ∧
  (∀ (s : State) (r : NodeRef) (n : Node) (q : Nat) (o : CswOp) (rc : List Byte),
    s.live = true → s.cswNode r 4 = some n → n.cswQueues = [q] → s.rqCode n.half r.ctx q = 0 → (s.rq n.half q).consumer = some (.node r) →
    (s.half n.half).cswOps.find? (fun o => decide (o.node = r)) = some o → o.ends = [] → (s.rq n.half q).part = [] → 16 + n.cswRow ≤ (s.rq
    n.half q).size → rc = s.rqPeek n.half q 0 (s.rqAvail n.half q) → rc.length = s.rqAvail n.half q → expGood rc = true → expBits rc 96 16
    = n.cswBatch → rc.length = 16 → expEnd rc = true →
    ∃ t, exec (.collect r) s = .next t ∧ t.nodeIn r .ended = true ∧ (t.rq n.half q).consumed = (s.rq n.half q).consumed + 16) ∧
  (∀ (s : State) (r : NodeRef) (n : Node) (q : Nat) (o : CswOp) (rc : List Byte),
    s.live = true → s.cswNode r 6 = some n → n.cswQueues = [q] → s.rqCode n.half r.ctx q = 0 → (s.rq n.half q).consumer = some (.node r) →
    (s.half n.half).cswOps.find? (fun o => decide (o.node = r)) = some o → o.ends = [] → (s.rq n.half q).part = [] → 16 + n.cswRow ≤ (s.rq
    n.half q).size → rc = s.rqPeek n.half q 0 (s.rqAvail n.half q) → rc.length = s.rqAvail n.half q → expGood rc = true → expBits rc 96 16
    = n.cswBatch → rc.length = 16 → expEnd rc = true →
    ∃ t, exec (.combine r) s = .next t ∧ t.nodeIn r .ended = true ∧ (t.rq n.half q).consumed = (s.rq n.half q).consumed + 16) ∧
  (∀ (s : State) (r : NodeRef) (n : Node),
    s.live = true → s.cswNode r 6 = some n → n.cswTimeout ≠ 0 →
    ∃ t, exec (.batchTimeout r) s = .next t ∧ t.nodeIn r .ended = true ∧ t.rf (CSW_EVENT n.half) CSW_EVENT.BATCH_TIMEOUT = 1 ∧ (t.node
    r).map (fun m : Graph × Node => m.2.prim) = some (worse n.prim 1))

/-- SEQ_A_WRITE, SEQ_B_WRITE and SEQ_TIMEOUT (R115, R118): 0xC3, 0x3C and the command byte written as single bytes take the host port from
IDLE to ARMED; any other write, and any write while the controller is stopped, breaks the sequence; a write of a virtual function is
discarded; a sequence that waits 10 ms ends with SEQ_TIMEOUT. Next states are stated of: SEQ_A_WRITE, SEQ_B_WRITE, SEQ_TIMEOUT. -/
def Obligations.HostKeySequence : Prop :=
  (∀ (s : State) (h : Half),
    s.live = true → (s.half h).nv.stopping = false → (s.half h).nv.host.step = 0 →
    ∃ t, exec (.seqAWrite h 0 2 0xC3) s = .next t ∧ (t.half h).nv.host.step = 1 ∧ (t.half h).nv.host.cmd = (s.half h).nv.host.cmd ∧
    onlyRegs [NV_CMD_STATUS h] s (t.setHalf h (s.half h)) ∧ (t.half h).mem = (s.half h).mem) ∧
  (∀ (s : State) (h : Half),
    s.live = true → (s.half h).nv.stopping = false → (s.half h).nv.host.step = 1 →
    ∃ t, exec (.seqBWrite h 0 2 0x3C) s = .next t ∧ (t.half h).nv.host.step = 2 ∧ onlyRegs [NV_CMD_STATUS h] s (t.setHalf h (s.half h))) ∧
  (∀ (s : State) (h : Half) (v : Nat),
    s.live = true → (s.half h).nv.stopping = false → (s.half h).nv.host.step = 2 → v < 256 →
    ∃ t, exec (.seqAWrite h 0 2 v) s = .next t ∧ (t.half h).nv.host.step = 3 ∧ (t.half h).nv.host.key = v ∧ ((s.half h).nv.host.cmd = none
    → (s.half h).nv.host.cont = none → t.rf (NV_CMD_STATUS h) NV_CMD_STATUS.PORT_STATE = 3)) ∧
  (∀ (s : State) (h : Half) (w v : Nat),
    s.live = true → (s.half h).nv.stopping = true ∨ (s.half h).nv.host.step ≠ 1 ∨ w ≠ 2 ∨ v ≠ 0x3C →
    ∃ t, exec (.seqBWrite h 0 w v) s = .next t ∧ (t.half h).nv.host.step = 0 ∧ (t.half h).nv.host.key = 0 ∧ t.rf (NV_CMD_STATUS h)
    NV_CMD_STATUS.SEQ_ERR = 1 ∧ onlyLogged [NV_CMD_STATUS h] s (t.setHalf h (s.half h))) ∧
  (∀ (s : State) (h : Half) (f w v : Nat),
    s.live = true → f ≠ 0 →
    exec (.seqAWrite h f w v) s = .next s ∧ exec (.seqBWrite h f w v) s = .next s) ∧
  (∀ (s : State) (h : Half),
    s.live = true → (s.half h).nv.host.step ≠ 0 →
    ∃ t, exec (.seqTimeout h) s = .next t ∧ (t.half h).nv.host.step = 0 ∧ t.rf (NV_CMD_STATUS h) NV_CMD_STATUS.RESULT = 3 ∧ t.rf
    (NV_CMD_STATUS h) NV_CMD_STATUS.DONE = 1 ∧ (t.half h).nv.host.cmd = (s.half h).nv.host.cmd)

/-- STATUS_READ, CONT_READ_ENTER, CONT_READ_EXIT, CMD_RESET, OTP_READ and NV_COMMAND_COMPLETE (R117 to R122, R135, R136, R143 to R145): a
launch whose keys and parameters pass has its effect and completes with OK; one whose parameter block fails a check completes with that
code; a completion gives RESULT, DONE and the result area. The CONT_READ_ENTER clause takes acceptance as completion, which is the model's
choice (log entry 21). Next states are stated of: STATUS_READ, CONT_READ_ENTER, CONT_READ_EXIT, CMD_RESET, OTP_READ, ERASE_PLANE,
NV_COMMAND_COMPLETE. -/
def Obligations.HostCommandsThatEndAtOnce : Prop :=
  (∀ (s : State) (h : Half),
    s.live = true → s.armed h 0x80 = true → (s.half h).nv.host.cmd = none →
    ∃ t, exec (.statusRead h .host) s = .next t ∧ t.rf (NV_CMD_STATUS h) NV_CMD_STATUS.CMD = 0x80 ∧ t.rf (NV_CMD_STATUS h)
    NV_CMD_STATUS.RESULT = 0 ∧ t.rf (NV_CMD_STATUS h) NV_CMD_STATUS.DONE = 1 ∧ (t.half h).nv.host.step = 0 ∧ t.rf (NV_CMD_TAG h)
    NV_CMD_TAG.TAG = (s.paramBlock h).getD 1 0 ∧ mapGet (fun _ => 0) (t.half h).nv.result 4 = s.rd (NV_LEDGER_STATUS h) ∧ mapGet (fun _ =>
    0) (t.half h).nv.result 6 = s.rd (NV_BROWNOUT h)) ∧
  (∀ (s : State) (h : Half),
    s.live = true → s.armed h 0x50 = true → (s.half h).nv.host.cmd = none → (s.half h).nv.host.cont = none →
    ∃ t, exec (.contReadEnter h .host) s = .next t ∧ (t.half h).nv.host.cont = some (bits ((s.paramBlock h).getD 2 0) 0 15, bits
    ((s.paramBlock h).getD 3 0) 0 2) ∧ t.rf (NV_CMD_STATUS h) NV_CMD_STATUS.RESULT = 0 ∧ t.rf (NV_CMD_STATUS h) NV_CMD_STATUS.DONE = 1 ∧
    t.rf (NV_CMD_STATUS h) NV_CMD_STATUS.PORT_STATE = 5 ∧ (t.half h).nv.rows = (s.half h).nv.rows) ∧
  (∀ (s : State) (h : Half),
    s.live = true → s.armed h 0x5F = true → (s.half h).nv.host.cmd = none →
    ∃ t, exec (.contReadExit h .host) s = .next t ∧ (t.half h).nv.host.cont = none ∧ (t.half h).nv.reads = [] ∧ (t.half h).nv.sensed = []
    ∧ t.rf (NV_CMD_STATUS h) NV_CMD_STATUS.RESULT = 0 ∧ t.rf (NV_CMD_STATUS h) NV_CMD_STATUS.PORT_STATE = 0) ∧
  (∀ (s : State) (h : Half),
    s.live = true → s.armed h 0xF0 = true → (s.half h).nv.host.cmd = none →
    ∃ t, exec (.cmdReset h .host) s = .next t ∧ (t.half h).nv.host.cont = none ∧ t.rf (NV_CMD_STATUS h) NV_CMD_STATUS.CMD = 0xF0 ∧ t.rf
    (NV_CMD_STATUS h) NV_CMD_STATUS.RESULT = 0 ∧ t.rf (NV_CMD_STATUS h) NV_CMD_STATUS.DONE = 1) ∧
  (∀ (s : State) (h : Half) (c : NvCmd),
    s.live = true → s.armed h 0xF0 = true → s.nvCmd h .host = some c → c.phase = .steps → (s.half h).nv.ownPulse .host = false →
    ∃ t, exec (.cmdReset h .host) s = .next t ∧ t.nvCmd h .host = none ∧ t.rf (NV_CMD_STATUS h) NV_CMD_STATUS.CMD = 0xF0 ∧ t.rf
    (NV_CMD_STATUS h) NV_CMD_STATUS.RESULT = 0) ∧
  (∀ (s : State) (h : Half),
    s.live = true → s.armed h 0x70 = true → (s.half h).nv.host.cmd = none →
    ∃ t, exec (.otpRead h .host) s = .next t ∧ (t.nvCmd h .host).map (fun (c : NvCmd) => (c.code, c.phase, c.words)) = some (0x70,
    NvPhase.ending 0, (List.range (bits ((s.paramBlock h).getD 2 0) 8 6)).map (fun i => (mapGet (fun _ => 0) (s.half h).nv.otp (bits
    ((s.paramBlock h).getD 2 0) 0 6 + i)).toNat)) ∧ (t.half h).nv.otp = (s.half h).nv.otp) ∧
  (∀ (s : State) (h : Half),
    s.live = true → (s.half h).nv.stopping = false → (s.half h).nv.host.step = 3 → (s.half h).nv.host.accepts (s.half h).nv.host.key =
    true → headerCheck .host (s.half h).nv.host.key 0x20 (s.paramBlock h) ≠ 0 →
    ∃ t, exec (.erasePlane h .host) s = .next t ∧ t.rf (NV_CMD_STATUS h) NV_CMD_STATUS.RESULT = headerCheck .host (s.half h).nv.host.key
    0x20 (s.paramBlock h) ∧ t.rf (NV_CMD_STATUS h) NV_CMD_STATUS.DONE = 1 ∧ (t.half h).nv.host.cmd = (s.half h).nv.host.cmd ∧ (t.half
    h).nv.rows = (s.half h).nv.rows ∧ (t.half h).nv.planes = (s.half h).nv.planes) ∧
  (∀ (s : State) (h : Half) (c : NvCmd) (r : Nat),
    s.live = true → s.nvCmd h .host = some c → c.phase = .ending r → r < 256 → c.code < 256 →
    ∃ t, exec (.nvCommandComplete h .host) s = .next t ∧ t.nvCmd h .host = none ∧ t.rf (NV_CMD_STATUS h) NV_CMD_STATUS.CMD = c.code ∧ t.rf
    (NV_CMD_STATUS h) NV_CMD_STATUS.RESULT = r ∧ t.rf (NV_CMD_STATUS h) NV_CMD_STATUS.DONE = 1 ∧ (t.half h).nv.result = resultArea
    ([c.code + 256 * r, c.tag] ++ c.words)) ∧
  (∀ (s : State) (h : Half) (c : NvCmd) (r : Nat),
    s.live = true → s.nvCmd h .loader = some c → c.phase = .ending r → r < 256 → c.code < 256 → (s.half h).ldr.phase = .erase →
    ∃ t, exec (.nvCommandComplete h .loader) s = .next t ∧ t.nvCmd h .loader = none ∧ (t.half h).ldr.asked = false ∧ t.rf (NV_LDR_STATUS
    h) NV_CMD_STATUS.CMD = c.code ∧ t.rf (NV_LDR_STATUS h) NV_CMD_STATUS.RESULT = r)

/-- PROGRAM_ROWS, ERASE_PLANE, REFRESH_PLANE, MARGIN_READ, PROTECT_SET, PROTECT_UNLOCK and OTP_PROGRAM (R126 to R133, R139 to R143, R117):
a launch that passes its checks becomes the port's running command in the phase its rules give; the loader's requests run on the loader
port. Next states are stated of: PROGRAM_ROWS, ERASE_PLANE, REFRESH_PLANE, MARGIN_READ, PROTECT_SET, PROTECT_UNLOCK, OTP_PROGRAM,
CMD_RESET, CONT_READ_ENTER, CONT_READ_EXIT, OTP_READ. -/
def Obligations.CommandsBegun : Prop :=
  (∀ (s : State) (h : Half),
    s.live = true → s.armed h 0x10 = true → (s.half h).nv.host.cmd = none → (s.half h).nv.host.cont = none →
    ∃ t, exec (.programRows h .host) s = .next t ∧ (t.nvCmd h .host).map (fun (c : NvCmd) => (c.code, c.phase, c.rows.length)) = some
    (0x10, NvPhase.commit, (s.paramBlock h).getD 3 0) ∧ t.rf (NV_CMD_PROGRESS h) NV_CMD_PROGRESS.TOTAL_UNITS = (s.paramBlock h).getD 3 0 ∧
    t.rf (NV_CMD_STATUS h) NV_CMD_STATUS.PORT_STATE = 4 ∧ (t.half h).nv.rows = (s.half h).nv.rows ∧ (∀ k < 1024, k < (s.paramBlock h).getD
    3 0 → t.planeEn h (((((t.nvCmd h .host).map (fun (c : NvCmd) => c.rows)).getD []).map (fun (r : RowJob) => r.plane)).getD k 0) =
    false)) ∧
  (∀ (s : State) (h : Half),
    s.live = true → s.armed h 0x20 = true → (s.half h).nv.host.cmd = none → (s.half h).nv.host.cont = none →
    ∃ t, exec (.erasePlane h .host) s = .next t ∧ (t.nvCmd h .host).map (fun (c : NvCmd) => (c.code, c.phase, c.planes)) = some (0x20,
    NvPhase.commit, [bits ((s.paramBlock h).getD 2 0) 0 15]) ∧ t.planeEn h (bits ((s.paramBlock h).getD 2 0) 0 15) = false ∧ (t.half
    h).nv.rows = (s.half h).nv.rows) ∧
  (∀ (s : State) (h : Half),
    s.live = true → s.armed h 0x30 = true → (s.half h).nv.host.cmd = none → (s.half h).nv.host.cont = none →
    ∃ t, exec (.refreshPlane h .host) s = .next t ∧ (t.nvCmd h .host).map (fun (c : NvCmd) => (c.code, c.planes)) = some (0x30, [bits
    ((s.paramBlock h).getD 2 0) 0 15]) ∧ (t.half h).nv.refreshes.any (fun (r : Refresh) => r.plane == bits ((s.paramBlock h).getD 2 0) 0
    15 && r.cmd) = true ∧ (t.half h).nv.rows = (s.half h).nv.rows) ∧
  (∀ (s : State) (h : Half),
    s.live = true → s.armed h 0x40 = true → (s.half h).nv.host.cmd = none → (s.half h).nv.host.cont = none →
    ∃ t, exec (.marginRead h .host) s = .next t ∧ (t.nvCmd h .host).map (fun (c : NvCmd) => (c.code, c.phase, c.planes, c.next, c.last)) =
    some (0x40, NvPhase.steps, [bits ((s.paramBlock h).getD 2 0) 0 15], bits ((s.paramBlock h).getD 3 0) 0 10, bits ((s.paramBlock h).getD
    3 0) 16 10) ∧ (pendingOf (t.half h).nv (bits ((s.paramBlock h).getD 2 0) 0 15 / 16)).any (fun (x : NvStep) => x.own == StepFor.cmd
    .host && x.kind == StepKind.margin && x.plane == bits ((s.paramBlock h).getD 2 0) 0 15 && x.row == bits ((s.paramBlock h).getD 3 0) 0
    10) = true ∧ t.rf (SEAM_STATUS h (bits ((s.paramBlock h).getD 2 0) 0 15 / 16)) SEAM_STATUS.NV_PENDING = 1) ∧
  (∀ (s : State) (h : Half),
    s.live = true → s.armed h 0x60 = true → (s.half h).nv.host.cmd = none → (s.half h).nv.host.cont = none →
    ∃ t, exec (.protectSet h .host) s = .next t ∧ (t.half h).nv.ledgerQ = (s.half h).nv.ledgerQ ++
    [(({ type := 3, subject := bits ((s.paramBlock h).getD 2 0) 0 9, seq := 0, value := bits ((s.paramBlock h).getD 2 0) 16 2 } :
    LedgerRec), LedgerFor.cmd .host)] ∧ (t.nvCmd h .host).map (fun (c : NvCmd) => (c.phase, c.hash)) = some (NvPhase.ledgerBegin,
    s.passHash h (s.paramBlock h)) ∧ t.protMode h (64 * bits ((s.paramBlock h).getD 2 0) 0 9) = s.protMode h (64 * bits ((s.paramBlock
    h).getD 2 0) 0 9)) ∧
  (∀ (s : State) (h : Half),
    s.live = true → s.armed h 0x61 = true → (s.half h).nv.host.cmd = none → (s.half h).nv.host.cont = none → s.passHash h (s.paramBlock h)
    = mapGet (fun _ => []) (s.half h).nv.hashes (bits ((s.paramBlock h).getD 2 0) 0 9) →
    ∃ t, exec (.protectUnlock h .host) s = .next t ∧ (t.nvCmd h .host).map (fun (c : NvCmd) => (c.phase, c.group)) = some
    (NvPhase.ledgerBegin, bits ((s.paramBlock h).getD 2 0) 0 9) ∧ (t.half h).nv.ledgerQ.length = (s.half h).nv.ledgerQ.length + 1) ∧
  (∀ (s : State) (h : Half),
    s.live = true → s.armed h 0x61 = true → (s.half h).nv.host.cmd = none → (s.half h).nv.host.cont = none → s.passHash h (s.paramBlock h)
    ≠ mapGet (fun _ => []) (s.half h).nv.hashes (bits ((s.paramBlock h).getD 2 0) 0 9) →
    ∃ t, exec (.protectUnlock h .host) s = .next t ∧ (t.nvCmd h .host).map (fun (c : NvCmd) => c.phase) = some NvPhase.delay ∧ (t.half
    h).nv.ledgerQ = (s.half h).nv.ledgerQ) ∧
  (∀ (s : State) (h : Half),
    s.live = true → s.armed h 0x71 = true → (s.half h).nv.host.cmd = none → (s.half h).nv.host.cont = none →
    ∃ t, exec (.otpProgram h .host) s = .next t ∧ (t.nvCmd h .host).map (fun (c : NvCmd) => (c.code, c.phase, c.words)) = some (0x71,
    NvPhase.steps, [bits ((s.paramBlock h).getD 2 0) 0 6, (s.paramBlock h).getD 3 0]) ∧ (t.half h).nv.otp = (s.half h).nv.otp) ∧
  (∀ (s : State) (h : Half),
    s.live = true → (s.half h).nv.stopping = false → s.nvCmd h .loader = none → (s.half h).ldr.asked = false → (s.half h).ldr.phase =
    .program → (s.half h).ldr.recs ≠ [] →
    ∃ t, exec (.programRows h .loader) s = .next t ∧ (t.nvCmd h .loader).map (fun (c : NvCmd) => c.code) = some 0x10 ∧ (t.half
    h).ldr.asked = true ∧ t.nvCmd h .host = s.nvCmd h .host) ∧
  (∀ (s : State) (h : Half),
    s.live = true → (s.half h).nv.stopping = false → s.nvCmd h .loader = none → (s.half h).ldr.asked = false → (s.half h).ldr.phase =
    .prove → (s.half h).ldr.planes ≠ [] →
    ∃ t, exec (.marginRead h .loader) s = .next t ∧ (t.nvCmd h .loader).map (fun (c : NvCmd) => c.code) = some 0x40 ∧ (t.half h).ldr.asked
    = true ∧ t.nvCmd h .host = s.nvCmd h .host) ∧
  (∀ (s : State) (h : Half),
    s.live = true → (s.half h).nv.stopping = false → s.nvCmd h .loader = none → (s.half h).ldr.asked = false → (s.half h).ldr.phase =
    .erase → (s.half h).ldr.planes ≠ [] →
    ∃ t, exec (.erasePlane h .loader) s = .next t ∧ (t.nvCmd h .loader).map (fun (c : NvCmd) => c.code) = some 0x20 ∧ (t.half h).ldr.asked
    = true ∧ t.nvCmd h .host = s.nvCmd h .host) ∧
  (∀ (s : State) (h : Half) (c : NvCmd),
    s.live = true → (s.half h).nv.stopping = false → s.nvCmd h .loader = some c → c.abort = [] → (s.half h).ldr.aborted = true → (s.half
    h).nv.ownPulse .loader = false →
    ∃ t, exec (.cmdReset h .loader) s = .next t ∧ t.nvCmd h .loader = none ∧ t.rf (NV_LDR_STATUS h) NV_CMD_STATUS.CMD = 0xF0) ∧
  (∀ (s : State) (h : Half),
    s.live = true →
    exec (.refreshPlane h .loader) s = .next s ∧ exec (.contReadEnter h .loader) s = .next s ∧ exec (.contReadExit h .loader) s = .next s
    ∧ exec (.protectSet h .loader) s = .next s ∧ exec (.protectUnlock h .loader) s = .next s ∧ exec (.otpRead h .loader) s = .next s ∧
    exec (.otpProgram h .loader) s = .next s)

/-- PULSE_START, NV_STEP_START, NV_STEP_END, PROGRAM_ROW_DONE, PULSE_LIMIT_EXPIRE, ERASE_TIME_LIMIT and UNLOCK_FAIL_DELAY_END (R58, R59,
R125, R128, R129, R131, R140): the pump budget lets the first pulse start, a Seam takes its step, a verified step leaves the row's levels
as intended, and the command goes on. The levels of an interrupted row are free values (log entries 3 and 22). Next states are stated of:
PULSE_START, NV_STEP_START, NV_STEP_END, PROGRAM_ROW_DONE, PULSE_LIMIT_EXPIRE, ERASE_TIME_LIMIT, UNLOCK_FAIL_DELAY_END. -/
def Obligations.StepsOfTheController : Prop :=
  (∀ (s : State) (h : Half) (i : Nat) (x : NvStep),
    s.live = true → (s.half h).nv.stopping = false → (s.half h).nv.firstPulse = some i → (s.half h).nv.pulseQ[i]? = some x → x.plane <
    32768 → s.domOn (pumpDom h) = true → s.inPulse h + (s.half h).nv.booked + pulseWeight x ≤ 512 →
    ∃ t, exec (.pulseStart h) s = .next t ∧ (t.half h).nv.pulsing = (s.half h).nv.pulsing ++ [x] ∧ (t.half h).nv.pulseQ = (s.half
    h).nv.pulseQ.eraseIdx i ∧ pendingOf (t.half h).nv (x.plane / 16) = pendingOf (s.half h).nv (x.plane / 16) ++ [({ x with us := s.us h }
    : NvStep)] ∧ t.rf (SEAM_STATUS h (x.plane / 16)) SEAM_STATUS.NV_PENDING = 1 ∧ (t.half h).nv.rows = (s.half h).nv.rows ∧ (t.half h).mem
    = (s.half h).mem) ∧
  (∀ (s : State) (h : Half) (seam : Nat) (x : NvStep),
    s.live = true → (s.half h).nv.stopping = false → (s.half h).nv.scanned = true → seam < 2048 → firstStep (pendingOf (s.half h).nv seam)
    = some x → s.domOn (galDom h (seam / 64)) = true → (s.rf (SEAM_STATUS h seam) SEAM_STATUS.STATE = 0 ∨ s.rf (SEAM_STATUS h seam)
    SEAM_STATUS.STATE = 2) → s.waveOn h seam = false → s.waveWaits h seam = false → (x.kind = .erase ∨ x.kind = .verify ∨ x.kind =
    .margin) →
    ∃ t, exec (.nvStepStart h seam) s = .next t ∧ t.rf (SEAM_STATUS h seam) SEAM_STATUS.STATE = 4 ∧ (t.half h).nv.running = (s.half
    h).nv.running ++ [(seam, ({ x with us := s.us h } : NvStep))] ∧ pendingOf (t.half h).nv seam = (pendingOf (s.half h).nv seam).erase x
    ∧ onlyRegs [SEAM_STATUS h seam] s (t.setHalf h (s.half h)) ∧ (t.half h).nv.rows = (s.half h).nv.rows) ∧
  (∀ (s : State) (h : Half) (seam : Nat) (x : NvStep),
    s.live = true → (s.half h).nv.stopping = false → (s.half h).nv.scanned = true → seam < 2048 → firstStep (pendingOf (s.half h).nv seam)
    = some x → s.domOn (galDom h (seam / 64)) = true → (s.rf (SEAM_STATUS h seam) SEAM_STATUS.STATE = 0 ∨ s.rf (SEAM_STATUS h seam)
    SEAM_STATUS.STATE = 2) → s.waveOn h seam = false → s.waveWaits h seam = false → (x.kind = .program ∨ x.kind = .repulse) →
    ∃ t, exec (.nvStepStart h seam) s = .next t ∧ t.rf (SEAM_STATUS h seam) SEAM_STATUS.STATE = 4 ∧ (t.half h).nv.running = (s.half
    h).nv.running ++ [(seam, (s.begunStep h x).1)] ∧ 1 ≤ (s.begunStep h x).1.len ∧ (s.begunStep h x).1.len ≤ 20 ∧ pendingOf (t.half h).nv
    seam = (pendingOf (s.half h).nv seam).erase x ∧ (t.half h).nv.rows = (s.half h).nv.rows) ∧
  (∀ (s : State) (h : Half) (seam : Nat) (x : NvStep) (p : NvPort) (c : NvCmd) (r : RowJob),
    s.live = true → (s.half h).nv.stopping = false → seam < 2048 → (s.half h).nv.running.find? (fun (e : Nat × NvStep) => e.1 == seam) =
    some (seam, x) → x.own = .cmd p → x.kind = .program → s.nvCmd h p = some c → c.abort = [] → c.rows[c.rows.findIdx (fun (r : RowJob) =>
    r.plane == x.plane && r.row == x.row && !r.done)]? = some r →
    ∃ t, exec (.nvStepEnd h seam .verified) s = .next t ∧ t.rf (SEAM_STATUS h seam) SEAM_STATUS.STATE = 0 ∧ t.pairs h x.plane x.row =
    r.cells ∧ (t.half h).nv.running = (s.half h).nv.running.filter (fun (e : Nat × NvStep) => e.1 != seam) ∧ onlyRegs [SEAM_STATUS h seam,
    nvStatusAddr h p] s (t.setHalf h (s.half h)) ∧ (∀ k < 2 ^ 25, k ≠ 1024 * x.plane + x.row → t.pairs h (k / 1024) (k % 1024) = s.pairs h
    (k / 1024) (k % 1024))) ∧
  (∀ (s : State) (h : Half) (seam : Nat) (x : NvStep) (res : StepResult),
    s.stage ≠ .off → (s.half h).nv.stopping = true → seam < 2048 → (s.half h).nv.running.find? (fun (e : Nat × NvStep) => e.1 == seam) =
    some (seam, x) →
    ∃ t, exec (.nvStepEnd h seam res) s = .next t ∧ t.rf (SEAM_STATUS h seam) SEAM_STATUS.STATE = 0 ∧ t.rf (SEAM_STATUS h seam)
    SEAM_STATUS.PLANE = 0 ∧ (t.half h).nv.running = (s.half h).nv.running.filter (fun (e : Nat × NvStep) => e.1 != seam) ∧ (t.half
    h).nv.rows = (s.half h).nv.rows ∧ onlyRegs [SEAM_STATUS h seam] s (t.setHalf h (s.half h))) ∧
  (∀ (s : State) (h : Half) (p : NvPort) (k us : Nat) (c : NvCmd) (r : RowJob),
    s.live = true → (s.half h).nv.stopping = false → s.nvCmd h p = some c → c.rows[k]? = some r → r.verified = true → r.done = false →
    c.phase = .steps → (c.rows.eraseIdx k).all (fun (x : RowJob) => x.done) = true →
    ∃ t, exec (.programRowDone h p k us) s = .next t ∧ (t.nvCmd h p).map (fun (c : NvCmd) => (c.phase, c.words)) = some (NvPhase.ending
    c.stuckResult, [c.rows.length, c.pairs, max c.longest us]) ∧ (t.half h).nv.rows = (s.half h).nv.rows) ∧
  (∀ (s : State) (h : Half) (p : NvPort) (k : Nat) (cells : List CellAt) (c : NvCmd) (r : RowJob),
    s.live = true → (s.half h).nv.stopping = false → s.nvCmd h p = some c → c.rows[k]? = some r → r.started = true → r.verified = false →
    (s.half h).nv.running = [] → okCells cells ≠ [] →
    ∃ t, exec (.pulseLimitExpire h p k cells) s = .next t ∧ (t.nvCmd h p).map (fun (c : NvCmd) => (c.rows.map (fun (x : RowJob) =>
    x.verified)).getD k false) = some true ∧ t.pairs h r.plane r.row = setCells r.cells (okCells cells)) ∧
  (∀ (s : State) (h : Half) (p : NvPort) (c : NvCmd) (q : Nat),
    s.live = true → (s.half h).nv.stopping = false → s.nvCmd h p = some c → c.erasing = some q → q < 32768 → c.abort = [] → (s.half
    h).nv.running = [] →
    ∃ t, exec (.eraseTimeLimit h p []) s = .next t ∧ (t.nvCmd h p).map (fun (c : NvCmd) => c.phase) = some NvPhase.ledgerDone ∧ (t.half
    h).nv.ledgerQ = (s.half h).nv.ledgerQ ++
    [(({ type := 2, subject := planeId h q, seq := 0, value := min 16383 (s.rf (NV_PLANE_HEALTH h q) NV_PLANE_HEALTH.PE_CYCLES + 1) } :
    LedgerRec), LedgerFor.cmd p)] ∧ (t.planeRec h q).written = [] ∧ t.health h q = 0 ∧ (∀ row < 1024, t.pairs h q row = List.replicate 544
    (0, 0))) ∧
  (∀ (s : State) (h : Half) (c : NvCmd),
    s.live = true → (s.half h).nv.stopping = false → s.nvCmd h .host = some c → c.phase = .delay → c.group < 512 →
    ∃ t, exec (.unlockFailDelayEnd h) s = .next t ∧ (t.half h).nv.unlockFails = (s.half h).nv.unlockFails + 1 ∧ (t.nvCmd h .host).map (fun
    (c : NvCmd) => c.phase) = some (NvPhase.ending 0x0E) ∧ t.rf (NV_PROT_STATE h c.group) NV_PROT_STATE.FAIL_COUNT = min (s.rf
    (NV_PROT_STATE h c.group) NV_PROT_STATE.FAIL_COUNT + 1) 15 ∧ onlyRegs [NV_PROT_STATE h c.group, NV_CMD_STATUS h] s (t.setHalf h
    (s.half h)) ∧ (t.half h).nv.hashes = (s.half h).nv.hashes)

/-- LEDGER_COMMIT, LEDGER_COMPACT_DONE, LEDGER_SCAN_DONE, BROWNOUT_TRIP and BROWNOUT_RECOVER (R131, R146 to R150): a record takes the next
SEQ and what it guards proceeds; compaction opens the other bank; the scan makes planes with an open ERASE_BEGIN INCOMPLETE and disables
them; a trip stops the controller. Next states are stated of: LEDGER_COMMIT, LEDGER_COMPACT_DONE, LEDGER_SCAN_DONE, BROWNOUT_TRIP,
BROWNOUT_RECOVER. -/
def Obligations.LedgerAndBrownout : Prop :=
  (∀ (s : State) (h : Half) (e : LedgerRec × LedgerFor) (p : NvPort),
    s.live = true → (s.half h).nv.stopping = false → (s.half h).nv.scanned = true → (s.half h).nv.compacting = false → (s.half
    h).nv.ledgerQ.find? (s.commitReady h) = some e → e.2 = .cmd p →
    ∃ t, exec (.ledgerCommit h) s = .next t ∧ (t.half h).nv.bankOf (s.half h).nv.bank = (s.half h).nv.bankOf (s.half h).nv.bank ++
    [e.1.sealed (s.half h).nv.nextSeq] ∧ (t.half h).nv.nextSeq = (s.half h).nv.nextSeq + 1 ∧ (t.half h).nv.bank = (s.half h).nv.bank ∧
    (t.half h).nv.rows = (s.half h).nv.rows) ∧
  (∀ (s : State) (h : Half) (e : LedgerRec × LedgerFor) (p : NvPort) (c : NvCmd) (q : Nat) (l : List Nat),
    s.live = true → (s.half h).nv.stopping = false → (s.half h).nv.scanned = true → (s.half h).nv.compacting = false → (s.half
    h).nv.ledgerQ.find? (s.commitReady h) = some e → e.2 = .cmd p → e.1.type = 1 → s.nvCmd h p = some c → c.planes = q :: l →
    ∃ t, exec (.ledgerCommit h) s = .next t ∧ (t.nvCmd h p).map (fun (c : NvCmd) => c.phase) = some NvPhase.steps ∧ (t.half h).nv.pulseQ =
    (s.half h).nv.pulseQ ++ [({ own := .cmd p, kind := .erase, plane := q } : NvStep)]) ∧
  (∀ (s : State) (h : Half),
    s.live = true → (s.half h).nv.compacting = true →
    ∃ t, exec (.ledgerCompactDone h) s = .next t ∧ (t.half h).nv.bank = 1 - (s.half h).nv.bank ∧ (t.half h).nv.bankGen (1 - (s.half
    h).nv.bank) = some (((s.half h).nv.bankGen (s.half h).nv.bank).getD 0 + 1) ∧ (t.half h).nv.compacting = false ∧ (t.half
    h).nv.ledger.map (fun (r : LedgerRec) => (r.type, r.subject, r.value)) = (6, 0, ((s.half h).nv.bankGen (s.half h).nv.bank).getD 0 + 1)
    :: (ledgerLive (s.half h).nv.ledger).map (fun (r : LedgerRec) => (r.type, r.subject, r.value)) ∧ onlyRegs [NV_LEDGER_STATUS h] s
    (t.setHalf h (s.half h))) ∧
  (∀ (s : State) (h : Half),
    s.live = true → (s.half h).nv.stopping = false → (s.half h).nv.scanned = false →
    ∃ t, exec (.ledgerScanDone h) s = .next t ∧ (t.half h).nv.scanned = true ∧ (∀ q < 32768, q ∈ (ledgerOpen 1 2
    ({ (s.half h).nv with bank := (s.half h).nv.newestBank } : NvHalf).ledger).map (fun (n : Nat) => n % 32768) → q ∈ (t.half
    h).nv.incomplete ∧ t.planeEn h q = false) ∧ (t.half h).mem = (s.half h).mem) ∧
  (∀ (s : State) (h : Half),
    s.stage ≠ .off →
    ∃ t, exec (.brownoutTrip h) s = .next t ∧ (t.half h).nv.stopping = true ∧ (t.half h).nv.host.step = 0 ∧ t.rf (NV_BROWNOUT h)
    NV_BROWNOUT.ACTIVE = 1 ∧ t.rf (NV_BROWNOUT h) NV_BROWNOUT.TRIPS = min (s.rf (NV_BROWNOUT h) NV_BROWNOUT.TRIPS + 1) 65535 ∧ (t.half
    h).nv.pulseQ = [] ∧ (t.half h).nv.rows = (s.half h).nv.rows ∧ t.half h.other = s.half h.other) ∧
  (∀ (s : State) (h : Half),
    s.stage ≠ .off →
    ∃ t, exec (.brownoutRecover h) s = .next t ∧ t.rf (NV_BROWNOUT h) NV_BROWNOUT.ACTIVE = 0 ∧ t.rf (NV_BROWNOUT h) NV_BROWNOUT.TRIPS =
    s.rf (NV_BROWNOUT h) NV_BROWNOUT.TRIPS ∧ onlyRegs [NV_BROWNOUT h] s t)

/-- REFRESH_DUE, REFRESH_COMPLETE, PLANE_TABLE_COMMIT, SEAM_PLANE_CFG_WRITE, STUCK_STATE_WRITE, WALL_MINUTE_TICK, NV_WALL_MINUTES_WRITE,
CONT_READ_APERTURE_READ and ROW_SENSE_DONE (R64, R101 to R105, R112, R136). Next states are stated of: REFRESH_DUE, REFRESH_COMPLETE,
PLANE_TABLE_COMMIT, SEAM_PLANE_CFG_WRITE, STUCK_STATE_WRITE, WALL_MINUTE_TICK, NV_WALL_MINUTES_WRITE, CONT_READ_APERTURE_READ,
ROW_SENSE_DONE. -/
def Obligations.PlaneTableAndAges : Prop :=
  (∀ (s : State) (h : Half) (q : Nat),
    s.live = true → q < 32768 → s.planeEn h q = true → s.planeDue h q = true →
    ∃ t, exec (.refreshDue h q) s = .next t ∧ (t.half h).nv.refreshes.any (fun (r : Refresh) => r.plane == q) = true ∧ (t.half h).nv.rows
    = (s.half h).nv.rows ∧ (t.half h).mem = (s.half h).mem) ∧
  (∀ (s : State) (h : Half) (q : Nat) (r : Refresh),
    s.live = true → s.refreshAt h q 1024 = some r → 0 < s.wall h → q < 32768 →
    ∃ t, exec (.refreshComplete h q) s = .next t ∧ t.planeAge h q = some 0 ∧ (t.half h).nv.refreshes.any (fun (r : Refresh) => r.plane ==
    q) = false ∧ (t.half h).nv.rows = (s.half h).nv.rows) ∧
  (∀ (s : State) (h : Half),
    s.live = true → s.nvCmd h .host = none → s.nvCmd h .loader = none → (s.half h).nv.releases = [] → (s.half h).nv.committing.all (fun (x
    : Nat) => decide (x < 2048)) = true →
    ∃ t, exec (.planeTableCommit h) s = .next t ∧ (t.half h).nv.committing = [] ∧ (∀ x < 2048, x ∈ (s.half h).nv.committing → mapGet (fun
    _ => 0) (t.half h).nv.cfg x = s.rd (SEAM_PLANE_CFG h x) ∧ t.rf (SEAM_STATUS h x) SEAM_STATUS.CFG_PENDING = 0) ∧ (∀ x < 2048, t.rd
    (SEAM_PLANE_CFG h x) = s.rd (SEAM_PLANE_CFG h x))) ∧
  (∀ (s : State) (h : Half) (c : NvCmd) (q : Nat) (l : List Nat),
    s.live = true → (s.half h).nv.stopping = false → s.nvCmd h .host = some c → s.nvCmd h .loader = none → c.phase = .commit → c.abort =
    [] → c.planes = q :: l → q < 32768 → (s.half h).nv.committing.all (fun (x : Nat) => decide (x < 2048)) = true →
    ∃ t, exec (.planeTableCommit h) s = .next t ∧ (t.nvCmd h .host).map (fun (c : NvCmd) => c.phase) = some NvPhase.ledgerBegin ∧ (t.half
    h).nv.ledgerQ = (s.half h).nv.ledgerQ ++
    [(({ type := 1, subject := planeId h q, seq := 0, value := s.rf (NV_PLANE_HEALTH h q) NV_PLANE_HEALTH.PE_CYCLES } : LedgerRec),
    LedgerFor.cmd .host)]) ∧
  (∀ (s : State) (h : Half) (x v : Nat),
    s.live = true → x < 2048 → (bits v 0 16 = 0 ∨ s.rf (SEAM_PLANE_CFG h x) SEAM_PLANE_CFG.EN = 0) → (∀ i < 16, s.health h (16 * x + i) ≠
    5) →
    ∃ t, exec (.seamPlaneCfgWrite h x v) s = .next t ∧ t.rd (SEAM_PLANE_CFG h x) = BitVec.ofNat 32 v ∧ t.rf (SEAM_STATUS h x)
    SEAM_STATUS.CFG_PENDING = 1 ∧ x ∈ (t.half h).nv.committing ∧ (t.half h).nv.cfg = (s.half h).nv.cfg ∧ (∀ y < 2048, y ≠ x → t.rd
    (SEAM_PLANE_CFG h y) = s.rd (SEAM_PLANE_CFG h y))) ∧
  (∀ (s : State) (h : Half) (x v i : Nat),
    s.live = true → x < 2048 → i < 16 → bit (s.rf (SEAM_PLANE_CFG h x) SEAM_PLANE_CFG.EN) i = true → bit v i = true → bit (s.rf
    (SEAM_PLANE_CFG h x) SEAM_PLANE_CFG.W7) i ≠ bit v (16 + i) →
    ∃ t, exec (.seamPlaneCfgWrite h x v) s = .next t ∧ onlyLogged [] s t) ∧
  (∀ (s : State) (h : Half) (i v : Nat),
    s.live = true → i < 1024 →
    ∃ t, exec (.stuckStateWrite h i v) s = .next t ∧ (if bits v 24 2 = 0 ∧ s.rf (NV_STUCK_INFO h i) NV_STUCK_INFO.STATE = 3 ∧ s.planeEn h
    (s.rf (NV_STUCK_LOC h i) NV_STUCK_LOC.PLANE % 32768) = false then t.rf (NV_STUCK_INFO h i) NV_STUCK_INFO.STATE = 0 ∧ onlyRegs
    [NV_STUCK_INFO h i] s t else onlyLogged [] s t)) ∧
  (∀ (s : State),
    s.stage ≠ .off → (∀ h : Half, s.wall h ≠ 0 ∧ s.wall h < 2 ^ 32 - 1) →
    ∃ t, exec .wallMinuteTick s = .next t ∧ onlyRegs [NV_WALL_MINUTES .west, NV_WALL_MINUTES .east, NV_REFRESH_CTRL .west, NV_REFRESH_CTRL
    .east] s t ∧ (∀ h : Half, t.wall h = s.wall h + 1)) ∧
  (∀ (s : State) (h : Half) (v : Nat),
    s.live = true → v < 2 ^ 32 → s.wall h ≤ v → v ≠ 0 →
    ∃ t, exec (.nvWallMinutesWrite h v) s = .next t ∧ t.wall h = v ∧ (∀ q < 32768, ∀ e, (s.planeRec h q).elapsed = some e → q ∈
    s.recPlanes h → (t.planeRec h q).minute = some ((v : Int) - e))) ∧
  (∀ (s : State) (h : Half) (v : Nat),
    s.live = true → v % 2 ^ 32 < s.wall h →
    ∃ t, exec (.nvWallMinutesWrite h v) s = .next t ∧ onlyLogged [] s t) ∧
  (∀ (s : State) (h : Half) (off len : Nat) (q im : Nat) (bs : List Byte),
    s.live = true → off < 0x100000 → len = 64 → off % 64 = 0 → (s.half h).nv.host.cont = some (q, im) → (s.half h).nv.sensed.find? (fun (e
    : Nat × List Byte) => e.1 == off / 1024) = some (off / 1024, bs) →
    ∃ t, exec (.contReadApertureRead h 0 off len) s = .next t ∧ t = s.readGive h 0 (apertureOff h off) (slice bs (off % 1024) len)) ∧
  (∀ (s : State) (h : Half) (off len : Nat) (q im : Nat),
    s.live = true → off < 0x100000 → len = 64 → off % 64 = 0 → (s.half h).nv.host.cont = some (q, im) → (s.half h).nv.sensed.find? (fun (e
    : Nat × List Byte) => e.1 == off / 1024) = none →
    ∃ t, exec (.contReadApertureRead h 0 off len) s = .next t ∧ (t.half h).nv.reads = (s.half h).nv.reads ++
    [({ func := 0, off := off, len := len } : ContRead)]) ∧
  (∀ (s : State) (h : Half) (q row im : Nat) (odd : List CellAt),
    s.live = true → q < 32768 → row < 1024 → s.maySense h q = true → (s.half h).nv.host.cont = some (q, im) → (s.half h).nv.sensed.length
    ≤ 4 →
    ∃ t, exec (.rowSenseDone h q row odd) s = .next t ∧ (row, imageRow im (s.pairs h q row) (okCells odd)) ∈ (t.half h).nv.sensed ∧
    (t.half h).nv.sensed.length ≤ 4 ∧ (t.half h).nv.reads = (s.half h).nv.reads.filter (fun (r : ContRead) => !(r.off / 1024 == row)) ∧
    t.rf (SEAM_STATUS h (q / 16)) SEAM_STATUS.STATE = 0)

/-- LDR_DOORBELL, LOAD, ERASE, LDR_ABORT and LDR_DESC_DONE (R168 to R170): the loader takes the descriptor at HEAD, checks it in order,
and programs or erases the planes that the mask names in the set's footprint; ABORT ends the load; the end writes the result fields and
advances HEAD. Next states are stated of: LDR_DOORBELL, LOAD, ERASE, LDR_ABORT, LDR_DESC_DONE. -/
def Obligations.LoaderRing : Prop :=
  (∀ (s : State) (h : Half) (n : Nat),
    s.live = true →
    ∃ t, exec (.ldrDoorbell h n) s = .next t ∧ t.rf (NV_LDR_TAIL h) NV_LDR_TAIL.TAIL = n % 1024 ∧ onlyRegs [NV_LDR_TAIL h] s t) ∧
  (∀ (s : State) (h : Half) (desc image : List Byte) (chk : Scan) (fault : Bool),
    s.live = true → s.ldrMayTake h = true → (s.ldrRead h desc).2 = 64 → ldOp (s.ldrDesc h desc) ≠ 2 → s.ldCheck h (s.ldrDesc h desc) ≠ 0 →
    ∃ t, exec (.load h desc image chk fault) s = .next t ∧ (t.half h).ldr.phase = LdrPhase.ended ∧ (t.half h).ldr.result = s.ldCheck h
    (s.ldrDesc h desc) ∧ t.rf (NV_LDR_HEAD h) NV_LDR_HEAD.BUSY = 1 ∧ (t.half h).nv = (s.half h).nv ∧ (t.half h).mem = (s.half h).mem ∧ (∀
    a, a ≠ NV_LDR_HEAD h → a ≠ CSW_RQ_STATE h (ldAddress (s.ldrDesc h desc)) → t.rd a = s.rd a)) ∧
  (∀ (s : State) (h : Half) (desc image hd : List Byte) (recs : List (List Byte)),
    s.live = true → s.ldrMayTake h = true → (s.ldrRead h desc).2 = 64 → ldOp (s.ldrDesc h desc) = 1 → ldSource (s.ldrDesc h desc) = 0 →
    s.ldCheck h (s.ldrDesc h desc) = 0 → s.on (JCT_WSET_CTRL h (ldWset (s.ldrDesc h desc))) JCT_WSET_CTRL.ROUTE = false → ldLength
    (s.ldrDesc h desc) ≤ image.length → packedImage (image.take (ldLength (s.ldrDesc h desc))) (ldLength (s.ldrDesc h desc)) (s.foot h
    (ldWset (s.ldrDesc h desc))).2 .all = .good hd recs (some (true, 0)) → recs.any (fun (r : List Byte) => bit (ldMask (s.ldrDesc h
    desc)) (fld r 0 3 0)) = true →
    ∃ t, exec (.load h desc image {} false) s = .next t ∧ (t.half h).ldr.phase = LdrPhase.program ∧ (t.half h).ldr.planes = s.ldAllPlanes
    h (ldWset (s.ldrDesc h desc)) (ldSlot (s.ldrDesc h desc)) (ldMask (s.ldrDesc h desc)) ∧ (t.half h).ldr.header = hd ∧ (t.half
    h).ldr.used = min 1024 (recs.filter (fun (r : List Byte) => bit (ldMask (s.ldrDesc h desc)) (fld r 0 3 0))).length ∧ (t.half
    h).ldr.enc = false ∧ (t.half h).nv.rows = (s.half h).nv.rows ∧ (t.half h).mem = (s.half h).mem) ∧
  (∀ (s : State) (h : Half) (desc : List Byte),
    s.live = true → s.ldrMayTake h = true → (s.ldrRead h desc).2 = 64 → ldOp (s.ldrDesc h desc) = 2 → s.ldCheck h (s.ldrDesc h desc) = 0 →
    s.ldAllPlanes h (ldWset (s.ldrDesc h desc)) (ldSlot (s.ldrDesc h desc)) (ldMask (s.ldrDesc h desc)) ≠ [] →
    ∃ t, exec (.eraseSet h desc false) s = .next t ∧ (t.half h).ldr.phase = LdrPhase.erase ∧ (t.half h).ldr.planes = s.ldAllPlanes h
    (ldWset (s.ldrDesc h desc)) (ldSlot (s.ldrDesc h desc)) (ldMask (s.ldrDesc h desc)) ∧ t.rf (NV_LDR_HEAD h) NV_LDR_HEAD.BUSY = 1 ∧ (∀
    a, a ≠ NV_LDR_HEAD h → t.rd a = s.rd a) ∧ (t.half h).nv = (s.half h).nv ∧ (t.half h).mem = (s.half h).mem) ∧
  (∀ (s : State) (h : Half),
    s.live = true → (s.half h).ldr.phase ≠ .idle → (s.half h).ldr.phase ≠ .ended →
    ∃ t, exec (.ldrAbort h) s = .next t ∧ t.rf (NV_LDR_RING_CTRL h) NV_LDR_RING_CTRL.EN = 0 ∧ t.rf (NV_LDR_RING_CTRL h)
    NV_LDR_RING_CTRL.ABORT = 1 ∧ (if (s.half h).ldr.asked = true then (t.half h).ldr.aborted = true else (t.half h).ldr.phase =
    LdrPhase.ended ∧ (t.half h).ldr.result = 0x2B) ∧ (∀ a, a ≠ NV_LDR_RING_CTRL h → a ≠ CSW_RQ_STATE h (ldAddress (s.half h).ldr.desc) →
    t.rd a = s.rd a) ∧ (t.half h).nv = (s.half h).nv) ∧
  (∀ (s : State) (h : Half),
    s.live = true → (s.half h).ldr.phase = .ended → (s.half h).ldr.told = none → s.ldrInT1 h = true →
    ∃ t, exec (.ldrDescDone h) s = .next t ∧ (t.half h).ldr = ({} : LoaderSt) ∧ t.ldrHead h = (s.ldrHead h + 1) % s.ldrRing h ∧ t.rf
    (NV_LDR_HEAD h) NV_LDR_HEAD.BUSY = 0 ∧ t.memBytes (Half.ofNum ((s.ldrAddr h + 0x28) / 0x08000000)) 1 ((s.ldrAddr h + 0x28) %
    0x08000000) 20 = leBytes 4 ((s.half h).ldr.result + 256 + (s.half h).ldr.nvResult * 2 ^ 16) ++ leBytes 4 (s.half h).ldr.rows ++
    leBytes 4 (s.half h).ldr.pairs ++ leBytes 4 (if (s.half h).ldr.result ≤ 1 then (s.half h).ldr.proved.length else 0) ++ leBytes 4
    (s.half h).ldr.failPlane ∧ (t.half h).nv = (s.half h).nv)

/-- CREATE, OPEN, ARM, DISCARD and DELETE (R158, R161 to R163, R177): an accepted command has its effect, CODE 0, and DONE only after its
commit; a refused one gives its code with DONE at once and changes nothing else. Next states are stated of: CREATE, OPEN, ARM, DISCARD,
DELETE. -/
def Obligations.WeightSetCommands : Prop :=
  (∀ (s : State) (h : Half) (n c : Nat),
    s.live = true → n < 512 → c < 256 → s.createCheck h n c = 0 →
    ∃ t, exec (.create h n c) s = .next t ∧ t.setValid h n = true ∧ t.setCtxNo h n = c ∧ t.slotState h n 0 = 0 ∧ t.slotState h n 1 = 0 ∧
    t.slotVersion h n 0 = 0 ∧ t.slotVersion h n 1 = 0 ∧ t.rf (JCT_WSET_RESULT h n) JCT_WSET_RESULT.OP = 1 ∧ t.rf (JCT_WSET_RESULT h n)
    JCT_WSET_RESULT.CODE = 0 ∧ t.rf (JCT_WSET_RESULT h n) JCT_WSET_RESULT.DONE = 0 ∧ (t.half h).mem = (s.half h).mem ∧ onlyRegs
    [JCT_WSET_CTRL h n, JCT_WSET_SLOT h (2 * n), JCT_WSET_SLOT h (2 * n + 1), MEM_CTX_T0 h c, JCT_WSET_RESULT h n] s (t.setHalf h (s.half
    h))) ∧
  (∀ (s : State) (h : Half) (n c : Nat),
    s.live = true → n < 512 → c < 256 → s.createCheck h n c ≠ 0 →
    ∃ t, exec (.create h n c) s = .next t ∧ t.rf (JCT_WSET_RESULT h n) JCT_WSET_RESULT.CODE = s.createCheck h n c ∧ t.rf (JCT_WSET_RESULT
    h n) JCT_WSET_RESULT.DONE = 1 ∧ onlyRegs [JCT_WSET_RESULT h n] s t) ∧
  (∀ (s : State) (h : Half) (n slot v : Nat),
    s.live = true → n < 512 → slot < 2 → v < 65536 → s.setValid h n = true → s.slotState h n slot = 0 → s.slotVersion h n 0 < v →
    s.slotVersion h n 1 < v →
    ∃ t, exec (.openSlot h n slot v) s = .next t ∧ t.slotState h n slot = 1 ∧ t.slotVersion h n slot = v ∧ t.slotMap h n slot = [] ∧ t.rf
    (JCT_WSET_RESULT h n) JCT_WSET_RESULT.CODE = 0 ∧ t.rf (JCT_WSET_RESULT h n) JCT_WSET_RESULT.DONE = 0 ∧ t.slotState h n (1 - slot) =
    s.slotState h n (1 - slot)) ∧
  (∀ (s : State) (h : Half) (n slot v : Nat),
    s.live = true → n < 512 → slot < 2 → v < 65536 → s.setValid h n = true → s.slotState h n slot = 0 → (v ≤ s.slotVersion h n 0 ∨ v ≤
    s.slotVersion h n 1) →
    ∃ t, exec (.openSlot h n slot v) s = .next t ∧ t.rf (JCT_WSET_RESULT h n) JCT_WSET_RESULT.CODE = 4 ∧ t.rf (JCT_WSET_RESULT h n)
    JCT_WSET_RESULT.DONE = 1 ∧ onlyRegs [JCT_WSET_RESULT h n] s t) ∧
  (∀ (s : State) (h : Half) (n slot : Nat),
    s.live = true → n < 512 → slot < 2 →
    ∃ t, exec (.arm h n slot) s = .next t ∧ t.rf (JCT_WSET_RESULT h n) JCT_WSET_RESULT.CODE = s.armCheck h n slot ∧ (if s.armCheck h n
    slot = 0 then t.slotState h n slot = 2 ∧ onlyRegs [JCT_WSET_SLOT h (2 * n + slot), JCT_WSET_RESULT h n] s (t.setHalf h (s.half h))
    else onlyRegs [JCT_WSET_RESULT h n] s t)) ∧
  (∀ (s : State) (h : Half) (n slot : Nat),
    s.live = true → n < 512 → slot < 2 → (s.foot h n).1 + (s.foot h n).2 ≤ 512 → s.setValid h n = true → (s.slotState h n slot = 1 ∨
    s.slotState h n slot = 2) → s.loadRuns h n slot = false → s.inFlight h n slot = 0 →
    ∃ t, exec (.discard h n slot) s = .next t ∧ t.slotState h n slot = 0 ∧ t.rf (JCT_WSET_RESULT h n) JCT_WSET_RESULT.CODE = 0 ∧
    t.slotState h n (1 - slot) = s.slotState h n (1 - slot) ∧ (∀ l < 16, ∀ p < 16, ∀ x < 2048, s.mapPlane h n slot l = some p →
    s.slotState h n (1 - slot) = 0 → x ∈ footSeams (s.foot h n) → t.planeEn h (16 * x + p) = false) ∧ (t.half h).nv.rows = (s.half
    h).nv.rows) ∧
  (∀ (s : State) (h : Half) (n : Nat),
    s.live = true → n < 512 → (s.foot h n).1 + (s.foot h n).2 ≤ 512 → s.setValid h n = true → (∀ t < 2, s.slotState h n t ≠ 1 ∧
    s.slotState h n t ≠ 4 ∧ s.inFlight h n t = 0) →
    ∃ t, exec (.delete h n) s = .next t ∧ t.setValid h n = false ∧ t.on (JCT_WSET_CTRL h n) JCT_WSET_CTRL.HAS_CURRENT = false ∧ t.rf
    (JCT_WSET_RESULT h n) JCT_WSET_RESULT.CODE = 0 ∧ t.slotState h n 0 = 0 ∧ t.slotState h n 1 = 0 ∧ (t.half h).nv.rows = (s.half
    h).nv.rows) ∧
  (∀ (s : State) (h : Half) (n : Nat),
    s.live = true → n < 512 → s.setValid h n = true → s.slotState h n 0 = 4 →
    ∃ t, exec (.delete h n) s = .next t ∧ t.rf (JCT_WSET_RESULT h n) JCT_WSET_RESULT.CODE = 1 ∧ t.rf (JCT_WSET_RESULT h n)
    JCT_WSET_RESULT.DONE = 1 ∧ onlyRegs [JCT_WSET_RESULT h n] s t)

/-- SWITCH, WSET_SWITCH_MSG_ARRIVE, WSET_RELEASE and WSET_COMMIT_DONE (R172 to R174, R176): a switch checks every entry before anything
changes, makes the slot CURRENT and the old CURRENT slot DRAINING, East's when the message arrives; a DRAINING slot without graphs is
released; a commit ends the commands that it covers. Next states are stated of: SWITCH, WSET_SWITCH_MSG_ARRIVE, WSET_RELEASE,
WSET_COMMIT_DONE. -/
def Obligations.WeightSetSwitches : Prop :=
  (∀ (s : State) (c : Nat),
    s.live = true → c < 256 → s.switchList.any (fun (e : Half × Nat × Nat) => s.switchCheck c e != 0) = true →
    ∃ t, exec (.switchSets c) s = .next t ∧ t.rf JCT_WSET_SWITCH JCT_WSET_SWITCH.CODE ≠ 0 ∧ onlyRegs [JCT_WSET_SWITCH] s t) ∧
  (∀ (s : State) (c n slot : Nat),
    s.live = true → c < 256 → s.switchList = [(.west, n, slot)] → s.switchCheck c (.west, n, slot) = 0 →
    ∃ t, exec (.switchSets c) s = .next t ∧ t.rf JCT_WSET_SWITCH JCT_WSET_SWITCH.CODE = 0 ∧ t.slotState .west n slot = 3 ∧ t.slotState
    .west n (1 - slot) = (if s.slotState .west n (1 - slot) = 3 then 4 else 0) ∧ t.rf (JCT_WSET_CTRL .west n) JCT_WSET_CTRL.CUR_SLOT =
    slot ∧ t.on (JCT_WSET_CTRL .west n) JCT_WSET_CTRL.HAS_CURRENT = true ∧ t.east = s.east ∧ t.west.mem = s.west.mem) ∧
  (∀ (s : State) (c n slot : Nat),
    s.live = true → c < 256 → s.switchList = [(.east, n, slot)] → s.switchCheck c (.east, n, slot) = 0 →
    ∃ t, exec (.switchSets c) s = .next t ∧ t.east.control = s.east.control ++ [PassMsg.switch [(n, slot)]] ∧ t.slotState .east n slot =
    s.slotState .east n slot ∧ t.west.mem = s.west.mem ∧ onlyRegs [JCT_WSET_SWITCH] s ((t.setHalf .east s.east).setHalf .west s.west)) ∧
  (∀ (s : State) (n slot : Nat) (q : List PassMsg),
    s.live = true → n < 512 → slot < 2 → s.east.control = .switch [(n, slot)] :: q → s.passOn = true →
    ∃ t, exec .wsetSwitchMsgArrive s = .next t ∧ t.slotState .east n slot = 3 ∧ t.east.control = q ∧ (s.slotState .east n (1 - slot) = 3 →
    t.slotState .east n (1 - slot) = 4) ∧ t.west = s.west) ∧
  (∀ (s : State) (h : Half) (n slot : Nat),
    s.live = true → n < 512 → slot < 2 → (s.foot h n).1 + (s.foot h n).2 ≤ 512 → s.slotState h n slot = 4 → s.inFlight h n slot = 0 →
    ∃ t, exec (.wsetRelease h n slot) s = .next t ∧ t.slotState h n slot = 0 ∧
    ({ set := n, slot := slot, foot := s.foot h n, planes := s.ownPlanes h n slot } : WsetRel) ∈ (t.half h).nv.releases ∧ (∀ x ∈ footSeams
    (s.foot h n), ∀ p ∈ s.ownPlanes h n slot, t.planeEn h (16 * x + p) = false) ∧ t.slotState h n (1 - slot) = s.slotState h n (1 - slot)
    ∧ (t.half h).nv.rows = (s.half h).nv.rows) ∧
  (∀ (s : State) (h : Half) (n : Nat),
    s.live = true → n < 512 → (s.half h).nv.wsetRun = [n] → (s.half h).nv.wsetDirty = [] → (s.half h).nv.wsetRelRun = [] → (s.half
    h).nv.wsetDoneRun = [n] →
    ∃ t, exec (.wsetCommitDone h) s = .next t ∧ t.rf (JCT_WSET_RESULT h n) JCT_WSET_RESULT.DONE = 1 ∧ (t.half h).nv.wsetRun = [] ∧ (t.half
    h).nv.wsetSnap = [] ∧ onlyRegs [JCT_WSET_RESULT h n] s (t.setHalf h (s.half h))) ∧
  (∀ (s : State) (h : Half) (n : Nat) (r : WsetRel),
    s.live = true → n < 512 → r.set = n → r.slot < 2 → r.foot.1 + r.foot.2 ≤ 512 → (s.half h).nv.wsetRun = [n] → (s.half h).nv.wsetDirty =
    [] → (s.half h).nv.wsetRelRun = [r] →
    ∃ t, exec (.wsetCommitDone h) s = .next t ∧ bit (t.rf (JCT_WSET_RESULT h n) JCT_WSET_RESULT.RELEASED) r.slot = true ∧ (t.half
    h).nv.wsetRelRun = [])

/-- NOP, ROWMASK, SPLIT, ACC, SCALE, EMIT and SIGNAL (R306, R307, R309 to R313, R316): the instruction changes its own staged setting, its
sequencer goes on to the next word and counts it, and nothing else of the half changes. Next states are stated of: NOP, ROWMASK_SET,
ROWMASK_OPEN, ROWMASK_CLOSE, ROWMASK_ALL, SPLIT, ACC, SCALE, EMIT, SIGNAL. -/
def Obligations.SequencerSettings : Prop :=
  (∀ (s : State) (h : Half) (g : Nat),
    s.live = true → s.seqInstr h g = some (.nop) → (s.gal h g).seq.npc < 1023 →
    ∃ t, exec (.nop h g) s = .next t ∧ t.gal h g =
    ({ s.gal h g with seq := { (s.gal h g).seq with npc := (s.gal h g).seq.npc + 1, wait := .none } } : Gal) ∧ onlyRegs [GAL_SEQ_INSTR h
    g, GAL_SEQ_STATUS h g] s (t.setHalf h (s.half h)) ∧ t.half h = ({ s.half h with gals := (t.half h).gals } : HalfState) ∧ (∀ x < 32, x
    ≠ g → t.gal h x = s.gal h x)) ∧
  (∀ (s : State) (h : Half) (g : Nat) (f l : Nat),
    s.live = true → s.seqInstr h g = some (.rowmask 0 f l) → (s.gal h g).seq.npc < 1023 →
    ∃ t, exec (.rowmaskSet h g) s = .next t ∧ t.gal h g =
    ({ s.gal h g with seq := { (s.gal h g).seq with mask := rowmask 0 (s.cnt h g f) (s.cnt h g l) (s.gal h g).seq.mask, npc := (s.gal h g).seq.npc + 1, wait := .none } }
    : Gal) ∧ onlyRegs [GAL_SEQ_INSTR h g, GAL_SEQ_STATUS h g] s (t.setHalf h (s.half h)) ∧ t.half h =
    ({ s.half h with gals := (t.half h).gals } : HalfState) ∧ (∀ x < 32, x ≠ g → t.gal h x = s.gal h x)) ∧
  (∀ (s : State) (h : Half) (g : Nat) (f l : Nat),
    s.live = true → s.seqInstr h g = some (.rowmask 1 f l) → (s.gal h g).seq.npc < 1023 →
    ∃ t, exec (.rowmaskOpen h g) s = .next t ∧ t.gal h g =
    ({ s.gal h g with seq := { (s.gal h g).seq with mask := rowmask 1 (s.cnt h g f) (s.cnt h g l) (s.gal h g).seq.mask, npc := (s.gal h g).seq.npc + 1, wait := .none } }
    : Gal) ∧ onlyRegs [GAL_SEQ_INSTR h g, GAL_SEQ_STATUS h g] s (t.setHalf h (s.half h)) ∧ t.half h =
    ({ s.half h with gals := (t.half h).gals } : HalfState) ∧ (∀ x < 32, x ≠ g → t.gal h x = s.gal h x)) ∧
  (∀ (s : State) (h : Half) (g : Nat) (f l : Nat),
    s.live = true → s.seqInstr h g = some (.rowmask 2 f l) → (s.gal h g).seq.npc < 1023 →
    ∃ t, exec (.rowmaskClose h g) s = .next t ∧ t.gal h g =
    ({ s.gal h g with seq := { (s.gal h g).seq with mask := rowmask 2 (s.cnt h g f) (s.cnt h g l) (s.gal h g).seq.mask, npc := (s.gal h g).seq.npc + 1, wait := .none } }
    : Gal) ∧ onlyRegs [GAL_SEQ_INSTR h g, GAL_SEQ_STATUS h g] s (t.setHalf h (s.half h)) ∧ t.half h =
    ({ s.half h with gals := (t.half h).gals } : HalfState) ∧ (∀ x < 32, x ≠ g → t.gal h x = s.gal h x)) ∧
  (∀ (s : State) (h : Half) (g : Nat) (f l : Nat),
    s.live = true → s.seqInstr h g = some (.rowmask 3 f l) → (s.gal h g).seq.npc < 1023 →
    ∃ t, exec (.rowmaskAll h g) s = .next t ∧ t.gal h g =
    ({ s.gal h g with seq := { (s.gal h g).seq with mask := [(0, 65536)], npc := (s.gal h g).seq.npc + 1, wait := .none } } : Gal) ∧
    onlyRegs [GAL_SEQ_INSTR h g, GAL_SEQ_STATUS h g] s (t.setHalf h (s.half h)) ∧ t.half h = ({ s.half h with gals := (t.half h).gals } :
    HalfState) ∧ (∀ x < 32, x ≠ g → t.gal h x = s.gal h x)) ∧
  (∀ (m : List (Nat × Nat)) (a b i : Nat),
    a ≤ b → b < 65536 →
    (maskHas (rowmask 0 a b m) i = (decide (a ≤ i) && decide (i ≤ b))) ∧ (maskHas (rowmask 1 a b m) i = (maskHas m i || (decide (a ≤ i) &&
    decide (i ≤ b)))) ∧ (maskHas (rowmask 2 a b m) i = (maskHas m i && !(decide (a ≤ i) && decide (i ≤ b))))) ∧
  (∀ (s : State) (h : Half) (g : Nat) (k : Nat),
    s.live = true → s.seqInstr h g = some (.split k) → (s.gal h g).seq.npc < 1023 →
    ∃ t, exec (.split h g) s = .next t ∧ t.gal h g =
    ({ s.gal h g with seq := { (s.gal h g).seq with rpp := k, npc := (s.gal h g).seq.npc + 1, wait := .none } } : Gal) ∧ onlyRegs
    [GAL_SEQ_INSTR h g, GAL_SEQ_STATUS h g] s (t.setHalf h (s.half h)) ∧ t.half h = ({ s.half h with gals := (t.half h).gals } :
    HalfState) ∧ (∀ x < 32, x ≠ g → t.gal h x = s.gal h x)) ∧
  (∀ (s : State) (h : Half) (g : Nat) (a : Bool),
    s.live = true → s.seqInstr h g = some (.acc a) → (s.gal h g).seq.npc < 1023 →
    ∃ t, exec (.acc h g) s = .next t ∧ t.gal h g =
    ({ s.gal h g with seq := { (s.gal h g).seq with add := a, npc := (s.gal h g).seq.npc + 1, wait := .none } } : Gal) ∧ onlyRegs
    [GAL_SEQ_INSTR h g, GAL_SEQ_STATUS h g] s (t.setHalf h (s.half h)) ∧ t.half h = ({ s.half h with gals := (t.half h).gals } :
    HalfState) ∧ (∀ x < 32, x ≠ g → t.gal h x = s.gal h x)) ∧
  (∀ (s : State) (h : Half) (g : Nat) (u : Bool) (r : Option Nat),
    s.live = true → s.seqInstr h g = some (.scale u r) → (s.gal h g).seq.npc < 1023 →
    ∃ t, exec (.scale h g) s = .next t ∧ t.gal h g =
    ({ s.gal h g with seq := { (s.gal h g).seq with uniform := u, scaleReg := r, npc := (s.gal h g).seq.npc + 1, wait := .none } } : Gal)
    ∧ onlyRegs [GAL_SEQ_INSTR h g, GAL_SEQ_STATUS h g] s (t.setHalf h (s.half h)) ∧ t.half h = ({ s.half h with gals := (t.half h).gals }
    : HalfState) ∧ (∀ x < 32, x ≠ g → t.gal h x = s.gal h x)) ∧
  (∀ (s : State) (h : Half) (g : Nat) (e : Bool) (r : Option Nat),
    s.live = true → s.seqInstr h g = some (.emit e r) → (s.gal h g).seq.npc < 1023 →
    ∃ t, exec (.emit h g) s = .next t ∧ t.gal h g =
    ({ s.gal h g with seq := { (s.gal h g).seq with emit := e, emitReg := r, npc := (s.gal h g).seq.npc + 1, wait := .none } } : Gal) ∧
    onlyRegs [GAL_SEQ_INSTR h g, GAL_SEQ_STATUS h g] s (t.setHalf h (s.half h)) ∧ t.half h = ({ s.half h with gals := (t.half h).gals } :
    HalfState) ∧ (∀ x < 32, x ≠ g → t.gal h x = s.gal h x)) ∧
  (∀ (s : State) (h : Half) (g : Nat) (e : Nat),
    s.live = true → s.seqInstr h g = some (.signal e) → (s.gal h g).seq.npc < 1023 →
    ∃ t, exec (.signal h g) s = .next t ∧ t.gal h g =
    ({ s.gal h g with seq := { (s.gal h g).seq with signals := addAt (s.gal h g).seq.signals e 1, npc := (s.gal h g).seq.npc + 1, wait := .none } }
    : Gal) ∧ onlyRegs [GAL_SEQ_INSTR h g, GAL_SEQ_STATUS h g] s (t.setHalf h (s.half h)) ∧ t.half h =
    ({ s.half h with gals := (t.half h).gals } : HalfState) ∧ (∀ x < 32, x ≠ g → t.gal h x = s.gal h x))

/-- LOOP, BR, SETI, ADD, CHECK, WAIT and END (R314 to R317): counters and branches, the flags that CHECK sets, what a WAIT needs, and the
end of the Gallery's part of its node; an instruction whose condition does not hold stalls. Next states are stated of: LOOP, BR, SETI,
ADD, CHECK, WAIT_LANDED, WAIT_IDLE, WAIT_BARRIER, END. -/
def Obligations.SequencerControl : Prop :=
  (∀ (s : State) (h : Half) (g : Nat) (r t0 : Nat),
    s.live = true → s.seqInstr h g = some (.loop r t0) → (s.gal h g).seq.npc < 1023 → r < 8 → s.cnt h g r ≤ 1 →
    ∃ t, exec (.loop h g) s = .next t ∧ t.gal h g =
    ({ s.gal h g with seq := { (s.gal h g).seq with npc := (s.gal h g).seq.npc + 1, wait := .none } } : Gal) ∧ onlyRegs [GAL_SEQ_INSTR h
    g, GAL_SEQ_STATUS h g, GAL_SEQ_CNT h (8 * g + r)] s (t.setHalf h (s.half h)) ∧ t.half h = ({ s.half h with gals := (t.half h).gals } :
    HalfState) ∧ (∀ x < 32, x ≠ g → t.gal h x = s.gal h x) ∧ t.cnt h g r = 0) ∧
  (∀ (s : State) (h : Half) (g : Nat) (r t0 : Nat),
    s.live = true → s.seqInstr h g = some (.loop r t0) → (s.gal h g).seq.npc < 1023 → r < 8 → t0 < 1024 → 2 ≤ s.cnt h g r →
    ∃ t, exec (.loop h g) s = .next t ∧ t.gal h g = ({ s.gal h g with seq := { (s.gal h g).seq with npc := t0, wait := .none } } : Gal) ∧
    onlyRegs [GAL_SEQ_INSTR h g, GAL_SEQ_STATUS h g, GAL_SEQ_CNT h (8 * g + r)] s (t.setHalf h (s.half h)) ∧ t.half h =
    ({ s.half h with gals := (t.half h).gals } : HalfState) ∧ (∀ x < 32, x ≠ g → t.gal h x = s.gal h x) ∧ t.cnt h g r = s.cnt h g r - 1) ∧
  (∀ (s : State) (h : Half) (g : Nat) (c r t0 : Nat),
    s.live = true → s.seqInstr h g = some (.br c r t0) → (s.gal h g).seq.npc < 1023 → t0 < 1024 →
    ∃ t, exec (.br h g) s = .next t ∧ t.gal h g =
    ({ s.gal h g with seq := { (s.gal h g).seq with npc := (if s.brHolds h g c r then t0 else (s.gal h g).seq.npc + 1), wait := .none } }
    : Gal) ∧ onlyRegs [GAL_SEQ_INSTR h g, GAL_SEQ_STATUS h g] s (t.setHalf h (s.half h)) ∧ t.half h =
    ({ s.half h with gals := (t.half h).gals } : HalfState) ∧ (∀ x < 32, x ≠ g → t.gal h x = s.gal h x)) ∧
  (∀ (s : State) (h : Half) (g : Nat) (d v : Nat),
    s.live = true → s.seqInstr h g = some (.seti d v) → (s.gal h g).seq.npc < 1023 → d < 8 → v < 2 ^ 24 →
    ∃ t, exec (.seti h g) s = .next t ∧ t.gal h g =
    ({ s.gal h g with seq := { (s.gal h g).seq with npc := (s.gal h g).seq.npc + 1, wait := .none } } : Gal) ∧ onlyRegs [GAL_SEQ_INSTR h
    g, GAL_SEQ_STATUS h g, GAL_SEQ_CNT h (8 * g + d)] s (t.setHalf h (s.half h)) ∧ t.half h = ({ s.half h with gals := (t.half h).gals } :
    HalfState) ∧ (∀ x < 32, x ≠ g → t.gal h x = s.gal h x) ∧ t.cnt h g d = v) ∧
  (∀ (s : State) (h : Half) (g : Nat) (d imm : Nat),
    s.live = true → s.seqInstr h g = some (.add d none imm) → (s.gal h g).seq.npc < 1023 → d < 8 → imm < 2 ^ 20 →
    ∃ t, exec (.add h g) s = .next t ∧ t.gal h g =
    ({ s.gal h g with seq := { (s.gal h g).seq with npc := (s.gal h g).seq.npc + 1, wait := .none } } : Gal) ∧ onlyRegs [GAL_SEQ_INSTR h
    g, GAL_SEQ_STATUS h g, GAL_SEQ_CNT h (8 * g + d)] s (t.setHalf h (s.half h)) ∧ t.half h = ({ s.half h with gals := (t.half h).gals } :
    HalfState) ∧ (∀ x < 32, x ≠ g → t.gal h x = s.gal h x) ∧ t.cnt h g d = (s.cnt h g d + unsigned 32 (signed 20 imm)) % 2 ^ 32) ∧
  (∀ (s : State) (h : Half) (g : Nat) (d r imm : Nat),
    s.live = true → s.seqInstr h g = some (.add d (some r) imm) → (s.gal h g).seq.npc < 1023 → d < 8 → r < 8 →
    ∃ t, exec (.add h g) s = .next t ∧ t.gal h g =
    ({ s.gal h g with seq := { (s.gal h g).seq with npc := (s.gal h g).seq.npc + 1, wait := .none } } : Gal) ∧ onlyRegs [GAL_SEQ_INSTR h
    g, GAL_SEQ_STATUS h g, GAL_SEQ_CNT h (8 * g + d)] s (t.setHalf h (s.half h)) ∧ t.half h = ({ s.half h with gals := (t.half h).gals } :
    HalfState) ∧ (∀ x < 32, x ≠ g → t.gal h x = s.gal h x) ∧ t.cnt h g d = (s.cnt h g d + s.cnt h g r) % 2 ^ 32) ∧
  (∀ (s : State) (h : Half) (g : Nat),
    s.live = true → s.seqInstr h g = some (.check) → (s.gal h g).seq.npc < 1023 → (s.gal h g).tested = true →
    ∃ t, exec (.check h g) s = .next t ∧ t.gal h g =
    ({ s.gal h g with seq := { (s.gal h g).seq with missed := false, clipped := false, npc := (s.gal h g).seq.npc + 1, wait := .none } } :
    Gal) ∧ onlyRegs [GAL_SEQ_INSTR h g, GAL_SEQ_STATUS h g] s (t.setHalf h (s.half h)) ∧ t.half h =
    ({ s.half h with gals := (t.half h).gals } : HalfState) ∧ (∀ x < 32, x ≠ g → t.gal h x = s.gal h x) ∧ t.on (GAL_SEQ_STATUS h g)
    GAL_SEQ_STATUS.MISS = (s.gal h g).seq.missed ∧ t.on (GAL_SEQ_STATUS h g) GAL_SEQ_STATUS.CLIP = (s.gal h g).seq.clipped) ∧
  (∀ (s : State) (h : Half) (g : Nat),
    s.live = true → s.seqInstr h g = some (.check) → (s.gal h g).seq.npc < 1023 → (s.gal h g).tested = false →
    ∃ t, exec (.check h g) s = .next t ∧ t.gal h g = ({ s.gal h g with seq := { (s.gal h g).seq with wait := .check } } : Gal) ∧ t.rf
    (GAL_SEQ_STATUS h g) GAL_SEQ_STATUS.STATE = 4 ∧ onlyRegs [GAL_SEQ_STATUS h g] s (t.setHalf h (s.half h))) ∧
  (∀ (s : State) (h : Half) (g : Nat) (e : Nat),
    s.live = true → s.seqInstr h g = some (.wait 1 e) → (s.gal h g).seq.npc < 1023 → (s.gal h g).waves = [] →
    ∃ t, exec (.waitLanded h g) s = .next t ∧ t.gal h g =
    ({ s.gal h g with seq := { (s.gal h g).seq with npc := (s.gal h g).seq.npc + 1, wait := .none } } : Gal) ∧ onlyRegs [GAL_SEQ_INSTR h
    g, GAL_SEQ_STATUS h g] s (t.setHalf h (s.half h)) ∧ t.half h = ({ s.half h with gals := (t.half h).gals } : HalfState) ∧ (∀ x < 32, x
    ≠ g → t.gal h x = s.gal h x)) ∧
  (∀ (s : State) (h : Half) (g : Nat) (e : Nat),
    s.live = true → s.seqInstr h g = some (.wait 1 e) → (s.gal h g).seq.npc < 1023 → (s.gal h g).waves ≠ [] →
    ∃ t, exec (.waitLanded h g) s = .next t ∧ (t.gal h g).seq.npc = (s.gal h g).seq.npc ∧ (t.gal h g).seq.wait = SeqWait.landed ∧ (t.gal h
    g).waves = (s.gal h g).waves ∧ t.rf (GAL_SEQ_STATUS h g) GAL_SEQ_STATUS.STATE = 3) ∧
  (∀ (s : State) (h : Half) (g : Nat) (e : Nat),
    s.live = true → s.seqInstr h g = some (.wait 2 e) → (s.gal h g).seq.npc < 1023 → (s.gal h g).idle = true →
    ∃ t, exec (.waitIdle h g) s = .next t ∧ t.gal h g =
    ({ s.gal h g with seq := { (s.gal h g).seq with npc := (s.gal h g).seq.npc + 1, wait := .none } } : Gal) ∧ onlyRegs [GAL_SEQ_INSTR h
    g, GAL_SEQ_STATUS h g] s (t.setHalf h (s.half h)) ∧ t.half h = ({ s.half h with gals := (t.half h).gals } : HalfState) ∧ (∀ x < 32, x
    ≠ g → t.gal h x = s.gal h x)) ∧
  (∀ (s : State) (h : Half) (g : Nat) (e : Nat),
    s.live = true → s.seqInstr h g = some (.wait 0 e) → (s.gal h g).seq.npc < 1023 →
    ∃ t, exec (.waitBarrier h g) s = .next t ∧ (t.gal h g).seq.waits = addAt (s.gal h g).seq.waits e 1 ∧ (t.gal h g).seq.npc = (s.gal h
    g).seq.npc + b2n (t.barrierHolds h g e) ∧ ((t.gal h g).seq.wait = SeqWait.none ↔ t.barrierHolds h g e = true) ∧ (t.gal h g).waves =
    (s.gal h g).waves) ∧
  (∀ (s : State) (h : Half) (g : Nat) (n : Node) (gr : Graph) (r : NodeRef),
    s.live = true → s.seqInstr h g = some .fin → (s.gal h g).waves = [] → (s.gal h g).node = some r → s.node r = some (gr, n) → n.half = h
    →
    ∃ t, exec (.endProgram h g) s = .next t ∧ t.seqRunning h g = false ∧ t.rf (GAL_SEQ_STATUS h g) GAL_SEQ_STATUS.STATE = 0 ∧ (t.node
    r).map (fun (x : Graph × Node) => x.2.galsEnded) = some (n.galsEnded ++ [g]) ∧ onlyRegs [GAL_SEQ_INSTR h g, GAL_SEQ_STATUS h g] s
    ({ t.setHalf h (s.half h) with graphs := s.graphs } : State))

/-- WAVE, SEQUENCER_STALL_END, PROGRAM_START, ILLEGAL_INSTRUCTION, SEQ_WATCHDOG and GAL_PROG_WRITE (R303 to R308, R318, R319): a WAVE
copies the staged settings into a new wave that fills a free latch, or stalls; a stall ends when its condition holds; a fault stops the
node's Galleries. Next states are stated of: WAVE, SEQUENCER_STALL_END, PROGRAM_START, ILLEGAL_INSTRUCTION, SEQ_WATCHDOG, GAL_PROG_WRITE.
-/
def Obligations.SequencerWavesAndFaults : Prop :=
  (∀ (s : State) (h : Half) (g : Nat) (n : Node) (gr : Graph) (r : NodeRef) (lp im gn gm fmt ir l : Nat) (vinc iuse : Bool),
    s.live = true → s.seqInstr h g = some (.wave lp im gn gm fmt vinc iuse ir) → (s.gal h g).node = some r → s.node r = some (gr, n) →
    (s.gal h g).freeLatch = some l → (s.gal h g).seq.npc < 1023 →
    ∃ t, exec (.wave h g) s = .next t ∧ (t.gal h g).waves.dropLast = (s.gal h g).waves ∧ (t.gal h g).waves.getLast?.map (fun (w : Wave) =>
    (w.node, w.lplane, w.inmode, w.gain, w.group, w.outfmt)) = some (r, lp, im, gn, gm, fmt) ∧ (t.gal h g).waves.getLast?.map (fun (w :
    Wave) => (w.ord, w.rpp, w.mask, w.acc)) = some ((s.gal h g).seq.issued, (s.gal h g).seq.rpp, (s.gal h g).seq.mask, (s.gal h
    g).seq.add) ∧ (t.gal h g).waves.getLast?.map (fun (w : Wave) => (w.uniform, w.emit, w.latch)) = some ((s.gal h g).seq.uniform, (s.gal
    h g).seq.emit, l) ∧ (t.gal h g).waves.getLast?.map (fun (w : Wave) => w.phase) = some WavePhase.filling ∧ (t.gal h g).seq.npc = (s.gal
    h g).seq.npc + 1 ∧ (t.gal h g).seq.issued = (s.gal h g).seq.issued + 1 ∧ t.cnt h g 0 = (s.cnt h g 0 + b2n vinc) % 2 ^ 32) ∧
  (∀ (s : State) (h : Half) (g : Nat) (n : Node) (gr : Graph) (r : NodeRef) (lp im gn gm fmt ir l : Nat) (vinc iuse : Bool),
    s.live = true → s.seqStalled h g = some (.wave lp im gn gm fmt vinc iuse ir) → (s.gal h g).node = some r → s.node r = some (gr, n) →
    (s.gal h g).freeLatch = some l → (s.gal h g).seq.npc < 1023 →
    ∃ t, exec (.sequencerStallEnd h g) s = .next t ∧ (t.gal h g).waves.dropLast = (s.gal h g).waves ∧ (t.gal h g).waves.getLast?.map (fun
    (w : Wave) => (w.node, w.lplane, w.inmode, w.gain, w.group, w.outfmt)) = some (r, lp, im, gn, gm, fmt) ∧ (t.gal h
    g).waves.getLast?.map (fun (w : Wave) => (w.ord, w.rpp, w.mask, w.acc)) = some ((s.gal h g).seq.issued, (s.gal h g).seq.rpp, (s.gal h
    g).seq.mask, (s.gal h g).seq.add) ∧ (t.gal h g).waves.getLast?.map (fun (w : Wave) => (w.uniform, w.emit, w.latch)) = some ((s.gal h
    g).seq.uniform, (s.gal h g).seq.emit, l) ∧ (t.gal h g).waves.getLast?.map (fun (w : Wave) => w.phase) = some WavePhase.filling ∧
    (t.gal h g).seq.npc = (s.gal h g).seq.npc + 1 ∧ (t.gal h g).seq.issued = (s.gal h g).seq.issued + 1 ∧ t.cnt h g 0 = (s.cnt h g 0 + b2n
    vinc) % 2 ^ 32) ∧
  (∀ (s : State) (h : Half) (g : Nat) (lp im gn gm fmt ir : Nat) (vinc iuse : Bool),
    s.live = true → s.seqInstr h g = some (.wave lp im gn gm fmt vinc iuse ir) → (s.gal h g).freeLatch = none →
    ∃ t, exec (.wave h g) s = .next t ∧ t.gal h g = ({ s.gal h g with seq := { (s.gal h g).seq with wait := .latch } } : Gal) ∧ t.rf
    (GAL_SEQ_STATUS h g) GAL_SEQ_STATUS.STATE = 2 ∧ onlyRegs [GAL_SEQ_STATUS h g] s (t.setHalf h (s.half h))) ∧
  (∀ (s : State) (h : Half) (g : Nat) (e : Nat),
    s.live = true → s.seqStalled h g = some (.wait 1 e) → (s.gal h g).waves = [] → (s.gal h g).seq.npc < 1023 →
    ∃ t, exec (.sequencerStallEnd h g) s = .next t ∧ t.gal h g =
    ({ s.gal h g with seq := { (s.gal h g).seq with npc := (s.gal h g).seq.npc + 1, wait := .none } } : Gal) ∧ onlyRegs [GAL_SEQ_INSTR h
    g, GAL_SEQ_STATUS h g] s (t.setHalf h (s.half h)) ∧ t.half h = ({ s.half h with gals := (t.half h).gals } : HalfState) ∧ (∀ x < 32, x
    ≠ g → t.gal h x = s.gal h x)) ∧
  (∀ (s : State) (h : Half) (g : Nat) (n : Node) (gr : Graph) (r : NodeRef),
    s.live = true → g < 32 → (s.gal h g).node = some r → s.node r = some (gr, n) → n.phase = .running → n.kind = 1 → (s.gal h g).started =
    false →
    ∃ t, exec (.programStart h g) s = .next t ∧ t.seqRunning h g = true ∧ (t.gal h g).seq = ({ npc := n.progEntry, dogUs := s.us h } :
    SeqSt) ∧ (t.gal h g).started = true ∧ (t.gal h g).node = some r ∧ t.cnt h g 1 = n.vectors ∧ t.cnt h g 2 = n.param ∧ (∀ i < 8, i ≠ 1 →
    i ≠ 2 → t.cnt h g i = 0) ∧ (t.gal h g).waves = (s.gal h g).waves ∧ t.graphs = s.graphs) ∧
  (∀ (s : State) (h : Half) (g : Nat) (n : Node) (gr : Graph) (r : NodeRef) (pc w c : Nat),
    s.live = true → s.seqFetch h g = some (r, pc, w, .error c) → s.node r = some (gr, n) → n.galFirst + n.galCount ≤ 32 → g ∈ n.gals →
    n.half = h → pc < 1024 →
    ∃ t, exec (.illegalInstruction h g) s = .next t ∧ t.rf (GAL_SEQ_FAULT h g) GAL_SEQ_FAULT.PC = pc ∧ t.rf (GAL_SEQ_FAULT h g)
    GAL_SEQ_FAULT.CAUSE = c ∧ t.rf (GAL_SEQ_FAULT_WORD h g) GAL_SEQ_FAULT_WORD.WORD = w ∧ t.rf (GAL_SEQ_EVENT h g) GAL_SEQ_EVENT.ILLEGAL =
    1 ∧ t.seqRunning h g = false ∧ (t.node r).map (fun (x : Graph × Node) => x.2.stopped) = some true ∧ (t.half h).mem = (s.half h).mem) ∧
  (∀ (s : State) (h : Half) (g : Nat) (n : Node) (gr : Graph) (r : NodeRef),
    s.live = true → g < 32 → (s.gal h g).node = some r → s.seqRunning h g = true → s.dogExpired h g = true → s.node r = some (gr, n) →
    n.galFirst + n.galCount ≤ 32 → g ∈ n.gals → n.half = h →
    ∃ t, exec (.seqWatchdog h g) s = .next t ∧ t.rf (GAL_SEQ_FAULT h g) GAL_SEQ_FAULT.CAUSE = 5 ∧ t.rf (GAL_SEQ_EVENT h g)
    GAL_SEQ_EVENT.WDOG = 1 ∧ t.seqRunning h g = false ∧ (t.node r).map (fun (x : Graph × Node) => x.2.stopped) = some true ∧ (t.half
    h).mem = (s.half h).mem) ∧
  (∀ (s : State) (h : Half) (i v : Nat),
    s.live = true → i < 32768 → s.seqRunning h (i / 1024) = false →
    ∃ t, exec (.galProgWrite h i v) s = .next t ∧ t.rf (GAL_PROG h i) GAL_PROG.WORD = v % 2 ^ 32 ∧ onlyRegs [GAL_PROG h i] s t) ∧
  (∀ (s : State) (h : Half) (i v : Nat),
    s.live = true → i < 32768 → s.seqRunning h (i / 1024) = true →
    ∃ t, exec (.galProgWrite h i v) s = .next t ∧ t.rf (GAL_SEQ_EVENT h (i / 1024)) GAL_SEQ_EVENT.STORE_REFUSED = 1 ∧ onlyLogged
    [GAL_SEQ_EVENT h (i / 1024)] s t)

/-- Table 11.2 (R305): the store word of every well-formed instruction decodes to it, and a word that decodes is the word of its
instruction: no bit is dropped and no two words mean the same. -/
def Obligations.SequencerWordsRoundTrip : Prop :=
  (∀ (i : SeqInstr),
    i.wf = true →
    seqDecode (seqEncode i) = .ok i) ∧
  (∀ (w : Nat) (i : SeqInstr),
    w < 2 ^ 32 → seqDecode w = .ok i →
    i.wf = true ∧ seqEncode i = w)

/-- INPUT_BLOCK_DELIVERED, WAVE_START and PLANE_SELECT_DONE (R55 to R57, R61, R74, R160): inputs fill the wave's latch; the wave selects
its plane where a Seam does not hold it READY, and then runs; a logical plane that is not mapped, or a disabled plane, refuses it. Which
first wave a correction set is checked against is the model's choice (log entry 50). Next states are stated of: INPUT_BLOCK_DELIVERED,
WAVE_START, PLANE_SELECT_DONE. -/
def Obligations.WaveStarts : Prop :=
  (∀ (s : State) (h : Half) (g i : Nat) (w : Wave) (o : Obj) (chk : Scan),
    s.live = true → g < 32 → s.waveIn h g [.filling] = some (i, w) → s.bindObj w.node 0 = some o → w.begun = true →
    ∃ t, exec (.inputBlockDelivered h g chk) s = .next t ∧ (t.gal h g).waves.map (fun (w : Wave) => w.phase) = ((s.gal h g).waves.map (fun
    (w : Wave) => w.phase)).set i WavePhase.latched ∧ (∀ c < 16, ∀ k < 4, c ∈ s.waveChms w → t.rf (SEAM_STATUS h (seamOf g c k)) (latchFld
    w.latch) = 1) ∧ (t.gal h g).waves.map (fun (w : Wave) => w.blocks.length) = ((s.gal h g).waves.map (fun (w : Wave) =>
    w.blocks.length)).set i (4 * w.g) ∧ (t.half h).nv = (s.half h).nv) ∧
  (∀ (s : State) (h : Half) (g i : Nat) (w : Wave) (p c k : Nat),
    s.live = true → g < 32 → s.waveIn h g [.latched] = some (i, w) → s.mayStart h g w = true → s.nodeAborted w.node = false → (s.pinOf
    w.node).bind (fun (p : Nat × Nat) => s.mapPlane h p.1 p.2 w.lplane) = some p → c < 16 → k < 4 → c ∈ s.waveChms w → (s.rf (SEAM_STATUS
    h (seamOf g c k)) SEAM_STATUS.STATE ≠ 2 ∨ s.rf (SEAM_STATUS h (seamOf g c k)) SEAM_STATUS.PLANE ≠ p) →
    ∃ t, exec (.waveStart h g) s = .next t ∧ (t.gal h g).waves = (s.gal h g).waves.set i ({ w with plane := p, phase := .selecting } :
    Wave) ∧ t.rf (SEAM_STATUS h (seamOf g c k)) SEAM_STATUS.STATE = 1 ∧ t.rf (SEAM_STATUS h (seamOf g c k)) SEAM_STATUS.PLANE = p ∧
    (t.half h).nv = (s.half h).nv ∧ (t.half h).mem = (s.half h).mem) ∧
  (∀ (s : State) (h : Half) (g i : Nat) (w : Wave) (p : Nat) (w7 : Bool),
    s.live = true → g < 32 → s.waveIn h g [.latched] = some (i, w) → s.mayStart h g w = true → s.nodeAborted w.node = false → (s.pinOf
    w.node).bind (fun (p : Nat × Nat) => s.mapPlane h p.1 p.2 w.lplane) = some p → (∀ c < 16, c ∈ s.waveChms w → ∀ k < 4, s.rf
    (SEAM_STATUS h (seamOf g c k)) SEAM_STATUS.STATE = 2 ∧ s.rf (SEAM_STATUS h (seamOf g c k)) SEAM_STATUS.PLANE = p) → (∀ c < 16, c ∈
    s.waveChms w → ∀ k < 4, s.planeEn h (16 * seamOf g c k + p) = true ∧ s.debugHides h (16 * seamOf g c k + p) = false ∧ s.planeW7 h (16
    * seamOf g c k + p) = w7) →
    ∃ t, exec (.waveStart h g) s = .next t ∧ (t.gal h g).waves.map (fun (w : Wave) => w.phase) = ((s.gal h g).waves.map (fun (w : Wave) =>
    w.phase)).set i WavePhase.slices ∧ (t.gal h g).waves.map (fun (w : Wave) => w.chms.map Prod.fst) = ((s.gal h g).waves.map (fun (w :
    Wave) => w.chms.map Prod.fst)).set i (s.waveChms w) ∧ (∀ c < 16, ∀ k < 4, c ∈ s.waveChms w → t.rf (SEAM_STATUS h (seamOf g c k))
    SEAM_STATUS.STATE = 3) ∧ t.on (GAL_STATUS h g) GAL_STATUS.WAVE_ACTIVE = true ∧ (t.half h).nv.rows = (s.half h).nv.rows) ∧
  (∀ (s : State) (h : Half) (g i : Nat) (w : Wave),
    s.live = true → g < 32 → s.waveIn h g [.latched] = some (i, w) → s.mayStart h g w = true → s.nodeAborted w.node = false → (s.pinOf
    w.node).bind (fun (p : Nat × Nat) => s.mapPlane h p.1 p.2 w.lplane) = none →
    ∃ t, exec (.waveStart h g) s = .next t ∧ (t.gal h g).waves = (s.gal h g).waves.eraseIdx i ∧ (t.half h).nv = (s.half h).nv ∧ (t.half
    h).mem = (s.half h).mem) ∧
  (∀ (s : State) (h : Half) (g i : Nat) (w : Wave) (w7 : Bool),
    s.live = true → g < 32 → s.waveIn h g [.selecting] = some (i, w) → s.nodeAborted w.node = false → (∀ c < 16, c ∈ s.waveChms w → ∀ k <
    4, s.planeEn h (16 * seamOf g c k + w.plane) = true ∧ s.debugHides h (16 * seamOf g c k + w.plane) = false ∧ s.planeW7 h (16 * seamOf
    g c k + w.plane) = w7) →
    ∃ t, exec (.planeSelectDone h g) s = .next t ∧ (t.gal h g).waves.map (fun (w : Wave) => w.phase) = ((s.gal h g).waves.map (fun (w :
    Wave) => w.phase)).set i WavePhase.slices ∧ (t.gal h g).waves.map (fun (w : Wave) => w.chms.map Prod.fst) = ((s.gal h g).waves.map
    (fun (w : Wave) => w.chms.map Prod.fst)).set i (s.waveChms w) ∧ (∀ c < 16, ∀ k < 4, c ∈ s.waveChms w → t.rf (SEAM_STATUS h (seamOf g c
    k)) SEAM_STATUS.STATE = 3) ∧ t.on (GAL_STATUS h g) GAL_STATUS.WAVE_ACTIVE = true ∧ (t.half h).nv.rows = (s.half h).nv.rows) ∧
  (∀ (s : State) (h : Half) (g i : Nat) (w : Wave) (c k : Nat),
    s.live = true → g < 32 → s.waveIn h g [.selecting] = some (i, w) → s.nodeAborted w.node = false → c < 16 → k < 4 → c ∈ s.waveChms w →
    s.planeEn h (16 * seamOf g c k + w.plane) = false →
    ∃ t, exec (.planeSelectDone h g) s = .next t ∧ (t.gal h g).waves = (s.gal h g).waves.eraseIdx i ∧ t.rf (SEAM_EVENT h (seamOf g c k))
    SEAM_EVENT.DISABLED_PLANE = 1 ∧ t.rf (SEAM_STATUS h (seamOf g c k)) SEAM_STATUS.STATE = 2 ∧ (t.half h).nv = (s.half h).nv)

/-- SLICE_PASS_END, WAVE_END and HEALTH_WATCH_EXPIRE (R69 to R71, R76 to R84, R98): a pass takes one free value for each of its columns
and the wave goes on; the count that a Seam column delivers lies within the error term of the numeric contract; the wave's end forms T,
frees the latch and leaves the Seams READY. Next states are stated of: SLICE_PASS_END, WAVE_END, HEALTH_WATCH_EXPIRE. -/
def Obligations.WavesRunAndEnd : Prop :=
  (∀ (s : State) (h : Half) (g i : Nat) (w : Wave),
    s.live = true → g < 32 → s.waveIn h g [.slices] = some (i, w) → w.pass < 7 → w.chms.all (fun (e : Nat × ChmAcc) => decide (e.1 < 16))
    = true →
    ∃ t, exec (.slicePassEnd h g) s = .next t ∧ t.freeCtr = s.freeCtr + 544 * 64 ∧ (t.gal h g).waves.map (fun (w : Wave) => w.phase) =
    (s.gal h g).waves.map (fun (w : Wave) => w.phase) ∧ t.rf (GAL_RETRY_COUNT h g) GAL_RETRY_COUNT.PASSES = (s.rf (GAL_RETRY_COUNT h g)
    GAL_RETRY_COUNT.PASSES + b2n (decide (w.pass ≠ 0))) % 2 ^ 32 ∧ (t.half h).nv = (s.half h).nv ∧ (t.half h).mem = (s.half h).mem ∧
    t.outbox = s.outbox) ∧
  (∀ (g a st sp sn free : Nat),
    g < 8 → st < 3 → (a = 0 → sp = 0 ∧ sn = 0) →
    ((2 ^ g : Int) * delivered g a st sp sn free - ((sp : Int) - (sn : Int))).natAbs ≤ errTerm g a st ∧ (delivered g a st sp sn free -
    ((flipStep g sp : Int) - (flipStep g sn : Int))).natAbs ≤ errTerm g a st / 2 ^ g) ∧
  (∀ (s : State) (h : Half) (g i : Nat) (w : Wave),
    s.live = true → g < 32 → s.waveIn h g [.slices] = some (i, w) → 7 ≤ w.pass → w.plane < 16 → s.nodeAborted w.node = false → (∀ e ∈
    (s.half h).nv.running, ∀ c ∈ w.chms.map Prod.fst, ∀ k < 4, e.1 % 2048 ≠ seamOf g c k) → w.chms.all (fun (e : Nat × ChmAcc) => decide
    (e.1 < 16)) = true →
    ∃ t, exec (.waveEnd h g) s = .next t ∧ (t.gal h g).waves.map (fun (w : Wave) => w.phase) = ((s.gal h g).waves.map (fun (w : Wave) =>
    w.phase)).set i WavePhase.ended ∧ (t.gal h g).waves.map (fun (w : Wave) => w.t) = ((s.gal h g).waves.map (fun (w : Wave) => w.t)).set
    i ((w.groups (w.chms.map Prod.fst)).map (fun (og : Nat) => (og, (w.groupT og).1))) ∧ t.on (GAL_STATUS h g) GAL_STATUS.WAVE_ACTIVE =
    false ∧ (∀ c < 16, ∀ k < 4, c ∈ w.chms.map Prod.fst → t.rf (SEAM_STATUS h (seamOf g c k)) SEAM_STATUS.STATE = 2 ∧ t.rf (SEAM_STATUS h
    (seamOf g c k)) (latchFld w.latch) = 0) ∧ (t.half h).nv.rows = (s.half h).nv.rows) ∧
  (∀ (s : State) (h : Half) (p : Nat),
    s.live = true → p < 32768 → s.health h p = 3 → s.watchWaves h ≤ (s.planeRec h p).clean →
    ∃ t, exec (.healthWatchExpire h p) s = .next t ∧ t.health h p = 0 ∧ t.rf (NV_PLANE_HEALTH h p) NV_PLANE_HEALTH.MISS_COUNT = 0 ∧ t.rf
    (NV_PLANE_SUSPECT h p) NV_PLANE_SUSPECT.GROUPS = 0 ∧ onlyRegs [NV_PLANE_HEALTH h p, NV_PLANE_SUSPECT h p] s (t.setHalf h (s.half h)))

/-- CORRECTION_READY, MERGE_DEADLINE, MERGE_PASS and OUTPUT_LAND (R200 to R203, R278, R311, R482): a wave takes its correction, passes the
merge, and its beats land in the output object, added to what is there when ACC is on. Next states are stated of: CORRECTION_READY,
MERGE_DEADLINE, MERGE_PASS, OUTPUT_LAND. -/
def Obligations.CorrectionsAndOutput : Prop :=
  (∀ (s : State) (h : Half) (g i : Nat) (w : Wave) (gr : Graph) (n : Node),
    s.live = true → g < 32 → i = (s.gal h g).waves.findIdx (fun (w : Wave) => [WavePhase.slices, .ended].contains w.phase && !w.corrReady
    && decide (w.outfmt ≠ 3)) → (s.gal h g).waves[i]? = some w → s.node w.node = some (gr, n) → s.viaSds h w n = true → n.cset = 0x1FF →
    s.sdsTurn h g w = true →
    ∃ t, exec (.correctionReady h g) s = .next t ∧ (t.gal h g).waves = (s.gal h g).waves.set i
    ({ w with corr := w.stuckCorr, corrReady := true } : Wave) ∧ onlyRegs [] s (t.setHalf h (s.half h))) ∧
  (∀ (s : State) (h : Half) (g i : Nat) (w : Wave) (gr : Graph) (n : Node),
    s.live = true → g < 32 → i = (s.gal h g).waves.findIdx (fun (w : Wave) => [WavePhase.slices, .ended].contains w.phase && !w.corrReady
    && decide (w.outfmt ≠ 3)) → (s.gal h g).waves[i]? = some w → s.node w.node = some (gr, n) → s.viaSds h w n = true → n.cset ≠ 0x1FF →
    n.setBound = true → s.sdsTurn h g w = true →
    ∃ t, exec (.correctionReady h g) s = .next t ∧ (t.gal h g).waves.map (fun (w : Wave) => w.corrReady) = ((s.gal h g).waves.map (fun (w
    : Wave) => w.corrReady)).set i true ∧ (t.gal h g).waves.map (fun (w : Wave) => w.phase) = (s.gal h g).waves.map (fun (w : Wave) =>
    w.phase) ∧ (t.half h).mem.t1 = (s.half h).mem.t1) ∧
  (∀ (s : State) (h : Half) (g i : Nat) (w : Wave) (gr : Graph) (n : Node),
    s.live = true → g < 32 → i = (s.gal h g).waves.findIdx (fun (w : Wave) => [WavePhase.slices, .ended].contains w.phase && !w.corrReady
    && decide (w.outfmt ≠ 3)) → (s.gal h g).waves[i]? = some w → s.node w.node = some (gr, n) → s.viaSds h w n = true → n.cset ≠ 0x1FF →
    n.setBound = false → n.late = true → w.phase = .ended →
    ∃ t, exec (.correctionReady h g) s = .next t ∧ (t.gal h g).waves = (s.gal h g).waves.set i
    ({ w with corr := w.stuckCorr, corrReady := true } : Wave) ∧ t.rf (SDS_SKIP_COUNT h) SDS_SKIP_COUNT.WAVES = (s.rf (SDS_SKIP_COUNT h)
    SDS_SKIP_COUNT.WAVES + 1) % 2 ^ 32 ∧ t.rf (SDS_EVENT h) SDS_EVENT.SKIPPED = 1) ∧
  (∀ (s : State) (r : NodeRef) (gr : Graph) (n : Node),
    s.live = true → s.node r = some (gr, n) → n.phase = .running → n.kind = 1 → n.cset ≠ 0x1FF → n.deadline ≠ 0 → n.setBound = false →
    ∃ t, exec (.mergeDeadline r) s = .next t ∧ (t.node r).map (fun (x : Graph × Node) => x.2) = some ({ n with late := true } : Node) ∧
    onlyRegs [] s ({ t with graphs := s.graphs } : State)) ∧
  (∀ (s : State) (h : Half) (g i : Nat) (w : Wave) (gr : Graph) (n : Node),
    s.live = true → g < 32 → s.waveIn h g [.ended] = some (i, w) → s.node w.node = some (gr, n) → gr.aborted = false → w.outfmt = 3 →
    w.emit = true → w.group ≤ 4 → w.chms ≠ [] → s.waveIn h g [.output] = none → w.chms.all (fun (e : Nat × ChmAcc) => decide (e.1 < 16)) =
    true →
    ∃ t, exec (.mergePass h g) s = .next t ∧ (t.gal h g).waves = (s.gal h g).waves.set i
    ({ w with phase := .output, beats := beatsOf (w.outOff + w.colBase (g - n.galFirst) (w.chms.map Prod.fst) * 4) ((w.outputs (w.chms.map Prod.fst) []).flatMap (fun (y : Conv) => leBytes 4 y.code)) }
    : Wave) ∧ (t.half h).mem = (s.half h).mem) ∧
  (∀ (s : State) (h : Half) (g i : Nat) (w : Wave) (o : Obj) (b : Nat × List Byte) (bs : List (Nat × List Byte)),
    s.live = true → g < 32 → s.waveIn h g [.output] = some (i, w) → w.beats = b :: bs → bs ≠ [] → s.bindObj w.node 1 = some o → b.1 +
    b.2.length ≤ o.size → b.2.length % 4 = 0 → partWords (wordBytes o.tier) (o.addr + b.1) b.2.length = [] →
    ∃ t, exec (.outputLand h g {}) s = .next t ∧ (t.gal h g).waves = (s.gal h g).waves.set i ({ w with beats := bs } : Wave) ∧ t.objRead o
    b.1 b.2.length = (if w.acc then (accBeat (s.objRead o b.1 b.2.length) b.2).1 else b.2) ∧ (∀ a, a < o.addr + b.1 ∨ o.addr + b.1 +
    b.2.length ≤ a → t.memBytes o.half o.tier a 1 = s.memBytes o.half o.tier a 1))

/-- MATMUL, GATHER and VECTOR (R182 to R185, R189, R191): an INT8 MATMUL into INT32 writes the saturated sums of products, a GATHER writes
the row that the index names, converted, and a VECTOR without tail converts its rows; an operation forms its result once. Next states are
stated of: MATMUL, GATHER, VECTOR, LOWRANK_FALLBACK. -/
def Obligations.PlazaOperations : Prop :=
  (∀ (s : State) (h : Half) (r : NodeRef) (op : List Byte),
    s.live = true → s.plazaOp h 1 = some (r, op) → opStreamed op = false → s.power.gateOpen = true → (s.half h).plaza.fallback = false →
    opAFmt op = 9 → opBFmt op = 9 → opOutFmt op = 11 → opM op * opK op ≤ (s.nodeObj r (opA op)).size → opN op * opK op ≤ (s.nodeObj r (opB
    op)).size → 4 * (opM op * opN op) ≤ (s.nodeObj r (opOut op)).size → partWords (wordBytes (s.nodeObj r (opOut op)).tier) ((s.nodeObj r
    (opOut op)).addr + 0) (4 * (opM op * opN op)) = [] →
    ∃ t, exec (.matmul h) s = .next t ∧ t.objRead (s.nodeObj r (opOut op)) 0 (4 * (opM op * opN op)) = (List.range (opM op)).flatMap (fun
    (i : Nat) => (List.range (opN op)).flatMap (fun (j : Nat) => leBytes 4 (unsigned 32 (dotInt (fun (x : Nat) => signed 8 (elemCode 9
    (s.objRead (s.nodeObj r (opA op)) 0 (opM op * opK op)) (i * opK op + x))) (fun (x : Nat) => signed 8 (elemCode 9 (s.objRead (s.nodeObj
    r (opB op)) 0 (opN op * opK op)) (j * opK op + x))) (opK op)).1))) ∧ (t.half h).plaza.written = true) ∧
  (∀ (s : State) (h : Half) (r : NodeRef) (op : List Byte) (i : Nat),
    s.live = true → s.plazaOp h 2 = some (r, op) → opM op = 1 → opBFmt op = 7 → opOutFmt op = 7 → 0 < opN op → 4 ≤ (s.nodeObj r (opA
    op)).size → 2 * opN op ≤ (s.nodeObj r (opOut op)).size → i = u32 (s.objRead (s.nodeObj r (opA op)) 0 4) 0 → i < (s.nodeObj r (opB
    op)).size / (2 * opN op) → partWords (wordBytes (s.nodeObj r (opOut op)).tier) ((s.nodeObj r (opOut op)).addr + 0) (2 * opN op) = [] →
    ∃ t, exec (.gather h) s = .next t ∧ t.objRead (s.nodeObj r (opOut op)) 0 (2 * opN op) = (List.range (opN op)).flatMap (fun (j : Nat)
    => leBytes 2 (convertOut 7 (operandAt 7 ((s.nodeObj r (opB op)).size / (2 * opN op)) (opN op) (s.objRead (s.nodeObj r (opB op)) 0
    (operandBytes 7 ((s.nodeObj r (opB op)).size / (2 * opN op)) (opN op))) i j).bits32).code) ∧ (t.half h).plaza.written = true) ∧
  (∀ (s : State) (h : Half) (r : NodeRef) (op : List Byte),
    s.live = true → s.plazaOp h 3 = some (r, op) → opM op = 1 → opFunc op = 0 → opOutFmt op = 7 → operandBytes (opAFmt op) 1 (opN op) ≤
    (s.nodeObj r (opA op)).size → 2 * opN op ≤ (s.nodeObj r (opOut op)).size → partWords (wordBytes (s.nodeObj r (opOut op)).tier)
    ((s.nodeObj r (opOut op)).addr + 0) (2 * opN op) = [] →
    ∃ t, exec (.vector h) s = .next t ∧ t.objRead (s.nodeObj r (opOut op)) 0 (2 * opN op) = (List.range (opN op)).flatMap (fun (j : Nat)
    => leBytes 2 (convertOut 7 (operandAt (opAFmt op) 1 (opN op) (s.objRead (s.nodeObj r (opA op)) 0 (operandBytes (opAFmt op) 1 (opN
    op))) 0 j).bits32).code) ∧ (t.half h).plaza.written = true) ∧
  (∀ (s : State) (h : Half),
    s.live = true → (s.half h).plaza.written = true →
    exec (.matmul h) s = .next s ∧ exec (.gather h) s = .next s ∧ exec (.vector h) s = .next s ∧ exec (.lowrankFallback h) s = .next s)

/-- LOWRANK_FALLBACK, PLAZA_OP_COMPLETE, SDS_SET_CTRL_WRITE, SDS_SET_REGION_WRITE, STAGE and STAGE_DONE (R187, R193, R196, R199, R205): a
streamed operation that waits past its deadline falls back, writes nothing until the slots still to come have been released unread, and
then puts out its result with FALLBACK; the Plaza becomes idle; a set takes its region against the context's quota; a STAGE makes its set
STAGING and, once read whole and good, READY. STAGE_DONE makes a good set READY whatever the STAGE's source. Next states are stated of:
LOWRANK_FALLBACK, MATMUL, PLAZA_OP_COMPLETE, SDS_SET_CTRL_WRITE, SDS_SET_REGION_WRITE, STAGE, STAGE_DONE. -/
def Obligations.PlazaEndAndSidestreetSets : Prop :=
  (∀ (s : State) (h : Half) (r : NodeRef) (op : List Byte) (us0 : Nat),
    s.live = true → s.plazaOp h 1 = some (r, op) → opStreamed op = true → opLowrank op = true → opDeadline op ≠ 0 → (s.half
    h).plaza.startUs = some us0 → opDeadline op ≤ s.us h - us0 → s.plazaWaits h = true →
    ∃ t, exec (.lowrankFallback h) s = .next t ∧ (t.half h).plaza.fallback = true ∧ (t.half h).plaza.written = false ∧ (t.half
    h).plaza.skip = opTiles op - (s.half h).plaza.tiles ∧ t.rf (PLZ_STATUS h) PLZ_STATUS.FALLBACK = 1 ∧ t.plazaWaits h = false ∧ onlyRegs
    [PLZ_STATUS h] s (t.setHalf h (s.half h))) ∧
  (∀ (s : State) (h : Half) (r : NodeRef) (op : List Byte) (us0 : Nat),
    s.live = true → s.plazaOp h 1 = some (r, op) → (s.half h).plaza.startUs = some us0 → s.us h - us0 < opDeadline op →
    exec (.lowrankFallback h) s = .next s) ∧
  (∀ (s : State) (h : Half) (r : NodeRef) (op : List Byte),
    s.live = true → s.plazaOp h 1 = some (r, op) → s.power.gateOpen = true → (s.half h).plaza.fallback = true → (s.half h).plaza.skip = 0
    →
    ∃ t, exec (.matmul h) s = .next t ∧ (t.half h).plaza.written = true ∧ t.rf (PLZ_EVENT h) PLZ_EVENT.FALLBACK = 1 ∧ t.rf
    (PLZ_FALLBACK_COUNT h) PLZ_FALLBACK_COUNT.FALLBACKS = (s.rf (PLZ_FALLBACK_COUNT h) PLZ_FALLBACK_COUNT.FALLBACKS + 1) % 2 ^ 32) ∧
  (∀ (s : State) (h : Half) (r : NodeRef) (g : Graph) (n : Node) (chk : Scan),
    s.live = true → (s.half h).plaza.node = some r → s.node r = some (g, n) → n.phase = .running → (s.half h).plaza.written = true →
    ∃ t, exec (.plazaOpComplete h chk) s = .next t ∧ (t.half h).plaza = ({} : PlazaSt) ∧ t.rf (PLZ_STATUS h) PLZ_STATUS.BUSY = 0 ∧ t.rf
    (PLZ_OP_COUNT h) PLZ_OP_COUNT.OPS = (s.rf (PLZ_OP_COUNT h) PLZ_OP_COUNT.OPS + 1) % 2 ^ 32 ∧ (t.node r).map (fun (x : Graph × Node) =>
    x.2.phase) = some NodePhase.ended ∧ (t.half h).mem.t1 = (s.half h).mem.t1) ∧
  (∀ (s : State) (h : Half) (k v : Nat),
    s.live = true → k < 256 → s.csetValid h k = false → bit v 8 = true →
    ∃ t, exec (.sdsSetCtrlWrite h k v) s = .next t ∧ (if s.regionMeets h k (s.csetBase h k) (s.csetSize h k) = true ∨ s.regionFits h (v %
    256) (s.csetSize h k) = false then t.rf (SDS_EVENT h) SDS_EVENT.REGION_REFUSED = 1 ∧ onlyLogged [SDS_EVENT h] s t else t.csetValid h k
    = true ∧ t.rf (SDS_SET_CTRL h k) SDS_SET_CTRL.CONTEXT = v % 256 ∧ t.csetState h k = 0 ∧ t.rf (SDS_CTX_QUOTA h (v % 256))
    SDS_CTX_QUOTA.USED = s.rf (SDS_CTX_QUOTA h (v % 256)) SDS_CTX_QUOTA.USED + s.csetSize h k ∧ onlyRegs [SDS_SET_CTRL h k, SDS_CTX_QUOTA
    h (v % 256)] s t)) ∧
  (∀ (s : State) (h : Half) (k v : Nat),
    s.live = true → k < 256 → s.csetValid h k = true → bit v 8 = false → v % 256 = s.rf (SDS_SET_CTRL h k) SDS_SET_CTRL.CONTEXT →
    s.csetUsers h k = 0 → s.stagesSet h k = false →
    ∃ t, exec (.sdsSetCtrlWrite h k v) s = .next t ∧ t.csetValid h k = false ∧ t.csetState h k = 0 ∧ t.rf (SDS_CTX_QUOTA h (v % 256))
    SDS_CTX_QUOTA.USED = s.rf (SDS_CTX_QUOTA h (v % 256)) SDS_CTX_QUOTA.USED - s.csetSize h k) ∧
  (∀ (s : State) (h : Half) (k v : Nat),
    s.live = true → k < 256 → s.csetValid h k = false →
    ∃ t, exec (.sdsSetRegionWrite h k v) s = .next t ∧ (if s.regionMeets h k (v % 65536) (v / 65536 % 65536) = true ∨ s.regionFits h (s.rf
    (SDS_SET_CTRL h k) SDS_SET_CTRL.CONTEXT) (v / 65536 % 65536) = false then t.rf (SDS_EVENT h) SDS_EVENT.REGION_REFUSED = 1 ∧ onlyLogged
    [SDS_EVENT h] s t else t.csetBase h k = v % 65536 ∧ t.csetSize h k = v / 65536 % 65536 ∧ onlyRegs [SDS_SET_REGION h k] s t)) ∧
  (∀ (s : State) (h : Half) (r : NodeRef) (g : Graph) (n : Node),
    s.live = true → (s.half h).stage = { node := some r, running := false } → s.node r = some (g, n) → n.phase = .running → s.stageMine h
    r n = true → s.stageT0Ok h r n = true → s.csetUsers h (stgSet n) = 0 → s.power.gateOpen = true →
    ∃ t, exec (.stage h) s = .next t ∧ t.csetState h (stgSet n) = 1 ∧ (t.half h).stage.node = some r ∧ (t.half h).stage.running = true ∧
    (t.half h).sdsBuf = (s.half h).sdsBuf ∧ (stgSource n ≠ 0 → stgSource n ≠ 3 → onlyRegs [SDS_SET_CTRL h (stgSet n)] s (t.setHalf h
    (s.half h))) ∧ (stgSource n = 3 → Output.t3Read (s.ctxFunc r.ctx) (if (s.func (s.ctxFunc r.ctx)).pasidEn then some (stgPasid n) else
    none) (stgAddr n) (stgLength n) ∈ t.outbox)) ∧
  (∀ (s : State) (h : Half) (r : NodeRef) (g : Graph) (n : Node) (data : List Byte) (chk : Scan),
    s.live = true → (s.half h).stage = { node := some r, running := true } → s.node r = some (g, n) → n.phase = .running → stgSource n = 3
    → stgLength n ≤ data.length → stgLength n ≤ 64 * s.csetSize h (stgSet n) → csetGood (data.take (stgLength n)) (64 * s.csetSize h
    (stgSet n)) = true →
    ∃ t, exec (.stageDone h data chk false) s = .next t ∧ t.csetState h (stgSet n) = 2 ∧ (t.half h).stage = ({} : StageSt) ∧ (t.node
    r).map (fun (x : Graph × Node) => x.2.phase) = some NodePhase.ended ∧ memRead zeroByte (t.half h).sdsBuf (64 * s.csetBase h (stgSet
    n)) (stgLength n) = data.take (stgLength n)) ∧
  (∀ (s : State) (h : Half) (r : NodeRef) (g : Graph) (n : Node) (data : List Byte) (chk : Scan) (f : Bool),
    s.live = true → (s.half h).stage.node = some r → (s.half h).stage.running = true → s.node r = some (g, n) → n.phase = .running →
    (stgSource n ≠ 0 ∨ (s.half h).stage.data.length = stgLength n) → (s.stageBytes h r n data chk f).2.2 = false → csetGood (s.stageBytes
    h r n data chk f).2.1 (64 * s.csetSize h (stgSet n)) = true → (s.stageBytes h r n data chk f).2.1.length ≤ 64 * s.csetSize h (stgSet
    n) →
    ∃ t, exec (.stageDone h data chk f) s = .next t ∧ t.csetState h (stgSet n) = 2 ∧ (t.half h).stage = ({} : StageSt) ∧ t.nodeIn r .ended
    = true)

/-- TRANSFER_START, TRANSFER_COMPLETE, RING_ATTACH, SLOT_FULL, RING_SLOT_RELEASE and DRAIN_END (R248 to R254, R258): a descriptor that
passes its checks is taken and the engine runs; a transfer in one row between two objects of T1 copies the bytes, writes OK and DONE into
its descriptor and, as the last, ends its chain; a producer fills the slot at TAIL, which becomes FULL; the Plaza's consumer releases the
slot at HEAD; an engine that waited attaches; a drain ends once its slots are released. That one TRANSFER_COMPLETE moves as much as its
two ends allow is the model's choice (log entry 46). A descriptor of any kinds that passes the checks is loaded, and its engine runs or
waits to attach; a chain that names no descriptor ends. A transfer moves as much as its sides allow, and one of which every element has
landed ends its chain at the last descriptor. The slot that an engine fills from host memory or a queue becomes FULL; the slot that it
empties is released; a drain or a wait to attach ends with the transfer going on. Next states are stated of: TRANSFER_START,
TRANSFER_COMPLETE, SLOT_FULL, RING_SLOT_RELEASE, RING_ATTACH, DRAIN_END. -/
def Obligations.TransfersStartMoveAndEnd : Prop :=
  (∀ (s : State) (e : Nat) (c : Chain) (r : NodeRef),
    s.live = true → e < 64 → s.strState e = 1 → (s.engine e).chain = some c → c.node = some r → s.chainRuns e = true → s.domOn (clusterDom
    e) = true → c.loaded < 256 → c.resume = false → s.chainHas e (engHalf e) c.handle = true → (s.chainObj e c.handle).tier = 1 → c.off %
    128 = 0 → c.off + 128 ≤ (s.chainObj e c.handle).size → s.memBad (s.chainObj e c.handle).half 1 ((s.chainObj e c.handle).addr + c.off)
    128 = false → s.dscCheck e (s.objRead (s.chainObj e c.handle) c.off 128) = 0 → dscSrcKind (s.objRead (s.chainObj e c.handle) c.off
    128) = 1 → dscDstKind (s.objRead (s.chainObj e c.handle) c.off 128) = 1 →
    ∃ t, exec (.transferStart e) s = .next t ∧ t.strState e = 2 ∧ (t.engine e).desc = s.objRead (s.chainObj e c.handle) c.off 128 ∧
    (t.engine e).done = 0 ∧ (t.engine e).shadow = (s.engine e).shadow ∧ (t.engine e).chain.map (fun (x : Chain) => x.loaded) = some
    (c.loaded + 1) ∧ (t.half (engHalf e)).mem = (s.half (engHalf e)).mem) ∧
  (∀ (s : State) (e : Nat) (chk : Scan),
    s.live = true → e < 64 → s.moving e = true → dscSrcKind (s.engine e).desc = 1 → dscDstKind (s.engine e).desc = 1 → s.power.gateOpen =
    true → chk.bad = [] → dscElem (s.engine e).desc ≤ 6 → 0 < dscCount (s.engine e).desc 0 → dscTotal (s.engine e).desc = dscCount
    (s.engine e).desc 0 → (s.engine e).done = 0 → (s.engine e).bad = false → dscLast (s.engine e).desc = true → dscLayerEnd (s.engine
    e).desc = false → s.payloadPending e = false → (s.chainObj e (dscSrc (s.engine e).desc % 2 ^ 32)).tier = 1 → (s.chainObj e (dscDst
    (s.engine e).desc % 2 ^ 32)).tier = 1 → (s.chainObj e (s.engine e).handle).tier = 1 → s.memBad (s.chainObj e (dscSrc (s.engine e).desc
    % 2 ^ 32)).half 1 ((s.chainObj e (dscSrc (s.engine e).desc % 2 ^ 32)).addr + dscSrc (s.engine e).desc / 2 ^ 32) (dscBytes (s.engine
    e).desc) = false → (s.chainObj e (s.engine e).handle).half ≠ (s.chainObj e (dscDst (s.engine e).desc % 2 ^ 32)).half ∨ (s.chainObj e
    (s.engine e).handle).addr + (s.engine e).off + 128 ≤ (s.chainObj e (dscDst (s.engine e).desc % 2 ^ 32)).addr + dscDst (s.engine
    e).desc / 2 ^ 32 ∨ (s.chainObj e (dscDst (s.engine e).desc % 2 ^ 32)).addr + dscDst (s.engine e).desc / 2 ^ 32 + dscBytes (s.engine
    e).desc ≤ (s.chainObj e (s.engine e).handle).addr + (s.engine e).off → partWords (wordBytes 1) ((s.chainObj e (dscDst (s.engine
    e).desc % 2 ^ 32)).addr + dscDst (s.engine e).desc / 2 ^ 32) (dscBytes (s.engine e).desc) = [] → partWords (wordBytes 1) ((s.chainObj
    e (s.engine e).handle).addr + ((s.engine e).off + 0x74)) 8 = [] →
    ∃ t, exec (.transferComplete e [] chk false) s = .next t ∧ t.objRead (s.chainObj e (dscDst (s.engine e).desc % 2 ^ 32)) (dscDst
    (s.engine e).desc / 2 ^ 32) (dscBytes (s.engine e).desc) = s.objRead (s.chainObj e (dscSrc (s.engine e).desc % 2 ^ 32)) (dscSrc
    (s.engine e).desc / 2 ^ 32) (dscBytes (s.engine e).desc) ∧ t.objRead (s.chainObj e (s.engine e).handle) ((s.engine e).off + 0x74) 4 =
    leBytes 4 256 ∧ (t.engine e).chain = none ∧ (t.engine e).shadow = (s.engine e).shadow ∧ t.strState e = 0) ∧
  (∀ (s : State) (h : Half) (r e : Nat) (chk : Scan),
    s.live = true → e < 64 → s.moving e = true → s.power.gateOpen = true → engHalf e = h → r < 64 → (s.ring h r).producer = some (.engine
    e) → dscSrcKind (s.engine e).desc = 1 → dscDstKind (s.engine e).desc = 6 → dscDst (s.engine e).desc = r → dscElem (s.engine e).desc ≤
    6 → (s.ring h r).fill < s.slotBytes h r → (s.ring h r).lens.length < s.ringSlots h r → (s.engine e).done + (s.slotBytes h r - (s.ring
    h r).fill) ≤ dscBytes (s.engine e).desc →
    ∃ t, exec (.slotFull h r [] chk) s = .next t ∧ (t.ring h r).lens = (s.ring h r).lens ++ [s.slotBytes h r] ∧ (t.ring h r).fill = 0 ∧
    t.rf (STR_RING_STATE h r) STR_RING_STATE.TAIL = slotNext (s.ringSlots h r) (s.rf (STR_RING_STATE h r) STR_RING_STATE.TAIL) % 32 ∧
    (t.engine e).done = (s.engine e).done + (s.slotBytes h r - (s.ring h r).fill)) ∧
  (∀ (s : State) (h : Half) (r n : Nat) (ns : List Nat),
    s.live = true → r < 64 → (s.ring h r).consumer = some .plaza → (s.ring h r).lens = n :: ns → (s.ring h r).taken = n →
    ∃ t, exec (.ringSlotRelease h r) s = .next t ∧ (t.ring h r).lens = ns ∧ (t.ring h r).taken = 0 ∧ (t.ring h r).consumer = some
    Party.plaza ∧ t.rf (STR_RING_STATE h r) STR_RING_STATE.HEAD = slotNext (s.ringSlots h r) (s.rf (STR_RING_STATE h r)
    STR_RING_STATE.HEAD) % 32 ∧ onlyRegs [STR_RING_STATE h r, STR_RING_ERR h r] s
    ({ t with west := s.west, east := s.east, engines := s.engines } : State)) ∧
  (∀ (s : State) (h : Half) (r e : Nat) (cons : Bool) (ps : List Party),
    s.live = true → e < 64 → engHalf e = h → r < 64 → s.strState e = 5 → dscSrcKind (s.engine e).desc = 6 → dscSrc (s.engine e).desc = r →
    dscDstKind (s.engine e).desc = 1 → s.sideCode e (s.engine e).desc false = 0 → (s.ring h r).consumer = none → (s.ring h r).waitCons =
    .engine e :: ps →
    ∃ t, exec (.ringAttach h r e cons) s = .next t ∧ t.strState e = 2 ∧ (t.ring h r).consumer = some (Party.engine e) ∧ (t.ring h
    r).waitCons = ps ∧ t.rf (STR_RING_STATE h r) STR_RING_STATE.CONSUMER = 1 ∧ (t.engine e) = (s.engine e)) ∧
  (∀ (s : State) (e : Nat) (c : Chain),
    s.live = true → e < 64 → s.strState e = 6 → (s.engine e).drain = 0 → (s.engine e).bad = false → dscLast (s.engine e).desc = false →
    (s.engine e).chain = some c → (s.chainObj e (s.engine e).handle).tier = 1 → partWords (wordBytes 1) ((s.chainObj e (s.engine
    e).handle).addr + ((s.engine e).off + 0x74)) 8 = [] →
    ∃ t, exec (.drainEnd e) s = .next t ∧ t.strState e = 1 ∧ (t.engine e).chain = some c ∧ t.objRead (s.chainObj e (s.engine e).handle)
    ((s.engine e).off + 0x74) 4 = leBytes 4 256) ∧
  (∀ (s : State) (e : Nat) (c : Chain),
    s.live = true → e < 64 → s.strState e = 1 → (s.engine e).chain = some c → (c.node.isSome = true ∨ c.loaded ≠ 0 ∨ (s.engine e).bound ≠
    []) → s.chainRuns e = true → s.domOn (clusterDom e) = true → c.loaded < 256 → c.resume = false → s.chainHas e (engHalf e) c.handle =
    true → (s.chainObj e c.handle).tier = 1 → c.off % 128 = 0 → c.off + 128 ≤ (s.chainObj e c.handle).size → s.memBad (s.chainObj e
    c.handle).half 1 ((s.chainObj e c.handle).addr + c.off) 128 = false → s.dscCheck e (s.objRead (s.chainObj e c.handle) c.off 128) = 0 →
    ∃ t, exec (.transferStart e) s = .next t ∧ (t.strState e = 2 ∨ t.strState e = 5) ∧ (t.engine e).desc = s.objRead (s.chainObj e
    c.handle) c.off 128 ∧ (t.engine e).done = 0 ∧ (t.engine e).chain.map (fun (x : Chain) => x.loaded) = some (c.loaded + 1)) ∧
  (∀ (s : State) (e : Nat) (c : Chain),
    s.live = true → e < 64 → s.strState e = 1 → (s.engine e).chain = some c → (c.node.isSome = true ∨ c.loaded ≠ 0 ∨ (s.engine e).bound ≠
    []) → s.chainRuns e = true → s.domOn (clusterDom e) = true → (256 ≤ c.loaded ∨ s.chainHas e (engHalf e) c.handle = false) →
    ∃ t, exec (.transferStart e) s = .next t ∧ t.strState e = 0 ∧ (t.engine e).chain = none ∧ (t.engine e).shadow = (s.engine e).shadow) ∧
  (∀ (s : State) (e : Nat) (data : List Byte) (chk : Scan) (f : Bool),
    s.live = true → e < 64 → s.moving e = true → dscBytes (s.engine e).desc ≤ (s.engine e).done → s.payloadPending e = false →
    (dscLayerEnd (s.engine e).desc = false ∨ dscDstKind (s.engine e).desc ≠ 6) →
    ∃ t, exec (.transferComplete e data chk f) s = .next t ∧ (if (s.engine e).bad = true ∨ dscLast (s.engine e).desc = true then
    t.strState e = 0 ∧ (t.engine e).chain = none else t.strState e = 1 ∧ (t.engine e).chain = (s.engine e).chain) ∧ (t.engine e).shadow =
    (s.engine e).shadow) ∧
  (∀ (s : State) (e m : Nat) (data : List Byte) (chk : Scan),
    s.live = true → e < 64 → s.moving e = true → s.power.gateOpen = true → s.moveCode e = 0 → dscFed (s.engine e).desc = false → (s.engine
    e).done < dscBytes (s.engine e).desc → m = s.dstRoom e (s.srcAvail e (dscBytes (s.engine e).desc - (s.engine e).done) (data.take
    (dscBytes (s.engine e).desc - (s.engine e).done - (s.engine e).pack.length))) (decide (s.srcAvail e (dscBytes (s.engine e).desc -
    (s.engine e).done) (data.take (dscBytes (s.engine e).desc - (s.engine e).done - (s.engine e).pack.length)) = dscBytes (s.engine
    e).desc - (s.engine e).done)) → (s.engine e).done + m < dscBytes (s.engine e).desc →
    ∃ t, exec (.transferComplete e data chk false) s = .next t ∧ (t.engine e).done = (s.engine e).done + m ∧ (t.strState e = 2 ∨
    t.strState e = 4) ∧ (t.engine e).chain = (s.engine e).chain ∧ (t.engine e).desc = (s.engine e).desc) ∧
  (∀ (s : State) (h : Half) (r e : Nat) (data : List Byte) (chk : Scan),
    s.live = true → e < 64 → s.moving e = true → s.power.gateOpen = true → engHalf e = h → r < 64 → (s.ring h r).producer = some (.engine
    e) → dscDstKind (s.engine e).desc = 6 → dscDst (s.engine e).desc = r → s.moveCode e = 0 → (s.ring h r).fill < s.slotBytes h r →
    (s.ring h r).lens.length < s.ringSlots h r → (s.engine e).done + (s.slotBytes h r - (s.ring h r).fill) ≤ dscBytes (s.engine e).desc →
    (dscSrcKind (s.engine e).desc = 2 ∧ s.slotBytes h r - (s.ring h r).fill ≤ (s.engine e).pack.length + data.length) ∨ (dscSrcKind
    (s.engine e).desc = 5 ∧ s.slotBytes h r - (s.ring h r).fill ≤ s.rqAvail h (dscSrc (s.engine e).desc)) →
    ∃ t, exec (.slotFull h r data chk) s = .next t ∧ (t.ring h r).lens = (s.ring h r).lens ++ [s.slotBytes h r] ∧ (t.ring h r).fill = 0 ∧
    (t.engine e).done = (s.engine e).done + (s.slotBytes h r - (s.ring h r).fill)) ∧
  (∀ (s : State) (h : Half) (r e n : Nat) (ns : List Nat),
    s.live = true → e < 64 → s.moving e = true → s.power.gateOpen = true → engHalf e = h → r < 64 → (s.ring h r).consumer = some (.engine
    e) → dscSrcKind (s.engine e).desc = 6 → dscSrc (s.engine e).desc = r → s.moveCode e = 0 → (s.ring h r).lens = n :: ns → (s.ring h
    r).taken < n → 0 ∉ ns → s.unlanded e = 0 → (s.engine e).done + (n - (s.ring h r).taken) ≤ dscBytes (s.engine e).desc → (dscDstKind
    (s.engine e).desc = 1 ∨ dscDstKind (s.engine e).desc = 2) →
    ∃ t, exec (.ringSlotRelease h r) s = .next t ∧ (t.ring h r).lens = ns ∧ (t.ring h r).taken = 0 ∧ (t.engine e).done = (s.engine e).done
    + (n - (s.ring h r).taken)) ∧
  (∀ (s : State) (h : Half) (r n : Nat) (ns : List Nat),
    s.live = true → r < 64 → (s.ring h r).consumer = some .plaza → (s.ring h r).lens = n :: ns → (s.ring h r).taken ≠ n → (s.half
    h).plaza.skip ≠ 0 →
    ∃ t, exec (.ringSlotRelease h r) s = .next t ∧ (t.ring h r).lens = ns ∧ (t.half h).plaza.skip = (s.half h).plaza.skip - 1) ∧
  (∀ (s : State) (h : Half) (r e : Nat) (cons : Bool),
    s.live = true → e < 64 → engHalf e = h → s.strState e = 5 → s.sideCode e (s.engine e).desc false = 0 → s.sideCode e (s.engine e).desc
    true = 0 → (s.attachSides e (s.engine e).desc).2 = true →
    ∃ t, exec (.ringAttach h r e cons) s = .next t ∧ t.strState e = 2 ∧ t.engine e = s.engine e ∧ (t.half h).mem = (s.half h).mem) ∧
  (∀ (s : State) (e : Nat),
    s.live = true → e < 64 → s.strState e = 6 → (s.engine e).drain = 0 →
    ∃ t, exec (.drainEnd e) s = .next t ∧ (if (s.engine e).bad = true ∨ dscLast (s.engine e).desc = true then t.strState e = 0 ∧ (t.engine
    e).chain = none else t.strState e = 1 ∧ (t.engine e).chain = (s.engine e).chain) ∧ (t.engine e).shadow = (s.engine e).shadow)

/-- STR_ARM_GO, SHADOW_START, STR_ABORT, PAGE_FAULT_STOP, PAGE_RESPONSE, PAGE_REQUEST_TIMEOUT and RING_CFG_WRITE (R252, R260 to R265): an
arm of an idle engine starts, one that meets a full shadow is rejected with REARM_REJECTED, the shadow starts after the chain; a page
fault stops the engine at the element and asks for the page, a Success lets it go on, another answer or none ends it; ABORT ends a STR_ARM
chain with ABORTED. A page fault with page requests off ends the transfer, which is the model's reading (log entry 49). An abort ends the
chain and the arm of STR_ARM_GO whatever they wait for; a page fault of any transfer whose elements before it have gone requests its page;
a response or its timeout lets the transfer go on or ends it, whatever its sides. Next states are stated of: STR_ARM_GO, SHADOW_START,
STR_ABORT, PAGE_FAULT_STOP, PAGE_RESPONSE, PAGE_REQUEST_TIMEOUT, RING_CFG_WRITE. -/
def Obligations.ArmsPageFaultsAndRings : Prop :=
  (∀ (s : State) (e : Nat) (v : Nat),
    s.live = true → e < 64 → bit v 8 = true → (s.engine e).chain = none → (s.engine e).shadow = none → s.domOn (clusterDom e) = true →
    ∃ t, exec (.strArmGo e v) s = .next t ∧ (t.engine e) =
    ({ (s.engine e) with chain := some ({ node := none, ctx := bits v 0 8, handle := s.rf (STR_ARM_LO (engHalf e) e) STR_ARM_LO.HANDLE, off := s.rf (STR_ARM_HI (engHalf e) e) STR_ARM_HI.OFFSET / 128 * 128, resume := bit v 9 } : Chain) }
    : Engine) ∧ t.strState e = 1 ∧ t.rf (strStatus e) STR_STATUS.ORIGIN = 1 ∧ onlyRegs [strStatus e, STR_ARM_CTRL (engHalf e) e] s
    ({ t with engines := s.engines } : State)) ∧
  (∀ (s : State) (e : Nat) (v : Nat),
    s.live = true → e < 64 → bit v 8 = true → (s.engine e).shadow.isSome = true →
    ∃ t, exec (.strArmGo e v) s = .next t ∧ t.rf (STR_ARM_CTRL (engHalf e) e) STR_ARM_CTRL.CODE = 0x69 ∧ t.rf (STR_ARM_CTRL (engHalf e) e)
    STR_ARM_CTRL.DONE = 1 ∧ t.rf (STR_EVENT (engHalf e)) STR_EVENT.REARM_REJECTED = 1 ∧ onlyLogged [STR_ARM_CTRL (engHalf e) e, STR_EVENT
    (engHalf e)] s t) ∧
  (∀ (s : State) (e : Nat) (c : Chain),
    s.live = true → e < 64 → (s.engine e).chain = none → (s.engine e).shadow = some c →
    ∃ t, exec (.shadowStart e) s = .next t ∧ (t.engine e) = ({ (s.engine e) with chain := some c, shadow := none } : Engine) ∧ t.strState
    e = 1 ∧ t.rf (strStatus e) STR_STATUS.SHADOW_FULL = 0 ∧ t.rf (strStatus e) STR_STATUS.ORIGIN = b2n c.node.isNone ∧ onlyRegs [strStatus
    e] s ({ t with engines := s.engines } : State)) ∧
  (∀ (s : State) (e : Nat) (c : Chain),
    s.live = true → e < 64 → (s.engine e).chain = some c → c.node = none → s.pcie.waitReq = [] →
    ∃ t, exec (.strAbort e) s = .next t ∧ (t.engine e).chain = none ∧ t.strState e = 0 ∧ t.rf (STR_ARM_CTRL (engHalf e) e)
    STR_ARM_CTRL.CODE = 0x68 ∧ t.rf (STR_ARM_CTRL (engHalf e) e) STR_ARM_CTRL.DONE = 1 ∧ t.rf (STR_EVENT (engHalf e)) STR_EVENT.ARM_DONE =
    1) ∧
  (∀ (s : State) (e : Nat) (addr : Nat) (wr : Bool) (index : List Nat),
    s.live = true → e < 64 → s.moving e = true → (dscSrcKind (s.engine e).desc = 2 ∧ dscDstKind (s.engine e).desc = 1) ∨ (dscSrcKind
    (s.engine e).desc = 1 ∧ dscDstKind (s.engine e).desc = 2) → (addr, wr) = t3Element (s.engine e).desc index → dscIndex (s.engine
    e).desc (dscLinear (s.engine e).desc index) = index → dscLinear (s.engine e).desc index * 2 ^ dscElem (s.engine e).desc = (s.engine
    e).done → (s.engine e).done < dscBytes (s.engine e).desc → s.payloadPending e = false → (s.func (s.chainFunc e)).atsEn = true →
    s.pcie.priEn = true → s.pcie.requests.length < min s.pcie.priAlloc 512 →
    ∃ t, exec (.pageFaultStop e index []) s = .next t ∧ t.strState e = 3 ∧ (t.engine e).done = (s.engine e).done ∧ t.rf (STR_FAULT_LO
    (engHalf e) e) STR_FAULT_LO.ADDR_LO = addr % 2 ^ 32 ∧ t.rf (STR_FAULT_HI (engHalf e) e) STR_FAULT_HI.ADDR_HI = addr / 2 ^ 32 % 2 ^ 32
    ∧ t.rf (STR_FAULT_INFO (engHalf e) e) STR_FAULT_INFO.PASID = dscPasid (s.engine e).desc ∧ t.rf (STR_FAULT_INFO (engHalf e) e)
    STR_FAULT_INFO.WRITE = b2n wr ∧ t.rf (STR_FAULT_INFO (engHalf e) e) STR_FAULT_INFO.PENDING = 1 ∧ t.rf (STR_FAULTS (engHalf e) e)
    STR_FAULTS.FAULTS = (s.rf (STR_FAULTS (engHalf e) e) STR_FAULTS.FAULTS + 1) % 2 ^ 32 ∧ t.pcie.requests = s.pcie.requests ++ [e] ∧
    t.outbox = s.outbox ++ [Output.pageRequest e (addr % 2 ^ 64) (dscPasid (s.engine e).desc) wr] ∧ (∀ d < 5, t.rf (STR_POS (engHalf e) (8
    * e + d)) STR_POS.INDEX = index.getD d 0 % 2 ^ 24)) ∧
  (∀ (s : State) (e : Nat),
    s.live = true → e < 64 → s.pagePending e = true → s.pcie.waitReq = [] →
    ∃ t, exec (.pageResponse e .success) s = .next t ∧ t.strState e = 2 ∧ t.rf (STR_FAULT_INFO (engHalf e) e) STR_FAULT_INFO.PENDING = 0 ∧
    t.pcie.requests = s.pcie.requests.erase e ∧ t.engine e = (s.engine e) ∧ onlyRegs [strStatus e, STR_FAULT_INFO (engHalf e) e] s
    ({ t with pcie := s.pcie } : State)) ∧
  (∀ (s : State) (e : Nat) (c : PageResp),
    s.live = true → e < 64 → s.pagePending e = true → s.pcie.waitReq = [] → c ≠ .success → dscDstKind (s.engine e).desc ≠ 4 → ((s.chainObj
    e (s.engine e).handle).tier = 1 → partWords (wordBytes 1) ((s.chainObj e (s.engine e).handle).addr + ((s.engine e).off + 0x60)) 28 =
    []) →
    ∃ t, exec (.pageResponse e c) s = .next t ∧ exec (.pageRequestTimeout e) s = exec (.pageResponse e c) s ∧ t.strState e = 0 ∧ (t.engine
    e).chain = none ∧ t.rf (STR_EVENT (engHalf e)) STR_EVENT.PAGE_FAULT = 1 ∧ t.rf (STR_FAULT_INFO (engHalf e) e) STR_FAULT_INFO.PENDING =
    0 ∧ t.pcie.requests = s.pcie.requests.erase e ∧ ((s.chainObj e (s.engine e).handle).tier = 1 → t.objRead (s.chainObj e (s.engine
    e).handle) ((s.engine e).off + 0x74) 4 = leBytes 4 (0x64 + 512))) ∧
  (∀ (s : State) (h : Half) (r v b : Nat),
    s.live = true → r < 64 → s.on (STR_RING_CFG h r) STR_RING_CFG.VALID = false → bit v 0 = true → s.pinRange h (bits v 24 8) (s.rf
    (STR_RING_BASE h r) STR_RING_BASE.HANDLE) (s.rf (STR_RING_OFFSET h r) STR_RING_OFFSET.OFFSET / 64 * 64) (ringSlotsOf (bits v 4 5) *
    ringKibOf (bits v 9 9) * 1024) = some b →
    ∃ t, exec (.ringCfgWrite h r v) s = .next t ∧ t.rd (STR_RING_CFG h r) = BitVec.ofNat 32 (1 + ringSlotsOf (bits v 4 5) * 16 + ringKibOf
    (bits v 9 9) * 512 + bits v 24 8 * 2 ^ 24) ∧ (t.ring h r).buf = b ∧ (t.ring h r).lens = [] ∧ t.rf (STR_RING_STATE h r)
    STR_RING_STATE.HEAD = 0 ∧ t.rf (STR_RING_STATE h r) STR_RING_STATE.TAIL = 0 ∧ (∀ q, q ≠ r → t.ring h q = s.ring h q) ∧ onlyRegs
    [STR_RING_CFG h r, STR_RING_STATE h r, STR_RING_ERR h r] s (t.setHalf h (s.half h)) ∧ (t.half h).mem = (s.half h).mem) ∧
  (∀ (s : State) (h : Half) (r v : Nat),
    s.live = true → r < 64 → s.on (STR_RING_CFG h r) STR_RING_CFG.VALID = false → bit v 0 = true → s.pinRange h (bits v 24 8) (s.rf
    (STR_RING_BASE h r) STR_RING_BASE.HANDLE) (s.rf (STR_RING_OFFSET h r) STR_RING_OFFSET.OFFSET / 64 * 64) (ringSlotsOf (bits v 4 5) *
    ringKibOf (bits v 9 9) * 1024) = none →
    ∃ t, exec (.ringCfgWrite h r v) s = .next t ∧ onlyLogged [] s t) ∧
  (∀ (s : State) (e : Nat) (c : Chain),
    s.live = true → e < 64 → (s.engine e).chain = some c → c.node = none →
    ∃ t, exec (.strAbort e) s = .next t ∧ (t.engine e).chain = none ∧ t.strState e = 0 ∧ t.rf (STR_ARM_CTRL (engHalf e) e)
    STR_ARM_CTRL.CODE = 0x68 ∧ t.rf (STR_ARM_CTRL (engHalf e) e) STR_ARM_CTRL.DONE = 1) ∧
  (∀ (s s1 : State) (e : Nat) (index : List Nat) (data : List Byte),
    s.live = true → e < 64 → s.moving e = true → (dscSrcKind (s.engine e).desc = 2 ∨ dscDstKind (s.engine e).desc = 2) → (s.func
    (s.chainFunc e)).atsEn = true → (s.engine e).done ≤ dscLinear (s.engine e).desc index * 2 ^ dscElem (s.engine e).desc → dscLinear
    (s.engine e).desc index * 2 ^ dscElem (s.engine e).desc < dscBytes (s.engine e).desc → dscIndex (s.engine e).desc (dscLinear (s.engine
    e).desc index) = index → s1 = s.moveBytes e (dscLinear (s.engine e).desc index * 2 ^ dscElem (s.engine e).desc - (s.engine e).done)
    (data.take (dscLinear (s.engine e).desc index * 2 ^ dscElem (s.engine e).desc - (s.engine e).done - (s.engine e).pack.length)) {} →
    s1.stopReached e (dscLinear (s.engine e).desc index * 2 ^ dscElem (s.engine e).desc) = true → s1.pcie.priEn = true →
    s1.pcie.requests.length < min s1.pcie.priAlloc 512 →
    ∃ t, exec (.pageFaultStop e index data) s = .next t ∧ t.strState e = 3 ∧ t.rf (STR_FAULT_INFO (engHalf e) e) STR_FAULT_INFO.PENDING =
    1 ∧ t.pcie.requests = s1.pcie.requests ++ [e] ∧ t.rf (STR_FAULT_LO (engHalf e) e) STR_FAULT_LO.ADDR_LO = (t3Element (s1.engine e).desc
    index).1 % 2 ^ 32 ∧ t.engine e = s1.engine e) ∧
  (∀ (s : State) (e : Nat) (c : PageResp),
    s.live = true → e < 64 → s.pagePending e = true → s.pcie.waitReq.all (fun f => decide (f ≤ 64) && f != e) = true →
    ∃ t, exec (.pageResponse e c) s = .next t ∧ t.strState e = (if c = PageResp.success then 2 else 0) ∧ t.rf (STR_FAULT_INFO (engHalf e)
    e) STR_FAULT_INFO.PENDING = 0 ∧ (if c = PageResp.success then t.engine e = s.engine e else (t.engine e).chain = none ∧ t.rf (STR_EVENT
    (engHalf e)) STR_EVENT.PAGE_FAULT = 1)) ∧
  (∀ (s : State) (e : Nat),
    s.live = true → e < 64 → s.pagePending e = true →
    ∃ t, exec (.pageRequestTimeout e) s = .next t ∧ t.strState e = 0 ∧ (t.engine e).chain = none ∧ t.rf (STR_EVENT (engHalf e))
    STR_EVENT.PAGE_FAULT = 1)

/-- GRAPH_READ, ADMISSION_POINT, RESERVE_TIMEOUT, TOKEN_ARRIVE and ADMISSION_MSG_ARRIVE (R271, R282 to R286): a graph in host memory whose
checks pass waits at its context; one that fails them is refused with a completion entry; a graph that fits and has waited longest takes
its pins and its nodes their places, West's nodes with no predecessor ready; the tokens of the other half release. The identifiers of
failed checks that no rule names are the model's reading (log entry 53). Wherever the queue and the descriptor lie, the entry at HEAD is
passed and its graph waits or is refused. A graph that fits is admitted and its message to East follows when it has nodes there, or it is
refused for want of a slot to pin; the message and any token take their places in order. Next states are stated of: GRAPH_READ,
ADMISSION_POINT, RESERVE_TIMEOUT, TOKEN_ARRIVE, ADMISSION_MSG_ARRIVE. -/
def Obligations.GraphsAreReadAndAdmitted : Prop :=
  (∀ (s : State) (c : Nat) (entry desc : List Byte),
    s.live = true → c < 256 → s.turnOf c = true → s.domOn (jctDom .west) = true → s.on (JCT_CTX_CFG c) JCT_CTX_CFG.SQ_WHERE = false →
    (s.func (s.ctxFunc c)).atsEn = false → 64 ≤ entry.length → entInT1 (entry.take 64) = false → entLength (entry.take 64) ≤ desc.length →
    s.graphCheck c (entry.take 64) (desc.take (entLength (entry.take 64))) = none →
    ∃ t, exec (.graphRead c entry desc false) s = .next t ∧ (t.ctx c).waiting = some (graphOf c false (entAddr (entry.take 64)) (desc.take
    (entLength (entry.take 64)))) ∧ (t.ctx c).waitUs = s.us .west ∧ t.sqHead c = (s.sqHead c + 1) % s.sqSize c ∧ t.rrNext = (c + 1) % 256
    ∧ (∀ d, d ≠ c → t.ctx d = s.ctx d) ∧ onlyRegs [JCT_CTX_SQ_STATE c] s
    ({ t with ctxs := s.ctxs, rrNext := s.rrNext, order := s.order, outbox := s.outbox } : State)) ∧
  (∀ (s : State) (c : Nat) (entry desc : List Byte) (q i : Nat),
    s.live = true → c < 256 → s.turnOf c = true → s.domOn (jctDom .west) = true → s.on (JCT_CTX_CFG c) JCT_CTX_CFG.SQ_WHERE = false →
    (s.func (s.ctxFunc c)).atsEn = false → 64 ≤ entry.length → entInT1 (entry.take 64) = false → entLength (entry.take 64) ≤ desc.length →
    s.graphCheck c (entry.take 64) (desc.take (entLength (entry.take 64))) = some (q, i) → s.cqFull c = false → (s.ctx c).held = [] →
    ∃ t, exec (.graphRead c entry desc false) s = .next t ∧ (t.ctx c).waiting = none ∧ t.sqHead c = (s.sqHead c + 1) % s.sqSize c ∧
    t.cqTail c = (s.cqTail c + 1) % s.cqSize c ∧ t.rf (JCT_EVENT .west) JCT_EVENT.REFUSED = 1 ∧ t.rf (JCT_REFUSALS .west)
    JCT_REFUSALS.GRAPHS = (s.rf (JCT_REFUSALS .west) JCT_REFUSALS.GRAPHS + 1) % 2 ^ 32 ∧ t.graphs = s.graphs ∧ (∀ a, a ≠ JCT_CTX_SQ_STATE
    c → a ≠ JCT_CTX_CQ_STATE c → a ≠ JCT_EVENT .west → a ≠ JCT_REFUSALS .west → t.rd a = s.rd a)) ∧
  (∀ (s : State) (c : Nat) (g : Graph) (ps : List Pin),
    s.live = true → c < 256 → s.domOn (jctDom .west) = true → (s.ctx c).waiting = some g → s.waitsAfter g = false → s.graphFits c g = true
    → s.waiters.any (fun (w : Nat × Graph) => s.waitsLonger w.1 c && s.graphFits w.1 w.2) = false → s.takePins g.wsets = some ps → (∀ d ∈
    [127, 128, 131, 132], s.domOn d = true) →
    ∃ t, exec (.admissionPoint c) s = .next t ∧ (t.ctx c).waiting = none ∧ t.admitSeq = s.admitSeq + 1 ∧ t.order = s.order + 1 ∧ t.graphs
    = s.graphs ++
    [({ g with pins := ps, seq := s.admitSeq, nodes := g.nodes.mapIdx (fun (i : Nat) (n : Node) => g.admitNode (s.us .west) s.order i n) }
    : Graph)] ∧ t.east.control = (if g.slotsNeeded .east = 0 then s.east.control else s.east.control ++ [PassMsg.admitMsg c g.gid
    s.admitSeq]) ∧ t.outbox = s.outbox) ∧
  (∀ (s : State) (c : Nat) (g : Graph),
    s.live = true → (s.ctx c).waiting = some g → s.waitsAfter g = false → s.us .west - (s.ctx c).waitUs > s.rf (JCT_ADMIT_CTRL .west)
    JCT_ADMIT_CTRL.RESERVE_US →
    ∃ t, exec (.reserveTimeout c) s = .next t ∧ (t.ctx c) = ({ s.ctx c with reserved := true } : Ctx) ∧ (∀ d, d ≠ c → t.ctx d = s.ctx d) ∧
    onlyRegs [] s ({ t with ctxs := s.ctxs } : State)) ∧
  (∀ (s : State) (h : Half) (k : Token) (q : List PassMsg) (g : Graph) (n : Node),
    s.live = true → (s.half h).token = .token k :: q → (s.half h).turn .token = true → s.passOn = true → g.seq = k.seq → s.node
    { ctx := k.ctx, gid := k.gid, node := k.node } = some (g, n) → g.aborted = false → n.phase = .waiting → n.preds = 1 → n.half = h →
    ∃ t, exec (.tokenArrive h) s = .next t ∧ (t.half h).token = q ∧ (t.node { ctx := k.ctx, gid := k.gid, node := k.node }).map (fun (x :
    Graph × Node) => x.2.phase) = some NodePhase.ready ∧ t.rf (JCT_TOKENS_IN h) JCT_TOKENS_IN.TOKENS = (s.rf (JCT_TOKENS_IN h)
    JCT_TOKENS_IN.TOKENS + 1) % 2 ^ 32 ∧ onlyRegs [JCT_TOKENS_IN h] s (({ t with graphs := s.graphs, order := s.order } : State).setHalf h
    (s.half h))) ∧
  (∀ (s : State) (c i : Nat) (q : List PassMsg) (g : Graph),
    s.live = true → s.east.control = .admitMsg c i g.seq :: q → s.passOn = true → s.east.turn .control = true → s.graph c i = some g →
    s.east.early = [] →
    ∃ t, exec .admissionMsgArrive s = .next t ∧ t.east.control = q ∧ (t.graph c i).map (fun (x : Graph) => x.nodes) = some (g.nodes.map
    (fun (n : Node) => if n.phase = NodePhase.arriving then
    ({ n with phase := if n.preds = 0 then .ready else .waiting, readyUs := s.us .east, readyOrd := s.order + 1 } : Node) else n)) ∧
    onlyRegs [] s ({ t with graphs := s.graphs, east := s.east, order := s.order } : State)) ∧
  (∀ (s s1 s2 : State) (c : Nat) (entry desc e d : List Byte) (f : Bool),
    s.live = true → c < 256 → s.turnOf c = true → s.domOn (jctDom .west) = true → s.readEntry c entry f = (s1, .got e) → s1.readDesc c e
    desc f = (s2, .got d) → s2.graphCheck c e d = none →
    ∃ t, exec (.graphRead c entry desc f) s = .next t ∧ (t.ctx c).waiting = some (graphOf c (entInT1 e) (entAddr e) d) ∧ t.sqHead c =
    (s.sqHead c + 1) % s.sqSize c ∧ t.graphs = s.graphs) ∧
  (∀ (s s1 : State) (c g : Nat) (entry desc : List Byte) (f : Bool),
    s.live = true → c < 256 → s.turnOf c = true → s.domOn (jctDom .west) = true → s.readEntry c entry f = (s1, .failed g) →
    ∃ t, exec (.graphRead c entry desc f) s = .next t ∧ (t.ctx c).waiting = none ∧ t.sqHead c = (s.sqHead c + 1) % s.sqSize c ∧ t.rf
    (JCT_EVENT .west) JCT_EVENT.REFUSED = 1 ∧ t.graphs = s.graphs) ∧
  (∀ (s : State) (c : Nat) (g : Graph),
    s.live = true → c < 256 → s.domOn (jctDom .west) = true → (s.ctx c).waiting = some g → s.waitsAfter g = false → s.graphFits c g = true
    → s.waiters.any (fun (w : Nat × Graph) => s.waitsLonger w.1 c && s.graphFits w.1 w.2) = false →
    ∃ t, exec (.admissionPoint c) s = .next t ∧ (t.ctx c).waiting = none ∧ (if s.takePins g.wsets = none then t.graphs = s.graphs ∧ t.rf
    (JCT_EVENT .west) JCT_EVENT.REFUSED = 1 else t.graphs.length = s.graphs.length + 1 ∧ t.admitSeq = s.admitSeq + 1 ∧ (g.slotsNeeded
    .east = 0 ∨ t.east.control.contains (PassMsg.admitMsg c g.gid s.admitSeq) = true))) ∧
  (∀ (s : State) (c i : Nat) (q : List PassMsg) (g : Graph),
    s.live = true → s.east.control = .admitMsg c i g.seq :: q → s.passOn = true → s.east.turn .control = true → s.graph c i = some g →
    ∃ t, exec .admissionMsgArrive s = .next t ∧ t.east.control = q ∧ (t.graph c i).map (fun (x : Graph) => x.nodes.all (fun n => n.phase
    != NodePhase.arriving)) = some true ∧ t.regs = s.regs) ∧
  (∀ (s : State) (h : Half) (k : Token) (q : List PassMsg),
    s.live = true → (s.half h).token = .token k :: q → (s.half h).turn .token = true → s.passOn = true →
    ∃ t, exec (.tokenArrive h) s = .next t ∧ (t.half h).token = q ∧ t.rf (JCT_TOKENS_IN h) JCT_TOKENS_IN.TOKENS = (s.rf (JCT_TOKENS_IN h)
    JCT_TOKENS_IN.TOKENS + 1) % 2 ^ 32)

/-- ESCALATION, NODE_DISPATCH, NODE_COMPLETE and RETRY_NODE (R285, R288 to R291, R295 to R298, R301): a node that has been ready for
longer than its level's bound is escalated; a NOP that stands first is dispatched and completes with OK; a completed node gets its status
word in host memory and releases the node after it, and the last of a graph ends it with an entry; an OPEN node may be retried. The
PRIMARY of a graph's entry is a free value where no node was dispatched (log entry 54). The node that a half's Junction picks is
dispatched whatever its unit. A node whose unit is done with it completes, or stays open, before the nodes that wait to bind try again;
its graph goes with its last node. RETRY_NODE makes an open node ready again, or ends with a code. Next states are stated of: ESCALATION,
NODE_DISPATCH, NODE_COMPLETE, RETRY_NODE. -/
def Obligations.NodesAreDispatchedAndComplete : Prop :=
  (∀ (s : State) (r : NodeRef) (g : Graph) (n : Node),
    s.live = true → s.node r = some (g, n) → n.phase = .ready → n.escal = none → g.aborted = false → s.level g n ≤ 3 → s.rf (JCT_STARVE
    n.half (s.level g n)) JCT_STARVE.US ≠ 0 → s.us n.half - n.readyUs > s.rf (JCT_STARVE n.half (s.level g n)) JCT_STARVE.US →
    ∃ t, exec (.escalation r) s = .next t ∧ t.escalSeq = s.escalSeq + 1 ∧ (t.node r).map (fun (x : Graph × Node) => x.2) = some
    ({ n with escal := some s.escalSeq } : Node) ∧ t.rf (JCT_EVENT n.half) JCT_EVENT.ESCALATED = 1 ∧ t.rf (JCT_ESCALATIONS n.half)
    JCT_ESCALATIONS.NODES = (s.rf (JCT_ESCALATIONS n.half) JCT_ESCALATIONS.NODES + 1) % 2 ^ 32 ∧ onlyRegs [JCT_EVENT n.half,
    JCT_ESCALATIONS n.half] s ({ t with graphs := s.graphs, escalSeq := s.escalSeq } : State)) ∧
  (∀ (s : State) (h : Half) (u : UnitRef) (x : Ready) (g : Graph),
    s.live = true → s.power.gateOpen = true → s.domOn (jctDom h) = true → s.pick h u = some x → x.node.kind = 7 → s.node x.ref = some (g,
    x.node) → x.node.phase = .ready → x.level ≤ 3 →
    ∃ t, exec (.nodeDispatch h u) s = .next t ∧ (t.node x.ref).map (fun (x : Graph × Node) => x.2.phase) = some NodePhase.ended ∧ (t.node
    x.ref).map (fun (y : Graph × Node) => y.2.prim) = some 0 ∧ t.rf (JCT_DISPATCHES h) JCT_DISPATCHES.NODES = (s.rf (JCT_DISPATCHES h)
    JCT_DISPATCHES.NODES + 1) % 2 ^ 32 ∧ t.rf (JCT_READY_WAIT h x.level) JCT_READY_WAIT.US = (s.rf (JCT_READY_WAIT h x.level)
    JCT_READY_WAIT.US + (s.us h - x.node.readyUs)) % 2 ^ 32 ∧ onlyRegs [JCT_DISPATCHES h, JCT_READY_WAIT h x.level] s
    ({ t with graphs := s.graphs } : State)) ∧
  (∀ (s : State) (r : NodeRef) (g : Graph) (n : Node) (j : Nat) (m : Node),
    s.live = true → s.node r = some (g, n) → n.phase = .ended → n.releases g = true → g.aborted = false → n.kind = 7 → n.bound = [] →
    n.setBound = false → n.notify = false → n.prim ≤ 2 → s.nodesWhere (fun (g : Graph) (n : Node) => n.phase == .binding && !g.aborted) =
    [] → g.statusT1 = false → (s.func (s.ctxFunc g.ctx)).atsEn = false → g.ctx = r.ctx → g.edges = [(r.node, j)] → j ≠ r.node →
    g.nodes[j]? = some m → m.half = n.half → m.phase = .waiting → m.preds = 1 →
    ∃ t, exec (.nodeComplete r) s = .next t ∧ (t.node r).map (fun (x : Graph × Node) => x.2.phase) = some NodePhase.done ∧ (t.node
    { r with node := j }).map (fun (x : Graph × Node) => x.2.phase) = some NodePhase.ready ∧ t.regs = s.regs ∧ t.outbox = s.outbox ++
    [Output.t3Write (s.ctxFunc r.ctx) (if (s.func (s.ctxFunc r.ctx)).pasidEn then some (s.ctxPasid r.ctx) else none) (g.status + 8 *
    r.node) (leBytes 8 n.statusWord)]) ∧
  (∀ (s : State) (r : NodeRef) (g : Graph) (n : Node),
    s.live = true → s.graphs = [g] → g.ctx = r.ctx → g.gid = r.gid → r.node = 0 → g.nodes = [n] → g.edges = [] → g.pins = [] → g.ending =
    false → n.phase = .ended → n.releases g = true → g.aborted = false → n.kind = 7 → n.bound = [] → n.setBound = false → n.notify = false
    → n.prim ≤ 2 → r.ctx < 256 → s.cqFull r.ctx = false → (s.ctx r.ctx).held = [] → (s.ctx r.ctx).reset = false →
    ∃ t, exec (.nodeComplete r) s = .next t ∧ t.graphs = [] ∧ t.cqTail r.ctx = (s.cqTail r.ctx + 1) % s.cqSize r.ctx ∧ t.cqHead r.ctx =
    s.cqHead r.ctx ∧ t.rf (JCT_CTX_CQ_STATE r.ctx) JCT_CTX_CQ_STATE.PHASE = (if (s.cqTail r.ctx + 1) % s.cqSize r.ctx = 0 then 1 - s.rf
    (JCT_CTX_CQ_STATE r.ctx) JCT_CTX_CQ_STATE.PHASE else s.rf (JCT_CTX_CQ_STATE r.ctx) JCT_CTX_CQ_STATE.PHASE)) ∧
  (∀ (s : State) (r : NodeRef) (g : Graph) (n : Node),
    s.live = true → s.node r = some (g, n) → n.phase = .ended → n.releases g = false → g.aborted = false → n.kind = 7 → n.bound = [] →
    n.setBound = false → g.statusT1 = false → s.nodesWhere (fun (g : Graph) (n : Node) => n.phase == .binding && !g.aborted) = [] → g.ctx
    = r.ctx → g.gid = r.gid → s.cqFull r.ctx = false → (s.ctx r.ctx).held = [] → r.ctx < 256 →
    ∃ t, exec (.nodeComplete r) s = .next t ∧ (t.node r).map (fun (x : Graph × Node) => x.2.phase) = some NodePhase.opened ∧ t.rf
    (JCT_EVENT n.half) JCT_EVENT.OPEN_NODE = 1 ∧ t.cqTail r.ctx = (if n.notify ∨ n.prim = 3 ∨ n.prim = 4 then (s.cqTail r.ctx + 1) %
    s.cqSize r.ctx else s.cqTail r.ctx)) ∧
  (∀ (s : State) (r : NodeRef) (g : Graph) (n : Node) (f : Nat) (bs : List Byte),
    s.live = true → r.ctx < 256 → r.gid < 65536 → s.owns f r.ctx = true → s.node r = some (g, n) → n.phase = .opened → g.aborted = false →
    g.inT1 = false → (s.func (s.ctxFunc r.ctx)).atsEn = false → bs.length = 128 → ({ n with bytes := bs } : Node).kind = n.kind →
    ({ n with bytes := bs } : Node).half = n.half → (s.jctSet 2 r.ctx r.node r.gid).nodeCheck g { n with bytes := bs } = 0 →
    ∃ t, exec (.retryNode f r.ctx r.gid r.node bs) s = .next t ∧ (t.node r).map (fun (x : Graph × Node) => x.2.phase) = some
    NodePhase.ready ∧ (t.node r).map (fun (x : Graph × Node) => (x.2.attempt, x.2.bytes, x.2.readyUs)) = some (n.attempt + 1, bs, s.us
    n.half) ∧ t.rf JCT_CONTROL JCT_CONTROL.DONE = 1 ∧ t.rf JCT_CONTROL JCT_CONTROL.CODE = 0 ∧ onlyRegs [JCT_CONTROL, JCT_CONTROL_GRAPH] s
    ({ t with graphs := s.graphs, order := s.order, outbox := s.outbox } : State)) ∧
  (∀ (s : State) (r : NodeRef) (f : Nat) (bs : List Byte),
    s.live = true → r.ctx < 256 → s.owns f r.ctx = true → s.nodeIn r .opened = false →
    ∃ t, exec (.retryNode f r.ctx r.gid r.node bs) s = .next t ∧ t.rf JCT_CONTROL JCT_CONTROL.DONE = 1 ∧ t.rf JCT_CONTROL JCT_CONTROL.CODE
    = 1 ∧ onlyRegs [JCT_CONTROL, JCT_CONTROL_GRAPH] s t) ∧
  (∀ (s : State) (h : Half) (u : UnitRef) (x : Ready) (g : Graph),
    s.live = true → s.power.gateOpen = true → s.domOn (jctDom h) = true → s.pick h u = some x → s.node x.ref = some (g, x.node) →
    x.node.phase = .ready →
    ∃ t, exec (.nodeDispatch h u) s = .next t ∧ (t.node x.ref).map (fun (y : Graph × Node) => (y.2.dispatched, y.2.escal)) = some (true,
    none) ∧ t.nodeIn x.ref .ready = false) ∧
  (∀ (s : State) (r : NodeRef) (g : Graph) (n : Node),
    s.live = true → s.node r = some (g, n) → n.phase = .ended →
    ∃ t : State, exec (.nodeComplete r) s = .next t.rebind ∧ (t.graph r.ctx r.gid = none ∨ t.nodeIn r (if n.releases g = true ∨ g.aborted
    = true then .done else .opened) = true)) ∧
  (∀ (s : State) (r : NodeRef) (g : Graph) (n : Node) (f : Nat) (bs : List Byte),
    s.live = true → r.ctx < 256 → s.owns f r.ctx = true → s.node r = some (g, n) → n.phase = .opened → g.aborted = false →
    ∃ t, exec (.retryNode f r.ctx r.gid r.node bs) s = .next t ∧ t.rf JCT_CONTROL JCT_CONTROL.DONE = 1 ∧ (t.rf JCT_CONTROL
    JCT_CONTROL.CODE = 0 ∧ (t.node r).map (fun (y : Graph × Node) => (y.2.phase, y.2.attempt)) = some (NodePhase.ready, n.attempt + 1) ∨
    t.rf JCT_CONTROL JCT_CONTROL.CODE = 2 ∧ t.nodeIn r .opened = true))

/-- ABORT_GRAPH, ABORT_CONTEXT, CTX_CFG_WRITE, SQ_DOORBELL and CQ_DOORBELL (R271, R298, R299, R302, R366, R367): a graph with no node
dispatched aborts at once and its entry follows; a context's unread entries are refused; EN 1 sets HEAD and TAIL to 0 and PHASE to 1; a
doorbell of the context's owner sets its register, one of another function is discarded with DB_FOREIGN, one out of range with DB_RANGE.
An abort marks its graphs, whatever their nodes are doing, and JCT_CONTROL's CODE reads OK; a write of EN takes effect whatever domains
are on; a CQ doorbell within the unread entries moves HEAD, across the wrap too. Next states are stated of: ABORT_GRAPH, ABORT_CONTEXT,
CTX_CFG_WRITE, SQ_DOORBELL, CQ_DOORBELL. -/
def Obligations.ContextsAbortsAndDoorbells : Prop :=
  (∀ (s : State) (f c i : Nat) (g : Graph),
    s.live = true → c < 256 → i < 65536 → s.owns f c = true → s.graph c i = some g → g.aborted = false → g.ending = false → g.pins = [] →
    g.nodes.all (fun n => n.phase == .ready || n.phase == .waiting) = true → g.statusT1 = false → s.cqFull c = false → (s.ctx c).held = []
    →
    ∃ t, exec (.abortGraph f c i) s = .next t ∧ t.graph c i = none ∧ t.cqTail c = (s.cqTail c + 1) % s.cqSize c ∧ t.rf JCT_CONTROL
    JCT_CONTROL.DONE = 1 ∧ t.rf JCT_CONTROL JCT_CONTROL.CODE = 0 ∧ t.rf JCT_CONTROL JCT_CONTROL.OP = 0 ∧ t.rf JCT_CONTROL
    JCT_CONTROL.CONTEXT = c ∧ t.rf JCT_CONTROL_GRAPH JCT_CONTROL_GRAPH.GRAPH_ID = i) ∧
  (∀ (s : State) (f c i : Nat),
    s.live = true → c < 256 → s.owns f c = false →
    ∃ t, exec (.abortGraph f c i) s = .next t ∧ t.rf JCT_CONTROL JCT_CONTROL.DONE = 1 ∧ t.rf JCT_CONTROL JCT_CONTROL.CODE = 3 ∧ onlyLogged
    [JCT_CONTROL, JCT_CONTROL_GRAPH] s t) ∧
  (∀ (s : State) (f c : Nat),
    s.live = true → c < 256 → s.owns f c = true → s.ctxGraphs c = [] → (s.ctx c).waiting = none →
    ∃ t, exec (.abortContext f c) s = .next t ∧ t.sqHead c = s.sqTail c ∧ t.sqTail c = s.sqTail c ∧ t.rf JCT_CONTROL JCT_CONTROL.DONE = 1
    ∧ t.rf JCT_CONTROL JCT_CONTROL.CODE = 0 ∧ t.rf (JCT_REFUSALS .west) JCT_REFUSALS.GRAPHS = (s.rf (JCT_REFUSALS .west)
    JCT_REFUSALS.GRAPHS + s.sqUnread c) % 2 ^ 32) ∧
  (∀ (s : State) (c v : Nat),
    s.live = true → c < 256 → (s.ctxEn c = false ∨ normWord (JCT_CTX_CFG c) (bits v 0 23) / 2 = (s.rd (JCT_CTX_CFG c)).toNat / 2) → s.on
    BOOT_GLOBAL_STATUS BOOT_GLOBAL_STATUS.FIT_MISMATCH = false → s.jctPage.map (fun (p : PageWait) => p.ctx) ≠ some c → (normWord
    (JCT_CTX_CFG c) (bits v 0 23) % 16 = 3 ∨ normWord (JCT_CTX_CFG c) (bits v 0 23) % 16 = 5) → (∀ d ∈ [127, 131, 132], s.domOn d = true)
    →
    ∃ t, exec (.ctxCfgWrite c v) s = .next t ∧ t.rd (JCT_CTX_CFG c) = BitVec.ofNat 32 (normWord (JCT_CTX_CFG c) (bits v 0 23)) ∧ t.sqHead
    c = 0 ∧ t.sqTail c = 0 ∧ t.cqHead c = 0 ∧ t.cqTail c = 0 ∧ t.rf (JCT_CTX_CQ_STATE c) JCT_CTX_CQ_STATE.PHASE = 1 ∧ onlyRegs
    [JCT_CTX_CFG c, JCT_CTX_SQ_STATE c, JCT_CTX_CQ_STATE c] s t) ∧
  (∀ (s : State) (c v : Nat),
    s.live = true → c < 256 → s.ctxEn c = true → normWord (JCT_CTX_CFG c) (bits v 0 23) % 2 = 0 → (s.graphs.any (fun g => g.ctx == c) =
    true ∨ (s.ctx c).waiting.isSome = true) →
    ∃ t, exec (.ctxCfgWrite c v) s = .next t ∧ onlyLogged [] s t) ∧
  (∀ (s : State) (f c v : Nat),
    s.live = true → c < 256 → s.funcActive f = true → s.owns f c = true → v < s.sqSize c → s.ctxEn c = true → s.halfReady .west = true →
    ∃ t, exec (.sqDoorbell f c v) s = .next t ∧ t.sqTail c = v ∧ t.sqHead c = s.sqHead c ∧ onlyRegs [JCT_CTX_SQ_STATE c] s t) ∧
  (∀ (s : State) (f c v : Nat),
    s.live = true → c < 256 → s.funcActive f = true → s.owns f c = true → v < s.cqSize c → s.ctxEn c = true → s.halfReady .west = true →
    s.cqHead c ≤ v → v ≤ s.cqTail c → s.cqTail c < s.cqSize c → (s.ctx c).held = [] →
    ∃ t, exec (.cqDoorbell f c v) s = .next t ∧ t.cqHead c = v ∧ t.cqTail c = s.cqTail c ∧ onlyRegs [JCT_CTX_CQ_STATE c] s t) ∧
  (∀ (s : State) (f c v : Nat),
    s.live = true → c < 256 → s.funcActive f = true → s.owns f c = false →
    ∃ t, exec (.sqDoorbell f c v) s = .next t ∧ exec (.cqDoorbell f c v) s = exec (.sqDoorbell f c v) s ∧ t.rf PCI_EVENT
    PCI_EVENT.DB_FOREIGN = 1 ∧ onlyLogged [PCI_EVENT] s t) ∧
  (∀ (s : State) (f c v : Nat),
    s.live = true → c < 256 → s.funcActive f = true → s.owns f c = true → s.sqSize c ≤ v →
    ∃ t, exec (.sqDoorbell f c v) s = .next t ∧ t.rf PCI_EVENT PCI_EVENT.DB_RANGE = 1 ∧ onlyLogged [PCI_EVENT] s t) ∧
  (∀ (s : State) (f c i : Nat) (g : Graph),
    s.live = true → c < 256 → s.owns f c = true → s.graph c i = some g → g.aborted = false →
    ∃ t, exec (.abortGraph f c i) s = .next t ∧ t.rf JCT_CONTROL JCT_CONTROL.CODE = 0 ∧ ((t.graph c i).map (fun (x : Graph) =>
    x.aborted)).getD true = true) ∧
  (∀ (s : State) (f c : Nat),
    s.live = true → c < 256 → s.owns f c = true →
    ∃ t, exec (.abortContext f c) s = .next t ∧ t.rf JCT_CONTROL JCT_CONTROL.CODE = 0 ∧ (t.ctx c).waiting = none ∧ (s.ctxGraphs c).all
    (fun i => ((t.graph c i).map (fun (x : Graph) => x.aborted)).getD true) = true) ∧
  (∀ (s : State) (c v : Nat),
    s.live = true → c < 256 → (s.ctxEn c = false ∨ normWord (JCT_CTX_CFG c) (bits v 0 23) / 2 = (s.rd (JCT_CTX_CFG c)).toNat / 2) → s.on
    BOOT_GLOBAL_STATUS BOOT_GLOBAL_STATUS.FIT_MISMATCH = false → s.pcie.waitReq.all (fun f => decide (f ≤ 64)) = true → (normWord
    (JCT_CTX_CFG c) (bits v 0 23) % 16 = 3 ∨ normWord (JCT_CTX_CFG c) (bits v 0 23) % 16 = 5) →
    ∃ t, exec (.ctxCfgWrite c v) s = .next t ∧ t.rd (JCT_CTX_CFG c) = BitVec.ofNat 32 (normWord (JCT_CTX_CFG c) (bits v 0 23)) ∧ t.sqHead
    c = 0 ∧ t.sqTail c = 0 ∧ t.cqHead c = 0 ∧ t.cqTail c = 0 ∧ t.rf (JCT_CTX_CQ_STATE c) JCT_CTX_CQ_STATE.PHASE = 1) ∧
  (∀ (s : State) (c v : Nat),
    s.live = true → c < 256 → (s.ctxEn c = false ∨ normWord (JCT_CTX_CFG c) (bits v 0 23) / 2 = (s.rd (JCT_CTX_CFG c)).toNat / 2) →
    s.graphs.any (fun g => g.ctx == c) = false → (s.ctx c).waiting = none → s.pcie.waitReq.all (fun f => decide (f ≤ 64)) = true →
    (normWord (JCT_CTX_CFG c) (bits v 0 23) % 16 = 2 ∨ normWord (JCT_CTX_CFG c) (bits v 0 23) % 16 = 4) →
    ∃ t, exec (.ctxCfgWrite c v) s = .next t ∧ t.rd (JCT_CTX_CFG c) = BitVec.ofNat 32 (normWord (JCT_CTX_CFG c) (bits v 0 23)) ∧ t.ctxEn c
    = false) ∧
  (∀ (s : State) (f c v : Nat),
    s.live = true → c < 256 → s.funcActive f = true → s.owns f c = true → v < s.cqSize c → s.ctxEn c = true → s.halfReady .west = true →
    (v + s.cqSize c - s.cqHead c % s.cqSize c) % s.cqSize c ≤ (s.cqTail c + s.cqSize c - s.cqHead c % s.cqSize c) % s.cqSize c → (s.ctx
    c).held = [] →
    ∃ t, exec (.cqDoorbell f c v) s = .next t ∧ t.cqHead c = v ∧ t.cqTail c = s.cqTail c ∧ onlyRegs [JCT_CTX_CQ_STATE c] s t)

/-- PCIE_LINK_TRAIN, PCIE_TRAIN_RETRY, VF_FLR, FLR_DONE, PF_RESET and D3HOT_ENTRY (R360, R361, R375 to R378): a training ends with a link
of a supported speed and width or is recorded and tried again; a function-level reset marks the function and resets its contexts, and once
they are idle clears its state and their EN; a reset of the physical function removes the virtual functions and gives it every context.
What a reset of the physical function does to NumVFs and page requests is the model's choice (log entry 10). A reset of a function, or of
the port, resets and aborts its contexts whatever they hold; a function with an enabled context is reset as it enters D3hot; while a graph
is left the reset of a function does not end. A training wakes the port's domains. Next states are stated of: PCIE_LINK_TRAIN,
PCIE_TRAIN_RETRY, VF_FLR, FLR_DONE, PF_RESET, D3HOT_ENTRY. -/
def Obligations.HostPortTrainingAndResets : Prop :=
  (∀ (s : State) (l : PcieLink),
    (s.stage = .running ∨ s.stage = .recovery) → s.pcie.training = true → l.speed ≤ 2 → (l.width = 16 ∨ l.width = 8 ∨ l.width = 4) →
    s.domOn 131 = true → s.domOn 132 = true →
    ∃ t, exec (.pcieLinkTrain (some l)) s = .next t ∧ t.pcie.link = some l ∧ t.pcie.training = false ∧ onlyRegs [] s
    ({ t with pcie := { t.pcie with link := s.pcie.link, training := s.pcie.training } } : State)) ∧
  (∀ (s : State) (l : Option PcieLink),
    (s.stage = .running ∨ s.stage = .recovery) → s.pcie.training = true → l.all (fun x => !linkOk x) = true →
    ∃ t, exec (.pcieLinkTrain l) s = .next t ∧ t.pcie.link = none ∧ t.pcie.training = false ∧ onlyLogged [] s
    ({ t with pcie := { t.pcie with link := s.pcie.link, training := s.pcie.training } } : State)) ∧
  (∀ (s : State),
    (s.stage = .running ∨ s.stage = .recovery) → s.pcie.link = none →
    ∃ t, exec .pcieTrainRetry s = .next t ∧ t = ({ s with pcie := { s.pcie with training := true } } : State)) ∧
  (∀ (s : State) (f : Nat),
    s.live = true → f ≠ 0 → f < 64 → s.funcExists f = true → (s.func f).flr = false → s.jctPage = none → (∀ c < 256, s.ctxFunc c = f →
    (s.ctxGraphs c = [] ∧ (s.ctx c).waiting = none ∧ s.sqUnread c = 0 ∧ (s.ctx c).held = [])) →
    ∃ t, exec (.vfFlr f) s = .next t ∧ (t.func f) = ({ s.func f with flr := true, d3 := false } : FuncSt) ∧ t.rf (PCI_FLR_ACTIVE (f / 32))
    { off := 0, lo := f % 32, len := 1 } = 1 ∧ t.graphs = s.graphs ∧ t.outbox = s.outbox ∧ (∀ c < 256, s.ctxFunc c = f → (t.ctx c).reset =
    true ∧ t.cqHead c = s.cqTail c) ∧ (∀ g, g ≠ f → t.func g = s.func g)) ∧
  (∀ (s : State) (f : Nat),
    s.live = true → f < 64 → (s.func f).flr = true → (∀ c < 256, s.ctxFunc c = f → s.ctxGraphs c = [] ∧ (s.ctx c).held = []) →
    ∃ t, exec (.flrDone f) s = .next t ∧ (t.func f) = ({ d3 := (s.func f).d3 } : FuncSt) ∧ t.rf (PCI_FLR_ACTIVE (f / 32))
    { off := 0, lo := f % 32, len := 1 } = 0 ∧ t.rf PCI_EVENT PCI_EVENT.FLR_DONE = 1 ∧ (∀ c < 256, s.ctxFunc c = f → t.ctxEn c = false ∧
    (t.ctx c).reset = false) ∧ (∀ g, g ≠ f → t.func g = s.func g) ∧ t.graphs = s.graphs) ∧
  (∀ (s : State) (d : Bool),
    s.live = true → s.graphs = [] → s.ctxs = [] → s.engines = [] → s.pcie.requests = [] → s.pcie.waitReq = [] → (∀ c < 256, s.sqUnread c =
    0) → (∀ h, s.nvCmd h .host = none ∧ (s.half h).nv.running = []) → (∀ h, (s.half h).ldr = ({} : LoaderSt)) →
    ∃ t, exec (.pfReset d) s = .next t ∧ t.pcie.vfEnable = false ∧ t.pcie.numVfs = 0 ∧ t.pcie.priEn = false ∧ (t.func 0).flr = true ∧ t.rf
    (PCI_FLR_ACTIVE 0) { off := 0, lo := 0, len := 1 } = 1 ∧ t.pcie.training = (d || s.pcie.training) ∧ t.pcie.link = (if d then none else
    s.pcie.link) ∧ (∀ c < 256, t.ctxFunc c = 0 ∧ (t.ctx c).reset = true) ∧ t.graphs = []) ∧
  (∀ (s : State) (f : Nat),
    s.live = true → s.funcExists f = true → (s.func f).d3 = false → (∀ c < 256, s.ctxFunc c = f → s.ctxEn c = false) →
    ∃ t, exec (.d3hotEntry f) s = .next t ∧ t = s.setFunc f { s.func f with d3 := true }) ∧
  (∀ (s : State) (f : Nat),
    s.live = true → f ≠ 0 → s.funcExists f = true → (s.func f).flr = false →
    ∃ t, exec (.vfFlr f) s = .next t ∧ (t.func f).flr = true ∧ (t.func f).d3 = false ∧ t.rf (PCI_FLR_ACTIVE (f / 32))
    { off := 0, lo := f % 32, len := 1 } = 1 ∧ (s.ctxsOf f).all (fun c => (t.ctx c).reset && decide ((t.ctx c).waiting = none) &&
    (s.ctxGraphs c).all (fun i => ((t.graph c i).map (fun (x : Graph) => x.aborted)).getD true)) = true) ∧
  (∀ (s : State) (f : Nat),
    s.live = true → f < 64 → (s.func f).flr = true → (s.ctxsOf f).all s.ctxIdle = false →
    exec (.flrDone f) s = .next s) ∧
  (∀ (s : State) (f : Nat),
    s.live = true → f < 64 → (s.func f).flr = true → (s.ctxsOf f).all s.ctxIdle = true →
    ∃ t, exec (.flrDone f) s = .next t ∧ t.func f = ({ d3 := (s.func f).d3 } : FuncSt) ∧ t.rf (PCI_FLR_ACTIVE (f / 32))
    { off := 0, lo := f % 32, len := 1 } = 0 ∧ t.rf PCI_EVENT PCI_EVENT.FLR_DONE = 1 ∧ (s.ctxsOf f).all (fun c => !(t.ctxEn c) && !((t.ctx
    c).reset)) = true) ∧
  (∀ (s : State) (d : Bool),
    s.live = true →
    ∃ t, exec (.pfReset d) s = .next t ∧ t.pcie.vfEnable = false ∧ t.pcie.numVfs = 0 ∧ t.pcie.priEn = false ∧ (t.func 0).flr = true ∧ t.rf
    (PCI_FLR_ACTIVE 0) { off := 0, lo := 0, len := 1 } = 1 ∧ (List.range 256).all (fun c => (t.ctx c).reset && decide (t.ctxFunc c = 0) &&
    decide ((t.ctx c).waiting = none) && (s.ctxGraphs c).all (fun i => ((t.graph c i).map (fun (x : Graph) => x.aborted)).getD true)) =
    true ∧ (d = true → t.pcie.training = true ∧ t.pcie.link = none)) ∧
  (∀ (s : State) (f : Nat),
    s.live = true → s.funcExists f = true → (s.func f).d3 = false → (s.func f).flr = false → (s.ctxsOf f).any s.ctxEn = true →
    ∃ t, exec (.d3hotEntry f) s = .next t ∧ (t.func f).d3 = true ∧ (t.func f).flr = true ∧ (s.ctxsOf f).all (fun c => (t.ctx c).reset &&
    (s.ctxGraphs c).all (fun i => ((t.graph c i).map (fun (x : Graph) => x.aborted)).getD true)) = true) ∧
  (∀ (s : State) (l : PcieLink),
    (s.stage = .running ∨ s.stage = .recovery) → s.pcie.training = true → linkOk l = true →
    ∃ t, exec (.pcieLinkTrain (some l)) s = .next t ∧ t.pcie.link = some l ∧ t.pcie.training = false ∧ t.graphs = s.graphs)

/-- ATS_INVALIDATE, PRI_RESET, T3_READ_FAIL, POISONED_WRITE, MSIX_UNMASK and PCI_CTX_FUNC_WRITE (R364, R370 to R374, R379): held
translations of a range are dropped and the completion is sent; with PRI off an outstanding page request ends its transfer; a failed read
and a poisoned write are recorded; an unmasked pending vector is sent once; a context changes its owner only while EN is 0. The layout of
the vector table is the standard's (log entry 14). PRI can be reset with any requests outstanding; a failed read is recorded whoever made
it; an unmasking sends every vector that is pending and now open. Next states are stated of: ATS_INVALIDATE, PRI_RESET, T3_READ_FAIL,
POISONED_WRITE, MSIX_UNMASK, PCI_CTX_FUNC_WRITE. -/
def Obligations.HostPortErrorsVectorsAndOwners : Prop :=
  (∀ (s : State) (f pasid addr len tag : Nat),
    s.live = true → (s.func f).atsEn = true →
    ∃ t, exec (.atsInvalidate f pasid addr len tag) s = .next t ∧ t.outbox = s.outbox ++ [Output.invalidateDone f tag] ∧ t.regs = s.regs ∧
    ∀ h : Half, (t.half h).atc = (s.half h).atc.filter (fun (e : Nat × Nat × Nat) => !(e.1 == f && e.2.1 == pasid && decide (addr / 4096 ≤
    e.2.2) && decide (e.2.2 * 4096 < addr + len)))) ∧
  (∀ (s : State),
    s.live = true → s.pcie.requests = [] → s.pcie.waitReq = [] →
    ∃ t, exec (.priReset 0) s = .next t ∧ t = ({ s with pcie := { s.pcie with priEn := false } } : State)) ∧
  (∀ (s : State) (e : Nat),
    s.live = true → e < 64 → s.pcie.requests = [e] → s.pcie.waitReq = [] → s.pagePending e = true → dscDstKind (s.engine e).desc ≠ 4 →
    ∃ t, exec (.priReset 0) s = .next t ∧ t.pcie.priEn = false ∧ t.pcie.requests = [] ∧ t.strState e = 0 ∧ t.rf (STR_EVENT (engHalf e))
    STR_EVENT.PAGE_FAULT = 1) ∧
  (∀ (s : State) (addr pasid : Nat),
    s.live = true →
    ∃ t, exec (.t3ReadFail none addr pasid) s = .next t ∧ t.rf PCI_EVENT PCI_EVENT.T3_READ_FAIL = 1 ∧ onlyLogged [PCI_EVENT] s t) ∧
  (∀ (s : State) (r : NodeRef) (addr pasid e k : Nat),
    s.live = true → e < 64 → s.moving e = true → (s.engine e).node = some r → dscSrcKind (s.engine e).desc = 2 → (∀ f < 64, s.moving f =
    true → (s.engine f).node = some r → f = e) → dscDstKind (s.engine e).desc = 1 → s.power.gateOpen = true → k = (s.engine e).done +
    (s.engine e).pack.length + 128 * 2 ^ bits (s.func 0).devCtl 12 3 → k < dscBytes (s.engine e).desc →
    ∃ t, exec (.t3ReadFail (some r) addr pasid) s = .next t ∧ t.rf PCI_EVENT PCI_EVENT.T3_READ_FAIL = 1 ∧ (t.engine e).done = k ∧
    (t.engine e).bad = true ∧ (t.engine e).pack = [] ∧ t.strState e = 2) ∧
  (∀ (s : State) (f addr v : Nat),
    s.live = true →
    ∃ t, exec (.poisonedWrite f addr v) s = .next t ∧ t.rf PCI_EVENT PCI_EVENT.POISONED_WRITE = 1 ∧ onlyLogged [PCI_EVENT] s t) ∧
  (∀ (s : State) (f e : Nat),
    s.live = true → s.funcActive f = true → (s.func f).msixEn = true → (s.func f).pendBits = [e] → e < 32 → (s.func f).unmasked.contains e
    = true →
    ∃ t, exec (.msixUnmask f none) s = .next t ∧ (t.func f) = ({ s.func f with msixMask := false, pendBits := [] } : FuncSt) ∧ t.outbox =
    s.outbox ++ [Output.msix f e] ∧ t.regs = s.regs) ∧
  (∀ (s : State) (f e : Nat),
    s.live = true → s.funcActive f = true → (s.func f).msixEn = true → (s.func f).msixMask = false → (s.func f).pendBits = [e] → e < 32 →
    ∃ t, exec (.msixUnmask f (some e)) s = .next t ∧ (t.func f).pendBits = [] ∧ (t.func f).unmasked.contains e = true ∧ t.outbox =
    s.outbox ++ [Output.msix f e] ∧ t.regs = s.regs) ∧
  (∀ (s : State) (c v : Nat),
    s.live = true → c < 256 → s.ctxEn c = false → v % 64 ≤ s.pcie.numVfs → (v % 64 ≠ 0 ∨ 8 ≤ v / 64 % 32) →
    ∃ t, exec (.pciCtxFuncWrite c v) s = .next t ∧ t.rd (PCI_CTX_FUNC c) = BitVec.ofNat 32 (v % 2048) ∧ onlyRegs [PCI_CTX_FUNC c] s t) ∧
  (∀ (s : State) (c v : Nat),
    s.live = true → c < 256 → (s.ctxEn c = true ∧ v % 2048 ≠ (s.rd (PCI_CTX_FUNC c)).toNat) ∨ s.pcie.numVfs < v % 64 ∨ v % 64 = 0 ∧ v / 64
    % 32 < 8 →
    ∃ t, exec (.pciCtxFuncWrite c v) s = .next t ∧ onlyLogged [] s t) ∧
  (∀ (s : State),
    s.live = true →
    ∃ t, exec (.priReset 0) s = .next t ∧ t.pcie.priEn = false) ∧
  (∀ (s : State) (n : Option NodeRef) (addr pasid : Nat),
    s.live = true →
    ∃ t, exec (.t3ReadFail n addr pasid) s = .next t ∧ t.rf PCI_EVENT PCI_EVENT.T3_READ_FAIL = 1) ∧
  (∀ (s : State) (f : Nat) (x : FuncSt),
    s.live = true → s.funcActive f = true → x = { s.func f with msixMask := false } →
    ∃ t, exec (.msixUnmask f none) s = .next t ∧ t.func f =
    ({ x with pendBits := x.pendBits.filter (fun e => !(decide (e < 32) && x.vectorOpen e)) } : FuncSt) ∧ t.outbox = s.outbox ++
    ((List.range 32).filter (fun e => x.vectorOpen e && x.pendBits.contains e)).map (Output.msix f) ∧ t.regs = s.regs) ∧
  (∀ (s : State) (f e : Nat) (x : FuncSt),
    s.live = true → s.funcActive f = true → e < 32 → x = { s.func f with unmasked := insertNat e (s.func f).unmasked } →
    ∃ t, exec (.msixUnmask f (some e)) s = .next t ∧ t.func f =
    ({ x with pendBits := x.pendBits.filter (fun e => !(decide (e < 32) && x.vectorOpen e)) } : FuncSt) ∧ t.outbox = s.outbox ++
    ((List.range 32).filter (fun e => x.vectorOpen e && x.pendBits.contains e)).map (Output.msix f) ∧ t.regs = s.regs)

/-- POWER_ON, POWER_OFF, RAIL_OUT_OF_RANGE, DEVICE_RESET, THERMAL_TRIP, REFCLK_LOSS and REFCLK_RETURN (R114, R400, R441, R453, R464 to
R468, R472, Table 16.4): power samples the straps; without power and after a device reset the arrays, Ledgers and OTP rows stay and the
work, the memory and every register but those that survive are gone; a trip holds the device in reset with TRIP set; a rail out of its
range with PERST_N deasserted ends in the named refusal. What a device reset leaves of T1, T2 and the buffers is the model's choice (log
entry 19). A trip, a power-off and a device reset stop all work whatever the NV controllers are doing. Next states are stated of:
POWER_ON, POWER_OFF, RAIL_OUT_OF_RANGE, DEVICE_RESET, THERMAL_TRIP, REFCLK_LOSS, REFCLK_RETURN. -/
def Obligations.PowerResetsAndTrips : Prop :=
  (∀ (s : State) (v : Nat),
    s.stage = .off →
    exec (.powerOn v) s = .next ({ s with stage := .held, boot := { s.boot with straps := v % 16 } } : State)) ∧
  (∀ (s : State),
    s.stage ≠ .off → (∀ h, s.nvCmd h .host = none) → (∀ h, s.nvCmd h .loader = none) → (∀ h, (s.half h).nv.running = []) → (∀ h, (s.half
    h).nv.pending = []) → (∀ h, (s.half h).nv.wsets = []) → (∀ h, (s.half h).nv.cfg = []) → (∀ h, (s.half h).nv.refreshes = []) → (∀ h,
    (s.half h).nv.pulseQ = []) →
    ∃ t, exec .powerOff s = .next t ∧ t.stage = Stage.off ∧ t.boot.flash = s.boot.flash ∧ t.graphs = [] ∧ t.ctxs = [] ∧ t.engines = [] ∧
    t.ports = [] ∧ (∀ h, (t.half h).mem = ({} : MemHalf) ∧ (t.half h).nv.rows = (s.half h).nv.rows ∧ (t.half h).nv.ledger = (s.half
    h).nv.ledger ∧ (t.half h).nv.otp = (s.half h).nv.otp) ∧ (∀ a, keptCold a = true → t.rd a = s.rd a) ∧ (∀ a, keptCold a = false → (∀ h,
    ¬(NV_PROT_STATE h 0 ≤ a ∧ a < NV_PROT_STATE h 512)) → t.rd a = resetWord a)) ∧
  (∀ (s : State) (r : Nat),
    exec (.railOutOfRange r) s = (if s.stage = .off ∨ s.boot.perst = true then .next s else .refused .behaviourUnspecified)) ∧
  (∀ (s : State) (n : Nat),
    s.stage ≠ .off → s.stage ≠ .thermHeld → s.boot.perst = false → 10000 ≤ n → (∀ h, s.nvCmd h .host = none) → (∀ h, s.nvCmd h .loader =
    none) → (∀ h, (s.half h).nv.running = []) → (∀ h, (s.half h).nv.pending = []) → (∀ h, (s.half h).nv.wsets = []) → (∀ h, (s.half
    h).nv.cfg = []) → (∀ h, (s.half h).nv.refreshes = []) → (∀ h, (s.half h).nv.pulseQ = []) →
    ∃ t, exec (.deviceReset n) s = .next t ∧ t.stage = Stage.held ∧ t.boot.perst = true ∧ t.boot.cause = 1 ∧ t.boot.flash = s.boot.flash ∧
    t.graphs = [] ∧ t.ctxs = [] ∧ t.engines = [] ∧ t.ports = [] ∧ (∀ h, (t.half h).mem = ({} : MemHalf) ∧ (t.half h).nv.rows = (s.half
    h).nv.rows ∧ (t.half h).nv.ledger = (s.half h).nv.ledger ∧ (t.half h).nv.otp = (s.half h).nv.otp) ∧ (∀ a, keptReg a = true → t.rd a =
    s.rd a) ∧ (∀ a, keptReg a = false → a ≠ PWR_EVENT → a ≠ SEC_STATE → (∀ h, ¬(NV_PROT_STATE h 0 ≤ a ∧ a < NV_PROT_STATE h 512)) → t.rd a
    = resetWord a)) ∧
  (∀ (s : State) (n : Nat),
    n < 1000 →
    exec (.deviceReset n) s = .next s) ∧
  (∀ (s : State),
    s.stage ≠ .off → s.stage ≠ .thermHeld → (∀ h, s.nvCmd h .host = none) → (∀ h, s.nvCmd h .loader = none) → (∀ h, (s.half h).nv.running
    = []) → (∀ h, (s.half h).nv.pending = []) → (∀ h, (s.half h).nv.wsets = []) → (∀ h, (s.half h).nv.cfg = []) → (∀ h, (s.half
    h).nv.refreshes = []) → (∀ h, (s.half h).nv.pulseQ = []) →
    ∃ t, exec .thermalTrip s = .next t ∧ t.stage = Stage.thermHeld ∧ t.boot.cause = 2 ∧ t.rf PWR_EVENT PWR_EVENT.TRIP = 1 ∧ t.rd PWR_TEMP
    = s.rd PWR_TEMP ∧ t.outbox.getLast? = some (Output.pin "THERMTRIP_N" false) ∧ t.graphs = [] ∧ t.ctxs = [] ∧ t.engines = [] ∧ t.ports =
    [] ∧ (∀ h, (t.half h).mem = ({} : MemHalf) ∧ (t.half h).nv.rows = (s.half h).nv.rows ∧ (t.half h).nv.ledger = (s.half h).nv.ledger ∧
    (t.half h).nv.otp = (s.half h).nv.otp)) ∧
  (∀ (s : State),
    s.stage ≠ .off →
    exec .refclkLoss s = .next ({ s with boot := { s.boot with refOk := false } } : State) ∧ exec .refclkReturn s = .next
    ({ s with boot := { s.boot with refOk := true } } : State)) ∧
  (∀ (s : State),
    s.stage ≠ .off → s.stage ≠ .thermHeld →
    ∃ t, exec .thermalTrip s = .next t ∧ t.stage = Stage.thermHeld ∧ t.boot.cause = 2 ∧ t.rf PWR_EVENT PWR_EVENT.TRIP = 1 ∧ t.rd PWR_TEMP
    = s.rd PWR_TEMP ∧ t.outbox.getLast? = some (Output.pin "THERMTRIP_N" false) ∧ t.graphs = [] ∧ t.ctxs = [] ∧ t.engines = [] ∧ t.ports =
    [] ∧ t.boot.flash = s.boot.flash ∧ ∀ h, (t.half h).mem = ({} : MemHalf) ∧ (t.half h).cswOps = [] ∧ (t.half h).accesses = []) ∧
  (∀ (s : State),
    s.stage ≠ .off →
    ∃ t, exec .powerOff s = .next t ∧ t.stage = Stage.off ∧ t.outbox = s.outbox ∧ t.pending = s.pending ∧ t.graphs = [] ∧ t.ctxs = [] ∧
    t.engines = [] ∧ t.ports = [] ∧ t.boot.flash = s.boot.flash ∧ ∀ h, (t.half h).mem = ({} : MemHalf) ∧ (t.half h).cswOps = [] ∧ (t.half
    h).accesses = []) ∧
  (∀ (s : State) (n : Nat),
    s.stage ≠ .off → s.stage ≠ .thermHeld → s.boot.perst = false → 10000 ≤ n →
    ∃ t, exec (.deviceReset n) s = .next t ∧ t.stage = Stage.held ∧ t.boot.perst = true ∧ t.boot.cause = 1 ∧ t.outbox.getLast? = some
    (Output.pin "XSPI_RESET_N" false) ∧ t.graphs = [] ∧ t.ctxs = [] ∧ t.engines = [] ∧ t.ports = [] ∧ t.boot.flash = s.boot.flash ∧ ∀ h,
    (t.half h).mem = ({} : MemHalf) ∧ (t.half h).cswOps = [] ∧ (t.half h).accesses = []) ∧
  (∀ (s : State) (n : Nat),
    s.stage = .thermHeld → s.boot.perst = false → 10000 ≤ n →
    exec (.deviceReset n) s = .next
    ({ s with boot := { s.boot with perst := true }, outbox := s.outbox ++ [Output.pin "XSPI_RESET_N" false] } : State))

/-- PERST_RELEASE, TRIAL_EXPIRE, MGMT_RESTART, MGMT_RESTART_DONE, POWER_RESTART, POWER_RESTART_DONE, CONTROLLER_WATCHDOG,
NV_CONTROLLER_RESET and DEVICE_WATCHDOG_EXPIRE (R28 to R30, R150, R152, R400, R421, R422, R425, R426, R449): the device boots into work,
or into recovery when a kind has no image; a controller restarts, and again with a verified image; a trial that expires restarts its
controller or resets the device; both NV controllers stop for the watchdog and are reset once no pulse runs. That PERST_RELEASE runs the
whole boot as one command is the model's choice (log entry 18), and so is what a restart does without a verified image (log entry 26). The
end of a restart of the management controller does all that waited for it, in order. The device watchdog stops both NV controllers. Next
states are stated of: PERST_RELEASE, TRIAL_EXPIRE, MGMT_RESTART, POWER_RESTART, POWER_RESTART_DONE, MGMT_RESTART_DONE,
CONTROLLER_WATCHDOG, NV_CONTROLLER_RESET, DEVICE_WATCHDOG_EXPIRE. -/
def Obligations.BootAndRestarts : Prop :=
  (∀ (s : State) (o hot : Bool) (fw fe fb : Nat),
    (s.stage = .held ∨ s.stage = .thermHeld ∧ hot = false) → s.boot.perst = true → s.west.nv.stopping = false → s.east.nv.stopping = false
    →
    ∃ t, exec (.perstRelease o fw fe fb hot) s = .next t ∧ t.stage = (if (({ s with boot := { s.boot with flashBad := fb } } :
    State).perstUp.bootLoad o).2.all id then Stage.running else Stage.recovery) ∧ t.rf BOOT_STATUS BOOT_STATUS.STAGE = (if
    (({ s with boot := { s.boot with flashBad := fb } } : State).perstUp.bootLoad o).2.all id then 5 else 6) ∧ t.boot.perst = false) ∧
  (∀ (s : State) (o hot : Bool) (fw fe fb : Nat),
    s.stage = .held → s.boot.perst = true → s.west.nv.stopping = false → s.east.nv.stopping = false → s.boot.flash = [] →
    ∃ t, exec (.perstRelease o fw fe fb hot) s = .next t ∧ t.stage = Stage.recovery ∧ t.rf BOOT_STATUS BOOT_STATUS.FAIL_KIND = 7) ∧
  (∀ (s : State) (o : Bool) (fw fe fb : Nat),
    s.stage = .thermHeld → s.boot.perst = true → s.west.nv.stopping = false → s.east.nv.stopping = false →
    exec (.perstRelease o fw fe fb true) s = .next ({ s with boot := { s.boot with perst := false } } : State)) ∧
  (∀ (s : State) (k : Nat),
    s.live = true → (k = 1 ∨ k = 2) → s.onTrial k = true →
    ∃ t, exec (.trialExpire k) s = .next t ∧ t.onTrial k = false ∧ t.ctrlDown k = true ∧ (∀ j < 3, j ≠ k → t.onTrial j = s.onTrial j) ∧
    t.graphs = s.graphs) ∧
  (∀ (s : State),
    s.live = true → s.onTrial 0 = true →
    ∃ t, exec (.trialExpire 0) s = .next t ∧ t.stage = Stage.held ∧ t.boot.perst = true ∧ t.boot.cause = 3 ∧ t.graphs = []) ∧
  (∀ (s : State),
    s.live = true → s.ctrlDown 1 = false → s.onTrial 1 = false →
    ∃ t, exec .mgmtRestart s = .next t ∧ t.ctrlDown 1 = true ∧ t.sec.held = none ∧ t.boot.update = none ∧ t.regs = s.regs ∧ t.graphs =
    s.graphs) ∧
  (∀ (s : State),
    s.live = true → s.ctrlDown 2 = false → s.onTrial 2 = false →
    exec .powerRestart s = .next ({ s with power := { s.power with restarting := true } } : State)) ∧
  (∀ (s : State),
    s.live = true → (s.ctrlDown 1 = true ∨ s.onTrial 1 = true) →
    ∃ t, exec .mgmtRestart s = .next t ∧ onlyLogged [] s t) ∧
  (∀ (s : State),
    s.live = true → (s.ctrlDown 2 = true ∨ s.onTrial 2 = true) →
    ∃ t, exec .powerRestart s = .next t ∧ onlyLogged [] s t) ∧
  (∀ (s : State),
    s.live = true → s.power.restarting = true →
    ∃ t, exec .powerRestartDone s = .next t ∧ t.power.restarting = !(s.pickImage 2).2 ∧ t.graphs = s.graphs) ∧
  (∀ (s : State),
    s.live = true → s.power.mgmtRestarting = true → s.on SEC_MBOX_CTRL SEC_MBOX_CTRL.BUSY = false → s.csw.held = [] →
    ∃ t, exec .mgmtRestartDone s = .next t ∧ t.power.mgmtRestarting = !(s.pickImage 1).2 ∧ t.graphs = s.graphs) ∧
  (∀ (s : State) (c : Controller) (k : Nat),
    s.live = true → k = (if c = .management then 1 else 2) → s.ctrlDown k = false →
    ∃ t, exec (.controllerWatchdog c) s = .next t ∧ t.ctrlDown k = true ∧ t.onTrial k = false ∧ t.graphs = s.graphs) ∧
  (∀ (s : State) (h : Half),
    s.live = true → (s.half h).nv.stopping = true → (s.half h).nv.running = [] → s.nvCmd h .host = none → s.nvCmd h .loader = none →
    (s.half h).nv.reads = [] →
    ∃ t, exec (.nvControllerReset h) s = .next t ∧ (t.half h).nv.stopping = false ∧ (t.half h).nv.scanned = false ∧ (t.half h).nv.pending
    = [] ∧ (t.half h).nv.refreshes = [] ∧ (t.half h).nv.rows = (s.half h).nv.rows ∧ (t.half h).nv.ledger = (s.half h).nv.ledger ∧ t.half
    h.other = s.half h.other ∧ t.graphs = s.graphs) ∧
  (∀ (s : State),
    s.live = true →
    ∃ t, exec .deviceWatchdogExpire s = .next t ∧ (∀ h, (t.half h).nv.stopping = true ∧ (t.half h).nv.pending = [] ∧ (t.half
    h).nv.host.step = 0 ∧ (t.half h).nv.running = (s.half h).nv.running.filter (fun (e : Nat × NvStep) => e.2.kind != StepKind.margin)) ∧
    t.graphs = s.graphs) ∧
  (∀ (s : State),
    s.live = true → s.power.mgmtRestarting = true →
    exec .mgmtRestartDone s = .next (if (s.pickImage 1).2 = true then State.mgmtResume (State.mboxServe
    { (s.pickImage 1).1 with power := { (s.pickImage 1).1.power with mgmtRestarting := false } }) else (s.pickImage 1).1)) ∧
  (∀ (s : State),
    s.live = true →
    exec .deviceWatchdogExpire s = .next ((s.nvStop .west).nvStop .east))

/-- GET_VERSION, GET_IDENTITY, GET_CERT, GET_MEASUREMENTS, GET_ATTEST_STATE, ATTEST_TOKEN_TICK, MCTP_CONTROL and TAP_INSTRUCTION (R412,
R413, R428 to R432, R435): each request is answered on its path with the payload of its row; a measurement takes a token and waits for its
record in the Ledger, or answers RATE or EXHAUSTED; a malformed request answers BAD_MSG, an unknown one UNKNOWN, one not served in
recovery RECOVERY; the tokens grow to 16. The order of the checks of a message is the model's choice (log entry 27). Next states are
stated of: GET_VERSION, GET_IDENTITY, GET_CERT, GET_MEASUREMENTS, GET_ATTEST_STATE, ATTEST_TOKEN_TICK, MCTP_CONTROL, TAP_INSTRUCTION,
UPD_STATUS. -/
def Obligations.IdentityAttestationAndMessages : Prop :=
  (∀ (s : State) (p : SecPath) (m : List Byte),
    s.secReady p m = true → msgCode m = 1 → msgLen m = 0 →
    exec (.getVersion p m) s = .next (s.secAnswer p (msgResp m 0 (leBytes 4 2)))) ∧
  (∀ (s : State) (p : SecPath) (m : List Byte),
    s.secReady p m = true → msgCode m = 2 → msgLen m = 0 →
    exec (.getIdentity p m) s = .next (s.secAnswer p (msgResp m 0 s.identity))) ∧
  (∀ (s : State) (p : SecPath) (m : List Byte),
    s.secReady p m = true → msgCode m = 3 → msgLen m = 8 → u32 (msgBody m) 4 ≤ 4000 →
    exec (.getCert p m) s = .next (s.secAnswer p (msgResp m 0 (slice s.cert (u32 (msgBody m) 0) (u32 (msgBody m) 4))))) ∧
  (∀ (s : State) (p : SecPath) (m : List Byte),
    s.live = true → s.secReady p m = true → msgCode m = 4 → msgLen m = 32 → s.rf SEC_ATTEST_Q SEC_ATTEST_Q.NEXT_Q < 1048576 → s.rf
    SEC_STATE SEC_STATE.TOKENS ≠ 0 →
    ∃ t, exec (.getMeasurements p m) s = .next t ∧ t.rf SEC_STATE SEC_STATE.TOKENS = s.rf SEC_STATE SEC_STATE.TOKENS - 1 ∧ t.attesting =
    true ∧ t.west.nv.ledgerQ = s.west.nv.ledgerQ ++
    [(({ type := 5, subject := 0, seq := 0, value := s.rf SEC_ATTEST_Q SEC_ATTEST_Q.NEXT_Q + 1 } : LedgerRec), LedgerFor.attest p m)] ∧
    onlyRegs [SEC_STATE] s ({ t with west := s.west } : State)) ∧
  (∀ (s : State) (p : SecPath) (m : List Byte),
    s.live = true → s.secReady p m = true → msgCode m = 4 → msgLen m = 32 → (s.rf SEC_STATE SEC_STATE.TOKENS = 0 ∨ 1048576 ≤ s.rf
    SEC_ATTEST_Q SEC_ATTEST_Q.NEXT_Q) →
    exec (.getMeasurements p m) s = .next (s.secAnswer p (msgResp m (if 1048576 ≤ s.rf SEC_ATTEST_Q SEC_ATTEST_Q.NEXT_Q then 4 else 3)
    []))) ∧
  (∀ (s : State) (p : SecPath) (m : List Byte),
    s.secReady p m = true → msgCode m = 5 → msgLen m = 0 →
    exec (.getAttestState p m) s = .next (s.secAnswer p (msgResp m 0 s.attestState))) ∧
  (∀ (s : State),
    s.awake = true →
    ∃ t, exec .attestTokenTick s = .next t ∧ t.rf SEC_STATE SEC_STATE.TOKENS = min 16 (s.rf SEC_STATE SEC_STATE.TOKENS + 1) ∧
    t.sec.tokenUs = s.us .west ∧ onlyRegs [SEC_STATE] s ({ t with sec := s.sec } : State)) ∧
  (∀ (s : State) (b : List Byte),
    s.stage ≠ .off → s.power.mgmtRestarting = false →
    ∃ t, exec (.mctpControl b) s = .next t ∧ t.outbox = s.outbox ++ [Output.pin "SB_ALERT_N" false, Output.mctp (Config.mctpAnswer b),
    Output.pin "SB_ALERT_N" true] ∧ ({ t with outbox := s.outbox } : State) = s) ∧
  (∀ (s : State),
    s.stage ≠ .off →
    exec (.tapInstruction 0) s = .next ({ s with outbox := s.outbox ++ [.tap 0] } : State) ∧ exec (.tapInstruction 2) s = .next s ∧ exec
    (.tapInstruction 3) s = .next s ∧ exec (.tapInstruction 1) s = .next
    ({ s with outbox := s.outbox ++ [.tap (1 + (Config.jep106 % 2 ^ 11) * 2 + 0x7C32 * 2 ^ 12 + bits (s.otpWord .west 6) 0 4 * 2 ^ 28)] }
    : State)) ∧
  (∀ (s : State) (k : Nat),
    s.stage ≠ .off → 4 ≤ k →
    exec (.tapInstruction k) s = (if s.on SEC_STATE SEC_STATE.DEBUG_OPEN = true ∧ s.sec.scope ≠ 0 then .refused .debugUnitUnspecified else
    .next s)) ∧
  (∀ (s : State) (m : List Byte),
    s.stage ≠ .off → s.power.mgmtRestarting = false → s.attesting = false → s.sec.held = none → s.on SEC_MBOX_CTRL SEC_MBOX_CTRL.BUSY =
    false → msgOk m = false →
    exec (.getVersion .mctp m) s = .next (s.secAnswer .mctp (msgResp m 1 [])) ∧ exec (.updStatus .mctp m) s = exec (.getVersion .mctp m)
    s) ∧
  (∀ (s : State) (p : SecPath) (m : List Byte),
    s.secReady p m = true → payloadLen (msgCode m) = none →
    exec (.getVersion p m) s = .next (s.secAnswer p (msgResp m 2 []))) ∧
  (∀ (s : State) (p : SecPath) (m : List Byte),
    s.stage = .recovery → s.secReady p m = true → (msgCode m = 4 ∨ msgCode m = 16 ∨ msgCode m = 17) →
    exec (.getMeasurements p m) s = (if msgCode m = 4 then .next (s.secAnswer p (msgResp m 8 [])) else .next s))

/-- KEK_INSTALL, KEK_CLEAR, DEBUG_CHALLENGE, DEBUG_UNLOCK, UPD_BEGIN, UPD_DATA, UPD_END, UPD_ACTIVATE, UPD_COMMIT and UPD_STATUS (R424,
R433, R434, R436): a key that unwraps is installed for its context and shown, a debug-open device installs none; a challenge draws a nonce
that an unlock spends; an update erases, fills and verifies the slot that is not active, and the directory takes its TRY and then its new
ACTIVE. The order of the checks of a message is the model's choice (log entry 27). Next states are stated of: KEK_INSTALL, KEK_CLEAR,
DEBUG_CHALLENGE, DEBUG_UNLOCK, UPD_BEGIN, UPD_DATA, UPD_END, UPD_ACTIVATE, UPD_COMMIT, UPD_STATUS. -/
def Obligations.KeysDebugAndUpdates : Prop :=
  (∀ (s : State) (p : SecPath) (m : List Byte) (c : Nat),
    s.live = true → s.secReady p m = true → msgCode m = 16 → msgLen m = 1612 → u32 (msgBody m) 0 = c → c < 256 → s.on SEC_STATE
    SEC_STATE.DEBUG_OPEN = false →
    ∃ t, exec (.kekInstall p m) s = .next t ∧ t.sec.keks = (aesUnwrap (hmac256 (kemDecaps (s.derived "KEM-D") (s.derived "KEM-Z") (slice
    (msgBody m) 4 1568)) ([0x4B, 0x45, 0x4B] ++ [BitVec.ofNat 8 c])) (slice (msgBody m) 1572 40)).elim s.sec.keks (fun (x : List Byte) =>
    s.sec.keks.filter (fun (e : Nat × List Byte) => e.1 != c) ++ [(c, x)]) ∧ t.rf (SEC_KEK_VALID (c / 32))
    { off := 0, lo := c % 32, len := 1 } = (if (aesUnwrap (hmac256 (kemDecaps (s.derived "KEM-D") (s.derived "KEM-Z") (slice (msgBody m) 4
    1568)) ([0x4B, 0x45, 0x4B] ++ [BitVec.ofNat 8 c])) (slice (msgBody m) 1572 40)).isSome then 1 else s.rf (SEC_KEK_VALID (c / 32))
    { off := 0, lo := c % 32, len := 1 }) ∧ t.outbox.contains (Output.response p (msgResp m (if (aesUnwrap (hmac256 (kemDecaps (s.derived
    "KEM-D") (s.derived "KEM-Z") (slice (msgBody m) 4 1568)) ([0x4B, 0x45, 0x4B] ++ [BitVec.ofNat 8 c])) (slice (msgBody m) 1572
    40)).isSome then 0 else 5) [])) = true) ∧
  (∀ (s : State) (p : SecPath) (m : List Byte),
    s.live = true → s.secReady p m = true → msgCode m = 16 → msgLen m = 1612 → u32 (msgBody m) 0 < 256 → s.on SEC_STATE
    SEC_STATE.DEBUG_OPEN = true →
    exec (.kekInstall p m) s = .next (s.secAnswer p (msgResp m 6 []))) ∧
  (∀ (s : State) (p : SecPath) (m : List Byte) (c : Nat),
    s.live = true → s.secReady p m = true → msgCode m = 17 → msgLen m = 4 → u32 (msgBody m) 0 = c → c < 256 →
    ∃ t, exec (.kekClear p m) s = .next t ∧ t.sec.keks = s.sec.keks.filter (fun (e : Nat × List Byte) => e.1 != c) ∧ t.rf (SEC_KEK_VALID
    (c / 32)) { off := 0, lo := c % 32, len := 1 } = 0 ∧ t.outbox.contains (Output.response p (msgResp m 0 [])) = true) ∧
  (∀ (s : State) (p : SecPath) (m : List Byte),
    s.secReady p m = true → msgCode m = 32 → msgLen m = 0 →
    ∃ t, exec (.debugChallenge p m) s = .next t ∧ t.sec.nonce = some (padTo 32 (Config.nonce s.sec.drawn)) ∧ t.sec.drawn = s.sec.drawn + 1
    ∧ t.outbox.contains (Output.response p (msgResp m 0 (padTo 32 (Config.nonce s.sec.drawn)))) = true) ∧
  (∀ (s : State) (p : SecPath) (m : List Byte),
    s.secReady p m = true → msgCode m = 33 → msgLen m = 3092 → s.on SEC_STATE SEC_STATE.DEBUG_DISABLE = true →
    exec (.debugUnlock p m) s = .next (s.secAnswer p (msgResp m 7 []))) ∧
  (∀ (s : State) (p : SecPath) (m : List Byte),
    s.secReady p m = true → msgCode m = 33 → msgLen m = 3092 → s.on SEC_STATE SEC_STATE.DEBUG_DISABLE = false → fld (msgBody m) 4 3 0 = 1
    → fld (msgBody m) 4 7 4 = 0 → fld (msgBody m) 4 31 11 = 0 → zeroRange (msgBody m) 0x74 12 = true →
    ∃ t, exec (.debugUnlock p m) s = .next t ∧ t.sec.nonce = none ∧ t.rf SEC_STATE SEC_STATE.DEBUG_PENDING = (if s.tokenOk (msgBody m)
    then 1 else s.rf SEC_STATE SEC_STATE.DEBUG_PENDING) ∧ t.sec.pendScope = (if s.tokenOk (msgBody m) then fld (msgBody m) 4 10 8 else
    s.sec.pendScope) ∧ t.outbox.contains (Output.response p (msgResp m (if s.tokenOk (msgBody m) then 0 else 5) [])) = true) ∧
  (∀ (s : State) (p : SecPath) (m : List Byte) (k : Nat),
    s.secReady p m = true → msgCode m = 48 → msgLen m = 4 → u32 (msgBody m) 0 = k → k < 3 → s.onTrial k = false → s.slotBad k (1 -
    s.dirActive k) = false →
    ∃ t, exec (.updBegin p m) s = .next t ∧ t.boot.update = some k ∧ t.on (BOOT_IMAGE (2 * k + (1 - s.dirActive k))) BOOT_IMAGE.VERIFIED =
    false ∧ t.outbox.contains (Output.response p (msgResp m 0 [])) = true ∧ (∀ a, mapGet flashErased t.boot.flash a = (if slotBase k (1 -
    s.dirActive k) ≤ a ∧ a < slotBase k (1 - s.dirActive k) + slotSize k then 0xFF else mapGet flashErased s.boot.flash a))) ∧
  (∀ (s : State) (p : SecPath) (m : List Byte) (k : Nat),
    s.secReady p m = true → msgCode m = 49 → 8 ≤ msgLen m → msgLen m ≤ 4080 → u32 (msgBody m) 0 = k → k < 3 → s.boot.update = some k →
    s.slotBad k (1 - s.dirActive k) = false → u32 (msgBody m) 4 + (msgLen m - 8) ≤ slotSize k →
    ∃ t, exec (.updData p m) s = .next t ∧ t.outbox.contains (Output.response p (msgResp m 0 [])) = true ∧ t.boot.update = some k ∧ (∀ a,
    mapGet flashErased t.boot.flash a = (if slotBase k (1 - s.dirActive k) + u32 (msgBody m) 4 ≤ a ∧ a < slotBase k (1 - s.dirActive k) +
    u32 (msgBody m) 4 + (msgLen m - 8) then (msgBody m).getD (a - (slotBase k (1 - s.dirActive k) + u32 (msgBody m) 4) + 8) 0 else mapGet
    flashErased s.boot.flash a))) ∧
  (∀ (s : State) (p : SecPath) (m : List Byte) (k : Nat),
    s.secReady p m = true → msgCode m = 49 → 8 ≤ msgLen m → msgLen m ≤ 4080 → u32 (msgBody m) 0 = k → k < 3 → s.boot.update = some k →
    s.slotBad k (1 - s.dirActive k) = true → u32 (msgBody m) 4 + (msgLen m - 8) ≤ slotSize k →
    exec (.updData p m) s = .next (s.secAnswer p (msgResp m 9 []))) ∧
  (∀ (s : State) (p : SecPath) (m : List Byte) (k : Nat),
    s.secReady p m = true → msgCode m = 50 → msgLen m = 4 → u32 (msgBody m) 0 = k → k < 3 → s.boot.update = some k →
    ∃ t, exec (.updEnd p m) s = .next t ∧ t.boot.update = none ∧ t.on (BOOT_IMAGE (2 * k + (1 - s.dirActive k))) BOOT_IMAGE.VERIFIED =
    decide (s.slotCheck k (1 - s.dirActive k) = 0) ∧ t.rf (BOOT_IMAGE (2 * k + (1 - s.dirActive k))) BOOT_IMAGE.FAIL_CODE = s.slotCheck k
    (1 - s.dirActive k) ∧ t.boot.flash = s.boot.flash) ∧
  (∀ (s : State) (p : SecPath) (m : List Byte) (k : Nat),
    s.secReady p m = true → msgCode m = 51 → msgLen m = 4 → u32 (msgBody m) 0 = k → k < 3 → s.boot.update ≠ some k → s.on (BOOT_IMAGE (2 *
    k + (1 - s.dirActive k))) BOOT_IMAGE.VERIFIED = true → s.dirBad s.dirNext = false → (∀ c < 2, u32 (s.dirCopy c) 8 + 1 < 2 ^ 32 ∨
    dirValid (s.dirCopy c) = false) →
    ∃ t, exec (.updActivate p m) s = .next t ∧ t.dirTry k = true ∧ t.dirActive k = s.dirActive k ∧ (k ≠ 0 → s.live = true → t.ctrlDown k =
    true) ∧ t.outbox.contains (Output.response p (msgResp m 0 [])) = true) ∧
  (∀ (s : State) (p : SecPath) (m : List Byte) (k : Nat),
    s.secReady p m = true → msgCode m = 52 → msgLen m = 4 → u32 (msgBody m) 0 = k → k < 3 → s.onTrial k = true → s.dirBad s.dirNext =
    false → (∀ c < 2, u32 (s.dirCopy c) 8 + 1 < 2 ^ 32 ∨ dirValid (s.dirCopy c) = false) →
    ∃ t, exec (.updCommit p m) s = .next t ∧ t.dirTry k = false ∧ t.dirActive k = s.rf BOOT_STATUS { off := 0, lo := 6 + k, len := 1 } ∧
    t.onTrial k = false ∧ t.outbox.contains (Output.response p (msgResp m 0 [])) = true) ∧
  (∀ (s : State) (p : SecPath) (m : List Byte),
    s.secReady p m = true → msgCode m = 53 → msgLen m = 0 → s.dirBad 0 = false → s.dirBad 1 = false →
    exec (.updStatus p m) s = .next (s.secAnswer p (msgResp m 0 s.updShow)))

/-- REGISTER_WRITE, HELD_WRITE_APPLY and DEFERRED_READ_COMPLETE (R11, R12, R31, R32, R363, R381): a write sets an RW field and clears an
RW1C one, in East once it has crossed the Passage; a write of a width other than 4 is a bad access; with its block's domain off the access
is held and takes place in order once the domain is on; a read gives the word, and one of CLK_US_LO holds the upper word. The offsets of a
function's standard controls are the model's own (log entry 10). A function's write of a register of West that need not wait acts as its
register says; a field that is not locked takes the value its access type gives. A write for East goes over the Passage, a write of BAR4,
of configuration space, of the DVSEC or of the weight window acts there. When their domain is on, waiting accesses take place, the oldest
first; a read gives the register's value. Next states are stated of: REGISTER_WRITE, PASSAGE_TRANSFER_ARRIVE, HELD_WRITE_APPLY,
DEFERRED_READ_COMPLETE. -/
def Obligations.RegisterAccesses : Prop :=
  (∀ (s : State) (v : Nat),
    s.live = true → s.funcActive 0 = true →
    ∃ t, exec (.registerWrite 0 (ERR_CTRL .west) 4 v) s = .next t ∧ t.rf (ERR_CTRL .west) ERR_CTRL.IRQ_EN = v % 2 ∧ t.rf (ERR_CTRL .west)
    ERR_CTRL.HOST_EN = v / 2 % 2 ∧ onlyRegs [ERR_CTRL .west] s t) ∧
  (∀ (s : State) (v : Nat),
    s.live = true → s.funcActive 0 = true →
    ∃ t, exec (.registerWrite 0 (ERR_STATUS .west) 4 v) s = .next t ∧ t.rf (ERR_STATUS .west) ERR_STATUS.OVERFLOW = (if bit v 0 then 0
    else s.rf (ERR_STATUS .west) ERR_STATUS.OVERFLOW) ∧ t.rf (ERR_STATUS .west) ERR_STATUS.MGMT_HEAD = s.rf (ERR_STATUS .west)
    ERR_STATUS.MGMT_HEAD ∧ onlyRegs [ERR_STATUS .west] s t) ∧
  (∀ (s : State) (v : Nat),
    s.live = true → s.funcActive 0 = true →
    exec (.registerWrite 0 (ERR_CTRL .east) 4 v) s = .next (s.modHalf .east (fun (x : HalfState) =>
    ({ x with control := x.control ++ [PassMsg.access { func := 0, off := ERR_CTRL .east, write := some v }] } : HalfState)))) ∧
  (∀ (s : State) (v fails : Nat) (q : List PassMsg),
    s.live = true → s.east.control = PassMsg.access { func := 0, off := ERR_CTRL .east, write := some v } :: q → s.east.turn .control =
    true → s.passOn = true → fails < 4 →
    ∃ t, exec (.passageTransferArrive .east .control fails) s = .next t ∧ t.east.control = q ∧ t.rf (ERR_CTRL .east) ERR_CTRL.IRQ_EN = v %
    2 ∧ t.rf (ERR_CTRL .east) ERR_CTRL.HOST_EN = v / 2 % 2 ∧ onlyRegs [ERR_CTRL .east] s ({ t with east := s.east } : State)) ∧
  (∀ (s : State) (h : Half) (w v : Nat),
    s.live = true → s.funcActive 0 = true → w ≠ 4 →
    ∃ t, exec (.registerWrite 0 (ERR_CTRL h) w v) s = .next t ∧ t.rf PCI_EVENT PCI_EVENT.BAD_ACCESS = 1 ∧ onlyLogged [PCI_EVENT] s t) ∧
  (∀ (s : State) (f v : Nat),
    s.live = true → f ≠ 0 → s.funcActive f = true →
    exec (.registerWrite f (ERR_CTRL .west) 4 v) s = .next s) ∧
  (∀ (s : State) (v : Nat),
    s.live = true → s.funcActive 0 = true → s.domOn (jctDom .west) = false →
    exec (.registerWrite 0 (JCT_ADMIT_CTRL .west) 4 v) s = .next (s.modHalf .west (fun (x : HalfState) =>
    ({ x with accesses := x.accesses ++ [{ func := 0, off := JCT_ADMIT_CTRL .west, write := some v }] } : HalfState)))) ∧
  (∀ (s : State) (h : Half) (v : Nat),
    s.live = true → s.domOn (jctDom h) = true → (s.half h).accesses = [{ func := 0, off := JCT_ADMIT_CTRL h, write := some v }] →
    ∃ t, exec (.heldWriteApply h) s = .next t ∧ t.rf (JCT_ADMIT_CTRL h) JCT_ADMIT_CTRL.RESERVE_US = v % 65536 ∧ (t.half h).accesses = [] ∧
    onlyRegs [JCT_ADMIT_CTRL h] s (t.setHalf h (s.half h))) ∧
  (∀ (s : State),
    s.live = true → s.funcActive 0 = true →
    exec (.deferredReadComplete 0 (ERR_CTRL .west) 4 false) s = .next
    ({ s with outbox := s.outbox ++ [.readDone 0 (ERR_CTRL .west) (leBytes 4 (s.rd (ERR_CTRL .west)).toNat)] } : State)) ∧
  (∀ (s : State),
    s.live = true → s.funcActive 0 = true → s.east.accesses = [] → s.east.control = [] → s.west.control = [] →
    exec (.deferredReadComplete 0 (ERR_CTRL .east) 4 false) s = .next (s.modHalf .east (fun (x : HalfState) =>
    ({ x with control := [PassMsg.access { func := 0, off := ERR_CTRL .east }] } : HalfState)))) ∧
  (∀ (s : State),
    s.live = true → s.funcActive 0 = true →
    ∃ t, exec (.deferredReadComplete 0 (CLK_US_LO .west) 4 false) s = .next t ∧ t.west.usHi = some (s.us .west / 2 ^ 32) ∧ t.outbox =
    s.outbox ++ [Output.readDone 0 (CLK_US_LO .west) (leBytes 4 (s.us .west % 2 ^ 32))] ∧ t.us .west = s.us .west ∧ t.regs = s.regs) ∧
  (∀ (s : State) (f off w : Nat),
    s.live = true →
    ∃ t, exec (.deferredReadComplete f off w true) s = .next t ∧ (∀ h : Half, (t.half h).accesses = (s.half h).accesses.filter (fun (a :
    HeldAcc) => !(a.func == f && a.off == off && a.bar2.isNone && a.write.isNone))) ∧ t.outbox = s.outbox ∧ t.regs = s.regs) ∧
  (∀ (s : State) (f off v : Nat),
    s.live = true → s.funcActive f = true → off < 0x01000000 → off % 4 = 0 → s.mustWait .west off = false →
    exec (.registerWrite f off 4 v) s = .next (s.regWrite f .west off v)) ∧
  (∀ (s : State) (f off v : Nat) (d : Nat),
    s.live = true → s.funcActive f = true → off < 0x01000000 → off % 4 = 0 → regDom .west off = some d → s.domOn d = false →
    ∃ t, exec (.registerWrite f off 4 v) s = .next t ∧ t.west.accesses = s.west.accesses ++ [({ func := f, off := off, write := some v } :
    HeldAcc)] ∧ t.east = s.east) ∧
  (∀ (s : State) (f off v : Nat),
    s.live = true → s.funcActive f = true → 0x02000000 ≤ off → off < 0x03000000 → off % 4 = 0 →
    exec (.registerWrite f off 4 v) s = .next (s.modHalf .east (fun (x : HalfState) =>
    ({ x with control := x.control ++ [PassMsg.access { func := f, off := off, write := some v }] } : HalfState)))) ∧
  (∀ (s : State) (f off v : Nat),
    s.live = true → s.funcActive f = true → 0x08000000 ≤ off → off < 0x08100000 → off % 4 = 0 →
    exec (.registerWrite f off 4 v) s = .next (s.bar4Write f (off - 0x08000000) v)) ∧
  (∀ (s : State) (f off w v : Nat),
    s.live = true → 0x05000000 ≤ off → off < 0x08000000 →
    exec (.registerWrite f off w v) s = .next (s.pcieWrite f (off - 0x05000000) v)) ∧
  (∀ (s : State) (off w v : Nat),
    s.live = true → 0x04000000 ≤ off → off < 0x05000000 →
    exec (.registerWrite 0 off w v) s = .next (s.dvsecWrite (off - 0x04000000) v)) ∧
  (∀ (s : State) (f off w v : Nat),
    s.live = true → s.funcActive f = true → 0x01000000 ≤ off → off < 0x02000000 →
    exec (.registerWrite f off w v) s = .next (s.windowWrite f .west (off - 0x01000000) w v)) ∧
  (∀ (s : State) (h : Half) (a : HeldAcc) (d v : Nat),
    s.live = true → (s.half h).accesses = [a] → a.bar2 = none → a.write = some v → a.off % 0x02000000 < 0x01000000 → regDom h (a.off %
    0x02000000) = some d → s.domOn d = true →
    exec (.heldWriteApply h) s = .next ((s.modHalf h (fun (x : HalfState) => ({ x with accesses := [] } : HalfState))).regWrite a.func h
    (a.off % 0x02000000) v)) ∧
  (∀ (s : State) (h : Half) (a : HeldAcc) (q : List HeldAcc),
    s.live = true → (s.half h).accesses = a :: q → s.accessReady h a = true →
    exec (.heldWriteApply h) s = .next (((s.modHalf h (fun (x : HalfState) => ({ x with accesses := q } : HalfState))).accessRun h
    a).accessDrain h q.length)) ∧
  (∀ (s : State) (h : Half),
    s.live = true → (s.half h).accesses.all (fun a => !(s.accessReady h a)) = true →
    exec (.heldWriteApply h) s = .next s) ∧
  (∀ (s : State) (f off : Nat),
    s.live = true → s.funcActive f = true → off < 0x01000000 → off % 4 = 0 → s.mustWait .west off = false → s.west.accesses = [] →
    exec (.deferredReadComplete f off 4 false) s = .next ((s.regRead f .west off).1.send (.readDone f off (leBytes 4 (s.regRead f .west
    off).2))))

/-- HEARTBEAT, TAKEOVER, REJECT_EPOCH, HEARTBEAT_TIMER and HEARTBEAT_LOSS (R323, R324): a message with a higher EPOCH makes its sender the
master and deposes a master that hears it, one with a lower EPOCH is answered with REJECT_EPOCH; the backup that misses its heartbeats
becomes master with the next EPOCH. That the sender becomes the master is the model's reading (log entry 42). The backup takes over
whatever nodes its routes reach. A TAKEOVER with a higher EPOCH makes its sender the master. Next states are stated of: HEARTBEAT,
TAKEOVER, REJECT_EPOCH, HEARTBEAT_TIMER, HEARTBEAT_LOSS. -/
def Obligations.EpochAndMaster : Prop :=
  (∀ (s : State) (src e : Nat),
    s.live = true → s.power.mgmtRestarting = false → s.epoch < e → e < 65536 → src < 16384 → s.master ≠ src →
    ∃ t, exec (.heartbeat src e) s = .next t ∧ t.epoch = e ∧ t.master = src ∧ t.role = (if s.role = 1 then 3 else s.role) ∧ t.rf
    (CSW_EVENT .west) CSW_EVENT.TAKEOVER = 1 ∧ onlyRegs [CSW_MASTER_STATUS, CSW_EVENT .west] s t) ∧
  (∀ (s : State) (src e : Nat),
    s.live = true → s.power.mgmtRestarting = false →
    exec (.takeover src e) s = exec (.heartbeat src e) s ∧ (e = s.epoch → exec (.takeover src e) s = .next s) ∧ (e < s.epoch → exec
    (.heartbeat src e) s = .next (s.mgmtSend src 7 (mgmtWords [s.epoch, s.master])))) ∧
  (∀ (s : State) (src e : Nat) (c m : Nat),
    s.live = true → s.power.mgmtRestarting = false → e = s.epoch → s.role = 1 →
    ∃ t, exec (.rejectEpoch src e c m) s = .next t ∧ t.role = 3 ∧ t.epoch = s.epoch ∧ t.master = s.master ∧ onlyRegs [CSW_MASTER_STATUS] s
    t) ∧
  (∀ (s : State),
    s.live = true → s.mastering = true → s.on CSW_MASTER_CFG CSW_MASTER_CFG.BACKUP_EN = true →
    exec .heartbeatTimer s = .next (s.mgmtSend (s.rf CSW_MASTER_CFG CSW_MASTER_CFG.BACKUP) 5 [])) ∧
  (∀ (s : State),
    s.live = true → s.power.mgmtRestarting = false → s.role ≠ 1 →
    exec .heartbeatTimer s = .next s) ∧
  (∀ (s : State) (src e : Nat),
    s.live = true → s.power.mgmtRestarting = true →
    exec (.heartbeat src e) s = .next ({ s with csw := { s.csw with held := s.csw.held ++ [.cmd (.heartbeat src e)] } } : State) ∧ exec
    .heartbeatTimer s = .next ({ s with csw := { s.csw with held := s.csw.held ++ [.cmd .heartbeatTimer] } } : State) ∧ exec (.takeover
    src e) s = .next ({ s with csw := { s.csw with held := s.csw.held ++ [.cmd (.takeover src e)] } } : State)) ∧
  (∀ (s : State),
    s.live = true → s.role = 2 → s.on CSW_MASTER_CFG CSW_MASTER_CFG.BACKUP_EN = true → s.power.mgmtRestarting = false → s.routedNodes = []
    → s.epoch < 65535 → s.nodeId < 16384 → s.master ≠ s.nodeId →
    ∃ t, exec .heartbeatLoss s = .next t ∧ t.role = 1 ∧ t.epoch = s.epoch + 1 ∧ t.master = s.nodeId ∧ t.rf (CSW_EVENT .west)
    CSW_EVENT.TAKEOVER = 1 ∧ onlyRegs [CSW_MASTER_STATUS, CSW_EVENT .west] s t) ∧
  (∀ (s : State),
    s.live = true → s.role = 2 → s.on CSW_MASTER_CFG CSW_MASTER_CFG.BACKUP_EN = true → s.power.mgmtRestarting = false → s.epoch < 65535 →
    ∃ t, exec .heartbeatLoss s = .next t ∧ t.role = 1 ∧ t.epoch = s.epoch + 1 ∧ t.master = s.nodeId ∧ t.graphs = s.graphs) ∧
  (∀ (s : State) (src e : Nat),
    s.live = true → s.power.mgmtRestarting = false → s.epoch < e → e < 65536 → src < 16384 → s.master ≠ src →
    ∃ t, exec (.takeover src e) s = .next t ∧ t.epoch = e ∧ t.master = src ∧ t.role = (if s.role = 1 then 3 else s.role) ∧ t.rf (CSW_EVENT
    .west) CSW_EVENT.TAKEOVER = 1 ∧ onlyRegs [CSW_MASTER_STATUS, CSW_EVENT .west] s t)

/-- REG_READ, REG_WRITE, REG_RESP, MGMT_ACCESS_TIMEOUT, NOTIFY, BUDGET_PERIOD, BUDGET_REPORT, BUDGET_GRANT and BUDGET_REVERT (R325, R343
to R346, R393): the master's accesses take place and are answered with their tag, are REFUSED, wait for their domain or time out; another
sender is refused; a device reports and takes its grant as its cap, and without grants its own cap applies again. The payload layout, the
reported cap and the grant within its bounds are the model's choices (log entries 42 and 31). An access of the current master that can
take place at once does so and is answered, whatever it reads or writes. The master's period keeps its own report and gives every node
that reported a grant. Next states are stated of: REG_READ, REG_WRITE, REG_RESP, MGMT_ACCESS_TIMEOUT, NOTIFY, BUDGET_PERIOD,
BUDGET_REPORT, BUDGET_GRANT, BUDGET_REVERT. -/
def Obligations.ManagementAccessesAndBudget : Prop :=
  (∀ (s : State) (src e : Nat) (h : Half) (tag : Nat),
    s.live = true → s.power.mgmtRestarting = false → e = s.epoch → s.master = src → s.csw.acc = [] → (h = .west ∨ s.passOn = true ∧
    s.east.control = []) →
    exec (.regRead src e 0 (ERR_CTRL h) 1 tag) s = .next (s.mgmtSend src 3 (mgmtWords [tag, 0, (s.rd (ERR_CTRL h)).toNat]))) ∧
  (∀ (s : State) (src e : Nat) (sp off n tag : Nat),
    s.live = true → s.power.mgmtRestarting = false → e = s.epoch → s.master = src → (n = 0 ∨ 48 < n ∨ off % 4 ≠ 0 ∨ mgmtSpace sp < off + 4
    * n) →
    exec (.regRead src e sp off n tag) s = .next (s.mgmtSend src 3 (mgmtWords [tag, 2]))) ∧
  (∀ (s : State) (src e : Nat) (h : Half) (tag : Nat),
    s.live = true → s.power.mgmtRestarting = false → e = s.epoch → s.master = src → s.csw.acc = [] → s.domOn (jctDom h) = false →
    exec (.regRead src e 0 (JCT_ADMIT_CTRL h) 1 tag) s = .next
    ({ s with csw := { s.csw with acc := [{ src := src, tag := tag, space := 0, off := JCT_ADMIT_CTRL h, count := 1, be := 15, write := none }] } }
    : State)) ∧
  (∀ (s : State) (src e : Nat) (sp off n tag : Nat),
    s.live = true → s.power.mgmtRestarting = false → e = s.epoch → s.master ≠ src →
    ∃ t, exec (.regRead src e sp off n tag) s = .next t ∧ t.rf (CSW_EVENT .west) CSW_EVENT.MGMT_REFUSED = 1 ∧ onlyLogged [CSW_EVENT .west]
    s t) ∧
  (∀ (s : State) (src e : Nat) (h : Half) (tag : Nat) (v : Word),
    s.live = true → s.power.mgmtRestarting = false → e = s.epoch → s.master = src → s.csw.acc = [] → s.funcActive 0 = true → (h = .west ∨
    s.passOn = true ∧ s.east.control = []) → (s.rd (ERR_CTRL h)).toNat < 4 →
    exec (.regWrite src e 0 (ERR_CTRL h) 15 tag [v]) s = .next ((s.wr (ERR_CTRL h) (BitVec.ofNat 32 (v.toNat % 4))).mgmtSend src 3
    (mgmtWords [tag, 0]))) ∧
  (∀ (s : State) (src e : Nat) (tag st : Nat) (ws : List Word),
    s.live = true → s.power.mgmtRestarting = false → e = s.epoch → s.role = 1 →
    ∃ t, exec (.regResp src e tag st ws) s = .next t ∧ t.csw.resps = s.csw.resps ++ [(src, tag, st, ws)] ∧ t.graphs = s.graphs ∧ (∀ h :
    Half, (t.half h).mem = (s.half h).mem)) ∧
  (∀ (s : State) (tag : Nat) (a : MgmtAcc),
    s.live = true → s.power.mgmtRestarting = false → s.csw.acc.find? (fun x => x.tag == tag) = some a →
    exec (.mgmtAccessTimeout tag) s = .next (({ s with csw := { s.csw with acc := s.csw.acc.erase a } } : State).mgmtSend a.src 3
    (mgmtWords [a.tag, 1]))) ∧
  (∀ (s : State) (src e : Nat) (p : List Byte),
    s.live = true → s.power.mgmtRestarting = false → e = s.epoch → s.role = 1 →
    ∃ t, exec (.notify src e p) s = .next t ∧ t.csw.notices = s.csw.notices ++ [(src, p)] ∧ t.csw.members.any (fun (m : Nat × Bool) => m.1
    == src) = true ∧ t.graphs = s.graphs ∧ (∀ h : Half, (t.half h).mem = (s.half h).mem)) ∧
  (∀ (s : State) (m : Nat),
    s.live = true → s.power.mgmtRestarting = false → s.role ≠ 1 →
    exec (.budgetPeriod m) s = .next (((({ s with csw := { s.csw with reasons := 0, periodUs := 0, slackUs := 0 } } : State).wf
    (CSW_BUDGET_STATUS .west) CSW_BUDGET_STATUS.SLACK_PERMILLE s.slack).wf (CSW_BUDGET_STATUS .east) CSW_BUDGET_STATUS.SLACK_PERMILLE
    s.slack).mgmtSend s.master 8 (mgmtWords [m, s.rf PWR_CAP PWR_CAP.EFFECTIVE_W, s.slack, s.csw.reasons ||| s.reasons]))) ∧
  (∀ (s : State) (m : Nat),
    s.live = true → s.power.mgmtRestarting = false → s.role = 1 → s.csw.reports = [] → s.csw.grants = [] →
    ∃ t, exec (.budgetPeriod m) s = .next t ∧ t.csw.reports = [(s.nodeId, m, s.rf PWR_CAP PWR_CAP.EFFECTIVE_W, s.slack)] ∧ t.power.grant =
    some (min (1000 * s.rf CSW_BUDGET_CFG CSW_BUDGET_CFG.MACHINE_KW) (s.rf PWR_CAP PWR_CAP.EFFECTIVE_W))) ∧
  (∀ (s : State) (m : Nat),
    s.live = true → s.power.mgmtRestarting = true →
    ∃ t, exec (.budgetPeriod m) s = .next t ∧ t.csw.held = s.csw.held ++ [MgmtOp.period m (s.rf PWR_CAP PWR_CAP.EFFECTIVE_W) s.slack
    (s.csw.reasons ||| s.reasons)] ∧ t.csw.periodUs = 0) ∧
  (∀ (s : State) (src e : Nat) (m c k z : Nat),
    s.live = true → s.power.mgmtRestarting = false → e = s.epoch → s.role = 1 →
    exec (.budgetReport src e m c k z) s = .next
    ({ s with csw := { s.csw with reports := s.csw.reports.filter (fun (r : Nat × Nat × Nat × Nat) => r.1 != src) ++ [(src, m, c, k)] } }
    : State)) ∧
  (∀ (s : State) (src e : Nat) (w : Nat),
    s.live = true → s.power.mgmtRestarting = false → e = s.epoch → s.master = src →
    ∃ t, exec (.budgetGrant src e w) s = .next t ∧ t.power.grant = some w ∧ (∀ h, t.rf (CSW_BUDGET_STATUS h) CSW_BUDGET_STATUS.GRANT_W =
    min w 1023 ∧ t.rf (CSW_BUDGET_STATUS h) CSW_BUDGET_STATUS.REVERTED = 0) ∧ t.rf PWR_CAP PWR_CAP.SOURCE = 2 ∧ t.rf PWR_CAP
    PWR_CAP.EFFECTIVE_W = max 150 (min w (s.rf PWR_LIMIT_CFG PWR_LIMIT_CFG.BOARD_MAX_W)) ∧ onlyRegs [CSW_BUDGET_STATUS .west,
    CSW_BUDGET_STATUS .east, PWR_CAP] s ({ t with power := s.power } : State)) ∧
  (∀ (s : State),
    s.live = true → s.power.grant.isSome = true →
    ∃ t, exec .budgetRevert s = .next t ∧ t.power.grant = none ∧ (∀ h, t.rf (CSW_BUDGET_STATUS h) CSW_BUDGET_STATUS.REVERTED = 1) ∧ t.rf
    (CSW_EVENT .west) CSW_EVENT.BUDGET_REVERT = 1 ∧ t.rf PWR_CAP PWR_CAP.SOURCE = (if s.power.hostCap.isSome then 0 else 1) ∧ t.rf PWR_CAP
    PWR_CAP.EFFECTIVE_W = max 150 (min (s.rf PWR_CAP PWR_CAP.CAP_W) (s.rf PWR_LIMIT_CFG PWR_LIMIT_CFG.BOARD_MAX_W))) ∧
  (∀ (s : State) (src e sp off n tag : Nat),
    s.live = true → s.power.mgmtRestarting = false → e = s.epoch → s.master = src → s.csw.acc = [] → MgmtAcc.ok
    { src := src, tag := tag, space := sp, off := off, count := n, be := 15, write := none } = true → s.mgmtReady
    { src := src, tag := tag, space := sp, off := off, count := n, be := 15, write := none } = true →
    exec (.regRead src e sp off n tag) s = .next (s.mgmtRun
    { src := src, tag := tag, space := sp, off := off, count := n, be := 15, write := none })) ∧
  (∀ (s : State) (src e sp off be tag : Nat) (ws : List Word),
    s.live = true → s.power.mgmtRestarting = false → e = s.epoch → s.master = src → s.csw.acc = [] → MgmtAcc.ok
    { src := src, tag := tag, space := sp, off := off, count := ws.length, be := be, write := some ws } = true → s.mgmtReady
    { src := src, tag := tag, space := sp, off := off, count := ws.length, be := be, write := some ws } = true →
    exec (.regWrite src e sp off be tag ws) s = .next (s.mgmtRun
    { src := src, tag := tag, space := sp, off := off, count := ws.length, be := be, write := some ws })) ∧
  (∀ (s : State) (src e off tag : Nat),
    s.live = true → s.power.mgmtRestarting = false → e = s.epoch → s.master = src → s.csw.acc = [] → off % 4 = 0 → off < 0x01000000 →
    s.mustWait .west off = false →
    exec (.regRead src e 0 off 1 tag) s = .next ((s.regRead 0 .west off).1.mgmtSend src 3 (mgmtWords [tag, 0, (s.regRead 0 .west
    off).2]))) ∧
  (∀ (s : State) (src e off tag : Nat) (v : Word),
    s.live = true → s.power.mgmtRestarting = false → e = s.epoch → s.master = src → s.csw.acc = [] → s.funcActive 0 = true → off % 4 = 0 →
    off < 0x01000000 → s.mustWait .west off = false →
    exec (.regWrite src e 0 off 15 tag [v]) s = .next ((s.regWrite 0 .west off v.toNat).mgmtSend src 3 (mgmtWords [tag, 0]))) ∧
  (∀ (s : State) (m : Nat),
    s.live = true → s.power.mgmtRestarting = false → s.role = 1 →
    ∃ t, exec (.budgetPeriod m) s = .next t ∧ t.role = 1 ∧ t.csw.reports = s.csw.reports.filter (fun (r : Nat × Nat × Nat × Nat) => r.1 !=
    s.nodeId) ++ [(s.nodeId, m, s.rf PWR_CAP PWR_CAP.EFFECTIVE_W, s.slack)] ∧ t.csw.reports.all (fun (r : Nat × Nat × Nat × Nat) =>
    t.csw.grants.any (fun (g : Nat × Nat) => g.1 == r.1)) = true ∧ t.csw.periodUs = 0 ∧ t.graphs = s.graphs) ∧
  (∀ (s : State) (src e tag st : Nat) (ws : List Word),
    s.live = true → s.power.mgmtRestarting = false → e = s.epoch → s.role ≠ 1 →
    exec (.regResp src e tag st ws) s = .next s) ∧
  (∀ (s : State) (src e : Nat) (p : List Byte),
    s.live = true → s.power.mgmtRestarting = false → e = s.epoch → s.role ≠ 1 →
    exec (.notify src e p) s = .next s)

/-- R35: at an offset of a block that no register holds, a read returns zero and a write has no effect, in West at once and in East once
the access has crossed the Passage. Next states are stated of: REGISTER_WRITE, DEFERRED_READ_COMPLETE, PASSAGE_TRANSFER_ARRIVE. -/
def Obligations.UnassignedOffsets : Prop :=
  (∀ (s : State) (f off v : Nat),
    s.live = true → s.funcActive f = true → off < 0x02000000 → s.mustWait (Half.ofNum (off / 0x02000000)) (off % 0x02000000) = false → off
    % 4 = 0 → regFind (off % 0x02000000) = none → off % 0x02000000 < 0x01000000 →
    exec (.registerWrite f off 4 v) s = .next s ∧ ∃ t, exec (.deferredReadComplete f off 4 false) s = .next t ∧ t.outbox = s.outbox ++
    [.readDone f off (leBytes 4 0)] ∧ t.regs = s.regs ∧ t.stage = s.stage ∧ (∀ h, (t.half h).mem = (s.half h).mem ∧ (t.half h).nv =
    (s.half h).nv)) ∧
  (∀ (s : State) (f off v fails : Nat) (q : List PassMsg),
    s.live = true → 0x02000000 ≤ off → off < 0x04000000 → s.mustWait (Half.ofNum (off / 0x02000000)) (off % 0x02000000) = false → off % 4
    = 0 → regFind (off % 0x02000000) = none → off % 0x02000000 < 0x01000000 → s.east.turn .control = true → s.passOn = true → fails < 4 →
    s.east.accesses = [] → s.east.control = PassMsg.access { func := f, off := off, write := some v } :: q →
    ∃ t, exec (.passageTransferArrive .east .control fails) s = .next t ∧ t.east.control = q ∧ t.outbox = s.outbox ∧ t.graphs = s.graphs ∧
    t.regs = s.regs ∧ t.stage = s.stage ∧ (∀ h, (t.half h).mem = (s.half h).mem ∧ (t.half h).nv = (s.half h).nv)) ∧
  (∀ (s : State) (f off fails : Nat) (q : List PassMsg),
    s.live = true → 0x02000000 ≤ off → off < 0x04000000 → s.mustWait (Half.ofNum (off / 0x02000000)) (off % 0x02000000) = false → off % 4
    = 0 → regFind (off % 0x02000000) = none → off % 0x02000000 < 0x01000000 → s.east.turn .control = true → s.passOn = true → fails < 4 →
    s.east.accesses = [] → s.east.control = PassMsg.access { func := f, off := off } :: q →
    ∃ t, exec (.passageTransferArrive .east .control fails) s = .next t ∧ t.east.control = q ∧ t.west.control = s.west.control ++
    [PassMsg.answer f off (leBytes 4 0)] ∧ t.outbox = s.outbox ∧ t.graphs = s.graphs ∧ t.regs = s.regs ∧ t.stage = s.stage ∧ (∀ h, (t.half
    h).mem = (s.half h).mem ∧ (t.half h).nv = (s.half h).nv))

/-- R325: REG_READ, REG_WRITE and BUDGET_GRANT of a sender that is not the current master, or with an older EPOCH, are discarded:
MGMT_REFUSED is set and a record is written, and nothing else happens but the REJECT_EPOCH that answers an older EPOCH (R324); those of
the master with the EPOCH are not. Next states are stated of: REG_READ, REG_WRITE, BUDGET_GRANT. -/
def Obligations.MessagesOfAnotherMaster : Prop :=
  (∀ (s : State) (src e sp off n be tag : Nat) (ws : List Word),
    s.live = true → s.power.mgmtRestarting = false → e = s.epoch → s.master ≠ src →
    exec (.regRead src e sp off n tag) s = .next (((s).wf (CSW_EVENT .west) CSW_EVENT.MGMT_REFUSED 1).log .west
    { logSoft 8 src with event := 3 }) ∧ exec (.regWrite src e sp off be tag ws) s = .next (((s).wf (CSW_EVENT .west)
    CSW_EVENT.MGMT_REFUSED 1).log .west { logSoft 8 src with event := 3 }) ∧ exec (.budgetGrant src e n) s = .next (((s).wf (CSW_EVENT
    .west) CSW_EVENT.MGMT_REFUSED 1).log .west { logSoft 8 src with event := 3 })) ∧
  (∀ (s : State) (src e sp off n be tag : Nat) (ws : List Word),
    s.live = true → s.power.mgmtRestarting = false → e < s.epoch →
    exec (.regRead src e sp off n tag) s = .next (((s.mgmtSend src 7 (mgmtWords [s.epoch, s.master])).wf (CSW_EVENT .west)
    CSW_EVENT.MGMT_REFUSED 1).log .west { logSoft 8 src with event := 3 }) ∧ exec (.regWrite src e sp off be tag ws) s = .next
    (((s.mgmtSend src 7 (mgmtWords [s.epoch, s.master])).wf (CSW_EVENT .west) CSW_EVENT.MGMT_REFUSED 1).log .west
    { logSoft 8 src with event := 3 }) ∧ exec (.budgetGrant src e n) s = .next (((s.mgmtSend src 7 (mgmtWords [s.epoch, s.master])).wf
    (CSW_EVENT .west) CSW_EVENT.MGMT_REFUSED 1).log .west { logSoft 8 src with event := 3 })) ∧
  (∀ (s : State) (src e w : Nat) (a : MgmtAcc),
    s.live = true → s.power.mgmtRestarting = false → e = s.epoch → s.master = src → a =
    { src := src, tag := a.tag, space := a.space, off := a.off, count := a.count, be := 15, write := none } →
    exec (.regRead src e a.space a.off a.count a.tag) s = .next (s.mgmtAccess a) ∧ exec (.budgetGrant src e w) s = .next (s.grantTake w)) ∧
  (∀ (s : State) (src e off be tag sp : Nat) (ws : List Word),
    s.live = true → s.power.mgmtRestarting = false → e = s.epoch → s.master = src →
    exec (.regWrite src e sp off be tag ws) s = .next (s.mgmtAccess
    { src := src, tag := tag, space := sp, off := off, count := ws.length, be := be, write := some ws }))

/-- One step takes the command at the front of the queue and runs it on the state with the queue's rest. -/
def Obligations.StepRunsTheFrontCommand : Prop :=
  ∀ (s : State) (c : Instr) (q : List Instr),
    s.pending = c :: q →
    step s = exec c ({ s with pending := q } : State)

/-- At reset the stores are in canonical form, the device is held with PERST_N asserted and holds no work, every register reads as its
reset value, no command waits (R400, R465, R467). -/
def Obligations.ResetIsSound : Prop :=
  State.reset.canon ∧ State.reset.atRest ∧ State.reset.stage = .held ∧ State.reset.boot.perst = true ∧ State.reset.pending = [] ∧
  State.reset.outbox = [] ∧ (∀ a, State.reset.rd a = resetWord a) ∧ (∀ h, (State.reset.half h).mem = {} ∧ (State.reset.half h).nv = NvHalf.shipped h)

/-- In every state whose sparse stores (registers, T1, T2 and boot flash) are in canonical form, each step that answers a next state
leaves them so. -/
def Obligations.StoresStayCanonical : Prop :=
  ∀ s t : State, s.canon → step s = .next t → t.canon

/-- Work ends only by POWER_OFF, DEVICE_RESET, THERMAL_TRIP or the expiry of a configuration's trial; a device without power answers
nothing but POWER_ON; and a device that is off or held holds no work: every step keeps that (R400, R421, R425, R466, R467). -/
def Obligations.WorkEndsOnlyByAReset : Prop :=
  (∀ (s t : State) (c : Instr), s.live = true → exec c s = .next t → t.live = false →
    c = .powerOff ∨ c = .thermalTrip ∨ c = .trialExpire 0 ∨ ∃ n, c = .deviceReset n) ∧
  (∀ (s : State) (c : Instr), s.stage = .off → (∀ v, c ≠ .powerOn v) → exec c s = .next s) ∧
  (∀ s t : State, s.atRest → step s = .next t → t.atRest)

/-- No command faults; only RAIL_OUT_OF_RANGE (R468) and TAP_INSTRUCTION (R435) are ever refused, so every other command answers a next
state in every state; and each step that answers one has taken the front of the queue and nothing else. -/
def Obligations.EveryCommandCompletes : Prop :=
  (∀ (c : Instr) (s : State), (∀ r, c ≠ .railOutOfRange r) → (∀ k, c ≠ .tapInstruction k) → ∃ t, exec c s = .next t) ∧
  (∀ (c : Instr) (s : State) (f : Fault), exec c s ≠ .fault f) ∧ (∀ s t : State, step s = .next t → t.pending = s.pending.tail)

/-- With no command waiting a step is one microsecond of REFCLK (the model's choice, log entry 17): nothing counts without power or
REFCLK, and past the boot both halves' microsecond counters advance by one (R381). A half whose chosen point (R390) differs from the one
it runs at begins a change to it. -/
def Obligations.IdleMicrosecond : Prop :=
  (∀ (s : State),
    s.pending = [] → (s.stage = .off ∨ s.boot.refOk = false) →
    step s = .next s) ∧
  (∀ (s : State),
    s.pending = [] → s.boot.refOk = true → s.stage = .recovery →
    ∃ t, step s = .next t ∧ (∀ h, t.us h = (s.us h + 1) % 2 ^ 64 ∧ (t.half h).mem = (s.half h).mem ∧ (t.half h).nv = (s.half h).nv) ∧
    t.stage = Stage.recovery ∧ onlyRegs [ERR_POWERED_S, ERR_UNREADY_MS] s
    ({ t with west := s.west, east := s.east, subSec := s.subSec, subMs := s.subMs } : State)) ∧
  (∀ (s : State),
    s.pending = [] → s.boot.refOk = true → s.live = true → s.graphs = [] → s.csw.acc = [] → s.csw.notes = [] → (∀ h, (s.half
    h).nv.refreshes = [] ∧ (s.half h).nv.running = [] ∧ (s.half h).gals = []) → (∀ h, s.opChosen h = s.op h) →
    ∃ t, step s = .next t ∧ (∀ h, t.us h = (s.us h + 1) % 2 ^ 64 ∧ (t.half h).mem = (s.half h).mem ∧ (t.half h).nv = (s.half h).nv) ∧
    t.live = true ∧ t.outbox = s.outbox ∧ t.graphs = [] ∧ t.power = s.power) ∧
  (∀ (s : State) (h : Half),
    s.pending = [] → s.boot.refOk = true → s.live = true → s.graphs = [] → s.csw.acc = [] → s.csw.notes = [] → (∀ h, (s.half
    h).nv.refreshes = [] ∧ (s.half h).nv.running = [] ∧ (s.half h).gals = []) → s.power.restarting = false → s.power.change h = none →
    s.opChosen h ≠ s.op h → s.power.idle h ≠ some (s.opChosen h) →
    ∃ t, step s = .next t ∧ t.power.change h = some ({ target := s.opChosen h } : OpChange) ∧ t.rf PWR_OP_STATUS PWR_OP_STATUS.CHANGING =
    1 ∧ t.op h = s.op h) ∧
  (∀ (s : State) (h : Half),
    s.pending = [] → s.boot.refOk = true → s.live = true → s.graphs = [] → s.csw.acc = [] → s.csw.notes = [] → (∀ h, (s.half
    h).nv.refreshes = [] ∧ (s.half h).nv.running = [] ∧ (s.half h).gals = []) → s.power.restarting = false → s.power.change h = none →
    s.opChosen h < s.op h → s.power.idle h = some (s.opChosen h) → s.pllLocked h (s.idleMain h) = true →
    ∃ t, step s = .next t ∧ t.power.change h = some ({ target := s.opChosen h, switched := true } : OpChange) ∧ t.rf PWR_OP_STATUS
    PWR_OP_STATUS.CHANGING = 1 ∧ t.op h = s.opChosen h)
end

