-- ==== Sys2Proof/Laws/Fields.lean ====
section
/-! SUPPORT. Laws of register fields: a field reads as written, and every other bit is kept. -/

namespace Sys2Proof.Machine

theorem fmask_getLsbD (f : Fld) (i : Nat) (hi : i < 32) :
    (fmask f).getLsbD i = decide (f.lo ≤ i ∧ i < f.lo + f.len) := by
  unfold fmask
  simp only [BitVec.getLsbD_shiftLeft, BitVec.getLsbD_ofNat, Nat.testBit_two_pow_sub_one]
  by_cases h : i < f.lo
  · have : ¬(f.lo ≤ i ∧ i < f.lo + f.len) := by omega
    simp [h, this]
  · have h32 : i - f.lo < 32 := by omega
    by_cases h2 : i - f.lo < f.len
    · have : f.lo ≤ i ∧ i < f.lo + f.len := by omega
      simp [hi, h, h32, h2, this]
    · have : ¬(f.lo ≤ i ∧ i < f.lo + f.len) := by omega
      simp [h2, this]

/-- Every bit of a word with one field written. -/
theorem putF_getLsbD (w : Word) (f : Fld) (v i : Nat) (hi : i < 32) :
    (putF w f v).getLsbD i = if f.lo ≤ i ∧ i < f.lo + f.len then v.testBit (i - f.lo) else w.getLsbD i := by
  unfold putF
  simp only [BitVec.getLsbD_or, BitVec.getLsbD_and, BitVec.getLsbD_not, fmask_getLsbD f i hi, BitVec.getLsbD_shiftLeft,
    BitVec.getLsbD_ofNat]
  by_cases h : f.lo ≤ i ∧ i < f.lo + f.len
  · have h1 : ¬ i < f.lo := by omega
    have h2 : i - f.lo < 32 := by omega
    simp [h, hi, h1, h2]
  · simp [h, hi]

theorem getF_testBit (w : Word) (f : Fld) (i : Nat) :
    (getF w f).testBit i = (decide (i < f.len) && w.getLsbD (f.lo + i)) := by
  unfold getF
  rw [BitVec.testBit_toNat, BitVec.getLsbD_extractLsb']

/-- A field reads as written, cut to its length. -/
theorem getF_putF (w : Word) (f : Fld) (v : Nat) (h : f.lo + f.len ≤ 32) : getF (putF w f v) f = v % 2 ^ f.len := by
  apply Nat.eq_of_testBit_eq
  intro i
  rw [getF_testBit, Nat.testBit_mod_two_pow]
  by_cases hi : i < f.len
  · rw [putF_getLsbD _ _ _ _ (by omega)]
    have : f.lo ≤ f.lo + i ∧ f.lo + i < f.lo + f.len := by omega
    simp [hi]
  · simp [hi]

/-- A field that shares no bit with the one written keeps its value. -/
theorem getF_putF_other (w : Word) (f g : Fld) (v : Nat) (h : f.lo + f.len ≤ g.lo ∨ g.lo + g.len ≤ f.lo) :
    getF (putF w f v) g = getF w g := by
  apply Nat.eq_of_testBit_eq
  intro i
  rw [getF_testBit, getF_testBit]
  by_cases hi : i < g.len
  · by_cases h32 : g.lo + i < 32
    · rw [putF_getLsbD _ _ _ _ h32]
      have : ¬(f.lo ≤ g.lo + i ∧ g.lo + i < f.lo + f.len) := by omega
      simp [this]
    · simp [BitVec.getLsbD_of_ge _ _ (by omega : 32 ≤ g.lo + i)]
  · simp [hi]

theorem getF_lt (w : Word) (f : Fld) : getF w f < 2 ^ f.len := by
  unfold getF
  exact BitVec.isLt _

end Sys2Proof.Machine
end

