-- ==== Sys2Proof/Laws/Map.lean ====
section
/-! SUPPORT. Laws of sparse maps and byte memories: a read after a write, every other key left alone, and the canonical form kept by every
operation. -/

namespace Sys2Proof.Machine

variable {α : Type} (d : Nat → α)

theorem mapGet_erase (m : List (Nat × α)) (k j : Nat) :
    mapGet d (mapErase m k) j = if j = k then d j else mapGet d m j := by
  induction m with
  | nil => simp [mapErase, mapGet]
  | cons e m ih =>
    by_cases he : e.1 = k <;> by_cases hj : j = e.1 <;> simp_all [mapErase, mapGet]

theorem mapGet_insert (m : List (Nat × α)) (k j : Nat) (v : α) (h : ∀ e ∈ m, e.1 ≠ k) :
    mapGet d (mapInsert k v m) j = if j = k then v else mapGet d m j := by
  induction m with
  | nil => simp [mapInsert, mapGet]
  | cons e m ih =>
    have h1 : e.1 ≠ k := h e (by simp)
    have h2 := ih (fun x hx => h x (by simp [hx]))
    simp only [mapInsert]
    split
    · simp [mapGet]
    · simp only [mapGet, h2]
      split <;> split <;> simp_all

theorem mapErase_ne (m : List (Nat × α)) (k : Nat) : ∀ e ∈ mapErase m k, e.1 ≠ k := by
  intro e he
  simp [mapErase] at he
  exact he.2

variable [DecidableEq α]

/-- A read after a write: the written key has the new value, every other key what it had. -/
theorem mapGet_mapSet (m : List (Nat × α)) (k j : Nat) (v : α) :
    mapGet d (mapSet d m k v) j = if j = k then v else mapGet d m j := by
  unfold mapSet
  split
  · rw [mapGet_erase]; split <;> simp_all
  · rw [mapGet_insert d _ k j v (mapErase_ne m k), mapGet_erase]; split <;> simp_all

@[simp] theorem mapGet_mapSet_same (m : List (Nat × α)) (k : Nat) (v : α) : mapGet d (mapSet d m k v) k = v := by
  simp [mapGet_mapSet]

theorem mapGet_mapSet_ne (m : List (Nat × α)) {k j : Nat} (v : α) (h : j ≠ k) :
    mapGet d (mapSet d m k v) j = mapGet d m j := by
  simp [mapGet_mapSet, h]

theorem mapWf_iff (m : List (Nat × α)) :
    mapWf d m = true ↔ (m.map Prod.fst).Pairwise (· < ·) ∧ ∀ e ∈ m, e.2 ≠ d e.1 := by
  simp [mapWf, List.all_eq_true]

@[simp] theorem mapWf_nil : mapWf d [] = true := by simp [mapWf]

theorem mapWf_filter {m : List (Nat × α)} (p : Nat × α → Bool) (h : mapWf d m = true) : mapWf d (m.filter p) = true := by
  rw [mapWf_iff] at h ⊢
  refine ⟨?_, fun e he => h.2 e (List.mem_of_mem_filter he)⟩
  exact List.Pairwise.sublist (List.Sublist.map Prod.fst List.filter_sublist) h.1

@[simp] theorem mapWf_erase {m : List (Nat × α)} (k : Nat) (h : mapWf d m = true) : mapWf d (mapErase m k) = true :=
  mapWf_filter d _ h

@[simp] theorem mapWf_eraseRange {m : List (Nat × α)} (lo len : Nat) (h : mapWf d m = true) :
    mapWf d (mapEraseRange m lo len) = true := mapWf_filter d _ h

omit [DecidableEq α] in
theorem mapInsert_keys {m : List (Nat × α)} {k : Nat} {v : α} {x : Nat} (h : x ∈ (mapInsert k v m).map Prod.fst) :
    x = k ∨ x ∈ m.map Prod.fst := by
  induction m with
  | nil => simpa [mapInsert] using h
  | cons e m ih =>
    simp only [mapInsert] at h
    split at h
    · simpa using h
    · simp only [List.map_cons, List.mem_cons] at h ⊢
      rcases h with h | h
      · exact .inr (.inl h)
      · rcases ih h with h | h
        · exact .inl h
        · exact .inr (.inr h)

omit [DecidableEq α] in
theorem mapInsert_mem {m : List (Nat × α)} {k : Nat} {v : α} {e : Nat × α} (h : e ∈ mapInsert k v m) : e = (k, v) ∨ e ∈ m := by
  induction m with
  | nil => simpa [mapInsert] using h
  | cons x m ih =>
    simp only [mapInsert] at h
    split at h
    · simpa using h
    · simp only [List.mem_cons] at h ⊢
      rcases h with h | h
      · exact .inr (.inl h)
      · rcases ih h with h | h
        · exact .inl h
        · exact .inr (.inr h)

omit [DecidableEq α] in
theorem mapInsert_sorted {m : List (Nat × α)} {k : Nat} {v : α} (hk : ∀ e ∈ m, e.1 ≠ k)
    (h : (m.map Prod.fst).Pairwise (· < ·)) : ((mapInsert k v m).map Prod.fst).Pairwise (· < ·) := by
  induction m with
  | nil => simp [mapInsert]
  | cons e m ih =>
    rw [List.map_cons, List.pairwise_cons] at h
    have hek : e.1 ≠ k := hk e (by simp)
    simp only [mapInsert]
    split
    · rename_i hlt
      simp only [List.map_cons, List.pairwise_cons]
      refine ⟨fun x hx => ?_, h.1, h.2⟩
      rcases List.mem_cons.1 hx with rfl | hx
      · exact hlt
      · exact Nat.lt_trans hlt (h.1 x hx)
    · rename_i hge
      simp only [List.map_cons, List.pairwise_cons]
      refine ⟨fun x hx => ?_, ih (fun y hy => hk y (by simp [hy])) h.2⟩
      rcases mapInsert_keys hx with rfl | hx
      · omega
      · exact h.1 x hx

/-- A write keeps the canonical form. -/
@[simp] theorem mapWf_mapSet {m : List (Nat × α)} (k : Nat) (v : α) (h : mapWf d m = true) : mapWf d (mapSet d m k v) = true := by
  unfold mapSet
  have he := mapWf_erase d k h
  split
  · exact he
  · rename_i hv
    rw [mapWf_iff] at he ⊢
    refine ⟨mapInsert_sorted (mapErase_ne m k) he.1, fun e hm => ?_⟩
    rcases mapInsert_mem hm with rfl | hm
    · exact hv
    · exact he.2 e hm

/-- A store keeps the canonical form. -/
@[simp] theorem mapWf_memWrite (d : Nat → Byte) (bs : List Byte) : ∀ {m : List (Nat × Byte)} (a : Nat),
    mapWf d m = true → mapWf d (memWrite d m a bs) = true := by
  induction bs with
  | nil => exact fun a h => h
  | cons b bs ih => exact fun a h => ih (a + 1) (mapWf_mapSet d a b h)

/-- What one byte reads as after a store. -/
theorem mapGet_memWrite (d : Nat → Byte) (bs : List Byte) : ∀ (m : List (Nat × Byte)) (a j : Nat),
    mapGet d (memWrite d m a bs) j = if a ≤ j ∧ j < a + bs.length then bs.getD (j - a) 0 else mapGet d m j := by
  induction bs with
  | nil =>
    intro m a j
    have : ¬(a ≤ j ∧ j < a) := by omega
    simp [memWrite, this]
  | cons b bs ih =>
    intro m a j
    simp only [memWrite, ih, mapGet_mapSet, List.length_cons]
    by_cases hj : j = a
    · subst hj
      have : ¬(j + 1 ≤ j) := by omega
      simp [this]
    · by_cases h1 : a + 1 ≤ j ∧ j < a + 1 + bs.length
      · have h2 : a ≤ j ∧ j < a + (bs.length + 1) := by omega
        have h3 : j - a = (j - (a + 1)) + 1 := by omega
        simp [h1, h2, h3]
      · have h2 : ¬(a ≤ j ∧ j < a + (bs.length + 1)) := by omega
        rw [if_neg h1, if_neg h2, if_neg hj]

theorem memRead_length (d : Nat → Byte) (m : List (Nat × Byte)) (n : Nat) : ∀ a, (memRead d m a n).length = n := by
  induction n with
  | zero => intro a; rfl
  | succ n ih => intro a; simp [memRead, ih]

theorem memRead_getD (d : Nat → Byte) (m : List (Nat × Byte)) (n : Nat) : ∀ (a i : Nat), i < n →
    (memRead d m a n).getD i 0 = mapGet d m (a + i) := by
  induction n with
  | zero => intro a i h; omega
  | succ n ih =>
    intro a i h
    cases i with
    | zero => simp [memRead]
    | succ i =>
      have := ih (a + 1) i (by omega)
      simp only [memRead, List.getD_cons_succ, this]
      congr 1
      omega

/-- Bytes stored read back. -/
theorem memRead_memWrite (d : Nat → Byte) (m : List (Nat × Byte)) (a : Nat) (bs : List Byte) :
    memRead d (memWrite d m a bs) a bs.length = bs := by
  apply List.ext_getElem (memRead_length _ _ _ _)
  intro i h1 h2
  have h := memRead_getD d (memWrite d m a bs) bs.length a i h2
  rw [mapGet_memWrite] at h
  have h3 : a ≤ a + i ∧ a + i < a + bs.length := by omega
  simp only [h3, and_self, if_true, Nat.add_sub_cancel_left] at h
  rw [List.getD_eq_getElem _ _ h1, List.getD_eq_getElem _ _ h2] at h
  exact h

end Sys2Proof.Machine
end

