-- ==== Sys2Proof/Laws/State.lean ====
section
/-! SUPPORT. One law per field per update of State: an update changes the field it names and leaves every other as it was. Then the laws of
registers and their fields: a read after a write. -/

namespace Sys2Proof.Machine

variable (s : State)

/-! ## Updates leave the other fields -/

@[simp] theorem State.wr_pending (a : Nat) (v : Word) : (s.wr a v).pending = s.pending := (rfl)
@[simp] theorem State.wr_west (a : Nat) (v : Word) : (s.wr a v).west = s.west := (rfl)
@[simp] theorem State.wr_east (a : Nat) (v : Word) : (s.wr a v).east = s.east := (rfl)
@[simp] theorem State.wr_outbox (a : Nat) (v : Word) : (s.wr a v).outbox = s.outbox := (rfl)
@[simp] theorem State.wr_freeCtr (a : Nat) (v : Word) : (s.wr a v).freeCtr = s.freeCtr := (rfl)
@[simp] theorem State.wr_order (a : Nat) (v : Word) : (s.wr a v).order = s.order := (rfl)
@[simp] theorem State.wr_stage (a : Nat) (v : Word) : (s.wr a v).stage = s.stage := (rfl)
@[simp] theorem State.wr_power (a : Nat) (v : Word) : (s.wr a v).power = s.power := (rfl)
@[simp] theorem State.wr_pcie (a : Nat) (v : Word) : (s.wr a v).pcie = s.pcie := (rfl)
@[simp] theorem State.wr_boot (a : Nat) (v : Word) : (s.wr a v).boot = s.boot := (rfl)
@[simp] theorem State.wr_sec (a : Nat) (v : Word) : (s.wr a v).sec = s.sec := (rfl)
@[simp] theorem State.wr_engines (a : Nat) (v : Word) : (s.wr a v).engines = s.engines := (rfl)
@[simp] theorem State.wr_ports (a : Nat) (v : Word) : (s.wr a v).ports = s.ports := (rfl)
@[simp] theorem State.wr_csw (a : Nat) (v : Word) : (s.wr a v).csw = s.csw := (rfl)
@[simp] theorem State.wr_ctxs (a : Nat) (v : Word) : (s.wr a v).ctxs = s.ctxs := (rfl)
@[simp] theorem State.wr_graphs (a : Nat) (v : Word) : (s.wr a v).graphs = s.graphs := (rfl)
@[simp] theorem State.wr_admitSeq (a : Nat) (v : Word) : (s.wr a v).admitSeq = s.admitSeq := (rfl)
@[simp] theorem State.wr_jctWait (a : Nat) (v : Word) : (s.wr a v).jctWait = s.jctWait := (rfl)
@[simp] theorem State.wr_escalSeq (a : Nat) (v : Word) : (s.wr a v).escalSeq = s.escalSeq := (rfl)
@[simp] theorem State.wr_rrNext (a : Nat) (v : Word) : (s.wr a v).rrNext = s.rrNext := (rfl)
@[simp] theorem State.wr_jctPage (a : Nat) (v : Word) : (s.wr a v).jctPage = s.jctPage := (rfl)
@[simp] theorem State.wr_subSec (a : Nat) (v : Word) : (s.wr a v).subSec = s.subSec := (rfl)
@[simp] theorem State.wr_subMs (a : Nat) (v : Word) : (s.wr a v).subMs = s.subMs := (rfl)

@[simp] theorem State.wf_pending (a : Nat) (f : Fld) (v : Nat) : (s.wf a f v).pending = s.pending := (rfl)
@[simp] theorem State.wf_west (a : Nat) (f : Fld) (v : Nat) : (s.wf a f v).west = s.west := (rfl)
@[simp] theorem State.wf_east (a : Nat) (f : Fld) (v : Nat) : (s.wf a f v).east = s.east := (rfl)
@[simp] theorem State.wf_outbox (a : Nat) (f : Fld) (v : Nat) : (s.wf a f v).outbox = s.outbox := (rfl)
@[simp] theorem State.wf_freeCtr (a : Nat) (f : Fld) (v : Nat) : (s.wf a f v).freeCtr = s.freeCtr := (rfl)
@[simp] theorem State.wf_order (a : Nat) (f : Fld) (v : Nat) : (s.wf a f v).order = s.order := (rfl)
@[simp] theorem State.wf_stage (a : Nat) (f : Fld) (v : Nat) : (s.wf a f v).stage = s.stage := (rfl)
@[simp] theorem State.wf_power (a : Nat) (f : Fld) (v : Nat) : (s.wf a f v).power = s.power := (rfl)
@[simp] theorem State.wf_pcie (a : Nat) (f : Fld) (v : Nat) : (s.wf a f v).pcie = s.pcie := (rfl)
@[simp] theorem State.wf_boot (a : Nat) (f : Fld) (v : Nat) : (s.wf a f v).boot = s.boot := (rfl)
@[simp] theorem State.wf_sec (a : Nat) (f : Fld) (v : Nat) : (s.wf a f v).sec = s.sec := (rfl)
@[simp] theorem State.wf_engines (a : Nat) (f : Fld) (v : Nat) : (s.wf a f v).engines = s.engines := (rfl)
@[simp] theorem State.wf_ports (a : Nat) (f : Fld) (v : Nat) : (s.wf a f v).ports = s.ports := (rfl)
@[simp] theorem State.wf_csw (a : Nat) (f : Fld) (v : Nat) : (s.wf a f v).csw = s.csw := (rfl)
@[simp] theorem State.wf_ctxs (a : Nat) (f : Fld) (v : Nat) : (s.wf a f v).ctxs = s.ctxs := (rfl)
@[simp] theorem State.wf_graphs (a : Nat) (f : Fld) (v : Nat) : (s.wf a f v).graphs = s.graphs := (rfl)
@[simp] theorem State.wf_admitSeq (a : Nat) (f : Fld) (v : Nat) : (s.wf a f v).admitSeq = s.admitSeq := (rfl)
@[simp] theorem State.wf_jctWait (a : Nat) (f : Fld) (v : Nat) : (s.wf a f v).jctWait = s.jctWait := (rfl)
@[simp] theorem State.wf_escalSeq (a : Nat) (f : Fld) (v : Nat) : (s.wf a f v).escalSeq = s.escalSeq := (rfl)
@[simp] theorem State.wf_rrNext (a : Nat) (f : Fld) (v : Nat) : (s.wf a f v).rrNext = s.rrNext := (rfl)
@[simp] theorem State.wf_jctPage (a : Nat) (f : Fld) (v : Nat) : (s.wf a f v).jctPage = s.jctPage := (rfl)
@[simp] theorem State.wf_subSec (a : Nat) (f : Fld) (v : Nat) : (s.wf a f v).subSec = s.subSec := (rfl)
@[simp] theorem State.wf_subMs (a : Nat) (f : Fld) (v : Nat) : (s.wf a f v).subMs = s.subMs := (rfl)

@[simp] theorem State.add_pending (a : Nat) (f : Fld) (n : Nat) : (s.add a f n).pending = s.pending := (rfl)
@[simp] theorem State.add_west (a : Nat) (f : Fld) (n : Nat) : (s.add a f n).west = s.west := (rfl)
@[simp] theorem State.add_east (a : Nat) (f : Fld) (n : Nat) : (s.add a f n).east = s.east := (rfl)
@[simp] theorem State.add_outbox (a : Nat) (f : Fld) (n : Nat) : (s.add a f n).outbox = s.outbox := (rfl)
@[simp] theorem State.add_freeCtr (a : Nat) (f : Fld) (n : Nat) : (s.add a f n).freeCtr = s.freeCtr := (rfl)
@[simp] theorem State.add_order (a : Nat) (f : Fld) (n : Nat) : (s.add a f n).order = s.order := (rfl)
@[simp] theorem State.add_stage (a : Nat) (f : Fld) (n : Nat) : (s.add a f n).stage = s.stage := (rfl)
@[simp] theorem State.add_power (a : Nat) (f : Fld) (n : Nat) : (s.add a f n).power = s.power := (rfl)
@[simp] theorem State.add_pcie (a : Nat) (f : Fld) (n : Nat) : (s.add a f n).pcie = s.pcie := (rfl)
@[simp] theorem State.add_boot (a : Nat) (f : Fld) (n : Nat) : (s.add a f n).boot = s.boot := (rfl)
@[simp] theorem State.add_sec (a : Nat) (f : Fld) (n : Nat) : (s.add a f n).sec = s.sec := (rfl)
@[simp] theorem State.add_engines (a : Nat) (f : Fld) (n : Nat) : (s.add a f n).engines = s.engines := (rfl)
@[simp] theorem State.add_ports (a : Nat) (f : Fld) (n : Nat) : (s.add a f n).ports = s.ports := (rfl)
@[simp] theorem State.add_csw (a : Nat) (f : Fld) (n : Nat) : (s.add a f n).csw = s.csw := (rfl)
@[simp] theorem State.add_ctxs (a : Nat) (f : Fld) (n : Nat) : (s.add a f n).ctxs = s.ctxs := (rfl)
@[simp] theorem State.add_graphs (a : Nat) (f : Fld) (n : Nat) : (s.add a f n).graphs = s.graphs := (rfl)
@[simp] theorem State.add_admitSeq (a : Nat) (f : Fld) (n : Nat) : (s.add a f n).admitSeq = s.admitSeq := (rfl)
@[simp] theorem State.add_jctWait (a : Nat) (f : Fld) (n : Nat) : (s.add a f n).jctWait = s.jctWait := (rfl)
@[simp] theorem State.add_escalSeq (a : Nat) (f : Fld) (n : Nat) : (s.add a f n).escalSeq = s.escalSeq := (rfl)
@[simp] theorem State.add_rrNext (a : Nat) (f : Fld) (n : Nat) : (s.add a f n).rrNext = s.rrNext := (rfl)
@[simp] theorem State.add_jctPage (a : Nat) (f : Fld) (n : Nat) : (s.add a f n).jctPage = s.jctPage := (rfl)
@[simp] theorem State.add_subSec (a : Nat) (f : Fld) (n : Nat) : (s.add a f n).subSec = s.subSec := (rfl)
@[simp] theorem State.add_subMs (a : Nat) (f : Fld) (n : Nat) : (s.add a f n).subMs = s.subMs := (rfl)

@[simp] theorem State.addSat_pending (a : Nat) (f : Fld) (n : Nat) : (s.addSat a f n).pending = s.pending := (rfl)
@[simp] theorem State.addSat_west (a : Nat) (f : Fld) (n : Nat) : (s.addSat a f n).west = s.west := (rfl)
@[simp] theorem State.addSat_east (a : Nat) (f : Fld) (n : Nat) : (s.addSat a f n).east = s.east := (rfl)
@[simp] theorem State.addSat_outbox (a : Nat) (f : Fld) (n : Nat) : (s.addSat a f n).outbox = s.outbox := (rfl)
@[simp] theorem State.addSat_freeCtr (a : Nat) (f : Fld) (n : Nat) : (s.addSat a f n).freeCtr = s.freeCtr := (rfl)
@[simp] theorem State.addSat_order (a : Nat) (f : Fld) (n : Nat) : (s.addSat a f n).order = s.order := (rfl)
@[simp] theorem State.addSat_stage (a : Nat) (f : Fld) (n : Nat) : (s.addSat a f n).stage = s.stage := (rfl)
@[simp] theorem State.addSat_power (a : Nat) (f : Fld) (n : Nat) : (s.addSat a f n).power = s.power := (rfl)
@[simp] theorem State.addSat_pcie (a : Nat) (f : Fld) (n : Nat) : (s.addSat a f n).pcie = s.pcie := (rfl)
@[simp] theorem State.addSat_boot (a : Nat) (f : Fld) (n : Nat) : (s.addSat a f n).boot = s.boot := (rfl)
@[simp] theorem State.addSat_sec (a : Nat) (f : Fld) (n : Nat) : (s.addSat a f n).sec = s.sec := (rfl)
@[simp] theorem State.addSat_engines (a : Nat) (f : Fld) (n : Nat) : (s.addSat a f n).engines = s.engines := (rfl)
@[simp] theorem State.addSat_ports (a : Nat) (f : Fld) (n : Nat) : (s.addSat a f n).ports = s.ports := (rfl)
@[simp] theorem State.addSat_csw (a : Nat) (f : Fld) (n : Nat) : (s.addSat a f n).csw = s.csw := (rfl)
@[simp] theorem State.addSat_ctxs (a : Nat) (f : Fld) (n : Nat) : (s.addSat a f n).ctxs = s.ctxs := (rfl)
@[simp] theorem State.addSat_graphs (a : Nat) (f : Fld) (n : Nat) : (s.addSat a f n).graphs = s.graphs := (rfl)
@[simp] theorem State.addSat_admitSeq (a : Nat) (f : Fld) (n : Nat) : (s.addSat a f n).admitSeq = s.admitSeq := (rfl)
@[simp] theorem State.addSat_jctWait (a : Nat) (f : Fld) (n : Nat) : (s.addSat a f n).jctWait = s.jctWait := (rfl)
@[simp] theorem State.addSat_escalSeq (a : Nat) (f : Fld) (n : Nat) : (s.addSat a f n).escalSeq = s.escalSeq := (rfl)
@[simp] theorem State.addSat_rrNext (a : Nat) (f : Fld) (n : Nat) : (s.addSat a f n).rrNext = s.rrNext := (rfl)
@[simp] theorem State.addSat_jctPage (a : Nat) (f : Fld) (n : Nat) : (s.addSat a f n).jctPage = s.jctPage := (rfl)
@[simp] theorem State.addSat_subSec (a : Nat) (f : Fld) (n : Nat) : (s.addSat a f n).subSec = s.subSec := (rfl)
@[simp] theorem State.addSat_subMs (a : Nat) (f : Fld) (n : Nat) : (s.addSat a f n).subMs = s.subMs := (rfl)

@[simp] theorem State.sub_pending (a : Nat) (f : Fld) (n : Nat) : (s.sub a f n).pending = s.pending := (rfl)
@[simp] theorem State.sub_west (a : Nat) (f : Fld) (n : Nat) : (s.sub a f n).west = s.west := (rfl)
@[simp] theorem State.sub_east (a : Nat) (f : Fld) (n : Nat) : (s.sub a f n).east = s.east := (rfl)
@[simp] theorem State.sub_outbox (a : Nat) (f : Fld) (n : Nat) : (s.sub a f n).outbox = s.outbox := (rfl)
@[simp] theorem State.sub_freeCtr (a : Nat) (f : Fld) (n : Nat) : (s.sub a f n).freeCtr = s.freeCtr := (rfl)
@[simp] theorem State.sub_order (a : Nat) (f : Fld) (n : Nat) : (s.sub a f n).order = s.order := (rfl)
@[simp] theorem State.sub_stage (a : Nat) (f : Fld) (n : Nat) : (s.sub a f n).stage = s.stage := (rfl)
@[simp] theorem State.sub_power (a : Nat) (f : Fld) (n : Nat) : (s.sub a f n).power = s.power := (rfl)
@[simp] theorem State.sub_pcie (a : Nat) (f : Fld) (n : Nat) : (s.sub a f n).pcie = s.pcie := (rfl)
@[simp] theorem State.sub_boot (a : Nat) (f : Fld) (n : Nat) : (s.sub a f n).boot = s.boot := (rfl)
@[simp] theorem State.sub_sec (a : Nat) (f : Fld) (n : Nat) : (s.sub a f n).sec = s.sec := (rfl)
@[simp] theorem State.sub_engines (a : Nat) (f : Fld) (n : Nat) : (s.sub a f n).engines = s.engines := (rfl)
@[simp] theorem State.sub_ports (a : Nat) (f : Fld) (n : Nat) : (s.sub a f n).ports = s.ports := (rfl)
@[simp] theorem State.sub_csw (a : Nat) (f : Fld) (n : Nat) : (s.sub a f n).csw = s.csw := (rfl)
@[simp] theorem State.sub_ctxs (a : Nat) (f : Fld) (n : Nat) : (s.sub a f n).ctxs = s.ctxs := (rfl)
@[simp] theorem State.sub_graphs (a : Nat) (f : Fld) (n : Nat) : (s.sub a f n).graphs = s.graphs := (rfl)
@[simp] theorem State.sub_admitSeq (a : Nat) (f : Fld) (n : Nat) : (s.sub a f n).admitSeq = s.admitSeq := (rfl)
@[simp] theorem State.sub_jctWait (a : Nat) (f : Fld) (n : Nat) : (s.sub a f n).jctWait = s.jctWait := (rfl)
@[simp] theorem State.sub_escalSeq (a : Nat) (f : Fld) (n : Nat) : (s.sub a f n).escalSeq = s.escalSeq := (rfl)
@[simp] theorem State.sub_rrNext (a : Nat) (f : Fld) (n : Nat) : (s.sub a f n).rrNext = s.rrNext := (rfl)
@[simp] theorem State.sub_jctPage (a : Nat) (f : Fld) (n : Nat) : (s.sub a f n).jctPage = s.jctPage := (rfl)
@[simp] theorem State.sub_subSec (a : Nat) (f : Fld) (n : Nat) : (s.sub a f n).subSec = s.subSec := (rfl)
@[simp] theorem State.sub_subMs (a : Nat) (f : Fld) (n : Nat) : (s.sub a f n).subMs = s.subMs := (rfl)

@[simp] theorem State.send_pending (o : Output) : (s.send o).pending = s.pending := (rfl)
@[simp] theorem State.send_regs (o : Output) : (s.send o).regs = s.regs := (rfl)
@[simp] theorem State.send_west (o : Output) : (s.send o).west = s.west := (rfl)
@[simp] theorem State.send_east (o : Output) : (s.send o).east = s.east := (rfl)
@[simp] theorem State.send_freeCtr (o : Output) : (s.send o).freeCtr = s.freeCtr := (rfl)
@[simp] theorem State.send_order (o : Output) : (s.send o).order = s.order := (rfl)
@[simp] theorem State.send_stage (o : Output) : (s.send o).stage = s.stage := (rfl)
@[simp] theorem State.send_power (o : Output) : (s.send o).power = s.power := (rfl)
@[simp] theorem State.send_pcie (o : Output) : (s.send o).pcie = s.pcie := (rfl)
@[simp] theorem State.send_boot (o : Output) : (s.send o).boot = s.boot := (rfl)
@[simp] theorem State.send_sec (o : Output) : (s.send o).sec = s.sec := (rfl)
@[simp] theorem State.send_engines (o : Output) : (s.send o).engines = s.engines := (rfl)
@[simp] theorem State.send_ports (o : Output) : (s.send o).ports = s.ports := (rfl)
@[simp] theorem State.send_csw (o : Output) : (s.send o).csw = s.csw := (rfl)
@[simp] theorem State.send_ctxs (o : Output) : (s.send o).ctxs = s.ctxs := (rfl)
@[simp] theorem State.send_graphs (o : Output) : (s.send o).graphs = s.graphs := (rfl)
@[simp] theorem State.send_admitSeq (o : Output) : (s.send o).admitSeq = s.admitSeq := (rfl)
@[simp] theorem State.send_jctWait (o : Output) : (s.send o).jctWait = s.jctWait := (rfl)
@[simp] theorem State.send_escalSeq (o : Output) : (s.send o).escalSeq = s.escalSeq := (rfl)
@[simp] theorem State.send_rrNext (o : Output) : (s.send o).rrNext = s.rrNext := (rfl)
@[simp] theorem State.send_jctPage (o : Output) : (s.send o).jctPage = s.jctPage := (rfl)
@[simp] theorem State.send_subSec (o : Output) : (s.send o).subSec = s.subSec := (rfl)
@[simp] theorem State.send_subMs (o : Output) : (s.send o).subMs = s.subMs := (rfl)

@[simp] theorem State.modGraph_pending (c g : Nat) (f : Graph → Graph) : (s.modGraph c g f).pending = s.pending := (rfl)
@[simp] theorem State.modGraph_regs (c g : Nat) (f : Graph → Graph) : (s.modGraph c g f).regs = s.regs := (rfl)
@[simp] theorem State.modGraph_west (c g : Nat) (f : Graph → Graph) : (s.modGraph c g f).west = s.west := (rfl)
@[simp] theorem State.modGraph_east (c g : Nat) (f : Graph → Graph) : (s.modGraph c g f).east = s.east := (rfl)
@[simp] theorem State.modGraph_outbox (c g : Nat) (f : Graph → Graph) : (s.modGraph c g f).outbox = s.outbox := (rfl)
@[simp] theorem State.modGraph_freeCtr (c g : Nat) (f : Graph → Graph) : (s.modGraph c g f).freeCtr = s.freeCtr := (rfl)
@[simp] theorem State.modGraph_order (c g : Nat) (f : Graph → Graph) : (s.modGraph c g f).order = s.order := (rfl)
@[simp] theorem State.modGraph_stage (c g : Nat) (f : Graph → Graph) : (s.modGraph c g f).stage = s.stage := (rfl)
@[simp] theorem State.modGraph_power (c g : Nat) (f : Graph → Graph) : (s.modGraph c g f).power = s.power := (rfl)
@[simp] theorem State.modGraph_pcie (c g : Nat) (f : Graph → Graph) : (s.modGraph c g f).pcie = s.pcie := (rfl)
@[simp] theorem State.modGraph_boot (c g : Nat) (f : Graph → Graph) : (s.modGraph c g f).boot = s.boot := (rfl)
@[simp] theorem State.modGraph_sec (c g : Nat) (f : Graph → Graph) : (s.modGraph c g f).sec = s.sec := (rfl)
@[simp] theorem State.modGraph_engines (c g : Nat) (f : Graph → Graph) : (s.modGraph c g f).engines = s.engines := (rfl)
@[simp] theorem State.modGraph_ports (c g : Nat) (f : Graph → Graph) : (s.modGraph c g f).ports = s.ports := (rfl)
@[simp] theorem State.modGraph_csw (c g : Nat) (f : Graph → Graph) : (s.modGraph c g f).csw = s.csw := (rfl)
@[simp] theorem State.modGraph_ctxs (c g : Nat) (f : Graph → Graph) : (s.modGraph c g f).ctxs = s.ctxs := (rfl)
@[simp] theorem State.modGraph_admitSeq (c g : Nat) (f : Graph → Graph) : (s.modGraph c g f).admitSeq = s.admitSeq := (rfl)
@[simp] theorem State.modGraph_jctWait (c g : Nat) (f : Graph → Graph) : (s.modGraph c g f).jctWait = s.jctWait := (rfl)
@[simp] theorem State.modGraph_escalSeq (c g : Nat) (f : Graph → Graph) : (s.modGraph c g f).escalSeq = s.escalSeq := (rfl)
@[simp] theorem State.modGraph_rrNext (c g : Nat) (f : Graph → Graph) : (s.modGraph c g f).rrNext = s.rrNext := (rfl)
@[simp] theorem State.modGraph_jctPage (c g : Nat) (f : Graph → Graph) : (s.modGraph c g f).jctPage = s.jctPage := (rfl)
@[simp] theorem State.modGraph_subSec (c g : Nat) (f : Graph → Graph) : (s.modGraph c g f).subSec = s.subSec := (rfl)
@[simp] theorem State.modGraph_subMs (c g : Nat) (f : Graph → Graph) : (s.modGraph c g f).subMs = s.subMs := (rfl)

@[simp] theorem State.modNode_pending (r : NodeRef) (f : Node → Node) : (s.modNode r f).pending = s.pending := (rfl)
@[simp] theorem State.modNode_regs (r : NodeRef) (f : Node → Node) : (s.modNode r f).regs = s.regs := (rfl)
@[simp] theorem State.modNode_west (r : NodeRef) (f : Node → Node) : (s.modNode r f).west = s.west := (rfl)
@[simp] theorem State.modNode_east (r : NodeRef) (f : Node → Node) : (s.modNode r f).east = s.east := (rfl)
@[simp] theorem State.modNode_outbox (r : NodeRef) (f : Node → Node) : (s.modNode r f).outbox = s.outbox := (rfl)
@[simp] theorem State.modNode_freeCtr (r : NodeRef) (f : Node → Node) : (s.modNode r f).freeCtr = s.freeCtr := (rfl)
@[simp] theorem State.modNode_order (r : NodeRef) (f : Node → Node) : (s.modNode r f).order = s.order := (rfl)
@[simp] theorem State.modNode_stage (r : NodeRef) (f : Node → Node) : (s.modNode r f).stage = s.stage := (rfl)
@[simp] theorem State.modNode_power (r : NodeRef) (f : Node → Node) : (s.modNode r f).power = s.power := (rfl)
@[simp] theorem State.modNode_pcie (r : NodeRef) (f : Node → Node) : (s.modNode r f).pcie = s.pcie := (rfl)
@[simp] theorem State.modNode_boot (r : NodeRef) (f : Node → Node) : (s.modNode r f).boot = s.boot := (rfl)
@[simp] theorem State.modNode_sec (r : NodeRef) (f : Node → Node) : (s.modNode r f).sec = s.sec := (rfl)
@[simp] theorem State.modNode_engines (r : NodeRef) (f : Node → Node) : (s.modNode r f).engines = s.engines := (rfl)
@[simp] theorem State.modNode_ports (r : NodeRef) (f : Node → Node) : (s.modNode r f).ports = s.ports := (rfl)
@[simp] theorem State.modNode_csw (r : NodeRef) (f : Node → Node) : (s.modNode r f).csw = s.csw := (rfl)
@[simp] theorem State.modNode_ctxs (r : NodeRef) (f : Node → Node) : (s.modNode r f).ctxs = s.ctxs := (rfl)
@[simp] theorem State.modNode_admitSeq (r : NodeRef) (f : Node → Node) : (s.modNode r f).admitSeq = s.admitSeq := (rfl)
@[simp] theorem State.modNode_jctWait (r : NodeRef) (f : Node → Node) : (s.modNode r f).jctWait = s.jctWait := (rfl)
@[simp] theorem State.modNode_escalSeq (r : NodeRef) (f : Node → Node) : (s.modNode r f).escalSeq = s.escalSeq := (rfl)
@[simp] theorem State.modNode_rrNext (r : NodeRef) (f : Node → Node) : (s.modNode r f).rrNext = s.rrNext := (rfl)
@[simp] theorem State.modNode_jctPage (r : NodeRef) (f : Node → Node) : (s.modNode r f).jctPage = s.jctPage := (rfl)
@[simp] theorem State.modNode_subSec (r : NodeRef) (f : Node → Node) : (s.modNode r f).subSec = s.subSec := (rfl)
@[simp] theorem State.modNode_subMs (r : NodeRef) (f : Node → Node) : (s.modNode r f).subMs = s.subMs := (rfl)

@[simp] theorem State.setEngine_pending (e : Nat) (x : Engine) : (s.setEngine e x).pending = s.pending := (rfl)
@[simp] theorem State.setEngine_regs (e : Nat) (x : Engine) : (s.setEngine e x).regs = s.regs := (rfl)
@[simp] theorem State.setEngine_west (e : Nat) (x : Engine) : (s.setEngine e x).west = s.west := (rfl)
@[simp] theorem State.setEngine_east (e : Nat) (x : Engine) : (s.setEngine e x).east = s.east := (rfl)
@[simp] theorem State.setEngine_outbox (e : Nat) (x : Engine) : (s.setEngine e x).outbox = s.outbox := (rfl)
@[simp] theorem State.setEngine_freeCtr (e : Nat) (x : Engine) : (s.setEngine e x).freeCtr = s.freeCtr := (rfl)
@[simp] theorem State.setEngine_order (e : Nat) (x : Engine) : (s.setEngine e x).order = s.order := (rfl)
@[simp] theorem State.setEngine_stage (e : Nat) (x : Engine) : (s.setEngine e x).stage = s.stage := (rfl)
@[simp] theorem State.setEngine_power (e : Nat) (x : Engine) : (s.setEngine e x).power = s.power := (rfl)
@[simp] theorem State.setEngine_pcie (e : Nat) (x : Engine) : (s.setEngine e x).pcie = s.pcie := (rfl)
@[simp] theorem State.setEngine_boot (e : Nat) (x : Engine) : (s.setEngine e x).boot = s.boot := (rfl)
@[simp] theorem State.setEngine_sec (e : Nat) (x : Engine) : (s.setEngine e x).sec = s.sec := (rfl)
@[simp] theorem State.setEngine_ports (e : Nat) (x : Engine) : (s.setEngine e x).ports = s.ports := (rfl)
@[simp] theorem State.setEngine_csw (e : Nat) (x : Engine) : (s.setEngine e x).csw = s.csw := (rfl)
@[simp] theorem State.setEngine_ctxs (e : Nat) (x : Engine) : (s.setEngine e x).ctxs = s.ctxs := (rfl)
@[simp] theorem State.setEngine_graphs (e : Nat) (x : Engine) : (s.setEngine e x).graphs = s.graphs := (rfl)
@[simp] theorem State.setEngine_admitSeq (e : Nat) (x : Engine) : (s.setEngine e x).admitSeq = s.admitSeq := (rfl)
@[simp] theorem State.setEngine_jctWait (e : Nat) (x : Engine) : (s.setEngine e x).jctWait = s.jctWait := (rfl)
@[simp] theorem State.setEngine_escalSeq (e : Nat) (x : Engine) : (s.setEngine e x).escalSeq = s.escalSeq := (rfl)
@[simp] theorem State.setEngine_rrNext (e : Nat) (x : Engine) : (s.setEngine e x).rrNext = s.rrNext := (rfl)
@[simp] theorem State.setEngine_jctPage (e : Nat) (x : Engine) : (s.setEngine e x).jctPage = s.jctPage := (rfl)
@[simp] theorem State.setEngine_subSec (e : Nat) (x : Engine) : (s.setEngine e x).subSec = s.subSec := (rfl)
@[simp] theorem State.setEngine_subMs (e : Nat) (x : Engine) : (s.setEngine e x).subMs = s.subMs := (rfl)

@[simp] theorem State.setCtx_pending (c : Nat) (x : Ctx) : (s.setCtx c x).pending = s.pending := (rfl)
@[simp] theorem State.setCtx_regs (c : Nat) (x : Ctx) : (s.setCtx c x).regs = s.regs := (rfl)
@[simp] theorem State.setCtx_west (c : Nat) (x : Ctx) : (s.setCtx c x).west = s.west := (rfl)
@[simp] theorem State.setCtx_east (c : Nat) (x : Ctx) : (s.setCtx c x).east = s.east := (rfl)
@[simp] theorem State.setCtx_outbox (c : Nat) (x : Ctx) : (s.setCtx c x).outbox = s.outbox := (rfl)
@[simp] theorem State.setCtx_freeCtr (c : Nat) (x : Ctx) : (s.setCtx c x).freeCtr = s.freeCtr := (rfl)
@[simp] theorem State.setCtx_order (c : Nat) (x : Ctx) : (s.setCtx c x).order = s.order := (rfl)
@[simp] theorem State.setCtx_stage (c : Nat) (x : Ctx) : (s.setCtx c x).stage = s.stage := (rfl)
@[simp] theorem State.setCtx_power (c : Nat) (x : Ctx) : (s.setCtx c x).power = s.power := (rfl)
@[simp] theorem State.setCtx_pcie (c : Nat) (x : Ctx) : (s.setCtx c x).pcie = s.pcie := (rfl)
@[simp] theorem State.setCtx_boot (c : Nat) (x : Ctx) : (s.setCtx c x).boot = s.boot := (rfl)
@[simp] theorem State.setCtx_sec (c : Nat) (x : Ctx) : (s.setCtx c x).sec = s.sec := (rfl)
@[simp] theorem State.setCtx_engines (c : Nat) (x : Ctx) : (s.setCtx c x).engines = s.engines := (rfl)
@[simp] theorem State.setCtx_ports (c : Nat) (x : Ctx) : (s.setCtx c x).ports = s.ports := (rfl)
@[simp] theorem State.setCtx_csw (c : Nat) (x : Ctx) : (s.setCtx c x).csw = s.csw := (rfl)
@[simp] theorem State.setCtx_graphs (c : Nat) (x : Ctx) : (s.setCtx c x).graphs = s.graphs := (rfl)
@[simp] theorem State.setCtx_admitSeq (c : Nat) (x : Ctx) : (s.setCtx c x).admitSeq = s.admitSeq := (rfl)
@[simp] theorem State.setCtx_jctWait (c : Nat) (x : Ctx) : (s.setCtx c x).jctWait = s.jctWait := (rfl)
@[simp] theorem State.setCtx_escalSeq (c : Nat) (x : Ctx) : (s.setCtx c x).escalSeq = s.escalSeq := (rfl)
@[simp] theorem State.setCtx_rrNext (c : Nat) (x : Ctx) : (s.setCtx c x).rrNext = s.rrNext := (rfl)
@[simp] theorem State.setCtx_jctPage (c : Nat) (x : Ctx) : (s.setCtx c x).jctPage = s.jctPage := (rfl)
@[simp] theorem State.setCtx_subSec (c : Nat) (x : Ctx) : (s.setCtx c x).subSec = s.subSec := (rfl)
@[simp] theorem State.setCtx_subMs (c : Nat) (x : Ctx) : (s.setCtx c x).subMs = s.subMs := (rfl)

@[simp] theorem State.setPort_pending (p : Nat) (x : PortSt) : (s.setPort p x).pending = s.pending := (rfl)
@[simp] theorem State.setPort_regs (p : Nat) (x : PortSt) : (s.setPort p x).regs = s.regs := (rfl)
@[simp] theorem State.setPort_west (p : Nat) (x : PortSt) : (s.setPort p x).west = s.west := (rfl)
@[simp] theorem State.setPort_east (p : Nat) (x : PortSt) : (s.setPort p x).east = s.east := (rfl)
@[simp] theorem State.setPort_outbox (p : Nat) (x : PortSt) : (s.setPort p x).outbox = s.outbox := (rfl)
@[simp] theorem State.setPort_freeCtr (p : Nat) (x : PortSt) : (s.setPort p x).freeCtr = s.freeCtr := (rfl)
@[simp] theorem State.setPort_order (p : Nat) (x : PortSt) : (s.setPort p x).order = s.order := (rfl)
@[simp] theorem State.setPort_stage (p : Nat) (x : PortSt) : (s.setPort p x).stage = s.stage := (rfl)
@[simp] theorem State.setPort_power (p : Nat) (x : PortSt) : (s.setPort p x).power = s.power := (rfl)
@[simp] theorem State.setPort_pcie (p : Nat) (x : PortSt) : (s.setPort p x).pcie = s.pcie := (rfl)
@[simp] theorem State.setPort_boot (p : Nat) (x : PortSt) : (s.setPort p x).boot = s.boot := (rfl)
@[simp] theorem State.setPort_sec (p : Nat) (x : PortSt) : (s.setPort p x).sec = s.sec := (rfl)
@[simp] theorem State.setPort_engines (p : Nat) (x : PortSt) : (s.setPort p x).engines = s.engines := (rfl)
@[simp] theorem State.setPort_csw (p : Nat) (x : PortSt) : (s.setPort p x).csw = s.csw := (rfl)
@[simp] theorem State.setPort_ctxs (p : Nat) (x : PortSt) : (s.setPort p x).ctxs = s.ctxs := (rfl)
@[simp] theorem State.setPort_graphs (p : Nat) (x : PortSt) : (s.setPort p x).graphs = s.graphs := (rfl)
@[simp] theorem State.setPort_admitSeq (p : Nat) (x : PortSt) : (s.setPort p x).admitSeq = s.admitSeq := (rfl)
@[simp] theorem State.setPort_jctWait (p : Nat) (x : PortSt) : (s.setPort p x).jctWait = s.jctWait := (rfl)
@[simp] theorem State.setPort_escalSeq (p : Nat) (x : PortSt) : (s.setPort p x).escalSeq = s.escalSeq := (rfl)
@[simp] theorem State.setPort_rrNext (p : Nat) (x : PortSt) : (s.setPort p x).rrNext = s.rrNext := (rfl)
@[simp] theorem State.setPort_jctPage (p : Nat) (x : PortSt) : (s.setPort p x).jctPage = s.jctPage := (rfl)
@[simp] theorem State.setPort_subSec (p : Nat) (x : PortSt) : (s.setPort p x).subSec = s.subSec := (rfl)
@[simp] theorem State.setPort_subMs (p : Nat) (x : PortSt) : (s.setPort p x).subMs = s.subMs := (rfl)

@[simp] theorem State.setFunc_pending (g : Nat) (x : FuncSt) : (s.setFunc g x).pending = s.pending := (rfl)
@[simp] theorem State.setFunc_regs (g : Nat) (x : FuncSt) : (s.setFunc g x).regs = s.regs := (rfl)
@[simp] theorem State.setFunc_west (g : Nat) (x : FuncSt) : (s.setFunc g x).west = s.west := (rfl)
@[simp] theorem State.setFunc_east (g : Nat) (x : FuncSt) : (s.setFunc g x).east = s.east := (rfl)
@[simp] theorem State.setFunc_outbox (g : Nat) (x : FuncSt) : (s.setFunc g x).outbox = s.outbox := (rfl)
@[simp] theorem State.setFunc_freeCtr (g : Nat) (x : FuncSt) : (s.setFunc g x).freeCtr = s.freeCtr := (rfl)
@[simp] theorem State.setFunc_order (g : Nat) (x : FuncSt) : (s.setFunc g x).order = s.order := (rfl)
@[simp] theorem State.setFunc_stage (g : Nat) (x : FuncSt) : (s.setFunc g x).stage = s.stage := (rfl)
@[simp] theorem State.setFunc_power (g : Nat) (x : FuncSt) : (s.setFunc g x).power = s.power := (rfl)
@[simp] theorem State.setFunc_boot (g : Nat) (x : FuncSt) : (s.setFunc g x).boot = s.boot := (rfl)
@[simp] theorem State.setFunc_sec (g : Nat) (x : FuncSt) : (s.setFunc g x).sec = s.sec := (rfl)
@[simp] theorem State.setFunc_engines (g : Nat) (x : FuncSt) : (s.setFunc g x).engines = s.engines := (rfl)
@[simp] theorem State.setFunc_ports (g : Nat) (x : FuncSt) : (s.setFunc g x).ports = s.ports := (rfl)
@[simp] theorem State.setFunc_csw (g : Nat) (x : FuncSt) : (s.setFunc g x).csw = s.csw := (rfl)
@[simp] theorem State.setFunc_ctxs (g : Nat) (x : FuncSt) : (s.setFunc g x).ctxs = s.ctxs := (rfl)
@[simp] theorem State.setFunc_graphs (g : Nat) (x : FuncSt) : (s.setFunc g x).graphs = s.graphs := (rfl)
@[simp] theorem State.setFunc_admitSeq (g : Nat) (x : FuncSt) : (s.setFunc g x).admitSeq = s.admitSeq := (rfl)
@[simp] theorem State.setFunc_jctWait (g : Nat) (x : FuncSt) : (s.setFunc g x).jctWait = s.jctWait := (rfl)
@[simp] theorem State.setFunc_escalSeq (g : Nat) (x : FuncSt) : (s.setFunc g x).escalSeq = s.escalSeq := (rfl)
@[simp] theorem State.setFunc_rrNext (g : Nat) (x : FuncSt) : (s.setFunc g x).rrNext = s.rrNext := (rfl)
@[simp] theorem State.setFunc_jctPage (g : Nat) (x : FuncSt) : (s.setFunc g x).jctPage = s.jctPage := (rfl)
@[simp] theorem State.setFunc_subSec (g : Nat) (x : FuncSt) : (s.setFunc g x).subSec = s.subSec := (rfl)
@[simp] theorem State.setFunc_subMs (g : Nat) (x : FuncSt) : (s.setFunc g x).subMs = s.subMs := (rfl)

@[simp] theorem State.note_pending (b : List Byte) : (s.note b).pending = s.pending := (rfl)
@[simp] theorem State.note_regs (b : List Byte) : (s.note b).regs = s.regs := (rfl)
@[simp] theorem State.note_west (b : List Byte) : (s.note b).west = s.west := (rfl)
@[simp] theorem State.note_east (b : List Byte) : (s.note b).east = s.east := (rfl)
@[simp] theorem State.note_outbox (b : List Byte) : (s.note b).outbox = s.outbox := (rfl)
@[simp] theorem State.note_freeCtr (b : List Byte) : (s.note b).freeCtr = s.freeCtr := (rfl)
@[simp] theorem State.note_order (b : List Byte) : (s.note b).order = s.order := (rfl)
@[simp] theorem State.note_stage (b : List Byte) : (s.note b).stage = s.stage := (rfl)
@[simp] theorem State.note_power (b : List Byte) : (s.note b).power = s.power := (rfl)
@[simp] theorem State.note_pcie (b : List Byte) : (s.note b).pcie = s.pcie := (rfl)
@[simp] theorem State.note_boot (b : List Byte) : (s.note b).boot = s.boot := (rfl)
@[simp] theorem State.note_sec (b : List Byte) : (s.note b).sec = s.sec := (rfl)
@[simp] theorem State.note_engines (b : List Byte) : (s.note b).engines = s.engines := (rfl)
@[simp] theorem State.note_ports (b : List Byte) : (s.note b).ports = s.ports := (rfl)
@[simp] theorem State.note_ctxs (b : List Byte) : (s.note b).ctxs = s.ctxs := (rfl)
@[simp] theorem State.note_graphs (b : List Byte) : (s.note b).graphs = s.graphs := (rfl)
@[simp] theorem State.note_admitSeq (b : List Byte) : (s.note b).admitSeq = s.admitSeq := (rfl)
@[simp] theorem State.note_jctWait (b : List Byte) : (s.note b).jctWait = s.jctWait := (rfl)
@[simp] theorem State.note_escalSeq (b : List Byte) : (s.note b).escalSeq = s.escalSeq := (rfl)
@[simp] theorem State.note_rrNext (b : List Byte) : (s.note b).rrNext = s.rrNext := (rfl)
@[simp] theorem State.note_jctPage (b : List Byte) : (s.note b).jctPage = s.jctPage := (rfl)
@[simp] theorem State.note_subSec (b : List Byte) : (s.note b).subSec = s.subSec := (rfl)
@[simp] theorem State.note_subMs (b : List Byte) : (s.note b).subMs = s.subMs := (rfl)

@[simp] theorem State.setHalf_pending (h : Half) (x : HalfState) : (s.setHalf h x).pending = s.pending := by cases h <;> exact (rfl)
@[simp] theorem State.modHalf_pending (h : Half) (g : HalfState → HalfState) : (s.modHalf h g).pending = s.pending := by cases h <;> exact (rfl)
@[simp] theorem State.setHalf_regs (h : Half) (x : HalfState) : (s.setHalf h x).regs = s.regs := by cases h <;> exact (rfl)
@[simp] theorem State.modHalf_regs (h : Half) (g : HalfState → HalfState) : (s.modHalf h g).regs = s.regs := by cases h <;> exact (rfl)
@[simp] theorem State.setHalf_outbox (h : Half) (x : HalfState) : (s.setHalf h x).outbox = s.outbox := by cases h <;> exact (rfl)
@[simp] theorem State.modHalf_outbox (h : Half) (g : HalfState → HalfState) : (s.modHalf h g).outbox = s.outbox := by cases h <;> exact (rfl)
@[simp] theorem State.setHalf_freeCtr (h : Half) (x : HalfState) : (s.setHalf h x).freeCtr = s.freeCtr := by cases h <;> exact (rfl)
@[simp] theorem State.modHalf_freeCtr (h : Half) (g : HalfState → HalfState) : (s.modHalf h g).freeCtr = s.freeCtr := by cases h <;> exact (rfl)
@[simp] theorem State.setHalf_order (h : Half) (x : HalfState) : (s.setHalf h x).order = s.order := by cases h <;> exact (rfl)
@[simp] theorem State.modHalf_order (h : Half) (g : HalfState → HalfState) : (s.modHalf h g).order = s.order := by cases h <;> exact (rfl)
@[simp] theorem State.setHalf_stage (h : Half) (x : HalfState) : (s.setHalf h x).stage = s.stage := by cases h <;> exact (rfl)
@[simp] theorem State.modHalf_stage (h : Half) (g : HalfState → HalfState) : (s.modHalf h g).stage = s.stage := by cases h <;> exact (rfl)
@[simp] theorem State.setHalf_power (h : Half) (x : HalfState) : (s.setHalf h x).power = s.power := by cases h <;> exact (rfl)
@[simp] theorem State.modHalf_power (h : Half) (g : HalfState → HalfState) : (s.modHalf h g).power = s.power := by cases h <;> exact (rfl)
@[simp] theorem State.setHalf_pcie (h : Half) (x : HalfState) : (s.setHalf h x).pcie = s.pcie := by cases h <;> exact (rfl)
@[simp] theorem State.modHalf_pcie (h : Half) (g : HalfState → HalfState) : (s.modHalf h g).pcie = s.pcie := by cases h <;> exact (rfl)
@[simp] theorem State.setHalf_boot (h : Half) (x : HalfState) : (s.setHalf h x).boot = s.boot := by cases h <;> exact (rfl)
@[simp] theorem State.modHalf_boot (h : Half) (g : HalfState → HalfState) : (s.modHalf h g).boot = s.boot := by cases h <;> exact (rfl)
@[simp] theorem State.setHalf_sec (h : Half) (x : HalfState) : (s.setHalf h x).sec = s.sec := by cases h <;> exact (rfl)
@[simp] theorem State.modHalf_sec (h : Half) (g : HalfState → HalfState) : (s.modHalf h g).sec = s.sec := by cases h <;> exact (rfl)
@[simp] theorem State.setHalf_engines (h : Half) (x : HalfState) : (s.setHalf h x).engines = s.engines := by cases h <;> exact (rfl)
@[simp] theorem State.modHalf_engines (h : Half) (g : HalfState → HalfState) : (s.modHalf h g).engines = s.engines := by cases h <;> exact (rfl)
@[simp] theorem State.setHalf_ports (h : Half) (x : HalfState) : (s.setHalf h x).ports = s.ports := by cases h <;> exact (rfl)
@[simp] theorem State.modHalf_ports (h : Half) (g : HalfState → HalfState) : (s.modHalf h g).ports = s.ports := by cases h <;> exact (rfl)
@[simp] theorem State.setHalf_csw (h : Half) (x : HalfState) : (s.setHalf h x).csw = s.csw := by cases h <;> exact (rfl)
@[simp] theorem State.modHalf_csw (h : Half) (g : HalfState → HalfState) : (s.modHalf h g).csw = s.csw := by cases h <;> exact (rfl)
@[simp] theorem State.setHalf_ctxs (h : Half) (x : HalfState) : (s.setHalf h x).ctxs = s.ctxs := by cases h <;> exact (rfl)
@[simp] theorem State.modHalf_ctxs (h : Half) (g : HalfState → HalfState) : (s.modHalf h g).ctxs = s.ctxs := by cases h <;> exact (rfl)
@[simp] theorem State.setHalf_graphs (h : Half) (x : HalfState) : (s.setHalf h x).graphs = s.graphs := by cases h <;> exact (rfl)
@[simp] theorem State.modHalf_graphs (h : Half) (g : HalfState → HalfState) : (s.modHalf h g).graphs = s.graphs := by cases h <;> exact (rfl)
@[simp] theorem State.setHalf_admitSeq (h : Half) (x : HalfState) : (s.setHalf h x).admitSeq = s.admitSeq := by cases h <;> exact (rfl)
@[simp] theorem State.modHalf_admitSeq (h : Half) (g : HalfState → HalfState) : (s.modHalf h g).admitSeq = s.admitSeq := by cases h <;> exact (rfl)
@[simp] theorem State.setHalf_jctWait (h : Half) (x : HalfState) : (s.setHalf h x).jctWait = s.jctWait := by cases h <;> exact (rfl)
@[simp] theorem State.modHalf_jctWait (h : Half) (g : HalfState → HalfState) : (s.modHalf h g).jctWait = s.jctWait := by cases h <;> exact (rfl)
@[simp] theorem State.setHalf_escalSeq (h : Half) (x : HalfState) : (s.setHalf h x).escalSeq = s.escalSeq := by cases h <;> exact (rfl)
@[simp] theorem State.modHalf_escalSeq (h : Half) (g : HalfState → HalfState) : (s.modHalf h g).escalSeq = s.escalSeq := by cases h <;> exact (rfl)
@[simp] theorem State.setHalf_rrNext (h : Half) (x : HalfState) : (s.setHalf h x).rrNext = s.rrNext := by cases h <;> exact (rfl)
@[simp] theorem State.modHalf_rrNext (h : Half) (g : HalfState → HalfState) : (s.modHalf h g).rrNext = s.rrNext := by cases h <;> exact (rfl)
@[simp] theorem State.setHalf_jctPage (h : Half) (x : HalfState) : (s.setHalf h x).jctPage = s.jctPage := by cases h <;> exact (rfl)
@[simp] theorem State.modHalf_jctPage (h : Half) (g : HalfState → HalfState) : (s.modHalf h g).jctPage = s.jctPage := by cases h <;> exact (rfl)
@[simp] theorem State.setHalf_subSec (h : Half) (x : HalfState) : (s.setHalf h x).subSec = s.subSec := by cases h <;> exact (rfl)
@[simp] theorem State.modHalf_subSec (h : Half) (g : HalfState → HalfState) : (s.modHalf h g).subSec = s.subSec := by cases h <;> exact (rfl)
@[simp] theorem State.setHalf_subMs (h : Half) (x : HalfState) : (s.setHalf h x).subMs = s.subMs := by cases h <;> exact (rfl)
@[simp] theorem State.modHalf_subMs (h : Half) (g : HalfState → HalfState) : (s.modHalf h g).subMs = s.subMs := by cases h <;> exact (rfl)
@[simp] theorem State.fresh_pending : s.fresh.2.pending = s.pending := (rfl)
@[simp] theorem State.fresh_regs : s.fresh.2.regs = s.regs := (rfl)
@[simp] theorem State.fresh_west : s.fresh.2.west = s.west := (rfl)
@[simp] theorem State.fresh_east : s.fresh.2.east = s.east := (rfl)
@[simp] theorem State.fresh_outbox : s.fresh.2.outbox = s.outbox := (rfl)
@[simp] theorem State.fresh_order : s.fresh.2.order = s.order := (rfl)
@[simp] theorem State.fresh_stage : s.fresh.2.stage = s.stage := (rfl)
@[simp] theorem State.fresh_power : s.fresh.2.power = s.power := (rfl)
@[simp] theorem State.fresh_pcie : s.fresh.2.pcie = s.pcie := (rfl)
@[simp] theorem State.fresh_boot : s.fresh.2.boot = s.boot := (rfl)
@[simp] theorem State.fresh_sec : s.fresh.2.sec = s.sec := (rfl)
@[simp] theorem State.fresh_engines : s.fresh.2.engines = s.engines := (rfl)
@[simp] theorem State.fresh_ports : s.fresh.2.ports = s.ports := (rfl)
@[simp] theorem State.fresh_csw : s.fresh.2.csw = s.csw := (rfl)
@[simp] theorem State.fresh_ctxs : s.fresh.2.ctxs = s.ctxs := (rfl)
@[simp] theorem State.fresh_graphs : s.fresh.2.graphs = s.graphs := (rfl)
@[simp] theorem State.fresh_admitSeq : s.fresh.2.admitSeq = s.admitSeq := (rfl)
@[simp] theorem State.fresh_jctWait : s.fresh.2.jctWait = s.jctWait := (rfl)
@[simp] theorem State.fresh_escalSeq : s.fresh.2.escalSeq = s.escalSeq := (rfl)
@[simp] theorem State.fresh_rrNext : s.fresh.2.rrNext = s.rrNext := (rfl)
@[simp] theorem State.fresh_jctPage : s.fresh.2.jctPage = s.jctPage := (rfl)
@[simp] theorem State.fresh_subSec : s.fresh.2.subSec = s.subSec := (rfl)
@[simp] theorem State.fresh_subMs : s.fresh.2.subMs = s.subMs := (rfl)

/-! ## Halves -/

@[simp] theorem State.half_setHalf_same (h : Half) (x : HalfState) : (s.setHalf h x).half h = x := by cases h <;> exact (rfl)
@[simp] theorem State.half_setHalf_other (h : Half) (x : HalfState) : (s.setHalf h x).half h.other = s.half h.other := by cases h <;> exact (rfl)
@[simp] theorem State.half_modHalf_same (h : Half) (f : HalfState → HalfState) : (s.modHalf h f).half h = f (s.half h) := by cases h <;> exact (rfl)
@[simp] theorem State.half_modHalf_other (h : Half) (f : HalfState → HalfState) : (s.modHalf h f).half h.other = s.half h.other := by
  cases h <;> rfl
theorem State.half_modHalf (h k : Half) (f : HalfState → HalfState) :
    (s.modHalf h f).half k = if k = h then f (s.half h) else s.half k := by cases h <;> cases k <;> rfl

/-! ## Registers -/

theorem State.rd_wr (a b : Nat) (v : Word) : (s.wr a v).rd b = if b = a then v else s.rd b := mapGet_mapSet _ _ _ _ _

@[simp] theorem State.rd_wr_same (a : Nat) (v : Word) : (s.wr a v).rd a = v := by simp [State.rd_wr]

theorem State.rd_wr_ne {a b : Nat} (v : Word) (h : b ≠ a) : (s.wr a v).rd b = s.rd b := by simp [State.rd_wr, h]

/-- A field reads as written, cut to its length. -/
theorem State.rf_wf (a : Nat) (f : Fld) (v : Nat) (h : f.lo + f.len ≤ 32) : (s.wf a f v).rf a f = v % 2 ^ f.len := by
  unfold State.rf State.wf
  rw [State.rd_wr_same, getF_putF _ _ _ h]

/-- Another field of the same register keeps its value. -/
theorem State.rf_wf_field (a : Nat) (f g : Fld) (v : Nat) (ho : g.off = f.off)
    (h : f.lo + f.len ≤ g.lo ∨ g.lo + g.len ≤ f.lo) : (s.wf a f v).rf a g = s.rf a g := by
  unfold State.rf State.wf
  rw [ho, State.rd_wr_same, getF_putF_other _ _ _ _ h]

/-- A field of another word keeps its value. -/
theorem State.rf_wf_ne {a b : Nat} (f g : Fld) (v : Nat) (h : b + g.off ≠ a + f.off) : (s.wf a f v).rf b g = s.rf b g := by
  unfold State.rf State.wf
  rw [State.rd_wr_ne _ _ h]

/-- A register other than the one whose field is written keeps its word. -/
theorem State.rd_wf_ne {a b : Nat} (f : Fld) (v : Nat) (h : b ≠ a + f.off) : (s.wf a f v).rd b = s.rd b := by
  unfold State.wf
  rw [State.rd_wr_ne _ _ h]

theorem State.rf_lt (a : Nat) (f : Fld) : s.rf a f < 2 ^ f.len := getF_lt _ _

/-- Reading registers only looks at the registers. -/
theorem State.rd_congr {s t : State} (h : s.regs = t.regs) (a : Nat) : s.rd a = t.rd a := by unfold State.rd; rw [h]
theorem State.rf_congr {s t : State} (h : s.regs = t.regs) (a : Nat) (f : Fld) : s.rf a f = t.rf a f := by
  unfold State.rf; rw [State.rd_congr h]

/-- The register store keeps its canonical form. -/
@[simp] theorem State.wr_regsWf (a : Nat) (v : Word) (h : mapWf resetWord s.regs = true) : mapWf resetWord (s.wr a v).regs = true :=
  mapWf_mapSet _ _ _ h
@[simp] theorem State.wf_regsWf (a : Nat) (f : Fld) (v : Nat) (h : mapWf resetWord s.regs = true) :
    mapWf resetWord (s.wf a f v).regs = true := mapWf_mapSet _ _ _ h
@[simp] theorem State.add_regsWf (a : Nat) (f : Fld) (v : Nat) (h : mapWf resetWord s.regs = true) :
    mapWf resetWord (s.add a f v).regs = true := mapWf_mapSet _ _ _ h
@[simp] theorem State.addSat_regsWf (a : Nat) (f : Fld) (v : Nat) (h : mapWf resetWord s.regs = true) :
    mapWf resetWord (s.addSat a f v).regs = true := mapWf_mapSet _ _ _ h
@[simp] theorem State.sub_regsWf (a : Nat) (f : Fld) (v : Nat) (h : mapWf resetWord s.regs = true) :
    mapWf resetWord (s.sub a f v).regs = true := mapWf_mapSet _ _ _ h

@[simp] theorem State.send_rd (o : Output) (z : Nat) : (s.send o).rd z = s.rd z := (rfl)
@[simp] theorem State.send_rf (o : Output) (z : Nat) (u : Fld) : (s.send o).rf z u = s.rf z u := (rfl)
@[simp] theorem State.modGraph_rd (c g : Nat) (f : Graph → Graph) (z : Nat) : (s.modGraph c g f).rd z = s.rd z := (rfl)
@[simp] theorem State.modGraph_rf (c g : Nat) (f : Graph → Graph) (z : Nat) (u : Fld) : (s.modGraph c g f).rf z u = s.rf z u := (rfl)
@[simp] theorem State.modNode_rd (r : NodeRef) (f : Node → Node) (z : Nat) : (s.modNode r f).rd z = s.rd z := (rfl)
@[simp] theorem State.modNode_rf (r : NodeRef) (f : Node → Node) (z : Nat) (u : Fld) : (s.modNode r f).rf z u = s.rf z u := (rfl)
@[simp] theorem State.setEngine_rd (e : Nat) (x : Engine) (z : Nat) : (s.setEngine e x).rd z = s.rd z := (rfl)
@[simp] theorem State.setEngine_rf (e : Nat) (x : Engine) (z : Nat) (u : Fld) : (s.setEngine e x).rf z u = s.rf z u := (rfl)
@[simp] theorem State.setCtx_rd (c : Nat) (x : Ctx) (z : Nat) : (s.setCtx c x).rd z = s.rd z := (rfl)
@[simp] theorem State.setCtx_rf (c : Nat) (x : Ctx) (z : Nat) (u : Fld) : (s.setCtx c x).rf z u = s.rf z u := (rfl)
@[simp] theorem State.setPort_rd (p : Nat) (x : PortSt) (z : Nat) : (s.setPort p x).rd z = s.rd z := (rfl)
@[simp] theorem State.setPort_rf (p : Nat) (x : PortSt) (z : Nat) (u : Fld) : (s.setPort p x).rf z u = s.rf z u := (rfl)
@[simp] theorem State.setFunc_rd (g : Nat) (x : FuncSt) (z : Nat) : (s.setFunc g x).rd z = s.rd z := (rfl)
@[simp] theorem State.setFunc_rf (g : Nat) (x : FuncSt) (z : Nat) (u : Fld) : (s.setFunc g x).rf z u = s.rf z u := (rfl)
@[simp] theorem State.note_rd (b : List Byte) (z : Nat) : (s.note b).rd z = s.rd z := (rfl)
@[simp] theorem State.note_rf (b : List Byte) (z : Nat) (u : Fld) : (s.note b).rf z u = s.rf z u := (rfl)
@[simp] theorem State.modHalf_rd (h : Half) (g : HalfState → HalfState) (x : Nat) : (s.modHalf h g).rd x = s.rd x := by cases h <;> exact (rfl)
@[simp] theorem State.modHalf_rf (h : Half) (g : HalfState → HalfState) (x : Nat) (y : Fld) : (s.modHalf h g).rf x y = s.rf x y := by
  cases h <;> rfl
@[simp] theorem State.setHalf_rd (h : Half) (g : HalfState) (x : Nat) : (s.setHalf h g).rd x = s.rd x := by cases h <;> exact (rfl)
@[simp] theorem State.setHalf_rf (h : Half) (g : HalfState) (x : Nat) (y : Fld) : (s.setHalf h g).rf x y = s.rf x y := by
  cases h <;> rfl

end Sys2Proof.Machine
end

