-- ==== Sys2Proof/Laws/Keep.lean ====
section
/-! SUPPORT. Every operation keeps the stage, the queue and the canonical stores (State.holds), one lemma for each: part 1 of 4, in the
machine's own order. An operation that changes the stage has its lemma for any stage. -/

namespace Sys2Proof.Machine

section
variable {P : Stage → Prop} {q : List Instr} {s : State}

theorem keep.wr (hs : s.holds P q) (a : Nat) (v : Word) : (s.wr a v).holds P q :=
  ⟨hs.stage, hs.queue, mapWf_mapSet _ _ _ hs.regs, hs.west, hs.east, hs.boot⟩
theorem keep.wf (hs : s.holds P q) (a : Nat) (f : Fld) (v : Nat) : (s.wf a f v).holds P q := keep.wr hs _ _
theorem keep.add (hs : s.holds P q) (a : Nat) (f : Fld) (v : Nat) : (s.add a f v).holds P q := keep.wr hs _ _
theorem keep.addSat (hs : s.holds P q) (a : Nat) (f : Fld) (v : Nat) : (s.addSat a f v).holds P q := keep.wr hs _ _
theorem keep.sub (hs : s.holds P q) (a : Nat) (f : Fld) (v : Nat) : (s.sub a f v).holds P q := keep.wr hs _ _
theorem keep.send (hs : s.holds P q) (o : Output) : (s.send o).holds P q := ⟨hs.stage, hs.queue, hs.regs, hs.west, hs.east, hs.boot⟩
theorem keep.note (hs : s.holds P q) (b : List Byte) : (s.note b).holds P q := ⟨hs.stage, hs.queue, hs.regs, hs.west, hs.east, hs.boot⟩
theorem keep.modGraph (hs : s.holds P q) (c g : Nat) (f : Graph → Graph) : (s.modGraph c g f).holds P q :=
  ⟨hs.stage, hs.queue, hs.regs, hs.west, hs.east, hs.boot⟩
theorem keep.modNode (hs : s.holds P q) (r : NodeRef) (f : Node → Node) : (s.modNode r f).holds P q := keep.modGraph hs _ _ _
theorem keep.setEngine (hs : s.holds P q) (e : Nat) (x : Engine) : (s.setEngine e x).holds P q :=
  ⟨hs.stage, hs.queue, hs.regs, hs.west, hs.east, hs.boot⟩
theorem keep.setCtx (hs : s.holds P q) (e : Nat) (x : Ctx) : (s.setCtx e x).holds P q :=
  ⟨hs.stage, hs.queue, hs.regs, hs.west, hs.east, hs.boot⟩
theorem keep.setPort (hs : s.holds P q) (e : Nat) (x : PortSt) : (s.setPort e x).holds P q :=
  ⟨hs.stage, hs.queue, hs.regs, hs.west, hs.east, hs.boot⟩
theorem keep.setFunc (hs : s.holds P q) (e : Nat) (x : FuncSt) : (s.setFunc e x).holds P q :=
  ⟨hs.stage, hs.queue, hs.regs, hs.west, hs.east, hs.boot⟩
theorem keep.fresh (hs : s.holds P q) : s.fresh.2.holds P q := ⟨hs.stage, hs.queue, hs.regs, hs.west, hs.east, hs.boot⟩
theorem keep.half (hs : s.holds P q) (h : Half) : (s.half h).canon := by cases h; exacts [hs.west, hs.east]
theorem keep.setHalf (hs : s.holds P q) (h : Half) (x : HalfState) (hx : x.canon) : (s.setHalf h x).holds P q := by
  cases h
  · exact ⟨hs.stage, hs.queue, hs.regs, hx, hs.east, hs.boot⟩
  · exact ⟨hs.stage, hs.queue, hs.regs, hs.west, hx, hs.boot⟩
theorem keep.modHalf (hs : s.holds P q) (h : Half) (f : HalfState → HalfState) (hf : ∀ x : HalfState, x.canon → (f x).canon) :
    (s.modHalf h f).holds P q := keep.setHalf hs h _ (hf _ (keep.half hs h))
theorem keep.foldl {β : Type} (f : State → β → State) (l : List β) (hf : ∀ s x, s.holds P q → (f s x).holds P q) :
    ∀ s : State, s.holds P q → (l.foldl f s).holds P q := by
  induction l with
  | nil => exact fun s h => h
  | cons x l ih => exact fun s h => ih _ (hf s x h)
theorem keep.foldlp {β γ : Type} (f : State × γ → β → State × γ) (l : List β) (hf : ∀ s x, s.1.holds P q → (f s x).1.holds P q) :
    ∀ s : State × γ, s.1.holds P q → (l.foldl f s).1.holds P q := by
  induction l with
  | nil => exact fun s h => h
  | cons x l ih => exact fun s h => ih _ (hf s x h)
theorem keep.ite {c : Prop} [Decidable c] {a b : State} (ha : c → a.holds P q) (hb : ¬c → b.holds P q) :
    (if c then a else b).holds P q := by split <;> simp_all
theorem keep.itep {γ : Type} {c : Prop} [Decidable c] {a b : State × γ} (ha : c → a.1.holds P q) (hb : ¬c → b.1.holds P q) :
    (if c then a else b).1.holds P q := by split <;> simp_all
theorem keep.whenLive (hs : s.holds P q) (f : State → State) (hf : ∀ s : State, s.holds P q → (f s).holds P q) :
    outHolds P q (whenLive s f) := by
  intro t ht
  unfold Sys2Proof.Machine.whenLive at ht
  cases ht
  exact keep.ite (fun _ => hf s hs) (fun _ => hs)
theorem keep.whenPowered (hs : s.holds P q) (f : State → State) (hf : ∀ s : State, s.holds P q → (f s).holds P q) :
    outHolds P q (whenPowered s f) := by
  intro t ht
  unfold Sys2Proof.Machine.whenPowered at ht
  cases ht
  exact keep.ite (fun _ => hs) (fun _ => hf s hs)
theorem keep.next (hs : s.holds P q) : outHolds P q (.next s) := by intro t ht; cases ht; exact hs
theorem keep.refused (r : Refusal) : outHolds P q (.refused r) := by intro t ht; cases ht

theorem keep.mk {pending : List Instr} {regs : List (Nat × Word)} {west : HalfState} {east : HalfState} {outbox : List Output} {freeCtr : Nat} {order : Nat} {stage : Stage} {power : PowerSt} {pcie : PcieSt} {boot : BootSt} {sec : SecSt} {engines : List (Nat × Engine)} {ports : List (Nat × PortSt)} {csw : CswDev} {ctxs : List (Nat × Ctx)} {graphs : List Graph} {admitSeq : Nat} {jctWait : List (Nat × Nat)} {escalSeq : Nat} {rrNext : Nat} {jctPage : Option PageWait} {subSec : Nat} {subMs : Nat} :
    State.holds P q (State.mk pending regs west east outbox freeCtr order stage power pcie boot sec engines ports csw ctxs graphs admitSeq jctWait escalSeq rrNext jctPage subSec subMs) ↔ P stage ∧ pending = q ∧ mapWf resetWord regs = true ∧ west.canon ∧ east.canon ∧ boot.canon := ⟨fun h => ⟨h.stage, h.queue, h.regs, h.west, h.east, h.boot⟩, fun ⟨a, b, c, d, e, f⟩ => ⟨a, b, c, d, e, f⟩⟩
theorem keep.halfMk {us : Nat} {usHi : Option Nat} {logSeq : Nat} {atc : List (Nat × Nat × Nat)} {gals : List (Nat × Gal)} {nv : NvHalf} {ldr : LoaderSt} {plaza : PlazaSt} {stage : StageSt} {sdsBuf : List Host.Cell} {mem : MemHalf} {rings : List (Nat × Ring)} {sqs : List (Nat × SendQ)} {rqs : List (Nat × RecvQ)} {bars : List (Nat × Barrier)} {cswOps : List CswOp} {inbox : List (List Byte)} {control : List PassMsg} {token : List PassMsg} {activation : List PassMsg} {move : List PassMsg} {lent : Nat} {early : List Token} {accesses : List HeldAcc} :
    HalfState.canon (HalfState.mk us usHi logSeq atc gals nv ldr plaza stage sdsBuf mem rings sqs rqs bars cswOps inbox control token activation move lent early accesses) ↔ mem.canon := Iff.rfl
theorem keep.memMk {t1 : List Host.Cell} {t2 : List Host.Cell} {badT1 : List Nat} {badT2 : List Nat} {fills : List Fill} {allocs : List AllocReq} {allocWait : List AllocReq} {copies : List Copy} {waiting : List (MemSrc × List Byte)} {sweep : List (Nat × List Word)} {sweepUs : Nat} {olds : List (Nat × Fill)} :
    MemHalf.canon (MemHalf.mk t1 t2 badT1 badT2 fills allocs allocWait copies waiting sweep sweepUs olds) ↔ mapWf zeroByte t1 = true ∧ mapWf zeroByte t2 = true := Iff.rfl
theorem keep.bootMk {straps : Nat} {perst : Bool} {refOk : Bool} {flash : List Host.Cell} {flashBad : Nat} {update : Option Nat} {svns : List Nat} {digests : List (List Byte)} {minMgmt : Nat} {minPower : Nat} {cause : Nat} :
    BootSt.canon (BootSt.mk straps perst refOk flash flashBad update svns digests minMgmt minPower cause) ↔ mapWf flashErased flash = true := Iff.rfl
theorem keep.stageOf (q : List Instr) (hs : s.holds P q) : P s.stage := hs.stage
theorem keep.queueOf (P : Stage → Prop) (hs : s.holds P q) : s.pending = q := hs.queue
theorem keep.regsOf (P : Stage → Prop) (q : List Instr) (hs : s.holds P q) : mapWf resetWord s.regs = true := hs.regs
theorem keep.westOf (P : Stage → Prop) (q : List Instr) (hs : s.holds P q) : s.west.canon := hs.west
theorem keep.eastOf (P : Stage → Prop) (q : List Instr) (hs : s.holds P q) : s.east.canon := hs.east
theorem keep.bootOf (P : Stage → Prop) (q : List Instr) (hs : s.holds P q) : s.boot.canon := hs.boot
theorem keep.flashOf (P : Stage → Prop) (q : List Instr) (hs : s.holds P q) : mapWf flashErased s.boot.flash = true := hs.boot
theorem keep.ofEq {γ : Type} {p : State × γ} {a : State} {b : γ} (h : p = (a, b)) (hp : p.1.holds P q) : a.holds P q := by
  subst h; exact hp
theorem keep.clsOf {x : HalfState} (h : x.canon) (k : PClass) (l : List PassMsg) : (x.setCls k l).canon := by cases k <;> exact h
theorem keep.sentOf {x : HalfState} (h : x.canon) (k : PClass) (m : PassMsg) (l : List PassMsg) : (x.sent k m l).canon := by
  cases k <;> exact h
theorem keep.keptOf {x : HalfState} : x.kept.canon := ⟨mapWf_nil _, mapWf_nil _⟩
theorem keep.memOf {x : HalfState} (h : x.canon) : x.mem.canon := h
theorem keep.t1Of {m : MemHalf} (h : m.canon) : mapWf zeroByte m.t1 = true := h.1
theorem keep.t2Of {m : MemHalf} (h : m.canon) : mapWf zeroByte m.t2 = true := h.2
end


theorem keep.stamp {P : Stage → Prop} {q : List Instr} (s : State) (hs : s.holds P q) : (Sys2Proof.Machine.State.stamp s).2.holds P q := by
  unfold Sys2Proof.Machine.State.stamp
  try dsimp only
  with_reducible repeat' (first | assumption | apply keep.stageOf (P := P) q | apply keep.queueOf P | apply keep.regsOf P q | apply keep.westOf P q | apply keep.eastOf P q | apply keep.bootOf P q | (simp only [↓keep.mk]; refine ⟨?_, ?_, ?_, ?_, ?_, ?_⟩))

theorem keep.msix {P : Stage → Prop} {q : List Instr} (s : State) (f entry : Nat) (hs : s.holds P q) : (Sys2Proof.Machine.State.msix s f entry).holds P q := by
  unfold Sys2Proof.Machine.State.msix
  try dsimp only
  with_reducible repeat' (first | assumption | apply keep.note | apply keep.send | apply keep.setFunc | split)

theorem keep.t3Put {P : Stage → Prop} {q : List Instr} (s : State) (func pasid addr : Nat) (bs : List Byte) (hs : s.holds P q) : (Sys2Proof.Machine.State.t3Put s func pasid addr bs).holds P q := by
  unfold Sys2Proof.Machine.State.t3Put
  try dsimp only
  with_reducible repeat' (first | assumption | apply keep.send)

theorem keep.wrWords {P : Stage → Prop} {qq : List Instr} (s : State) (a : Nat) (l : List Nat)  (hs : s.holds P qq) : (s.wrWords a l).holds P qq := by
  induction l generalizing s a with
  | nil => exact hs
  | cons w ws ih => exact ih _ _ (keep.wr hs _ _)

theorem keep.logNew {P : Stage → Prop} {q : List Instr} (s : State) (h : Half) (r : LogReq) (hs : s.holds P q) : (Sys2Proof.Machine.State.logNew s h r).holds P q := by
  unfold Sys2Proof.Machine.State.logNew
  try dsimp only
  with_reducible repeat' (first | assumption | apply keep.modHalf | apply keep.msix | apply keep.note | apply keep.wf | apply keep.wrWords | apply keep.memOf | simp only [↓keep.halfMk] | split)

theorem keep.logDrop {P : Stage → Prop} {q : List Instr} (s : State) (h : Half) (r : LogReq) (hs : s.holds P q) : (Sys2Proof.Machine.State.logDrop s h r).holds P q := by
  unfold Sys2Proof.Machine.State.logDrop
  try dsimp only
  with_reducible repeat' (first | assumption | apply keep.addSat | apply keep.wf)

theorem keep.log {P : Stage → Prop} {q : List Instr} (s : State) (h : Half) (r : LogReq) (hs : s.holds P q) : (Sys2Proof.Machine.State.log s h r).holds P q := by
  unfold Sys2Proof.Machine.State.log
  try dsimp only
  with_reducible repeat' (first | assumption | apply keep.addSat | apply keep.logDrop | apply keep.logNew | split)

theorem keep.startPll {P : Stage → Prop} {q : List Instr} (s : State) (d : Nat) (hs : s.holds P q) : (Sys2Proof.Machine.State.startPll s d).holds P q := by
  unfold Sys2Proof.Machine.State.startPll
  try dsimp only
  with_reducible repeat' (first | assumption | apply keep.stageOf (P := P) q | apply keep.queueOf P | apply keep.regsOf P q | apply keep.westOf P q | apply keep.eastOf P q | apply keep.bootOf P q | (simp only [↓keep.mk]; refine ⟨?_, ?_, ?_, ?_, ?_, ?_⟩) | split)

theorem keep.enqueueWake {P : Stage → Prop} {q : List Instr} (s : State) (d : Nat) (hs : s.holds P q) : (Sys2Proof.Machine.State.enqueueWake s d).holds P q := by
  unfold Sys2Proof.Machine.State.enqueueWake
  try dsimp only
  with_reducible repeat' (first | assumption | apply keep.startPll | apply keep.wf | apply keep.stageOf (P := P) q | apply keep.queueOf P | apply keep.regsOf P q | apply keep.westOf P q | apply keep.eastOf P q | apply keep.bootOf P q | (simp only [↓keep.mk]; refine ⟨?_, ?_, ?_, ?_, ?_, ?_⟩) | split)

theorem keep.wake {P : Stage → Prop} {q : List Instr} (s : State) (d : Nat) (hs : s.holds P q) : (Sys2Proof.Machine.State.wake s d).1.holds P q := by
  unfold Sys2Proof.Machine.State.wake
  try dsimp only
  with_reducible repeat' (first | assumption | apply keep.enqueueWake | apply keep.log | apply keep.wf | apply keep.foldl | split)

theorem keep.need {P : Stage → Prop} {q : List Instr} (s : State) (d : Nat) (hs : s.holds P q) : (Sys2Proof.Machine.State.need s d).holds P q := by
  unfold Sys2Proof.Machine.State.need
  try dsimp only
  with_reducible repeat' (first | assumption | apply keep.wake | split)

theorem keep.wakeAll {P : Stage → Prop} {q : List Instr} (s : State) (ds : List Nat) (hs : s.holds P q) : (Sys2Proof.Machine.State.wakeAll s ds).1.holds P q := by
  unfold Sys2Proof.Machine.State.wakeAll
  try dsimp only
  with_reducible repeat' (first | assumption | apply keep.wake | apply keep.foldlp | split | (intro))

theorem keep.memPut {P : Stage → Prop} {q : List Instr} (s : State) (h : Half) (tier a : Nat) (bs : List Byte) (hs : s.holds P q) : (Sys2Proof.Machine.State.memPut s h tier a bs).holds P q := by
  unfold Sys2Proof.Machine.State.memPut
  try dsimp only
  with_reducible repeat' (first | assumption | apply keep.modHalf | apply keep.memOf | apply keep.t1Of | apply keep.t2Of | apply mapWf_memWrite | simp only [↓keep.halfMk] | (simp only [↓keep.memMk]; refine ⟨?_, ?_⟩) | split | (intro))

theorem keep.markBad {P : Stage → Prop} {q : List Instr} (s : State) (h : Half) (tier w : Nat) (hs : s.holds P q) : (Sys2Proof.Machine.State.markBad s h tier w).holds P q := by
  unfold Sys2Proof.Machine.State.markBad
  try dsimp only
  with_reducible repeat' (first | assumption | apply keep.modHalf | apply keep.memOf | apply keep.t1Of | apply keep.t2Of | simp only [↓keep.halfMk] | (simp only [↓keep.memMk]; refine ⟨?_, ?_⟩) | split | (intro))

theorem keep.scanCount {P : Stage → Prop} {q : List Instr} (s : State) (h : Half) (tier : Nat) (c : Scan) (hs : s.holds P q) : (Sys2Proof.Machine.State.scanCount s h tier c).holds P q := by
  unfold Sys2Proof.Machine.State.scanCount
  try dsimp only
  with_reducible repeat' (first | assumption | apply keep.add | apply keep.wf | split)

theorem keep.putParts {P : Stage → Prop} {q : List Instr} (s : State) (h : Half) (tier a : Nat) (bs : List Byte) (bad : List Nat) (hs : s.holds P q) : (Sys2Proof.Machine.State.putParts s h tier a bs bad).holds P q := by
  unfold Sys2Proof.Machine.State.putParts
  try dsimp only
  with_reducible repeat' (first | assumption | apply keep.log | apply keep.memPut | apply keep.wf | apply keep.foldl | split | (intro))

theorem keep.putFinds {P : Stage → Prop} {q : List Instr} (s : State) (h : Half) (tier a : Nat) (bs : List Byte) (new : List Nat) (hs : s.holds P q) : (Sys2Proof.Machine.State.putFinds s h tier a bs new).holds P q := by
  unfold Sys2Proof.Machine.State.putFinds
  try dsimp only
  with_reducible repeat' (first | assumption | apply keep.markBad | apply keep.putParts | apply keep.foldl | (intro))

theorem keep.storeBytes {P : Stage → Prop} {q : List Instr} (s : State) (h : Half) (tier a : Nat) (bs : List Byte) (hs : s.holds P q) : (Sys2Proof.Machine.State.storeBytes s h tier a bs).holds P q := by
  unfold Sys2Proof.Machine.State.storeBytes
  try dsimp only
  with_reducible repeat' (first | assumption | apply keep.fresh | apply keep.memPut | apply keep.putFinds | apply keep.scanCount | split)

theorem keep.memZero {P : Stage → Prop} {q : List Instr} (s : State) (h : Half) (tier a len : Nat) (hs : s.holds P q) : (Sys2Proof.Machine.State.memZero s h tier a len).holds P q := by
  unfold Sys2Proof.Machine.State.memZero
  try dsimp only
  with_reducible repeat' (first | assumption | apply keep.modHalf | apply keep.memOf | apply keep.t1Of | apply keep.t2Of | apply mapWf_eraseRange | simp only [↓keep.halfMk] | (simp only [↓keep.memMk]; refine ⟨?_, ?_⟩) | split | (intro))

theorem keep.findBad {P : Stage → Prop} {q : List Instr} (s : State) (h : Half) (tier a len : Nat) (offs : List Nat) (hs : s.holds P q) : (Sys2Proof.Machine.State.findBad s h tier a len offs).holds P q := by
  unfold Sys2Proof.Machine.State.findBad
  try dsimp only
  with_reducible repeat' (first | assumption | apply keep.markBad | apply keep.foldl | (intro))

theorem keep.countBad {P : Stage → Prop} {q : List Instr} (s : State) (h : Half) (tier n : Nat) (hs : s.holds P q) : (Sys2Proof.Machine.State.countBad s h tier n).holds P q := by
  unfold Sys2Proof.Machine.State.countBad
  try dsimp only
  with_reducible repeat' (first | assumption | apply keep.add | apply keep.wf | split)

theorem keep.scanWords {P : Stage → Prop} {q : List Instr} (s : State) (h : Half) (tier a len : Nat) (offs : List Nat) (hs : s.holds P q) : (Sys2Proof.Machine.State.scanWords s h tier a len offs).1.holds P q := by
  unfold Sys2Proof.Machine.State.scanWords
  try dsimp only
  with_reducible repeat' (first | assumption | apply keep.countBad | apply keep.findBad)

theorem keep.scan {P : Stage → Prop} {q : List Instr} (s : State) (h : Half) (tier a len : Nat) (c : Scan) (hs : s.holds P q) : (Sys2Proof.Machine.State.scan s h tier a len c).1.holds P q := by
  unfold Sys2Proof.Machine.State.scan
  try dsimp only
  with_reducible repeat' (first | assumption | apply keep.scanCount | apply keep.scanWords)

theorem keep.scanNew {P : Stage → Prop} {q : List Instr} (s : State) (h : Half) (tier a len : Nat) (offs : List Nat) (hs : s.holds P q) : (Sys2Proof.Machine.State.scanNew s h tier a len offs).1.holds P q := by
  unfold Sys2Proof.Machine.State.scanNew
  try dsimp only
  with_reducible repeat' (first | assumption | apply keep.countBad | apply keep.findBad)

theorem keep.logWord {P : Stage → Prop} {q : List Instr} (s : State) (h : Half) (tier w handle : Nat) (hs : s.holds P q) : (Sys2Proof.Machine.State.logWord s h tier w handle).holds P q := by
  unfold Sys2Proof.Machine.State.logWord
  try dsimp only
  with_reducible repeat' (first | assumption | apply keep.log)

theorem keep.objWrite {P : Stage → Prop} {q : List Instr} (s : State) (o : Obj) (off : Nat) (bs : List Byte) (hs : s.holds P q) : (Sys2Proof.Machine.State.objWrite s o off bs).holds P q := by
  unfold Sys2Proof.Machine.State.objWrite
  try dsimp only
  with_reducible repeat' (first | assumption | apply keep.storeBytes)

theorem keep.markNode {P : Stage → Prop} {q : List Instr} (s : State) (r : NodeRef) (p : Nat) (hs : s.holds P q) : (Sys2Proof.Machine.State.markNode s r p).holds P q := by
  unfold Sys2Proof.Machine.State.markNode
  try dsimp only
  with_reducible repeat' (first | assumption | apply keep.modNode)

theorem keep.endNode {P : Stage → Prop} {q : List Instr} (s : State) (r : NodeRef) (p : Nat) (hs : s.holds P q) : (Sys2Proof.Machine.State.endNode s r p).holds P q := by
  unfold Sys2Proof.Machine.State.endNode
  try dsimp only
  with_reducible repeat' (first | assumption | apply keep.modNode)

theorem keep.endNodeD {P : Stage → Prop} {q : List Instr} (s : State) (r : NodeRef) (p d d2 : Nat) (hs : s.holds P q) : (Sys2Proof.Machine.State.endNodeD s r p d d2).holds P q := by
  unfold Sys2Proof.Machine.State.endNodeD
  try dsimp only
  with_reducible repeat' (first | assumption | apply keep.endNode | apply keep.modNode)

theorem keep.logNode {P : Stage → Prop} {qq : List Instr} (s : State) (h : Half) (r : NodeRef) (q : LogReq) (hs : s.holds P qq) : (Sys2Proof.Machine.State.logNode s h r q).holds P qq := by
  unfold Sys2Proof.Machine.State.logNode
  try dsimp only
  with_reducible repeat' (first | assumption | apply keep.log)

theorem keep.setGal {P : Stage → Prop} {q : List Instr} (s : State) (h : Half) (g : Nat) (x : Gal) (hs : s.holds P q) : (Sys2Proof.Machine.State.setGal s h g x).holds P q := by
  unfold Sys2Proof.Machine.State.setGal
  try dsimp only
  with_reducible repeat' (first | assumption | apply keep.modHalf | apply keep.memOf | simp only [↓keep.halfMk])

theorem keep.setRing {P : Stage → Prop} {q : List Instr} (s : State) (h : Half) (r : Nat) (x : Ring) (hs : s.holds P q) : (Sys2Proof.Machine.State.setRing s h r x).holds P q := by
  unfold Sys2Proof.Machine.State.setRing
  try dsimp only
  with_reducible repeat' (first | assumption | apply keep.modHalf | apply keep.memOf | simp only [↓keep.halfMk])

theorem keep.setSq {P : Stage → Prop} {qq : List Instr} (s : State) (h : Half) (q : Nat) (x : SendQ) (hs : s.holds P qq) : (Sys2Proof.Machine.State.setSq s h q x).holds P qq := by
  unfold Sys2Proof.Machine.State.setSq
  try dsimp only
  with_reducible repeat' (first | assumption | apply keep.modHalf | apply keep.memOf | simp only [↓keep.halfMk])

theorem keep.setRq {P : Stage → Prop} {qq : List Instr} (s : State) (h : Half) (q : Nat) (x : RecvQ) (hs : s.holds P qq) : (Sys2Proof.Machine.State.setRq s h q x).holds P qq := by
  unfold Sys2Proof.Machine.State.setRq
  try dsimp only
  with_reducible repeat' (first | assumption | apply keep.modHalf | apply keep.memOf | simp only [↓keep.halfMk])

theorem keep.setBar {P : Stage → Prop} {q : List Instr} (s : State) (h : Half) (b : Nat) (x : Barrier) (hs : s.holds P q) : (Sys2Proof.Machine.State.setBar s h b x).holds P q := by
  unfold Sys2Proof.Machine.State.setBar
  try dsimp only
  with_reducible repeat' (first | assumption | apply keep.modHalf | apply keep.memOf | simp only [↓keep.halfMk])

theorem keep.passControl {P : Stage → Prop} {q : List Instr} (s : State) (dst : Half) (m : PassMsg) (hs : s.holds P q) : (Sys2Proof.Machine.State.passControl s dst m).holds P q := by
  unfold Sys2Proof.Machine.State.passControl
  try dsimp only
  with_reducible repeat' (first | assumption | apply keep.modHalf | apply keep.memOf | simp only [↓keep.halfMk])

theorem keep.passToken {P : Stage → Prop} {q : List Instr} (s : State) (dst : Half) (m : PassMsg) (hs : s.holds P q) : (Sys2Proof.Machine.State.passToken s dst m).holds P q := by
  unfold Sys2Proof.Machine.State.passToken
  try dsimp only
  with_reducible repeat' (first | assumption | apply keep.modHalf | apply keep.memOf | simp only [↓keep.halfMk])

theorem keep.passActivation {P : Stage → Prop} {q : List Instr} (s : State) (dst : Half) (m : PassMsg) (hs : s.holds P q) : (Sys2Proof.Machine.State.passActivation s dst m).holds P q := by
  unfold Sys2Proof.Machine.State.passActivation
  try dsimp only
  with_reducible repeat' (first | assumption | apply keep.modHalf | apply keep.memOf | simp only [↓keep.halfMk])

theorem keep.passMove {P : Stage → Prop} {q : List Instr} (s : State) (dst : Half) (m : PassMsg) (hs : s.holds P q) : (Sys2Proof.Machine.State.passMove s dst m).holds P q := by
  unfold Sys2Proof.Machine.State.passMove
  try dsimp only
  with_reducible repeat' (first | assumption | apply keep.modHalf | apply keep.memOf | simp only [↓keep.halfMk])

theorem keep.readGive {P : Stage → Prop} {q : List Instr} (s : State) (h : Half) (f off : Nat) (bs : List Byte) (hs : s.holds P q) : (Sys2Proof.Machine.State.readGive s h f off bs).holds P q := by
  unfold Sys2Proof.Machine.State.readGive
  try dsimp only
  with_reducible repeat' (first | assumption | apply keep.passControl | apply keep.send | split)

theorem keep.whenAwake {P : Stage → Prop} {q : List Instr} (s : State) (f : State → State) (hs : s.holds P q) (h_f : ∀ s, s.holds P q → (f s).holds P q) : outHolds P q (Sys2Proof.Machine.whenAwake s f) := by
  unfold Sys2Proof.Machine.whenAwake
  try dsimp only
  with_reducible repeat' (first | assumption | apply h_f | apply keep.next | split)

theorem keep.keepWakes {P : Stage → Prop} {q : List Instr} (s : State) (ds : List Nat) (hs : s.holds P q) : (Sys2Proof.Machine.State.keepWakes s ds).holds P q := by
  unfold Sys2Proof.Machine.State.keepWakes
  try dsimp only
  with_reducible repeat' (first | assumption | apply keep.wake | apply keep.foldl | split | (intro))

theorem keep.startWoken {P : Stage → Prop} {q : List Instr} (s : State) (hs : s.holds P q) : (Sys2Proof.Machine.State.startWoken s).holds P q := by
  unfold Sys2Proof.Machine.State.startWoken
  try dsimp only
  with_reducible repeat' (first | assumption | apply keep.modNode | apply keep.foldl | split | (intro))

theorem keep.refuseWaiters {P : Stage → Prop} {q : List Instr} (s : State) (d : Nat) (hs : s.holds P q) : (Sys2Proof.Machine.State.refuseWaiters s d).holds P q := by
  unfold Sys2Proof.Machine.State.refuseWaiters
  try dsimp only
  with_reducible repeat' (first | assumption | apply keep.endNode | apply keep.foldl | split | (intro))

theorem keep.wakeOrRefuse {P : Stage → Prop} {q : List Instr} (s : State) (d : Nat) (hs : s.holds P q) : (Sys2Proof.Machine.State.wakeOrRefuse s d).holds P q := by
  unfold Sys2Proof.Machine.State.wakeOrRefuse
  try dsimp only
  with_reducible repeat' (first | assumption | apply keep.refuseWaiters | apply keep.wake | split)

theorem keep.stopPll {P : Stage → Prop} {q : List Instr} (s : State) (d : Nat) (hs : s.holds P q) : (Sys2Proof.Machine.State.stopPll s d).holds P q := by
  unfold Sys2Proof.Machine.State.stopPll
  try dsimp only
  with_reducible repeat' (first | assumption | apply keep.wf | apply keep.stageOf (P := P) q | apply keep.queueOf P | apply keep.regsOf P q | apply keep.westOf P q | apply keep.eastOf P q | apply keep.bootOf P q | (simp only [↓keep.mk]; refine ⟨?_, ?_, ?_, ?_, ?_, ?_⟩) | split)

theorem keep.domainCtrl {P : Stage → Prop} {q : List Instr} (s : State) (d v : Nat) (hs : s.holds P q) : (Sys2Proof.Machine.State.domainCtrl s d v).holds P q := by
  unfold Sys2Proof.Machine.State.domainCtrl
  try dsimp only
  with_reducible repeat' (first | assumption | apply keep.log | apply keep.refuseWaiters | apply keep.stopPll | apply keep.wake | apply keep.wf | apply keep.stageOf (P := P) q | apply keep.queueOf P | apply keep.regsOf P q | apply keep.westOf P q | apply keep.eastOf P q | apply keep.bootOf P q | (simp only [↓keep.mk]; refine ⟨?_, ?_, ?_, ?_, ?_, ?_⟩) | split)

theorem keep.execDomainHold {P : Stage → Prop} {q : List Instr} (d v : Nat) (s : State) (hs : s.holds P q) : outHolds P q (Sys2Proof.Machine.execDomainHold d v s) := by
  unfold Sys2Proof.Machine.execDomainHold
  try dsimp only
  with_reducible repeat' (first | assumption | apply keep.domainCtrl | apply keep.whenLive | split | (intro))

theorem keep.execDomainDisable {P : Stage → Prop} {q : List Instr} (d v : Nat) (s : State) (hs : s.holds P q) : outHolds P q (Sys2Proof.Machine.execDomainDisable d v s) := by
  unfold Sys2Proof.Machine.execDomainDisable
  try dsimp only
  with_reducible repeat' (first | assumption | apply keep.domainCtrl | apply keep.whenLive | split | (intro))

theorem keep.wakeAdmit {P : Stage → Prop} {q : List Instr} (s : State) (hs : s.holds P q) : (Sys2Proof.Machine.State.wakeAdmit s).holds P q := by
  unfold Sys2Proof.Machine.State.wakeAdmit
  try dsimp only
  with_reducible repeat' (first | assumption | apply keep.add | apply keep.keepWakes | apply keep.passControl | apply keep.wf | apply keep.stageOf (P := P) q | apply keep.queueOf P | apply keep.regsOf P q | apply keep.westOf P q | apply keep.eastOf P q | apply keep.bootOf P q | (simp only [↓keep.mk]; refine ⟨?_, ?_, ?_, ?_, ?_, ?_⟩) | split)

theorem keep.execWakeAdmit {P : Stage → Prop} {q : List Instr} (s : State) (hs : s.holds P q) : outHolds P q (Sys2Proof.Machine.execWakeAdmit s) := by
  unfold Sys2Proof.Machine.execWakeAdmit
  try dsimp only
  with_reducible repeat' (first | assumption | apply keep.wakeAdmit | apply keep.whenLive)

theorem keep.galleryOn {P : Stage → Prop} {q : List Instr} (s : State) (h : Half) (g : Nat) (hs : s.holds P q) : (Sys2Proof.Machine.State.galleryOn s h g).holds P q := by
  unfold Sys2Proof.Machine.State.galleryOn
  try dsimp only
  with_reducible repeat' (first | assumption | apply keep.wf | apply keep.foldl | (intro))

theorem keep.passageUp {P : Stage → Prop} {q : List Instr} (s : State) (hs : s.holds P q) : (Sys2Proof.Machine.State.passageUp s).holds P q := by
  unfold Sys2Proof.Machine.State.passageUp
  try dsimp only
  with_reducible repeat' (first | assumption | apply keep.wf)

theorem keep.domainOn {P : Stage → Prop} {q : List Instr} (s : State) (d : Nat) (bad : Bool) (hs : s.holds P q) : (Sys2Proof.Machine.State.domainOn s d bad).holds P q := by
  unfold Sys2Proof.Machine.State.domainOn
  try dsimp only
  with_reducible repeat' (first | assumption | apply keep.add | apply keep.galleryOn | apply keep.keepWakes | apply keep.log | apply keep.passageUp | apply keep.startWoken | apply keep.wf | apply keep.stageOf (P := P) q | apply keep.queueOf P | apply keep.regsOf P q | apply keep.westOf P q | apply keep.eastOf P q | apply keep.bootOf P q | split)

theorem keep.execDomainOn {P : Stage → Prop} {q : List Instr} (d : Nat) (bad : Bool) (s : State) (hs : s.holds P q) : outHolds P q (Sys2Proof.Machine.execDomainOn d bad s) := by
  unfold Sys2Proof.Machine.execDomainOn
  try dsimp only
  with_reducible repeat' (first | assumption | apply keep.domainOn | apply keep.whenLive | split | (intro))

theorem keep.toSleep {P : Stage → Prop} {q : List Instr} (s : State) (d : Nat) (hs : s.holds P q) : (Sys2Proof.Machine.State.toSleep s d).holds P q := by
  unfold Sys2Proof.Machine.State.toSleep
  try dsimp only
  with_reducible repeat' (first | assumption | apply keep.passageUp | apply keep.wf | split)

theorem keep.domainIdle {P : Stage → Prop} {q : List Instr} (s : State) (d : Nat) (hs : s.holds P q) : (Sys2Proof.Machine.State.domainIdle s d).holds P q := by
  unfold Sys2Proof.Machine.State.domainIdle
  try dsimp only
  with_reducible repeat' (first | assumption | apply keep.passControl | apply keep.toSleep | apply keep.stageOf (P := P) q | apply keep.queueOf P | apply keep.regsOf P q | apply keep.westOf P q | apply keep.eastOf P q | apply keep.bootOf P q | (simp only [↓keep.mk]; refine ⟨?_, ?_, ?_, ?_, ?_, ?_⟩) | split)

theorem keep.execDomainIdleExpire {P : Stage → Prop} {q : List Instr} (d : Nat) (s : State) (hs : s.holds P q) : outHolds P q (Sys2Proof.Machine.execDomainIdleExpire d s) := by
  unfold Sys2Proof.Machine.execDomainIdleExpire
  try dsimp only
  with_reducible repeat' (first | assumption | apply keep.domainIdle | apply keep.whenLive | split | (intro))

theorem keep.domainOff {P : Stage → Prop} {q : List Instr} (s : State) (d : Nat) (hs : s.holds P q) : (Sys2Proof.Machine.State.domainOff s d).holds P q := by
  unfold Sys2Proof.Machine.State.domainOff
  try dsimp only
  with_reducible repeat' (first | assumption | apply keep.passageUp | apply keep.stopPll | apply keep.wakeOrRefuse | apply keep.wf | apply keep.stageOf (P := P) q | apply keep.queueOf P | apply keep.regsOf P q | apply keep.westOf P q | apply keep.eastOf P q | apply keep.bootOf P q | (simp only [↓keep.mk]; refine ⟨?_, ?_, ?_, ?_, ?_, ?_⟩) | split)

theorem keep.execDomainOff {P : Stage → Prop} {q : List Instr} (d : Nat) (s : State) (hs : s.holds P q) : outHolds P q (Sys2Proof.Machine.execDomainOff d s) := by
  unfold Sys2Proof.Machine.execDomainOff
  try dsimp only
  with_reducible repeat' (first | assumption | apply keep.domainOff | apply keep.whenLive | split | (intro))

theorem keep.wakeLinkCmd {P : Stage → Prop} {q : List Instr} (s : State) (hs : s.holds P q) : (Sys2Proof.Machine.State.wakeLinkCmd s).holds P q := by
  unfold Sys2Proof.Machine.State.wakeLinkCmd
  try dsimp only
  with_reducible repeat' (first | assumption | apply keep.toSleep | apply keep.stageOf (P := P) q | apply keep.queueOf P | apply keep.regsOf P q | apply keep.westOf P q | apply keep.eastOf P q | apply keep.bootOf P q | (simp only [↓keep.mk]; refine ⟨?_, ?_, ?_, ?_, ?_, ?_⟩) | split)

theorem keep.execWakeLinkCommand {P : Stage → Prop} {q : List Instr} (s : State) (hs : s.holds P q) : outHolds P q (Sys2Proof.Machine.execWakeLinkCommand s) := by
  unfold Sys2Proof.Machine.execWakeLinkCommand
  try dsimp only
  with_reducible repeat' (first | assumption | apply keep.wakeLinkCmd | apply keep.whenLive)

theorem keep.setOp {P : Stage → Prop} {q : List Instr} (s : State) (h : Half) (k : Nat) (hs : s.holds P q) : (Sys2Proof.Machine.State.setOp s h k).holds P q := by
  unfold Sys2Proof.Machine.State.setOp
  try dsimp only
  with_reducible repeat' (first | assumption | apply keep.wf | split)

theorem keep.regulate {P : Stage → Prop} {q : List Instr} (s : State) (h : Half) (k : Nat) (hs : s.holds P q) : (Sys2Proof.Machine.State.regulate s h k).holds P q := by
  unfold Sys2Proof.Machine.State.regulate
  try dsimp only
  with_reducible repeat' (first | assumption | apply keep.send)

theorem keep.opSwitch {P : Stage → Prop} {q : List Instr} (s : State) (h : Half) (c : OpChange) (hs : s.holds P q) : (Sys2Proof.Machine.State.opSwitch s h c).holds P q := by
  unfold Sys2Proof.Machine.State.opSwitch
  try dsimp only
  with_reducible repeat' (first | assumption | apply keep.regulate | apply keep.setOp | apply keep.wf | apply keep.stageOf (P := P) q | apply keep.queueOf P | apply keep.regsOf P q | apply keep.westOf P q | apply keep.eastOf P q | apply keep.bootOf P q | (simp only [↓keep.mk]; refine ⟨?_, ?_, ?_, ?_, ?_, ?_⟩) | split)

theorem keep.opLower {P : Stage → Prop} {q : List Instr} (s : State) (h : Half) (hs : s.holds P q) : (Sys2Proof.Machine.State.opLower s h).holds P q := by
  unfold Sys2Proof.Machine.State.opLower
  try dsimp only
  with_reducible repeat' (first | assumption | apply keep.opSwitch | split)

theorem keep.opStep {P : Stage → Prop} {q : List Instr} (s : State) (h : Half) (hs : s.holds P q) : (Sys2Proof.Machine.State.opStep s h).holds P q := by
  unfold Sys2Proof.Machine.State.opStep
  try dsimp only
  with_reducible repeat' (first | assumption | apply keep.opLower | apply keep.regulate | apply keep.wf | apply keep.stageOf (P := P) q | apply keep.queueOf P | apply keep.regsOf P q | apply keep.westOf P q | apply keep.eastOf P q | apply keep.bootOf P q | (simp only [↓keep.mk]; refine ⟨?_, ?_, ?_, ?_, ?_, ?_⟩) | split)

theorem keep.opSteps {P : Stage → Prop} {q : List Instr} (s : State) (hs : s.holds P q) : (Sys2Proof.Machine.State.opSteps s).holds P q := by
  unfold Sys2Proof.Machine.State.opSteps
  try dsimp only
  with_reducible repeat' (first | assumption | apply keep.opStep)

theorem keep.opDone {P : Stage → Prop} {q : List Instr} (s : State) (h : Half) (hs : s.holds P q) : (Sys2Proof.Machine.State.opDone s h).holds P q := by
  unfold Sys2Proof.Machine.State.opDone
  try dsimp only
  with_reducible repeat' (first | assumption | apply keep.opLower | apply keep.opStep | apply keep.opSwitch | apply keep.wf | apply keep.stageOf (P := P) q | apply keep.queueOf P | apply keep.regsOf P q | apply keep.westOf P q | apply keep.eastOf P q | apply keep.bootOf P q | (simp only [↓keep.mk]; refine ⟨?_, ?_, ?_, ?_, ?_, ?_⟩) | split)

theorem keep.execOpChangeDone {P : Stage → Prop} {q : List Instr} (h : Half) (s : State) (hs : s.holds P q) : outHolds P q (Sys2Proof.Machine.execOpChangeDone h s) := by
  unfold Sys2Proof.Machine.execOpChangeDone
  try dsimp only
  with_reducible repeat' (first | assumption | apply keep.opDone | apply keep.whenLive | (intro))

theorem keep.pllLock {P : Stage → Prop} {q : List Instr} (s : State) (h : Half) (b : Nat) (hs : s.holds P q) : (Sys2Proof.Machine.State.pllLock s h b).holds P q := by
  unfold Sys2Proof.Machine.State.pllLock
  try dsimp only
  with_reducible repeat' (first | assumption | apply keep.opLower | apply keep.wf | apply keep.stageOf (P := P) q | apply keep.queueOf P | apply keep.regsOf P q | apply keep.westOf P q | apply keep.eastOf P q | apply keep.bootOf P q | (simp only [↓keep.mk]; refine ⟨?_, ?_, ?_, ?_, ?_, ?_⟩) | split)

theorem keep.execPllLock {P : Stage → Prop} {q : List Instr} (h : Half) (b : Nat) (s : State) (hs : s.holds P q) : outHolds P q (Sys2Proof.Machine.execPllLock h b s) := by
  unfold Sys2Proof.Machine.execPllLock
  try dsimp only
  with_reducible repeat' (first | assumption | apply keep.pllLock | apply keep.whenLive | split | (intro))

theorem keep.showCap {P : Stage → Prop} {q : List Instr} (s : State) (hs : s.holds P q) : (Sys2Proof.Machine.State.showCap s).holds P q := by
  unfold Sys2Proof.Machine.State.showCap
  try dsimp only
  with_reducible repeat' (first | assumption | apply keep.wf)

theorem keep.capWrite {P : Stage → Prop} {q : List Instr} (s : State) (v : Nat) (hs : s.holds P q) : (Sys2Proof.Machine.State.capWrite s v).holds P q := by
  unfold Sys2Proof.Machine.State.capWrite
  try dsimp only
  with_reducible repeat' (first | assumption | apply keep.log | apply keep.showCap | apply keep.wf | apply keep.stageOf (P := P) q | apply keep.queueOf P | apply keep.regsOf P q | apply keep.westOf P q | apply keep.eastOf P q | apply keep.bootOf P q | (simp only [↓keep.mk]; refine ⟨?_, ?_, ?_, ?_, ?_, ?_⟩) | split)

theorem keep.execCapWrite {P : Stage → Prop} {q : List Instr} (v : Nat) (s : State) (hs : s.holds P q) : outHolds P q (Sys2Proof.Machine.execCapWrite v s) := by
  unfold Sys2Proof.Machine.execCapWrite
  try dsimp only
  with_reducible repeat' (first | assumption | apply keep.capWrite | apply keep.whenLive | (intro))

theorem keep.execEstimateDivergeClear {P : Stage → Prop} {q : List Instr} (s : State) (hs : s.holds P q) : outHolds P q (Sys2Proof.Machine.execEstimateDivergeClear s) := by
  unfold Sys2Proof.Machine.execEstimateDivergeClear
  try dsimp only
  with_reducible repeat' (first | assumption | apply keep.wf | apply keep.whenLive | apply keep.stageOf (P := P) q | apply keep.queueOf P | apply keep.regsOf P q | apply keep.westOf P q | apply keep.eastOf P q | apply keep.bootOf P q | (simp only [↓keep.mk]; refine ⟨?_, ?_, ?_, ?_, ?_, ?_⟩) | split | (intro))

theorem keep.showLoops {P : Stage → Prop} {q : List Instr} (s : State) (hs : s.holds P q) : (Sys2Proof.Machine.State.showLoops s).holds P q := by
  unfold Sys2Proof.Machine.State.showLoops
  try dsimp only
  with_reducible repeat' (first | assumption | apply keep.wf | split)

theorem keep.showPower {P : Stage → Prop} {q : List Instr} (s : State) (m e : Nat) (tmax : Int) (hs : s.holds P q) : (Sys2Proof.Machine.State.showPower s m e tmax).holds P q := by
  unfold Sys2Proof.Machine.State.showPower
  try dsimp only
  with_reducible repeat' (first | assumption | apply keep.wf | apply keep.stageOf (P := P) q | apply keep.queueOf P | apply keep.regsOf P q | apply keep.westOf P q | apply keep.eastOf P q | apply keep.bootOf P q | (simp only [↓keep.mk]; refine ⟨?_, ?_, ?_, ?_, ?_, ?_⟩))

theorem keep.divergeStep {P : Stage → Prop} {q : List Instr} (s : State) (m e : Nat) (hs : s.holds P q) : (Sys2Proof.Machine.State.divergeStep s m e).holds P q := by
  unfold Sys2Proof.Machine.State.divergeStep
  try dsimp only
  with_reducible repeat' (first | assumption | apply keep.log | apply keep.wf | apply keep.stageOf (P := P) q | apply keep.queueOf P | apply keep.regsOf P q | apply keep.westOf P q | apply keep.eastOf P q | apply keep.bootOf P q | (simp only [↓keep.mk]; refine ⟨?_, ?_, ?_, ?_, ?_, ?_⟩) | split)

theorem keep.powerPeriod {P : Stage → Prop} {q : List Instr} (s : State) (m e : Nat) (tmax : Int) (hs : s.holds P q) : (Sys2Proof.Machine.State.powerPeriod s m e tmax).holds P q := by
  unfold Sys2Proof.Machine.State.powerPeriod
  try dsimp only
  with_reducible repeat' (first | assumption | apply keep.divergeStep | apply keep.opSteps | apply keep.showLoops | apply keep.showPower | apply keep.wf | apply keep.stageOf (P := P) q | apply keep.queueOf P | apply keep.regsOf P q | apply keep.westOf P q | apply keep.eastOf P q | apply keep.bootOf P q | (simp only [↓keep.mk]; refine ⟨?_, ?_, ?_, ?_, ?_, ?_⟩) | split)

theorem keep.execPowerPeriod {P : Stage → Prop} {q : List Instr} (m e : Nat) (tmax : Int) (s : State) (hs : s.holds P q) : outHolds P q (Sys2Proof.Machine.execPowerPeriod m e tmax s) := by
  unfold Sys2Proof.Machine.execPowerPeriod
  try dsimp only
  with_reducible repeat' (first | assumption | apply keep.powerPeriod | apply keep.whenLive | (intro))

theorem keep.execGateWindowClose {P : Stage → Prop} {q : List Instr} (s : State) (hs : s.holds P q) : outHolds P q (Sys2Proof.Machine.execGateWindowClose s) := by
  unfold Sys2Proof.Machine.execGateWindowClose
  try dsimp only
  with_reducible repeat' (first | assumption | apply keep.whenLive | apply keep.stageOf (P := P) q | apply keep.queueOf P | apply keep.regsOf P q | apply keep.westOf P q | apply keep.eastOf P q | apply keep.bootOf P q | (simp only [↓keep.mk]; refine ⟨?_, ?_, ?_, ?_, ?_, ?_⟩) | split | (intro))

theorem keep.beginHeld {P : Stage → Prop} {q : List Instr} (s : State) (hs : s.holds P q) : (Sys2Proof.Machine.State.beginHeld s).holds P q := by
  unfold Sys2Proof.Machine.State.beginHeld
  try dsimp only
  with_reducible repeat' (first | assumption | apply keep.modHalf | apply keep.stamp | apply keep.memOf | simp only [↓keep.halfMk])

theorem keep.execGateWindowOpen {P : Stage → Prop} {q : List Instr} (s : State) (hs : s.holds P q) : outHolds P q (Sys2Proof.Machine.execGateWindowOpen s) := by
  unfold Sys2Proof.Machine.execGateWindowOpen
  try dsimp only
  with_reducible repeat' (first | assumption | apply keep.beginHeld | apply keep.whenLive | apply keep.stageOf (P := P) q | apply keep.queueOf P | apply keep.regsOf P q | apply keep.westOf P q | apply keep.eastOf P q | apply keep.bootOf P q | (simp only [↓keep.mk]; refine ⟨?_, ?_, ?_, ?_, ?_, ?_⟩) | split | (intro))

theorem keep.setPortState {P : Stage → Prop} {q : List Instr} (s : State) (p v : Nat) (hs : s.holds P q) : (Sys2Proof.Machine.State.setPortState s p v).holds P q := by
  unfold Sys2Proof.Machine.State.setPortState
  try dsimp only
  with_reducible repeat' (first | assumption | apply keep.wf)

theorem keep.logPort {P : Stage → Prop} {q : List Instr} (s : State) (p event before after : Nat) (hs : s.holds P q) : (Sys2Proof.Machine.State.logPort s p event before after).holds P q := by
  unfold Sys2Proof.Machine.State.logPort
  try dsimp only
  with_reducible repeat' (first | assumption | apply keep.log)

theorem keep.sendIdle {P : Stage → Prop} {q : List Instr} (s : State) (p : Nat) (nak : Bool) (hs : s.holds P q) : (Sys2Proof.Machine.State.sendIdle s p nak).holds P q := by
  unfold Sys2Proof.Machine.State.sendIdle
  try dsimp only
  with_reducible repeat' (first | assumption | apply keep.send)

theorem keep.giveCredit {P : Stage → Prop} {q : List Instr} (s : State) (x : PortFlit) (hs : s.holds P q) : (Sys2Proof.Machine.State.giveCredit s x).holds P q := by
  unfold Sys2Proof.Machine.State.giveCredit
  try dsimp only
  with_reducible repeat' (first | assumption | apply keep.send | split)

theorem keep.dropFlit {P : Stage → Prop} {q : List Instr} (s : State) (h : Half) (x : PortFlit) (hs : s.holds P q) : (Sys2Proof.Machine.State.dropFlit s h x).holds P q := by
  unfold Sys2Proof.Machine.State.dropFlit
  try dsimp only
  with_reducible repeat' (first | assumption | apply keep.add | apply keep.giveCredit)

theorem keep.portEmit {P : Stage → Prop} {q : List Instr} (s : State) (p : Nat) (f : PortFlit) (hs : s.holds P q) : (Sys2Proof.Machine.State.portEmit s p f).holds P q := by
  unfold Sys2Proof.Machine.State.portEmit
  try dsimp only
  with_reducible repeat' (first | assumption | apply keep.add | apply keep.dropFlit | apply keep.giveCredit | apply keep.send | apply keep.setPort | split)

theorem keep.portDrain {P : Stage → Prop} {qq : List Instr} (s : State) (p k : Nat)  (hs : s.holds P qq) : (s.portDrain p k).holds P qq := by
  induction k generalizing s with
  | zero => exact hs
  | succ k ih =>
    simp only [State.portDrain]
    with_reducible repeat' (first | assumption | apply ih | apply keep.portEmit | apply keep.setPort | split)

theorem keep.portSend {P : Stage → Prop} {q : List Instr} (s : State) (p : Nat) (f : PortFlit) (hs : s.holds P q) : (Sys2Proof.Machine.State.portSend s p f).holds P q := by
  unfold Sys2Proof.Machine.State.portSend
  try dsimp only
  with_reducible repeat' (first | assumption | apply keep.portDrain | apply keep.setPort)

theorem keep.takeCredits {P : Stage → Prop} {q : List Instr} (s : State) (p : Nat) (cs : List Nat) (hs : s.holds P q) : (Sys2Proof.Machine.State.takeCredits s p cs).holds P q := by
  unfold Sys2Proof.Machine.State.takeCredits
  try dsimp only
  with_reducible repeat' (first | assumption | apply keep.portDrain | apply keep.setPort)

theorem keep.startRetrain {P : Stage → Prop} {q : List Instr} (s : State) (p : Nat) (lanes : List Nat) (hs : s.holds P q) : (Sys2Proof.Machine.State.startRetrain s p lanes).holds P q := by
  unfold Sys2Proof.Machine.State.startRetrain
  try dsimp only
  with_reducible repeat' (first | assumption | apply keep.add | apply keep.setPort | apply keep.setPortState | apply keep.wf)

theorem keep.resendAll {P : Stage → Prop} {q : List Instr} (s : State) (p : Nat) (hs : s.holds P q) : (Sys2Proof.Machine.State.resendAll s p).holds P q := by
  unfold Sys2Proof.Machine.State.resendAll
  try dsimp only
  with_reducible repeat' (first | assumption | apply keep.add | apply keep.send | apply keep.wf | apply keep.foldl | split | (intro))

theorem keep.linkAcked {P : Stage → Prop} {q : List Instr} (s : State) (p lack : Nat) (nak : Bool) (hs : s.holds P q) : (Sys2Proof.Machine.State.linkAcked s p lack nak).holds P q := by
  unfold Sys2Proof.Machine.State.linkAcked
  try dsimp only
  with_reducible repeat' (first | assumption | apply keep.add | apply keep.logPort | apply keep.portDrain | apply keep.resendAll | apply keep.setPort | apply keep.startRetrain | apply keep.wf | split)

theorem keep.portDown {P : Stage → Prop} {q : List Instr} (s : State) (p : Nat) (hs : s.holds P q) : (Sys2Proof.Machine.State.portDown s p).holds P q := by
  unfold Sys2Proof.Machine.State.portDown
  try dsimp only
  with_reducible repeat' (first | assumption | apply keep.giveCredit | apply keep.logPort | apply keep.setPort | apply keep.setPortState | apply keep.wf | apply keep.foldl | split)

theorem keep.portUp {P : Stage → Prop} {q : List Instr} (s : State) (p ver rate w : Nat) (ls : List Nat) (hs : s.holds P q) : (Sys2Proof.Machine.State.portUp s p ver rate w ls).holds P q := by
  unfold Sys2Proof.Machine.State.portUp
  try dsimp only
  with_reducible repeat' (first | assumption | apply keep.logPort | apply keep.portDrain | apply keep.resendAll | apply keep.setPort | apply keep.setPortState | apply keep.wf | split)

theorem keep.advertise {P : Stage → Prop} {q : List Instr} (s : State) (p rate : Nat) (ls : List Nat) (hs : s.holds P q) : (Sys2Proof.Machine.State.advertise s p rate ls).holds P q := by
  unfold Sys2Proof.Machine.State.advertise
  try dsimp only
  with_reducible repeat' (first | assumption | apply keep.send)

theorem keep.trained {P : Stage → Prop} {q : List Instr} (s : State) (p : Nat) (t : TrainResult) (hs : s.holds P q) : (Sys2Proof.Machine.State.trained s p t).holds P q := by
  unfold Sys2Proof.Machine.State.trained
  try dsimp only
  with_reducible repeat' (first | assumption | apply keep.advertise | apply keep.giveCredit | apply keep.logPort | apply keep.portDown | apply keep.portUp | apply keep.setPort | apply keep.setPortState | apply keep.wf | apply keep.foldl | apply keep.stageOf (P := P) q | apply keep.queueOf P | apply keep.regsOf P q | apply keep.westOf P q | apply keep.eastOf P q | apply keep.bootOf P q | split)

theorem keep.execTrainingDone {P : Stage → Prop} {q : List Instr} (p : Nat) (t : TrainResult) (s : State) (hs : s.holds P q) : outHolds P q (Sys2Proof.Machine.execTrainingDone p t s) := by
  unfold Sys2Proof.Machine.execTrainingDone
  try dsimp only
  with_reducible repeat' (first | assumption | apply keep.trained | apply keep.whenLive | split | (intro))

theorem keep.execTrainingRetry {P : Stage → Prop} {q : List Instr} (p : Nat) (s : State) (hs : s.holds P q) : outHolds P q (Sys2Proof.Machine.execTrainingRetry p s) := by
  unfold Sys2Proof.Machine.execTrainingRetry
  try dsimp only
  with_reducible repeat' (first | assumption | apply keep.setPortState | apply keep.whenLive | split | (intro))

theorem keep.execLaneLoss {P : Stage → Prop} {q : List Instr} (p lane : Nat) (s : State) (hs : s.holds P q) : outHolds P q (Sys2Proof.Machine.execLaneLoss p lane s) := by
  unfold Sys2Proof.Machine.execLaneLoss
  try dsimp only
  with_reducible repeat' (first | assumption | apply keep.setPort | apply keep.startRetrain | apply keep.whenLive | split | (intro))

theorem keep.portCfgWrite {P : Stage → Prop} {q : List Instr} (s : State) (p v : Nat) (hs : s.holds P q) : (Sys2Proof.Machine.State.portCfgWrite s p v).holds P q := by
  unfold Sys2Proof.Machine.State.portCfgWrite
  try dsimp only
  with_reducible repeat' (first | assumption | apply keep.keepWakes | apply keep.setPort | apply keep.setPortState | apply keep.startRetrain | apply keep.wf | apply keep.wr | split)

theorem keep.execPortEnWrite {P : Stage → Prop} {q : List Instr} (p v : Nat) (s : State) (hs : s.holds P q) : outHolds P q (Sys2Proof.Machine.execPortEnWrite p v s) := by
  unfold Sys2Proof.Machine.execPortEnWrite
  try dsimp only
  with_reducible repeat' (first | assumption | apply keep.portCfgWrite | apply keep.whenLive | split | (intro))

theorem keep.execRetrain {P : Stage → Prop} {q : List Instr} (p : Nat) (s : State) (hs : s.holds P q) : outHolds P q (Sys2Proof.Machine.execRetrain p s) := by
  unfold Sys2Proof.Machine.execRetrain
  try dsimp only
  with_reducible repeat' (first | assumption | apply keep.portCfgWrite | apply keep.whenLive | split | (intro))

theorem keep.routeDrop {P : Stage → Prop} {q : List Instr} (s : State) (h : Half) (x : PortFlit) (hs : s.holds P q) : (Sys2Proof.Machine.State.routeDrop s h x).holds P q := by
  unfold Sys2Proof.Machine.State.routeDrop
  try dsimp only
  with_reducible repeat' (first | assumption | apply keep.dropFlit | apply keep.log | apply keep.wf)

theorem keep.passFlit {P : Stage → Prop} {q : List Instr} (s : State) (dst : Half) (x : PortFlit) (out : Option Nat) (hs : s.holds P q) : (Sys2Proof.Machine.State.passFlit s dst x out).holds P q := by
  unfold Sys2Proof.Machine.State.passFlit
  try dsimp only
  with_reducible repeat' (first | assumption | apply keep.giveCredit | apply keep.passActivation | apply keep.passControl | apply keep.passToken | split)

theorem keep.deliver {P : Stage → Prop} {q : List Instr} (s : State) (h : Half) (x : PortFlit) (hs : s.holds P q) : (Sys2Proof.Machine.State.deliver s h x).holds P q := by
  unfold Sys2Proof.Machine.State.deliver
  try dsimp only
  with_reducible repeat' (first | assumption | apply keep.dropFlit | apply keep.giveCredit | apply keep.modHalf | apply keep.memOf | simp only [↓keep.halfMk] | split)

theorem keep.routeFlit {P : Stage → Prop} {q : List Instr} (s : State) (h : Half) (x : PortFlit) (hs : s.holds P q) : (Sys2Proof.Machine.State.routeFlit s h x).holds P q := by
  unfold Sys2Proof.Machine.State.routeFlit
  try dsimp only
  with_reducible repeat' (first | assumption | apply keep.deliver | apply keep.passFlit | apply keep.portSend | apply keep.routeDrop | split)

theorem keep.sourceFlit {P : Stage → Prop} {q : List Instr} (s : State) (h : Half) (b : List Byte) (hs : s.holds P q) : (Sys2Proof.Machine.State.sourceFlit s h b).holds P q := by
  unfold Sys2Proof.Machine.State.sourceFlit
  try dsimp only
  with_reducible repeat' (first | assumption | apply keep.routeFlit)

theorem keep.flitCrossed {P : Stage → Prop} {q : List Instr} (s : State) (h : Half) (x : PortFlit) (out : Option Nat) (hs : s.holds P q) : (Sys2Proof.Machine.State.flitCrossed s h x out).holds P q := by
  unfold Sys2Proof.Machine.State.flitCrossed
  try dsimp only
  with_reducible repeat' (first | assumption | apply keep.deliver | apply keep.dropFlit | apply keep.portSend | apply keep.routeDrop | split)

theorem keep.flitBad {P : Stage → Prop} {q : List Instr} (s : State) (p : Nat) (b : List Byte) (hs : s.holds P q) : (Sys2Proof.Machine.State.flitBad s p b).holds P q := by
  unfold Sys2Proof.Machine.State.flitBad
  try dsimp only
  with_reducible repeat' (first | assumption | apply keep.add | apply keep.send | apply keep.sendIdle | apply keep.wf | split)

theorem keep.flitGood {P : Stage → Prop} {q : List Instr} (s : State) (p : Nat) (b : List Byte) (hs : s.holds P q) : (Sys2Proof.Machine.State.flitGood s p b).holds P q := by
  unfold Sys2Proof.Machine.State.flitGood
  try dsimp only
  with_reducible repeat' (first | assumption | apply keep.add | apply keep.linkAcked | apply keep.routeFlit | apply keep.sendIdle | apply keep.setPort | split)

theorem keep.execFlitReceive {P : Stage → Prop} {q : List Instr} (p : Nat) (b : List Byte) (credits : List Nat) (s : State) (hs : s.holds P q) : outHolds P q (Sys2Proof.Machine.execFlitReceive p b credits s) := by
  unfold Sys2Proof.Machine.execFlitReceive
  try dsimp only
  with_reducible repeat' (first | assumption | apply keep.flitBad | apply keep.flitGood | apply keep.takeCredits | apply keep.whenLive | split | (intro))

theorem keep.execRouteWrite {P : Stage → Prop} {q : List Instr} (h : Half) (i v : Nat) (s : State) (hs : s.holds P q) : outHolds P q (Sys2Proof.Machine.execRouteWrite h i v s) := by
  unfold Sys2Proof.Machine.execRouteWrite
  try dsimp only
  with_reducible repeat' (first | assumption | apply keep.wr | apply keep.whenLive | split | (intro))

theorem keep.modMem {P : Stage → Prop} {q : List Instr} (s : State) (h : Half) (f : MemHalf → MemHalf) (hs : s.holds P q) (h_f : ∀ x, x.canon → (f x).canon) : (Sys2Proof.Machine.State.modMem s h f).holds P q := by
  unfold Sys2Proof.Machine.State.modMem
  try dsimp only
  with_reducible repeat' (first | assumption | apply keep.modHalf | apply h_f | apply keep.memOf | simp only [↓keep.halfMk] | (intro))

theorem keep.setUsed {P : Stage → Prop} {q : List Instr} (s : State) (h : Half) (c tier : Nat) (pool : Bool) (v : Nat) (hs : s.holds P q) : (Sys2Proof.Machine.State.setUsed s h c tier pool v).holds P q := by
  unfold Sys2Proof.Machine.State.setUsed
  try dsimp only
  with_reducible repeat' (first | assumption | apply keep.wf | split)

theorem keep.charge {P : Stage → Prop} {q : List Instr} (s : State) (h : Half) (c tier : Nat) (pool : Bool) (n : Nat) (hs : s.holds P q) : (Sys2Proof.Machine.State.charge s h c tier pool n).holds P q := by
  unfold Sys2Proof.Machine.State.charge
  try dsimp only
  with_reducible repeat' (first | assumption | apply keep.setUsed)

theorem keep.uncharge {P : Stage → Prop} {q : List Instr} (s : State) (h : Half) (c tier : Nat) (pool : Bool) (n : Nat) (hs : s.holds P q) : (Sys2Proof.Machine.State.uncharge s h c tier pool n).holds P q := by
  unfold Sys2Proof.Machine.State.uncharge
  try dsimp only
  with_reducible repeat' (first | assumption | apply keep.setUsed)

theorem keep.release {P : Stage → Prop} {q : List Instr} (s : State) (h : Half) (f : Fill) (hs : s.holds P q) : (Sys2Proof.Machine.State.release s h f).holds P q := by
  unfold Sys2Proof.Machine.State.release
  try dsimp only
  with_reducible repeat' (first | assumption | apply keep.keepWakes | apply keep.modMem | apply keep.t1Of | apply keep.t2Of | (simp only [↓keep.memMk]; refine ⟨?_, ?_⟩) | (intro))

theorem keep.home {P : Stage → Prop} {q : List Instr} (s : State) (h : Half) (i : Nat) (f : Fld) (v : Nat) (hs : s.holds P q) : (Sys2Proof.Machine.State.home s h i f v).holds P q := by
  unfold Sys2Proof.Machine.State.home
  try dsimp only
  with_reducible repeat' (first | assumption | apply keep.wf)

theorem keep.allocEntry {P : Stage → Prop} {q : List Instr} (s : State) (h : Half) (a : AllocReq) (swept : Bool) (hs : s.holds P q) : (Sys2Proof.Machine.State.allocEntry s h a swept).holds P q := by
  unfold Sys2Proof.Machine.State.allocEntry
  try dsimp only
  with_reducible repeat' (first | assumption | apply keep.home | apply keep.foldl | (intro))

theorem keep.memEnd {P : Stage → Prop} {q : List Instr} (s : State) (h : Half) (src : MemSrc) (code : Nat) (handle : Option Nat) (hs : s.holds P q) : (Sys2Proof.Machine.State.memEnd s h src code handle).holds P q := by
  unfold Sys2Proof.Machine.State.memEnd
  try dsimp only
  with_reducible repeat' (first | assumption | apply keep.endNodeD | apply keep.wf | apply keep.wr | split)

theorem keep.evict {P : Stage → Prop} {q : List Instr} (s : State) (h : Half) (i : Nat) (hs : s.holds P q) : (Sys2Proof.Machine.State.evict s h i).holds P q := by
  unfold Sys2Proof.Machine.State.evict
  try dsimp only
  with_reducible repeat' (first | assumption | apply keep.home | apply keep.keepWakes | apply keep.modMem | apply keep.t1Of | apply keep.t2Of | (simp only [↓keep.memMk]; refine ⟨?_, ?_⟩) | (intro))

theorem keep.bindObject {P : Stage → Prop} {q : List Instr} (s : State) (v : Nat) (writer : Bool) (hs : s.holds P q) : (Sys2Proof.Machine.State.bindObject s v writer).holds P q := by
  unfold Sys2Proof.Machine.State.bindObject
  try dsimp only
  with_reducible repeat' (first | assumption | apply keep.add | split)

theorem keep.unbindObject {P : Stage → Prop} {q : List Instr} (s : State) (v : Nat) (writer : Bool) (hs : s.holds P q) : (Sys2Proof.Machine.State.unbindObject s v writer).holds P q := by
  unfold Sys2Proof.Machine.State.unbindObject
  try dsimp only
  with_reducible repeat' (first | assumption | apply keep.modMem | apply keep.release | apply keep.sub | apply keep.wf | apply keep.foldl | apply keep.t1Of | apply keep.t2Of | (simp only [↓keep.memMk]; refine ⟨?_, ?_⟩) | split | (intro))

theorem keep.askBind {P : Stage → Prop} {q : List Instr} (s : State) (r : NodeRef) (n : Node) (hs : s.holds P q) : (Sys2Proof.Machine.State.askBind s r n).holds P q := by
  unfold Sys2Proof.Machine.State.askBind
  try dsimp only
  with_reducible repeat' (first | assumption | apply keep.modNode | apply keep.passControl)

theorem keep.tryBind {P : Stage → Prop} {q : List Instr} (s : State) (r : NodeRef) (next : State → State) (hs : s.holds P q) (h_next : ∀ s, s.holds P q → (next s).holds P q) : (Sys2Proof.Machine.State.tryBind s r next).holds P q := by
  unfold Sys2Proof.Machine.State.tryBind
  try dsimp only
  with_reducible repeat' (first | assumption | apply keep.askBind | apply keep.bindObject | apply keep.endNode | apply keep.logNode | apply keep.modNode | apply h_next | apply keep.foldl | split | (intro))

theorem keep.allocPlaced {P : Stage → Prop} {q : List Instr} (s : State) (h : Half) (a : AllocReq) (zero : Bool) (hs : s.holds P q) : (Sys2Proof.Machine.State.allocPlaced s h a zero).holds P q := by
  unfold Sys2Proof.Machine.State.allocPlaced
  try dsimp only
  with_reducible repeat' (first | assumption | apply keep.allocEntry | apply keep.charge | apply keep.keepWakes | apply keep.memEnd | apply keep.modMem | apply keep.t1Of | apply keep.t2Of | (simp only [↓keep.memMk]; refine ⟨?_, ?_⟩) | split | (intro))

theorem keep.dropBacking {P : Stage → Prop} {q : List Instr} (s : State) (h : Half) (a : AllocReq) (hs : s.holds P q) : (Sys2Proof.Machine.State.dropBacking s h a).holds P q := by
  unfold Sys2Proof.Machine.State.dropBacking
  try dsimp only
  with_reducible repeat' (first | assumption | apply keep.uncharge | split)

theorem keep.allocFail {P : Stage → Prop} {q : List Instr} (s : State) (h : Half) (a : AllocReq) (code : Nat) (hs : s.holds P q) : (Sys2Proof.Machine.State.allocFail s h a code).holds P q := by
  unfold Sys2Proof.Machine.State.allocFail
  try dsimp only
  with_reducible repeat' (first | assumption | apply keep.dropBacking | apply keep.memEnd)

theorem keep.startMove {P : Stage → Prop} {q : List Instr} (s : State) (h : Half) (i tier base : Nat) (src : MemSrc) (other : Option Nat) (hs : s.holds P q) : (Sys2Proof.Machine.State.startMove s h i tier base src other).holds P q := by
  unfold Sys2Proof.Machine.State.startMove
  try dsimp only
  with_reducible repeat' (first | assumption | apply keep.home | apply keep.keepWakes | apply keep.modMem | apply keep.t1Of | apply keep.t2Of | (simp only [↓keep.memMk]; refine ⟨?_, ?_⟩) | (intro))

theorem keep.moveOtherGo {P : Stage → Prop} {q : List Instr} (s : State) (h : Half) (i : Nat) (src : MemSrc) (a : AllocReq) (hs : s.holds P q) : (Sys2Proof.Machine.State.moveOtherGo s h i src a).holds P q := by
  unfold Sys2Proof.Machine.State.moveOtherGo
  try dsimp only
  with_reducible repeat' (first | assumption | apply keep.charge | apply keep.modMem | apply keep.startMove | apply keep.t1Of | apply keep.t2Of | (simp only [↓keep.memMk]; refine ⟨?_, ?_⟩) | (intro))

theorem keep.poolPlaced {P : Stage → Prop} {q : List Instr} (s : State) (h : Half) (a : AllocReq) (base : Nat) (hs : s.holds P q) : (Sys2Proof.Machine.State.poolPlaced s h a base).holds P q := by
  unfold Sys2Proof.Machine.State.poolPlaced
  try dsimp only
  with_reducible repeat' (first | assumption | apply keep.allocPlaced | apply keep.charge | apply keep.moveOtherGo | apply keep.startMove | split)

theorem keep.poolBacked {P : Stage → Prop} {q : List Instr} (s : State) (h : Half) (a : AllocReq) (hs : s.holds P q) : (Sys2Proof.Machine.State.poolBacked s h a).holds P q := by
  unfold Sys2Proof.Machine.State.poolBacked
  try dsimp only
  with_reducible repeat' (first | assumption | apply keep.allocPlaced | apply keep.memEnd | apply keep.moveOtherGo | apply keep.uncharge | split)

theorem keep.poolNoSpace {P : Stage → Prop} {q : List Instr} (s : State) (h : Half) (a : AllocReq) (waited : Bool) (hs : s.holds P q) : (Sys2Proof.Machine.State.poolNoSpace s h a waited).holds P q := by
  unfold Sys2Proof.Machine.State.poolNoSpace
  try dsimp only
  with_reducible repeat' (first | assumption | apply keep.allocFail | apply keep.wf | split)

theorem keep.poolTry {P : Stage → Prop} {q : List Instr} (s : State) (h : Half) (a : AllocReq) (waited : Bool) (hs : s.holds P q) : (Sys2Proof.Machine.State.poolTry s h a waited).1.holds P q := by
  unfold Sys2Proof.Machine.State.poolTry
  try dsimp only
  with_reducible repeat' (first | assumption | apply keep.evict | apply keep.poolBacked | apply keep.poolNoSpace | apply keep.poolPlaced | split)

theorem keep.poolAsk {P : Stage → Prop} {q : List Instr} (s : State) (h : Half) (a : AllocReq) (hs : s.holds P q) : (Sys2Proof.Machine.State.poolAsk s h a).holds P q := by
  unfold Sys2Proof.Machine.State.poolAsk
  try dsimp only
  with_reducible repeat' (first | assumption | apply keep.modMem | apply keep.poolNoSpace | apply keep.poolTry | apply keep.t1Of | apply keep.t2Of | (simp only [↓keep.memMk]; refine ⟨?_, ?_⟩) | split | (intro))

theorem keep.allocCmd {P : Stage → Prop} {q : List Instr} (s : State) (h : Half) (src : MemSrc) (b : List Byte) (hs : s.holds P q) : (Sys2Proof.Machine.State.allocCmd s h src b).holds P q := by
  unfold Sys2Proof.Machine.State.allocCmd
  try dsimp only
  with_reducible repeat' (first | assumption | apply keep.allocPlaced | apply keep.charge | apply keep.memEnd | apply keep.poolAsk | split)

theorem keep.freeEntryRuns {P : Stage → Prop} {q : List Instr} (s : State) (h : Half) (i : Nat) (hs : s.holds P q) : (Sys2Proof.Machine.State.freeEntryRuns s h i).holds P q := by
  unfold Sys2Proof.Machine.State.freeEntryRuns
  try dsimp only
  with_reducible repeat' (first | assumption | apply keep.home | apply keep.release | split)

theorem keep.freeResident {P : Stage → Prop} {q : List Instr} (s : State) (h : Half) (i : Nat) (src : MemSrc) (hs : s.holds P q) : (Sys2Proof.Machine.State.freeResident s h i src).holds P q := by
  unfold Sys2Proof.Machine.State.freeResident
  try dsimp only
  with_reducible repeat' (first | assumption | apply keep.freeEntryRuns | apply keep.memEnd | split)

theorem keep.dropMove {P : Stage → Prop} {q : List Instr} (s : State) (o : Half) (i : Nat) (hs : s.holds P q) : (Sys2Proof.Machine.State.dropMove s o i).holds P q := by
  unfold Sys2Proof.Machine.State.dropMove
  try dsimp only
  with_reducible repeat' (first | assumption | apply keep.modHalf | apply keep.memOf | simp only [↓keep.halfMk])

theorem keep.dropDest {P : Stage → Prop} {q : List Instr} (s : State) (h : Half) (i : Nat) (c : Copy) (hs : s.holds P q) : (Sys2Proof.Machine.State.dropDest s h i c).holds P q := by
  unfold Sys2Proof.Machine.State.dropDest
  try dsimp only
  with_reducible repeat' (first | assumption | apply keep.dropMove | apply keep.modMem | apply keep.release | apply keep.foldl | apply keep.t1Of | apply keep.t2Of | (simp only [↓keep.memMk]; refine ⟨?_, ?_⟩) | split | (intro))

theorem keep.dropCopy {P : Stage → Prop} {q : List Instr} (s : State) (h : Half) (i : Nat) (hs : s.holds P q) : (Sys2Proof.Machine.State.dropCopy s h i).holds P q := by
  unfold Sys2Proof.Machine.State.dropCopy
  try dsimp only
  with_reducible repeat' (first | assumption | apply keep.modMem | apply keep.t1Of | apply keep.t2Of | (simp only [↓keep.memMk]; refine ⟨?_, ?_⟩) | (intro))

theorem keep.freeCmd {P : Stage → Prop} {q : List Instr} (s : State) (h : Half) (src : MemSrc) (b : List Byte) (hs : s.holds P q) : (Sys2Proof.Machine.State.freeCmd s h src b).holds P q := by
  unfold Sys2Proof.Machine.State.freeCmd
  try dsimp only
  with_reducible repeat' (first | assumption | apply keep.dropCopy | apply keep.dropDest | apply keep.freeResident | apply keep.home | apply keep.memEnd | apply keep.modMem | apply keep.t1Of | apply keep.t2Of | (simp only [↓keep.memMk]; refine ⟨?_, ?_⟩) | split | (intro))

theorem keep.moveOtherPut {P : Stage → Prop} {qq : List Instr} (s : State) (h : Half) (i : Nat) (src : MemSrc) (a : AllocReq) (t : Nat) (p : Place)  (hs : s.holds P qq) : (s.moveOtherPut h i src a t p).holds P qq := by
  unfold State.moveOtherPut
  cases p with
  | ok g => exact keep.moveOtherGo _ _ _ _ _ hs
  | error c => exact keep.memEnd _ _ _ _ _ hs

theorem keep.moveOtherTry {P : Stage → Prop} {q : List Instr} (s : State) (h : Half) (i : Nat) (src : MemSrc) (a : AllocReq) (f : Nat) (at' : Option Nat) (hs : s.holds P q) : (Sys2Proof.Machine.State.moveOtherTry s h i src a f at').holds P q := by
  unfold Sys2Proof.Machine.State.moveOtherTry
  try dsimp only
  with_reducible repeat' (first | assumption | apply keep.charge | apply keep.memEnd | apply keep.moveOtherGo | apply keep.moveOtherPut | apply keep.poolAsk | split)

theorem keep.moveOther {P : Stage → Prop} {q : List Instr} (s : State) (h : Half) (i : Nat) (src : MemSrc) (b : List Byte) (hs : s.holds P q) : (Sys2Proof.Machine.State.moveOther s h i src b).holds P q := by
  unfold Sys2Proof.Machine.State.moveOther
  try dsimp only
  with_reducible repeat' (first | assumption | apply keep.memEnd | apply keep.moveOtherTry | split)

theorem keep.moveCmd {P : Stage → Prop} {q : List Instr} (s : State) (h : Half) (src : MemSrc) (b : List Byte) (hs : s.holds P q) : (Sys2Proof.Machine.State.moveCmd s h src b).holds P q := by
  unfold Sys2Proof.Machine.State.moveCmd
  try dsimp only
  with_reducible repeat' (first | assumption | apply keep.charge | apply keep.memEnd | apply keep.modMem | apply keep.moveOther | apply keep.poolAsk | apply keep.startMove | apply keep.stageOf (P := P) q | apply keep.queueOf P | apply keep.regsOf P q | apply keep.westOf P q | apply keep.eastOf P q | apply keep.bootOf P q | apply keep.t1Of | apply keep.t2Of | (simp only [↓keep.memMk]; refine ⟨?_, ?_⟩) | split | (intro))

theorem keep.setSweepCmd {P : Stage → Prop} {q : List Instr} (s : State) (h : Half) (src : MemSrc) (b : List Byte) (hs : s.holds P q) : (Sys2Proof.Machine.State.setSweepCmd s h src b).holds P q := by
  unfold Sys2Proof.Machine.State.setSweepCmd
  try dsimp only
  with_reducible repeat' (first | assumption | apply keep.home | apply keep.memEnd)

theorem keep.memRun {P : Stage → Prop} {q : List Instr} (s : State) (h : Half) (src : MemSrc) (b : List Byte) (hs : s.holds P q) : (Sys2Proof.Machine.State.memRun s h src b).holds P q := by
  unfold Sys2Proof.Machine.State.memRun
  try dsimp only
  with_reducible repeat' (first | assumption | apply keep.allocCmd | apply keep.freeCmd | apply keep.memEnd | apply keep.moveCmd | apply keep.setSweepCmd | split)

theorem keep.recheckGo {P : Stage → Prop} {qq : List Instr} (s : State) (h : Half) (i k : Nat)  (hs : s.holds P qq) : (s.recheckGo h i k).holds P qq := by
  induction k generalizing s with
  | zero => exact hs
  | succ k ih =>
    simp only [State.recheckGo]
    split
    · exact hs
    · exact ih _ (keep.memRun _ _ _ _ (keep.modMem _ _ _ hs (fun _ hx => hx)))

theorem keep.memRecheck {P : Stage → Prop} {q : List Instr} (s : State) (h : Half) (i : Nat) (hs : s.holds P q) : (Sys2Proof.Machine.State.memRecheck s h i).holds P q := by
  unfold Sys2Proof.Machine.State.memRecheck
  try dsimp only
  with_reducible repeat' (first | assumption | apply keep.recheckGo)

theorem keep.memTake {P : Stage → Prop} {q : List Instr} (s : State) (h : Half) (src : MemSrc) (b : List Byte) (hs : s.holds P q) : (Sys2Proof.Machine.State.memTake s h src b).holds P q := by
  unfold Sys2Proof.Machine.State.memTake
  try dsimp only
  with_reducible repeat' (first | assumption | apply keep.memRecheck | apply keep.memRun | split)

theorem keep.memGo {P : Stage → Prop} {q : List Instr} (s : State) (h : Half) (hs : s.holds P q) : (Sys2Proof.Machine.State.memGo s h).holds P q := by
  unfold Sys2Proof.Machine.State.memGo
  try dsimp only
  with_reducible repeat' (first | assumption | apply keep.memTake | apply keep.wf | split)

theorem keep.memOp {P : Stage → Prop} {q : List Instr} (s : State) (h : Half) (op : Nat) (src : MemSrc) (hs : s.holds P q) : (Sys2Proof.Machine.State.memOp s h op src).holds P q := by
  unfold Sys2Proof.Machine.State.memOp
  try dsimp only
  with_reducible repeat' (first | assumption | apply keep.memGo | apply keep.memTake | split)

theorem keep.execAlloc {P : Stage → Prop} {q : List Instr} (h : Half) (s : State) (hs : s.holds P q) : outHolds P q (Sys2Proof.Machine.execAlloc h s) := by
  unfold Sys2Proof.Machine.execAlloc
  try dsimp only
  with_reducible repeat' (first | assumption | apply keep.memOp | apply keep.whenLive | (intro))

theorem keep.execFree {P : Stage → Prop} {q : List Instr} (h : Half) (src : MemSrc) (s : State) (hs : s.holds P q) : outHolds P q (Sys2Proof.Machine.execFree h src s) := by
  unfold Sys2Proof.Machine.execFree
  try dsimp only
  with_reducible repeat' (first | assumption | apply keep.memOp | apply keep.whenLive | (intro))

theorem keep.execMove {P : Stage → Prop} {q : List Instr} (h : Half) (src : MemSrc) (s : State) (hs : s.holds P q) : outHolds P q (Sys2Proof.Machine.execMove h src s) := by
  unfold Sys2Proof.Machine.execMove
  try dsimp only
  with_reducible repeat' (first | assumption | apply keep.memOp | apply keep.whenLive | (intro))

theorem keep.execSetSweep {P : Stage → Prop} {q : List Instr} (h : Half) (src : MemSrc) (s : State) (hs : s.holds P q) : outHolds P q (Sys2Proof.Machine.execSetSweep h src s) := by
  unfold Sys2Proof.Machine.execSetSweep
  try dsimp only
  with_reducible repeat' (first | assumption | apply keep.memOp | apply keep.whenLive | (intro))

theorem keep.fillDone {P : Stage → Prop} {q : List Instr} (s : State) (h : Half) (hs : s.holds P q) : (Sys2Proof.Machine.State.fillDone s h).holds P q := by
  unfold Sys2Proof.Machine.State.fillDone
  try dsimp only
  with_reducible repeat' (first | assumption | apply keep.allocEntry | apply keep.memEnd | apply keep.memZero | apply keep.modMem | apply keep.uncharge | apply keep.t1Of | apply keep.t2Of | (simp only [↓keep.memMk]; refine ⟨?_, ?_⟩) | split | (intro))

theorem keep.execZeroFillDone {P : Stage → Prop} {q : List Instr} (h : Half) (s : State) (hs : s.holds P q) : outHolds P q (Sys2Proof.Machine.execZeroFillDone h s) := by
  unfold Sys2Proof.Machine.execZeroFillDone
  try dsimp only
  with_reducible repeat' (first | assumption | apply keep.fillDone | apply keep.whenLive | (intro))

theorem keep.allocWaited {P : Stage → Prop} {q : List Instr} (s : State) (h : Half) (a : AllocReq) (hs : s.holds P q) : (Sys2Proof.Machine.State.allocWaited s h a).holds P q := by
  unfold Sys2Proof.Machine.State.allocWaited
  try dsimp only
  with_reducible repeat' (first | assumption | apply keep.add)

theorem keep.poolRetry {P : Stage → Prop} {q : List Instr} (s : State) (h : Half) (hs : s.holds P q) : (Sys2Proof.Machine.State.poolRetry s h).holds P q := by
  unfold Sys2Proof.Machine.State.poolRetry
  try dsimp only
  with_reducible repeat' (first | assumption | apply keep.allocWaited | apply keep.dropBacking | apply keep.memRun | apply keep.modMem | apply keep.poolTry | apply keep.t1Of | apply keep.t2Of | (simp only [↓keep.memMk]; refine ⟨?_, ?_⟩) | split | (intro))

theorem keep.execPoolRetry {P : Stage → Prop} {q : List Instr} (h : Half) (s : State) (hs : s.holds P q) : outHolds P q (Sys2Proof.Machine.execPoolRetry h s) := by
  unfold Sys2Proof.Machine.execPoolRetry
  try dsimp only
  with_reducible repeat' (first | assumption | apply keep.poolRetry | apply keep.whenLive | (intro))

theorem keep.allocTimeout {P : Stage → Prop} {q : List Instr} (s : State) (h : Half) (k : Nat) (hs : s.holds P q) : (Sys2Proof.Machine.State.allocTimeout s h k).holds P q := by
  unfold Sys2Proof.Machine.State.allocTimeout
  try dsimp only
  with_reducible repeat' (first | assumption | apply keep.allocWaited | apply keep.modMem | apply keep.poolNoSpace | apply keep.t1Of | apply keep.t2Of | (simp only [↓keep.memMk]; refine ⟨?_, ?_⟩) | split | (intro))

theorem keep.execAllocTimeout {P : Stage → Prop} {q : List Instr} (h : Half) (k : Nat) (s : State) (hs : s.holds P q) : outHolds P q (Sys2Proof.Machine.execAllocTimeout h k s) := by
  unfold Sys2Proof.Machine.execAllocTimeout
  try dsimp only
  with_reducible repeat' (first | assumption | apply keep.allocTimeout | apply keep.whenLive | (intro))

theorem keep.keepOldHome {P : Stage → Prop} {q : List Instr} (s : State) (v tier addr : Nat) (hs : s.holds P q) : (Sys2Proof.Machine.State.keepOldHome s v tier addr).holds P q := by
  unfold Sys2Proof.Machine.State.keepOldHome
  try dsimp only
  with_reducible repeat' (first | assumption | apply keep.stageOf (P := P) q | apply keep.queueOf P | apply keep.regsOf P q | apply keep.westOf P q | apply keep.eastOf P q | apply keep.bootOf P q | (simp only [↓keep.mk]; refine ⟨?_, ?_, ?_, ?_, ?_, ?_⟩))

theorem keep.leaveSource {P : Stage → Prop} {q : List Instr} (s : State) (h : Half) (i : Nat) (v : Nat) (f : Fill) (backing : Bool) (hs : s.holds P q) : (Sys2Proof.Machine.State.leaveSource s h i v f backing).holds P q := by
  unfold Sys2Proof.Machine.State.leaveSource
  try dsimp only
  with_reducible repeat' (first | assumption | apply keep.keepOldHome | apply keep.modMem | apply keep.release | apply keep.t1Of | apply keep.t2Of | (simp only [↓keep.memMk]; refine ⟨?_, ?_⟩) | split | (intro))

theorem keep.copyBytes {P : Stage → Prop} {q : List Instr} (s : State) (h : Half) (i tier base : Nat) (hs : s.holds P q) : (Sys2Proof.Machine.State.copyBytes s h i tier base).holds P q := by
  unfold Sys2Proof.Machine.State.copyBytes
  try dsimp only
  with_reducible repeat' (first | assumption | apply keep.memPut)

theorem keep.copyScan {P : Stage → Prop} {q : List Instr} (s : State) (h : Half) (i : Nat) (chk : Scan) (hs : s.holds P q) : (Sys2Proof.Machine.State.copyScan s h i chk).1.holds P q := by
  unfold Sys2Proof.Machine.State.copyScan
  try dsimp only
  with_reducible repeat' (first | assumption | apply keep.logWord | apply keep.scan | apply keep.foldl | (intro))

theorem keep.evictDone {P : Stage → Prop} {q : List Instr} (s : State) (h : Half) (i : Nat) (chk : Scan) (hs : s.holds P q) : (Sys2Proof.Machine.State.evictDone s h i chk).holds P q := by
  unfold Sys2Proof.Machine.State.evictDone
  try dsimp only
  with_reducible repeat' (first | assumption | apply keep.add | apply keep.copyBytes | apply keep.copyScan | apply keep.dropCopy | apply keep.home | apply keep.log | apply keep.memRecheck | apply keep.release | apply keep.wf | split)

theorem keep.moveCopyStart {P : Stage → Prop} {q : List Instr} (s : State) (h : Half) (i : Nat) (hs : s.holds P q) : (Sys2Proof.Machine.State.moveCopyStart s h i).holds P q := by
  unfold Sys2Proof.Machine.State.moveCopyStart
  try dsimp only
  with_reducible repeat' (first | assumption | apply keep.modMem | apply keep.passMove | apply keep.t1Of | apply keep.t2Of | (simp only [↓keep.memMk]; refine ⟨?_, ?_⟩) | split | (intro))

theorem keep.execMoveCopyStart {P : Stage → Prop} {q : List Instr} (h : Half) (i : Nat) (s : State) (hs : s.holds P q) : outHolds P q (Sys2Proof.Machine.execMoveCopyStart h i s) := by
  unfold Sys2Proof.Machine.execMoveCopyStart
  try dsimp only
  with_reducible repeat' (first | assumption | apply keep.moveCopyStart | apply keep.whenLive | (intro))

theorem keep.moveHere {P : Stage → Prop} {q : List Instr} (s : State) (h : Half) (i : Nat) (c : Copy) (hs : s.holds P q) : (Sys2Proof.Machine.State.moveHere s h i c).holds P q := by
  unfold Sys2Proof.Machine.State.moveHere
  try dsimp only
  with_reducible repeat' (first | assumption | apply keep.add | apply keep.copyBytes | apply keep.home | apply keep.leaveSource | apply keep.memEnd | split)

theorem keep.moveThere {P : Stage → Prop} {q : List Instr} (s : State) (h : Half) (i j : Nat) (c : Copy) (hs : s.holds P q) : (Sys2Proof.Machine.State.moveThere s h i j c).holds P q := by
  unfold Sys2Proof.Machine.State.moveThere
  try dsimp only
  with_reducible repeat' (first | assumption | apply keep.add | apply keep.allocEntry | apply keep.home | apply keep.leaveSource | apply keep.memEnd | apply keep.modMem | apply keep.release | apply keep.t1Of | apply keep.t2Of | (simp only [↓keep.memMk]; refine ⟨?_, ?_⟩) | split | (intro))

theorem keep.moveBad {P : Stage → Prop} {q : List Instr} (s : State) (h : Half) (i : Nat) (c : Copy) (hs : s.holds P q) : (Sys2Proof.Machine.State.moveBad s h i c).holds P q := by
  unfold Sys2Proof.Machine.State.moveBad
  try dsimp only
  with_reducible repeat' (first | assumption | apply keep.dropCopy | apply keep.dropDest | apply keep.home | apply keep.memEnd)

theorem keep.moveCopyDone {P : Stage → Prop} {q : List Instr} (s : State) (h : Half) (i : Nat) (chk : Scan) (hs : s.holds P q) : (Sys2Proof.Machine.State.moveCopyDone s h i chk).holds P q := by
  unfold Sys2Proof.Machine.State.moveCopyDone
  try dsimp only
  with_reducible repeat' (first | assumption | apply keep.copyScan | apply keep.dropCopy | apply keep.memRecheck | apply keep.moveBad | apply keep.moveHere | apply keep.moveThere | split)

theorem keep.checkRead {P : Stage → Prop} {q : List Instr} (s : State) (o : Obj) (off len : Nat) (chk : Scan) (hs : s.holds P q) : (Sys2Proof.Machine.State.checkRead s o off len chk).1.holds P q := by
  unfold Sys2Proof.Machine.State.checkRead
  try dsimp only
  with_reducible repeat' (first | assumption | apply keep.logWord | apply keep.scan | apply keep.foldl | (intro))

theorem keep.unitRead {P : Stage → Prop} {q : List Instr} (s : State) (r : NodeRef) (o : Obj) (off len : Nat) (chk : Scan) (hs : s.holds P q) : (Sys2Proof.Machine.State.unitRead s r o off len chk).1.holds P q := by
  unfold Sys2Proof.Machine.State.unitRead
  try dsimp only
  with_reducible repeat' (first | assumption | apply keep.checkRead | apply keep.markNode | apply keep.stageOf (P := P) q | apply keep.queueOf P | apply keep.regsOf P q | apply keep.westOf P q | apply keep.eastOf P q | apply keep.bootOf P q | (simp only [↓keep.mk]; refine ⟨?_, ?_, ?_, ?_, ?_, ?_⟩) | split)

theorem keep.unitWrite {P : Stage → Prop} {q : List Instr} (s : State) (o : Obj) (off : Nat) (bs : List Byte) (hs : s.holds P q) : (Sys2Proof.Machine.State.unitWrite s o off bs).holds P q := by
  unfold Sys2Proof.Machine.State.unitWrite
  try dsimp only
  with_reducible repeat' (first | assumption | apply keep.objWrite)

theorem keep.badAccess {P : Stage → Prop} {q : List Instr} (s : State) (f off len : Nat) (wr : Bool) (v : Nat) (hs : s.holds P q) : (Sys2Proof.Machine.State.badAccess s f off len wr v).holds P q := by
  unfold Sys2Proof.Machine.State.badAccess
  try dsimp only
  with_reducible repeat' (first | assumption | apply keep.log | apply keep.send | apply keep.wf | apply keep.wr | split)

theorem keep.bar2Read {P : Stage → Prop} {q : List Instr} (s : State) (h : Half) (f off a len : Nat) (chk : Scan) (hs : s.holds P q) : (Sys2Proof.Machine.State.bar2Read s h f off a len chk).holds P q := by
  unfold Sys2Proof.Machine.State.bar2Read
  try dsimp only
  with_reducible repeat' (first | assumption | apply keep.logWord | apply keep.readGive | apply keep.scan | apply keep.foldl | (intro))

theorem keep.bar2Write {P : Stage → Prop} {q : List Instr} (s : State) (h : Half) (a : Nat) (bs : List Byte) (chk : Scan) (hs : s.holds P q) : (Sys2Proof.Machine.State.bar2Write s h a bs chk).holds P q := by
  unfold Sys2Proof.Machine.State.bar2Write
  try dsimp only
  with_reducible repeat' (first | assumption | apply keep.putFinds | apply keep.scanCount)

theorem keep.bar2Here {P : Stage → Prop} {q : List Instr} (s : State) (f off width : Nat) (wr : Option (List Byte)) (chk : Scan) (hs : s.holds P q) : (Sys2Proof.Machine.State.bar2Here s f off width wr chk).holds P q := by
  unfold Sys2Proof.Machine.State.bar2Here
  try dsimp only
  with_reducible repeat' (first | assumption | apply keep.bar2Read | apply keep.bar2Write | apply keep.log | apply keep.modHalf | apply keep.readGive | apply keep.wf | apply keep.memOf | simp only [↓keep.halfMk] | split)

theorem keep.bar2 {P : Stage → Prop} {q : List Instr} (s : State) (f off len : Nat) (wr : Option (List Byte)) (chk : Scan) (hs : s.holds P q) : (Sys2Proof.Machine.State.bar2 s f off len wr chk).holds P q := by
  unfold Sys2Proof.Machine.State.bar2
  try dsimp only
  with_reducible repeat' (first | assumption | apply keep.badAccess | apply keep.bar2Here | apply keep.passControl | split)

theorem keep.execBar2Access {P : Stage → Prop} {q : List Instr} (f off len : Nat) (wr : Option (List Byte)) (chk : Scan) (s : State) (hs : s.holds P q) : outHolds P q (Sys2Proof.Machine.execBar2Access f off len wr chk s) := by
  unfold Sys2Proof.Machine.execBar2Access
  try dsimp only
  with_reducible repeat' (first | assumption | apply keep.bar2 | apply keep.wr | apply keep.whenLive | (intro))

theorem keep.quotaWrite {P : Stage → Prop} {q : List Instr} (s : State) (h : Half) (kind : QuotaKind) (c w : Nat) (hs : s.holds P q) : (Sys2Proof.Machine.State.quotaWrite s h kind c w).holds P q := by
  unfold Sys2Proof.Machine.State.quotaWrite
  try dsimp only
  with_reducible repeat' (first | assumption | apply keep.log | apply keep.wf | apply keep.stageOf (P := P) q | apply keep.queueOf P | apply keep.regsOf P q | apply keep.westOf P q | apply keep.eastOf P q | apply keep.bootOf P q | split)

theorem keep.execQuotaWrite {P : Stage → Prop} {q : List Instr} (h : Half) (kind : QuotaKind) (c w : Nat) (s : State) (hs : s.holds P q) : outHolds P q (Sys2Proof.Machine.execQuotaWrite h kind c w s) := by
  unfold Sys2Proof.Machine.execQuotaWrite
  try dsimp only
  with_reducible repeat' (first | assumption | apply keep.quotaWrite | apply keep.whenLive | split | (intro))

theorem keep.poolCtrlWrite {P : Stage → Prop} {q : List Instr} (s : State) (h : Half) (w : Nat) (hs : s.holds P q) : (Sys2Proof.Machine.State.poolCtrlWrite s h w).holds P q := by
  unfold Sys2Proof.Machine.State.poolCtrlWrite
  try dsimp only
  with_reducible repeat' (first | assumption | apply keep.keepWakes | apply keep.log | apply keep.wf | split)

theorem keep.execPoolCtrlWrite {P : Stage → Prop} {q : List Instr} (h : Half) (w : Nat) (s : State) (hs : s.holds P q) : outHolds P q (Sys2Proof.Machine.execPoolCtrlWrite h w s) := by
  unfold Sys2Proof.Machine.execPoolCtrlWrite
  try dsimp only
  with_reducible repeat' (first | assumption | apply keep.poolCtrlWrite | apply keep.whenLive | (intro))

theorem keep.sweepBurst {P : Stage → Prop} {q : List Instr} (s : State) (h : Half) (chk : Scan) (hs : s.holds P q) : (Sys2Proof.Machine.State.sweepBurst s h chk).holds P q := by
  unfold Sys2Proof.Machine.State.sweepBurst
  try dsimp only
  with_reducible repeat' (first | assumption | apply keep.add | apply keep.logWord | apply keep.need | apply keep.scan | apply keep.wf | apply keep.foldl | split | (intro))

theorem keep.execSweepBurst {P : Stage → Prop} {q : List Instr} (h : Half) (chk : Scan) (s : State) (hs : s.holds P q) : outHolds P q (Sys2Proof.Machine.execSweepBurst h chk s) := by
  unfold Sys2Proof.Machine.execSweepBurst
  try dsimp only
  with_reducible repeat' (first | assumption | apply keep.sweepBurst | apply keep.whenLive | (intro))

theorem keep.execSweepPassEnd {P : Stage → Prop} {q : List Instr} (h : Half) (s : State) (hs : s.holds P q) : outHolds P q (Sys2Proof.Machine.execSweepPassEnd h s) := by
  unfold Sys2Proof.Machine.execSweepPassEnd
  try dsimp only
  with_reducible repeat' (first | assumption | apply keep.add | apply keep.modMem | apply keep.wf | apply keep.whenLive | apply keep.t1Of | apply keep.t2Of | (simp only [↓keep.memMk]; refine ⟨?_, ?_⟩) | split | (intro))

theorem keep.sendFlit {P : Stage → Prop} {q : List Instr} (s : State) (h : Half) (type sub dest dHalf dq sq info : Nat) (payload : List Byte) (hs : s.holds P q) : (Sys2Proof.Machine.State.sendFlit s h type sub dest dHalf dq sq info payload).holds P q := by
  unfold Sys2Proof.Machine.State.sendFlit
  try dsimp only
  with_reducible repeat' (first | assumption | apply keep.sourceFlit)

theorem keep.takeFlit {P : Stage → Prop} {qq : List Instr} (s : State) (h : Half) (type sub : Nat) (b : List Byte)  (hs : s.holds P qq) : ∀ t, s.takeFlit h type sub b = some t → t.holds P qq := by
  intro t ht
  unfold State.takeFlit at ht
  split at ht
  · cases ht; exact keep.modHalf hs _ _ (fun _ hx => hx)
  · cases ht

theorem keep.onFlit {P : Stage → Prop} {qq : List Instr} (s : State) (h : Half) (type sub : Nat) (b : List Byte) (f : State → State) (hf : ∀ s, s.holds P qq → (f s).holds P qq) (hs : s.holds P qq) : (s.onFlit h type sub b f).holds P qq := by
  unfold State.onFlit
  split
  · exact hf _ (keep.takeFlit s h type sub b hs _ ‹_›)
  · exact hs

theorem keep.setSqState {P : Stage → Prop} {qq : List Instr} (s : State) (h : Half) (q v : Nat) (hs : s.holds P qq) : (Sys2Proof.Machine.State.setSqState s h q v).holds P qq := by
  unfold Sys2Proof.Machine.State.setSqState
  try dsimp only
  with_reducible repeat' (first | assumption | apply keep.wf)

theorem keep.sqFlit {P : Stage → Prop} {qq : List Instr} (s : State) (h : Half) (q type sub info : Nat) (payload : List Byte) (hs : s.holds P qq) : (Sys2Proof.Machine.State.sqFlit s h q type sub info payload).holds P qq := by
  unfold Sys2Proof.Machine.State.sqFlit
  try dsimp only
  with_reducible repeat' (first | assumption | apply keep.sendFlit | apply keep.sub)

theorem keep.sqOpen {P : Stage → Prop} {qq : List Instr} (s : State) (h : Half) (q : Nat) (hs : s.holds P qq) : (Sys2Proof.Machine.State.sqOpen s h q).holds P qq := by
  unfold Sys2Proof.Machine.State.sqOpen
  try dsimp only
  with_reducible repeat' (first | assumption | apply keep.sqFlit)

theorem keep.sqConnect {P : Stage → Prop} {qq : List Instr} (s : State) (h : Half) (q : Nat) (hs : s.holds P qq) : (Sys2Proof.Machine.State.sqConnect s h q).holds P qq := by
  unfold Sys2Proof.Machine.State.sqConnect
  try dsimp only
  with_reducible repeat' (first | assumption | apply keep.setSqState | apply keep.sqOpen)

theorem keep.queueBroken {P : Stage → Prop} {qq : List Instr} (s : State) (h : Half) (q : Nat) (hs : s.holds P qq) : (Sys2Proof.Machine.State.queueBroken s h q).holds P qq := by
  unfold Sys2Proof.Machine.State.queueBroken
  try dsimp only
  with_reducible repeat' (first | assumption | apply keep.log | apply keep.wf)

theorem keep.sqBreak {P : Stage → Prop} {qq : List Instr} (s : State) (h : Half) (q : Nat) (hs : s.holds P qq) : (Sys2Proof.Machine.State.sqBreak s h q).holds P qq := by
  unfold Sys2Proof.Machine.State.sqBreak
  try dsimp only
  with_reducible repeat' (first | assumption | apply keep.queueBroken | apply keep.setSqState)

theorem keep.sqBuild {P : Stage → Prop} {qq : List Instr} (s : State) (h : Half) (q : Nat) (bs : List Byte) (hs : s.holds P qq) : (Sys2Proof.Machine.State.sqBuild s h q bs).holds P qq := by
  unfold Sys2Proof.Machine.State.sqBuild
  try dsimp only
  with_reducible repeat' (first | assumption | apply keep.add | apply keep.setSq | apply keep.sqFlit)

theorem keep.sqPush {P : Stage → Prop} {qq : List Instr} (s : State) (h : Half) (q : Nat) (bs : List Byte) (last : Bool) (k : Nat)  (hs : s.holds P qq) : (s.sqPush h q bs last k).1.holds P qq := by
  induction k generalizing s bs with
  | zero => exact hs
  | succ k ih =>
    simp only [State.sqPush]
    generalize (if bs.length ≥ 224 then 224 else if last then bs.length else 0) = n
    split
    · exact ih _ _ (keep.sqBuild _ _ _ _ hs)
    · exact hs

theorem keep.sqCfgWrite {P : Stage → Prop} {qq : List Instr} (s : State) (h : Half) (q v : Nat) (hs : s.holds P qq) : (Sys2Proof.Machine.State.sqCfgWrite s h q v).holds P qq := by
  unfold Sys2Proof.Machine.State.sqCfgWrite
  try dsimp only
  with_reducible repeat' (first | assumption | apply keep.log | apply keep.setSq | apply keep.setSqState | apply keep.sqConnect | apply keep.wf | apply keep.wr | split)

theorem keep.execSqValidWrite {P : Stage → Prop} {qq : List Instr} (h : Half) (q v : Nat) (s : State) (hs : s.holds P qq) : outHolds P qq (Sys2Proof.Machine.execSqValidWrite h q v s) := by
  unfold Sys2Proof.Machine.execSqValidWrite
  try dsimp only
  with_reducible repeat' (first | assumption | apply keep.sqCfgWrite | apply keep.whenLive | split | (intro))

theorem keep.execSqEpochHoldEnd {P : Stage → Prop} {qq : List Instr} (h : Half) (q : Nat) (s : State) (hs : s.holds P qq) : outHolds P qq (Sys2Proof.Machine.execSqEpochHoldEnd h q s) := by
  unfold Sys2Proof.Machine.execSqEpochHoldEnd
  try dsimp only
  with_reducible repeat' (first | assumption | apply keep.setSq | apply keep.sqConnect | apply keep.whenLive | split | (intro))

theorem keep.execOpenResend {P : Stage → Prop} {qq : List Instr} (h : Half) (q : Nat) (s : State) (hs : s.holds P qq) : outHolds P qq (Sys2Proof.Machine.execOpenResend h q s) := by
  unfold Sys2Proof.Machine.execOpenResend
  try dsimp only
  with_reducible repeat' (first | assumption | apply keep.sqOpen | apply keep.whenLive | split | (intro))

theorem keep.execE2eTimeout {P : Stage → Prop} {qq : List Instr} (h : Half) (q : Nat) (s : State) (hs : s.holds P qq) : outHolds P qq (Sys2Proof.Machine.execE2eTimeout h q s) := by
  unfold Sys2Proof.Machine.execE2eTimeout
  try dsimp only
  with_reducible repeat' (first | assumption | apply keep.sqBreak | apply keep.whenLive | split | (intro))

theorem keep.openAck {P : Stage → Prop} {q : List Instr} (s : State) (h : Half) (b : List Byte) (hs : s.holds P q) : (Sys2Proof.Machine.State.openAck s h b).holds P q := by
  unfold Sys2Proof.Machine.State.openAck
  try dsimp only
  with_reducible repeat' (first | assumption | apply keep.setSq | apply keep.setSqState | split)

theorem keep.execOpenAck {P : Stage → Prop} {q : List Instr} (h : Half) (b : List Byte) (s : State) (hs : s.holds P q) : outHolds P q (Sys2Proof.Machine.execOpenAck h b s) := by
  unfold Sys2Proof.Machine.execOpenAck
  try dsimp only
  with_reducible repeat' (first | assumption | apply keep.onFlit | apply keep.openAck | apply keep.whenLive | (intro))

theorem keep.execReject {P : Stage → Prop} {q : List Instr} (h : Half) (b : List Byte) (s : State) (hs : s.holds P q) : outHolds P q (Sys2Proof.Machine.execReject h b s) := by
  unfold Sys2Proof.Machine.execReject
  try dsimp only
  with_reducible repeat' (first | assumption | apply keep.onFlit | apply keep.sqBreak | apply keep.whenLive | split | (intro))

theorem keep.ackIn {P : Stage → Prop} {q : List Instr} (s : State) (h : Half) (b : List Byte) (hs : s.holds P q) : (Sys2Proof.Machine.State.ackIn s h b).holds P q := by
  unfold Sys2Proof.Machine.State.ackIn
  try dsimp only
  with_reducible repeat' (first | assumption | apply keep.add | apply keep.setSq | split)

theorem keep.setRqState {P : Stage → Prop} {qq : List Instr} (s : State) (h : Half) (q v : Nat) (hs : s.holds P qq) : (Sys2Proof.Machine.State.setRqState s h q v).holds P qq := by
  unfold Sys2Proof.Machine.State.setRqState
  try dsimp only
  with_reducible repeat' (first | assumption | apply keep.wf)

theorem keep.answer {P : Stage → Prop} {q : List Instr} (s : State) (h : Half) (b : List Byte) (sub info : Nat) (payload : List Byte) (hs : s.holds P q) : (Sys2Proof.Machine.State.answer s h b sub info payload).holds P q := by
  unfold Sys2Proof.Machine.State.answer
  try dsimp only
  with_reducible repeat' (first | assumption | apply keep.sendFlit | apply keep.sub)

theorem keep.rqAck {P : Stage → Prop} {qq : List Instr} (s : State) (h : Half) (q : Nat) (hs : s.holds P qq) : (Sys2Proof.Machine.State.rqAck s h q).holds P qq := by
  unfold Sys2Proof.Machine.State.rqAck
  try dsimp only
  with_reducible repeat' (first | assumption | apply keep.sendFlit | apply keep.setRq)

theorem keep.showFill {P : Stage → Prop} {qq : List Instr} (s : State) (h : Half) (q : Nat) (hs : s.holds P qq) : (Sys2Proof.Machine.State.showFill s h q).holds P qq := by
  unfold Sys2Proof.Machine.State.showFill
  try dsimp only
  with_reducible repeat' (first | assumption | apply keep.wf)

theorem keep.rqConsume {P : Stage → Prop} {qq : List Instr} (s : State) (h : Half) (q n : Nat) (hs : s.holds P qq) : (Sys2Proof.Machine.State.rqConsume s h q n).holds P qq := by
  unfold Sys2Proof.Machine.State.rqConsume
  try dsimp only
  with_reducible repeat' (first | assumption | apply keep.rqAck | apply keep.setRq | apply keep.showFill | split)

theorem keep.rqLand {P : Stage → Prop} {qq : List Instr} (s : State) (h : Half) (q : Nat) (bs : List Byte) (hs : s.holds P qq) : (Sys2Proof.Machine.State.rqLand s h q bs).holds P qq := by
  unfold Sys2Proof.Machine.State.rqLand
  try dsimp only
  with_reducible repeat' (first | assumption | apply keep.setRq | apply keep.showFill | apply keep.storeBytes)

theorem keep.dataIn {P : Stage → Prop} {q : List Instr} (s : State) (h : Half) (b : List Byte) (hs : s.holds P q) : (Sys2Proof.Machine.State.dataIn s h b).holds P q := by
  unfold Sys2Proof.Machine.State.dataIn
  try dsimp only
  with_reducible repeat' (first | assumption | apply keep.queueBroken | apply keep.rqAck | apply keep.rqLand | apply keep.setRqState | split)

theorem keep.execData {P : Stage → Prop} {q : List Instr} (h : Half) (b : List Byte) (s : State) (hs : s.holds P q) : outHolds P q (Sys2Proof.Machine.execData h b s) := by
  unfold Sys2Proof.Machine.execData
  try dsimp only
  with_reducible repeat' (first | assumption | apply keep.dataIn | apply keep.onFlit | apply keep.whenLive | (intro))

theorem keep.openIn {P : Stage → Prop} {q : List Instr} (s : State) (h : Half) (b : List Byte) (hs : s.holds P q) : (Sys2Proof.Machine.State.openIn s h b).holds P q := by
  unfold Sys2Proof.Machine.State.openIn
  try dsimp only
  with_reducible repeat' (first | assumption | apply keep.answer | apply keep.queueBroken | apply keep.setRqState | apply keep.wf | split)

theorem keep.execE2eOpen {P : Stage → Prop} {q : List Instr} (h : Half) (b : List Byte) (s : State) (hs : s.holds P q) : outHolds P q (Sys2Proof.Machine.execE2eOpen h b s) := by
  unfold Sys2Proof.Machine.execE2eOpen
  try dsimp only
  with_reducible repeat' (first | assumption | apply keep.onFlit | apply keep.openIn | apply keep.whenLive | (intro))

theorem keep.execAckTimer {P : Stage → Prop} {qq : List Instr} (h : Half) (q : Nat) (s : State) (hs : s.holds P qq) : outHolds P qq (Sys2Proof.Machine.execAckTimer h q s) := by
  unfold Sys2Proof.Machine.execAckTimer
  try dsimp only
  with_reducible repeat' (first | assumption | apply keep.rqAck | apply keep.whenLive | split | (intro))

theorem keep.rqCfgWrite {P : Stage → Prop} {qq : List Instr} (s : State) (h : Half) (q v : Nat) (hs : s.holds P qq) : (Sys2Proof.Machine.State.rqCfgWrite s h q v).holds P qq := by
  unfold Sys2Proof.Machine.State.rqCfgWrite
  try dsimp only
  with_reducible repeat' (first | assumption | apply keep.log | apply keep.setRq | apply keep.setRqState | apply keep.showFill | apply keep.wf | apply keep.wr | split)

theorem keep.execRqValidWrite {P : Stage → Prop} {qq : List Instr} (h : Half) (q v : Nat) (s : State) (hs : s.holds P qq) : outHolds P qq (Sys2Proof.Machine.execRqValidWrite h q v s) := by
  unfold Sys2Proof.Machine.execRqValidWrite
  try dsimp only
  with_reducible repeat' (first | assumption | apply keep.rqCfgWrite | apply keep.whenLive | split | (intro))

theorem keep.sqAttach {P : Stage → Prop} {qq : List Instr} (s : State) (h : Half) (q : Nat) (p : Party) (hs : s.holds P qq) : (Sys2Proof.Machine.State.sqAttach s h q p).1.holds P qq := by
  unfold Sys2Proof.Machine.State.sqAttach
  try dsimp only
  with_reducible repeat' (first | assumption | apply keep.setSq | apply keep.wf | split)

theorem keep.sqDetach {P : Stage → Prop} {qq : List Instr} (s : State) (h : Half) (q : Nat) (p : Party) (hs : s.holds P qq) : (Sys2Proof.Machine.State.sqDetach s h q p).holds P qq := by
  unfold Sys2Proof.Machine.State.sqDetach
  try dsimp only
  with_reducible repeat' (first | assumption | apply keep.setSq | apply keep.wf | split)

theorem keep.rqAttach {P : Stage → Prop} {qq : List Instr} (s : State) (h : Half) (q : Nat) (p : Party) (hs : s.holds P qq) : (Sys2Proof.Machine.State.rqAttach s h q p).1.holds P qq := by
  unfold Sys2Proof.Machine.State.rqAttach
  try dsimp only
  with_reducible repeat' (first | assumption | apply keep.setRq | apply keep.wf | split)

theorem keep.rqDetach {P : Stage → Prop} {qq : List Instr} (s : State) (h : Half) (q : Nat) (p : Party) (hs : s.holds P qq) : (Sys2Proof.Machine.State.rqDetach s h q p).holds P qq := by
  unfold Sys2Proof.Machine.State.rqDetach
  try dsimp only
  with_reducible repeat' (first | assumption | apply keep.setRq | apply keep.wf | split)

theorem keep.leaveQueues {P : Stage → Prop} {q : List Instr} (s : State) (h : Half) (p : Party) (hs : s.holds P q) : (Sys2Proof.Machine.State.leaveQueues s h p).holds P q := by
  unfold Sys2Proof.Machine.State.leaveQueues
  try dsimp only
  with_reducible repeat' (first | assumption | apply keep.rqDetach | apply keep.sqDetach | apply keep.foldl | (intro))

theorem keep.modNv {P : Stage → Prop} {q : List Instr} (s : State) (h : Half) (f : NvHalf → NvHalf) (hs : s.holds P q) : (Sys2Proof.Machine.State.modNv s h f).holds P q := by
  unfold Sys2Proof.Machine.State.modNv
  try dsimp only
  with_reducible repeat' (first | assumption | apply keep.modHalf | apply keep.memOf | simp only [↓keep.halfMk])

theorem keep.modPlane {P : Stage → Prop} {q : List Instr} (s : State) (h : Half) (p : Nat) (f : PlaneRec → PlaneRec) (hs : s.holds P q) : (Sys2Proof.Machine.State.modPlane s h p f).holds P q := by
  unfold Sys2Proof.Machine.State.modPlane
  try dsimp only
  with_reducible repeat' (first | assumption | apply keep.modNv)

theorem keep.setPairs {P : Stage → Prop} {q : List Instr} (s : State) (h : Half) (p row : Nat) (v : List (Nat × Nat)) (hs : s.holds P q) : (Sys2Proof.Machine.State.setPairs s h p row v).holds P q := by
  unfold Sys2Proof.Machine.State.setPairs
  try dsimp only
  with_reducible repeat' (first | assumption | apply keep.modNv)

theorem keep.writeRow {P : Stage → Prop} {q : List Instr} (s : State) (h : Half) (p row : Nat) (v : List (Nat × Nat)) (want : List Int) (hs : s.holds P q) : (Sys2Proof.Machine.State.writeRow s h p row v want).holds P q := by
  unfold Sys2Proof.Machine.State.writeRow
  try dsimp only
  with_reducible repeat' (first | assumption | apply keep.modNv | apply keep.setPairs)

theorem keep.driftRow {P : Stage → Prop} {q : List Instr} (s : State) (h : Half) (p row : Nat) (v : List (Nat × Nat)) (hs : s.holds P q) : (Sys2Proof.Machine.State.driftRow s h p row v).holds P q := by
  unfold Sys2Proof.Machine.State.driftRow
  try dsimp only
  with_reducible repeat' (first | assumption | apply keep.writeRow)

theorem keep.cfgPending {P : Stage → Prop} {q : List Instr} (s : State) (h : Half) (seam : Nat) (hs : s.holds P q) : (Sys2Proof.Machine.State.cfgPending s h seam).holds P q := by
  unfold Sys2Proof.Machine.State.cfgPending
  try dsimp only
  with_reducible repeat' (first | assumption | apply keep.modNv | apply keep.wf)

theorem keep.setEn {P : Stage → Prop} {q : List Instr} (s : State) (h : Half) (p : Nat) (v : Bool) (hs : s.holds P q) : (Sys2Proof.Machine.State.setEn s h p v).holds P q := by
  unfold Sys2Proof.Machine.State.setEn
  try dsimp only
  with_reducible repeat' (first | assumption | apply keep.cfgPending | apply keep.wf | split)

theorem keep.setW7 {P : Stage → Prop} {q : List Instr} (s : State) (h : Half) (p : Nat) (v : Bool) (hs : s.holds P q) : (Sys2Proof.Machine.State.setW7 s h p v).holds P q := by
  unfold Sys2Proof.Machine.State.setW7
  try dsimp only
  with_reducible repeat' (first | assumption | apply keep.cfgPending | apply keep.wf | split)

theorem keep.renewAge {P : Stage → Prop} {q : List Instr} (s : State) (h : Half) (p : Nat) (hs : s.holds P q) : (Sys2Proof.Machine.State.renewAge s h p).holds P q := by
  unfold Sys2Proof.Machine.State.renewAge
  try dsimp only
  with_reducible repeat' (first | assumption | apply keep.modPlane)

theorem keep.healthLog {P : Stage → Prop} {q : List Instr} (s : State) (h : Half) (p : Nat) (hs : s.holds P q) : (Sys2Proof.Machine.State.healthLog s h p).holds P q := by
  unfold Sys2Proof.Machine.State.healthLog
  try dsimp only
  with_reducible repeat' (first | assumption | apply keep.log)

theorem keep.queueUrgent {P : Stage → Prop} {q : List Instr} (s : State) (h : Half) (p : Nat) (hs : s.holds P q) : (Sys2Proof.Machine.State.queueUrgent s h p).holds P q := by
  unfold Sys2Proof.Machine.State.queueUrgent
  try dsimp only
  with_reducible repeat' (first | assumption | apply keep.modNv)

theorem keep.enterHealth {P : Stage → Prop} {q : List Instr} (s : State) (h : Half) (p code : Nat) (hs : s.holds P q) : (Sys2Proof.Machine.State.enterHealth s h p code).holds P q := by
  unfold Sys2Proof.Machine.State.enterHealth
  try dsimp only
  with_reducible repeat' (first | assumption | apply keep.healthLog | apply keep.modPlane | apply keep.queueUrgent | apply keep.setEn | apply keep.wf | split)

theorem keep.reprogRequired {P : Stage → Prop} {q : List Instr} (s : State) (h : Half) (p : Nat) (hs : s.holds P q) : (Sys2Proof.Machine.State.reprogRequired s h p).holds P q := by
  unfold Sys2Proof.Machine.State.reprogRequired
  try dsimp only
  with_reducible repeat' (first | assumption | apply keep.enterHealth | split)

theorem keep.chargeMiss {P : Stage → Prop} {q : List Instr} (s : State) (h : Half) (p : Nat) (groups : List Nat) (hs : s.holds P q) : (Sys2Proof.Machine.State.chargeMiss s h p groups).holds P q := by
  unfold Sys2Proof.Machine.State.chargeMiss
  try dsimp only
  with_reducible repeat' (first | assumption | apply keep.addSat | apply keep.enterHealth | apply keep.modPlane | apply keep.wf | split)

theorem keep.cleanWave {P : Stage → Prop} {q : List Instr} (s : State) (h : Half) (p : Nat) (hs : s.holds P q) : (Sys2Proof.Machine.State.cleanWave s h p).holds P q := by
  unfold Sys2Proof.Machine.State.cleanWave
  try dsimp only
  with_reducible repeat' (first | assumption | apply keep.modPlane | split)

theorem keep.peCycle {P : Stage → Prop} {q : List Instr} (s : State) (h : Half) (p : Nat) (hs : s.holds P q) : (Sys2Proof.Machine.State.peCycle s h p).holds P q := by
  unfold Sys2Proof.Machine.State.peCycle
  try dsimp only
  with_reducible repeat' (first | assumption | apply keep.addSat | apply keep.log | split)

theorem keep.rhoRow {P : Stage → Prop} {q : List Instr} (s : State) (h : Half) (p : Nat) (ps : List (Nat × Nat)) (hs : s.holds P q) : (Sys2Proof.Machine.State.rhoRow s h p ps).holds P q := by
  unfold Sys2Proof.Machine.State.rhoRow
  try dsimp only
  with_reducible repeat' (first | assumption | apply keep.modPlane)

theorem keep.rhoErase {P : Stage → Prop} {q : List Instr} (s : State) (h : Half) (p : Nat) (hs : s.holds P q) : (Sys2Proof.Machine.State.rhoErase s h p).holds P q := by
  unfold Sys2Proof.Machine.State.rhoErase
  try dsimp only
  with_reducible repeat' (first | assumption | apply keep.modPlane)

theorem keep.rhoHeld {P : Stage → Prop} {q : List Instr} (s : State) (h : Half) (p col d : Nat) (hs : s.holds P q) : (Sys2Proof.Machine.State.rhoHeld s h p col d).holds P q := by
  unfold Sys2Proof.Machine.State.rhoHeld
  try dsimp only
  with_reducible repeat' (first | assumption | apply keep.modPlane)

theorem keep.stuckPut {P : Stage → Prop} {q : List Instr} (s : State) (h : Half) (i p row col cell kind level : Nat) (wInt wAct : Int) (st : Nat) (hs : s.holds P q) : (Sys2Proof.Machine.State.stuckPut s h i p row col cell kind level wInt wAct st).holds P q := by
  unfold Sys2Proof.Machine.State.stuckPut
  try dsimp only
  with_reducible repeat' (first | assumption | apply keep.wf)

theorem keep.registerPair {P : Stage → Prop} {q : List Instr} (s : State) (h : Half) (p row col cell kind level : Nat) (wInt wAct : Int) (hs : s.holds P q) : (Sys2Proof.Machine.State.registerPair s h p row col cell kind level wInt wAct).1.holds P q := by
  unfold Sys2Proof.Machine.State.registerPair
  try dsimp only
  with_reducible repeat' (first | assumption | apply keep.enterHealth | apply keep.stuckPut | apply keep.stageOf (P := P) q | apply keep.queueOf P | apply keep.regsOf P q | apply keep.westOf P q | apply keep.eastOf P q | apply keep.bootOf P q | split)

theorem keep.stuckHeld {P : Stage → Prop} {q : List Instr} (s : State) (h : Half) (i p col cell level : Nat) (wAct : Int) (hs : s.holds P q) : (Sys2Proof.Machine.State.stuckHeld s h i p col cell level wAct).holds P q := by
  unfold Sys2Proof.Machine.State.stuckHeld
  try dsimp only
  with_reducible repeat' (first | assumption | apply keep.rhoHeld | apply keep.wf | split)

theorem keep.modPort {P : Stage → Prop} {q : List Instr} (s : State) (h : Half) (p : NvPort) (f : NvPortSt → NvPortSt) (hs : s.holds P q) : (Sys2Proof.Machine.State.modPort s h p f).holds P q := by
  unfold Sys2Proof.Machine.State.modPort
  try dsimp only
  with_reducible repeat' (first | assumption | apply keep.modNv | apply keep.setPort | apply keep.wf)

theorem keep.modCmd {P : Stage → Prop} {q : List Instr} (s : State) (h : Half) (p : NvPort) (f : NvCmd → NvCmd) (hs : s.holds P q) : (Sys2Proof.Machine.State.modCmd s h p f).holds P q := by
  unfold Sys2Proof.Machine.State.modCmd
  try dsimp only
  with_reducible repeat' (first | assumption | apply keep.modPort)

theorem keep.nvComplete {P : Stage → Prop} {q : List Instr} (s : State) (h : Half) (p : NvPort) (code result tag : Nat) (words : List Nat) (hs : s.holds P q) : (Sys2Proof.Machine.State.nvComplete s h p code result tag words).holds P q := by
  unfold Sys2Proof.Machine.State.nvComplete
  try dsimp only
  with_reducible repeat' (first | assumption | apply keep.modNv | apply keep.msix | apply keep.wf | split)

theorem keep.tellLoader {P : Stage → Prop} {q : List Instr} (s : State) (h : Half) (p : NvPort) (c : NvCmd) (r : Nat) (hs : s.holds P q) : (Sys2Proof.Machine.State.tellLoader s h p c r).holds P q := by
  unfold Sys2Proof.Machine.State.tellLoader
  try dsimp only
  with_reducible repeat' (first | assumption | apply keep.modHalf | apply keep.memOf | simp only [↓keep.halfMk] | split)

theorem keep.nvFinish {P : Stage → Prop} {q : List Instr} (s : State) (h : Half) (p : NvPort) (result : Nat) (hs : s.holds P q) : (Sys2Proof.Machine.State.nvFinish s h p result).holds P q := by
  unfold Sys2Proof.Machine.State.nvFinish
  try dsimp only
  with_reducible repeat' (first | assumption | apply keep.modCmd)

theorem keep.seqErr {P : Stage → Prop} {q : List Instr} (s : State) (h : Half) (hs : s.holds P q) : (Sys2Proof.Machine.State.seqErr s h).holds P q := by
  unfold Sys2Proof.Machine.State.seqErr
  try dsimp only
  with_reducible repeat' (first | assumption | apply keep.log | apply keep.modPort | apply keep.wf)

end Sys2Proof.Machine
end

