-- ==== Sys2Proof/Laws/KeepStore.lean ====
section
/-! SUPPORT. Every operation keeps the stage, the queue and the canonical stores (State.holds), one lemma for each: part 2 of 4, in the
machine's own order. An operation that changes the stage has its lemma for any stage. -/

namespace Sys2Proof.Machine

theorem keep.showPending {P : Stage → Prop} {q : List Instr} (s : State) (h : Half) (seam : Nat) (hs : s.holds P q) : (Sys2Proof.Machine.State.showPending s h seam).holds P q := by
  unfold Sys2Proof.Machine.State.showPending
  try dsimp only
  with_reducible repeat' (first | assumption | apply keep.wf)

theorem keep.askStep {P : Stage → Prop} {q : List Instr} (s : State) (h : Half) (x : NvStep) (hs : s.holds P q) : (Sys2Proof.Machine.State.askStep s h x).holds P q := by
  unfold Sys2Proof.Machine.State.askStep
  try dsimp only
  with_reducible repeat' (first | assumption | apply keep.modNv | apply keep.need | apply keep.showPending)

theorem keep.askPulse {P : Stage → Prop} {q : List Instr} (s : State) (h : Half) (x : NvStep) (hs : s.holds P q) : (Sys2Proof.Machine.State.askPulse s h x).holds P q := by
  unfold Sys2Proof.Machine.State.askPulse
  try dsimp only
  with_reducible repeat' (first | assumption | apply keep.modNv | apply keep.need)

theorem keep.pulseStart {P : Stage → Prop} {q : List Instr} (s : State) (h : Half) (hs : s.holds P q) : (Sys2Proof.Machine.State.pulseStart s h).holds P q := by
  unfold Sys2Proof.Machine.State.pulseStart
  try dsimp only
  with_reducible repeat' (first | assumption | apply keep.askStep | apply keep.modNv | split)

theorem keep.execPulseStart {P : Stage → Prop} {q : List Instr} (h : Half) (s : State) (hs : s.holds P q) : outHolds P q (Sys2Proof.Machine.execPulseStart h s) := by
  unfold Sys2Proof.Machine.execPulseStart
  try dsimp only
  with_reducible repeat' (first | assumption | apply keep.pulseStart | apply keep.whenLive | (intro))

theorem keep.begunStep {P : Stage → Prop} {qq : List Instr} (s : State) (h : Half) (x : NvStep)  (hs : s.holds P qq) : (s.begunStep h x).2.holds P qq := by
  unfold State.begunStep
  split
  all_goals first | exact keep.fresh hs | exact hs

theorem keep.rowStarts {P : Stage → Prop} {q : List Instr} (s : State) (h : Half) (x : NvStep) (hs : s.holds P q) : (Sys2Proof.Machine.State.rowStarts s h x).holds P q := by
  unfold Sys2Proof.Machine.State.rowStarts
  try dsimp only
  with_reducible repeat' (first | assumption | apply keep.modCmd | split)

theorem keep.stepStart {P : Stage → Prop} {q : List Instr} (s : State) (h : Half) (seam : Nat) (hs : s.holds P q) : (Sys2Proof.Machine.State.stepStart s h seam).holds P q := by
  unfold Sys2Proof.Machine.State.stepStart
  try dsimp only
  with_reducible repeat' (first | assumption | apply keep.begunStep | apply keep.modNv | apply keep.rowStarts | apply keep.showPending | apply keep.wf | split)

theorem keep.execNvStepStart {P : Stage → Prop} {q : List Instr} (h : Half) (seam : Nat) (s : State) (hs : s.holds P q) : outHolds P q (Sys2Proof.Machine.execNvStepStart h seam s) := by
  unfold Sys2Proof.Machine.execNvStepStart
  try dsimp only
  with_reducible repeat' (first | assumption | apply keep.stepStart | apply keep.whenLive | split | (intro))

theorem keep.dropSteps {P : Stage → Prop} {q : List Instr} (s : State) (h : Half) (p : NvStep → Bool) (hs : s.holds P q) : (Sys2Proof.Machine.State.dropSteps s h p).holds P q := by
  unfold Sys2Proof.Machine.State.dropSteps
  try dsimp only
  with_reducible repeat' (first | assumption | apply keep.modNv | apply keep.showPending | apply keep.wf | apply keep.foldl | (intro))

theorem keep.showLedger {P : Stage → Prop} {q : List Instr} (s : State) (h : Half) (hs : s.holds P q) : (Sys2Proof.Machine.State.showLedger s h).holds P q := by
  unfold Sys2Proof.Machine.State.showLedger
  try dsimp only
  with_reducible repeat' (first | assumption | apply keep.wf)

theorem keep.askLedger {P : Stage → Prop} {q : List Instr} (s : State) (h : Half) (type subject value : Nat) (w : LedgerFor) (hs : s.holds P q) : (Sys2Proof.Machine.State.askLedger s h type subject value w).holds P q := by
  unfold Sys2Proof.Machine.State.askLedger
  try dsimp only
  with_reducible repeat' (first | assumption | apply keep.modNv)

theorem keep.ledgerCompact {P : Stage → Prop} {q : List Instr} (s : State) (h : Half) (hs : s.holds P q) : (Sys2Proof.Machine.State.ledgerCompact s h).holds P q := by
  unfold Sys2Proof.Machine.State.ledgerCompact
  try dsimp only
  with_reducible repeat' (first | assumption | apply keep.modNv | apply keep.showLedger | split)

theorem keep.execLedgerCompactDone {P : Stage → Prop} {q : List Instr} (h : Half) (s : State) (hs : s.holds P q) : outHolds P q (Sys2Proof.Machine.execLedgerCompactDone h s) := by
  unfold Sys2Proof.Machine.execLedgerCompactDone
  try dsimp only
  with_reducible repeat' (first | assumption | apply keep.ledgerCompact | apply keep.whenLive | (intro))

theorem keep.ledgerWrite {P : Stage → Prop} {q : List Instr} (s : State) (h : Half) (r : LedgerRec) (hs : s.holds P q) : (Sys2Proof.Machine.State.ledgerWrite s h r).holds P q := by
  unfold Sys2Proof.Machine.State.ledgerWrite
  try dsimp only
  with_reducible repeat' (first | assumption | apply keep.modNv | apply keep.showLedger)

theorem keep.showIncomplete {P : Stage → Prop} {q : List Instr} (s : State) (h : Half) (hs : s.holds P q) : (Sys2Proof.Machine.State.showIncomplete s h).holds P q := by
  unfold Sys2Proof.Machine.State.showIncomplete
  try dsimp only
  with_reducible repeat' (first | assumption | apply keep.wf | apply keep.foldl | split | (intro))

theorem keep.setIncomplete {P : Stage → Prop} {q : List Instr} (s : State) (h : Half) (p : Nat) (v : Bool) (hs : s.holds P q) : (Sys2Proof.Machine.State.setIncomplete s h p v).holds P q := by
  unfold Sys2Proof.Machine.State.setIncomplete
  try dsimp only
  with_reducible repeat' (first | assumption | apply keep.modNv | apply keep.showIncomplete | apply keep.wf)

theorem keep.modRefresh {P : Stage → Prop} {q : List Instr} (s : State) (h : Half) (p : Nat) (f : Refresh → Refresh) (hs : s.holds P q) : (Sys2Proof.Machine.State.modRefresh s h p f).holds P q := by
  unfold Sys2Proof.Machine.State.modRefresh
  try dsimp only
  with_reducible repeat' (first | assumption | apply keep.modNv)

theorem keep.checkCatchup {P : Stage → Prop} {q : List Instr} (s : State) (h : Half) (hs : s.holds P q) : (Sys2Proof.Machine.State.checkCatchup s h).holds P q := by
  unfold Sys2Proof.Machine.State.checkCatchup
  try dsimp only
  with_reducible repeat' (first | assumption | apply keep.wf | split)

theorem keep.schedule {P : Stage → Prop} {qq : List Instr} (s : State) (h : Half) (k : Nat)  (hs : s.holds P qq) : (s.schedule h k).holds P qq := by
  induction k generalizing s with
  | zero => exact hs
  | succ k ih =>
    simp only [State.schedule]
    split
    · exact hs
    · exact ih _ (keep.askStep _ _ _ (keep.modRefresh _ _ _ _ hs))

theorem keep.stopBarred {P : Stage → Prop} {q : List Instr} (s : State) (h : Half) (hs : s.holds P q) : (Sys2Proof.Machine.State.stopBarred s h).holds P q := by
  unfold Sys2Proof.Machine.State.stopBarred
  try dsimp only
  with_reducible repeat' (first | assumption | apply keep.dropSteps | apply keep.modNv | split)

theorem keep.runRefresh {P : Stage → Prop} {q : List Instr} (s : State) (h : Half) (hs : s.holds P q) : (Sys2Proof.Machine.State.runRefresh s h).holds P q := by
  unfold Sys2Proof.Machine.State.runRefresh
  try dsimp only
  with_reducible repeat' (first | assumption | apply keep.checkCatchup | apply keep.schedule | apply keep.stopBarred)

theorem keep.endRefresh {P : Stage → Prop} {q : List Instr} (s : State) (h : Half) (p : Nat) (hs : s.holds P q) : (Sys2Proof.Machine.State.endRefresh s h p).holds P q := by
  unfold Sys2Proof.Machine.State.endRefresh
  try dsimp only
  with_reducible repeat' (first | assumption | apply keep.dropSteps | apply keep.modNv)

theorem keep.partialRow {P : Stage → Prop} {q : List Instr} (s : State) (h : Half) (p row : Nat) (top : List (Nat × Nat)) (hs : s.holds P q) : (Sys2Proof.Machine.State.partialRow s h p row top).holds P q := by
  unfold Sys2Proof.Machine.State.partialRow
  try dsimp only
  with_reducible repeat' (first | assumption | apply keep.writeRow | apply keep.stageOf (P := P) q | apply keep.queueOf P | apply keep.regsOf P q | apply keep.westOf P q | apply keep.eastOf P q | apply keep.bootOf P q | (simp only [↓keep.mk]; refine ⟨?_, ?_, ?_, ?_, ?_, ?_⟩))

theorem keep.markWritten {P : Stage → Prop} {q : List Instr} (s : State) (h : Half) (rows : List RowJob) (hs : s.holds P q) : (Sys2Proof.Machine.State.markWritten s h rows).holds P q := by
  unfold Sys2Proof.Machine.State.markWritten
  try dsimp only
  with_reducible repeat' (first | assumption | apply keep.modPlane | apply keep.foldl | (intro))

theorem keep.feedRow {P : Stage → Prop} {q : List Instr} (s : State) (h : Half) (p : NvPort) (k : Nat) (hs : s.holds P q) : (Sys2Proof.Machine.State.feedRow s h p k).holds P q := by
  unfold Sys2Proof.Machine.State.feedRow
  try dsimp only
  with_reducible repeat' (first | assumption | apply keep.askPulse | apply keep.modCmd | split)

theorem keep.feed {P : Stage → Prop} {q : List Instr} (s : State) (h : Half) (hs : s.holds P q) : (Sys2Proof.Machine.State.feed s h).holds P q := by
  unfold Sys2Proof.Machine.State.feed
  try dsimp only
  with_reducible repeat' (first | assumption | apply keep.feedRow | apply keep.foldl | split | (intro))

theorem keep.tableEnOff {P : Stage → Prop} {q : List Instr} (s : State) (h : Half) (ps : List Nat) (hs : s.holds P q) : (Sys2Proof.Machine.State.tableEnOff s h ps).holds P q := by
  unfold Sys2Proof.Machine.State.tableEnOff
  try dsimp only
  with_reducible repeat' (first | assumption | apply keep.modNv)

theorem keep.partialJob {P : Stage → Prop} {q : List Instr} (s : State) (h : Half) (r : RowJob) (hs : s.holds P q) : (Sys2Proof.Machine.State.partialJob s h r).holds P q := by
  unfold Sys2Proof.Machine.State.partialJob
  try dsimp only
  with_reducible repeat' (first | assumption | apply keep.writeRow | apply keep.stageOf (P := P) q | apply keep.queueOf P | apply keep.regsOf P q | apply keep.westOf P q | apply keep.eastOf P q | apply keep.bootOf P q | (simp only [↓keep.mk]; refine ⟨?_, ?_, ?_, ?_, ?_, ?_⟩))

theorem keep.cutShort {P : Stage → Prop} {q : List Instr} (s : State) (h : Half) (p : NvPort) (c : NvCmd) (hs : s.holds P q) : (Sys2Proof.Machine.State.cutShort s h p c).holds P q := by
  unfold Sys2Proof.Machine.State.cutShort
  try dsimp only
  with_reducible repeat' (first | assumption | apply keep.dropSteps | apply keep.endRefresh | apply keep.markWritten | apply keep.modNv | apply keep.partialJob | apply keep.partialRow | apply keep.setIncomplete | apply keep.tableEnOff | apply keep.foldl | apply keep.stageOf (P := P) q | apply keep.queueOf P | apply keep.regsOf P q | apply keep.westOf P q | apply keep.eastOf P q | apply keep.bootOf P q | (simp only [↓keep.mk]; refine ⟨?_, ?_, ?_, ?_, ?_, ?_⟩) | split | (intro))

theorem keep.nvCut {P : Stage → Prop} {q : List Instr} (s : State) (h : Half) (p : NvPort) (result : Nat) (hs : s.holds P q) : (Sys2Proof.Machine.State.nvCut s h p result).holds P q := by
  unfold Sys2Proof.Machine.State.nvCut
  try dsimp only
  with_reducible repeat' (first | assumption | apply keep.cutShort | apply keep.feed | apply keep.modPort | apply keep.nvComplete | apply keep.runRefresh | apply keep.tellLoader | apply keep.foldl | split | (intro))

theorem keep.logCut {P : Stage → Prop} {q : List Instr} (s : State) (h : Half) (p : NvPort) (c : NvCmd) (hs : s.holds P q) : (Sys2Proof.Machine.State.logCut s h p c).holds P q := by
  unfold Sys2Proof.Machine.State.logCut
  try dsimp only
  with_reducible repeat' (first | assumption | apply keep.log)

theorem keep.seqWrite {P : Stage → Prop} {q : List Instr} (s : State) (h : Half) (isB : Bool) (width v : Nat) (hs : s.holds P q) : (Sys2Proof.Machine.State.seqWrite s h isB width v).holds P q := by
  unfold Sys2Proof.Machine.State.seqWrite
  try dsimp only
  with_reducible repeat' (first | assumption | apply keep.modPort | apply keep.seqErr | split)

theorem keep.execSeqAWrite {P : Stage → Prop} {q : List Instr} (h : Half) (func width v : Nat) (s : State) (hs : s.holds P q) : outHolds P q (Sys2Proof.Machine.execSeqAWrite h func width v s) := by
  unfold Sys2Proof.Machine.execSeqAWrite
  try dsimp only
  with_reducible repeat' (first | assumption | apply keep.seqWrite | apply keep.whenLive | split | (intro))

theorem keep.execSeqBWrite {P : Stage → Prop} {q : List Instr} (h : Half) (func width v : Nat) (s : State) (hs : s.holds P q) : outHolds P q (Sys2Proof.Machine.execSeqBWrite h func width v s) := by
  unfold Sys2Proof.Machine.execSeqBWrite
  try dsimp only
  with_reducible repeat' (first | assumption | apply keep.seqWrite | apply keep.whenLive | split | (intro))

theorem keep.seqOther {P : Stage → Prop} {q : List Instr} (s : State) (h : Half) (hs : s.holds P q) : (Sys2Proof.Machine.State.seqOther s h).holds P q := by
  unfold Sys2Proof.Machine.State.seqOther
  try dsimp only
  with_reducible repeat' (first | assumption | apply keep.seqErr | split)

theorem keep.seqTimeout {P : Stage → Prop} {q : List Instr} (s : State) (h : Half) (hs : s.holds P q) : (Sys2Proof.Machine.State.seqTimeout s h).holds P q := by
  unfold Sys2Proof.Machine.State.seqTimeout
  try dsimp only
  with_reducible repeat' (first | assumption | apply keep.log | apply keep.modPort | apply keep.nvComplete | split)

theorem keep.execSeqTimeout {P : Stage → Prop} {q : List Instr} (h : Half) (s : State) (hs : s.holds P q) : outHolds P q (Sys2Proof.Machine.execSeqTimeout h s) := by
  unfold Sys2Proof.Machine.execSeqTimeout
  try dsimp only
  with_reducible repeat' (first | assumption | apply keep.seqTimeout | apply keep.whenLive | (intro))

theorem keep.eraseBegin {P : Stage → Prop} {qq : List Instr} (s : State) (h : Half) (p : NvPort) (q : Nat) (hs : s.holds P qq) : (Sys2Proof.Machine.State.eraseBegin s h p q).holds P qq := by
  unfold Sys2Proof.Machine.State.eraseBegin
  try dsimp only
  with_reducible repeat' (first | assumption | apply keep.modCmd | apply keep.setEn)

theorem keep.progress {P : Stage → Prop} {q : List Instr} (s : State) (h : Half) (p : NvPort) (done total : Nat) (hs : s.holds P q) : (Sys2Proof.Machine.State.progress s h p done total).holds P q := by
  unfold Sys2Proof.Machine.State.progress
  try dsimp only
  with_reducible repeat' (first | assumption | apply keep.wf | split)

theorem keep.putCmd {P : Stage → Prop} {q : List Instr} (s : State) (h : Half) (p : NvPort) (c : NvCmd) (total : Nat) (hs : s.holds P q) : (Sys2Proof.Machine.State.putCmd s h p c total).holds P q := by
  unfold Sys2Proof.Machine.State.putCmd
  try dsimp only
  with_reducible repeat' (first | assumption | apply keep.modPort | apply keep.progress)

theorem keep.askRefresh {P : Stage → Prop} {qq : List Instr} (s : State) (h : Half) (q : Nat) (urgent : Bool) (hs : s.holds P qq) : (Sys2Proof.Machine.State.askRefresh s h q urgent).holds P qq := by
  unfold Sys2Proof.Machine.State.askRefresh
  try dsimp only
  with_reducible repeat' (first | assumption | apply keep.endRefresh | apply keep.modNv | apply keep.runRefresh)

theorem keep.flushReads {P : Stage → Prop} {q : List Instr} (s : State) (h : Half) (hs : s.holds P q) : (Sys2Proof.Machine.State.flushReads s h).holds P q := by
  unfold Sys2Proof.Machine.State.flushReads
  try dsimp only
  with_reducible repeat' (first | assumption | apply keep.modNv | apply keep.readGive | apply keep.foldl | (intro))

theorem keep.endCont {P : Stage → Prop} {q : List Instr} (s : State) (h : Half) (p : NvPort) (hs : s.holds P q) : (Sys2Proof.Machine.State.endCont s h p).holds P q := by
  unfold Sys2Proof.Machine.State.endCont
  try dsimp only
  with_reducible repeat' (first | assumption | apply keep.flushReads | apply keep.modPort | split)

theorem keep.resetCmd {P : Stage → Prop} {q : List Instr} (s : State) (h : Half) (p : NvPort) (tag : Nat) (hs : s.holds P q) : (Sys2Proof.Machine.State.resetCmd s h p tag).holds P q := by
  unfold Sys2Proof.Machine.State.resetCmd
  try dsimp only
  with_reducible repeat' (first | assumption | apply keep.dropSteps | apply keep.endCont | apply keep.modCmd | apply keep.modPort | apply keep.nvComplete | apply keep.nvCut | apply keep.tellLoader | split)

theorem keep.nvStart {P : Stage → Prop} {q : List Instr} (s : State) (h : Half) (p : NvPort) (code : Nat) (b : List Nat) (rs : List RowRec) (hs : s.holds P q) : (Sys2Proof.Machine.State.nvStart s h p code b rs).holds P q := by
  unfold Sys2Proof.Machine.State.nvStart
  try dsimp only
  with_reducible repeat' (first | assumption | apply keep.askLedger | apply keep.askRefresh | apply keep.askStep | apply keep.endCont | apply keep.endRefresh | apply keep.eraseBegin | apply keep.modPort | apply keep.nvComplete | apply keep.putCmd | apply keep.resetCmd | apply keep.runRefresh | apply keep.setEn | apply keep.foldl | split | (intro))

theorem keep.nvReject {P : Stage → Prop} {q : List Instr} (s : State) (h : Half) (p : NvPort) (code result tag : Nat) (hs : s.holds P q) : (Sys2Proof.Machine.State.nvReject s h p code result tag).holds P q := by
  unfold Sys2Proof.Machine.State.nvReject
  try dsimp only
  with_reducible repeat' (first | assumption | apply keep.nvComplete | apply keep.putCmd | split)

theorem keep.nvRun {P : Stage → Prop} {q : List Instr} (s : State) (h : Half) (p : NvPort) (enc : Bool) (code launch : Nat) (b : List Nat) (recs : List Byte) (hs : s.holds P q) : (Sys2Proof.Machine.State.nvRun s h p enc code launch b recs).holds P q := by
  unfold Sys2Proof.Machine.State.nvRun
  try dsimp only
  with_reducible repeat' (first | assumption | apply keep.nvReject | apply keep.nvStart | apply keep.wf | split)

theorem keep.launchWrite {P : Stage → Prop} {q : List Instr} (s : State) (h : Half) (v : Nat) (hs : s.holds P q) : (Sys2Proof.Machine.State.launchWrite s h v).holds P q := by
  unfold Sys2Proof.Machine.State.launchWrite
  try dsimp only
  with_reducible repeat' (first | assumption | apply keep.modPort | apply keep.nvRun | apply keep.seqErr | split)

theorem keep.hostLaunch {P : Stage → Prop} {q : List Instr} (s : State) (h : Half) (p : NvPort) (code : Nat) (hs : s.holds P q) : (Sys2Proof.Machine.State.hostLaunch s h p code).holds P q := by
  unfold Sys2Proof.Machine.State.hostLaunch
  try dsimp only
  with_reducible repeat' (first | assumption | apply keep.launchWrite | split)

theorem keep.otpDone {P : Stage → Prop} {q : List Instr} (s : State) (h : Half) (c : NvCmd) (hs : s.holds P q) : (Sys2Proof.Machine.State.otpDone s h c).holds P q := by
  unfold Sys2Proof.Machine.State.otpDone
  try dsimp only
  with_reducible repeat' (first | assumption | apply keep.modNv)

theorem keep.nvEnd {P : Stage → Prop} {q : List Instr} (s : State) (h : Half) (p : NvPort) (hs : s.holds P q) : (Sys2Proof.Machine.State.nvEnd s h p).1.holds P q := by
  unfold Sys2Proof.Machine.State.nvEnd
  try dsimp only
  with_reducible repeat' (first | assumption | apply keep.modPort | apply keep.nvComplete | apply keep.otpDone | split)

theorem keep.unlockFailed {P : Stage → Prop} {q : List Instr} (s : State) (h : Half) (hs : s.holds P q) : (Sys2Proof.Machine.State.unlockFailed s h).holds P q := by
  unfold Sys2Proof.Machine.State.unlockFailed
  try dsimp only
  with_reducible repeat' (first | assumption | apply keep.addSat | apply keep.modNv | apply keep.nvFinish | split)

theorem keep.execUnlockFailDelayEnd {P : Stage → Prop} {q : List Instr} (h : Half) (s : State) (hs : s.holds P q) : outHolds P q (Sys2Proof.Machine.execUnlockFailDelayEnd h s) := by
  unfold Sys2Proof.Machine.execUnlockFailDelayEnd
  try dsimp only
  with_reducible repeat' (first | assumption | apply keep.unlockFailed | apply keep.whenLive | (intro))

theorem keep.interimWake {P : Stage → Prop} {q : List Instr} (s : State) (h : Half) (hs : s.holds P q) : (Sys2Proof.Machine.State.interimWake s h).holds P q := by
  unfold Sys2Proof.Machine.State.interimWake
  try dsimp only
  with_reducible repeat' (first | assumption | apply keep.keepWakes)

theorem keep.rowEntries {P : Stage → Prop} {q : List Instr} (s : State) (h : Half) (r : RowJob) (hs : s.holds P q) : (Sys2Proof.Machine.State.rowEntries s h r).holds P q := by
  unfold Sys2Proof.Machine.State.rowEntries
  try dsimp only
  with_reducible repeat' (first | assumption | apply keep.interimWake | apply keep.wf | apply keep.foldl | (intro))

theorem keep.fullPlanes {P : Stage → Prop} {q : List Instr} (s : State) (h : Half) (c : NvCmd) (hs : s.holds P q) : (Sys2Proof.Machine.State.fullPlanes s h c).holds P q := by
  unfold Sys2Proof.Machine.State.fullPlanes
  try dsimp only
  with_reducible repeat' (first | assumption | apply keep.renewAge | apply keep.foldl | split | (intro))

theorem keep.buildRow {P : Stage → Prop} {q : List Instr} (s : State) (h : Half) (p : NvPort) (r : RowJob) (hs : s.holds P q) : (Sys2Proof.Machine.State.buildRow s h p r).holds P q := by
  unfold Sys2Proof.Machine.State.buildRow
  try dsimp only
  with_reducible repeat' (first | assumption | apply keep.modHalf | apply keep.memOf | simp only [↓keep.halfMk] | split)

theorem keep.rowDone {P : Stage → Prop} {q : List Instr} (s : State) (h : Half) (p : NvPort) (k us : Nat) (hs : s.holds P q) : (Sys2Proof.Machine.State.rowDone s h p k us).holds P q := by
  unfold Sys2Proof.Machine.State.rowDone
  try dsimp only
  with_reducible repeat' (first | assumption | apply keep.buildRow | apply keep.feed | apply keep.fullPlanes | apply keep.modCmd | apply keep.nvFinish | apply keep.progress | apply keep.rhoRow | apply keep.rowEntries | split)

theorem keep.execProgramRowDone {P : Stage → Prop} {q : List Instr} (h : Half) (p : NvPort) (k us : Nat) (s : State) (hs : s.holds P q) : outHolds P q (Sys2Proof.Machine.execProgramRowDone h p k us s) := by
  unfold Sys2Proof.Machine.execProgramRowDone
  try dsimp only
  with_reducible repeat' (first | assumption | apply keep.rowDone | apply keep.whenLive | (intro))

theorem keep.registerCells {P : Stage → Prop} {qq : List Instr} (s : State) (h : Half) (q row : Nat) (target : List (Nat × Nat)) (want : Nat → Int) (cs : List CellAt) (hs : s.holds P qq) : (Sys2Proof.Machine.State.registerCells s h q row target want cs).1.holds P qq := by
  unfold Sys2Proof.Machine.State.registerCells
  try dsimp only
  with_reducible repeat' (first | assumption | apply keep.registerPair | apply keep.foldlp | split | (intro))

theorem keep.pulseLimit {P : Stage → Prop} {q : List Instr} (s : State) (h : Half) (p : NvPort) (k : Nat) (cells : List CellAt) (hs : s.holds P q) : (Sys2Proof.Machine.State.pulseLimit s h p k cells).holds P q := by
  unfold Sys2Proof.Machine.State.pulseLimit
  try dsimp only
  with_reducible repeat' (first | assumption | apply keep.dropSteps | apply keep.interimWake | apply keep.modCmd | apply keep.registerCells | apply keep.writeRow | split)

theorem keep.execPulseLimitExpire {P : Stage → Prop} {q : List Instr} (h : Half) (p : NvPort) (k : Nat) (cells : List CellAt) (s : State) (hs : s.holds P q) : outHolds P q (Sys2Proof.Machine.execPulseLimitExpire h p k cells s) := by
  unfold Sys2Proof.Machine.execPulseLimitExpire
  try dsimp only
  with_reducible repeat' (first | assumption | apply keep.pulseLimit | apply keep.whenLive | (intro))

theorem keep.eraseApply {P : Stage → Prop} {qq : List Instr} (s : State) (h : Half) (p : NvPort) (q : Nat) (cells : List (Nat × CellAt)) (hs : s.holds P qq) : (Sys2Proof.Machine.State.eraseApply s h p q cells).holds P qq := by
  unfold Sys2Proof.Machine.State.eraseApply
  try dsimp only
  with_reducible repeat' (first | assumption | apply keep.askLedger | apply keep.enterHealth | apply keep.modCmd | apply keep.modNv | apply keep.modPlane | apply keep.registerCells | apply keep.renewAge | apply keep.rhoErase | apply keep.wf | apply keep.writeRow | apply keep.foldl | apply keep.foldlp | split | (intro))

theorem keep.eraseLimit {P : Stage → Prop} {q : List Instr} (s : State) (h : Half) (p : NvPort) (cells : List (Nat × CellAt)) (hs : s.holds P q) : (Sys2Proof.Machine.State.eraseLimit s h p cells).holds P q := by
  unfold Sys2Proof.Machine.State.eraseLimit
  try dsimp only
  with_reducible repeat' (first | assumption | apply keep.dropSteps | apply keep.eraseApply | split)

theorem keep.execEraseTimeLimit {P : Stage → Prop} {q : List Instr} (h : Half) (p : NvPort) (cells : List (Nat × CellAt)) (s : State) (hs : s.holds P q) : outHolds P q (Sys2Proof.Machine.execEraseTimeLimit h p cells s) := by
  unfold Sys2Proof.Machine.execEraseTimeLimit
  try dsimp only
  with_reducible repeat' (first | assumption | apply keep.eraseLimit | apply keep.whenLive | (intro))

theorem keep.protDone {P : Stage → Prop} {q : List Instr} (s : State) (h : Half) (p : NvPort) (g mode : Nat) (hs : s.holds P q) : (Sys2Proof.Machine.State.protDone s h p g mode).holds P q := by
  unfold Sys2Proof.Machine.State.protDone
  try dsimp only
  with_reducible repeat' (first | assumption | apply keep.askLedger | apply keep.modCmd)

theorem keep.protApply {P : Stage → Prop} {q : List Instr} (s : State) (h : Half) (c : NvCmd) (hs : s.holds P q) : (Sys2Proof.Machine.State.protApply s h c).holds P q := by
  unfold Sys2Proof.Machine.State.protApply
  try dsimp only
  with_reducible repeat' (first | assumption | apply keep.modNv | apply keep.wf | split)

theorem keep.ledgerStep {P : Stage → Prop} {q : List Instr} (s : State) (h : Half) (p : NvPort) (r : LedgerRec) (hs : s.holds P q) : (Sys2Proof.Machine.State.ledgerStep s h p r).holds P q := by
  unfold Sys2Proof.Machine.State.ledgerStep
  try dsimp only
  with_reducible repeat' (first | assumption | apply keep.askPulse | apply keep.eraseBegin | apply keep.fresh | apply keep.modCmd | apply keep.nvFinish | apply keep.peCycle | apply keep.progress | apply keep.protApply | apply keep.protDone | apply keep.setIncomplete | split)

theorem keep.outCells {P : Stage → Prop} {qq : List Instr} (s : State) (h : Half) (q row : Nat) (cs : List CellAt) (hs : s.holds P qq) : (Sys2Proof.Machine.State.outCells s h q row cs).1.holds P qq := by
  unfold Sys2Proof.Machine.State.outCells
  try dsimp only
  with_reducible repeat' (first | assumption | apply keep.driftRow | apply keep.stuckHeld | apply keep.foldlp | apply keep.stageOf (P := P) qq | apply keep.queueOf P | apply keep.regsOf P qq | apply keep.westOf P qq | apply keep.eastOf P qq | apply keep.bootOf P qq | split | (intro))

theorem keep.marginRow {P : Stage → Prop} {qq : List Instr} (s : State) (h : Half) (q row : Nat) (m : MarginRow) (hs : s.holds P qq) : (Sys2Proof.Machine.State.marginRow s h q row m).1.holds P qq := by
  unfold Sys2Proof.Machine.State.marginRow
  try dsimp only
  with_reducible repeat' (first | assumption | apply keep.addSat | apply keep.interimWake | apply keep.outCells | apply keep.reprogRequired | split)

theorem keep.marginEnd {P : Stage → Prop} {qq : List Instr} (s : State) (h : Half) (p : NvPort) (c : NvCmd) (q : Nat) (hs : s.holds P qq) : (Sys2Proof.Machine.State.marginEnd s h p c q).holds P qq := by
  unfold Sys2Proof.Machine.State.marginEnd
  try dsimp only
  with_reducible repeat' (first | assumption | apply keep.checkCatchup | apply keep.modCmd | apply keep.nvFinish | apply keep.queueUrgent | apply keep.renewAge | apply keep.runRefresh | split)

theorem keep.marginStep {P : Stage → Prop} {q : List Instr} (s : State) (h : Half) (p : NvPort) (x : NvStep) (m : MarginRow) (hs : s.holds P q) : (Sys2Proof.Machine.State.marginStep s h p x m).holds P q := by
  unfold Sys2Proof.Machine.State.marginStep
  try dsimp only
  with_reducible repeat' (first | assumption | apply keep.askStep | apply keep.marginEnd | apply keep.marginRow | apply keep.modCmd | apply keep.progress | split)

theorem keep.refreshNext {P : Stage → Prop} {qq : List Instr} (s : State) (h : Half) (q : Nat) (hs : s.holds P qq) : (Sys2Proof.Machine.State.refreshNext s h q).holds P qq := by
  unfold Sys2Proof.Machine.State.refreshNext
  try dsimp only
  with_reducible repeat' (first | assumption | apply keep.askStep | apply keep.modRefresh | apply keep.runRefresh | split)

theorem keep.refreshMargin {P : Stage → Prop} {qq : List Instr} (s : State) (h : Half) (q row : Nat) (m : MarginRow) (hs : s.holds P qq) : (Sys2Proof.Machine.State.refreshMargin s h q row m).holds P qq := by
  unfold Sys2Proof.Machine.State.refreshMargin
  try dsimp only
  with_reducible repeat' (first | assumption | apply keep.askPulse | apply keep.marginRow | apply keep.modRefresh | apply keep.refreshNext | split)

theorem keep.registerLow {P : Stage → Prop} {qq : List Instr} (s : State) (h : Half) (q row : Nat) (cs : List CellAt) (hs : s.holds P qq) : (Sys2Proof.Machine.State.registerLow s h q row cs).holds P qq := by
  unfold Sys2Proof.Machine.State.registerLow
  try dsimp only
  with_reducible repeat' (first | assumption | apply keep.registerPair | apply keep.stuckHeld | apply keep.foldl | split | (intro))

theorem keep.refreshPulse {P : Stage → Prop} {qq : List Instr} (s : State) (h : Half) (q row : Nat) (left : List CellAt) (hs : s.holds P qq) : (Sys2Proof.Machine.State.refreshPulse s h q row left).holds P qq := by
  unfold Sys2Proof.Machine.State.refreshPulse
  try dsimp only
  with_reducible repeat' (first | assumption | apply keep.askPulse | apply keep.interimWake | apply keep.modRefresh | apply keep.refreshNext | apply keep.registerLow | apply keep.runRefresh | split)

theorem keep.refreshDone {P : Stage → Prop} {qq : List Instr} (s : State) (h : Half) (q : Nat) (hs : s.holds P qq) : (Sys2Proof.Machine.State.refreshDone s h q).holds P qq := by
  unfold Sys2Proof.Machine.State.refreshDone
  try dsimp only
  with_reducible repeat' (first | assumption | apply keep.enterHealth | apply keep.modCmd | apply keep.modNv | apply keep.nvFinish | apply keep.progress | apply keep.renewAge | apply keep.runRefresh | split)

theorem keep.execRefreshComplete {P : Stage → Prop} {qq : List Instr} (h : Half) (q : Nat) (s : State) (hs : s.holds P qq) : outHolds P qq (Sys2Proof.Machine.execRefreshComplete h q s) := by
  unfold Sys2Proof.Machine.execRefreshComplete
  try dsimp only
  with_reducible repeat' (first | assumption | apply keep.refreshDone | apply keep.whenLive | (intro))

theorem keep.queueDue {P : Stage → Prop} {q : List Instr} (s : State) (h : Half) (hs : s.holds P q) : (Sys2Proof.Machine.State.queueDue s h).holds P q := by
  unfold Sys2Proof.Machine.State.queueDue
  try dsimp only
  with_reducible repeat' (first | assumption | apply keep.modNv)

theorem keep.refreshDue {P : Stage → Prop} {qq : List Instr} (s : State) (h : Half) (q : Nat) (hs : s.holds P qq) : (Sys2Proof.Machine.State.refreshDue s h q).holds P qq := by
  unfold Sys2Proof.Machine.State.refreshDue
  try dsimp only
  with_reducible repeat' (first | assumption | apply keep.queueDue | apply keep.runRefresh | split)

theorem keep.execRefreshDue {P : Stage → Prop} {qq : List Instr} (h : Half) (q : Nat) (s : State) (hs : s.holds P qq) : outHolds P qq (Sys2Proof.Machine.execRefreshDue h q s) := by
  unfold Sys2Proof.Machine.execRefreshDue
  try dsimp only
  with_reducible repeat' (first | assumption | apply keep.refreshDue | apply keep.whenLive | split | (intro))

theorem keep.cmdStep {P : Stage → Prop} {q : List Instr} (s : State) (h : Half) (p : NvPort) (x : NvStep) (res : StepResult) (hs : s.holds P q) : (Sys2Proof.Machine.State.cmdStep s h p x res).holds P q := by
  unfold Sys2Proof.Machine.State.cmdStep
  try dsimp only
  with_reducible repeat' (first | assumption | apply keep.askPulse | apply keep.askStep | apply keep.eraseApply | apply keep.marginStep | apply keep.modCmd | apply keep.writeRow | split)

theorem keep.refreshStep {P : Stage → Prop} {q : List Instr} (s : State) (h : Half) (x : NvStep) (res : StepResult) (hs : s.holds P q) : (Sys2Proof.Machine.State.refreshStep s h x res).holds P q := by
  unfold Sys2Proof.Machine.State.refreshStep
  try dsimp only
  with_reducible repeat' (first | assumption | apply keep.refreshMargin | apply keep.refreshPulse | split)

theorem keep.abortDue {P : Stage → Prop} {q : List Instr} (s : State) (h : Half) (p : NvPort) (hs : s.holds P q) : (Sys2Proof.Machine.State.abortDue s h p).holds P q := by
  unfold Sys2Proof.Machine.State.abortDue
  try dsimp only
  with_reducible repeat' (first | assumption | apply keep.nvComplete | apply keep.nvCut | split)

theorem keep.stepEnd {P : Stage → Prop} {q : List Instr} (s : State) (h : Half) (seam : Nat) (res : StepResult) (hs : s.holds P q) : (Sys2Proof.Machine.State.stepEnd s h seam res).holds P q := by
  unfold Sys2Proof.Machine.State.stepEnd
  try dsimp only
  with_reducible repeat' (first | assumption | apply keep.abortDue | apply keep.cmdStep | apply keep.modNv | apply keep.refreshStep | apply keep.wf | split)

theorem keep.execNvStepEnd {P : Stage → Prop} {q : List Instr} (h : Half) (seam : Nat) (res : StepResult) (s : State) (hs : s.holds P q) : outHolds P q (Sys2Proof.Machine.execNvStepEnd h seam res s) := by
  unfold Sys2Proof.Machine.execNvStepEnd
  try dsimp only
  with_reducible repeat' (first | assumption | apply keep.stepEnd | apply keep.whenPowered | (intro))

theorem keep.afterCommit {P : Stage → Prop} {q : List Instr} (s : State) (h : Half) (p : NvPort) (hs : s.holds P q) : (Sys2Proof.Machine.State.afterCommit s h p).holds P q := by
  unfold Sys2Proof.Machine.State.afterCommit
  try dsimp only
  with_reducible repeat' (first | assumption | apply keep.askLedger | apply keep.endRefresh | apply keep.feed | apply keep.markWritten | apply keep.modCmd | apply keep.runRefresh | split)

theorem keep.tableCommit {P : Stage → Prop} {q : List Instr} (s : State) (h : Half) (hs : s.holds P q) : (Sys2Proof.Machine.State.tableCommit s h).holds P q := by
  unfold Sys2Proof.Machine.State.tableCommit
  try dsimp only
  with_reducible repeat' (first | assumption | apply keep.afterCommit | apply keep.modNv | apply keep.wf | apply keep.foldl | (intro))

theorem keep.execPlaneTableCommit {P : Stage → Prop} {q : List Instr} (h : Half) (s : State) (hs : s.holds P q) : outHolds P q (Sys2Proof.Machine.execPlaneTableCommit h s) := by
  unfold Sys2Proof.Machine.execPlaneTableCommit
  try dsimp only
  with_reducible repeat' (first | assumption | apply keep.tableCommit | apply keep.whenLive | (intro))

theorem keep.planeCfgWrite {P : Stage → Prop} {q : List Instr} (s : State) (h : Half) (seam v : Nat) (hs : s.holds P q) : (Sys2Proof.Machine.State.planeCfgWrite s h seam v).holds P q := by
  unfold Sys2Proof.Machine.State.planeCfgWrite
  try dsimp only
  with_reducible repeat' (first | assumption | apply keep.cfgPending | apply keep.checkCatchup | apply keep.log | apply keep.runRefresh | apply keep.wf | split)

theorem keep.execSeamPlaneCfgWrite {P : Stage → Prop} {q : List Instr} (h : Half) (seam v : Nat) (s : State) (hs : s.holds P q) : outHolds P q (Sys2Proof.Machine.execSeamPlaneCfgWrite h seam v s) := by
  unfold Sys2Proof.Machine.execSeamPlaneCfgWrite
  try dsimp only
  with_reducible repeat' (first | assumption | apply keep.planeCfgWrite | apply keep.whenLive | split | (intro))

theorem keep.stuckWrite {P : Stage → Prop} {q : List Instr} (s : State) (h : Half) (i v : Nat) (hs : s.holds P q) : (Sys2Proof.Machine.State.stuckWrite s h i v).holds P q := by
  unfold Sys2Proof.Machine.State.stuckWrite
  try dsimp only
  with_reducible repeat' (first | assumption | apply keep.log | apply keep.wf | split)

theorem keep.execStuckStateWrite {P : Stage → Prop} {q : List Instr} (h : Half) (i v : Nat) (s : State) (hs : s.holds P q) : outHolds P q (Sys2Proof.Machine.execStuckStateWrite h i v s) := by
  unfold Sys2Proof.Machine.execStuckStateWrite
  try dsimp only
  with_reducible repeat' (first | assumption | apply keep.stuckWrite | apply keep.whenLive | split | (intro))

theorem keep.minute {P : Stage → Prop} {q : List Instr} (s : State) (h : Half) (hs : s.holds P q) : (Sys2Proof.Machine.State.minute s h).holds P q := by
  unfold Sys2Proof.Machine.State.minute
  try dsimp only
  with_reducible repeat' (first | assumption | apply keep.add | apply keep.checkCatchup | apply keep.modPlane | apply keep.foldl | split | (intro))

theorem keep.execWallMinuteTick {P : Stage → Prop} {q : List Instr} (s : State) (hs : s.holds P q) : outHolds P q (Sys2Proof.Machine.execWallMinuteTick s) := by
  unfold Sys2Proof.Machine.execWallMinuteTick
  try dsimp only
  with_reducible repeat' (first | assumption | apply keep.minute | apply keep.next | split)

theorem keep.wallWrite {P : Stage → Prop} {q : List Instr} (s : State) (h : Half) (v : Nat) (hs : s.holds P q) : (Sys2Proof.Machine.State.wallWrite s h v).holds P q := by
  unfold Sys2Proof.Machine.State.wallWrite
  try dsimp only
  with_reducible repeat' (first | assumption | apply keep.checkCatchup | apply keep.log | apply keep.minute | apply keep.modPlane | apply keep.runRefresh | apply keep.wf | apply keep.foldl | split | (intro))

theorem keep.execNvWallMinutesWrite {P : Stage → Prop} {q : List Instr} (h : Half) (v : Nat) (s : State) (hs : s.holds P q) : outHolds P q (Sys2Proof.Machine.execNvWallMinutesWrite h v s) := by
  unfold Sys2Proof.Machine.execNvWallMinutesWrite
  try dsimp only
  with_reducible repeat' (first | assumption | apply keep.wallWrite | apply keep.whenLive | (intro))

theorem keep.apertureRead {P : Stage → Prop} {q : List Instr} (s : State) (h : Half) (func off len : Nat) (hs : s.holds P q) : (Sys2Proof.Machine.State.apertureRead s h func off len).holds P q := by
  unfold Sys2Proof.Machine.State.apertureRead
  try dsimp only
  with_reducible repeat' (first | assumption | apply keep.modNv | apply keep.need | apply keep.readGive | split)

theorem keep.execContReadApertureRead {P : Stage → Prop} {q : List Instr} (h : Half) (func off len : Nat) (s : State) (hs : s.holds P q) : outHolds P q (Sys2Proof.Machine.execContReadApertureRead h func off len s) := by
  unfold Sys2Proof.Machine.execContReadApertureRead
  try dsimp only
  with_reducible repeat' (first | assumption | apply keep.apertureRead | apply keep.whenLive | split | (intro))

theorem keep.senseDone {P : Stage → Prop} {qq : List Instr} (s : State) (h : Half) (q row : Nat) (odd : List CellAt) (hs : s.holds P qq) : (Sys2Proof.Machine.State.senseDone s h q row odd).holds P qq := by
  unfold Sys2Proof.Machine.State.senseDone
  try dsimp only
  with_reducible repeat' (first | assumption | apply keep.modNv | apply keep.readGive | apply keep.wf | apply keep.foldl | split | (intro))

theorem keep.execRowSenseDone {P : Stage → Prop} {qq : List Instr} (h : Half) (q row : Nat) (odd : List CellAt) (s : State) (hs : s.holds P qq) : outHolds P qq (Sys2Proof.Machine.execRowSenseDone h q row odd s) := by
  unfold Sys2Proof.Machine.execRowSenseDone
  try dsimp only
  with_reducible repeat' (first | assumption | apply keep.senseDone | apply keep.whenLive | split | (intro))

theorem keep.nvStop {P : Stage → Prop} {q : List Instr} (s : State) (h : Half) (hs : s.holds P q) : (Sys2Proof.Machine.State.nvStop s h).holds P q := by
  unfold Sys2Proof.Machine.State.nvStop
  try dsimp only
  with_reducible repeat' (first | assumption | apply keep.dropSteps | apply keep.modNv | apply keep.modPort)

theorem keep.brownout {P : Stage → Prop} {q : List Instr} (s : State) (h : Half) (hs : s.holds P q) : (Sys2Proof.Machine.State.brownout s h).holds P q := by
  unfold Sys2Proof.Machine.State.brownout
  try dsimp only
  with_reducible repeat' (first | assumption | apply keep.addSat | apply keep.nvStop | apply keep.wf)

theorem keep.execBrownoutTrip {P : Stage → Prop} {q : List Instr} (h : Half) (s : State) (hs : s.holds P q) : outHolds P q (Sys2Proof.Machine.execBrownoutTrip h s) := by
  unfold Sys2Proof.Machine.execBrownoutTrip
  try dsimp only
  with_reducible repeat' (first | assumption | apply keep.brownout | apply keep.whenPowered | (intro))

theorem keep.interrupt {P : Stage → Prop} {q : List Instr} (s : State) (h : Half) (p : NvPort) (hs : s.holds P q) : (Sys2Proof.Machine.State.interrupt s h p).holds P q := by
  unfold Sys2Proof.Machine.State.interrupt
  try dsimp only
  with_reducible repeat' (first | assumption | apply keep.logCut | apply keep.nvCut | apply keep.foldl | split | (intro))

theorem keep.nvReset {P : Stage → Prop} {q : List Instr} (s : State) (h : Half) (hs : s.holds P q) : (Sys2Proof.Machine.State.nvReset s h).holds P q := by
  unfold Sys2Proof.Machine.State.nvReset
  try dsimp only
  with_reducible repeat' (first | assumption | apply keep.endCont | apply keep.interrupt | apply keep.modNv | apply keep.showLedger | apply keep.showPending | apply keep.foldl | (intro))

theorem keep.execBrownoutRecover {P : Stage → Prop} {q : List Instr} (h : Half) (s : State) (hs : s.holds P q) : outHolds P q (Sys2Proof.Machine.execBrownoutRecover h s) := by
  unfold Sys2Proof.Machine.execBrownoutRecover
  try dsimp only
  with_reducible repeat' (first | assumption | apply keep.wf | apply keep.whenPowered | (intro))

theorem keep.ledgerScan {P : Stage → Prop} {q : List Instr} (s : State) (h : Half) (hs : s.holds P q) : (Sys2Proof.Machine.State.ledgerScan s h).holds P q := by
  unfold Sys2Proof.Machine.State.ledgerScan
  try dsimp only
  with_reducible repeat' (first | assumption | apply keep.modNv | apply keep.queueUrgent | apply keep.setEn | apply keep.setIncomplete | apply keep.showIncomplete | apply keep.showLedger | apply keep.foldl | (intro))

theorem keep.scanDone {P : Stage → Prop} {q : List Instr} (s : State) (h : Half) (hs : s.holds P q) : (Sys2Proof.Machine.State.scanDone s h).holds P q := by
  unfold Sys2Proof.Machine.State.scanDone
  try dsimp only
  with_reducible repeat' (first | assumption | apply keep.ledgerScan | apply keep.runRefresh | split)

theorem keep.execLedgerScanDone {P : Stage → Prop} {q : List Instr} (h : Half) (s : State) (hs : s.holds P q) : outHolds P q (Sys2Proof.Machine.execLedgerScanDone h s) := by
  unfold Sys2Proof.Machine.execLedgerScanDone
  try dsimp only
  with_reducible repeat' (first | assumption | apply keep.scanDone | apply keep.whenLive | (intro))

theorem keep.setWave {P : Stage → Prop} {q : List Instr} (s : State) (h : Half) (g i : Nat) (w : Wave) (hs : s.holds P q) : (Sys2Proof.Machine.State.setWave s h g i w).holds P q := by
  unfold Sys2Proof.Machine.State.setWave
  try dsimp only
  with_reducible repeat' (first | assumption | apply keep.setGal)

theorem keep.dropWave {P : Stage → Prop} {q : List Instr} (s : State) (h : Half) (g i : Nat) (hs : s.holds P q) : (Sys2Proof.Machine.State.dropWave s h g i).holds P q := by
  unfold Sys2Proof.Machine.State.dropWave
  try dsimp only
  with_reducible repeat' (first | assumption | apply keep.setGal)

theorem keep.galMaybeEnd {P : Stage → Prop} {q : List Instr} (s : State) (r : NodeRef) (hs : s.holds P q) : (Sys2Proof.Machine.State.galMaybeEnd s r).holds P q := by
  unfold Sys2Proof.Machine.State.galMaybeEnd
  try dsimp only
  with_reducible repeat' (first | assumption | apply keep.endNode | apply keep.setGal | apply keep.foldl | split | (intro))

theorem keep.Wave_readBlocks {P : Stage → Prop} {q : List Instr} (w : Wave) (s : State) (o : Obj) (chk : Scan) (hs : s.holds P q) : (Sys2Proof.Machine.Wave.readBlocks w s o chk).1.holds P q := by
  unfold Sys2Proof.Machine.Wave.readBlocks
  try dsimp only
  with_reducible repeat' (first | assumption | apply keep.unitRead | apply keep.foldlp | (intro))

theorem keep.seamsWf {P : Stage → Prop} {q : List Instr} (s : State) (h : Half) (g : Nat) (chms : List Nat) (f : Fld) (v : Nat) (hs : s.holds P q) : (Sys2Proof.Machine.State.seamsWf s h g chms f v).holds P q := by
  unfold Sys2Proof.Machine.State.seamsWf
  try dsimp only
  with_reducible repeat' (first | assumption | apply keep.wf | apply keep.foldl | (intro))

theorem keep.inputDelivered {P : Stage → Prop} {q : List Instr} (s : State) (h : Half) (g : Nat) (chk : Scan) (hs : s.holds P q) : (Sys2Proof.Machine.State.inputDelivered s h g chk).holds P q := by
  unfold Sys2Proof.Machine.State.inputDelivered
  try dsimp only
  with_reducible repeat' (first | assumption | apply keep.seamsWf | apply keep.setWave | apply keep.Wave_readBlocks | split)

theorem keep.execInputBlockDelivered {P : Stage → Prop} {q : List Instr} (h : Half) (g : Nat) (chk : Scan) (s : State) (hs : s.holds P q) : outHolds P q (Sys2Proof.Machine.execInputBlockDelivered h g chk s) := by
  unfold Sys2Proof.Machine.execInputBlockDelivered
  try dsimp only
  with_reducible repeat' (first | assumption | apply keep.inputDelivered | apply keep.whenLive | split | (intro))

theorem keep.refuseWave {P : Stage → Prop} {q : List Instr} (s : State) (h : Half) (g i : Nat) (w : Wave) (hs : s.holds P q) : (Sys2Proof.Machine.State.refuseWave s h g i w).holds P q := by
  unfold Sys2Proof.Machine.State.refuseWave
  try dsimp only
  with_reducible repeat' (first | assumption | apply keep.dropWave | apply keep.markNode | apply keep.seamsWf)

theorem keep.countSkips {P : Stage → Prop} {q : List Instr} (s : State) (h : Half) (g : Nat) (w : Wave) (b : Nat) (hs : s.holds P q) : (Sys2Proof.Machine.State.countSkips s h g w b).holds P q := by
  unfold Sys2Proof.Machine.State.countSkips
  try dsimp only
  with_reducible repeat' (first | assumption | apply keep.add | apply keep.foldl | split | (intro))

theorem keep.enterSlice {P : Stage → Prop} {qq : List Instr} (s : State) (h : Half) (g i : Nat) (w : Wave) (l : List Nat)  (hs : s.holds P qq) : (s.enterSlice h g i w l).holds P qq := by
  induction l generalizing s w with
  | nil => exact keep.wf (keep.setWave _ _ _ _ _ hs) _ _ _
  | cons b bs ih =>
    simp only [State.enterSlice]
    split
    · exact ih _ _ (keep.countSkips _ _ _ _ _ hs)
    · exact keep.wf (keep.wf (keep.setWave _ _ _ _ _ (keep.countSkips _ _ _ _ _ hs)) _ _ _) _ _ _

theorem keep.startSlices {P : Stage → Prop} {q : List Instr} (s : State) (h : Half) (g i : Nat) (w : Wave) (hs : s.holds P q) : (Sys2Proof.Machine.State.startSlices s h g i w).holds P q := by
  unfold Sys2Proof.Machine.State.startSlices
  try dsimp only
  with_reducible repeat' (first | assumption | apply keep.add | apply keep.enterSlice | apply keep.galMaybeEnd | apply keep.logNode | apply keep.refuseWave | apply keep.seamsWf | apply keep.wf | apply keep.foldl | split | (intro))

theorem keep.refuseLplane {P : Stage → Prop} {q : List Instr} (s : State) (h : Half) (g i : Nat) (w : Wave) (hs : s.holds P q) : (Sys2Proof.Machine.State.refuseLplane s h g i w).holds P q := by
  unfold Sys2Proof.Machine.State.refuseLplane
  try dsimp only
  with_reducible repeat' (first | assumption | apply keep.galMaybeEnd | apply keep.logNode | apply keep.refuseWave)

theorem keep.waveStart {P : Stage → Prop} {q : List Instr} (s : State) (h : Half) (g : Nat) (hs : s.holds P q) : (Sys2Proof.Machine.State.waveStart s h g).holds P q := by
  unfold Sys2Proof.Machine.State.waveStart
  try dsimp only
  with_reducible repeat' (first | assumption | apply keep.refuseLplane | apply keep.setWave | apply keep.startSlices | apply keep.wf | apply keep.foldl | split | (intro))

theorem keep.execWaveStart {P : Stage → Prop} {q : List Instr} (h : Half) (g : Nat) (s : State) (hs : s.holds P q) : outHolds P q (Sys2Proof.Machine.execWaveStart h g s) := by
  unfold Sys2Proof.Machine.execWaveStart
  try dsimp only
  with_reducible repeat' (first | assumption | apply keep.waveStart | apply keep.whenLive | split | (intro))

theorem keep.selectDone {P : Stage → Prop} {q : List Instr} (s : State) (h : Half) (g : Nat) (hs : s.holds P q) : (Sys2Proof.Machine.State.selectDone s h g).holds P q := by
  unfold Sys2Proof.Machine.State.selectDone
  try dsimp only
  with_reducible repeat' (first | assumption | apply keep.dropWave | apply keep.galMaybeEnd | apply keep.seamsWf | apply keep.startSlices | split)

theorem keep.execPlaneSelectDone {P : Stage → Prop} {q : List Instr} (h : Half) (g : Nat) (s : State) (hs : s.holds P q) : outHolds P q (Sys2Proof.Machine.execPlaneSelectDone h g s) := by
  unfold Sys2Proof.Machine.execPlaneSelectDone
  try dsimp only
  with_reducible repeat' (first | assumption | apply keep.selectDone | apply keep.whenLive | split | (intro))

theorem keep.seamCounts {P : Stage → Prop} {q : List Instr} (s : State) (h : Half) (seam : Nat) (cols : List ColOut) (hs : s.holds P q) : (Sys2Proof.Machine.State.seamCounts s h seam cols).holds P q := by
  unfold Sys2Proof.Machine.State.seamCounts
  try dsimp only
  with_reducible repeat' (first | assumption | apply keep.add | apply keep.wf | split)

theorem keep.chmPass {P : Stage → Prop} {q : List Instr} (s : State) (h : Half) (g : Nat) (w : Wave) (c : Nat) (a : ChmAcc) (hs : s.holds P q) : (Sys2Proof.Machine.State.chmPass s h g w c a).1.holds P q := by
  unfold Sys2Proof.Machine.State.chmPass
  try dsimp only
  with_reducible repeat' (first | assumption | apply keep.add | apply keep.need | apply keep.seamCounts | apply keep.foldl | apply keep.stageOf (P := P) q | apply keep.queueOf P | apply keep.regsOf P q | apply keep.westOf P q | apply keep.eastOf P q | apply keep.bootOf P q | split | (intro))

theorem keep.passEnd {P : Stage → Prop} {q : List Instr} (s : State) (h : Half) (g : Nat) (hs : s.holds P q) : (Sys2Proof.Machine.State.passEnd s h g).holds P q := by
  unfold Sys2Proof.Machine.State.passEnd
  try dsimp only
  with_reducible repeat' (first | assumption | apply keep.add | apply keep.chmPass | apply keep.enterSlice | apply keep.need | apply keep.setWave | apply keep.wf | apply keep.foldlp | apply keep.stageOf (P := P) q | apply keep.queueOf P | apply keep.regsOf P q | apply keep.westOf P q | apply keep.eastOf P q | apply keep.bootOf P q | (simp only [↓keep.mk]; refine ⟨?_, ?_, ?_, ?_, ?_, ?_⟩) | split | (intro))

theorem keep.execSlicePassEnd {P : Stage → Prop} {q : List Instr} (h : Half) (g : Nat) (s : State) (hs : s.holds P q) : outHolds P q (Sys2Proof.Machine.execSlicePassEnd h g s) := by
  unfold Sys2Proof.Machine.execSlicePassEnd
  try dsimp only
  with_reducible repeat' (first | assumption | apply keep.passEnd | apply keep.whenLive | split | (intro))

theorem keep.chkMiss {P : Stage → Prop} {q : List Instr} (s : State) (h : Half) (g : Nat) (w : Wave) (ms : List ChkOut) (hs : s.holds P q) : (Sys2Proof.Machine.State.chkMiss s h g w ms).holds P q := by
  unfold Sys2Proof.Machine.State.chkMiss
  try dsimp only
  with_reducible repeat' (first | assumption | apply keep.add | apply keep.chargeMiss | apply keep.logNode | apply keep.markNode | apply keep.wf | apply keep.foldl | split | (intro))

theorem keep.chkClean {P : Stage → Prop} {q : List Instr} (s : State) (h : Half) (g : Nat) (w : Wave) (xs : List ChkOut) (hs : s.holds P q) : (Sys2Proof.Machine.State.chkClean s h g w xs).holds P q := by
  unfold Sys2Proof.Machine.State.chkClean
  try dsimp only
  with_reducible repeat' (first | assumption | apply keep.cleanWave | apply keep.foldl | split | (intro))

theorem keep.chkWave {P : Stage → Prop} {q : List Instr} (s : State) (h : Half) (g : Nat) (w : Wave) (hs : s.holds P q) : (Sys2Proof.Machine.State.chkWave s h g w).1.holds P q := by
  unfold Sys2Proof.Machine.State.chkWave
  try dsimp only
  with_reducible repeat' (first | assumption | apply keep.add | apply keep.chkClean | apply keep.chkMiss | apply keep.runRefresh | apply keep.wf | split)

theorem keep.waveEnd {P : Stage → Prop} {q : List Instr} (s : State) (h : Half) (g : Nat) (hs : s.holds P q) : (Sys2Proof.Machine.State.waveEnd s h g).holds P q := by
  unfold Sys2Proof.Machine.State.waveEnd
  try dsimp only
  with_reducible repeat' (first | assumption | apply keep.chkWave | apply keep.dropWave | apply keep.galMaybeEnd | apply keep.markNode | apply keep.seamsWf | apply keep.setGal | apply keep.setWave | apply keep.wf | split)

theorem keep.execWaveEnd {P : Stage → Prop} {q : List Instr} (h : Half) (g : Nat) (s : State) (hs : s.holds P q) : outHolds P q (Sys2Proof.Machine.execWaveEnd h g s) := by
  unfold Sys2Proof.Machine.execWaveEnd
  try dsimp only
  with_reducible repeat' (first | assumption | apply keep.waveEnd | apply keep.whenLive | split | (intro))

theorem keep.execHealthWatchExpire {P : Stage → Prop} {q : List Instr} (h : Half) (p : Nat) (s : State) (hs : s.holds P q) : outHolds P q (Sys2Proof.Machine.execHealthWatchExpire h p s) := by
  unfold Sys2Proof.Machine.execHealthWatchExpire
  try dsimp only
  with_reducible repeat' (first | assumption | apply keep.enterHealth | apply keep.whenLive | split | (intro))

theorem keep.fullCorr {P : Stage → Prop} {q : List Instr} (s : State) (h : Half) (w : Wave) (n : Node) (ord : Nat) (chms : List Nat) (hs : s.holds P q) : (Sys2Proof.Machine.State.fullCorr s h w n ord chms).1.holds P q := by
  unfold Sys2Proof.Machine.State.fullCorr
  try dsimp only
  with_reducible repeat' (first | assumption | apply keep.unitRead | apply keep.wf | split)

theorem keep.correctionReady {P : Stage → Prop} {q : List Instr} (s : State) (h : Half) (g : Nat) (hs : s.holds P q) : (Sys2Proof.Machine.State.correctionReady s h g).holds P q := by
  unfold Sys2Proof.Machine.State.correctionReady
  try dsimp only
  with_reducible repeat' (first | assumption | apply keep.add | apply keep.fullCorr | apply keep.markNode | apply keep.setWave | apply keep.wf | split)

theorem keep.execCorrectionReady {P : Stage → Prop} {q : List Instr} (h : Half) (g : Nat) (s : State) (hs : s.holds P q) : outHolds P q (Sys2Proof.Machine.execCorrectionReady h g s) := by
  unfold Sys2Proof.Machine.execCorrectionReady
  try dsimp only
  with_reducible repeat' (first | assumption | apply keep.correctionReady | apply keep.whenLive | split | (intro))

theorem keep.execMergeDeadline {P : Stage → Prop} {q : List Instr} (r : NodeRef) (s : State) (hs : s.holds P q) : outHolds P q (Sys2Proof.Machine.execMergeDeadline r s) := by
  unfold Sys2Proof.Machine.execMergeDeadline
  try dsimp only
  with_reducible repeat' (first | assumption | apply keep.modNode | apply keep.whenLive | split | (intro))

theorem keep.outputStage {P : Stage → Prop} {q : List Instr} (s : State) (h : Half) (g i : Nat) (w : Wave) (n : Node) (hs : s.holds P q) : (Sys2Proof.Machine.State.outputStage s h g i w n).holds P q := by
  unfold Sys2Proof.Machine.State.outputStage
  try dsimp only
  with_reducible repeat' (first | assumption | apply keep.logNode | apply keep.markNode | apply keep.setWave | apply keep.unitRead | apply keep.wf | apply keep.stageOf (P := P) q | apply keep.queueOf P | apply keep.regsOf P q | apply keep.westOf P q | apply keep.eastOf P q | apply keep.bootOf P q | split)

theorem keep.waveLanded {P : Stage → Prop} {q : List Instr} (s : State) (h : Half) (g : Nat) (hs : s.holds P q) : (Sys2Proof.Machine.State.waveLanded s h g).holds P q := by
  unfold Sys2Proof.Machine.State.waveLanded
  try dsimp only
  with_reducible repeat' (first | assumption | apply keep.galMaybeEnd | apply keep.setGal | apply keep.foldl | (intro))

theorem keep.mergePass {P : Stage → Prop} {q : List Instr} (s : State) (h : Half) (g : Nat) (hs : s.holds P q) : (Sys2Proof.Machine.State.mergePass s h g).holds P q := by
  unfold Sys2Proof.Machine.State.mergePass
  try dsimp only
  with_reducible repeat' (first | assumption | apply keep.dropWave | apply keep.galMaybeEnd | apply keep.outputStage | apply keep.waveLanded | split)

theorem keep.execMergePass {P : Stage → Prop} {q : List Instr} (h : Half) (g : Nat) (s : State) (hs : s.holds P q) : outHolds P q (Sys2Proof.Machine.execMergePass h g s) := by
  unfold Sys2Proof.Machine.execMergePass
  try dsimp only
  with_reducible repeat' (first | assumption | apply keep.mergePass | apply keep.whenLive | split | (intro))

theorem keep.outputLand {P : Stage → Prop} {q : List Instr} (s : State) (h : Half) (g : Nat) (chk : Scan) (hs : s.holds P q) : (Sys2Proof.Machine.State.outputLand s h g chk).holds P q := by
  unfold Sys2Proof.Machine.State.outputLand
  try dsimp only
  with_reducible repeat' (first | assumption | apply keep.setWave | apply keep.unitRead | apply keep.unitWrite | apply keep.waveLanded | apply keep.wf | split)

theorem keep.execOutputLand {P : Stage → Prop} {q : List Instr} (h : Half) (g : Nat) (chk : Scan) (s : State) (hs : s.holds P q) : outHolds P q (Sys2Proof.Machine.execOutputLand h g chk s) := by
  unfold Sys2Proof.Machine.execOutputLand
  try dsimp only
  with_reducible repeat' (first | assumption | apply keep.outputLand | apply keep.whenLive | split | (intro))

theorem keep.setPlaneEn {P : Stage → Prop} {q : List Instr} (s : State) (h : Half) (f : Nat × Nat) (p : Nat) (v : Bool) (hs : s.holds P q) : (Sys2Proof.Machine.State.setPlaneEn s h f p v).holds P q := by
  unfold Sys2Proof.Machine.State.setPlaneEn
  try dsimp only
  with_reducible repeat' (first | assumption | apply keep.setEn | apply keep.foldl | (intro))

theorem keep.commitSets {P : Stage → Prop} {q : List Instr} (s : State) (h : Half) (hs : s.holds P q) : (Sys2Proof.Machine.State.commitSets s h).holds P q := by
  unfold Sys2Proof.Machine.State.commitSets
  try dsimp only
  with_reducible repeat' (first | assumption | apply keep.modNv | split)

theorem keep.markSet {P : Stage → Prop} {q : List Instr} (s : State) (h : Half) (n : Nat) (hs : s.holds P q) : (Sys2Proof.Machine.State.markSet s h n).holds P q := by
  unfold Sys2Proof.Machine.State.markSet
  try dsimp only
  with_reducible repeat' (first | assumption | apply keep.modNv)

theorem keep.setChanged {P : Stage → Prop} {q : List Instr} (s : State) (h : Half) (n : Nat) (hs : s.holds P q) : (Sys2Proof.Machine.State.setChanged s h n).holds P q := by
  unfold Sys2Proof.Machine.State.setChanged
  try dsimp only
  with_reducible repeat' (first | assumption | apply keep.commitSets | apply keep.markSet)

theorem keep.releaseEn {P : Stage → Prop} {q : List Instr} (s : State) (h : Half) (f : Nat × Nat) (p : Nat) (hs : s.holds P q) : (Sys2Proof.Machine.State.releaseEn s h f p).holds P q := by
  unfold Sys2Proof.Machine.State.releaseEn
  try dsimp only
  with_reducible repeat' (first | assumption | apply keep.wf | apply keep.foldl | split | (intro))

theorem keep.commitFoot {P : Stage → Prop} {q : List Instr} (s : State) (h : Half) (r : WsetRel) (hs : s.holds P q) : (Sys2Proof.Machine.State.commitFoot s h r).holds P q := by
  unfold Sys2Proof.Machine.State.commitFoot
  try dsimp only
  with_reducible repeat' (first | assumption | apply keep.cfgPending | apply keep.modNv | apply keep.wf | apply keep.foldl | split | (intro))

theorem keep.released {P : Stage → Prop} {q : List Instr} (s : State) (h : Half) (r : WsetRel) (hs : s.holds P q) : (Sys2Proof.Machine.State.released s h r).holds P q := by
  unfold Sys2Proof.Machine.State.released
  try dsimp only
  with_reducible repeat' (first | assumption | apply keep.commitFoot | apply keep.msix | apply keep.wf)

theorem keep.wsetCommit {P : Stage → Prop} {q : List Instr} (s : State) (h : Half) (hs : s.holds P q) : (Sys2Proof.Machine.State.wsetCommit s h).holds P q := by
  unfold Sys2Proof.Machine.State.wsetCommit
  try dsimp only
  with_reducible repeat' (first | assumption | apply keep.commitSets | apply keep.modNv | apply keep.released | apply keep.wf | apply keep.foldl | split | (intro))

theorem keep.execWsetCommitDone {P : Stage → Prop} {q : List Instr} (h : Half) (s : State) (hs : s.holds P q) : outHolds P q (Sys2Proof.Machine.execWsetCommitDone h s) := by
  unfold Sys2Proof.Machine.execWsetCommitDone
  try dsimp only
  with_reducible repeat' (first | assumption | apply keep.wsetCommit | apply keep.whenLive | (intro))

theorem keep.setAnswer {P : Stage → Prop} {q : List Instr} (s : State) (h : Half) (n op slot code : Nat) (hs : s.holds P q) : (Sys2Proof.Machine.State.setAnswer s h n op slot code).holds P q := by
  unfold Sys2Proof.Machine.State.setAnswer
  try dsimp only
  with_reducible repeat' (first | assumption | apply keep.wf)

theorem keep.setAccept {P : Stage → Prop} {q : List Instr} (s : State) (h : Half) (n op slot : Nat) (hs : s.holds P q) : (Sys2Proof.Machine.State.setAccept s h n op slot).holds P q := by
  unfold Sys2Proof.Machine.State.setAccept
  try dsimp only
  with_reducible repeat' (first | assumption | apply keep.modNv | apply keep.setAnswer | apply keep.setChanged)

theorem keep.wsetCreate {P : Stage → Prop} {q : List Instr} (s : State) (h : Half) (n c : Nat) (hs : s.holds P q) : (Sys2Proof.Machine.State.wsetCreate s h n c).holds P q := by
  unfold Sys2Proof.Machine.State.wsetCreate
  try dsimp only
  with_reducible repeat' (first | assumption | apply keep.setAccept | apply keep.setAnswer | apply keep.wf | apply keep.wr | split)

theorem keep.execCreate {P : Stage → Prop} {q : List Instr} (h : Half) (n c : Nat) (s : State) (hs : s.holds P q) : outHolds P q (Sys2Proof.Machine.execCreate h n c s) := by
  unfold Sys2Proof.Machine.execCreate
  try dsimp only
  with_reducible repeat' (first | assumption | apply keep.wsetCreate | apply keep.whenLive | split | (intro))

theorem keep.wsetOpen {P : Stage → Prop} {q : List Instr} (s : State) (h : Half) (n slot v : Nat) (hs : s.holds P q) : (Sys2Proof.Machine.State.wsetOpen s h n slot v).holds P q := by
  unfold Sys2Proof.Machine.State.wsetOpen
  try dsimp only
  with_reducible repeat' (first | assumption | apply keep.setAccept | apply keep.setAnswer | apply keep.wf | apply keep.wr | split)

theorem keep.execOpenSlot {P : Stage → Prop} {q : List Instr} (h : Half) (n slot v : Nat) (s : State) (hs : s.holds P q) : outHolds P q (Sys2Proof.Machine.execOpenSlot h n slot v s) := by
  unfold Sys2Proof.Machine.execOpenSlot
  try dsimp only
  with_reducible repeat' (first | assumption | apply keep.wsetOpen | apply keep.whenLive | split | (intro))

theorem keep.wsetArm {P : Stage → Prop} {q : List Instr} (s : State) (h : Half) (n slot : Nat) (hs : s.holds P q) : (Sys2Proof.Machine.State.wsetArm s h n slot).holds P q := by
  unfold Sys2Proof.Machine.State.wsetArm
  try dsimp only
  with_reducible repeat' (first | assumption | apply keep.setAccept | apply keep.setAnswer | apply keep.wf | split)

theorem keep.execArm {P : Stage → Prop} {q : List Instr} (h : Half) (n slot : Nat) (s : State) (hs : s.holds P q) : outHolds P q (Sys2Proof.Machine.execArm h n slot s) := by
  unfold Sys2Proof.Machine.execArm
  try dsimp only
  with_reducible repeat' (first | assumption | apply keep.wsetArm | apply keep.whenLive | split | (intro))

theorem keep.dropPlanes {P : Stage → Prop} {q : List Instr} (s : State) (h : Half) (n slot : Nat) (hs : s.holds P q) : (Sys2Proof.Machine.State.dropPlanes s h n slot).holds P q := by
  unfold Sys2Proof.Machine.State.dropPlanes
  try dsimp only
  with_reducible repeat' (first | assumption | apply keep.runRefresh | apply keep.setPlaneEn | apply keep.foldl | (intro))

theorem keep.wsetDiscard {P : Stage → Prop} {q : List Instr} (s : State) (h : Half) (n slot : Nat) (hs : s.holds P q) : (Sys2Proof.Machine.State.wsetDiscard s h n slot).holds P q := by
  unfold Sys2Proof.Machine.State.wsetDiscard
  try dsimp only
  with_reducible repeat' (first | assumption | apply keep.dropPlanes | apply keep.setAccept | apply keep.setAnswer | apply keep.wf | split)

theorem keep.execDiscard {P : Stage → Prop} {q : List Instr} (h : Half) (n slot : Nat) (s : State) (hs : s.holds P q) : outHolds P q (Sys2Proof.Machine.execDiscard h n slot s) := by
  unfold Sys2Proof.Machine.execDiscard
  try dsimp only
  with_reducible repeat' (first | assumption | apply keep.wsetDiscard | apply keep.whenLive | split | (intro))

theorem keep.wsetDelete {P : Stage → Prop} {q : List Instr} (s : State) (h : Half) (n : Nat) (hs : s.holds P q) : (Sys2Proof.Machine.State.wsetDelete s h n).holds P q := by
  unfold Sys2Proof.Machine.State.wsetDelete
  try dsimp only
  with_reducible repeat' (first | assumption | apply keep.runRefresh | apply keep.setAccept | apply keep.setAnswer | apply keep.setPlaneEn | apply keep.wf | apply keep.foldl | split | (intro))

theorem keep.execDelete {P : Stage → Prop} {q : List Instr} (h : Half) (n : Nat) (s : State) (hs : s.holds P q) : outHolds P q (Sys2Proof.Machine.execDelete h n s) := by
  unfold Sys2Proof.Machine.execDelete
  try dsimp only
  with_reducible repeat' (first | assumption | apply keep.wsetDelete | apply keep.whenLive | split | (intro))

theorem keep.wsetCmd {P : Stage → Prop} {q : List Instr} (s : State) (h : Half) (n v : Nat) (hs : s.holds P q) : (Sys2Proof.Machine.State.wsetCmd s h n v).holds P q := by
  unfold Sys2Proof.Machine.State.wsetCmd
  try dsimp only
  with_reducible repeat' (first | assumption | apply keep.setAnswer | apply keep.wsetArm | apply keep.wsetCreate | apply keep.wsetDelete | apply keep.wsetDiscard | apply keep.wsetOpen | split)

theorem keep.switchSet {P : Stage → Prop} {q : List Instr} (s : State) (h : Half) (n t : Nat) (hs : s.holds P q) : (Sys2Proof.Machine.State.switchSet s h n t).holds P q := by
  unfold Sys2Proof.Machine.State.switchSet
  try dsimp only
  with_reducible repeat' (first | assumption | apply keep.markSet | apply keep.wf | split)

theorem keep.switchGo {P : Stage → Prop} {q : List Instr} (s : State) (c : Nat) (hs : s.holds P q) : (Sys2Proof.Machine.State.switchGo s c).holds P q := by
  unfold Sys2Proof.Machine.State.switchGo
  try dsimp only
  with_reducible repeat' (first | assumption | apply keep.commitSets | apply keep.passControl | apply keep.switchSet | apply keep.wf | apply keep.foldl | split | (intro))

theorem keep.execSwitchSets {P : Stage → Prop} {q : List Instr} (c : Nat) (s : State) (hs : s.holds P q) : outHolds P q (Sys2Proof.Machine.execSwitchSets c s) := by
  unfold Sys2Proof.Machine.execSwitchSets
  try dsimp only
  with_reducible repeat' (first | assumption | apply keep.switchGo | apply keep.whenLive | split | (intro))

theorem keep.switchArrive {P : Stage → Prop} {q : List Instr} (s : State) (l : List (Nat × Nat)) (hs : s.holds P q) : (Sys2Proof.Machine.State.switchArrive s l).holds P q := by
  unfold Sys2Proof.Machine.State.switchArrive
  try dsimp only
  with_reducible repeat' (first | assumption | apply keep.commitSets | apply keep.switchSet | apply keep.foldl | (intro))

theorem keep.execWsetSwitchMsgArrive {P : Stage → Prop} {q : List Instr} (s : State) (hs : s.holds P q) : outHolds P q (Sys2Proof.Machine.execWsetSwitchMsgArrive s) := by
  unfold Sys2Proof.Machine.execWsetSwitchMsgArrive
  try dsimp only
  with_reducible repeat' (first | assumption | apply keep.modHalf | apply keep.switchArrive | apply keep.whenLive | apply keep.memOf | simp only [↓keep.halfMk] | split | (intro))

theorem keep.pin {P : Stage → Prop} {q : List Instr} (s : State) (p : Pin) (hs : s.holds P q) : (Sys2Proof.Machine.State.pin s p).holds P q := by
  unfold Sys2Proof.Machine.State.pin
  try dsimp only
  with_reducible repeat' (first | assumption | apply keep.add)

theorem keep.unpin {P : Stage → Prop} {q : List Instr} (s : State) (p : Pin) (hs : s.holds P q) : (Sys2Proof.Machine.State.unpin s p).holds P q := by
  unfold Sys2Proof.Machine.State.unpin
  try dsimp only
  with_reducible repeat' (first | assumption | apply keep.sub)

theorem keep.wsetRelease {P : Stage → Prop} {q : List Instr} (s : State) (h : Half) (n slot : Nat) (hs : s.holds P q) : (Sys2Proof.Machine.State.wsetRelease s h n slot).holds P q := by
  unfold Sys2Proof.Machine.State.wsetRelease
  try dsimp only
  with_reducible repeat' (first | assumption | apply keep.modNv | apply keep.releaseEn | apply keep.runRefresh | apply keep.setChanged | apply keep.wf | apply keep.foldl | split | (intro))

theorem keep.execWsetRelease {P : Stage → Prop} {q : List Instr} (h : Half) (n slot : Nat) (s : State) (hs : s.holds P q) : outHolds P q (Sys2Proof.Machine.execWsetRelease h n slot s) := by
  unfold Sys2Proof.Machine.execWsetRelease
  try dsimp only
  with_reducible repeat' (first | assumption | apply keep.wsetRelease | apply keep.whenLive | split | (intro))

theorem keep.setStrState {P : Stage → Prop} {q : List Instr} (s : State) (e v : Nat) (hs : s.holds P q) : (Sys2Proof.Machine.State.setStrState s e v).holds P q := by
  unfold Sys2Proof.Machine.State.setStrState
  try dsimp only
  with_reducible repeat' (first | assumption | apply keep.wf)

theorem keep.modEng {P : Stage → Prop} {q : List Instr} (s : State) (e : Nat) (f : Engine → Engine) (hs : s.holds P q) : (Sys2Proof.Machine.State.modEng s e f).holds P q := by
  unfold Sys2Proof.Machine.State.modEng
  try dsimp only
  with_reducible repeat' (first | assumption | apply keep.setEngine)

theorem keep.showRing {P : Stage → Prop} {q : List Instr} (s : State) (h : Half) (r : Nat) (hs : s.holds P q) : (Sys2Proof.Machine.State.showRing s h r).holds P q := by
  unfold Sys2Proof.Machine.State.showRing
  try dsimp only
  with_reducible repeat' (first | assumption | apply keep.wf)

theorem keep.ringReset {P : Stage → Prop} {q : List Instr} (s : State) (h : Half) (r : Nat) (hs : s.holds P q) : (Sys2Proof.Machine.State.ringReset s h r).holds P q := by
  unfold Sys2Proof.Machine.State.ringReset
  try dsimp only
  with_reducible repeat' (first | assumption | apply keep.setRing | apply keep.showRing | apply keep.wf)

theorem keep.slotClose {P : Stage → Prop} {q : List Instr} (s : State) (h : Half) (r : Nat) (hs : s.holds P q) : (Sys2Proof.Machine.State.slotClose s h r).holds P q := by
  unfold Sys2Proof.Machine.State.slotClose
  try dsimp only
  with_reducible repeat' (first | assumption | apply keep.modEng | apply keep.setRing | apply keep.showRing | apply keep.wf | split)

theorem keep.slotRelease {P : Stage → Prop} {q : List Instr} (s : State) (h : Half) (r : Nat) (hs : s.holds P q) : (Sys2Proof.Machine.State.slotRelease s h r).holds P q := by
  unfold Sys2Proof.Machine.State.slotRelease
  try dsimp only
  with_reducible repeat' (first | assumption | apply keep.modEng | apply keep.setRing | apply keep.showRing | apply keep.wf | split)

theorem keep.ringPut {P : Stage → Prop} {qq : List Instr} (s : State) (h : Half) (r k : Nat) (bs : List Byte) (bad : List Nat)  (hs : s.holds P qq) : (s.ringPut h r k bs bad).holds P qq := by
  induction k generalizing s bs bad with
  | zero => exact hs
  | succ k ih =>
    simp only [State.ringPut]
    with_reducible repeat' (first | assumption | apply ih | apply keep.slotClose | apply keep.wf | apply keep.setRing | apply keep.storeBytes | split)

theorem keep.scanRanges {P : Stage → Prop} {qq : List Instr} (s : State) (h : Half) (tier : Nat) (l : List (Nat × Nat)) (offs : List Nat)  (hs : s.holds P qq) : (s.scanRanges h tier l offs).1.holds P qq := by
  induction l generalizing s offs with
  | nil => exact hs
  | cons p ps ih => exact ih _ _ (keep.scanWords _ _ _ _ _ _ hs)

theorem keep.ringTake {P : Stage → Prop} {q : List Instr} (s : State) (h : Half) (r n : Nat) (chk : Scan) (hs : s.holds P q) : (Sys2Proof.Machine.State.ringTake s h r n chk).1.holds P q := by
  unfold Sys2Proof.Machine.State.ringTake
  try dsimp only
  with_reducible repeat' (first | assumption | apply keep.scanCount | apply keep.scanRanges | apply keep.setRing)

theorem keep.ringFree {P : Stage → Prop} {qq : List Instr} (s : State) (h : Half) (r n k : Nat)  (hs : s.holds P qq) : (s.ringFree h r n k).holds P qq := by
  induction k generalizing s with
  | zero => exact hs
  | succ k ih =>
    simp only [State.ringFree]
    with_reducible repeat' (first | assumption | apply ih | apply keep.slotRelease | split)

theorem keep.ringAttach {P : Stage → Prop} {q : List Instr} (s : State) (h : Half) (r : Nat) (cons : Bool) (p : Party) (hs : s.holds P q) : (Sys2Proof.Machine.State.ringAttach s h r cons p).1.holds P q := by
  unfold Sys2Proof.Machine.State.ringAttach
  try dsimp only
  with_reducible repeat' (first | assumption | apply keep.setRing | apply keep.showRing | split)

theorem keep.ringLeave {P : Stage → Prop} {q : List Instr} (s : State) (h : Half) (r : Nat) (p : Party) (hs : s.holds P q) : (Sys2Proof.Machine.State.ringLeave s h r p).holds P q := by
  unfold Sys2Proof.Machine.State.ringLeave
  try dsimp only
  with_reducible repeat' (first | assumption | apply keep.ringReset | apply keep.setRing | apply keep.showRing | apply keep.stageOf (P := P) q | apply keep.queueOf P | apply keep.regsOf P q | apply keep.westOf P q | apply keep.eastOf P q | apply keep.bootOf P q | split)

theorem keep.ringAbort {P : Stage → Prop} {q : List Instr} (s : State) (h : Half) (r : Nat) (p : Party) (hs : s.holds P q) : (Sys2Proof.Machine.State.ringAbort s h r p).holds P q := by
  unfold Sys2Proof.Machine.State.ringAbort
  try dsimp only
  with_reducible repeat' (first | assumption | apply keep.ringLeave | apply keep.setRing | apply keep.slotRelease | apply keep.wf | apply keep.foldl | split | (intro))

theorem keep.leaveRings {P : Stage → Prop} {q : List Instr} (s : State) (h : Half) (p : Party) (abort : Bool) (hs : s.holds P q) : (Sys2Proof.Machine.State.leaveRings s h p abort).holds P q := by
  unfold Sys2Proof.Machine.State.leaveRings
  try dsimp only
  with_reducible repeat' (first | assumption | apply keep.ringAbort | apply keep.ringLeave | apply keep.foldl | split | (intro))

theorem keep.ringCfgWrite {P : Stage → Prop} {q : List Instr} (s : State) (h : Half) (r v : Nat) (hs : s.holds P q) : (Sys2Proof.Machine.State.ringCfgWrite s h r v).holds P q := by
  unfold Sys2Proof.Machine.State.ringCfgWrite
  try dsimp only
  with_reducible repeat' (first | assumption | apply keep.log | apply keep.ringReset | apply keep.setRing | apply keep.wf | apply keep.wr | split)

theorem keep.execRingCfgWrite {P : Stage → Prop} {q : List Instr} (h : Half) (r v : Nat) (s : State) (hs : s.holds P q) : outHolds P q (Sys2Proof.Machine.execRingCfgWrite h r v s) := by
  unfold Sys2Proof.Machine.execRingCfgWrite
  try dsimp only
  with_reducible repeat' (first | assumption | apply keep.ringCfgWrite | apply keep.whenLive | split | (intro))

theorem keep.dropPayload {P : Stage → Prop} {q : List Instr} (s : State) (e : Nat) (hs : s.holds P q) : (Sys2Proof.Machine.State.dropPayload s e).holds P q := by
  unfold Sys2Proof.Machine.State.dropPayload
  try dsimp only
  with_reducible repeat' (first | assumption | apply keep.modHalf | apply keep.memOf | simp only [↓keep.halfMk])

theorem keep.dscResult {P : Stage → Prop} {q : List Instr} (s : State) (e code : Nat) (hs : s.holds P q) : (Sys2Proof.Machine.State.dscResult s e code).holds P q := by
  unfold Sys2Proof.Machine.State.dscResult
  try dsimp only
  with_reducible repeat' (first | assumption | apply keep.objWrite | split)

theorem keep.dropSense {P : Stage → Prop} {q : List Instr} (s : State) (h : Half) (k : Nat) (hs : s.holds P q) : (Sys2Proof.Machine.State.dropSense s h k).holds P q := by
  unfold Sys2Proof.Machine.State.dropSense
  try dsimp only
  with_reducible repeat' (first | assumption | apply keep.modHalf | apply keep.memOf | simp only [↓keep.halfMk])

theorem keep.askSense {P : Stage → Prop} {q : List Instr} (s : State) (h : Half) (k r : Nat) (hs : s.holds P q) : (Sys2Proof.Machine.State.askSense s h k r).holds P q := by
  unfold Sys2Proof.Machine.State.askSense
  try dsimp only
  with_reducible repeat' (first | assumption | apply keep.dropSense | apply keep.keepWakes | apply keep.modHalf | apply keep.memOf | simp only [↓keep.halfMk] | split)

theorem keep.engClear {P : Stage → Prop} {q : List Instr} (s0 : State) (e : Nat) (hs : s0.holds P q) : (Sys2Proof.Machine.State.engClear s0 e).holds P q := by
  unfold Sys2Proof.Machine.State.engClear
  try dsimp only
  with_reducible repeat' (first | assumption | apply keep.dropPayload | apply keep.dropSense | apply keep.setEngine | apply keep.wf | apply keep.wr)

theorem keep.engUnbind {P : Stage → Prop} {q : List Instr} (s : State) (e : Nat) (hs : s.holds P q) : (Sys2Proof.Machine.State.engUnbind s e).holds P q := by
  unfold Sys2Proof.Machine.State.engUnbind
  try dsimp only
  with_reducible repeat' (first | assumption | apply keep.modEng | apply keep.unbindObject | apply keep.foldl | (intro))

theorem keep.armDone {P : Stage → Prop} {q : List Instr} (s : State) (e code : Nat) (hs : s.holds P q) : (Sys2Proof.Machine.State.armDone s e code).holds P q := by
  unfold Sys2Proof.Machine.State.armDone
  try dsimp only
  with_reducible repeat' (first | assumption | apply keep.msix | apply keep.wf | split)

theorem keep.chainEnd {P : Stage → Prop} {q : List Instr} (s : State) (e code : Nat) (abort : Bool) (hs : s.holds P q) : (Sys2Proof.Machine.State.chainEnd s e code abort).holds P q := by
  unfold Sys2Proof.Machine.State.chainEnd
  try dsimp only
  with_reducible repeat' (first | assumption | apply keep.armDone | apply keep.endNode | apply keep.endNodeD | apply keep.engClear | apply keep.engUnbind | apply keep.leaveQueues | apply keep.leaveRings | split)

theorem keep.transferFail {P : Stage → Prop} {q : List Instr} (s : State) (e code : Nat) (hs : s.holds P q) : (Sys2Proof.Machine.State.transferFail s e code).holds P q := by
  unfold Sys2Proof.Machine.State.transferFail
  try dsimp only
  with_reducible repeat' (first | assumption | apply keep.chainEnd | apply keep.dscResult)

theorem keep.armBind {P : Stage → Prop} {q : List Instr} (s : State) (e : Nat) (c : Chain) (hs : s.holds P q) : (Sys2Proof.Machine.State.armBind s e c).1.holds P q := by
  unfold Sys2Proof.Machine.State.armBind
  try dsimp only
  with_reducible repeat' (first | assumption | apply keep.bindObject | apply keep.modEng | apply keep.need | apply keep.passControl | apply keep.foldl | apply keep.stageOf (P := P) q | apply keep.queueOf P | apply keep.regsOf P q | apply keep.westOf P q | apply keep.eastOf P q | apply keep.bootOf P q | split | (intro))

theorem keep.attachSides {P : Stage → Prop} {q : List Instr} (s : State) (e : Nat) (b : List Byte) (hs : s.holds P q) : (Sys2Proof.Machine.State.attachSides s e b).1.holds P q := by
  unfold Sys2Proof.Machine.State.attachSides
  try dsimp only
  with_reducible repeat' (first | assumption | apply keep.ringAttach | apply keep.rqAttach | apply keep.sqAttach | apply keep.stageOf (P := P) q | apply keep.queueOf P | apply keep.regsOf P q | apply keep.westOf P q | apply keep.eastOf P q | apply keep.bootOf P q | split)

theorem keep.showAttach {P : Stage → Prop} {q : List Instr} (s : State) (e : Nat) (hs : s.holds P q) : (Sys2Proof.Machine.State.showAttach s e).holds P q := by
  unfold Sys2Proof.Machine.State.showAttach
  try dsimp only
  with_reducible repeat' (first | assumption | apply keep.wf | split)

theorem keep.leaveOwn {P : Stage → Prop} {q : List Instr} (s : State) (e : Nat) (hs : s.holds P q) : (Sys2Proof.Machine.State.leaveOwn s e).holds P q := by
  unfold Sys2Proof.Machine.State.leaveOwn
  try dsimp only
  with_reducible repeat' (first | assumption | apply keep.ringLeave | apply keep.showAttach | split)

theorem keep.showPos {P : Stage → Prop} {q : List Instr} (s : State) (e : Nat) (ix : List Nat) (hs : s.holds P q) : (Sys2Proof.Machine.State.showPos s e ix).holds P q := by
  unfold Sys2Proof.Machine.State.showPos
  try dsimp only
  with_reducible repeat' (first | assumption | apply keep.wf | apply keep.foldl | (intro))

theorem keep.transferBegin {P : Stage → Prop} {q : List Instr} (s : State) (e : Nat) (hs : s.holds P q) : (Sys2Proof.Machine.State.transferBegin s e).holds P q := by
  unfold Sys2Proof.Machine.State.transferBegin
  try dsimp only
  with_reducible repeat' (first | assumption | apply keep.setStrState | apply keep.showAttach | apply keep.showPos)

theorem keep.loadNext {P : Stage → Prop} {qq : List Instr} (s : State) (e k : Nat)  (hs : s.holds P qq) : (s.loadNext e k).holds P qq := by
  induction k generalizing s with
  | zero => exact hs
  | succ k ih =>
    simp only [State.loadNext]
    with_reducible repeat' (first | assumption | apply ih | apply keep.chainEnd | apply keep.modEng | apply keep.jobStart | apply keep.transferFail | apply keep.checkRead | apply keep.attachSides | apply keep.transferBegin | apply keep.setStrState | split)

theorem keep.execTransferStart {P : Stage → Prop} {q : List Instr} (e : Nat) (s : State) (hs : s.holds P q) : outHolds P q (Sys2Proof.Machine.execTransferStart e s) := by
  unfold Sys2Proof.Machine.execTransferStart
  try dsimp only
  with_reducible repeat' (first | assumption | apply keep.armBind | apply keep.loadNext | apply keep.whenLive | split | (intro))

theorem keep.execRingAttach {P : Stage → Prop} {q : List Instr} (h : Half) (_ring e : Nat) (_consumer : Bool) (s : State) (hs : s.holds P q) : outHolds P q (Sys2Proof.Machine.execRingAttach h _ring e _consumer s) := by
  unfold Sys2Proof.Machine.execRingAttach
  try dsimp only
  with_reducible repeat' (first | assumption | apply keep.attachSides | apply keep.transferBegin | apply keep.transferFail | apply keep.whenLive | split | (intro))

theorem keep.translate {P : Stage → Prop} {q : List Instr} (s : State) (h : Half) (func pasid addr len : Nat) (hs : s.holds P q) : (Sys2Proof.Machine.State.translate s h func pasid addr len).holds P q := by
  unfold Sys2Proof.Machine.State.translate
  try dsimp only
  with_reducible repeat' (first | assumption | apply keep.modHalf | apply keep.memOf | simp only [↓keep.halfMk] | split)

theorem keep.t3Get {P : Stage → Prop} {q : List Instr} (s : State) (h : Half) (func pasid addr len : Nat) (hs : s.holds P q) : (Sys2Proof.Machine.State.t3Get s h func pasid addr len).holds P q := by
  unfold Sys2Proof.Machine.State.t3Get
  try dsimp only
  with_reducible repeat' (first | assumption | apply keep.send | apply keep.translate)

theorem keep.logStream {P : Stage → Prop} {qq : List Instr} (s : State) (e : Nat) (q : LogReq) (hs : s.holds P qq) : (Sys2Proof.Machine.State.logStream s e q).holds P qq := by
  unfold Sys2Proof.Machine.State.logStream
  try dsimp only
  with_reducible repeat' (first | assumption | apply keep.log)

theorem keep.noteBad {P : Stage → Prop} {q : List Instr} (s : State) (e : Nat) (h : Half) (tier handle : Nat) (ws offs : List Nat) (hs : s.holds P q) : (Sys2Proof.Machine.State.noteBad s e h tier handle ws offs).holds P q := by
  unfold Sys2Proof.Machine.State.noteBad
  try dsimp only
  with_reducible repeat' (first | assumption | apply keep.logStream | apply keep.logWord | apply keep.modEng | split)

theorem keep.objTake {P : Stage → Prop} {q : List Instr} (s : State) (e start n : Nat) (chk : Scan) (hs : s.holds P q) : (Sys2Proof.Machine.State.objTake s e start n chk).1.holds P q := by
  unfold Sys2Proof.Machine.State.objTake
  try dsimp only
  with_reducible repeat' (first | assumption | apply keep.noteBad | apply keep.scanCount | apply keep.scanRanges)

theorem keep.askRow {P : Stage → Prop} {q : List Instr} (s : State) (e : Nat) (hs : s.holds P q) : (Sys2Proof.Machine.State.askRow s e).holds P q := by
  unfold Sys2Proof.Machine.State.askRow
  try dsimp only
  with_reducible repeat' (first | assumption | apply keep.askSense | split)

theorem keep.askFeed {P : Stage → Prop} {q : List Instr} (s : State) (e : Nat) (chk : Scan) (hs : s.holds P q) : (Sys2Proof.Machine.State.askFeed s e chk).holds P q := by
  unfold Sys2Proof.Machine.State.askFeed
  try dsimp only
  with_reducible repeat' (first | assumption | apply keep.modEng | apply keep.objTake | apply keep.passActivation | split)

theorem keep.feedIn {P : Stage → Prop} {q : List Instr} (s : State) (e : Nat) (bs : List Byte) (bad : List Nat) (hs : s.holds P q) : (Sys2Proof.Machine.State.feedIn s e bs bad).holds P q := by
  unfold Sys2Proof.Machine.State.feedIn
  try dsimp only
  with_reducible repeat' (first | assumption | apply keep.modEng)

theorem keep.t3Take {P : Stage → Prop} {q : List Instr} (s : State) (e : Nat) (data : List Byte) (hs : s.holds P q) : (Sys2Proof.Machine.State.t3Take s e data).holds P q := by
  unfold Sys2Proof.Machine.State.t3Take
  try dsimp only
  with_reducible repeat' (first | assumption | apply keep.modEng | apply keep.t3Get | apply keep.foldl | (intro))

theorem keep.packTake {P : Stage → Prop} {q : List Instr} (s : State) (e n : Nat) (hs : s.holds P q) : (Sys2Proof.Machine.State.packTake s e n).1.holds P q := by
  unfold Sys2Proof.Machine.State.packTake
  try dsimp only
  with_reducible repeat' (first | assumption | apply keep.modEng)

theorem keep.srcTake {P : Stage → Prop} {q : List Instr} (s : State) (e n : Nat) (data : List Byte) (chk : Scan) (hs : s.holds P q) : (Sys2Proof.Machine.State.srcTake s e n data chk).1.holds P q := by
  unfold Sys2Proof.Machine.State.srcTake
  try dsimp only
  with_reducible repeat' (first | assumption | apply keep.noteBad | apply keep.objTake | apply keep.packTake | apply keep.ringTake | apply keep.rqConsume | apply keep.scanCount | apply keep.scanRanges | apply keep.t3Take | split)

theorem keep.dstPut {P : Stage → Prop} {q : List Instr} (s : State) (e : Nat) (bs : List Byte) (last : Bool) (bad : List Nat) (hs : s.holds P q) : (Sys2Proof.Machine.State.dstPut s e bs last bad).holds P q := by
  unfold Sys2Proof.Machine.State.dstPut
  try dsimp only
  with_reducible repeat' (first | assumption | apply keep.objWrite | apply keep.passActivation | apply keep.ringPut | apply keep.sqPush | apply keep.t3Put | apply keep.translate | apply keep.foldl | split | (intro))

theorem keep.srcFree {P : Stage → Prop} {q : List Instr} (s : State) (e : Nat) (hs : s.holds P q) : (Sys2Proof.Machine.State.srcFree s e).holds P q := by
  unfold Sys2Proof.Machine.State.srcFree
  try dsimp only
  with_reducible repeat' (first | assumption | apply keep.ringFree | split)

theorem keep.moveBytes {P : Stage → Prop} {q : List Instr} (s0 : State) (e n : Nat) (data0 : List Byte) (chk : Scan) (hs : s0.holds P q) : (Sys2Proof.Machine.State.moveBytes s0 e n data0 chk).holds P q := by
  unfold Sys2Proof.Machine.State.moveBytes
  try dsimp only
  with_reducible repeat' (first | assumption | apply keep.add | apply keep.askFeed | apply keep.askRow | apply keep.dstPut | apply keep.modEng | apply keep.setStrState | apply keep.showPos | apply keep.srcFree | apply keep.srcTake | split)

theorem keep.transferNext {P : Stage → Prop} {q : List Instr} (s : State) (e : Nat) (hs : s.holds P q) : (Sys2Proof.Machine.State.transferNext s e).holds P q := by
  unfold Sys2Proof.Machine.State.transferNext
  try dsimp only
  with_reducible repeat' (first | assumption | apply keep.chainEnd | apply keep.dropSense | apply keep.setStrState | split)

theorem keep.transferClose {P : Stage → Prop} {q : List Instr} (s : State) (e : Nat) (hs : s.holds P q) : (Sys2Proof.Machine.State.transferClose s e).holds P q := by
  unfold Sys2Proof.Machine.State.transferClose
  try dsimp only
  with_reducible repeat' (first | assumption | apply keep.dscResult | apply keep.leaveOwn | apply keep.transferFail | apply keep.transferNext | split)

theorem keep.transferEnd {P : Stage → Prop} {q : List Instr} (s : State) (e : Nat) (hs : s.holds P q) : (Sys2Proof.Machine.State.transferEnd s e).holds P q := by
  unfold Sys2Proof.Machine.State.transferEnd
  try dsimp only
  with_reducible repeat' (first | assumption | apply keep.modEng | apply keep.setStrState | apply keep.slotClose | apply keep.transferClose | split)

theorem keep.moveFail {P : Stage → Prop} {q : List Instr} (s : State) (e code : Nat) (hs : s.holds P q) : (Sys2Proof.Machine.State.moveFail s e code).holds P q := by
  unfold Sys2Proof.Machine.State.moveFail
  try dsimp only
  with_reducible repeat' (first | assumption | apply keep.transferFail | split)

theorem keep.t3Fail {P : Stage → Prop} {q : List Instr} (s : State) (addr pasid : Nat) (r : Option NodeRef) (hs : s.holds P q) : (Sys2Proof.Machine.State.t3Fail s addr pasid r).holds P q := by
  unfold Sys2Proof.Machine.State.t3Fail
  try dsimp only
  with_reducible repeat' (first | assumption | apply keep.log | apply keep.logNode | apply keep.wf | split)

theorem keep.readBad {P : Stage → Prop} {q : List Instr} (s : State) (e addr pasid : Nat) (hs : s.holds P q) : (Sys2Proof.Machine.State.readBad s e addr pasid).holds P q := by
  unfold Sys2Proof.Machine.State.readBad
  try dsimp only
  with_reducible repeat' (first | assumption | apply keep.modEng | apply keep.t3Fail)

theorem keep.requestFails {P : Stage → Prop} {q : List Instr} (s : State) (e addr pasid : Nat) (hs : s.holds P q) : (Sys2Proof.Machine.State.requestFails s e addr pasid).holds P q := by
  unfold Sys2Proof.Machine.State.requestFails
  try dsimp only
  with_reducible repeat' (first | assumption | apply keep.moveBytes | apply keep.readBad | apply keep.transferEnd | split)

theorem keep.transferComplete {P : Stage → Prop} {q : List Instr} (s : State) (e : Nat) (data : List Byte) (chk : Scan) (readFail : Bool) (hs : s.holds P q) : (Sys2Proof.Machine.State.transferComplete s e data chk readFail).holds P q := by
  unfold Sys2Proof.Machine.State.transferComplete
  try dsimp only
  with_reducible repeat' (first | assumption | apply keep.moveBytes | apply keep.moveFail | apply keep.readBad | apply keep.transferEnd | split)

theorem keep.execTransferComplete {P : Stage → Prop} {q : List Instr} (e : Nat) (data : List Byte) (chk : Scan) (readFail : Bool) (s : State) (hs : s.holds P q) : outHolds P q (Sys2Proof.Machine.execTransferComplete e data chk readFail s) := by
  unfold Sys2Proof.Machine.execTransferComplete
  try dsimp only
  with_reducible repeat' (first | assumption | apply keep.transferComplete | apply keep.whenLive | split | (intro))

theorem keep.slotFull {P : Stage → Prop} {q : List Instr} (s : State) (h : Half) (r : Nat) (data : List Byte) (chk : Scan) (hs : s.holds P q) : (Sys2Proof.Machine.State.slotFull s h r data chk).holds P q := by
  unfold Sys2Proof.Machine.State.slotFull
  try dsimp only
  with_reducible repeat' (first | assumption | apply keep.moveBytes | apply keep.moveFail | split)

theorem keep.execSlotFull {P : Stage → Prop} {q : List Instr} (h : Half) (r : Nat) (data : List Byte) (chk : Scan) (s : State) (hs : s.holds P q) : outHolds P q (Sys2Proof.Machine.execSlotFull h r data chk s) := by
  unfold Sys2Proof.Machine.execSlotFull
  try dsimp only
  with_reducible repeat' (first | assumption | apply keep.slotFull | apply keep.whenLive | (intro))

theorem keep.ringRelease {P : Stage → Prop} {q : List Instr} (s : State) (h : Half) (r : Nat) (hs : s.holds P q) : (Sys2Proof.Machine.State.ringRelease s h r).holds P q := by
  unfold Sys2Proof.Machine.State.ringRelease
  try dsimp only
  with_reducible repeat' (first | assumption | apply keep.modHalf | apply keep.moveBytes | apply keep.moveFail | apply keep.slotRelease | apply keep.memOf | simp only [↓keep.halfMk] | split)

theorem keep.execRingSlotRelease {P : Stage → Prop} {q : List Instr} (h : Half) (r : Nat) (s : State) (hs : s.holds P q) : outHolds P q (Sys2Proof.Machine.execRingSlotRelease h r s) := by
  unfold Sys2Proof.Machine.execRingSlotRelease
  try dsimp only
  with_reducible repeat' (first | assumption | apply keep.ringRelease | apply keep.whenLive | (intro))

theorem keep.execDrainEnd {P : Stage → Prop} {q : List Instr} (e : Nat) (s : State) (hs : s.holds P q) : outHolds P q (Sys2Proof.Machine.execDrainEnd e s) := by
  unfold Sys2Proof.Machine.execDrainEnd
  try dsimp only
  with_reducible repeat' (first | assumption | apply keep.transferClose | apply keep.whenLive | split | (intro))

theorem keep.armStart {P : Stage → Prop} {q : List Instr} (s : State) (e : Nat) (c : Chain) (hs : s.holds P q) : (Sys2Proof.Machine.State.armStart s e c).holds P q := by
  unfold Sys2Proof.Machine.State.armStart
  try dsimp only
  with_reducible repeat' (first | assumption | apply keep.modEng | apply keep.setStrState | apply keep.wf)

end Sys2Proof.Machine
end

