-- ==== Sys2Proof/Laws/KeepWork.lean ====
section
/-! SUPPORT. Every operation keeps the stage, the queue and the canonical stores (State.holds), one lemma for each: part 3 of 4, in the
machine's own order. An operation that changes the stage has its lemma for any stage. -/

namespace Sys2Proof.Machine

theorem keep.arm {P : Stage → Prop} {q : List Instr} (s : State) (e : Nat) (c : Chain) (hs : s.holds P q) : (Sys2Proof.Machine.State.arm s e c).holds P q := by
  unfold Sys2Proof.Machine.State.arm
  try dsimp only
  with_reducible repeat' (first | assumption | apply keep.armStart | apply keep.modEng | apply keep.wf | split)

theorem keep.armCtrlWrite {P : Stage → Prop} {q : List Instr} (s : State) (e v : Nat) (hs : s.holds P q) : (Sys2Proof.Machine.State.armCtrlWrite s e v).holds P q := by
  unfold Sys2Proof.Machine.State.armCtrlWrite
  try dsimp only
  with_reducible repeat' (first | assumption | apply keep.arm | apply keep.keepWakes | apply keep.log | apply keep.wf | split)

theorem keep.execStrArmGo {P : Stage → Prop} {q : List Instr} (e v : Nat) (s : State) (hs : s.holds P q) : outHolds P q (Sys2Proof.Machine.execStrArmGo e v s) := by
  unfold Sys2Proof.Machine.execStrArmGo
  try dsimp only
  with_reducible repeat' (first | assumption | apply keep.armCtrlWrite | apply keep.whenLive | split | (intro))

theorem keep.shadowStart {P : Stage → Prop} {q : List Instr} (s : State) (e : Nat) (hs : s.holds P q) : (Sys2Proof.Machine.State.shadowStart s e).holds P q := by
  unfold Sys2Proof.Machine.State.shadowStart
  try dsimp only
  with_reducible repeat' (first | assumption | apply keep.armStart | apply keep.modEng | apply keep.wf | split)

theorem keep.execShadowStart {P : Stage → Prop} {q : List Instr} (e : Nat) (s : State) (hs : s.holds P q) : outHolds P q (Sys2Proof.Machine.execShadowStart e s) := by
  unfold Sys2Proof.Machine.execShadowStart
  try dsimp only
  with_reducible repeat' (first | assumption | apply keep.shadowStart | apply keep.whenLive | (intro))

theorem keep.pageSend {P : Stage → Prop} {q : List Instr} (s : State) (f : Nat) (hs : s.holds P q) : (Sys2Proof.Machine.State.pageSend s f).holds P q := by
  unfold Sys2Proof.Machine.State.pageSend
  try dsimp only
  with_reducible repeat' (first | assumption | apply keep.add | apply keep.send | apply keep.wf | split)

theorem keep.pageQueue {P : Stage → Prop} {q : List Instr} (s : State) (f : Nat) (hs : s.holds P q) : (Sys2Proof.Machine.State.pageQueue s f).holds P q := by
  unfold Sys2Proof.Machine.State.pageQueue
  try dsimp only
  with_reducible repeat' (first | assumption | apply keep.pageSend | apply keep.stageOf (P := P) q | apply keep.queueOf P | apply keep.regsOf P q | apply keep.westOf P q | apply keep.eastOf P q | apply keep.bootOf P q | (simp only [↓keep.mk]; refine ⟨?_, ?_, ?_, ?_, ?_, ?_⟩) | split)

theorem keep.requestGone {P : Stage → Prop} {q : List Instr} (s : State) (e : Nat) (hs : s.holds P q) : (Sys2Proof.Machine.State.requestGone s e).holds P q := by
  unfold Sys2Proof.Machine.State.requestGone
  try dsimp only
  with_reducible repeat' (first | assumption | apply keep.pageSend | apply keep.stageOf (P := P) q | apply keep.queueOf P | apply keep.regsOf P q | apply keep.westOf P q | apply keep.eastOf P q | apply keep.bootOf P q | (simp only [↓keep.mk]; refine ⟨?_, ?_, ?_, ?_, ?_, ?_⟩) | split)

theorem keep.requestEnds {P : Stage → Prop} {q : List Instr} (s : State) (e : Nat) (hs : s.holds P q) : (Sys2Proof.Machine.State.requestEnds s e).holds P q := by
  unfold Sys2Proof.Machine.State.requestEnds
  try dsimp only
  with_reducible repeat' (first | assumption | apply keep.requestGone | apply keep.wf)

theorem keep.flushPack {P : Stage → Prop} {q : List Instr} (s : State) (e : Nat) (hs : s.holds P q) : (Sys2Proof.Machine.State.flushPack s e).holds P q := by
  unfold Sys2Proof.Machine.State.flushPack
  try dsimp only
  with_reducible repeat' (first | assumption | apply keep.modEng | apply keep.showPos | apply keep.sqPush | split)

theorem keep.pageFail {P : Stage → Prop} {q : List Instr} (s0 : State) (e : Nat) (hs : s0.holds P q) : (Sys2Proof.Machine.State.pageFail s0 e).holds P q := by
  unfold Sys2Proof.Machine.State.pageFail
  try dsimp only
  with_reducible repeat' (first | assumption | apply keep.flushPack | apply keep.logStream | apply keep.requestEnds | apply keep.transferFail | apply keep.wf)

theorem keep.pageAsk {P : Stage → Prop} {q : List Instr} (s : State) (e : Nat) (index : List Nat) (hs : s.holds P q) : (Sys2Proof.Machine.State.pageAsk s e index).holds P q := by
  unfold Sys2Proof.Machine.State.pageAsk
  try dsimp only
  with_reducible repeat' (first | assumption | apply keep.pageFail | apply keep.pageQueue | apply keep.setStrState | apply keep.showPos | apply keep.wf | split)

theorem keep.pageStop {P : Stage → Prop} {q : List Instr} (s : State) (e : Nat) (index : List Nat) (data : List Byte) (hs : s.holds P q) : (Sys2Proof.Machine.State.pageStop s e index data).holds P q := by
  unfold Sys2Proof.Machine.State.pageStop
  try dsimp only
  with_reducible repeat' (first | assumption | apply keep.moveBytes | apply keep.pageAsk | split)

theorem keep.execPageFaultStop {P : Stage → Prop} {q : List Instr} (e : Nat) (index : List Nat) (data : List Byte) (s : State) (hs : s.holds P q) : outHolds P q (Sys2Proof.Machine.execPageFaultStop e index data s) := by
  unfold Sys2Proof.Machine.execPageFaultStop
  try dsimp only
  with_reducible repeat' (first | assumption | apply keep.pageStop | apply keep.wr | apply keep.whenLive | split | (intro))

theorem keep.abortChain {P : Stage → Prop} {q : List Instr} (s : State) (e : Nat) (hs : s.holds P q) : (Sys2Proof.Machine.State.abortChain s e).holds P q := by
  unfold Sys2Proof.Machine.State.abortChain
  try dsimp only
  with_reducible repeat' (first | assumption | apply keep.chainEnd | apply keep.dscResult | apply keep.requestEnds | split)

theorem keep.abortShadow {P : Stage → Prop} {q : List Instr} (s : State) (e : Nat) (hs : s.holds P q) : (Sys2Proof.Machine.State.abortShadow s e).holds P q := by
  unfold Sys2Proof.Machine.State.abortShadow
  try dsimp only
  with_reducible repeat' (first | assumption | apply keep.armDone | apply keep.endNodeD | apply keep.modEng | apply keep.wf | split)

theorem keep.abortEngineNode {P : Stage → Prop} {q : List Instr} (s : State) (r : NodeRef) (e : Nat) (hs : s.holds P q) : (Sys2Proof.Machine.State.abortEngineNode s r e).holds P q := by
  unfold Sys2Proof.Machine.State.abortEngineNode
  try dsimp only
  with_reducible repeat' (first | assumption | apply keep.abortChain | apply keep.abortShadow | split)

theorem keep.strAbort {P : Stage → Prop} {q : List Instr} (s : State) (e : Nat) (hs : s.holds P q) : (Sys2Proof.Machine.State.strAbort s e).holds P q := by
  unfold Sys2Proof.Machine.State.strAbort
  try dsimp only
  with_reducible repeat' (first | assumption | apply keep.abortChain | apply keep.abortShadow | split)

theorem keep.execStrAbort {P : Stage → Prop} {q : List Instr} (e : Nat) (s : State) (hs : s.holds P q) : outHolds P q (Sys2Proof.Machine.execStrAbort e s) := by
  unfold Sys2Proof.Machine.execStrAbort
  try dsimp only
  with_reducible repeat' (first | assumption | apply keep.strAbort | apply keep.whenLive | split | (intro))

theorem keep.modOp {P : Stage → Prop} {q : List Instr} (s : State) (h : Half) (r : NodeRef) (f : CswOp → CswOp) (hs : s.holds P q) : (Sys2Proof.Machine.State.modOp s h r f).holds P q := by
  unfold Sys2Proof.Machine.State.modOp
  try dsimp only
  with_reducible repeat' (first | assumption | apply keep.modHalf | apply keep.memOf | simp only [↓keep.halfMk])

theorem keep.cswBegin {P : Stage → Prop} {q : List Instr} (s : State) (h : Half) (r : NodeRef) (n : Node) (hs : s.holds P q) : (Sys2Proof.Machine.State.cswBegin s h r n).holds P q := by
  unfold Sys2Proof.Machine.State.cswBegin
  try dsimp only
  with_reducible repeat' (first | assumption | apply keep.modHalf | apply keep.memOf | simp only [↓keep.halfMk])

theorem keep.cswEnd {P : Stage → Prop} {q : List Instr} (s : State) (h : Half) (r : NodeRef) (prim : Nat) (hs : s.holds P q) : (Sys2Proof.Machine.State.cswEnd s h r prim).holds P q := by
  unfold Sys2Proof.Machine.State.cswEnd
  try dsimp only
  with_reducible repeat' (first | assumption | apply keep.endNode | apply keep.leaveQueues | apply keep.modHalf | apply keep.memOf | simp only [↓keep.halfMk])

theorem keep.flushTry {P : Stage → Prop} {q : List Instr} (s : State) (r : NodeRef) (n : Node) (hs : s.holds P q) : (Sys2Proof.Machine.State.flushTry s r n).holds P q := by
  unfold Sys2Proof.Machine.State.flushTry
  try dsimp only
  with_reducible repeat' (first | assumption | apply keep.cswEnd | split)

theorem keep.execFlush {P : Stage → Prop} {q : List Instr} (r : NodeRef) (s : State) (hs : s.holds P q) : outHolds P q (Sys2Proof.Machine.execFlush r s) := by
  unfold Sys2Proof.Machine.execFlush
  try dsimp only
  with_reducible repeat' (first | assumption | apply keep.flushTry | apply keep.whenLive | split | (intro))

theorem keep.execAck {P : Stage → Prop} {q : List Instr} (h : Half) (b : List Byte) (s : State) (hs : s.holds P q) : outHolds P q (Sys2Proof.Machine.execAck h b s) := by
  unfold Sys2Proof.Machine.execAck
  try dsimp only
  with_reducible repeat' (first | assumption | apply keep.ackIn | apply keep.flushTry | apply keep.onFlit | apply keep.whenLive | apply keep.foldl | split | (intro))

theorem keep.barRelease {P : Stage → Prop} {q : List Instr} (s : State) (h : Half) (b : Nat) (hs : s.holds P q) : (Sys2Proof.Machine.State.barRelease s h b).holds P q := by
  unfold Sys2Proof.Machine.State.barRelease
  try dsimp only
  with_reducible repeat' (first | assumption | apply keep.cswEnd | apply keep.sendFlit | apply keep.setBar | apply keep.wf | apply keep.wr | apply keep.foldl | split | (intro))

theorem keep.barComplete {P : Stage → Prop} {q : List Instr} (s : State) (h : Half) (b : Nat) (hs : s.holds P q) : (Sys2Proof.Machine.State.barComplete s h b).holds P q := by
  unfold Sys2Proof.Machine.State.barComplete
  try dsimp only
  with_reducible repeat' (first | assumption | apply keep.barRelease | apply keep.sendFlit | split)

theorem keep.barBreak {P : Stage → Prop} {q : List Instr} (s : State) (h : Half) (b : Nat) (hs : s.holds P q) : (Sys2Proof.Machine.State.barBreak s h b).holds P q := by
  unfold Sys2Proof.Machine.State.barBreak
  try dsimp only
  with_reducible repeat' (first | assumption | apply keep.cswEnd | apply keep.log | apply keep.wf | split)

theorem keep.arriveIn {P : Stage → Prop} {q : List Instr} (s : State) (h : Half) (f : List Byte) (hs : s.holds P q) : (Sys2Proof.Machine.State.arriveIn s h f).holds P q := by
  unfold Sys2Proof.Machine.State.arriveIn
  try dsimp only
  with_reducible repeat' (first | assumption | apply keep.add | apply keep.barBreak | apply keep.barComplete | apply keep.setBar | split)

theorem keep.execArrive {P : Stage → Prop} {q : List Instr} (h : Half) (f : List Byte) (s : State) (hs : s.holds P q) : outHolds P q (Sys2Proof.Machine.execArrive h f s) := by
  unfold Sys2Proof.Machine.execArrive
  try dsimp only
  with_reducible repeat' (first | assumption | apply keep.arriveIn | apply keep.onFlit | apply keep.whenLive | (intro))

theorem keep.releaseIn {P : Stage → Prop} {q : List Instr} (s : State) (h : Half) (f : List Byte) (hs : s.holds P q) : (Sys2Proof.Machine.State.releaseIn s h f).holds P q := by
  unfold Sys2Proof.Machine.State.releaseIn
  try dsimp only
  with_reducible repeat' (first | assumption | apply keep.barBreak | apply keep.barRelease | split)

theorem keep.execRelease {P : Stage → Prop} {q : List Instr} (h : Half) (f : List Byte) (s : State) (hs : s.holds P q) : outHolds P q (Sys2Proof.Machine.execRelease h f s) := by
  unfold Sys2Proof.Machine.execRelease
  try dsimp only
  with_reducible repeat' (first | assumption | apply keep.onFlit | apply keep.releaseIn | apply keep.whenLive | (intro))

theorem keep.barrierTry {P : Stage → Prop} {q : List Instr} (s : State) (r : NodeRef) (n : Node) (hs : s.holds P q) : (Sys2Proof.Machine.State.barrierTry s r n).holds P q := by
  unfold Sys2Proof.Machine.State.barrierTry
  try dsimp only
  with_reducible repeat' (first | assumption | apply keep.add | apply keep.barComplete | apply keep.cswEnd | apply keep.setBar | apply keep.wf | split)

theorem keep.execBarrier {P : Stage → Prop} {q : List Instr} (r : NodeRef) (s : State) (hs : s.holds P q) : outHolds P q (Sys2Proof.Machine.execBarrier r s) := by
  unfold Sys2Proof.Machine.execBarrier
  try dsimp only
  with_reducible repeat' (first | assumption | apply keep.barrierTry | apply keep.whenLive | split | (intro))

theorem keep.execBarrierTimeout {P : Stage → Prop} {q : List Instr} (r : NodeRef) (s : State) (hs : s.holds P q) : outHolds P q (Sys2Proof.Machine.execBarrierTimeout r s) := by
  unfold Sys2Proof.Machine.execBarrierTimeout
  try dsimp only
  with_reducible repeat' (first | assumption | apply keep.cswEnd | apply keep.whenLive | split | (intro))

theorem keep.barCfgWrite {P : Stage → Prop} {q : List Instr} (s : State) (h : Half) (b v : Nat) (hs : s.holds P q) : (Sys2Proof.Machine.State.barCfgWrite s h b v).holds P q := by
  unfold Sys2Proof.Machine.State.barCfgWrite
  try dsimp only
  with_reducible repeat' (first | assumption | apply keep.setBar | apply keep.wr | split)

theorem keep.execBarrierEnWrite {P : Stage → Prop} {q : List Instr} (h : Half) (b v : Nat) (s : State) (hs : s.holds P q) : outHolds P q (Sys2Proof.Machine.execBarrierEnWrite h b v s) := by
  unfold Sys2Proof.Machine.execBarrierEnWrite
  try dsimp only
  with_reducible repeat' (first | assumption | apply keep.barCfgWrite | apply keep.whenLive | split | (intro))

theorem keep.pushAll {P : Stage → Prop} {q : List Instr} (s : State) (r : NodeRef) (n : Node) (qs : List Nat) (stream : Nat → List Byte) (hs : s.holds P q) : (Sys2Proof.Machine.State.pushAll s r n qs stream).holds P q := by
  unfold Sys2Proof.Machine.State.pushAll
  try dsimp only
  with_reducible repeat' (first | assumption | apply keep.cswEnd | apply keep.modOp | apply keep.sqAttach | apply keep.sqPush | apply keep.foldl | apply keep.foldlp | split | (intro))

theorem keep.dispatchRun {P : Stage → Prop} {q : List Instr} (s : State) (r : NodeRef) (n : Node) (hs : s.holds P q) : (Sys2Proof.Machine.State.dispatchRun s r n).holds P q := by
  unfold Sys2Proof.Machine.State.dispatchRun Sys2Proof.Machine.State.dispatchPlan
  try dsimp only
  with_reducible repeat' (first | assumption | apply keep.markNode | apply keep.pushAll | apply keep.unitRead | apply keep.foldlp | split | (intro))

theorem keep.execDispatch {P : Stage → Prop} {q : List Instr} (r : NodeRef) (s : State) (hs : s.holds P q) : outHolds P q (Sys2Proof.Machine.execDispatch r s) := by
  unfold Sys2Proof.Machine.execDispatch
  try dsimp only
  with_reducible repeat' (first | assumption | apply keep.dispatchRun | apply keep.whenLive | split | (intro))

theorem keep.returnRun {P : Stage → Prop} {q : List Instr} (s : State) (r : NodeRef) (n : Node) (hs : s.holds P q) : (Sys2Proof.Machine.State.returnRun s r n).holds P q := by
  unfold Sys2Proof.Machine.State.returnRun Sys2Proof.Machine.State.returnPlan
  try dsimp only
  with_reducible repeat' (first | assumption | apply keep.pushAll | apply keep.unitRead)

theorem keep.execReturnRows {P : Stage → Prop} {q : List Instr} (r : NodeRef) (s : State) (hs : s.holds P q) : outHolds P q (Sys2Proof.Machine.execReturnRows r s) := by
  unfold Sys2Proof.Machine.execReturnRows
  try dsimp only
  with_reducible repeat' (first | assumption | apply keep.returnRun | apply keep.whenLive | split | (intro))

theorem keep.collectRec {P : Stage → Prop} {qq : List Instr} (s : State) (r : NodeRef) (n : Node) (q : Nat) (rc : List Byte) (hs : s.holds P qq) : (Sys2Proof.Machine.State.collectRec s r n q rc).holds P qq := by
  unfold Sys2Proof.Machine.State.collectRec
  try dsimp only
  with_reducible repeat' (first | assumption | apply keep.add | apply keep.markNode | apply keep.modOp | apply keep.unitWrite | split)

theorem keep.combineRec {P : Stage → Prop} {qq : List Instr} (s : State) (r : NodeRef) (n : Node) (q : Nat) (rc : List Byte) (hs : s.holds P qq) : (Sys2Proof.Machine.State.combineRec s r n q rc).holds P qq := by
  unfold Sys2Proof.Machine.State.combineRec
  try dsimp only
  with_reducible repeat' (first | assumption | apply keep.add | apply keep.markNode | apply keep.modOp | apply keep.unitWrite | split)

theorem keep.recordTake {P : Stage → Prop} {qq : List Instr} (s : State) (r : NodeRef) (h : Half) (q : Nat) (bs : List Byte) (hs : s.holds P qq) : (Sys2Proof.Machine.State.recordTake s r h q bs).holds P qq := by
  unfold Sys2Proof.Machine.State.recordTake
  try dsimp only
  with_reducible repeat' (first | assumption | apply keep.logWord | apply keep.markNode | apply keep.rqConsume | apply keep.scanRanges | apply keep.foldl | split | (intro))

theorem keep.setPart {P : Stage → Prop} {qq : List Instr} (s : State) (h : Half) (q : Nat) (bs : List Byte) (hs : s.holds P qq) : (Sys2Proof.Machine.State.setPart s h q bs).holds P qq := by
  unfold Sys2Proof.Machine.State.setPart
  try dsimp only
  with_reducible repeat' (first | assumption | apply keep.setRq)

theorem keep.takeRecords {P : Stage → Prop} {qq : List Instr} (s : State) (r : NodeRef) (n : Node) (place : State → Nat → List Byte → State) (k : Nat) (hp : ∀ s a b, s.holds P qq → (place s a b).holds P qq) (hs : s.holds P qq) : (s.takeRecords r n place k).holds P qq := by
  induction k generalizing s with
  | zero => exact hs
  | succ k ih =>
    simp only [State.takeRecords]
    split
    · exact hs
    · split
      · exact ih _ (keep.modOp _ _ _ _ (hp _ _ _ (keep.setPart _ _ _ _ (keep.recordTake _ _ _ _ _ hs))))
      · exact ih _ (keep.setPart _ _ _ _ (keep.recordTake _ _ _ _ _ hs))

theorem keep.collectEnd {P : Stage → Prop} {q : List Instr} (s : State) (r : NodeRef) (n : Node) (hs : s.holds P q) : (Sys2Proof.Machine.State.collectEnd s r n).holds P q := by
  unfold Sys2Proof.Machine.State.collectEnd
  try dsimp only
  with_reducible repeat' (first | assumption | apply keep.cswEnd | apply keep.unitWrite | apply keep.foldl | (intro))

theorem keep.combineEnd {P : Stage → Prop} {q : List Instr} (s : State) (r : NodeRef) (n : Node) (hs : s.holds P q) : (Sys2Proof.Machine.State.combineEnd s r n).holds P q := by
  unfold Sys2Proof.Machine.State.combineEnd
  try dsimp only
  with_reducible repeat' (first | assumption | apply keep.cswEnd | apply keep.unitWrite | apply keep.foldl | (intro))

theorem keep.gatherRecords {P : Stage → Prop} {q : List Instr} (s : State) (r : NodeRef) (n : Node) (place : State → Nat → List Byte → State) (fin : State → State) (hs : s.holds P q) (h_place : ∀ s x0 x1, s.holds P q → (place s x0 x1).holds P q) (h_fin : ∀ s, s.holds P q → (fin s).holds P q) : (Sys2Proof.Machine.State.gatherRecords s r n place fin).holds P q := by
  unfold Sys2Proof.Machine.State.gatherRecords
  try dsimp only
  with_reducible repeat' (first | assumption | apply keep.cswEnd | apply keep.rqAttach | apply keep.takeRecords | apply h_fin | apply keep.foldlp | split | (intro))

theorem keep.execCollect {P : Stage → Prop} {q : List Instr} (r : NodeRef) (s : State) (hs : s.holds P q) : outHolds P q (Sys2Proof.Machine.execCollect r s) := by
  unfold Sys2Proof.Machine.execCollect
  try dsimp only
  with_reducible repeat' (first | assumption | apply keep.collectEnd | apply keep.collectRec | apply keep.gatherRecords | apply keep.whenLive | split | (intro))

theorem keep.execCombine {P : Stage → Prop} {q : List Instr} (r : NodeRef) (s : State) (hs : s.holds P q) : outHolds P q (Sys2Proof.Machine.execCombine r s) := by
  unfold Sys2Proof.Machine.execCombine
  try dsimp only
  with_reducible repeat' (first | assumption | apply keep.combineEnd | apply keep.combineRec | apply keep.gatherRecords | apply keep.whenLive | split | (intro))

theorem keep.execBatchTimeout {P : Stage → Prop} {q : List Instr} (r : NodeRef) (s : State) (hs : s.holds P q) : outHolds P q (Sys2Proof.Machine.execBatchTimeout r s) := by
  unfold Sys2Proof.Machine.execBatchTimeout
  try dsimp only
  with_reducible repeat' (first | assumption | apply keep.collectEnd | apply keep.combineEnd | apply keep.markNode | apply keep.wf | apply keep.whenLive | split | (intro))

theorem keep.cswAbort {P : Stage → Prop} {q : List Instr} (s : State) (r : NodeRef) (n : Node) (hs : s.holds P q) : (Sys2Proof.Machine.State.cswAbort s r n).holds P q := by
  unfold Sys2Proof.Machine.State.cswAbort
  try dsimp only
  with_reducible repeat' (first | assumption | apply keep.cswEnd)

theorem keep.rowBytes {P : Stage → Prop} {q : List Instr} (s : State) (f : Nat) (o : TailOut) (hs : s.holds P q) : (Sys2Proof.Machine.State.rowBytes s f o).1.holds P q := by
  unfold Sys2Proof.Machine.State.rowBytes
  try dsimp only
  with_reducible repeat' (first | assumption | apply keep.stageOf (P := P) q | apply keep.queueOf P | apply keep.regsOf P q | apply keep.westOf P q | apply keep.eastOf P q | apply keep.bootOf P q | (simp only [↓keep.mk]; refine ⟨?_, ?_, ?_, ?_, ?_, ?_⟩) | split)

theorem keep.rowEvents {P : Stage → Prop} {q : List Instr} (s : State) (h : Half) (f : Nat) (o : TailOut) (hs : s.holds P q) : (Sys2Proof.Machine.State.rowEvents s h f o).holds P q := by
  unfold Sys2Proof.Machine.State.rowEvents
  try dsimp only
  with_reducible repeat' (first | assumption | apply keep.wf | split)

theorem keep.modPlaza {P : Stage → Prop} {q : List Instr} (s : State) (h : Half) (f : PlazaSt → PlazaSt) (hs : s.holds P q) : (Sys2Proof.Machine.State.modPlaza s h f).holds P q := by
  unfold Sys2Proof.Machine.State.modPlaza
  try dsimp only
  with_reducible repeat' (first | assumption | apply keep.modHalf | apply keep.memOf | simp only [↓keep.halfMk])

theorem keep.putRows {P : Stage → Prop} {q : List Instr} (s : State) (h : Half) (r : NodeRef) (op : List Byte) (rows : List (List Nat)) (hs : s.holds P q) : (Sys2Proof.Machine.State.putRows s h r op rows).holds P q := by
  unfold Sys2Proof.Machine.State.putRows
  try dsimp only
  with_reducible repeat' (first | assumption | apply keep.modPlaza | apply keep.rowBytes | apply keep.rowEvents | apply keep.unitWrite | apply keep.foldlp | (intro))

theorem keep.operand {P : Stage → Prop} {q : List Instr} (s : State) (r : NodeRef) (v f rows n : Nat) (hs : s.holds P q) : (Sys2Proof.Machine.State.operand s r v f rows n).1.holds P q := by
  unfold Sys2Proof.Machine.State.operand
  try dsimp only
  with_reducible repeat' (first | assumption | apply keep.unitRead)

theorem keep.putInts {P : Stage → Prop} {q : List Instr} (s : State) (h : Half) (r : NodeRef) (op : List Byte) (rows : List (List Int)) (hs : s.holds P q) : (Sys2Proof.Machine.State.putInts s h r op rows).holds P q := by
  unfold Sys2Proof.Machine.State.putInts
  try dsimp only
  with_reducible repeat' (first | assumption | apply keep.modPlaza | apply keep.unitWrite)

theorem keep.product {P : Stage → Prop} {q : List Instr} (s : State) (h : Half) (r : NodeRef) (op a : List Byte) (bInt : Nat → Nat → Int) (bVal : Nat → Nat → Fp) (hs : s.holds P q) : (Sys2Proof.Machine.State.product s h r op a bInt bVal).holds P q := by
  unfold Sys2Proof.Machine.State.product
  try dsimp only
  with_reducible repeat' (first | assumption | apply keep.putInts | apply keep.putRows | apply keep.wf | split)

theorem keep.matmulPlain {P : Stage → Prop} {q : List Instr} (s : State) (h : Half) (r : NodeRef) (op : List Byte) (hs : s.holds P q) : (Sys2Proof.Machine.State.matmulPlain s h r op).holds P q := by
  unfold Sys2Proof.Machine.State.matmulPlain
  try dsimp only
  with_reducible repeat' (first | assumption | apply keep.operand | apply keep.product)

theorem keep.matmulTiles {P : Stage → Prop} {q : List Instr} (s : State) (h : Half) (r : NodeRef) (op : List Byte) (hs : s.holds P q) : (Sys2Proof.Machine.State.matmulTiles s h r op).holds P q := by
  unfold Sys2Proof.Machine.State.matmulTiles
  try dsimp only
  with_reducible repeat' (first | assumption | apply keep.operand | apply keep.product)

theorem keep.opFails {P : Stage → Prop} {q : List Instr} (s : State) (h : Half) (r : NodeRef) (prim : Nat) (hs : s.holds P q) : (Sys2Proof.Machine.State.opFails s h r prim).holds P q := by
  unfold Sys2Proof.Machine.State.opFails
  try dsimp only
  with_reducible repeat' (first | assumption | apply keep.markNode | apply keep.modPlaza | apply keep.showWait)

theorem keep.logSlots {P : Stage → Prop} {q : List Instr} (s : State) (h : Half) (ws : List Nat) (hs : s.holds P q) : (Sys2Proof.Machine.State.logSlots s h ws).holds P q := by
  unfold Sys2Proof.Machine.State.logSlots
  try dsimp only
  with_reducible repeat' (first | assumption | apply keep.logWord | apply keep.foldl | (intro))

theorem keep.matmulStream {P : Stage → Prop} {q : List Instr} (s0 : State) (h : Half) (r : NodeRef) (op : List Byte) (hs : s0.holds P q) : (Sys2Proof.Machine.State.matmulStream s0 h r op).holds P q := by
  unfold Sys2Proof.Machine.State.matmulStream
  try dsimp only
  with_reducible repeat' (first | assumption | apply keep.logSlots | apply keep.markNode | apply keep.matmulTiles | apply keep.modPlaza | apply keep.opFails | apply keep.ringAttach | apply keep.ringTake | apply keep.stageOf (P := P) q | apply keep.queueOf P | apply keep.regsOf P q | apply keep.westOf P q | apply keep.eastOf P q | apply keep.bootOf P q | (simp only [↓keep.mk]; refine ⟨?_, ?_, ?_, ?_, ?_, ?_⟩) | split)

theorem keep.gatherRun {P : Stage → Prop} {q : List Instr} (s : State) (h : Half) (r : NodeRef) (op : List Byte) (hs : s.holds P q) : (Sys2Proof.Machine.State.gatherRun s h r op).holds P q := by
  unfold Sys2Proof.Machine.State.gatherRun
  try dsimp only
  with_reducible repeat' (first | assumption | apply keep.markNode | apply keep.modPlaza | apply keep.rowBytes | apply keep.rowEvents | apply keep.unitRead | apply keep.unitWrite | apply keep.wf | apply keep.foldlp | apply keep.stageOf (P := P) q | apply keep.queueOf P | apply keep.regsOf P q | apply keep.westOf P q | apply keep.eastOf P q | apply keep.bootOf P q | split | (intro))

theorem keep.vectorRun {P : Stage → Prop} {q : List Instr} (s : State) (h : Half) (r : NodeRef) (op : List Byte) (hs : s.holds P q) : (Sys2Proof.Machine.State.vectorRun s h r op).holds P q := by
  unfold Sys2Proof.Machine.State.vectorRun
  try dsimp only
  with_reducible repeat' (first | assumption | apply keep.operand | apply keep.putRows)

theorem keep.execGather {P : Stage → Prop} {q : List Instr} (h : Half) (s : State) (hs : s.holds P q) : outHolds P q (Sys2Proof.Machine.execGather h s) := by
  unfold Sys2Proof.Machine.execGather
  try dsimp only
  with_reducible repeat' (first | assumption | apply keep.gatherRun | apply keep.whenLive | split | (intro))

theorem keep.execVector {P : Stage → Prop} {q : List Instr} (h : Half) (s : State) (hs : s.holds P q) : outHolds P q (Sys2Proof.Machine.execVector h s) := by
  unfold Sys2Proof.Machine.execVector
  try dsimp only
  with_reducible repeat' (first | assumption | apply keep.vectorRun | apply keep.whenLive | split | (intro))

theorem keep.factor {P : Stage → Prop} {q : List Instr} (s : State) (r : NodeRef) (v f rows n : Nat) (hs : s.holds P q) : (Sys2Proof.Machine.State.factor s r v f rows n).1.holds P q := by
  unfold Sys2Proof.Machine.State.factor
  try dsimp only
  with_reducible repeat' (first | assumption | apply keep.operand | apply keep.stageOf (P := P) q | apply keep.queueOf P | apply keep.regsOf P q | apply keep.westOf P q | apply keep.eastOf P q | apply keep.bootOf P q | (simp only [↓keep.mk]; refine ⟨?_, ?_, ?_, ?_, ?_, ?_⟩) | split)

theorem keep.hiddenEvents {P : Stage → Prop} {q : List Instr} (s : State) (h : Half) (cs : List Conv) (hs : s.holds P q) : (Sys2Proof.Machine.State.hiddenEvents s h cs).holds P q := by
  unfold Sys2Proof.Machine.State.hiddenEvents
  try dsimp only
  with_reducible repeat' (first | assumption | apply keep.wf | split)

theorem keep.fallback {P : Stage → Prop} {q : List Instr} (s : State) (h : Half) (r : NodeRef) (op : List Byte) (hs : s.holds P q) : (Sys2Proof.Machine.State.fallback s h r op).holds P q := by
  unfold Sys2Proof.Machine.State.fallback
  try dsimp only
  with_reducible repeat' (first | assumption | apply keep.add | apply keep.factor | apply keep.hiddenEvents | apply keep.markNode | apply keep.operand | apply keep.putRows | apply keep.wf)

theorem keep.fallbackGo {P : Stage → Prop} {q : List Instr} (s : State) (h : Half) (r : NodeRef) (op : List Byte) (hs : s.holds P q) : (Sys2Proof.Machine.State.fallbackGo s h r op).holds P q := by
  unfold Sys2Proof.Machine.State.fallbackGo
  try dsimp only
  with_reducible repeat' (first | assumption | apply keep.fallback | apply keep.opFails | split)

theorem keep.execMatmul {P : Stage → Prop} {q : List Instr} (h : Half) (s : State) (hs : s.holds P q) : outHolds P q (Sys2Proof.Machine.execMatmul h s) := by
  unfold Sys2Proof.Machine.execMatmul
  try dsimp only
  with_reducible repeat' (first | assumption | apply keep.fallbackGo | apply keep.matmulPlain | apply keep.matmulStream | apply keep.whenLive | split | (intro))

theorem keep.execLowrankFallback {P : Stage → Prop} {q : List Instr} (h : Half) (s : State) (hs : s.holds P q) : outHolds P q (Sys2Proof.Machine.execLowrankFallback h s) := by
  unfold Sys2Proof.Machine.execLowrankFallback
  try dsimp only
  with_reducible repeat' (first | assumption | apply keep.modPlaza | apply keep.wf | apply keep.whenLive | split | (intro))

theorem keep.plazaIdle {P : Stage → Prop} {q : List Instr} (s : State) (h : Half) (hs : s.holds P q) : (Sys2Proof.Machine.State.plazaIdle s h).holds P q := by
  unfold Sys2Proof.Machine.State.plazaIdle
  try dsimp only
  with_reducible repeat' (first | assumption | apply keep.add | apply keep.modPlaza | apply keep.wf)

theorem keep.plazaChecks {P : Stage → Prop} {q : List Instr} (s : State) (r : NodeRef) (op : List Byte) (chk : Scan) (hs : s.holds P q) : (Sys2Proof.Machine.State.plazaChecks s r op chk).holds P q := by
  unfold Sys2Proof.Machine.State.plazaChecks
  try dsimp only
  with_reducible repeat' (first | assumption | apply keep.logWord | apply keep.markNode | apply keep.scanCount | apply keep.scanNew | apply keep.foldl | split | (intro))

theorem keep.execPlazaOpComplete {P : Stage → Prop} {q : List Instr} (h : Half) (chk : Scan) (s : State) (hs : s.holds P q) : outHolds P q (Sys2Proof.Machine.execPlazaOpComplete h chk s) := by
  unfold Sys2Proof.Machine.execPlazaOpComplete
  try dsimp only
  with_reducible repeat' (first | assumption | apply keep.endNode | apply keep.leaveRings | apply keep.plazaChecks | apply keep.plazaIdle | apply keep.whenLive | split | (intro))

theorem keep.plazaBegin {P : Stage → Prop} {q : List Instr} (s : State) (h : Half) (r : NodeRef) (n : Node) (hs : s.holds P q) : (Sys2Proof.Machine.State.plazaBegin s h r n).holds P q := by
  unfold Sys2Proof.Machine.State.plazaBegin
  try dsimp only
  with_reducible repeat' (first | assumption | apply keep.modPlaza | apply keep.wf)

theorem keep.plazaAbort {P : Stage → Prop} {q : List Instr} (s : State) (h : Half) (r : NodeRef) (hs : s.holds P q) : (Sys2Proof.Machine.State.plazaAbort s h r).holds P q := by
  unfold Sys2Proof.Machine.State.plazaAbort
  try dsimp only
  with_reducible repeat' (first | assumption | apply keep.endNode | apply keep.leaveRings | apply keep.plazaIdle | split)

theorem keep.setCnt {P : Stage → Prop} {q : List Instr} (s : State) (h : Half) (g n v : Nat) (hs : s.holds P q) : (Sys2Proof.Machine.State.setCnt s h g n v).holds P q := by
  unfold Sys2Proof.Machine.State.setCnt
  try dsimp only
  with_reducible repeat' (first | assumption | apply keep.wf)

theorem keep.modSeq {P : Stage → Prop} {q : List Instr} (s : State) (h : Half) (g : Nat) (f : SeqSt → SeqSt) (hs : s.holds P q) : (Sys2Proof.Machine.State.modSeq s h g f).holds P q := by
  unfold Sys2Proof.Machine.State.modSeq
  try dsimp only
  with_reducible repeat' (first | assumption | apply keep.setGal)

theorem keep.seqState {P : Stage → Prop} {q : List Instr} (s : State) (h : Half) (g v : Nat) (hs : s.holds P q) : (Sys2Proof.Machine.State.seqState s h g v).holds P q := by
  unfold Sys2Proof.Machine.State.seqState
  try dsimp only
  with_reducible repeat' (first | assumption | apply keep.wf)

theorem keep.seqInit {P : Stage → Prop} {q : List Instr} (s : State) (h : Half) (g : Nat) (n : Node) (hs : s.holds P q) : (Sys2Proof.Machine.State.seqInit s h g n).holds P q := by
  unfold Sys2Proof.Machine.State.seqInit
  try dsimp only
  with_reducible repeat' (first | assumption | apply keep.setCnt | apply keep.setGal | apply keep.wf | apply keep.foldl | (intro))

theorem keep.progStart {P : Stage → Prop} {q : List Instr} (s : State) (h : Half) (g : Nat) (hs : s.holds P q) : (Sys2Proof.Machine.State.progStart s h g).holds P q := by
  unfold Sys2Proof.Machine.State.progStart
  try dsimp only
  with_reducible repeat' (first | assumption | apply keep.seqInit | split)

theorem keep.execProgramStart {P : Stage → Prop} {q : List Instr} (h : Half) (g : Nat) (s : State) (hs : s.holds P q) : outHolds P q (Sys2Proof.Machine.execProgramStart h g s) := by
  unfold Sys2Proof.Machine.execProgramStart
  try dsimp only
  with_reducible repeat' (first | assumption | apply keep.progStart | apply keep.whenLive | split | (intro))

theorem keep.haltSeqs {P : Stage → Prop} {q : List Instr} (s : State) (n : Node) (hs : s.holds P q) : (Sys2Proof.Machine.State.haltSeqs s n).holds P q := by
  unfold Sys2Proof.Machine.State.haltSeqs
  try dsimp only
  with_reducible repeat' (first | assumption | apply keep.modSeq | apply keep.seqState | apply keep.setGal | apply keep.wf | apply keep.foldl | split | (intro))

theorem keep.stopNode {P : Stage → Prop} {q : List Instr} (s : State) (h : Half) (g : Nat) (r : NodeRef) (pc cause word ev : Nat) (hs : s.holds P q) : (Sys2Proof.Machine.State.stopNode s h g r pc cause word ev).holds P q := by
  unfold Sys2Proof.Machine.State.stopNode
  try dsimp only
  with_reducible repeat' (first | assumption | apply keep.galMaybeEnd | apply keep.haltSeqs | apply keep.logNode | apply keep.markNode | apply keep.modNode | apply keep.wf | split)

theorem keep.seqGo {P : Stage → Prop} {q : List Instr} (s : State) (h : Half) (g next : Nat) (hs : s.holds P q) : (Sys2Proof.Machine.State.seqGo s h g next).holds P q := by
  unfold Sys2Proof.Machine.State.seqGo
  try dsimp only
  with_reducible repeat' (first | assumption | apply keep.add | apply keep.modSeq | apply keep.seqState | apply keep.stopNode | apply keep.wf | split)

theorem keep.seqNext {P : Stage → Prop} {q : List Instr} (s : State) (h : Half) (g : Nat) (hs : s.holds P q) : (Sys2Proof.Machine.State.seqNext s h g).holds P q := by
  unfold Sys2Proof.Machine.State.seqNext
  try dsimp only
  with_reducible repeat' (first | assumption | apply keep.seqGo)

theorem keep.seqStall {P : Stage → Prop} {q : List Instr} (s : State) (h : Half) (g : Nat) (w : SeqWait) (st : Nat) (hs : s.holds P q) : (Sys2Proof.Machine.State.seqStall s h g w st).holds P q := by
  unfold Sys2Proof.Machine.State.seqStall
  try dsimp only
  with_reducible repeat' (first | assumption | apply keep.modSeq | apply keep.seqState | apply keep.wf)

theorem keep.onInstr {P : Stage → Prop} {q : List Instr} (h : Half) (g : Nat) (f : State → SeqInstr → State) (s : State) (hs : s.holds P q) (h_f : ∀ s x0, s.holds P q → (f s x0).holds P q) : outHolds P q (Sys2Proof.Machine.onInstr h g f s) := by
  unfold Sys2Proof.Machine.onInstr
  try dsimp only
  with_reducible repeat' (first | assumption | apply keep.whenLive | apply h_f | split | (intro))

theorem keep.issueWave {P : Stage → Prop} {q : List Instr} (s0 : State) (h : Half) (g : Nat) (r : NodeRef) (n : Node) (latch : Nat) (w : Wave) (vinc iuse : Bool) (ireg : Nat) (hs : s0.holds P q) : (Sys2Proof.Machine.State.issueWave s0 h g r n latch w vinc iuse ireg).holds P q := by
  unfold Sys2Proof.Machine.State.issueWave
  try dsimp only
  with_reducible repeat' (first | assumption | apply keep.seqNext | apply keep.setCnt | apply keep.setGal | apply keep.stamp | split)

theorem keep.seqWave {P : Stage → Prop} {q : List Instr} (s : State) (h : Half) (g : Nat) (w : Wave) (vinc iuse : Bool) (ireg : Nat) (hs : s.holds P q) : (Sys2Proof.Machine.State.seqWave s h g w vinc iuse ireg).holds P q := by
  unfold Sys2Proof.Machine.State.seqWave
  try dsimp only
  with_reducible repeat' (first | assumption | apply keep.issueWave | apply keep.seqStall | split)

theorem keep.stageSet {P : Stage → Prop} {q : List Instr} (s : State) (h : Half) (g : Nat) (f : SeqSt → SeqSt) (hs : s.holds P q) : (Sys2Proof.Machine.State.stageSet s h g f).holds P q := by
  unfold Sys2Proof.Machine.State.stageSet
  try dsimp only
  with_reducible repeat' (first | assumption | apply keep.modSeq | apply keep.seqNext)

theorem keep.seqRowmask {P : Stage → Prop} {q : List Instr} (s : State) (h : Half) (g mop freg lreg : Nat) (hs : s.holds P q) : (Sys2Proof.Machine.State.seqRowmask s h g mop freg lreg).holds P q := by
  unfold Sys2Proof.Machine.State.seqRowmask
  try dsimp only
  with_reducible repeat' (first | assumption | apply keep.stageSet)

theorem keep.execNop {P : Stage → Prop} {q : List Instr} (h : Half) (g : Nat) (s : State) (hs : s.holds P q) : outHolds P q (Sys2Proof.Machine.execNop h g s) := by
  unfold Sys2Proof.Machine.execNop
  try dsimp only
  with_reducible repeat' (first | assumption | apply keep.seqNext | apply keep.onInstr | split | (intro))

theorem keep.execWave {P : Stage → Prop} {q : List Instr} (h : Half) (g : Nat) (s : State) (hs : s.holds P q) : outHolds P q (Sys2Proof.Machine.execWave h g s) := by
  unfold Sys2Proof.Machine.execWave
  try dsimp only
  with_reducible repeat' (first | assumption | apply keep.seqWave | apply keep.onInstr | split | (intro))

theorem keep.execRowmaskSet {P : Stage → Prop} {q : List Instr} (h : Half) (g : Nat) (s : State) (hs : s.holds P q) : outHolds P q (Sys2Proof.Machine.execRowmaskSet h g s) := by
  unfold Sys2Proof.Machine.execRowmaskSet
  try dsimp only
  with_reducible repeat' (first | assumption | apply keep.seqRowmask | apply keep.onInstr | split | (intro))

theorem keep.execRowmaskOpen {P : Stage → Prop} {q : List Instr} (h : Half) (g : Nat) (s : State) (hs : s.holds P q) : outHolds P q (Sys2Proof.Machine.execRowmaskOpen h g s) := by
  unfold Sys2Proof.Machine.execRowmaskOpen
  try dsimp only
  with_reducible repeat' (first | assumption | apply keep.seqRowmask | apply keep.onInstr | split | (intro))

theorem keep.execRowmaskClose {P : Stage → Prop} {q : List Instr} (h : Half) (g : Nat) (s : State) (hs : s.holds P q) : outHolds P q (Sys2Proof.Machine.execRowmaskClose h g s) := by
  unfold Sys2Proof.Machine.execRowmaskClose
  try dsimp only
  with_reducible repeat' (first | assumption | apply keep.seqRowmask | apply keep.onInstr | split | (intro))

theorem keep.execRowmaskAll {P : Stage → Prop} {q : List Instr} (h : Half) (g : Nat) (s : State) (hs : s.holds P q) : outHolds P q (Sys2Proof.Machine.execRowmaskAll h g s) := by
  unfold Sys2Proof.Machine.execRowmaskAll
  try dsimp only
  with_reducible repeat' (first | assumption | apply keep.seqRowmask | apply keep.onInstr | split | (intro))

theorem keep.execSplit {P : Stage → Prop} {q : List Instr} (h : Half) (g : Nat) (s : State) (hs : s.holds P q) : outHolds P q (Sys2Proof.Machine.execSplit h g s) := by
  unfold Sys2Proof.Machine.execSplit
  try dsimp only
  with_reducible repeat' (first | assumption | apply keep.stageSet | apply keep.onInstr | split | (intro))

theorem keep.execAcc {P : Stage → Prop} {q : List Instr} (h : Half) (g : Nat) (s : State) (hs : s.holds P q) : outHolds P q (Sys2Proof.Machine.execAcc h g s) := by
  unfold Sys2Proof.Machine.execAcc
  try dsimp only
  with_reducible repeat' (first | assumption | apply keep.stageSet | apply keep.onInstr | split | (intro))

theorem keep.execScale {P : Stage → Prop} {q : List Instr} (h : Half) (g : Nat) (s : State) (hs : s.holds P q) : outHolds P q (Sys2Proof.Machine.execScale h g s) := by
  unfold Sys2Proof.Machine.execScale
  try dsimp only
  with_reducible repeat' (first | assumption | apply keep.stageSet | apply keep.onInstr | split | (intro))

theorem keep.execEmit {P : Stage → Prop} {q : List Instr} (h : Half) (g : Nat) (s : State) (hs : s.holds P q) : outHolds P q (Sys2Proof.Machine.execEmit h g s) := by
  unfold Sys2Proof.Machine.execEmit
  try dsimp only
  with_reducible repeat' (first | assumption | apply keep.stageSet | apply keep.onInstr | split | (intro))

theorem keep.seqCheck {P : Stage → Prop} {q : List Instr} (s : State) (h : Half) (g : Nat) (hs : s.holds P q) : (Sys2Proof.Machine.State.seqCheck s h g).holds P q := by
  unfold Sys2Proof.Machine.State.seqCheck
  try dsimp only
  with_reducible repeat' (first | assumption | apply keep.modSeq | apply keep.seqNext | apply keep.wf)

theorem keep.execCheck {P : Stage → Prop} {q : List Instr} (h : Half) (g : Nat) (s : State) (hs : s.holds P q) : outHolds P q (Sys2Proof.Machine.execCheck h g s) := by
  unfold Sys2Proof.Machine.execCheck
  try dsimp only
  with_reducible repeat' (first | assumption | apply keep.seqCheck | apply keep.seqStall | apply keep.onInstr | split | (intro))

theorem keep.execWaitBarrier {P : Stage → Prop} {q : List Instr} (h : Half) (g : Nat) (s : State) (hs : s.holds P q) : outHolds P q (Sys2Proof.Machine.execWaitBarrier h g s) := by
  unfold Sys2Proof.Machine.execWaitBarrier
  try dsimp only
  with_reducible repeat' (first | assumption | apply keep.modSeq | apply keep.seqNext | apply keep.seqStall | apply keep.onInstr | split | (intro))

theorem keep.execWaitLanded {P : Stage → Prop} {q : List Instr} (h : Half) (g : Nat) (s : State) (hs : s.holds P q) : outHolds P q (Sys2Proof.Machine.execWaitLanded h g s) := by
  unfold Sys2Proof.Machine.execWaitLanded
  try dsimp only
  with_reducible repeat' (first | assumption | apply keep.seqNext | apply keep.seqStall | apply keep.onInstr | split | (intro))

theorem keep.execWaitIdle {P : Stage → Prop} {q : List Instr} (h : Half) (g : Nat) (s : State) (hs : s.holds P q) : outHolds P q (Sys2Proof.Machine.execWaitIdle h g s) := by
  unfold Sys2Proof.Machine.execWaitIdle
  try dsimp only
  with_reducible repeat' (first | assumption | apply keep.seqNext | apply keep.seqStall | apply keep.onInstr | split | (intro))

theorem keep.execSignal {P : Stage → Prop} {q : List Instr} (h : Half) (g : Nat) (s : State) (hs : s.holds P q) : outHolds P q (Sys2Proof.Machine.execSignal h g s) := by
  unfold Sys2Proof.Machine.execSignal
  try dsimp only
  with_reducible repeat' (first | assumption | apply keep.stageSet | apply keep.onInstr | split | (intro))

theorem keep.seqLoop {P : Stage → Prop} {q : List Instr} (s : State) (h : Half) (g r target : Nat) (hs : s.holds P q) : (Sys2Proof.Machine.State.seqLoop s h g r target).holds P q := by
  unfold Sys2Proof.Machine.State.seqLoop
  try dsimp only
  with_reducible repeat' (first | assumption | apply keep.seqGo | apply keep.seqNext | apply keep.setCnt | split)

theorem keep.execLoop {P : Stage → Prop} {q : List Instr} (h : Half) (g : Nat) (s : State) (hs : s.holds P q) : outHolds P q (Sys2Proof.Machine.execLoop h g s) := by
  unfold Sys2Proof.Machine.execLoop
  try dsimp only
  with_reducible repeat' (first | assumption | apply keep.seqLoop | apply keep.onInstr | split | (intro))

theorem keep.execBr {P : Stage → Prop} {q : List Instr} (h : Half) (g : Nat) (s : State) (hs : s.holds P q) : outHolds P q (Sys2Proof.Machine.execBr h g s) := by
  unfold Sys2Proof.Machine.execBr
  try dsimp only
  with_reducible repeat' (first | assumption | apply keep.seqGo | apply keep.seqNext | apply keep.onInstr | split | (intro))

theorem keep.execSeti {P : Stage → Prop} {q : List Instr} (h : Half) (g : Nat) (s : State) (hs : s.holds P q) : outHolds P q (Sys2Proof.Machine.execSeti h g s) := by
  unfold Sys2Proof.Machine.execSeti
  try dsimp only
  with_reducible repeat' (first | assumption | apply keep.seqNext | apply keep.setCnt | apply keep.onInstr | split | (intro))

theorem keep.seqAdd {P : Stage → Prop} {q : List Instr} (s : State) (h : Half) (g d : Nat) (src : Option Nat) (imm : Nat) (hs : s.holds P q) : (Sys2Proof.Machine.State.seqAdd s h g d src imm).holds P q := by
  unfold Sys2Proof.Machine.State.seqAdd
  try dsimp only
  with_reducible repeat' (first | assumption | apply keep.seqNext | apply keep.setCnt)

theorem keep.execAdd {P : Stage → Prop} {q : List Instr} (h : Half) (g : Nat) (s : State) (hs : s.holds P q) : outHolds P q (Sys2Proof.Machine.execAdd h g s) := by
  unfold Sys2Proof.Machine.execAdd
  try dsimp only
  with_reducible repeat' (first | assumption | apply keep.seqAdd | apply keep.onInstr | split | (intro))

theorem keep.seqEnd {P : Stage → Prop} {q : List Instr} (s : State) (h : Half) (g : Nat) (hs : s.holds P q) : (Sys2Proof.Machine.State.seqEnd s h g).holds P q := by
  unfold Sys2Proof.Machine.State.seqEnd
  try dsimp only
  with_reducible repeat' (first | assumption | apply keep.add | apply keep.galMaybeEnd | apply keep.modNode | apply keep.modSeq | apply keep.seqState | apply keep.wf | split)

theorem keep.execEndProgram {P : Stage → Prop} {q : List Instr} (h : Half) (g : Nat) (s : State) (hs : s.holds P q) : outHolds P q (Sys2Proof.Machine.execEndProgram h g s) := by
  unfold Sys2Proof.Machine.execEndProgram
  try dsimp only
  with_reducible repeat' (first | assumption | apply keep.seqEnd | apply keep.seqStall | apply keep.onInstr | split | (intro))

theorem keep.stallEnd {P : Stage → Prop} {q : List Instr} (s : State) (h : Half) (g : Nat) (hs : s.holds P q) : (Sys2Proof.Machine.State.stallEnd s h g).holds P q := by
  unfold Sys2Proof.Machine.State.stallEnd
  try dsimp only
  with_reducible repeat' (first | assumption | apply keep.seqCheck | apply keep.seqEnd | apply keep.seqNext | apply keep.seqWave | split)

theorem keep.execSequencerStallEnd {P : Stage → Prop} {q : List Instr} (h : Half) (g : Nat) (s : State) (hs : s.holds P q) : outHolds P q (Sys2Proof.Machine.execSequencerStallEnd h g s) := by
  unfold Sys2Proof.Machine.execSequencerStallEnd
  try dsimp only
  with_reducible repeat' (first | assumption | apply keep.stallEnd | apply keep.whenLive | (intro))

theorem keep.execIllegalInstruction {P : Stage → Prop} {q : List Instr} (h : Half) (g : Nat) (s : State) (hs : s.holds P q) : outHolds P q (Sys2Proof.Machine.execIllegalInstruction h g s) := by
  unfold Sys2Proof.Machine.execIllegalInstruction
  try dsimp only
  with_reducible repeat' (first | assumption | apply keep.stopNode | apply keep.wf | apply keep.whenLive | split | (intro))

theorem keep.execSeqWatchdog {P : Stage → Prop} {q : List Instr} (h : Half) (g : Nat) (s : State) (hs : s.holds P q) : outHolds P q (Sys2Proof.Machine.execSeqWatchdog h g s) := by
  unfold Sys2Proof.Machine.execSeqWatchdog
  try dsimp only
  with_reducible repeat' (first | assumption | apply keep.stopNode | apply keep.whenLive | split | (intro))

theorem keep.galProgWrite {P : Stage → Prop} {q : List Instr} (s : State) (h : Half) (i v : Nat) (hs : s.holds P q) : (Sys2Proof.Machine.State.galProgWrite s h i v).holds P q := by
  unfold Sys2Proof.Machine.State.galProgWrite
  try dsimp only
  with_reducible repeat' (first | assumption | apply keep.log | apply keep.wf | split)

theorem keep.execGalProgWrite {P : Stage → Prop} {q : List Instr} (h : Half) (i v : Nat) (s : State) (hs : s.holds P q) : outHolds P q (Sys2Proof.Machine.execGalProgWrite h i v s) := by
  unfold Sys2Proof.Machine.execGalProgWrite
  try dsimp only
  with_reducible repeat' (first | assumption | apply keep.galProgWrite | apply keep.whenLive | split | (intro))

theorem keep.setCsetState {P : Stage → Prop} {q : List Instr} (s : State) (h : Half) (k v : Nat) (hs : s.holds P q) : (Sys2Proof.Machine.State.setCsetState s h k v).holds P q := by
  unfold Sys2Proof.Machine.State.setCsetState
  try dsimp only
  with_reducible repeat' (first | assumption | apply keep.wf)

theorem keep.regionRefused {P : Stage → Prop} {q : List Instr} (s : State) (h : Half) (k v : Nat) (hs : s.holds P q) : (Sys2Proof.Machine.State.regionRefused s h k v).holds P q := by
  unfold Sys2Proof.Machine.State.regionRefused
  try dsimp only
  with_reducible repeat' (first | assumption | apply keep.log | apply keep.wf)

theorem keep.setCtrlWrite {P : Stage → Prop} {q : List Instr} (s : State) (h : Half) (k v : Nat) (hs : s.holds P q) : (Sys2Proof.Machine.State.setCtrlWrite s h k v).holds P q := by
  unfold Sys2Proof.Machine.State.setCtrlWrite
  try dsimp only
  with_reducible repeat' (first | assumption | apply keep.add | apply keep.log | apply keep.regionRefused | apply keep.setCsetState | apply keep.sub | apply keep.wf | split)

theorem keep.execSdsSetCtrlWrite {P : Stage → Prop} {q : List Instr} (h : Half) (k v : Nat) (s : State) (hs : s.holds P q) : outHolds P q (Sys2Proof.Machine.execSdsSetCtrlWrite h k v s) := by
  unfold Sys2Proof.Machine.execSdsSetCtrlWrite
  try dsimp only
  with_reducible repeat' (first | assumption | apply keep.setCtrlWrite | apply keep.whenLive | split | (intro))

theorem keep.setRegionWrite {P : Stage → Prop} {q : List Instr} (s : State) (h : Half) (k v : Nat) (hs : s.holds P q) : (Sys2Proof.Machine.State.setRegionWrite s h k v).holds P q := by
  unfold Sys2Proof.Machine.State.setRegionWrite
  try dsimp only
  with_reducible repeat' (first | assumption | apply keep.regionRefused | apply keep.wr | split)

theorem keep.execSdsSetRegionWrite {P : Stage → Prop} {q : List Instr} (h : Half) (k v : Nat) (s : State) (hs : s.holds P q) : outHolds P q (Sys2Proof.Machine.execSdsSetRegionWrite h k v s) := by
  unfold Sys2Proof.Machine.execSdsSetRegionWrite
  try dsimp only
  with_reducible repeat' (first | assumption | apply keep.setRegionWrite | apply keep.whenLive | split | (intro))

theorem keep.bindCset {P : Stage → Prop} {q : List Instr} (s : State) (r : NodeRef) (n : Node) (hs : s.holds P q) : (Sys2Proof.Machine.State.bindCset s r n).holds P q := by
  unfold Sys2Proof.Machine.State.bindCset
  try dsimp only
  with_reducible repeat' (first | assumption | apply keep.add | apply keep.modNode)

theorem keep.dispatchCset {P : Stage → Prop} {q : List Instr} (s : State) (r : NodeRef) (n : Node) (hs : s.holds P q) : (Sys2Proof.Machine.State.dispatchCset s r n).1.holds P q := by
  unfold Sys2Proof.Machine.State.dispatchCset
  try dsimp only
  with_reducible repeat' (first | assumption | apply keep.bindCset | apply keep.endNode | apply keep.logNode | apply keep.modNode | split)

theorem keep.lateBind {P : Stage → Prop} {q : List Instr} (s : State) (h : Half) (k : Nat) (hs : s.holds P q) : (Sys2Proof.Machine.State.lateBind s h k).holds P q := by
  unfold Sys2Proof.Machine.State.lateBind
  try dsimp only
  with_reducible repeat' (first | assumption | apply keep.bindCset | apply keep.logNode | apply keep.markNode | apply keep.modNode | apply keep.foldl | split | (intro))

theorem keep.stageBegin {P : Stage → Prop} {q : List Instr} (s : State) (h : Half) (r : NodeRef) (n : Node) (hs : s.holds P q) : (Sys2Proof.Machine.State.stageBegin s h r n).holds P q := by
  unfold Sys2Proof.Machine.State.stageBegin
  try dsimp only
  with_reducible repeat' (first | assumption | apply keep.modHalf | apply keep.setCsetState | apply keep.wf | apply keep.memOf | simp only [↓keep.halfMk] | split)

theorem keep.stageEnd {P : Stage → Prop} {q : List Instr} (s : State) (h : Half) (k st : Nat) (hs : s.holds P q) : (Sys2Proof.Machine.State.stageEnd s h k st).holds P q := by
  unfold Sys2Proof.Machine.State.stageEnd
  try dsimp only
  with_reducible repeat' (first | assumption | apply keep.dropSense | apply keep.modHalf | apply keep.setCsetState | apply keep.wf | apply keep.memOf | simp only [↓keep.halfMk])

theorem keep.stageFails {P : Stage → Prop} {q : List Instr} (s : State) (h : Half) (r : NodeRef) (k : Nat) (mine : Bool) (hs : s.holds P q) : (Sys2Proof.Machine.State.stageFails s h r k mine).holds P q := by
  unfold Sys2Proof.Machine.State.stageFails
  try dsimp only
  with_reducible repeat' (first | assumption | apply keep.endNode | apply keep.logNode | apply keep.modHalf | apply keep.modNode | apply keep.stageEnd | apply keep.wf | apply keep.foldl | apply keep.memOf | simp only [↓keep.halfMk] | split | (intro))

theorem keep.stageSense {P : Stage → Prop} {q : List Instr} (s : State) (h : Half) (n : Node) (hs : s.holds P q) : (Sys2Proof.Machine.State.stageSense s h n).holds P q := by
  unfold Sys2Proof.Machine.State.stageSense
  try dsimp only
  with_reducible repeat' (first | assumption | apply keep.askSense | apply keep.dropSense | apply keep.modHalf | apply keep.memOf | simp only [↓keep.halfMk] | split)

theorem keep.stageStart {P : Stage → Prop} {q : List Instr} (s : State) (h : Half) (r : NodeRef) (n : Node) (hs : s.holds P q) : (Sys2Proof.Machine.State.stageStart s h r n).holds P q := by
  unfold Sys2Proof.Machine.State.stageStart
  try dsimp only
  with_reducible repeat' (first | assumption | apply keep.modHalf | apply keep.setCsetState | apply keep.stageSense | apply keep.t3Get | apply keep.wf | apply keep.memOf | simp only [↓keep.halfMk] | split)

theorem keep.execStage {P : Stage → Prop} {q : List Instr} (h : Half) (s : State) (hs : s.holds P q) : outHolds P q (Sys2Proof.Machine.execStage h s) := by
  unfold Sys2Proof.Machine.execStage
  try dsimp only
  with_reducible repeat' (first | assumption | apply keep.stageFails | apply keep.stageSense | apply keep.stageStart | apply keep.whenLive | split | (intro))

theorem keep.stageBytes {P : Stage → Prop} {q : List Instr} (s : State) (h : Half) (r : NodeRef) (n : Node) (data : List Byte) (chk : Scan) (fault : Bool) (hs : s.holds P q) : (Sys2Proof.Machine.State.stageBytes s h r n data chk fault).1.holds P q := by
  unfold Sys2Proof.Machine.State.stageBytes
  try dsimp only
  with_reducible repeat' (first | assumption | apply keep.checkRead | split)

theorem keep.stageDone {P : Stage → Prop} {q : List Instr} (s : State) (h : Half) (r : NodeRef) (n : Node) (data : List Byte) (chk : Scan) (fault : Bool) (hs : s.holds P q) : (Sys2Proof.Machine.State.stageDone s h r n data chk fault).holds P q := by
  unfold Sys2Proof.Machine.State.stageDone
  try dsimp only
  with_reducible repeat' (first | assumption | apply keep.endNode | apply keep.lateBind | apply keep.modHalf | apply keep.stageBytes | apply keep.stageEnd | apply keep.stageFails | apply keep.memOf | simp only [↓keep.halfMk] | split)

theorem keep.execStageDone {P : Stage → Prop} {q : List Instr} (h : Half) (data : List Byte) (chk : Scan) (fault : Bool) (s : State) (hs : s.holds P q) : outHolds P q (Sys2Proof.Machine.execStageDone h data chk fault s) := by
  unfold Sys2Proof.Machine.execStageDone
  try dsimp only
  with_reducible repeat' (first | assumption | apply keep.stageDone | apply keep.whenLive | split | (intro))

theorem keep.stageAbort {P : Stage → Prop} {q : List Instr} (s : State) (h : Half) (r : NodeRef) (hs : s.holds P q) : (Sys2Proof.Machine.State.stageAbort s h r).holds P q := by
  unfold Sys2Proof.Machine.State.stageAbort
  try dsimp only
  with_reducible repeat' (first | assumption | apply keep.endNode | apply keep.modHalf | apply keep.stageEnd | apply keep.memOf | simp only [↓keep.halfMk] | split)

theorem keep.ctxPut {P : Stage → Prop} {q : List Instr} (s : State) (c : Nat) (t1 : Bool) (a : Nat) (bs : List Byte) (hs : s.holds P q) : (Sys2Proof.Machine.State.ctxPut s c t1 a bs).holds P q := by
  unfold Sys2Proof.Machine.State.ctxPut
  try dsimp only
  with_reducible repeat' (first | assumption | apply keep.storeBytes | apply keep.t3Put | apply keep.translate | split)

theorem keep.dropGraph {P : Stage → Prop} {q : List Instr} (s : State) (c gid : Nat) (hs : s.holds P q) : (Sys2Proof.Machine.State.dropGraph s c gid).holds P q := by
  unfold Sys2Proof.Machine.State.dropGraph
  try dsimp only
  with_reducible repeat' (first | assumption | apply keep.setCtx | apply keep.stamp | apply keep.unpin | apply keep.wf | apply keep.foldl | apply keep.stageOf (P := P) q | apply keep.queueOf P | apply keep.regsOf P q | apply keep.westOf P q | apply keep.eastOf P q | apply keep.bootOf P q | (simp only [↓keep.mk]; refine ⟨?_, ?_, ?_, ?_, ?_, ?_⟩) | split)

theorem keep.cqWrite {P : Stage → Prop} {q : List Instr} (s : State) (c : Nat) (e : CqEntry × Option Nat) (hs : s.holds P q) : (Sys2Proof.Machine.State.cqWrite s c e).holds P q := by
  unfold Sys2Proof.Machine.State.cqWrite
  try dsimp only
  with_reducible repeat' (first | assumption | apply keep.ctxPut | apply keep.dropGraph | apply keep.msix | apply keep.wf | split)

theorem keep.cqDrain {P : Stage → Prop} {qq : List Instr} (s : State) (c k : Nat)  (hs : s.holds P qq) : (s.cqDrain c k).holds P qq := by
  induction k generalizing s with
  | zero => exact hs
  | succ k ih =>
    simp only [State.cqDrain]
    with_reducible repeat' (first | assumption | apply ih | apply keep.cqWrite | apply keep.setCtx | split)

theorem keep.cqPut {P : Stage → Prop} {q : List Instr} (s : State) (c : Nat) (e : CqEntry) (gid : Option Nat) (hs : s.holds P q) : (Sys2Proof.Machine.State.cqPut s c e gid).holds P q := by
  unfold Sys2Proof.Machine.State.cqPut
  try dsimp only
  with_reducible repeat' (first | assumption | apply keep.cqWrite | apply keep.setCtx | apply keep.wf | split)

theorem keep.refuse {P : Stage → Prop} {q : List Instr} (s : State) (c gid reason node : Nat) (hs : s.holds P q) : (Sys2Proof.Machine.State.refuse s c gid reason node).holds P q := by
  unfold Sys2Proof.Machine.State.refuse
  try dsimp only
  with_reducible repeat' (first | assumption | apply keep.add | apply keep.cqPut | apply keep.wf)

theorem keep.t1Fetch {P : Stage → Prop} {q : List Instr} (s : State) (c a len : Nat) (chk : Scan) (hs : s.holds P q) : (Sys2Proof.Machine.State.t1Fetch s c a len chk).1.holds P q := by
  unfold Sys2Proof.Machine.State.t1Fetch
  try dsimp only
  with_reducible repeat' (first | assumption | apply keep.checkRead | split)

theorem keep.t3Fetch {P : Stage → Prop} {q : List Instr} (s : State) (c a len : Nat) (bs : List Byte) (hs : s.holds P q) : (Sys2Proof.Machine.State.t3Fetch s c a len bs).1.holds P q := by
  unfold Sys2Proof.Machine.State.t3Fetch
  try dsimp only
  with_reducible repeat' (first | assumption | apply keep.t3Fail | apply keep.t3Get | split)

theorem keep.t3Page {P : Stage → Prop} {q : List Instr} (s : State) (c a len : Nat) (bs : List Byte) (fault : Bool) (gid : Nat) (hs : s.holds P q) : (Sys2Proof.Machine.State.t3Page s c a len bs fault gid).1.holds P q := by
  unfold Sys2Proof.Machine.State.t3Page
  try dsimp only
  with_reducible repeat' (first | assumption | apply keep.t3Fetch | apply keep.stageOf (P := P) q | apply keep.queueOf P | apply keep.regsOf P q | apply keep.westOf P q | apply keep.eastOf P q | apply keep.bootOf P q | refine keep.ofEq (by assumption) ?_ | split)

theorem keep.readEntry {P : Stage → Prop} {q : List Instr} (s : State) (c : Nat) (entry : List Byte) (fault : Bool) (hs : s.holds P q) : (Sys2Proof.Machine.State.readEntry s c entry fault).1.holds P q := by
  unfold Sys2Proof.Machine.State.readEntry
  try dsimp only
  with_reducible repeat' (first | assumption | apply keep.t1Fetch | apply keep.t3Page | apply keep.stageOf (P := P) q | apply keep.queueOf P | apply keep.regsOf P q | apply keep.westOf P q | apply keep.eastOf P q | apply keep.bootOf P q | refine keep.ofEq (by assumption) ?_ | split)

theorem keep.readDesc {P : Stage → Prop} {q : List Instr} (s : State) (c : Nat) (e desc : List Byte) (fault : Bool) (hs : s.holds P q) : (Sys2Proof.Machine.State.readDesc s c e desc fault).1.holds P q := by
  unfold Sys2Proof.Machine.State.readDesc
  try dsimp only
  with_reducible repeat' (first | assumption | apply keep.t1Fetch | apply keep.t3Page | apply keep.stageOf (P := P) q | apply keep.queueOf P | apply keep.regsOf P q | apply keep.westOf P q | apply keep.eastOf P q | apply keep.bootOf P q | refine keep.ofEq (by assumption) ?_ | split)

theorem keep.entryDone {P : Stage → Prop} {q : List Instr} (s : State) (c : Nat) (hs : s.holds P q) : (Sys2Proof.Machine.State.entryDone s c).holds P q := by
  unfold Sys2Proof.Machine.State.entryDone
  try dsimp only
  with_reducible repeat' (first | assumption | apply keep.wf | apply keep.stageOf (P := P) q | apply keep.queueOf P | apply keep.regsOf P q | apply keep.westOf P q | apply keep.eastOf P q | apply keep.bootOf P q | (simp only [↓keep.mk]; refine ⟨?_, ?_, ?_, ?_, ?_, ?_⟩))

theorem keep.refuseSource {P : Stage → Prop} {q : List Instr} (s : State) (c gid : Nat) (hs : s.holds P q) : (Sys2Proof.Machine.State.refuseSource s c gid).holds P q := by
  unfold Sys2Proof.Machine.State.refuseSource
  try dsimp only
  with_reducible repeat' (first | assumption | apply keep.entryDone | apply keep.refuse)

theorem keep.jctAsk {P : Stage → Prop} {q : List Instr} (s : State) (c addr gid : Nat) (hs : s.holds P q) : (Sys2Proof.Machine.State.jctAsk s c addr gid).holds P q := by
  unfold Sys2Proof.Machine.State.jctAsk
  try dsimp only
  with_reducible repeat' (first | assumption | apply keep.pageQueue | apply keep.refuseSource | apply keep.stageOf (P := P) q | apply keep.queueOf P | apply keep.regsOf P q | apply keep.westOf P q | apply keep.eastOf P q | apply keep.bootOf P q | (simp only [↓keep.mk]; refine ⟨?_, ?_, ?_, ?_, ?_, ?_⟩) | split)

theorem keep.graphTake {P : Stage → Prop} {q : List Instr} (s : State) (c : Nat) (e d : List Byte) (hs : s.holds P q) : (Sys2Proof.Machine.State.graphTake s c e d).holds P q := by
  unfold Sys2Proof.Machine.State.graphTake
  try dsimp only
  with_reducible repeat' (first | assumption | apply keep.entryDone | apply keep.refuse | apply keep.setCtx | apply keep.stamp | split)

theorem keep.graphRead {P : Stage → Prop} {q : List Instr} (s : State) (c : Nat) (entry desc : List Byte) (fault : Bool) (hs : s.holds P q) : (Sys2Proof.Machine.State.graphRead s c entry desc fault).holds P q := by
  unfold Sys2Proof.Machine.State.graphRead
  try dsimp only
  with_reducible repeat' (first | assumption | apply keep.graphTake | apply keep.jctAsk | apply keep.readDesc | apply keep.readEntry | apply keep.refuseSource | refine keep.ofEq (by assumption) ?_ | split)

theorem keep.execGraphRead {P : Stage → Prop} {q : List Instr} (c : Nat) (entry desc : List Byte) (fault : Bool) (s : State) (hs : s.holds P q) : outHolds P q (Sys2Proof.Machine.execGraphRead c entry desc fault s) := by
  unfold Sys2Proof.Machine.execGraphRead
  try dsimp only
  with_reducible repeat' (first | assumption | apply keep.graphRead | apply keep.whenLive | split | (intro))

theorem keep.dropPage {P : Stage → Prop} {q : List Instr} (s : State) (c : Nat) (hs : s.holds P q) : (Sys2Proof.Machine.State.dropPage s c).holds P q := by
  unfold Sys2Proof.Machine.State.dropPage
  try dsimp only
  with_reducible repeat' (first | assumption | apply keep.requestGone | apply keep.stageOf (P := P) q | apply keep.queueOf P | apply keep.regsOf P q | apply keep.westOf P q | apply keep.eastOf P q | apply keep.bootOf P q | (simp only [↓keep.mk]; refine ⟨?_, ?_, ?_, ?_, ?_, ?_⟩) | split)

theorem keep.jctPageEnds {P : Stage → Prop} {q : List Instr} (s : State) (ok : Bool) (hs : s.holds P q) : (Sys2Proof.Machine.State.jctPageEnds s ok).holds P q := by
  unfold Sys2Proof.Machine.State.jctPageEnds
  try dsimp only
  with_reducible repeat' (first | assumption | apply keep.refuseSource | apply keep.requestGone | apply keep.stageOf (P := P) q | apply keep.queueOf P | apply keep.regsOf P q | apply keep.westOf P q | apply keep.eastOf P q | apply keep.bootOf P q | (simp only [↓keep.mk]; refine ⟨?_, ?_, ?_, ?_, ?_, ?_⟩) | split)

theorem keep.execPageResponse {P : Stage → Prop} {q : List Instr} (e : Nat) (code : PageResp) (s : State) (hs : s.holds P q) : outHolds P q (Sys2Proof.Machine.execPageResponse e code s) := by
  unfold Sys2Proof.Machine.execPageResponse
  try dsimp only
  with_reducible repeat' (first | assumption | apply keep.jctPageEnds | apply keep.pageFail | apply keep.requestEnds | apply keep.setStrState | apply keep.whenLive | split | (intro))

theorem keep.execPageRequestTimeout {P : Stage → Prop} {q : List Instr} (e : Nat) (s : State) (hs : s.holds P q) : outHolds P q (Sys2Proof.Machine.execPageRequestTimeout e s) := by
  unfold Sys2Proof.Machine.execPageRequestTimeout
  try dsimp only
  with_reducible repeat' (first | assumption | apply keep.jctPageEnds | apply keep.pageFail | apply keep.whenLive | split | (intro))

theorem keep.admitGraph {P : Stage → Prop} {q : List Instr} (s : State) (c : Nat) (g : Graph) (hs : s.holds P q) : (Sys2Proof.Machine.State.admitGraph s c g).holds P q := by
  unfold Sys2Proof.Machine.State.admitGraph
  try dsimp only
  with_reducible repeat' (first | assumption | apply keep.keepWakes | apply keep.passControl | apply keep.pin | apply keep.refuse | apply keep.setCtx | apply keep.foldl | apply keep.stageOf (P := P) q | apply keep.queueOf P | apply keep.regsOf P q | apply keep.westOf P q | apply keep.eastOf P q | apply keep.bootOf P q | (simp only [↓keep.mk]; refine ⟨?_, ?_, ?_, ?_, ?_, ?_⟩) | split)

theorem keep.admissionPoint {P : Stage → Prop} {q : List Instr} (s : State) (c : Nat) (hs : s.holds P q) : (Sys2Proof.Machine.State.admissionPoint s c).holds P q := by
  unfold Sys2Proof.Machine.State.admissionPoint
  try dsimp only
  with_reducible repeat' (first | assumption | apply keep.admitGraph | split)

theorem keep.execAdmissionPoint {P : Stage → Prop} {q : List Instr} (c : Nat) (s : State) (hs : s.holds P q) : outHolds P q (Sys2Proof.Machine.execAdmissionPoint c s) := by
  unfold Sys2Proof.Machine.execAdmissionPoint
  try dsimp only
  with_reducible repeat' (first | assumption | apply keep.admissionPoint | apply keep.whenLive | split | (intro))

theorem keep.execReserveTimeout {P : Stage → Prop} {q : List Instr} (c : Nat) (s : State) (hs : s.holds P q) : outHolds P q (Sys2Proof.Machine.execReserveTimeout c s) := by
  unfold Sys2Proof.Machine.execReserveTimeout
  try dsimp only
  with_reducible repeat' (first | assumption | apply keep.setCtx | apply keep.whenLive | split | (intro))

theorem keep.released1 {P : Stage → Prop} {q : List Instr} (s : State) (r : NodeRef) (hs : s.holds P q) : (Sys2Proof.Machine.State.released1 s r).holds P q := by
  unfold Sys2Proof.Machine.State.released1
  try dsimp only
  with_reducible repeat' (first | assumption | apply keep.modNode)

theorem keep.actToken {P : Stage → Prop} {q : List Instr} (s : State) (h : Half) (t : Token) (hs : s.holds P q) : (Sys2Proof.Machine.State.actToken s h t).holds P q := by
  unfold Sys2Proof.Machine.State.actToken
  try dsimp only
  with_reducible repeat' (first | assumption | apply keep.modHalf | apply keep.released1 | apply keep.memOf | simp only [↓keep.halfMk] | split)

theorem keep.tokenIn {P : Stage → Prop} {q : List Instr} (s : State) (h : Half) (t : Token) (hs : s.holds P q) : (Sys2Proof.Machine.State.tokenIn s h t).holds P q := by
  unfold Sys2Proof.Machine.State.tokenIn
  try dsimp only
  with_reducible repeat' (first | assumption | apply keep.actToken | apply keep.add | apply keep.stamp)

theorem keep.tokenArrive {P : Stage → Prop} {q : List Instr} (s : State) (h : Half) (hs : s.holds P q) : (Sys2Proof.Machine.State.tokenArrive s h).holds P q := by
  unfold Sys2Proof.Machine.State.tokenArrive
  try dsimp only
  with_reducible repeat' (first | assumption | apply keep.modHalf | apply keep.tokenIn | apply keep.sentOf | split | (intro))

theorem keep.execTokenArrive {P : Stage → Prop} {q : List Instr} (h : Half) (s : State) (hs : s.holds P q) : outHolds P q (Sys2Proof.Machine.execTokenArrive h s) := by
  unfold Sys2Proof.Machine.execTokenArrive
  try dsimp only
  with_reducible repeat' (first | assumption | apply keep.tokenArrive | apply keep.whenLive | (intro))

theorem keep.admitEast {P : Stage → Prop} {q : List Instr} (s0 : State) (c gid seq : Nat) (hs : s0.holds P q) : (Sys2Proof.Machine.State.admitEast s0 c gid seq).holds P q := by
  unfold Sys2Proof.Machine.State.admitEast
  try dsimp only
  with_reducible repeat' (first | assumption | apply keep.actToken | apply keep.modGraph | apply keep.modHalf | apply keep.stamp | apply keep.foldl | apply keep.memOf | simp only [↓keep.halfMk] | (intro))

theorem keep.execAdmissionMsgArrive {P : Stage → Prop} {q : List Instr} (s : State) (hs : s.holds P q) : outHolds P q (Sys2Proof.Machine.execAdmissionMsgArrive s) := by
  unfold Sys2Proof.Machine.execAdmissionMsgArrive
  try dsimp only
  with_reducible repeat' (first | assumption | apply keep.admitEast | apply keep.modHalf | apply keep.whenLive | apply keep.sentOf | split | (intro))

theorem keep.escalate {P : Stage → Prop} {q : List Instr} (s : State) (r : NodeRef) (hs : s.holds P q) : (Sys2Proof.Machine.State.escalate s r).holds P q := by
  unfold Sys2Proof.Machine.State.escalate
  try dsimp only
  with_reducible repeat' (first | assumption | apply keep.add | apply keep.modNode | apply keep.wf | apply keep.stageOf (P := P) q | apply keep.queueOf P | apply keep.regsOf P q | apply keep.westOf P q | apply keep.eastOf P q | apply keep.bootOf P q | (simp only [↓keep.mk]; refine ⟨?_, ?_, ?_, ?_, ?_, ?_⟩) | split)

theorem keep.execEscalation {P : Stage → Prop} {q : List Instr} (r : NodeRef) (s : State) (hs : s.holds P q) : outHolds P q (Sys2Proof.Machine.execEscalation r s) := by
  unfold Sys2Proof.Machine.execEscalation
  try dsimp only
  with_reducible repeat' (first | assumption | apply keep.escalate | apply keep.whenLive | (intro))

theorem keep.takeUnit {P : Stage → Prop} {q : List Instr} (s : State) (r : NodeRef) (n : Node) (hs : s.holds P q) : (Sys2Proof.Machine.State.takeUnit s r n).holds P q := by
  unfold Sys2Proof.Machine.State.takeUnit
  try dsimp only
  with_reducible repeat' (first | assumption | apply keep.arm | apply keep.cswBegin | apply keep.modHalf | apply keep.plazaBegin | apply keep.setGal | apply keep.foldl | apply keep.memOf | simp only [↓keep.halfMk] | split | (intro))

theorem keep.freeUnit {P : Stage → Prop} {q : List Instr} (s : State) (r : NodeRef) (n : Node) (hs : s.holds P q) : (Sys2Proof.Machine.State.freeUnit s r n).holds P q := by
  unfold Sys2Proof.Machine.State.freeUnit
  try dsimp only
  with_reducible repeat' (first | assumption | apply keep.engClear | apply keep.modEng | apply keep.modHalf | apply keep.plazaIdle | apply keep.setGal | apply keep.wf | apply keep.foldl | apply keep.memOf | simp only [↓keep.halfMk] | split | (intro))

theorem keep.afterBind {P : Stage → Prop} {q : List Instr} (r : NodeRef) (s : State) (hs : s.holds P q) : (Sys2Proof.Machine.State.afterBind r s).holds P q := by
  unfold Sys2Proof.Machine.State.afterBind
  try dsimp only
  with_reducible repeat' (first | assumption | apply keep.dispatchCset | apply keep.endNode | apply keep.modNode | apply keep.stageBegin | apply keep.wakeAll | apply keep.stageOf (P := P) q | apply keep.queueOf P | apply keep.regsOf P q | apply keep.westOf P q | apply keep.eastOf P q | apply keep.bootOf P q | split)

theorem keep.dispatch {P : Stage → Prop} {q : List Instr} (s : State) (h : Half) (x : Ready) (hs : s.holds P q) : (Sys2Proof.Machine.State.dispatch s h x).holds P q := by
  unfold Sys2Proof.Machine.State.dispatch
  try dsimp only
  with_reducible repeat' (first | assumption | apply keep.add | apply keep.afterBind | apply keep.endNode | apply keep.modNode | apply keep.takeUnit | apply keep.tryBind | split)

theorem keep.rebind {P : Stage → Prop} {q : List Instr} (s : State) (hs : s.holds P q) : (Sys2Proof.Machine.State.rebind s).holds P q := by
  unfold Sys2Proof.Machine.State.rebind
  try dsimp only
  with_reducible repeat' (first | assumption | apply keep.afterBind | apply keep.tryBind | apply keep.foldl | (intro))

theorem keep.execNodeDispatch {P : Stage → Prop} {q : List Instr} (h : Half) (u : UnitRef) (s : State) (hs : s.holds P q) : outHolds P q (Sys2Proof.Machine.execNodeDispatch h u s) := by
  unfold Sys2Proof.Machine.execNodeDispatch
  try dsimp only
  with_reducible repeat' (first | assumption | apply keep.dispatch | apply keep.whenLive | split | (intro))

theorem keep.putStatus {P : Stage → Prop} {q : List Instr} (s : State) (g : Graph) (i w : Nat) (hs : s.holds P q) : (Sys2Proof.Machine.State.putStatus s g i w).holds P q := by
  unfold Sys2Proof.Machine.State.putStatus
  try dsimp only
  with_reducible repeat' (first | assumption | apply keep.ctxPut | apply keep.storeBytes | split)

theorem keep.graphStatus {P : Stage → Prop} {q : List Instr} (s : State) (g : Graph) (hs : s.holds P q) : (Sys2Proof.Machine.State.graphStatus s g).1.holds P q := by
  unfold Sys2Proof.Machine.State.graphStatus
  try dsimp only
  with_reducible repeat' (first | assumption | apply keep.fresh | split)

theorem keep.graphEnd {P : Stage → Prop} {q : List Instr} (s : State) (g : Graph) (hs : s.holds P q) : (Sys2Proof.Machine.State.graphEnd s g).holds P q := by
  unfold Sys2Proof.Machine.State.graphEnd
  try dsimp only
  with_reducible repeat' (first | assumption | apply keep.cqPut | apply keep.graphStatus | apply keep.modGraph | apply keep.putStatus | apply keep.foldl | (intro))

theorem keep.graphMaybeEnd {P : Stage → Prop} {q : List Instr} (s : State) (c gid : Nat) (hs : s.holds P q) : (Sys2Proof.Machine.State.graphMaybeEnd s c gid).holds P q := by
  unfold Sys2Proof.Machine.State.graphMaybeEnd
  try dsimp only
  with_reducible repeat' (first | assumption | apply keep.graphEnd | split)

theorem keep.releaseEdges {P : Stage → Prop} {q : List Instr} (s0 : State) (g : Graph) (n : Node) (i : Nat) (hs : s0.holds P q) : (Sys2Proof.Machine.State.releaseEdges s0 g n i).holds P q := by
  unfold Sys2Proof.Machine.State.releaseEdges
  try dsimp only
  with_reducible repeat' (first | assumption | apply keep.add | apply keep.passToken | apply keep.released1 | apply keep.stamp | apply keep.foldl | split | (intro))

theorem keep.nodeLeaves {P : Stage → Prop} {q : List Instr} (s : State) (r : NodeRef) (n : Node) (hs : s.holds P q) : (Sys2Proof.Machine.State.nodeLeaves s r n).holds P q := by
  unfold Sys2Proof.Machine.State.nodeLeaves
  try dsimp only
  with_reducible repeat' (first | assumption | apply keep.freeUnit | apply keep.modNode | apply keep.sub | apply keep.unbindObject | apply keep.foldl | split | (intro))

theorem keep.nodeComplete {P : Stage → Prop} {q : List Instr} (s : State) (r : NodeRef) (hs : s.holds P q) : (Sys2Proof.Machine.State.nodeComplete s r).holds P q := by
  unfold Sys2Proof.Machine.State.nodeComplete
  try dsimp only
  with_reducible repeat' (first | assumption | apply keep.cqPut | apply keep.graphMaybeEnd | apply keep.modNode | apply keep.nodeLeaves | apply keep.putStatus | apply keep.rebind | apply keep.releaseEdges | apply keep.wf | split)

theorem keep.execNodeComplete {P : Stage → Prop} {q : List Instr} (r : NodeRef) (s : State) (hs : s.holds P q) : outHolds P q (Sys2Proof.Machine.execNodeComplete r s) := by
  unfold Sys2Proof.Machine.execNodeComplete
  try dsimp only
  with_reducible repeat' (first | assumption | apply keep.nodeComplete | apply keep.whenLive | (intro))

theorem keep.dropUnstarted {P : Stage → Prop} {q : List Instr} (s : State) (h : Half) (g : Nat) (n : Node) (hs : s.holds P q) : (Sys2Proof.Machine.State.dropUnstarted s h g n).holds P q := by
  unfold Sys2Proof.Machine.State.dropUnstarted
  try dsimp only
  with_reducible repeat' (first | assumption | apply keep.seamsWf | apply keep.setGal | apply keep.foldl | (intro))

theorem keep.galAbort {P : Stage → Prop} {q : List Instr} (s : State) (r : NodeRef) (n : Node) (hs : s.holds P q) : (Sys2Proof.Machine.State.galAbort s r n).holds P q := by
  unfold Sys2Proof.Machine.State.galAbort
  try dsimp only
  with_reducible repeat' (first | assumption | apply keep.dropUnstarted | apply keep.galMaybeEnd | apply keep.haltSeqs | apply keep.markNode | apply keep.modNode | apply keep.foldl | (intro))

theorem keep.dropWaits {P : Stage → Prop} {q : List Instr} (s : State) (h : Half) (src : MemSrc) (hs : s.holds P q) : (Sys2Proof.Machine.State.dropWaits s h src).holds P q := by
  unfold Sys2Proof.Machine.State.dropWaits
  try dsimp only
  with_reducible repeat' (first | assumption | apply keep.dropBacking | apply keep.modMem | apply keep.foldl | apply keep.t1Of | apply keep.t2Of | (simp only [↓keep.memMk]; refine ⟨?_, ?_⟩) | (intro))

theorem keep.memAbort {P : Stage → Prop} {q : List Instr} (s : State) (r : NodeRef) (n : Node) (hs : s.holds P q) : (Sys2Proof.Machine.State.memAbort s r n).holds P q := by
  unfold Sys2Proof.Machine.State.memAbort
  try dsimp only
  with_reducible repeat' (first | assumption | apply keep.dropCopy | apply keep.dropDest | apply keep.dropWaits | apply keep.endNodeD | apply keep.home | apply keep.markNode | apply keep.memRecheck | apply keep.modMem | apply keep.foldl | apply keep.t1Of | apply keep.t2Of | (simp only [↓keep.memMk]; refine ⟨?_, ?_⟩) | split | (intro))

theorem keep.abortNode {P : Stage → Prop} {q : List Instr} (s : State) (r : NodeRef) (n : Node) (hs : s.holds P q) : (Sys2Proof.Machine.State.abortNode s r n).holds P q := by
  unfold Sys2Proof.Machine.State.abortNode
  try dsimp only
  with_reducible repeat' (first | assumption | apply keep.abortEngineNode | apply keep.cswAbort | apply keep.endNode | apply keep.galAbort | apply keep.markNode | apply keep.memAbort | apply keep.plazaAbort | apply keep.stageAbort | split)

theorem keep.abortGraph {P : Stage → Prop} {q : List Instr} (s : State) (c gid : Nat) (hs : s.holds P q) : (Sys2Proof.Machine.State.abortGraph s c gid).holds P q := by
  unfold Sys2Proof.Machine.State.abortGraph
  try dsimp only
  with_reducible repeat' (first | assumption | apply keep.abortNode | apply keep.graphMaybeEnd | apply keep.modGraph | apply keep.foldl | split | (intro))

theorem keep.abortCtx {P : Stage → Prop} {q : List Instr} (s : State) (c : Nat) (hs : s.holds P q) : (Sys2Proof.Machine.State.abortCtx s c).holds P q := by
  unfold Sys2Proof.Machine.State.abortCtx
  try dsimp only
  with_reducible repeat' (first | assumption | apply keep.abortGraph | apply keep.dropPage | apply keep.refuse | apply keep.setCtx | apply keep.wf | apply keep.foldl | split | (intro))

theorem keep.jctSet {P : Stage → Prop} {q : List Instr} (s : State) (op c node gid : Nat) (hs : s.holds P q) : (Sys2Proof.Machine.State.jctSet s op c node gid).holds P q := by
  unfold Sys2Proof.Machine.State.jctSet
  try dsimp only
  with_reducible repeat' (first | assumption | apply keep.wf)

theorem keep.jctDone {P : Stage → Prop} {q : List Instr} (s : State) (code : Nat) (hs : s.holds P q) : (Sys2Proof.Machine.State.jctDone s code).holds P q := by
  unfold Sys2Proof.Machine.State.jctDone
  try dsimp only
  with_reducible repeat' (first | assumption | apply keep.wf)

theorem keep.jctAwait {P : Stage → Prop} {q : List Instr} (s : State) (c : Nat) (gids : List Nat) (hs : s.holds P q) : (Sys2Proof.Machine.State.jctAwait s c gids).holds P q := by
  unfold Sys2Proof.Machine.State.jctAwait
  try dsimp only
  with_reducible repeat' (first | assumption | apply keep.wf | apply keep.stageOf (P := P) q | apply keep.queueOf P | apply keep.regsOf P q | apply keep.westOf P q | apply keep.eastOf P q | apply keep.bootOf P q | (simp only [↓keep.mk]; refine ⟨?_, ?_, ?_, ?_, ?_, ?_⟩) | split)

theorem keep.denied {P : Stage → Prop} {q : List Instr} (s : State) (func v : Nat) (hs : s.holds P q) : (Sys2Proof.Machine.State.denied s func v).holds P q := by
  unfold Sys2Proof.Machine.State.denied
  try dsimp only
  with_reducible repeat' (first | assumption | apply keep.jctDone | apply keep.log)

theorem keep.goAbortGraph {P : Stage → Prop} {q : List Instr} (s : State) (func c gid : Nat) (hs : s.holds P q) : (Sys2Proof.Machine.State.goAbortGraph s func c gid).holds P q := by
  unfold Sys2Proof.Machine.State.goAbortGraph
  try dsimp only
  with_reducible repeat' (first | assumption | apply keep.abortGraph | apply keep.denied | apply keep.jctAwait | split)

theorem keep.goAbortContext {P : Stage → Prop} {q : List Instr} (s : State) (func c : Nat) (hs : s.holds P q) : (Sys2Proof.Machine.State.goAbortContext s func c).holds P q := by
  unfold Sys2Proof.Machine.State.goAbortContext
  try dsimp only
  with_reducible repeat' (first | assumption | apply keep.abortCtx | apply keep.denied | apply keep.jctAwait | split)

theorem keep.goRetry {P : Stage → Prop} {q : List Instr} (s : State) (func c gid node : Nat) (bytes : List Byte) (hs : s.holds P q) : (Sys2Proof.Machine.State.goRetry s func c gid node bytes).holds P q := by
  unfold Sys2Proof.Machine.State.goRetry
  try dsimp only
  with_reducible repeat' (first | assumption | apply keep.denied | apply keep.jctDone | apply keep.modNode | apply keep.stamp | apply keep.t1Fetch | apply keep.t3Fetch | apply keep.wf | refine keep.ofEq (by assumption) ?_ | split)

theorem keep.execAbortGraph {P : Stage → Prop} {q : List Instr} (func c gid : Nat) (s : State) (hs : s.holds P q) : outHolds P q (Sys2Proof.Machine.execAbortGraph func c gid s) := by
  unfold Sys2Proof.Machine.execAbortGraph
  try dsimp only
  with_reducible repeat' (first | assumption | apply keep.goAbortGraph | apply keep.jctSet | apply keep.whenLive | split | (intro))

theorem keep.execAbortContext {P : Stage → Prop} {q : List Instr} (func c : Nat) (s : State) (hs : s.holds P q) : outHolds P q (Sys2Proof.Machine.execAbortContext func c s) := by
  unfold Sys2Proof.Machine.execAbortContext
  try dsimp only
  with_reducible repeat' (first | assumption | apply keep.goAbortContext | apply keep.jctSet | apply keep.whenLive | split | (intro))

theorem keep.execRetryNode {P : Stage → Prop} {q : List Instr} (func c gid node : Nat) (bytes : List Byte) (s : State) (hs : s.holds P q) : outHolds P q (Sys2Proof.Machine.execRetryNode func c gid node bytes s) := by
  unfold Sys2Proof.Machine.execRetryNode
  try dsimp only
  with_reducible repeat' (first | assumption | apply keep.goRetry | apply keep.jctSet | apply keep.whenLive | split | (intro))

theorem keep.ctxCfgWrite {P : Stage → Prop} {q : List Instr} (s : State) (c v : Nat) (hs : s.holds P q) : (Sys2Proof.Machine.State.ctxCfgWrite s c v).holds P q := by
  unfold Sys2Proof.Machine.State.ctxCfgWrite
  try dsimp only
  with_reducible repeat' (first | assumption | apply keep.dropPage | apply keep.keepWakes | apply keep.log | apply keep.wf | apply keep.wr | split)

theorem keep.execCtxCfgWrite {P : Stage → Prop} {q : List Instr} (c v : Nat) (s : State) (hs : s.holds P q) : outHolds P q (Sys2Proof.Machine.execCtxCfgWrite c v s) := by
  unfold Sys2Proof.Machine.execCtxCfgWrite
  try dsimp only
  with_reducible repeat' (first | assumption | apply keep.ctxCfgWrite | apply keep.whenLive | split | (intro))

theorem keep.dbBad {P : Stage → Prop} {q : List Instr} (s : State) (f : Fld) (func c v : Nat) (hs : s.holds P q) : (Sys2Proof.Machine.State.dbBad s f func c v).holds P q := by
  unfold Sys2Proof.Machine.State.dbBad
  try dsimp only
  with_reducible repeat' (first | assumption | apply keep.log | apply keep.wf)

theorem keep.dbCheck {P : Stage → Prop} {qq : List Instr} (s : State) (func c v limit : Nat)  (hs : s.holds P qq) : ∀ t, s.dbCheck func c v limit = some t → t.holds P qq := by
  intro t ht
  unfold State.dbCheck at ht
  repeat' split at ht
  all_goals cases ht
  all_goals with_reducible repeat' (first | assumption | apply keep.dbBad | apply keep.log | apply keep.wf)

theorem keep.sqBell {P : Stage → Prop} {qq : List Instr} (s : State) (func c v : Nat)  (hs : s.holds P qq) : (s.sqBell func c v).holds P qq := by
  unfold State.sqBell
  split
  · cases hd : s.dbCheck func c v (s.sqSize c) with
    | none => exact keep.wf hs _ _ _
    | some t => exact keep.dbCheck s func c v _ hs t hd
  · exact hs

theorem keep.execSqDoorbell {P : Stage → Prop} {q : List Instr} (func c v : Nat) (s : State) (hs : s.holds P q) : outHolds P q (Sys2Proof.Machine.execSqDoorbell func c v s) := by
  unfold Sys2Proof.Machine.execSqDoorbell
  try dsimp only
  with_reducible repeat' (first | assumption | apply keep.sqBell | apply keep.whenLive | (intro))

theorem keep.cqHeadSet {P : Stage → Prop} {q : List Instr} (s : State) (c v : Nat) (hs : s.holds P q) : (Sys2Proof.Machine.State.cqHeadSet s c v).holds P q := by
  unfold Sys2Proof.Machine.State.cqHeadSet
  try dsimp only
  with_reducible repeat' (first | assumption | apply keep.cqDrain | apply keep.wf)

theorem keep.cqBell {P : Stage → Prop} {qq : List Instr} (s : State) (func c v : Nat)  (hs : s.holds P qq) : (s.cqBell func c v).holds P qq := by
  unfold State.cqBell
  dsimp only
  split
  · split
    · exact keep.dbCheck s func c v _ hs _ ‹_›
    · split
      · exact keep.dbBad _ _ _ _ _ hs
      · exact keep.cqHeadSet _ _ _ hs
  · exact hs

theorem keep.execCqDoorbell {P : Stage → Prop} {q : List Instr} (func c v : Nat) (s : State) (hs : s.holds P q) : outHolds P q (Sys2Proof.Machine.execCqDoorbell func c v s) := by
  unfold Sys2Proof.Machine.execCqDoorbell
  try dsimp only
  with_reducible repeat' (first | assumption | apply keep.cqBell | apply keep.whenLive | (intro))

theorem keep.execEvictDone {P : Stage → Prop} {q : List Instr} (h : Half) (i : Nat) (chk : Scan) (s : State) (hs : s.holds P q) : outHolds P q (Sys2Proof.Machine.execEvictDone h i chk s) := by
  unfold Sys2Proof.Machine.execEvictDone
  try dsimp only
  with_reducible repeat' (first | assumption | apply keep.evictDone | apply keep.rebind | apply keep.whenLive | (intro))

theorem keep.execMoveCopyDone {P : Stage → Prop} {q : List Instr} (h : Half) (i : Nat) (chk : Scan) (s : State) (hs : s.holds P q) : outHolds P q (Sys2Proof.Machine.execMoveCopyDone h i chk s) := by
  unfold Sys2Proof.Machine.execMoveCopyDone
  try dsimp only
  with_reducible repeat' (first | assumption | apply keep.moveCopyDone | apply keep.rebind | apply keep.whenLive | (intro))

theorem keep.modLdr {P : Stage → Prop} {q : List Instr} (s : State) (h : Half) (f : LoaderSt → LoaderSt) (hs : s.holds P q) : (Sys2Proof.Machine.State.modLdr s h f).holds P q := by
  unfold Sys2Proof.Machine.State.modLdr
  try dsimp only
  with_reducible repeat' (first | assumption | apply keep.modHalf | apply keep.memOf | simp only [↓keep.halfMk])

theorem keep.ldScan {P : Stage → Prop} {q : List Instr} (s : State) (h : Half) (tier a len : Nat) (chk : Scan) (hs : s.holds P q) : (Sys2Proof.Machine.State.ldScan s h tier a len chk).1.holds P q := by
  unfold Sys2Proof.Machine.State.ldScan
  try dsimp only
  with_reducible repeat' (first | assumption | apply keep.countBad | apply keep.findBad | apply keep.logWord | apply keep.scanCount | split)

theorem keep.ldrRead {P : Stage → Prop} {q : List Instr} (s : State) (h : Half) (t3 : List Byte) (hs : s.holds P q) : (Sys2Proof.Machine.State.ldrRead s h t3).1.holds P q := by
  unfold Sys2Proof.Machine.State.ldrRead
  try dsimp only
  with_reducible repeat' (first | assumption | apply keep.ldScan | apply keep.t3Fail | apply keep.t3Get | split)

theorem keep.execLdrDoorbell {P : Stage → Prop} {q : List Instr} (h : Half) (tail : Nat) (s : State) (hs : s.holds P q) : outHolds P q (Sys2Proof.Machine.execLdrDoorbell h tail s) := by
  unfold Sys2Proof.Machine.execLdrDoorbell
  try dsimp only
  with_reducible repeat' (first | assumption | apply keep.wf | apply keep.whenLive | (intro))

theorem keep.ldEnd {P : Stage → Prop} {q : List Instr} (s : State) (h : Half) (code : Nat) (hs : s.holds P q) : (Sys2Proof.Machine.State.ldEnd s h code).holds P q := by
  unfold Sys2Proof.Machine.State.ldEnd
  try dsimp only
  with_reducible repeat' (first | assumption | apply keep.modHalf | apply keep.modLdr | apply keep.rqDetach | apply keep.memOf | simp only [↓keep.halfMk] | split)

theorem keep.ldGood {P : Stage → Prop} {q : List Instr} (s : State) (h : Half) (hs : s.holds P q) : (Sys2Proof.Machine.State.ldGood s h).holds P q := by
  unfold Sys2Proof.Machine.State.ldGood
  try dsimp only
  with_reducible repeat' (first | assumption | apply keep.ldEnd)

theorem keep.ldNext {P : Stage → Prop} {q : List Instr} (s : State) (h : Half) (hs : s.holds P q) : (Sys2Proof.Machine.State.ldNext s h).holds P q := by
  unfold Sys2Proof.Machine.State.ldNext
  try dsimp only
  with_reducible repeat' (first | assumption | apply keep.ldGood | apply keep.modLdr | apply keep.setEn | apply keep.foldl | split | (intro))

theorem keep.keyAsk {P : Stage → Prop} {q : List Instr} (s : State) (h : Half) (wrapped : List Byte) (hs : s.holds P q) : (Sys2Proof.Machine.State.keyAsk s h wrapped).holds P q := by
  unfold Sys2Proof.Machine.State.keyAsk
  try dsimp only
  with_reducible repeat' (first | assumption | apply keep.modLdr | apply keep.passControl | split)

theorem keep.ldW7 {P : Stage → Prop} {q : List Instr} (s : State) (h : Half) (hd : List Byte) (hs : s.holds P q) : (Sys2Proof.Machine.State.ldW7 s h hd).holds P q := by
  unfold Sys2Proof.Machine.State.ldW7
  try dsimp only
  with_reducible repeat' (first | assumption | apply keep.modLdr | apply keep.setW7 | apply keep.foldl | split | (intro))

theorem keep.ldList {P : Stage → Prop} {q : List Instr} (s : State) (h : Half) (todo : List (List Byte)) (hs : s.holds P q) : (Sys2Proof.Machine.State.ldList s h todo).holds P q := by
  unfold Sys2Proof.Machine.State.ldList
  try dsimp only
  with_reducible repeat' (first | assumption | apply keep.modLdr)

theorem keep.ldGo {P : Stage → Prop} {q : List Instr} (s : State) (h : Half) (hs : s.holds P q) : (Sys2Proof.Machine.State.ldGo s h).holds P q := by
  unfold Sys2Proof.Machine.State.ldGo
  try dsimp only
  with_reducible repeat' (first | assumption | apply keep.ldEnd | apply keep.ldList | apply keep.ldNext | apply keep.ldW7 | apply keep.modLdr | split)

theorem keep.ldStep {P : Stage → Prop} {q : List Instr} (s : State) (h : Half) (hs : s.holds P q) : (Sys2Proof.Machine.State.ldStep s h).holds P q := by
  unfold Sys2Proof.Machine.State.ldStep
  try dsimp only
  with_reducible repeat' (first | assumption | apply keep.keyAsk | apply keep.ldGo | split)

theorem keep.ldAdd {P : Stage → Prop} {q : List Instr} (s : State) (h : Half) (bs : List Byte) (failed : Bool) (hs : s.holds P q) : (Sys2Proof.Machine.State.ldAdd s h bs failed).holds P q := by
  unfold Sys2Proof.Machine.State.ldAdd
  try dsimp only
  with_reducible repeat' (first | assumption | apply keep.modLdr)

theorem keep.ldQueue {P : Stage → Prop} {q : List Instr} (s : State) (h : Half) (chk : Scan) (hs : s.holds P q) : (Sys2Proof.Machine.State.ldQueue s h chk).holds P q := by
  unfold Sys2Proof.Machine.State.ldQueue
  try dsimp only
  with_reducible repeat' (first | assumption | apply keep.ldAdd | apply keep.logWord | apply keep.rqAttach | apply keep.rqConsume | apply keep.scanCount | apply keep.scanRanges | split)

theorem keep.ldSourceRead {P : Stage → Prop} {q : List Instr} (s : State) (h : Half) (t3 : List Byte) (chk : Scan) (fault : Bool) (hs : s.holds P q) : (Sys2Proof.Machine.State.ldSourceRead s h t3 chk fault).holds P q := by
  unfold Sys2Proof.Machine.State.ldSourceRead
  try dsimp only
  with_reducible repeat' (first | assumption | apply keep.ldAdd | apply keep.ldQueue | apply keep.ldScan | apply keep.need | apply keep.t3Fail | apply keep.t3Get | apply keep.foldl | split)

theorem keep.ldTake {P : Stage → Prop} {q : List Instr} (s : State) (h : Half) (d : List Byte) (hs : s.holds P q) : (Sys2Proof.Machine.State.ldTake s h d).holds P q := by
  unfold Sys2Proof.Machine.State.ldTake
  try dsimp only
  with_reducible repeat' (first | assumption | apply keep.modLdr | apply keep.wf)

theorem keep.ldLoad {P : Stage → Prop} {q : List Instr} (s : State) (h : Half) (d t3 : List Byte) (chk : Scan) (fault : Bool) (hs : s.holds P q) : (Sys2Proof.Machine.State.ldLoad s h d t3 chk fault).holds P q := by
  unfold Sys2Proof.Machine.State.ldLoad
  try dsimp only
  with_reducible repeat' (first | assumption | apply keep.ldEnd | apply keep.ldSourceRead | apply keep.ldStep | apply keep.ldTake | apply keep.modLdr | split)

theorem keep.ldUnread {P : Stage → Prop} {q : List Instr} (s : State) (h : Half) (hs : s.holds P q) : (Sys2Proof.Machine.State.ldUnread s h).holds P q := by
  unfold Sys2Proof.Machine.State.ldUnread
  try dsimp only
  with_reducible repeat' (first | assumption | apply keep.ldEnd | apply keep.ldTake)

theorem keep.execLoad {P : Stage → Prop} {q : List Instr} (h : Half) (desc image : List Byte) (chk : Scan) (fault : Bool) (s : State) (hs : s.holds P q) : outHolds P q (Sys2Proof.Machine.execLoad h desc image chk fault s) := by
  unfold Sys2Proof.Machine.execLoad
  try dsimp only
  with_reducible repeat' (first | assumption | apply keep.ldLoad | apply keep.ldQueue | apply keep.ldSourceRead | apply keep.ldStep | apply keep.ldUnread | apply keep.ldrRead | apply keep.whenLive | split | (intro))

theorem keep.ldErase {P : Stage → Prop} {q : List Instr} (s : State) (h : Half) (d : List Byte) (hs : s.holds P q) : (Sys2Proof.Machine.State.ldErase s h d).holds P q := by
  unfold Sys2Proof.Machine.State.ldErase
  try dsimp only
  with_reducible repeat' (first | assumption | apply keep.ldEnd | apply keep.ldNext | apply keep.ldTake | apply keep.modLdr | split)

theorem keep.execEraseSet {P : Stage → Prop} {q : List Instr} (h : Half) (desc : List Byte) (fault : Bool) (s : State) (hs : s.holds P q) : outHolds P q (Sys2Proof.Machine.execEraseSet h desc fault s) := by
  unfold Sys2Proof.Machine.execEraseSet
  try dsimp only
  with_reducible repeat' (first | assumption | apply keep.ldErase | apply keep.ldUnread | apply keep.ldrRead | apply keep.whenLive | split | (intro))

end Sys2Proof.Machine
end

