-- ==== Sys2Proof/Laws/KeepDevice.lean ====
section
/-! SUPPORT. Every operation keeps the stage, the queue and the canonical stores (State.holds), one lemma for each: part 4 of 4, in the
machine's own order. An operation that changes the stage has its lemma for any stage. -/

namespace Sys2Proof.Machine

theorem keep.ldrAbort {P : Stage → Prop} {q : List Instr} (s : State) (h : Half) (hs : s.holds P q) : (Sys2Proof.Machine.State.ldrAbort s h).holds P q := by
  unfold Sys2Proof.Machine.State.ldrAbort
  try dsimp only
  with_reducible repeat' (first | assumption | apply keep.ldEnd | apply keep.modLdr | apply keep.wf | split)

theorem keep.execLdrAbort {P : Stage → Prop} {q : List Instr} (h : Half) (s : State) (hs : s.holds P q) : outHolds P q (Sys2Proof.Machine.execLdrAbort h s) := by
  unfold Sys2Proof.Machine.execLdrAbort
  try dsimp only
  with_reducible repeat' (first | assumption | apply keep.ldrAbort | apply keep.whenLive | (intro))

theorem keep.ldAsk {P : Stage → Prop} {q : List Instr} (s : State) (h : Half) (code : Nat) (hs : s.holds P q) : (Sys2Proof.Machine.State.ldAsk s h code).holds P q := by
  unfold Sys2Proof.Machine.State.ldAsk
  try dsimp only
  with_reducible repeat' (first | assumption | apply keep.modLdr | apply keep.nvRun | apply keep.resetCmd | split)

theorem keep.ldDone {P : Stage → Prop} {q : List Instr} (s : State) (h : Half) (c : NvCmd) (r : Nat) (hs : s.holds P q) : (Sys2Proof.Machine.State.ldDone s h c r).holds P q := by
  unfold Sys2Proof.Machine.State.ldDone
  try dsimp only
  with_reducible repeat' (first | assumption | apply keep.ldEnd | apply keep.ldNext | apply keep.ldStep | apply keep.modLdr | split)

theorem keep.ldFinish {P : Stage → Prop} {q : List Instr} (s0 : State) (h : Half) (hs : s0.holds P q) : (Sys2Proof.Machine.State.ldFinish s0 h).holds P q := by
  unfold Sys2Proof.Machine.State.ldFinish
  try dsimp only
  with_reducible repeat' (first | assumption | apply keep.ldDone | apply keep.modLdr | apply keep.msix | apply keep.storeBytes | apply keep.t3Put | apply keep.translate | apply keep.wf | split)

theorem keep.execLdrDescDone {P : Stage → Prop} {q : List Instr} (h : Half) (s : State) (hs : s.holds P q) : outHolds P q (Sys2Proof.Machine.execLdrDescDone h s) := by
  unfold Sys2Proof.Machine.execLdrDescDone
  try dsimp only
  with_reducible repeat' (first | assumption | apply keep.ldFinish | apply keep.whenLive | (intro))

theorem keep.portCmd {P : Stage → Prop} {q : List Instr} (s : State) (h : Half) (p : NvPort) (code : Nat) (hs : s.holds P q) : (Sys2Proof.Machine.State.portCmd s h p code).holds P q := by
  unfold Sys2Proof.Machine.State.portCmd
  try dsimp only
  with_reducible repeat' (first | assumption | apply keep.launchWrite | apply keep.ldAsk | split)

theorem keep.execProgramRows {P : Stage → Prop} {q : List Instr} (h : Half) (p : NvPort) (s : State) (hs : s.holds P q) : outHolds P q (Sys2Proof.Machine.execProgramRows h p s) := by
  unfold Sys2Proof.Machine.execProgramRows
  try dsimp only
  with_reducible repeat' (first | assumption | apply keep.portCmd | apply keep.whenLive | (intro))

theorem keep.execErasePlane {P : Stage → Prop} {q : List Instr} (h : Half) (p : NvPort) (s : State) (hs : s.holds P q) : outHolds P q (Sys2Proof.Machine.execErasePlane h p s) := by
  unfold Sys2Proof.Machine.execErasePlane
  try dsimp only
  with_reducible repeat' (first | assumption | apply keep.portCmd | apply keep.whenLive | (intro))

theorem keep.execRefreshPlane {P : Stage → Prop} {q : List Instr} (h : Half) (p : NvPort) (s : State) (hs : s.holds P q) : outHolds P q (Sys2Proof.Machine.execRefreshPlane h p s) := by
  unfold Sys2Proof.Machine.execRefreshPlane
  try dsimp only
  with_reducible repeat' (first | assumption | apply keep.portCmd | apply keep.whenLive | (intro))

theorem keep.execMarginRead {P : Stage → Prop} {q : List Instr} (h : Half) (p : NvPort) (s : State) (hs : s.holds P q) : outHolds P q (Sys2Proof.Machine.execMarginRead h p s) := by
  unfold Sys2Proof.Machine.execMarginRead
  try dsimp only
  with_reducible repeat' (first | assumption | apply keep.portCmd | apply keep.whenLive | (intro))

theorem keep.execContReadEnter {P : Stage → Prop} {q : List Instr} (h : Half) (p : NvPort) (s : State) (hs : s.holds P q) : outHolds P q (Sys2Proof.Machine.execContReadEnter h p s) := by
  unfold Sys2Proof.Machine.execContReadEnter
  try dsimp only
  with_reducible repeat' (first | assumption | apply keep.portCmd | apply keep.whenLive | (intro))

theorem keep.execContReadExit {P : Stage → Prop} {q : List Instr} (h : Half) (p : NvPort) (s : State) (hs : s.holds P q) : outHolds P q (Sys2Proof.Machine.execContReadExit h p s) := by
  unfold Sys2Proof.Machine.execContReadExit
  try dsimp only
  with_reducible repeat' (first | assumption | apply keep.portCmd | apply keep.whenLive | (intro))

theorem keep.execProtectSet {P : Stage → Prop} {q : List Instr} (h : Half) (p : NvPort) (s : State) (hs : s.holds P q) : outHolds P q (Sys2Proof.Machine.execProtectSet h p s) := by
  unfold Sys2Proof.Machine.execProtectSet
  try dsimp only
  with_reducible repeat' (first | assumption | apply keep.portCmd | apply keep.whenLive | (intro))

theorem keep.execProtectUnlock {P : Stage → Prop} {q : List Instr} (h : Half) (p : NvPort) (s : State) (hs : s.holds P q) : outHolds P q (Sys2Proof.Machine.execProtectUnlock h p s) := by
  unfold Sys2Proof.Machine.execProtectUnlock
  try dsimp only
  with_reducible repeat' (first | assumption | apply keep.portCmd | apply keep.whenLive | (intro))

theorem keep.execOtpRead {P : Stage → Prop} {q : List Instr} (h : Half) (p : NvPort) (s : State) (hs : s.holds P q) : outHolds P q (Sys2Proof.Machine.execOtpRead h p s) := by
  unfold Sys2Proof.Machine.execOtpRead
  try dsimp only
  with_reducible repeat' (first | assumption | apply keep.portCmd | apply keep.whenLive | (intro))

theorem keep.execOtpProgram {P : Stage → Prop} {q : List Instr} (h : Half) (p : NvPort) (s : State) (hs : s.holds P q) : outHolds P q (Sys2Proof.Machine.execOtpProgram h p s) := by
  unfold Sys2Proof.Machine.execOtpProgram
  try dsimp only
  with_reducible repeat' (first | assumption | apply keep.portCmd | apply keep.whenLive | (intro))

theorem keep.execStatusRead {P : Stage → Prop} {q : List Instr} (h : Half) (p : NvPort) (s : State) (hs : s.holds P q) : outHolds P q (Sys2Proof.Machine.execStatusRead h p s) := by
  unfold Sys2Proof.Machine.execStatusRead
  try dsimp only
  with_reducible repeat' (first | assumption | apply keep.portCmd | apply keep.whenLive | (intro))

theorem keep.execCmdReset {P : Stage → Prop} {q : List Instr} (h : Half) (p : NvPort) (s : State) (hs : s.holds P q) : outHolds P q (Sys2Proof.Machine.execCmdReset h p s) := by
  unfold Sys2Proof.Machine.execCmdReset
  try dsimp only
  with_reducible repeat' (first | assumption | apply keep.portCmd | apply keep.whenLive | (intro))

theorem keep.execNvCommandComplete {P : Stage → Prop} {q : List Instr} (h : Half) (p : NvPort) (s : State) (hs : s.holds P q) : outHolds P q (Sys2Proof.Machine.execNvCommandComplete h p s) := by
  unfold Sys2Proof.Machine.execNvCommandComplete
  try dsimp only
  with_reducible repeat' (first | assumption | apply keep.ldDone | apply keep.nvEnd | apply keep.whenLive | split | (intro))

theorem keep.linkTrain {P : Stage → Prop} {q : List Instr} (s : State) (r : Option PcieLink) (hs : s.holds P q) : (Sys2Proof.Machine.State.linkTrain s r).holds P q := by
  unfold Sys2Proof.Machine.State.linkTrain
  try dsimp only
  with_reducible repeat' (first | assumption | apply keep.keepWakes | apply keep.log | apply keep.stageOf (P := P) q | apply keep.queueOf P | apply keep.regsOf P q | apply keep.westOf P q | apply keep.eastOf P q | apply keep.bootOf P q | (simp only [↓keep.mk]; refine ⟨?_, ?_, ?_, ?_, ?_, ?_⟩) | split)

theorem keep.execPcieLinkTrain {P : Stage → Prop} {q : List Instr} (link : Option PcieLink) (s : State) (hs : s.holds P q) : outHolds P q (Sys2Proof.Machine.execPcieLinkTrain link s) := by
  unfold Sys2Proof.Machine.execPcieLinkTrain
  try dsimp only
  with_reducible repeat' (first | assumption | apply keep.linkTrain | apply keep.next | split)

theorem keep.execPcieTrainRetry {P : Stage → Prop} {q : List Instr} (s : State) (hs : s.holds P q) : outHolds P q (Sys2Proof.Machine.execPcieTrainRetry s) := by
  unfold Sys2Proof.Machine.execPcieTrainRetry
  try dsimp only
  with_reducible repeat' (first | assumption | apply keep.next | apply keep.stageOf (P := P) q | apply keep.queueOf P | apply keep.regsOf P q | apply keep.westOf P q | apply keep.eastOf P q | apply keep.bootOf P q | (simp only [↓keep.mk]; refine ⟨?_, ?_, ?_, ?_, ?_, ?_⟩) | split)

theorem keep.flrShow {P : Stage → Prop} {q : List Instr} (s : State) (f : Nat) (v : Bool) (hs : s.holds P q) : (Sys2Proof.Machine.State.flrShow s f v).holds P q := by
  unfold Sys2Proof.Machine.State.flrShow
  try dsimp only
  with_reducible repeat' (first | assumption | apply keep.wf)

theorem keep.ctxReset {P : Stage → Prop} {q : List Instr} (s : State) (c : Nat) (hs : s.holds P q) : (Sys2Proof.Machine.State.ctxReset s c).holds P q := by
  unfold Sys2Proof.Machine.State.ctxReset
  try dsimp only
  with_reducible repeat' (first | assumption | apply keep.abortCtx | apply keep.cqHeadSet | apply keep.setCtx)

theorem keep.ctxResetEnd {P : Stage → Prop} {q : List Instr} (s : State) (c : Nat) (hs : s.holds P q) : (Sys2Proof.Machine.State.ctxResetEnd s c).holds P q := by
  unfold Sys2Proof.Machine.State.ctxResetEnd
  try dsimp only
  with_reducible repeat' (first | assumption | apply keep.setCtx | apply keep.wf)

theorem keep.flr {P : Stage → Prop} {q : List Instr} (s : State) (f : Nat) (hs : s.holds P q) : (Sys2Proof.Machine.State.flr s f).holds P q := by
  unfold Sys2Proof.Machine.State.flr
  try dsimp only
  with_reducible repeat' (first | assumption | apply keep.ctxReset | apply keep.flrShow | apply keep.setFunc | apply keep.foldl)

theorem keep.msixClear {P : Stage → Prop} {q : List Instr} (s : State) (f : Nat) (hs : s.holds P q) : (Sys2Proof.Machine.State.msixClear s f).holds P q := by
  unfold Sys2Proof.Machine.State.msixClear
  try dsimp only
  with_reducible repeat' (first | assumption | apply keep.stageOf (P := P) q | apply keep.queueOf P | apply keep.regsOf P q | apply keep.westOf P q | apply keep.eastOf P q | apply keep.bootOf P q | (simp only [↓keep.mk]; refine ⟨?_, ?_, ?_, ?_, ?_, ?_⟩))

theorem keep.atcDrop {P : Stage → Prop} {q : List Instr} (s : State) (hit : Nat × Nat × Nat → Bool) (hs : s.holds P q) : (Sys2Proof.Machine.State.atcDrop s hit).holds P q := by
  unfold Sys2Proof.Machine.State.atcDrop
  try dsimp only
  with_reducible repeat' (first | assumption | apply keep.modHalf | apply keep.memOf | simp only [↓keep.halfMk])

theorem keep.funcClear {P : Stage → Prop} {q : List Instr} (s : State) (f : Nat) (hs : s.holds P q) : (Sys2Proof.Machine.State.funcClear s f).holds P q := by
  unfold Sys2Proof.Machine.State.funcClear
  try dsimp only
  with_reducible repeat' (first | assumption | apply keep.atcDrop | apply keep.msixClear | apply keep.setFunc)

theorem keep.flrEnd {P : Stage → Prop} {q : List Instr} (s : State) (f : Nat) (hs : s.holds P q) : (Sys2Proof.Machine.State.flrEnd s f).holds P q := by
  unfold Sys2Proof.Machine.State.flrEnd
  try dsimp only
  with_reducible repeat' (first | assumption | apply keep.ctxResetEnd | apply keep.flr | apply keep.flrShow | apply keep.funcClear | apply keep.wf | apply keep.foldl | split)

theorem keep.execVfFlr {P : Stage → Prop} {q : List Instr} (f : Nat) (s : State) (hs : s.holds P q) : outHolds P q (Sys2Proof.Machine.execVfFlr f s) := by
  unfold Sys2Proof.Machine.execVfFlr
  try dsimp only
  with_reducible repeat' (first | assumption | apply keep.flr | apply keep.setFunc | apply keep.whenLive | split | (intro))

theorem keep.execFlrDone {P : Stage → Prop} {q : List Instr} (f : Nat) (s : State) (hs : s.holds P q) : outHolds P q (Sys2Proof.Machine.execFlrDone f s) := by
  unfold Sys2Proof.Machine.execFlrDone
  try dsimp only
  with_reducible repeat' (first | assumption | apply keep.flrEnd | apply keep.whenLive | split | (intro))

theorem keep.priEnd {P : Stage → Prop} {q : List Instr} (s : State) (hs : s.holds P q) : (Sys2Proof.Machine.State.priEnd s).holds P q := by
  unfold Sys2Proof.Machine.State.priEnd
  try dsimp only
  with_reducible repeat' (first | assumption | apply keep.jctPageEnds | apply keep.pageFail | apply keep.foldl | apply keep.stageOf (P := P) q | apply keep.queueOf P | apply keep.regsOf P q | apply keep.westOf P q | apply keep.eastOf P q | apply keep.bootOf P q | (simp only [↓keep.mk]; refine ⟨?_, ?_, ?_, ?_, ?_, ?_⟩) | split | (intro))

theorem keep.abortArms {P : Stage → Prop} {q : List Instr} (s : State) (hs : s.holds P q) : (Sys2Proof.Machine.State.abortArms s).holds P q := by
  unfold Sys2Proof.Machine.State.abortArms
  try dsimp only
  with_reducible repeat' (first | assumption | apply keep.strAbort | apply keep.foldl)

theorem keep.pfReset {P : Stage → Prop} {q : List Instr} (s : State) (down : Bool) (hs : s.holds P q) : (Sys2Proof.Machine.State.pfReset s down).holds P q := by
  unfold Sys2Proof.Machine.State.pfReset
  try dsimp only
  with_reducible repeat' (first | assumption | apply keep.abortArms | apply keep.ctxReset | apply keep.flrShow | apply keep.funcClear | apply keep.ldrAbort | apply keep.nvRun | apply keep.priEnd | apply keep.setFunc | apply keep.wr | apply keep.foldl | apply keep.stageOf (P := P) q | apply keep.queueOf P | apply keep.regsOf P q | apply keep.westOf P q | apply keep.eastOf P q | apply keep.bootOf P q | (simp only [↓keep.mk]; refine ⟨?_, ?_, ?_, ?_, ?_, ?_⟩) | split | (intro))

theorem keep.execPfReset {P : Stage → Prop} {q : List Instr} (linkDown : Bool) (s : State) (hs : s.holds P q) : outHolds P q (Sys2Proof.Machine.execPfReset linkDown s) := by
  unfold Sys2Proof.Machine.execPfReset
  try dsimp only
  with_reducible repeat' (first | assumption | apply keep.pfReset | apply keep.whenLive | (intro))

theorem keep.execD3hotEntry {P : Stage → Prop} {q : List Instr} (f : Nat) (s : State) (hs : s.holds P q) : outHolds P q (Sys2Proof.Machine.execD3hotEntry f s) := by
  unfold Sys2Proof.Machine.execD3hotEntry
  try dsimp only
  with_reducible repeat' (first | assumption | apply keep.flr | apply keep.setFunc | apply keep.whenLive | split | (intro))

theorem keep.execAtsInvalidate {P : Stage → Prop} {q : List Instr} (f pasid addr len tag : Nat) (s : State) (hs : s.holds P q) : outHolds P q (Sys2Proof.Machine.execAtsInvalidate f pasid addr len tag s) := by
  unfold Sys2Proof.Machine.execAtsInvalidate
  try dsimp only
  with_reducible repeat' (first | assumption | apply keep.atcDrop | apply keep.send | apply keep.whenLive | split | (intro))

theorem keep.execPriReset {P : Stage → Prop} {q : List Instr} (f : Nat) (s : State) (hs : s.holds P q) : outHolds P q (Sys2Proof.Machine.execPriReset f s) := by
  unfold Sys2Proof.Machine.execPriReset
  try dsimp only
  with_reducible repeat' (first | assumption | apply keep.priEnd | apply keep.whenLive | split | (intro))

theorem keep.execT3ReadFail {P : Stage → Prop} {q : List Instr} (n : Option NodeRef) (addr pasid : Nat) (s : State) (hs : s.holds P q) : outHolds P q (Sys2Proof.Machine.execT3ReadFail n addr pasid s) := by
  unfold Sys2Proof.Machine.execT3ReadFail
  try dsimp only
  with_reducible repeat' (first | assumption | apply keep.requestFails | apply keep.t3Fail | apply keep.whenLive | split | (intro))

theorem keep.execPoisonedWrite {P : Stage → Prop} {q : List Instr} (f addr _value : Nat) (s : State) (hs : s.holds P q) : outHolds P q (Sys2Proof.Machine.execPoisonedWrite f addr _value s) := by
  unfold Sys2Proof.Machine.execPoisonedWrite
  try dsimp only
  with_reducible repeat' (first | assumption | apply keep.log | apply keep.wf | apply keep.whenLive | (intro))

theorem keep.msixFlush {P : Stage → Prop} {q : List Instr} (s : State) (f : Nat) (hs : s.holds P q) : (Sys2Proof.Machine.State.msixFlush s f).holds P q := by
  unfold Sys2Proof.Machine.State.msixFlush
  try dsimp only
  with_reducible repeat' (first | assumption | apply keep.send | apply keep.setFunc | apply keep.foldl | split | (intro))

theorem keep.execMsixUnmask {P : Stage → Prop} {q : List Instr} (f : Nat) (entry : Option Nat) (s : State) (hs : s.holds P q) : outHolds P q (Sys2Proof.Machine.execMsixUnmask f entry s) := by
  unfold Sys2Proof.Machine.execMsixUnmask
  try dsimp only
  with_reducible repeat' (first | assumption | apply keep.msixFlush | apply keep.setFunc | apply keep.whenLive | split | (intro))

theorem keep.ctxFuncWrite {P : Stage → Prop} {q : List Instr} (s : State) (c v : Nat) (hs : s.holds P q) : (Sys2Proof.Machine.State.ctxFuncWrite s c v).holds P q := by
  unfold Sys2Proof.Machine.State.ctxFuncWrite
  try dsimp only
  with_reducible repeat' (first | assumption | apply keep.log | apply keep.wr | split)

theorem keep.execPciCtxFuncWrite {P : Stage → Prop} {q : List Instr} (c v : Nat) (s : State) (hs : s.holds P q) : outHolds P q (Sys2Proof.Machine.execPciCtxFuncWrite c v s) := by
  unfold Sys2Proof.Machine.execPciCtxFuncWrite
  try dsimp only
  with_reducible repeat' (first | assumption | apply keep.ctxFuncWrite | apply keep.whenLive | split | (intro))

theorem keep.loadTable {P : Stage → Prop} {q : List Instr} (s : State) (h : Half) (modes : List (Nat × Nat)) (hs : s.holds P q) : (Sys2Proof.Machine.State.loadTable s h modes).holds P q := by
  unfold Sys2Proof.Machine.State.loadTable
  try dsimp only
  with_reducible repeat' (first | assumption | apply keep.wf | apply keep.wr | apply keep.foldl | (intro))

theorem keep.wipe {P : Stage → Prop} {qq : List Instr} (s : State) (kf : Nat → Bool) (hs : s.holds P qq) : (s.wipe kf).holds P qq := by
  unfold State.wipe
  have ht : ({ s with regs := s.regs.filter (fun e => kf e.1) } : State).holds P qq :=
    ⟨hs.stage, hs.queue, mapWf_filter _ _ hs.regs, hs.west, hs.east, hs.boot⟩
  exact keep.loadTable _ _ _ (keep.loadTable _ _ _ ht)

theorem keep.nvDevReset {P : Stage → Prop} {q : List Instr} (s : State) (h : Half) (hs : s.holds P q) : (Sys2Proof.Machine.State.nvDevReset s h).holds P q := by
  unfold Sys2Proof.Machine.State.nvDevReset
  try dsimp only
  with_reducible repeat' (first | assumption | apply keep.nvReset | apply keep.nvStop | split)

theorem keep.devReset {q : List Instr} (s : State) (cause : Nat) (hs : s.holds (fun _ => True) q) : (Sys2Proof.Machine.State.devReset s cause).holds (fun _ => True) q := by
  unfold Sys2Proof.Machine.State.devReset
  try dsimp only
  with_reducible repeat' (first | assumption | apply keep.nvDevReset | apply keep.wf | apply keep.wipe | apply keep.keptOf | apply keep.stageOf (P := (fun _ => True)) q | apply keep.queueOf (fun _ => True) | apply keep.regsOf (fun _ => True) q | apply keep.westOf (fun _ => True) q | apply keep.eastOf (fun _ => True) q | apply keep.bootOf (fun _ => True) q | apply keep.flashOf (fun _ => True) q | (simp only [↓keep.mk]; refine ⟨?_, ?_, ?_, ?_, ?_, ?_⟩) | simp only [↓keep.bootMk])

theorem keep.execDeviceReset {q : List Instr} (heldNs : Nat) (s : State) (hs : s.holds (fun _ => True) q) : outHolds (fun _ => True) q (Sys2Proof.Machine.execDeviceReset heldNs s) := by
  unfold Sys2Proof.Machine.execDeviceReset
  try dsimp only
  with_reducible repeat' (first | assumption | apply keep.devReset | apply keep.fresh | apply keep.pin | apply keep.send | apply keep.whenPowered | apply keep.stageOf (P := (fun _ => True)) q | apply keep.queueOf (fun _ => True) | apply keep.regsOf (fun _ => True) q | apply keep.westOf (fun _ => True) q | apply keep.eastOf (fun _ => True) q | apply keep.bootOf (fun _ => True) q | apply keep.flashOf (fun _ => True) q | (simp only [↓keep.mk]; refine ⟨?_, ?_, ?_, ?_, ?_, ?_⟩) | simp only [↓keep.bootMk] | split | (intro))

theorem keep.execThermalTrip {q : List Instr} (s : State) (hs : s.holds (fun _ => True) q) : outHolds (fun _ => True) q (Sys2Proof.Machine.execThermalTrip s) := by
  unfold Sys2Proof.Machine.execThermalTrip
  try dsimp only
  with_reducible repeat' (first | assumption | apply keep.devReset | apply keep.log | apply keep.pin | apply keep.send | apply keep.wf | apply keep.wr | apply keep.whenPowered | apply keep.stageOf (P := (fun _ => True)) q | apply keep.queueOf (fun _ => True) | apply keep.regsOf (fun _ => True) q | apply keep.westOf (fun _ => True) q | apply keep.eastOf (fun _ => True) q | apply keep.bootOf (fun _ => True) q | apply keep.flashOf (fun _ => True) q | (simp only [↓keep.mk]; refine ⟨?_, ?_, ?_, ?_, ?_, ?_⟩) | split | (intro))

theorem keep.nvWipe {P : Stage → Prop} {qq : List Instr} (s : State) (h : Half) (hs : s.holds P qq) : (s.nvWipe h).holds P qq := by
  unfold State.nvWipe
  dsimp only
  refine keep.modNv _ _ _ (keep.foldl _ _ (fun s e hh => keep.wf hh _ _ _) _ ?_)
  exact ⟨hs.stage, hs.queue, mapWf_filter _ _ hs.regs, hs.west, hs.east, hs.boot⟩

theorem keep.execNvControllerReset {P : Stage → Prop} {q : List Instr} (h : Half) (s : State) (hs : s.holds P q) : outHolds P q (Sys2Proof.Machine.execNvControllerReset h s) := by
  unfold Sys2Proof.Machine.execNvControllerReset
  try dsimp only
  with_reducible repeat' (first | assumption | apply keep.nvReset | apply keep.nvWipe | apply keep.whenPowered | split | (intro))

theorem keep.execDeviceWatchdogExpire {P : Stage → Prop} {q : List Instr} (s : State) (hs : s.holds P q) : outHolds P q (Sys2Proof.Machine.execDeviceWatchdogExpire s) := by
  unfold Sys2Proof.Machine.execDeviceWatchdogExpire
  try dsimp only
  with_reducible repeat' (first | assumption | apply keep.nvStop | apply keep.whenLive | (intro))

theorem keep.unpowered {q : List Instr} (s : State) (hs : s.holds (fun _ => True) q) : (Sys2Proof.Machine.State.unpowered s).holds (fun _ => True) q := by
  unfold Sys2Proof.Machine.State.unpowered
  try dsimp only
  with_reducible repeat' (first | assumption | apply keep.modNv | apply keep.nvReset | apply keep.nvStop | apply keep.wipe | apply mapWf_nil | apply keep.stageOf (P := (fun _ => True)) q | apply keep.queueOf (fun _ => True) | apply keep.regsOf (fun _ => True) q | apply keep.westOf (fun _ => True) q | apply keep.eastOf (fun _ => True) q | apply keep.bootOf (fun _ => True) q | apply keep.flashOf (fun _ => True) q | (simp only [↓keep.mk]; refine ⟨?_, ?_, ?_, ?_, ?_, ?_⟩) | simp only [↓keep.halfMk] | (simp only [↓keep.memMk]; refine ⟨?_, ?_⟩) | simp only [↓keep.bootMk])

theorem keep.execPowerOff {q : List Instr} (s : State) (hs : s.holds (fun _ => True) q) : outHolds (fun _ => True) q (Sys2Proof.Machine.execPowerOff s) := by
  unfold Sys2Proof.Machine.execPowerOff
  try dsimp only
  with_reducible repeat' (first | assumption | apply keep.unpowered | apply keep.whenPowered | apply keep.stageOf (P := (fun _ => True)) q | apply keep.queueOf (fun _ => True) | apply keep.regsOf (fun _ => True) q | apply keep.westOf (fun _ => True) q | apply keep.eastOf (fun _ => True) q | apply keep.bootOf (fun _ => True) q | apply keep.flashOf (fun _ => True) q)

theorem keep.execPowerOn {q : List Instr} (straps : Nat) (s : State) (hs : s.holds (fun _ => True) q) : outHolds (fun _ => True) q (Sys2Proof.Machine.execPowerOn straps s) := by
  unfold Sys2Proof.Machine.execPowerOn
  try dsimp only
  with_reducible repeat' (first | assumption | apply keep.next | apply keep.queueOf (fun _ => True) | apply keep.regsOf (fun _ => True) q | apply keep.westOf (fun _ => True) q | apply keep.eastOf (fun _ => True) q | apply keep.bootOf (fun _ => True) q | apply keep.flashOf (fun _ => True) q | (simp only [↓keep.mk]; refine ⟨?_, ?_, ?_, ?_, ?_, ?_⟩) | simp only [↓keep.bootMk] | split)

theorem keep.execRailOutOfRange {P : Stage → Prop} {q : List Instr} (_rail : Nat) (s : State) (hs : s.holds P q) : outHolds P q (Sys2Proof.Machine.execRailOutOfRange _rail s) := by
  unfold Sys2Proof.Machine.execRailOutOfRange
  try dsimp only
  with_reducible repeat' (first | assumption | apply keep.next | apply keep.refused | split)

theorem keep.execRefclkLoss {P : Stage → Prop} {q : List Instr} (s : State) (hs : s.holds P q) : outHolds P q (Sys2Proof.Machine.execRefclkLoss s) := by
  unfold Sys2Proof.Machine.execRefclkLoss
  try dsimp only
  with_reducible repeat' (first | assumption | apply keep.whenPowered | apply keep.stageOf (P := P) q | apply keep.queueOf P | apply keep.regsOf P q | apply keep.westOf P q | apply keep.eastOf P q | apply keep.flashOf P q | (simp only [↓keep.mk]; refine ⟨?_, ?_, ?_, ?_, ?_, ?_⟩) | simp only [↓keep.bootMk] | (intro))

theorem keep.execRefclkReturn {P : Stage → Prop} {q : List Instr} (s : State) (hs : s.holds P q) : outHolds P q (Sys2Proof.Machine.execRefclkReturn s) := by
  unfold Sys2Proof.Machine.execRefclkReturn
  try dsimp only
  with_reducible repeat' (first | assumption | apply keep.whenPowered | apply keep.stageOf (P := P) q | apply keep.queueOf P | apply keep.regsOf P q | apply keep.westOf P q | apply keep.eastOf P q | apply keep.flashOf P q | (simp only [↓keep.mk]; refine ⟨?_, ?_, ?_, ?_, ?_, ?_⟩) | simp only [↓keep.bootMk] | (intro))

theorem keep.flashWrite {P : Stage → Prop} {q : List Instr} (s : State) (a : Nat) (bs : List Byte) (hs : s.holds P q) : (Sys2Proof.Machine.State.flashWrite s a bs).holds P q := by
  unfold Sys2Proof.Machine.State.flashWrite
  try dsimp only
  with_reducible repeat' (first | assumption | apply keep.stageOf (P := P) q | apply keep.queueOf P | apply keep.regsOf P q | apply keep.westOf P q | apply keep.eastOf P q | apply keep.flashOf P q | apply mapWf_memWrite | (simp only [↓keep.mk]; refine ⟨?_, ?_, ?_, ?_, ?_, ?_⟩) | simp only [↓keep.bootMk])

theorem keep.flashErase {P : Stage → Prop} {q : List Instr} (s : State) (a len : Nat) (hs : s.holds P q) : (Sys2Proof.Machine.State.flashErase s a len).holds P q := by
  unfold Sys2Proof.Machine.State.flashErase
  try dsimp only
  with_reducible repeat' (first | assumption | apply keep.stageOf (P := P) q | apply keep.queueOf P | apply keep.regsOf P q | apply keep.westOf P q | apply keep.eastOf P q | apply keep.flashOf P q | apply mapWf_eraseRange | (simp only [↓keep.mk]; refine ⟨?_, ?_, ?_, ?_, ?_, ?_⟩) | simp only [↓keep.bootMk])

theorem keep.dirWrite {P : Stage → Prop} {q : List Instr} (s : State) (k w : Nat) (hs : s.holds P q) : (Sys2Proof.Machine.State.dirWrite s k w).holds P q := by
  unfold Sys2Proof.Machine.State.dirWrite
  try dsimp only
  with_reducible repeat' (first | assumption | apply keep.flashWrite | split)

theorem keep.slotShow {P : Stage → Prop} {q : List Instr} (s : State) (k slot : Nat) (hs : s.holds P q) : (Sys2Proof.Machine.State.slotShow s k slot).holds P q := by
  unfold Sys2Proof.Machine.State.slotShow
  try dsimp only
  with_reducible repeat' (first | assumption | apply keep.log | apply keep.wf | split)

theorem keep.runImage {P : Stage → Prop} {q : List Instr} (s : State) (k slot : Nat) (trial : Bool) (hs : s.holds P q) : (Sys2Proof.Machine.State.runImage s k slot trial).holds P q := by
  unfold Sys2Proof.Machine.State.runImage
  try dsimp only
  with_reducible repeat' (first | assumption | apply keep.wf | apply keep.stageOf (P := P) q | apply keep.queueOf P | apply keep.regsOf P q | apply keep.westOf P q | apply keep.eastOf P q | apply keep.flashOf P q | (simp only [↓keep.mk]; refine ⟨?_, ?_, ?_, ?_, ?_, ?_⟩) | simp only [↓keep.bootMk])

theorem keep.pickImage {P : Stage → Prop} {q : List Instr} (s : State) (k : Nat) (hs : s.holds P q) : (Sys2Proof.Machine.State.pickImage s k).1.holds P q := by
  unfold Sys2Proof.Machine.State.pickImage
  try dsimp only
  with_reducible repeat' (first | assumption | apply keep.dirWrite | apply keep.runImage | apply keep.slotShow | split)

theorem keep.cfgWords {P : Stage → Prop} {q : List Instr} (s : State) (b : List Byte) (off n a d : Nat) (hs : s.holds P q) : (Sys2Proof.Machine.State.cfgWords s b off n a d).holds P q := by
  unfold Sys2Proof.Machine.State.cfgWords
  try dsimp only
  with_reducible repeat' (first | assumption | apply keep.wr | apply keep.foldl | (intro))

theorem keep.cfgQuotas {P : Stage → Prop} {q : List Instr} (s : State) (h : Half) (b : List Byte) (off : Nat) (hs : s.holds P q) : (Sys2Proof.Machine.State.cfgQuotas s h b off).holds P q := by
  unfold Sys2Proof.Machine.State.cfgQuotas
  try dsimp only
  with_reducible repeat' (first | assumption | apply keep.wf | apply keep.foldl | (intro))

theorem keep.cfgNode {P : Stage → Prop} {q : List Instr} (s : State) (b : List Byte) (hs : s.holds P q) : (Sys2Proof.Machine.State.cfgNode s b).holds P q := by
  unfold Sys2Proof.Machine.State.cfgNode
  try dsimp only
  with_reducible repeat' (first | assumption | apply keep.wf | apply keep.wr)

theorem keep.applyCfg {P : Stage → Prop} {q : List Instr} (s : State) (b : List Byte) (hs : s.holds P q) : (Sys2Proof.Machine.State.applyCfg s b).holds P q := by
  unfold Sys2Proof.Machine.State.applyCfg
  try dsimp only
  with_reducible repeat' (first | assumption | apply keep.cfgNode | apply keep.cfgQuotas | apply keep.cfgWords | apply keep.keepWakes | apply keep.portCfgWrite | apply keep.showCap | apply keep.wf | apply keep.wr | apply keep.foldl | (intro))

theorem keep.showOtp {P : Stage → Prop} {q : List Instr} (s : State) (hs : s.holds P q) : (Sys2Proof.Machine.State.showOtp s).holds P q := by
  unfold Sys2Proof.Machine.State.showOtp
  try dsimp only
  with_reducible repeat' (first | assumption | apply keep.wf | apply keep.foldl | (intro))

theorem keep.bootFaults {P : Stage → Prop} {q : List Instr} (s : State) (h : Half) (fail : Nat) (hs : s.holds P q) : (Sys2Proof.Machine.State.bootFaults s h fail).holds P q := by
  unfold Sys2Proof.Machine.State.bootFaults
  try dsimp only
  with_reducible repeat' (first | assumption | apply keep.log | apply keep.wr | apply keep.foldl | split | (intro))

theorem keep.bootOn {P : Stage → Prop} {q : List Instr} (s : State) (d : Nat) (hs : s.holds P q) : (Sys2Proof.Machine.State.bootOn s d).holds P q := by
  unfold Sys2Proof.Machine.State.bootOn
  try dsimp only
  with_reducible repeat' (first | assumption | apply keep.add | apply keep.wf)

theorem keep.bootPower {P : Stage → Prop} {q : List Instr} (s : State) (hs : s.holds P q) : (Sys2Proof.Machine.State.bootPower s).holds P q := by
  unfold Sys2Proof.Machine.State.bootPower
  try dsimp only
  with_reducible repeat' (first | assumption | apply keep.bootOn | apply keep.regulate | apply keep.wf | apply keep.foldl | apply keep.stageOf (P := P) q | apply keep.queueOf P | apply keep.regsOf P q | apply keep.westOf P q | apply keep.eastOf P q | apply keep.bootOf P q | (simp only [↓keep.mk]; refine ⟨?_, ?_, ?_, ?_, ?_, ?_⟩))

theorem keep.bootSets {P : Stage → Prop} {q : List Instr} (s : State) (h : Half) (hs : s.holds P q) : (Sys2Proof.Machine.State.bootSets s h).holds P q := by
  unfold Sys2Proof.Machine.State.bootSets
  try dsimp only
  with_reducible repeat' (first | assumption | apply keep.wf | apply keep.wsetCommit | apply keep.wsetRelease | apply keep.foldl | split | (intro))

theorem keep.bootRun {q : List Instr} (s : State) (fw fe : Nat) (hs : s.holds (fun _ => True) q) : (Sys2Proof.Machine.State.bootRun s fw fe).holds (fun _ => True) q := by
  unfold Sys2Proof.Machine.State.bootRun
  try dsimp only
  with_reducible repeat' (first | assumption | apply keep.applyCfg | apply keep.bootFaults | apply keep.bootPower | apply keep.bootSets | apply keep.checkCatchup | apply keep.log | apply keep.passageUp | apply keep.runRefresh | apply keep.wf | apply keep.queueOf (fun _ => True) | apply keep.regsOf (fun _ => True) q | apply keep.westOf (fun _ => True) q | apply keep.eastOf (fun _ => True) q | apply keep.bootOf (fun _ => True) q | apply keep.flashOf (fun _ => True) q | (simp only [↓keep.mk]; refine ⟨?_, ?_, ?_, ?_, ?_, ?_⟩) | simp only [↓keep.bootMk] | split)

theorem keep.bootLoad {P : Stage → Prop} {q : List Instr} (s : State) (octal : Bool) (hs : s.holds P q) : (Sys2Proof.Machine.State.bootLoad s octal).1.holds P q := by
  unfold Sys2Proof.Machine.State.bootLoad
  try dsimp only
  with_reducible repeat' (first | assumption | apply keep.ledgerScan | apply keep.pickImage | apply keep.showOtp | apply keep.wf | apply keep.stageOf (P := P) q | apply keep.queueOf P | apply keep.regsOf P q | apply keep.westOf P q | apply keep.eastOf P q | apply keep.flashOf P q | (simp only [↓keep.mk]; refine ⟨?_, ?_, ?_, ?_, ?_, ?_⟩) | simp only [↓keep.bootMk] | split)

theorem keep.bootAll {q : List Instr} (s : State) (octal : Bool) (fw fe : Nat) (hs : s.holds (fun _ => True) q) : (Sys2Proof.Machine.State.bootAll s octal fw fe).holds (fun _ => True) q := by
  unfold Sys2Proof.Machine.State.bootAll
  try dsimp only
  with_reducible repeat' (first | assumption | apply keep.bootLoad | apply keep.bootRun | apply keep.wf | apply keep.stageOf (P := (fun _ => True)) q | apply keep.queueOf (fun _ => True) | apply keep.regsOf (fun _ => True) q | apply keep.westOf (fun _ => True) q | apply keep.eastOf (fun _ => True) q | apply keep.bootOf (fun _ => True) q | apply keep.flashOf (fun _ => True) q | (simp only [↓keep.mk]; refine ⟨?_, ?_, ?_, ?_, ?_, ?_⟩) | split)

theorem keep.perstUp {q : List Instr} (s : State) (hs : s.holds (fun _ => True) q) : (Sys2Proof.Machine.State.perstUp s).holds (fun _ => True) q := by
  unfold Sys2Proof.Machine.State.perstUp
  try dsimp only
  with_reducible repeat' (first | assumption | apply keep.send | apply keep.wr | apply keep.stageOf (P := (fun _ => True)) q | apply keep.queueOf (fun _ => True) | apply keep.regsOf (fun _ => True) q | apply keep.westOf (fun _ => True) q | apply keep.eastOf (fun _ => True) q | apply keep.bootOf (fun _ => True) q | apply keep.flashOf (fun _ => True) q | (simp only [↓keep.mk]; refine ⟨?_, ?_, ?_, ?_, ?_, ?_⟩) | simp only [↓keep.bootMk] | split)

theorem keep.execPerstRelease {q : List Instr} (octalOk : Bool) (failWest failEast flashBad : Nat) (siteHot : Bool) (s : State) (hs : s.holds (fun _ => True) q) : outHolds (fun _ => True) q (Sys2Proof.Machine.execPerstRelease octalOk failWest failEast flashBad siteHot s) := by
  unfold Sys2Proof.Machine.execPerstRelease
  try dsimp only
  with_reducible repeat' (first | assumption | apply keep.bootAll | apply keep.perstUp | apply keep.next | apply keep.stageOf (P := (fun _ => True)) q | apply keep.queueOf (fun _ => True) | apply keep.regsOf (fun _ => True) q | apply keep.westOf (fun _ => True) q | apply keep.eastOf (fun _ => True) q | apply keep.bootOf (fun _ => True) q | apply keep.flashOf (fun _ => True) q | (simp only [↓keep.mk]; refine ⟨?_, ?_, ?_, ?_, ?_, ?_⟩) | simp only [↓keep.bootMk] | split)

theorem keep.trialFails {P : Stage → Prop} {q : List Instr} (s : State) (k : Nat) (hs : s.holds P q) : (Sys2Proof.Machine.State.trialFails s k).holds P q := by
  unfold Sys2Proof.Machine.State.trialFails
  try dsimp only
  with_reducible repeat' (first | assumption | apply keep.log | apply keep.wf | split)

theorem keep.dropMctp {P : Stage → Prop} {q : List Instr} (s : State) (hs : s.holds P q) : (Sys2Proof.Machine.State.dropMctp s).holds P q := by
  unfold Sys2Proof.Machine.State.dropMctp
  try dsimp only
  with_reducible repeat' (first | assumption | apply keep.modNv | apply keep.stageOf (P := P) q | apply keep.queueOf P | apply keep.regsOf P q | apply keep.westOf P q | apply keep.eastOf P q | apply keep.bootOf P q | (simp only [↓keep.mk]; refine ⟨?_, ?_, ?_, ?_, ?_, ?_⟩))

theorem keep.ctrlRestart {P : Stage → Prop} {q : List Instr} (s : State) (k : Nat) (hs : s.holds P q) : (Sys2Proof.Machine.State.ctrlRestart s k).holds P q := by
  unfold Sys2Proof.Machine.State.ctrlRestart
  try dsimp only
  with_reducible repeat' (first | assumption | apply keep.dropMctp | apply keep.trialFails | apply keep.stageOf (P := P) q | apply keep.queueOf P | apply keep.regsOf P q | apply keep.westOf P q | apply keep.eastOf P q | apply keep.bootOf P q | apply keep.flashOf P q | (simp only [↓keep.mk]; refine ⟨?_, ?_, ?_, ?_, ?_, ?_⟩) | simp only [↓keep.bootMk] | split)

theorem keep.serviceRestart {P : Stage → Prop} {q : List Instr} (s : State) (k : Nat) (hs : s.holds P q) : (Sys2Proof.Machine.State.serviceRestart s k).holds P q := by
  unfold Sys2Proof.Machine.State.serviceRestart
  try dsimp only
  with_reducible repeat' (first | assumption | apply keep.ctrlRestart | apply keep.log | split)

theorem keep.execMgmtRestart {P : Stage → Prop} {q : List Instr} (s : State) (hs : s.holds P q) : outHolds P q (Sys2Proof.Machine.execMgmtRestart s) := by
  unfold Sys2Proof.Machine.execMgmtRestart
  try dsimp only
  with_reducible repeat' (first | assumption | apply keep.serviceRestart | apply keep.whenLive | (intro))

theorem keep.execPowerRestart {P : Stage → Prop} {q : List Instr} (s : State) (hs : s.holds P q) : outHolds P q (Sys2Proof.Machine.execPowerRestart s) := by
  unfold Sys2Proof.Machine.execPowerRestart
  try dsimp only
  with_reducible repeat' (first | assumption | apply keep.serviceRestart | apply keep.whenLive | (intro))

theorem keep.execPowerRestartDone {P : Stage → Prop} {q : List Instr} (s : State) (hs : s.holds P q) : outHolds P q (Sys2Proof.Machine.execPowerRestartDone s) := by
  unfold Sys2Proof.Machine.execPowerRestartDone
  try dsimp only
  with_reducible repeat' (first | assumption | apply keep.pickImage | apply keep.whenLive | apply keep.stageOf (P := P) q | apply keep.queueOf P | apply keep.regsOf P q | apply keep.westOf P q | apply keep.eastOf P q | apply keep.bootOf P q | (simp only [↓keep.mk]; refine ⟨?_, ?_, ?_, ?_, ?_, ?_⟩) | split | (intro))

theorem keep.execControllerWatchdog {P : Stage → Prop} {q : List Instr} (c : Controller) (s : State) (hs : s.holds P q) : outHolds P q (Sys2Proof.Machine.execControllerWatchdog c s) := by
  unfold Sys2Proof.Machine.execControllerWatchdog
  try dsimp only
  with_reducible repeat' (first | assumption | apply keep.ctrlRestart | apply keep.log | apply keep.whenLive | split | (intro))

theorem keep.execTrialExpire {q : List Instr} (kind : Nat) (s : State) (hs : s.holds (fun _ => True) q) : outHolds (fun _ => True) q (Sys2Proof.Machine.execTrialExpire kind s) := by
  unfold Sys2Proof.Machine.execTrialExpire
  try dsimp only
  with_reducible repeat' (first | assumption | apply keep.ctrlRestart | apply keep.devReset | apply keep.trialFails | apply keep.whenLive | apply keep.stageOf (P := (fun _ => True)) q | apply keep.queueOf (fun _ => True) | apply keep.regsOf (fun _ => True) q | apply keep.westOf (fun _ => True) q | apply keep.eastOf (fun _ => True) q | apply keep.bootOf (fun _ => True) q | apply keep.flashOf (fun _ => True) q | (simp only [↓keep.mk]; refine ⟨?_, ?_, ?_, ?_, ?_, ?_⟩) | simp only [↓keep.bootMk] | split | (intro))

theorem keep.hostHead {P : Stage → Prop} {q : List Instr} (s : State) (h : Half) (v : Nat) (hs : s.holds P q) : (Sys2Proof.Machine.State.hostHead s h v).holds P q := by
  unfold Sys2Proof.Machine.State.hostHead
  try dsimp only
  with_reducible repeat' (first | assumption | apply keep.wf | split)

theorem keep.execErrHostHeadWrite {P : Stage → Prop} {q : List Instr} (h : Half) (v : Nat) (s : State) (hs : s.holds P q) : outHolds P q (Sys2Proof.Machine.execErrHostHeadWrite h v s) := by
  unfold Sys2Proof.Machine.execErrHostHeadWrite
  try dsimp only
  with_reducible repeat' (first | assumption | apply keep.hostHead | apply keep.whenLive | (intro))

theorem keep.execMgmtHeadAdvance {P : Stage → Prop} {q : List Instr} (h : Half) (s : State) (hs : s.holds P q) : outHolds P q (Sys2Proof.Machine.execMgmtHeadAdvance h s) := by
  unfold Sys2Proof.Machine.execMgmtHeadAdvance
  try dsimp only
  with_reducible repeat' (first | assumption | apply keep.add | apply keep.whenLive | split | (intro))

theorem keep.secAnswer {P : Stage → Prop} {q : List Instr} (s : State) (p : SecPath) (bs : List Byte) (hs : s.holds P q) : (Sys2Proof.Machine.State.secAnswer s p bs).holds P q := by
  unfold Sys2Proof.Machine.State.secAnswer
  try dsimp only
  with_reducible repeat' (first | assumption | apply keep.send | apply keep.wf | apply keep.wrWords | split)

theorem keep.measure {P : Stage → Prop} {q : List Instr} (s : State) (p : SecPath) (m : List Byte) (hs : s.holds P q) : (Sys2Proof.Machine.State.measure s p m).holds P q := by
  unfold Sys2Proof.Machine.State.measure
  try dsimp only
  with_reducible repeat' (first | assumption | apply keep.askLedger | apply keep.secAnswer | apply keep.sub | split)

theorem keep.attestSign {P : Stage → Prop} {q : List Instr} (s : State) (p : SecPath) (m : List Byte) (next : Nat) (hs : s.holds P q) : (Sys2Proof.Machine.State.attestSign s p m next).holds P q := by
  unfold Sys2Proof.Machine.State.attestSign
  try dsimp only
  with_reducible repeat' (first | assumption | apply keep.secAnswer | apply keep.wf)

theorem keep.kekShow {P : Stage → Prop} {q : List Instr} (s : State) (c : Nat) (v : Bool) (hs : s.holds P q) : (Sys2Proof.Machine.State.kekShow s c v).holds P q := by
  unfold Sys2Proof.Machine.State.kekShow
  try dsimp only
  with_reducible repeat' (first | assumption | apply keep.wf)

theorem keep.kekPut {P : Stage → Prop} {q : List Instr} (s : State) (b : List Byte) (hs : s.holds P q) : (Sys2Proof.Machine.State.kekPut s b).1.holds P q := by
  unfold Sys2Proof.Machine.State.kekPut
  try dsimp only
  with_reducible repeat' (first | assumption | apply keep.kekShow | apply keep.stageOf (P := P) q | apply keep.queueOf P | apply keep.regsOf P q | apply keep.westOf P q | apply keep.eastOf P q | apply keep.bootOf P q | (simp only [↓keep.mk]; refine ⟨?_, ?_, ?_, ?_, ?_, ?_⟩) | split)

theorem keep.kekDrop {P : Stage → Prop} {q : List Instr} (s : State) (b : List Byte) (hs : s.holds P q) : (Sys2Proof.Machine.State.kekDrop s b).1.holds P q := by
  unfold Sys2Proof.Machine.State.kekDrop
  try dsimp only
  with_reducible repeat' (first | assumption | apply keep.kekShow | apply keep.stageOf (P := P) q | apply keep.queueOf P | apply keep.regsOf P q | apply keep.westOf P q | apply keep.eastOf P q | apply keep.bootOf P q | (simp only [↓keep.mk]; refine ⟨?_, ?_, ?_, ?_, ?_, ?_⟩) | split)

theorem keep.challenge {P : Stage → Prop} {q : List Instr} (s : State) (hs : s.holds P q) : (Sys2Proof.Machine.State.challenge s).1.holds P q := by
  unfold Sys2Proof.Machine.State.challenge
  try dsimp only
  with_reducible repeat' (first | assumption | apply keep.stageOf (P := P) q | apply keep.queueOf P | apply keep.regsOf P q | apply keep.westOf P q | apply keep.eastOf P q | apply keep.bootOf P q | (simp only [↓keep.mk]; refine ⟨?_, ?_, ?_, ?_, ?_, ?_⟩))

theorem keep.unlockDebug {P : Stage → Prop} {q : List Instr} (s : State) (b : List Byte) (hs : s.holds P q) : (Sys2Proof.Machine.State.unlockDebug s b).1.holds P q := by
  unfold Sys2Proof.Machine.State.unlockDebug
  try dsimp only
  with_reducible repeat' (first | assumption | apply keep.wf | apply keep.stageOf (P := P) q | apply keep.queueOf P | apply keep.regsOf P q | apply keep.westOf P q | apply keep.eastOf P q | apply keep.bootOf P q | (simp only [↓keep.mk]; refine ⟨?_, ?_, ?_, ?_, ?_, ?_⟩) | split)

theorem keep.updBegin {P : Stage → Prop} {q : List Instr} (s : State) (k : Nat) (hs : s.holds P q) : (Sys2Proof.Machine.State.updBegin s k).1.holds P q := by
  unfold Sys2Proof.Machine.State.updBegin
  try dsimp only
  with_reducible repeat' (first | assumption | apply keep.flashErase | apply keep.wf | apply keep.stageOf (P := P) q | apply keep.queueOf P | apply keep.regsOf P q | apply keep.westOf P q | apply keep.eastOf P q | apply keep.flashOf P q | (simp only [↓keep.mk]; refine ⟨?_, ?_, ?_, ?_, ?_, ?_⟩) | simp only [↓keep.bootMk] | split)

theorem keep.updData {P : Stage → Prop} {q : List Instr} (s : State) (k : Nat) (b : List Byte) (hs : s.holds P q) : (Sys2Proof.Machine.State.updData s k b).1.holds P q := by
  unfold Sys2Proof.Machine.State.updData
  try dsimp only
  with_reducible repeat' (first | assumption | apply keep.flashWrite | split)

theorem keep.updEnd {P : Stage → Prop} {q : List Instr} (s : State) (k : Nat) (hs : s.holds P q) : (Sys2Proof.Machine.State.updEnd s k).1.holds P q := by
  unfold Sys2Proof.Machine.State.updEnd
  try dsimp only
  with_reducible repeat' (first | assumption | apply keep.fresh | apply keep.slotShow | apply keep.stageOf (P := P) q | apply keep.queueOf P | apply keep.regsOf P q | apply keep.westOf P q | apply keep.eastOf P q | apply keep.flashOf P q | (simp only [↓keep.mk]; refine ⟨?_, ?_, ?_, ?_, ?_, ?_⟩) | simp only [↓keep.bootMk] | split)

theorem keep.updActivate {P : Stage → Prop} {q : List Instr} (s : State) (k : Nat) (hs : s.holds P q) : (Sys2Proof.Machine.State.updActivate s k).1.holds P q := by
  unfold Sys2Proof.Machine.State.updActivate
  try dsimp only
  with_reducible repeat' (first | assumption | apply keep.dirWrite | split)

theorem keep.updCommit {P : Stage → Prop} {q : List Instr} (s : State) (k : Nat) (hs : s.holds P q) : (Sys2Proof.Machine.State.updCommit s k).1.holds P q := by
  unfold Sys2Proof.Machine.State.updCommit
  try dsimp only
  with_reducible repeat' (first | assumption | apply keep.dirWrite | apply keep.wf | split)

theorem keep.updRun {P : Stage → Prop} {q : List Instr} (s : State) (code : Nat) (b : List Byte) (hs : s.holds P q) : (Sys2Proof.Machine.State.updRun s code b).1.holds P q := by
  unfold Sys2Proof.Machine.State.updRun
  try dsimp only
  with_reducible repeat' (first | assumption | apply keep.updActivate | apply keep.updBegin | apply keep.updCommit | apply keep.updData | apply keep.updEnd | split)

theorem keep.secDone {P : Stage → Prop} {qq : List Instr} (p : SecPath) (m : List Byte) (r : State × Nat) (hs : r.1.holds P qq) : (State.secDone p m r).holds P qq :=
  keep.secAnswer _ _ _ hs

theorem keep.secRun {P : Stage → Prop} {q : List Instr} (s : State) (p : SecPath) (m : List Byte) (hs : s.holds P q) : (Sys2Proof.Machine.State.secRun s p m).holds P q := by
  unfold Sys2Proof.Machine.State.secRun
  try dsimp only
  with_reducible repeat' (first | assumption | apply keep.challenge | apply keep.ctrlRestart | apply keep.kekDrop | apply keep.kekPut | apply keep.measure | apply keep.secAnswer | apply keep.secDone | apply keep.unlockDebug | apply keep.updRun | split)

theorem keep.secServe {P : Stage → Prop} {q : List Instr} (s : State) (p : SecPath) (m : List Byte) (hs : s.holds P q) : (Sys2Proof.Machine.State.secServe s p m).holds P q := by
  unfold Sys2Proof.Machine.State.secServe
  try dsimp only
  with_reducible repeat' (first | assumption | apply keep.secAnswer | apply keep.secRun | split)

theorem keep.mboxServe {P : Stage → Prop} {q : List Instr} (s : State) (hs : s.holds P q) : (Sys2Proof.Machine.State.mboxServe s).holds P q := by
  unfold Sys2Proof.Machine.State.mboxServe
  try dsimp only
  with_reducible repeat' (first | assumption | apply keep.secServe | split)

theorem keep.heldServe {P : Stage → Prop} {q : List Instr} (s : State) (hs : s.holds P q) : (Sys2Proof.Machine.State.heldServe s).holds P q := by
  unfold Sys2Proof.Machine.State.heldServe
  try dsimp only
  with_reducible repeat' (first | assumption | apply keep.secServe | apply keep.stageOf (P := P) q | apply keep.queueOf P | apply keep.regsOf P q | apply keep.westOf P q | apply keep.eastOf P q | apply keep.bootOf P q | (simp only [↓keep.mk]; refine ⟨?_, ?_, ?_, ?_, ?_, ?_⟩) | split)

theorem keep.mctpServe {P : Stage → Prop} {q : List Instr} (s : State) (m : List Byte) (hs : s.holds P q) : (Sys2Proof.Machine.State.mctpServe s m).holds P q := by
  unfold Sys2Proof.Machine.State.mctpServe
  try dsimp only
  with_reducible repeat' (first | assumption | apply keep.heldServe | apply keep.mboxServe | apply keep.stageOf (P := P) q | apply keep.queueOf P | apply keep.regsOf P q | apply keep.westOf P q | apply keep.eastOf P q | apply keep.bootOf P q | (simp only [↓keep.mk]; refine ⟨?_, ?_, ?_, ?_, ?_, ?_⟩) | split)

theorem keep.secMsg {P : Stage → Prop} {q : List Instr} (s : State) (p : SecPath) (code : Nat) (msg : List Byte) (hs : s.holds P q) : (Sys2Proof.Machine.State.secMsg s p code msg).holds P q := by
  unfold Sys2Proof.Machine.State.secMsg
  try dsimp only
  with_reducible repeat' (first | assumption | apply keep.heldServe | apply keep.mboxServe | apply keep.mctpServe | apply keep.stageOf (P := P) q | apply keep.queueOf P | apply keep.regsOf P q | apply keep.westOf P q | apply keep.eastOf P q | apply keep.bootOf P q | split)

theorem keep.execMctpControl {P : Stage → Prop} {q : List Instr} (cmd : List Byte) (s : State) (hs : s.holds P q) : outHolds P q (Sys2Proof.Machine.execMctpControl cmd s) := by
  unfold Sys2Proof.Machine.execMctpControl
  try dsimp only
  with_reducible repeat' (first | assumption | apply keep.send | apply keep.whenPowered | split | (intro))

theorem keep.execGetVersion {P : Stage → Prop} {q : List Instr} (p : SecPath) (msg : List Byte) (s : State) (hs : s.holds P q) : outHolds P q (Sys2Proof.Machine.execGetVersion p msg s) := by
  unfold Sys2Proof.Machine.execGetVersion
  try dsimp only
  with_reducible repeat' (first | assumption | apply keep.secMsg | apply keep.whenPowered | (intro))

theorem keep.execGetIdentity {P : Stage → Prop} {q : List Instr} (p : SecPath) (msg : List Byte) (s : State) (hs : s.holds P q) : outHolds P q (Sys2Proof.Machine.execGetIdentity p msg s) := by
  unfold Sys2Proof.Machine.execGetIdentity
  try dsimp only
  with_reducible repeat' (first | assumption | apply keep.secMsg | apply keep.whenPowered | (intro))

theorem keep.execGetCert {P : Stage → Prop} {q : List Instr} (p : SecPath) (msg : List Byte) (s : State) (hs : s.holds P q) : outHolds P q (Sys2Proof.Machine.execGetCert p msg s) := by
  unfold Sys2Proof.Machine.execGetCert
  try dsimp only
  with_reducible repeat' (first | assumption | apply keep.secMsg | apply keep.whenPowered | (intro))

theorem keep.execGetMeasurements {P : Stage → Prop} {q : List Instr} (p : SecPath) (msg : List Byte) (s : State) (hs : s.holds P q) : outHolds P q (Sys2Proof.Machine.execGetMeasurements p msg s) := by
  unfold Sys2Proof.Machine.execGetMeasurements
  try dsimp only
  with_reducible repeat' (first | assumption | apply keep.secMsg | apply keep.whenPowered | (intro))

theorem keep.execGetAttestState {P : Stage → Prop} {q : List Instr} (p : SecPath) (msg : List Byte) (s : State) (hs : s.holds P q) : outHolds P q (Sys2Proof.Machine.execGetAttestState p msg s) := by
  unfold Sys2Proof.Machine.execGetAttestState
  try dsimp only
  with_reducible repeat' (first | assumption | apply keep.secMsg | apply keep.whenPowered | (intro))

theorem keep.execAttestTokenTick {P : Stage → Prop} {q : List Instr} (s : State) (hs : s.holds P q) : outHolds P q (Sys2Proof.Machine.execAttestTokenTick s) := by
  unfold Sys2Proof.Machine.execAttestTokenTick
  try dsimp only
  with_reducible repeat' (first | assumption | apply keep.wf | apply keep.whenAwake | apply keep.stageOf (P := P) q | apply keep.queueOf P | apply keep.regsOf P q | apply keep.westOf P q | apply keep.eastOf P q | apply keep.bootOf P q | (simp only [↓keep.mk]; refine ⟨?_, ?_, ?_, ?_, ?_, ?_⟩) | (intro))

theorem keep.execKekInstall {P : Stage → Prop} {q : List Instr} (p : SecPath) (msg : List Byte) (s : State) (hs : s.holds P q) : outHolds P q (Sys2Proof.Machine.execKekInstall p msg s) := by
  unfold Sys2Proof.Machine.execKekInstall
  try dsimp only
  with_reducible repeat' (first | assumption | apply keep.secMsg | apply keep.whenPowered | (intro))

theorem keep.execKekClear {P : Stage → Prop} {q : List Instr} (p : SecPath) (msg : List Byte) (s : State) (hs : s.holds P q) : outHolds P q (Sys2Proof.Machine.execKekClear p msg s) := by
  unfold Sys2Proof.Machine.execKekClear
  try dsimp only
  with_reducible repeat' (first | assumption | apply keep.secMsg | apply keep.whenPowered | (intro))

theorem keep.execDebugChallenge {P : Stage → Prop} {q : List Instr} (p : SecPath) (msg : List Byte) (s : State) (hs : s.holds P q) : outHolds P q (Sys2Proof.Machine.execDebugChallenge p msg s) := by
  unfold Sys2Proof.Machine.execDebugChallenge
  try dsimp only
  with_reducible repeat' (first | assumption | apply keep.secMsg | apply keep.whenPowered | (intro))

theorem keep.execDebugUnlock {P : Stage → Prop} {q : List Instr} (p : SecPath) (msg : List Byte) (s : State) (hs : s.holds P q) : outHolds P q (Sys2Proof.Machine.execDebugUnlock p msg s) := by
  unfold Sys2Proof.Machine.execDebugUnlock
  try dsimp only
  with_reducible repeat' (first | assumption | apply keep.secMsg | apply keep.whenPowered | (intro))

theorem keep.execUpdBegin {P : Stage → Prop} {q : List Instr} (p : SecPath) (msg : List Byte) (s : State) (hs : s.holds P q) : outHolds P q (Sys2Proof.Machine.execUpdBegin p msg s) := by
  unfold Sys2Proof.Machine.execUpdBegin
  try dsimp only
  with_reducible repeat' (first | assumption | apply keep.secMsg | apply keep.whenPowered | (intro))

theorem keep.execUpdData {P : Stage → Prop} {q : List Instr} (p : SecPath) (msg : List Byte) (s : State) (hs : s.holds P q) : outHolds P q (Sys2Proof.Machine.execUpdData p msg s) := by
  unfold Sys2Proof.Machine.execUpdData
  try dsimp only
  with_reducible repeat' (first | assumption | apply keep.secMsg | apply keep.whenPowered | (intro))

theorem keep.execUpdEnd {P : Stage → Prop} {q : List Instr} (p : SecPath) (msg : List Byte) (s : State) (hs : s.holds P q) : outHolds P q (Sys2Proof.Machine.execUpdEnd p msg s) := by
  unfold Sys2Proof.Machine.execUpdEnd
  try dsimp only
  with_reducible repeat' (first | assumption | apply keep.secMsg | apply keep.whenPowered | (intro))

theorem keep.execUpdActivate {P : Stage → Prop} {q : List Instr} (p : SecPath) (msg : List Byte) (s : State) (hs : s.holds P q) : outHolds P q (Sys2Proof.Machine.execUpdActivate p msg s) := by
  unfold Sys2Proof.Machine.execUpdActivate
  try dsimp only
  with_reducible repeat' (first | assumption | apply keep.secMsg | apply keep.whenPowered | (intro))

theorem keep.execUpdCommit {P : Stage → Prop} {q : List Instr} (p : SecPath) (msg : List Byte) (s : State) (hs : s.holds P q) : outHolds P q (Sys2Proof.Machine.execUpdCommit p msg s) := by
  unfold Sys2Proof.Machine.execUpdCommit
  try dsimp only
  with_reducible repeat' (first | assumption | apply keep.secMsg | apply keep.whenPowered | (intro))

theorem keep.execUpdStatus {P : Stage → Prop} {q : List Instr} (p : SecPath) (msg : List Byte) (s : State) (hs : s.holds P q) : outHolds P q (Sys2Proof.Machine.execUpdStatus p msg s) := by
  unfold Sys2Proof.Machine.execUpdStatus
  try dsimp only
  with_reducible repeat' (first | assumption | apply keep.secMsg | apply keep.whenPowered | (intro))

theorem keep.ledgerCommit {P : Stage → Prop} {q : List Instr} (s : State) (h : Half) (hs : s.holds P q) : (Sys2Proof.Machine.State.ledgerCommit s h).holds P q := by
  unfold Sys2Proof.Machine.State.ledgerCommit
  try dsimp only
  with_reducible repeat' (first | assumption | apply keep.attestSign | apply keep.heldServe | apply keep.ledgerStep | apply keep.ledgerWrite | apply keep.mboxServe | apply keep.modNv | split)

theorem keep.execLedgerCommit {P : Stage → Prop} {q : List Instr} (h : Half) (s : State) (hs : s.holds P q) : outHolds P q (Sys2Proof.Machine.execLedgerCommit h s) := by
  unfold Sys2Proof.Machine.execLedgerCommit
  try dsimp only
  with_reducible repeat' (first | assumption | apply keep.ledgerCommit | apply keep.whenLive | (intro))

theorem keep.execTapInstruction {P : Stage → Prop} {q : List Instr} (code : Nat) (s : State) (hs : s.holds P q) : outHolds P q (Sys2Proof.Machine.execTapInstruction code s) := by
  unfold Sys2Proof.Machine.execTapInstruction
  try dsimp only
  with_reducible repeat' (first | assumption | apply keep.send | apply keep.next | apply keep.refused | split)

theorem keep.regSet {P : Stage → Prop} {q : List Instr} (s : State) (h : Half) (o : Nat) (r : RegDesc) (n wo v : Nat) (hs : s.holds P q) : (Sys2Proof.Machine.State.regSet s h o r n wo v).holds P q := by
  unfold Sys2Proof.Machine.State.regSet
  try dsimp only
  with_reducible repeat' (first | assumption | apply keep.log | apply keep.wr | split)

theorem keep.jctWrite {P : Stage → Prop} {q : List Instr} (s : State) (func v : Nat) (hs : s.holds P q) : (Sys2Proof.Machine.State.jctWrite s func v).holds P q := by
  unfold Sys2Proof.Machine.State.jctWrite
  try dsimp only
  with_reducible repeat' (first | assumption | apply keep.goAbortContext | apply keep.goAbortGraph | apply keep.goRetry | apply keep.jctSet | apply keep.log | apply keep.wf | split)

theorem keep.jctGraphWrite {P : Stage → Prop} {q : List Instr} (s : State) (func v : Nat) (hs : s.holds P q) : (Sys2Proof.Machine.State.jctGraphWrite s func v).holds P q := by
  unfold Sys2Proof.Machine.State.jctGraphWrite
  try dsimp only
  with_reducible repeat' (first | assumption | apply keep.wf | split)

theorem keep.mboxWrite {P : Stage → Prop} {q : List Instr} (s : State) (v : Nat) (hs : s.holds P q) : (Sys2Proof.Machine.State.mboxWrite s v).holds P q := by
  unfold Sys2Proof.Machine.State.mboxWrite
  try dsimp only
  with_reducible repeat' (first | assumption | apply keep.wf | split)

theorem keep.mboxReqWrite {P : Stage → Prop} {q : List Instr} (s : State) (n v : Nat) (hs : s.holds P q) : (Sys2Proof.Machine.State.mboxReqWrite s n v).holds P q := by
  unfold Sys2Proof.Machine.State.mboxReqWrite
  try dsimp only
  with_reducible repeat' (first | assumption | apply keep.log | apply keep.wr | split)

theorem keep.intervalWrite {P : Stage → Prop} {q : List Instr} (s : State) (h : Half) (v : Nat) (hs : s.holds P q) : (Sys2Proof.Machine.State.intervalWrite s h v).holds P q := by
  unfold Sys2Proof.Machine.State.intervalWrite
  try dsimp only
  with_reducible repeat' (first | assumption | apply keep.checkCatchup | apply keep.log | apply keep.runRefresh | apply keep.wf | split)

theorem keep.sdsQuotaWrite {P : Stage → Prop} {q : List Instr} (s : State) (h : Half) (c v : Nat) (hs : s.holds P q) : (Sys2Proof.Machine.State.sdsQuotaWrite s h c v).holds P q := by
  unfold Sys2Proof.Machine.State.sdsQuotaWrite
  try dsimp only
  with_reducible repeat' (first | assumption | apply keep.log | apply keep.wf | split)

theorem keep.memCtrlWrite {P : Stage → Prop} {q : List Instr} (s : State) (h : Half) (v : Nat) (hs : s.holds P q) : (Sys2Proof.Machine.State.memCtrlWrite s h v).holds P q := by
  unfold Sys2Proof.Machine.State.memCtrlWrite
  try dsimp only
  with_reducible repeat' (first | assumption | apply keep.memGo | apply keep.wf | split)

theorem keep.strCtrlWrite {P : Stage → Prop} {q : List Instr} (s : State) (h : Half) (e v : Nat) (hs : s.holds P q) : (Sys2Proof.Machine.State.strCtrlWrite s h e v).holds P q := by
  unfold Sys2Proof.Machine.State.strCtrlWrite
  try dsimp only
  with_reducible repeat' (first | assumption | apply keep.strAbort | apply keep.wf | split)

theorem keep.switchWrite {P : Stage → Prop} {q : List Instr} (s : State) (v : Nat) (hs : s.holds P q) : (Sys2Proof.Machine.State.switchWrite s v).holds P q := by
  unfold Sys2Proof.Machine.State.switchWrite
  try dsimp only
  with_reducible repeat' (first | assumption | apply keep.switchGo | apply keep.wf | split)

theorem keep.ringCtrlWrite {P : Stage → Prop} {q : List Instr} (s : State) (h : Half) (o : Nat) (r : RegDesc) (v : Nat) (hs : s.holds P q) : (Sys2Proof.Machine.State.ringCtrlWrite s h o r v).holds P q := by
  unfold Sys2Proof.Machine.State.ringCtrlWrite
  try dsimp only
  with_reducible repeat' (first | assumption | apply keep.ldrAbort | apply keep.regSet | split)

theorem keep.pwrEventWrite {P : Stage → Prop} {q : List Instr} (s : State) (v : Nat) (hs : s.holds P q) : (Sys2Proof.Machine.State.pwrEventWrite s v).holds P q := by
  unfold Sys2Proof.Machine.State.pwrEventWrite
  try dsimp only
  with_reducible repeat' (first | assumption | apply keep.wr | apply keep.stageOf (P := P) q | apply keep.queueOf P | apply keep.regsOf P q | apply keep.westOf P q | apply keep.eastOf P q | apply keep.bootOf P q | (simp only [↓keep.mk]; refine ⟨?_, ?_, ?_, ?_, ?_, ?_⟩) | split)

theorem keep.serviceWrite {P : Stage → Prop} {q : List Instr} (s : State) (v : Nat) (hs : s.holds P q) : (Sys2Proof.Machine.State.serviceWrite s v).holds P q := by
  unfold Sys2Proof.Machine.State.serviceWrite
  try dsimp only
  with_reducible repeat' (first | assumption | apply keep.serviceRestart | split)

theorem keep.wsetRegWrite {P : Stage → Prop} {q : List Instr} (s : State) (h : Half) (o : Nat) (r : RegDesc) (n v : Nat) (hs : s.holds P q) : (Sys2Proof.Machine.State.wsetRegWrite s h o r n v).holds P q := by
  unfold Sys2Proof.Machine.State.wsetRegWrite
  try dsimp only
  with_reducible repeat' (first | assumption | apply keep.regSet | apply keep.setChanged | split)

theorem keep.regEffect {P : Stage → Prop} {q : List Instr} (s : State) (func : Nat) (h : Half) (o : Nat) (r : RegDesc) (n wo v : Nat) (hs : s.holds P q) : (Sys2Proof.Machine.State.regEffect s func h o r n wo v).holds P q := by
  unfold Sys2Proof.Machine.State.regEffect
  try dsimp only
  with_reducible repeat' (first | assumption | apply keep.armCtrlWrite | apply keep.barCfgWrite | apply keep.capWrite | apply keep.cqHeadSet | apply keep.ctxCfgWrite | apply keep.domainCtrl | apply keep.galProgWrite | apply keep.hostHead | apply keep.intervalWrite | apply keep.jctGraphWrite | apply keep.jctWrite | apply keep.mboxReqWrite | apply keep.mboxWrite | apply keep.memCtrlWrite | apply keep.planeCfgWrite | apply keep.poolCtrlWrite | apply keep.portCfgWrite | apply keep.pwrEventWrite | apply keep.quotaWrite | apply keep.regSet | apply keep.ringCfgWrite | apply keep.ringCtrlWrite | apply keep.rqCfgWrite | apply keep.runRefresh | apply keep.sdsQuotaWrite | apply keep.serviceWrite | apply keep.setCtrlWrite | apply keep.setRegionWrite | apply keep.sqCfgWrite | apply keep.strCtrlWrite | apply keep.stuckWrite | apply keep.switchWrite | apply keep.wallWrite | apply keep.wsetCmd | apply keep.wsetRegWrite | split)

theorem keep.regWrite {P : Stage → Prop} {q : List Instr} (s : State) (func : Nat) (h : Half) (o v : Nat) (hs : s.holds P q) : (Sys2Proof.Machine.State.regWrite s func h o v).holds P q := by
  unfold Sys2Proof.Machine.State.regWrite
  try dsimp only
  with_reducible repeat' (first | assumption | apply keep.log | apply keep.regEffect | split)

theorem keep.regRead {P : Stage → Prop} {q : List Instr} (s : State) (func : Nat) (h : Half) (o : Nat) (hs : s.holds P q) : (Sys2Proof.Machine.State.regRead s func h o).1.holds P q := by
  unfold Sys2Proof.Machine.State.regRead
  try dsimp only
  with_reducible repeat' (first | assumption | apply keep.modHalf | apply keep.memOf | simp only [↓keep.halfMk] | split)

theorem keep.paramWrite {P : Stage → Prop} {q : List Instr} (s : State) (h : Half) (o : Nat) (bs : List Byte) (hs : s.holds P q) : (Sys2Proof.Machine.State.paramWrite s h o bs).holds P q := by
  unfold Sys2Proof.Machine.State.paramWrite
  try dsimp only
  with_reducible repeat' (first | assumption | apply keep.launchWrite | apply keep.modNv | apply keep.seqOther | apply keep.foldl | split | (intro))

theorem keep.windowWrite {P : Stage → Prop} {q : List Instr} (s : State) (func : Nat) (h : Half) (o width v : Nat) (hs : s.holds P q) : (Sys2Proof.Machine.State.windowWrite s func h o width v).holds P q := by
  unfold Sys2Proof.Machine.State.windowWrite
  try dsimp only
  with_reducible repeat' (first | assumption | apply keep.badAccess | apply keep.log | apply keep.modNv | apply keep.paramWrite | apply keep.seqOther | apply keep.seqWrite | apply keep.ite | (intro))

theorem keep.windowRead {P : Stage → Prop} {q : List Instr} (s : State) (func : Nat) (h : Half) (o width : Nat) (hs : s.holds P q) : (Sys2Proof.Machine.State.windowRead s func h o width).holds P q := by
  unfold Sys2Proof.Machine.State.windowRead
  try dsimp only
  with_reducible repeat' (first | assumption | apply keep.apertureRead | apply keep.badAccess | apply keep.readGive | split)

theorem keep.dvsecWrite {P : Stage → Prop} {q : List Instr} (s : State) (o v : Nat) (hs : s.holds P q) : (Sys2Proof.Machine.State.dvsecWrite s o v).holds P q := by
  unfold Sys2Proof.Machine.State.dvsecWrite
  try dsimp only
  with_reducible repeat' (first | assumption | apply keep.ctxFuncWrite | apply keep.wr | split)

theorem keep.setPm {P : Stage → Prop} {q : List Instr} (s : State) (f : Nat) (d3 : Bool) (hs : s.holds P q) : (Sys2Proof.Machine.State.setPm s f d3).holds P q := by
  unfold Sys2Proof.Machine.State.setPm
  try dsimp only
  with_reducible repeat' (first | assumption | apply keep.flr | apply keep.setFunc | split)

theorem keep.sriovWrite {P : Stage → Prop} {q : List Instr} (s : State) (v : Nat) (hs : s.holds P q) : (Sys2Proof.Machine.State.sriovWrite s v).holds P q := by
  unfold Sys2Proof.Machine.State.sriovWrite
  try dsimp only
  with_reducible repeat' (first | assumption | apply keep.flr | apply keep.foldl | apply keep.stageOf (P := P) q | apply keep.queueOf P | apply keep.regsOf P q | apply keep.westOf P q | apply keep.eastOf P q | apply keep.bootOf P q | (simp only [↓keep.mk]; refine ⟨?_, ?_, ?_, ?_, ?_, ?_⟩) | split | (intro))

theorem keep.pcieWrite {P : Stage → Prop} {q : List Instr} (s : State) (f o v : Nat) (hs : s.holds P q) : (Sys2Proof.Machine.State.pcieWrite s f o v).holds P q := by
  unfold Sys2Proof.Machine.State.pcieWrite
  try dsimp only
  with_reducible repeat' (first | assumption | apply keep.msixFlush | apply keep.priEnd | apply keep.setFunc | apply keep.setPm | apply keep.sriovWrite | apply keep.clsOf | apply keep.sentOf | apply keep.keptOf | apply mapWf_nil | apply keep.next | apply keep.refused | apply keep.ite | apply keep.itep | apply keep.foldl | apply keep.foldlp | apply keep.stageOf (P := P) q | apply keep.queueOf P | apply keep.regsOf P q | apply keep.westOf P q | apply keep.eastOf P q | apply keep.bootOf P q | apply keep.flashOf P q | apply keep.half | apply keep.memOf | apply keep.t1Of | apply keep.t2Of | apply mapWf_memWrite | apply mapWf_eraseRange | apply mapWf_mapSet | (simp only [↓keep.mk]; refine ⟨?_, ?_, ?_, ?_, ?_, ?_⟩) | simp only [↓keep.halfMk] | (simp only [↓keep.memMk]; refine ⟨?_, ?_⟩) | simp only [↓keep.bootMk] | refine keep.ofEq (by assumption) ?_ | (intro))

theorem keep.vectorMask {P : Stage → Prop} {q : List Instr} (s : State) (f e : Nat) (masked : Bool) (hs : s.holds P q) : (Sys2Proof.Machine.State.vectorMask s f e masked).holds P q := by
  unfold Sys2Proof.Machine.State.vectorMask
  try dsimp only
  with_reducible repeat' (first | assumption | apply keep.msixFlush | apply keep.setFunc)

theorem keep.bar4Write {P : Stage → Prop} {q : List Instr} (s : State) (f o v : Nat) (hs : s.holds P q) : (Sys2Proof.Machine.State.bar4Write s f o v).holds P q := by
  unfold Sys2Proof.Machine.State.bar4Write
  try dsimp only
  with_reducible repeat' (first | assumption | apply keep.cqBell | apply keep.sqBell | apply keep.vectorMask | apply keep.stageOf (P := P) q | apply keep.queueOf P | apply keep.regsOf P q | apply keep.westOf P q | apply keep.eastOf P q | apply keep.bootOf P q | (simp only [↓keep.mk]; refine ⟨?_, ?_, ?_, ?_, ?_, ?_⟩) | split)

theorem keep.accessDo {P : Stage → Prop} {q : List Instr} (s : State) (h : Half) (a : HeldAcc) (hs : s.holds P q) : (Sys2Proof.Machine.State.accessDo s h a).holds P q := by
  unfold Sys2Proof.Machine.State.accessDo
  try dsimp only
  with_reducible repeat' (first | assumption | apply keep.readGive | apply keep.regRead | apply keep.regWrite | apply keep.windowRead | apply keep.windowWrite | split)

theorem keep.accessIn {P : Stage → Prop} {q : List Instr} (s : State) (h : Half) (a : HeldAcc) (hs : s.holds P q) : (Sys2Proof.Machine.State.accessIn s h a).holds P q := by
  unfold Sys2Proof.Machine.State.accessIn
  try dsimp only
  with_reducible repeat' (first | assumption | apply keep.accessDo | apply keep.bar2Here | apply keep.modHalf | apply keep.memOf | simp only [↓keep.halfMk] | split)

theorem keep.accessGo {P : Stage → Prop} {q : List Instr} (s : State) (a : HeldAcc) (hs : s.holds P q) : (Sys2Proof.Machine.State.accessGo s a).holds P q := by
  unfold Sys2Proof.Machine.State.accessGo
  try dsimp only
  with_reducible repeat' (first | assumption | apply keep.accessIn | apply keep.passControl | split)

theorem keep.hostWrite {P : Stage → Prop} {q : List Instr} (s : State) (func off width v : Nat) (hs : s.holds P q) : (Sys2Proof.Machine.State.hostWrite s func off width v).holds P q := by
  unfold Sys2Proof.Machine.State.hostWrite
  try dsimp only
  with_reducible repeat' (first | assumption | apply keep.accessGo | apply keep.badAccess | apply keep.bar4Write | apply keep.dvsecWrite | apply keep.pcieWrite | apply keep.clsOf | apply keep.sentOf | apply keep.keptOf | apply mapWf_nil | apply keep.next | apply keep.refused | apply keep.itep | apply keep.foldl | apply keep.foldlp | apply keep.stageOf (P := P) q | apply keep.queueOf P | apply keep.regsOf P q | apply keep.westOf P q | apply keep.eastOf P q | apply keep.bootOf P q | apply keep.flashOf P q | apply keep.half | apply keep.memOf | apply keep.t1Of | apply keep.t2Of | apply mapWf_memWrite | apply mapWf_eraseRange | apply mapWf_mapSet | (simp only [↓keep.mk]; refine ⟨?_, ?_, ?_, ?_, ?_, ?_⟩) | simp only [↓keep.halfMk] | (simp only [↓keep.memMk]; refine ⟨?_, ?_⟩) | simp only [↓keep.bootMk] | refine keep.ofEq (by assumption) ?_ | split)

theorem keep.hostRead {P : Stage → Prop} {q : List Instr} (s : State) (func off width : Nat) (hs : s.holds P q) : (Sys2Proof.Machine.State.hostRead s func off width).holds P q := by
  unfold Sys2Proof.Machine.State.hostRead
  try dsimp only
  with_reducible repeat' (first | assumption | apply keep.accessGo | apply keep.badAccess | apply keep.send | split)

theorem keep.execRegisterWrite {P : Stage → Prop} {q : List Instr} (func off width v : Nat) (s : State) (hs : s.holds P q) : outHolds P q (Sys2Proof.Machine.execRegisterWrite func off width v s) := by
  unfold Sys2Proof.Machine.execRegisterWrite
  try dsimp only
  with_reducible repeat' (first | assumption | apply keep.hostWrite | apply keep.next | split)

theorem keep.accessRun {P : Stage → Prop} {q : List Instr} (s : State) (h : Half) (a : HeldAcc) (hs : s.holds P q) : (Sys2Proof.Machine.State.accessRun s h a).holds P q := by
  unfold Sys2Proof.Machine.State.accessRun
  try dsimp only
  with_reducible repeat' (first | assumption | apply keep.accessDo | apply keep.bar2Here | split)

theorem keep.accessDrain {P : Stage → Prop} {qq : List Instr} (s : State) (h : Half) (k : Nat)  (hs : s.holds P qq) : (s.accessDrain h k).holds P qq := by
  induction k generalizing s with
  | zero => exact hs
  | succ k ih =>
    simp only [State.accessDrain]
    split
    · exact hs
    · exact ih _ (keep.accessRun _ _ _ (keep.modHalf hs _ _ (fun _ hx => hx)))

theorem keep.execHeldWriteApply {P : Stage → Prop} {q : List Instr} (h : Half) (s : State) (hs : s.holds P q) : outHolds P q (Sys2Proof.Machine.execHeldWriteApply h s) := by
  unfold Sys2Proof.Machine.execHeldWriteApply
  try dsimp only
  with_reducible repeat' (first | assumption | apply keep.accessDrain | apply keep.whenLive | (intro))

theorem keep.readDrop {P : Stage → Prop} {q : List Instr} (s : State) (func off : Nat) (hs : s.holds P q) : (Sys2Proof.Machine.State.readDrop s func off).holds P q := by
  unfold Sys2Proof.Machine.State.readDrop
  try dsimp only
  with_reducible repeat' (first | assumption | apply keep.modHalf | apply keep.memOf | simp only [↓keep.halfMk])

theorem keep.execDeferredReadComplete {P : Stage → Prop} {q : List Instr} (func off width : Nat) (timedOut : Bool) (s : State) (hs : s.holds P q) : outHolds P q (Sys2Proof.Machine.execDeferredReadComplete func off width timedOut s) := by
  unfold Sys2Proof.Machine.execDeferredReadComplete
  try dsimp only
  with_reducible repeat' (first | assumption | apply keep.hostRead | apply keep.readDrop | apply keep.next | split)

theorem keep.setRole {P : Stage → Prop} {q : List Instr} (s : State) (v : Nat) (hs : s.holds P q) : (Sys2Proof.Machine.State.setRole s v).holds P q := by
  unfold Sys2Proof.Machine.State.setRole
  try dsimp only
  with_reducible repeat' (first | assumption | apply keep.wf)

theorem keep.mgmtSend {P : Stage → Prop} {q : List Instr} (s : State) (dest sub : Nat) (payload : List Byte) (hs : s.holds P q) : (Sys2Proof.Machine.State.mgmtSend s dest sub payload).holds P q := by
  unfold Sys2Proof.Machine.State.mgmtSend
  try dsimp only
  with_reducible repeat' (first | assumption | apply keep.sourceFlit)

theorem keep.setMaster {P : Stage → Prop} {q : List Instr} (s : State) (node : Nat) (hs : s.holds P q) : (Sys2Proof.Machine.State.setMaster s node).holds P q := by
  unfold Sys2Proof.Machine.State.setMaster
  try dsimp only
  with_reducible repeat' (first | assumption | apply keep.wf | split)

theorem keep.mgmtHear {P : Stage → Prop} {q : List Instr} (s : State) (src epoch : Nat) (hs : s.holds P q) : (Sys2Proof.Machine.State.mgmtHear s src epoch).1.holds P q := by
  unfold Sys2Proof.Machine.State.mgmtHear
  try dsimp only
  with_reducible repeat' (first | assumption | apply keep.mgmtSend | apply keep.setMaster | apply keep.setRole | apply keep.wf | apply keep.stageOf (P := P) q | apply keep.queueOf P | apply keep.regsOf P q | apply keep.westOf P q | apply keep.eastOf P q | apply keep.bootOf P q | split)

theorem keep.mgmtRefused {P : Stage → Prop} {q : List Instr} (s : State) (src : Nat) (hs : s.holds P q) : (Sys2Proof.Machine.State.mgmtRefused s src).holds P q := by
  unfold Sys2Proof.Machine.State.mgmtRefused
  try dsimp only
  with_reducible repeat' (first | assumption | apply keep.log | apply keep.wf)

theorem keep.fromMaster {P : Stage → Prop} {q : List Instr} (s : State) (src epoch : Nat) (f : State → State) (hs : s.holds P q) (h_f : ∀ s, s.holds P q → (f s).holds P q) : (Sys2Proof.Machine.State.fromMaster s src epoch f).holds P q := by
  unfold Sys2Proof.Machine.State.fromMaster
  try dsimp only
  with_reducible repeat' (first | assumption | apply keep.mgmtHear | apply keep.mgmtRefused | apply h_f | split)

theorem keep.whenMgmt {P : Stage → Prop} {q : List Instr} (i : Instr) (s : State) (f : State → State) (hs : s.holds P q) (h_f : ∀ s, s.holds P q → (f s).holds P q) : outHolds P q (Sys2Proof.Machine.whenMgmt i s f) := by
  unfold Sys2Proof.Machine.whenMgmt
  try dsimp only
  with_reducible repeat' (first | assumption | apply keep.whenLive | apply h_f | apply keep.stageOf (P := P) q | apply keep.queueOf P | apply keep.regsOf P q | apply keep.westOf P q | apply keep.eastOf P q | apply keep.bootOf P q | (simp only [↓keep.mk]; refine ⟨?_, ?_, ?_, ?_, ?_, ?_⟩) | split | (intro))

theorem keep.mgmtGet {P : Stage → Prop} {q : List Instr} (s : State) (space off : Nat) (hs : s.holds P q) : (Sys2Proof.Machine.State.mgmtGet s space off).1.holds P q := by
  unfold Sys2Proof.Machine.State.mgmtGet
  try dsimp only
  with_reducible repeat' (first | assumption | apply keep.logWord | apply keep.regRead | apply keep.scan | apply keep.foldl | split | (intro))

theorem keep.mgmtPut {P : Stage → Prop} {q : List Instr} (s : State) (space off be : Nat) (v : Word) (hs : s.holds P q) : (Sys2Proof.Machine.State.mgmtPut s space off be v).holds P q := by
  unfold Sys2Proof.Machine.State.mgmtPut
  try dsimp only
  with_reducible repeat' (first | assumption | apply keep.accessIn | apply keep.bar2Here | apply keep.hostWrite | split)

theorem keep.mgmtRun {P : Stage → Prop} {q : List Instr} (s : State) (a : MgmtAcc) (hs : s.holds P q) : (Sys2Proof.Machine.State.mgmtRun s a).holds P q := by
  unfold Sys2Proof.Machine.State.mgmtRun
  try dsimp only
  with_reducible repeat' (first | assumption | apply keep.mgmtGet | apply keep.mgmtPut | apply keep.mgmtSend | apply keep.foldl | apply keep.foldlp | split | (intro))

theorem keep.mgmtDrain {P : Stage → Prop} {qq : List Instr} (s : State) (k : Nat)  (hs : s.holds P qq) : (s.mgmtDrain k).holds P qq := by
  induction k generalizing s with
  | zero => exact hs
  | succ k ih =>
    simp only [State.mgmtDrain]
    split
    · exact hs
    · split
      · exact hs
      · exact ih _ (keep.mgmtRun _ _ ⟨hs.stage, hs.queue, hs.regs, hs.west, hs.east, hs.boot⟩)

theorem keep.mgmtAccess {P : Stage → Prop} {q : List Instr} (s : State) (a : MgmtAcc) (hs : s.holds P q) : (Sys2Proof.Machine.State.mgmtAccess s a).holds P q := by
  unfold Sys2Proof.Machine.State.mgmtAccess
  try dsimp only
  with_reducible repeat' (first | assumption | apply keep.mgmtDrain | apply keep.mgmtSend | apply keep.stageOf (P := P) q | apply keep.queueOf P | apply keep.regsOf P q | apply keep.westOf P q | apply keep.eastOf P q | apply keep.bootOf P q | (simp only [↓keep.mk]; refine ⟨?_, ?_, ?_, ?_, ?_, ?_⟩) | split)

theorem keep.readAsked {P : Stage → Prop} {q : List Instr} (s : State) (src epoch space off count tag : Nat) (hs : s.holds P q) : (Sys2Proof.Machine.State.readAsked s src epoch space off count tag).holds P q := by
  unfold Sys2Proof.Machine.State.readAsked
  try dsimp only
  with_reducible repeat' (first | assumption | apply keep.fromMaster | apply keep.mgmtAccess | (intro))

theorem keep.writeAsked {P : Stage → Prop} {q : List Instr} (s : State) (src epoch space off be tag : Nat) (words : List Word) (hs : s.holds P q) : (Sys2Proof.Machine.State.writeAsked s src epoch space off be tag words).holds P q := by
  unfold Sys2Proof.Machine.State.writeAsked
  try dsimp only
  with_reducible repeat' (first | assumption | apply keep.fromMaster | apply keep.mgmtAccess | (intro))

theorem keep.accessTimeout {P : Stage → Prop} {q : List Instr} (s : State) (tag : Nat) (hs : s.holds P q) : (Sys2Proof.Machine.State.accessTimeout s tag).holds P q := by
  unfold Sys2Proof.Machine.State.accessTimeout
  try dsimp only
  with_reducible repeat' (first | assumption | apply keep.mgmtSend | apply keep.stageOf (P := P) q | apply keep.queueOf P | apply keep.regsOf P q | apply keep.westOf P q | apply keep.eastOf P q | apply keep.bootOf P q | (simp only [↓keep.mk]; refine ⟨?_, ?_, ?_, ?_, ?_, ?_⟩) | split)

theorem keep.execRegRead {P : Stage → Prop} {q : List Instr} (src epoch space off count tag : Nat) (s : State) (hs : s.holds P q) : outHolds P q (Sys2Proof.Machine.execRegRead src epoch space off count tag s) := by
  unfold Sys2Proof.Machine.execRegRead
  try dsimp only
  with_reducible repeat' (first | assumption | apply keep.readAsked | apply keep.whenMgmt | (intro))

theorem keep.execRegWrite {P : Stage → Prop} {q : List Instr} (src epoch space off be tag : Nat) (words : List Word) (s : State) (hs : s.holds P q) : outHolds P q (Sys2Proof.Machine.execRegWrite src epoch space off be tag words s) := by
  unfold Sys2Proof.Machine.execRegWrite
  try dsimp only
  with_reducible repeat' (first | assumption | apply keep.writeAsked | apply keep.whenMgmt | (intro))

theorem keep.execMgmtAccessTimeout {P : Stage → Prop} {q : List Instr} (tag : Nat) (s : State) (hs : s.holds P q) : outHolds P q (Sys2Proof.Machine.execMgmtAccessTimeout tag s) := by
  unfold Sys2Proof.Machine.execMgmtAccessTimeout
  try dsimp only
  with_reducible repeat' (first | assumption | apply keep.accessTimeout | apply keep.whenMgmt | (intro))

theorem keep.freeList {P : Stage → Prop} {qq : List Instr} (s : State) (k : Nat)  (hs : s.holds P qq) : (s.freeList k).1.holds P qq := by
  induction k generalizing s with
  | zero => exact hs
  | succ k ih => exact ih _ (keep.fresh hs)

theorem keep.memberWrite {P : Stage → Prop} {q : List Instr} (s : State) (node space off be tag : Nat) (words : List Nat) (hs : s.holds P q) : (Sys2Proof.Machine.State.memberWrite s node space off be tag words).holds P q := by
  unfold Sys2Proof.Machine.State.memberWrite
  try dsimp only
  with_reducible repeat' (first | assumption | apply keep.mgmtSend)

theorem keep.manage {P : Stage → Prop} {qq : List Instr} (s : State) (node : Nat)  (hs : s.holds P qq) : (s.manage node).holds P qq := by
  unfold State.manage
  dsimp only
  split
  · exact keep.freeList _ _ hs
  · exact keep.mgmtSend _ _ _ _ (keep.freeList _ _ hs)
  · exact keep.memberWrite _ _ _ _ _ _ _ (keep.freeList _ _ (keep.freeList _ _ hs))

theorem keep.supplyWall {P : Stage → Prop} {q : List Instr} (s : State) (hs : s.holds P q) : (Sys2Proof.Machine.State.supplyWall s).holds P q := by
  unfold Sys2Proof.Machine.State.supplyWall
  try dsimp only
  with_reducible repeat' (first | assumption | apply keep.memberWrite | apply keep.foldl | apply keep.stageOf (P := P) q | apply keep.queueOf P | apply keep.regsOf P q | apply keep.westOf P q | apply keep.eastOf P q | apply keep.bootOf P q | (simp only [↓keep.mk]; refine ⟨?_, ?_, ?_, ?_, ?_, ?_⟩) | split | (intro))

theorem keep.memberSeen {P : Stage → Prop} {q : List Instr} (s : State) (node : Nat) (hs : s.holds P q) : (Sys2Proof.Machine.State.memberSeen s node).holds P q := by
  unfold Sys2Proof.Machine.State.memberSeen
  try dsimp only
  with_reducible repeat' (first | assumption | apply keep.stageOf (P := P) q | apply keep.queueOf P | apply keep.regsOf P q | apply keep.westOf P q | apply keep.eastOf P q | apply keep.bootOf P q | (simp only [↓keep.mk]; refine ⟨?_, ?_, ?_, ?_, ?_, ?_⟩) | split)

theorem keep.respIn {P : Stage → Prop} {q : List Instr} (s : State) (src epoch tag status : Nat) (words : List Word) (hs : s.holds P q) : (Sys2Proof.Machine.State.respIn s src epoch tag status words).holds P q := by
  unfold Sys2Proof.Machine.State.respIn
  try dsimp only
  with_reducible repeat' (first | assumption | apply keep.manage | apply keep.mgmtHear | apply keep.stageOf (P := P) q | apply keep.queueOf P | apply keep.regsOf P q | apply keep.westOf P q | apply keep.eastOf P q | apply keep.bootOf P q | (simp only [↓keep.mk]; refine ⟨?_, ?_, ?_, ?_, ?_, ?_⟩) | split)

theorem keep.execRegResp {P : Stage → Prop} {q : List Instr} (src epoch tag status : Nat) (words : List Word) (s : State) (hs : s.holds P q) : outHolds P q (Sys2Proof.Machine.execRegResp src epoch tag status words s) := by
  unfold Sys2Proof.Machine.execRegResp
  try dsimp only
  with_reducible repeat' (first | assumption | apply keep.respIn | apply keep.whenMgmt | (intro))

theorem keep.notifyIn {P : Stage → Prop} {q : List Instr} (s : State) (src epoch : Nat) (payload : List Byte) (hs : s.holds P q) : (Sys2Proof.Machine.State.notifyIn s src epoch payload).holds P q := by
  unfold Sys2Proof.Machine.State.notifyIn
  try dsimp only
  with_reducible repeat' (first | assumption | apply keep.manage | apply keep.memberSeen | apply keep.mgmtHear | apply keep.supplyWall | apply keep.stageOf (P := P) q | apply keep.queueOf P | apply keep.regsOf P q | apply keep.westOf P q | apply keep.eastOf P q | apply keep.bootOf P q | (simp only [↓keep.mk]; refine ⟨?_, ?_, ?_, ?_, ?_, ?_⟩) | split)

theorem keep.execNotify {P : Stage → Prop} {q : List Instr} (src epoch : Nat) (payload : List Byte) (s : State) (hs : s.holds P q) : outHolds P q (Sys2Proof.Machine.execNotify src epoch payload s) := by
  unfold Sys2Proof.Machine.execNotify
  try dsimp only
  with_reducible repeat' (first | assumption | apply keep.notifyIn | apply keep.whenMgmt | (intro))

theorem keep.notesFlush {P : Stage → Prop} {q : List Instr} (s : State) (hs : s.holds P q) : (Sys2Proof.Machine.State.notesFlush s).holds P q := by
  unfold Sys2Proof.Machine.State.notesFlush
  try dsimp only
  with_reducible repeat' (first | assumption | apply keep.mgmtSend | apply keep.foldl | apply keep.stageOf (P := P) q | apply keep.queueOf P | apply keep.regsOf P q | apply keep.westOf P q | apply keep.eastOf P q | apply keep.bootOf P q | (simp only [↓keep.mk]; refine ⟨?_, ?_, ?_, ?_, ?_, ?_⟩) | split | (intro))

theorem keep.execHeartbeat {P : Stage → Prop} {q : List Instr} (src epoch : Nat) (s : State) (hs : s.holds P q) : outHolds P q (Sys2Proof.Machine.execHeartbeat src epoch s) := by
  unfold Sys2Proof.Machine.execHeartbeat
  try dsimp only
  with_reducible repeat' (first | assumption | apply keep.mgmtHear | apply keep.whenMgmt | (intro))

theorem keep.heartbeatDue {P : Stage → Prop} {q : List Instr} (s : State) (hs : s.holds P q) : (Sys2Proof.Machine.State.heartbeatDue s).holds P q := by
  unfold Sys2Proof.Machine.State.heartbeatDue
  try dsimp only
  with_reducible repeat' (first | assumption | apply keep.mgmtSend | split)

theorem keep.execHeartbeatTimer {P : Stage → Prop} {q : List Instr} (s : State) (hs : s.holds P q) : outHolds P q (Sys2Proof.Machine.execHeartbeatTimer s) := by
  unfold Sys2Proof.Machine.execHeartbeatTimer
  try dsimp only
  with_reducible repeat' (first | assumption | apply keep.heartbeatDue | apply keep.whenMgmt)

theorem keep.becomeMaster {P : Stage → Prop} {q : List Instr} (s : State) (hs : s.holds P q) : (Sys2Proof.Machine.State.becomeMaster s).holds P q := by
  unfold Sys2Proof.Machine.State.becomeMaster
  try dsimp only
  with_reducible repeat' (first | assumption | apply keep.mgmtSend | apply keep.setMaster | apply keep.setRole | apply keep.wf | apply keep.foldl | split | (intro))

theorem keep.execHeartbeatLoss {P : Stage → Prop} {q : List Instr} (s : State) (hs : s.holds P q) : outHolds P q (Sys2Proof.Machine.execHeartbeatLoss s) := by
  unfold Sys2Proof.Machine.execHeartbeatLoss
  try dsimp only
  with_reducible repeat' (first | assumption | apply keep.becomeMaster | apply keep.whenMgmt)

theorem keep.execTakeover {P : Stage → Prop} {q : List Instr} (src epoch : Nat) (s : State) (hs : s.holds P q) : outHolds P q (Sys2Proof.Machine.execTakeover src epoch s) := by
  unfold Sys2Proof.Machine.execTakeover
  try dsimp only
  with_reducible repeat' (first | assumption | apply keep.mgmtHear | apply keep.whenMgmt | (intro))

theorem keep.rejectIn {P : Stage → Prop} {q : List Instr} (s : State) (src epoch : Nat) (hs : s.holds P q) : (Sys2Proof.Machine.State.rejectIn s src epoch).holds P q := by
  unfold Sys2Proof.Machine.State.rejectIn
  try dsimp only
  with_reducible repeat' (first | assumption | apply keep.mgmtHear | apply keep.setRole | split)

theorem keep.execRejectEpoch {P : Stage → Prop} {q : List Instr} (src epoch cur master : Nat) (s : State) (hs : s.holds P q) : outHolds P q (Sys2Proof.Machine.execRejectEpoch src epoch cur master s) := by
  unfold Sys2Proof.Machine.execRejectEpoch
  try dsimp only
  with_reducible repeat' (first | assumption | apply keep.rejectIn | apply keep.whenMgmt | (intro))

theorem keep.grantTake {P : Stage → Prop} {q : List Instr} (s : State) (w : Nat) (hs : s.holds P q) : (Sys2Proof.Machine.State.grantTake s w).holds P q := by
  unfold Sys2Proof.Machine.State.grantTake
  try dsimp only
  with_reducible repeat' (first | assumption | apply keep.showCap | apply keep.wf | apply keep.stageOf (P := P) q | apply keep.queueOf P | apply keep.regsOf P q | apply keep.westOf P q | apply keep.eastOf P q | apply keep.bootOf P q | (simp only [↓keep.mk]; refine ⟨?_, ?_, ?_, ?_, ?_, ?_⟩))

theorem keep.reportIn {P : Stage → Prop} {q : List Instr} (s : State) (node measured cap slack : Nat) (hs : s.holds P q) : (Sys2Proof.Machine.State.reportIn s node measured cap slack).holds P q := by
  unfold Sys2Proof.Machine.State.reportIn
  try dsimp only
  with_reducible repeat' (first | assumption | apply keep.stageOf (P := P) q | apply keep.queueOf P | apply keep.regsOf P q | apply keep.westOf P q | apply keep.eastOf P q | apply keep.bootOf P q | (simp only [↓keep.mk]; refine ⟨?_, ?_, ?_, ?_, ?_, ?_⟩))

theorem keep.grantOne {P : Stage → Prop} {q : List Instr} (s : State) (r : Nat × Nat × Nat × Nat) (hs : s.holds P q) : (Sys2Proof.Machine.State.grantOne s r).holds P q := by
  unfold Sys2Proof.Machine.State.grantOne
  try dsimp only
  with_reducible repeat' (first | assumption | apply keep.fresh | apply keep.grantTake | apply keep.mgmtSend | apply keep.stageOf (P := P) q | apply keep.queueOf P | apply keep.regsOf P q | apply keep.westOf P q | apply keep.eastOf P q | apply keep.bootOf P q | (simp only [↓keep.mk]; refine ⟨?_, ?_, ?_, ?_, ?_, ?_⟩) | split)

theorem keep.tickBudget {P : Stage → Prop} {q : List Instr} (s : State) (hs : s.holds P q) : (Sys2Proof.Machine.State.tickBudget s).holds P q := by
  unfold Sys2Proof.Machine.State.tickBudget
  try dsimp only
  with_reducible repeat' (first | assumption | apply keep.stageOf (P := P) q | apply keep.queueOf P | apply keep.regsOf P q | apply keep.westOf P q | apply keep.eastOf P q | apply keep.bootOf P q | (simp only [↓keep.mk]; refine ⟨?_, ?_, ?_, ?_, ?_, ?_⟩))

theorem keep.masterPeriod {P : Stage → Prop} {q : List Instr} (s : State) (hs : s.holds P q) : (Sys2Proof.Machine.State.masterPeriod s).holds P q := by
  unfold Sys2Proof.Machine.State.masterPeriod
  try dsimp only
  with_reducible repeat' (first | assumption | apply keep.fresh | apply keep.grantOne | apply keep.manage | apply keep.supplyWall | apply keep.foldl | split)

theorem keep.periodReport {P : Stage → Prop} {q : List Instr} (s : State) (measured cap slack why : Nat) (hs : s.holds P q) : (Sys2Proof.Machine.State.periodReport s measured cap slack why).holds P q := by
  unfold Sys2Proof.Machine.State.periodReport
  try dsimp only
  with_reducible repeat' (first | assumption | apply keep.masterPeriod | apply keep.mgmtSend | apply keep.reportIn | split)

theorem keep.execBudgetPeriod {P : Stage → Prop} {q : List Instr} (measuredW : Nat) (s : State) (hs : s.holds P q) : outHolds P q (Sys2Proof.Machine.execBudgetPeriod measuredW s) := by
  unfold Sys2Proof.Machine.execBudgetPeriod
  try dsimp only
  with_reducible repeat' (first | assumption | apply keep.periodReport | apply keep.wf | apply keep.whenLive | apply keep.stageOf (P := P) q | apply keep.queueOf P | apply keep.regsOf P q | apply keep.westOf P q | apply keep.eastOf P q | apply keep.bootOf P q | (simp only [↓keep.mk]; refine ⟨?_, ?_, ?_, ?_, ?_, ?_⟩) | split | (intro))

theorem keep.reportHeard {P : Stage → Prop} {q : List Instr} (s : State) (src epoch measuredW capW slack : Nat) (hs : s.holds P q) : (Sys2Proof.Machine.State.reportHeard s src epoch measuredW capW slack).holds P q := by
  unfold Sys2Proof.Machine.State.reportHeard
  try dsimp only
  with_reducible repeat' (first | assumption | apply keep.mgmtHear | apply keep.reportIn | split)

theorem keep.execBudgetReport {P : Stage → Prop} {q : List Instr} (src epoch measuredW capW slack reasons : Nat) (s : State) (hs : s.holds P q) : outHolds P q (Sys2Proof.Machine.execBudgetReport src epoch measuredW capW slack reasons s) := by
  unfold Sys2Proof.Machine.execBudgetReport
  try dsimp only
  with_reducible repeat' (first | assumption | apply keep.reportHeard | apply keep.whenMgmt | (intro))

theorem keep.execBudgetGrant {P : Stage → Prop} {q : List Instr} (src epoch capW : Nat) (s : State) (hs : s.holds P q) : outHolds P q (Sys2Proof.Machine.execBudgetGrant src epoch capW s) := by
  unfold Sys2Proof.Machine.execBudgetGrant
  try dsimp only
  with_reducible repeat' (first | assumption | apply keep.fromMaster | apply keep.grantTake | apply keep.whenMgmt | (intro))

theorem keep.execBudgetRevert {P : Stage → Prop} {q : List Instr} (s : State) (hs : s.holds P q) : outHolds P q (Sys2Proof.Machine.execBudgetRevert s) := by
  unfold Sys2Proof.Machine.execBudgetRevert
  try dsimp only
  with_reducible repeat' (first | assumption | apply keep.showCap | apply keep.wf | apply keep.whenLive | apply keep.stageOf (P := P) q | apply keep.queueOf P | apply keep.regsOf P q | apply keep.westOf P q | apply keep.eastOf P q | apply keep.bootOf P q | (simp only [↓keep.mk]; refine ⟨?_, ?_, ?_, ?_, ?_, ?_⟩) | split | (intro))

theorem keep.mgmtDo {P : Stage → Prop} {qq : List Instr} (s : State) (o : MgmtOp)  (hs : s.holds P qq) : (s.mgmtDo o).holds P qq := by
  unfold State.mgmtDo
  repeat' split
  all_goals with_reducible first | assumption | apply keep.periodReport | apply keep.readAsked | apply keep.writeAsked | apply keep.accessTimeout | apply keep.respIn | apply keep.notifyIn | apply keep.mgmtHear | apply keep.heartbeatDue | apply keep.becomeMaster | apply keep.rejectIn | apply keep.reportHeard | (refine keep.fromMaster _ _ _ _ ?_ ?_)
  all_goals first | assumption | exact fun s hs => keep.grantTake _ _ hs

theorem keep.mgmtResume {P : Stage → Prop} {qq : List Instr} (s : State)   (hs : s.holds P qq) : (s.mgmtResume).holds P qq := by
  unfold State.mgmtResume
  exact keep.foldl _ _ (fun s o hh => keep.mgmtDo s o hh) _ ⟨hs.stage, hs.queue, hs.regs, hs.west, hs.east, hs.boot⟩

theorem keep.execMgmtRestartDone {P : Stage → Prop} {q : List Instr} (s : State) (hs : s.holds P q) : outHolds P q (Sys2Proof.Machine.execMgmtRestartDone s) := by
  unfold Sys2Proof.Machine.execMgmtRestartDone
  try dsimp only
  with_reducible repeat' (first | assumption | apply keep.mboxServe | apply keep.mgmtResume | apply keep.pickImage | apply keep.whenLive | apply keep.stageOf (P := P) q | apply keep.queueOf P | apply keep.regsOf P q | apply keep.westOf P q | apply keep.eastOf P q | apply keep.bootOf P q | (simp only [↓keep.mk]; refine ⟨?_, ?_, ?_, ?_, ?_, ?_⟩) | split | (intro))

theorem keep.bindIn {P : Stage → Prop} {q : List Instr} (s : State) (n : Option NodeRef) (e : Nat) (hs : s.holds P q) : (Sys2Proof.Machine.State.bindIn s n e).holds P q := by
  unfold Sys2Proof.Machine.State.bindIn
  try dsimp only
  with_reducible repeat' (first | assumption | apply keep.afterBind | apply keep.modEng | apply keep.modNode | apply keep.tryBind | split)

theorem keep.keyIn {P : Stage → Prop} {q : List Instr} (s : State) (k : Option (List Byte)) (hs : s.holds P q) : (Sys2Proof.Machine.State.keyIn s k).holds P q := by
  unfold Sys2Proof.Machine.State.keyIn
  try dsimp only
  with_reducible repeat' (first | assumption | apply keep.ldStep | apply keep.modLdr | split)

theorem keep.powerIn {P : Stage → Prop} {q : List Instr} (s : State) (d : Nat) (on : Bool) (hs : s.holds P q) : (Sys2Proof.Machine.State.powerIn s d on).holds P q := by
  unfold Sys2Proof.Machine.State.powerIn
  try dsimp only
  with_reducible repeat' (first | assumption | apply keep.toSleep | split)

theorem keep.passDeliver {P : Stage → Prop} {q : List Instr} (s : State) (h : Half) (m : PassMsg) (hs : s.holds P q) : (Sys2Proof.Machine.State.passDeliver s h m).holds P q := by
  unfold Sys2Proof.Machine.State.passDeliver
  try dsimp only
  with_reducible repeat' (first | assumption | apply keep.accessIn | apply keep.admitEast | apply keep.bindIn | apply keep.feedIn | apply keep.flitCrossed | apply keep.keyIn | apply keep.memPut | apply keep.passControl | apply keep.powerIn | apply keep.send | apply keep.srcFree | apply keep.storeBytes | apply keep.switchArrive | apply keep.tokenIn | split)

theorem keep.payloadFails {P : Stage → Prop} {q : List Instr} (s : State) (h : Half) (n : Option NodeRef) (e lost : Nat) (hs : s.holds P q) : (Sys2Proof.Machine.State.payloadFails s h n e lost).holds P q := by
  unfold Sys2Proof.Machine.State.payloadFails
  try dsimp only
  with_reducible repeat' (first | assumption | apply keep.log | apply keep.logNode | apply keep.modEng | apply keep.modNode | apply keep.transferFail | split)

theorem keep.passFails {P : Stage → Prop} {q : List Instr} (s : State) (h : Half) (m : PassMsg) (hs : s.holds P q) : (Sys2Proof.Machine.State.passFails s h m).holds P q := by
  unfold Sys2Proof.Machine.State.passFails
  try dsimp only
  with_reducible repeat' (first | assumption | apply keep.log | apply keep.modHalf | apply keep.modMem | apply keep.payloadFails | apply keep.wf | apply keep.memOf | apply keep.t1Of | apply keep.t2Of | simp only [↓keep.halfMk] | (simp only [↓keep.memMk]; refine ⟨?_, ?_⟩) | split | (intro))

theorem keep.passArrive {P : Stage → Prop} {q : List Instr} (s : State) (h : Half) (k : PClass) (fails : Nat) (hs : s.holds P q) : (Sys2Proof.Machine.State.passArrive s h k fails).holds P q := by
  unfold Sys2Proof.Machine.State.passArrive
  try dsimp only
  with_reducible repeat' (first | assumption | apply keep.modHalf | apply keep.passDeliver | apply keep.passFails | apply keep.sentOf | split | (intro))

theorem keep.execPassageTransferArrive {P : Stage → Prop} {q : List Instr} (h : Half) (k : PClass) (fails : Nat) (s : State) (hs : s.holds P q) : outHolds P q (Sys2Proof.Machine.execPassageTransferArrive h k fails s) := by
  unfold Sys2Proof.Machine.execPassageTransferArrive
  try dsimp only
  with_reducible repeat' (first | assumption | apply keep.passArrive | apply keep.whenLive | (intro))

theorem keep.tickMs {P : Stage → Prop} {q : List Instr} (s : State) (hs : s.holds P q) : (Sys2Proof.Machine.State.tickMs s).holds P q := by
  unfold Sys2Proof.Machine.State.tickMs
  try dsimp only
  with_reducible repeat' (first | assumption | apply keep.addSat | apply keep.stageOf (P := P) q | apply keep.queueOf P | apply keep.regsOf P q | apply keep.westOf P q | apply keep.eastOf P q | apply keep.bootOf P q | (simp only [↓keep.mk]; refine ⟨?_, ?_, ?_, ?_, ?_, ?_⟩) | split)

theorem keep.tickService {P : Stage → Prop} {q : List Instr} (s : State) (hs : s.holds P q) : (Sys2Proof.Machine.State.tickService s).holds P q := by
  unfold Sys2Proof.Machine.State.tickService
  try dsimp only
  with_reducible repeat' (first | assumption | apply keep.addSat | apply keep.tickMs | apply keep.stageOf (P := P) q | apply keep.queueOf P | apply keep.regsOf P q | apply keep.westOf P q | apply keep.eastOf P q | apply keep.bootOf P q | (simp only [↓keep.mk]; refine ⟨?_, ?_, ?_, ?_, ?_, ?_⟩) | split)

theorem keep.tickSeams {P : Stage → Prop} {q : List Instr} (s : State) (h : Half) (hs : s.holds P q) : (Sys2Proof.Machine.State.tickSeams s h).holds P q := by
  unfold Sys2Proof.Machine.State.tickSeams
  try dsimp only
  with_reducible repeat' (first | assumption | apply keep.add | apply keep.foldl | split | (intro))

theorem keep.tickSeqs {P : Stage → Prop} {q : List Instr} (s : State) (h : Half) (hs : s.holds P q) : (Sys2Proof.Machine.State.tickSeqs s h).holds P q := by
  unfold Sys2Proof.Machine.State.tickSeqs
  try dsimp only
  with_reducible repeat' (first | assumption | apply keep.add | apply keep.foldl | split | (intro))

theorem keep.tickPlaza {P : Stage → Prop} {q : List Instr} (s : State) (h : Half) (hs : s.holds P q) : (Sys2Proof.Machine.State.tickPlaza s h).holds P q := by
  unfold Sys2Proof.Machine.State.tickPlaza
  try dsimp only
  with_reducible repeat' (first | assumption | apply keep.add | split)

theorem keep.tickSds {P : Stage → Prop} {q : List Instr} (s : State) (h : Half) (hs : s.holds P q) : (Sys2Proof.Machine.State.tickSds s h).holds P q := by
  unfold Sys2Proof.Machine.State.tickSds
  try dsimp only
  with_reducible repeat' (first | assumption | apply keep.add)

theorem keep.tickBind {P : Stage → Prop} {q : List Instr} (s : State) (h : Half) (hs : s.holds P q) : (Sys2Proof.Machine.State.tickBind s h).holds P q := by
  unfold Sys2Proof.Machine.State.tickBind
  try dsimp only
  with_reducible repeat' (first | assumption | apply keep.add)

theorem keep.tickRings {P : Stage → Prop} {q : List Instr} (s : State) (h : Half) (hs : s.holds P q) : (Sys2Proof.Machine.State.tickRings s h).holds P q := by
  unfold Sys2Proof.Machine.State.tickRings
  try dsimp only
  with_reducible repeat' (first | assumption | apply keep.add | apply keep.fresh | apply keep.foldl | split | (intro))

theorem keep.tickDrains {P : Stage → Prop} {q : List Instr} (s : State) (hs : s.holds P q) : (Sys2Proof.Machine.State.tickDrains s).holds P q := by
  unfold Sys2Proof.Machine.State.tickDrains
  try dsimp only
  with_reducible repeat' (first | assumption | apply keep.add | apply keep.foldl | split | (intro))

theorem keep.tickReasons {P : Stage → Prop} {q : List Instr} (s : State) (hs : s.holds P q) : (Sys2Proof.Machine.State.tickReasons s).holds P q := by
  unfold Sys2Proof.Machine.State.tickReasons
  try dsimp only
  with_reducible repeat' (first | assumption | apply keep.add | apply keep.foldl | apply keep.stageOf (P := P) q | apply keep.queueOf P | apply keep.regsOf P q | apply keep.westOf P q | apply keep.eastOf P q | apply keep.bootOf P q | (simp only [↓keep.mk]; refine ⟨?_, ?_, ?_, ?_, ?_, ?_⟩) | split | (intro))

theorem keep.tickHalf {P : Stage → Prop} {q : List Instr} (s : State) (h : Half) (hs : s.holds P q) : (Sys2Proof.Machine.State.tickHalf s h).holds P q := by
  unfold Sys2Proof.Machine.State.tickHalf
  try dsimp only
  with_reducible repeat' (first | assumption | apply keep.tickBind | apply keep.tickPlaza | apply keep.tickRings | apply keep.tickSds | apply keep.tickSeams | apply keep.tickSeqs)

theorem keep.tickUs {P : Stage → Prop} {q : List Instr} (s : State) (hs : s.holds P q) : (Sys2Proof.Machine.State.tickUs s).holds P q := by
  unfold Sys2Proof.Machine.State.tickUs
  try dsimp only
  with_reducible repeat' (first | assumption | apply keep.modHalf | apply keep.memOf | simp only [↓keep.halfMk])

theorem keep.tickWork {P : Stage → Prop} {q : List Instr} (s : State) (hs : s.holds P q) : (Sys2Proof.Machine.State.tickWork s).holds P q := by
  unfold Sys2Proof.Machine.State.tickWork
  try dsimp only
  with_reducible repeat' (first | assumption | apply keep.mgmtDrain | apply keep.notesFlush | apply keep.opSteps | apply keep.rebind | apply keep.runRefresh)

theorem keep.tick {P : Stage → Prop} {q : List Instr} (s : State) (hs : s.holds P q) : (Sys2Proof.Machine.State.tick s).holds P q := by
  unfold Sys2Proof.Machine.State.tick
  try dsimp only
  with_reducible repeat' (first | assumption | apply keep.tickBudget | apply keep.tickDrains | apply keep.tickHalf | apply keep.tickReasons | apply keep.tickService | apply keep.tickUs | apply keep.tickWork | split)

end Sys2Proof.Machine
end

