-- ==== Sys2Proof/Laws/Log.lean ====
section
/-! SUPPORT. What recording a happening in the error log can change: its half's log registers, the log's sequence number, and what an MSI-X
vector or a notice to a master changes; and how these frames compose. -/

namespace Sys2Proof.Machine

variable {s t u : State} {as bs : List Nat}

theorem onlyRegs_refl (as : List Nat) (s : State) : onlyRegs as s s := ⟨rfl, fun _ _ => rfl⟩

theorem onlyRegs_trans (h : onlyRegs as s t) (k : onlyRegs as t u) : onlyRegs as s u := by
  refine ⟨?_, fun a ha => (k.2 a ha).trans (h.2 a ha)⟩
  have e : ({ u with regs := s.regs } : State) = { ({ u with regs := t.regs } : State) with regs := s.regs } := rfl
  rw [e, k.1]; exact h.1

theorem onlyRegs_wr (h : onlyRegs as s t) (a : Nat) (v : Word) (ha : a ∈ as) : onlyRegs as s (t.wr a v) := by
  refine ⟨h.1, fun b hb => ?_⟩
  rw [State.rd_wr_ne _ _ (by rintro rfl; exact hb ha)]; exact h.2 b hb

theorem onlyRegs_wf (h : onlyRegs as s t) (a : Nat) (f : Fld) (v : Nat) (ha : a + f.off ∈ as) : onlyRegs as s (t.wf a f v) :=
  onlyRegs_wr h _ _ ha

theorem onlyLogged_refl (as : List Nat) (s : State) : onlyLogged as s s := ⟨rfl, fun _ _ _ _ => rfl⟩

theorem onlyLogged_trans (h : onlyLogged as s t) (k : onlyLogged as t u) : onlyLogged as s u := by
  refine ⟨?_, fun a ha hw he => (k.2 a ha hw he).trans (h.2 a ha hw he)⟩
  have e : ({ u.unlogged s with regs := s.regs } : State) =
      { ({ u.unlogged t with regs := t.regs } : State).unlogged s with regs := s.regs } := rfl
  rw [e, k.1]; exact h.1

theorem onlyLogged_of_onlyRegs (h : onlyRegs as s t) : onlyLogged as s t := by
  refine ⟨?_, fun a ha _ _ => h.2 a ha⟩
  have e : ({ t.unlogged s with regs := s.regs } : State) = ({ t with regs := s.regs } : State).unlogged s := rfl
  rw [e, h.1]; rfl

theorem onlyLogged_mono (hs : ∀ a ∈ as, a ∈ bs) (h : onlyLogged as s t) : onlyLogged bs s t :=
  ⟨h.1, fun a ha => h.2 a (fun x => ha (hs a x))⟩

theorem onlyLogged_wr (h : onlyLogged as s t) (a : Nat) (v : Word) (ha : a ∈ as ∨ inLog .west a = true ∨ inLog .east a = true) :
    onlyLogged as s (t.wr a v) := by
  refine ⟨h.1, fun b hb hw he => ?_⟩
  rw [State.rd_wr_ne _ _ ?_]
  · exact h.2 b hb hw he
  · rintro rfl
    rcases ha with ha | ha | ha
    exacts [hb ha, by simp [ha] at hw, by simp [ha] at he]

theorem onlyLogged_wf (h : onlyLogged as s t) (a : Nat) (f : Fld) (v : Nat)
    (ha : a + f.off ∈ as ∨ inLog .west (a + f.off) = true ∨ inLog .east (a + f.off) = true) : onlyLogged as s (t.wf a f v) :=
  onlyLogged_wr h _ _ ha

theorem onlyLogged_send (h : onlyLogged as s t) (o : Output) : onlyLogged as s (t.send o) := ⟨h.1, h.2⟩
theorem onlyLogged_note (h : onlyLogged as s t) (b : List Byte) : onlyLogged as s (t.note b) := ⟨h.1, h.2⟩
theorem onlyLogged_setFunc (h : onlyLogged as s t) (f : Nat) (x : FuncSt) : onlyLogged as s (t.setFunc f x) := ⟨h.1, h.2⟩

theorem onlyLogged_msix (h : onlyLogged as s t) (f e : Nat) : onlyLogged as s (t.msix f e) := by
  unfold State.msix
  split
  · exact onlyLogged_note h _
  · split
    · exact onlyLogged_send h _
    · split
      · exact h
      · exact onlyLogged_setFunc h _ _

theorem onlyLogged_logSeq (h : onlyLogged as s t) (x : Half) (q : Nat) :
    onlyLogged as s (t.modHalf x (fun y => { y with logSeq := q })) := by cases x <;> exact ⟨h.1, h.2⟩

theorem onlyLogged_wrWords (h : onlyLogged as s t) (a : Nat) (l : List Nat)
    (ha : ∀ i < l.length, inLog .west (a + 4 * i) = true ∨ inLog .east (a + 4 * i) = true) : onlyLogged as s (t.wrWords a l) := by
  induction l generalizing t a with
  | nil => exact h
  | cons w ws ih =>
    refine ih (onlyLogged_wr h _ _ (.inr (ha 0 (by simp)))) _ (fun i hi => ?_)
    have := ha (i + 1) (by simpa using hi)
    rwa [show a + 4 + 4 * i = a + 4 * (i + 1) by omega]

theorem inLog_own (h : Half) (a : Nat) (ha : inLog h a = true) : inLog .west a = true ∨ inLog .east a = true := by
  cases h
  exacts [.inl ha, .inr ha]

theorem inLog_iff (h : Half) (a : Nat) : inLog h a = true ↔ h.base + 0xF80000 ≤ a ∧ a < h.base + 0xFA0000 := by
  rw [inLog, Bool.and_eq_true, decide_eq_true_iff, decide_eq_true_iff]
  simp only [ERR_CTRL, ERR_RECORD, Nat.add_assoc, Nat.reduceAdd, Nat.reduceMul]

/-- Recording a happening changes only the log (R441, R445 to R447). -/
theorem onlyLogged_log (h : onlyLogged as s t) (x : Half) (r : LogReq) (hc : r.cls < 64) : onlyLogged as s (t.log x r) := by
  have reg : ∀ a, x.base + 0xF80000 ≤ a → a < x.base + 0xFA0000 → inLog .west a = true ∨ inLog .east a = true :=
    fun a h1 h2 => inLog_own x a ((inLog_iff x a).2 ⟨h1, h2⟩)
  unfold State.log
  dsimp only
  split
  · refine onlyLogged_wf h _ _ _ (.inr (reg _ ?_ ?_)) <;>
      (have := Nat.mod_lt (t.rf (ERR_TAIL x) ERR_TAIL.TAIL + 1023) (show 0 < 1024 by decide); simp only [ERR_RECORD]; omega)
  · split
    · unfold State.logDrop
      refine onlyLogged_wf (onlyLogged_wf h _ _ _ (.inr (reg _ ?_ ?_))) _ _ _ (.inr (reg _ ?_ ?_)) <;> simp only [ERR_LOST, ERR_STATUS] <;> omega
    · unfold State.logNew
      dsimp only
      have hw : onlyLogged as s ((((t.wrWords (ERR_RECORD x (16 * (t.rf (ERR_TAIL x) ERR_TAIL.TAIL % 1024)))
          (r.words x (nextSeq (t.half x).logSeq) (t.us x))).modHalf x (fun y => { y with logSeq := nextSeq (t.half x).logSeq })).wf
          (ERR_TAIL x) ERR_TAIL.TAIL (t.rf (ERR_TAIL x) ERR_TAIL.TAIL + 1))) := by
        refine onlyLogged_wf (onlyLogged_logSeq (onlyLogged_wrWords h _ _ (fun i hi => reg _ ?_ ?_)) _ _) _ _ _ (.inr (reg _ ?_ ?_))
        all_goals simp only [ERR_RECORD, ERR_TAIL, ERR_TAIL.TAIL, LogReq.words, List.length_cons, List.length_nil] at *
        all_goals have := Nat.mod_lt (t.rf (ERR_TAIL x) ERR_TAIL.TAIL) (show 0 < 1024 by decide)
        all_goals simp only [ERR_TAIL, ERR_TAIL.TAIL] at this
        all_goals omega
      split
      · refine onlyLogged_note ?_ _
        split
        · exact onlyLogged_msix hw _ _
        · exact hw
      · split
        · exact onlyLogged_msix hw _ _
        · exact hw

end Sys2Proof.Machine
end

