-- ==== Sys2Proof/WellFormed.lean ====
section
/-! DEFINITION. Which commands can come: the ranges of their operands, from the index ranges and field widths of the spec. A command out of
range names nothing of the device; its meaning still answers (mostly: it changes nothing). -/

namespace Sys2Proof

/-- A node reference: 256 contexts, 16-bit GRAPH_IDs, at most 4,096 nodes (Tables 10.1, 10.7). -/
def NodeRef.wf (n : NodeRef) : Bool := decide (n.ctx < 256) && decide (n.gid < 65536) && decide (n.node < 4096)

/-- A cell of a row: 512 data and 32 checksum columns of two cells (R43), eight levels (R40). -/
def CellAt.wf (c : CellAt) : Bool := decide (c.col < 544) && decide (c.cell < 2) && decide (c.level < 8)

/-- A margin row's cells. -/
def MarginRow.wf (r : MarginRow) : Bool := r.lowGuard.all CellAt.wf && decide (r.highGuard ≤ 1088) && r.out.all CellAt.wf

/-- The result of an NV step. -/
def StepResult.wf : StepResult → Bool
  | .verified => true
  | .notVerified => true
  | .margin r => r.wf

/-- The source of an object command. -/
def MemSrc.wf : MemSrc → Bool
  | .regs => true
  | .node n => n.wf

/-- A unit of a half or of the device: 32 Galleries (R17), 64 engines. -/
def UnitRef.wf : UnitRef → Bool
  | .gallery g => decide (g < 32)
  | .plaza => true
  | .stage => true
  | .engine e => decide (e < 64)
  | .memory => true
  | .causeway => true
  | .nop => true

/-- A training's outcome: four lanes of a port (R326), a 14-bit node number and eight ports. -/
def TrainResult.wf (t : TrainResult) : Bool :=
  decide (t.peerNode < 16384) && decide (t.peerPort < 8) && (t.lanes112 ++ t.lanes56 ++ t.peer112 ++ t.peer56).all (fun l => decide (l < 4))

/-- A link speed code and width (R360). -/
def PcieLink.wf (l : PcieLink) : Bool := decide (l.speed < 3) && [1, 2, 4, 8, 16].contains l.width

/-- A register value has 32 bits. -/
def wfVal (v : Nat) : Bool := decide (v < 2 ^ 32)
/-- A Gallery of a half; a stream engine of the device; a Causeway port of the device; a PCIe function (R17, R362). -/
def wfGal (g : Nat) : Bool := decide (g < 32)
def wfEng (e : Nat) : Bool := decide (e < 64)
def wfPort (p : Nat) : Bool := decide (p < 8)
def wfFunc (f : Nat) : Bool := decide (f < 64)
/-- A Seam, a plane, a weight set with a slot, a context, a queue, barrier or ring, a domain. -/
def wfSeam (x : Nat) : Bool := decide (x < 2048)
def wfPlane (p : Nat) : Bool := decide (p < 32768)
def wfSet (n : Nat) : Bool := decide (n < 512)
def wfSlot (n slot : Nat) : Bool := decide (n < 512) && decide (slot < 2)
def wfCtx (c : Nat) : Bool := decide (c < 256)
def wfQueue (q : Nat) : Bool := decide (q < 64)
def wfDom (d : Nat) : Bool := decide (d < 144)
/-- A management message's sender and EPOCH (R324). -/
def wfSrc (src epoch : Nat) : Bool := decide (src < 16384) && decide (epoch < 65536)
/-- A flit has 256 bytes (Table 12.4). -/
def wfFlit (b : List Byte) : Bool := decide (b.length = 256)
/-- A security message fits in the mailbox's 4,096 bytes (R428). -/
def wfMsg (b : List Byte) : Bool := decide (b.length ≤ 4096)
/-- A host access of 1 to 64 bytes within the model's offsets of a function. -/
def wfAccess (func off width : Nat) : Bool := decide (func < 64) && decide (off < 0x08100000) && decide (1 ≤ width) && decide (width ≤ 64)

/-- Are a command's operands in range? -/
def Instr.wf : Instr → Bool
  | .registerWrite func off width value => wfAccess func off width && decide (value < 2 ^ (8 * width))
  | .heldWriteApply _ => true
  | .deferredReadComplete func off width _ => wfAccess func off width
  | .passageTransferArrive _ _ n => decide (n ≤ 4)
  | .wakeLinkCommand => true
  | .inputBlockDelivered _ g _ => wfGal g
  | .waveStart _ g => wfGal g
  | .planeSelectDone _ g => wfGal g
  | .slicePassEnd _ g => wfGal g
  | .waveEnd _ g => wfGal g
  | .healthWatchExpire _ p => wfPlane p
  | .correctionReady _ g => wfGal g
  | .mergePass _ g => wfGal g
  | .mergeDeadline n => n.wf
  | .outputLand _ g _ => wfGal g
  | .nvStepStart _ x => wfSeam x
  | .nvStepEnd _ x r => wfSeam x && r.wf
  | .seamPlaneCfgWrite _ x v => wfSeam x && wfVal v
  | .planeTableCommit _ => true
  | .refreshDue _ p => wfPlane p
  | .refreshComplete _ p => wfPlane p
  | .wallMinuteTick => true
  | .nvWallMinutesWrite _ v => wfVal v
  | .stuckStateWrite _ i v => decide (i < 1024) && wfVal v
  | .seqAWrite _ f w v => wfFunc f && decide (1 ≤ w) && decide (w ≤ 64) && decide (v < 2 ^ (8 * w))
  | .seqBWrite _ f w v => wfFunc f && decide (1 ≤ w) && decide (w ≤ 64) && decide (v < 2 ^ (8 * w))
  | .seqTimeout _ => true
  | .programRows _ _ => true
  | .erasePlane _ _ => true
  | .refreshPlane _ _ => true
  | .marginRead _ _ => true
  | .contReadEnter _ _ => true
  | .contReadExit _ _ => true
  | .protectSet _ _ => true
  | .protectUnlock _ _ => true
  | .unlockFailDelayEnd _ => true
  | .otpRead _ _ => true
  | .otpProgram _ _ => true
  | .statusRead _ _ => true
  | .cmdReset _ _ => true
  | .nvCommandComplete _ _ => true
  | .pulseStart _ => true
  | .programRowDone _ _ k us => decide (k < 1024) && wfVal us
  | .pulseLimitExpire _ _ k cells => decide (k < 1024) && cells.all CellAt.wf
  | .eraseTimeLimit _ _ cells => cells.all (fun c => decide (c.1 < 1024) && c.2.wf)
  | .ledgerCommit _ => true
  | .ledgerCompactDone _ => true
  | .ledgerScanDone _ => true
  | .contReadApertureRead _ f off len => wfFunc f && decide (off < 0x100000) && decide (1 ≤ len) && decide (len ≤ 64)
  | .rowSenseDone _ p row cells => wfPlane p && decide (row < 1024) && cells.all CellAt.wf
  | .brownoutTrip _ => true
  | .nvControllerReset _ => true
  | .create _ n c => wfSet n && wfCtx c
  | .openSlot _ n slot v => wfSlot n slot && decide (v < 65536)
  | .arm _ n slot => wfSlot n slot
  | .discard _ n slot => wfSlot n slot
  | .delete _ n => wfSet n
  | .wsetCommitDone _ => true
  | .switchSets c => wfCtx c
  | .wsetSwitchMsgArrive => true
  | .wsetRelease _ n slot => wfSlot n slot
  | .ldrDoorbell _ t => wfVal t
  | .load _ d _ _ _ => decide (d.length ≤ 64)
  | .eraseSet _ d _ => decide (d.length ≤ 64)
  | .ldrAbort _ => true
  | .ldrDescDone _ => true
  | .matmul _ => true
  | .gather _ => true
  | .vector _ => true
  | .plazaOpComplete _ _ => true
  | .lowrankFallback _ => true
  | .stage _ => true
  | .stageDone _ _ _ _ => true
  | .sdsSetCtrlWrite _ n v => wfCtx n && wfVal v
  | .sdsSetRegionWrite _ n v => wfCtx n && wfVal v
  | .alloc _ => true
  | .free _ x => x.wf
  | .move _ x => x.wf
  | .setSweep _ x => x.wf
  | .zeroFillDone _ => true
  | .poolRetry _ => true
  | .evictDone _ i _ => decide (i < 32768)
  | .allocTimeout _ k => decide (k < 32768)
  | .moveCopyStart _ i => decide (i < 32768)
  | .moveCopyDone _ i _ => decide (i < 32768)
  | .bar2Access f off len wr _ => wfFunc f && decide (off < 0x10000000) && decide (1 ≤ len) && decide (len ≤ 64) &&
      (match wr with | some b => decide (b.length = len) | none => true)
  | .quotaWrite _ _ c v => wfCtx c && wfVal v
  | .poolCtrlWrite _ v => wfVal v
  | .sweepBurst _ _ => true
  | .sweepPassEnd _ => true
  | .transferStart e => wfEng e
  | .transferComplete e _ _ _ => wfEng e
  | .ringAttach _ r e _ => wfQueue r && wfEng e
  | .slotFull _ r _ _ => wfQueue r
  | .ringSlotRelease _ r => wfQueue r
  | .drainEnd e => wfEng e
  | .strArmGo e v => wfEng e && wfVal v
  | .shadowStart e => wfEng e
  | .strAbort e => wfEng e
  | .pageFaultStop e ix _ => wfEng e && ix.all (fun i => decide (i < 2 ^ 24))
  | .pageResponse e _ => decide (e ≤ 64)
  | .pageRequestTimeout e => decide (e ≤ 64)
  | .ringCfgWrite _ r v => wfQueue r && wfVal v
  | .sqDoorbell f c v => wfFunc f && wfCtx c && wfVal v
  | .cqDoorbell f c v => wfFunc f && wfCtx c && wfVal v
  | .graphRead c e _ _ => wfCtx c && decide (e.length = 64)
  | .admissionPoint c => wfCtx c
  | .reserveTimeout c => wfCtx c
  | .admissionMsgArrive => true
  | .nodeDispatch _ u => u.wf
  | .escalation n => n.wf
  | .nodeComplete n => n.wf
  | .tokenArrive _ => true
  | .abortGraph f c g => wfFunc f && wfCtx c && decide (g < 65536)
  | .abortContext f c => wfFunc f && wfCtx c
  | .retryNode f c g n b => wfFunc f && NodeRef.wf { ctx := c, gid := g, node := n } && decide (b.length = 128)
  | .ctxCfgWrite c v => wfCtx c && wfVal v
  | .programStart _ g => wfGal g
  | .nop _ g => wfGal g
  | .wave _ g => wfGal g
  | .rowmaskSet _ g => wfGal g
  | .rowmaskOpen _ g => wfGal g
  | .rowmaskClose _ g => wfGal g
  | .rowmaskAll _ g => wfGal g
  | .split _ g => wfGal g
  | .acc _ g => wfGal g
  | .check _ g => wfGal g
  | .scale _ g => wfGal g
  | .emit _ g => wfGal g
  | .waitBarrier _ g => wfGal g
  | .waitLanded _ g => wfGal g
  | .waitIdle _ g => wfGal g
  | .signal _ g => wfGal g
  | .loop _ g => wfGal g
  | .br _ g => wfGal g
  | .seti _ g => wfGal g
  | .add _ g => wfGal g
  | .endProgram _ g => wfGal g
  | .sequencerStallEnd _ g => wfGal g
  | .illegalInstruction _ g => wfGal g
  | .seqWatchdog _ g => wfGal g
  | .galProgWrite _ i v => decide (i < 32768) && wfVal v
  | .portEnWrite p v => wfPort p && wfVal v
  | .retrain p => wfPort p
  | .trainingDone p t => wfPort p && t.wf
  | .trainingRetry p => wfPort p
  | .laneLoss p l => wfPort p && decide (l < 4)
  | .flitReceive p b c => wfPort p && wfFlit b && decide (c.length ≤ 6)
  | .routeWrite _ i v => decide (i < 16384) && wfVal v
  | .data _ b => wfFlit b
  | .e2eOpen _ b => wfFlit b
  | .openAck _ b => wfFlit b
  | .reject _ b => wfFlit b
  | .ack _ b => wfFlit b
  | .ackTimer _ q => wfQueue q
  | .sqValidWrite _ q v => wfQueue q && wfVal v
  | .sqEpochHoldEnd _ q => wfQueue q
  | .openResend _ q => wfQueue q
  | .rqValidWrite _ q v => wfQueue q && wfVal v
  | .e2eTimeout _ q => wfQueue q
  | .regRead src ep sp off n tag => wfSrc src ep && decide (sp < 16) && wfVal off && decide (n < 256) && wfVal tag
  | .regWrite src ep sp off be tag ws => wfSrc src ep && decide (sp < 16) && wfVal off && decide (be < 16) && wfVal tag &&
      decide (ws.length < 256)
  | .regResp src ep tag st _ => wfSrc src ep && wfVal tag && decide (st < 256)
  | .mgmtAccessTimeout tag => wfVal tag
  | .notify src ep _ => wfSrc src ep
  | .heartbeat src ep => wfSrc src ep
  | .heartbeatTimer => true
  | .heartbeatLoss => true
  | .takeover src ep => wfSrc src ep
  | .rejectEpoch src ep cur m => wfSrc src ep && wfSrc m cur
  | .budgetPeriod w => decide (w < 65536)
  | .budgetReport src ep w cap sl r => wfSrc src ep && decide (w < 65536) && decide (cap < 65536) && decide (sl < 65536) && decide (r < 256)
  | .budgetGrant src ep cap => wfSrc src ep && decide (cap < 65536)
  | .budgetRevert => true
  | .flush n => n.wf
  | .barrier n => n.wf
  | .arrive _ b => wfFlit b
  | .release _ b => wfFlit b
  | .barrierTimeout n => n.wf
  | .barrierEnWrite _ b v => wfQueue b && wfVal v
  | .dispatch n => n.wf
  | .collect n => n.wf
  | .returnRows n => n.wf
  | .combine n => n.wf
  | .batchTimeout n => n.wf
  | .pcieLinkTrain l => (match l with | some l => l.wf | none => true)
  | .pcieTrainRetry => true
  | .vfFlr f => wfFunc f
  | .flrDone f => wfFunc f
  | .pfReset _ => true
  | .d3hotEntry f => wfFunc f
  | .atsInvalidate f p a len tag => wfFunc f && decide (p < 2 ^ 20) && decide (a < 2 ^ 64) && decide (len ≤ 2 ^ 64) && decide (tag < 32)
  | .priReset f => wfFunc f
  | .t3ReadFail n a p => (match n with | some n => n.wf | none => true) && decide (a < 2 ^ 64) && decide (p < 2 ^ 20)
  | .poisonedWrite f a v => wfFunc f && decide (a < 0x10000000) && wfVal v
  | .msixUnmask f e => wfFunc f && (match e with | some e => decide (e < 32) | none => true)
  | .pciCtxFuncWrite c v => wfCtx c && wfVal v
  | .domainHold d v => wfDom d && wfVal v
  | .domainDisable d v => wfDom d && wfVal v
  | .wakeAdmit => true
  | .domainOn d _ => wfDom d
  | .domainIdleExpire d => wfDom d
  | .domainOff d => wfDom d
  | .pllLock _ b => decide (b < 12)
  | .powerPeriod m e t => decide (m < 65536) && decide (e < 65536) && decide (-32768 ≤ t) && decide (t < 32768)
  | .opChangeDone _ => true
  | .gateWindowClose => true
  | .gateWindowOpen => true
  | .thermalTrip => true
  | .capWrite v => wfVal v
  | .estimateDivergeClear => true
  | .powerRestart => true
  | .powerRestartDone => true
  | .mgmtRestart => true
  | .mgmtRestartDone => true
  | .controllerWatchdog _ => true
  | .powerOn st => decide (st < 16)
  | .powerOff => true
  | .railOutOfRange r => decide (r < 16)
  | .deviceReset _ => true
  | .perstRelease _ w e b _ => wfVal w && wfVal e && wfVal b
  | .trialExpire k => decide (k < 3)
  | .mctpControl b => wfMsg b
  | .getVersion _ b => wfMsg b
  | .getIdentity _ b => wfMsg b
  | .getCert _ b => wfMsg b
  | .getMeasurements _ b => wfMsg b
  | .getAttestState _ b => wfMsg b
  | .attestTokenTick => true
  | .kekInstall _ b => wfMsg b
  | .kekClear _ b => wfMsg b
  | .debugChallenge _ b => wfMsg b
  | .debugUnlock _ b => wfMsg b
  | .updBegin _ b => wfMsg b
  | .updData _ b => wfMsg b
  | .updEnd _ b => wfMsg b
  | .updActivate _ b => wfMsg b
  | .updCommit _ b => wfMsg b
  | .updStatus _ b => wfMsg b
  | .errHostHeadWrite _ v => wfVal v
  | .mgmtHeadAdvance _ => true
  | .brownoutRecover _ => true
  | .deviceWatchdogExpire => true
  | .refclkLoss => true
  | .refclkReturn => true
  | .tapInstruction c => decide (c < 256)

end Sys2Proof
end

