-- ==== Sys2Proof/Laws/PerInstr.lean ====
section
/-! SUPPORT. What well-formedness says of a command's operands, one lemma per row of the table. -/

set_option Elab.async false

namespace Sys2Proof.Laws.Wf

/-- The PCIe functions that a command names. -/
def funcs : Instr → List Nat
  | .registerWrite func _ _ _ => [func]
  | .deferredReadComplete func _ _ _ => [func]
  | .seqAWrite _ func _ _ => [func]
  | .seqBWrite _ func _ _ => [func]
  | .contReadApertureRead _ func _ _ => [func]
  | .bar2Access func _ _ _ _ => [func]
  | .sqDoorbell func _ _ => [func]
  | .cqDoorbell func _ _ => [func]
  | .abortGraph func _ _ => [func]
  | .abortContext func _ => [func]
  | .retryNode func _ _ _ _ => [func]
  | .vfFlr func => [func]
  | .flrDone func => [func]
  | .d3hotEntry func => [func]
  | .atsInvalidate func _ _ _ _ => [func]
  | .priReset func => [func]
  | .poisonedWrite func _ _ => [func]
  | .msixUnmask func _ => [func]
  | _ => []

/-- The flits that a command brings. -/
def flits : Instr → List (List Byte)
  | .flitReceive _ flit _ => [flit]
  | .data _ flit => [flit]
  | .e2eOpen _ flit => [flit]
  | .openAck _ flit => [flit]
  | .reject _ flit => [flit]
  | .ack _ flit => [flit]
  | .arrive _ flit => [flit]
  | .release _ flit => [flit]
  | _ => []

/-- The security messages that a command brings. -/
def messages : Instr → List (List Byte)
  | .getVersion _ msg => [msg]
  | .getIdentity _ msg => [msg]
  | .getCert _ msg => [msg]
  | .getMeasurements _ msg => [msg]
  | .getAttestState _ msg => [msg]
  | .kekInstall _ msg => [msg]
  | .kekClear _ msg => [msg]
  | .debugChallenge _ msg => [msg]
  | .debugUnlock _ msg => [msg]
  | .updBegin _ msg => [msg]
  | .updData _ msg => [msg]
  | .updEnd _ msg => [msg]
  | .updActivate _ msg => [msg]
  | .updCommit _ msg => [msg]
  | .updStatus _ msg => [msg]
  | _ => []

/-- A well-formed command names functions that exist (R362), brings flits of 256 bytes (Table 12.4) and messages that fit in the mailbox
(R428). -/
def Statement (i : Instr) : Prop :=
  i.wf = true → (∀ f ∈ funcs i, f < 64) ∧ (∀ b ∈ flits i, b.length = 256) ∧ (∀ b ∈ messages i, b.length ≤ 4096)

theorem registerWrite (func off width value : Nat) : Statement (.registerWrite func off width value) := by
  simp_all [Statement, funcs, flits, messages, Instr.wf, wfAccess]
theorem heldWriteApply (h : Half) : Statement (.heldWriteApply h) := by simp [Statement, funcs, flits, messages]
theorem deferredReadComplete (func off width : Nat) (timedOut : Bool) : Statement (.deferredReadComplete func off width timedOut) := by
  simp_all [Statement, funcs, flits, messages, Instr.wf, wfAccess]
theorem passageTransferArrive (dst : Half) (cls : PClass) (parityFailures : Nat) : Statement (.passageTransferArrive dst cls parityFailures) := by simp [Statement, funcs, flits, messages]
theorem wakeLinkCommand : Statement .wakeLinkCommand := by simp [Statement, funcs, flits, messages]
theorem inputBlockDelivered (h : Half) (gal : Nat) (chk : Scan) : Statement (.inputBlockDelivered h gal chk) := by simp [Statement, funcs, flits, messages]
theorem waveStart (h : Half) (gal : Nat) : Statement (.waveStart h gal) := by simp [Statement, funcs, flits, messages]
theorem planeSelectDone (h : Half) (gal : Nat) : Statement (.planeSelectDone h gal) := by simp [Statement, funcs, flits, messages]
theorem slicePassEnd (h : Half) (gal : Nat) : Statement (.slicePassEnd h gal) := by simp [Statement, funcs, flits, messages]
theorem waveEnd (h : Half) (gal : Nat) : Statement (.waveEnd h gal) := by simp [Statement, funcs, flits, messages]
theorem healthWatchExpire (h : Half) (plane : Nat) : Statement (.healthWatchExpire h plane) := by simp [Statement, funcs, flits, messages]
theorem correctionReady (h : Half) (gal : Nat) : Statement (.correctionReady h gal) := by simp [Statement, funcs, flits, messages]
theorem mergePass (h : Half) (gal : Nat) : Statement (.mergePass h gal) := by simp [Statement, funcs, flits, messages]
theorem mergeDeadline (n : NodeRef) : Statement (.mergeDeadline n) := by simp [Statement, funcs, flits, messages]
theorem outputLand (h : Half) (gal : Nat) (chk : Scan) : Statement (.outputLand h gal chk) := by simp [Statement, funcs, flits, messages]
theorem nvStepStart (h : Half) (seam : Nat) : Statement (.nvStepStart h seam) := by simp [Statement, funcs, flits, messages]
theorem nvStepEnd (h : Half) (seam : Nat) (res : StepResult) : Statement (.nvStepEnd h seam res) := by simp [Statement, funcs, flits, messages]
theorem seamPlaneCfgWrite (h : Half) (seam value : Nat) : Statement (.seamPlaneCfgWrite h seam value) := by simp [Statement, funcs, flits, messages]
theorem planeTableCommit (h : Half) : Statement (.planeTableCommit h) := by simp [Statement, funcs, flits, messages]
theorem refreshDue (h : Half) (plane : Nat) : Statement (.refreshDue h plane) := by simp [Statement, funcs, flits, messages]
theorem refreshComplete (h : Half) (plane : Nat) : Statement (.refreshComplete h plane) := by simp [Statement, funcs, flits, messages]
theorem wallMinuteTick : Statement .wallMinuteTick := by simp [Statement, funcs, flits, messages]
theorem nvWallMinutesWrite (h : Half) (value : Nat) : Statement (.nvWallMinutesWrite h value) := by simp [Statement, funcs, flits, messages]
theorem stuckStateWrite (h : Half) (idx value : Nat) : Statement (.stuckStateWrite h idx value) := by simp [Statement, funcs, flits, messages]
theorem seqAWrite (h : Half) (func width value : Nat) : Statement (.seqAWrite h func width value) := by
  simp_all [Statement, funcs, flits, messages, Instr.wf, wfFunc]
theorem seqBWrite (h : Half) (func width value : Nat) : Statement (.seqBWrite h func width value) := by
  simp_all [Statement, funcs, flits, messages, Instr.wf, wfFunc]
theorem seqTimeout (h : Half) : Statement (.seqTimeout h) := by simp [Statement, funcs, flits, messages]
theorem programRows (h : Half) (port : NvPort) : Statement (.programRows h port) := by simp [Statement, funcs, flits, messages]
theorem erasePlane (h : Half) (port : NvPort) : Statement (.erasePlane h port) := by simp [Statement, funcs, flits, messages]
theorem refreshPlane (h : Half) (port : NvPort) : Statement (.refreshPlane h port) := by simp [Statement, funcs, flits, messages]
theorem marginRead (h : Half) (port : NvPort) : Statement (.marginRead h port) := by simp [Statement, funcs, flits, messages]
theorem contReadEnter (h : Half) (port : NvPort) : Statement (.contReadEnter h port) := by simp [Statement, funcs, flits, messages]
theorem contReadExit (h : Half) (port : NvPort) : Statement (.contReadExit h port) := by simp [Statement, funcs, flits, messages]
theorem protectSet (h : Half) (port : NvPort) : Statement (.protectSet h port) := by simp [Statement, funcs, flits, messages]
theorem protectUnlock (h : Half) (port : NvPort) : Statement (.protectUnlock h port) := by simp [Statement, funcs, flits, messages]
theorem unlockFailDelayEnd (h : Half) : Statement (.unlockFailDelayEnd h) := by simp [Statement, funcs, flits, messages]
theorem otpRead (h : Half) (port : NvPort) : Statement (.otpRead h port) := by simp [Statement, funcs, flits, messages]
theorem otpProgram (h : Half) (port : NvPort) : Statement (.otpProgram h port) := by simp [Statement, funcs, flits, messages]
theorem statusRead (h : Half) (port : NvPort) : Statement (.statusRead h port) := by simp [Statement, funcs, flits, messages]
theorem cmdReset (h : Half) (port : NvPort) : Statement (.cmdReset h port) := by simp [Statement, funcs, flits, messages]
theorem nvCommandComplete (h : Half) (port : NvPort) : Statement (.nvCommandComplete h port) := by simp [Statement, funcs, flits, messages]
theorem pulseStart (h : Half) : Statement (.pulseStart h) := by simp [Statement, funcs, flits, messages]
theorem programRowDone (h : Half) (port : NvPort) (k stepUs : Nat) : Statement (.programRowDone h port k stepUs) := by simp [Statement, funcs, flits, messages]
theorem pulseLimitExpire (h : Half) (port : NvPort) (k : Nat) (cells : List CellAt) : Statement (.pulseLimitExpire h port k cells) := by simp [Statement, funcs, flits, messages]
theorem eraseTimeLimit (h : Half) (port : NvPort) (cells : List (Nat × CellAt)) : Statement (.eraseTimeLimit h port cells) := by simp [Statement, funcs, flits, messages]
theorem ledgerCommit (h : Half) : Statement (.ledgerCommit h) := by simp [Statement, funcs, flits, messages]
theorem ledgerCompactDone (h : Half) : Statement (.ledgerCompactDone h) := by simp [Statement, funcs, flits, messages]
theorem ledgerScanDone (h : Half) : Statement (.ledgerScanDone h) := by simp [Statement, funcs, flits, messages]
theorem contReadApertureRead (h : Half) (func off len : Nat) : Statement (.contReadApertureRead h func off len) := by
  simp_all [Statement, funcs, flits, messages, Instr.wf, wfFunc]
theorem rowSenseDone (h : Half) (plane row : Nat) (notCentre : List CellAt) : Statement (.rowSenseDone h plane row notCentre) := by simp [Statement, funcs, flits, messages]
theorem brownoutTrip (h : Half) : Statement (.brownoutTrip h) := by simp [Statement, funcs, flits, messages]
theorem nvControllerReset (h : Half) : Statement (.nvControllerReset h) := by simp [Statement, funcs, flits, messages]
theorem create (h : Half) (set ctx : Nat) : Statement (.create h set ctx) := by simp [Statement, funcs, flits, messages]
theorem openSlot (h : Half) (set slot version : Nat) : Statement (.openSlot h set slot version) := by simp [Statement, funcs, flits, messages]
theorem arm (h : Half) (set slot : Nat) : Statement (.arm h set slot) := by simp [Statement, funcs, flits, messages]
theorem discard (h : Half) (set slot : Nat) : Statement (.discard h set slot) := by simp [Statement, funcs, flits, messages]
theorem delete (h : Half) (set : Nat) : Statement (.delete h set) := by simp [Statement, funcs, flits, messages]
theorem wsetCommitDone (h : Half) : Statement (.wsetCommitDone h) := by simp [Statement, funcs, flits, messages]
theorem switchSets (ctx : Nat) : Statement (.switchSets ctx) := by simp [Statement, funcs, flits, messages]
theorem wsetSwitchMsgArrive : Statement .wsetSwitchMsgArrive := by simp [Statement, funcs, flits, messages]
theorem wsetRelease (h : Half) (set slot : Nat) : Statement (.wsetRelease h set slot) := by simp [Statement, funcs, flits, messages]
theorem ldrDoorbell (h : Half) (tail : Nat) : Statement (.ldrDoorbell h tail) := by simp [Statement, funcs, flits, messages]
theorem load (h : Half) (desc image : List Byte) (chk : Scan) (fault : Bool) : Statement (.load h desc image chk fault) := by simp [Statement, funcs, flits, messages]
theorem eraseSet (h : Half) (desc : List Byte) (fault : Bool) : Statement (.eraseSet h desc fault) := by simp [Statement, funcs, flits, messages]
theorem ldrAbort (h : Half) : Statement (.ldrAbort h) := by simp [Statement, funcs, flits, messages]
theorem ldrDescDone (h : Half) : Statement (.ldrDescDone h) := by simp [Statement, funcs, flits, messages]
theorem matmul (h : Half) : Statement (.matmul h) := by simp [Statement, funcs, flits, messages]
theorem gather (h : Half) : Statement (.gather h) := by simp [Statement, funcs, flits, messages]
theorem vector (h : Half) : Statement (.vector h) := by simp [Statement, funcs, flits, messages]
theorem plazaOpComplete (h : Half) (chk : Scan) : Statement (.plazaOpComplete h chk) := by simp [Statement, funcs, flits, messages]
theorem lowrankFallback (h : Half) : Statement (.lowrankFallback h) := by simp [Statement, funcs, flits, messages]
theorem stage (h : Half) : Statement (.stage h) := by simp [Statement, funcs, flits, messages]
theorem stageDone (h : Half) (data : List Byte) (chk : Scan) (fault : Bool) : Statement (.stageDone h data chk fault) := by simp [Statement, funcs, flits, messages]
theorem sdsSetCtrlWrite (h : Half) (set value : Nat) : Statement (.sdsSetCtrlWrite h set value) := by simp [Statement, funcs, flits, messages]
theorem sdsSetRegionWrite (h : Half) (set value : Nat) : Statement (.sdsSetRegionWrite h set value) := by simp [Statement, funcs, flits, messages]
theorem alloc (h : Half) : Statement (.alloc h) := by simp [Statement, funcs, flits, messages]
theorem free (h : Half) (src : MemSrc) : Statement (.free h src) := by simp [Statement, funcs, flits, messages]
theorem move (h : Half) (src : MemSrc) : Statement (.move h src) := by simp [Statement, funcs, flits, messages]
theorem setSweep (h : Half) (src : MemSrc) : Statement (.setSweep h src) := by simp [Statement, funcs, flits, messages]
theorem zeroFillDone (h : Half) : Statement (.zeroFillDone h) := by simp [Statement, funcs, flits, messages]
theorem poolRetry (h : Half) : Statement (.poolRetry h) := by simp [Statement, funcs, flits, messages]
theorem evictDone (h : Half) (idx : Nat) (chk : Scan) : Statement (.evictDone h idx chk) := by simp [Statement, funcs, flits, messages]
theorem allocTimeout (h : Half) (k : Nat) : Statement (.allocTimeout h k) := by simp [Statement, funcs, flits, messages]
theorem moveCopyStart (h : Half) (idx : Nat) : Statement (.moveCopyStart h idx) := by simp [Statement, funcs, flits, messages]
theorem moveCopyDone (h : Half) (idx : Nat) (chk : Scan) : Statement (.moveCopyDone h idx chk) := by simp [Statement, funcs, flits, messages]
theorem bar2Access (func off len : Nat) (wr : Option (List Byte)) (chk : Scan) : Statement (.bar2Access func off len wr chk) := by
  simp_all [Statement, funcs, flits, messages, Instr.wf, wfFunc]
theorem quotaWrite (h : Half) (kind : QuotaKind) (ctx value : Nat) : Statement (.quotaWrite h kind ctx value) := by simp [Statement, funcs, flits, messages]
theorem poolCtrlWrite (h : Half) (value : Nat) : Statement (.poolCtrlWrite h value) := by simp [Statement, funcs, flits, messages]
theorem sweepBurst (h : Half) (chk : Scan) : Statement (.sweepBurst h chk) := by simp [Statement, funcs, flits, messages]
theorem sweepPassEnd (h : Half) : Statement (.sweepPassEnd h) := by simp [Statement, funcs, flits, messages]
theorem transferStart (eng : Nat) : Statement (.transferStart eng) := by simp [Statement, funcs, flits, messages]
theorem transferComplete (eng : Nat) (data : List Byte) (chk : Scan) (readFail : Bool) : Statement (.transferComplete eng data chk readFail) := by simp [Statement, funcs, flits, messages]
theorem ringAttach (h : Half) (ring eng : Nat) (consumer : Bool) : Statement (.ringAttach h ring eng consumer) := by simp [Statement, funcs, flits, messages]
theorem slotFull (h : Half) (ring : Nat) (data : List Byte) (chk : Scan) : Statement (.slotFull h ring data chk) := by simp [Statement, funcs, flits, messages]
theorem ringSlotRelease (h : Half) (ring : Nat) : Statement (.ringSlotRelease h ring) := by simp [Statement, funcs, flits, messages]
theorem drainEnd (eng : Nat) : Statement (.drainEnd eng) := by simp [Statement, funcs, flits, messages]
theorem strArmGo (eng value : Nat) : Statement (.strArmGo eng value) := by simp [Statement, funcs, flits, messages]
theorem shadowStart (eng : Nat) : Statement (.shadowStart eng) := by simp [Statement, funcs, flits, messages]
theorem strAbort (eng : Nat) : Statement (.strAbort eng) := by simp [Statement, funcs, flits, messages]
theorem pageFaultStop (eng : Nat) (index : List Nat) (data : List Byte) : Statement (.pageFaultStop eng index data) := by simp [Statement, funcs, flits, messages]
theorem pageResponse (eng : Nat) (code : PageResp) : Statement (.pageResponse eng code) := by simp [Statement, funcs, flits, messages]
theorem pageRequestTimeout (eng : Nat) : Statement (.pageRequestTimeout eng) := by simp [Statement, funcs, flits, messages]
theorem ringCfgWrite (h : Half) (ring value : Nat) : Statement (.ringCfgWrite h ring value) := by simp [Statement, funcs, flits, messages]
theorem sqDoorbell (func ctx value : Nat) : Statement (.sqDoorbell func ctx value) := by
  simp_all [Statement, funcs, flits, messages, Instr.wf, wfFunc]
theorem cqDoorbell (func ctx value : Nat) : Statement (.cqDoorbell func ctx value) := by
  simp_all [Statement, funcs, flits, messages, Instr.wf, wfFunc]
theorem graphRead (ctx : Nat) (entry desc : List Byte) (fault : Bool) : Statement (.graphRead ctx entry desc fault) := by simp [Statement, funcs, flits, messages]
theorem admissionPoint (ctx : Nat) : Statement (.admissionPoint ctx) := by simp [Statement, funcs, flits, messages]
theorem reserveTimeout (ctx : Nat) : Statement (.reserveTimeout ctx) := by simp [Statement, funcs, flits, messages]
theorem admissionMsgArrive : Statement .admissionMsgArrive := by simp [Statement, funcs, flits, messages]
theorem nodeDispatch (h : Half) (unit : UnitRef) : Statement (.nodeDispatch h unit) := by simp [Statement, funcs, flits, messages]
theorem escalation (n : NodeRef) : Statement (.escalation n) := by simp [Statement, funcs, flits, messages]
theorem nodeComplete (n : NodeRef) : Statement (.nodeComplete n) := by simp [Statement, funcs, flits, messages]
theorem tokenArrive (h : Half) : Statement (.tokenArrive h) := by simp [Statement, funcs, flits, messages]
theorem abortGraph (func ctx gid : Nat) : Statement (.abortGraph func ctx gid) := by
  simp_all [Statement, funcs, flits, messages, Instr.wf, wfFunc]
theorem abortContext (func ctx : Nat) : Statement (.abortContext func ctx) := by
  simp_all [Statement, funcs, flits, messages, Instr.wf, wfFunc]
theorem retryNode (func ctx gid node : Nat) (bytes : List Byte) : Statement (.retryNode func ctx gid node bytes) := by
  simp_all [Statement, funcs, flits, messages, Instr.wf, wfFunc]
theorem ctxCfgWrite (ctx value : Nat) : Statement (.ctxCfgWrite ctx value) := by simp [Statement, funcs, flits, messages]
theorem programStart (h : Half) (gal : Nat) : Statement (.programStart h gal) := by simp [Statement, funcs, flits, messages]
theorem nop (h : Half) (gal : Nat) : Statement (.nop h gal) := by simp [Statement, funcs, flits, messages]
theorem wave (h : Half) (gal : Nat) : Statement (.wave h gal) := by simp [Statement, funcs, flits, messages]
theorem rowmaskSet (h : Half) (gal : Nat) : Statement (.rowmaskSet h gal) := by simp [Statement, funcs, flits, messages]
theorem rowmaskOpen (h : Half) (gal : Nat) : Statement (.rowmaskOpen h gal) := by simp [Statement, funcs, flits, messages]
theorem rowmaskClose (h : Half) (gal : Nat) : Statement (.rowmaskClose h gal) := by simp [Statement, funcs, flits, messages]
theorem rowmaskAll (h : Half) (gal : Nat) : Statement (.rowmaskAll h gal) := by simp [Statement, funcs, flits, messages]
theorem split (h : Half) (gal : Nat) : Statement (.split h gal) := by simp [Statement, funcs, flits, messages]
theorem acc (h : Half) (gal : Nat) : Statement (.acc h gal) := by simp [Statement, funcs, flits, messages]
theorem check (h : Half) (gal : Nat) : Statement (.check h gal) := by simp [Statement, funcs, flits, messages]
theorem scale (h : Half) (gal : Nat) : Statement (.scale h gal) := by simp [Statement, funcs, flits, messages]
theorem emit (h : Half) (gal : Nat) : Statement (.emit h gal) := by simp [Statement, funcs, flits, messages]
theorem waitBarrier (h : Half) (gal : Nat) : Statement (.waitBarrier h gal) := by simp [Statement, funcs, flits, messages]
theorem waitLanded (h : Half) (gal : Nat) : Statement (.waitLanded h gal) := by simp [Statement, funcs, flits, messages]
theorem waitIdle (h : Half) (gal : Nat) : Statement (.waitIdle h gal) := by simp [Statement, funcs, flits, messages]
theorem signal (h : Half) (gal : Nat) : Statement (.signal h gal) := by simp [Statement, funcs, flits, messages]
theorem loop (h : Half) (gal : Nat) : Statement (.loop h gal) := by simp [Statement, funcs, flits, messages]
theorem br (h : Half) (gal : Nat) : Statement (.br h gal) := by simp [Statement, funcs, flits, messages]
theorem seti (h : Half) (gal : Nat) : Statement (.seti h gal) := by simp [Statement, funcs, flits, messages]
theorem add (h : Half) (gal : Nat) : Statement (.add h gal) := by simp [Statement, funcs, flits, messages]
theorem endProgram (h : Half) (gal : Nat) : Statement (.endProgram h gal) := by simp [Statement, funcs, flits, messages]
theorem sequencerStallEnd (h : Half) (gal : Nat) : Statement (.sequencerStallEnd h gal) := by simp [Statement, funcs, flits, messages]
theorem illegalInstruction (h : Half) (gal : Nat) : Statement (.illegalInstruction h gal) := by simp [Statement, funcs, flits, messages]
theorem seqWatchdog (h : Half) (gal : Nat) : Statement (.seqWatchdog h gal) := by simp [Statement, funcs, flits, messages]
theorem galProgWrite (h : Half) (idx value : Nat) : Statement (.galProgWrite h idx value) := by simp [Statement, funcs, flits, messages]
theorem portEnWrite (port value : Nat) : Statement (.portEnWrite port value) := by simp [Statement, funcs, flits, messages]
theorem retrain (port : Nat) : Statement (.retrain port) := by simp [Statement, funcs, flits, messages]
theorem trainingDone (port : Nat) (res : TrainResult) : Statement (.trainingDone port res) := by simp [Statement, funcs, flits, messages]
theorem trainingRetry (port : Nat) : Statement (.trainingRetry port) := by simp [Statement, funcs, flits, messages]
theorem laneLoss (port lane : Nat) : Statement (.laneLoss port lane) := by simp [Statement, funcs, flits, messages]
theorem flitReceive (port : Nat) (flit : List Byte) (credits : List Nat) : Statement (.flitReceive port flit credits) := by
  simp_all [Statement, funcs, flits, messages, Instr.wf, wfFlit]
theorem routeWrite (h : Half) (idx value : Nat) : Statement (.routeWrite h idx value) := by simp [Statement, funcs, flits, messages]
theorem data (h : Half) (flit : List Byte) : Statement (.data h flit) := by
  simp_all [Statement, funcs, flits, messages, Instr.wf, wfFlit]
theorem e2eOpen (h : Half) (flit : List Byte) : Statement (.e2eOpen h flit) := by
  simp_all [Statement, funcs, flits, messages, Instr.wf, wfFlit]
theorem openAck (h : Half) (flit : List Byte) : Statement (.openAck h flit) := by
  simp_all [Statement, funcs, flits, messages, Instr.wf, wfFlit]
theorem reject (h : Half) (flit : List Byte) : Statement (.reject h flit) := by
  simp_all [Statement, funcs, flits, messages, Instr.wf, wfFlit]
theorem ack (h : Half) (flit : List Byte) : Statement (.ack h flit) := by
  simp_all [Statement, funcs, flits, messages, Instr.wf, wfFlit]
theorem ackTimer (h : Half) (queue : Nat) : Statement (.ackTimer h queue) := by simp [Statement, funcs, flits, messages]
theorem sqValidWrite (h : Half) (queue value : Nat) : Statement (.sqValidWrite h queue value) := by simp [Statement, funcs, flits, messages]
theorem sqEpochHoldEnd (h : Half) (queue : Nat) : Statement (.sqEpochHoldEnd h queue) := by simp [Statement, funcs, flits, messages]
theorem openResend (h : Half) (queue : Nat) : Statement (.openResend h queue) := by simp [Statement, funcs, flits, messages]
theorem rqValidWrite (h : Half) (queue value : Nat) : Statement (.rqValidWrite h queue value) := by simp [Statement, funcs, flits, messages]
theorem e2eTimeout (h : Half) (queue : Nat) : Statement (.e2eTimeout h queue) := by simp [Statement, funcs, flits, messages]
theorem regRead (src epoch space off count tag : Nat) : Statement (.regRead src epoch space off count tag) := by simp [Statement, funcs, flits, messages]
theorem regWrite (src epoch space off be tag : Nat) (words : List Word) : Statement (.regWrite src epoch space off be tag words) := by simp [Statement, funcs, flits, messages]
theorem regResp (src epoch tag status : Nat) (words : List Word) : Statement (.regResp src epoch tag status words) := by simp [Statement, funcs, flits, messages]
theorem mgmtAccessTimeout (tag : Nat) : Statement (.mgmtAccessTimeout tag) := by simp [Statement, funcs, flits, messages]
theorem notify (src epoch : Nat) (payload : List Byte) : Statement (.notify src epoch payload) := by simp [Statement, funcs, flits, messages]
theorem heartbeat (src epoch : Nat) : Statement (.heartbeat src epoch) := by simp [Statement, funcs, flits, messages]
theorem heartbeatTimer : Statement .heartbeatTimer := by simp [Statement, funcs, flits, messages]
theorem heartbeatLoss : Statement .heartbeatLoss := by simp [Statement, funcs, flits, messages]
theorem takeover (src epoch : Nat) : Statement (.takeover src epoch) := by simp [Statement, funcs, flits, messages]
theorem rejectEpoch (src epoch cur master : Nat) : Statement (.rejectEpoch src epoch cur master) := by simp [Statement, funcs, flits, messages]
theorem budgetPeriod (measuredW : Nat) : Statement (.budgetPeriod measuredW) := by simp [Statement, funcs, flits, messages]
theorem budgetReport (src epoch measuredW capW slack reasons : Nat) : Statement (.budgetReport src epoch measuredW capW slack reasons) := by simp [Statement, funcs, flits, messages]
theorem budgetGrant (src epoch capW : Nat) : Statement (.budgetGrant src epoch capW) := by simp [Statement, funcs, flits, messages]
theorem budgetRevert : Statement .budgetRevert := by simp [Statement, funcs, flits, messages]
theorem flush (n : NodeRef) : Statement (.flush n) := by simp [Statement, funcs, flits, messages]
theorem barrier (n : NodeRef) : Statement (.barrier n) := by simp [Statement, funcs, flits, messages]
theorem arrive (h : Half) (flit : List Byte) : Statement (.arrive h flit) := by
  simp_all [Statement, funcs, flits, messages, Instr.wf, wfFlit]
theorem release (h : Half) (flit : List Byte) : Statement (.release h flit) := by
  simp_all [Statement, funcs, flits, messages, Instr.wf, wfFlit]
theorem barrierTimeout (n : NodeRef) : Statement (.barrierTimeout n) := by simp [Statement, funcs, flits, messages]
theorem barrierEnWrite (h : Half) (bar value : Nat) : Statement (.barrierEnWrite h bar value) := by simp [Statement, funcs, flits, messages]
theorem dispatch (n : NodeRef) : Statement (.dispatch n) := by simp [Statement, funcs, flits, messages]
theorem collect (n : NodeRef) : Statement (.collect n) := by simp [Statement, funcs, flits, messages]
theorem returnRows (n : NodeRef) : Statement (.returnRows n) := by simp [Statement, funcs, flits, messages]
theorem combine (n : NodeRef) : Statement (.combine n) := by simp [Statement, funcs, flits, messages]
theorem batchTimeout (n : NodeRef) : Statement (.batchTimeout n) := by simp [Statement, funcs, flits, messages]
theorem pcieLinkTrain (link : Option PcieLink) : Statement (.pcieLinkTrain link) := by simp [Statement, funcs, flits, messages]
theorem pcieTrainRetry : Statement .pcieTrainRetry := by simp [Statement, funcs, flits, messages]
theorem vfFlr (func : Nat) : Statement (.vfFlr func) := by
  simp_all [Statement, funcs, flits, messages, Instr.wf, wfFunc]
theorem flrDone (func : Nat) : Statement (.flrDone func) := by
  simp_all [Statement, funcs, flits, messages, Instr.wf, wfFunc]
theorem pfReset (linkDown : Bool) : Statement (.pfReset linkDown) := by simp [Statement, funcs, flits, messages]
theorem d3hotEntry (func : Nat) : Statement (.d3hotEntry func) := by
  simp_all [Statement, funcs, flits, messages, Instr.wf, wfFunc]
theorem atsInvalidate (func pasid addr len tag : Nat) : Statement (.atsInvalidate func pasid addr len tag) := by
  simp_all [Statement, funcs, flits, messages, Instr.wf, wfFunc]
theorem priReset (func : Nat) : Statement (.priReset func) := by
  simp_all [Statement, funcs, flits, messages, Instr.wf, wfFunc]
theorem t3ReadFail (n : Option NodeRef) (addr pasid : Nat) : Statement (.t3ReadFail n addr pasid) := by simp [Statement, funcs, flits, messages]
theorem poisonedWrite (func addr value : Nat) : Statement (.poisonedWrite func addr value) := by
  simp_all [Statement, funcs, flits, messages, Instr.wf, wfFunc]
theorem msixUnmask (func : Nat) (entry : Option Nat) : Statement (.msixUnmask func entry) := by
  simp_all [Statement, funcs, flits, messages, Instr.wf, wfFunc]
theorem pciCtxFuncWrite (ctx value : Nat) : Statement (.pciCtxFuncWrite ctx value) := by simp [Statement, funcs, flits, messages]
theorem domainHold (dom value : Nat) : Statement (.domainHold dom value) := by simp [Statement, funcs, flits, messages]
theorem domainDisable (dom value : Nat) : Statement (.domainDisable dom value) := by simp [Statement, funcs, flits, messages]
theorem wakeAdmit : Statement .wakeAdmit := by simp [Statement, funcs, flits, messages]
theorem domainOn (dom : Nat) (selfTestFail : Bool) : Statement (.domainOn dom selfTestFail) := by simp [Statement, funcs, flits, messages]
theorem domainIdleExpire (dom : Nat) : Statement (.domainIdleExpire dom) := by simp [Statement, funcs, flits, messages]
theorem domainOff (dom : Nat) : Statement (.domainOff dom) := by simp [Statement, funcs, flits, messages]
theorem pllLock (h : Half) (bit : Nat) : Statement (.pllLock h bit) := by simp [Statement, funcs, flits, messages]
theorem powerPeriod (measuredW estimatedW : Nat) (tmax : Int) : Statement (.powerPeriod measuredW estimatedW tmax) := by simp [Statement, funcs, flits, messages]
theorem opChangeDone (h : Half) : Statement (.opChangeDone h) := by simp [Statement, funcs, flits, messages]
theorem gateWindowClose : Statement .gateWindowClose := by simp [Statement, funcs, flits, messages]
theorem gateWindowOpen : Statement .gateWindowOpen := by simp [Statement, funcs, flits, messages]
theorem thermalTrip : Statement .thermalTrip := by simp [Statement, funcs, flits, messages]
theorem capWrite (value : Nat) : Statement (.capWrite value) := by simp [Statement, funcs, flits, messages]
theorem estimateDivergeClear : Statement .estimateDivergeClear := by simp [Statement, funcs, flits, messages]
theorem powerRestart : Statement .powerRestart := by simp [Statement, funcs, flits, messages]
theorem powerRestartDone : Statement .powerRestartDone := by simp [Statement, funcs, flits, messages]
theorem mgmtRestart : Statement .mgmtRestart := by simp [Statement, funcs, flits, messages]
theorem mgmtRestartDone : Statement .mgmtRestartDone := by simp [Statement, funcs, flits, messages]
theorem controllerWatchdog (c : Controller) : Statement (.controllerWatchdog c) := by simp [Statement, funcs, flits, messages]
theorem powerOn (straps : Nat) : Statement (.powerOn straps) := by simp [Statement, funcs, flits, messages]
theorem powerOff : Statement .powerOff := by simp [Statement, funcs, flits, messages]
theorem railOutOfRange (rail : Nat) : Statement (.railOutOfRange rail) := by simp [Statement, funcs, flits, messages]
theorem deviceReset (heldNs : Nat) : Statement (.deviceReset heldNs) := by simp [Statement, funcs, flits, messages]
theorem perstRelease (octalOk : Bool) (failWest failEast flashBad : Nat) (siteHot : Bool) : Statement (.perstRelease octalOk failWest failEast flashBad siteHot) := by simp [Statement, funcs, flits, messages]
theorem trialExpire (kind : Nat) : Statement (.trialExpire kind) := by simp [Statement, funcs, flits, messages]
theorem mctpControl (cmd : List Byte) : Statement (.mctpControl cmd) := by simp [Statement, funcs, flits, messages]
theorem getVersion (path : SecPath) (msg : List Byte) : Statement (.getVersion path msg) := by
  simp_all [Statement, funcs, flits, messages, Instr.wf, wfMsg]
theorem getIdentity (path : SecPath) (msg : List Byte) : Statement (.getIdentity path msg) := by
  simp_all [Statement, funcs, flits, messages, Instr.wf, wfMsg]
theorem getCert (path : SecPath) (msg : List Byte) : Statement (.getCert path msg) := by
  simp_all [Statement, funcs, flits, messages, Instr.wf, wfMsg]
theorem getMeasurements (path : SecPath) (msg : List Byte) : Statement (.getMeasurements path msg) := by
  simp_all [Statement, funcs, flits, messages, Instr.wf, wfMsg]
theorem getAttestState (path : SecPath) (msg : List Byte) : Statement (.getAttestState path msg) := by
  simp_all [Statement, funcs, flits, messages, Instr.wf, wfMsg]
theorem attestTokenTick : Statement .attestTokenTick := by simp [Statement, funcs, flits, messages]
theorem kekInstall (path : SecPath) (msg : List Byte) : Statement (.kekInstall path msg) := by
  simp_all [Statement, funcs, flits, messages, Instr.wf, wfMsg]
theorem kekClear (path : SecPath) (msg : List Byte) : Statement (.kekClear path msg) := by
  simp_all [Statement, funcs, flits, messages, Instr.wf, wfMsg]
theorem debugChallenge (path : SecPath) (msg : List Byte) : Statement (.debugChallenge path msg) := by
  simp_all [Statement, funcs, flits, messages, Instr.wf, wfMsg]
theorem debugUnlock (path : SecPath) (msg : List Byte) : Statement (.debugUnlock path msg) := by
  simp_all [Statement, funcs, flits, messages, Instr.wf, wfMsg]
theorem updBegin (path : SecPath) (msg : List Byte) : Statement (.updBegin path msg) := by
  simp_all [Statement, funcs, flits, messages, Instr.wf, wfMsg]
theorem updData (path : SecPath) (msg : List Byte) : Statement (.updData path msg) := by
  simp_all [Statement, funcs, flits, messages, Instr.wf, wfMsg]
theorem updEnd (path : SecPath) (msg : List Byte) : Statement (.updEnd path msg) := by
  simp_all [Statement, funcs, flits, messages, Instr.wf, wfMsg]
theorem updActivate (path : SecPath) (msg : List Byte) : Statement (.updActivate path msg) := by
  simp_all [Statement, funcs, flits, messages, Instr.wf, wfMsg]
theorem updCommit (path : SecPath) (msg : List Byte) : Statement (.updCommit path msg) := by
  simp_all [Statement, funcs, flits, messages, Instr.wf, wfMsg]
theorem updStatus (path : SecPath) (msg : List Byte) : Statement (.updStatus path msg) := by
  simp_all [Statement, funcs, flits, messages, Instr.wf, wfMsg]
theorem errHostHeadWrite (h : Half) (value : Nat) : Statement (.errHostHeadWrite h value) := by simp [Statement, funcs, flits, messages]
theorem mgmtHeadAdvance (h : Half) : Statement (.mgmtHeadAdvance h) := by simp [Statement, funcs, flits, messages]
theorem brownoutRecover (h : Half) : Statement (.brownoutRecover h) := by simp [Statement, funcs, flits, messages]
theorem deviceWatchdogExpire : Statement .deviceWatchdogExpire := by simp [Statement, funcs, flits, messages]
theorem refclkLoss : Statement .refclkLoss := by simp [Statement, funcs, flits, messages]
theorem refclkReturn : Statement .refclkReturn := by simp [Statement, funcs, flits, messages]
theorem tapInstruction (code : Nat) : Statement (.tapInstruction code) := by simp [Statement, funcs, flits, messages]

end Sys2Proof.Laws.Wf
end

