-- ==== Sys2Proof/Laws/Store.lean ====
section
/-! SUPPORT. Laws of a unit's store: one that covers no word in part is a plain store, and a store of whole words covers none. -/

namespace Sys2Proof.Machine

/-- A store that covers no word in part stores all its bytes and finds nothing. -/
theorem State.storeBytes_clean (s : State) (h : Half) (tier a : Nat) (bs : List Byte)
    (hc : partWords (wordBytes tier) a bs.length = []) : s.storeBytes h tier a bs = s.memPut h tier a bs := by
  simp [State.storeBytes, hc]

@[simp] theorem partWords_nil (g a : Nat) : partWords g a 0 = [] := rfl

/-- A store of whole words covers none in part. -/
theorem partWords_whole (g x y : Nat) (hg : 0 < g) : partWords g (g * x) (g * y) = [] := by
  unfold partWords
  split
  · rfl
  · have hy : 0 < y := by
      rcases Nat.eq_zero_or_pos y with h | h
      · simp_all
      · exact h
    obtain ⟨z, rfl⟩ : ∃ z, y = z + 1 := ⟨y - 1, by omega⟩
    have hz : g * (x + z) = g * x + g * z := by ring
    have hlast : (g * x + g * (z + 1) - 1) / g = x + z := by
      rw [show g * x + g * (z + 1) - 1 = (g - 1) + g * (x + z) by rw [hz, Nat.mul_succ]; omega, Nat.add_mul_div_left _ _ hg,
        Nat.div_eq_of_lt (by omega)]
      omega
    have hfirst : g * x / g = x := Nat.mul_div_cancel_left _ hg
    have hs : g * (z + 1) = g * z + g := Nat.mul_succ g z
    simp only [hlast, hfirst]
    split <;> simp [hs, hz]
    omega

/-- A store of whole words is a plain store. -/
theorem State.storeBytes_whole (s : State) (h : Half) (tier x y : Nat) (bs : List Byte) (hl : bs.length = wordBytes tier * y) :
    s.storeBytes h tier (wordBytes tier * x) bs = s.memPut h tier (wordBytes tier * x) bs := by
  apply State.storeBytes_clean
  rw [hl]
  exact partWords_whole _ _ _ (by unfold wordBytes; split <;> omega)

end Sys2Proof.Machine
end

