-- ==== Sys2Proof/Tests/Slice0.lean ====
section
/-! SUPPORT. Tests: ill-formed commands that WellFormed refuses, worked examples of the spec, and for every statement's hypotheses one
concrete state and operands that meet them. Expected values come from the spec, never from a run. -/

set_option Elab.async false
set_option linter.unusedVariables false

namespace Sys2Proof.Tests

open Sys2Proof.Machine

/-! ## WellFormed refuses, one ill-formed term per check -/

theorem test_wf_refuses_accesses :
    ([.registerWrite 64 0 4 0, .registerWrite 0 0x08100000 4 0, .registerWrite 0 0 0 0, .registerWrite 0 0 65 0, .registerWrite 0 0 1 256,
     .deferredReadComplete 64 0 4 false, .deferredReadComplete 0 0 65 false, .seqAWrite .west 64 1 0, .seqAWrite .west 0 0 0,
     .seqBWrite .west 0 65 0, .seqBWrite .west 0 1 256, .contReadApertureRead .west 64 0 1, .contReadApertureRead .west 0 0x100000 1,
     .contReadApertureRead .west 0 0 0, .contReadApertureRead .west 0 0 65, .bar2Access 64 0 1 none {},
     .bar2Access 0 0x10000000 1 none {}, .bar2Access 0 0 0 none {}, .bar2Access 0 0 65 none {}, .bar2Access 0 0 2 (some [1]) {},
     .passageTransferArrive .west .token 5] : List Instr).all (fun i => !i.wf) = true := by decide +kernel

theorem test_wf_refuses_units :
    ([.waveStart .west 32, .programStart .east 32, .healthWatchExpire .west 32768, .nvStepStart .west 2048,
     .nodeDispatch .west (.gallery 32), .nodeDispatch .west (.engine 64), .transferStart 64, .ringAttach .west 64 0 true,
     .ringAttach .west 0 64 true, .ackTimer .west 64, .domainOn 144 false, .pllLock .west 13, .mergeDeadline ⟨256, 0, 0⟩,
     .escalation ⟨0, 65536, 0⟩, .nodeComplete ⟨0, 0, 4096⟩, .free .west (.node ⟨256, 0, 0⟩), .evictDone .west 32768 {},
     .allocTimeout .west 32768, .stuckStateWrite .west 1024 0, .galProgWrite .west 32768 0, .routeWrite .west 16384 0, .retrain 8,
     .laneLoss 0 4, .vfFlr 64, .msixUnmask 0 (some 32), .railOutOfRange 16, .trialExpire 3, .powerOn 16, .tapInstruction 256] : List Instr).all (fun i => !i.wf) = true := by decide +kernel

theorem test_wf_refuses_numeric_operands :
    ([.seamPlaneCfgWrite .west 0 (2 ^ 32), .create .west 512 0, .create .west 0 256, .arm .west 0 2, .arm .west 512 0,
     .openSlot .west 0 0 65536, .sdsSetCtrlWrite .west 256 0, .abortGraph 0 0 65536, .powerPeriod 65536 0 0, .powerPeriod 0 65536 0,
     .powerPeriod 0 0 (-32769), .powerPeriod 0 0 32768, .heartbeat 16384 0, .heartbeat 0 65536, .regRead 0 0 16 0 0 0,
     .regRead 0 0 0 0 256 0, .regWrite 0 0 0 0 16 0 [], .regResp 0 0 0 256 [], .rejectEpoch 0 0 65536 0, .budgetPeriod 65536,
     .budgetReport 0 0 65536 0 0 0, .budgetReport 0 0 0 65536 0 0, .budgetReport 0 0 0 0 65536 0, .budgetReport 0 0 0 0 0 256,
     .budgetGrant 0 0 65536, .pageFaultStop 64 [] [], .pageFaultStop 0 [2 ^ 24] [], .atsInvalidate 0 (2 ^ 20) 0 0 0,
     .atsInvalidate 0 0 (2 ^ 64) 0 0, .atsInvalidate 0 0 0 (2 ^ 64 + 1) 0, .atsInvalidate 0 0 0 0 32, .t3ReadFail none (2 ^ 64) 0,
     .t3ReadFail none 0 (2 ^ 20), .t3ReadFail (some ⟨256, 0, 0⟩) 0 0, .poisonedWrite 0 0x10000000 0, .programRowDone .west .host 1024 0] : List Instr).all (fun i => !i.wf) = true := by decide +kernel

theorem test_wf_refuses_bytes_cells_and_outcomes :
    ([.data .west [], .flitReceive 0 [] [], .flitReceive 0 (List.replicate 256 0) [0, 0, 0, 0, 0, 0, 0],
     .load .west (List.replicate 65 0) [] {} false, .eraseSet .west (List.replicate 65 0) false, .graphRead 0 [] [] false,
     .retryNode 0 0 0 0 [], .getVersion .mailbox (List.replicate 4097 0), .pulseLimitExpire .west .host 1024 [],
     .pulseLimitExpire .west .host 0 [⟨544, 0, 0⟩], .pulseLimitExpire .west .host 0 [⟨0, 2, 0⟩],
     .pulseLimitExpire .west .host 0 [⟨0, 0, 8⟩], .eraseTimeLimit .west .host [(1024, ⟨0, 0, 0⟩)],
     .eraseTimeLimit .west .host [(0, ⟨544, 0, 0⟩)], .rowSenseDone .west 0 1024 [], .rowSenseDone .west 0 0 [⟨0, 2, 0⟩],
     .nvStepEnd .west 0 (.margin ⟨[⟨544, 0, 0⟩], 0, []⟩), .nvStepEnd .west 0 (.margin ⟨[], 1089, []⟩),
     .nvStepEnd .west 0 (.margin ⟨[], 0, [⟨0, 0, 8⟩]⟩), .trainingDone 0 ⟨true, true, 16384, 0, [], [], [], []⟩,
     .trainingDone 0 ⟨true, true, 0, 8, [], [], [], []⟩, .trainingDone 0 ⟨true, true, 0, 0, [4], [], [], []⟩,
     .trainingDone 0 ⟨true, true, 0, 0, [], [4], [], []⟩, .trainingDone 0 ⟨true, true, 0, 0, [], [], [4], []⟩,
     .trainingDone 0 ⟨true, true, 0, 0, [], [], [], [4]⟩, .pcieLinkTrain (some ⟨3, 16⟩), .pcieLinkTrain (some ⟨0, 3⟩)] : List Instr).all (fun i => !i.wf) = true := by decide +kernel

/-! ## Worked examples of the spec -/

/-- Table 11.6: the program of the worked example, word for word. -/
theorem test_table_11_6 :
    [0x6B900000, 0x640005DC, 0x15200000, 0x1A000000, 0x088C9000, 0x51000044, 0x28000000, 0x5A000050].map seqDecode =
      [.ok (.add 3 (some 1) 0), .ok (.seti 4 1500), .ok (.rowmask 2 4 4), .ok (.split 1), .ok (.wave 1 0 3 1 0 true false 0),
       .ok (.loop 1 0x44), .ok .check, .ok (.br 4 0 0x50)] := by decide +kernel

theorem test_table_11_6_dump :
    [0x60000000, 0x69B00000, 0x67080000, 0x3FC00000, 0x088CEE00, 0x6E002000, 0x6F008000, 0x5100004C, 0xF8000000].map seqDecode =
      [.ok (.seti 0 0), .ok (.add 1 (some 3) 0), .ok (.seti 7 0x80000), .ok (.emit true (some 7)), .ok (.wave 1 0 3 1 3 false true 6),
       .ok (.add 6 none 8192), .ok (.add 7 none 32768), .ok (.loop 1 0x4C), .ok .fin] := by decide +kernel

/-- The example under Table 3.9: 4,924 times 2^-9 in BF16 is 0x411A. -/
theorem test_output_of_table_3_9 : convert bf16 (fpFma (fpOfInt 4924) (bf16To32 0x3B00) 0) = { code := 0x411A } := by decide +kernel

/-- Tables 3.6 and 3.9: flip steps at g = 1 and g = 2. -/
theorem test_flip_steps : [flipStep 1 490, flipStep 1 420, flipStep 1 210, flipStep 1 70] = [245, 210, 105, 35] ∧
    [flipStep 2 771, flipStep 2 512, flipStep 2 765] = [193, 128, 191] := by decide +kernel

/-- Table 3.6: FIRST and HALF_LO trip the guard, Q0 counts. -/
theorem test_guard_of_table_3_6 : (colOut 1 70 0 490 0 0).guard = true ∧ (colOut 1 60 0 420 0 0).guard = true ∧ (colOut 1 30 0 210 0 0).guard = false := by decide +kernel

/-- The example under Table 3.9: the error terms of 513 and 511 driven rows at g = 2 on a FRESH plane. -/
theorem test_error_terms : errTerm 2 513 0 = 7 ∧ errTerm 2 511 0 = 6 := by decide +kernel

/-- SHA-256 and CRC-32 of their standards' check inputs. -/
theorem test_crc_check : crc32 ([0x31, 0x32, 0x33, 0x34, 0x35, 0x36, 0x37, 0x38, 0x39] : List Byte) = 0xCBF43926 := by decide +kernel

theorem test_sha_of_abc : (sha256 ([0x61, 0x62, 0x63] : List Byte)).take 4 = [0xBA, 0x78, 0x16, 0xBF] := by decide +kernel

/-- AES-256 of FIPS 197's example. -/
theorem test_aes_of_fips_197 :
    aesEncrypt (aesKeys ((List.range 32).map (BitVec.ofNat 8))) ((List.range 16).map (fun i => 17 * i)) =
      [0x8E, 0xA2, 0xB7, 0xCA, 0x51, 0x67, 0x45, 0xBF, 0xEA, 0xFC, 0x49, 0x90, 0x4B, 0x49, 0x60, 0x89] := by decide +kernel

/-- SHA3-256 of the empty message, of FIPS 202's examples. -/
theorem test_sha3_of_nothing : (sha3short []).take 8 = [0xA7, 0xFF, 0xC6, 0xF8, 0xBF, 0x1E, 0xD7, 0x66] := by decide +kernel

/-- Reset: what the spec gives (R400, R465, R467). -/
theorem test_reset : State.reset.stage = .held ∧ State.reset.pending = [] ∧ State.reset.regs = [] := by decide +kernel

/-- A step runs the front of the queue. -/
theorem test_step_takes_front : ∃ t, step { State.reset with pending := [.powerOn 3, .powerOff] } = .next t ∧ t.pending = [.powerOff] :=
  ⟨_, rfl, by decide +kernel⟩

/-! ## Witnesses of the statements' hypotheses -/

def live0 : State := { State.reset with stage := .running }
def domsOn (s : State) (ds : List Nat) : State := ds.foldl (fun s d => s.wf (PWR_DOMAIN_STATUS d) PWR_DOMAIN_STATUS.STATE 3) s
/-- A RESIDENT object in a home-table entry. -/
def withObj (s : State) (h : Half) (i tier base size ctx flags : Nat) : State :=
  [(MEM_HOME.STATE, 1), (MEM_HOME.TIER, tier), (MEM_HOME.CONTEXT, ctx), (MEM_HOME.GEN, 1), (MEM_HOME.FLAGS, flags),
    (MEM_HOME.SIZE_LO, size), (MEM_HOME.BASE, base)].foldl (fun s e => s.home h i e.1 e.2) s
/-- An object command block in MEM_CMD. -/
def withBlk (s : State) (h : Half) (ws : List Nat) : State := s.wrWords (MEM_CMD h 0) ws
/-- A running node of 128 bytes in a graph of context 1. -/
def withNode (s : State) (bs : List Byte) (p : NodePhase) : State :=
  { s with graphs := s.graphs ++ [{ ctx := 1, gid := s.graphs.length, header := zeros 64, nodes := [{ bytes := bs ++ zeros (128 - bs.length), phase := p }] }] }
def n0 : NodeRef := { ctx := 1, gid := 0, node := 0 }
/-- A flit with the fields given, as delivered. -/
def flitOf (type sub srcNode dq sq info : Nat) (payload : List Byte) : List Byte := mkFlit (if type = 1 then 2 else 1) type 0 0 srcNode 0 dq sq sub info payload
def inboxed (s : State) (b : List Byte) : State := { s with west := { s.west with inbox := [b] } }
/-- The graph and node that `withNode` adds first. -/
def g0 (bs : List Byte) (p : NodePhase) : Graph := (withNode live0 bs p).graphs.headD { ctx := 0, gid := 0 }
def nd0 (bs : List Byte) (p : NodePhase) : Node := (g0 bs p).nodes.headD {}
def withOp (s : State) (o : CswOp) : State := { s with west := { s.west with cswOps := [o] } }
/-- West's host port with a command's keys and parameters. -/
def armed0 (code : Nat) (ws : List Nat) : State :=
  { live0 with west := { live0.west with nv := { live0.west.nv with
      host := { step := 3, key := code }
      param := resultArea ([code + 256, 77] ++ ws) } } }
def nvw (s : State) (f : NvHalf → NvHalf) : State := s.modNv .west f
def cmdOn (p : NvPort) (c : NvCmd) : State := nvw live0 (fun n => n.setPort p { cmd := some c })
def ring0 (s : State) : State :=
  ((s.wf (NV_LDR_RING_CTRL .west) NV_LDR_RING_CTRL.EN 1).wf (NV_LDR_TAIL .west) NV_LDR_TAIL.TAIL 1)
/-- Set 3 of West: valid, of context 1, footprint Chamber 0, slot 0 in state `st` with logical plane 0 on physical plane 3. -/
def set0 (s : State) (h : Half) (st : Nat) : State :=
  [(JCT_WSET_CTRL h 3, JCT_WSET_CTRL.VALID, 1), (JCT_WSET_CTRL h 3, JCT_WSET_CTRL.CONTEXT, 1), (JCT_WSET_FOOT h 3, JCT_WSET_FOOT.COUNT, 1),
    (JCT_WSET_SLOT h 6, JCT_WSET_SLOT.STATE, st), (JCT_WSET_SLOT h 6, JCT_WSET_SLOT.VERSION, 1), (JCT_WSET_LIVE h 6, JCT_WSET_LIVE.LVALID, 1),
    (JCT_WSET_MAP_LO h 6, JCT_WSET_MAP_LO.P_LO, 3)].foldl (fun s e => s.wf e.1 e.2.1 e.2.2) s
def ldDescOf (op set mask len : Nat) : List Byte :=
  leBytes 4 (1 + op * 16) ++ leBytes 4 set ++ leBytes 4 mask ++ zeros 20 ++ leBytes 4 len ++ zeros 28
def img0 : List Byte := leBytes 4 0x57537C32 ++ leBytes 4 1 ++ leBytes 4 1 ++ leBytes 4 1 ++ leBytes 4 1 ++ zeros 44 ++ zeros 264
/-- The image `img0` with its digest right. -/
def img1 : List Byte := img0.take 32 ++ sha256 (img0.drop 64) ++ img0.drop 64
def ldrw (s : State) (l : LoaderSt) : State := { s with west := { s.west with ldr := l } }
def switch0 (s : State) (half set slot : Nat) : State :=
  [(JCT_WSET_SWITCH_LIST.VALID, 1), (JCT_WSET_SWITCH_LIST.HALF, half), (JCT_WSET_SWITCH_LIST.SET, set), (JCT_WSET_SWITCH_LIST.SLOT, slot)].foldl
    (fun s e => s.wf (JCT_WSET_SWITCH_LIST 0) e.1 e.2) s
/-- A GALLERY node of West's Gallery 0, Chamber 0, and a state whose sequencer there has the word next. -/
def galB : List Byte := [1, 0, 0, 0, 0, 0, 0, 0, 32] ++ zeros 56 ++ [1]
def seqw (word : Nat) (q : SeqSt) : State :=
  (((withNode live0 galB .running).wf (GAL_SEQ_STATUS .west 0) GAL_SEQ_STATUS.RUNNING 1).wf (GAL_PROG .west 5) GAL_PROG.WORD word).setGal .west 0
    { node := some n0, started := true, seq := { q with npc := 5 } }
def setCntW (s : State) (n v : Nat) : State := s.setCnt .west 0 n v
/-- A GALLERY node bound to an object of 65,536 bytes in West's T1 as input and output, and a state with a wave of it. -/
def galC (cset : Nat) : List Byte :=
  [1, 0, 0, 0, 0, 0, 0, 0, 32] ++ zeros 23 ++ leBytes 4 65543 ++ leBytes 4 65543 ++ zeros 24 ++ [0, 1] ++ zeros 34 ++ leBytes 4 cset
def wavw (cset : Nat) (w : Wave) : State :=
  let s0 := withNode (withObj live0 .west 7 1 5 65536 1 0x2C) (galC cset) .running
  let s : State := { s0 with graphs := s0.graphs.map (fun (g : Graph) => ({ g with pins := [{ half := .west, set := 0, slot := 0 }] } : Graph)) }
  let s1 := (s.wf (JCT_WSET_LIVE .west 0) JCT_WSET_LIVE.LVALID 1).wf (JCT_WSET_MAP_LO .west 0) JCT_WSET_MAP_LO.P_LO 3
  (domsOn s1 [galDom .west 0]).setGal .west 0 { node := some n0, started := true, waves := [w] }
def enW (s : State) (en w7 : Nat) : State :=
  [0, 1, 2, 3].foldl (fun s x => (s.wf (SEAM_PLANE_CFG .west x) SEAM_PLANE_CFG.EN en).wf (SEAM_PLANE_CFG .west x) SEAM_PLANE_CFG.W7 w7) s
def wv0 : Wave := { node := n0 }
def acc0 : ChmAcc := { need := [0], v := List.replicate 544 0, c := List.replicate 544 0, clamped := List.replicate 544 false }
/-- A Plaza operation block: words 0 (version, kind, flags), formats, M, K, N, FUNC, A, B, OUT, then zeros up to RANK/DEADLINE and P. -/
def opOf (w0 fmts m k n func a b out : Nat) (u v rank : Nat) : List Byte :=
  ([w0, fmts, m, k, n, func, a, b, out, 0, 0, u, v, rank, 0, 0].flatMap (leBytes 4))
/-- A node of KIND 2 with the block, and a state whose Plaza runs it over three objects of West's T1. -/
def plzB (op : List Byte) : List Byte := [2] ++ zeros 63 ++ op
def objs3 : State := withObj (withObj (withObj live0 .west 7 1 5 65536 1 0x21) .west 8 1 32 65536 1 0x21) .west 9 1 64 65536 1 0x21
def plzw (op : List Byte) (p : PlazaSt) : State :=
  let s0 := withNode objs3 (plzB op) .running
  { s0 with west := { s0.west with plaza := { p with node := some n0 } } }
/-- A streamed low-rank MATMUL whose Plaza is given; microsecond 20 of West. -/
def fbOp : List Byte := opOf (17 + 1024 + 2048) (7 + 7 * 16 + 7 * 256) 1 2 2 0 65543 3 65545 65543 65543 (1 + 9 * 65536)
def fbw (p : PlazaSt) : State :=
  let s := plzw fbOp p
  { s with west := { s.west with us := 20 } }
def fbw99 (p : PlazaSt) : State :=
  let s := plzw (opOf (17 + 1024 + 2048) (7 + 7 * 16 + 7 * 256) 1 2 2 0 65543 3 65545 65543 65543 (1 + 99 * 65536)) p
  { s with west := { s.west with us := 20 } }
/-- A STAGE node's payload: set, source, address, length. -/
def stgB (set src addr len : Nat) : List Byte := [3] ++ zeros 63 ++ [BitVec.ofNat 8 set, BitVec.ofNat 8 src] ++ zeros 6 ++ leBytes 8 addr ++ zeros 4 ++ leBytes 4 len
def stgw (b : List Byte) (st run : Bool) : State :=
  let s0 := withNode live0 b .running
  let s1 := ((s0.wf (SDS_SET_CTRL .west 255) SDS_SET_CTRL.VALID 1).wf (SDS_SET_CTRL .west 255) SDS_SET_CTRL.CONTEXT 1).wf (SDS_SET_REGION .west 255) SDS_SET_REGION.SIZE 4
  { s1 with west := { s1.west with stage := { node := if st then some n0 else none, running := run } } }
/-- A correction set of no residual and no outlier for one column. -/
def cset0 : List Byte := leBytes 4 1 ++ leBytes 4 0 ++ leBytes 4 0 ++ leBytes 4 1 ++ zeros 16
/-- A transfer descriptor in one row: kinds, log2 of the element, flags (1 LAYER_END, 2 SLOT_END, 4 LAST), addresses, COUNT[0]. -/
def dscB (sk dk el flags src dst n : Nat) : List Byte :=
  leBytes 4 (1 + sk * 16 + dk * 256 + el * 4096 + 32768 + flags * 2 ^ 18) ++ leBytes 4 77 ++ leBytes 8 src ++ leBytes 8 dst ++ zeros 8 ++
    leBytes 4 n ++ ([1, 1, 1, 1].flatMap (leBytes 4)) ++ zeros 76
/-- A stream node and a chain of it at West's object 7; two more objects of West's T1. -/
def strB : List Byte := [4] ++ zeros 63 ++ leBytes 4 65543 ++ zeros 60
def ch0 : Chain := { node := some n0, ctx := 1, handle := 65543, off := 128, resume := false }
def strw (b : List Byte) (st : Nat) (x : Engine) : State :=
  let s0 := withNode objs3 strB .running
  let s1 : State := { s0 with graphs := s0.graphs.map (fun (g : Graph) => ({ g with nodes := g.nodes.map (fun (n : Node) =>
    ({ n with bound := [(65543, true), (65544, false), (65545, true)] } : Node)) } : Graph)) }
  (((domsOn s1 [120]).memPut .west 1 (20480 + 128) b).setStrState 9 st).setEngine 9 x
def run0 (b : List Byte) : Engine := { chain := some { ch0 with loaded := 1 }, desc := b, handle := 65543, off := 128 }
def cfgRing (s : State) (r : Nat) (x : Ring) : State :=
  ([(STR_RING_CFG.VALID, 1), (STR_RING_CFG.SLOTS, 3), (STR_RING_CFG.SLOT_KIB, 1), (STR_RING_CFG.CONTEXT, 1)].foldl
    (fun s e => s.wf (STR_RING_CFG .west r) e.1 e.2) (s.wf (STR_RING_BASE .west r) STR_RING_BASE.HANDLE 65544)).setRing .west r x
def priw (s : State) : State := { s with pcie := { s.pcie with priEn := true, priAlloc := 4 } }
/-- A graph descriptor of format 1 with node records and edges; its submission entry; a context ready to read it. -/
def descB (gid : Nat) (nodes : List (List Byte)) (edges : List (Nat × Nat)) : List Byte :=
  leBytes 4 1 ++ leBytes 4 gid ++ leBytes 4 nodes.length ++ leBytes 4 edges.length ++ leBytes 8 4096 ++ zeros 40 ++
    nodes.flatMap (fun b => b ++ zeros (128 - b.length)) ++ edges.flatMap (fun e => leBytes 4 (e.1 + 4096 * e.2))
def entB (len : Nat) : List Byte := leBytes 4 1 ++ zeros 4 ++ leBytes 8 8192 ++ leBytes 4 len ++ zeros 44
def ctxw (s : State) (c : Nat) : State :=
  [(JCT_CTX_CFG c, JCT_CTX_CFG.EN, 1), (JCT_CTX_CFG c, JCT_CTX_CFG.FMT_VERSION, 1), (JCT_CTX_SQ_STATE c, JCT_CTX_SQ_STATE.TAIL, 3),
    (BOOT_GLOBAL_STATUS, BOOT_GLOBAL_STATUS.WEST_READY, 1), (BOOT_GLOBAL_STATUS, BOOT_GLOBAL_STATUS.PASSAGE_UP, 1)].foldl
    (fun s e => s.wf e.1 e.2.1 e.2.2) (domsOn s [127, 128, 131, 132])
/-- A state with one graph of context 1 whose nodes are given, with its edges. -/
def gw (ns : List Node) (es : List (Nat × Nat)) : State :=
  { ctxw live0 1 with graphs := [{ ctx := 1, gid := 0, header := zeros 64, nodes := ns, edges := es }] }
def nop (x : Node) : Node := { x with bytes := 7 :: zeros 127 }
def waitw (g : Graph) : State := (ctxw live0 1).setCtx 1 { waiting := some g, waitUs := 3 }
def vfs (s : State) (n : Nat) : State := { s with pcie := { s.pcie with vfEnable := true, numVfs := n } }
def idle0 : State := { vfs live0 3 with pcie := { (vfs live0 3).pcie with priEn := true } }
def quiet0 : State := { live0 with west := { nv := NvHalf.shipped .west }, east := { nv := NvHalf.shipped .east } }
def heldw : State := { State.reset with stage := .held }
/-- A request of a code with a payload, and a state whose mailbox holds it. -/
def msg0 (code : Nat) (b : List Byte) : List Byte := leBytes 4 (1 + code * 256 + b.length * 65536) ++ leBytes 4 0xBEEF ++ b
def mbx (s : State) (m : List Byte) : State :=
  (s.wrWords (SEC_MBOX_REQ 0) ((List.range (ceilDiv m.length 4)).map (fun i => u32 m (4 * i)))).wf SEC_MBOX_CTRL SEC_MBOX_CTRL.BUSY 1
/-- A device with the role, the EPOCH and the master given. -/
def roleW (r e m : Nat) : State :=
  ((live0.wf CSW_MASTER_STATUS CSW_MASTER_STATUS.ROLE r).wf CSW_MASTER_STATUS CSW_MASTER_STATUS.EPOCH e).wf CSW_MASTER_STATUS CSW_MASTER_STATUS.MASTER m

theorem witness_DomainsHeldDisabledAndOff :
    (∃ (s : State) (d v : Nat), s.live = true ∧ d < 144 ∧ v % 2 = 1 ∧ s.dom d = 0) ∧
    (∃ (s : State) (d v : Nat), s.live = true ∧ d < 144 ∧ v % 2 = 0) ∧
    (∃ (s : State) (d v : Nat), s.live = true ∧ d < 144 ∧ v % 2 = 0 ∧ s.keepOn d = false ∧ s.dom d ≠ 1 ∧ (domClass d = 0 ∨ domClass d = 1
    ∨ domClass d = 7 ∨ domClass d = 5 ∧ s.portEn (d - 110) = false)) ∧
    (∃ (s : State) (d v : Nat), s.live = true ∧ d < 144 ∧ (v % 2 = 1 ∨ s.keepOn d = true ∨ ¬(domClass d = 0 ∨ domClass d = 1 ∨ domClass d
    = 7 ∨ domClass d = 5))) ∧
    (∃ (s : State) (d : Nat), s.live = true ∧ d < 144 ∧ d ≠ 132 ∧ viaPassage d = false ∧ s.maySleep d = true) ∧
    (∃ (s : State) (d : Nat), s.live = true ∧ d < 144 ∧ viaPassage d = true ∧ s.maySleep d = true ∧ s.powerPending (· == d) = false) ∧
    (∃ (s : State) (d fails : Nat) (q : List PassMsg), s.live = true ∧ d < 144 ∧ s.east.control = PassMsg.power d false :: q ∧ s.east.turn
    .control = true ∧ s.passOn = true ∧ fails < 4 ∧ s.maySleep d = true) ∧
    (∃ (s : State), s.live = true ∧ s.maySleep 132 = true ∧ s.east.control.any (fun m => match m with | .power _ _ => true | _ => false) =
    false) ∧
    (∃ (s : State) (d : Nat), s.live = true ∧ d < 144 ∧ s.dom d = 4 ∧ s.power.restarting = false ∧ s.power.wakeLater.contains d = false) ∧
    (∃ (s : State) (d : Nat), s.live = true ∧ d < 144 ∧ s.dom d = 4 ∧ s.power.restarting = false ∧ s.power.wakeLater.contains d = true ∧
    s.on (PWR_DOMAIN_CTRL d) PWR_DOMAIN_CTRL.DISABLE = false) :=
  ⟨⟨live0, 143, 1, by decide +kernel⟩,
    ⟨live0, 143, 2, by decide +kernel⟩,
    ⟨live0, 63, 2, by decide +kernel⟩,
    ⟨live0, 0, 1, by decide +kernel⟩,
    ⟨domsOn live0 [3], 3, by decide +kernel⟩,
    ⟨domsOn live0 [35], 35, by decide +kernel⟩,
    ⟨{ (domsOn (ctxw live0 1) [35]) with east := { live0.east with control := [.power 35 false] } }, 35, 3, [], by decide +kernel⟩,
    ⟨domsOn live0 [132], by decide +kernel⟩,
    ⟨live0.wf (PWR_DOMAIN_STATUS 5) PWR_DOMAIN_STATUS.STATE 4, 5, by decide +kernel⟩,
    ⟨{ live0.wf (PWR_DOMAIN_STATUS 143) PWR_DOMAIN_STATUS.STATE 4 with power := { wakeLater := [143] } }, 143, by decide +kernel⟩⟩

theorem witness_WakesAndPlls :
    (∃ (s : State) (d : Nat) (q : List Nat), s.live = true ∧ s.power.wakeQ = d :: q ∧ d < 144 ∧ s.power.restarting = false ∧
    s.recentWakes.length < 8) ∧
    (∃ (s : State) (d : Nat) (q : List Nat), s.live = true ∧ s.power.wakeQ = d :: q ∧ d < 144 ∧ s.power.restarting = false ∧
    s.recentWakes.length < 8 ∧ (∀ e ∈ servers d, s.dom e ≠ 0 ∧ s.dom e ≠ 4)) ∧
    (∃ (s : State) (d : Nat) (bad : Bool), s.live = true ∧ d < 144 ∧ s.dom d = 2 ∧ (∀ b < 13, pllOf d = some b → s.pllLocked (domHalf d) b
    = true) ∧ (servers d).all s.domOn = true ∧ s.cmdTravels d = false ∧ s.power.restarting = false) ∧
    (∃ (s : State) (d : Nat) (bad : Bool), s.live = true ∧ d < 144 ∧ domClass d ≠ 0 ∧ domClass d ≠ 5 ∧ s.dom d = 2 ∧ (∀ b < 13, pllOf d =
    some b → s.pllLocked (domHalf d) b = true) ∧ (servers d).all s.domOn = true ∧ s.cmdTravels d = false ∧ s.power.restarting = false) ∧
    (∃ (s : State) (q : List WakeLink), s.live = true ∧ s.power.wakeLink = WakeLink.mk true false :: q) ∧
    (∃ (s : State) (q : List WakeLink) (w : Bool), s.live = true ∧ s.power.wakeLink = WakeLink.mk w true :: q) ∧
    (∃ (s : State) (h : Half) (b : Nat) (c : OpChange), s.live = true ∧ b = s.idleMain h ∧ s.power.starting.contains (h, b) = true ∧
    s.power.change h = some c ∧ c.switched = false ∧ c.target < s.op h ∧ c.target < 16 ∧ s.power.restarting = false) ∧
    (∃ (s : State) (h : Half) (b : Nat), s.live = true ∧ b < 13 ∧ s.power.starting.contains (h, b) = true ∧ (∀ c, s.power.change h = some
    c → c.switched = true ∨ s.op h ≤ c.target ∨ s.power.restarting = true)) :=
  ⟨⟨{ live0 with power := { wakeQ := [0, 5] } }, 0, [5], by decide +kernel⟩,
    ⟨{ domsOn live0 [141] with power := { wakeQ := [0, 5] } }, 0, [5], by decide +kernel⟩,
    ⟨live0.wf (PWR_DOMAIN_STATUS 143) PWR_DOMAIN_STATUS.STATE 2, 143, false, by decide +kernel⟩,
    ⟨live0.wf (PWR_DOMAIN_STATUS 143) PWR_DOMAIN_STATUS.STATE 2, 143, false, by decide +kernel⟩,
    ⟨{ live0 with power := { wakeLink := [{ wake := true, ack := false }] } }, [], by decide +kernel⟩,
    ⟨{ live0 with power := { wakeLink := [{ wake := true, ack := true }] } }, [], true, by decide +kernel⟩,
    ⟨(State.setOp { live0 with power := { starting := [(.east, 1)], changeE := some { target := 2 } } } .east 3), .east, 1,
    { target := 2 }, by decide +kernel⟩,
    ⟨{ live0 with power := { starting := [(.east, 12)] } }, .east, 12, by decide +kernel⟩⟩

theorem witness_CapAndPowerLoops :
    (∃ (s : State) (v : Nat), s.live = true ∧ 150 ≤ v % 1024 ∧ v % 1024 ≤ 550) ∧
    (∃ (s : State) (v : Nat), s.live = true ∧ (v % 1024 < 150 ∨ 550 < v % 1024)) ∧
    (∃ (s : State), s.live = true) ∧
    (∃ (s : State) (m e : Nat) (x : Int), s.live = true ∧ s.power.restarting = false) ∧
    (∃ (s : State) (m e : Nat) (x : Int), s.live = true ∧ s.power.restarting = true) ∧
    (∃ (s : State) (h : Half) (c : OpChange), s.live = true ∧ s.power.restarting = false ∧ s.power.change h = some c ∧ c.switched = false
    ∧ s.pllLocked h (s.idleMain h) = true ∧ s.op h ≤ c.target ∧ c.target < 16 ∧ s.opChosen h = c.target) ∧
    (∃ (s : State) (h : Half) (c : OpChange), s.live = true ∧ s.power.restarting = false ∧ s.power.change h = some c ∧ c.switched = false
    ∧ s.pllLocked h (s.idleMain h) = true ∧ c.target < s.op h ∧ c.target < 16) ∧
    (∃ (s : State) (h : Half) (c : OpChange), s.live = true ∧ s.power.restarting = false ∧ s.power.change h = some c ∧ c.switched = true ∧
    s.opChosen h = s.op h) ∧
    (∃ (s : State), s.live = true ∧ s.gateShare < 1000 ∧ s.gateShare / 100 ≤ s.west.us % 10) ∧
    (∃ (s : State), s.live = true ∧ s.west.us % 10 = 0) :=
  ⟨⟨live0, 150, by decide +kernel⟩,
    ⟨live0, 149, by decide +kernel⟩,
    ⟨live0, by decide +kernel⟩,
    ⟨live0, 100, 200, 1700, by decide +kernel⟩,
    ⟨{ live0 with power := { restarting := true } }, 1, 2, 3, by decide +kernel⟩,
    ⟨State.wf { live0 with power := { changeE := some { target := 2 }, capCeil := 2 } } (CLK_PLL_STATUS .east) { lo := 1, len := 1 } 1
    |>.wf (PWR_PHASE_OP 3) PWR_PHASE_OP.OP 2 |>.wf PWR_LIMIT_CFG PWR_LIMIT_CFG.OP_MAX 2, .east, { target := 2 }, by decide +kernel⟩,
    ⟨(State.setOp { live0 with power := { changeW := some { target := 2 } } } .west 3).wf (CLK_PLL_STATUS .west) { lo := 1, len := 1 } 1,
    .west, { target := 2 }, by decide +kernel⟩,
    ⟨{ live0 with power := { changeW := some { target := 0, switched := true } } }, .west, { target := 0, switched := true },
    by decide +kernel⟩,
    ⟨{ live0 with power := { thShare := 950 }, west := { live0.west with us := 19 } }, by decide +kernel⟩,
    ⟨live0, by decide +kernel⟩⟩

theorem witness_PortTrainingEnds :
    (∃ (s : State) (p w : Nat) (x : TrainResult) (ls : List Nat), s.live = true ∧ p < 8 ∧ s.portState p = 1 ∧ s.domOn (portDom p) = true ∧
    s.on (portCfg p) CSW_PORT_CFG.RATE_112_EN = false ∧ s.on (portCfg p) CSW_PORT_CFG.EXPECT_EN = false ∧ x.peerNode ≠ s.rf (CSW_NODE
    (portHalf p)) CSW_NODE.NODE ∧ widthFrom (s.lanesOk p x.lanes56 x.peer56) (s.minWidth p) = some (w, ls)) ∧
    (∃ (s : State) (p : Nat) (x : TrainResult), s.live = true ∧ p < 8 ∧ (s.portState p = 1 ∨ s.portState p = 3) ∧ s.domOn (portDom p) =
    true ∧ widthFrom (s.lanesOk p x.lanes112 x.peer112) (s.minWidth p) = none ∧ widthFrom (s.lanesOk p x.lanes56 x.peer56) (s.minWidth p)
    = none) ∧
    (∃ (s : State) (p : Nat) (w : Nat × List Nat) (x : TrainResult), s.live = true ∧ p < 8 ∧ s.portState p = 1 ∧ s.domOn (portDom p) =
    true ∧ s.on (portCfg p) CSW_PORT_CFG.EXPECT_EN = true ∧ x.peerNode ≠ s.rf (portCfg p) CSW_PORT_CFG.EXPECT_NODE ∧ widthFrom (s.lanesOk
    p x.lanes56 x.peer56) (s.minWidth p) = some w) ∧
    (∃ (s : State) (p w : Nat) (x : TrainResult) (ls : List Nat), s.live = true ∧ p < 8 ∧ (s.portState p = 1 ∨ s.portState p = 3) ∧
    s.domOn (portDom p) = true ∧ (s.on (portCfg p) CSW_PORT_CFG.EXPECT_EN = false ∨ x.peerNode = s.rf (portCfg p) CSW_PORT_CFG.EXPECT_NODE
    ∧ x.peerPort = s.rf (portCfg p) CSW_PORT_CFG.EXPECT_PORT) ∧ x.peerNode ≠ s.rf (CSW_NODE (portHalf p)) CSW_NODE.NODE ∧ s.verMax p = 2 ∧
    x.peerVer2 = true ∧ s.on (portCfg p) CSW_PORT_CFG.RATE_112_EN = true ∧ x.peerRate112 = true ∧ widthFrom (s.lanesOk p x.lanes112
    x.peer112) (s.minWidth p) = some (w, ls)) ∧
    (∃ (s : State) (p w : Nat) (x : TrainResult) (ls : List Nat), s.live = true ∧ p < 8 ∧ (s.portState p = 1 ∨ s.portState p = 3) ∧
    s.domOn (portDom p) = true ∧ (s.on (portCfg p) CSW_PORT_CFG.EXPECT_EN = false ∨ x.peerNode = s.rf (portCfg p) CSW_PORT_CFG.EXPECT_NODE
    ∧ x.peerPort = s.rf (portCfg p) CSW_PORT_CFG.EXPECT_PORT) ∧ x.peerNode ≠ s.rf (CSW_NODE (portHalf p)) CSW_NODE.NODE ∧ (s.verMax p = 1
    ∨ x.peerVer2 = false ∨ s.on (portCfg p) CSW_PORT_CFG.RATE_112_EN = false ∨ x.peerRate112 = false ∨ widthFrom (s.lanesOk p x.lanes112
    x.peer112) (s.minWidth p) = none) ∧ widthFrom (s.lanesOk p x.lanes56 x.peer56) (s.minWidth p) = some (w, ls)) :=
  ⟨⟨domsOn (live0.setPortState 4 1) [114], 4, 2, ⟨true, true, 9, 3, [], [0, 1, 2, 3], [0, 1], [0, 1, 2, 3]⟩, [0, 1, 2, 3],
    by decide +kernel⟩,
    ⟨domsOn (live0.setPortState 7 1) [117], 7, ⟨true, true, 9, 3, [], [1], [], [2]⟩, by decide +kernel⟩,
    ⟨domsOn ((live0.setPortState 3 1).wf (portCfg 3) CSW_PORT_CFG.EXPECT_EN 1) [113], 3, (2, [0, 1, 2, 3]), ⟨false, false, 1, 7, [], [0,
    1, 2, 3], [], [3, 2, 1, 0]⟩, by decide +kernel⟩,
    ⟨(domsOn (live0.setPortState 4 1) [114]).wf (portCfg 4) CSW_PORT_CFG.RATE_112_EN 1, 4, 2, ⟨true, true, 9, 3, [0, 1, 2, 3], [], [0, 1,
    2, 3], []⟩, [0, 1, 2, 3], by decide +kernel⟩,
    ⟨((domsOn (live0.setPortState 4 3) [114]).wf (portCfg 4) CSW_PORT_CFG.RATE_112_EN 1).setPort 4 { replay := [{ flit := zeros 256 }] },
    4, 1, ⟨true, true, 9, 3, [0], [0, 1], [1], [0, 1, 2, 3]⟩, [0, 1], by decide +kernel⟩⟩

theorem witness_PortStateCommands :
    (∃ (s : State) (p v : Nat), s.live = true ∧ p < 8 ∧ v % 2 = 0) ∧
    (∃ (s : State) (p v : Nat), s.live = true ∧ p < 8 ∧ v % 2 = 1 ∧ s.portEn p = false ∧ s.on (PWR_DOMAIN_CTRL (portDom p))
    PWR_DOMAIN_CTRL.DISABLE = false) ∧
    (∃ (s : State) (p : Nat), s.live = true ∧ p < 8 ∧ s.portEn p = true ∧ s.portState p = 2) ∧
    (∃ (s : State) (p l : Nat), s.live = true ∧ p < 8 ∧ s.portState p = 2 ∧ bit (s.rf (portStatus p) CSW_PORT_STATUS.LANES) l = true) ∧
    (∃ (s : State) (p : Nat), s.live = true ∧ p < 8 ∧ (s.portState p = 4 ∨ s.portState p = 5) ∧ s.portEn p = true) :=
  ⟨⟨live0.setPortState 7 2, 7, 6, by decide +kernel⟩,
    ⟨live0, 0, 3, by decide +kernel⟩,
    ⟨(live0.setPortState 5 2).wf (portCfg 5) CSW_PORT_CFG.EN 1, 5, by decide +kernel⟩,
    ⟨(live0.setPortState 2 2).wf (portStatus 2) CSW_PORT_STATUS.LANES 8, 2, 3, by decide +kernel⟩,
    ⟨(live0.setPortState 2 4).wf (portCfg 2) CSW_PORT_CFG.EN 1, 2, by decide +kernel⟩⟩

theorem witness_FlitsReceivedAndRouted :
    (∃ (s : State) (p : Nat) (b : List Byte) (cs : List Nat), s.live = true ∧ p < 8 ∧ s.portState p = 2 ∧ fStomped b = true ∧ (s.port
    p).wait = []) ∧
    (∃ (s : State) (p : Nat) (b : List Byte) (cs : List Nat), s.live = true ∧ p < 8 ∧ s.portState p = 2 ∧ fStomped b = false ∧ (s.port
    p).wait = [] ∧ (fSound b = false ∨ fVer b ≠ s.rf (portStatus p) CSW_PORT_STATUS.VER)) ∧
    (∃ (s : State) (p : Nat) (b : List Byte) (cs : List Nat), s.live = true ∧ p < 8 ∧ s.portState p = 2 ∧ fStomped b = false ∧ fSound b =
    true ∧ fVer b = s.rf (portStatus p) CSW_PORT_STATUS.VER ∧ fType b ≠ 0 ∧ fType b ≠ 4 ∧ fLnak b = false ∧ (s.port p).replay = [] ∧
    (s.port p).wait = [] ∧ fLseq b = (s.port p).rxSeq ∧ fAge b < 100000 ∧ s.on (CSW_ROUTE (portHalf p) (fDestNode b)) CSW_ROUTE.LOCAL =
    true ∧ fDestHalf b = portHalf p) ∧
    (∃ (s : State) (h : Half) (i v : Nat), s.live = true ∧ i < 16384) ∧
    (∃ (s : State) (p : Nat) (b : List Byte) (cs : List Nat), s.live = true ∧ p < 8 ∧ s.portState p = 2 ∧ fStomped b = false ∧ fSound b =
    true ∧ fVer b = s.rf (portStatus p) CSW_PORT_STATUS.VER ∧ fType b ≠ 0 ∧ fLseq b = (s.port p).rxSeq) ∧
    (∃ (s : State) (p q dl : Nat) (b : List Byte), s.live = true ∧ p < 8 ∧ q < 8 ∧ p ≠ q ∧ portHalf q = portHalf p ∧ s.portState p = 2 ∧
    s.portState q = 2 ∧ (s.port p).wait = [] ∧ (s.port q).wait = [] ∧ (s.port p).replay = [] ∧ (s.port q).replay.length < 128 ∧ fStomped b
    = false ∧ fSound b = true ∧ fVer b = s.rf (portStatus p) CSW_PORT_STATUS.VER ∧ fType b ≠ 0 ∧ fLnak b = false ∧ fLseq b = (s.port
    p).rxSeq ∧ fAge b < 100000 ∧ s.route (portHalf p) (fDestNode b) = .port q dl ∧ dl ≤ 1 ∧ (s.port q).credit
    { flit := if dl = 1 then fWithDl b 1 else b } = true) ∧
    (∃ (s : State) (p : Nat) (b : List Byte) (cs : List Nat), s.live = true ∧ p < 8 ∧ s.portState p = 2 ∧ fStomped b = false ∧ fSound b =
    true ∧ fVer b = s.rf (portStatus p) CSW_PORT_STATUS.VER ∧ fType b ≠ 0 ∧ fLseq b ≠ (s.port p).rxSeq) ∧
    (∃ (s : State) (p : Nat) (b : List Byte) (cs : List Nat), s.live = true ∧ p < 8 ∧ s.portState p = 2 ∧ fStomped b = false ∧ fSound b =
    true ∧ fVer b = s.rf (portStatus p) CSW_PORT_STATUS.VER ∧ fType b = 0) ∧
    (∃ (s : State) (p : Nat) (b : List Byte) (cs : List Nat), s.live = true ∧ p < 8 ∧ s.portState p = 2 ∧ fStomped b = true) ∧
    (∃ (s : State) (p : Nat) (b : List Byte) (cs : List Nat), s.live = true ∧ p < 8 ∧ s.portState p = 2 ∧ fStomped b = false ∧ (fSound b =
    false ∨ fVer b ≠ s.rf (portStatus p) CSW_PORT_STATUS.VER)) :=
  ⟨⟨(live0.setPortState 0 2).setPort 0 { used := [3, 0, 0, 0, 0, 1] }, 0, fStomp (mkFlit 0 1 5 0 9 0 1 2 0 0 [1, 2]), [2, 0, 0, 0, 0, 1],
    by decide +kernel⟩,
    ⟨live0.setPortState 7 2, 7, zeros 256, [], by decide +kernel⟩,
    ⟨((live0.setPortState 1 2).wf (portStatus 1) CSW_PORT_STATUS.VER 2).wf (CSW_ROUTE .west 5) CSW_ROUTE.LOCAL 1, 1, fSeal (setWord
    (mkFlit 0 1 5 0 9 0 1 2 0 0 [1, 2]) 0 34), [], by decide +kernel⟩,
    ⟨live0, .east, 16383, 4095, by decide +kernel⟩,
    ⟨((((live0.setPortState 1 2).setPortState 3 2).wf (portStatus 1) CSW_PORT_STATUS.VER 2).wf (CSW_ROUTE .west 5) CSW_ROUTE.PRIMARY 3).wf
    (CSW_ROUTE .west 5) CSW_ROUTE.P_VALID 1, 1, fSeal (setWord (mkFlit 0 1 5 0 9 0 1 2 0 0 [1, 2]) 0 34), [1], by decide +kernel⟩,
    ⟨((((live0.setPortState 1 2).setPortState 3 2).wf (portStatus 1) CSW_PORT_STATUS.VER 2).wf (CSW_ROUTE .west 5) CSW_ROUTE.PRIMARY 3).wf
    (CSW_ROUTE .west 5) CSW_ROUTE.P_VALID 1, 1, 3, 0, fSeal (setWord (mkFlit 0 1 5 0 9 0 1 2 0 0 [1, 2]) 0 34), by decide +kernel⟩,
    ⟨(((((live0.setPortState 1 2).setPortState 3 2).wf (portStatus 1) CSW_PORT_STATUS.VER 2).wf (CSW_ROUTE .west 5) CSW_ROUTE.PRIMARY
    3).wf (CSW_ROUTE .west 5) CSW_ROUTE.P_VALID 1).setPort 1 { rxSeq := 7 }, 1, fSeal (setWord (mkFlit 0 1 5 0 9 0 1 2 0 0 [1, 2]) 0 34),
    [1], by decide +kernel⟩,
    ⟨((((live0.setPortState 1 2).setPortState 3 2).wf (portStatus 1) CSW_PORT_STATUS.VER 2).wf (CSW_ROUTE .west 5) CSW_ROUTE.PRIMARY 3).wf
    (CSW_ROUTE .west 5) CSW_ROUTE.P_VALID 1, 1, fSeal (setWord (zeros 256) 0 2), [1], by decide +kernel⟩,
    ⟨((((live0.setPortState 1 2).setPortState 3 2).wf (portStatus 1) CSW_PORT_STATUS.VER 2).wf (CSW_ROUTE .west 5) CSW_ROUTE.PRIMARY 3).wf
    (CSW_ROUTE .west 5) CSW_ROUTE.P_VALID 1, 1, fStomp (mkFlit 0 1 5 0 9 0 1 2 0 0 [1, 2]), [1], by decide +kernel⟩,
    ⟨((((live0.setPortState 1 2).setPortState 3 2).wf (portStatus 1) CSW_PORT_STATUS.VER 2).wf (CSW_ROUTE .west 5) CSW_ROUTE.PRIMARY 3).wf
    (CSW_ROUTE .west 5) CSW_ROUTE.P_VALID 1, 1, zeros 256, [1], by decide +kernel⟩⟩

theorem witness_LogHeads :
    (∃ (s : State) (h : Half) (v : Nat), s.live = true ∧ unread (v % 2048) (s.rf (ERR_HOST_HEAD h) ERR_HOST_HEAD.HEAD) ≤ unread (s.rf
    (ERR_TAIL h) ERR_TAIL.TAIL) (s.rf (ERR_HOST_HEAD h) ERR_HOST_HEAD.HEAD)) ∧
    (∃ (s : State) (h : Half) (v : Nat), s.live = true ∧ unread (s.rf (ERR_TAIL h) ERR_TAIL.TAIL) (s.rf (ERR_HOST_HEAD h)
    ERR_HOST_HEAD.HEAD) < unread (v % 2048) (s.rf (ERR_HOST_HEAD h) ERR_HOST_HEAD.HEAD)) ∧
    (∃ (s : State) (h : Half), s.live = true ∧ s.mgmtMayPass h = true) :=
  ⟨⟨live0.wf (ERR_TAIL .east) ERR_TAIL.TAIL 5, .east, 5, by decide +kernel⟩,
    ⟨live0.wf (ERR_TAIL .east) ERR_TAIL.TAIL 5, .east, 6, by decide +kernel⟩,
    ⟨{ (live0.wf (ERR_TAIL .west) ERR_TAIL.TAIL 5) with west := { us := 1000 } }, .west, by decide +kernel⟩⟩

theorem witness_PassageTransfers :
    (∃ (s : State) (h : Half) (n : Option NodeRef) (e tier a fails : Nat) (bs : List Byte) (q : List PassMsg), s.live = true ∧ s.passOn =
    true ∧ fails < 4 ∧ (s.half h).turn .activation = true ∧ (tier = 1 ∨ tier = 2) ∧ (s.half h).activation = PassMsg.payload n e tier a bs
    :: q ∧ partWords (wordBytes tier) a bs.length = [] ∧ dscSrcKind (s.engine e).desc ≠ 6) ∧
    (∃ (s : State) (h : Half) (n : Option NodeRef) (e a fails : Nat) (bs : List Byte) (q : List PassMsg), s.live = true ∧ s.passOn = true
    ∧ fails < 4 ∧ (s.half h).turn .activation = true ∧ dscSrcKind (s.engine e).desc ≠ 6 ∧ (s.half h).activation = PassMsg.payload n e 2 a
    bs :: q ∧ 0 < bs.length ∧ a % 8 + bs.length < 8 ∧ a / 8 ∈ (s.half h).mem.badT2) ∧
    (∃ (s : State) (h : Half) (k : Token) (fails : Nat) (q : List PassMsg), s.live = true ∧ s.passOn = true ∧ 4 ≤ fails ∧ (s.half h).token
    = PassMsg.token k :: q ∧ (s.half h).turn .token = true) ∧
    (∃ (s : State) (h : Half) (k : PClass) (fails : Nat), s.live = true ∧ (s.passOn = false ∨ (s.half h).turn k = false)) ∧
    (∃ (s : State) (h : Half) (k : PClass) (fails : Nat) (m : PassMsg) (q : List PassMsg), s.live = true ∧ s.passOn = true ∧ (s.half
    h).turn k = true ∧ (s.half h).cls k = m :: q ∧ fails < 4) ∧
    (∃ (s : State) (h : Half) (k : PClass) (fails : Nat) (m : PassMsg) (q : List PassMsg), s.live = true ∧ s.passOn = true ∧ (s.half
    h).turn k = true ∧ (s.half h).cls k = m :: q ∧ 4 ≤ fails) ∧
    (∃ (s : State) (h : Half) (fails a tier i : Nat) (bs : List Byte) (q : List PassMsg), s.live = true ∧ s.passOn = true ∧ (s.half
    h).turn .move = true ∧ (s.half h).move = PassMsg.move i tier a bs :: q ∧ fails < 4 ∧ bs ≠ [] ∧ (tier = 1 ∨ tier = 2)) ∧
    (∃ (s : State) (h : Half) (fails f off : Nat) (bs : List Byte) (q : List PassMsg), s.live = true ∧ s.passOn = true ∧ (s.half h).turn
    .control = true ∧ (s.half h).control = PassMsg.answer f off bs :: q ∧ fails < 4) :=
  ⟨⟨{ (live0.wf BOOT_GLOBAL_STATUS BOOT_GLOBAL_STATUS.PASSAGE_UP 1) with east := { activation := [.payload none 3 1 100 [1, 0, 3, 4]] } },
    .east, none, 3, 1, 100, 3, [1, 0, 3, 4], [], by decide +kernel⟩,
    ⟨{ (live0.wf BOOT_GLOBAL_STATUS BOOT_GLOBAL_STATUS.PASSAGE_UP 1) with east := { activation := [.payload none 3 2 100 [1, 0, 3]], mem := { badT2 := [12] } } },
    .east, none, 3, 100, 3, [1, 0, 3], [], by decide +kernel⟩,
    ⟨{ (live0.wf BOOT_GLOBAL_STATUS BOOT_GLOBAL_STATUS.PASSAGE_UP 1) with east := { token := [.token ⟨1, 2, 3, 4, 5⟩] } }, .east, ⟨1, 2,
    3, 4, 5⟩, 4, [], by decide +kernel⟩,
    ⟨{ (live0.wf BOOT_GLOBAL_STATUS BOOT_GLOBAL_STATUS.PASSAGE_UP 1) with east := { token := [.token ⟨1, 2, 3, 4, 5⟩], move := [.move 1 1 0 []] } },
    .east, .move, 0, by decide +kernel⟩,
    ⟨{ ctxw live0 1 with east := { control := [.power 100 true] } }, .east, .control, 3, .power 100 true, [], by decide +kernel⟩,
    ⟨{ ctxw live0 1 with east := { control := [.power 100 true] } }, .east, .control, 4, .power 100 true, [], by decide +kernel⟩,
    ⟨{ ctxw live0 1 with east := { move := [.move 7 1 4096 (List.replicate 9 5#8)] } }, .east, 0, 4096, 1, 7, List.replicate 9 5#8, [],
    by decide +kernel⟩,
    ⟨{ ctxw live0 1 with west := { control := [.answer 0 64 [1, 2, 3, 4]] } }, .west, 0, 0, 64, [1, 2, 3, 4], [], by decide +kernel⟩⟩

theorem witness_AllocCommand :
    (∃ (s : State) (h : Half) (i g : Nat), s.live = true ∧ s.on (MEM_CMD_CTRL h) MEM_CMD_CTRL.BUSY = false ∧ blkOp (s.memCmdBlock h) = 1 ∧
    s.memCheck h (s.memCmdBlock h) = 0 ∧ s.freeEntry h = some i ∧ flagPin (blkFlags (s.memCmdBlock h)) = true ∧ blkInitZero (s.memCmdBlock
    h) = false ∧ s.tryTier h (blkCtx (s.memCmdBlock h)) 1 (blkSize (s.memCmdBlock h)) (if blkPlace (s.memCmdBlock h) then some (blkBase
    (s.memCmdBlock h)) else none) = .ok g) ∧
    (∃ (s : State) (h : Half), s.live = true ∧ s.on (MEM_CMD_CTRL h) MEM_CMD_CTRL.BUSY = false ∧ blkOp (s.memCmdBlock h) = 1 ∧ s.memCheck
    h (s.memCmdBlock h) ≠ 0) ∧
    (∃ (s : State) (h : Half) (i g : Nat), s.live = true ∧ s.on (MEM_CMD_CTRL h) MEM_CMD_CTRL.BUSY = false ∧ blkOp (s.memCmdBlock h) = 1 ∧
    s.memCheck h (s.memCmdBlock h) = 0 ∧ s.freeEntry h = some i ∧ flagEvictable (blkFlags (s.memCmdBlock h)) = false ∧ s.tryTier h (blkCtx
    (s.memCmdBlock h)) (if flagT2Only (blkFlags (s.memCmdBlock h)) then 2 else 1) (blkSize (s.memCmdBlock h)) (if blkPlace (s.memCmdBlock
    h) then some (blkBase (s.memCmdBlock h)) else none) = .ok g) :=
  ⟨⟨domsOn (withBlk (live0.wf (MEM_CTX_T1 .east 3) MEM_CTX_T1.LIMIT 100) .east [1 + 16 + 3 * 256 + 0x41 * 65536, 0, 8192]) [90], .east,
    0, 0, by decide +kernel⟩,
    ⟨withBlk live0 .west [1 + 16 + 0x41 * 65536, 0, 8192], .west, by decide +kernel⟩,
    ⟨domsOn (withBlk (live0.wf (MEM_CTX_T2_LIMIT .east 3) MEM_CTX_T2_LIMIT.LIMIT 100) .east [1 + 16 + 3 * 256 + 0x44 * 65536, 0, 8192])
    [90], .east, 0, 0, by decide +kernel⟩⟩

theorem witness_ObjectCommandsByRegisters :
    (∃ (s : State) (h : Half) (i : Nat), s.live = true ∧ s.on (MEM_CMD_CTRL h) MEM_CMD_CTRL.BUSY = false ∧ blkOp (s.memCmdBlock h) = 2 ∧
    s.memCheck h (s.memCmdBlock h) = 0 ∧ i = handleIdx (blkHandle (s.memCmdBlock h)) ∧ s.objState h i = 1 ∧ s.rf (MEM_HOME h i)
    MEM_HOME.USE_R = 0 ∧ s.rf (MEM_HOME h i) MEM_HOME.USE_W = 0 ∧ flagEvictable (s.rf (MEM_HOME h i) MEM_HOME.FLAGS) = false) ∧
    (∃ (s : State) (h : Half), s.live = true ∧ s.on (MEM_CMD_CTRL h) MEM_CMD_CTRL.BUSY = false ∧ blkOp (s.memCmdBlock h) = 2 ∧ s.memCheck
    h (s.memCmdBlock h) = 0 ∧ s.objState h (handleIdx (blkHandle (s.memCmdBlock h))) = 1 ∧ s.rf (MEM_HOME h (handleIdx (blkHandle
    (s.memCmdBlock h)))) MEM_HOME.USE_R ≠ 0) ∧
    (∃ (s : State) (h : Half) (i g tier : Nat), s.live = true ∧ s.on (MEM_CMD_CTRL h) MEM_CMD_CTRL.BUSY = false ∧ blkOp (s.memCmdBlock h)
    = 3 ∧ s.memCheck h (s.memCmdBlock h) = 0 ∧ i = handleIdx (blkHandle (s.memCmdBlock h)) ∧ s.objState h i = 1 ∧ flagMovable (s.rf
    (MEM_HOME h i) MEM_HOME.FLAGS) = true ∧ flagEvictable (s.rf (MEM_HOME h i) MEM_HOME.FLAGS) = false ∧ flagT2Only (s.rf (MEM_HOME h i)
    MEM_HOME.FLAGS) = false ∧ blkDestOther (s.memCmdBlock h) = false ∧ tier = (if blkDestT2 (s.memCmdBlock h) then 2 else 1) ∧ tier ≠ s.rf
    (MEM_HOME h i) MEM_HOME.TIER ∧ s.tryTier h (s.rf (MEM_HOME h i) MEM_HOME.CONTEXT) tier (s.objSize h i) (if blkPlace (s.memCmdBlock h)
    then some (blkBase (s.memCmdBlock h)) else none) = .ok g) ∧
    (∃ (s : State) (h : Half), s.live = true ∧ s.on (MEM_CMD_CTRL h) MEM_CMD_CTRL.BUSY = false ∧ blkOp (s.memCmdBlock h) = 4 ∧ s.memCheck
    h (s.memCmdBlock h) = 0) ∧
    (∃ (s : State) (h : Half) (i : Nat), s.live = true ∧ s.on (MEM_CMD_CTRL h) MEM_CMD_CTRL.BUSY = false ∧ blkOp (s.memCmdBlock h) = 2 ∧
    s.memCheck h (s.memCmdBlock h) = 0 ∧ i = handleIdx (blkHandle (s.memCmdBlock h)) ∧ s.objState h i = 1 ∧ s.rf (MEM_HOME h i)
    MEM_HOME.USE_R = 0 ∧ s.rf (MEM_HOME h i) MEM_HOME.USE_W = 0) ∧
    (∃ (s : State) (h : Half) (i : Nat), s.live = true ∧ s.on (MEM_CMD_CTRL h) MEM_CMD_CTRL.BUSY = false ∧ blkOp (s.memCmdBlock h) = 2 ∧
    s.memCheck h (s.memCmdBlock h) = 0 ∧ i = handleIdx (blkHandle (s.memCmdBlock h)) ∧ s.objState h i = 3) ∧
    (∃ (s : State) (h : Half) (i : Nat), s.live = true ∧ s.on (MEM_CMD_CTRL h) MEM_CMD_CTRL.BUSY = false ∧ blkOp (s.memCmdBlock h) = 3 ∧
    s.memCheck h (s.memCmdBlock h) = 0 ∧ i = handleIdx (blkHandle (s.memCmdBlock h)) ∧ s.objState h i = 3) ∧
    (∃ (s : State) (h : Half) (i : Nat), s.live = true ∧ s.on (MEM_CMD_CTRL h) MEM_CMD_CTRL.BUSY = false ∧ blkOp (s.memCmdBlock h) = 3 ∧
    s.memCheck h (s.memCmdBlock h) = 0 ∧ i = handleIdx (blkHandle (s.memCmdBlock h)) ∧ s.objState h i = 1 ∧ flagMovable (s.rf (MEM_HOME h
    i) MEM_HOME.FLAGS) = true ∧ flagEvictable (s.rf (MEM_HOME h i) MEM_HOME.FLAGS) = true ∧ flagT2Only (s.rf (MEM_HOME h i)
    MEM_HOME.FLAGS) = false ∧ blkDestOther (s.memCmdBlock h) = false ∧ blkDestT2 (s.memCmdBlock h) = true ∧ s.rf (MEM_HOME h i)
    MEM_HOME.TIER = 1) :=
  ⟨⟨withBlk (withObj live0 .east 7 2 5 65536 3 0x4C) .east [1 + 16 * 2 + 3 * 256 + 0, 7 + 2 ^ 15 + 2 ^ 16], .east, 7, by decide +kernel⟩,
    ⟨(withBlk (withObj live0 .east 7 2 5 65536 3 0x4C) .east [1 + 16 * 2 + 3 * 256 + 0, 7 + 2 ^ 15 + 2 ^ 16]).home .east 7 MEM_HOME.USE_R
    1, .east, by decide +kernel⟩,
    ⟨withBlk ((withObj live0 .east 7 2 5 65536 3 0x4A).wf (MEM_CTX_T1 .east 3) MEM_CTX_T1.LIMIT 16) .east [1 + 48 + 3 * 256, 7 + 2 ^ 15 +
    2 ^ 16], .east, 7, 0, 1, by decide +kernel⟩,
    ⟨withBlk (withObj live0 .east 7 2 5 65536 3 0x4C) .east [1 + 16 * 4 + 3 * 256 + 0, 7 + 2 ^ 15 + 2 ^ 16], .east, by decide +kernel⟩,
    ⟨withBlk (withObj live0 .east 7 1 5 65536 3 0x5A) .east [1 + 16 * 2 + 3 * 256, 7 + 2 ^ 15 + 2 ^ 16], .east, 7, by decide +kernel⟩,
    ⟨withBlk ((withObj live0 .east 7 1 5 65536 3 0x5A).home .east 7 MEM_HOME.STATE 3) .east [1 + 16 * 2 + 3 * 256, 7 + 2 ^ 15 + 2 ^ 16],
    .east, 7, by decide +kernel⟩,
    ⟨withBlk ((withObj live0 .east 7 1 5 65536 3 0x5A).home .east 7 MEM_HOME.STATE 3) .east [1 + 16 * 3 + 3 * 256, 7 + 2 ^ 15 + 2 ^ 16],
    .east, 7, by decide +kernel⟩,
    ⟨withBlk (withObj live0 .east 7 1 5 65536 3 0x5A) .east [1 + 16 * 3 + 3 * 256 + 1024 * 65536, 7 + 2 ^ 15 + 2 ^ 16], .east, 7,
    by decide +kernel⟩⟩

theorem witness_ObjectCommandsByNodes :
    (∃ (s : State) (h : Half) (r : NodeRef) (g : Graph) (n : Node), s.live = true ∧ s.node r = some (g, n) ∧ n.kind = 5 ∧ n.half = h ∧
    n.phase = .running ∧ blkOp (slice n.bytes 0x40 32) = 2 ∧ s.memTaken h (.node r) = false ∧ s.memCheck h (slice n.bytes 0x40 32) ≠ 0) ∧
    (∃ (s : State) (h : Half) (r : NodeRef) (g : Graph) (n : Node), s.live = true ∧ s.node r = some (g, n) ∧ n.kind = 5 ∧ n.half = h ∧
    n.phase = .running ∧ blkOp (slice n.bytes 0x40 32) = 3 ∧ s.memTaken h (.node r) = false ∧ s.memCheck h (slice n.bytes 0x40 32) ≠ 0) ∧
    (∃ (s : State) (h : Half) (r : NodeRef) (g : Graph) (n : Node), s.live = true ∧ s.node r = some (g, n) ∧ n.kind = 5 ∧ n.half = h ∧
    n.phase = .running ∧ blkOp (slice n.bytes 0x40 32) = 4 ∧ s.memTaken h (.node r) = false ∧ s.memCheck h (slice n.bytes 0x40 32) = 0) ∧
    (∃ (s : State) (h : Half) (r : NodeRef) (g : Graph) (n : Node) (i : Nat), s.live = true ∧ s.node r = some (g, n) ∧ n.kind = 5 ∧ n.half
    = h ∧ n.phase = .running ∧ blkOp (slice n.bytes 0x40 32) = 2 ∧ s.memTaken h (.node r) = false ∧ s.memCheck h (slice n.bytes 0x40 32) =
    0 ∧ i = handleIdx (blkHandle (slice n.bytes 0x40 32)) ∧ s.objState h i = 1 ∧ s.rf (MEM_HOME h i) MEM_HOME.USE_R = 0 ∧ s.rf (MEM_HOME h
    i) MEM_HOME.USE_W = 0) ∧
    (∃ (s : State) (h : Half) (r : NodeRef) (g : Graph) (n : Node) (i : Nat), s.live = true ∧ s.node r = some (g, n) ∧ n.kind = 5 ∧ n.half
    = h ∧ n.phase = .running ∧ blkOp (slice n.bytes 0x40 32) = 3 ∧ s.memTaken h (.node r) = false ∧ s.memCheck h (slice n.bytes 0x40 32) =
    0 ∧ i = handleIdx (blkHandle (slice n.bytes 0x40 32)) ∧ s.objState h i = 1 ∧ flagMovable (s.rf (MEM_HOME h i) MEM_HOME.FLAGS) = true ∧
    flagT2Only (s.rf (MEM_HOME h i) MEM_HOME.FLAGS) = false ∧ blkDestOther (slice n.bytes 0x40 32) = false ∧ blkDestT2 (slice n.bytes 0x40
    32) = true ∧ flagEvictable (s.rf (MEM_HOME h i) MEM_HOME.FLAGS) = true) :=
  ⟨⟨withNode live0 (leBytes 4 (5 + 16) ++ zeros 60 ++ leBytes 4 (1 + 16 * 2 + 3 * 256) ++ leBytes 4 (7 + 2 ^ 15 + 2 ^ 16)) .running,
    .east, n0, (withNode live0 (leBytes 4 (5 + 16) ++ zeros 60 ++ leBytes 4 (1 + 16 * 2 + 3 * 256) ++ leBytes 4 (7 + 2 ^ 15 + 2 ^ 16))
    .running).graphs.headD { ctx := 0, gid := 0 }, ((withNode live0 (leBytes 4 (5 + 16) ++ zeros 60 ++ leBytes 4 (1 + 16 * 2 + 3 * 256) ++
    leBytes 4 (7 + 2 ^ 15 + 2 ^ 16)) .running).graphs.headD { ctx := 0, gid := 0 }).nodes.headD {}, by decide +kernel⟩,
    ⟨withNode live0 (leBytes 4 (5 + 16) ++ zeros 60 ++ leBytes 4 (1 + 16 * 3 + 3 * 256) ++ leBytes 4 (7 + 2 ^ 15 + 2 ^ 16)) .running,
    .east, n0, (withNode live0 (leBytes 4 (5 + 16) ++ zeros 60 ++ leBytes 4 (1 + 16 * 3 + 3 * 256) ++ leBytes 4 (7 + 2 ^ 15 + 2 ^ 16))
    .running).graphs.headD { ctx := 0, gid := 0 }, ((withNode live0 (leBytes 4 (5 + 16) ++ zeros 60 ++ leBytes 4 (1 + 16 * 3 + 3 * 256) ++
    leBytes 4 (7 + 2 ^ 15 + 2 ^ 16)) .running).graphs.headD { ctx := 0, gid := 0 }).nodes.headD {}, by decide +kernel⟩,
    ⟨withNode (withObj live0 .east 7 2 5 65536 3 0x4C) (leBytes 4 (5 + 16) ++ zeros 60 ++ leBytes 4 (1 + 16 * 4 + 3 * 256) ++ leBytes 4 (7
    + 2 ^ 15 + 2 ^ 16)) .running, .east, n0, (withNode live0 (leBytes 4 (5 + 16) ++ zeros 60 ++ leBytes 4 (1 + 16 * 4 + 3 * 256) ++
    leBytes 4 (7 + 2 ^ 15 + 2 ^ 16)) .running).graphs.headD { ctx := 0, gid := 0 }, ((withNode live0 (leBytes 4 (5 + 16) ++ zeros 60 ++
    leBytes 4 (1 + 16 * 4 + 3 * 256) ++ leBytes 4 (7 + 2 ^ 15 + 2 ^ 16)) .running).graphs.headD { ctx := 0, gid := 0 }).nodes.headD {},
    by decide +kernel⟩,
    ⟨withNode (withObj live0 .east 7 2 5 65536 3 0x4C) (leBytes 4 (5 + 16) ++ zeros 60 ++ leBytes 4 (1 + 16 * 2 + 3 * 256) ++ leBytes 4 (7
    + 2 ^ 15 + 2 ^ 16)) .running, .east, n0, g0 (leBytes 4 (5 + 16) ++ zeros 60 ++ leBytes 4 (1 + 16 * 2 + 3 * 256) ++ leBytes 4 (7 + 2 ^
    15 + 2 ^ 16)) .running, nd0 (leBytes 4 (5 + 16) ++ zeros 60 ++ leBytes 4 (1 + 16 * 2 + 3 * 256) ++ leBytes 4 (7 + 2 ^ 15 + 2 ^ 16))
    .running, 7, by decide +kernel⟩,
    ⟨withNode (withObj live0 .east 7 1 5 65536 3 0x5A) ((leBytes 4 (5 + 16) ++ zeros 60 ++ leBytes 4 (1 + 16 * 3 + 3 * 256) ++ leBytes 4
    (7 + 2 ^ 15 + 2 ^ 16)).take 67 ++ [4] ++ (leBytes 4 (5 + 16) ++ zeros 60 ++ leBytes 4 (1 + 16 * 3 + 3 * 256) ++ leBytes 4 (7 + 2 ^ 15
    + 2 ^ 16)).drop 68) .running, .east, n0, g0 ((leBytes 4 (5 + 16) ++ zeros 60 ++ leBytes 4 (1 + 16 * 3 + 3 * 256) ++ leBytes 4 (7 + 2 ^
    15 + 2 ^ 16)).take 67 ++ [4] ++ (leBytes 4 (5 + 16) ++ zeros 60 ++ leBytes 4 (1 + 16 * 3 + 3 * 256) ++ leBytes 4 (7 + 2 ^ 15 + 2 ^
    16)).drop 68) .running, nd0 ((leBytes 4 (5 + 16) ++ zeros 60 ++ leBytes 4 (1 + 16 * 3 + 3 * 256) ++ leBytes 4 (7 + 2 ^ 15 + 2 ^
    16)).take 67 ++ [4] ++ (leBytes 4 (5 + 16) ++ zeros 60 ++ leBytes 4 (1 + 16 * 3 + 3 * 256) ++ leBytes 4 (7 + 2 ^ 15 + 2 ^ 16)).drop
    68) .running, 7, by decide +kernel⟩⟩

theorem witness_FillsWaitsMovesAndEvictions :
    (∃ (s : State) (h : Half) (f : Fill) (fs : List Fill), s.live = true ∧ (s.half h).mem.fills = f :: fs ∧ f.entry = none ∧ f.charged =
    true ∧ f.ctx < 256 ∧ f.tier = 2 ∧ f.pool = false ∧ (runDoms h f.tier f.base f.len).all s.domOn = true) ∧
    (∃ (s : State) (h : Half) (a : AllocReq) (q : List AllocReq) (b : Nat), s.live = true ∧ (s.half h).mem.allocWait = a :: q ∧ a.move =
    false ∧ a.other = none ∧ a.src = .regs ∧ a.ctx < 256 ∧ a.idx < 32768 ∧ s.quotaFits h a.ctx 1 true (granulesOf 1 a.size) = true ∧
    blkInitZero a.block = false ∧ (s.modMem h (fun m => { m with allocWait := q })).poolFit h (granulesOf 1 a.size) = some b) ∧
    (∃ (s : State) (h : Half) (k : Nat) (a : AllocReq), s.live = true ∧ (s.half h).mem.allocWait[k]? = some a ∧ a.move = false ∧ a.other =
    none ∧ a.src = .regs ∧ a.ctx < 256) ∧
    (∃ (s : State) (h : Half) (i : Nat) (c : Copy), s.live = true ∧ s.copyOf h i = some c ∧ c.evict = false ∧ c.started = false ∧ c.other
    = none ∧ s.rf (MEM_HOME h i) MEM_HOME.USE_W = 0 ∧ s.copyOn h i c = true) ∧
    (∃ (s : State) (h : Half) (i : Nat) (c : Copy), s.live = true ∧ i < 32768 ∧ s.copyOf h i = some c ∧ c.evict = false ∧ c.started = true
    ∧ c.failed = false ∧ c.other = none ∧ c.src = .regs ∧ (s.half h).mem.waiting = [] ∧ s.rf (MEM_HOME h i) MEM_HOME.TIER = 1 ∧ s.rf
    (MEM_HOME h i) MEM_HOME.DEST_TIER = 1 ∧ s.memBad h 1 (s.objAt h i).addr (s.objSize h i) = false) ∧
    (∃ (s : State) (h : Half) (i : Nat) (c : Copy) (chk : Scan), s.live = true ∧ i < 32768 ∧ s.copyOf h i = some c ∧ c.evict = false ∧
    c.started = true ∧ c.other = none ∧ c.src = .regs ∧ (s.half h).mem.waiting = [] ∧ ((s.copyScan h i chk).2 = true ∨ c.failed = true)) ∧
    (∃ (s : State) (h : Half) (i : Nat) (c : Copy), s.live = true ∧ i < 32768 ∧ s.copyOf h i = some c ∧ c.evict = true ∧ (s.half
    h).mem.waiting = [] ∧ s.rf (MEM_HOME h i) MEM_HOME.TIER = 1 ∧ s.copyOn h i c = true ∧ s.memBad h 1 (s.objAt h i).addr (s.objSize h i)
    = false) ∧
    (∃ (s : State) (h : Half) (i : Nat) (c : Copy) (chk : Scan), s.live = true ∧ i < 32768 ∧ s.copyOf h i = some c ∧ c.evict = true ∧
    (s.half h).mem.waiting = [] ∧ s.copyOn h i c = true ∧ (s.copyScan h i chk).2 = true) ∧
    (∃ (s : State) (h : Half) (f : Fill) (fs : List Fill), s.live = true ∧ (s.half h).mem.fills = f :: fs ∧ f.ctx < 256 ∧ (runDoms h
    f.tier f.base f.len).all s.domOn = true ∧ f.entry = none) ∧
    (∃ (s : State) (h : Half) (f : Fill) (fs : List Fill) (i : Nat) (a : AllocReq), s.live = true ∧ (s.half h).mem.fills = f :: fs ∧
    (runDoms h f.tier f.base f.len).all s.domOn = true ∧ f.entry = some i ∧ i < 32768 ∧ (s.half h).mem.allocs.find? (fun (a : AllocReq) =>
    a.idx == i) = some a) ∧
    (∃ (s : State) (h : Half) (a : AllocReq) (q : List AllocReq), s.live = true ∧ (s.half h).mem.allocWait = a :: q ∧ s.poolStands h a =
    true ∧ a.ctx < 256 ∧ a.idx < 32768 ∧ a.other.all (fun e => decide (e.2 < 32768)) = true ∧ ((s.modMem h (fun m =>
    { m with allocWait := q })).poolTry h a true).2 = true) ∧
    (∃ (s : State) (h : Half) (k : Nat) (a : AllocReq), s.live = true ∧ (s.half h).mem.allocWait[k]? = some a ∧ a.ctx < 256) ∧
    (∃ (s : State) (h : Half) (i : Nat) (c : Copy) (chk : Scan), s.live = true ∧ i < 32768 ∧ s.copyOf h i = some c ∧ c.evict = true ∧
    s.copyOn h i c = true ∧ (s.copyScan h i chk).2 = false) ∧
    (∃ (s : State) (h : Half) (i j : Nat) (c : Copy) (a : AllocReq), s.live = true ∧ s.copyOf h i = some c ∧ c.evict = false ∧ c.started =
    false ∧ s.rf (MEM_HOME h i) MEM_HOME.USE_W = 0 ∧ s.copyOn h i c = true ∧ c.other = some j ∧ (s.half h.other).mem.allocs.find? (fun (x
    : AllocReq) => x.idx == j) = some a) ∧
    (∃ (s : State) (h : Half) (i : Nat) (c : Copy) (chk : Scan), s.live = true ∧ i < 32768 ∧ s.copyOf h i = some c ∧ c.evict = false ∧
    c.started = true ∧ c.failed = false ∧ c.other = none ∧ (s.copyScan h i chk).2 = false) ∧
    (∃ (s : State) (h : Half) (i j : Nat) (c : Copy) (a : AllocReq) (chk : Scan), s.live = true ∧ i < 32768 ∧ j < 32768 ∧ s.copyOf h i =
    some c ∧ c.evict = false ∧ c.started = true ∧ c.failed = false ∧ c.other = some j ∧ (s.half h.other).move.any (fun m => m.moves i) =
    false ∧ (s.half h.other).mem.allocs.find? (fun (x : AllocReq) => x.idx == j) = some a ∧ (s.copyScan h i chk).2 = false) :=
  ⟨⟨{ (domsOn (live0.wf (MEM_CTX_T2_USED .west 255) MEM_CTX_T2_USED.USED 9) (memDoms .west)) with west := { mem := { t2 := [(65536, 7)], fills := [{ tier := 2, base := 1, len := 2, ctx := 255 }] } } },
    .west, { tier := 2, base := 1, len := 2, ctx := 255 }, [], by decide +kernel⟩,
    ⟨{ ((live0.wf (MEM_POOL_CTRL .west) MEM_POOL_CTRL.SIZE 16).wf (MEM_CTX_POOL .west 2) MEM_CTX_POOL.LIMIT 9) with west := { mem := { allocWait := [{ idx := 4, src := .regs, block := zeros 32, ctx := 2, flags := 0x3A, size := 4096, pool := true, backing := some 3 }] } } },
    .west, { idx := 4, src := .regs, block := zeros 32, ctx := 2, flags := 0x3A, size := 4096, pool := true, backing := some 3 }, [], 0,
    by decide +kernel⟩,
    ⟨{ live0 with west := { mem := { allocWait := [{ idx := 4, src := .regs, block := zeros 32, ctx := 2, flags := 0x3A, size := 4096, pool := true, backing := some 3 }] } } },
    .west, 0, { idx := 4, src := .regs, block := zeros 32, ctx := 2, flags := 0x3A, size := 4096, pool := true, backing := some 3 },
    by decide +kernel⟩,
    ⟨domsOn
    ({ (withObj live0 .east 7 1 3 4096 2 0x4A) with east := { mem := { t1 := [(12288, 9)], copies := [{ idx := 7, evict := false, src := .regs }] } } })
    (memDoms .east), .east, 7, { idx := 7, evict := false, src := .regs }, by decide +kernel⟩,
    ⟨({ (withObj live0 .east 7 1 3 4096 2 0x4A) with east := { mem := { t1 := [(12288, 9)], copies := [{ idx := 7, evict := false, src := .regs, started := true }] } } }
    : State).home .east 7 MEM_HOME.DEST_TIER 1, .east, 7, { idx := 7, evict := false, src := .regs, started := true }, by decide +kernel⟩,
    ⟨({ (withObj live0 .east 7 1 3 4096 2 0x4A) with east := { mem := { t1 := [(12288, 9)], copies := [{ idx := 7, evict := false, src := .regs, started := true }] } } }
    : State).home .east 7 MEM_HOME.DEST_TIER 1, .east, 7, { idx := 7, evict := false, src := .regs, started := true }, { bad := [5] },
    by decide +kernel⟩,
    ⟨domsOn
    ({ (withObj live0 .east 7 1 3 4096 2 0x5A) with east := { mem := { t1 := [(12288, 9)], copies := [{ idx := 7, evict := true, src := .regs }] } } })
    (memDoms .east), .east, 7, { idx := 7, evict := true, src := .regs }, by decide +kernel⟩,
    ⟨domsOn
    ({ (withObj live0 .east 7 1 3 4096 2 0x5A) with east := { mem := { t1 := [(12288, 9)], copies := [{ idx := 7, evict := true, src := .regs }] } } })
    (memDoms .east), .east, 7, { idx := 7, evict := true, src := .regs }, { bad := [70], replayed := 1 }, by decide +kernel⟩,
    ⟨{ (domsOn (live0.wf (MEM_CTX_POOL .west 255) MEM_CTX_POOL.USED 9) (memDoms .west)) with west := { mem := { t1 := [(4097, 7)], fills := [{ tier := 1, base := 1, len := 1, ctx := 255, pool := true }] } } },
    .west, { tier := 1, base := 1, len := 1, ctx := 255, pool := true }, [], by decide +kernel⟩,
    ⟨{ (domsOn live0 (memDoms .west)) with west := { mem := { t1 := [(4097, 7)], allocs := [{ idx := 7, src := MemSrc.regs, block := zeros 32, ctx := 2, flags := 0x21, size := 4096, tier := 1, base := 1 }], fills := [{ tier := 1, base := 1, len := 1, ctx := 255, charged := false, entry := some 7 }] } } },
    .west, { tier := 1, base := 1, len := 1, ctx := 255, charged := false, entry := some 7 }, [], 7,
    { idx := 7, src := MemSrc.regs, block := zeros 32, ctx := 2, flags := 0x21, size := 4096, tier := 1, base := 1 }, by decide +kernel⟩,
    ⟨{ live0 with west := { us := 9, mem := { allocWait := [{ idx := 4, src := .regs, block := zeros 32, ctx := 2, flags := 0x3A, size := 4096, pool := true, backing := some 3, startUs := 2 }] } } },
    .west,
    { idx := 4, src := .regs, block := zeros 32, ctx := 2, flags := 0x3A, size := 4096, pool := true, backing := some 3, startUs := 2 },
    [], by decide +kernel⟩,
    ⟨{ live0 with west := { mem := { allocWait := [{ idx := 7, src := .regs, block := zeros 32, ctx := 2, flags := 0x3A, size := 4096, pool := true, move := true }] } } },
    .west, 0, { idx := 7, src := .regs, block := zeros 32, ctx := 2, flags := 0x3A, size := 4096, pool := true, move := true },
    by decide +kernel⟩,
    ⟨domsOn
    ({ (withObj live0 .east 7 1 3 4096 2 0x5A) with east := { mem := { t1 := [(12288, 9)], copies := [{ idx := 7, evict := true, src := .regs }] } } })
    (memDoms .east), .east, 7, { idx := 7, evict := true, src := .regs }, { corrected := 3 }, by decide +kernel⟩,
    ⟨domsOn
    ({ (withObj live0 .east 7 1 3 4096 2 0x4A) with west := { mem := { allocs := [{ idx := 7, src := MemSrc.regs, block := zeros 32, ctx := 2, flags := 0x21, size := 4096, tier := 1, base := 1 }] } }, east := { mem := { copies := [{ idx := 7, evict := false, src := MemSrc.regs, other := some 7 }] } } })
    (memDoms .east ++ memDoms .west), .east, 7, 7, { idx := 7, evict := false, src := MemSrc.regs, other := some 7 },
    { idx := 7, src := MemSrc.regs, block := zeros 32, ctx := 2, flags := 0x21, size := 4096, tier := 1, base := 1 }, by decide +kernel⟩,
    ⟨({ (withObj live0 .east 7 1 3 4096 2 0x4A) with east := { mem := { t1 := [(12288, 9)], copies := [{ idx := 7, evict := false, src := .regs, started := true }] } } }
    : State).home .east 7 MEM_HOME.DEST_TIER 1, .east, 7, { idx := 7, evict := false, src := .regs, started := true }, { corrected := 2 },
    by decide +kernel⟩,
    ⟨({ (withObj live0 .east 7 1 3 4096 2 0x4A) with west := { mem := { allocs := [{ idx := 7, src := MemSrc.regs, block := zeros 32, ctx := 2, flags := 0x21, size := 4096, tier := 1, base := 1 }] } }, east := { mem := { copies := [{ idx := 7, evict := false, src := MemSrc.regs, other := some 7, started := true }] } } }
    : State), .east, 7, 7, { idx := 7, evict := false, src := MemSrc.regs, other := some 7, started := true },
    { idx := 7, src := MemSrc.regs, block := zeros 32, ctx := 2, flags := 0x21, size := 4096, tier := 1, base := 1 }, {},
    by decide +kernel⟩⟩

theorem witness_QuotaAndPoolWrites :
    (∃ (s : State) (h : Half) (c w : Nat), s.live = true ∧ c < 256 ∧ s.quotaUsed h c 2 false ≤ w % 2 ^ 20 ∧ s.limitSum h .t2 c (w % 2 ^
    20) ≤ 786432) ∧
    (∃ (s : State) (h : Half) (c w : Nat), s.live = true ∧ c < 256 ∧ s.quotaUsed h c 1 true ≤ w % 2 ^ 16) ∧
    (∃ (s : State) (h : Half) (k : QuotaKind) (c w : Nat), s.live = true ∧ c < 256 ∧ k = .t1 ∧ w % 2 ^ 16 < s.quotaUsed h c 1 false) ∧
    (∃ (s : State) (h : Half) (w : Nat), s.live = true ∧ w % 2 ^ 16 + w / 2 ^ 16 % 2 ^ 16 ≤ 32768 ∧ s.limitSum h .t1 256 0 + w / 2 ^ 16 %
    2 ^ 16 ≤ 32768 ∧ s.poolCuts h (w % 2 ^ 16) (w / 2 ^ 16 % 2 ^ 16) = false) :=
  ⟨⟨live0, .east, 255, 786432, by decide +kernel⟩,
    ⟨live0, .west, 0, 65535, by decide +kernel⟩,
    ⟨live0.wf (MEM_CTX_T1 .west 9) MEM_CTX_T1.USED 1, .west, .t1, 9, 0, by decide +kernel⟩,
    ⟨live0, .east, 32768 * 65536, by decide +kernel⟩⟩

theorem witness_ApertureAndSweeper :
    (∃ (s : State) (off : Nat) (bs : List Byte), s.live = true ∧ s.funcActive 0 = true ∧ off < 0x08000000 ∧ 0 < bs.length ∧ off % 64 +
    bs.length ≤ 64 ∧ s.domOn (bankDom .west (off / 0x800000)) = true ∧ (s.half .west).mem.badT1 = []) ∧
    (∃ (s : State) (off n : Nat), s.live = true ∧ s.funcActive 0 = true ∧ off < 0x08000000 ∧ 0 < n ∧ off % 64 + n ≤ 64 ∧ s.domOn (bankDom
    .west (off / 0x800000)) = true ∧ s.memBad .west 1 off n = false) ∧
    (∃ (s : State) (off n : Nat), s.live = true ∧ s.funcActive 0 = true ∧ 0x08000000 ≤ off ∧ off < 0x10000000 ∧ 0 < n ∧ off % 64 + n ≤ 64) ∧
    (∃ (s : State) (h : Half) (x i b : Nat), s.live = true ∧ s.power.gateOpen = true ∧ s.sweepNext h = some (x, i, b) ∧ (s.objDoms h
    i).all s.domOn = true ∧ s.memBad h x (64 * b) 64 = false ∧ (x = 1 ∨ x = 2)) ∧
    (∃ (s : State) (h : Half) (x i b : Nat), s.live = true ∧ s.power.gateOpen = true ∧ s.sweepNext h = some (x, i, b) ∧ (s.objDoms h
    i).all s.domOn = true ∧ s.memBad h x (64 * b) 64 = true ∧ (x = 1 ∨ x = 2)) ∧
    (∃ (s : State) (h : Half), s.live = true ∧ s.sweepNext h = none) ∧
    (∃ (s : State) (h : Half) (x i b : Nat) (chk : Scan), s.live = true ∧ s.power.gateOpen = true ∧ s.sweepNext h = some (x, i, b) ∧
    (s.objDoms h i).all s.domOn = true) ∧
    (∃ (s : State) (f off len : Nat) (wr : Option (List Byte)) (chk : Scan) (h : Half), s.live = true ∧ s.funcActive f = true ∧ off <
    0x10000000 ∧ h = Half.ofNum (off / 0x08000000) ∧ 0 < (wr.getD (zeros len)).length ∧ off % 64 + (wr.getD (zeros len)).length ≤ 64 ∧ h =
    .west ∧ (List.range (wr.getD (zeros len)).length).all (fun i => s.bar2Allowed h f (off % 0x08000000 + i)) = false) ∧
    (∃ (s : State) (f off : Nat) (bs : List Byte) (chk : Scan), s.live = true ∧ s.funcActive f = true ∧ off < 0x08000000 ∧ 0 < bs.length ∧
    off % 64 + bs.length ≤ 64 ∧ (List.range bs.length).all (fun i => s.bar2Allowed .west f (off + i)) = true ∧ s.domOn (bankDom .west (off
    / 0x800000)) = true ∧ chk.bad = [] ∧ (partWords 4 off bs.length).any (fun w => (s.half .west).mem.badT1.contains w) = false) ∧
    (∃ (s : State) (f off n : Nat) (chk : Scan), s.live = true ∧ s.funcActive f = true ∧ off < 0x08000000 ∧ 0 < n ∧ off % 64 + n ≤ 64 ∧
    (List.range n).all (fun i => s.bar2Allowed .west f (off + i)) = true ∧ s.domOn (bankDom .west (off / 0x800000)) = true) :=
  ⟨⟨domsOn live0 [74], 0x3E, [5, 0], by decide +kernel⟩,
    ⟨domsOn { live0 with west := { mem := { t1 := [(134217727, 7)] } } } [89], 0x07FFFFFE, 2, by decide +kernel⟩,
    ⟨live0, 0x0FFFFFFE, 2, by decide +kernel⟩,
    ⟨(let s := ((withObj live0 .east 7 2 5 65536 3 0x4C).home .east 7 MEM_HOME.SWEEP 1).wf (SWP_CTRL .east) SWP_CTRL.EN_T2 1;
    { domsOn s (memDoms .east) with east := { mem := { sweep := [(7, s.entryWords .east 7)] } } }), .east, 2, 7, 5120, by decide +kernel⟩,
    ⟨(let s := ((withObj live0 .east 7 2 5 65536 3 0x4C).home .east 7 MEM_HOME.SWEEP 1).wf (SWP_CTRL .east) SWP_CTRL.EN_T2 1;
    { domsOn s (memDoms .east) with east := { mem := { badT2 := [40960, 40963, 50000], sweep := [(7, s.entryWords .east 7)] } } }), .east,
    2, 7, 5120, by decide +kernel⟩,
    ⟨live0, .west, by decide +kernel⟩,
    ⟨(let s := ((withObj live0 .east 7 2 5 65536 3 0x4C).home .east 7 MEM_HOME.SWEEP 1).wf (SWP_CTRL .east) SWP_CTRL.EN_T2 1;
    { domsOn s (memDoms .east) with east := { mem := { badT2 := [40960, 40963, 50000], sweep := [(7, s.entryWords .east 7)] } } }), .east,
    2, 7, 5120, { corrected := 2 }, by decide +kernel⟩,
    ⟨vfs live0 3, 2, 100, 8, none, {}, .west, by decide +kernel⟩,
    ⟨domsOn live0 (memDoms .west), 0, 100, [1, 2, 3], { replayed := 1 }, by decide +kernel⟩,
    ⟨domsOn live0 (memDoms .west), 0, 100, 8, { bad := [2], replayed := 1 }, by decide +kernel⟩⟩

theorem witness_SendQueueRegisters :
    (∃ (s : State) (h : Half) (q v : Nat), s.live = true ∧ q < 64 ∧ v % 2 = 1 ∧ s.on (CSW_SQ_CFG h q) CSW_SQ_CFG.VALID = false ∧ (s.sq h
    q).lastUs = none) ∧
    (∃ (s : State) (h : Half) (q v u : Nat), s.live = true ∧ q < 64 ∧ v % 2 = 1 ∧ s.on (CSW_SQ_CFG h q) CSW_SQ_CFG.VALID = false ∧ (s.sq h
    q).lastUs = some u ∧ s.us h < u + 1000) ∧
    (∃ (s : State) (h : Half) (q v : Nat), s.live = true ∧ q < 64 ∧ s.on (CSW_SQ_CFG h q) CSW_SQ_CFG.VALID = true ∧ v % 2 ^ 30 / 2 ≠ (s.rd
    (CSW_SQ_CFG h q)).toNat / 2) ∧
    (∃ (s : State) (h : Half) (q : Nat), s.live = true ∧ q < 64 ∧ (s.sq h q).holding = true) ∧
    (∃ (s : State) (h : Half) (q : Nat), s.live = true ∧ q < 64 ∧ s.sqState h q = 1) ∧
    (∃ (s : State) (h : Half) (q : Nat), s.live = true ∧ q < 64 ∧ (s.sqState h q = 1 ∨ s.sqState h q = 2 ∧ (s.sq h q).unacked ≠ [])) :=
  ⟨⟨live0, .east, 63, 2 ^ 30 - 1, by decide +kernel⟩,
    ⟨{ live0 with west := { us := 1999, sqs := [(5, { lastUs := some 1000 })] } }, .west, 5, 1, 1000, by decide +kernel⟩,
    ⟨live0.wf (CSW_SQ_CFG .west 5) CSW_SQ_CFG.VALID 1, .west, 5, 4, by decide +kernel⟩,
    ⟨{ live0 with west := { sqs := [(5, { holding := true })] } }, .west, 5, by decide +kernel⟩,
    ⟨live0.setSqState .east 63 1, .east, 63, by decide +kernel⟩,
    ⟨live0.setSqState .east 0 1, .east, 0, by decide +kernel⟩⟩

theorem witness_SendQueueAnswers :
    (∃ (s : State) (h : Half) (b : List Byte), s.live = true ∧ fType b = 2 ∧ fSub b = 2 ∧ (s.half h).inbox.find? (fun x => decide (fKey x
    = fKey b)) = some b ∧ s.sqNames h b = true ∧ s.sqState h (fSrcQ b) = 1 ∧ fInfo b / 2 ^ 24 % 256 = s.sqEpoch h (fSrcQ b)) ∧
    (∃ (s : State) (h : Half) (b : List Byte) (u : Unacked) (us : List Unacked), s.live = true ∧ fType b = 2 ∧ fSub b = 4 ∧ (s.half
    h).inbox.find? (fun x => decide (fKey x = fKey b)) = some b ∧ s.sqNames h b = true ∧ s.sqState h (fSrcQ b) = 2 ∧ (s.half h).cswOps =
    [] ∧ (s.sq h (fSrcQ b)).unacked = u :: us ∧ u.psn = fInfo b % 2 ^ 24) ∧
    (∃ (s : State) (h : Half) (b : List Byte), s.live = true ∧ fType b = 2 ∧ fSub b = 3 ∧ (s.half h).inbox.find? (fun x => decide (fKey x
    = fKey b)) = some b ∧ s.sqNames h b = true ∧ (s.sqState h (fSrcQ b) = 1 ∨ s.sqState h (fSrcQ b) = 2)) ∧
    (∃ (s : State) (h : Half) (b : List Byte) (i : Nat), s.live = true ∧ fType b = 2 ∧ fSub b = 4 ∧ (s.half h).inbox.find? (fun x =>
    decide (fKey x = fKey b)) = some b ∧ s.sqNames h b = true ∧ s.sqState h (fSrcQ b) = 2 ∧ (s.sq h (fSrcQ b)).unacked.findIdx? (fun u =>
    decide (u.psn = fInfo b % 2 ^ 24)) = some i) ∧
    (∃ (s : State) (h : Half) (b : List Byte), s.live = true ∧ fType b = 2 ∧ fSub b = 4 ∧ (s.half h).inbox.find? (fun x => decide (fKey x
    = fKey b)) = some b ∧ (s.sqNames h b = false ∨ s.sqState h (fSrcQ b) ≠ 2) ∧ (s.half h).cswOps = []) ∧
    (∃ (s : State) (h : Half) (b : List Byte), s.live = true ∧ fType b = 2 ∧ fSub b = 2 ∧ (s.half h).inbox.find? (fun x => decide (fKey x
    = fKey b)) = some b ∧ (s.sqNames h b = false ∨ s.sqState h (fSrcQ b) ≠ 1 ∨ fInfo b / 2 ^ 24 % 256 ≠ s.sqEpoch h (fSrcQ b))) ∧
    (∃ (s : State) (h : Half) (b : List Byte), s.live = true ∧ fType b = 2 ∧ fSub b = 3 ∧ (s.half h).inbox.find? (fun x => decide (fKey x
    = fKey b)) = some b ∧ (s.sqNames h b = false ∨ s.sqState h (fSrcQ b) ≠ 1 ∧ s.sqState h (fSrcQ b) ≠ 2)) :=
  ⟨⟨inboxed ((live0.wf (CSW_SQ_CFG .west 7) CSW_SQ_CFG.VALID 1).wf (CSW_SQ_CFG .west 7) CSW_SQ_CFG.DEST_NODE 9 |>.wf (CSW_SQ_CFG .west 7)
    CSW_SQ_CFG.DEST_QUEUE 3 |>.wf (CSW_SQ_STATE .west 7) CSW_SQ_STATE.EPOCH 4 |>.setSqState .west 7 1) (flitOf 2 2 9 3 7 (4 * 2 ^ 24)
    (leBytes 4 65536)), .west, flitOf 2 2 9 3 7 (4 * 2 ^ 24) (leBytes 4 65536), by decide +kernel⟩,
    ⟨State.setSq (inboxed ((live0.wf (CSW_SQ_CFG .west 7) CSW_SQ_CFG.VALID 1).wf (CSW_SQ_CFG .west 7) CSW_SQ_CFG.DEST_NODE 9 |>.wf
    (CSW_SQ_CFG .west 7) CSW_SQ_CFG.DEST_QUEUE 3 |>.wf (CSW_SQ_STATE .west 7) CSW_SQ_STATE.EPOCH 4 |>.setSqState .west 7 2) (flitOf 2 4 9
    3 7 5 (leBytes 4 65536))) .west 7 { unacked := [{ psn := 5, len := 224, ser := 1 }, { psn := 6, len := 1, ser := 2 }] }, .west, flitOf
    2 4 9 3 7 5 (leBytes 4 65536), { psn := 5, len := 224, ser := 1 }, [{ psn := 6, len := 1, ser := 2 }], by decide +kernel⟩,
    ⟨inboxed ((live0.wf (CSW_SQ_CFG .west 7) CSW_SQ_CFG.VALID 1).wf (CSW_SQ_CFG .west 7) CSW_SQ_CFG.DEST_NODE 9 |>.wf (CSW_SQ_CFG .west 7)
    CSW_SQ_CFG.DEST_QUEUE 3 |>.wf (CSW_SQ_STATE .west 7) CSW_SQ_STATE.EPOCH 4 |>.setSqState .west 7 2) (flitOf 2 3 9 3 7 0 []), .west,
    flitOf 2 3 9 3 7 0 [], by decide +kernel⟩,
    ⟨State.setSq (inboxed ((live0.wf (CSW_SQ_CFG .west 7) CSW_SQ_CFG.VALID 1).wf (CSW_SQ_CFG .west 7) CSW_SQ_CFG.DEST_NODE 9 |>.wf
    (CSW_SQ_CFG .west 7) CSW_SQ_CFG.DEST_QUEUE 3 |>.wf (CSW_SQ_STATE .west 7) CSW_SQ_STATE.EPOCH 4 |>.setSqState .west 7 2) (flitOf 2 4 9
    3 7 6 (leBytes 4 65536))) .west 7
    { unacked := [{ psn := 5, len := 224, ser := 1 }, { psn := 6, len := 1, ser := 2 }, { psn := 7, len := 1, ser := 3 }] }, .west, flitOf
    2 4 9 3 7 6 (leBytes 4 65536), 1, by decide +kernel⟩,
    ⟨inboxed ((live0.wf (CSW_SQ_CFG .west 7) CSW_SQ_CFG.VALID 1).wf (CSW_SQ_CFG .west 7) CSW_SQ_CFG.DEST_NODE 9 |>.wf (CSW_SQ_CFG .west 7)
    CSW_SQ_CFG.DEST_QUEUE 3 |>.wf (CSW_SQ_STATE .west 7) CSW_SQ_STATE.EPOCH 4 |>.setSqState .west 7 1) (flitOf 2 4 9 3 7 6 (leBytes 4
    65536)), .west, flitOf 2 4 9 3 7 6 (leBytes 4 65536), by decide +kernel⟩,
    ⟨inboxed ((live0.wf (CSW_SQ_CFG .west 7) CSW_SQ_CFG.VALID 1).wf (CSW_SQ_CFG .west 7) CSW_SQ_CFG.DEST_NODE 9 |>.wf (CSW_SQ_CFG .west 7)
    CSW_SQ_CFG.DEST_QUEUE 3 |>.wf (CSW_SQ_STATE .west 7) CSW_SQ_STATE.EPOCH 4 |>.setSqState .west 7 2) (flitOf 2 2 9 3 7 6 (leBytes 4
    65536)), .west, flitOf 2 2 9 3 7 6 (leBytes 4 65536), by decide +kernel⟩,
    ⟨inboxed ((live0.wf (CSW_SQ_CFG .west 7) CSW_SQ_CFG.VALID 1).wf (CSW_SQ_CFG .west 7) CSW_SQ_CFG.DEST_NODE 9 |>.wf (CSW_SQ_CFG .west 7)
    CSW_SQ_CFG.DEST_QUEUE 3 |>.wf (CSW_SQ_STATE .west 7) CSW_SQ_STATE.EPOCH 4 |>.setSqState .west 7 3) (flitOf 2 3 9 3 7 6 []), .west,
    flitOf 2 3 9 3 7 6 [], by decide +kernel⟩⟩

theorem witness_ReceiveQueues :
    (∃ (s : State) (h : Half) (b : List Byte), s.live = true ∧ fType b = 1 ∧ fSub b = 0 ∧ (s.half h).inbox.find? (fun x => decide (fKey x
    = fKey b)) = some b ∧ s.rqNames h b = true ∧ s.rqState h (fDestQ b) = 2 ∧ fInfo b / 2 ^ 24 % 256 = s.rf (CSW_RQ_STATE h (fDestQ b))
    CSW_RQ_STATE.EPOCH ∧ fInfo b % 2 ^ 24 = (s.rq h (fDestQ b)).psn ∧ fLen b ≤ 224 ∧ (s.rq h (fDestQ b)).received % (s.rq h (fDestQ
    b)).size + fLen b ≤ (s.rq h (fDestQ b)).size ∧ 0 < (s.rq h (fDestQ b)).size ∧ b.length = 256 ∧ partWords 4 ((s.rq h (fDestQ b)).buf +
    (s.rq h (fDestQ b)).received % (s.rq h (fDestQ b)).size) (fLen b) = []) ∧
    (∃ (s : State) (h : Half) (b : List Byte), s.live = true ∧ fType b = 1 ∧ fSub b = 0 ∧ (s.half h).inbox.find? (fun x => decide (fKey x
    = fKey b)) = some b ∧ s.rqNames h b = true ∧ s.rqState h (fDestQ b) = 2 ∧ fInfo b / 2 ^ 24 % 256 = s.rf (CSW_RQ_STATE h (fDestQ b))
    CSW_RQ_STATE.EPOCH ∧ fInfo b % 2 ^ 24 ≠ (s.rq h (fDestQ b)).psn) ∧
    (∃ (s : State) (h : Half) (b : List Byte), s.live = true ∧ fType b = 2 ∧ fSub b = 1 ∧ (s.half h).inbox.find? (fun x => decide (fKey x
    = fKey b)) = some b ∧ s.rqNames h b = true ∧ s.rqState h (fDestQ b) = 1) ∧
    (∃ (s : State) (h : Half) (q : Nat), s.live = true ∧ q < 64 ∧ s.rqState h q = 2 ∧ (s.rq h q).since ≠ 0) ∧
    (∃ (s : State) (h : Half) (q v x : Nat), s.live = true ∧ q < 64 ∧ v % 2 = 1 ∧ s.on (CSW_RQ_CFG h q) CSW_RQ_CFG.VALID = false ∧
    s.pinRange h (bits (bits v 0 30) 1 8) (s.rf (CSW_RQ_BASE h q) CSW_RQ_BASE.HANDLE) (s.rf (CSW_RQ_OFFSET h q) CSW_RQ_OFFSET.OFFSET / 64
    * 64) (s.rqSize h q) = some x) ∧
    (∃ (s : State) (h : Half) (q v : Nat), s.live = true ∧ q < 64 ∧ v % 2 = 0 ∧ v % 2 ^ 30 / 2 = (s.rd (CSW_RQ_CFG h q)).toNat / 2) ∧
    (∃ (s : State) (h : Half) (q v : Nat), s.live = true ∧ q < 64 ∧ s.on (CSW_RQ_CFG h q) CSW_RQ_CFG.VALID = true ∧ v % 2 ^ 30 / 2 ≠ (s.rd
    (CSW_RQ_CFG h q)).toNat / 2) ∧
    (∃ (s : State) (h : Half) (b : List Byte), s.live = true ∧ fType b = 1 ∧ fSub b = 0 ∧ (s.half h).inbox.find? (fun x => decide (fKey x
    = fKey b)) = some b ∧ s.rqNames h b = true ∧ s.rqState h (fDestQ b) = 2 ∧ fInfo b / 2 ^ 24 % 256 = s.rf (CSW_RQ_STATE h (fDestQ b))
    CSW_RQ_STATE.EPOCH ∧ fInfo b % 2 ^ 24 = (s.rq h (fDestQ b)).psn) ∧
    (∃ (s : State) (h : Half) (b : List Byte), s.live = true ∧ fType b = 1 ∧ fSub b = 0 ∧ (s.half h).inbox.find? (fun x => decide (fKey x
    = fKey b)) = some b ∧ (s.rqNames h b = false ∨ s.rqState h (fDestQ b) ≠ 2 ∨ fInfo b / 2 ^ 24 % 256 ≠ s.rf (CSW_RQ_STATE h (fDestQ b))
    CSW_RQ_STATE.EPOCH)) ∧
    (∃ (s : State) (h : Half) (b : List Byte), s.live = true ∧ fType b = 2 ∧ fSub b = 1 ∧ (s.half h).inbox.find? (fun x => decide (fKey x
    = fKey b)) = some b ∧ s.rqNames h b = true ∧ s.rqState h (fDestQ b) = 2 ∧ fInfo b / 2 ^ 24 % 256 = s.rf (CSW_RQ_STATE h (fDestQ b))
    CSW_RQ_STATE.EPOCH) ∧
    (∃ (s : State) (h : Half) (b : List Byte), s.live = true ∧ fType b = 2 ∧ fSub b = 1 ∧ (s.half h).inbox.find? (fun x => decide (fKey x
    = fKey b)) = some b ∧ s.rqNames h b = true ∧ s.rqState h (fDestQ b) = 2 ∧ fInfo b / 2 ^ 24 % 256 ≠ s.rf (CSW_RQ_STATE h (fDestQ b))
    CSW_RQ_STATE.EPOCH) ∧
    (∃ (s : State) (h : Half) (b : List Byte), s.live = true ∧ fType b = 2 ∧ fSub b = 1 ∧ (s.half h).inbox.find? (fun x => decide (fKey x
    = fKey b)) = some b ∧ (s.rqNames h b = false ∨ s.rqState h (fDestQ b) ≠ 1 ∧ s.rqState h (fDestQ b) ≠ 2)) :=
  ⟨⟨State.setRq (inboxed (((((live0.wf (CSW_RQ_CFG .west 3) CSW_RQ_CFG.VALID 1).wf (CSW_RQ_CFG .west 3) CSW_RQ_CFG.SRC_NODE 9).wf
    (CSW_RQ_CFG .west 3) CSW_RQ_CFG.SRC_QUEUE 7).wf (CSW_RQ_STATE .west 3) CSW_RQ_STATE.EPOCH 4).setRqState .west 3 2) (flitOf 1 0 9 3 7
    (5 + 4 * 2 ^ 24) [1, 2, 3, 4])) .west 3 { buf := 4096, size := 1024, received := 1020, psn := 5 }, .west, flitOf 1 0 9 3 7 (5 + 4 * 2
    ^ 24) [1, 2, 3, 4], by decide +kernel⟩,
    ⟨inboxed (((((live0.wf (CSW_RQ_CFG .west 3) CSW_RQ_CFG.VALID 1).wf (CSW_RQ_CFG .west 3) CSW_RQ_CFG.SRC_NODE 9).wf (CSW_RQ_CFG .west 3)
    CSW_RQ_CFG.SRC_QUEUE 7).wf (CSW_RQ_STATE .west 3) CSW_RQ_STATE.EPOCH 4).setRqState .west 3 2) (flitOf 1 0 9 3 7 (5 + 4 * 2 ^ 24) [1,
    2, 3]), .west, flitOf 1 0 9 3 7 (5 + 4 * 2 ^ 24) [1, 2, 3], by decide +kernel⟩,
    ⟨inboxed (((((live0.wf (CSW_RQ_CFG .west 3) CSW_RQ_CFG.VALID 1).wf (CSW_RQ_CFG .west 3) CSW_RQ_CFG.SRC_NODE 9).wf (CSW_RQ_CFG .west 3)
    CSW_RQ_CFG.SRC_QUEUE 7).wf (CSW_RQ_STATE .west 3) CSW_RQ_STATE.EPOCH 4).setRqState .west 3 1) (flitOf 2 1 9 3 7 (255 * 2 ^ 24) []),
    .west, flitOf 2 1 9 3 7 (255 * 2 ^ 24) [], by decide +kernel⟩,
    ⟨State.setRq (live0.setRqState .east 63 2) .east 63 { since := 1 }, .east, 63, by decide +kernel⟩,
    ⟨((withObj live0 .east 7 1 5 65536 3 0x41).wf (CSW_RQ_BASE .east 63) CSW_RQ_BASE.HANDLE (7 + 2 ^ 15 + 2 ^ 16)), .east, 63, 7, 20480,
    by decide +kernel⟩,
    ⟨live0.wf (CSW_RQ_CFG .west 0) CSW_RQ_CFG.VALID 1, .west, 0, 0, by decide +kernel⟩,
    ⟨live0.wf (CSW_RQ_CFG .west 5) CSW_RQ_CFG.VALID 1, .west, 5, 4, by decide +kernel⟩,
    ⟨State.setRq (inboxed (((((live0.wf (CSW_RQ_CFG .west 3) CSW_RQ_CFG.VALID 1).wf (CSW_RQ_CFG .west 3) CSW_RQ_CFG.SRC_NODE 9).wf
    (CSW_RQ_CFG .west 3) CSW_RQ_CFG.SRC_QUEUE 7).wf (CSW_RQ_STATE .west 3) CSW_RQ_STATE.EPOCH 4).setRqState .west 3 2) (flitOf 1 0 9 3 7
    (5 + 4 * 2 ^ 24) [1, 2, 3, 4])) .west 3 { buf := 4096, size := 1024, received := 1022, psn := 5, since := 15 }, .west, flitOf 1 0 9 3
    7 (5 + 4 * 2 ^ 24) [1, 2, 3, 4], by decide +kernel⟩,
    ⟨inboxed (((((live0.wf (CSW_RQ_CFG .west 3) CSW_RQ_CFG.VALID 1).wf (CSW_RQ_CFG .west 3) CSW_RQ_CFG.SRC_NODE 9).wf (CSW_RQ_CFG .west 3)
    CSW_RQ_CFG.SRC_QUEUE 7).wf (CSW_RQ_STATE .west 3) CSW_RQ_STATE.EPOCH 4).setRqState .west 3 2) (flitOf 1 0 9 3 7 (5 + 5 * 2 ^ 24) [1,
    2, 3, 4]), .west, flitOf 1 0 9 3 7 (5 + 5 * 2 ^ 24) [1, 2, 3, 4], by decide +kernel⟩,
    ⟨inboxed (((((live0.wf (CSW_RQ_CFG .west 3) CSW_RQ_CFG.VALID 1).wf (CSW_RQ_CFG .west 3) CSW_RQ_CFG.SRC_NODE 9).wf (CSW_RQ_CFG .west 3)
    CSW_RQ_CFG.SRC_QUEUE 7).wf (CSW_RQ_STATE .west 3) CSW_RQ_STATE.EPOCH 4).setRqState .west 3 2) (flitOf 2 1 9 3 7 (4 * 2 ^ 24) []),
    .west, flitOf 2 1 9 3 7 (4 * 2 ^ 24) [], by decide +kernel⟩,
    ⟨inboxed (((((live0.wf (CSW_RQ_CFG .west 3) CSW_RQ_CFG.VALID 1).wf (CSW_RQ_CFG .west 3) CSW_RQ_CFG.SRC_NODE 9).wf (CSW_RQ_CFG .west 3)
    CSW_RQ_CFG.SRC_QUEUE 7).wf (CSW_RQ_STATE .west 3) CSW_RQ_STATE.EPOCH 4).setRqState .west 3 2) (flitOf 2 1 9 3 7 (5 * 2 ^ 24) []),
    .west, flitOf 2 1 9 3 7 (5 * 2 ^ 24) [], by decide +kernel⟩,
    ⟨inboxed (((((live0.wf (CSW_RQ_CFG .west 3) CSW_RQ_CFG.VALID 1).wf (CSW_RQ_CFG .west 3) CSW_RQ_CFG.SRC_NODE 9).wf (CSW_RQ_CFG .west 3)
    CSW_RQ_CFG.SRC_QUEUE 7).wf (CSW_RQ_STATE .west 3) CSW_RQ_STATE.EPOCH 4).setRqState .west 3 3) (flitOf 2 1 9 3 7 (5 * 2 ^ 24) []),
    .west, flitOf 2 1 9 3 7 (5 * 2 ^ 24) [], by decide +kernel⟩⟩

theorem witness_BarriersAndFlushes :
    (∃ (s : State) (h : Half) (f : List Byte), s.live = true ∧ fType f = 3 ∧ fSub f = 1 ∧ (s.half h).inbox.find? (fun x => decide (fKey x
    = fKey f)) = some f ∧ s.barCfg h (fDestQ f) CSW_BAR_CFG.EN = 1 ∧ s.barBroken h (fDestQ f) = false ∧ fInfo f % 65536 = s.barGen h
    (fDestQ f) ∧ (s.bar h (fDestQ f)).arrived.contains (fSrcNode f, fSrcHalf f) = false ∧ (s.rf (CSW_BAR_STATUS h (fDestQ f))
    CSW_BAR_STATUS.ARRIVED + 1) % 32 ≠ s.barChildren h (fDestQ f) + s.barCfg h (fDestQ f) CSW_BAR_CFG.LOCAL) ∧
    (∃ (s : State) (h : Half) (f : List Byte), s.live = true ∧ fType f = 3 ∧ fSub f = 1 ∧ (s.half h).inbox.find? (fun x => decide (fKey x
    = fKey f)) = some f ∧ s.barCfg h (fDestQ f) CSW_BAR_CFG.EN = 1 ∧ s.barBroken h (fDestQ f) = false ∧ fInfo f % 65536 ≠ s.barGen h
    (fDestQ f)) ∧
    (∃ (s : State) (h : Half) (f : List Byte), s.live = true ∧ fType f = 3 ∧ fSub f = 2 ∧ (s.half h).inbox.find? (fun x => decide (fKey x
    = fKey f)) = some f ∧ s.barCfg h (fDestQ f) CSW_BAR_CFG.EN = 1 ∧ s.barBroken h (fDestQ f) = false ∧ fInfo f % 65536 = s.barGen h
    (fDestQ f)) ∧
    (∃ (s : State) (h : Half) (b v : Nat), s.live = true ∧ b < 64 ∧ v % 2 = 1 ∧ v / 2 ^ 25 % 32 ≤ 16) ∧
    (∃ (s : State) (r : NodeRef) (n : Node), s.live = true ∧ s.cswNode r 1 = some n ∧ s.flushed n.half (s.opOf n.half r) = true) ∧
    (∃ (s : State) (r : NodeRef) (n : Node), s.live = true ∧ s.cswNode r 2 = some n ∧ s.barCfg n.half n.cswBar CSW_BAR_CFG.EN = 1 ∧
    s.barCfg n.half n.cswBar CSW_BAR_CFG.CONTEXT = r.ctx ∧ s.barBroken n.half n.cswBar = false ∧ s.anyBroken n.half n = false ∧ s.flushed
    n.half (s.opOf n.half r) = true ∧ (s.bar n.half n.cswBar).node ≠ some r ∧ s.barCfg n.half n.cswBar CSW_BAR_CFG.LOCAL = 1 ∧ s.on
    (CSW_BAR_STATUS n.half n.cswBar) CSW_BAR_STATUS.LOCAL_ARRIVED = false ∧ (s.rf (CSW_BAR_STATUS n.half n.cswBar) CSW_BAR_STATUS.ARRIVED
    + 1) % 32 ≠ s.barChildren n.half n.cswBar + 1) ∧
    (∃ (s : State) (r : NodeRef) (n : Node), s.live = true ∧ s.cswNode r 2 = some n ∧ n.cswTimeout ≠ 0) ∧
    (∃ (s : State) (r : NodeRef) (n : Node), s.live = true ∧ s.cswNode r 2 = some n ∧ s.barCfg n.half n.cswBar CSW_BAR_CFG.EN = 1 ∧
    s.barCfg n.half n.cswBar CSW_BAR_CFG.CONTEXT = r.ctx ∧ s.barBroken n.half n.cswBar = false ∧ s.anyBroken n.half n = false ∧ s.flushed
    n.half (s.opOf n.half r) = true ∧ (s.bar n.half n.cswBar).node ≠ some r ∧ s.barCfg n.half n.cswBar CSW_BAR_CFG.LOCAL = 1 ∧ s.on
    (CSW_BAR_STATUS n.half n.cswBar) CSW_BAR_STATUS.LOCAL_ARRIVED = false ∧ (s.rf (CSW_BAR_STATUS n.half n.cswBar) CSW_BAR_STATUS.ARRIVED
    + 1) % 32 = s.barChildren n.half n.cswBar + 1 ∧ s.barCfg n.half n.cswBar CSW_BAR_CFG.ROOT = 1) ∧
    (∃ (s : State) (r : NodeRef) (n : Node), s.live = true ∧ s.cswNode r 2 = some n ∧ s.barCfg n.half n.cswBar CSW_BAR_CFG.EN = 1 ∧
    s.barCfg n.half n.cswBar CSW_BAR_CFG.CONTEXT = r.ctx ∧ s.barBroken n.half n.cswBar = false ∧ s.anyBroken n.half n = false ∧ s.flushed
    n.half (s.opOf n.half r) = true ∧ (s.bar n.half n.cswBar).node ≠ some r ∧ s.barCfg n.half n.cswBar CSW_BAR_CFG.LOCAL = 1 ∧ s.on
    (CSW_BAR_STATUS n.half n.cswBar) CSW_BAR_STATUS.LOCAL_ARRIVED = false ∧ (s.rf (CSW_BAR_STATUS n.half n.cswBar) CSW_BAR_STATUS.ARRIVED
    + 1) % 32 = s.barChildren n.half n.cswBar + 1 ∧ s.barCfg n.half n.cswBar CSW_BAR_CFG.ROOT = 0) ∧
    (∃ (s : State) (r : NodeRef) (n : Node), s.live = true ∧ s.cswNode r 2 = some n ∧ s.barCfg n.half n.cswBar CSW_BAR_CFG.EN = 1 ∧
    s.barCfg n.half n.cswBar CSW_BAR_CFG.CONTEXT = r.ctx ∧ s.barBroken n.half n.cswBar = false ∧ s.anyBroken n.half n = false ∧ s.flushed
    n.half (s.opOf n.half r) = true ∧ (s.bar n.half n.cswBar).node ≠ some r ∧ (s.barCfg n.half n.cswBar CSW_BAR_CFG.LOCAL = 0 ∨ s.on
    (CSW_BAR_STATUS n.half n.cswBar) CSW_BAR_STATUS.LOCAL_ARRIVED = true)) ∧
    (∃ (s : State) (h : Half) (f : List Byte), s.live = true ∧ fType f = 3 ∧ fSub f = 1 ∧ (s.half h).inbox.find? (fun x => decide (fKey x
    = fKey f)) = some f ∧ s.barCfg h (fDestQ f) CSW_BAR_CFG.EN = 1 ∧ s.barBroken h (fDestQ f) = false ∧ fInfo f % 65536 = s.barGen h
    (fDestQ f) ∧ (s.bar h (fDestQ f)).arrived.contains (fSrcNode f, fSrcHalf f) = false ∧ (s.rf (CSW_BAR_STATUS h (fDestQ f))
    CSW_BAR_STATUS.ARRIVED + 1) % 32 = s.barChildren h (fDestQ f) + s.barCfg h (fDestQ f) CSW_BAR_CFG.LOCAL ∧ s.barCfg h (fDestQ f)
    CSW_BAR_CFG.ROOT = 1) :=
  ⟨⟨inboxed ((live0.wf (CSW_BAR_CFG .west 5) CSW_BAR_CFG.EN 1).wf (CSW_BAR_CFG .west 5) CSW_BAR_CFG.CHILDREN 2 |>.wf (CSW_BAR_CFG .west
    5) CSW_BAR_CFG.ROOT 1 |>.wf (CSW_BAR_CFG .west 5) CSW_BAR_CFG.CONTEXT 1 |>.wf (CSW_BAR_STATUS .west 5) CSW_BAR_STATUS.GEN 9) (flitOf 3
    1 9 5 0 9 []), .west, flitOf 3 1 9 5 0 9 [], by decide +kernel⟩,
    ⟨inboxed ((live0.wf (CSW_BAR_CFG .west 5) CSW_BAR_CFG.EN 1).wf (CSW_BAR_CFG .west 5) CSW_BAR_CFG.CHILDREN 2 |>.wf (CSW_BAR_CFG .west
    5) CSW_BAR_CFG.ROOT 1 |>.wf (CSW_BAR_CFG .west 5) CSW_BAR_CFG.CONTEXT 1 |>.wf (CSW_BAR_STATUS .west 5) CSW_BAR_STATUS.GEN 9) (flitOf 3
    1 9 5 0 8 []), .west, flitOf 3 1 9 5 0 8 [], by decide +kernel⟩,
    ⟨inboxed ((live0.wf (CSW_BAR_CFG .west 5) CSW_BAR_CFG.EN 1).wf (CSW_BAR_CFG .west 5) CSW_BAR_CFG.CHILDREN 2 |>.wf (CSW_BAR_CFG .west
    5) CSW_BAR_CFG.ROOT 1 |>.wf (CSW_BAR_CFG .west 5) CSW_BAR_CFG.CONTEXT 1 |>.wf (CSW_BAR_STATUS .west 5) CSW_BAR_STATUS.GEN 9) (flitOf 3
    2 9 5 0 9 []), .west, flitOf 3 2 9 5 0 9 [], by decide +kernel⟩,
    ⟨live0, .east, 63, 2 ^ 32 - 1 - 15 * 2 ^ 25, by decide +kernel⟩,
    ⟨withNode (live0) (leBytes 4 6 ++ zeros 60 ++ leBytes 4 (1 + 16 * 0) ++ []) .running, n0, nd0 (leBytes 4 6 ++ zeros 60 ++ leBytes 4 (1
    + 16 * 0) ++ []) .running, by decide +kernel⟩,
    ⟨withNode ((live0.wf (CSW_BAR_CFG .west 5) CSW_BAR_CFG.EN 1).wf (CSW_BAR_CFG .west 5) CSW_BAR_CFG.CHILDREN 2 |>.wf (CSW_BAR_CFG .west
    5) CSW_BAR_CFG.ROOT 1 |>.wf (CSW_BAR_CFG .west 5) CSW_BAR_CFG.CONTEXT 1 |>.wf (CSW_BAR_STATUS .west 5) CSW_BAR_STATUS.GEN 9 |>.wf
    (CSW_BAR_CFG .west 5) CSW_BAR_CFG.LOCAL 1) (leBytes 4 6 ++ zeros 60 ++ leBytes 4 (2 + 16 * 5) ++ []) .running, n0, nd0 (leBytes 4 6 ++
    zeros 60 ++ leBytes 4 (2 + 16 * 5) ++ []) .running, by decide +kernel⟩,
    ⟨withNode (live0) (leBytes 4 6 ++ zeros 60 ++ leBytes 4 (2 + 16 * 0) ++ leBytes 4 7) .running, n0, nd0 (leBytes 4 6 ++ zeros 60 ++
    leBytes 4 (2 + 16 * 0) ++ leBytes 4 7) .running, by decide +kernel⟩,
    ⟨withNode ((live0.wf (CSW_BAR_CFG .west 5) CSW_BAR_CFG.EN 1).wf (CSW_BAR_CFG .west 5) CSW_BAR_CFG.CHILDREN 0 |>.wf (CSW_BAR_CFG .west
    5) CSW_BAR_CFG.ROOT 1 |>.wf (CSW_BAR_CFG .west 5) CSW_BAR_CFG.CONTEXT 1 |>.wf (CSW_BAR_STATUS .west 5) CSW_BAR_STATUS.GEN 9 |>.wf
    (CSW_BAR_CFG .west 5) CSW_BAR_CFG.LOCAL 1 |>.wf (CSW_BAR_CFG .west 5) CSW_BAR_CFG.ROOT 1) (leBytes 4 6 ++ zeros 60 ++ leBytes 4 (2 +
    16 * 5) ++ []) .running, n0, nd0 (leBytes 4 6 ++ zeros 60 ++ leBytes 4 (2 + 16 * 5) ++ []) .running, by decide +kernel⟩,
    ⟨withNode ((live0.wf (CSW_BAR_CFG .west 5) CSW_BAR_CFG.EN 1).wf (CSW_BAR_CFG .west 5) CSW_BAR_CFG.CHILDREN 0 |>.wf (CSW_BAR_CFG .west
    5) CSW_BAR_CFG.ROOT 1 |>.wf (CSW_BAR_CFG .west 5) CSW_BAR_CFG.CONTEXT 1 |>.wf (CSW_BAR_STATUS .west 5) CSW_BAR_STATUS.GEN 9 |>.wf
    (CSW_BAR_CFG .west 5) CSW_BAR_CFG.LOCAL 1 |>.wf (CSW_BAR_CFG .west 5) CSW_BAR_CFG.ROOT 0) (leBytes 4 6 ++ zeros 60 ++ leBytes 4 (2 +
    16 * 5) ++ []) .running, n0, nd0 (leBytes 4 6 ++ zeros 60 ++ leBytes 4 (2 + 16 * 5) ++ []) .running, by decide +kernel⟩,
    ⟨withNode ((live0.wf (CSW_BAR_CFG .west 5) CSW_BAR_CFG.EN 1).wf (CSW_BAR_CFG .west 5) CSW_BAR_CFG.CHILDREN 0 |>.wf (CSW_BAR_CFG .west
    5) CSW_BAR_CFG.ROOT 1 |>.wf (CSW_BAR_CFG .west 5) CSW_BAR_CFG.CONTEXT 1 |>.wf (CSW_BAR_STATUS .west 5) CSW_BAR_STATUS.GEN 9 |>.wf
    (CSW_BAR_CFG .west 5) CSW_BAR_CFG.LOCAL 1 |>.wf (CSW_BAR_CFG .west 5) CSW_BAR_CFG.ROOT 0 |>.wf (CSW_BAR_STATUS .west 5)
    CSW_BAR_STATUS.LOCAL_ARRIVED 1) (leBytes 4 6 ++ zeros 60 ++ leBytes 4 (2 + 16 * 5) ++ []) .running, n0, nd0 (leBytes 4 6 ++ zeros 60
    ++ leBytes 4 (2 + 16 * 5) ++ []) .running, by decide +kernel⟩,
    ⟨inboxed ((live0.wf (CSW_BAR_CFG .west 5) CSW_BAR_CFG.EN 1).wf (CSW_BAR_CFG .west 5) CSW_BAR_CFG.CHILDREN 1 |>.wf (CSW_BAR_CFG .west
    5) CSW_BAR_CFG.ROOT 1 |>.wf (CSW_BAR_CFG .west 5) CSW_BAR_CFG.CONTEXT 1 |>.wf (CSW_BAR_STATUS .west 5) CSW_BAR_STATUS.GEN 9 |>.wf
    (CSW_BAR_CFG .west 5) CSW_BAR_CFG.LOCAL 0) (flitOf 3 1 9 5 0 9 []), .west, flitOf 3 1 9 5 0 9 [], by decide +kernel⟩⟩

theorem witness_ExpertOperations :
    (∃ (s : State) (r : NodeRef) (n : Node) (q : Nat) (o : CswOp), s.live = true ∧ s.cswNode r 3 = some n ∧ n.cswQueues = [q] ∧ n.cswM = 0
    ∧ s.sqCode n.half r.ctx q = 0 ∧ (s.sq n.half q).producer = none ∧ s.sqState n.half q = 2 ∧ 16 ≤ s.sqRoom n.half q ∧ (s.half
    n.half).cswOps.find? (fun o => decide (o.node = r)) = some o ∧ o.marks = []) ∧
    (∃ (s : State) (r : NodeRef) (n : Node) (q : Nat) (o : CswOp), s.live = true ∧ s.cswNode r 5 = some n ∧ n.cswQueues = [q] ∧ n.cswCount
    = 0 ∧ s.sqCode n.half r.ctx q = 0 ∧ (s.sq n.half q).producer = none ∧ s.sqState n.half q = 2 ∧ 16 ≤ s.sqRoom n.half q ∧ (s.half
    n.half).cswOps.find? (fun o => decide (o.node = r)) = some o ∧ o.marks = []) ∧
    (∃ (s : State) (r : NodeRef) (n : Node), s.live = true ∧ s.cswNode r 4 = some n ∧ n.cswQueues = [] ∧ n.cswCount = 1 ∧ (s.opOf n.half
    r).used = [] ∧ (s.opOf n.half r).full = 0 ∧ 8 ≤ (s.bindOr r 2).size ∧ ((s.bindOr r 2).tier = 1 ∨ (s.bindOr r 2).tier = 2) ∧ partWords
    (wordBytes (s.bindOr r 2).tier) (s.bindOr r 2).addr 8 = []) ∧
    (∃ (s : State) (r : NodeRef) (n : Node), s.live = true ∧ s.cswNode r 6 = some n ∧ n.cswQueues = [] ∧ n.cswM = 1 ∧ n.cswK = 1 ∧ (s.opOf
    n.half r).cells = [] ∧ n.cswOut + n.cswRow ≤ (s.bindOr r 0).size ∧ ((s.bindOr r 0).tier = 1 ∨ (s.bindOr r 0).tier = 2) ∧ partWords
    (wordBytes (s.bindOr r 0).tier) ((s.bindOr r 0).addr + n.cswOut) n.cswRow = []) ∧
    (∃ (s : State) (r : NodeRef) (n : Node), s.live = true ∧ s.cswNode r 4 = some n ∧ n.cswTimeout ≠ 0) ∧
    (∃ (s : State) (r : NodeRef) (n : Node) (o : CswOp), s.live = true ∧ s.cswNode r 3 = some n ∧ (s.half n.half).cswOps.find? (fun o =>
    decide (o.node = r)) = some o ∧ o.marks = [] ∧ (s.dispatchPlan r n).2.1.all (fun q => decide (s.sqCode n.half r.ctx q = 0) && decide
    (s.sqState n.half q = 2) && (s.sq n.half q).producer.isNone && decide (((s.dispatchPlan r n).2.2 q).length ≤ s.sqRoom n.half q)) =
    true) ∧
    (∃ (s : State) (r : NodeRef) (n : Node) (o : CswOp), s.live = true ∧ s.cswNode r 5 = some n ∧ (s.half n.half).cswOps.find? (fun o =>
    decide (o.node = r)) = some o ∧ o.marks = [] ∧ (s.returnPlan r n).2.1.all (fun q => decide (s.sqCode n.half r.ctx q = 0) && decide
    (s.sqState n.half q = 2) && (s.sq n.half q).producer.isNone && decide (((s.returnPlan r n).2.2 q).length ≤ s.sqRoom n.half q)) = true) ∧
    (∃ (s : State) (r : NodeRef) (n : Node), s.live = true ∧ s.cswNode r 3 = some n) ∧
    (∃ (s : State) (r : NodeRef) (n : Node), s.live = true ∧ s.cswNode r 5 = some n) ∧
    (∃ (s : State) (r : NodeRef) (n : Node), s.live = true ∧ s.cswNode r 4 = some n ∧ n.cswQueues.all (fun q => decide (s.rqCode n.half
    r.ctx q = 0) && (s.rq n.half q).consumer.isNone && (s.opOf n.half r).ends.contains q) = true) ∧
    (∃ (s : State) (r : NodeRef) (n : Node), s.live = true ∧ s.cswNode r 6 = some n ∧ n.cswQueues.all (fun q => decide (s.rqCode n.half
    r.ctx q = 0) && (s.rq n.half q).consumer.isNone && (s.opOf n.half r).ends.contains q) = true) ∧
    (∃ (s : State) (r : NodeRef) (n : Node) (q k : Nat) (o : CswOp) (rc : List Byte), s.live = true ∧ s.cswNode r 4 = some n ∧ n.cswQueues
    = [q] ∧ s.rqCode n.half r.ctx q = 0 ∧ (s.rq n.half q).consumer = some (.node r) ∧ (s.half n.half).cswOps.find? (fun o => decide
    (o.node = r)) = some o ∧ o.ends = [] ∧ (s.rq n.half q).part = [] ∧ 16 + n.cswRow ≤ (s.rq n.half q).size ∧ rc = s.rqPeek n.half q 0
    (s.rqAvail n.half q) ∧ rc.length = s.rqAvail n.half q ∧ expGood rc = true ∧ expBits rc 96 16 = n.cswBatch ∧ rc.length = 16 + n.cswRow
    ∧ expEnd rc = false ∧ n.cswFirst + k = expBits rc 36 12 ∧ k < n.cswCount ∧ mapGet (fun _ => 0) o.used k < n.cswM) ∧
    (∃ (s : State) (r : NodeRef) (n : Node) (q : Nat) (o : CswOp) (rc : List Byte), s.live = true ∧ s.cswNode r 6 = some n ∧ n.cswQueues =
    [q] ∧ s.rqCode n.half r.ctx q = 0 ∧ (s.rq n.half q).consumer = some (.node r) ∧ (s.half n.half).cswOps.find? (fun o => decide (o.node
    = r)) = some o ∧ o.ends = [] ∧ (s.rq n.half q).part = [] ∧ 16 + n.cswRow ≤ (s.rq n.half q).size ∧ rc = s.rqPeek n.half q 0 (s.rqAvail
    n.half q) ∧ rc.length = s.rqAvail n.half q ∧ expGood rc = true ∧ expBits rc 96 16 = n.cswBatch ∧ rc.length = 16 + n.cswRow ∧ expEnd rc
    = false ∧ expBits rc 16 16 < n.cswM ∧ expBits rc 32 4 < n.cswK ∧ o.cells.contains (expBits rc 16 16 * n.cswK + expBits rc 32 4) =
    false) ∧
    (∃ (s : State) (r : NodeRef) (n : Node) (q : Nat) (o : CswOp) (rc : List Byte), s.live = true ∧ s.cswNode r 4 = some n ∧ n.cswQueues =
    [q] ∧ s.rqCode n.half r.ctx q = 0 ∧ (s.rq n.half q).consumer = some (.node r) ∧ (s.half n.half).cswOps.find? (fun o => decide (o.node
    = r)) = some o ∧ o.ends = [] ∧ (s.rq n.half q).part = [] ∧ 16 + n.cswRow ≤ (s.rq n.half q).size ∧ rc = s.rqPeek n.half q 0 (s.rqAvail
    n.half q) ∧ rc.length = s.rqAvail n.half q ∧ expGood rc = true ∧ expBits rc 96 16 = n.cswBatch ∧ rc.length = 16 ∧ expEnd rc = true) ∧
    (∃ (s : State) (r : NodeRef) (n : Node) (q : Nat) (o : CswOp) (rc : List Byte), s.live = true ∧ s.cswNode r 6 = some n ∧ n.cswQueues =
    [q] ∧ s.rqCode n.half r.ctx q = 0 ∧ (s.rq n.half q).consumer = some (.node r) ∧ (s.half n.half).cswOps.find? (fun o => decide (o.node
    = r)) = some o ∧ o.ends = [] ∧ (s.rq n.half q).part = [] ∧ 16 + n.cswRow ≤ (s.rq n.half q).size ∧ rc = s.rqPeek n.half q 0 (s.rqAvail
    n.half q) ∧ rc.length = s.rqAvail n.half q ∧ expGood rc = true ∧ expBits rc 96 16 = n.cswBatch ∧ rc.length = 16 ∧ expEnd rc = true) ∧
    (∃ (s : State) (r : NodeRef) (n : Node), s.live = true ∧ s.cswNode r 6 = some n ∧ n.cswTimeout ≠ 0) :=
  ⟨⟨withNode (withOp (((live0.wf (CSW_SQ_CFG .west 5) CSW_SQ_CFG.VALID 1).wf (CSW_SQ_CFG .west 5) CSW_SQ_CFG.CONTEXT 1).setSqState .west
    5 2) { node := n0 } |>.setSq .west 5 { limit := 16 }) (leBytes 4 6 ++ zeros 60 ++ leBytes 4 (3 + 16 * 0) ++ leBytes 4 0 ++ leBytes 8
    (2 ^ 5)) .running, n0, nd0 (leBytes 4 6 ++ zeros 60 ++ leBytes 4 (3 + 16 * 0) ++ leBytes 4 0 ++ leBytes 8 (2 ^ 5)) .running, 5,
    { node := n0 }, by decide +kernel⟩,
    ⟨withNode (withOp (((live0.wf (CSW_SQ_CFG .west 5) CSW_SQ_CFG.VALID 1).wf (CSW_SQ_CFG .west 5) CSW_SQ_CFG.CONTEXT 1).setSqState .west
    5 2) { node := n0 } |>.setSq .west 5 { limit := 16 }) (leBytes 4 6 ++ zeros 60 ++ leBytes 4 (5 + 16 * 0) ++ leBytes 4 0 ++ leBytes 8
    (2 ^ 5)) .running, n0, nd0 (leBytes 4 6 ++ zeros 60 ++ leBytes 4 (5 + 16 * 0) ++ leBytes 4 0 ++ leBytes 8 (2 ^ 5)) .running, 5,
    { node := n0 }, by decide +kernel⟩,
    ⟨withNode (withObj live0 .west 7 1 5 65536 3 0x2C) (leBytes 4 6 ++ zeros 28 ++ leBytes 4 (0) ++ zeros 4 ++ leBytes 4 (7 + 2 ^ 16) ++
    zeros 20 ++ leBytes 4 4 ++ zeros 12 ++ leBytes 4 1 ++ leBytes 4 4096 ++ leBytes 4 32) .running, n0, nd0 (leBytes 4 6 ++ zeros 28 ++
    leBytes 4 (0) ++ zeros 4 ++ leBytes 4 (7 + 2 ^ 16) ++ zeros 20 ++ leBytes 4 4 ++ zeros 12 ++ leBytes 4 1 ++ leBytes 4 4096 ++ leBytes
    4 32) .running, by decide +kernel⟩,
    ⟨withNode (withObj live0 .west 7 1 5 65536 3 0x2C) (leBytes 4 6 ++ zeros 28 ++ leBytes 4 (7 + 2 ^ 16) ++ zeros 4 ++ leBytes 4 (0) ++
    zeros 20 ++ leBytes 4 6 ++ zeros 12 ++ leBytes 4 (1 + 2 ^ 16) ++ zeros 4 ++ leBytes 4 32 ++ zeros 16 ++ leBytes 4 65504) .running, n0,
    nd0 (leBytes 4 6 ++ zeros 28 ++ leBytes 4 (7 + 2 ^ 16) ++ zeros 4 ++ leBytes 4 (0) ++ zeros 20 ++ leBytes 4 6 ++ zeros 12 ++ leBytes 4
    (1 + 2 ^ 16) ++ zeros 4 ++ leBytes 4 32 ++ zeros 16 ++ leBytes 4 65504) .running, by decide +kernel⟩,
    ⟨withNode (live0) (leBytes 4 6 ++ zeros 60 ++ leBytes 4 (4 + 16 * 0) ++ leBytes 4 1) .running, n0, nd0 (leBytes 4 6 ++ zeros 60 ++
    leBytes 4 (4 + 16 * 0) ++ leBytes 4 1) .running, by decide +kernel⟩,
    ⟨withNode (withObj (withObj (withObj ((withOp ((((live0.wf (CSW_SQ_CFG .west 5) CSW_SQ_CFG.VALID 1).wf (CSW_SQ_CFG .west 5)
    CSW_SQ_CFG.CONTEXT 1).setSqState .west 5 2).wf (CSW_EXPERT_MAP .west 0) CSW_EXPERT_MAP.VALID 1 |>.wf (CSW_EXPERT_MAP .west 0)
    CSW_EXPERT_MAP.QUEUE 5) { node := n0 } |>.setSq .west 5 { limit := 4096 })) .west 7 1 5 65536 1 0x2C) .west 8 1 32 65536 1 0x2C) .west
    9 1 64 65536 1 0x2C) (leBytes 4 6 ++ zeros 28 ++ leBytes 4 (7 + 2 ^ 16) ++ leBytes 4 (8 + 2 ^ 16) ++ leBytes 4 (9 + 2 ^ 16) ++ zeros
    20 ++ leBytes 4 3 ++ leBytes 4 0 ++ leBytes 8 32 ++ leBytes 4 (2 + 2 * 65536) ++ leBytes 4 (0 + 4 * 4096) ++ leBytes 4 64 ++ leBytes 4
    3 ++ leBytes 4 0 ++ leBytes 4 64 ++ leBytes 4 0 ++ leBytes 4 0) .running, n0, nd0 (leBytes 4 6 ++ zeros 28 ++ leBytes 4 (7 + 2 ^ 16)
    ++ leBytes 4 (8 + 2 ^ 16) ++ leBytes 4 (9 + 2 ^ 16) ++ zeros 20 ++ leBytes 4 3 ++ leBytes 4 0 ++ leBytes 8 32 ++ leBytes 4 (2 + 2 *
    65536) ++ leBytes 4 (0 + 4 * 4096) ++ leBytes 4 64 ++ leBytes 4 3 ++ leBytes 4 0 ++ leBytes 4 64 ++ leBytes 4 0 ++ leBytes 4 0)
    .running, { node := n0 }, by decide +kernel⟩,
    ⟨withNode (withObj (withObj (withObj ((withOp ((((live0.wf (CSW_SQ_CFG .west 5) CSW_SQ_CFG.VALID 1).wf (CSW_SQ_CFG .west 5)
    CSW_SQ_CFG.CONTEXT 1).setSqState .west 5 2).wf (CSW_EXPERT_MAP .west 0) CSW_EXPERT_MAP.VALID 1 |>.wf (CSW_EXPERT_MAP .west 0)
    CSW_EXPERT_MAP.QUEUE 5) { node := n0 } |>.setSq .west 5 { limit := 4096 })) .west 7 1 5 65536 1 0x2C) .west 8 1 32 65536 1 0x2C) .west
    9 1 64 65536 1 0x2C) (leBytes 4 6 ++ zeros 28 ++ leBytes 4 (7 + 2 ^ 16) ++ leBytes 4 (8 + 2 ^ 16) ++ leBytes 4 (9 + 2 ^ 16) ++ zeros
    20 ++ leBytes 4 5 ++ leBytes 4 0 ++ leBytes 8 32 ++ leBytes 4 (2 + 2 * 65536) ++ leBytes 4 (0 + 4 * 4096) ++ leBytes 4 64 ++ leBytes 4
    3 ++ leBytes 4 0 ++ leBytes 4 64 ++ leBytes 4 0 ++ leBytes 4 0) .running, n0, nd0 (leBytes 4 6 ++ zeros 28 ++ leBytes 4 (7 + 2 ^ 16)
    ++ leBytes 4 (8 + 2 ^ 16) ++ leBytes 4 (9 + 2 ^ 16) ++ zeros 20 ++ leBytes 4 5 ++ leBytes 4 0 ++ leBytes 8 32 ++ leBytes 4 (2 + 2 *
    65536) ++ leBytes 4 (0 + 4 * 4096) ++ leBytes 4 64 ++ leBytes 4 3 ++ leBytes 4 0 ++ leBytes 4 64 ++ leBytes 4 0 ++ leBytes 4 0)
    .running, { node := n0 }, by decide +kernel⟩,
    ⟨withNode (withObj (withObj (withObj ((withOp ((((live0.wf (CSW_SQ_CFG .west 5) CSW_SQ_CFG.VALID 1).wf (CSW_SQ_CFG .west 5)
    CSW_SQ_CFG.CONTEXT 1).setSqState .west 5 2).wf (CSW_EXPERT_MAP .west 0) CSW_EXPERT_MAP.VALID 1 |>.wf (CSW_EXPERT_MAP .west 0)
    CSW_EXPERT_MAP.QUEUE 5) { node := n0 } |>.setSq .west 5 { limit := 4096 })) .west 7 1 5 65536 1 0x2C) .west 8 1 32 65536 1 0x2C) .west
    9 1 64 65536 1 0x2C) (leBytes 4 6 ++ zeros 28 ++ leBytes 4 (7 + 2 ^ 16) ++ leBytes 4 (8 + 2 ^ 16) ++ leBytes 4 (9 + 2 ^ 16) ++ zeros
    20 ++ leBytes 4 3 ++ leBytes 4 0 ++ leBytes 8 32 ++ leBytes 4 (2 + 2 * 65536) ++ leBytes 4 (0 + 4 * 4096) ++ leBytes 4 64 ++ leBytes 4
    3 ++ leBytes 4 0 ++ leBytes 4 64 ++ leBytes 4 0 ++ leBytes 4 0) .running, n0, nd0 (leBytes 4 6 ++ zeros 28 ++ leBytes 4 (7 + 2 ^ 16)
    ++ leBytes 4 (8 + 2 ^ 16) ++ leBytes 4 (9 + 2 ^ 16) ++ zeros 20 ++ leBytes 4 3 ++ leBytes 4 0 ++ leBytes 8 32 ++ leBytes 4 (2 + 2 *
    65536) ++ leBytes 4 (0 + 4 * 4096) ++ leBytes 4 64 ++ leBytes 4 3 ++ leBytes 4 0 ++ leBytes 4 64 ++ leBytes 4 0 ++ leBytes 4 0)
    .running, by decide +kernel⟩,
    ⟨withNode (withObj (withObj (withObj ((withOp ((((live0.wf (CSW_SQ_CFG .west 5) CSW_SQ_CFG.VALID 1).wf (CSW_SQ_CFG .west 5)
    CSW_SQ_CFG.CONTEXT 1).setSqState .west 5 2).wf (CSW_EXPERT_MAP .west 0) CSW_EXPERT_MAP.VALID 1 |>.wf (CSW_EXPERT_MAP .west 0)
    CSW_EXPERT_MAP.QUEUE 5) { node := n0 } |>.setSq .west 5 { limit := 4096 })) .west 7 1 5 65536 1 0x2C) .west 8 1 32 65536 1 0x2C) .west
    9 1 64 65536 1 0x2C) (leBytes 4 6 ++ zeros 28 ++ leBytes 4 (7 + 2 ^ 16) ++ leBytes 4 (8 + 2 ^ 16) ++ leBytes 4 (9 + 2 ^ 16) ++ zeros
    20 ++ leBytes 4 5 ++ leBytes 4 0 ++ leBytes 8 32 ++ leBytes 4 (2 + 2 * 65536) ++ leBytes 4 (0 + 4 * 4096) ++ leBytes 4 64 ++ leBytes 4
    3 ++ leBytes 4 0 ++ leBytes 4 64 ++ leBytes 4 0 ++ leBytes 4 0) .running, n0, nd0 (leBytes 4 6 ++ zeros 28 ++ leBytes 4 (7 + 2 ^ 16)
    ++ leBytes 4 (8 + 2 ^ 16) ++ leBytes 4 (9 + 2 ^ 16) ++ zeros 20 ++ leBytes 4 5 ++ leBytes 4 0 ++ leBytes 8 32 ++ leBytes 4 (2 + 2 *
    65536) ++ leBytes 4 (0 + 4 * 4096) ++ leBytes 4 64 ++ leBytes 4 3 ++ leBytes 4 0 ++ leBytes 4 64 ++ leBytes 4 0 ++ leBytes 4 0)
    .running, by decide +kernel⟩,
    ⟨withNode (withObj (withObj (withObj (withOp (((live0.wf (CSW_RQ_CFG .west 5) CSW_RQ_CFG.VALID 1).wf (CSW_RQ_CFG .west 5)
    CSW_RQ_CFG.CONTEXT 1).setRqState .west 5 2) { node := n0, ends := [5], full := 3, used := [(0, 2)] }) .west 7 1 5 65536 1 0x2C) .west
    8 1 32 65536 1 0x2C) .west 9 1 64 65536 1 0x2C) (leBytes 4 6 ++ zeros 28 ++ leBytes 4 (7 + 2 ^ 16) ++ leBytes 4 (8 + 2 ^ 16) ++
    leBytes 4 (9 + 2 ^ 16) ++ zeros 20 ++ leBytes 4 4 ++ leBytes 4 0 ++ leBytes 8 32 ++ leBytes 4 (2 + 2 * 65536) ++ leBytes 4 (0 + 4 *
    4096) ++ leBytes 4 64 ++ leBytes 4 3 ++ leBytes 4 0 ++ leBytes 4 64 ++ leBytes 4 0 ++ leBytes 4 0) .running, n0, nd0 (leBytes 4 6 ++
    zeros 28 ++ leBytes 4 (7 + 2 ^ 16) ++ leBytes 4 (8 + 2 ^ 16) ++ leBytes 4 (9 + 2 ^ 16) ++ zeros 20 ++ leBytes 4 4 ++ leBytes 4 0 ++
    leBytes 8 32 ++ leBytes 4 (2 + 2 * 65536) ++ leBytes 4 (0 + 4 * 4096) ++ leBytes 4 64 ++ leBytes 4 3 ++ leBytes 4 0 ++ leBytes 4 64 ++
    leBytes 4 0 ++ leBytes 4 0) .running, by decide +kernel⟩,
    ⟨withNode (withObj (withObj (withObj (withOp (((live0.wf (CSW_RQ_CFG .west 5) CSW_RQ_CFG.VALID 1).wf (CSW_RQ_CFG .west 5)
    CSW_RQ_CFG.CONTEXT 1).setRqState .west 5 2) { node := n0, ends := [5], cells := [0, 3] }) .west 7 1 5 65536 1 0x2C) .west 8 1 32 65536
    1 0x2C) .west 9 1 64 65536 1 0x2C) (leBytes 4 6 ++ zeros 28 ++ leBytes 4 (7 + 2 ^ 16) ++ leBytes 4 (8 + 2 ^ 16) ++ leBytes 4 (9 + 2 ^
    16) ++ zeros 20 ++ leBytes 4 6 ++ leBytes 4 0 ++ leBytes 8 32 ++ leBytes 4 (2 + 2 * 65536) ++ leBytes 4 (0 + 4 * 4096) ++ leBytes 4 64
    ++ leBytes 4 3 ++ leBytes 4 0 ++ leBytes 4 64 ++ leBytes 4 0 ++ leBytes 4 0) .running, n0, nd0 (leBytes 4 6 ++ zeros 28 ++ leBytes 4
    (7 + 2 ^ 16) ++ leBytes 4 (8 + 2 ^ 16) ++ leBytes 4 (9 + 2 ^ 16) ++ zeros 20 ++ leBytes 4 6 ++ leBytes 4 0 ++ leBytes 8 32 ++ leBytes
    4 (2 + 2 * 65536) ++ leBytes 4 (0 + 4 * 4096) ++ leBytes 4 64 ++ leBytes 4 3 ++ leBytes 4 0 ++ leBytes 4 64 ++ leBytes 4 0 ++ leBytes
    4 0) .running, by decide +kernel⟩,
    ⟨(withNode (withObj (withObj (withObj (((withOp (((live0.wf (CSW_RQ_CFG .west 5) CSW_RQ_CFG.VALID 1).wf (CSW_RQ_CFG .west 5)
    CSW_RQ_CFG.CONTEXT 1).setRqState .west 5 2) { node := n0 }).setRq .west 5
    { buf := 1048576, size := 65536, received := (expHeader 9 0 0 1 1 2 0 3 0 ++ List.replicate 64 7#8).length, consumer := some (.node n0) }
    |>.memPut .west 1 1048576 (expHeader 9 0 0 1 1 2 0 3 0 ++ List.replicate 64 7#8))) .west 7 1 5 65536 1 0x2C) .west 8 1 32 65536 1
    0x2C) .west 9 1 64 65536 1 0x2C) (leBytes 4 6 ++ zeros 28 ++ leBytes 4 (7 + 2 ^ 16) ++ leBytes 4 (8 + 2 ^ 16) ++ leBytes 4 (9 + 2 ^
    16) ++ zeros 20 ++ leBytes 4 4 ++ leBytes 4 0 ++ leBytes 8 32 ++ leBytes 4 (2 + 2 * 65536) ++ leBytes 4 (0 + 4 * 4096) ++ leBytes 4 64
    ++ leBytes 4 3 ++ leBytes 4 0 ++ leBytes 4 64 ++ leBytes 4 0 ++ leBytes 4 0) .running), n0, nd0 (leBytes 4 6 ++ zeros 28 ++ leBytes 4
    (7 + 2 ^ 16) ++ leBytes 4 (8 + 2 ^ 16) ++ leBytes 4 (9 + 2 ^ 16) ++ zeros 20 ++ leBytes 4 4 ++ leBytes 4 0 ++ leBytes 8 32 ++ leBytes
    4 (2 + 2 * 65536) ++ leBytes 4 (0 + 4 * 4096) ++ leBytes 4 64 ++ leBytes 4 3 ++ leBytes 4 0 ++ leBytes 4 64 ++ leBytes 4 0 ++ leBytes
    4 0) .running, 5, 2, { node := n0 }, expHeader 9 0 0 1 1 2 0 3 0 ++ List.replicate 64 7#8, by decide +kernel⟩,
    ⟨(withNode (withObj (withObj (withObj (((withOp (((live0.wf (CSW_RQ_CFG .west 5) CSW_RQ_CFG.VALID 1).wf (CSW_RQ_CFG .west 5)
    CSW_RQ_CFG.CONTEXT 1).setRqState .west 5 2) { node := n0 }).setRq .west 5
    { buf := 1048576, size := 65536, received := (expHeader 9 0 0 1 1 2 0 3 0 ++ List.replicate 64 7#8).length, consumer := some (.node n0) }
    |>.memPut .west 1 1048576 (expHeader 9 0 0 1 1 2 0 3 0 ++ List.replicate 64 7#8))) .west 7 1 5 65536 1 0x2C) .west 8 1 32 65536 1
    0x2C) .west 9 1 64 65536 1 0x2C) (leBytes 4 6 ++ zeros 28 ++ leBytes 4 (7 + 2 ^ 16) ++ leBytes 4 (8 + 2 ^ 16) ++ leBytes 4 (9 + 2 ^
    16) ++ zeros 20 ++ leBytes 4 6 ++ leBytes 4 0 ++ leBytes 8 32 ++ leBytes 4 (2 + 2 * 65536) ++ leBytes 4 (0 + 4 * 4096) ++ leBytes 4 64
    ++ leBytes 4 3 ++ leBytes 4 0 ++ leBytes 4 64 ++ leBytes 4 0 ++ leBytes 4 0) .running), n0, nd0 (leBytes 4 6 ++ zeros 28 ++ leBytes 4
    (7 + 2 ^ 16) ++ leBytes 4 (8 + 2 ^ 16) ++ leBytes 4 (9 + 2 ^ 16) ++ zeros 20 ++ leBytes 4 6 ++ leBytes 4 0 ++ leBytes 8 32 ++ leBytes
    4 (2 + 2 * 65536) ++ leBytes 4 (0 + 4 * 4096) ++ leBytes 4 64 ++ leBytes 4 3 ++ leBytes 4 0 ++ leBytes 4 64 ++ leBytes 4 0 ++ leBytes
    4 0) .running, 5, { node := n0 }, expHeader 9 0 0 1 1 2 0 3 0 ++ List.replicate 64 7#8, by decide +kernel⟩,
    ⟨(withNode (withObj (withObj (withObj (((withOp (((live0.wf (CSW_RQ_CFG .west 5) CSW_RQ_CFG.VALID 1).wf (CSW_RQ_CFG .west 5)
    CSW_RQ_CFG.CONTEXT 1).setRqState .west 5 2) { node := n0 }).setRq .west 5
    { buf := 1048576, size := 65536, received := (expHeader 9 0 1 0 0 0 2 3 0).length, consumer := some (.node n0) } |>.memPut .west 1
    1048576 (expHeader 9 0 1 0 0 0 2 3 0))) .west 7 1 5 65536 1 0x2C) .west 8 1 32 65536 1 0x2C) .west 9 1 64 65536 1 0x2C) (leBytes 4 6
    ++ zeros 28 ++ leBytes 4 (7 + 2 ^ 16) ++ leBytes 4 (8 + 2 ^ 16) ++ leBytes 4 (9 + 2 ^ 16) ++ zeros 20 ++ leBytes 4 4 ++ leBytes 4 0 ++
    leBytes 8 32 ++ leBytes 4 (2 + 2 * 65536) ++ leBytes 4 (0 + 4 * 4096) ++ leBytes 4 64 ++ leBytes 4 3 ++ leBytes 4 0 ++ leBytes 4 64 ++
    leBytes 4 0 ++ leBytes 4 0) .running), n0, nd0 (leBytes 4 6 ++ zeros 28 ++ leBytes 4 (7 + 2 ^ 16) ++ leBytes 4 (8 + 2 ^ 16) ++ leBytes
    4 (9 + 2 ^ 16) ++ zeros 20 ++ leBytes 4 4 ++ leBytes 4 0 ++ leBytes 8 32 ++ leBytes 4 (2 + 2 * 65536) ++ leBytes 4 (0 + 4 * 4096) ++
    leBytes 4 64 ++ leBytes 4 3 ++ leBytes 4 0 ++ leBytes 4 64 ++ leBytes 4 0 ++ leBytes 4 0) .running, 5, { node := n0 }, expHeader 9 0 1
    0 0 0 2 3 0, by decide +kernel⟩,
    ⟨(withNode (withObj (withObj (withObj (((withOp (((live0.wf (CSW_RQ_CFG .west 5) CSW_RQ_CFG.VALID 1).wf (CSW_RQ_CFG .west 5)
    CSW_RQ_CFG.CONTEXT 1).setRqState .west 5 2) { node := n0 }).setRq .west 5
    { buf := 1048576, size := 65536, received := (expHeader 9 0 1 0 0 0 2 3 0).length, consumer := some (.node n0) } |>.memPut .west 1
    1048576 (expHeader 9 0 1 0 0 0 2 3 0))) .west 7 1 5 65536 1 0x2C) .west 8 1 32 65536 1 0x2C) .west 9 1 64 65536 1 0x2C) (leBytes 4 6
    ++ zeros 28 ++ leBytes 4 (7 + 2 ^ 16) ++ leBytes 4 (8 + 2 ^ 16) ++ leBytes 4 (9 + 2 ^ 16) ++ zeros 20 ++ leBytes 4 6 ++ leBytes 4 0 ++
    leBytes 8 32 ++ leBytes 4 (2 + 2 * 65536) ++ leBytes 4 (0 + 4 * 4096) ++ leBytes 4 64 ++ leBytes 4 3 ++ leBytes 4 0 ++ leBytes 4 64 ++
    leBytes 4 0 ++ leBytes 4 0) .running), n0, nd0 (leBytes 4 6 ++ zeros 28 ++ leBytes 4 (7 + 2 ^ 16) ++ leBytes 4 (8 + 2 ^ 16) ++ leBytes
    4 (9 + 2 ^ 16) ++ zeros 20 ++ leBytes 4 6 ++ leBytes 4 0 ++ leBytes 8 32 ++ leBytes 4 (2 + 2 * 65536) ++ leBytes 4 (0 + 4 * 4096) ++
    leBytes 4 64 ++ leBytes 4 3 ++ leBytes 4 0 ++ leBytes 4 64 ++ leBytes 4 0 ++ leBytes 4 0) .running, 5, { node := n0 }, expHeader 9 0 1
    0 0 0 2 3 0, by decide +kernel⟩,
    ⟨withNode (live0) (leBytes 4 6 ++ zeros 60 ++ leBytes 4 (6 + 16 * 0) ++ leBytes 4 1) .running, n0, nd0 (leBytes 4 6 ++ zeros 60 ++
    leBytes 4 (6 + 16 * 0) ++ leBytes 4 1) .running, by decide +kernel⟩⟩

theorem witness_HostKeySequence :
    (∃ (s : State) (h : Half), s.live = true ∧ (s.half h).nv.stopping = false ∧ (s.half h).nv.host.step = 0) ∧
    (∃ (s : State) (h : Half), s.live = true ∧ (s.half h).nv.stopping = false ∧ (s.half h).nv.host.step = 1) ∧
    (∃ (s : State) (h : Half) (v : Nat), s.live = true ∧ (s.half h).nv.stopping = false ∧ (s.half h).nv.host.step = 2 ∧ v < 256) ∧
    (∃ (s : State) (h : Half) (w v : Nat), s.live = true ∧ ((s.half h).nv.stopping = true ∨ (s.half h).nv.host.step ≠ 1 ∨ w ≠ 2 ∨ v ≠
    0x3C)) ∧
    (∃ (s : State) (h : Half) (f w v : Nat), s.live = true ∧ f ≠ 0) ∧
    (∃ (s : State) (h : Half), s.live = true ∧ (s.half h).nv.host.step ≠ 0) :=
  ⟨⟨live0, .east, by decide +kernel⟩,
    ⟨nvw live0 (fun n => { n with host := { step := 1 } }), .west, by decide +kernel⟩,
    ⟨nvw live0 (fun n => { n with host := { step := 2 } }), .west, 255, by decide +kernel⟩,
    ⟨nvw live0 (fun n => { n with host := { step := 3 } }), .west, 2, 0x3C, by decide +kernel⟩,
    ⟨live0, .west, 7, 2, 0xC3, by decide +kernel⟩,
    ⟨nvw live0 (fun n => { n with host := { step := 3 } }), .west, by decide +kernel⟩⟩

theorem witness_HostCommandsThatEndAtOnce :
    (∃ (s : State) (h : Half), s.live = true ∧ s.armed h 0x80 = true ∧ (s.half h).nv.host.cmd = none) ∧
    (∃ (s : State) (h : Half), s.live = true ∧ s.armed h 0x50 = true ∧ (s.half h).nv.host.cmd = none ∧ (s.half h).nv.host.cont = none) ∧
    (∃ (s : State) (h : Half), s.live = true ∧ s.armed h 0x5F = true ∧ (s.half h).nv.host.cmd = none) ∧
    (∃ (s : State) (h : Half), s.live = true ∧ s.armed h 0xF0 = true ∧ (s.half h).nv.host.cmd = none) ∧
    (∃ (s : State) (h : Half) (c : NvCmd), s.live = true ∧ s.armed h 0xF0 = true ∧ s.nvCmd h .host = some c ∧ c.phase = .steps ∧ (s.half
    h).nv.ownPulse .host = false) ∧
    (∃ (s : State) (h : Half), s.live = true ∧ s.armed h 0x70 = true ∧ (s.half h).nv.host.cmd = none) ∧
    (∃ (s : State) (h : Half), s.live = true ∧ (s.half h).nv.stopping = false ∧ (s.half h).nv.host.step = 3 ∧ (s.half h).nv.host.accepts
    (s.half h).nv.host.key = true ∧ headerCheck .host (s.half h).nv.host.key 0x20 (s.paramBlock h) ≠ 0) ∧
    (∃ (s : State) (h : Half) (c : NvCmd) (r : Nat), s.live = true ∧ s.nvCmd h .host = some c ∧ c.phase = .ending r ∧ r < 256 ∧ c.code <
    256) ∧
    (∃ (s : State) (h : Half) (c : NvCmd) (r : Nat), s.live = true ∧ s.nvCmd h .loader = some c ∧ c.phase = .ending r ∧ r < 256 ∧ c.code <
    256 ∧ (s.half h).ldr.phase = .erase) :=
  ⟨⟨armed0 0x80 [], .west, by decide +kernel⟩,
    ⟨armed0 0x50 [7, 2], .west, by decide +kernel⟩,
    ⟨nvw (armed0 0x5F []) (fun n =>
    { n with host := { n.host with cont := some (3, 0) }, reads := [{ func := 0, off := 64, len := 4 }] }), .west, by decide +kernel⟩,
    ⟨armed0 0xF0 [], .west, by decide +kernel⟩,
    ⟨nvw (armed0 0xF0 []) (fun n => { n with host := { n.host with cmd := some { code := 0x40, planes := [5] } } }), .west,
    { code := 0x40, planes := [5] }, by decide +kernel⟩,
    ⟨armed0 0x70 [16 + 32 * 256], .west, by decide +kernel⟩,
    ⟨armed0 0x30 [0], .west, by decide +kernel⟩,
    ⟨cmdOn .host { code := 0x40, tag := 9, phase := .ending 20, words := [1, 2] }, .west,
    { code := 0x40, tag := 9, phase := .ending 20, words := [1, 2] }, 20, by decide +kernel⟩,
    ⟨(let s0 := cmdOn .loader { code := 0x20, phase := .ending 1 };
    { s0 with west := { s0.west with ldr := { phase := .erase, planes := [5], asked := true } } }), .west,
    { code := 0x20, phase := .ending 1 }, 1, by decide +kernel⟩⟩

theorem witness_CommandsBegun :
    (∃ (s : State) (h : Half), s.live = true ∧ s.armed h 0x10 = true ∧ (s.half h).nv.host.cmd = none ∧ (s.half h).nv.host.cont = none) ∧
    (∃ (s : State) (h : Half), s.live = true ∧ s.armed h 0x20 = true ∧ (s.half h).nv.host.cmd = none ∧ (s.half h).nv.host.cont = none) ∧
    (∃ (s : State) (h : Half), s.live = true ∧ s.armed h 0x30 = true ∧ (s.half h).nv.host.cmd = none ∧ (s.half h).nv.host.cont = none) ∧
    (∃ (s : State) (h : Half), s.live = true ∧ s.armed h 0x40 = true ∧ (s.half h).nv.host.cmd = none ∧ (s.half h).nv.host.cont = none) ∧
    (∃ (s : State) (h : Half), s.live = true ∧ s.armed h 0x60 = true ∧ (s.half h).nv.host.cmd = none ∧ (s.half h).nv.host.cont = none) ∧
    (∃ (s : State) (h : Half), s.live = true ∧ s.armed h 0x61 = true ∧ (s.half h).nv.host.cmd = none ∧ (s.half h).nv.host.cont = none ∧
    s.passHash h (s.paramBlock h) = mapGet (fun _ => []) (s.half h).nv.hashes (bits ((s.paramBlock h).getD 2 0) 0 9)) ∧
    (∃ (s : State) (h : Half), s.live = true ∧ s.armed h 0x61 = true ∧ (s.half h).nv.host.cmd = none ∧ (s.half h).nv.host.cont = none ∧
    s.passHash h (s.paramBlock h) ≠ mapGet (fun _ => []) (s.half h).nv.hashes (bits ((s.paramBlock h).getD 2 0) 0 9)) ∧
    (∃ (s : State) (h : Half), s.live = true ∧ s.armed h 0x71 = true ∧ (s.half h).nv.host.cmd = none ∧ (s.half h).nv.host.cont = none) ∧
    (∃ (s : State) (h : Half), s.live = true ∧ (s.half h).nv.stopping = false ∧ s.nvCmd h .loader = none ∧ (s.half h).ldr.asked = false ∧
    (s.half h).ldr.phase = .program ∧ (s.half h).ldr.recs ≠ []) ∧
    (∃ (s : State) (h : Half), s.live = true ∧ (s.half h).nv.stopping = false ∧ s.nvCmd h .loader = none ∧ (s.half h).ldr.asked = false ∧
    (s.half h).ldr.phase = .prove ∧ (s.half h).ldr.planes ≠ []) ∧
    (∃ (s : State) (h : Half), s.live = true ∧ (s.half h).nv.stopping = false ∧ s.nvCmd h .loader = none ∧ (s.half h).ldr.asked = false ∧
    (s.half h).ldr.phase = .erase ∧ (s.half h).ldr.planes ≠ []) ∧
    (∃ (s : State) (h : Half) (c : NvCmd), s.live = true ∧ (s.half h).nv.stopping = false ∧ s.nvCmd h .loader = some c ∧ c.abort = [] ∧
    (s.half h).ldr.aborted = true ∧ (s.half h).nv.ownPulse .loader = false) ∧
    (∃ (s : State) (h : Half), s.live = true) :=
  ⟨⟨nvw (armed0 0x10 [0, 1]) (fun n => { n with buffer := [(2, 5), (4, 1)] }), .west, by decide +kernel⟩,
    ⟨armed0 0x20 [32767], .west, by decide +kernel⟩,
    ⟨armed0 0x30 [5 + 65536], .west, by decide +kernel⟩,
    ⟨armed0 0x40 [32767, 3 + 1023 * 65536], .west, by decide +kernel⟩,
    ⟨armed0 0x60 [5 + 65536, 0, 1], .west, by decide +kernel⟩,
    ⟨(let s0 := (armed0 0x61 [5]).wf (NV_PROT_STATE .west 5) NV_PROT_STATE.MODE 2; nvw s0 (fun n =>
    { n with hashes := [(5, s0.passHash .west (s0.paramBlock .west))] })), .west, by decide +kernel⟩,
    ⟨(armed0 0x61 [5]).wf (NV_PROT_STATE .west 5) NV_PROT_STATE.MODE 2, .west, by decide +kernel⟩,
    ⟨armed0 0x71 [48, 2], .west, by decide +kernel⟩,
    ⟨{ live0 with west := { live0.west with ldr := { phase := .program, recs := [zeros 264] } } }, .west, by decide +kernel⟩,
    ⟨{ live0 with west := { live0.west with ldr := { phase := .prove, planes := [5] } } }, .west, by decide +kernel⟩,
    ⟨{ live0 with west := { live0.west with ldr := { phase := .erase, planes := [5] } } }, .west, by decide +kernel⟩,
    ⟨(let s0 := cmdOn .loader { code := 0x20, planes := [5] };
    { s0 with west := { s0.west with ldr := { phase := .erase, aborted := true } } }), .west, { code := 0x20, planes := [5] },
    by decide +kernel⟩,
    ⟨live0, .west, by decide +kernel⟩⟩

theorem witness_StepsOfTheController :
    (∃ (s : State) (h : Half) (i : Nat) (x : NvStep), s.live = true ∧ (s.half h).nv.stopping = false ∧ (s.half h).nv.firstPulse = some i ∧
    (s.half h).nv.pulseQ[i]? = some x ∧ x.plane < 32768 ∧ s.domOn (pumpDom h) = true ∧ s.inPulse h + (s.half h).nv.booked + pulseWeight x
    ≤ 512) ∧
    (∃ (s : State) (h : Half) (seam : Nat) (x : NvStep), s.live = true ∧ (s.half h).nv.stopping = false ∧ (s.half h).nv.scanned = true ∧
    seam < 2048 ∧ firstStep (pendingOf (s.half h).nv seam) = some x ∧ s.domOn (galDom h (seam / 64)) = true ∧ (s.rf (SEAM_STATUS h seam)
    SEAM_STATUS.STATE = 0 ∨ s.rf (SEAM_STATUS h seam) SEAM_STATUS.STATE = 2) ∧ s.waveOn h seam = false ∧ s.waveWaits h seam = false ∧
    (x.kind = .erase ∨ x.kind = .verify ∨ x.kind = .margin)) ∧
    (∃ (s : State) (h : Half) (seam : Nat) (x : NvStep), s.live = true ∧ (s.half h).nv.stopping = false ∧ (s.half h).nv.scanned = true ∧
    seam < 2048 ∧ firstStep (pendingOf (s.half h).nv seam) = some x ∧ s.domOn (galDom h (seam / 64)) = true ∧ (s.rf (SEAM_STATUS h seam)
    SEAM_STATUS.STATE = 0 ∨ s.rf (SEAM_STATUS h seam) SEAM_STATUS.STATE = 2) ∧ s.waveOn h seam = false ∧ s.waveWaits h seam = false ∧
    (x.kind = .program ∨ x.kind = .repulse)) ∧
    (∃ (s : State) (h : Half) (seam : Nat) (x : NvStep) (p : NvPort) (c : NvCmd) (r : RowJob), s.live = true ∧ (s.half h).nv.stopping =
    false ∧ seam < 2048 ∧ (s.half h).nv.running.find? (fun (e : Nat × NvStep) => e.1 == seam) = some (seam, x) ∧ x.own = .cmd p ∧ x.kind =
    .program ∧ s.nvCmd h p = some c ∧ c.abort = [] ∧ c.rows[c.rows.findIdx (fun (r : RowJob) => r.plane == x.plane && r.row == x.row &&
    !r.done)]? = some r) ∧
    (∃ (s : State) (h : Half) (seam : Nat) (x : NvStep) (res : StepResult), s.stage ≠ .off ∧ (s.half h).nv.stopping = true ∧ seam < 2048 ∧
    (s.half h).nv.running.find? (fun (e : Nat × NvStep) => e.1 == seam) = some (seam, x)) ∧
    (∃ (s : State) (h : Half) (p : NvPort) (k us : Nat) (c : NvCmd) (r : RowJob), s.live = true ∧ (s.half h).nv.stopping = false ∧ s.nvCmd
    h p = some c ∧ c.rows[k]? = some r ∧ r.verified = true ∧ r.done = false ∧ c.phase = .steps ∧ (c.rows.eraseIdx k).all (fun (x : RowJob)
    => x.done) = true) ∧
    (∃ (s : State) (h : Half) (p : NvPort) (k : Nat) (cells : List CellAt) (c : NvCmd) (r : RowJob), s.live = true ∧ (s.half
    h).nv.stopping = false ∧ s.nvCmd h p = some c ∧ c.rows[k]? = some r ∧ r.started = true ∧ r.verified = false ∧ (s.half h).nv.running =
    [] ∧ okCells cells ≠ []) ∧
    (∃ (s : State) (h : Half) (p : NvPort) (c : NvCmd) (q : Nat), s.live = true ∧ (s.half h).nv.stopping = false ∧ s.nvCmd h p = some c ∧
    c.erasing = some q ∧ q < 32768 ∧ c.abort = [] ∧ (s.half h).nv.running = []) ∧
    (∃ (s : State) (h : Half) (c : NvCmd), s.live = true ∧ (s.half h).nv.stopping = false ∧ s.nvCmd h .host = some c ∧ c.phase = .delay ∧
    c.group < 512) :=
  ⟨⟨nvw (domsOn live0 [pumpDom .west]) (fun n => { n with pulseQ := [{ own := .cmd .host, kind := .erase, plane := 32767 }] }), .west, 0,
    { own := .cmd .host, kind := .erase, plane := 32767 }, by decide +kernel⟩,
    ⟨nvw (domsOn live0 [galDom .west 31]) (fun n =>
    { n with scanned := true, pending := [(2047, [{ own := .cmd .host, kind := .margin, plane := 32767 }])] }), .west, 2047,
    { own := .cmd .host, kind := .margin, plane := 32767 }, by decide +kernel⟩,
    ⟨nvw (domsOn live0 [galDom .west 31]) (fun n =>
    { n with scanned := true, pending := [(2047, [{ own := .cmd .host, kind := .program, plane := 32767 }])] }), .west, 2047,
    { own := .cmd .host, kind := .program, plane := 32767 }, by decide +kernel⟩,
    ⟨nvw live0 (fun n =>
    { n with running := [(3, { own := .cmd .host, kind := .program, plane := 50, row := 9 })], host := { cmd := some { code := 0x10, rows := [{ plane := 50, row := 9, cells := List.replicate 544 (3, 0), started := true }] } } }),
    .west, 3, { own := .cmd .host, kind := .program, plane := 50, row := 9 }, .host,
    { code := 0x10, rows := [{ plane := 50, row := 9, cells := List.replicate 544 (3, 0), started := true }] },
    { plane := 50, row := 9, cells := List.replicate 544 (3, 0), started := true }, by decide +kernel⟩,
    ⟨nvw live0 (fun n => { n with stopping := true, running := [(3, { own := .refresh, kind := .repulse, plane := 50, row := 9 })] }),
    .west, 3, { own := .refresh, kind := .repulse, plane := 50, row := 9 }, .verified, by decide +kernel⟩,
    ⟨cmdOn .host { code := 0x10, longest := 5, rows := [{ plane := 50, row := 9, verified := true }] }, .west, .host, 0, 70,
    { code := 0x10, longest := 5, rows := [{ plane := 50, row := 9, verified := true }] }, { plane := 50, row := 9, verified := true },
    by decide +kernel⟩,
    ⟨cmdOn .host { code := 0x10, rows := [{ plane := 50, row := 9, started := true, cells := List.replicate 544 (3, 0) }] }, .west, .host,
    0, [{ col := 543, cell := 0, level := 2 }],
    { code := 0x10, rows := [{ plane := 50, row := 9, started := true, cells := List.replicate 544 (3, 0) }] },
    { plane := 50, row := 9, started := true, cells := List.replicate 544 (3, 0) }, by decide +kernel⟩,
    ⟨nvw (cmdOn .host { code := 0x20, planes := [32767] }) (fun n => { n with rows := [(1024 * 32767 + 5, List.replicate 544 (3, 0))] }),
    .west, .host, { code := 0x20, planes := [32767] }, 32767, by decide +kernel⟩,
    ⟨cmdOn .host { code := 0x61, group := 511, phase := .delay }, .west, { code := 0x61, group := 511, phase := .delay },
    by decide +kernel⟩⟩

theorem witness_LedgerAndBrownout :
    (∃ (s : State) (h : Half) (e : LedgerRec × LedgerFor) (p : NvPort), s.live = true ∧ (s.half h).nv.stopping = false ∧ (s.half
    h).nv.scanned = true ∧ (s.half h).nv.compacting = false ∧ (s.half h).nv.ledgerQ.find? (s.commitReady h) = some e ∧ e.2 = .cmd p) ∧
    (∃ (s : State) (h : Half) (e : LedgerRec × LedgerFor) (p : NvPort) (c : NvCmd) (q : Nat) (l : List Nat), s.live = true ∧ (s.half
    h).nv.stopping = false ∧ (s.half h).nv.scanned = true ∧ (s.half h).nv.compacting = false ∧ (s.half h).nv.ledgerQ.find? (s.commitReady
    h) = some e ∧ e.2 = .cmd p ∧ e.1.type = 1 ∧ s.nvCmd h p = some c ∧ c.planes = q :: l) ∧
    (∃ (s : State) (h : Half), s.live = true ∧ (s.half h).nv.compacting = true) ∧
    (∃ (s : State) (h : Half), s.live = true ∧ (s.half h).nv.stopping = false ∧ (s.half h).nv.scanned = false) ∧
    (∃ (s : State) (h : Half), s.stage ≠ .off) ∧
    (∃ (s : State) (h : Half), s.stage ≠ .off) :=
  ⟨⟨nvw (cmdOn .host { code := 0x20, planes := [50], phase := .ledgerBegin }) (fun n =>
    { n with scanned := true, ledgerQ := [({ type := 1, subject := 50, seq := 0, value := 0 }, .cmd .host)] }), .west,
    ({ type := 1, subject := 50, seq := 0, value := 0 }, .cmd .host), .host, by decide +kernel⟩,
    ⟨nvw (cmdOn .host { code := 0x20, planes := [50], phase := .ledgerBegin }) (fun n =>
    { n with scanned := true, ledgerQ := [({ type := 1, subject := 50, seq := 0, value := 0 }, .cmd .host)] }), .west,
    ({ type := 1, subject := 50, seq := 0, value := 0 }, .cmd .host), .host, { code := 0x20, planes := [50], phase := .ledgerBegin }, 50,
    [], by decide +kernel⟩,
    ⟨nvw live0 (fun n =>
    { n with compacting := true, bank0 := [({ type := 6, subject := 0, seq := 0, value := 4 } : LedgerRec).sealed 1, ({ type := 1, subject := 5, seq := 0, value := 0 } : LedgerRec).sealed 2, ({ type := 5, subject := 0, seq := 0, value := 7 } : LedgerRec).sealed 3] }),
    .west, by decide +kernel⟩,
    ⟨nvw live0 (fun n =>
    { n with bank1 := [({ type := 6, subject := 0, seq := 0, value := 4 } : LedgerRec).sealed 1, ({ type := 1, subject := 5, seq := 0, value := 0 } : LedgerRec).sealed 2, ({ type := 1, subject := 32767, seq := 0, value := 7 } : LedgerRec).sealed 3, ({ type := 2, subject := 5, seq := 0, value := 1 } : LedgerRec).sealed 4] }),
    .west, by decide +kernel⟩,
    ⟨nvw (live0.wf (NV_BROWNOUT .west) NV_BROWNOUT.TRIPS 65535) (fun n =>
    { n with pulseQ := [{ own := .refresh, kind := .repulse, plane := 3 }] }), .west, by decide +kernel⟩,
    ⟨live0.wf (NV_BROWNOUT .east) NV_BROWNOUT.ACTIVE 1, .east, by decide +kernel⟩⟩

theorem witness_PlaneTableAndAges :
    (∃ (s : State) (h : Half) (q : Nat), s.live = true ∧ q < 32768 ∧ s.planeEn h q = true ∧ s.planeDue h q = true) ∧
    (∃ (s : State) (h : Half) (q : Nat) (r : Refresh), s.live = true ∧ s.refreshAt h q 1024 = some r ∧ 0 < s.wall h ∧ q < 32768) ∧
    (∃ (s : State) (h : Half), s.live = true ∧ s.nvCmd h .host = none ∧ s.nvCmd h .loader = none ∧ (s.half h).nv.releases = [] ∧ (s.half
    h).nv.committing.all (fun (x : Nat) => decide (x < 2048)) = true) ∧
    (∃ (s : State) (h : Half) (c : NvCmd) (q : Nat) (l : List Nat), s.live = true ∧ (s.half h).nv.stopping = false ∧ s.nvCmd h .host =
    some c ∧ s.nvCmd h .loader = none ∧ c.phase = .commit ∧ c.abort = [] ∧ c.planes = q :: l ∧ q < 32768 ∧ (s.half h).nv.committing.all
    (fun (x : Nat) => decide (x < 2048)) = true) ∧
    (∃ (s : State) (h : Half) (x v : Nat), s.live = true ∧ x < 2048 ∧ (bits v 0 16 = 0 ∨ s.rf (SEAM_PLANE_CFG h x) SEAM_PLANE_CFG.EN = 0)
    ∧ (∀ i < 16, s.health h (16 * x + i) ≠ 5)) ∧
    (∃ (s : State) (h : Half) (x v i : Nat), s.live = true ∧ x < 2048 ∧ i < 16 ∧ bit (s.rf (SEAM_PLANE_CFG h x) SEAM_PLANE_CFG.EN) i =
    true ∧ bit v i = true ∧ bit (s.rf (SEAM_PLANE_CFG h x) SEAM_PLANE_CFG.W7) i ≠ bit v (16 + i)) ∧
    (∃ (s : State) (h : Half) (i v : Nat), s.live = true ∧ i < 1024) ∧
    (∃ (s : State), (s.stage ≠ .off) ∧ (∀ h : Half, s.wall h ≠ 0 ∧ s.wall h < 2 ^ 32 - 1)) ∧
    (∃ (s : State) (h : Half) (v : Nat), s.live = true ∧ v < 2 ^ 32 ∧ s.wall h ≤ v ∧ v ≠ 0) ∧
    (∃ (s : State) (h : Half) (v : Nat), s.live = true ∧ v % 2 ^ 32 < s.wall h) ∧
    (∃ (s : State) (h : Half) (off len : Nat) (q im : Nat) (bs : List Byte), s.live = true ∧ off < 0x100000 ∧ len = 64 ∧ off % 64 = 0 ∧
    (s.half h).nv.host.cont = some (q, im) ∧ (s.half h).nv.sensed.find? (fun (e : Nat × List Byte) => e.1 == off / 1024) = some (off /
    1024, bs)) ∧
    (∃ (s : State) (h : Half) (off len : Nat) (q im : Nat), s.live = true ∧ off < 0x100000 ∧ len = 64 ∧ off % 64 = 0 ∧ (s.half
    h).nv.host.cont = some (q, im) ∧ (s.half h).nv.sensed.find? (fun (e : Nat × List Byte) => e.1 == off / 1024) = none) ∧
    (∃ (s : State) (h : Half) (q row im : Nat) (odd : List CellAt), s.live = true ∧ q < 32768 ∧ row < 1024 ∧ s.maySense h q = true ∧
    (s.half h).nv.host.cont = some (q, im) ∧ (s.half h).nv.sensed.length ≤ 4) :=
  ⟨⟨live0.wf (SEAM_PLANE_CFG .west 2047) SEAM_PLANE_CFG.EN 32768, .west, 32767, by decide +kernel⟩,
    ⟨nvw ((live0.wf (NV_WALL_MINUTES .west) NV_WALL_MINUTES.MINUTES 1000).wf (NV_REFRESH_INTERVAL .west) NV_REFRESH_INTERVAL.MINUTES 100)
    (fun n => { n with refreshes := [{ plane := 32767, row := 1024, running := true }] }), .west, 32767,
    { plane := 32767, row := 1024, running := true }, by decide +kernel⟩,
    ⟨nvw (live0.wf (SEAM_PLANE_CFG .west 2047) SEAM_PLANE_CFG.EN 32768) (fun n => { n with committing := [2047] }), .west,
    by decide +kernel⟩,
    ⟨cmdOn .host { code := 0x20, phase := .commit, planes := [9] }, .west, { code := 0x20, phase := .commit, planes := [9] }, 9, [],
    by decide +kernel⟩,
    ⟨live0, .east, 2047, 2 ^ 32 - 1, by decide +kernel⟩,
    ⟨live0.wf (SEAM_PLANE_CFG .west 5) SEAM_PLANE_CFG.EN 32768, .west, 5, 2 ^ 32 - 1, 15, by decide +kernel⟩,
    ⟨live0.wf (NV_STUCK_INFO .west 1023) NV_STUCK_INFO.STATE 3, .west, 1023, 0, by decide +kernel⟩,
    ⟨(live0.wf (NV_WALL_MINUTES .west) NV_WALL_MINUTES.MINUTES 1).wf (NV_WALL_MINUTES .east) NV_WALL_MINUTES.MINUTES 5, by decide +kernel,
    by intro h; cases h <;> decide +kernel⟩,
    ⟨nvw live0 (fun n => { n with planes := [(5, { elapsed := some 7 })] }), .west, 7, by decide +kernel⟩,
    ⟨(live0.wf (NV_WALL_MINUTES .west) NV_WALL_MINUTES.MINUTES 1000).wf (NV_REFRESH_INTERVAL .west) NV_REFRESH_INTERVAL.MINUTES 100,
    .west, 999, by decide +kernel⟩,
    ⟨nvw live0 (fun n => { n with host := { cont := some (4, 0) }, sensed := [(1023, zeros 1024)] }), .west, 0xFFFC0, 64, 4, 0, zeros
    1024, by decide +kernel⟩,
    ⟨nvw live0 (fun n => { n with host := { cont := some (4, 0) } }), .west, 0xFFFC0, 64, 4, 0, by decide +kernel⟩,
    ⟨nvw (domsOn live0 [galDom .west 0]) (fun n =>
    { n with scanned := true, host := { cont := some (4, 0) }, sensed := [(1, []), (2, []), (3, []), (4, [])], reads := [{ func := 0, off := 1024 * 9, len := 64 }] }),
    .west, 4, 9, 0, [], by decide +kernel⟩⟩

theorem witness_LoaderRing :
    (∃ (s : State) (h : Half) (n : Nat), s.live = true) ∧
    (∃ (s : State) (h : Half) (desc image : List Byte) (chk : Scan) (fault : Bool), s.live = true ∧ s.ldrMayTake h = true ∧ (s.ldrRead h
    desc).2 = 64 ∧ ldOp (s.ldrDesc h desc) ≠ 2 ∧ s.ldCheck h (s.ldrDesc h desc) ≠ 0) ∧
    (∃ (s : State) (h : Half) (desc image hd : List Byte) (recs : List (List Byte)), s.live = true ∧ s.ldrMayTake h = true ∧ (s.ldrRead h
    desc).2 = 64 ∧ ldOp (s.ldrDesc h desc) = 1 ∧ ldSource (s.ldrDesc h desc) = 0 ∧ s.ldCheck h (s.ldrDesc h desc) = 0 ∧ s.on
    (JCT_WSET_CTRL h (ldWset (s.ldrDesc h desc))) JCT_WSET_CTRL.ROUTE = false ∧ ldLength (s.ldrDesc h desc) ≤ image.length ∧ packedImage
    (image.take (ldLength (s.ldrDesc h desc))) (ldLength (s.ldrDesc h desc)) (s.foot h (ldWset (s.ldrDesc h desc))).2 .all = .good hd recs
    (some (true, 0)) ∧ recs.any (fun (r : List Byte) => bit (ldMask (s.ldrDesc h desc)) (fld r 0 3 0)) = true) ∧
    (∃ (s : State) (h : Half) (desc : List Byte), s.live = true ∧ s.ldrMayTake h = true ∧ (s.ldrRead h desc).2 = 64 ∧ ldOp (s.ldrDesc h
    desc) = 2 ∧ s.ldCheck h (s.ldrDesc h desc) = 0 ∧ s.ldAllPlanes h (ldWset (s.ldrDesc h desc)) (ldSlot (s.ldrDesc h desc)) (ldMask
    (s.ldrDesc h desc)) ≠ []) ∧
    (∃ (s : State) (h : Half), s.live = true ∧ (s.half h).ldr.phase ≠ .idle ∧ (s.half h).ldr.phase ≠ .ended) ∧
    (∃ (s : State) (h : Half), s.live = true ∧ (s.half h).ldr.phase = .ended ∧ (s.half h).ldr.told = none ∧ s.ldrInT1 h = true) :=
  ⟨⟨live0, .east, 1025, by decide +kernel⟩,
    ⟨ring0 live0, .west, ldDescOf 1 3 1 328, img0, {}, false, by decide +kernel⟩,
    ⟨ring0 (set0 live0 .west 1), .west, ldDescOf 1 3 1 328, img1, img1.take 64, [img1.drop 64], by decide +kernel⟩,
    ⟨ring0 (set0 live0 .west 1), .west, ldDescOf 2 3 1 0, by decide +kernel⟩,
    ⟨ldrw (ring0 live0) { phase := .prove }, .west, by decide +kernel⟩,
    ⟨ldrw ((ring0 live0).wf (NV_LDR_RING_CTRL .west) NV_LDR_RING_CTRL.WHERE 1 |>.wf (NV_LDR_HEAD .west) NV_LDR_HEAD.HEAD 15)
    { phase := .ended, result := 0x29, failPlane := 77 }, .west, by decide +kernel⟩⟩

theorem witness_WeightSetCommands :
    (∃ (s : State) (h : Half) (n c : Nat), s.live = true ∧ n < 512 ∧ c < 256 ∧ s.createCheck h n c = 0) ∧
    (∃ (s : State) (h : Half) (n c : Nat), s.live = true ∧ n < 512 ∧ c < 256 ∧ s.createCheck h n c ≠ 0) ∧
    (∃ (s : State) (h : Half) (n slot v : Nat), s.live = true ∧ n < 512 ∧ slot < 2 ∧ v < 65536 ∧ s.setValid h n = true ∧ s.slotState h n
    slot = 0 ∧ s.slotVersion h n 0 < v ∧ s.slotVersion h n 1 < v) ∧
    (∃ (s : State) (h : Half) (n slot v : Nat), s.live = true ∧ n < 512 ∧ slot < 2 ∧ v < 65536 ∧ s.setValid h n = true ∧ s.slotState h n
    slot = 0 ∧ (v ≤ s.slotVersion h n 0 ∨ v ≤ s.slotVersion h n 1)) ∧
    (∃ (s : State) (h : Half) (n slot : Nat), s.live = true ∧ n < 512 ∧ slot < 2) ∧
    (∃ (s : State) (h : Half) (n slot : Nat), s.live = true ∧ n < 512 ∧ slot < 2 ∧ (s.foot h n).1 + (s.foot h n).2 ≤ 512 ∧ s.setValid h n
    = true ∧ (s.slotState h n slot = 1 ∨ s.slotState h n slot = 2) ∧ s.loadRuns h n slot = false ∧ s.inFlight h n slot = 0) ∧
    (∃ (s : State) (h : Half) (n : Nat), s.live = true ∧ n < 512 ∧ (s.foot h n).1 + (s.foot h n).2 ≤ 512 ∧ s.setValid h n = true ∧ (∀ t <
    2, s.slotState h n t ≠ 1 ∧ s.slotState h n t ≠ 4 ∧ s.inFlight h n t = 0)) ∧
    (∃ (s : State) (h : Half) (n : Nat), s.live = true ∧ n < 512 ∧ s.setValid h n = true ∧ s.slotState h n 0 = 4) :=
  ⟨⟨(live0.wf (JCT_WSET_FOOT .west 511) JCT_WSET_FOOT.COUNT 1).wf (MEM_CTX_T0 .west 255) MEM_CTX_T0.LIMIT 64, .west, 511, 255,
    by decide +kernel⟩,
    ⟨live0, .west, 511, 255, by decide +kernel⟩,
    ⟨set0 live0 .west 3, .west, 3, 1, 2, by decide +kernel⟩,
    ⟨set0 live0 .west 3, .west, 3, 1, 1, by decide +kernel⟩,
    ⟨List.foldl (fun s x => s.wf (SEAM_PLANE_CFG .west x) SEAM_PLANE_CFG.EN 8) (set0 live0 .west 1) [0, 1, 2, 3], .west, 3, 0,
    by decide +kernel⟩,
    ⟨List.foldl (fun s x => s.wf (SEAM_PLANE_CFG .west x) SEAM_PLANE_CFG.EN 8) (set0 live0 .west 2) [0, 1, 2, 3], .west, 3, 0,
    by decide +kernel⟩,
    ⟨set0 live0 .west 3, .west, 3, by decide +kernel⟩,
    ⟨set0 live0 .west 4, .west, 3, by decide +kernel⟩⟩

theorem witness_WeightSetSwitches :
    (∃ (s : State) (c : Nat), s.live = true ∧ c < 256 ∧ s.switchList.any (fun (e : Half × Nat × Nat) => s.switchCheck c e != 0) = true) ∧
    (∃ (s : State) (c n slot : Nat), s.live = true ∧ c < 256 ∧ s.switchList = [(.west, n, slot)] ∧ s.switchCheck c (.west, n, slot) = 0) ∧
    (∃ (s : State) (c n slot : Nat), s.live = true ∧ c < 256 ∧ s.switchList = [(.east, n, slot)] ∧ s.switchCheck c (.east, n, slot) = 0) ∧
    (∃ (s : State) (n slot : Nat) (q : List PassMsg), s.live = true ∧ n < 512 ∧ slot < 2 ∧ s.east.control = .switch [(n, slot)] :: q ∧
    s.passOn = true) ∧
    (∃ (s : State) (h : Half) (n slot : Nat), s.live = true ∧ n < 512 ∧ slot < 2 ∧ (s.foot h n).1 + (s.foot h n).2 ≤ 512 ∧ s.slotState h n
    slot = 4 ∧ s.inFlight h n slot = 0) ∧
    (∃ (s : State) (h : Half) (n : Nat), s.live = true ∧ n < 512 ∧ (s.half h).nv.wsetRun = [n] ∧ (s.half h).nv.wsetDirty = [] ∧ (s.half
    h).nv.wsetRelRun = [] ∧ (s.half h).nv.wsetDoneRun = [n]) ∧
    (∃ (s : State) (h : Half) (n : Nat) (r : WsetRel), s.live = true ∧ n < 512 ∧ r.set = n ∧ r.slot < 2 ∧ r.foot.1 + r.foot.2 ≤ 512 ∧
    (s.half h).nv.wsetRun = [n] ∧ (s.half h).nv.wsetDirty = [] ∧ (s.half h).nv.wsetRelRun = [r]) :=
  ⟨⟨switch0 (set0 live0 .west 2) 0 3 1, 1, by decide +kernel⟩,
    ⟨(switch0 (set0 live0 .west 2) 0 3 0).wf (JCT_WSET_SLOT .west 7) JCT_WSET_SLOT.STATE 3, 1, 3, 0, by decide +kernel⟩,
    ⟨switch0 (set0 live0 .east 2) 1 3 0, 1, 3, 0, by decide +kernel⟩,
    ⟨(let s0 := (set0 live0 .east 2).wf BOOT_GLOBAL_STATUS BOOT_GLOBAL_STATUS.PASSAGE_UP 1;
    { s0 with east := { s0.east with control := [.switch [(3, 0)]] } }), 3, 0, [], by decide +kernel⟩,
    ⟨set0 live0 .west 4, .west, 3, 0, by decide +kernel⟩,
    ⟨nvw live0 (fun n => { n with wsetRun := [511], wsetDoneRun := [511] }), .west, 511, by decide +kernel⟩,
    ⟨nvw live0 (fun n => { n with wsetRun := [511], wsetRelRun := [{ set := 511, slot := 1, foot := (0, 1), planes := [3] }] }), .west,
    511, { set := 511, slot := 1, foot := (0, 1), planes := [3] }, by decide +kernel⟩⟩

theorem witness_SequencerSettings :
    (∃ (s : State) (h : Half) (g : Nat), s.live = true ∧ s.seqInstr h g = some (.nop) ∧ (s.gal h g).seq.npc < 1023) ∧
    (∃ (s : State) (h : Half) (g : Nat) (f l : Nat), s.live = true ∧ s.seqInstr h g = some (.rowmask 0 f l) ∧ (s.gal h g).seq.npc < 1023) ∧
    (∃ (s : State) (h : Half) (g : Nat) (f l : Nat), s.live = true ∧ s.seqInstr h g = some (.rowmask 1 f l) ∧ (s.gal h g).seq.npc < 1023) ∧
    (∃ (s : State) (h : Half) (g : Nat) (f l : Nat), s.live = true ∧ s.seqInstr h g = some (.rowmask 2 f l) ∧ (s.gal h g).seq.npc < 1023) ∧
    (∃ (s : State) (h : Half) (g : Nat) (f l : Nat), s.live = true ∧ s.seqInstr h g = some (.rowmask 3 f l) ∧ (s.gal h g).seq.npc < 1023) ∧
    (∃ (m : List (Nat × Nat)) (a b i : Nat), a ≤ b ∧ b < 65536) ∧
    (∃ (s : State) (h : Half) (g : Nat) (k : Nat), s.live = true ∧ s.seqInstr h g = some (.split k) ∧ (s.gal h g).seq.npc < 1023) ∧
    (∃ (s : State) (h : Half) (g : Nat) (a : Bool), s.live = true ∧ s.seqInstr h g = some (.acc a) ∧ (s.gal h g).seq.npc < 1023) ∧
    (∃ (s : State) (h : Half) (g : Nat) (u : Bool) (r : Option Nat), s.live = true ∧ s.seqInstr h g = some (.scale u r) ∧ (s.gal h
    g).seq.npc < 1023) ∧
    (∃ (s : State) (h : Half) (g : Nat) (e : Bool) (r : Option Nat), s.live = true ∧ s.seqInstr h g = some (.emit e r) ∧ (s.gal h
    g).seq.npc < 1023) ∧
    (∃ (s : State) (h : Half) (g : Nat) (e : Nat), s.live = true ∧ s.seqInstr h g = some (.signal e) ∧ (s.gal h g).seq.npc < 1023) :=
  ⟨⟨seqw (0) {}, .west, 0, by decide +kernel⟩,
    ⟨seqw (2 * 2 ^ 27 + 7 * 2 ^ 22) {}, .west, 0, 7, 0, by decide +kernel⟩,
    ⟨seqw (2 * 2 ^ 27 + 2 ^ 25 + 7 * 2 ^ 22) {}, .west, 0, 7, 0, by decide +kernel⟩,
    ⟨seqw (2 * 2 ^ 27 + 2 * 2 ^ 25 + 7 * 2 ^ 22) {}, .west, 0, 7, 0, by decide +kernel⟩,
    ⟨seqw (2 * 2 ^ 27 + 3 * 2 ^ 25) { mask := [] }, .west, 0, 0, 0, by decide +kernel⟩,
    ⟨[(0, 65536)], 5, 65535, 65535, by decide +kernel⟩,
    ⟨seqw (3 * 2 ^ 27 + 3 * 2 ^ 25) {}, .west, 0, 3, by decide +kernel⟩,
    ⟨seqw (4 * 2 ^ 27 + 2 ^ 26) {}, .west, 0, true, by decide +kernel⟩,
    ⟨seqw (6 * 2 ^ 27 + 2 ^ 26 + 2 ^ 25 + 7 * 2 ^ 22) {}, .west, 0, true, some 7, by decide +kernel⟩,
    ⟨seqw (7 * 2 ^ 27) {}, .west, 0, false, none, by decide +kernel⟩,
    ⟨seqw (9 * 2 ^ 27 + 7 * 2 ^ 22) {}, .west, 0, 7, by decide +kernel⟩⟩

theorem witness_SequencerControl :
    (∃ (s : State) (h : Half) (g : Nat) (r t0 : Nat), s.live = true ∧ s.seqInstr h g = some (.loop r t0) ∧ (s.gal h g).seq.npc < 1023 ∧ r
    < 8 ∧ s.cnt h g r ≤ 1) ∧
    (∃ (s : State) (h : Half) (g : Nat) (r t0 : Nat), s.live = true ∧ s.seqInstr h g = some (.loop r t0) ∧ (s.gal h g).seq.npc < 1023 ∧ r
    < 8 ∧ t0 < 1024 ∧ 2 ≤ s.cnt h g r) ∧
    (∃ (s : State) (h : Half) (g : Nat) (c r t0 : Nat), s.live = true ∧ s.seqInstr h g = some (.br c r t0) ∧ (s.gal h g).seq.npc < 1023 ∧
    t0 < 1024) ∧
    (∃ (s : State) (h : Half) (g : Nat) (d v : Nat), s.live = true ∧ s.seqInstr h g = some (.seti d v) ∧ (s.gal h g).seq.npc < 1023 ∧ d <
    8 ∧ v < 2 ^ 24) ∧
    (∃ (s : State) (h : Half) (g : Nat) (d imm : Nat), s.live = true ∧ s.seqInstr h g = some (.add d none imm) ∧ (s.gal h g).seq.npc <
    1023 ∧ d < 8 ∧ imm < 2 ^ 20) ∧
    (∃ (s : State) (h : Half) (g : Nat) (d r imm : Nat), s.live = true ∧ s.seqInstr h g = some (.add d (some r) imm) ∧ (s.gal h g).seq.npc
    < 1023 ∧ d < 8 ∧ r < 8) ∧
    (∃ (s : State) (h : Half) (g : Nat), s.live = true ∧ s.seqInstr h g = some (.check) ∧ (s.gal h g).seq.npc < 1023 ∧ (s.gal h g).tested
    = true) ∧
    (∃ (s : State) (h : Half) (g : Nat), s.live = true ∧ s.seqInstr h g = some (.check) ∧ (s.gal h g).seq.npc < 1023 ∧ (s.gal h g).tested
    = false) ∧
    (∃ (s : State) (h : Half) (g : Nat) (e : Nat), s.live = true ∧ s.seqInstr h g = some (.wait 1 e) ∧ (s.gal h g).seq.npc < 1023 ∧ (s.gal
    h g).waves = []) ∧
    (∃ (s : State) (h : Half) (g : Nat) (e : Nat), s.live = true ∧ s.seqInstr h g = some (.wait 1 e) ∧ (s.gal h g).seq.npc < 1023 ∧ (s.gal
    h g).waves ≠ []) ∧
    (∃ (s : State) (h : Half) (g : Nat) (e : Nat), s.live = true ∧ s.seqInstr h g = some (.wait 2 e) ∧ (s.gal h g).seq.npc < 1023 ∧ (s.gal
    h g).idle = true) ∧
    (∃ (s : State) (h : Half) (g : Nat) (e : Nat), s.live = true ∧ s.seqInstr h g = some (.wait 0 e) ∧ (s.gal h g).seq.npc < 1023) ∧
    (∃ (s : State) (h : Half) (g : Nat) (n : Node) (gr : Graph) (r : NodeRef), s.live = true ∧ s.seqInstr h g = some .fin ∧ (s.gal h
    g).waves = [] ∧ (s.gal h g).node = some r ∧ s.node r = some (gr, n) ∧ n.half = h) :=
  ⟨⟨seqw (10 * 2 ^ 27 + 7 * 2 ^ 24 + 9) {}, .west, 0, 7, 9, by decide +kernel⟩,
    ⟨setCntW (seqw (10 * 2 ^ 27 + 7 * 2 ^ 24 + 1023) {}) 7 2, .west, 0, 7, 1023, by decide +kernel⟩,
    ⟨seqw (11 * 2 ^ 27 + 1 * 2 ^ 23 + 7 * 2 ^ 20 + 1023) {}, .west, 0, 1, 7, 1023, by decide +kernel⟩,
    ⟨seqw (12 * 2 ^ 27 + 7 * 2 ^ 24 + 16777215) {}, .west, 0, 7, 16777215, by decide +kernel⟩,
    ⟨seqw (13 * 2 ^ 27 + 1048575) {}, .west, 0, 0, 1048575, by decide +kernel⟩,
    ⟨setCntW (seqw (13 * 2 ^ 27 + 2 ^ 23 + 7 * 2 ^ 20) {}) 7 5, .west, 0, 0, 7, 0, by decide +kernel⟩,
    ⟨seqw (5 * 2 ^ 27) { missed := true }, .west, 0, by decide +kernel⟩,
    ⟨(let s0 := seqw (5 * 2 ^ 27) {}; s0.setGal .west 0 { s0.gal .west 0 with waves := [{ node := n0 }] }), .west, 0, by decide +kernel⟩,
    ⟨seqw (8 * 2 ^ 27 + 2 ^ 25) {}, .west, 0, 0, by decide +kernel⟩,
    ⟨(let s0 := seqw (8 * 2 ^ 27 + 2 ^ 25) {}; s0.setGal .west 0 { s0.gal .west 0 with waves := [{ node := n0 }] }), .west, 0, 0,
    by decide +kernel⟩,
    ⟨seqw (8 * 2 ^ 27 + 2 * 2 ^ 25) {}, .west, 0, 0, by decide +kernel⟩,
    ⟨seqw (8 * 2 ^ 27 + 7 * 2 ^ 22) {}, .west, 0, 7, by decide +kernel⟩,
    ⟨seqw (31 * 2 ^ 27) {}, .west, 0, nd0 galB .running, g0 galB .running, n0, by decide +kernel⟩⟩

theorem witness_SequencerWavesAndFaults :
    (∃ (s : State) (h : Half) (g : Nat) (n : Node) (gr : Graph) (r : NodeRef) (lp im gn gm fmt ir l : Nat) (vinc iuse : Bool), s.live =
    true ∧ s.seqInstr h g = some (.wave lp im gn gm fmt vinc iuse ir) ∧ (s.gal h g).node = some r ∧ s.node r = some (gr, n) ∧ (s.gal h
    g).freeLatch = some l ∧ (s.gal h g).seq.npc < 1023) ∧
    (∃ (s : State) (h : Half) (g : Nat) (n : Node) (gr : Graph) (r : NodeRef) (lp im gn gm fmt ir l : Nat) (vinc iuse : Bool), s.live =
    true ∧ s.seqStalled h g = some (.wave lp im gn gm fmt vinc iuse ir) ∧ (s.gal h g).node = some r ∧ s.node r = some (gr, n) ∧ (s.gal h
    g).freeLatch = some l ∧ (s.gal h g).seq.npc < 1023) ∧
    (∃ (s : State) (h : Half) (g : Nat) (lp im gn gm fmt ir : Nat) (vinc iuse : Bool), s.live = true ∧ s.seqInstr h g = some (.wave lp im
    gn gm fmt vinc iuse ir) ∧ (s.gal h g).freeLatch = none) ∧
    (∃ (s : State) (h : Half) (g : Nat) (e : Nat), s.live = true ∧ s.seqStalled h g = some (.wait 1 e) ∧ (s.gal h g).waves = [] ∧ (s.gal h
    g).seq.npc < 1023) ∧
    (∃ (s : State) (h : Half) (g : Nat) (n : Node) (gr : Graph) (r : NodeRef), s.live = true ∧ g < 32 ∧ (s.gal h g).node = some r ∧ s.node
    r = some (gr, n) ∧ n.phase = .running ∧ n.kind = 1 ∧ (s.gal h g).started = false) ∧
    (∃ (s : State) (h : Half) (g : Nat) (n : Node) (gr : Graph) (r : NodeRef) (pc w c : Nat), s.live = true ∧ s.seqFetch h g = some (r,
    pc, w, .error c) ∧ s.node r = some (gr, n) ∧ n.galFirst + n.galCount ≤ 32 ∧ g ∈ n.gals ∧ n.half = h ∧ pc < 1024) ∧
    (∃ (s : State) (h : Half) (g : Nat) (n : Node) (gr : Graph) (r : NodeRef), s.live = true ∧ g < 32 ∧ (s.gal h g).node = some r ∧
    s.seqRunning h g = true ∧ s.dogExpired h g = true ∧ s.node r = some (gr, n) ∧ n.galFirst + n.galCount ≤ 32 ∧ g ∈ n.gals ∧ n.half = h) ∧
    (∃ (s : State) (h : Half) (i v : Nat), s.live = true ∧ i < 32768 ∧ s.seqRunning h (i / 1024) = false) ∧
    (∃ (s : State) (h : Half) (i v : Nat), s.live = true ∧ i < 32768 ∧ s.seqRunning h (i / 1024) = true) :=
  ⟨⟨seqw (2 ^ 27 + 15 * 2 ^ 23 + 3 * 2 ^ 21 + 6 * 2 ^ 18 + 4 * 2 ^ 15 + 3 * 2 ^ 13 + 2 ^ 12) {}, .west, 0, nd0 galB .running, g0 galB
    .running, n0, 15, 3, 6, 4, 3, 0, 0, true, false, by decide +kernel⟩,
    ⟨seqw (2 ^ 27 + 15 * 2 ^ 23 + 3 * 2 ^ 21 + 6 * 2 ^ 18 + 4 * 2 ^ 15 + 3 * 2 ^ 13 + 2 ^ 12) { wait := .latch }, .west, 0, nd0 galB
    .running, g0 galB .running, n0, 15, 3, 6, 4, 3, 0, 0, true, false, by decide +kernel⟩,
    ⟨(let s0 := seqw (2 ^ 27 + 15 * 2 ^ 23 + 3 * 2 ^ 21 + 6 * 2 ^ 18 + 4 * 2 ^ 15 + 3 * 2 ^ 13 + 2 ^ 12) {}; s0.setGal .west 0
    { s0.gal .west 0 with waves := [{ node := n0 }, { node := n0, latch := 1 }] }), .west, 0, 15, 3, 6, 4, 3, 0, true, false,
    by decide +kernel⟩,
    ⟨seqw (8 * 2 ^ 27 + 2 ^ 25) { wait := .landed }, .west, 0, 0, by decide +kernel⟩,
    ⟨(withNode live0 galB .running).setGal .west 0 { node := some n0 }, .west, 0, nd0 galB .running, g0 galB .running, n0,
    by decide +kernel⟩,
    ⟨seqw (14 * 2 ^ 27) {}, .west, 0, nd0 galB .running, g0 galB .running, n0, 5, 14 * 2 ^ 27, 1, by decide +kernel⟩,
    ⟨(let s := seqw 0 {}; { s with west := { s.west with us := 1001 } }), .west, 0, nd0 galB .running, g0 galB .running, n0,
    by decide +kernel⟩,
    ⟨live0, .east, 32767, 2 ^ 32 + 5, by decide +kernel⟩,
    ⟨seqw 0 {}, .west, 1023, 7, by decide +kernel⟩⟩

theorem witness_SequencerWordsRoundTrip :
    (∃ (i : SeqInstr), i.wf = true) ∧
    (∃ (w : Nat) (i : SeqInstr), w < 2 ^ 32 ∧ seqDecode w = .ok i) :=
  ⟨⟨.wave 15 3 6 4 3 true false 7, by decide +kernel⟩,
    ⟨11 * 2 ^ 27 + 1 * 2 ^ 23 + 7 * 2 ^ 20 + 1023, .br 1 7 1023, by decide +kernel⟩⟩

theorem witness_WaveStarts :
    (∃ (s : State) (h : Half) (g i : Nat) (w : Wave) (o : Obj) (chk : Scan), s.live = true ∧ g < 32 ∧ s.waveIn h g [.filling] = some (i,
    w) ∧ s.bindObj w.node 0 = some o ∧ w.begun = true) ∧
    (∃ (s : State) (h : Half) (g i : Nat) (w : Wave) (p c k : Nat), s.live = true ∧ g < 32 ∧ s.waveIn h g [.latched] = some (i, w) ∧
    s.mayStart h g w = true ∧ s.nodeAborted w.node = false ∧ (s.pinOf w.node).bind (fun (p : Nat × Nat) => s.mapPlane h p.1 p.2 w.lplane)
    = some p ∧ c < 16 ∧ k < 4 ∧ c ∈ s.waveChms w ∧ (s.rf (SEAM_STATUS h (seamOf g c k)) SEAM_STATUS.STATE ≠ 2 ∨ s.rf (SEAM_STATUS h
    (seamOf g c k)) SEAM_STATUS.PLANE ≠ p)) ∧
    (∃ (s : State) (h : Half) (g i : Nat) (w : Wave) (p : Nat) (w7 : Bool), s.live = true ∧ g < 32 ∧ s.waveIn h g [.latched] = some (i, w)
    ∧ s.mayStart h g w = true ∧ s.nodeAborted w.node = false ∧ (s.pinOf w.node).bind (fun (p : Nat × Nat) => s.mapPlane h p.1 p.2
    w.lplane) = some p ∧ (∀ c < 16, c ∈ s.waveChms w → ∀ k < 4, s.rf (SEAM_STATUS h (seamOf g c k)) SEAM_STATUS.STATE = 2 ∧ s.rf
    (SEAM_STATUS h (seamOf g c k)) SEAM_STATUS.PLANE = p) ∧ (∀ c < 16, c ∈ s.waveChms w → ∀ k < 4, s.planeEn h (16 * seamOf g c k + p) =
    true ∧ s.debugHides h (16 * seamOf g c k + p) = false ∧ s.planeW7 h (16 * seamOf g c k + p) = w7)) ∧
    (∃ (s : State) (h : Half) (g i : Nat) (w : Wave), s.live = true ∧ g < 32 ∧ s.waveIn h g [.latched] = some (i, w) ∧ s.mayStart h g w =
    true ∧ s.nodeAborted w.node = false ∧ (s.pinOf w.node).bind (fun (p : Nat × Nat) => s.mapPlane h p.1 p.2 w.lplane) = none) ∧
    (∃ (s : State) (h : Half) (g i : Nat) (w : Wave) (w7 : Bool), s.live = true ∧ g < 32 ∧ s.waveIn h g [.selecting] = some (i, w) ∧
    s.nodeAborted w.node = false ∧ (∀ c < 16, c ∈ s.waveChms w → ∀ k < 4, s.planeEn h (16 * seamOf g c k + w.plane) = true ∧ s.debugHides
    h (16 * seamOf g c k + w.plane) = false ∧ s.planeW7 h (16 * seamOf g c k + w.plane) = w7)) ∧
    (∃ (s : State) (h : Half) (g i : Nat) (w : Wave) (c k : Nat), s.live = true ∧ g < 32 ∧ s.waveIn h g [.selecting] = some (i, w) ∧
    s.nodeAborted w.node = false ∧ c < 16 ∧ k < 4 ∧ c ∈ s.waveChms w ∧ s.planeEn h (16 * seamOf g c k + w.plane) = false) :=
  ⟨⟨wavw 511 { wv0 with begun := true }, .west, 0, 0, { wv0 with begun := true },
    { half := .west, idx := 7, tier := 1, addr := 20480, size := 65536 }, { bad := [70] }, by decide +kernel⟩,
    ⟨wavw 511 { wv0 with phase := .latched }, .west, 0, 0, { wv0 with phase := .latched }, 3, 0, 3, by decide +kernel⟩,
    ⟨[0, 1, 2, 3].foldl (fun s x => (s.wf (SEAM_STATUS .west x) SEAM_STATUS.STATE 2).wf (SEAM_STATUS .west x) SEAM_STATUS.PLANE 3) (enW
    (wavw 511 { wv0 with phase := .latched }) 8 8), .west, 0, 0, { wv0 with phase := .latched }, 3, true, by decide +kernel⟩,
    ⟨wavw 511 { wv0 with phase := .latched, lplane := 1 }, .west, 0, 0, { wv0 with phase := .latched, lplane := 1 }, by decide +kernel⟩,
    ⟨enW (wavw 511 { wv0 with phase := .selecting, plane := 3 }) 8 0, .west, 0, 0, { wv0 with phase := .selecting, plane := 3 }, false,
    by decide +kernel⟩,
    ⟨enW (wavw 511 { wv0 with phase := .selecting, plane := 3 }) 4 0, .west, 0, 0, { wv0 with phase := .selecting, plane := 3 }, 0, 3,
    by decide +kernel⟩⟩

theorem witness_WavesRunAndEnd :
    (∃ (s : State) (h : Half) (g i : Nat) (w : Wave), s.live = true ∧ g < 32 ∧ s.waveIn h g [.slices] = some (i, w) ∧ w.pass < 7 ∧
    w.chms.all (fun (e : Nat × ChmAcc) => decide (e.1 < 16)) = true) ∧
    (∃ (g a st sp sn free : Nat), g < 8 ∧ st < 3 ∧ (a = 0 → sp = 0 ∧ sn = 0)) ∧
    (∃ (s : State) (h : Half) (g i : Nat) (w : Wave), s.live = true ∧ g < 32 ∧ s.waveIn h g [.slices] = some (i, w) ∧ 7 ≤ w.pass ∧ w.plane
    < 16 ∧ s.nodeAborted w.node = false ∧ (∀ e ∈ (s.half h).nv.running, ∀ c ∈ w.chms.map Prod.fst, ∀ k < 4, e.1 % 2048 ≠ seamOf g c k) ∧
    w.chms.all (fun (e : Nat × ChmAcc) => decide (e.1 < 16)) = true) ∧
    (∃ (s : State) (h : Half) (p : Nat), s.live = true ∧ p < 32768 ∧ s.health h p = 3 ∧ s.watchWaves h ≤ (s.planeRec h p).clean) :=
  ⟨⟨wavw 511 { wv0 with phase := .slices, pass := 1, chms := [(0, acc0)] }, .west, 0, 0,
    { wv0 with phase := .slices, pass := 1, chms := [(0, acc0)] }, by decide +kernel⟩,
    ⟨7, 1024, 2, 5, 7000, 12345, by decide +kernel⟩,
    ⟨wavw 511 { wv0 with phase := .slices, chms := [(0, acc0)] }, .west, 0, 0, { wv0 with phase := .slices, chms := [(0, acc0)] },
    by decide +kernel⟩,
    ⟨nvw (live0.wf (NV_PLANE_HEALTH .west 32767) NV_PLANE_HEALTH.STATE 3) (fun n => { n with planes := [(32767, { clean := 100000 })] }),
    .west, 32767, by decide +kernel⟩⟩

theorem witness_CorrectionsAndOutput :
    (∃ (s : State) (h : Half) (g i : Nat) (w : Wave) (gr : Graph) (n : Node), s.live = true ∧ g < 32 ∧ i = (s.gal h g).waves.findIdx (fun
    (w : Wave) => [WavePhase.slices, .ended].contains w.phase && !w.corrReady && decide (w.outfmt ≠ 3)) ∧ (s.gal h g).waves[i]? = some w ∧
    s.node w.node = some (gr, n) ∧ s.viaSds h w n = true ∧ n.cset = 0x1FF ∧ s.sdsTurn h g w = true) ∧
    (∃ (s : State) (h : Half) (g i : Nat) (w : Wave) (gr : Graph) (n : Node), s.live = true ∧ g < 32 ∧ i = (s.gal h g).waves.findIdx (fun
    (w : Wave) => [WavePhase.slices, .ended].contains w.phase && !w.corrReady && decide (w.outfmt ≠ 3)) ∧ (s.gal h g).waves[i]? = some w ∧
    s.node w.node = some (gr, n) ∧ s.viaSds h w n = true ∧ n.cset ≠ 0x1FF ∧ n.setBound = true ∧ s.sdsTurn h g w = true) ∧
    (∃ (s : State) (h : Half) (g i : Nat) (w : Wave) (gr : Graph) (n : Node), s.live = true ∧ g < 32 ∧ i = (s.gal h g).waves.findIdx (fun
    (w : Wave) => [WavePhase.slices, .ended].contains w.phase && !w.corrReady && decide (w.outfmt ≠ 3)) ∧ (s.gal h g).waves[i]? = some w ∧
    s.node w.node = some (gr, n) ∧ s.viaSds h w n = true ∧ n.cset ≠ 0x1FF ∧ n.setBound = false ∧ n.late = true ∧ w.phase = .ended) ∧
    (∃ (s : State) (r : NodeRef) (gr : Graph) (n : Node), s.live = true ∧ s.node r = some (gr, n) ∧ n.phase = .running ∧ n.kind = 1 ∧
    n.cset ≠ 0x1FF ∧ n.deadline ≠ 0 ∧ n.setBound = false) ∧
    (∃ (s : State) (h : Half) (g i : Nat) (w : Wave) (gr : Graph) (n : Node), s.live = true ∧ g < 32 ∧ s.waveIn h g [.ended] = some (i, w)
    ∧ s.node w.node = some (gr, n) ∧ gr.aborted = false ∧ w.outfmt = 3 ∧ w.emit = true ∧ w.group ≤ 4 ∧ w.chms ≠ [] ∧ s.waveIn h g
    [.output] = none ∧ w.chms.all (fun (e : Nat × ChmAcc) => decide (e.1 < 16)) = true) ∧
    (∃ (s : State) (h : Half) (g i : Nat) (w : Wave) (o : Obj) (b : Nat × List Byte) (bs : List (Nat × List Byte)), s.live = true ∧ g < 32
    ∧ s.waveIn h g [.output] = some (i, w) ∧ w.beats = b :: bs ∧ bs ≠ [] ∧ s.bindObj w.node 1 = some o ∧ b.1 + b.2.length ≤ o.size ∧
    b.2.length % 4 = 0 ∧ partWords (wordBytes o.tier) (o.addr + b.1) b.2.length = []) :=
  ⟨⟨(let s0 := wavw 511 { wv0 with phase := .slices }; s0.wf (NV_STUCK_INFO .west 1023) NV_STUCK_INFO.STATE 1), .west, 0, 0,
    { wv0 with phase := .slices }, ({ (g0 (galC 511) .running) with pins := [{ half := .west, set := 0, slot := 0 }] } : Graph), nd0 (galC
    511) .running, by decide +kernel⟩,
    ⟨(let s0 := wavw 5 { wv0 with phase := .slices }; s0.modNode n0 (fun n => { n with setBound := true })), .west, 0, 0,
    { wv0 with phase := .slices },
    ({ ({ (g0 (galC 5) .running) with pins := [{ half := .west, set := 0, slot := 0 }] } : Graph) with nodes := [{ (nd0 (galC 5) .running) with setBound := true }] }
    : Graph), { (nd0 (galC 5) .running) with setBound := true }, by decide +kernel⟩,
    ⟨(let s0 := wavw 5 { wv0 with phase := .ended }; s0.modNode n0 (fun n => { n with late := true })), .west, 0, 0,
    { wv0 with phase := .ended },
    ({ ({ (g0 (galC 5) .running) with pins := [{ half := .west, set := 0, slot := 0 }] } : Graph) with nodes := [{ (nd0 (galC 5) .running) with late := true }] }
    : Graph), { (nd0 (galC 5) .running) with late := true }, by decide +kernel⟩,
    ⟨withNode live0 (galC (5 + 9 * 65536)) .running, n0, g0 (galC (5 + 9 * 65536)) .running, nd0 (galC (5 + 9 * 65536)) .running,
    by decide +kernel⟩,
    ⟨(let s0 := wavw 511 { wv0 with phase := .ended, outfmt := 3, chms := [(0, acc0)], t := [(0, List.replicate 544 5)] }; s0), .west, 0,
    0, { wv0 with phase := .ended, outfmt := 3, chms := [(0, acc0)], t := [(0, List.replicate 544 5)] },
    ({ (g0 (galC 511) .running) with pins := [{ half := .west, set := 0, slot := 0 }] } : Graph), nd0 (galC 511) .running,
    by decide +kernel⟩,
    ⟨(let s0 := wavw 511 { wv0 with phase := .output, beats := [(128, zeros 127 ++ [5]), (256, zeros 128)] }; s0), .west, 0, 0,
    { wv0 with phase := .output, beats := [(128, zeros 127 ++ [5]), (256, zeros 128)] },
    { half := .west, idx := 7, tier := 1, addr := 20480, size := 65536 }, (128, zeros 127 ++ [5]), [(256, zeros 128)], by decide +kernel⟩⟩

theorem witness_PlazaOperations :
    (∃ (s : State) (h : Half) (r : NodeRef) (op : List Byte), s.live = true ∧ s.plazaOp h 1 = some (r, op) ∧ opStreamed op = false ∧
    s.power.gateOpen = true ∧ (s.half h).plaza.fallback = false ∧ opAFmt op = 9 ∧ opBFmt op = 9 ∧ opOutFmt op = 11 ∧ opM op * opK op ≤
    (s.nodeObj r (opA op)).size ∧ opN op * opK op ≤ (s.nodeObj r (opB op)).size ∧ 4 * (opM op * opN op) ≤ (s.nodeObj r (opOut op)).size ∧
    partWords (wordBytes (s.nodeObj r (opOut op)).tier) ((s.nodeObj r (opOut op)).addr + 0) (4 * (opM op * opN op)) = []) ∧
    (∃ (s : State) (h : Half) (r : NodeRef) (op : List Byte) (i : Nat), s.live = true ∧ s.plazaOp h 2 = some (r, op) ∧ opM op = 1 ∧ opBFmt
    op = 7 ∧ opOutFmt op = 7 ∧ 0 < opN op ∧ 4 ≤ (s.nodeObj r (opA op)).size ∧ 2 * opN op ≤ (s.nodeObj r (opOut op)).size ∧ i = u32
    (s.objRead (s.nodeObj r (opA op)) 0 4) 0 ∧ i < (s.nodeObj r (opB op)).size / (2 * opN op) ∧ partWords (wordBytes (s.nodeObj r (opOut
    op)).tier) ((s.nodeObj r (opOut op)).addr + 0) (2 * opN op) = []) ∧
    (∃ (s : State) (h : Half) (r : NodeRef) (op : List Byte), s.live = true ∧ s.plazaOp h 3 = some (r, op) ∧ opM op = 1 ∧ opFunc op = 0 ∧
    opOutFmt op = 7 ∧ operandBytes (opAFmt op) 1 (opN op) ≤ (s.nodeObj r (opA op)).size ∧ 2 * opN op ≤ (s.nodeObj r (opOut op)).size ∧
    partWords (wordBytes (s.nodeObj r (opOut op)).tier) ((s.nodeObj r (opOut op)).addr + 0) (2 * opN op) = []) ∧
    (∃ (s : State) (h : Half), s.live = true ∧ (s.half h).plaza.written = true) :=
  ⟨⟨((plzw (opOf 17 (9 + 9 * 16 + 11 * 256) 2 33 2 0 65543 65544 65545 0 0 0) {}).memPut .west 1 20480 (List.replicate 66 0x80)).memPut
    .west 1 131072 (List.replicate 40 0x81), .west, n0, opOf 17 (9 + 9 * 16 + 11 * 256) 2 33 2 0 65543 65544 65545 0 0 0,
    by decide +kernel⟩,
    ⟨((plzw (opOf 33 (7 * 16 + 7 * 256) 1 0 2 0 65543 65544 65545 0 0 0) {}).memPut .west 1 20480 [2]).memPut .west 1 131072
    (List.replicate 14 0x80), .west, n0, opOf 33 (7 * 16 + 7 * 256) 1 0 2 0 65543 65544 65545 0 0 0, 2, by decide +kernel⟩,
    ⟨(plzw (opOf 49 (10 + 7 * 256) 1 0 2 0 65543 0 65545 0 0 0) {}).memPut .west 1 20480 (List.replicate 12 0x41), .west, n0, opOf 49 (10
    + 7 * 256) 1 0 2 0 65543 0 65545 0 0 0, by decide +kernel⟩,
    ⟨plzw (opOf 49 (10 + 7 * 256) 1 0 2 0 65543 0 65545 0 0 0) { written := true }, .west, by decide +kernel⟩⟩

theorem witness_PlazaEndAndSidestreetSets :
    (∃ (s : State) (h : Half) (r : NodeRef) (op : List Byte) (us0 : Nat), s.live = true ∧ s.plazaOp h 1 = some (r, op) ∧ opStreamed op =
    true ∧ opLowrank op = true ∧ opDeadline op ≠ 0 ∧ (s.half h).plaza.startUs = some us0 ∧ opDeadline op ≤ s.us h - us0 ∧ s.plazaWaits h =
    true) ∧
    (∃ (s : State) (h : Half) (r : NodeRef) (op : List Byte) (us0 : Nat), s.live = true ∧ s.plazaOp h 1 = some (r, op) ∧ (s.half
    h).plaza.startUs = some us0 ∧ s.us h - us0 < opDeadline op) ∧
    (∃ (s : State) (h : Half) (r : NodeRef) (op : List Byte), s.live = true ∧ s.plazaOp h 1 = some (r, op) ∧ s.power.gateOpen = true ∧
    (s.half h).plaza.fallback = true ∧ (s.half h).plaza.skip = 0) ∧
    (∃ (s : State) (h : Half) (r : NodeRef) (g : Graph) (n : Node) (chk : Scan), s.live = true ∧ (s.half h).plaza.node = some r ∧ s.node r
    = some (g, n) ∧ n.phase = .running ∧ (s.half h).plaza.written = true) ∧
    (∃ (s : State) (h : Half) (k v : Nat), s.live = true ∧ k < 256 ∧ s.csetValid h k = false ∧ bit v 8 = true) ∧
    (∃ (s : State) (h : Half) (k v : Nat), s.live = true ∧ k < 256 ∧ s.csetValid h k = true ∧ bit v 8 = false ∧ v % 256 = s.rf
    (SDS_SET_CTRL h k) SDS_SET_CTRL.CONTEXT ∧ s.csetUsers h k = 0 ∧ s.stagesSet h k = false) ∧
    (∃ (s : State) (h : Half) (k v : Nat), s.live = true ∧ k < 256 ∧ s.csetValid h k = false) ∧
    (∃ (s : State) (h : Half) (r : NodeRef) (g : Graph) (n : Node), s.live = true ∧ (s.half h).stage =
    { node := some r, running := false } ∧ s.node r = some (g, n) ∧ n.phase = .running ∧ s.stageMine h r n = true ∧ s.stageT0Ok h r n =
    true ∧ s.csetUsers h (stgSet n) = 0 ∧ s.power.gateOpen = true) ∧
    (∃ (s : State) (h : Half) (r : NodeRef) (g : Graph) (n : Node) (data : List Byte) (chk : Scan), s.live = true ∧ (s.half h).stage =
    { node := some r, running := true } ∧ s.node r = some (g, n) ∧ n.phase = .running ∧ stgSource n = 3 ∧ stgLength n ≤ data.length ∧
    stgLength n ≤ 64 * s.csetSize h (stgSet n) ∧ csetGood (data.take (stgLength n)) (64 * s.csetSize h (stgSet n)) = true) ∧
    (∃ (s : State) (h : Half) (r : NodeRef) (g : Graph) (n : Node) (data : List Byte) (chk : Scan) (f : Bool), s.live = true ∧ (s.half
    h).stage.node = some r ∧ (s.half h).stage.running = true ∧ s.node r = some (g, n) ∧ n.phase = .running ∧ (stgSource n ≠ 0 ∨ (s.half
    h).stage.data.length = stgLength n) ∧ (s.stageBytes h r n data chk f).2.2 = false ∧ csetGood (s.stageBytes h r n data chk f).2.1 (64 *
    s.csetSize h (stgSet n)) = true ∧ (s.stageBytes h r n data chk f).2.1.length ≤ 64 * s.csetSize h (stgSet n)) :=
  ⟨⟨(fbw { startUs := some 2, tiles := 1 }).setRing .west 3 { (live0.ring .west 3) with consumer := some .plaza }, .west, n0, fbOp, 2,
    by decide +kernel⟩,
    ⟨fbw99 { startUs := some 2, tiles := 1 }, .west, n0, opOf (17 + 1024 + 2048) (7 + 7 * 16 + 7 * 256) 1 2 2 0 65543 3 65545 65543 65543
    (1 + 99 * 65536), 2, by decide +kernel⟩,
    ⟨fbw { tiles := 1, fallback := true }, .west, n0, fbOp, by decide +kernel⟩,
    ⟨(plzw (opOf 49 (10 + 7 * 256) 1 0 2 0 65543 0 65545 0 0 0) { written := true }).wf (PLZ_STATUS .west) PLZ_STATUS.BUSY 1, .west, n0,
    g0 (plzB (opOf 49 (10 + 7 * 256) 1 0 2 0 65543 0 65545 0 0 0)) .running, nd0 (plzB (opOf 49 (10 + 7 * 256) 1 0 2 0 65543 0 65545 0 0
    0)) .running, { bad := [0] }, by decide +kernel⟩,
    ⟨live0.wf (SDS_SET_REGION .west 255) SDS_SET_REGION.SIZE 1, .west, 255, 511, by decide +kernel⟩,
    ⟨stgw [] false false, .west, 255, 1, by decide +kernel⟩,
    ⟨live0, .west, 255, 65536, by decide +kernel⟩,
    ⟨stgw (stgB 255 3 0 32) true false, .west, n0, g0 (stgB 255 3 0 32) .running, nd0 (stgB 255 3 0 32) .running, by decide +kernel⟩,
    ⟨stgw (stgB 255 3 0 32) true true, .west, n0, g0 (stgB 255 3 0 32) .running, nd0 (stgB 255 3 0 32) .running, cset0, {},
    by decide +kernel⟩,
    ⟨(let s := stgw (stgB 255 0 0 32) true true; { s with west := { s.west with stage := { s.west.stage with data := cset0 } } }), .west,
    n0, g0 (stgB 255 0 0 32) .running, nd0 (stgB 255 0 0 32) .running, [], {}, false, by decide +kernel⟩⟩

theorem witness_TransfersStartMoveAndEnd :
    (∃ (s : State) (e : Nat) (c : Chain) (r : NodeRef), s.live = true ∧ e < 64 ∧ s.strState e = 1 ∧ (s.engine e).chain = some c ∧ c.node =
    some r ∧ s.chainRuns e = true ∧ s.domOn (clusterDom e) = true ∧ c.loaded < 256 ∧ c.resume = false ∧ s.chainHas e (engHalf e) c.handle
    = true ∧ (s.chainObj e c.handle).tier = 1 ∧ c.off % 128 = 0 ∧ c.off + 128 ≤ (s.chainObj e c.handle).size ∧ s.memBad (s.chainObj e
    c.handle).half 1 ((s.chainObj e c.handle).addr + c.off) 128 = false ∧ s.dscCheck e (s.objRead (s.chainObj e c.handle) c.off 128) = 0 ∧
    dscSrcKind (s.objRead (s.chainObj e c.handle) c.off 128) = 1 ∧ dscDstKind (s.objRead (s.chainObj e c.handle) c.off 128) = 1) ∧
    (∃ (s : State) (e : Nat) (chk : Scan), s.live = true ∧ e < 64 ∧ s.moving e = true ∧ dscSrcKind (s.engine e).desc = 1 ∧ dscDstKind
    (s.engine e).desc = 1 ∧ s.power.gateOpen = true ∧ chk.bad = [] ∧ dscElem (s.engine e).desc ≤ 6 ∧ 0 < dscCount (s.engine e).desc 0 ∧
    dscTotal (s.engine e).desc = dscCount (s.engine e).desc 0 ∧ (s.engine e).done = 0 ∧ (s.engine e).bad = false ∧ dscLast (s.engine
    e).desc = true ∧ dscLayerEnd (s.engine e).desc = false ∧ s.payloadPending e = false ∧ (s.chainObj e (dscSrc (s.engine e).desc % 2 ^
    32)).tier = 1 ∧ (s.chainObj e (dscDst (s.engine e).desc % 2 ^ 32)).tier = 1 ∧ (s.chainObj e (s.engine e).handle).tier = 1 ∧ s.memBad
    (s.chainObj e (dscSrc (s.engine e).desc % 2 ^ 32)).half 1 ((s.chainObj e (dscSrc (s.engine e).desc % 2 ^ 32)).addr + dscSrc (s.engine
    e).desc / 2 ^ 32) (dscBytes (s.engine e).desc) = false ∧ ((s.chainObj e (s.engine e).handle).half ≠ (s.chainObj e (dscDst (s.engine
    e).desc % 2 ^ 32)).half ∨ (s.chainObj e (s.engine e).handle).addr + (s.engine e).off + 128 ≤ (s.chainObj e (dscDst (s.engine e).desc %
    2 ^ 32)).addr + dscDst (s.engine e).desc / 2 ^ 32 ∨ (s.chainObj e (dscDst (s.engine e).desc % 2 ^ 32)).addr + dscDst (s.engine e).desc
    / 2 ^ 32 + dscBytes (s.engine e).desc ≤ (s.chainObj e (s.engine e).handle).addr + (s.engine e).off) ∧ partWords (wordBytes 1)
    ((s.chainObj e (dscDst (s.engine e).desc % 2 ^ 32)).addr + dscDst (s.engine e).desc / 2 ^ 32) (dscBytes (s.engine e).desc) = [] ∧
    partWords (wordBytes 1) ((s.chainObj e (s.engine e).handle).addr + ((s.engine e).off + 0x74)) 8 = []) ∧
    (∃ (s : State) (h : Half) (r e : Nat) (chk : Scan), s.live = true ∧ e < 64 ∧ s.moving e = true ∧ s.power.gateOpen = true ∧ engHalf e =
    h ∧ r < 64 ∧ (s.ring h r).producer = some (.engine e) ∧ dscSrcKind (s.engine e).desc = 1 ∧ dscDstKind (s.engine e).desc = 6 ∧ dscDst
    (s.engine e).desc = r ∧ dscElem (s.engine e).desc ≤ 6 ∧ (s.ring h r).fill < s.slotBytes h r ∧ (s.ring h r).lens.length < s.ringSlots h
    r ∧ (s.engine e).done + (s.slotBytes h r - (s.ring h r).fill) ≤ dscBytes (s.engine e).desc) ∧
    (∃ (s : State) (h : Half) (r n : Nat) (ns : List Nat), s.live = true ∧ r < 64 ∧ (s.ring h r).consumer = some .plaza ∧ (s.ring h
    r).lens = n :: ns ∧ (s.ring h r).taken = n) ∧
    (∃ (s : State) (h : Half) (r e : Nat) (cons : Bool) (ps : List Party), s.live = true ∧ e < 64 ∧ engHalf e = h ∧ r < 64 ∧ s.strState e
    = 5 ∧ dscSrcKind (s.engine e).desc = 6 ∧ dscSrc (s.engine e).desc = r ∧ dscDstKind (s.engine e).desc = 1 ∧ s.sideCode e (s.engine
    e).desc false = 0 ∧ (s.ring h r).consumer = none ∧ (s.ring h r).waitCons = .engine e :: ps) ∧
    (∃ (s : State) (e : Nat) (c : Chain), s.live = true ∧ e < 64 ∧ s.strState e = 6 ∧ (s.engine e).drain = 0 ∧ (s.engine e).bad = false ∧
    dscLast (s.engine e).desc = false ∧ (s.engine e).chain = some c ∧ (s.chainObj e (s.engine e).handle).tier = 1 ∧ partWords (wordBytes
    1) ((s.chainObj e (s.engine e).handle).addr + ((s.engine e).off + 0x74)) 8 = []) ∧
    (∃ (s : State) (e : Nat) (c : Chain), s.live = true ∧ e < 64 ∧ s.strState e = 1 ∧ (s.engine e).chain = some c ∧ (c.node.isSome = true
    ∨ c.loaded ≠ 0 ∨ (s.engine e).bound ≠ []) ∧ s.chainRuns e = true ∧ s.domOn (clusterDom e) = true ∧ c.loaded < 256 ∧ c.resume = false ∧
    s.chainHas e (engHalf e) c.handle = true ∧ (s.chainObj e c.handle).tier = 1 ∧ c.off % 128 = 0 ∧ c.off + 128 ≤ (s.chainObj e
    c.handle).size ∧ s.memBad (s.chainObj e c.handle).half 1 ((s.chainObj e c.handle).addr + c.off) 128 = false ∧ s.dscCheck e (s.objRead
    (s.chainObj e c.handle) c.off 128) = 0) ∧
    (∃ (s : State) (e : Nat) (c : Chain), s.live = true ∧ e < 64 ∧ s.strState e = 1 ∧ (s.engine e).chain = some c ∧ (c.node.isSome = true
    ∨ c.loaded ≠ 0 ∨ (s.engine e).bound ≠ []) ∧ s.chainRuns e = true ∧ s.domOn (clusterDom e) = true ∧ (256 ≤ c.loaded ∨ s.chainHas e
    (engHalf e) c.handle = false)) ∧
    (∃ (s : State) (e : Nat) (data : List Byte) (chk : Scan) (f : Bool), s.live = true ∧ e < 64 ∧ s.moving e = true ∧ dscBytes (s.engine
    e).desc ≤ (s.engine e).done ∧ s.payloadPending e = false ∧ (dscLayerEnd (s.engine e).desc = false ∨ dscDstKind (s.engine e).desc ≠ 6)) ∧
    (∃ (s : State) (e m : Nat) (data : List Byte) (chk : Scan), s.live = true ∧ e < 64 ∧ s.moving e = true ∧ s.power.gateOpen = true ∧
    s.moveCode e = 0 ∧ dscFed (s.engine e).desc = false ∧ (s.engine e).done < dscBytes (s.engine e).desc ∧ m = s.dstRoom e (s.srcAvail e
    (dscBytes (s.engine e).desc - (s.engine e).done) (data.take (dscBytes (s.engine e).desc - (s.engine e).done - (s.engine
    e).pack.length))) (decide (s.srcAvail e (dscBytes (s.engine e).desc - (s.engine e).done) (data.take (dscBytes (s.engine e).desc -
    (s.engine e).done - (s.engine e).pack.length)) = dscBytes (s.engine e).desc - (s.engine e).done)) ∧ (s.engine e).done + m < dscBytes
    (s.engine e).desc) ∧
    (∃ (s : State) (h : Half) (r e : Nat) (data : List Byte) (chk : Scan), s.live = true ∧ e < 64 ∧ s.moving e = true ∧ s.power.gateOpen =
    true ∧ engHalf e = h ∧ r < 64 ∧ (s.ring h r).producer = some (.engine e) ∧ dscDstKind (s.engine e).desc = 6 ∧ dscDst (s.engine e).desc
    = r ∧ s.moveCode e = 0 ∧ (s.ring h r).fill < s.slotBytes h r ∧ (s.ring h r).lens.length < s.ringSlots h r ∧ (s.engine e).done +
    (s.slotBytes h r - (s.ring h r).fill) ≤ dscBytes (s.engine e).desc ∧ ((dscSrcKind (s.engine e).desc = 2 ∧ s.slotBytes h r - (s.ring h
    r).fill ≤ (s.engine e).pack.length + data.length) ∨ (dscSrcKind (s.engine e).desc = 5 ∧ s.slotBytes h r - (s.ring h r).fill ≤
    s.rqAvail h (dscSrc (s.engine e).desc)))) ∧
    (∃ (s : State) (h : Half) (r e n : Nat) (ns : List Nat), s.live = true ∧ e < 64 ∧ s.moving e = true ∧ s.power.gateOpen = true ∧
    engHalf e = h ∧ r < 64 ∧ (s.ring h r).consumer = some (.engine e) ∧ dscSrcKind (s.engine e).desc = 6 ∧ dscSrc (s.engine e).desc = r ∧
    s.moveCode e = 0 ∧ (s.ring h r).lens = n :: ns ∧ (s.ring h r).taken < n ∧ 0 ∉ ns ∧ s.unlanded e = 0 ∧ (s.engine e).done + (n - (s.ring
    h r).taken) ≤ dscBytes (s.engine e).desc ∧ (dscDstKind (s.engine e).desc = 1 ∨ dscDstKind (s.engine e).desc = 2)) ∧
    (∃ (s : State) (h : Half) (r n : Nat) (ns : List Nat), s.live = true ∧ r < 64 ∧ (s.ring h r).consumer = some .plaza ∧ (s.ring h
    r).lens = n :: ns ∧ (s.ring h r).taken ≠ n ∧ (s.half h).plaza.skip ≠ 0) ∧
    (∃ (s : State) (h : Half) (r e : Nat) (cons : Bool), s.live = true ∧ e < 64 ∧ engHalf e = h ∧ s.strState e = 5 ∧ s.sideCode e
    (s.engine e).desc false = 0 ∧ s.sideCode e (s.engine e).desc true = 0 ∧ (s.attachSides e (s.engine e).desc).2 = true) ∧
    (∃ (s : State) (e : Nat), s.live = true ∧ e < 64 ∧ s.strState e = 6 ∧ (s.engine e).drain = 0) :=
  ⟨⟨strw (dscB 1 1 0 4 65544 65545 100) 1 { chain := some ch0 }, 9, ch0, n0, by decide +kernel⟩,
    ⟨(strw (dscB 1 1 0 4 65544 65545 100) 2 (run0 (dscB 1 1 0 4 65544 65545 100))).memPut .west 1 131072 (List.replicate 120 0x5A), 9,
    { corrected := 1 }, by decide +kernel⟩,
    ⟨cfgRing (strw (dscB 1 6 0 4 65544 63 5000) 2 (run0 (dscB 1 6 0 4 65544 63 5000))) 63
    { producer := some (.engine 9), fill := 1000, lens := [1024, 77], buf := 131072 }, .west, 63, 9, { bad := [3], replayed := 2 },
    by decide +kernel⟩,
    ⟨cfgRing (live0.wf (STR_RING_STATE .west 63) STR_RING_STATE.HEAD 18) 63
    { consumer := some .plaza, lens := [1024, 77], taken := 1024 }, .west, 63, 1024, [77], by decide +kernel⟩,
    ⟨cfgRing (strw (dscB 6 1 0 4 63 65545 5000) 5 (run0 (dscB 6 1 0 4 63 65545 5000))) 63 { waitCons := [.engine 9, .plaza] }, .west, 63,
    9, true, [.plaza], by decide +kernel⟩,
    ⟨strw (dscB 1 6 0 3 65544 63 5000) 6 (run0 (dscB 1 6 0 3 65544 63 5000)), 9, { ch0 with loaded := 1 }, by decide +kernel⟩,
    ⟨cfgRing (strw (dscB 6 1 0 4 63 65545 5000) 1 { chain := some ch0 }) 63 { consumer := some .plaza }, 9, ch0, by decide +kernel⟩,
    ⟨strw (dscB 1 1 0 4 65544 65545 100) 1 { chain := some { ch0 with loaded := 256 } }, 9, { ch0 with loaded := 256 }, by decide +kernel⟩,
    ⟨strw (dscB 2 2 0 4 65544 65545 100) 2 { run0 (dscB 2 2 0 4 65544 65545 100) with done := 100 }, 9, [], {}, false, by decide +kernel⟩,
    ⟨strw (dscB 2 1 0 4 65544 65545 100) 2 (run0 (dscB 2 1 0 4 65544 65545 100)), 9, 3, [1, 2, 3], {}, by decide +kernel⟩,
    ⟨cfgRing (strw (dscB 2 6 0 4 65544 63 5000) 2 (run0 (dscB 2 6 0 4 65544 63 5000))) 63
    { producer := some (.engine 9), fill := 1020, lens := [1024, 77], buf := 131072 }, .west, 63, 9, [1, 2, 3, 4], {}, by decide +kernel⟩,
    ⟨cfgRing (strw (dscB 6 1 0 4 63 65545 5000) 2 (run0 (dscB 6 1 0 4 63 65545 5000))) 63
    { consumer := some (.engine 9), taken := 1020, lens := [1024, 77], buf := 131072 }, .west, 63, 9, 1024, [77], by decide +kernel⟩,
    ⟨(let s := cfgRing live0 63 { consumer := some .plaza, lens := [1024, 77] };
    { s with west := { s.west with plaza := { skip := 2 } } }), .west, 63, 1024, [77], by decide +kernel⟩,
    ⟨cfgRing (strw (dscB 6 2 0 4 63 65545 5000) 5 (run0 (dscB 6 2 0 4 63 65545 5000))) 63 { waitCons := [.engine 9, .plaza] }, .west, 63,
    9, true, by decide +kernel⟩,
    ⟨strw (dscB 1 6 0 3 65544 63 5000) 6 (run0 (dscB 1 6 0 3 65544 63 5000)), 9, by decide +kernel⟩⟩

theorem witness_ArmsPageFaultsAndRings :
    (∃ (s : State) (e : Nat) (v : Nat), s.live = true ∧ e < 64 ∧ bit v 8 = true ∧ (s.engine e).chain = none ∧ (s.engine e).shadow = none ∧
    s.domOn (clusterDom e) = true) ∧
    (∃ (s : State) (e : Nat) (v : Nat), s.live = true ∧ e < 64 ∧ bit v 8 = true ∧ (s.engine e).shadow.isSome = true) ∧
    (∃ (s : State) (e : Nat) (c : Chain), s.live = true ∧ e < 64 ∧ (s.engine e).chain = none ∧ (s.engine e).shadow = some c) ∧
    (∃ (s : State) (e : Nat) (c : Chain), s.live = true ∧ e < 64 ∧ (s.engine e).chain = some c ∧ c.node = none ∧ s.pcie.waitReq = []) ∧
    (∃ (s : State) (e : Nat) (addr : Nat) (wr : Bool) (index : List Nat), s.live = true ∧ e < 64 ∧ s.moving e = true ∧ ((dscSrcKind
    (s.engine e).desc = 2 ∧ dscDstKind (s.engine e).desc = 1) ∨ (dscSrcKind (s.engine e).desc = 1 ∧ dscDstKind (s.engine e).desc = 2)) ∧
    (addr, wr) = t3Element (s.engine e).desc index ∧ dscIndex (s.engine e).desc (dscLinear (s.engine e).desc index) = index ∧ dscLinear
    (s.engine e).desc index * 2 ^ dscElem (s.engine e).desc = (s.engine e).done ∧ (s.engine e).done < dscBytes (s.engine e).desc ∧
    s.payloadPending e = false ∧ (s.func (s.chainFunc e)).atsEn = true ∧ s.pcie.priEn = true ∧ s.pcie.requests.length < min
    s.pcie.priAlloc 512) ∧
    (∃ (s : State) (e : Nat), s.live = true ∧ e < 64 ∧ s.pagePending e = true ∧ s.pcie.waitReq = []) ∧
    (∃ (s : State) (e : Nat) (c : PageResp), s.live = true ∧ e < 64 ∧ s.pagePending e = true ∧ s.pcie.waitReq = [] ∧ c ≠ .success ∧
    dscDstKind (s.engine e).desc ≠ 4 ∧ (((s.chainObj e (s.engine e).handle).tier = 1 → partWords (wordBytes 1) ((s.chainObj e (s.engine
    e).handle).addr + ((s.engine e).off + 0x60)) 28 = []))) ∧
    (∃ (s : State) (h : Half) (r v b : Nat), s.live = true ∧ r < 64 ∧ s.on (STR_RING_CFG h r) STR_RING_CFG.VALID = false ∧ bit v 0 = true
    ∧ s.pinRange h (bits v 24 8) (s.rf (STR_RING_BASE h r) STR_RING_BASE.HANDLE) (s.rf (STR_RING_OFFSET h r) STR_RING_OFFSET.OFFSET / 64 *
    64) (ringSlotsOf (bits v 4 5) * ringKibOf (bits v 9 9) * 1024) = some b) ∧
    (∃ (s : State) (h : Half) (r v : Nat), s.live = true ∧ r < 64 ∧ s.on (STR_RING_CFG h r) STR_RING_CFG.VALID = false ∧ bit v 0 = true ∧
    s.pinRange h (bits v 24 8) (s.rf (STR_RING_BASE h r) STR_RING_BASE.HANDLE) (s.rf (STR_RING_OFFSET h r) STR_RING_OFFSET.OFFSET / 64 *
    64) (ringSlotsOf (bits v 4 5) * ringKibOf (bits v 9 9) * 1024) = none) ∧
    (∃ (s : State) (e : Nat) (c : Chain), s.live = true ∧ e < 64 ∧ (s.engine e).chain = some c ∧ c.node = none) ∧
    (∃ (s s1 : State) (e : Nat) (index : List Nat) (data : List Byte), s.live = true ∧ e < 64 ∧ s.moving e = true ∧ (dscSrcKind (s.engine
    e).desc = 2 ∨ dscDstKind (s.engine e).desc = 2) ∧ (s.func (s.chainFunc e)).atsEn = true ∧ (s.engine e).done ≤ dscLinear (s.engine
    e).desc index * 2 ^ dscElem (s.engine e).desc ∧ dscLinear (s.engine e).desc index * 2 ^ dscElem (s.engine e).desc < dscBytes (s.engine
    e).desc ∧ dscIndex (s.engine e).desc (dscLinear (s.engine e).desc index) = index ∧ s1 = s.moveBytes e (dscLinear (s.engine e).desc
    index * 2 ^ dscElem (s.engine e).desc - (s.engine e).done) (data.take (dscLinear (s.engine e).desc index * 2 ^ dscElem (s.engine
    e).desc - (s.engine e).done - (s.engine e).pack.length)) {} ∧ s1.stopReached e (dscLinear (s.engine e).desc index * 2 ^ dscElem
    (s.engine e).desc) = true ∧ s1.pcie.priEn = true ∧ s1.pcie.requests.length < min s1.pcie.priAlloc 512) ∧
    (∃ (s : State) (e : Nat) (c : PageResp), s.live = true ∧ e < 64 ∧ s.pagePending e = true ∧ s.pcie.waitReq.all (fun f => decide (f ≤
    64) && f != e) = true) ∧
    (∃ (s : State) (e : Nat), s.live = true ∧ e < 64 ∧ s.pagePending e = true) :=
  ⟨⟨domsOn live0 [126], 63, 256 + 512 + 255, by decide +kernel⟩,
    ⟨live0.setEngine 63 { shadow := some ch0 }, 63, 256, by decide +kernel⟩,
    ⟨live0.setEngine 63 { shadow := some ch0 }, 63, ch0, by decide +kernel⟩,
    ⟨strw (dscB 1 1 0 4 65544 65545 100) 2 { run0 (dscB 1 1 0 4 65544 65545 100) with chain := some { ch0 with node := none } }, 9,
    { ch0 with node := none }, by decide +kernel⟩,
    ⟨(priw (strw (dscB 2 1 0 4 0x123456785 65545 100) 2 { run0 (dscB 2 1 0 4 0x123456785 65545 100) with done := 55 })).setFunc 0
    { atsEn := true }, 9, 0x1234567BC, false, [55, 0, 0, 0, 0], by decide +kernel⟩,
    ⟨(priw (strw (dscB 2 1 0 4 0x123456785 65545 100) 3 (run0 (dscB 2 1 0 4 0x123456785 65545 100)))).wf (STR_FAULT_INFO .west 9)
    STR_FAULT_INFO.PENDING 1, 9, by decide +kernel⟩,
    ⟨(priw (strw (dscB 2 1 0 4 0x123456785 65545 100) 3 (run0 (dscB 2 1 0 4 0x123456785 65545 100)))).wf (STR_FAULT_INFO .west 9)
    STR_FAULT_INFO.PENDING 1, 9, .failure, by decide +kernel⟩,
    ⟨(withObj live0 .west 8 1 32 65536 1 0x29).wf (STR_RING_BASE .west 63) STR_RING_BASE.HANDLE 65544, .west, 63, 1 + 3 * 16 + 512 + 2 ^
    24, 131072, by decide +kernel⟩,
    ⟨live0, .west, 63, 1, by decide +kernel⟩,
    ⟨priw (strw (dscB 1 1 0 4 65544 65545 100) 2 { run0 (dscB 1 1 0 4 65544 65545 100) with chain := some { ch0 with node := none } }), 9,
    { ch0 with node := none }, by decide +kernel⟩,
    ⟨(priw (strw (dscB 2 1 0 4 0x123456785 65545 100) 2 (run0 (dscB 2 1 0 4 0x123456785 65545 100)))).setFunc 0 { atsEn := true }, ((priw
    (strw (dscB 2 1 0 4 0x123456785 65545 100) 2 (run0 (dscB 2 1 0 4 0x123456785 65545 100)))).setFunc 0 { atsEn := true }).moveBytes 9 4
    [7, 8, 9, 10] {}, 9, [4, 0, 0, 0, 0], [7, 8, 9, 10], by decide +kernel⟩,
    ⟨(priw (strw (dscB 2 1 0 4 0x123456785 65545 100) 3 (run0 (dscB 2 1 0 4 0x123456785 65545 100)))).wf (STR_FAULT_INFO .west 9)
    STR_FAULT_INFO.PENDING 1, 9, .failure, by decide +kernel⟩,
    ⟨(priw (strw (dscB 2 1 0 4 0x123456785 65545 100) 3 (run0 (dscB 2 1 0 4 0x123456785 65545 100)))).wf (STR_FAULT_INFO .west 9)
    STR_FAULT_INFO.PENDING 1, 9, by decide +kernel⟩⟩

theorem witness_GraphsAreReadAndAdmitted :
    (∃ (s : State) (c : Nat) (entry desc : List Byte), s.live = true ∧ c < 256 ∧ s.turnOf c = true ∧ s.domOn (jctDom .west) = true ∧ s.on
    (JCT_CTX_CFG c) JCT_CTX_CFG.SQ_WHERE = false ∧ (s.func (s.ctxFunc c)).atsEn = false ∧ 64 ≤ entry.length ∧ entInT1 (entry.take 64) =
    false ∧ entLength (entry.take 64) ≤ desc.length ∧ s.graphCheck c (entry.take 64) (desc.take (entLength (entry.take 64))) = none) ∧
    (∃ (s : State) (c : Nat) (entry desc : List Byte) (q i : Nat), s.live = true ∧ c < 256 ∧ s.turnOf c = true ∧ s.domOn (jctDom .west) =
    true ∧ s.on (JCT_CTX_CFG c) JCT_CTX_CFG.SQ_WHERE = false ∧ (s.func (s.ctxFunc c)).atsEn = false ∧ 64 ≤ entry.length ∧ entInT1
    (entry.take 64) = false ∧ entLength (entry.take 64) ≤ desc.length ∧ s.graphCheck c (entry.take 64) (desc.take (entLength (entry.take
    64))) = some (q, i) ∧ s.cqFull c = false ∧ (s.ctx c).held = []) ∧
    (∃ (s : State) (c : Nat) (g : Graph) (ps : List Pin), s.live = true ∧ c < 256 ∧ s.domOn (jctDom .west) = true ∧ (s.ctx c).waiting =
    some g ∧ s.waitsAfter g = false ∧ s.graphFits c g = true ∧ s.waiters.any (fun (w : Nat × Graph) => s.waitsLonger w.1 c && s.graphFits
    w.1 w.2) = false ∧ s.takePins g.wsets = some ps ∧ (∀ d ∈ [127, 128, 131, 132], s.domOn d = true)) ∧
    (∃ (s : State) (c : Nat) (g : Graph), s.live = true ∧ (s.ctx c).waiting = some g ∧ s.waitsAfter g = false ∧ s.us .west - (s.ctx
    c).waitUs > s.rf (JCT_ADMIT_CTRL .west) JCT_ADMIT_CTRL.RESERVE_US) ∧
    (∃ (s : State) (h : Half) (k : Token) (q : List PassMsg) (g : Graph) (n : Node), s.live = true ∧ (s.half h).token = .token k :: q ∧
    (s.half h).turn .token = true ∧ s.passOn = true ∧ g.seq = k.seq ∧ s.node { ctx := k.ctx, gid := k.gid, node := k.node } = some (g, n)
    ∧ g.aborted = false ∧ n.phase = .waiting ∧ n.preds = 1 ∧ n.half = h) ∧
    (∃ (s : State) (c i : Nat) (q : List PassMsg) (g : Graph), s.live = true ∧ s.east.control = .admitMsg c i g.seq :: q ∧ s.passOn = true
    ∧ s.east.turn .control = true ∧ s.graph c i = some g ∧ s.east.early = []) ∧
    (∃ (s s1 s2 : State) (c : Nat) (entry desc e d : List Byte) (f : Bool), s.live = true ∧ c < 256 ∧ s.turnOf c = true ∧ s.domOn (jctDom
    .west) = true ∧ s.readEntry c entry f = (s1, .got e) ∧ s1.readDesc c e desc f = (s2, .got d) ∧ s2.graphCheck c e d = none) ∧
    (∃ (s s1 : State) (c g : Nat) (entry desc : List Byte) (f : Bool), s.live = true ∧ c < 256 ∧ s.turnOf c = true ∧ s.domOn (jctDom
    .west) = true ∧ s.readEntry c entry f = (s1, .failed g)) ∧
    (∃ (s : State) (c : Nat) (g : Graph), s.live = true ∧ c < 256 ∧ s.domOn (jctDom .west) = true ∧ (s.ctx c).waiting = some g ∧
    s.waitsAfter g = false ∧ s.graphFits c g = true ∧ s.waiters.any (fun (w : Nat × Graph) => s.waitsLonger w.1 c && s.graphFits w.1 w.2)
    = false) ∧
    (∃ (s : State) (c i : Nat) (q : List PassMsg) (g : Graph), s.live = true ∧ s.east.control = .admitMsg c i g.seq :: q ∧ s.passOn = true
    ∧ s.east.turn .control = true ∧ s.graph c i = some g) ∧
    (∃ (s : State) (h : Half) (k : Token) (q : List PassMsg), s.live = true ∧ (s.half h).token = .token k :: q ∧ (s.half h).turn .token =
    true ∧ s.passOn = true) :=
  ⟨⟨ctxw live0 255, 255, entB 324, descB 9 [[7], [7]] [(0, 1)], by decide +kernel⟩,
    ⟨ctxw live0 255, 255, entB 324, descB 9 [[7], [7]] [(0, 0)], 0x84, 0xFFF, by decide +kernel⟩,
    ⟨waitw (graphOf 1 false 8192 (descB 9 [[7], [7]] [(0, 1)])), 1, graphOf 1 false 8192 (descB 9 [[7], [7]] [(0, 1)]), [],
    by decide +kernel⟩,
    ⟨{ waitw (graphOf 1 false 8192 (descB 9 [[7], [7]] [(0, 1)])) with west := { us := 65536 } }, 1, graphOf 1 false 8192 (descB 9 [[7],
    [7]] [(0, 1)]), by decide +kernel⟩,
    ⟨{ gw [nop {}, nop { preds := 1 }] [] with west := { token := [.token { ctx := 1, gid := 0, node := 1, src := 0, seq := 0 }] } },
    .west, { ctx := 1, gid := 0, node := 1, src := 0, seq := 0 }, [], (gw [nop {}, nop { preds := 1 }] []).graphs.headD
    { ctx := 0, gid := 0 }, nop { preds := 1 }, by decide +kernel⟩,
    ⟨{ gw [nop { phase := .arriving }, nop { phase := .arriving, preds := 1 }] [] with east := { control := [.admitMsg 1 0 0] } }, 1, 0,
    [], (gw [nop { phase := .arriving }, nop { phase := .arriving, preds := 1 }] []).graphs.headD { ctx := 0, gid := 0 },
    by decide +kernel⟩,
    ⟨ctxw live0 255, ((ctxw live0 255).readEntry 255 (entB 324) false).1, (((ctxw live0 255).readEntry 255 (entB 324) false).1.readDesc
    255 (entB 324) (descB 9 [[7], [7]] [(0, 1)]) false).1, 255, entB 324, descB 9 [[7], [7]] [(0, 1)], entB 324, (descB 9 [[7], [7]] [(0,
    1)]).take 324, false, by decide +kernel⟩,
    ⟨ctxw live0 255, ((ctxw live0 255).readEntry 255 [] false).1, 255, 0, [], [], false, by decide +kernel⟩,
    ⟨waitw (graphOf 1 false 8192 (descB 9 [[7], [0x17]] [(0, 1)])), 1, graphOf 1 false 8192 (descB 9 [[7], [0x17]] [(0, 1)]),
    by decide +kernel⟩,
    ⟨{ gw [nop { phase := .arriving }, nop { phase := .arriving, preds := 1 }] [(0, 1)] with east := { control := [.admitMsg 1 0 0], early := [{ ctx := 1, gid := 0, node := 1, src := 0, seq := 0 }] } },
    1, 0, [], (gw [nop { phase := .arriving }, nop { phase := .arriving, preds := 1 }] [(0, 1)]).graphs.headD { ctx := 0, gid := 0 },
    by decide +kernel⟩,
    ⟨{ gw [nop {}, nop { preds := 2 }] [] with west := { token := [.token { ctx := 1, gid := 0, node := 1, src := 0, seq := 0 }] } },
    .west, { ctx := 1, gid := 0, node := 1, src := 0, seq := 0 }, [], by decide +kernel⟩⟩

theorem witness_NodesAreDispatchedAndComplete :
    (∃ (s : State) (r : NodeRef) (g : Graph) (n : Node), s.live = true ∧ s.node r = some (g, n) ∧ n.phase = .ready ∧ n.escal = none ∧
    g.aborted = false ∧ s.level g n ≤ 3 ∧ s.rf (JCT_STARVE n.half (s.level g n)) JCT_STARVE.US ≠ 0 ∧ s.us n.half - n.readyUs > s.rf
    (JCT_STARVE n.half (s.level g n)) JCT_STARVE.US) ∧
    (∃ (s : State) (h : Half) (u : UnitRef) (x : Ready) (g : Graph), s.live = true ∧ s.power.gateOpen = true ∧ s.domOn (jctDom h) = true ∧
    s.pick h u = some x ∧ x.node.kind = 7 ∧ s.node x.ref = some (g, x.node) ∧ x.node.phase = .ready ∧ x.level ≤ 3) ∧
    (∃ (s : State) (r : NodeRef) (g : Graph) (n : Node) (j : Nat) (m : Node), s.live = true ∧ s.node r = some (g, n) ∧ n.phase = .ended ∧
    n.releases g = true ∧ g.aborted = false ∧ n.kind = 7 ∧ n.bound = [] ∧ n.setBound = false ∧ n.notify = false ∧ n.prim ≤ 2 ∧
    s.nodesWhere (fun (g : Graph) (n : Node) => n.phase == .binding && !g.aborted) = [] ∧ g.statusT1 = false ∧ (s.func (s.ctxFunc
    g.ctx)).atsEn = false ∧ g.ctx = r.ctx ∧ g.edges = [(r.node, j)] ∧ j ≠ r.node ∧ g.nodes[j]? = some m ∧ m.half = n.half ∧ m.phase =
    .waiting ∧ m.preds = 1) ∧
    (∃ (s : State) (r : NodeRef) (g : Graph) (n : Node), s.live = true ∧ s.graphs = [g] ∧ g.ctx = r.ctx ∧ g.gid = r.gid ∧ r.node = 0 ∧
    g.nodes = [n] ∧ g.edges = [] ∧ g.pins = [] ∧ g.ending = false ∧ n.phase = .ended ∧ n.releases g = true ∧ g.aborted = false ∧ n.kind =
    7 ∧ n.bound = [] ∧ n.setBound = false ∧ n.notify = false ∧ n.prim ≤ 2 ∧ r.ctx < 256 ∧ s.cqFull r.ctx = false ∧ (s.ctx r.ctx).held = []
    ∧ (s.ctx r.ctx).reset = false) ∧
    (∃ (s : State) (r : NodeRef) (g : Graph) (n : Node), s.live = true ∧ s.node r = some (g, n) ∧ n.phase = .ended ∧ n.releases g = false
    ∧ g.aborted = false ∧ n.kind = 7 ∧ n.bound = [] ∧ n.setBound = false ∧ g.statusT1 = false ∧ s.nodesWhere (fun (g : Graph) (n : Node)
    => n.phase == .binding && !g.aborted) = [] ∧ g.ctx = r.ctx ∧ g.gid = r.gid ∧ s.cqFull r.ctx = false ∧ (s.ctx r.ctx).held = [] ∧ r.ctx
    < 256) ∧
    (∃ (s : State) (r : NodeRef) (g : Graph) (n : Node) (f : Nat) (bs : List Byte), s.live = true ∧ r.ctx < 256 ∧ r.gid < 65536 ∧ s.owns f
    r.ctx = true ∧ s.node r = some (g, n) ∧ n.phase = .opened ∧ g.aborted = false ∧ g.inT1 = false ∧ (s.func (s.ctxFunc r.ctx)).atsEn =
    false ∧ bs.length = 128 ∧ ({ n with bytes := bs } : Node).kind = n.kind ∧ ({ n with bytes := bs } : Node).half = n.half ∧ (s.jctSet 2
    r.ctx r.node r.gid).nodeCheck g { n with bytes := bs } = 0) ∧
    (∃ (s : State) (r : NodeRef) (f : Nat) (bs : List Byte), s.live = true ∧ r.ctx < 256 ∧ s.owns f r.ctx = true ∧ s.nodeIn r .opened =
    false) ∧
    (∃ (s : State) (h : Half) (u : UnitRef) (x : Ready) (g : Graph), s.live = true ∧ s.power.gateOpen = true ∧ s.domOn (jctDom h) = true ∧
    s.pick h u = some x ∧ s.node x.ref = some (g, x.node) ∧ x.node.phase = .ready) ∧
    (∃ (s : State) (r : NodeRef) (g : Graph) (n : Node), s.live = true ∧ s.node r = some (g, n) ∧ n.phase = .ended) ∧
    (∃ (s : State) (r : NodeRef) (g : Graph) (n : Node) (f : Nat) (bs : List Byte), s.live = true ∧ r.ctx < 256 ∧ s.owns f r.ctx = true ∧
    s.node r = some (g, n) ∧ n.phase = .opened ∧ g.aborted = false) :=
  ⟨⟨{ gw [nop { phase := .ready, readyUs := 1 }] [] with west := { us := 1000000 } }, n0, (gw [nop { phase := .ready, readyUs := 1 }]
    []).graphs.headD { ctx := 0, gid := 0 }, nop { phase := .ready, readyUs := 1 }, by decide +kernel⟩,
    ⟨gw [nop {}, nop { phase := .ready }] [], .west, .nop,
    { ref := { n0 with node := 1 }, node := nop { phase := .ready }, level := 0, seq := 0 }, (gw [nop {}, nop { phase := .ready }]
    []).graphs.headD { ctx := 0, gid := 0 }, by decide +kernel⟩,
    ⟨(gw [nop { phase := .ended, dispatched := true }, nop { preds := 1 }] [(0, 1)]), n0, (gw [nop
    { phase := .ended, dispatched := true }, nop { preds := 1 }] [(0, 1)]).graphs.headD { ctx := 0, gid := 0 }, nop
    { phase := .ended, dispatched := true }, 1, nop { preds := 1 }, by decide +kernel⟩,
    ⟨(gw [nop { phase := .ended, dispatched := true }] []), n0, (gw [nop { phase := .ended, dispatched := true }] []).graphs.headD
    { ctx := 0, gid := 0 }, nop { phase := .ended, dispatched := true }, by decide +kernel⟩,
    ⟨gw [nop { phase := .ended, prim := 4 }] [], n0, (gw [nop { phase := .ended, prim := 4 }] []).graphs.headD { ctx := 0, gid := 0 }, nop
    { phase := .ended, prim := 4 }, by decide +kernel⟩,
    ⟨gw [nop { phase := .opened }] [], n0, (gw [nop { phase := .opened }] []).graphs.headD { ctx := 0, gid := 0 }, nop
    { phase := .opened }, 0, [7] ++ zeros 11 ++ [5] ++ zeros 115, by decide +kernel⟩,
    ⟨live0, n0, 0, [], by decide +kernel⟩,
    ⟨gw [nop {}, { bytes := 5 :: zeros 127, phase := .ready }] [], .west, .memory,
    { ref := { n0 with node := 1 }, node := { bytes := 5 :: zeros 127, phase := .ready }, level := 0, seq := 0 }, (gw [nop {},
    { bytes := 5 :: zeros 127, phase := .ready }] []).graphs.headD { ctx := 0, gid := 0 }, by decide +kernel⟩,
    ⟨(gw [nop { phase := .ended, dispatched := true, prim := 3 }, nop { preds := 1 }] [(0, 1)]), n0, (gw [nop
    { phase := .ended, dispatched := true, prim := 3 }, nop { preds := 1 }] [(0, 1)]).graphs.headD { ctx := 0, gid := 0 }, nop
    { phase := .ended, dispatched := true, prim := 3 }, by decide +kernel⟩,
    ⟨gw [nop { phase := .opened }] [], n0, (gw [nop { phase := .opened }] []).graphs.headD { ctx := 0, gid := 0 }, nop
    { phase := .opened }, 0, [7] ++ zeros 11 ++ [5] ++ zeros 115, by decide +kernel⟩⟩

theorem witness_ContextsAbortsAndDoorbells :
    (∃ (s : State) (f c i : Nat) (g : Graph), s.live = true ∧ c < 256 ∧ i < 65536 ∧ s.owns f c = true ∧ s.graph c i = some g ∧ g.aborted =
    false ∧ g.ending = false ∧ g.pins = [] ∧ g.nodes.all (fun n => n.phase == .ready || n.phase == .waiting) = true ∧ g.statusT1 = false ∧
    s.cqFull c = false ∧ (s.ctx c).held = []) ∧
    (∃ (s : State) (f c i : Nat), s.live = true ∧ c < 256 ∧ s.owns f c = false) ∧
    (∃ (s : State) (f c : Nat), s.live = true ∧ c < 256 ∧ s.owns f c = true ∧ s.ctxGraphs c = [] ∧ (s.ctx c).waiting = none) ∧
    (∃ (s : State) (c v : Nat), s.live = true ∧ c < 256 ∧ (s.ctxEn c = false ∨ normWord (JCT_CTX_CFG c) (bits v 0 23) / 2 = (s.rd
    (JCT_CTX_CFG c)).toNat / 2) ∧ s.on BOOT_GLOBAL_STATUS BOOT_GLOBAL_STATUS.FIT_MISMATCH = false ∧ s.jctPage.map (fun (p : PageWait) =>
    p.ctx) ≠ some c ∧ (normWord (JCT_CTX_CFG c) (bits v 0 23) % 16 = 3 ∨ normWord (JCT_CTX_CFG c) (bits v 0 23) % 16 = 5) ∧ (∀ d ∈ [127,
    131, 132], s.domOn d = true)) ∧
    (∃ (s : State) (c v : Nat), s.live = true ∧ c < 256 ∧ s.ctxEn c = true ∧ normWord (JCT_CTX_CFG c) (bits v 0 23) % 2 = 0 ∧
    (s.graphs.any (fun g => g.ctx == c) = true ∨ (s.ctx c).waiting.isSome = true)) ∧
    (∃ (s : State) (f c v : Nat), s.live = true ∧ c < 256 ∧ s.funcActive f = true ∧ s.owns f c = true ∧ v < s.sqSize c ∧ s.ctxEn c = true
    ∧ s.halfReady .west = true) ∧
    (∃ (s : State) (f c v : Nat), s.live = true ∧ c < 256 ∧ s.funcActive f = true ∧ s.owns f c = true ∧ v < s.cqSize c ∧ s.ctxEn c = true
    ∧ s.halfReady .west = true ∧ s.cqHead c ≤ v ∧ v ≤ s.cqTail c ∧ s.cqTail c < s.cqSize c ∧ (s.ctx c).held = []) ∧
    (∃ (s : State) (f c v : Nat), s.live = true ∧ c < 256 ∧ s.funcActive f = true ∧ s.owns f c = false) ∧
    (∃ (s : State) (f c v : Nat), s.live = true ∧ c < 256 ∧ s.funcActive f = true ∧ s.owns f c = true ∧ s.sqSize c ≤ v) ∧
    (∃ (s : State) (f c i : Nat) (g : Graph), s.live = true ∧ c < 256 ∧ s.owns f c = true ∧ s.graph c i = some g ∧ g.aborted = false) ∧
    (∃ (s : State) (f c : Nat), s.live = true ∧ c < 256 ∧ s.owns f c = true) ∧
    (∃ (s : State) (c v : Nat), s.live = true ∧ c < 256 ∧ (s.ctxEn c = false ∨ normWord (JCT_CTX_CFG c) (bits v 0 23) / 2 = (s.rd
    (JCT_CTX_CFG c)).toNat / 2) ∧ s.on BOOT_GLOBAL_STATUS BOOT_GLOBAL_STATUS.FIT_MISMATCH = false ∧ s.pcie.waitReq.all (fun f => decide (f
    ≤ 64)) = true ∧ (normWord (JCT_CTX_CFG c) (bits v 0 23) % 16 = 3 ∨ normWord (JCT_CTX_CFG c) (bits v 0 23) % 16 = 5)) ∧
    (∃ (s : State) (c v : Nat), s.live = true ∧ c < 256 ∧ (s.ctxEn c = false ∨ normWord (JCT_CTX_CFG c) (bits v 0 23) / 2 = (s.rd
    (JCT_CTX_CFG c)).toNat / 2) ∧ s.graphs.any (fun g => g.ctx == c) = false ∧ (s.ctx c).waiting = none ∧ s.pcie.waitReq.all (fun f =>
    decide (f ≤ 64)) = true ∧ (normWord (JCT_CTX_CFG c) (bits v 0 23) % 16 = 2 ∨ normWord (JCT_CTX_CFG c) (bits v 0 23) % 16 = 4)) ∧
    (∃ (s : State) (f c v : Nat), s.live = true ∧ c < 256 ∧ s.funcActive f = true ∧ s.owns f c = true ∧ v < s.cqSize c ∧ s.ctxEn c = true
    ∧ s.halfReady .west = true ∧ (v + s.cqSize c - s.cqHead c % s.cqSize c) % s.cqSize c ≤ (s.cqTail c + s.cqSize c - s.cqHead c %
    s.cqSize c) % s.cqSize c ∧ (s.ctx c).held = []) :=
  ⟨⟨gw [nop { phase := .ready }, nop { preds := 1 }] [(0, 1)], 0, 1, 0, (gw [nop { phase := .ready }, nop { preds := 1 }] [(0,
    1)]).graphs.headD { ctx := 0, gid := 0 }, by decide +kernel⟩,
    ⟨live0, 5, 255, 65535, by decide +kernel⟩,
    ⟨ctxw live0 255, 0, 255, by decide +kernel⟩,
    ⟨domsOn live0 [127, 131, 132], 255, 2 ^ 23 - 13, by decide +kernel⟩,
    ⟨(gw [nop { phase := .ended, dispatched := true }, nop { preds := 1 }] [(0, 1)]), 1, 2, by decide +kernel⟩,
    ⟨ctxw live0 255, 0, 255, 63, by decide +kernel⟩,
    ⟨(ctxw live0 255).wf (JCT_CTX_CQ_STATE 255) JCT_CTX_CQ_STATE.TAIL 7, 0, 255, 7, by decide +kernel⟩,
    ⟨{ live0 with pcie := { live0.pcie with vfEnable := true, numVfs := 63 } }, 63, 255, 0, by decide +kernel⟩,
    ⟨live0, 0, 255, 64, by decide +kernel⟩,
    ⟨gw [nop { phase := .ready }, nop { preds := 1 }] [(0, 1)], 0, 1, 0, (gw [nop { phase := .ready }, nop { preds := 1 }] [(0,
    1)]).graphs.headD { ctx := 0, gid := 0 }, by decide +kernel⟩,
    ⟨gw [nop { phase := .ready }, nop { preds := 1 }] [(0, 1)], 0, 1, by decide +kernel⟩,
    ⟨live0, 255, 2 ^ 23 - 13, by decide +kernel⟩,
    ⟨ctxw live0 255, 255, 2, by decide +kernel⟩,
    ⟨((ctxw live0 255).wf (JCT_CTX_CQ_STATE 255) JCT_CTX_CQ_STATE.TAIL 3).wf (JCT_CTX_CQ_STATE 255) JCT_CTX_CQ_STATE.HEAD 7, 0, 255, 0,
    by decide +kernel⟩⟩

theorem witness_HostPortTrainingAndResets :
    (∃ (s : State) (l : PcieLink), (s.stage = .running ∨ s.stage = .recovery) ∧ s.pcie.training = true ∧ l.speed ≤ 2 ∧ (l.width = 16 ∨
    l.width = 8 ∨ l.width = 4) ∧ s.domOn 131 = true ∧ s.domOn 132 = true) ∧
    (∃ (s : State) (l : Option PcieLink), (s.stage = .running ∨ s.stage = .recovery) ∧ s.pcie.training = true ∧ l.all (fun x => !linkOk x)
    = true) ∧
    (∃ (s : State), (s.stage = .running ∨ s.stage = .recovery) ∧ s.pcie.link = none) ∧
    (∃ (s : State) (f : Nat), s.live = true ∧ f ≠ 0 ∧ f < 64 ∧ s.funcExists f = true ∧ (s.func f).flr = false ∧ s.jctPage = none ∧ (∀ c <
    256, s.ctxFunc c = f → (s.ctxGraphs c = [] ∧ (s.ctx c).waiting = none ∧ s.sqUnread c = 0 ∧ (s.ctx c).held = []))) ∧
    (∃ (s : State) (f : Nat), s.live = true ∧ f < 64 ∧ (s.func f).flr = true ∧ (∀ c < 256, s.ctxFunc c = f → s.ctxGraphs c = [] ∧ (s.ctx
    c).held = [])) ∧
    (∃ (s : State) (d : Bool), (s.live = true ∧ s.graphs = [] ∧ s.ctxs = [] ∧ s.engines = [] ∧ s.pcie.requests = [] ∧ s.pcie.waitReq = []
    ∧ (∀ c < 256, s.sqUnread c = 0)) ∧ (∀ h : Half, s.nvCmd h .host = none ∧ (s.half h).nv.running = []) ∧ (∀ h : Half, (s.half h).ldr =
    ({} : LoaderSt))) ∧
    (∃ (s : State) (f : Nat), s.live = true ∧ s.funcExists f = true ∧ (s.func f).d3 = false ∧ (∀ c < 256, s.ctxFunc c = f → s.ctxEn c =
    false)) ∧
    (∃ (s : State) (f : Nat), s.live = true ∧ f ≠ 0 ∧ s.funcExists f = true ∧ (s.func f).flr = false) ∧
    (∃ (s : State) (f : Nat), s.live = true ∧ f < 64 ∧ (s.func f).flr = true ∧ (s.ctxsOf f).all s.ctxIdle = false) ∧
    (∃ (s : State) (f : Nat), s.live = true ∧ f < 64 ∧ (s.func f).flr = true ∧ (s.ctxsOf f).all s.ctxIdle = true) ∧
    (∃ (s : State) (d : Bool), s.live = true) ∧
    (∃ (s : State) (f : Nat), s.live = true ∧ s.funcExists f = true ∧ (s.func f).d3 = false ∧ (s.func f).flr = false ∧ (s.ctxsOf f).any
    s.ctxEn = true) ∧
    (∃ (s : State) (l : PcieLink), (s.stage = .running ∨ s.stage = .recovery) ∧ s.pcie.training = true ∧ linkOk l = true) :=
  ⟨⟨domsOn { live0 with pcie := { training := true } } [131, 132], { speed := 2, width := 4 }, by decide +kernel⟩,
    ⟨{ live0 with pcie := { training := true } }, none, by decide +kernel⟩,
    ⟨live0, by decide +kernel⟩,
    ⟨((vfs live0 63).wf (PCI_CTX_FUNC 255) PCI_CTX_FUNC.FUNC 63).setFunc 63 { d3 := true }, 63, by decide +kernel⟩,
    ⟨(((vfs live0 63).wf (PCI_CTX_FUNC 255) PCI_CTX_FUNC.FUNC 63).wf (JCT_CTX_CFG 255) JCT_CTX_CFG.EN 1).setFunc 63
    { flr := true, msixEn := true }, 63, by decide +kernel⟩,
    ⟨(idle0.wf (PCI_CTX_FUNC 255) PCI_CTX_FUNC.FUNC 3), true, by decide +kernel, by intro h; cases h <;> decide +kernel,
    by intro h; cases h <;> decide +kernel⟩,
    ⟨vfs live0 63, 63, by decide +kernel⟩,
    ⟨((vfs (gw [nop { phase := .ready }, nop { preds := 1 }] [(0, 1)]) 3).wf (PCI_CTX_FUNC 1) PCI_CTX_FUNC.FUNC 3), 3, by decide +kernel⟩,
    ⟨(((vfs (gw [nop { phase := .ready }, nop { preds := 1 }] [(0, 1)]) 3).wf (PCI_CTX_FUNC 1) PCI_CTX_FUNC.FUNC 3).setFunc 3
    { flr := true }), 3, by decide +kernel⟩,
    ⟨(((vfs live0 3).wf (PCI_CTX_FUNC 1) PCI_CTX_FUNC.FUNC 3).setFunc 3 { flr := true, msixEn := true }), 3, by decide +kernel⟩,
    ⟨((vfs (gw [nop { phase := .ready }, nop { preds := 1 }] [(0, 1)]) 3).wf (PCI_CTX_FUNC 1) PCI_CTX_FUNC.FUNC 3), true,
    by decide +kernel⟩,
    ⟨((vfs (gw [nop { phase := .ready }, nop { preds := 1 }] [(0, 1)]) 3).wf (PCI_CTX_FUNC 1) PCI_CTX_FUNC.FUNC 3), 3, by decide +kernel⟩,
    ⟨{ live0 with pcie := { training := true } }, { speed := 2, width := 16 }, by decide +kernel⟩⟩

theorem witness_HostPortErrorsVectorsAndOwners :
    (∃ (s : State) (f pasid addr len tag : Nat), s.live = true ∧ (s.func f).atsEn = true) ∧
    (∃ (s : State), s.live = true ∧ s.pcie.requests = [] ∧ s.pcie.waitReq = []) ∧
    (∃ (s : State) (e : Nat), s.live = true ∧ e < 64 ∧ s.pcie.requests = [e] ∧ s.pcie.waitReq = [] ∧ s.pagePending e = true ∧ dscDstKind
    (s.engine e).desc ≠ 4) ∧
    (∃ (s : State) (addr pasid : Nat), s.live = true) ∧
    (∃ (s : State) (r : NodeRef) (addr pasid e k : Nat), s.live = true ∧ e < 64 ∧ s.moving e = true ∧ (s.engine e).node = some r ∧
    dscSrcKind (s.engine e).desc = 2 ∧ (∀ f < 64, s.moving f = true → (s.engine f).node = some r → f = e) ∧ dscDstKind (s.engine e).desc =
    1 ∧ s.power.gateOpen = true ∧ k = (s.engine e).done + (s.engine e).pack.length + 128 * 2 ^ bits (s.func 0).devCtl 12 3 ∧ k < dscBytes
    (s.engine e).desc) ∧
    (∃ (s : State) (f addr v : Nat), s.live = true) ∧
    (∃ (s : State) (f e : Nat), s.live = true ∧ s.funcActive f = true ∧ (s.func f).msixEn = true ∧ (s.func f).pendBits = [e] ∧ e < 32 ∧
    (s.func f).unmasked.contains e = true) ∧
    (∃ (s : State) (f e : Nat), s.live = true ∧ s.funcActive f = true ∧ (s.func f).msixEn = true ∧ (s.func f).msixMask = false ∧ (s.func
    f).pendBits = [e] ∧ e < 32) ∧
    (∃ (s : State) (c v : Nat), s.live = true ∧ c < 256 ∧ s.ctxEn c = false ∧ v % 64 ≤ s.pcie.numVfs ∧ (v % 64 ≠ 0 ∨ 8 ≤ v / 64 % 32)) ∧
    (∃ (s : State) (c v : Nat), s.live = true ∧ c < 256 ∧ ((s.ctxEn c = true ∧ v % 2048 ≠ (s.rd (PCI_CTX_FUNC c)).toNat) ∨ s.pcie.numVfs <
    v % 64 ∨ v % 64 = 0 ∧ v / 64 % 32 < 8)) ∧
    (∃ (s : State), s.live = true) ∧
    (∃ (s : State) (n : Option NodeRef) (addr pasid : Nat), s.live = true) ∧
    (∃ (s : State) (f : Nat) (x : FuncSt), s.live = true ∧ s.funcActive f = true ∧ x = { s.func f with msixMask := false }) ∧
    (∃ (s : State) (f e : Nat) (x : FuncSt), s.live = true ∧ s.funcActive f = true ∧ e < 32 ∧ x =
    { s.func f with unmasked := insertNat e (s.func f).unmasked }) :=
  ⟨⟨(priw { live0 with east := { atc := [(3, 7, 1), (3, 7, 2), (3, 8, 1)] } }).setFunc 3 { atsEn := true }, 3, 7, 4096, 4096, 31,
    by decide +kernel⟩,
    ⟨priw live0, by decide +kernel⟩,
    ⟨{ (priw (strw (dscB 2 1 0 4 64 65545 100) 3 (run0 (dscB 2 1 0 4 64 65545 100)))).wf (STR_FAULT_INFO .west 9) STR_FAULT_INFO.PENDING 1 with pcie := { priEn := true, requests := [9] } },
    9, by decide +kernel⟩,
    ⟨live0, 4096, 7, by decide +kernel⟩,
    ⟨strw (dscB 2 1 0 4 64 65545 5000) 2 (run0 (dscB 2 1 0 4 64 65545 5000)), n0, 64, 7, 9, 128 * 2 ^ bits (live0.func 0).devCtl 12 3,
    by decide +kernel⟩,
    ⟨live0, 63, 4096, 7, by decide +kernel⟩,
    ⟨(vfs live0 63).setFunc 63 { msixEn := true, msixMask := true, pendBits := [31], unmasked := [31] }, 63, 31, by decide +kernel⟩,
    ⟨(vfs live0 63).setFunc 63 { msixEn := true, pendBits := [31] }, 63, 31, by decide +kernel⟩,
    ⟨vfs live0 63, 255, 2 ^ 32 - 1, by decide +kernel⟩,
    ⟨live0, 255, 1, by decide +kernel⟩,
    ⟨{ strw (dscB 2 1 2 0 4096 0 16) 3 (run0 (dscB 2 1 2 0 4096 0 16)) with pcie := { priEn := true, requests := [9], waitReq := [10] } },
    by decide +kernel⟩,
    ⟨live0, some n0, 4096, 1, by decide +kernel⟩,
    ⟨(vfs live0 63).setFunc 63 { msixEn := true, msixMask := true, pendBits := [31, 2, 7], unmasked := [2, 31] }, 63,
    { msixEn := true, pendBits := [31, 2, 7], unmasked := [2, 31] }, by decide +kernel⟩,
    ⟨(vfs live0 63).setFunc 63 { msixEn := true, pendBits := [31, 2, 7], unmasked := [2] }, 63, 31,
    { msixEn := true, pendBits := [31, 2, 7], unmasked := [2, 31] }, by decide +kernel⟩⟩

theorem witness_PowerResetsAndTrips :
    (∃ (s : State) (v : Nat), s.stage = .off) ∧
    (∃ (s : State), (s.stage ≠ .off) ∧ (∀ h : Half, s.nvCmd h .host = none) ∧ (∀ h : Half, s.nvCmd h .loader = none) ∧ (∀ h : Half,
    (s.half h).nv.running = []) ∧ (∀ h : Half, (s.half h).nv.pending = []) ∧ (∀ h : Half, (s.half h).nv.wsets = []) ∧ (∀ h : Half, (s.half
    h).nv.cfg = []) ∧ (∀ h : Half, (s.half h).nv.refreshes = []) ∧ (∀ h : Half, (s.half h).nv.pulseQ = [])) ∧
    (∃ (s : State) (n : Nat), (s.stage ≠ .off ∧ s.stage ≠ .thermHeld ∧ s.boot.perst = false ∧ 10000 ≤ n) ∧ (∀ h : Half, s.nvCmd h .host =
    none) ∧ (∀ h : Half, s.nvCmd h .loader = none) ∧ (∀ h : Half, (s.half h).nv.running = []) ∧ (∀ h : Half, (s.half h).nv.pending = []) ∧
    (∀ h : Half, (s.half h).nv.wsets = []) ∧ (∀ h : Half, (s.half h).nv.cfg = []) ∧ (∀ h : Half, (s.half h).nv.refreshes = []) ∧ (∀ h :
    Half, (s.half h).nv.pulseQ = [])) ∧
    (∃ (s : State) (n : Nat), n < 1000) ∧
    (∃ (s : State), (s.stage ≠ .off ∧ s.stage ≠ .thermHeld) ∧ (∀ h : Half, s.nvCmd h .host = none) ∧ (∀ h : Half, s.nvCmd h .loader =
    none) ∧ (∀ h : Half, (s.half h).nv.running = []) ∧ (∀ h : Half, (s.half h).nv.pending = []) ∧ (∀ h : Half, (s.half h).nv.wsets = []) ∧
    (∀ h : Half, (s.half h).nv.cfg = []) ∧ (∀ h : Half, (s.half h).nv.refreshes = []) ∧ (∀ h : Half, (s.half h).nv.pulseQ = [])) ∧
    (∃ (s : State), s.stage ≠ .off) ∧
    (∃ (s : State), s.stage ≠ .off ∧ s.stage ≠ .thermHeld) ∧
    (∃ (s : State), s.stage ≠ .off) ∧
    (∃ (s : State) (n : Nat), s.stage ≠ .off ∧ s.stage ≠ .thermHeld ∧ s.boot.perst = false ∧ 10000 ≤ n) ∧
    (∃ (s : State) (n : Nat), s.stage = .thermHeld ∧ s.boot.perst = false ∧ 10000 ≤ n) :=
  ⟨⟨{ State.reset with stage := .off }, 31, by decide +kernel⟩,
    ⟨withNode quiet0 [7] .running, by decide +kernel, by intro h; cases h <;> decide +kernel, by intro h; cases h <;> decide +kernel,
    by intro h; cases h <;> decide +kernel, by intro h; cases h <;> decide +kernel, by intro h; cases h <;> decide +kernel,
    by intro h; cases h <;> decide +kernel, by intro h; cases h <;> decide +kernel, by intro h; cases h <;> decide +kernel⟩,
    ⟨{ withNode quiet0 [7] .running with boot := { perst := false } }, 10000, by decide +kernel, by intro h; cases h <;> decide +kernel,
    by intro h; cases h <;> decide +kernel, by intro h; cases h <;> decide +kernel, by intro h; cases h <;> decide +kernel,
    by intro h; cases h <;> decide +kernel, by intro h; cases h <;> decide +kernel, by intro h; cases h <;> decide +kernel,
    by intro h; cases h <;> decide +kernel⟩,
    ⟨live0, 999, by decide +kernel⟩,
    ⟨(withNode quiet0 [7] .running).wr PWR_TEMP 0x1234, by decide +kernel, by intro h; cases h <;> decide +kernel,
    by intro h; cases h <;> decide +kernel, by intro h; cases h <;> decide +kernel, by intro h; cases h <;> decide +kernel,
    by intro h; cases h <;> decide +kernel, by intro h; cases h <;> decide +kernel, by intro h; cases h <;> decide +kernel,
    by intro h; cases h <;> decide +kernel⟩,
    ⟨live0, by decide +kernel⟩,
    ⟨{ nvw (withNode (withObj live0 .west 7 1 5 64 1 0) [7] .running) (fun n => { n with host := { cmd := some { code := 0x20, planes := [7], phase := .steps } }, running := [(0, { kind := .erase, plane := 7, own := .cmd .host })] }) with ctxs := [(1, { waitUs := 3 })] },
    by decide +kernel⟩,
    ⟨{ nvw (withNode (withObj live0 .west 7 1 5 64 1 0) [7] .running) (fun n => { n with host := { cmd := some { code := 0x20, planes := [7], phase := .steps } }, running := [(0, { kind := .erase, plane := 7, own := .cmd .host })] }) with ctxs := [(1, { waitUs := 3 })] },
    by decide +kernel⟩,
    ⟨{ { nvw (withNode (withObj live0 .west 7 1 5 64 1 0) [7] .running) (fun n => { n with host := { cmd := some { code := 0x20, planes := [7], phase := .steps } }, running := [(0, { kind := .erase, plane := 7, own := .cmd .host })] }) with ctxs := [(1, { waitUs := 3 })] } with boot := { perst := false } },
    10000, by decide +kernel⟩,
    ⟨{ State.reset with stage := .thermHeld, boot := { perst := false } }, 10000, by decide +kernel⟩⟩

theorem witness_BootAndRestarts :
    (∃ (s : State) (o hot : Bool) (fw fe fb : Nat), (s.stage = .held ∨ s.stage = .thermHeld ∧ hot = false) ∧ s.boot.perst = true ∧
    s.west.nv.stopping = false ∧ s.east.nv.stopping = false) ∧
    (∃ (s : State) (o hot : Bool) (fw fe fb : Nat), s.stage = .held ∧ s.boot.perst = true ∧ s.west.nv.stopping = false ∧
    s.east.nv.stopping = false ∧ s.boot.flash = []) ∧
    (∃ (s : State) (o : Bool) (fw fe fb : Nat), s.stage = .thermHeld ∧ s.boot.perst = true ∧ s.west.nv.stopping = false ∧
    s.east.nv.stopping = false) ∧
    (∃ (s : State) (k : Nat), s.live = true ∧ (k = 1 ∨ k = 2) ∧ s.onTrial k = true) ∧
    (∃ (s : State), s.live = true ∧ s.onTrial 0 = true) ∧
    (∃ (s : State), s.live = true ∧ s.ctrlDown 1 = false ∧ s.onTrial 1 = false) ∧
    (∃ (s : State), s.live = true ∧ s.ctrlDown 2 = false ∧ s.onTrial 2 = false) ∧
    (∃ (s : State), s.live = true ∧ (s.ctrlDown 1 = true ∨ s.onTrial 1 = true)) ∧
    (∃ (s : State), s.live = true ∧ (s.ctrlDown 2 = true ∨ s.onTrial 2 = true)) ∧
    (∃ (s : State), s.live = true ∧ s.power.restarting = true) ∧
    (∃ (s : State), s.live = true ∧ s.power.mgmtRestarting = true ∧ s.on SEC_MBOX_CTRL SEC_MBOX_CTRL.BUSY = false ∧ s.csw.held = []) ∧
    (∃ (s : State) (c : Controller) (k : Nat), s.live = true ∧ k = (if c = .management then 1 else 2) ∧ s.ctrlDown k = false) ∧
    (∃ (s : State) (h : Half), s.live = true ∧ (s.half h).nv.stopping = true ∧ (s.half h).nv.running = [] ∧ s.nvCmd h .host = none ∧
    s.nvCmd h .loader = none ∧ (s.half h).nv.reads = []) ∧
    (∃ (s : State), s.live = true) ∧
    (∃ (s : State), s.live = true ∧ s.power.mgmtRestarting = true) ∧
    (∃ (s : State), s.live = true) :=
  ⟨⟨heldw, true, true, 0, 0, 8, by decide +kernel⟩,
    ⟨heldw, true, true, 0, 0, 8, by decide +kernel⟩,
    ⟨{ heldw with stage := .thermHeld }, true, 0, 0, 0, by decide +kernel⟩,
    ⟨live0.wf BOOT_STATUS { lo := 11, len := 1 } 1, 2, by decide +kernel⟩,
    ⟨live0.wf BOOT_STATUS { lo := 9, len := 1 } 1, by decide +kernel⟩,
    ⟨live0, by decide +kernel⟩,
    ⟨live0, by decide +kernel⟩,
    ⟨{ live0 with power := { restarting := true, mgmtRestarting := true } }, by decide +kernel⟩,
    ⟨{ live0 with power := { restarting := true, mgmtRestarting := true } }, by decide +kernel⟩,
    ⟨{ live0 with power := { restarting := true } }, by decide +kernel⟩,
    ⟨{ live0 with power := { mgmtRestarting := true } }, by decide +kernel⟩,
    ⟨live0, .power, 2, by decide +kernel⟩,
    ⟨nvw live0 (fun n => { n with stopping := true, scanned := true }), .west, by decide +kernel⟩,
    ⟨live0, by decide +kernel⟩,
    ⟨{ live0 with power := { mgmtRestarting := true }, csw := { held := [.cmd (.heartbeat 9 5)] } }, by decide +kernel⟩,
    ⟨live0, by decide +kernel⟩⟩

theorem witness_IdentityAttestationAndMessages :
    (∃ (s : State) (p : SecPath) (m : List Byte), s.secReady p m = true ∧ msgCode m = 1 ∧ msgLen m = 0) ∧
    (∃ (s : State) (p : SecPath) (m : List Byte), s.secReady p m = true ∧ msgCode m = 2 ∧ msgLen m = 0) ∧
    (∃ (s : State) (p : SecPath) (m : List Byte), s.secReady p m = true ∧ msgCode m = 3 ∧ msgLen m = 8 ∧ u32 (msgBody m) 4 ≤ 4000) ∧
    (∃ (s : State) (p : SecPath) (m : List Byte), s.live = true ∧ s.secReady p m = true ∧ msgCode m = 4 ∧ msgLen m = 32 ∧ s.rf
    SEC_ATTEST_Q SEC_ATTEST_Q.NEXT_Q < 1048576 ∧ s.rf SEC_STATE SEC_STATE.TOKENS ≠ 0) ∧
    (∃ (s : State) (p : SecPath) (m : List Byte), s.live = true ∧ s.secReady p m = true ∧ msgCode m = 4 ∧ msgLen m = 32 ∧ (s.rf SEC_STATE
    SEC_STATE.TOKENS = 0 ∨ 1048576 ≤ s.rf SEC_ATTEST_Q SEC_ATTEST_Q.NEXT_Q)) ∧
    (∃ (s : State) (p : SecPath) (m : List Byte), s.secReady p m = true ∧ msgCode m = 5 ∧ msgLen m = 0) ∧
    (∃ (s : State), s.awake = true) ∧
    (∃ (s : State) (b : List Byte), s.stage ≠ .off ∧ s.power.mgmtRestarting = false) ∧
    (∃ (s : State), s.stage ≠ .off) ∧
    (∃ (s : State) (k : Nat), s.stage ≠ .off ∧ 4 ≤ k) ∧
    (∃ (s : State) (m : List Byte), s.stage ≠ .off ∧ s.power.mgmtRestarting = false ∧ s.attesting = false ∧ s.sec.held = none ∧ s.on
    SEC_MBOX_CTRL SEC_MBOX_CTRL.BUSY = false ∧ msgOk m = false) ∧
    (∃ (s : State) (p : SecPath) (m : List Byte), s.secReady p m = true ∧ payloadLen (msgCode m) = none) ∧
    (∃ (s : State) (p : SecPath) (m : List Byte), s.stage = .recovery ∧ s.secReady p m = true ∧ (msgCode m = 4 ∨ msgCode m = 16 ∨ msgCode
    m = 17)) :=
  ⟨⟨live0, .mctp, msg0 1 ([]), by decide +kernel⟩,
    ⟨live0, .mctp, msg0 2 ([]), by decide +kernel⟩,
    ⟨live0, .mctp, msg0 3 (leBytes 4 7 ++ leBytes 4 4000), by decide +kernel⟩,
    ⟨live0.wf SEC_STATE SEC_STATE.TOKENS 16, .mctp, msg0 4 (zeros 32), by decide +kernel⟩,
    ⟨live0.wf SEC_STATE SEC_STATE.TOKENS 0, .mctp, msg0 4 (zeros 32), by decide +kernel⟩,
    ⟨live0, .mctp, msg0 5 ([]), by decide +kernel⟩,
    ⟨live0.wf SEC_STATE SEC_STATE.TOKENS 15, by decide +kernel⟩,
    ⟨live0, [1], by decide +kernel⟩,
    ⟨live0, by decide +kernel⟩,
    ⟨live0, 4, by decide +kernel⟩,
    ⟨live0, [], by decide +kernel⟩,
    ⟨live0, .mctp, msg0 0x7F ([]), by decide +kernel⟩,
    ⟨{ live0 with stage := .recovery }, .mctp, msg0 4 [], by decide +kernel⟩⟩

theorem witness_KeysDebugAndUpdates :
    (∃ (s : State) (p : SecPath) (m : List Byte) (c : Nat), s.live = true ∧ s.secReady p m = true ∧ msgCode m = 16 ∧ msgLen m = 1612 ∧ u32
    (msgBody m) 0 = c ∧ c < 256 ∧ s.on SEC_STATE SEC_STATE.DEBUG_OPEN = false) ∧
    (∃ (s : State) (p : SecPath) (m : List Byte), s.live = true ∧ s.secReady p m = true ∧ msgCode m = 16 ∧ msgLen m = 1612 ∧ u32 (msgBody
    m) 0 < 256 ∧ s.on SEC_STATE SEC_STATE.DEBUG_OPEN = true) ∧
    (∃ (s : State) (p : SecPath) (m : List Byte) (c : Nat), s.live = true ∧ s.secReady p m = true ∧ msgCode m = 17 ∧ msgLen m = 4 ∧ u32
    (msgBody m) 0 = c ∧ c < 256) ∧
    (∃ (s : State) (p : SecPath) (m : List Byte), s.secReady p m = true ∧ msgCode m = 32 ∧ msgLen m = 0) ∧
    (∃ (s : State) (p : SecPath) (m : List Byte), s.secReady p m = true ∧ msgCode m = 33 ∧ msgLen m = 3092 ∧ s.on SEC_STATE
    SEC_STATE.DEBUG_DISABLE = true) ∧
    (∃ (s : State) (p : SecPath) (m : List Byte), s.secReady p m = true ∧ msgCode m = 33 ∧ msgLen m = 3092 ∧ s.on SEC_STATE
    SEC_STATE.DEBUG_DISABLE = false ∧ fld (msgBody m) 4 3 0 = 1 ∧ fld (msgBody m) 4 7 4 = 0 ∧ fld (msgBody m) 4 31 11 = 0 ∧ zeroRange
    (msgBody m) 0x74 12 = true) ∧
    (∃ (s : State) (p : SecPath) (m : List Byte) (k : Nat), s.secReady p m = true ∧ msgCode m = 48 ∧ msgLen m = 4 ∧ u32 (msgBody m) 0 = k
    ∧ k < 3 ∧ s.onTrial k = false ∧ s.slotBad k (1 - s.dirActive k) = false) ∧
    (∃ (s : State) (p : SecPath) (m : List Byte) (k : Nat), s.secReady p m = true ∧ msgCode m = 49 ∧ 8 ≤ msgLen m ∧ msgLen m ≤ 4080 ∧ u32
    (msgBody m) 0 = k ∧ k < 3 ∧ s.boot.update = some k ∧ s.slotBad k (1 - s.dirActive k) = false ∧ u32 (msgBody m) 4 + (msgLen m - 8) ≤
    slotSize k) ∧
    (∃ (s : State) (p : SecPath) (m : List Byte) (k : Nat), s.secReady p m = true ∧ msgCode m = 49 ∧ 8 ≤ msgLen m ∧ msgLen m ≤ 4080 ∧ u32
    (msgBody m) 0 = k ∧ k < 3 ∧ s.boot.update = some k ∧ s.slotBad k (1 - s.dirActive k) = true ∧ u32 (msgBody m) 4 + (msgLen m - 8) ≤
    slotSize k) ∧
    (∃ (s : State) (p : SecPath) (m : List Byte) (k : Nat), s.secReady p m = true ∧ msgCode m = 50 ∧ msgLen m = 4 ∧ u32 (msgBody m) 0 = k
    ∧ k < 3 ∧ s.boot.update = some k) ∧
    (∃ (s : State) (p : SecPath) (m : List Byte) (k : Nat), s.secReady p m = true ∧ msgCode m = 51 ∧ msgLen m = 4 ∧ u32 (msgBody m) 0 = k
    ∧ k < 3 ∧ s.boot.update ≠ some k ∧ s.on (BOOT_IMAGE (2 * k + (1 - s.dirActive k))) BOOT_IMAGE.VERIFIED = true ∧ s.dirBad s.dirNext =
    false ∧ (∀ c < 2, u32 (s.dirCopy c) 8 + 1 < 2 ^ 32 ∨ dirValid (s.dirCopy c) = false)) ∧
    (∃ (s : State) (p : SecPath) (m : List Byte) (k : Nat), s.secReady p m = true ∧ msgCode m = 52 ∧ msgLen m = 4 ∧ u32 (msgBody m) 0 = k
    ∧ k < 3 ∧ s.onTrial k = true ∧ s.dirBad s.dirNext = false ∧ (∀ c < 2, u32 (s.dirCopy c) 8 + 1 < 2 ^ 32 ∨ dirValid (s.dirCopy c) =
    false)) ∧
    (∃ (s : State) (p : SecPath) (m : List Byte), s.secReady p m = true ∧ msgCode m = 53 ∧ msgLen m = 0 ∧ s.dirBad 0 = false ∧ s.dirBad 1
    = false) :=
  ⟨⟨live0, .mctp, msg0 16 (leBytes 4 255 ++ zeros 1608), 255, by decide +kernel⟩,
    ⟨live0.wf SEC_STATE SEC_STATE.DEBUG_OPEN 1, .mctp, msg0 16 (zeros 1612), by decide +kernel⟩,
    ⟨{ live0 with sec := { keks := [(255, [1])] } }, .mctp, msg0 17 (leBytes 4 255), 255, by decide +kernel⟩,
    ⟨live0, .mctp, msg0 32 ([]), by decide +kernel⟩,
    ⟨live0.wf SEC_STATE SEC_STATE.DEBUG_DISABLE 1, .mctp, msg0 33 (zeros 3092), by decide +kernel⟩,
    ⟨live0, .mctp, msg0 33 (zeros 4 ++ leBytes 4 1 ++ zeros 3084), by decide +kernel⟩,
    ⟨live0, .mctp, msg0 48 (leBytes 4 2), 2, by decide +kernel⟩,
    ⟨{ live0 with boot := { live0.boot with update := some 2 } }, .mctp, msg0 49 (leBytes 4 2 ++ leBytes 4 5 ++ [1, 2, 3]), 2,
    by decide +kernel⟩,
    ⟨{ live0 with boot := { live0.boot with update := some 2, flashBad := 63 } }, .mctp, msg0 49 (leBytes 4 2 ++ leBytes 4 5 ++ [1, 2,
    3]), 2, by decide +kernel⟩,
    ⟨{ live0 with boot := { live0.boot with update := some 2 } }, .mctp, msg0 50 (leBytes 4 2), 2, by decide +kernel⟩,
    ⟨live0.wf (BOOT_IMAGE 5) BOOT_IMAGE.VERIFIED 1, .mctp, msg0 51 (leBytes 4 2), 2, by decide +kernel⟩,
    ⟨(live0.wf BOOT_STATUS { lo := 8, len := 1 } 1).wf BOOT_STATUS { lo := 11, len := 1 } 1, .mctp, msg0 52 (leBytes 4 2), 2,
    by decide +kernel⟩,
    ⟨live0, .mctp, msg0 53 ([]), by decide +kernel⟩⟩

theorem witness_RegisterAccesses :
    (∃ (s : State) (v : Nat), s.live = true ∧ s.funcActive 0 = true) ∧
    (∃ (s : State) (v : Nat), s.live = true ∧ s.funcActive 0 = true) ∧
    (∃ (s : State) (v : Nat), s.live = true ∧ s.funcActive 0 = true) ∧
    (∃ (s : State) (v fails : Nat) (q : List PassMsg), s.live = true ∧ s.east.control = PassMsg.access
    { func := 0, off := ERR_CTRL .east, write := some v } :: q ∧ s.east.turn .control = true ∧ s.passOn = true ∧ fails < 4) ∧
    (∃ (s : State) (h : Half) (w v : Nat), s.live = true ∧ s.funcActive 0 = true ∧ w ≠ 4) ∧
    (∃ (s : State) (f v : Nat), s.live = true ∧ f ≠ 0 ∧ s.funcActive f = true) ∧
    (∃ (s : State) (v : Nat), s.live = true ∧ s.funcActive 0 = true ∧ s.domOn (jctDom .west) = false) ∧
    (∃ (s : State) (h : Half) (v : Nat), s.live = true ∧ s.domOn (jctDom h) = true ∧ (s.half h).accesses =
    [{ func := 0, off := JCT_ADMIT_CTRL h, write := some v }]) ∧
    (∃ (s : State), s.live = true ∧ s.funcActive 0 = true) ∧
    (∃ (s : State), s.live = true ∧ s.funcActive 0 = true ∧ s.east.accesses = [] ∧ s.east.control = [] ∧ s.west.control = []) ∧
    (∃ (s : State), s.live = true ∧ s.funcActive 0 = true) ∧
    (∃ (s : State) (f off w : Nat), s.live = true) ∧
    (∃ (s : State) (f off v : Nat), s.live = true ∧ s.funcActive f = true ∧ off < 0x01000000 ∧ off % 4 = 0 ∧ s.mustWait .west off = false) ∧
    (∃ (s : State) (f off v : Nat) (d : Nat), s.live = true ∧ s.funcActive f = true ∧ off < 0x01000000 ∧ off % 4 = 0 ∧ regDom .west off =
    some d ∧ s.domOn d = false) ∧
    (∃ (s : State) (f off v : Nat), s.live = true ∧ s.funcActive f = true ∧ 0x02000000 ≤ off ∧ off < 0x03000000 ∧ off % 4 = 0) ∧
    (∃ (s : State) (f off v : Nat), s.live = true ∧ s.funcActive f = true ∧ 0x08000000 ≤ off ∧ off < 0x08100000 ∧ off % 4 = 0) ∧
    (∃ (s : State) (f off w v : Nat), s.live = true ∧ 0x05000000 ≤ off ∧ off < 0x08000000) ∧
    (∃ (s : State) (off w v : Nat), s.live = true ∧ 0x04000000 ≤ off ∧ off < 0x05000000) ∧
    (∃ (s : State) (f off w v : Nat), s.live = true ∧ s.funcActive f = true ∧ 0x01000000 ≤ off ∧ off < 0x02000000) ∧
    (∃ (s : State) (h : Half) (a : HeldAcc) (d v : Nat), s.live = true ∧ (s.half h).accesses = [a] ∧ a.bar2 = none ∧ a.write = some v ∧
    a.off % 0x02000000 < 0x01000000 ∧ regDom h (a.off % 0x02000000) = some d ∧ s.domOn d = true) ∧
    (∃ (s : State) (h : Half) (a : HeldAcc) (q : List HeldAcc), s.live = true ∧ (s.half h).accesses = a :: q ∧ s.accessReady h a = true) ∧
    (∃ (s : State) (h : Half), s.live = true ∧ (s.half h).accesses.all (fun a => !(s.accessReady h a)) = true) ∧
    (∃ (s : State) (f off : Nat), s.live = true ∧ s.funcActive f = true ∧ off < 0x01000000 ∧ off % 4 = 0 ∧ s.mustWait .west off = false ∧
    s.west.accesses = []) :=
  ⟨⟨live0, 2 ^ 32 - 1, by decide +kernel⟩,
    ⟨live0.wf (ERR_STATUS .west) ERR_STATUS.OVERFLOW 1, 2 ^ 32 - 1, by decide +kernel⟩,
    ⟨live0, 3, by decide +kernel⟩,
    ⟨{ ctxw live0 1 with east := { control := [.access { func := 0, off := ERR_CTRL .east, write := some 3 }] } }, 3, 3, [],
    by decide +kernel⟩,
    ⟨live0, .east, 2, 7, by decide +kernel⟩,
    ⟨vfs live0 63, 63, 3, by decide +kernel⟩,
    ⟨live0, 7, by decide +kernel⟩,
    ⟨{ domsOn live0 [128] with east := { accesses := [{ func := 0, off := JCT_ADMIT_CTRL .east, write := some 0x12345678 }] } }, .east,
    0x12345678, by decide +kernel⟩,
    ⟨live0, by decide +kernel⟩,
    ⟨live0, by decide +kernel⟩,
    ⟨{ live0 with west := { us := 2 ^ 33 + 5 } }, by decide +kernel⟩,
    ⟨{ live0 with west := { accesses := [{ func := 0, off := 0x200020 }] } }, 0, 0x200020, 4, by decide +kernel⟩,
    ⟨live0, 0, NV_LDR_RING_HI .west, 0x1234, by decide +kernel⟩,
    ⟨live0, 0, JCT_ADMIT_CTRL .west, 77, jctDom .west, by decide +kernel⟩,
    ⟨live0, 0, 0x02000000 + 0x210000, 3, by decide +kernel⟩,
    ⟨live0, 0, 0x08080008, 3, by decide +kernel⟩,
    ⟨live0, 0, 0x05000004, 4, 6, by decide +kernel⟩,
    ⟨live0, 0x04000010, 4, 6, by decide +kernel⟩,
    ⟨live0, 0, 0x01000000, 64, 6, by decide +kernel⟩,
    ⟨(let s := domsOn live0 [jctDom .east]; s.modHalf .east (fun x =>
    { x with accesses := [{ func := 0, off := 0x02000000 + JCT_ADMIT_CTRL .west, write := some 9 }] })), .east,
    { func := 0, off := 0x02000000 + JCT_ADMIT_CTRL .west, write := some 9 }, jctDom .east, 9, by decide +kernel⟩,
    ⟨(let s := domsOn live0 [jctDom .west]; s.modHalf .west (fun x =>
    { x with accesses := [{ func := 0, off := JCT_ADMIT_CTRL .west, write := some 9 }, { func := 0, off := JCT_ADMIT_CTRL .west }] })),
    .west, { func := 0, off := JCT_ADMIT_CTRL .west, write := some 9 }, [{ func := 0, off := JCT_ADMIT_CTRL .west }], by decide +kernel⟩,
    ⟨live0.modHalf .west (fun x => { x with accesses := [{ func := 0, off := JCT_ADMIT_CTRL .west, write := some 9 }] }), .west,
    by decide +kernel⟩,
    ⟨live0, 0, PWR_CAP, by decide +kernel⟩⟩

theorem witness_EpochAndMaster :
    (∃ (s : State) (src e : Nat), s.live = true ∧ s.power.mgmtRestarting = false ∧ s.epoch < e ∧ e < 65536 ∧ src < 16384 ∧ s.master ≠ src) ∧
    (∃ (s : State) (src e : Nat), s.live = true ∧ s.power.mgmtRestarting = false) ∧
    (∃ (s : State) (src e : Nat) (c m : Nat), s.live = true ∧ s.power.mgmtRestarting = false ∧ e = s.epoch ∧ s.role = 1) ∧
    (∃ (s : State), s.live = true ∧ s.mastering = true ∧ s.on CSW_MASTER_CFG CSW_MASTER_CFG.BACKUP_EN = true) ∧
    (∃ (s : State), s.live = true ∧ s.power.mgmtRestarting = false ∧ s.role ≠ 1) ∧
    (∃ (s : State) (src e : Nat), s.live = true ∧ s.power.mgmtRestarting = true) ∧
    (∃ (s : State), s.live = true ∧ s.role = 2 ∧ s.on CSW_MASTER_CFG CSW_MASTER_CFG.BACKUP_EN = true ∧ s.power.mgmtRestarting = false ∧
    s.routedNodes = [] ∧ s.epoch < 65535 ∧ s.nodeId < 16384 ∧ s.master ≠ s.nodeId) ∧
    (∃ (s : State), s.live = true ∧ s.role = 2 ∧ s.on CSW_MASTER_CFG CSW_MASTER_CFG.BACKUP_EN = true ∧ s.power.mgmtRestarting = false ∧
    s.epoch < 65535) ∧
    (∃ (s : State) (src e : Nat), s.live = true ∧ s.power.mgmtRestarting = false ∧ s.epoch < e ∧ e < 65536 ∧ src < 16384 ∧ s.master ≠ src) :=
  ⟨⟨roleW 1 5 0, 16383, 65535, by decide +kernel⟩,
    ⟨roleW 0 5 0, 7, 4, by decide +kernel⟩,
    ⟨roleW 1 5 9, 7, 5, 6, 7, by decide +kernel⟩,
    ⟨(roleW 1 5 9).wf CSW_MASTER_CFG CSW_MASTER_CFG.BACKUP_EN 1, by decide +kernel⟩,
    ⟨roleW 2 5 9, by decide +kernel⟩,
    ⟨{ roleW 2 5 9 with power := { mgmtRestarting := true } }, 7, 9, by decide +kernel⟩,
    ⟨((roleW 2 5 9).wf CSW_MASTER_CFG CSW_MASTER_CFG.BACKUP_EN 1), by decide +kernel⟩,
    ⟨((roleW 2 5 9).wf CSW_MASTER_CFG CSW_MASTER_CFG.BACKUP_EN 1).wr (CSW_ROUTE .west 77) 1024#32, by decide +kernel⟩,
    ⟨roleW 1 5 0, 9, 6, by decide +kernel⟩⟩

theorem witness_ManagementAccessesAndBudget :
    (∃ (s : State) (src e : Nat) (h : Half) (tag : Nat), s.live = true ∧ s.power.mgmtRestarting = false ∧ e = s.epoch ∧ s.master = src ∧
    s.csw.acc = [] ∧ (h = .west ∨ s.passOn = true ∧ s.east.control = [])) ∧
    (∃ (s : State) (src e : Nat) (sp off n tag : Nat), s.live = true ∧ s.power.mgmtRestarting = false ∧ e = s.epoch ∧ s.master = src ∧ (n
    = 0 ∨ 48 < n ∨ off % 4 ≠ 0 ∨ mgmtSpace sp < off + 4 * n)) ∧
    (∃ (s : State) (src e : Nat) (h : Half) (tag : Nat), s.live = true ∧ s.power.mgmtRestarting = false ∧ e = s.epoch ∧ s.master = src ∧
    s.csw.acc = [] ∧ s.domOn (jctDom h) = false) ∧
    (∃ (s : State) (src e : Nat) (sp off n tag : Nat), s.live = true ∧ s.power.mgmtRestarting = false ∧ e = s.epoch ∧ s.master ≠ src) ∧
    (∃ (s : State) (src e : Nat) (h : Half) (tag : Nat) (v : Word), s.live = true ∧ s.power.mgmtRestarting = false ∧ e = s.epoch ∧
    s.master = src ∧ s.csw.acc = [] ∧ s.funcActive 0 = true ∧ (h = .west ∨ s.passOn = true ∧ s.east.control = []) ∧ (s.rd (ERR_CTRL
    h)).toNat < 4) ∧
    (∃ (s : State) (src e : Nat) (tag st : Nat) (ws : List Word), s.live = true ∧ s.power.mgmtRestarting = false ∧ e = s.epoch ∧ s.role =
    1) ∧
    (∃ (s : State) (tag : Nat) (a : MgmtAcc), s.live = true ∧ s.power.mgmtRestarting = false ∧ s.csw.acc.find? (fun x => x.tag == tag) =
    some a) ∧
    (∃ (s : State) (src e : Nat) (p : List Byte), s.live = true ∧ s.power.mgmtRestarting = false ∧ e = s.epoch ∧ s.role = 1) ∧
    (∃ (s : State) (m : Nat), s.live = true ∧ s.power.mgmtRestarting = false ∧ s.role ≠ 1) ∧
    (∃ (s : State) (m : Nat), s.live = true ∧ s.power.mgmtRestarting = false ∧ s.role = 1 ∧ s.csw.reports = [] ∧ s.csw.grants = []) ∧
    (∃ (s : State) (m : Nat), s.live = true ∧ s.power.mgmtRestarting = true) ∧
    (∃ (s : State) (src e : Nat) (m c k z : Nat), s.live = true ∧ s.power.mgmtRestarting = false ∧ e = s.epoch ∧ s.role = 1) ∧
    (∃ (s : State) (src e : Nat) (w : Nat), s.live = true ∧ s.power.mgmtRestarting = false ∧ e = s.epoch ∧ s.master = src) ∧
    (∃ (s : State), s.live = true ∧ s.power.grant.isSome = true) ∧
    (∃ (s : State) (src e sp off n tag : Nat), s.live = true ∧ s.power.mgmtRestarting = false ∧ e = s.epoch ∧ s.master = src ∧ s.csw.acc =
    [] ∧ MgmtAcc.ok { src := src, tag := tag, space := sp, off := off, count := n, be := 15, write := none } = true ∧ s.mgmtReady
    { src := src, tag := tag, space := sp, off := off, count := n, be := 15, write := none } = true) ∧
    (∃ (s : State) (src e sp off be tag : Nat) (ws : List Word), s.live = true ∧ s.power.mgmtRestarting = false ∧ e = s.epoch ∧ s.master =
    src ∧ s.csw.acc = [] ∧ MgmtAcc.ok { src := src, tag := tag, space := sp, off := off, count := ws.length, be := be, write := some ws }
    = true ∧ s.mgmtReady { src := src, tag := tag, space := sp, off := off, count := ws.length, be := be, write := some ws } = true) ∧
    (∃ (s : State) (src e off tag : Nat), s.live = true ∧ s.power.mgmtRestarting = false ∧ e = s.epoch ∧ s.master = src ∧ s.csw.acc = [] ∧
    off % 4 = 0 ∧ off < 0x01000000 ∧ s.mustWait .west off = false) ∧
    (∃ (s : State) (src e off tag : Nat) (v : Word), s.live = true ∧ s.power.mgmtRestarting = false ∧ e = s.epoch ∧ s.master = src ∧
    s.csw.acc = [] ∧ s.funcActive 0 = true ∧ off % 4 = 0 ∧ off < 0x01000000 ∧ s.mustWait .west off = false) ∧
    (∃ (s : State) (m : Nat), s.live = true ∧ s.power.mgmtRestarting = false ∧ s.role = 1) ∧
    (∃ (s : State) (src e tag st : Nat) (ws : List Word), s.live = true ∧ s.power.mgmtRestarting = false ∧ e = s.epoch ∧ s.role ≠ 1) ∧
    (∃ (s : State) (src e : Nat) (p : List Byte), s.live = true ∧ s.power.mgmtRestarting = false ∧ e = s.epoch ∧ s.role ≠ 1) :=
  ⟨⟨roleW 0 5 9, 9, 5, .west, 77, by decide +kernel⟩,
    ⟨roleW 0 5 9, 9, 5, 0, 0, 49, 77, by decide +kernel⟩,
    ⟨roleW 0 5 9, 9, 5, .east, 77, by decide +kernel⟩,
    ⟨roleW 0 5 9, 8, 5, 0, 0, 1, 77, by decide +kernel⟩,
    ⟨roleW 0 5 9, 9, 5, .west, 77, 0xFFFFFFFF, by decide +kernel⟩,
    ⟨roleW 1 5 0, 9, 5, 77, 0, [1, 2], by decide +kernel⟩,
    ⟨{ roleW 0 5 9 with csw := { acc := [{ src := 9, tag := 77, space := 0, off := 0x200020, count := 1, be := 15, write := none }] } },
    77, { src := 9, tag := 77, space := 0, off := 0x200020, count := 1, be := 15, write := none }, by decide +kernel⟩,
    ⟨roleW 1 5 0, 9, 5, [1, 2], by decide +kernel⟩,
    ⟨{ roleW 0 5 9 with csw := { periodUs := 1000, slackUs := 10 } }, 300, by decide +kernel⟩,
    ⟨roleW 1 5 0, 300, by decide +kernel⟩,
    ⟨{ roleW 0 5 9 with power := { mgmtRestarting := true } }, 300, by decide +kernel⟩,
    ⟨{ roleW 1 5 0 with csw := { reports := [(9, 1, 2, 3)] } }, 9, 5, 300, 350, 10, 0, by decide +kernel⟩,
    ⟨roleW 0 5 9, 9, 5, 1025, by decide +kernel⟩,
    ⟨{ live0 with power := { grant := some 200 } }, by decide +kernel⟩,
    ⟨roleW 0 5 9, 9, 5, 4, 0, 48, 77, by decide +kernel⟩,
    ⟨roleW 0 5 9, 9, 5, 0, PWR_CAP, 15, 77, [200#32], by decide +kernel⟩,
    ⟨roleW 0 5 9, 9, 5, PWR_CAP, 77, by decide +kernel⟩,
    ⟨roleW 0 5 9, 9, 5, PWR_CAP, 77, 200#32, by decide +kernel⟩,
    ⟨{ roleW 1 5 0 with csw := { reports := [(7, 200, 300, 50), (9, 100, 300, 700)], grants := [(7, 250)], periodUs := 1000, slackUs := 10 } },
    300, by decide +kernel⟩,
    ⟨roleW 0 5 9, 9, 5, 77, 0, [], by decide +kernel⟩,
    ⟨roleW 0 5 9, 9, 5, [1], by decide +kernel⟩⟩

theorem witness_UnassignedOffsets :
    (∃ (s : State) (f off v : Nat), s.live = true ∧ s.funcActive f = true ∧ off < 0x02000000 ∧ s.mustWait (Half.ofNum (off / 0x02000000))
    (off % 0x02000000) = false ∧ off % 4 = 0 ∧ regFind (off % 0x02000000) = none ∧ off % 0x02000000 < 0x01000000) ∧
    (∃ (s : State) (f off v fails : Nat) (q : List PassMsg), s.live = true ∧ 0x02000000 ≤ off ∧ off < 0x04000000 ∧ s.mustWait (Half.ofNum
    (off / 0x02000000)) (off % 0x02000000) = false ∧ off % 4 = 0 ∧ regFind (off % 0x02000000) = none ∧ off % 0x02000000 < 0x01000000 ∧
    s.east.turn .control = true ∧ s.passOn = true ∧ fails < 4 ∧ s.east.accesses = [] ∧ s.east.control = PassMsg.access
    { func := f, off := off, write := some v } :: q) ∧
    (∃ (s : State) (f off fails : Nat) (q : List PassMsg), s.live = true ∧ 0x02000000 ≤ off ∧ off < 0x04000000 ∧ s.mustWait (Half.ofNum
    (off / 0x02000000)) (off % 0x02000000) = false ∧ off % 4 = 0 ∧ regFind (off % 0x02000000) = none ∧ off % 0x02000000 < 0x01000000 ∧
    s.east.turn .control = true ∧ s.passOn = true ∧ fails < 4 ∧ s.east.accesses = [] ∧ s.east.control = PassMsg.access
    { func := f, off := off } :: q) :=
  ⟨⟨live0, 0, 0x00F80FFC, 7, by decide +kernel⟩,
    ⟨{ ctxw live0 1 with east := { control := [.access { func := 0, off := 0x02F80FFC, write := some 7 }] } }, 0, 0x02F80FFC, 7, 0, [],
    by decide +kernel⟩,
    ⟨{ ctxw live0 1 with east := { control := [.access { func := 0, off := 0x02F80FFC }] } }, 0, 0x02F80FFC, 0, [], by decide +kernel⟩⟩

theorem witness_MessagesOfAnotherMaster :
    (∃ (s : State) (src e sp off n be tag : Nat) (ws : List Word), s.live = true ∧ s.power.mgmtRestarting = false ∧ e = s.epoch ∧ s.master
    ≠ src) ∧
    (∃ (s : State) (src e sp off n be tag : Nat) (ws : List Word), s.live = true ∧ s.power.mgmtRestarting = false ∧ e < s.epoch) ∧
    (∃ (s : State) (src e w : Nat) (a : MgmtAcc), s.live = true ∧ s.power.mgmtRestarting = false ∧ e = s.epoch ∧ s.master = src ∧ a =
    { src := src, tag := a.tag, space := a.space, off := a.off, count := a.count, be := 15, write := none }) ∧
    (∃ (s : State) (src e off be tag sp : Nat) (ws : List Word), s.live = true ∧ s.power.mgmtRestarting = false ∧ e = s.epoch ∧ s.master =
    src) :=
  ⟨⟨roleW 0 5 9, 8, 5, 0, 0, 1, 15, 77, [], by decide +kernel⟩,
    ⟨roleW 0 5 9, 9, 4, 0, 0, 1, 15, 77, [], by decide +kernel⟩,
    ⟨roleW 0 5 9, 9, 5, 200, { src := 9, tag := 1, space := 0, off := 0, count := 1, be := 15, write := none }, by decide +kernel⟩,
    ⟨roleW 0 5 9, 9, 5, 0, 15, 7, 0, [1], by decide +kernel⟩⟩

theorem witness_StepRunsTheFrontCommand :
    (∃ (s : State) (c : Instr) (q : List Instr), s.pending = c :: q) :=
  ⟨{ live0 with pending := [.powerOff, .thermalTrip] }, .powerOff, [.thermalTrip], by decide +kernel⟩

theorem witness_IdleMicrosecond :
    (∃ (s : State), s.pending = [] ∧ (s.stage = .off ∨ s.boot.refOk = false)) ∧
    (∃ (s : State), s.pending = [] ∧ s.boot.refOk = true ∧ s.stage = .recovery) ∧
    (∃ (s : State), (s.pending = [] ∧ s.boot.refOk = true ∧ s.live = true ∧ s.graphs = [] ∧ s.csw.acc = [] ∧ s.csw.notes = []) ∧ (∀ h :
    Half, (s.half h).nv.refreshes = [] ∧ (s.half h).nv.running = [] ∧ (s.half h).gals = []) ∧ (∀ h : Half, s.opChosen h = s.op h)) ∧
    (∃ (s : State) (h : Half), (s.pending = [] ∧ s.boot.refOk = true ∧ s.live = true ∧ s.graphs = [] ∧ s.csw.acc = [] ∧ s.csw.notes = [] ∧
    s.power.restarting = false ∧ s.power.change h = none ∧ s.opChosen h ≠ s.op h ∧ s.power.idle h ≠ some (s.opChosen h)) ∧ (∀ h : Half,
    (s.half h).nv.refreshes = [] ∧ (s.half h).nv.running = [] ∧ (s.half h).gals = [])) ∧
    (∃ (s : State) (h : Half), (s.pending = [] ∧ s.boot.refOk = true ∧ s.live = true ∧ s.graphs = [] ∧ s.csw.acc = [] ∧ s.csw.notes = [] ∧
    s.power.restarting = false ∧ s.power.change h = none ∧ s.opChosen h < s.op h ∧ s.power.idle h = some (s.opChosen h) ∧ s.pllLocked h
    (s.idleMain h) = true) ∧ (∀ h : Half, (s.half h).nv.refreshes = [] ∧ (s.half h).nv.running = [] ∧ (s.half h).gals = [])) :=
  ⟨⟨State.reset, by decide +kernel⟩,
    ⟨{ live0 with stage := .recovery, boot := { refOk := true } }, by decide +kernel⟩,
    ⟨{ live0 with boot := { refOk := true } }, by decide +kernel, by intro h; cases h <;> decide +kernel,
    by intro h; cases h <;> decide +kernel⟩,
    ⟨(({ live0 with boot := { refOk := true }, power := { live0.power with capCeil := 15, thCeil := 15 } } : State).wf (PWR_PHASE_OP 3)
    PWR_PHASE_OP.OP 5).wf PWR_LIMIT_CFG PWR_LIMIT_CFG.OP_MAX 15, .west, by decide +kernel, by intro h; cases h <;> decide +kernel⟩,
    ⟨(({ live0 with boot := { refOk := true }, power := { live0.power with capCeil := 15, thCeil := 15, idleE := some 0 } } : State).setOp
    .east 5).wf (CLK_PLL_STATUS .east) ({ lo := live0.idleMain .east, len := 1 } : Fld) 1, .east, by decide +kernel,
    by intro h; cases h <;> decide +kernel⟩⟩

end Sys2Proof.Tests
end

section
/-! PROOF. Rules that the proofs below share: what a command does with a device that is past its boot, and what a record in the error log leaves
as it was. -/

namespace Sys2Proof.Machine

variable {s t : State} {as : List Nat}

theorem State.modHalf_west (s : State) (f : HalfState → HalfState) : s.modHalf .west f = { s with west := f s.west } := rfl
theorem State.modHalf_east (s : State) (f : HalfState → HalfState) : s.modHalf .east f = { s with east := f s.east } := rfl

theorem State.send_outbox_append (s : State) (o : Output) : (s.send o).outbox = s.outbox ++ [o] := rfl

/-- A device that is past its boot does what a command says. -/
theorem whenLive_of_live (hl : s.live = true) (f : State → State) : whenLive s f = .next (f s) := by simp [whenLive, hl]

/-! ## What a record leaves -/

theorem onlyLogged_graphs (k : onlyLogged as s t) : t.graphs = s.graphs := (congrArg State.graphs k.1 :)
theorem onlyLogged_power (k : onlyLogged as s t) : t.power = s.power := (congrArg State.power k.1 :)
theorem onlyLogged_engines (k : onlyLogged as s t) : t.engines = s.engines := (congrArg State.engines k.1 :)

/-- Of a half, a record changes the sequence number of its log alone. -/
theorem onlyLogged_half (k : onlyLogged as s t) (h : Half) : { t.half h with logSeq := (s.half h).logSeq } = s.half h := by
  cases h
  · exact (congrArg State.west k.1 :)
  · exact (congrArg State.east k.1 :)

theorem onlyLogged_mem (k : onlyLogged as s t) (h : Half) : (t.half h).mem = (s.half h).mem :=
  (congrArg HalfState.mem (onlyLogged_half k h) :)
theorem onlyLogged_cls (k : onlyLogged as s t) (h : Half) (c : PClass) : (t.half h).cls c = (s.half h).cls c := by
  rw [← onlyLogged_half k h]; cases c <;> rfl

/-- A record changes no register outside the two logs. -/
theorem log_onlyLogged (s : State) (h : Half) (r : LogReq) (hc : r.cls < 64) : onlyLogged [] s (s.log h r) :=
  onlyLogged_log (onlyLogged_refl [] s) h r hc

/-- The registers of the log lie from 0xF80000 to 0xFA0000 of a half. -/
theorem rd_of_onlyLogged (k : onlyLogged as s t) {a : Nat} (ha : a ∉ as) (ho : a % 0x02000000 < 0xF80000) : t.rd a = s.rd a := by
  refine k.2 a ha ?_ ?_ <;> rw [Bool.eq_false_iff, Ne, inLog_iff] <;> simp only [Half.base] <;> omega

theorem rf_of_onlyLogged (k : onlyLogged as s t) {a : Nat} {f : Fld} (ha : a + f.off ∉ as) (ho : (a + f.off) % 0x02000000 < 0xF80000) :
    t.rf a f = s.rf a f := by
  unfold State.rf; rw [rd_of_onlyLogged k ha ho]

end Sys2Proof.Machine
end

section
/-! PROOF. The Passage (R20 to R23, R35): a transfer of a class arrives in its turn, and what it does in its half. -/

namespace Sys2Proof.Machine

variable {s : State} {h : Half} {k : PClass} {m : PassMsg} {q : List PassMsg} {fails : Nat}

/-! ## The classes -/

@[simp] theorem HalfState.sent_mem (x : HalfState) : (x.sent k m q).mem = x.mem := by cases k <;> rfl
@[simp] theorem HalfState.sent_nv (x : HalfState) : (x.sent k m q).nv = x.nv := by cases k <;> rfl
@[simp] theorem HalfState.sent_control (x : HalfState) : (x.sent .control m q).control = q := rfl
@[simp] theorem HalfState.sent_cls (x : HalfState) : (x.sent k m q).cls k = q := by cases k <;> rfl

/-! ## Stores in the far half -/

section
variable (s : State) (h : Half) (tier a : Nat) (bs : List Byte)

/-- Bytes put in a tier stand there. -/
theorem State.memBytes_memPut : (s.memPut h tier a bs).memBytes h tier a bs.length = bs := by
  unfold State.memBytes State.memPut
  rw [State.half_modHalf_same]
  split <;> exact memRead_memWrite _ _ _ _

@[simp] theorem State.memPut_regs : (s.memPut h tier a bs).regs = s.regs := State.modHalf_regs ..
@[simp] theorem State.memPut_graphs : (s.memPut h tier a bs).graphs = s.graphs := State.modHalf_graphs ..
@[simp] theorem State.memPut_outbox : (s.memPut h tier a bs).outbox = s.outbox := State.modHalf_outbox ..
@[simp] theorem State.memPut_engines : (s.memPut h tier a bs).engines = s.engines := State.modHalf_engines ..
@[simp] theorem State.memPut_other : (s.memPut h tier a bs).half h.other = s.half h.other := State.half_modHalf_other ..
@[simp] theorem State.memPut_cls : ((s.memPut h tier a bs).half h).cls k = (s.half h).cls k := by
  unfold State.memPut
  rw [State.half_modHalf_same]
  split <;> cases k <;> rfl

end

/-- A chain whose source is no ring frees no slot when its payload lands. -/
theorem State.srcFree_of_not_ring {e : Nat} (hk : dscSrcKind (s.engine e).desc ≠ 6) : s.srcFree e = s := if_neg hk

/-! ## Arrival -/

theorem exec_passageTransferArrive (hl : s.live = true) :
    exec (.passageTransferArrive h k fails) s = .next (s.passArrive h k fails) :=
  whenLive_of_live hl (fun s => s.passArrive h k fails)

/-- A class waits while the Passage is down or it is not its turn (R20). -/
theorem State.passArrive_waits (hw : s.passOn = false ∨ (s.half h).turn k = false) : s.passArrive h k fails = s := by
  unfold State.passArrive
  split
  · rfl
  · rcases hw with hw | hw <;> simp [hw]

section
variable (hon : s.passOn = true) (ht : (s.half h).turn k = true) (hc : (s.half h).cls k = m :: q)
include hon ht hc

/-- Fewer than four failed attempts: the oldest transfer does what it carries. -/
theorem State.passArrive_delivers (hf : fails < 4) :
    s.passArrive h k fails = (s.modHalf h (fun x => x.sent k m q)).passDeliver h m := by
  simp [State.passArrive, hc, ht, hon, Nat.not_le.2 hf]

/-- The fourth failed attempt ends the transfer (R23). -/
theorem State.passArrive_fails (hf : 4 ≤ fails) :
    s.passArrive h k fails = (s.modHalf h (fun x => x.sent k m q)).passFails h m := by
  simp [State.passArrive, hc, ht, hon, hf]

end

/-! ## A store to a part of an uncorrectable word (R233) -/

/-- A store that begins and ends inside one word covers that word in part. -/
theorem partWords_inside {g a n : Nat} (hn : 0 < n) (hi : a % g + n < g) : partWords g a n = [a / g] := by
  have hd := Nat.div_add_mod a g
  have hlast : (a + n - 1) / g = a / g := by
    rw [show a + n - 1 = (a % g + n - 1) + g * (a / g) by omega, Nat.add_mul_div_left _ _ (by omega), Nat.div_eq_of_lt (by omega)]
    omega
  have hw : ¬(a ≤ g * (a / g) ∧ g * (a / g) + g ≤ a + n) := by omega
  unfold partWords
  rw [if_neg (by omega), if_pos hlast]
  simp only [List.filter_cons, List.filter_nil]
  simpa using fun hle => by omega

@[simp] theorem State.scanCount_half (s : State) (h x : Half) (tier : Nat) (c : Scan) : (s.scanCount h tier c).half x = s.half x := by
  cases x <;> (unfold State.scanCount; dsimp only; split_ifs <;> rfl)
@[simp] theorem State.scanCount_engines (s : State) (h : Half) (tier : Nat) (c : Scan) : (s.scanCount h tier c).engines = s.engines := by
  unfold State.scanCount; dsimp only; split_ifs <;> rfl
@[simp] theorem State.fresh_half (s : State) (h : Half) : s.fresh.2.half h = s.half h := by cases h <;> rfl
@[simp] theorem State.wf_half (s : State) (a : Nat) (f : Fld) (v : Nat) (h : Half) : (s.wf a f v).half h = s.half h := by cases h <;> rfl

theorem State.badWords_congr {s t : State} (e : t.half h = s.half h) (tier : Nat) : t.badWords h tier = s.badWords h tier := by
  unfold State.badWords; rw [e]

/-- A half to which nothing is done leaves the state as it is. -/
theorem State.modHalf_of_eq {f : HalfState → HalfState} (hf : f (s.half h) = s.half h) : s.modHalf h f = s := by
  unfold State.modHalf
  rw [hf]
  cases h <;> rfl

/-- A word of T2 known to be uncorrectable is found so again without a change. -/
theorem State.markBad_of_bad {w : Nat} (hb : w ∈ s.badWords h 2) : s.markBad h 2 w = s := by
  have hc : w ∈ (s.half h).mem.badT2 := hb
  exact State.modHalf_of_eq (by simp [hc])

theorem State.foldl_markBad_of_bad {ws : List Nat} (hb : ∀ w ∈ ws, w ∈ s.badWords h 2) :
    ws.foldl (fun s w => s.markBad h 2 w) s = s := by
  induction ws with
  | nil => rfl
  | cons w ws ih =>
    rw [List.foldl_cons, State.markBad_of_bad (hb w (by simp))]
    exact ih (fun x hx => hb x (by simp [hx]))

section
variable {a : Nat} {bs : List Byte} (hi : a % 8 + bs.length < 8)
include hi

/-- A store that lies inside one uncorrectable word of T2 stores none of its bytes. -/
theorem State.putParts_inside : s.putParts h 2 a bs [a / 8] =
    ((s.memPut h 2 (a + bs.length) []).wf (MEM_EVENT h) MEM_EVENT.SUBWORD_DISCARD 1).log h
      { logData 3 with event := 5, addr := max a (8 * (a / 8)) } := by
  have hskip : min (8 - a % 8) bs.length = bs.length := by omega
  simp [State.putParts, wordBytes, hskip]

/-- A store inside a word known to be uncorrectable finds that word and no other. -/
theorem State.storeBytes_inside (hn : 0 < bs.length) (hb : a / 8 ∈ (s.half h).mem.badT2) :
    ∃ c, s.storeBytes h 2 a bs = (s.fresh.2.scanCount h 2 c).putParts h 2 a bs [a / 8] := by
  have hp : partWords (wordBytes 2) a bs.length = [a / 8] := partWords_inside hn hi
  have hw : ∀ c, a / 8 ∈ (s.fresh.2.scanCount h 2 c).badWords h 2 := fun c => by
    rw [State.badWords_congr (s := s) (by simp)]; exact hb
  set new := ([a / 8].zipIdx.filter (fun e => bit s.fresh.1 e.2)).map Prod.fst with hnew
  have hm : ∀ w ∈ new, w = a / 8 := by
    intro w hw
    simp only [hnew, List.mem_map, List.mem_filter, List.zipIdx_singleton, List.mem_singleton] at hw
    obtain ⟨e, ⟨rfl, _⟩, rfl⟩ := hw
    rfl
  refine ⟨{ corrected := s.fresh.1 / 4 % ([a / 8].length + 1 - new.length) }, ?_⟩
  unfold State.storeBytes State.putFinds
  simp only [hp, List.isEmpty_cons, Bool.false_eq_true, if_false, ← hnew]
  rw [State.foldl_markBad_of_bad (fun w hmem => by rw [hm w hmem]; exact hw _)]
  simp [hw]

/-- It is discarded with SUBWORD_DISCARD, and leaves T2 and the classes of the Passage as they were. -/
theorem State.storeBytes_discards (hn : 0 < bs.length) (hb : a / 8 ∈ (s.half h).mem.badT2) :
    ((s.storeBytes h 2 a bs).half h).mem.t2 = (s.half h).mem.t2 ∧
    (∀ k, ((s.storeBytes h 2 a bs).half h).cls k = (s.half h).cls k) ∧
    (s.storeBytes h 2 a bs).engines = s.engines ∧
    (s.storeBytes h 2 a bs).rf (MEM_EVENT h) MEM_EVENT.SUBWORD_DISCARD = 1 := by
  obtain ⟨c, e⟩ := State.storeBytes_inside (s := s) (h := h) hi hn hb
  rw [e, State.putParts_inside hi]
  set u := (s.fresh.2.scanCount h 2 c).memPut h 2 (a + bs.length) [] with hu
  have hlog := log_onlyLogged (u.wf (MEM_EVENT h) MEM_EVENT.SUBWORD_DISCARD 1) h
    { logData 3 with event := 5, addr := max a (8 * (a / 8)) } (by simp [logData])
  refine ⟨?_, fun k => ?_, ?_, ?_⟩
  · rw [onlyLogged_mem hlog, State.wf_half, hu]
    simp [State.memPut, memWrite]
  · rw [onlyLogged_cls hlog, State.wf_half, hu]
    simp
  · rw [onlyLogged_engines hlog, hu]
    simp
  · rw [rf_of_onlyLogged hlog (by simp) (by cases h <;> decide)]
    exact State.rf_wf _ _ _ _ (by decide)

end

end Sys2Proof.Machine
end

section
/-! PROOF. Transfers that arrive over the Passage (R20 to R23). -/

namespace Sys2Proof.Machine

variable {s : State} {h : Half} {q : List PassMsg}

/-- A payload's engine is one that takes from no ring: what stands in the far half is what its store leaves. -/
theorem State.passDeliver_payload {n : Option NodeRef} {e tier a : Nat} {bs : List Byte} (hk : dscSrcKind (s.engine e).desc ≠ 6)
    (he : (s.storeBytes h tier a bs).engines = s.engines) :
    s.passDeliver h (.payload n e tier a bs) = s.storeBytes h tier a bs := by
  refine State.srcFree_of_not_ring ?_
  unfold State.engine at hk ⊢
  rwa [he]

/-- Records only add to a half's log: what is put back into a half afterwards may as well have been there before. -/
theorem onlyLogged_restore {t : State} {as : List Nat} (k : onlyLogged as s t) (l : List PassMsg) (n : Nat) :
    onlyLogged as (s.modHalf h (fun x => { x with token := l, lent := n })) (t.modHalf h (fun x => { x with token := l, lent := n })) := by
  refine ⟨?_, fun a ha hw he => ?_⟩
  · have e := congrArg (fun u => State.modHalf u h (fun x => { x with token := l, lent := n })) k.1
    cases h <;> exact e
  · rw [State.modHalf_rd, State.modHalf_rd]; exact k.2 a ha hw he

/-- Settles O8: each clause is an arrival in turn, and then what the transfer carries. -/
theorem passageTransfers : Obligations.PassageTransfers := by
  refine ⟨?payload, ?subword, ?token, ?waits, ?delivers, ?fails, ?move, ?answer⟩
  case payload =>
    intro s h n e tier a fails bs q hl hon hf ht _ hc hw hk
    refine ⟨_, exec_passageTransferArrive hl, ?_⟩
    set u := s.modHalf h (fun x => x.sent .activation (.payload n e tier a bs) q) with hu
    have hst : u.storeBytes h tier a bs = u.memPut h tier a bs := State.storeBytes_clean _ _ _ _ _ hw
    rw [State.passArrive_delivers hon ht hc hf, ← hu, State.passDeliver_payload (by simpa [hu, State.engine] using hk)
      (by rw [hst, State.memPut_engines]), hst]
    refine ⟨?_, State.memBytes_memPut .., ?_, ?_, ?_⟩
    · exact (State.memPut_cls (k := .activation) ..).trans (by simp [hu])
    all_goals simp [hu]
  case subword =>
    intro s h n e a fails bs q hl hon hf ht hk hc hn hi hb
    refine ⟨_, exec_passageTransferArrive hl, ?_⟩
    set u := s.modHalf h (fun x => x.sent .activation (.payload n e 2 a bs) q) with hu
    obtain ⟨ht2, hcls, heng, hev⟩ := State.storeBytes_discards (s := u) (h := h) hi hn (by simpa [hu] using hb)
    rw [State.passArrive_delivers hon ht hc hf, ← hu, State.passDeliver_payload (by simpa [hu, State.engine] using hk) heng]
    exact ⟨(hcls .activation).trans (by simp [hu]), ht2.trans (by simp [hu]), hev⟩
  case token =>
    intro s h k fails q hl hon hf hc ht
    refine ⟨_, exec_passageTransferArrive hl, ?_⟩
    set u := s.modHalf h (fun x => x.sent .token (.token k) q) with hu
    rw [State.passArrive_fails hon ht hc hf, ← hu]
    have hlog := log_onlyLogged u h { logData 11 with ctx := some k.ctx, gid := k.gid, node := k.node } (by simp [logData])
    have hback : u.modHalf h (fun x => { x with token := (s.half h).token, lent := (s.half h).lent }) = s := by
      rw [hu]; cases h <;> rfl
    refine ⟨(onlyLogged_cls hlog h .token).trans (by simp [hu]), (onlyLogged_graphs hlog).trans (by simp [hu]), ?_⟩
    have hres := onlyLogged_restore (h := h) hlog (s.half h).token (s.half h).lent
    rwa [hback] at hres
  case waits =>
    intro s h k fails hl hw
    rw [exec_passageTransferArrive hl, State.passArrive_waits hw]
  case delivers =>
    intro s h k fails m q hl hon ht hc hf
    rw [exec_passageTransferArrive hl, State.passArrive_delivers hon ht hc hf]
  case fails =>
    intro s h k fails m q hl hon ht hc hf
    rw [exec_passageTransferArrive hl, State.passArrive_fails hon ht hc hf]
  case move =>
    intro s h fails a tier i bs q hl hon ht hc hf _ _
    refine ⟨_, exec_passageTransferArrive hl, ?_⟩
    rw [State.passArrive_delivers hon ht hc hf]
    refine ⟨?_, State.memBytes_memPut .., ?_, ?_⟩
    · exact (State.memPut_cls (k := .move) ..).trans (by simp)
    all_goals simp [State.passDeliver]
  case answer =>
    intro s h fails f off bs q hl hon ht hc hf
    refine ⟨_, exec_passageTransferArrive hl, ?_⟩
    rw [State.passArrive_delivers hon ht hc hf]
    refine ⟨?_, ?_, ?_, ?_⟩
    · exact (congrArg HalfState.control (State.half_modHalf_same ..)).trans (by simp)
    all_goals simp [State.passDeliver, State.send_outbox_append]

end Sys2Proof.Machine
end

section
/-! PROOF. Unassigned offsets (R35): no register is found there, so a read gives zero and a write ends. -/

namespace Sys2Proof.Machine

variable {s : State} {h : Half} {f off v : Nat} {o : Nat}

theorem hostUp_of_live (hl : s.live = true) : s.hostUp = true := by simp [State.hostUp, hl]

theorem bar0Ok_word (ha : off % 4 = 0) : bar0Ok off 4 = true := by simp [bar0Ok, ha]

theorem bar0Reach_of_live (hl : s.live = true) (off : Nat) : s.bar0Reach off = true := by simp [State.bar0Reach, State.reachable, hl]

/-- What a domain's register waits for is its state and the writes held before it. -/
theorem mustWait_congr {t : State} (hr : t.regs = s.regs) (ha : (t.half h).accesses = (s.half h).accesses) (o : Nat) :
    t.mustWait h o = s.mustWait h o := by
  have hd : ∀ d, t.domOn d = s.domOn d := fun d => by
    unfold State.domOn State.dom; rw [State.rf_congr hr]
  unfold State.mustWait
  simp only [hd, ha]

section
variable (hn : regFind (off % 0x02000000) = none) (hb : off % 0x02000000 < 0x01000000)
include hn hb

/-- A write to an offset that no register holds ends at its half. -/
theorem accessDo_write_unassigned : s.accessDo h { func := f, off := off, write := some v } = s := by
  simp [State.accessDo, State.regWrite, hn, Nat.not_le.2 hb]

/-- A read of it gives zero. -/
theorem accessDo_read_unassigned :
    s.accessDo h { func := f, off := off } = s.readGive h f off (leBytes 4 0) := by
  simp [State.accessDo, State.regRead, hn, Nat.not_le.2 hb]

variable (hw : s.mustWait h (off % 0x02000000) = false)
include hw

theorem accessIn_write_unassigned : s.accessIn h { func := f, off := off, write := some v } = s := by
  simp [State.accessIn, hw, accessDo_write_unassigned hn hb]

/-- A read waits no more where it waited, and gives zero. -/
theorem accessIn_read_unassigned : ∃ as, s.accessIn h { func := f, off := off } =
    (s.modHalf h (fun x => { x with accesses := as })).readGive h f off (leBytes 4 0) := by
  have hself : s.modHalf h (fun x => { x with accesses := (s.half h).accesses }) = s := State.modHalf_of_eq rfl
  by_cases hc : { func := f, off := off } ∈ (s.half h).accesses
  · exact ⟨(s.half h).accesses.erase { func := f, off := off }, by
      simp [State.accessIn, hw, hc, accessDo_read_unassigned hn hb, State.modHalf]⟩
  · exact ⟨(s.half h).accesses, by simp [State.accessIn, hw, hc, accessDo_read_unassigned hn hb, hself]⟩

end

/-- A host access to a word of West's blocks reaches its half at once. -/
theorem hostWrite_west (hl : s.live = true) (hf : s.funcActive f = true) (ho : off < 0x02000000) (ha : off % 4 = 0) :
    s.hostWrite f off 4 v = s.accessIn .west { func := f, off := off, write := some v } := by
  have he : s.funcExists f = true := by simp only [State.funcActive, Bool.and_eq_true] at hf; exact hf.1.1
  have h5 : ¬ 0x05000000 ≤ off := by omega
  have h4 : ¬ 0x04000000 ≤ off := by omega
  have h8 : ¬ 0x08000000 ≤ off := by omega
  have h81 : ¬ 0x08100000 ≤ off := by omega
  simp [State.hostWrite, State.accessGo, he, hf, bar0Ok_word ha, bar0Reach_of_live hl, h4, h5, h8, h81, ho]

theorem hostRead_west (hl : s.live = true) (hf : s.funcActive f = true) (ho : off < 0x02000000) (ha : off % 4 = 0) :
    s.hostRead f off 4 = s.accessIn .west { func := f, off := off } := by
  have he : s.funcExists f = true := by simp only [State.funcActive, Bool.and_eq_true] at hf; exact hf.1.1
  have h5 : ¬ 0x05000000 ≤ off := by omega
  have h4 : ¬ 0x04000000 ≤ off := by omega
  have h8 : ¬ 0x08000000 ≤ off := by omega
  have h81 : ¬ 0x08100000 ≤ off := by omega
  simp [State.hostRead, State.accessGo, he, hf, bar0Ok_word ha, bar0Reach_of_live hl, h4, h5, h8, h81, ho]

theorem exec_registerWrite (hl : s.live = true) (w : Nat) : exec (.registerWrite f off w v) s = .next (s.hostWrite f off w v) := by
  have e : exec (.registerWrite f off w v) s = .next (if s.hostUp then s.hostWrite f off w v else s) := rfl
  rw [e, if_pos (hostUp_of_live hl)]

theorem exec_deferredReadComplete (hl : s.live = true) (w : Nat) :
    exec (.deferredReadComplete f off w false) s = .next (s.hostRead f off w) := by
  have e : exec (.deferredReadComplete f off w false) s =
      .next (if !s.hostUp then s else if false then s.readDrop f off else s.hostRead f off w) := rfl
  rw [e, hostUp_of_live hl]; rfl

/-- An access that has crossed to East waits there no more than before it left its class. -/
theorem mustWait_sent_east {m : PassMsg} {q : List PassMsg} (hlo : 0x02000000 ≤ off) (hhi : off < 0x04000000)
    (hw : s.mustWait (Half.ofNum (off / 0x02000000)) o = false) :
    (s.modHalf .east (fun x => x.sent .control m q)).mustWait .east o = false := by
  rw [show off / 0x02000000 = 1 by omega, show Half.ofNum 1 = .east from rfl] at hw
  exact (mustWait_congr (s := s) (h := .east) rfl rfl o).trans hw

/-- Settles O52: West's accesses reach their half at once, East's arrive there over the Passage; there no register is found. -/
theorem unassignedOffsets : Obligations.UnassignedOffsets := by
  refine ⟨?west, ?eastWrite, ?eastRead⟩
  case west =>
    intro s f off v hl hf ho hw ha hn hb
    rw [Nat.div_eq_of_lt ho, show Half.ofNum 0 = .west from rfl] at hw
    rw [exec_registerWrite hl, hostWrite_west hl hf ho ha, accessIn_write_unassigned hn hb hw]
    refine ⟨rfl, _, exec_deferredReadComplete hl 4, ?_⟩
    obtain ⟨as, e⟩ := accessIn_read_unassigned (f := f) hn hb hw
    rw [hostRead_west hl hf ho ha, e]
    exact ⟨rfl, rfl, rfl, fun h => by cases h <;> exact ⟨rfl, rfl⟩⟩
  case eastWrite =>
    intro s f off v fails q hl hlo hhi hw _ hn hb ht hon hf _ hc
    refine ⟨_, exec_passageTransferArrive hl, ?_⟩
    rw [State.passArrive_delivers (h := .east) (k := .control) hon ht hc hf, State.passDeliver,
      accessIn_write_unassigned hn hb (mustWait_sent_east hlo hhi hw)]
    exact ⟨rfl, rfl, rfl, rfl, rfl, fun h => by cases h <;> exact ⟨rfl, rfl⟩⟩
  case eastRead =>
    intro s f off fails q hl hlo hhi hw _ hn hb ht hon hf _ hc
    refine ⟨_, exec_passageTransferArrive hl, ?_⟩
    rw [State.passArrive_delivers (h := .east) (k := .control) hon ht hc hf, State.passDeliver]
    obtain ⟨as, e⟩ := accessIn_read_unassigned (f := f) hn hb
      (mustWait_sent_east (m := .access { func := f, off := off }) (q := q) hlo hhi hw)
    rw [e]
    simp only [State.readGive, State.passControl, State.modHalf_east, State.modHalf_west]
    refine ⟨HalfState.sent_control _, trivial, trivial, trivial, trivial, trivial, fun h => ?_⟩
    cases h <;> simp [State.half]

end Sys2Proof.Machine
end

section
/-! PROOF. Rules of the power domains: fields of their registers, wake requests (R385), and what a change of one domain leaves. -/

namespace Sys2Proof.Machine

variable {s t u : State} {as : List Nat} {d e : Nat}

/-! ## Bits of a register -/

theorem bit_eq_testBit (n i : Nat) : bit n i = n.testBit i := by
  unfold bit bits
  rw [Nat.testBit_eq_decide_div_mod_eq, Nat.shiftRight_eq_div_pow, Nat.pow_one]
  rfl

/-- Of a word with one bit written, that bit reads as written and every other as before. -/
theorem bit_putF_bit (w : Word) {b : Nat} (hb : b < 32) (v c : Nat) :
    bit (putF w { lo := b, len := 1 } v).toNat c = if c = b then bit v 0 else bit w.toNat c := by
  simp only [bit_eq_testBit, BitVec.testBit_toNat]
  by_cases hc : c < 32
  · rw [putF_getLsbD _ _ _ _ hc]
    by_cases h : c = b
    · subst h; simp
    · rw [if_neg h, if_neg (by simp only; omega)]
  · rw [if_neg (by omega), BitVec.getLsbD_of_ge _ _ (by omega), BitVec.getLsbD_of_ge _ _ (by omega)]

/-- A field reads as written where the value fits. -/
theorem State.rf_wf_same (a : Nat) (f : Fld) (v : Nat) (h : f.lo + f.len ≤ 32) (hv : v < 2 ^ f.len) : (s.wf a f v).rf a f = v := by
  rw [State.rf_wf _ _ _ _ h, Nat.mod_eq_of_lt hv]

/-! ## The state of a domain -/

/-- A write of a domain's state. -/
theorem State.dom_wf_state (s : State) (d e v : Nat) (hv : v < 8) :
    (s.wf (PWR_DOMAIN_STATUS d) PWR_DOMAIN_STATUS.STATE v).dom e = if e = d then v else s.dom e := by
  unfold State.dom
  split
  · next h => subst h; exact State.rf_wf_same _ _ _ (by decide) hv
  · next h => exact State.rf_wf_ne _ _ _ _ (by simp only [PWR_DOMAIN_STATUS]; omega)

/-- A write of another field of a status register, or of another register. -/
theorem State.dom_wf_wakes (s : State) (d e v : Nat) : (s.wf (PWR_DOMAIN_STATUS d) PWR_DOMAIN_STATUS.WAKES v).dom e = s.dom e := by
  unfold State.dom
  by_cases h : e = d
  · subst h; exact State.rf_wf_field _ _ _ _ _ rfl (.inr (by decide))
  · exact State.rf_wf_ne _ _ _ _ (by simp only [PWR_DOMAIN_STATUS]; omega)

theorem State.dom_wf_ne (s : State) {a : Nat} (f : Fld) (v : Nat) (h : PWR_DOMAIN_STATUS d ≠ a + f.off) : (s.wf a f v).dom d = s.dom d :=
  State.rf_wf_ne _ _ _ _ h

theorem State.dom_congr (h : t.regs = s.regs) (d : Nat) : t.dom d = s.dom d := State.rf_congr h _ _

/-- A record changes no domain. -/
theorem dom_of_onlyLogged (k : onlyLogged as s t) (hd : d < 144) (ha : PWR_DOMAIN_STATUS d ∉ as) : t.dom d = s.dom d :=
  rf_of_onlyLogged k ha (by simp only [PWR_DOMAIN_STATUS]; omega)

theorem mem_domRegs (hd : d < 144) : PWR_DOMAIN_STATUS d ∈ domRegs :=
  List.mem_map.2 ⟨d, List.mem_range.2 hd, rfl⟩

/-! ## Which domains serve a domain -/

theorem lanesOf_lt (d : Nat) : ∀ e ∈ lanesOf d, e < 144 := by
  intro e he
  have hk : ∀ k, k < 4 → lanesDom (domHalf d) k < 144 := fun k hk => by
    unfold lanesDom Half.num; split <;> omega
  unfold lanesOf at he
  dsimp only at he
  split at he <;> simp only [List.mem_singleton, List.not_mem_nil] at he <;> subst he <;> apply hk
  case h_4 => split <;> decide
  all_goals omega

theorem servers_lt (d : Nat) : ∀ e ∈ servers d, e < 144 := by
  intro e he
  unfold servers at he
  split at he
  · simp at he
  · rcases List.mem_cons.1 he with rfl | he
    · unfold sensorDom Half.num; split <;> omega
    · exact lanesOf_lt d e he

theorem wakeOrder_lt (s : State) (hd : d < 144) : ∀ e ∈ s.wakeOrder d, e < 144 := by
  intro e he
  unfold State.wakeOrder at he
  simp only [List.mem_append, List.mem_singleton] at he
  rcases he with (he | he) | rfl
  · split at he
    · simp only [List.mem_append, List.mem_singleton] at he
      rcases he with ((he | rfl) | he) | rfl
      exacts [servers_lt _ _ he, by decide, servers_lt _ _ he, by decide]
    · simp at he
  · exact servers_lt _ _ he
  · exact hd

theorem self_mem_wakeOrder (s : State) (d : Nat) : d ∈ s.wakeOrder d := by simp [State.wakeOrder]

/-! ## Wake requests (R384, R385) -/

/-- A PLL that starts changes the list of started PLLs alone. -/
theorem State.startPll_eq (s : State) (d : Nat) : ∃ l, s.startPll d = { s with power := { s.power with starting := l } } := by
  unfold State.startPll
  split
  · exact ⟨_, rfl⟩
  · dsimp only
    split <;> exact ⟨_, rfl⟩

/-- What a request in the sequencer's queue does: an OFF domain is QUEUED, one of any other state keeps it. -/
theorem State.enqueueWake_cases (s : State) (d : Nat) :
    (s.dom d = 0 ∧ ∃ l, s.enqueueWake d = { s.wf (PWR_DOMAIN_STATUS d) PWR_DOMAIN_STATUS.STATE 1 with
      power := { s.power with wakeQ := s.power.wakeQ ++ [d], starting := l } }) ∨
    (s.dom d ≠ 0 ∧ ∃ l, s.enqueueWake d = { s with power := { s.power with wakeLater := l } } ∧
      ∀ e ∈ l, e ∈ s.power.wakeLater ∨ e = d ∧ s.dom d = 4) := by
  unfold State.enqueueWake
  split
  · next h =>
    obtain ⟨l, hl⟩ := State.startPll_eq { s.wf (PWR_DOMAIN_STATUS d) PWR_DOMAIN_STATUS.STATE 1 with
      power := { s.power with wakeQ := s.power.wakeQ ++ [d] } } d
    exact .inl ⟨h, l, hl⟩
  · next h =>
    refine .inr ⟨by omega, ?_⟩
    split
    · exact ⟨_, rfl, fun e he => .inl he⟩
    · refine ⟨_, rfl, fun e he => ?_⟩
      simpa [h] using he
  · next h0 _ => exact .inr ⟨h0, _, rfl, fun e he => .inl he⟩

/-- A request changes the state of its own domain alone, from OFF to QUEUED. -/
theorem State.dom_enqueueWake (s : State) (d e : Nat) :
    (s.enqueueWake d).dom e = if e = d ∧ s.dom d = 0 then 1 else s.dom e := by
  rcases s.enqueueWake_cases d with ⟨h, l, eq⟩ | ⟨h, l, eq, -⟩
  · rw [eq]
    exact (State.dom_wf_state s d e 1 (by decide)).trans (by simp [h])
  · rw [eq, if_neg fun k => h k.2]
    rfl

/-- A request joins the queue at its end. -/
theorem State.wakeQ_enqueueWake (s : State) (d : Nat) :
    (s.enqueueWake d).power.wakeQ = if s.dom d = 0 then s.power.wakeQ ++ [d] else s.power.wakeQ := by
  rcases s.enqueueWake_cases d with ⟨h, l, eq⟩ | ⟨h, l, eq, -⟩ <;> rw [eq] <;> simp [h]

/-- Only registers at the addresses `as` and the power controller's own state may differ between two states. -/
def onlyRegsPower (as : List Nat) (s t : State) : Prop := onlyRegs as s { t with power := s.power }

theorem onlyRegsPower_refl (as : List Nat) (s : State) : onlyRegsPower as s s := onlyRegs_refl as s

theorem onlyRegsPower_trans (h : onlyRegsPower as s t) (k : onlyRegsPower as t u) : onlyRegsPower as s u := by
  refine ⟨?_, fun a ha => (k.2 a ha).trans (h.2 a ha)⟩
  have e : ({ u with power := s.power, regs := s.regs } : State) =
      { ({ ({ u with power := t.power } : State) with regs := t.regs } : State) with power := s.power, regs := s.regs } := rfl
  exact e.trans ((congrArg (fun x : State => { x with power := s.power, regs := s.regs }) k.1).trans h.1)

theorem onlyRegsPower_wf (h : onlyRegsPower as s t) (a : Nat) (f : Fld) (v : Nat) (ha : a + f.off ∈ as) :
    onlyRegsPower as s (t.wf a f v) := onlyRegs_wf h a f v ha

theorem onlyRegsPower_mono {bs : List Nat} (hs : ∀ a ∈ as, a ∈ bs) (h : onlyRegsPower as s t) : onlyRegsPower bs s t :=
  ⟨h.1, fun a ha => h.2 a (fun x => ha (hs a x))⟩

theorem rf_of_onlyRegsPower (h : onlyRegsPower as s t) {a : Nat} {f : Fld} (ha : a + f.off ∉ as) : t.rf a f = s.rf a f := by
  unfold State.rf
  exact congrArg (getF · f) (h.2 _ ha)

/-- A wake request changes the states of domains, and what the power controller keeps of its own. -/
theorem onlyRegsPower_enqueueWake (s : State) (hd : d < 144) : onlyRegsPower domRegs s (s.enqueueWake d) := by
  rcases s.enqueueWake_cases d with ⟨-, l, eq⟩ | ⟨-, l, eq, -⟩ <;> rw [eq]
  · exact onlyRegsPower_wf (onlyRegsPower_refl _ s) _ _ _ (mem_domRegs hd)
  · exact onlyRegsPower_refl _ s

/-! ### A list of requests -/

theorem onlyRegsPower_foldl (l : List Nat) (hl : ∀ e ∈ l, e < 144) : onlyRegsPower domRegs s (l.foldl State.enqueueWake s) := by
  induction l generalizing s with
  | nil => exact onlyRegsPower_refl _ s
  | cons e l ih =>
    exact onlyRegsPower_trans (onlyRegsPower_enqueueWake s (hl e (by simp))) (ih fun x hx => hl x (by simp [hx]))

/-- A domain that is not OFF keeps its state while others are requested. -/
theorem dom_foldl_enqueueWake (l : List Nat) (h : s.dom d ≠ 0) : (l.foldl State.enqueueWake s).dom d = s.dom d := by
  induction l generalizing s with
  | nil => rfl
  | cons e l ih =>
    have he : (s.enqueueWake e).dom d = s.dom d := by
      rw [State.dom_enqueueWake, if_neg]
      rintro ⟨rfl, h0⟩
      exact h h0
    rw [List.foldl_cons, ih (by rwa [he]), he]

theorem wakeQ_isPrefix_foldl (l : List Nat) (s : State) : s.power.wakeQ <+: (l.foldl State.enqueueWake s).power.wakeQ := by
  induction l generalizing s with
  | nil => exact ⟨[], List.append_nil _⟩
  | cons e l ih =>
    refine List.IsPrefix.trans ?_ (ih _)
    rw [State.wakeQ_enqueueWake]
    split
    · exact ⟨[e], rfl⟩
    · exact ⟨[], List.append_nil _⟩

/-- An OFF domain that a list of requests names ends QUEUED and stands in the queue. -/
theorem queued_of_mem (l : List Nat) (hd : d ∈ l) (h : s.dom d = 0) :
    (l.foldl State.enqueueWake s).dom d = 1 ∧ d ∈ (l.foldl State.enqueueWake s).power.wakeQ := by
  induction l generalizing s with
  | nil => simp at hd
  | cons e l ih =>
    by_cases he : e = d
    · subst he
      have h1 : (s.enqueueWake e).dom e = 1 := by simp [State.dom_enqueueWake, h]
      have hq : e ∈ (s.enqueueWake e).power.wakeQ := by simp [State.wakeQ_enqueueWake, h]
      exact ⟨(dom_foldl_enqueueWake l (by rw [h1]; decide)).trans h1, (wakeQ_isPrefix_foldl l _).mem hq⟩
    · exact ih (by simpa [Ne.symm he] using hd) (by rw [State.dom_enqueueWake, if_neg fun k => he k.1.symm, h])

/-- A domain that is not SLEEPING joins no list of wakes to be made later. -/
theorem not_mem_wakeLater_foldl (l : List Nat) (h4 : s.dom d ≠ 4) (hd : d ∉ s.power.wakeLater) :
    d ∉ (l.foldl State.enqueueWake s).power.wakeLater := by
  induction l generalizing s with
  | nil => exact hd
  | cons e l ih =>
    refine ih ?_ ?_
    · rw [State.dom_enqueueWake]
      split
      · decide
      · exact h4
    · rcases s.enqueueWake_cases e with ⟨-, l, eq⟩ | ⟨-, l, eq, hl⟩ <;> rw [eq]
      · exact hd
      · intro hm
        rcases hl d hm with hm | ⟨rfl, h⟩
        exacts [hd hm, h4 h]

/-- A wake request of a domain that is not disabled is taken (R385, R388). -/
theorem State.wake_of_enabled (h : s.on (PWR_DOMAIN_CTRL d) PWR_DOMAIN_CTRL.DISABLE = false) :
    s.wake d = ((s.wakeOrder d).foldl State.enqueueWake s, true) := by
  simp [State.wake, h]

theorem State.wakeOrRefuse_of_enabled (h : s.on (PWR_DOMAIN_CTRL d) PWR_DOMAIN_CTRL.DISABLE = false) :
    s.wakeOrRefuse d = (s.wakeOrder d).foldl State.enqueueWake s := by
  simp [State.wakeOrRefuse, State.wake_of_enabled h]

end Sys2Proof.Machine
end

section
/-! PROOF. Power domains are held, disabled, sleep and turn off (R384, R385, R388). -/

namespace Sys2Proof.Machine

variable {s t : State} {d v : Nat}

/-! ## PWR_DOMAIN_CTRL -/

theorem exec_domainHold (hl : s.live = true) (hd : d < 144) : exec (.domainHold d v) s = .next (s.domainCtrl d (v % 2)) := by
  refine (whenLive_of_live hl _).trans ?_
  rw [if_pos hd, bits, Nat.shiftRight_zero, Nat.pow_one]

theorem exec_domainDisable (hl : s.live = true) (hd : d < 144) : exec (.domainDisable d v) s = .next (s.domainCtrl d (v % 2 + 2)) := by
  refine (whenLive_of_live hl _).trans ?_
  rw [if_pos hd, bits, Nat.shiftRight_zero, Nat.pow_one]

/-- Both bits of a domain's control register written, HOLD and DISABLE. -/
def State.ctrlPut (s : State) (d hold dis : Nat) : State :=
  (s.wf (PWR_DOMAIN_CTRL d) PWR_DOMAIN_CTRL.DISABLE dis).wf (PWR_DOMAIN_CTRL d) PWR_DOMAIN_CTRL.HOLD hold

theorem ctrlPut_hold (s : State) (d : Nat) {hold : Nat} (dis : Nat) (h : hold < 2) :
    (s.ctrlPut d hold dis).rf (PWR_DOMAIN_CTRL d) PWR_DOMAIN_CTRL.HOLD = hold := State.rf_wf_same _ _ _ (by decide) h

theorem ctrlPut_disable (s : State) (d : Nat) (hold : Nat) {dis : Nat} (h : dis < 2) :
    (s.ctrlPut d hold dis).rf (PWR_DOMAIN_CTRL d) PWR_DOMAIN_CTRL.DISABLE = dis := by
  unfold State.ctrlPut
  rw [State.rf_wf_field _ _ PWR_DOMAIN_CTRL.HOLD PWR_DOMAIN_CTRL.DISABLE _ rfl (.inl (by decide))]
  exact State.rf_wf_same _ _ _ (by decide) h

theorem onlyRegs_ctrlPut (s : State) (d hold dis : Nat) : onlyRegs [PWR_DOMAIN_CTRL d] s (s.ctrlPut d hold dis) :=
  onlyRegs_wf (onlyRegs_wf (onlyRegs_refl _ s) _ _ _ (by simp)) _ _ _ (by simp)

/-- The state of a domain stands in no control register of the first 256 domains. -/
theorem dom_ctrlPut (s : State) (hd : d < 144) (e hold dis : Nat) : (s.ctrlPut d hold dis).dom e = s.dom e := by
  unfold State.ctrlPut
  rw [State.dom_wf_ne _ _ _ (by simp only [PWR_DOMAIN_STATUS, PWR_DOMAIN_CTRL]; omega),
    State.dom_wf_ne _ _ _ (by simp only [PWR_DOMAIN_STATUS, PWR_DOMAIN_CTRL]; omega)]

/-- HOLD 1 is a wake request (R385). -/
theorem domainCtrl_hold (s : State) (d : Nat) : s.domainCtrl d 1 = ((s.ctrlPut d 1 0).wake d).1 := rfl

theorem domainCtrl_free (s : State) (d : Nat) : s.domainCtrl d 0 = s.ctrlPut d 0 0 := rfl

/-- A disabling that Table 14.2 allows, of a domain that is not QUEUED. -/
theorem domainCtrl_disable (hk : s.keepOn d = false) (h1 : s.dom d ≠ 1)
    (hc : domClass d = 0 ∨ domClass d = 1 ∨ domClass d = 7 ∨ domClass d = 5 ∧ s.portEn (d - 110) = false) :
    s.domainCtrl d 2 = (s.wf (PWR_DOMAIN_CTRL d) PWR_DOMAIN_CTRL.HOLD 0).wf (PWR_DOMAIN_CTRL d) PWR_DOMAIN_CTRL.DISABLE 1 := by
  have hb : bit 2 1 = true := by decide
  have hh : bits 2 0 1 = 0 := by decide
  unfold State.domainCtrl
  rw [if_pos hb]
  dsimp only
  rw [if_pos ⟨hc, hk, hh⟩, if_neg h1]

/-- A disabling that Table 14.2 does not allow is refused (R388). -/
theorem domainCtrl_refused {hold : Nat} (hh : hold < 2)
    (hr : hold = 1 ∨ s.keepOn d = true ∨ ¬(domClass d = 0 ∨ domClass d = 1 ∨ domClass d = 7 ∨ domClass d = 5)) :
    s.domainCtrl d (hold + 2) =
      (s.wf PWR_EVENT PWR_EVENT.DISABLE_REFUSED 1).log .west { logPower with event := 5, subject := d, kind := 4 } := by
  have hb : bit (hold + 2) 1 = true ∧ bits (hold + 2) 0 1 = hold := by
    obtain rfl | rfl : hold = 0 ∨ hold = 1 := by omega
    all_goals decide
  unfold State.domainCtrl
  rw [if_pos hb.1]
  dsimp only
  rw [if_neg]
  rw [hb.2]
  rintro ⟨hc, hk, h0⟩
  rcases hr with hr | hr | hr
  · omega
  · simp [hk] at hr
  · exact hr (hc.imp_right (.imp_right (.imp_right And.left)))

/-! ## SLEEPING and OFF -/

theorem exec_domainIdleExpire (hl : s.live = true) (hd : d < 144) : exec (.domainIdleExpire d) s = .next (s.domainIdle d) :=
  (whenLive_of_live hl _).trans (by rw [if_pos hd])

theorem exec_domainOff (hl : s.live = true) (hd : d < 144) : exec (.domainOff d) s = .next (s.domainOff d) :=
  (whenLive_of_live hl _).trans (by rw [if_pos hd])

theorem onlyRegs_passageUp {as : List Nat} (h : onlyRegs as s t) (ha : BOOT_GLOBAL_STATUS ∈ as) : onlyRegs as s t.passageUp :=
  onlyRegs_wf h _ _ _ ha

theorem dom_passageUp (s : State) (e : Nat) : s.passageUp.dom e = s.dom e :=
  State.dom_wf_ne _ _ _ (by simp only [PWR_DOMAIN_STATUS, BOOT_GLOBAL_STATUS]; omega)

/-- A domain that may sleep becomes SLEEPING; a Passage end shows the Passage down. -/
theorem toSleep_of_maySleep (hm : s.maySleep d = true) :
    (s.toSleep d).dom d = 4 ∧ onlyRegs [PWR_DOMAIN_STATUS d, BOOT_GLOBAL_STATUS] s (s.toSleep d) := by
  have hw := onlyRegs_wf (onlyRegs_refl [PWR_DOMAIN_STATUS d, BOOT_GLOBAL_STATUS] s) (PWR_DOMAIN_STATUS d) PWR_DOMAIN_STATUS.STATE 4
    (by simp)
  have hd : (s.wf (PWR_DOMAIN_STATUS d) PWR_DOMAIN_STATUS.STATE 4).dom d = 4 := by simp [State.dom_wf_state]
  unfold State.toSleep
  rw [if_pos hm]
  dsimp only
  split
  · exact ⟨(dom_passageUp _ _).trans hd, onlyRegs_passageUp hw (by simp)⟩
  · exact ⟨hd, hw⟩

/-- What a transfer towards East leaves behind in its class says nothing of a keep-on condition. -/
theorem keepOn_sent_east (s : State) (m : PassMsg) (q : List PassMsg) (d : Nat) :
    (s.modHalf .east (fun x => x.sent .control m q)).keepOn d = s.keepOn d := by
  unfold State.keepOn
  cases domHalf d <;> rfl

theorem maySleep_sent_east (s : State) (m : PassMsg) (q : List PassMsg) (d : Nat) :
    (s.modHalf .east (fun x => x.sent .control m q)).maySleep d = s.maySleep d := by
  unfold State.maySleep
  rw [keepOn_sent_east]
  rfl

/-- The PLL of a domain that turns OFF may stop: of the registers, that changes the half's PLL status alone. -/
theorem State.stopPll_cases (s : State) (d : Nat) : s.stopPll d = s ∨ ∃ b l, s.stopPll d =
    { s.wf (CLK_PLL_STATUS (domHalf d)) { lo := b, len := 1 } 0 with power := { s.power with starting := l } } := by
  unfold State.stopPll
  split
  · exact .inl rfl
  · split
    · exact .inr ⟨_, _, rfl⟩
    · exact .inl rfl

/-- A SLEEPING domain turned OFF, with the PLL and the Passage as that leaves them; a wake request that waits is not looked at yet. -/
def State.turnedOff (s : State) (d : Nat) : State :=
  let s1 := (s.wf (PWR_DOMAIN_STATUS d) PWR_DOMAIN_STATUS.STATE 0).stopPll d
  if domClass d = 10 then s1.passageUp else s1

/-- The registers that a domain's turning OFF may change. -/
def offRegs (d : Nat) : List Nat := [PWR_DOMAIN_STATUS d, CLK_PLL_STATUS .west, CLK_PLL_STATUS .east, BOOT_GLOBAL_STATUS]

theorem pllStatus_mem_offRegs (h : Half) (d : Nat) : CLK_PLL_STATUS h ∈ offRegs d := by cases h <;> simp [offRegs]

theorem onlyRegsPower_turnedOff (s : State) (d : Nat) : onlyRegsPower (offRegs d) s (s.turnedOff d) := by
  have h0 : onlyRegsPower (offRegs d) s (s.wf (PWR_DOMAIN_STATUS d) PWR_DOMAIN_STATUS.STATE 0) :=
    onlyRegsPower_wf (onlyRegsPower_refl _ s) _ _ _ (by simp [offRegs])
  have h1 : onlyRegsPower (offRegs d) s ((s.wf (PWR_DOMAIN_STATUS d) PWR_DOMAIN_STATUS.STATE 0).stopPll d) := by
    rcases State.stopPll_cases (s.wf (PWR_DOMAIN_STATUS d) PWR_DOMAIN_STATUS.STATE 0) d with e | ⟨b, l, e⟩ <;> rw [e]
    · exact h0
    · exact onlyRegsPower_wf h0 _ _ _ (pllStatus_mem_offRegs _ _)
  unfold State.turnedOff
  dsimp only
  split
  · exact onlyRegsPower_wf h1 _ _ _ (by simp [offRegs])
  · exact h1

theorem dom_stopPll (s : State) (hd : d < 144) (e : Nat) : (s.stopPll e).dom d = s.dom d := by
  rcases s.stopPll_cases e with h | ⟨b, l, h⟩ <;> rw [h]
  refine State.dom_wf_ne s _ _ ?_
  cases domHalf e <;> simp only [PWR_DOMAIN_STATUS, CLK_PLL_STATUS, Half.base] <;> omega

theorem dom_turnedOff (s : State) (hd : d < 144) : (s.turnedOff d).dom d = 0 := by
  have h1 : ((s.wf (PWR_DOMAIN_STATUS d) PWR_DOMAIN_STATUS.STATE 0).stopPll d).dom d = 0 := by
    rw [dom_stopPll _ hd]; simp [State.dom_wf_state]
  unfold State.turnedOff
  dsimp only
  split
  · exact (dom_passageUp _ _).trans h1
  · exact h1

theorem wakeLater_turnedOff (s : State) (d : Nat) : (s.turnedOff d).power.wakeLater = s.power.wakeLater := by
  unfold State.turnedOff
  dsimp only
  split <;> rcases State.stopPll_cases (s.wf (PWR_DOMAIN_STATUS d) PWR_DOMAIN_STATUS.STATE 0) d with e | ⟨b, l, e⟩ <;>
    simp [State.passageUp, e]

/-- DOMAIN_OFF with no wake request waiting. -/
theorem domainOff_of_not_mem (h4 : s.dom d = 4) (hr : s.power.restarting = false) (hw : s.power.wakeLater.contains d = false) :
    s.domainOff d = s.turnedOff d := by
  have h : (s.turnedOff d).power.wakeLater.contains d = false := by rw [wakeLater_turnedOff, hw]
  unfold State.domainOff
  rw [if_pos ⟨h4, hr⟩]
  exact if_neg (by rw [Bool.not_eq_true]; exact h)

/-- A request that waited while the domain slept is raised (R384). -/
theorem domainOff_of_mem (h4 : s.dom d = 4) (hr : s.power.restarting = false) (hw : s.power.wakeLater.contains d = true) :
    s.domainOff d = State.wakeOrRefuse { s.turnedOff d with
      power := { (s.turnedOff d).power with wakeLater := s.power.wakeLater.filter (· != d) } } d := by
  have h : (s.turnedOff d).power.wakeLater.contains d = true := by rw [wakeLater_turnedOff, hw]
  unfold State.domainOff
  rw [if_pos ⟨h4, hr⟩, ← wakeLater_turnedOff s d]
  exact if_pos h

/-- Settles O1: the writes of PWR_DOMAIN_CTRL, then SLEEPING by the three ways a domain takes its command, then OFF. -/
theorem domainsHeldDisabledAndOff : Obligations.DomainsHeldDisabledAndOff := by
  refine ⟨?hold, ?free, ?disable, ?refused, ?sleep, ?sleepEast, ?arrive, ?link, ?off, ?offWoken⟩
  case hold =>
    intro s d v hl hd hv h0
    refine ⟨_, exec_domainHold hl hd, ?_⟩
    have hdis := ctrlPut_disable s d 1 (dis := 0) (by decide)
    have hon : (s.ctrlPut d 1 0).on (PWR_DOMAIN_CTRL d) PWR_DOMAIN_CTRL.DISABLE = false := by simp [State.on, hdis]
    rw [hv, domainCtrl_hold, State.wake_of_enabled hon]
    have hreq := onlyRegsPower_foldl (s := s.ctrlPut d 1 0) _ (wakeOrder_lt (s.ctrlPut d 1 0) hd)
    have hctrl : PWR_DOMAIN_CTRL d ∉ domRegs := by
      simp only [domRegs, List.mem_map, PWR_DOMAIN_CTRL, PWR_DOMAIN_STATUS]; omega
    obtain ⟨h1, hq⟩ := queued_of_mem _ (self_mem_wakeOrder (s.ctrlPut d 1 0) d) ((dom_ctrlPut s hd d 1 0).trans h0)
    refine ⟨(rf_of_onlyRegsPower hreq hctrl).trans (ctrlPut_hold s d 0 (by decide)),
      (rf_of_onlyRegsPower hreq (f := PWR_DOMAIN_CTRL.DISABLE) hctrl).trans hdis, h1, List.contains_iff_mem.2 hq, ?_⟩
    have hput : onlyRegsPower (PWR_DOMAIN_CTRL d :: domRegs) s (s.ctrlPut d 1 0) :=
      onlyRegsPower_wf (onlyRegsPower_wf (onlyRegsPower_refl _ s) _ _ _ (by simp)) _ _ _ (by simp)
    exact onlyRegsPower_trans hput (onlyRegsPower_mono (fun _ => List.mem_cons_of_mem _) hreq)
  case free =>
    intro s d v hl hd hv
    refine ⟨_, exec_domainHold hl hd, ?_⟩
    rw [hv, domainCtrl_free]
    exact ⟨ctrlPut_hold s d 0 (by decide), ctrlPut_disable s d 0 (by decide), onlyRegs_ctrlPut s d 0 0⟩
  case disable =>
    intro s d v hl hd hv hk h1 hc
    refine ⟨_, exec_domainDisable hl hd, ?_⟩
    rw [hv, Nat.zero_add, domainCtrl_disable hk h1 hc]
    refine ⟨?_, State.rf_wf_same _ _ _ (by decide) (by decide), ?_⟩
    · rw [State.rf_wf_field _ _ PWR_DOMAIN_CTRL.DISABLE PWR_DOMAIN_CTRL.HOLD _ rfl (.inr (by decide))]
      exact State.rf_wf_same _ _ _ (by decide) (by decide)
    · exact onlyRegs_wf (onlyRegs_wf (onlyRegs_refl _ s) _ _ _ (by simp)) _ _ _ (by simp)
  case refused =>
    intro s d v hl hd hr
    refine ⟨_, exec_domainDisable hl hd, ?_⟩
    rw [domainCtrl_refused (Nat.mod_lt v (by decide)) hr]
    have hlog := log_onlyLogged (s.wf PWR_EVENT PWR_EVENT.DISABLE_REFUSED 1) .west { logPower with event := 5, subject := d, kind := 4 }
      (by simp [logPower])
    refine ⟨?_, onlyLogged_trans (onlyLogged_of_onlyRegs (onlyRegs_wf (onlyRegs_refl _ s) _ _ _ (by simp)))
      (onlyLogged_mono (by simp) hlog)⟩
    rw [rf_of_onlyLogged hlog (by simp) (by decide)]
    exact State.rf_wf_same _ _ _ (by decide) (by decide)
  case sleep =>
    intro s d hl hd h132 hv hm
    refine ⟨_, exec_domainIdleExpire hl hd, ?_⟩
    have e : s.domainIdle d = s.toSleep d := by simp [State.domainIdle, hm, h132, hv]
    rw [e]
    exact toSleep_of_maySleep hm
  case sleepEast =>
    intro s d hl hd hv hm hp
    refine ⟨_, exec_domainIdleExpire hl hd, ?_⟩
    have h132 : d ≠ 132 := by rintro rfl; simp [viaPassage] at hv
    have e : s.domainIdle d = s.passControl .east (.power d false) := by simp [State.domainIdle, hm, h132, hv, hp]
    rw [e]
    exact ⟨rfl, rfl⟩
  case arrive =>
    intro s d fails q hl hd hc ht hon hf hm
    refine ⟨_, exec_passageTransferArrive hl, ?_⟩
    rw [State.passArrive_delivers (h := .east) (k := .control) hon ht hc hf]
    obtain ⟨h4, hregs⟩ := toSleep_of_maySleep ((maySleep_sent_east s (.power d false) q d).trans hm)
    exact ⟨(congrArg (fun x : State => x.east.control) hregs.1 :), h4⟩
  case link =>
    intro s hl hm hp
    refine ⟨_, exec_domainIdleExpire hl (by decide), ?_⟩
    have hp' : s.powerPending (fun _ => true) = false := hp
    have e : s.domainIdle 132 =
        { s with power := { s.power with wakeLink := s.power.wakeLink ++ [{ wake := false, ack := false }] } } := by
      simp [State.domainIdle, hm, hp']
    rw [e]
    exact ⟨rfl, rfl⟩
  case off =>
    intro s d hl hd h4 hr hw
    refine ⟨_, exec_domainOff hl hd, ?_⟩
    rw [domainOff_of_not_mem h4 hr hw]
    exact ⟨dom_turnedOff s hd, onlyRegsPower_turnedOff s d⟩
  case offWoken =>
    intro s d hl hd h4 hr hw hdis
    refine ⟨_, exec_domainOff hl hd, ?_⟩
    rw [domainOff_of_mem h4 hr hw]
    set u : State := { s.turnedOff d with
      power := { (s.turnedOff d).power with wakeLater := s.power.wakeLater.filter (· != d) } } with hu
    have h0 : u.dom d = 0 := dom_turnedOff s hd
    have hctrl : PWR_DOMAIN_CTRL d ∉ offRegs d := by
      simp only [offRegs, List.mem_cons, List.not_mem_nil, or_false, PWR_DOMAIN_CTRL, PWR_DOMAIN_STATUS, CLK_PLL_STATUS, Half.base,
        BOOT_GLOBAL_STATUS]
      omega
    have hen : u.on (PWR_DOMAIN_CTRL d) PWR_DOMAIN_CTRL.DISABLE = false := by
      rw [← hdis]
      exact congrArg (· == 1) (rf_of_onlyRegsPower (onlyRegsPower_turnedOff s d) (f := PWR_DOMAIN_CTRL.DISABLE) hctrl)
    rw [State.wakeOrRefuse_of_enabled hen]
    obtain ⟨h1, hq⟩ := queued_of_mem _ (self_mem_wakeOrder u d) h0
    refine ⟨h1, ?_, List.contains_iff_mem.2 hq⟩
    rw [← Bool.not_eq_true, List.contains_iff_mem]
    exact not_mem_wakeLater_foldl _ (by rw [h0]; decide) (by simp [hu])

end Sys2Proof.Machine
end

section
/-! PROOF. The wake sequencer, the wake link and the PLLs (R26, R380, R386, R391). -/

namespace Sys2Proof.Machine

variable {s t u : State} {d e : Nat}

/-! ## What wake requests leave -/

/-- What a wake request, taken or refused, leaves: every domain that is not OFF, and of the sequencer all but the end of its queue. -/
structure WakesKeep (s t : State) : Prop where
  dom : ∀ e < 144, s.dom e ≠ 0 → t.dom e = s.dom e
  queue : s.power.wakeQ <+: t.power.wakeQ
  recent : t.power.recent = s.power.recent
  us : t.west.us = s.west.us

theorem WakesKeep.refl (s : State) : WakesKeep s s := ⟨fun _ _ _ => rfl, ⟨[], List.append_nil _⟩, rfl, rfl⟩

theorem WakesKeep.trans (h : WakesKeep s t) (k : WakesKeep t u) : WakesKeep s u where
  dom e he h0 := (k.dom e he (by rwa [h.dom e he h0])).trans (h.dom e he h0)
  queue := h.queue.trans k.queue
  recent := k.recent.trans h.recent
  us := k.us.trans h.us

theorem onlyLogged_us {as : List Nat} (k : onlyLogged as s t) : t.west.us = s.west.us :=
  (congrArg HalfState.us (onlyLogged_half k .west) :)

/-- A record, with event bits set outside the domains' registers. -/
theorem WakesKeep.of_onlyLogged {as : List Nat} (k : onlyLogged as s t) (ha : ∀ e < 144, PWR_DOMAIN_STATUS e ∉ as) : WakesKeep s t where
  dom _ he _ := dom_of_onlyLogged k he (ha _ he)
  queue := by rw [onlyLogged_power k]
  recent := by rw [onlyLogged_power k]
  us := onlyLogged_us k

theorem recent_enqueueWake (s : State) (d : Nat) : (s.enqueueWake d).power.recent = s.power.recent := by
  rcases s.enqueueWake_cases d with ⟨-, l, eq⟩ | ⟨-, l, eq, -⟩ <;> rw [eq]

theorem west_enqueueWake (s : State) (d : Nat) : (s.enqueueWake d).west = s.west := by
  rcases s.enqueueWake_cases d with ⟨-, l, eq⟩ | ⟨-, l, eq, -⟩ <;> rw [eq]
  rfl

theorem wakesKeep_foldl (l : List Nat) (s : State) : WakesKeep s (l.foldl State.enqueueWake s) where
  dom _ _ h0 := dom_foldl_enqueueWake l h0
  queue := wakeQ_isPrefix_foldl l s
  recent := by
    induction l generalizing s with
    | nil => rfl
    | cons e l ih => exact (ih _).trans (recent_enqueueWake s e)
  us := by
    induction l generalizing s with
    | nil => rfl
    | cons e l ih => exact (ih _).trans (congrArg HalfState.us (west_enqueueWake s e))

theorem wakesKeep_wake (s : State) (d : Nat) : WakesKeep s (s.wake d).1 := by
  cases hd : s.on (PWR_DOMAIN_CTRL d) PWR_DOMAIN_CTRL.DISABLE with
  | false => rw [State.wake_of_enabled hd]; exact wakesKeep_foldl _ s
  | true =>
    have hw : (s.wake d).1 = (s.wf PWR_EVENT PWR_EVENT.WAKE_REFUSED 1).log (domHalf d)
        { logPower with event := 7, subject := d, kind := 4 } := by simp [State.wake, hd]
    rw [hw]
    refine WakesKeep.of_onlyLogged (as := [PWR_EVENT]) (onlyLogged_trans
      (onlyLogged_of_onlyRegs (onlyRegs_wf (onlyRegs_refl _ s) _ _ _ (by simp)))
      (onlyLogged_mono (by simp) (log_onlyLogged _ _ _ (by simp [logPower])))) fun e he => ?_
    simp only [List.mem_singleton, PWR_DOMAIN_STATUS, PWR_EVENT]
    omega

/-- Keep-on conditions raise wake requests and nothing else (R385). -/
theorem wakesKeep_keepWakes (ds : List Nat) (s : State) : WakesKeep s (s.keepWakes ds) := by
  unfold State.keepWakes
  induction ds generalizing s with
  | nil => exact .refl s
  | cons e ds ih =>
    refine WakesKeep.trans ?_ (ih _)
    dsimp only
    split
    · exact wakesKeep_wake s e
    · exact .refl s

/-- Domains that are neither OFF nor SLEEPING need no request. -/
theorem keepWakes_of_awake (ds : List Nat) (h : ∀ e ∈ ds, s.dom e ≠ 0 ∧ s.dom e ≠ 4) : s.keepWakes ds = s := by
  unfold State.keepWakes
  induction ds with
  | nil => rfl
  | cons e ds ih =>
    obtain ⟨h0, h4⟩ := h e (by simp)
    rw [List.foldl_cons, if_neg (by simp [h0, h4])]
    exact ih fun x hx => h x (by simp [hx])

/-! ## The sequencer -/

/-- The state after the head of the queue is admitted, before the domains that serve it are looked at. -/
def State.admitted (s : State) (d : Nat) (q : List Nat) : State :=
  let s1 := (s.wf (PWR_DOMAIN_STATUS d) PWR_DOMAIN_STATUS.STATE 2).add (PWR_DOMAIN_STATUS d) PWR_DOMAIN_STATUS.WAKES 1
  let s2 := s1.add PWR_WAKE_STATUS PWR_WAKE_STATUS.WAKES 1
  let s3 := { s2 with power := { s2.power with wakeQ := q, recent := s.recentWakes ++ [s.west.us] } }
  if d = 132 then { s3 with power := { s3.power with wakeLink := s3.power.wakeLink ++ [{ wake := true, ack := false }] } }
  else if viaPassage d then s3.passControl .east (.power d true)
  else s3

theorem wakeAdmit_eq {q : List Nat} (hq : s.power.wakeQ = d :: q) (hr : s.power.restarting = false) (h8 : s.recentWakes.length < 8) :
    s.wakeAdmit = (s.admitted d q).keepWakes (servers d) := by
  unfold State.wakeAdmit
  rw [hq]
  dsimp only
  rw [if_neg (by simp [hr, h8])]
  rfl

/-- What an admission changes at once: the domain's state and the counts of wakes, the sequencer's own state, and the class to East. -/
theorem admitted_frame (s : State) (d : Nat) (q : List Nat) : onlyRegs [PWR_DOMAIN_STATUS d, PWR_WAKE_STATUS] s
    { s.admitted d q with power := s.power, east := { (s.admitted d q).east with control := s.east.control } } := by
  have h := onlyRegs_wf (onlyRegs_wf (onlyRegs_wf (onlyRegs_refl [PWR_DOMAIN_STATUS d, PWR_WAKE_STATUS] s) (PWR_DOMAIN_STATUS d)
    PWR_DOMAIN_STATUS.STATE 2 (by simp)) (PWR_DOMAIN_STATUS d) PWR_DOMAIN_STATUS.WAKES
    ((s.wf (PWR_DOMAIN_STATUS d) PWR_DOMAIN_STATUS.STATE 2).rf (PWR_DOMAIN_STATUS d) PWR_DOMAIN_STATUS.WAKES + 1) (by simp))
    PWR_WAKE_STATUS PWR_WAKE_STATUS.WAKES
    (((s.wf (PWR_DOMAIN_STATUS d) PWR_DOMAIN_STATUS.STATE 2).add (PWR_DOMAIN_STATUS d) PWR_DOMAIN_STATUS.WAKES 1).rf PWR_WAKE_STATUS
      PWR_WAKE_STATUS.WAKES + 1) (by simp)
  unfold State.admitted
  dsimp only
  split_ifs <;> exact h

theorem admitted_dom (s : State) (d : Nat) (q : List Nat) (he : e < 144) :
    (s.admitted d q).dom e = if e = d then 2 else s.dom e := by
  have hregs : (s.admitted d q).regs = (((s.wf (PWR_DOMAIN_STATUS d) PWR_DOMAIN_STATUS.STATE 2).add (PWR_DOMAIN_STATUS d)
      PWR_DOMAIN_STATUS.WAKES 1).add PWR_WAKE_STATUS PWR_WAKE_STATUS.WAKES 1).regs := by
    unfold State.admitted
    dsimp only
    split_ifs <;> rfl
  rw [State.dom_congr hregs, State.add, State.dom_wf_ne _ _ _ (by simp only [PWR_DOMAIN_STATUS, PWR_WAKE_STATUS]; omega), State.add,
    State.dom_wf_wakes, State.dom_wf_state _ _ _ _ (by decide)]

theorem admitted_queue (s : State) (d : Nat) (q : List Nat) : (s.admitted d q).power.wakeQ = q := by
  unfold State.admitted; dsimp only; split_ifs <;> rfl

/-- An admission counts among those of the last 10 µs. -/
theorem admitted_recentWakes (s : State) (d : Nat) (q : List Nat) : (s.admitted d q).recentWakes = s.recentWakes ++ [s.west.us] := by
  have hp : (s.admitted d q).power.recent = s.recentWakes ++ [s.west.us] := by
    unfold State.admitted; dsimp only; split_ifs <;> rfl
  have hus : (s.admitted d q).west.us = s.west.us := by
    unfold State.admitted; dsimp only; split_ifs <;> rfl
  rw [State.recentWakes, hp, hus, List.filter_append]
  congr 1
  · exact List.filter_eq_self.2 fun x hx => (List.mem_filter.1 hx).2
  · simp

theorem recentWakes_of_wakesKeep (k : WakesKeep s t) : t.recentWakes = s.recentWakes := by
  rw [State.recentWakes, k.recent, k.us]; rfl

/-! ## DOMAIN_ON -/

/-- No PLL has a bit past REF_OK. -/
theorem pllOf_lt {b : Nat} (h : pllOf d = some b) : b < 13 := by
  unfold pllOf at h
  split at h <;> simp only [Option.some.injEq, reduceCtorEq] at h <;> omega

theorem dom_foldl_seams (s : State) (l : List Nat) (h : Half) (g : Nat) (hd : d < 144) :
    (l.foldl (fun s i => (s.wf (SEAM_STATUS h (64 * g + i)) SEAM_STATUS.STATE 0).wf (SEAM_STATUS h (64 * g + i)) SEAM_STATUS.PLANE 0)
      s).dom d = s.dom d := by
  have hne : ∀ i, PWR_DOMAIN_STATUS d ≠ SEAM_STATUS h (64 * g + i) + 0 := fun i => by
    simp only [PWR_DOMAIN_STATUS, SEAM_STATUS]; omega
  induction l generalizing s with
  | nil => rfl
  | cons i l ih => rw [List.foldl_cons, ih, State.dom_wf_ne _ _ _ (hne i), State.dom_wf_ne _ _ _ (hne i)]

theorem dom_galleryOn (s : State) (h : Half) (g : Nat) (hd : d < 144) : (s.galleryOn h g).dom d = s.dom d :=
  dom_foldl_seams s _ h g hd

/-- Nodes that start change no register. -/
theorem startWoken_regs (s : State) : s.startWoken.regs = s.regs ∧ s.startWoken.power = s.power := by
  unfold State.startWoken
  generalize s.nodesWhere (fun _ n => n.phase == .waking) = l
  induction l generalizing s with
  | nil => exact ⟨rfl, rfl⟩
  | cons e l ih =>
    obtain ⟨hr, hp⟩ := ih (if (s.nodeDoms e.2).all s.domOn then s.modNode e.1 (fun n => { n with phase := .running }) else s)
    refine ⟨hr.trans ?_, hp.trans ?_⟩ <;> split <;> rfl

/-- The self-test of an SRAM bank that comes on, where it fails (R237). -/
def State.bankFails (s : State) (d : Nat) : State :=
  (s.wf (MEM_SELFTEST (domHalf d)) MEM_SELFTEST.BANK_FAIL
      (s.rf (MEM_SELFTEST (domHalf d)) MEM_SELFTEST.BANK_FAIL ||| 2 ^ ((d - 74) % 16))).log (domHalf d)
    { logBoot 0 with src := 3, subject := d, kind := 4 }

theorem bankFails_frame (s : State) (d : Nat) : onlyLogged [MEM_SELFTEST (domHalf d)] s (s.bankFails d) :=
  onlyLogged_trans (onlyLogged_of_onlyRegs (onlyRegs_wf (onlyRegs_refl _ s) _ _ _ (by simp)))
    (onlyLogged_mono (by simp) (log_onlyLogged _ _ _ (by simp [logBoot])))

/-- A domain's registers once it is ON, before what its class adds. -/
def State.shownOn (s : State) (d : Nat) : State :=
  (s.wf (PWR_DOMAIN_STATUS d) PWR_DOMAIN_STATUS.STATE 3).add (XING_STATUS d) XING_STATUS.RESYNCS 1

theorem shownOn_dom (s : State) (d : Nat) (he : e < 144) : (s.shownOn d).dom e = if e = d then 3 else s.dom e := by
  unfold State.shownOn State.add
  rw [State.dom_wf_ne _ _ _ (by simp only [PWR_DOMAIN_STATUS, XING_STATUS]; omega), State.dom_wf_state _ _ _ _ (by decide)]

/-- What a class adds as its domain comes on. -/
def State.classOn (s : State) (d : Nat) (bad : Bool) : State :=
  match domClass d with
  | 0 => (s.galleryOn (domHalf d) (d % 32)).keepWakes [sdsDom (domHalf d)]
  | 3 => if bad then s.bankFails d else s
  | 5 => s.keepWakes [110 + 4 * (domHalf d).num]
  | 10 => s.passageUp
  | _ => s

theorem domainOn_eq {bad : Bool} (h2 : s.dom d = 2) (hp : ∀ b < 13, pllOf d = some b → s.pllLocked (domHalf d) b = true)
    (hs : (servers d).all s.domOn = true) (hc : s.cmdTravels d = false) (hr : s.power.restarting = false) :
    s.domainOn d bad = ((s.shownOn d).classOn d bad).startWoken := by
  have hpll : (match pllOf d with | some b => s.pllLocked (domHalf d) b | none => true) = true := by
    split
    · next b hb => exact hp b (pllOf_lt hb) hb
    · rfl
  unfold State.domainOn
  exact if_pos ⟨h2, hpll, hs, hc, hr⟩

/-- What a class adds changes no domain but by a wake request. -/
theorem classOn_dom (s : State) (d : Nat) (bad : Bool) (he : e < 144) (h0 : s.dom e ≠ 0) : (s.classOn d bad).dom e = s.dom e := by
  unfold State.classOn
  split
  · exact ((wakesKeep_keepWakes _ _).dom e he (by rwa [dom_galleryOn _ _ _ he])).trans (dom_galleryOn _ _ _ he)
  · split
    · exact dom_of_onlyLogged (bankFails_frame s d) he (by
        simp only [List.mem_singleton, PWR_DOMAIN_STATUS, MEM_SELFTEST]; omega)
    · rfl
  · exact (wakesKeep_keepWakes _ _).dom e he h0
  · exact dom_passageUp _ _
  · rfl

/-- Of the classes other than a Gallery's and a port's, none raises a wake request. -/
theorem classOn_quiet (s : State) (d : Nat) (bad : Bool) (hc0 : domClass d ≠ 0) (hc5 : domClass d ≠ 5) (he : e < 144) :
    (s.classOn d bad).dom e = s.dom e ∧ (s.classOn d bad).power = s.power := by
  unfold State.classOn
  split
  · next h => exact absurd h hc0
  · split
    · exact ⟨dom_of_onlyLogged (bankFails_frame s d) he (by
        simp only [List.mem_singleton, PWR_DOMAIN_STATUS, MEM_SELFTEST]; omega), onlyLogged_power (bankFails_frame s d)⟩
    · exact ⟨rfl, rfl⟩
  · next h => exact absurd h hc5
  · exact ⟨dom_passageUp _ _, rfl⟩
  · exact ⟨rfl, rfl⟩

/-! ## PLLs and the operating point -/

theorem exec_pllLock {h : Half} {b : Nat} (hl : s.live = true) (hb : b < 13) : exec (.pllLock h b) s = .next (s.pllLock h b) :=
  (whenLive_of_live hl _).trans (by rw [if_pos hb])

/-- The state after a started PLL shows that it is locked, before an operating point that waits for it is looked at. -/
def State.pllShown (s : State) (h : Half) (b : Nat) : State :=
  { s.wf (CLK_PLL_STATUS h) { lo := b, len := 1 } 1 with
    power := { s.power with starting := s.power.starting.filter (· != (h, b)) } }

theorem pllLock_eq {h : Half} {b : Nat} (hs : s.power.starting.contains (h, b) = true) : s.pllLock h b = (s.pllShown h b).opLower h := by
  unfold State.pllLock
  exact if_pos hs

theorem pllShown_locked (s : State) (h : Half) {b : Nat} (hb : b < 13) (c : Nat) :
    (s.pllShown h b).pllLocked h c = if c = b then true else s.pllLocked h c := by
  have hrd : (s.pllShown h b).rd (CLK_PLL_STATUS h) = putF (s.rd (CLK_PLL_STATUS h)) { lo := b, len := 1 } 1 := State.rd_wr_same _ _ _
  unfold State.pllLocked
  rw [hrd, bit_putF_bit _ (by omega)]
  rfl

theorem onlyRegs_pllShown (s : State) (h : Half) (b : Nat) : onlyRegsPower [CLK_PLL_STATUS h] s (s.pllShown h b) :=
  onlyRegsPower_wf (onlyRegsPower_refl _ s) _ _ _ (by simp)

theorem change_pllShown (s : State) (h x : Half) (b : Nat) : (s.pllShown h b).power.change x = s.power.change x := by cases x <;> rfl

/-- The operating points stand in a register of their own. -/
theorem op_wf_pll (s : State) (h x : Half) {f : Fld} (hf : f.off = 0) (v : Nat) : (s.wf (CLK_PLL_STATUS h) f v).op x = s.op x := by
  have hne : ∀ g : Fld, g.off = 0 → PWR_OP_STATUS + g.off ≠ CLK_PLL_STATUS h + f.off := fun g hg => by
    rw [hg, hf]; cases h <;> decide
  unfold State.op
  cases x
  · exact State.rf_wf_ne s _ _ _ (hne _ rfl)
  · exact State.rf_wf_ne s _ _ _ (hne _ rfl)

theorem op_pllShown (s : State) (h x : Half) (b : Nat) : (s.pllShown h b).op x = s.op x := by
  refine Eq.trans ?_ (op_wf_pll s h x (f := { lo := b, len := 1 }) rfl 1)
  cases x <;> rfl

theorem voltEntry_congr (e : ∀ x, (t.half x).nv = (s.half x).nv) (x : Half) (k : Nat) : t.voltEntry x k = s.voltEntry x k := by
  unfold State.voltEntry State.otpWord
  rw [e]

theorem voltEntry_pllShown (s : State) (h x : Half) (b k : Nat) : (s.pllShown h b).voltEntry x k = s.voltEntry x k :=
  voltEntry_congr (fun x => by cases x <;> rfl) x k

/-- The selection of the MAIN PLL is none of the PLLs' own bits. -/
theorem idleMain_pllShown (s : State) (h : Half) {b : Nat} (hb : b < 2) : (s.pllShown h b).idleMain h = s.idleMain h := by
  have e : (s.pllShown h b).rf (CLK_PLL_STATUS h) CLK_PLL_STATUS.MAIN_SEL = s.rf (CLK_PLL_STATUS h) CLK_PLL_STATUS.MAIN_SEL :=
    State.rf_wf_field s (CLK_PLL_STATUS h) { lo := b, len := 1 } CLK_PLL_STATUS.MAIN_SEL 1 rfl (.inl hb)
  unfold State.idleMain
  rw [e]

theorem idleMain_lt (s : State) (h : Half) : s.idleMain h < 2 := by unfold State.idleMain; split <;> decide

theorem op_setOp (s : State) (h : Half) {k : Nat} (hk : k < 16) : (s.setOp h k).op h = k := by
  cases h <;> exact State.rf_wf_same _ _ _ (by decide) hk
@[simp] theorem setOp_half (s : State) (h x : Half) (k : Nat) : (s.setOp h k).half x = s.half x := by cases h <;> cases x <;> rfl
@[simp] theorem setOp_power (s : State) (h : Half) (k : Nat) : (s.setOp h k).power = s.power := by cases h <;> rfl
@[simp] theorem setOp_outbox (s : State) (h : Half) (k : Nat) : (s.setOp h k).outbox = s.outbox := by cases h <;> rfl

theorem change_setChange (p : PowerSt) (h : Half) (c : Option OpChange) (k : Option Nat) :
    ((p.setChange h c).setIdle h k).change h = c := by cases h <;> rfl

/-- The state in which a half's change goes on with the clock switched, before the point is shown. -/
def State.switching (s : State) (h : Half) (c : OpChange) : State :=
  { s with power := (s.power.setChange h (some { c with switched := true })).setIdle h (some (s.op h)) }

/-- The switch of a half's clock to a lower point commands the voltages after it (R391). -/
theorem opSwitch_eq {h : Half} {c : OpChange} (hlt : c.target < s.op h) : s.opSwitch h c =
    (((s.switching h c).setOp h c.target).wf (CLK_PLL_STATUS h) CLK_PLL_STATUS.MAIN_SEL (s.idleMain h)).regulate h c.target := by
  unfold State.opSwitch
  exact if_pos hlt

theorem opSwitch_lower {h : Half} {c : OpChange} (hlt : c.target < s.op h) (h16 : c.target < 16) :
    (s.opSwitch h c).op h = c.target ∧ (s.opSwitch h c).power.change h = some { c with switched := true } ∧
    (s.opSwitch h c).outbox =
      s.outbox ++ [.regulator h (bits (s.voltEntry h c.target) 12 10) (bits (s.voltEntry h c.target) 22 10)] := by
  rw [opSwitch_eq hlt]
  set u := ((s.switching h c).setOp h c.target).wf (CLK_PLL_STATUS h) CLK_PLL_STATUS.MAIN_SEL (s.idleMain h) with hu
  have hop : u.op h = c.target := by rw [hu, op_wf_pll _ _ _ rfl, op_setOp _ _ h16]
  have hnv : ∀ x, (u.half x).nv = (s.half x).nv := fun x => by
    rw [hu, State.wf_half, setOp_half]; cases x <;> rfl
  refine ⟨Eq.trans ?_ hop, ?_, ?_⟩
  · cases h <;> rfl
  · rw [State.regulate, State.send_power, hu, State.wf_power, setOp_power]
    exact change_setChange _ _ _ _
  · rw [State.regulate, voltEntry_congr hnv, State.send_outbox_append, hu, State.wf_outbox, setOp_outbox]
    rfl

/-- A lowering that waits for the idle PLL goes on with it. -/
theorem opLower_switches {h : Half} {c : OpChange} (hc : s.power.change h = some c) (hw : c.switched = false) (hlt : c.target < s.op h)
    (hl : s.pllLocked h (s.idleMain h) = true) (hr : s.power.restarting = false) : s.opLower h = s.opSwitch h c := by
  simp [State.opLower, hc, hw, hlt, hl, hr]

theorem opLower_of_not_waiting {h : Half}
    (hn : ∀ c, s.power.change h = some c → c.switched = true ∨ s.op h ≤ c.target ∨ s.power.restarting = true) : s.opLower h = s := by
  unfold State.opLower
  split
  · next c hc =>
    rw [if_neg]
    rcases hn c hc with hn | hn | hn <;> simp [hn]
  · rfl

/-- Settles O2: an admission and what it wakes, DOMAIN_ON class by class, the wake link's messages, and a PLL that locks. -/
theorem wakesAndPlls : Obligations.WakesAndPlls := by
  refine ⟨?admission, ?admissionServed, ?on, ?onQuiet, ?command, ?ack, ?lower, ?lock⟩
  case admission =>
    intro s d q hl hq hd hr h8
    refine ⟨_, whenLive_of_live hl _, ?_⟩
    rw [wakeAdmit_eq hq hr h8]
    have k := wakesKeep_keepWakes (servers d) (s.admitted d q)
    have h2 : (s.admitted d q).dom d = 2 := by rw [admitted_dom s d q hd, if_pos rfl]
    refine ⟨(k.dom d hd (by rw [h2]; decide)).trans h2, fun e he hne h0 => ?_, by simpa only [admitted_queue] using k.queue, ?_⟩
    · have h1 : (s.admitted d q).dom e = s.dom e := by rw [admitted_dom s d q he, if_neg hne]
      exact (k.dom e he (by rwa [h1])).trans h1
    · rw [recentWakes_of_wakesKeep k, admitted_recentWakes, List.length_append]
      rfl
  case admissionServed =>
    intro s d q hl hq hd hr h8 hs
    refine ⟨_, whenLive_of_live hl _, ?_⟩
    have hawake : ∀ e ∈ servers d, (s.admitted d q).dom e ≠ 0 ∧ (s.admitted d q).dom e ≠ 4 := fun e he => by
      rw [admitted_dom s d q (servers_lt d e he)]
      split
      · decide
      · exact hs e he
    rw [wakeAdmit_eq hq hr h8, keepWakes_of_awake _ hawake]
    refine ⟨by rw [admitted_dom s d q hd, if_pos rfl], admitted_queue s d q, ?_, admitted_frame s d q⟩
    rw [admitted_recentWakes, List.length_append]
    rfl
  case on =>
    intro s d bad hl hd h2 hp hs hc hr
    refine ⟨_, (whenLive_of_live hl _).trans (by rw [if_pos hd]), ?_⟩
    rw [domainOn_eq h2 hp hs hc hr]
    have hon : ∀ e < 144, (s.shownOn d).dom e ≠ 0 → ((s.shownOn d).classOn d bad).startWoken.dom e = (s.shownOn d).dom e :=
      fun e he h0 => (State.dom_congr (startWoken_regs _).1 e).trans (classOn_dom _ d bad he h0)
    have h3 : (s.shownOn d).dom d = 3 := by rw [shownOn_dom s d hd, if_pos rfl]
    refine ⟨(hon d hd (by rw [h3]; decide)).trans h3, fun e he hne h0 => ?_⟩
    have h1 : (s.shownOn d).dom e = s.dom e := by rw [shownOn_dom s d he, if_neg hne]
    exact (hon e he (by rwa [h1])).trans h1
  case onQuiet =>
    intro s d bad hl hd hc0 hc5 h2 hp hs hc hr
    refine ⟨_, (whenLive_of_live hl _).trans (by rw [if_pos hd]), ?_⟩
    rw [domainOn_eq h2 hp hs hc hr]
    refine ⟨fun e he => ?_, (startWoken_regs _).2.trans (classOn_quiet _ d bad hc0 hc5 hd).2⟩
    rw [State.dom_congr (startWoken_regs _).1, (classOn_quiet _ d bad hc0 hc5 he).1, shownOn_dom s d he]
  case command =>
    intro s q hl hq
    refine ⟨_, whenLive_of_live hl _, ?_⟩
    have e : s.wakeLinkCmd = { s with power := { s.power with wakeLink := q ++ [{ wake := true, ack := true }] } } := by
      simp [State.wakeLinkCmd, hq]
    rw [e]
    exact ⟨rfl, rfl⟩
  case ack =>
    intro s q w hl hq
    refine ⟨_, whenLive_of_live hl _, ?_⟩
    have e : s.wakeLinkCmd = { s with power := { s.power with wakeLink := q } } := by simp [State.wakeLinkCmd, hq]
    rw [e]
    exact ⟨rfl, rfl⟩
  case lower =>
    rintro s h b c hl rfl hs hc hw hlt h16 hr
    have hb := idleMain_lt s h
    refine ⟨_, exec_pllLock hl (by omega), ?_⟩
    rw [pllLock_eq hs, opLower_switches (c := c) ((change_pllShown ..).trans hc) hw (by rwa [op_pllShown])
      (by rw [idleMain_pllShown s h hb, pllShown_locked s h (by omega), if_pos rfl]) hr]
    have hsw := opSwitch_lower (s := s.pllShown h (s.idleMain h)) (c := c) (by rwa [op_pllShown]) h16
    rwa [voltEntry_pllShown] at hsw
  case lock =>
    intro s h b hl hb hs hn
    refine ⟨_, exec_pllLock hl hb, ?_⟩
    have hnot : (s.pllShown h b).opLower h = s.pllShown h b :=
      opLower_of_not_waiting fun c hc => by rw [op_pllShown]; exact hn c ((change_pllShown ..).symm.trans hc)
    rw [pllLock_eq hs, hnot]
    refine ⟨by rw [pllShown_locked s h hb, if_pos rfl], ?_, fun c hc => by rw [pllShown_locked s h hb, if_neg hc],
      onlyRegs_pllShown s h b⟩
    simp [State.pllShown]

end Sys2Proof.Machine
end

section
/-! PROOF. The device watchdog stops both NV controllers (R150, R152): pulses run on, and every other step is abandoned. -/

namespace Sys2Proof.Machine

variable {s : State} {x : Half}

/-- Operations that each leave a half as it was leave it so in a row. -/
theorem half_foldl {β : Type} {f : State → β → State} (hf : ∀ t b, (f t b).half x = t.half x) (l : List β) (s : State) :
    (l.foldl f s).half x = s.half x := by
  induction l generalizing s with
  | nil => rfl
  | cons b l ih => exact (ih (f s b)).trans (hf s b)

/-- An NV controller without the steps that a test meets: a running pulse runs on. -/
def NvHalf.dropped (n : NvHalf) (p : NvStep → Bool) : NvHalf := { n with
  pending := (n.pending.map (fun e => (e.1, e.2.filter (fun x => !p x)))).filter (fun e => !e.2.isEmpty)
  pulseQ := n.pulseQ.filter (fun x => !p x)
  pulsing := n.pulsing.filter (fun x => !p x)
  running := n.running.filter (fun e => !(p e.2 && !e.2.kind.isPulse)) }

/-- Beside the registers of Seams, dropping steps changes the NV controller's steps alone. -/
theorem dropSteps_half (s : State) (h : Half) (p : NvStep → Bool) :
    (s.dropSteps h p).half x = (s.modNv h (fun n => n.dropped p)).half x :=
  (half_foldl (fun _ _ => State.wf_half ..) _ _).trans (half_foldl (fun _ _ => (State.wf_half ..).trans (State.wf_half ..)) _ _)

/-- A controller that stops has its running pulses left, and no other running step (R150). -/
theorem nvStop_running (s : State) (h : Half) :
    ((s.nvStop h).half h).nv.running = (s.half h).nv.running.filter (fun e => e.2.kind.isPulse) := by
  simp [State.nvStop, State.modPort, State.modNv, NvHalf.setPort, dropSteps_half, NvHalf.dropped]

theorem nvStop_other (s : State) (h : Half) : (s.nvStop h).half h.other = s.half h.other := by
  simp [State.nvStop, State.modPort, State.modNv, dropSteps_half]

theorem exec_deviceWatchdogExpire (hl : s.live = true) :
    exec .deviceWatchdogExpire s = .next ((s.nvStop .west).nvStop .east) :=
  whenLive_of_live hl (fun s => (s.nvStop .west).nvStop .east)

/-- With both controllers stopped, West has its running pulses left. -/
theorem nvStop_both_running_west (s : State) :
    (((s.nvStop .west).nvStop .east).half .west).nv.running = (s.half .west).nv.running.filter (fun e => e.2.kind.isPulse) := by
  have heast : ((s.nvStop .west).nvStop .east).half .west = (s.nvStop .west).half .west := nvStop_other _ .east
  rw [heast, nvStop_running]

/-- Refutes O46: its clause on DEVICE_WATCHDOG_EXPIRE lets every running step but a margin read run on. The verify that follows an erase pulse
is no pulse either, and R150 and R152 abandon it. With one that runs on Seam 0 of West, the model is left with no running step where the
clause has that verify. -/
theorem not_bootAndRestarts : ¬ Obligations.BootAndRestarts := by
  rintro ⟨-, -, -, -, -, -, -, -, -, -, -, -, -, hwatchdog, -, -⟩
  obtain ⟨t, hexec, hhalf, -⟩ := hwatchdog
    { stage := .running, west := { nv := { running := [(0, { own := .cmd .host, kind := .verify, plane := 0 })] } } } rfl
  obtain ⟨-, -, -, hrunning⟩ := hhalf .west
  rw [exec_deviceWatchdogExpire rfl] at hexec
  cases hexec
  rw [nvStop_both_running_west] at hrunning
  exact absurd hrunning (by decide)

end Sys2Proof.Machine
end

section
/-! PROOF. What a record in the error log and a wake request (R385) leave of the arrays: a half's NV controller, Galleries and memory, and the
registers of Galleries, Seams and planes. -/

namespace Sys2Proof.Machine

variable {s t u : State} {h x : Half} {a d : Nat} {f : Fld}

/-! ## The halves -/

/-- Of each half, only the sequence number of the log may differ. -/
def sameHalves (s t : State) : Prop := ∀ x, { t.half x with logSeq := (s.half x).logSeq } = s.half x

theorem sameHalves_of_eq (e : ∀ x, t.half x = s.half x) : sameHalves s t := fun x => by rw [e x]

theorem sameHalves_trans (k : sameHalves s t) (l : sameHalves t u) : sameHalves s u := fun x => by
  rw [← k x, ← l x]

theorem sameHalves_nv (k : sameHalves s t) (x : Half) : (t.half x).nv = (s.half x).nv := (congrArg HalfState.nv (k x) :)
theorem sameHalves_mem (k : sameHalves s t) (x : Half) : (t.half x).mem = (s.half x).mem := (congrArg HalfState.mem (k x) :)
theorem sameHalves_gals (k : sameHalves s t) (x : Half) : (t.half x).gals = (s.half x).gals := (congrArg HalfState.gals (k x) :)

theorem sameHalves_log (s : State) (h : Half) (r : LogReq) (hc : r.cls < 64) : sameHalves s (s.log h r) :=
  onlyLogged_half (log_onlyLogged s h r hc)

theorem half_enqueueWake (s : State) (d : Nat) (x : Half) : (s.enqueueWake d).half x = s.half x := by
  rcases s.enqueueWake_cases d with ⟨-, l, e⟩ | ⟨-, l, e, -⟩ <;> rw [e] <;> cases x <;> rfl

/-- A refused wake request is a record with its event bit; a taken one goes to the sequencer. -/
theorem wake_cases (s : State) (d : Nat) :
    (s.wake d).1 = (s.wf PWR_EVENT PWR_EVENT.WAKE_REFUSED 1).log (domHalf d) { logPower with event := 7, subject := d, kind := 4 } ∨
    (s.wake d).1 = (s.wakeOrder d).foldl State.enqueueWake s := by
  unfold State.wake
  split
  · exact .inl rfl
  · exact .inr rfl

theorem sameHalves_wake (s : State) (d : Nat) : sameHalves s (s.wake d).1 := by
  rcases wake_cases s d with e | e <;> rw [e]
  · exact sameHalves_trans (sameHalves_of_eq fun _ => State.wf_half ..) (sameHalves_log _ _ _ (by simp [logPower]))
  · exact sameHalves_of_eq fun x => half_foldl (fun t d => half_enqueueWake t d x) _ s

theorem sameHalves_need (s : State) (d : Nat) : sameHalves s (s.need d) := by
  unfold State.need
  split
  · exact sameHalves_of_eq fun _ => rfl
  · exact sameHalves_wake s d

theorem sameHalves_keepWakes (ds : List Nat) (s : State) : sameHalves s (s.keepWakes ds) := by
  unfold State.keepWakes
  induction ds generalizing s with
  | nil => exact sameHalves_of_eq fun _ => rfl
  | cons d ds ih =>
    refine sameHalves_trans ?_ (ih _)
    dsimp only
    split
    · exact sameHalves_wake s d
    · exact sameHalves_of_eq fun _ => rfl

@[simp] theorem nv_need (s : State) (d : Nat) (x : Half) : ((s.need d).half x).nv = (s.half x).nv := sameHalves_nv (sameHalves_need s d) x
@[simp] theorem mem_need (s : State) (d : Nat) (x : Half) : ((s.need d).half x).mem = (s.half x).mem := sameHalves_mem (sameHalves_need s d) x
@[simp] theorem nv_interimWake (s : State) (h x : Half) : ((s.interimWake h).half x).nv = (s.half x).nv :=
  sameHalves_nv (sameHalves_keepWakes _ s) x

/-! ## The registers of the arrays -/

/-- Addresses of a half from the Galleries' registers on to the log: those of Galleries, Chambers, Seams, and the NV controller. -/
def arrayReg (a : Nat) : Prop := 0xA00000 ≤ a % 0x02000000 ∧ a % 0x02000000 < 0xF80000

theorem arrayReg_iff (h : Half) (n : Nat) (hn : n < 0x02000000) : arrayReg (h.base + n) ↔ 0xA00000 ≤ n ∧ n < 0xF80000 := by
  cases h <;> simp only [arrayReg, Half.base] <;> omega

theorem rd_log (s : State) (h : Half) (r : LogReq) (hc : r.cls < 64) (ha : arrayReg a) : (s.log h r).rd a = s.rd a :=
  rd_of_onlyLogged (log_onlyLogged s h r hc) (by simp) ha.2

theorem rd_wake (s : State) (hd : d < 144) (ha : arrayReg a) : (s.wake d).1.rd a = s.rd a := by
  obtain ⟨h1, h2⟩ := ha
  rcases wake_cases s d with e | e <;> rw [e]
  · rw [rd_log _ _ _ (by simp [logPower]) ⟨h1, h2⟩, State.rd_wf_ne]
    simp only [PWR_EVENT]; omega
  · refine (onlyRegsPower_foldl _ (wakeOrder_lt s hd)).2 a ?_
    simp only [domRegs, List.mem_map, List.mem_range, PWR_DOMAIN_STATUS, not_exists, not_and]
    intros; omega

theorem rd_need (s : State) (hd : d < 144) (ha : arrayReg a) : (s.need d).rd a = s.rd a := by
  unfold State.need
  split
  · rfl
  · exact rd_wake s hd ha

theorem rf_need (s : State) (hd : d < 144) (ha : arrayReg (a + f.off)) : (s.need d).rf a f = s.rf a f := by
  unfold State.rf; rw [rd_need s hd ha]

theorem galDom_lt (h : Half) {g : Nat} (hg : g < 32) : galDom h g < 144 := by
  cases h <;> simp only [galDom, Half.num] <;> omega

theorem arrayReg_seamStatus (h : Half) {n : Nat} (hn : n < 2048) : arrayReg (SEAM_STATUS h n) := by
  simp only [SEAM_STATUS, Nat.add_assoc]; rw [arrayReg_iff] <;> omega

end Sys2Proof.Machine
end

section
/-! PROOF. Rules of the NV controller's operations (R58, R118, R125, R128): what each changes of a half's controller and of its registers. -/

namespace Sys2Proof.Machine

variable {s t u : State} {h x : Half} {p q : NvPort} {a d : Nat} {f : Fld}

/-! ## The controller beside its registers -/

@[simp] theorem State.modNv_nv (s : State) (h : Half) (g : NvHalf → NvHalf) : ((s.modNv h g).half h).nv = g (s.half h).nv := by
  simp [State.modNv]
@[simp] theorem State.modNv_mem (s : State) (h x : Half) (g : NvHalf → NvHalf) : ((s.modNv h g).half x).mem = (s.half x).mem := by
  cases h <;> cases x <;> rfl
@[simp] theorem State.modNv_us (s : State) (h x : Half) (g : NvHalf → NvHalf) : (s.modNv h g).us x = s.us x := by
  cases h <;> cases x <;> rfl
@[simp] theorem State.modNv_rd (s : State) (h : Half) (g : NvHalf → NvHalf) (a : Nat) : (s.modNv h g).rd a = s.rd a := State.modHalf_rd ..
@[simp] theorem State.modNv_rf (s : State) (h : Half) (g : NvHalf → NvHalf) (a : Nat) (f : Fld) : (s.modNv h g).rf a f = s.rf a f :=
  State.modHalf_rf ..
@[simp] theorem State.modPlane_rf (s : State) (h : Half) (q : Nat) (g : PlaneRec → PlaneRec) (a : Nat) (f : Fld) :
    (s.modPlane h q g).rf a f = s.rf a f := State.modNv_rf ..

/-- The record of a plane with a function applied, and the records of the others. -/
theorem State.planeRec_modPlane (s : State) (h : Half) (q r : Nat) (g : PlaneRec → PlaneRec) :
    (s.modPlane h q g).planeRec h r = if r = q then g (s.planeRec h q) else s.planeRec h r := by
  unfold State.planeRec State.modPlane
  rw [State.modNv_nv]
  exact mapGet_mapSet _ _ _ _ _

theorem State.planeRec_congr (e : (t.half h).nv.planes = (s.half h).nv.planes) (q : Nat) : t.planeRec h q = s.planeRec h q := by
  unfold State.planeRec; rw [e]

/-! ## A half put back -/

@[simp] theorem State.setHalf_self (s : State) (h : Half) : s.setHalf h (s.half h) = s := by cases h <;> rfl
@[simp] theorem State.wf_setHalf (s : State) (a : Nat) (f : Fld) (v : Nat) (h : Half) (y : HalfState) :
    (s.wf a f v).setHalf h y = (s.setHalf h y).wf a f v := by cases h <;> rfl
@[simp] theorem State.modHalf_setHalf (s : State) (h : Half) (g : HalfState → HalfState) (y : HalfState) :
    (s.modHalf h g).setHalf h y = s.setHalf h y := by cases h <;> rfl
@[simp] theorem State.modNv_setHalf (s : State) (h : Half) (g : NvHalf → NvHalf) (y : HalfState) :
    (s.modNv h g).setHalf h y = s.setHalf h y := State.modHalf_setHalf ..

theorem onlyRegs_mono {as bs : List Nat} (hs : ∀ a ∈ as, a ∈ bs) (k : onlyRegs as s t) : onlyRegs bs s t :=
  ⟨k.1, fun a ha => k.2 a (fun e => ha (hs a e))⟩

/-! ## Ports -/

@[simp] theorem NvHalf.port_setPort (n : NvHalf) (p : NvPort) (y : NvPortSt) : (n.setPort p y).port p = y := by cases p <;> rfl
theorem NvHalf.port_setPort_ne (n : NvHalf) (y : NvPortSt) (hq : q ≠ p) : (n.setPort p y).port q = n.port q := by
  cases p <;> cases q
  case host.host | loader.loader => exact absurd rfl hq
  all_goals rfl

section
variable (n : NvHalf) (p : NvPort) (y : NvPortSt)
@[simp] theorem NvHalf.setPort_rows : (n.setPort p y).rows = n.rows := by cases p <;> rfl
@[simp] theorem NvHalf.setPort_ledgerQ : (n.setPort p y).ledgerQ = n.ledgerQ := by cases p <;> rfl
@[simp] theorem NvHalf.setPort_pending : (n.setPort p y).pending = n.pending := by cases p <;> rfl
@[simp] theorem NvHalf.setPort_running : (n.setPort p y).running = n.running := by cases p <;> rfl
@[simp] theorem NvHalf.setPort_planes : (n.setPort p y).planes = n.planes := by cases p <;> rfl
@[simp] theorem NvHalf.setPort_hashes : (n.setPort p y).hashes = n.hashes := by cases p <;> rfl
@[simp] theorem NvHalf.setPort_unlockFails : (n.setPort p y).unlockFails = n.unlockFails := by cases p <;> rfl
@[simp] theorem NvHalf.setPort_refreshes : (n.setPort p y).refreshes = n.refreshes := by cases p <;> rfl
end

@[simp] theorem State.modPort_nv (s : State) (h : Half) (p : NvPort) (g : NvPortSt → NvPortSt) :
    ((s.modPort h p g).half h).nv = (s.half h).nv.setPort p (g ((s.half h).nv.port p)) := by simp [State.modPort]

/-- Changing a port writes its status register and no other. -/
theorem State.rd_modPort (s : State) (h : Half) (p : NvPort) (g : NvPortSt → NvPortSt) (ha : a ≠ nvStatusAddr h p) :
    (s.modPort h p g).rd a = s.rd a := by
  unfold State.modPort
  dsimp only
  rw [State.rd_wf_ne _ _ _ (by simpa using ha), State.modNv_rd]

theorem State.rf_modPort (s : State) (h : Half) (p : NvPort) (g : NvPortSt → NvPortSt) (ha : a + f.off ≠ nvStatusAddr h p) :
    (s.modPort h p g).rf a f = s.rf a f := by
  unfold State.rf; rw [State.rd_modPort s h p g ha]

theorem State.rf_modCmd (s : State) (h : Half) (p : NvPort) (g : NvCmd → NvCmd) (ha : a + f.off ≠ nvStatusAddr h p) :
    (s.modCmd h p g).rf a f = s.rf a f := State.rf_modPort s h p _ ha

theorem State.nvCmd_congr (e : (t.half h).nv.port p = (s.half h).nv.port p) : t.nvCmd h p = s.nvCmd h p := by
  unfold State.nvCmd; rw [e]

@[simp] theorem State.modCmd_nv (s : State) (h : Half) (p : NvPort) (g : NvCmd → NvCmd) :
    ((s.modCmd h p g).half h).nv =
      (s.half h).nv.setPort p { (s.half h).nv.port p with cmd := ((s.half h).nv.port p).cmd.map g } := by simp [State.modCmd]

@[simp] theorem State.nvCmd_modCmd (s : State) (h : Half) (p : NvPort) (g : NvCmd → NvCmd) :
    (s.modCmd h p g).nvCmd h p = (s.nvCmd h p).map g := by
  unfold State.nvCmd; simp

/-! ## Steps -/

@[simp] theorem pendingOf_setPending (n : NvHalf) (seam : Nat) (l : List NvStep) : pendingOf (setPending n seam l) seam = l :=
  mapGet_mapSet_same ..

@[simp] theorem State.showPending_half (s : State) (h : Half) (seam : Nat) (x : Half) : (s.showPending h seam).half x = s.half x :=
  State.wf_half ..

/-- Two fields that share no bit of a word: of the same register or of others, one keeps its value while the other is written. -/
theorem State.rf_wf_disjoint (s : State) (a b : Nat) (f g : Fld) (v : Nat) (hoff : g.off = f.off)
    (hd : f.lo + f.len ≤ g.lo ∨ g.lo + g.len ≤ f.lo) : (s.wf a f v).rf b g = s.rf b g := by
  by_cases e : b = a
  · subst e; exact State.rf_wf_field _ _ _ _ _ hoff hd
  · exact State.rf_wf_ne _ _ _ _ (by omega)

/-- Every other field of a Seam's status stays as it was. -/
theorem State.rf_showPending (s : State) (h : Half) (seam a : Nat) (hf : f.off = 0 ∧ (9 ≤ f.lo ∨ f.lo + f.len ≤ 8)) :
    (s.showPending h seam).rf a f = s.rf a f :=
  State.rf_wf_disjoint _ _ _ _ _ _ hf.1 hf.2

theorem State.rf_showPending_same (s : State) (h : Half) (seam : Nat) :
    (s.showPending h seam).rf (SEAM_STATUS h (seam % 2048)) SEAM_STATUS.NV_PENDING = b2n (!(pendingOf (s.half h).nv seam).isEmpty) :=
  State.rf_wf_same _ _ _ (by decide) (by unfold b2n; split <;> decide)

/-- A step asked for stands last among its Seam's pending steps. -/
@[simp] theorem State.askStep_nv (s : State) (h : Half) (x : NvStep) : ((s.askStep h x).half h).nv =
    setPending (s.half h).nv (x.plane / 16 % 2048) (pendingOf (s.half h).nv (x.plane / 16 % 2048) ++ [{ x with us := s.us h }]) := by
  simp [State.askStep]

@[simp] theorem State.askStep_mem (s : State) (h x : Half) (y : NvStep) : ((s.askStep h y).half x).mem = (s.half x).mem := by
  simp [State.askStep]

theorem seamGal_lt (n : Nat) : n % 2048 / 64 < 32 := by omega

/-- The Seam shows the step. -/
theorem State.rf_askStep_pending (s : State) (h : Half) (x : NvStep) :
    (s.askStep h x).rf (SEAM_STATUS h (x.plane / 16 % 2048)) SEAM_STATUS.NV_PENDING = 1 := by
  unfold State.askStep
  dsimp only
  rw [rf_need _ (galDom_lt h (seamGal_lt _)) (arrayReg_seamStatus h (Nat.mod_lt _ (by decide)))]
  have e := State.rf_showPending_same (s.modNv h fun n => setPending n (x.plane / 16 % 2048) (pendingOf n (x.plane / 16 % 2048) ++
    [{ x with us := s.us h }])) h (x.plane / 16 % 2048)
  rw [Nat.mod_mod] at e
  rw [e]
  simp [b2n]

@[simp] theorem State.askPulse_nv (s : State) (h : Half) (x : NvStep) :
    ((s.askPulse h x).half h).nv = { (s.half h).nv with pulseQ := (s.half h).nv.pulseQ ++ [x] } := by
  simp [State.askPulse]

@[simp] theorem State.askLedger_nv (s : State) (h : Half) (ty sub v : Nat) (w : LedgerFor) :
    ((s.askLedger h ty sub v w).half h).nv =
      { (s.half h).nv with ledgerQ := (s.half h).nv.ledgerQ ++ [({ type := ty, subject := sub, seq := 0, value := v }, w)] } := by
  simp [State.askLedger]

/-- Operations that each leave a register as it was leave it so in a row. -/
theorem rd_foldl_mem {β : Type} {g : State → β → State} {l : List β} (hg : ∀ b ∈ l, ∀ t, (g t b).rd a = t.rd a) (s : State) :
    (l.foldl g s).rd a = s.rd a := by
  induction l generalizing s with
  | nil => rfl
  | cons b l ih =>
    exact (ih (fun c hc => hg c (List.mem_cons_of_mem _ hc)) _).trans (hg b List.mem_cons_self s)

theorem rd_foldl {β : Type} {g : State → β → State} (hg : ∀ t b, (g t b).rd a = t.rd a) (l : List β) (s : State) :
    (l.foldl g s).rd a = s.rd a := rd_foldl_mem (fun b _ t => hg t b) s

/-- Dropped steps show in the status registers of Seams alone. -/
theorem rd_dropSteps (s : State) (h : Half) (P : NvStep → Bool) (ha : ∀ n < 2048, a ≠ SEAM_STATUS h n) :
    (s.dropSteps h P).rd a = s.rd a := by
  have hne : ∀ n, a ≠ SEAM_STATUS h (n % 2048) + 0 := fun n => ha _ (Nat.mod_lt _ (by decide))
  refine (rd_foldl (fun t n => State.rd_wf_ne _ _ _ (hne n)) _ _).trans
    ((rd_foldl (fun t n => ?_) _ _).trans (State.modNv_rd ..))
  rw [State.rd_wf_ne _ _ _ (hne n), State.rd_wf_ne _ _ _ (hne n)]

theorem rf_foldl {β : Type} {g : State → β → State} (hg : ∀ t b, (g t b).rf a f = t.rf a f) (l : List β) (s : State) :
    (l.foldl g s).rf a f = s.rf a f := by
  induction l generalizing s with
  | nil => rfl
  | cons b l ih => exact (ih (g s b)).trans (hg s b)

/-- Dropped steps leave the fields of a Seam's status from CFG_PENDING on. -/
theorem rf_dropSteps (s : State) (h : Half) (P : NvStep → Bool) (hf : f.off = 0 ∧ 9 ≤ f.lo) : (s.dropSteps h P).rf a f = s.rf a f := by
  refine (rf_foldl (fun t n => State.rf_showPending t h n a ⟨hf.1, .inl hf.2⟩) _ _).trans
    ((rf_foldl (fun t n => ?_) _ _).trans (State.modNv_rf ..))
  rw [State.rf_wf_disjoint _ _ _ _ _ _ hf.1 (.inl (by simp only; omega)),
    State.rf_wf_disjoint _ _ _ _ _ _ hf.1 (.inl (by simp only; omega))]

/-! ## Stored rows -/

@[simp] theorem State.writeRow_rf (s : State) (h : Half) (q row : Nat) (v : List (Nat × Nat)) (want : List Int) (a : Nat) (f : Fld) :
    (s.writeRow h q row v want).rf a f = s.rf a f := (State.modNv_rf ..).trans (State.modNv_rf ..)
@[simp] theorem State.writeRow_running (s : State) (h : Half) (q row : Nat) (v : List (Nat × Nat)) (want : List Int) :
    ((s.writeRow h q row v want).half h).nv.running = (s.half h).nv.running := by
  rw [State.writeRow, State.modNv_nv, State.setPairs, State.modNv_nv]
@[simp] theorem State.writeRow_setHalf (s : State) (h : Half) (q row : Nat) (v : List (Nat × Nat)) (want : List Int) (y : HalfState) :
    (s.writeRow h q row v want).setHalf h y = s.setHalf h y := (State.modNv_setHalf ..).trans (State.modNv_setHalf ..)

/-- The pairs of a row just written, and of the others. -/
theorem State.pairs_writeRow (s : State) (h : Half) (q row : Nat) (v : List (Nat × Nat)) (want : List Int) (r k : Nat) :
    (s.writeRow h q row v want).pairs h r k = if 1024 * r + k = 1024 * q + row then v else s.pairs h r k := by
  unfold State.pairs State.writeRow State.setPairs
  rw [State.modNv_nv, State.modNv_nv]
  exact mapGet_mapSet _ _ _ _ _

theorem State.pairs_congr (e : (t.half h).nv.rows = (s.half h).nv.rows) (q row : Nat) : t.pairs h q row = s.pairs h q row := by
  unfold State.pairs; rw [e]

theorem State.pairs_modCmd (s : State) (h : Half) (p : NvPort) (g : NvCmd → NvCmd) (q row : Nat) :
    (s.modCmd h p g).pairs h q row = s.pairs h q row :=
  State.pairs_congr (by rw [State.modCmd_nv, NvHalf.setPort_rows]) q row

end Sys2Proof.Machine
end

section
/-! PROOF. Steps of the NV controller start and end (R58, R59, R125), and what keeps the commands of its ports as they are. -/

namespace Sys2Proof.Machine

variable {s t u : State} {h : Half} {p q : NvPort} {x : NvStep} {c : NvCmd} {seam : Nat}

/-! ## PULSE_START (R125) -/

theorem exec_pulseStart (hl : s.live = true) : exec (.pulseStart h) s = .next (s.pulseStart h) :=
  whenLive_of_live hl (fun s => s.pulseStart h)

/-- The first waiting pulse leaves the queue, counts in the budget, and becomes its Seam's step. -/
theorem State.pulseStart_eq {i : Nat} (hs : (s.half h).nv.stopping = false) (hi : (s.half h).nv.firstPulse = some i)
    (hx : (s.half h).nv.pulseQ[i]? = some x) (hp : s.domOn (pumpDom h) = true)
    (hb : s.inPulse h + (s.half h).nv.booked + pulseWeight x ≤ 512) :
    s.pulseStart h =
      (s.modNv h (fun n => { n with pulseQ := n.pulseQ.eraseIdx i, pulsing := n.pulsing ++ [x] })).askStep h x := by
  have hb' : ¬s.inPulse h + (s.half h).nv.booked + pulseWeight x > 512 := by omega
  simp only [State.pulseStart, hi, hx, hs, hp, hb', Bool.not_true, Bool.or_false, decide_false, Bool.false_eq_true, if_false]

/-! ## NV_STEP_START (R58, R59) -/

theorem exec_nvStepStart (hl : s.live = true) (hseam : seam < 2048) : exec (.nvStepStart h seam) s = .next (s.stepStart h seam) :=
  (whenLive_of_live hl _).trans (by rw [if_pos hseam])

/-- A step that starts leaves its Seam's pending steps and the pulses that wait for a Seam, and runs as `y`. -/
def NvHalf.began (n : NvHalf) (seam : Nat) (x y : NvStep) : NvHalf :=
  { setPending n seam ((pendingOf n seam).erase x) with
    running := n.running ++ [(seam, y)]
    pulsing := n.pulsing.filter (fun z => !(z.own == x.own && z.kind == x.kind && z.plane == x.plane && z.row == x.row)) }

/-- The Seam of a step that starts shows NV_STEP, no plane, and the steps still pending. -/
def State.showStep (s : State) (h : Half) (seam : Nat) : State :=
  ((s.wf (SEAM_STATUS h seam) SEAM_STATUS.STATE 4).wf (SEAM_STATUS h seam) SEAM_STATUS.PLANE 0).showPending h seam

@[simp] theorem showStep_half (s : State) (h : Half) (seam : Nat) (x : Half) : (s.showStep h seam).half x = s.half x := by
  simp [State.showStep]

theorem showStep_state (s : State) (h : Half) (seam : Nat) : (s.showStep h seam).rf (SEAM_STATUS h seam) SEAM_STATUS.STATE = 4 := by
  unfold State.showStep
  rw [State.rf_showPending, State.rf_wf_field _ _ SEAM_STATUS.PLANE SEAM_STATUS.STATE _ rfl (.inr (by decide))]
  · exact State.rf_wf_same _ _ _ (by decide) (by decide)
  · decide

theorem onlyRegs_showStep (s : State) (h : Half) (g : NvHalf → NvHalf) (hseam : seam < 2048) :
    onlyRegs [SEAM_STATUS h seam] s (((s.modNv h g).showStep h seam).setHalf h (s.half h)) := by
  have hm : seam % 2048 = seam := Nat.mod_eq_of_lt hseam
  simp only [State.showStep, State.showPending, State.wf_setHalf, State.modNv_setHalf, State.setHalf_self]
  exact onlyRegs_wf (onlyRegs_wf (onlyRegs_wf (onlyRegs_refl _ s) _ _ _ (by simp)) _ _ _ (by simp)) _ _ _ (by simp [hm])

/-- The command whose row's first pulse begins has its rows changed, and nothing else of the controller does. -/
theorem rowStarts_nv (s : State) (h : Half) (x : NvStep) :
    ∃ p y, ((s.rowStarts h x).half h).nv = (s.half h).nv ∨ ((s.rowStarts h x).half h).nv = (s.half h).nv.setPort p y := by
  unfold State.rowStarts
  split
  · exact ⟨_, _, .inr (State.modCmd_nv ..)⟩
  · exact ⟨.host, {}, .inl rfl⟩

theorem begunStep_half (s : State) (h : Half) (x : NvStep) (y : Half) : (s.begunStep h x).2.half y = s.half y := by
  unfold State.begunStep
  split
  · exact State.fresh_half ..
  · exact State.fresh_half ..
  · rfl

/-- A program or re-pulse step has a pulse of 1 to 20 µs (R124). -/
theorem begunStep_len (s : State) (h : Half) (hk : x.kind = .program ∨ x.kind = .repulse) :
    1 ≤ (s.begunStep h x).1.len ∧ (s.begunStep h x).1.len ≤ 20 := by
  have hmod := Nat.mod_lt s.fresh.1 (show 0 < 20 by decide)
  rcases hk with hk | hk <;> simp only [State.begunStep, hk] <;> omega

/-- Any other step starts as it stands. -/
theorem begunStep_of_other (s : State) (h : Half) (hk : x.kind = .erase ∨ x.kind = .verify ∨ x.kind = .margin) :
    s.begunStep h x = ({ x with us := s.us h }, s) ∧ s.rowStarts h x = s := by
  rcases hk with hk | hk | hk <;> simp [State.begunStep, State.rowStarts, hk]

section
variable (hs : (s.half h).nv.stopping = false) (hsc : (s.half h).nv.scanned = true)
  (hx : firstStep (pendingOf (s.half h).nv seam) = some x) (hg : s.domOn (galDom h (seam / 64)) = true)
  (hst : s.rf (SEAM_STATUS h seam) SEAM_STATUS.STATE = 0 ∨ s.rf (SEAM_STATUS h seam) SEAM_STATUS.STATE = 2)
  (hon : s.waveOn h seam = false) (hw : s.waveWaits h seam = false)
include hs hsc hx hg hst hon hw

/-- With no wave on the Seam and none that waits for it, its first pending step starts. -/
theorem State.stepStart_eq : s.stepStart h seam =
    (((s.begunStep h x).2.rowStarts h x).modNv h (fun n => n.began seam x (s.begunStep h x).1)).showStep h seam := by
  have hfree : (s.rf (SEAM_STATUS h seam) SEAM_STATUS.STATE != 0 && s.rf (SEAM_STATUS h seam) SEAM_STATUS.STATE != 2) = false := by
    rcases hst with e | e <;> simp [e]
  simp only [State.stepStart, hx, hs, hsc, hg, hfree, hon, hw, Bool.not_true, Bool.or_false, Bool.false_and, Bool.false_eq_true, if_false]
  rfl

/-- The controller and the Seam once the step has started. -/
theorem stepStart_starts : (s.stepStart h seam).rf (SEAM_STATUS h seam) SEAM_STATUS.STATE = 4 ∧
    ((s.stepStart h seam).half h).nv.running = (s.half h).nv.running ++ [(seam, (s.begunStep h x).1)] ∧
    pendingOf ((s.stepStart h seam).half h).nv seam = (pendingOf (s.half h).nv seam).erase x ∧
    ((s.stepStart h seam).half h).nv.rows = (s.half h).nv.rows := by
  rw [State.stepStart_eq hs hsc hx hg hst hon hw]
  refine ⟨showStep_state .., ?_⟩
  rw [showStep_half, State.modNv_nv]
  obtain ⟨p, y, hn⟩ := rowStarts_nv (s.begunStep h x).2 h x
  rw [begunStep_half] at hn
  rcases hn with hn | hn <;> rw [hn]
  · exact ⟨rfl, pendingOf_setPending .., rfl⟩
  · exact ⟨by simp [NvHalf.began], (pendingOf_setPending ..).trans (by simp [pendingOf]), NvHalf.setPort_rows ..⟩
end

/-! ## NV_STEP_END (R58, R128) -/

theorem exec_nvStepEnd (hp : s.stage ≠ .off) (res : StepResult) : exec (.nvStepEnd h seam res) s = .next (s.stepEnd h seam res) :=
  congrArg Host.Outcome.next (if_neg hp)

theorem stage_of_live (hl : s.live = true) : s.stage ≠ .off := by
  intro e
  simp [State.live, e] at hl

/-- The Seam's step has ended: it has no plane selected (R58). -/
def State.stepOver (s : State) (h : Half) (seam : Nat) : State :=
  ((s.modNv h (fun n => { n with running := n.running.filter (fun e => e.1 != seam) })).wf (SEAM_STATUS h seam) SEAM_STATUS.STATE 0).wf
    (SEAM_STATUS h seam) SEAM_STATUS.PLANE 0

@[simp] theorem stepOver_nv (s : State) (h : Half) (seam : Nat) : ((s.stepOver h seam).half h).nv =
    { (s.half h).nv with running := (s.half h).nv.running.filter (fun e => e.1 != seam) } := by
  simp [State.stepOver]

theorem stepOver_state (s : State) (h : Half) (seam : Nat) : (s.stepOver h seam).rf (SEAM_STATUS h seam) SEAM_STATUS.STATE = 0 := by
  unfold State.stepOver
  rw [State.rf_wf_field _ _ SEAM_STATUS.PLANE SEAM_STATUS.STATE _ rfl (.inr (by decide))]
  exact State.rf_wf_same _ _ _ (by decide) (by decide)

theorem stepOver_plane (s : State) (h : Half) (seam : Nat) : (s.stepOver h seam).rf (SEAM_STATUS h seam) SEAM_STATUS.PLANE = 0 :=
  State.rf_wf_same _ _ _ (by decide) (by decide)

theorem onlyRegs_stepOver (s : State) (h : Half) (seam : Nat) :
    onlyRegs [SEAM_STATUS h seam] s ((s.stepOver h seam).setHalf h (s.half h)) := by
  simp only [State.stepOver, State.wf_setHalf, State.modNv_setHalf, State.setHalf_self]
  exact onlyRegs_wf (onlyRegs_wf (onlyRegs_refl _ s) _ _ _ (by simp)) _ _ _ (by simp)

section
variable {res : StepResult} (hx : (s.half h).nv.running.find? (fun e => e.1 == seam) = some (seam, x))
include hx

/-- While the controller waits for its reset, a pulse ends without result (R150). -/
theorem State.stepEnd_stopping (hs : (s.half h).nv.stopping = true) : s.stepEnd h seam res = s.stepOver h seam := by
  simp only [State.stepEnd, hx, hs, if_true]
  rfl

/-- The command that asked for the step acts on its result, unless a CMD_RESET waits (R58, R145). -/
theorem State.stepEnd_cmd (hs : (s.half h).nv.stopping = false) (ho : x.own = .cmd p) (hc : s.nvCmd h p = some c) (ha : c.abort = []) :
    s.stepEnd h seam res = (s.stepOver h seam).cmdStep h p x res := by
  have hab : (s.half h).nv.aborting x = false := by
    unfold State.nvCmd at hc
    cases p <;> simp [NvHalf.aborting, NvHalf.ownStep, ho, hc, ha]
  simp only [State.stepEnd, hx, hs, hab, ho, Bool.false_eq_true, if_false]
  rfl

end

/-- A program step that has verified leaves its row's pairs as intended (R128). -/
theorem State.cmdStep_verified {r : RowJob} (hk : x.kind = .program) (hc : s.nvCmd h p = some c)
    (hr : c.rows[c.rows.findIdx (fun r : RowJob => r.plane == x.plane && r.row == x.row && !r.done)]? = some r) :
    ∃ g, s.cmdStep h p x .verified = (s.writeRow h x.plane x.row r.cells r.want).modCmd h p g := by
  simp only [State.cmdStep, hc, hk, hr]
  exact ⟨_, rfl⟩

/-! ## The commands of both ports -/

/-- The commands of a port, the stored rows and the records that wait stay as they are. -/
structure KeepsJobs (h : Half) (p : NvPort) (s t : State) : Prop where
  cmd : t.nvCmd h p = s.nvCmd h p
  rows : (t.half h).nv.rows = (s.half h).nv.rows
  ledgerQ : (t.half h).nv.ledgerQ = (s.half h).nv.ledgerQ

theorem KeepsJobs.of_nv (e : (t.half h).nv = (s.half h).nv) : KeepsJobs h p s t where
  cmd := State.nvCmd_congr (by rw [e])
  rows := by rw [e]
  ledgerQ := by rw [e]

theorem KeepsJobs.refl (s : State) : KeepsJobs h p s s := .of_nv rfl

theorem KeepsJobs.trans (k : KeepsJobs h p s t) (l : KeepsJobs h p t u) : KeepsJobs h p s u where
  cmd := l.cmd.trans k.cmd
  rows := l.rows.trans k.rows
  ledgerQ := l.ledgerQ.trans k.ledgerQ

/-- A change of the controller that keeps its ports, rows and records. -/
theorem KeepsJobs.modNv (s : State) (h : Half) (p : NvPort) (g : NvHalf → NvHalf) (hp : ∀ n, (g n).port p = n.port p)
    (hr : ∀ n, (g n).rows = n.rows) (hq : ∀ n, (g n).ledgerQ = n.ledgerQ) : KeepsJobs h p s (s.modNv h g) where
  cmd := State.nvCmd_congr (by rw [State.modNv_nv, hp])
  rows := by rw [State.modNv_nv, hr]
  ledgerQ := by rw [State.modNv_nv, hq]

theorem KeepsJobs.wf (s : State) (h : Half) (p : NvPort) (a : Nat) (f : Fld) (v : Nat) : KeepsJobs h p s (s.wf a f v) := .of_nv rfl

theorem KeepsJobs.modPlane (s : State) (h : Half) (p : NvPort) (q : Nat) (g : PlaneRec → PlaneRec) : KeepsJobs h p s (s.modPlane h q g) :=
  .modNv s h p _ (fun _ => by cases p <;> rfl) (fun _ => rfl) (fun _ => rfl)

theorem KeepsJobs.log (s : State) (h x : Half) (p : NvPort) (r : LogReq) (hc : r.cls < 64) : KeepsJobs h p s (s.log x r) :=
  .of_nv (sameHalves_nv (sameHalves_log s x r hc) h)

theorem KeepsJobs.foldl {β : Type} {g : State → β → State} (hg : ∀ t b, KeepsJobs h p t (g t b)) (l : List β) (s : State) :
    KeepsJobs h p s (l.foldl g s) := by
  induction l generalizing s with
  | nil => exact .refl s
  | cons b l ih => exact (hg s b).trans (ih _)

/-- The same where each operation also gives a result. -/
theorem KeepsJobs.foldlFst {β γ : Type} {g : State × γ → β → State × γ} (hg : ∀ e b, KeepsJobs h p e.1 (g e b).1) (l : List β)
    (e : State × γ) : KeepsJobs h p e.1 (l.foldl g e).1 := by
  induction l generalizing e with
  | nil => exact .refl e.1
  | cons b l ih => exact (hg e b).trans (ih _)

/-- The other port's command changes. -/
theorem KeepsJobs.modCmd (s : State) (h : Half) (hq : p ≠ q) (g : NvCmd → NvCmd) : KeepsJobs h p s (s.modCmd h q g) where
  cmd := State.nvCmd_congr (by rw [State.modCmd_nv, NvHalf.port_setPort_ne _ _ hq])
  rows := by rw [State.modCmd_nv, NvHalf.setPort_rows]
  ledgerQ := by rw [State.modCmd_nv, NvHalf.setPort_ledgerQ]

theorem KeepsJobs.askPulse (s : State) (h : Half) (p : NvPort) (x : NvStep) : KeepsJobs h p s (s.askPulse h x) where
  cmd := State.nvCmd_congr (by rw [State.askPulse_nv]; cases p <;> rfl)
  rows := by rw [State.askPulse_nv]
  ledgerQ := by rw [State.askPulse_nv]

theorem KeepsJobs.progress (s : State) (h : Half) (p q : NvPort) (n m : Nat) : KeepsJobs h p s (s.progress h q n m) := by
  cases q
  case loader => exact .refl s
  case host => exact (KeepsJobs.wf ..).trans (KeepsJobs.wf ..)

end Sys2Proof.Machine
end

section
/-! PROOF. Rows, erases and refused unlocks end (R92, R107, R128 to R131, R140), and the statement on the controller's steps. -/

namespace Sys2Proof.Machine

variable {s : State} {h : Half} {p q : NvPort} {c : NvCmd} {r : RowJob} {k : Nat}

/-! ## PROGRAM_ROW_DONE (R128, R130) -/

theorem exec_programRowDone (hl : s.live = true) (us : Nat) : exec (.programRowDone h p k us) s = .next (s.rowDone h p k us) :=
  whenLive_of_live hl (fun s => s.rowDone h p k us)

theorem KeepsJobs.rowEntries (s : State) (h : Half) (p : NvPort) (r : RowJob) : KeepsJobs h p s (s.rowEntries h r) :=
  (KeepsJobs.foldl (fun _ _ => ((KeepsJobs.wf ..).trans (KeepsJobs.wf ..)).trans (KeepsJobs.wf ..)) _ s).trans
    (.of_nv (nv_interimWake ..))

theorem KeepsJobs.buildRow (s : State) (h : Half) (p q : NvPort) (r : RowJob) : KeepsJobs h p s (s.buildRow h q r) := by
  cases q
  case host => exact .refl s
  case loader => exact .of_nv (by simp [State.buildRow])

theorem KeepsJobs.fullPlanes (s : State) (h : Half) (p : NvPort) (c : NvCmd) : KeepsJobs h p s (s.fullPlanes h c) := by
  refine KeepsJobs.foldl (fun t q => ?_) _ s
  split
  · exact KeepsJobs.modPlane ..
  · exact .refl t

/-- Rows of the other port's command go into program. -/
theorem KeepsJobs.feedRow (s : State) (h : Half) (hq : p ≠ q) (k : Nat) : KeepsJobs h p s (s.feedRow h q k) := by
  unfold State.feedRow
  split
  · exact .refl s
  · split
    · exact .refl s
    · split
      · exact .refl s
      · exact (KeepsJobs.modCmd s h hq _).trans (.askPulse ..)

/-- Rows of a port's command that may go into program do. -/
def State.feedPort (s : State) (h : Half) (q : NvPort) : State :=
  match s.nvCmd h q with
  | some c => if c.code = 0x10 ∧ c.phase = .steps then (List.range c.rows.length).foldl (fun s k => s.feedRow h q k) s else s
  | none => s

theorem State.feed_eq (s : State) (h : Half) :
    s.feed h = if (s.half h).nv.stopping then s else (s.feedPort h .host).feedPort h .loader := rfl

/-- A command that is past its steps is fed no row. -/
theorem KeepsJobs.feedPort (s : State) (h : Half) (q : NvPort) (hc : s.nvCmd h p = some c) (hph : c.phase ≠ .steps) :
    KeepsJobs h p s (s.feedPort h q) := by
  unfold State.feedPort
  by_cases hq : p = q
  · subst hq
    simp only [hc, hph, and_false, if_false]
    exact .refl s
  · split
    · split
      · exact KeepsJobs.foldl (fun t k => .feedRow t h hq k) _ s
      · exact .refl s
    · exact .refl s

theorem KeepsJobs.feed (s : State) (h : Half) (hc : s.nvCmd h p = some c) (hph : c.phase ≠ .steps) : KeepsJobs h p s (s.feed h) := by
  rw [State.feed_eq]
  split
  · exact .refl s
  · have k := KeepsJobs.feedPort s h .host hc hph
    exact k.trans (.feedPort _ h .loader (k.cmd.trans hc) hph)

/-- A row is done; where every other row is, the command's rows all are. -/
theorem length_filter_done (l : List RowJob) (k : Nat) (hd : (l.eraseIdx k).all (fun r => r.done) = true) :
    ((l.modify k (fun r => { r with done := true })).filter (fun r => r.done)).length = l.length := by
  induction l generalizing k with
  | nil => cases k <;> rfl
  | cons r l ih =>
    cases k with
    | zero =>
      have hall : ∀ r ∈ l, r.done = true := by simpa using hd
      simp [List.filter_eq_self.2 hall]
    | succ k =>
      simp only [List.eraseIdx_cons_succ, List.all_cons, Bool.and_eq_true] at hd
      simp [hd.1, ih k hd.2]

/-- The last row of a command is done: the command ends with what it registered (R123, R128). -/
theorem rowDone_last (hs : (s.half h).nv.stopping = false) (us : Nat) (hc : s.nvCmd h p = some c) (hr : c.rows[k]? = some r)
    (hv : r.verified = true) (hd : r.done = false) (hph : c.phase = .steps) (hall : (c.rows.eraseIdx k).all (fun r => r.done) = true) :
    ((s.rowDone h p k us).nvCmd h p).map (fun c => (c.phase, c.words)) =
      some (.ending c.stuckResult, [c.rows.length, c.pairs, max c.longest us]) ∧
    ((s.rowDone h p k us).half h).nv.rows = (s.half h).nv.rows := by
  set c1 : NvCmd := { c with rows := c.rows.modify k (fun r => { r with done := true }), longest := max c.longest us } with hc1
  set u := ((s.rhoRow h r.plane (s.pairs h r.plane r.row)).rowEntries h r).buildRow h p r with hu
  have ku : KeepsJobs h p s u := ((KeepsJobs.modPlane ..).trans (.rowEntries ..)).trans (.buildRow ..)
  set w := u.modCmd h p (fun c => { c with rows := c.rows.modify k (fun r => { r with done := true }), longest := max c.longest us }) with hw
  have hwc : w.nvCmd h p = some c1 := by rw [hw, State.nvCmd_modCmd, ku.cmd, hc]; rfl
  have hn : (c1.rows.filter (fun r => r.done)).length = c1.rows.length := by
    simpa [hc1] using length_filter_done c.rows k hall
  set y := (w.progress h p c1.rows.length c1.rows.length).fullPlanes h c1 with hy
  have ky : KeepsJobs h p w y := (KeepsJobs.progress ..).trans (.fullPlanes ..)
  set z := (y.modCmd h p (fun c => { c with words := [c1.rows.length, c1.pairs, c1.longest] })).nvFinish h p c1.stuckResult with hz
  have hzc : z.nvCmd h p = some { c1 with words := [c1.rows.length, c1.pairs, c1.longest], phase := .ending c1.stuckResult } := by
    rw [hz, State.nvFinish, State.nvCmd_modCmd, State.nvCmd_modCmd, ky.cmd, hwc]; rfl
  have e : s.rowDone h p k us = z.feed h := by
    simp only [State.rowDone, hc, hr]
    rw [if_neg (by simp [hv, hd, hs, hph]), ← hu, ← hw, hwc]
    dsimp only
    rw [hn, if_pos rfl]
  have kz : KeepsJobs h p z (z.feed h) := .feed z h hzc (by simp)
  rw [e, kz.cmd, kz.rows, hzc]
  refine ⟨by simp [hc1, NvCmd.stuckResult], ?_⟩
  rw [hz, State.nvFinish, State.modCmd_nv, NvHalf.setPort_rows, State.modCmd_nv, NvHalf.setPort_rows, ky.rows, hw, State.modCmd_nv,
    NvHalf.setPort_rows, ku.rows]

/-! ## PULSE_LIMIT_EXPIRE (R107, R129) -/

theorem exec_pulseLimitExpire (hl : s.live = true) (cells : List CellAt) :
    exec (.pulseLimitExpire h p k cells) s = .next (s.pulseLimit h p k cells) :=
  whenLive_of_live hl (fun s => s.pulseLimit h p k cells)

theorem KeepsJobs.cfgPending (s : State) (h : Half) (p : NvPort) (seam : Nat) : KeepsJobs h p s (s.cfgPending h seam) := by
  unfold State.cfgPending
  refine (KeepsJobs.wf ..).trans (.modNv _ h p _ (fun n => ?_) (fun n => ?_) (fun n => ?_)) <;> split
  case refine_1.isFalse => cases p <;> rfl
  all_goals rfl

theorem KeepsJobs.setEn (s : State) (h : Half) (p : NvPort) (q : Nat) (v : Bool) : KeepsJobs h p s (s.setEn h q v) := by
  unfold State.setEn
  split
  · exact .refl s
  · exact (KeepsJobs.wf ..).trans (.cfgPending ..)

theorem KeepsJobs.healthLog (s : State) (h : Half) (p : NvPort) (q : Nat) : KeepsJobs h p s (s.healthLog h q) :=
  .log _ _ _ _ _ (by simp [logHealth])

/-- A plane becomes UNUSABLE (R108). -/
theorem KeepsJobs.unusable (s : State) (h : Half) (p : NvPort) (q : Nat) : KeepsJobs h p s (s.enterHealth h q 5) :=
  (((KeepsJobs.wf ..).trans (.modPlane ..)).trans (.setEn ..)).trans (.healthLog ..)

theorem KeepsJobs.stuckPut (s : State) (h : Half) (p : NvPort) (i q row col cell kind level : Nat) (wi wa : Int) (st : Nat) :
    KeepsJobs h p s (s.stuckPut h i q row col cell kind level wi wa st) := .of_nv rfl

theorem KeepsJobs.registerPair (s : State) (h : Half) (p : NvPort) (q row col cell kind level : Nat) (wi wa : Int) :
    KeepsJobs h p s (s.registerPair h q row col cell kind level wi wa).1 := by
  unfold State.registerPair
  split
  · exact .stuckPut ..
  · split
    · exact .stuckPut ..
    · exact .unusable ..

theorem KeepsJobs.registerCells (s : State) (h : Half) (p : NvPort) (q row : Nat) (target : List (Nat × Nat)) (want : Nat → Int)
    (cs : List CellAt) : KeepsJobs h p s (s.registerCells h q row target want cs).1 := by
  refine KeepsJobs.foldlFst (fun acc col => ?_) _ (s, 0, false)
  split
  · exact .refl acc.1
  · exact .registerPair ..

theorem KeepsJobs.dropSteps (s : State) (h : Half) (p : NvPort) (P : NvStep → Bool) : KeepsJobs h p s (s.dropSteps h P) :=
  (KeepsJobs.modNv s h p (fun n => n.dropped P) (fun _ => by cases p <;> rfl) (fun _ => rfl) (fun _ => rfl)).trans
    (.of_nv (by rw [dropSteps_half]))

theorem State.nvCmd_writeRow (s : State) (h : Half) (p : NvPort) (q row : Nat) (v : List (Nat × Nat)) (want : List Int) :
    (s.writeRow h q row v want).nvCmd h p = s.nvCmd h p :=
  State.nvCmd_congr (by rw [State.writeRow, State.modNv_nv, State.setPairs, State.modNv_nv]; cases p <;> rfl)

/-- The row's cells stand as given and its row counts as verified (R129). -/
theorem pulseLimit_registers {cells : List CellAt} (hs : (s.half h).nv.stopping = false) (hc : s.nvCmd h p = some c)
    (hr : c.rows[k]? = some r) (hst : r.started = true) (hv : r.verified = false) (hrun : (s.half h).nv.running = [])
    (hcells : okCells cells ≠ []) :
    ((s.pulseLimit h p k cells).nvCmd h p).map (fun c => (c.rows.map (fun x => x.verified)).getD k false) = some true ∧
    (s.pulseLimit h p k cells).pairs h r.plane r.row = setCells r.cells (okCells cells) := by
  have hne : (okCells cells).isEmpty = false := by simpa using hcells
  unfold State.pulseLimit
  simp only [hc, hr, hst, hv, hs, hrun, hne, Bool.not_true, List.any_nil, Bool.or_false, Bool.false_eq_true, if_false]
  set s0 := s.dropSteps h (fun x => x.own == .cmd p && x.plane == r.plane && x.row == r.row) with hs0
  set s1 := s0.writeRow h r.plane r.row (setCells r.cells (okCells cells)) r.want with hs1
  set x := s1.registerCells h r.plane r.row r.cells (fun col => r.want.getD col 0) (okCells cells) with hx
  have kx : KeepsJobs h p s1 (x.1.interimWake h) := (KeepsJobs.registerCells ..).trans (.of_nv (nv_interimWake ..))
  have hxc : (x.1.interimWake h).nvCmd h p = some c := by
    rw [kx.cmd, hs1, State.nvCmd_writeRow, (KeepsJobs.dropSteps ..).cmd, hc]
  refine ⟨?_, ?_⟩
  · rw [State.nvCmd_modCmd, hxc]
    simp [List.getD_eq_getElem?_getD, hr]
  · rw [State.pairs_modCmd, State.pairs_congr kx.rows, hs1, State.pairs_writeRow, if_pos rfl]

/-! ## ERASE_TIME_LIMIT (R92, R131) -/

theorem exec_eraseTimeLimit (hl : s.live = true) (cells : List (Nat × CellAt)) :
    exec (.eraseTimeLimit h p cells) s = .next (s.eraseLimit h p cells) :=
  whenLive_of_live hl (fun s => s.eraseLimit h p cells)

/-- A running erase's command is the one of its port. -/
theorem eraseLimit_eq {q : Nat} (hs : (s.half h).nv.stopping = false) (hc : s.nvCmd h p = some c) (hq : c.erasing = some q)
    (ha : c.abort = []) (hrun : (s.half h).nv.running = []) :
    s.eraseLimit h p [] = (s.dropSteps h (fun x => x.own == .cmd p)).eraseApply h p q [] := by
  simp only [State.eraseLimit, hc, hq, hs, ha, hrun, List.isEmpty_nil, Bool.not_true, List.any_nil, Bool.or_false, Bool.false_eq_true,
    if_false, List.filter_nil]

theorem mapGet_mapEraseRange {α : Type} (d : Nat → α) (m : List (Nat × α)) (lo len k : Nat) (hk : lo ≤ k ∧ k < lo + len) :
    mapGet d (mapEraseRange m lo len) k = d k := by
  induction m with
  | nil => rfl
  | cons e m ih =>
    unfold mapEraseRange at ih ⊢
    rw [List.filter_cons]
    split
    · next he =>
      have hne : k ≠ e.1 := by
        rintro rfl
        simp only [Bool.or_eq_true, decide_eq_true_eq] at he
        omega
      rw [mapGet, if_neg hne, ih]
    · exact ih

/-- The plane's rows and codes are erased, and its entries become LATENT (R111, R131). -/
def State.eraseRows (s : State) (h : Half) (q : Nat) : State :=
  let s1 := s.modNv h (fun n => { n with rows := mapEraseRange n.rows (1024 * q) 1024, codes := mapEraseRange n.codes (1024 * q) 1024 })
  (s1.stuckOf h q).foldl (fun s i => s.wf (NV_STUCK_INFO h i) NV_STUCK_INFO.STATE 3) s1

/-- The plane is HEALTHY and unwritten, with a new age (Table 4.2, R105, R128). -/
def State.freshPlane (s : State) (h : Half) (q : Nat) : State :=
  (((s.rhoErase h q).enterHealth h q 0).modPlane h q (fun x => { x with written := [] })).renewAge h q

theorem State.enterHealth_healthy (s : State) (h : Half) (q : Nat) : s.enterHealth h q 0 =
    (((s.wf (NV_PLANE_HEALTH h q) NV_PLANE_HEALTH.STATE 0).modPlane h q (fun r => { r with clean := 0 })).wf
      (NV_PLANE_HEALTH h q) NV_PLANE_HEALTH.MISS_COUNT 0).wf (NV_PLANE_SUSPECT h q) NV_PLANE_SUSPECT.GROUPS 0 := rfl

/-- The command waits for its ERASE_DONE, with the pairs it registered as before. -/
def NvCmd.erased (c : NvCmd) : NvCmd := { c with phase := .ledgerDone, pairs := c.pairs + 0, noEntry := c.noEntry || false }

theorem State.eraseApply_nil (s : State) (h : Half) (p : NvPort) (q : Nat) : s.eraseApply h p q [] =
    (((s.eraseRows h q).freshPlane h q).modCmd h p NvCmd.erased).askLedger h 2 (planeId h q)
      (min 16383 (s.rf (NV_PLANE_HEALTH h q) NV_PLANE_HEALTH.PE_CYCLES + 1)) (.cmd p) := rfl

theorem eraseRows_jobs (s : State) (h : Half) (p : NvPort) (q : Nat) :
    (s.eraseRows h q).nvCmd h p = s.nvCmd h p ∧ ((s.eraseRows h q).half h).nv.ledgerQ = (s.half h).nv.ledgerQ ∧
    ∀ row < 1024, (s.eraseRows h q).pairs h q row = List.replicate 544 (0, 0) := by
  have hnv : ((s.eraseRows h q).half h).nv = { (s.half h).nv with
      rows := mapEraseRange (s.half h).nv.rows (1024 * q) 1024, codes := mapEraseRange (s.half h).nv.codes (1024 * q) 1024 } :=
    (congrArg HalfState.nv (half_foldl (fun _ _ => State.wf_half ..) _ _)).trans (State.modNv_nv ..)
  refine ⟨State.nvCmd_congr (by rw [hnv]; cases p <;> rfl), by rw [hnv], fun row hrow => ?_⟩
  unfold State.pairs
  rw [hnv]
  exact mapGet_mapEraseRange _ _ _ _ _ (by omega)

theorem KeepsJobs.renewAge (s : State) (h : Half) (p : NvPort) (q : Nat) : KeepsJobs h p s (s.renewAge h q) := .modPlane ..

theorem KeepsJobs.rhoErase (s : State) (h : Half) (p : NvPort) (q : Nat) : KeepsJobs h p s (s.rhoErase h q) := by
  unfold State.rhoErase
  exact .modPlane ..

theorem KeepsJobs.freshPlane (s : State) (h : Half) (p : NvPort) (q : Nat) : KeepsJobs h p s (s.freshPlane h q) := by
  have kh : KeepsJobs h p (s.rhoErase h q) ((s.rhoErase h q).enterHealth h q 0) := by
    rw [State.enterHealth_healthy]
    exact (((KeepsJobs.wf ..).trans (.modPlane ..)).trans (.wf ..)).trans (.wf ..)
  exact (((KeepsJobs.rhoErase ..).trans kh).trans (.modPlane ..)).trans (.renewAge ..)

theorem freshPlane_written (s : State) (h : Half) (q : Nat) : ((s.freshPlane h q).planeRec h q).written = [] := by
  unfold State.freshPlane State.renewAge
  rw [State.planeRec_modPlane, if_pos rfl, State.planeRec_modPlane, if_pos rfl]
  split <;> rfl

theorem freshPlane_health (s : State) (h : Half) (q : Nat) : (s.freshPlane h q).health h q = 0 := by
  have hother : NV_PLANE_HEALTH h q + 0 ≠ NV_PLANE_SUSPECT h q + 0 := by simp only [NV_PLANE_HEALTH, NV_PLANE_SUSPECT]; omega
  unfold State.health State.freshPlane State.renewAge
  rw [State.modPlane_rf, State.modPlane_rf, State.enterHealth_healthy, State.rf_wf_ne _ _ _ _ hother,
    State.rf_wf_field _ _ NV_PLANE_HEALTH.MISS_COUNT NV_PLANE_HEALTH.STATE _ rfl (.inr (by decide)), State.modPlane_rf]
  exact State.rf_wf_same _ _ _ (by decide) (by decide)

/-- An erase whose time is over, with no cell left above level 0. -/
theorem eraseLimit_erases {q : Nat} (hs : (s.half h).nv.stopping = false) (hc : s.nvCmd h p = some c) (hq : c.erasing = some q)
    (ha : c.abort = []) (hrun : (s.half h).nv.running = []) :
    ((s.eraseLimit h p []).nvCmd h p).map (fun c => c.phase) = some .ledgerDone ∧
    ((s.eraseLimit h p []).half h).nv.ledgerQ = (s.half h).nv.ledgerQ ++
      [(LedgerRec.mk 2 (planeId h q) 0 (min 16383 (s.rf (NV_PLANE_HEALTH h q) NV_PLANE_HEALTH.PE_CYCLES + 1)) 1 0, .cmd p)] ∧
    ((s.eraseLimit h p []).planeRec h q).written = [] ∧ (s.eraseLimit h p []).health h q = 0 ∧
    ∀ row < 1024, (s.eraseLimit h p []).pairs h q row = List.replicate 544 (0, 0) := by
  rw [eraseLimit_eq hs hc hq ha hrun, State.eraseApply_nil]
  set s0 := s.dropSteps h (fun x => x.own == .cmd p) with hs0
  have k0 : KeepsJobs h p s s0 := .dropSteps ..
  have hpe : s0.rf (NV_PLANE_HEALTH h q) NV_PLANE_HEALTH.PE_CYCLES = s.rf (NV_PLANE_HEALTH h q) NV_PLANE_HEALTH.PE_CYCLES := by
    unfold State.rf
    rw [hs0, rd_dropSteps]
    intro n hn
    simp only [NV_PLANE_HEALTH, SEAM_STATUS]
    omega
  obtain ⟨hec, heq, hep⟩ := eraseRows_jobs s0 h p q
  set s1 := (s0.eraseRows h q).freshPlane h q with hs1
  have k1 : KeepsJobs h p (s0.eraseRows h q) s1 := .freshPlane ..
  have hcmd : (s1.modCmd h p NvCmd.erased).nvCmd h p = some c.erased := by
    rw [State.nvCmd_modCmd, k1.cmd, hec, k0.cmd, hc]; rfl
  refine ⟨?_, ?_, ?_, ?_, fun row hrow => ?_⟩
  · rw [State.nvCmd_congr (s := s1.modCmd h p NvCmd.erased) (by rw [State.askLedger_nv]; cases p <;> rfl), hcmd]
    rfl
  · rw [State.askLedger_nv, hpe]
    simp [k1.ledgerQ, heq, k0.ledgerQ]
  · rw [State.planeRec_congr (s := s1) (by simp), hs1, freshPlane_written]
  · refine Eq.trans ?_ (freshPlane_health (s0.eraseRows h q) h q)
    refine (State.modNv_rf ..).trans (State.rf_modCmd _ _ _ _ ?_)
    cases p <;> simp only [nvStatusAddr, NV_PLANE_HEALTH, NV_CMD_STATUS, NV_LDR_STATUS] <;> omega
  · rw [State.pairs_congr (s := s1) (by simp), State.pairs_congr k1.rows, hep row hrow]

/-! ## UNLOCK_FAIL_DELAY_END (R140) -/

theorem exec_unlockFailDelayEnd (hl : s.live = true) : exec (.unlockFailDelayEnd h) s = .next (s.unlockFailed h) :=
  whenLive_of_live hl (fun s => s.unlockFailed h)

theorem unlockFailed_eq (hs : (s.half h).nv.stopping = false) (hc : s.nvCmd h .host = some c) (hph : c.phase = .delay) :
    s.unlockFailed h = ((s.addSat (NV_PROT_STATE h c.group) NV_PROT_STATE.FAIL_COUNT 1).modNv h (fun n =>
      { n with unlockFails := n.unlockFails + 1 })).nvFinish h .host 0x0E := by
  simp only [State.unlockFailed, hc, hph, hs, and_self, if_true]

theorem onlyRegs_unlockFailed (hs : (s.half h).nv.stopping = false) (hc : s.nvCmd h .host = some c) (hph : c.phase = .delay) :
    onlyRegs [NV_PROT_STATE h c.group, NV_CMD_STATUS h] s ((s.unlockFailed h).setHalf h (s.half h)) := by
  rw [unlockFailed_eq hs hc hph]
  simp only [State.nvFinish, State.modCmd, State.modPort, State.addSat, State.wf_setHalf, State.modNv_setHalf, State.setHalf_self]
  exact onlyRegs_wf (onlyRegs_wf (onlyRegs_refl _ s) _ _ _ (by simp)) _ _ _ (by simp [nvStatusAddr])

/-- Settles O23: the first pulse that fits the budget, a step's start and end, the end of a row, of a row's time, of an erase and of a refused
unlock. -/
theorem stepsOfTheController : Obligations.StepsOfTheController := by
  refine ⟨?pulse, ?start, ?startPulse, ?verified, ?stopping, ?row, ?limit, ?erase, ?unlock⟩
  case pulse =>
    intro s h i x hl hs hi hx hp hd hb
    have hseam : x.plane / 16 % 2048 = x.plane / 16 := Nat.mod_eq_of_lt (by omega)
    refine ⟨_, exec_pulseStart hl, ?_⟩
    rw [State.pulseStart_eq hs hi hx hd hb, State.askStep_nv, State.askStep_mem, State.modNv_mem, State.modNv_nv, hseam]
    refine ⟨rfl, rfl, ?_, ?_, rfl, rfl⟩
    · exact (pendingOf_setPending ..).trans (by rw [State.modNv_us]; rfl)
    · have e := State.rf_askStep_pending (s.modNv h (fun n => { n with pulseQ := n.pulseQ.eraseIdx i, pulsing := n.pulsing ++ [x] })) h x
      rwa [hseam] at e
  case start =>
    intro s h seam x hl hs hsc hseam hx hd hst hon hw hk
    obtain ⟨h4, hrun, hpend, hrows⟩ := stepStart_starts hs hsc hx hd hst hon hw
    obtain ⟨hb, hrs⟩ := begunStep_of_other s h hk
    rw [hb] at hrun
    refine ⟨_, exec_nvStepStart hl hseam, h4, hrun, hpend, ?_, hrows⟩
    rw [State.stepStart_eq hs hsc hx hd hst hon hw, hb, hrs]
    exact onlyRegs_showStep s h _ hseam
  case startPulse =>
    intro s h seam x hl hs hsc hseam hx hd hst hon hw hk
    obtain ⟨h4, hrun, hpend, hrows⟩ := stepStart_starts hs hsc hx hd hst hon hw
    obtain ⟨h1, h20⟩ := begunStep_len s h hk
    exact ⟨_, exec_nvStepStart hl hseam, h4, hrun, h1, h20, hpend, hrows⟩
  case verified =>
    intro s h seam x p c r hl hs hseam hx ho hk hc ha hr
    have hc' : (s.stepOver h seam).nvCmd h p = some c := (State.nvCmd_congr (by rw [stepOver_nv]; cases p <;> rfl)).trans hc
    obtain ⟨g, e⟩ := State.cmdStep_verified hk hc' hr
    refine ⟨_, exec_nvStepEnd (stage_of_live hl) _, ?_⟩
    rw [State.stepEnd_cmd hx hs ho hc ha, e]
    have hpairs : ∀ a b, (((s.stepOver h seam).writeRow h x.plane x.row r.cells r.want).modCmd h p g).pairs h a b =
        if 1024 * a + b = 1024 * x.plane + x.row then r.cells else s.pairs h a b := fun a b => by
      rw [State.pairs_modCmd, State.pairs_writeRow,
        State.pairs_congr (s := s) (by rw [stepOver_nv])]
    refine ⟨?_, by rw [hpairs, if_pos rfl], ?_, ?_, fun k _ hne => ?_⟩
    · rw [State.rf_modCmd, State.writeRow_rf, stepOver_state]
      cases p <;> simp only [nvStatusAddr, SEAM_STATUS, NV_CMD_STATUS, NV_LDR_STATUS] <;> omega
    · rw [State.modCmd_nv, NvHalf.setPort_running, State.writeRow_running, stepOver_nv]
    · simp only [State.modCmd, State.modPort, State.wf_setHalf, State.modNv_setHalf, State.writeRow_setHalf]
      exact onlyRegs_wf (onlyRegs_mono (by simp) (onlyRegs_stepOver s h seam)) _ _ _ (by simp)
    · rw [hpairs, if_neg (by omega)]
  case stopping =>
    intro s h seam x res hp hs hseam hx
    refine ⟨_, exec_nvStepEnd hp _, ?_⟩
    rw [State.stepEnd_stopping hx hs]
    refine ⟨stepOver_state .., stepOver_plane .., ?_, ?_, onlyRegs_stepOver ..⟩ <;> rw [stepOver_nv]
  case row =>
    intro s h p k us c r hl hs hc hr hv hd hph hall
    exact ⟨_, exec_programRowDone hl us, rowDone_last hs us hc hr hv hd hph hall⟩
  case limit =>
    intro s h p k cells c r hl hs hc hr hst hv hrun hcells
    exact ⟨_, exec_pulseLimitExpire hl cells, pulseLimit_registers hs hc hr hst hv hrun hcells⟩
  case erase =>
    intro s h p c q hl hs hc hq _ ha hrun
    exact ⟨_, exec_eraseTimeLimit hl [], eraseLimit_erases hs hc hq ha hrun⟩
  case unlock =>
    intro s h c hl hs hc hph hg
    have hother : NV_PROT_STATE h c.group + 0 ≠ NV_CMD_STATUS h := by simp only [NV_PROT_STATE, NV_CMD_STATUS]; omega
    refine ⟨_, exec_unlockFailDelayEnd hl, ?_, ?_, ?_, onlyRegs_unlockFailed hs hc hph, ?_⟩ <;> rw [unlockFailed_eq hs hc hph]
    · simp [State.nvFinish, State.addSat]
    · rw [State.nvFinish, State.nvCmd_modCmd]
      have e : ((s.addSat (NV_PROT_STATE h c.group) NV_PROT_STATE.FAIL_COUNT 1).modNv h (fun n =>
        { n with unlockFails := n.unlockFails + 1 })).nvCmd h .host = some c := by
        rw [← hc]; exact State.nvCmd_congr (by simp [State.addSat, NvHalf.port])
      rw [e]; rfl
    · rw [State.nvFinish, State.rf_modCmd _ _ _ _ hother, State.modNv_rf]
      exact State.rf_wf_same _ _ _ (by decide) (by simp only; omega)
    · simp [State.nvFinish, State.addSat]

end Sys2Proof.Machine
end

section
/-! PROOF. Refreshes start and stop (R101 to R105): what looking at the queued refreshes leaves of the plane table. -/

namespace Sys2Proof.Machine

variable {s t u : State} {h : Half} {a q : Nat}

/-! ## What steps and refreshes leave -/

/-- A controller without its steps and refreshes. -/
def NvHalf.table (n : NvHalf) : NvHalf := { n with pending := [], running := [], pulseQ := [], pulsing := [], refreshes := [] }

/-- Registers of the arrays that neither steps nor refreshes write. -/
def tableReg (h : Half) (a : Nat) : Prop := arrayReg a ∧ a ≠ NV_REFRESH_CTRL h ∧ ∀ n < 2048, a ≠ SEAM_STATUS h n

/-- Of the controller only steps and refreshes may differ, of the arrays' registers only the status of Seams and NV_REFRESH_CTRL; and no commit
of a plane table becomes due or done. -/
structure KeepsTable (h : Half) (s t : State) : Prop where
  nv : (t.half h).nv.table = (s.half h).nv.table
  mem : (t.half h).mem = (s.half h).mem
  rd : ∀ a, tableReg h a → t.rd a = s.rd a
  cfgPending : ∀ n < 2048, t.rf (SEAM_STATUS h n) SEAM_STATUS.CFG_PENDING = s.rf (SEAM_STATUS h n) SEAM_STATUS.CFG_PENDING

namespace KeepsTable

theorem refl (s : State) : KeepsTable h s s := ⟨rfl, rfl, fun _ _ => rfl, fun _ _ => rfl⟩

theorem trans (k : KeepsTable h s t) (l : KeepsTable h t u) : KeepsTable h s u where
  nv := l.nv.trans k.nv
  mem := l.mem.trans k.mem
  rd a ha := (l.rd a ha).trans (k.rd a ha)
  cfgPending n hn := (l.cfgPending n hn).trans (k.cfgPending n hn)

theorem rows (k : KeepsTable h s t) : (t.half h).nv.rows = (s.half h).nv.rows := (congrArg NvHalf.rows k.nv :)
theorem planes (k : KeepsTable h s t) : (t.half h).nv.planes = (s.half h).nv.planes := (congrArg NvHalf.planes k.nv :)
theorem cfg (k : KeepsTable h s t) : (t.half h).nv.cfg = (s.half h).nv.cfg := (congrArg NvHalf.cfg k.nv :)
theorem committing (k : KeepsTable h s t) : (t.half h).nv.committing = (s.half h).nv.committing := (congrArg NvHalf.committing k.nv :)
theorem ledgerQ (k : KeepsTable h s t) : (t.half h).nv.ledgerQ = (s.half h).nv.ledgerQ := (congrArg NvHalf.ledgerQ k.nv :)
theorem port (k : KeepsTable h s t) (p : NvPort) : (t.half h).nv.port p = (s.half h).nv.port p := by
  cases p
  case host => exact (congrArg NvHalf.host k.nv :)
  case loader => exact (congrArg NvHalf.ldr k.nv :)

theorem rf (k : KeepsTable h s t) {f : Fld} (ha : tableReg h (a + f.off)) : t.rf a f = s.rf a f := by
  unfold State.rf; rw [k.rd _ ha]

/-- A change of the controller's steps and refreshes. -/
theorem modNv (s : State) (h : Half) (g : NvHalf → NvHalf) (hg : ∀ n, (g n).table = n.table) : KeepsTable h s (s.modNv h g) where
  nv := by rw [State.modNv_nv, hg]
  mem := State.modNv_mem ..
  rd _ _ := State.modNv_rd ..
  cfgPending _ _ := State.modNv_rf ..

/-- A write of NV_REFRESH_CTRL. -/
theorem wfCtrl (s : State) (h : Half) (f : Fld) (v : Nat) (hf : f.off = 0) : KeepsTable h s (s.wf (NV_REFRESH_CTRL h) f v) where
  nv := by rw [State.wf_half]
  mem := by rw [State.wf_half]
  rd a ha := State.rd_wf_ne _ _ _ (by simpa [hf] using ha.2.1)
  cfgPending n hn := State.rf_wf_ne _ _ _ _ (by simp only [hf, SEAM_STATUS, NV_REFRESH_CTRL]; omega)

/-- A write of a Seam's status below CFG_PENDING. -/
theorem wfStatus (s : State) (h : Half) {n : Nat} (hn : n < 2048) (f : Fld) (v : Nat) (hf : f.off = 0 ∧ f.lo + f.len ≤ 9) :
    KeepsTable h s (s.wf (SEAM_STATUS h n) f v) where
  nv := by rw [State.wf_half]
  mem := by rw [State.wf_half]
  rd a ha := State.rd_wf_ne _ _ _ (by simpa [hf.1] using ha.2.2 n hn)
  cfgPending _ _ := State.rf_wf_disjoint _ _ _ _ _ _ hf.1.symm (.inl (by simpa using hf.2))

theorem need (s : State) (h : Half) {d : Nat} (hd : d < 144) : KeepsTable h s (s.need d) where
  nv := by rw [nv_need]
  mem := mem_need ..
  rd a ha := rd_need s hd ha.1
  cfgPending n hn := rf_need s hd (arrayReg_seamStatus h hn)

theorem showPending (s : State) (h : Half) (n : Nat) : KeepsTable h s (s.showPending h n) :=
  wfStatus s h (Nat.mod_lt _ (by decide)) _ _ (by decide)

theorem askStep (s : State) (h : Half) (x : NvStep) : KeepsTable h s (s.askStep h x) := by
  refine trans (trans (modNv s h _ ?_) (showPending ..)) (need _ h (galDom_lt h (seamGal_lt (x.plane / 16))))
  exact fun _ => rfl

theorem dropSteps (s : State) (h : Half) (P : NvStep → Bool) : KeepsTable h s (s.dropSteps h P) where
  nv := by rw [dropSteps_half, State.modNv_nv]; rfl
  mem := by rw [dropSteps_half, State.modNv_mem]
  rd a ha := rd_dropSteps s h P ha.2.2
  cfgPending n _ := rf_dropSteps s h P (by decide)

theorem checkCatchup (s : State) (h : Half) : KeepsTable h s (s.checkCatchup h) := by
  unfold State.checkCatchup
  split
  · exact refl s
  · exact wfCtrl s h _ _ rfl

theorem stopBarred (s : State) (h : Half) : KeepsTable h s (s.stopBarred h) := by
  unfold State.stopBarred
  dsimp only
  split
  · exact refl s
  · refine trans (modNv s h _ ?_) (dropSteps ..)
    exact fun _ => rfl

theorem modRefresh (s : State) (h : Half) (q : Nat) (g : Refresh → Refresh) : KeepsTable h s (s.modRefresh h q g) := by
  unfold State.modRefresh
  exact modNv s h _ fun _ => rfl

theorem schedule (k : Nat) (s : State) (h : Half) : KeepsTable h s (s.schedule h k) := by
  induction k generalizing s with
  | zero => exact refl s
  | succ k ih =>
    unfold State.schedule
    split
    · exact refl s
    · exact ((modRefresh ..).trans (askStep ..)).trans (ih _)

theorem runRefresh (s : State) (h : Half) : KeepsTable h s (s.runRefresh h) :=
  ((checkCatchup s h).trans (stopBarred ..)).trans (schedule ..)

theorem endRefresh (s : State) (h : Half) (q : Nat) : KeepsTable h s (s.endRefresh h q) := by
  unfold State.endRefresh
  refine trans (modNv s h _ ?_) (dropSteps ..)
  exact fun _ => rfl

end KeepsTable

/-! ## The planes that have a refresh -/

/-- Is a refresh of the plane queued or running? -/
def State.refreshes (s : State) (h : Half) (q : Nat) : Bool := (s.half h).nv.refreshes.any (fun r => r.plane == q)

theorem refreshes_eq_of_planes (e : (t.half h).nv.refreshes.map (·.plane) = (s.half h).nv.refreshes.map (·.plane)) (q : Nat) :
    t.refreshes h q = s.refreshes h q := by
  have hany : ∀ l : List Refresh, l.any (fun r => r.plane == q) = (l.map (·.plane)).any (· == q) := fun l => by
    rw [List.any_map]; rfl
  unfold State.refreshes
  rw [hany, hany, e]

theorem planes_modRefresh (s : State) (h : Half) (p : Nat) (g : Refresh → Refresh) (hg : ∀ r, (g r).plane = r.plane) :
    ((s.modRefresh h p g).half h).nv.refreshes.map (·.plane) = (s.half h).nv.refreshes.map (·.plane) := by
  rw [State.modRefresh, State.modNv_nv, List.map_map]
  refine List.map_congr_left fun r _ => ?_
  simp only [Function.comp_apply]
  split
  · exact hg r
  · rfl

/-- Starting refreshes changes no refresh's plane. -/
theorem planes_schedule (k : Nat) (s : State) (h : Half) :
    ((s.schedule h k).half h).nv.refreshes.map (·.plane) = (s.half h).nv.refreshes.map (·.plane) := by
  induction k generalizing s with
  | zero => rfl
  | succ k ih =>
    unfold State.schedule
    split
    · rfl
    · rw [ih, State.askStep_nv]
      exact planes_modRefresh s h _ _ (fun _ => rfl)

theorem State.planeEn_congr (e : t.rd (SEAM_PLANE_CFG h (q / 16)) = s.rd (SEAM_PLANE_CFG h (q / 16))) : t.planeEn h q = s.planeEn h q := by
  have e' : t.rd (SEAM_PLANE_CFG h (q / 16) + SEAM_PLANE_CFG.EN.off) = s.rd (SEAM_PLANE_CFG h (q / 16) + SEAM_PLANE_CFG.EN.off) := e
  unfold State.planeEn State.rf
  rw [e']

theorem tableReg_planeCfg (h : Half) {n : Nat} (hn : n < 2048) : tableReg h (SEAM_PLANE_CFG h n) := by
  refine ⟨?_, ?_, fun m _ => ?_⟩
  · simp only [SEAM_PLANE_CFG, Nat.add_assoc]
    rw [arrayReg_iff] <;> omega
  all_goals simp only [SEAM_PLANE_CFG, NV_REFRESH_CTRL, SEAM_STATUS]; omega

theorem KeepsTable.planeEn (k : KeepsTable h s t) (hq : q < 32768) : t.planeEn h q = s.planeEn h q :=
  State.planeEn_congr (k.rd _ (tableReg_planeCfg h (by omega)))

theorem State.refreshes_congr (e : (t.half h).nv = (s.half h).nv) (q : Nat) : t.refreshes h q = s.refreshes h q := by
  unfold State.refreshes; rw [e]

/-- A refresh that stops is of a plane that is not enabled (R103). -/
theorem refreshes_stopBarred (s : State) (h : Half) (hq : s.planeEn h q = true ∨ s.refreshes h q = false) :
    (s.stopBarred h).refreshes h q = s.refreshes h q := by
  unfold State.stopBarred
  dsimp only
  split
  · rfl
  · unfold State.refreshes
    rw [dropSteps_half, State.modNv_nv]
    simp only [NvHalf.dropped, State.modNv_nv]
    rw [Bool.eq_iff_iff, List.any_eq_true, List.any_eq_true]
    simp only [List.mem_filterMap, beq_iff_eq]
    constructor
    · rintro ⟨r, ⟨r0, hr0, he⟩, rfl⟩
      refine ⟨r0, hr0, ?_⟩
      split at he
      · split at he <;> simp only [Option.some.injEq, reduceCtorEq] at he
        rw [← he]
      · rw [Option.some.inj he]
    · rintro ⟨r, hr, rfl⟩
      have hen : s.planeEn h r.plane = true := hq.resolve_right fun hno => by
        have := List.any_eq_false.1 hno r hr
        simp at this
      exact ⟨r, ⟨r, hr, if_neg (by simp [State.barred, hen])⟩, rfl⟩

theorem refreshes_runRefresh (s : State) (h : Half) (hq : q < 32768) (hr : s.planeEn h q = true ∨ s.refreshes h q = false) :
    (s.runRefresh h).refreshes h q = s.refreshes h q := by
  have hc : (s.checkCatchup h).refreshes h q = s.refreshes h q := by
    unfold State.checkCatchup
    split
    · rfl
    · exact State.refreshes_congr (by rw [State.wf_half]) q
  have hen : (s.checkCatchup h).planeEn h q = s.planeEn h q := (KeepsTable.checkCatchup s h).planeEn hq
  refine (refreshes_eq_of_planes (planes_schedule _ _ _) q).trans ((refreshes_stopBarred _ _ ?_).trans hc)
  rwa [hen, hc]

end Sys2Proof.Machine
end

section
/-! PROOF. Refreshes that are due and complete, commits of the plane table, and its writes (R64, R99, R101 to R105). -/

namespace Sys2Proof.Machine

variable {s t u : State} {h : Half} {a q : Nat} {c : NvCmd} {r : Refresh}

/-! ## REFRESH_DUE (R103) -/

theorem exec_refreshDue (hl : s.live = true) (hq : q < 32768) : exec (.refreshDue h q) s = .next (s.refreshDue h q) :=
  (whenLive_of_live hl (fun s => if q < 32768 then s.refreshDue h q else s)).trans (by rw [if_pos hq])

/-- A key that does not read as an unlisted one is listed. -/
theorem mem_of_mapGet_ne {α : Type} (d : Nat → α) (m : List (Nat × α)) (k : Nat) (hk : mapGet d m k ≠ d k) : (k, mapGet d m k) ∈ m := by
  induction m with
  | nil => exact absurd rfl hk
  | cons e m ih =>
    unfold mapGet at hk ⊢
    split
    · next he => subst he; exact List.mem_cons_self
    · next he => rw [if_neg he] at hk; exact List.mem_cons_of_mem _ (ih hk)

/-- SEAM_PLANE_CFG resets to 0: no plane is enabled. -/
theorem resetWord_planeCfg (h : Half) {n : Nat} (hn : n < 2048) : resetWord (SEAM_PLANE_CFG h n) = 0 := by
  have ho : (if SEAM_PLANE_CFG h n < 0x04000000 then SEAM_PLANE_CFG h n % 0x02000000 else SEAM_PLANE_CFG h n) = 0xB00004 + n * 0x40 := by
    rw [if_pos (by cases h <;> simp only [SEAM_PLANE_CFG, Half.base] <;> omega)]
    cases h <;> simp only [SEAM_PLANE_CFG, Half.base] <;> omega
  have hlist : resetList.find? (fun e => inRun (0xB00004 + n * 0x40) e.1 e.2.1 e.2.2.1) = none := by
    simp only [resetList, List.find?_eq_none, List.forall_mem_cons, inRun, Bool.and_eq_true, decide_eq_true_eq, List.not_mem_nil,
      false_imp_iff, implies_true, and_true]
    omega
  have hidx : resetByIndex (0xB00004 + n * 0x40) = 0 := by
    unfold resetByIndex
    rw [if_neg (by omega), if_neg (by omega), if_neg (by omega)]
  have hne : SEAM_PLANE_CFG h n ≠ 0x02000000 := by cases h <;> simp only [SEAM_PLANE_CFG, Half.base] <;> omega
  unfold resetWord resetNat
  rw [ho, if_neg hne]
  simp only [hlist, hidx]
  rfl

theorem mem_enabledPlanes (hq : q < 32768) (he : s.planeEn h q = true) : q ∈ s.enabledPlanes h := by
  have hn : q / 16 < 2048 := by omega
  have hne : s.rd (SEAM_PLANE_CFG h (q / 16)) ≠ resetWord (SEAM_PLANE_CFG h (q / 16)) := by
    intro e
    rw [resetWord_planeCfg h hn] at e
    have hz : getF (0 : Word) SEAM_PLANE_CFG.EN = 0 := by decide
    unfold State.planeEn State.rf at he
    rw [Nat.add_zero, e, hz, bit_eq_testBit, Nat.zero_testBit] at he
    exact absurd he (by decide)
  have hmem : (SEAM_PLANE_CFG h (q / 16), s.rd (SEAM_PLANE_CFG h (q / 16))) ∈ s.regs := mem_of_mapGet_ne _ _ _ hne
  have hidx : (SEAM_PLANE_CFG h (q / 16) - SEAM_PLANE_CFG h 0) / 64 = q / 16 := by simp only [SEAM_PLANE_CFG]; omega
  have hrun : SEAM_PLANE_CFG h 0 ≤ SEAM_PLANE_CFG h (q / 16) ∧ SEAM_PLANE_CFG h (q / 16) < SEAM_PLANE_CFG h 2048 ∧
      (SEAM_PLANE_CFG h (q / 16) - SEAM_PLANE_CFG h 0) % 64 = 0 := by simp only [SEAM_PLANE_CFG]; omega
  refine List.mem_flatMap.2 ⟨_, List.mem_filter.2 ⟨hmem, by simp [hrun]⟩, List.mem_map.2 ⟨q % 16, List.mem_filter.2 ⟨?_, he⟩, ?_⟩⟩
  · simp only [List.mem_range]; omega
  · rw [hidx]; omega

theorem KeepsTable.queueDue (s : State) (h : Half) : KeepsTable h s (s.queueDue h) := by
  unfold State.queueDue
  exact modNv s h _ fun _ => rfl

/-- A plane that is due has a refresh queued. -/
theorem refreshes_queueDue (hq : q < 32768) (he : s.planeEn h q = true) (hd : s.planeDue h q = true) (hr : s.refreshes h q = false) :
    (s.queueDue h).refreshes h q = true := by
  have hr' : (s.half h).nv.refreshes.any (fun r => r.plane == q) = false := hr
  unfold State.refreshes State.queueDue
  rw [State.modNv_nv]
  refine List.any_eq_true.2 ⟨{ plane := q }, List.mem_append_right _ (List.mem_map.2 ⟨q, List.mem_filter.2 ⟨mem_enabledPlanes hq he, ?_⟩, rfl⟩),
    by simp⟩
  simp [hd, hr']

theorem refreshDue_queues (hq : q < 32768) (he : s.planeEn h q = true) (hd : s.planeDue h q = true) :
    (s.refreshDue h q).refreshes h q = true ∧ KeepsTable h s (s.refreshDue h q) := by
  unfold State.refreshDue
  cases hr : s.refreshes h q with
  | true =>
    have hr' : (s.half h).nv.refreshes.any (fun r => r.plane == q) = true := hr
    simp only [he, hd, hr', Bool.not_true, Bool.and_false, Bool.false_eq_true, if_false]
    exact ⟨hr, .refl s⟩
  | false =>
    have hr' : (s.half h).nv.refreshes.any (fun r => r.plane == q) = false := hr
    simp only [he, hd, hr', Bool.not_false, Bool.and_self, if_true]
    have kq := KeepsTable.queueDue s h
    refine ⟨?_, kq.trans (.runRefresh ..)⟩
    rw [refreshes_runRefresh _ h hq (.inl ((kq.planeEn hq).trans he)), refreshes_queueDue hq he hd hr]

/-! ## REFRESH_COMPLETE (R102, R105, Table 4.2) -/

theorem exec_refreshComplete (hl : s.live = true) : exec (.refreshComplete h q) s = .next (s.refreshDone h q) :=
  whenLive_of_live hl (fun s => s.refreshDone h q)

/-- A plane's age stays known as it was, and whether it has a refresh; no stored row changes. -/
structure KeepsAge (h : Half) (q : Nat) (s t : State) : Prop where
  minute : (t.planeRec h q).minute = (s.planeRec h q).minute
  wall : t.wall h = s.wall h
  refreshes : t.refreshes h q = s.refreshes h q
  rows : (t.half h).nv.rows = (s.half h).nv.rows

namespace KeepsAge

theorem refl (s : State) : KeepsAge h q s s := ⟨rfl, rfl, rfl, rfl⟩

theorem trans (k : KeepsAge h q s t) (l : KeepsAge h q t u) : KeepsAge h q s u :=
  ⟨l.minute.trans k.minute, l.wall.trans k.wall, l.refreshes.trans k.refreshes, l.rows.trans k.rows⟩

theorem wf (s : State) (h : Half) (q a : Nat) (f : Fld) (v : Nat) (ha : a + f.off ≠ NV_WALL_MINUTES h) : KeepsAge h q s (s.wf a f v) where
  minute := congrArg PlaneRec.minute (State.planeRec_congr (by rw [State.wf_half]) q)
  wall := State.rf_wf_ne _ _ _ _ (Ne.symm ha)
  refreshes := State.refreshes_congr (by rw [State.wf_half]) q
  rows := by rw [State.wf_half]

theorem modPlane (s : State) (h : Half) (q : Nat) (g : PlaneRec → PlaneRec) (hg : ∀ r, (g r).minute = r.minute) :
    KeepsAge h q s (s.modPlane h q g) where
  minute := by rw [State.planeRec_modPlane, if_pos rfl, hg]
  wall := State.modPlane_rf ..
  refreshes := by unfold State.refreshes State.modPlane; rw [State.modNv_nv]
  rows := by unfold State.modPlane; rw [State.modNv_nv]

theorem modCmd (s : State) (h : Half) (q : Nat) (g : NvCmd → NvCmd) : KeepsAge h q s (s.modCmd h .host g) where
  minute := congrArg PlaneRec.minute (State.planeRec_congr (by rw [State.modCmd_nv, NvHalf.setPort_planes]) q)
  wall := State.rf_modCmd _ _ _ _ (by simp only [nvStatusAddr, NV_WALL_MINUTES, NV_CMD_STATUS]; omega)
  refreshes := by unfold State.refreshes; rw [State.modCmd_nv, NvHalf.setPort_refreshes]
  rows := by rw [State.modCmd_nv, NvHalf.setPort_rows]

theorem progress (s : State) (h : Half) (q n m : Nat) : KeepsAge h q s (s.progress h .host n m) := by
  have hne : NV_CMD_PROGRESS h + 0 ≠ NV_WALL_MINUTES h := by simp only [NV_CMD_PROGRESS, NV_WALL_MINUTES]; omega
  exact (wf s h q _ _ _ hne).trans (wf _ h q _ _ _ hne)

/-- A plane enters WATCH (Table 4.2). -/
theorem watch (s : State) (h : Half) (q : Nat) : KeepsAge h q s (s.enterHealth h q 3) := by
  have hne : NV_PLANE_HEALTH h q + 0 ≠ NV_WALL_MINUTES h := by simp only [NV_PLANE_HEALTH, NV_WALL_MINUTES]; omega
  exact ((wf s h q _ _ _ hne).trans (modPlane _ h q (fun r => { r with clean := 0 }) fun _ => rfl)).trans (wf _ h q _ _ _ hne)

end KeepsAge

theorem tableReg_wall (h : Half) : tableReg h (NV_WALL_MINUTES h) := by
  refine ⟨?_, ?_, fun m _ => ?_⟩
  · unfold NV_WALL_MINUTES
    rw [arrayReg_iff] <;> omega
  all_goals simp only [NV_WALL_MINUTES, NV_REFRESH_CTRL, SEAM_STATUS]; omega

theorem KeepsTable.wall (k : KeepsTable h s t) : t.wall h = s.wall h := k.rf (tableReg_wall h)

/-- A refresh that completes has renewed the plane's age (R102, R105). -/
theorem refreshDone_renews (hr : s.refreshAt h q 1024 = some r) (hw : 0 < s.wall h) (hq : q < 32768) :
    (s.refreshDone h q).planeAge h q = some 0 ∧ (s.refreshDone h q).refreshes h q = false ∧
    ((s.refreshDone h q).half h).nv.rows = (s.half h).nv.rows := by
  set s1 := (s.renewAge h q).modNv h (fun n => { n with refreshes := n.refreshes.filter (fun r => r.plane != q) }) with hs1
  have hm : (s1.planeRec h q).minute = some (s.wall h : Int) := by
    rw [hs1, State.planeRec_congr (s := s.renewAge h q) (by rw [State.modNv_nv]), State.renewAge, State.planeRec_modPlane, if_pos rfl,
      if_neg (by omega)]
  have hwall : s1.wall h = s.wall h := (State.modNv_rf ..).trans (State.modPlane_rf ..)
  have hno : s1.refreshes h q = false := by
    rw [hs1, State.refreshes, State.modNv_nv]
    exact List.any_eq_false.2 fun r hr => by simpa using (List.mem_filter.1 hr).2
  have hrows : (s1.half h).nv.rows = (s.half h).nv.rows := by
    rw [hs1, State.modNv_nv, State.renewAge, State.modPlane, State.modNv_nv]
  set s2 := if r.urgent && s1.health h q == 2 then s1.enterHealth h q 3 else s1 with hs2
  have k2 : KeepsAge h q s1 s2 := by
    rw [hs2]
    split
    · exact .watch ..
    · exact .refl s1
  set s3 := if r.cmd then
        ((s2.modCmd h .host (fun c => { c with words := classWords 1024 r.lowN r.highN r.outN })).progress h .host 1 1).nvFinish h .host 0
      else s2 with hs3
  have k3 : KeepsAge h q s1 s3 := by
    refine k2.trans ?_
    rw [hs3]
    split
    · exact ((KeepsAge.modCmd ..).trans (.progress ..)).trans (.modCmd ..)
    · exact .refl s2
  have e : s.refreshDone h q = s3.runRefresh h := by
    unfold State.refreshDone
    rw [hr]
  have kt : KeepsTable h s3 (s3.runRefresh h) := .runRefresh ..
  have hno3 : s3.refreshes h q = false := k3.refreshes.trans hno
  rw [e]
  refine ⟨?_, (refreshes_runRefresh _ h hq (.inr hno3)).trans hno3, kt.rows.trans (k3.rows.trans hrows)⟩
  unfold State.planeAge
  rw [kt.wall, k3.wall, hwall, if_neg (by omega), State.planeRec_congr kt.planes, k3.minute, hm]
  simp

/-! ## PLANE_TABLE_COMMIT (R64) -/

theorem exec_planeTableCommit (hl : s.live = true) : exec (.planeTableCommit h) s = .next (s.tableCommit h) :=
  whenLive_of_live hl (fun s => s.tableCommit h)

/-- The word of one Seam goes into the plane table. -/
def State.commitSeam (h : Half) (s : State) (n : Nat) : State :=
  (s.modNv h (fun m => { m with cfg := mapSet (fun _ => 0) m.cfg n (s.cfgWord h n) })).wf (SEAM_STATUS h n) SEAM_STATUS.CFG_PENDING
    (b2n (!((s.half h).nv.relPlanes n).isEmpty))

/-- The words of all Seams with a commit due are in the plane table. -/
def State.committed (s : State) (h : Half) : State :=
  ((s.half h).nv.committing.foldl (State.commitSeam h) s).modNv h (fun n => { n with committing := [] })

theorem tableCommit_eq (s : State) (h : Half) : s.tableCommit h = ((s.committed h).afterCommit h .host).afterCommit h .loader := rfl

@[simp] theorem commitSeam_nv (s : State) (h : Half) (n : Nat) : ((s.commitSeam h n).half h).nv =
    { (s.half h).nv with cfg := mapSet (fun _ => 0) (s.half h).nv.cfg n (s.cfgWord h n) } := by
  rw [State.commitSeam, State.wf_half, State.modNv_nv]

theorem rd_commitSeam (s : State) {n : Nat} (ha : a ≠ SEAM_STATUS h n) : (s.commitSeam h n).rd a = s.rd a := by
  rw [State.commitSeam, State.rd_wf_ne _ _ _ (by simpa using ha), State.modNv_rd]

/-- Of the controller, commits change the table alone. -/
theorem foldl_commitSeam_nv (l : List Nat) (s : State) : ((l.foldl (State.commitSeam h) s).half h).nv =
    { (s.half h).nv with cfg := ((l.foldl (State.commitSeam h) s).half h).nv.cfg } := by
  induction l generalizing s with
  | nil => rfl
  | cons n l ih =>
    refine (ih (s.commitSeam h n)).trans ?_
    rw [commitSeam_nv]
    rfl

theorem committed_nv (s : State) (h : Half) :
    ∃ m, ((s.committed h).half h).nv = { (s.half h).nv with cfg := m, committing := [] } :=
  ⟨_, by rw [State.committed, State.modNv_nv, foldl_commitSeam_nv]⟩

theorem nvCmd_committed (s : State) (h : Half) (p : NvPort) : (s.committed h).nvCmd h p = s.nvCmd h p := by
  obtain ⟨m, hm⟩ := committed_nv s h
  exact State.nvCmd_congr (by rw [hm]; cases p <;> rfl)

theorem rd_committed (s : State) (h : Half) (ha : ∀ m ∈ (s.half h).nv.committing, a ≠ SEAM_STATUS h m) :
    (s.committed h).rd a = s.rd a :=
  (State.modNv_rd ..).trans (rd_foldl_mem (fun n hn t => rd_commitSeam t (ha n hn)) _)

/-- A field written with what it reads leaves its word as it was. -/
theorem putF_getF (w : Word) (f : Fld) : putF w f (getF w f) = w := by
  refine BitVec.eq_of_getLsbD_eq fun i hi => ?_
  rw [putF_getLsbD _ _ _ _ hi, getF_testBit]
  split
  · next hb => simp [show i - f.lo < f.len by omega, show f.lo + (i - f.lo) = i by omega]
  · rfl

/-- With no release under way a commit writes the word as it stands. -/
theorem cfgWord_of_no_release (hr : (s.half h).nv.releases = []) (n : Nat) : s.cfgWord h n = s.rd (SEAM_PLANE_CFG h n) := by
  simp only [State.cfgWord, NvHalf.relPlanes, hr, List.filter_nil, List.flatMap_nil, List.foldl_nil]
  exact putF_getF _ _

/-- The Seam's SEAM_PLANE_CFG stands in the plane table, and CFG_PENDING shows it. -/
def State.inTable (s : State) (h : Half) (n : Nat) : Prop :=
  mapGet (fun _ => 0) (s.half h).nv.cfg n = s.rd (SEAM_PLANE_CFG h n) ∧ s.rf (SEAM_STATUS h n) SEAM_STATUS.CFG_PENDING = 0

theorem planeCfg_ne_status (h : Half) (n m : Nat) : SEAM_PLANE_CFG h n ≠ SEAM_STATUS h m := by
  simp only [SEAM_PLANE_CFG, SEAM_STATUS]; omega

theorem inTable_commitSeam (hr : (s.half h).nv.releases = []) {n m : Nat} (hm : m = n ∨ s.inTable h m) : (s.commitSeam h n).inTable h m := by
  unfold State.inTable
  rw [rd_commitSeam s (planeCfg_ne_status h m n), commitSeam_nv, cfgWord_of_no_release hr]
  by_cases e : m = n
  · subst e
    have h0 : b2n (!((s.half h).nv.relPlanes m).isEmpty) = 0 := by simp [NvHalf.relPlanes, hr, b2n]
    refine ⟨mapGet_mapSet_same .., ?_⟩
    rw [State.commitSeam, h0]
    exact State.rf_wf_same _ _ _ (by decide) (by decide)
  · obtain ⟨hc, hp⟩ := hm.resolve_left e
    refine ⟨(mapGet_mapSet_ne _ _ _ e).trans hc, ?_⟩
    rw [State.commitSeam, State.rf_wf_ne _ _ _ _ (by simp only [SEAM_STATUS]; omega), State.modNv_rf, hp]

theorem inTable_foldl (l : List Nat) (hr : (s.half h).nv.releases = []) {m : Nat} (hm : m ∈ l ∨ s.inTable h m) :
    (l.foldl (State.commitSeam h) s).inTable h m := by
  induction l generalizing s with
  | nil => exact hm.resolve_left List.not_mem_nil
  | cons n l ih =>
    refine ih (by rw [commitSeam_nv]; exact hr) ?_
    rcases hm with hm | hm
    · rcases List.mem_cons.1 hm with e | hm
      · exact .inr (inTable_commitSeam hr (.inl e))
      · exact .inl hm
    · exact .inr (inTable_commitSeam hr (.inr hm))

theorem inTable_committed (hr : (s.half h).nv.releases = []) {m : Nat} (hm : m ∈ (s.half h).nv.committing) : (s.committed h).inTable h m := by
  have k := inTable_foldl _ hr (.inl hm)
  unfold State.inTable State.committed at *
  rwa [State.modNv_nv, State.modNv_rd, State.modNv_rf]

theorem State.afterCommit_none {p : NvPort} (hc : s.nvCmd h p = none) : s.afterCommit h p = s := by simp only [State.afterCommit, hc]

/-- An erase that waited for the commit goes on to its ERASE_BEGIN (R131). -/
theorem State.afterCommit_erase {p : NvPort} {l : List Nat} (hs : (s.half h).nv.stopping = false) (hc : s.nvCmd h p = some c)
    (hph : c.phase = .commit) (hpl : c.planes = q :: l) :
    s.afterCommit h p = (((s.endRefresh h q).runRefresh h).modCmd h p (fun c => { c with phase := .ledgerBegin })).askLedger h 1 (planeId h q)
      (s.rf (NV_PLANE_HEALTH h q) NV_PLANE_HEALTH.PE_CYCLES) (.cmd p) := by
  simp only [State.afterCommit, hc, hph, hs, ne_eq, not_true_eq_false, Bool.false_eq_true, or_self, if_false, hpl]

/-- With no command on a port a commit is all that happens. -/
theorem tableCommit_idle (hc : s.nvCmd h .host = none) (hl : s.nvCmd h .loader = none) : s.tableCommit h = s.committed h := by
  rw [tableCommit_eq, State.afterCommit_none ((nvCmd_committed ..).trans hc), State.afterCommit_none ((nvCmd_committed ..).trans hl)]

theorem tableCommit_erases {l : List Nat} (hs : (s.half h).nv.stopping = false) (hc : s.nvCmd h .host = some c)
    (hl : s.nvCmd h .loader = none) (hph : c.phase = .commit) (hpl : c.planes = q :: l)
    (hcom : ∀ n ∈ (s.half h).nv.committing, n < 2048) :
    ((s.tableCommit h).nvCmd h .host).map (fun c => c.phase) = some .ledgerBegin ∧
    ((s.tableCommit h).half h).nv.ledgerQ = (s.half h).nv.ledgerQ ++
      [(LedgerRec.mk 1 (planeId h q) 0 (s.rf (NV_PLANE_HEALTH h q) NV_PLANE_HEALTH.PE_CYCLES) 1 0, .cmd .host)] := by
  obtain ⟨m, hm⟩ := committed_nv s h
  have hpe : (s.committed h).rf (NV_PLANE_HEALTH h q) NV_PLANE_HEALTH.PE_CYCLES = s.rf (NV_PLANE_HEALTH h q) NV_PLANE_HEALTH.PE_CYCLES := by
    unfold State.rf
    rw [rd_committed s h fun n hn => by have := hcom n hn; simp only [NV_PLANE_HEALTH, SEAM_STATUS]; omega]
  set u := ((s.committed h).endRefresh h q).runRefresh h with hu
  have ku : KeepsTable h (s.committed h) u := (KeepsTable.endRefresh ..).trans (.runRefresh ..)
  have e := State.afterCommit_erase (s := s.committed h) (by rw [hm]; exact hs) ((nvCmd_committed ..).trans hc) hph hpl
  rw [hpe, ← hu] at e
  set v := (u.modCmd h .host (fun c => { c with phase := .ledgerBegin })).askLedger h 1 (planeId h q)
      (s.rf (NV_PLANE_HEALTH h q) NV_PLANE_HEALTH.PE_CYCLES) (.cmd .host) with hv
  have hucmd : ∀ p, u.nvCmd h p = s.nvCmd h p := fun p => (State.nvCmd_congr (ku.port p)).trans (nvCmd_committed s h p)
  have hvcmd : ∀ p, v.nvCmd h p = (u.modCmd h .host (fun c => { c with phase := .ledgerBegin })).nvCmd h p := fun p =>
    State.nvCmd_congr (by rw [hv, State.askLedger_nv]; cases p <;> rfl)
  have hvl : v.nvCmd h .loader = none := by
    rw [hvcmd, State.nvCmd_congr (s := u) (by rw [State.modCmd_nv, NvHalf.port_setPort_ne _ _ (by decide)]), hucmd, hl]
  have hq' : (u.half h).nv.ledgerQ = (s.half h).nv.ledgerQ := by rw [ku.ledgerQ, hm]
  rw [tableCommit_eq, e, State.afterCommit_none hvl]
  constructor
  · rw [hvcmd, State.nvCmd_modCmd, hucmd, hc]
    rfl
  · rw [hv, State.askLedger_nv, State.modCmd_nv, NvHalf.setPort_ledgerQ, hq']

end Sys2Proof.Machine
end

section
/-! PROOF. Writes of the plane table and the stuck-cell table, the ages of planes, and continuous reads (R64, R99, R105, R112, R136). -/

namespace Sys2Proof.Machine

variable {s t u : State} {h : Half} {a q v : Nat}

/-! ## SEAM_PLANE_CFG_WRITE (R64, R99) -/

theorem exec_seamPlaneCfgWrite {x : Nat} (hl : s.live = true) (hx : x < 2048) :
    exec (.seamPlaneCfgWrite h x v) s = .next (s.planeCfgWrite h x v) :=
  (whenLive_of_live hl (fun s => if x < 2048 then s.planeCfgWrite h x v else s)).trans (by rw [if_pos hx])

/-- Does the write change W7 of a plane that stays enabled? -/
def State.cfgClash (s : State) (h : Half) (x v : Nat) : Bool :=
  (List.range 16).any (fun i => bit (s.rf (SEAM_PLANE_CFG h x) SEAM_PLANE_CFG.EN) i && bit (bits v 0 16) i &&
    bit (s.rf (SEAM_PLANE_CFG h x) SEAM_PLANE_CFG.W7) i != bit (bits v 16 16) i)

theorem planeCfgWrite_clash {x : Nat} (hc : s.cfgClash h x v = true) :
    s.planeCfgWrite h x v = s.log h { logSoft 7 v with subject := 2048 * h.num + x, kind := 3 } := by
  unfold State.planeCfgWrite
  exact if_pos hc

theorem planeCfgWrite_taken {x : Nat} (hc : s.cfgClash h x v = false) (hu : ∀ i < 16, s.health h (16 * x + i) ≠ 5) :
    s.planeCfgWrite h x v = (((s.wf (SEAM_PLANE_CFG h x) SEAM_PLANE_CFG.EN (bits v 0 16)).wf (SEAM_PLANE_CFG h x) SEAM_PLANE_CFG.W7
      (bits v 16 16)).cfgPending h x).runRefresh h := by
  have hb : (List.range 16).filter (fun i => bit (bits v 0 16) i && s.health h (16 * x + i) == 5) = [] := by
    refine List.filter_eq_nil_iff.2 fun i hi => ?_
    simp [hu i (List.mem_range.1 hi)]
  unfold State.planeCfgWrite
  dsimp only
  rw [if_neg (by rw [State.cfgClash] at hc; rw [hc]; decide), hb]
  rfl

theorem bits_testBit (n lo len i : Nat) : (bits n lo len).testBit i = (decide (i < len) && n.testBit (lo + i)) := by
  rw [bits, Nat.testBit_mod_two_pow, Nat.testBit_shiftRight]

theorem bit_bits_sub {lo len i : Nat} (hi : i < len) : bit (bits v lo len) i = bit v (lo + i) := by
  rw [bit_eq_testBit, bit_eq_testBit, bits_testBit, decide_eq_true hi, Bool.true_and]

theorem cfgClash_of_changed {x i : Nat} (hi : i < 16) (he : bit (s.rf (SEAM_PLANE_CFG h x) SEAM_PLANE_CFG.EN) i = true) (hv : bit v i = true)
    (hw : bit (s.rf (SEAM_PLANE_CFG h x) SEAM_PLANE_CFG.W7) i ≠ bit v (16 + i)) : s.cfgClash h x v = true := by
  refine List.any_eq_true.2 ⟨i, List.mem_range.2 hi, ?_⟩
  rw [bit_bits_sub hi, bit_bits_sub hi, he, Nat.zero_add, hv, Bool.true_and, Bool.true_and]
  exact bne_iff_ne.2 hw

theorem not_cfgClash {x : Nat} (he : bits v 0 16 = 0 ∨ s.rf (SEAM_PLANE_CFG h x) SEAM_PLANE_CFG.EN = 0) : s.cfgClash h x v = false := by
  refine List.any_eq_false.2 fun i _ => ?_
  have h0 : bit 0 i = false := by rw [bit_eq_testBit, Nat.zero_testBit]
  rcases he with he | he <;> simp [he, h0]

/-- The two fields written one after the other make up the whole word. -/
theorem putF_en_w7 (w : Word) (v : Nat) : putF (putF w SEAM_PLANE_CFG.EN (bits v 0 16)) SEAM_PLANE_CFG.W7 (bits v 16 16) = BitVec.ofNat 32 v := by
  refine BitVec.eq_of_getLsbD_eq fun i hi => ?_
  rw [putF_getLsbD _ _ _ _ hi, putF_getLsbD _ _ _ _ hi, BitVec.getLsbD_ofNat, decide_eq_true hi, Bool.true_and]
  by_cases h16 : 16 ≤ i
  · rw [if_pos ⟨h16, hi⟩, bits_testBit, decide_eq_true (by simp only; omega), Bool.true_and]
    congr 1; simp only; omega
  · rw [if_neg (by simp only; omega), if_pos (by simp only; omega), bits_testBit, decide_eq_true (by simp only; omega), Bool.true_and]
    congr 1; simp

theorem rd_wf_wf (s : State) (a : Nat) (f g : Fld) (v w : Nat) (hf : f.off = 0) (hg : g.off = 0) :
    ((s.wf a f v).wf a g w).rd a = putF (putF (s.rd a) f v) g w := by
  unfold State.wf
  rw [hf, hg]
  simp only [Nat.add_zero, State.rd_wr_same]

@[simp] theorem State.cfgPending_rd (s : State) (h : Half) (x : Nat) (ha : a ≠ SEAM_STATUS h x) : (s.cfgPending h x).rd a = s.rd a := by
  unfold State.cfgPending
  dsimp only
  rw [State.modNv_rd, State.rd_wf_ne _ _ _ (by simpa using ha)]

theorem State.cfgPending_shown (s : State) (h : Half) (x : Nat) : (s.cfgPending h x).rf (SEAM_STATUS h x) SEAM_STATUS.CFG_PENDING = 1 := by
  unfold State.cfgPending
  dsimp only
  rw [State.modNv_rf, State.rf_wf_same _ _ _ (by decide) (by decide)]

theorem State.cfgPending_cfg (s : State) (h : Half) (x : Nat) : ((s.cfgPending h x).half h).nv.cfg = (s.half h).nv.cfg := by
  unfold State.cfgPending
  dsimp only
  rw [State.modNv_nv, State.wf_half]
  split <;> rfl

theorem State.cfgPending_committing (s : State) (h : Half) (x : Nat) : x ∈ ((s.cfgPending h x).half h).nv.committing := by
  unfold State.cfgPending
  dsimp only
  rw [State.modNv_nv, State.wf_half]
  split
  · next hx => exact List.contains_iff_mem.1 hx
  · exact List.mem_append_right _ List.mem_cons_self

theorem planeCfgWrite_pending {x : Nat} (hx : x < 2048) (he : bits v 0 16 = 0 ∨ s.rf (SEAM_PLANE_CFG h x) SEAM_PLANE_CFG.EN = 0)
    (hu : ∀ i < 16, s.health h (16 * x + i) ≠ 5) :
    (s.planeCfgWrite h x v).rd (SEAM_PLANE_CFG h x) = BitVec.ofNat 32 v ∧
    (s.planeCfgWrite h x v).rf (SEAM_STATUS h x) SEAM_STATUS.CFG_PENDING = 1 ∧
    x ∈ ((s.planeCfgWrite h x v).half h).nv.committing ∧ ((s.planeCfgWrite h x v).half h).nv.cfg = (s.half h).nv.cfg ∧
    (∀ y < 2048, y ≠ x → (s.planeCfgWrite h x v).rd (SEAM_PLANE_CFG h y) = s.rd (SEAM_PLANE_CFG h y)) := by
  rw [planeCfgWrite_taken (not_cfgClash he) hu]
  set s1 := (s.wf (SEAM_PLANE_CFG h x) SEAM_PLANE_CFG.EN (bits v 0 16)).wf (SEAM_PLANE_CFG h x) SEAM_PLANE_CFG.W7 (bits v 16 16) with hs1
  have k := KeepsTable.runRefresh (s1.cfgPending h x) h
  have hcfg : ∀ y < 2048, ((s1.cfgPending h x).runRefresh h).rd (SEAM_PLANE_CFG h y) = s1.rd (SEAM_PLANE_CFG h y) := fun y hy => by
    rw [k.rd _ (tableReg_planeCfg h hy), State.cfgPending_rd s1 h x (planeCfg_ne_status h y x)]
  refine ⟨?_, (k.cfgPending x hx).trans (s1.cfgPending_shown h x), ?_, ?_, fun y hy hyx => ?_⟩
  · rw [hcfg x hx, hs1, rd_wf_wf _ _ _ _ _ _ rfl rfl, putF_en_w7]
  · rw [k.committing]; exact s1.cfgPending_committing h x
  · rw [k.cfg, s1.cfgPending_cfg, hs1, State.wf_half, State.wf_half]
  · have hne : SEAM_PLANE_CFG h y ≠ SEAM_PLANE_CFG h x + 0 := by simp only [SEAM_PLANE_CFG]; omega
    rw [hcfg y hy, hs1, State.rd_wf_ne _ _ _ hne, State.rd_wf_ne _ _ _ hne]

/-! ## STUCK_STATE_WRITE (R112) -/

theorem exec_stuckStateWrite {i : Nat} (hl : s.live = true) (hi : i < 1024) :
    exec (.stuckStateWrite h i v) s = .next (s.stuckWrite h i v) :=
  (whenLive_of_live hl (fun s => if i < 1024 then s.stuckWrite h i v else s)).trans (by rw [if_pos hi])

/-! ## Ages (R105) -/

theorem exec_wallMinuteTick (hp : s.stage ≠ .off) : exec .wallMinuteTick s = .next ((s.minute .west).minute .east) :=
  congrArg Host.Outcome.next (if_neg hp)

theorem exec_nvWallMinutesWrite (hl : s.live = true) : exec (.nvWallMinutesWrite h v) s = .next (s.wallWrite h v) :=
  whenLive_of_live hl (fun s => s.wallWrite h v)

theorem onlyRegs_minute (hw : s.wall h ≠ 0) : onlyRegs [NV_WALL_MINUTES h, NV_REFRESH_CTRL h] s (s.minute h) := by
  unfold State.minute State.checkCatchup
  rw [if_neg hw]
  have k : onlyRegs [NV_WALL_MINUTES h, NV_REFRESH_CTRL h] s (s.add (NV_WALL_MINUTES h) NV_WALL_MINUTES.MINUTES 1) :=
    onlyRegs_wf (onlyRegs_refl _ s) _ _ _ (by simp)
  split
  · exact k
  · exact onlyRegs_wf k _ _ _ (by simp)

theorem wall_minute (hw : s.wall h ≠ 0 ∧ s.wall h < 2 ^ 32 - 1) : (s.minute h).wall h = s.wall h + 1 := by
  unfold State.minute
  rw [if_neg hw.1, (KeepsTable.checkCatchup _ h).wall]
  exact State.rf_wf_same _ _ _ (by decide) (by have := hw.2; simp only; unfold State.wall at this; omega)

theorem wall_of_onlyRegs {as : List Nat} (k : onlyRegs as s t) (ha : NV_WALL_MINUTES h ∉ as) : t.wall h = s.wall h := by
  unfold State.wall State.rf
  rw [k.2 _ (by simpa using ha)]

theorem minutes_tick (hw : ∀ h : Half, s.wall h ≠ 0 ∧ s.wall h < 2 ^ 32 - 1) :
    onlyRegs [NV_WALL_MINUTES .west, NV_WALL_MINUTES .east, NV_REFRESH_CTRL .west, NV_REFRESH_CTRL .east] s ((s.minute .west).minute .east) ∧
    ∀ h, ((s.minute .west).minute .east).wall h = s.wall h + 1 := by
  have kw := onlyRegs_minute (hw .west).1
  have he : (s.minute .west).wall .east = s.wall .east := wall_of_onlyRegs kw (by decide)
  have ke : onlyRegs [NV_WALL_MINUTES .east, NV_REFRESH_CTRL .east] (s.minute .west) ((s.minute .west).minute .east) :=
    onlyRegs_minute (by rw [he]; exact (hw .east).1)
  refine ⟨onlyRegs_trans (onlyRegs_mono (by simp) kw) (onlyRegs_mono (by simp) ke), fun h => ?_⟩
  cases h
  case west => rw [wall_of_onlyRegs ke (by decide), wall_minute (hw .west)]
  case east => rw [wall_minute (by rw [he]; exact hw .east), he]

/-- The first write of the wall count dates the events counted so far. -/
def PlaneRec.dated (w : Nat) (r : PlaneRec) : PlaneRec :=
  match r.elapsed with
  | some e => { r with minute := some ((w : Int) - e), elapsed := none }
  | none => r

theorem PlaneRec.dated_dated (w : Nat) (r : PlaneRec) : (r.dated w).dated w = r.dated w := by
  cases he : r.elapsed with
  | none =>
    have e : r.dated w = r := by rw [dated, he]
    rw [e, e]
  | some e => simp only [dated, he]

theorem PlaneRec.dated_some {w e : Nat} {r : PlaneRec} (he : r.elapsed = some e) : (r.dated w).minute = some ((w : Int) - e) := by
  unfold dated
  rw [he]

/-- A change of planes' records that is the same done twice is done once on each plane of a list. -/
theorem planeRec_foldl_modPlane {g : PlaneRec → PlaneRec} (hg : ∀ r, g (g r) = g r) (l : List Nat) (s : State) :
    (l.foldl (fun s q => s.modPlane h q g) s).planeRec h q = if q ∈ l then g (s.planeRec h q) else s.planeRec h q := by
  induction l generalizing s with
  | nil => rfl
  | cons p l ih =>
    rw [List.foldl_cons, ih, State.planeRec_modPlane]
    by_cases hp : q = p
    · subst hp
      simp [hg]
    · simp [hp]

/-- A write of the wall count that does not lie before it. -/
theorem wallWrite_taken (hv : v < 2 ^ 32) (hw : s.wall h ≤ v) (h0 : v ≠ 0) : s.wallWrite h v =
    ((s.recPlanes h).foldl (fun s q => s.modPlane h q (PlaneRec.dated v)) (s.wf (NV_WALL_MINUTES h) NV_WALL_MINUTES.MINUTES v)).runRefresh h := by
  unfold State.wallWrite
  dsimp only
  rw [Nat.mod_eq_of_lt hv, if_neg (by omega), if_neg h0]
  rfl

theorem wallWrite_back (hv : v % 2 ^ 32 < s.wall h) : s.wallWrite h v = s.log h (logSoft 7 v) := if_pos hv

theorem wallWrite_dates (hv : v < 2 ^ 32) (hw : s.wall h ≤ v) (h0 : v ≠ 0) : (s.wallWrite h v).wall h = v ∧
    ∀ q e, (s.planeRec h q).elapsed = some e → q ∈ s.recPlanes h → ((s.wallWrite h v).planeRec h q).minute = some ((v : Int) - e) := by
  rw [wallWrite_taken hv hw h0]
  set s1 := s.wf (NV_WALL_MINUTES h) NV_WALL_MINUTES.MINUTES v with hs1
  set s2 := (s.recPlanes h).foldl (fun s q => s.modPlane h q (PlaneRec.dated v)) s1 with hs2
  have k := KeepsTable.runRefresh s2 h
  refine ⟨?_, fun q e he hq => ?_⟩
  · rw [k.wall, State.wall, hs2, rf_foldl (fun t p => State.modPlane_rf ..), hs1]
    exact State.rf_wf_same _ _ _ (by decide) hv
  · rw [State.planeRec_congr k.planes, hs2, planeRec_foldl_modPlane (PlaneRec.dated_dated v), if_pos hq]
    exact PlaneRec.dated_some (by rw [hs1, State.planeRec_congr (s := s) (by rw [State.wf_half]), he])

/-! ## CONT_READ_APERTURE_READ and ROW_SENSE_DONE (R136) -/

theorem exec_contReadApertureRead {off : Nat} (hl : s.live = true) (ho : off < 0x100000 ∧ off % 64 = 0) (func : Nat) :
    exec (.contReadApertureRead h func off 64) s = .next (s.apertureRead h func off 64) :=
  (whenLive_of_live hl (fun s => if off < 0x100000 ∧ 4 ≤ 64 ∧ 64 ≤ 64 ∧ off % 4 = 0 ∧ 64 % 4 = 0 ∧ off % 64 + 64 ≤ 64 then
    s.apertureRead h func off 64 else s)).trans (by rw [if_pos (by omega)])

theorem apertureRead_held {off len im : Nat} {bs : List Byte} (hc : (s.half h).nv.host.cont = some (q, im))
    (hf : (s.half h).nv.sensed.find? (fun e => e.1 == off / 1024) = some (off / 1024, bs)) :
    s.apertureRead h 0 off len = s.readGive h 0 (apertureOff h off) (slice bs (off % 1024) len) := by
  unfold State.apertureRead
  simp only [hc, hf, ne_eq, not_true_eq_false, if_false]

theorem apertureRead_waits {off len im : Nat} (hc : (s.half h).nv.host.cont = some (q, im))
    (hf : (s.half h).nv.sensed.find? (fun e => e.1 == off / 1024) = none) :
    ((s.apertureRead h 0 off len).half h).nv.reads = (s.half h).nv.reads ++ [ContRead.mk 0 off len] := by
  unfold State.apertureRead
  simp only [hc, hf, ne_eq, not_true_eq_false, if_false]
  rw [nv_need, State.modNv_nv]

theorem exec_rowSenseDone {row : Nat} (hl : s.live = true) (hq : q < 32768 ∧ row < 1024) (odd : List CellAt) :
    exec (.rowSenseDone h q row odd) s = .next (s.senseDone h q row odd) :=
  (whenLive_of_live hl (fun s => if q < 32768 ∧ row < 1024 then s.senseDone h q row odd else s)).trans (by rw [if_pos hq])

@[simp] theorem State.readGive_nv (s : State) (h x : Half) (f off : Nat) (bs : List Byte) : ((s.readGive h f off bs).half x).nv = (s.half x).nv := by
  cases h <;> cases x <;> rfl

@[simp] theorem State.readGive_rd (s : State) (h : Half) (f off : Nat) (bs : List Byte) (a : Nat) : (s.readGive h f off bs).rd a = s.rd a := by
  cases h <;> rfl

/-- The row goes to T0 sources; continuous reads and the rows held for them stay. -/
theorem slcSensed_held (n : NvHalf) (r : Nat) : (n.slcSensed r).sensed = n.sensed ∧ (n.slcSensed r).reads = n.reads := by
  unfold NvHalf.slcSensed
  generalize n.slcAsk.filter (fun e => e.2 == r) = l
  induction l generalizing n with
  | nil => exact ⟨rfl, rfl⟩
  | cons e l ih => exact ih _

/-- The rows held once another has been sensed: it is the last, and they are at most four. -/
def heldRows (l : List (Nat × List Byte)) (row : Nat) (bs : List Byte) : List (Nat × List Byte) :=
  (l.filter (fun e => e.1 != row) ++ [(row, bs)]).drop ((l.filter (fun e => e.1 != row)).length - 3)

theorem mem_heldRows (l : List (Nat × List Byte)) (row : Nat) (bs : List Byte) : (row, bs) ∈ heldRows l row bs := by
  unfold heldRows
  rw [List.drop_append_of_le_length (by omega)]
  exact List.mem_append_right _ List.mem_cons_self

theorem length_heldRows (l : List (Nat × List Byte)) (row : Nat) (bs : List Byte) : (heldRows l row bs).length ≤ 4 := by
  unfold heldRows
  rw [List.length_drop, List.length_append, List.length_singleton]
  omega

/-- The Seam of a row that has been sensed has no active plane, and T0 sources that waited for the row have it. -/
def State.sensedAt (s : State) (h : Half) (q row : Nat) : State :=
  ((s.wf (SEAM_STATUS h (q / 16)) SEAM_STATUS.STATE 0).wf (SEAM_STATUS h (q / 16)) SEAM_STATUS.PLANE 0).modNv h
    (fun n => n.slcSensed (1024 * q + row))

/-- The reads of a row are answered. -/
def State.giveReads (s : State) (h : Half) (row : Nat) (bs : List Byte) (l : List ContRead) : State :=
  (l.filter (fun r => r.off / 1024 == row)).foldl (fun s r => s.readGive h r.func (apertureOff h r.off) (slice bs (r.off % 1024) r.len)) s

theorem giveReads_nv (s : State) (h : Half) (row : Nat) (bs : List Byte) (l : List ContRead) :
    ((s.giveReads h row bs l).half h).nv = (s.half h).nv := by
  unfold State.giveReads
  generalize l.filter (fun r => r.off / 1024 == row) = l
  induction l generalizing s with
  | nil => rfl
  | cons r l ih => exact (ih _).trans (State.readGive_nv ..)

theorem giveReads_rf (s : State) (h : Half) (row : Nat) (bs : List Byte) (l : List ContRead) (a : Nat) (f : Fld) :
    (s.giveReads h row bs l).rf a f = s.rf a f :=
  rf_foldl (fun t r => by unfold State.rf; rw [State.readGive_rd]) _ _

theorem senseDone_eq {row im : Nat} (odd : List CellAt) (hm : s.maySense h q = true) (hc : (s.half h).nv.host.cont = some (q, im)) :
    s.senseDone h q row odd = ((s.sensedAt h q row).giveReads h row (imageRow im (s.pairs h q row) (okCells odd)) (s.half h).nv.reads).modNv h
      (fun n => { n with
        sensed := heldRows n.sensed row (imageRow im (s.pairs h q row) (okCells odd))
        reads := n.reads.filter (fun r => !(r.off / 1024 == row)) }) := by
  unfold State.senseDone
  simp only [hm, hc, Option.filter, beq_self_eq_true, if_true, Bool.not_true, Option.isNone_some, Bool.and_false, Bool.or_self,
    Bool.false_eq_true, if_false]
  rfl

theorem senseDone_holds {row im : Nat} (odd : List CellAt) (hm : s.maySense h q = true) (hc : (s.half h).nv.host.cont = some (q, im)) :
    (row, imageRow im (s.pairs h q row) (okCells odd)) ∈ ((s.senseDone h q row odd).half h).nv.sensed ∧
    ((s.senseDone h q row odd).half h).nv.sensed.length ≤ 4 ∧
    ((s.senseDone h q row odd).half h).nv.reads = (s.half h).nv.reads.filter (fun r => !(r.off / 1024 == row)) ∧
    (s.senseDone h q row odd).rf (SEAM_STATUS h (q / 16)) SEAM_STATUS.STATE = 0 := by
  have hst : (s.sensedAt h q row).rf (SEAM_STATUS h (q / 16)) SEAM_STATUS.STATE = 0 := by
    rw [State.sensedAt, State.modNv_rf, State.rf_wf_field _ _ SEAM_STATUS.PLANE SEAM_STATUS.STATE _ rfl (by decide),
      State.rf_wf_same _ _ _ (by decide) (by decide)]
  have hnv : ((s.sensedAt h q row).half h).nv = (s.half h).nv.slcSensed (1024 * q + row) := by
    rw [State.sensedAt, State.modNv_nv, State.wf_half, State.wf_half]
  rw [senseDone_eq odd hm hc, State.modNv_nv, giveReads_nv, hnv, State.modNv_rf, giveReads_rf]
  exact ⟨mem_heldRows .., length_heldRows .., by rw [(slcSensed_held _ _).2], hst⟩

/-- Settles O25: refreshes queued are looked at without touching the plane table, commits and writes go by their Seams, and ages and continuous
reads by their planes' records. -/
theorem planeTableAndAges : Obligations.PlaneTableAndAges := by
  refine ⟨?due, ?complete, ?commit, ?erase, ?cfgWrite, ?cfgClash, ?stuck, ?minute, ?wall, ?wallBack, ?held, ?waits, ?sensed⟩
  case due =>
    intro s h q hl hq he hd
    obtain ⟨hr, k⟩ := refreshDue_queues hq he hd
    exact ⟨_, exec_refreshDue hl hq, hr, k.rows, k.mem⟩
  case complete =>
    intro s h q r hl hr hw hq
    exact ⟨_, exec_refreshComplete hl, refreshDone_renews hr hw hq⟩
  case commit =>
    intro s h hl hc hd hr _
    have hrd : ∀ x, (s.committed h).rd (SEAM_PLANE_CFG h x) = s.rd (SEAM_PLANE_CFG h x) := fun x =>
      rd_committed s h fun n _ => planeCfg_ne_status h x n
    refine ⟨_, exec_planeTableCommit hl, ?_⟩
    rw [tableCommit_idle hc hd]
    obtain ⟨m, hm⟩ := committed_nv s h
    refine ⟨by rw [hm], fun x _ hx => ?_, fun x _ => hrd x⟩
    obtain ⟨h1, h2⟩ := inTable_committed hr hx
    exact ⟨h1.trans (hrd x), h2⟩
  case erase =>
    intro s h c q l hl hs hc hd hph _ hpl _ hcom
    refine ⟨_, exec_planeTableCommit hl, tableCommit_erases hs hc hd hph hpl fun n hn => ?_⟩
    simpa using List.all_eq_true.1 hcom n hn
  case cfgWrite =>
    intro s h x v hl hx he hu
    exact ⟨_, exec_seamPlaneCfgWrite hl hx, planeCfgWrite_pending hx he hu⟩
  case cfgClash =>
    intro s h x v i hl hx hi he hv hw
    refine ⟨_, exec_seamPlaneCfgWrite hl hx, ?_⟩
    rw [planeCfgWrite_clash (cfgClash_of_changed hi he hv hw)]
    exact log_onlyLogged _ _ _ (by simp [logSoft])
  case stuck =>
    intro s h i v hl hi
    refine ⟨_, exec_stuckStateWrite hl hi, ?_⟩
    unfold State.stuckWrite
    dsimp only
    split
    · exact ⟨State.rf_wf_same _ _ _ (by decide) (by decide), onlyRegs_wf (onlyRegs_refl _ s) _ _ _ (by simp)⟩
    · exact log_onlyLogged _ _ _ (by simp [logSoft])
  case minute =>
    intro s hp hw
    exact ⟨_, exec_wallMinuteTick hp, minutes_tick hw⟩
  case wall =>
    intro s h v hl hv hw h0
    obtain ⟨hwall, hmin⟩ := wallWrite_dates hv hw h0
    exact ⟨_, exec_nvWallMinutesWrite hl, hwall, fun q _ e he hq => hmin q e he hq⟩
  case wallBack =>
    intro s h v hl hv
    refine ⟨_, exec_nvWallMinutesWrite hl, ?_⟩
    rw [wallWrite_back hv]
    exact log_onlyLogged _ _ _ (by simp [logSoft])
  case held =>
    rintro s h off len q im bs hl ho rfl hal hc hf
    exact ⟨_, exec_contReadApertureRead hl ⟨ho, hal⟩ 0, apertureRead_held hc hf⟩
  case waits =>
    rintro s h off len q im hl ho rfl hal hc hf
    exact ⟨_, exec_contReadApertureRead hl ⟨ho, hal⟩ 0, apertureRead_waits hc hf⟩
  case sensed =>
    intro s h q row im odd hl hq hr hm hc _
    exact ⟨_, exec_rowSenseDone hl ⟨hq, hr⟩ odd, senseDone_holds odd hm hc⟩

end Sys2Proof.Machine
end

section
/-! PROOF. Rules of Galleries and their waves: what a write of a field in every Seam of a wave, a change of a Gallery's list of waves, a unit's
read and the end of a node leave of the waves, the NV controller and the registers. -/

namespace Sys2Proof.Machine

variable {s t u : State} {h x : Half} {a b g i c k v : Nat} {f f' : Fld} {w : Wave}

/-! ## Writes in every Seam of a wave -/

/-- What one step of a row of steps brings about, and every step keeps, holds at its end. -/
theorem foldl_brings {β : Type} {P : State → Prop} {F : State → β → State} {e : β} (hF : ∀ t, P (F t e)) (hk : ∀ t d, P t → P (F t d))
    {l : List β} (he : e ∈ l) (s : State) : P (l.foldl F s) := by
  have hl : ∀ (l : List β) (s : State), P s → P (l.foldl F s) := fun l s hs => by
    induction l generalizing s with
    | nil => exact hs
    | cons d l ih => exact ih _ (hk s d hs)
  induction l generalizing s with
  | nil => exact absurd he List.not_mem_nil
  | cons d l ih =>
    rcases List.mem_cons.1 he with rfl | he
    · exact hl l _ (hF s)
    · exact ih he _

/-- A field that holds a value keeps it while registers get that value in that field. -/
theorem State.rf_wf_again (b : Nat) (hf : f.lo + f.len ≤ 32) (hv : v < 2 ^ f.len) (hs : s.rf a f = v) : (s.wf b f v).rf a f = v := by
  by_cases e : a = b
  · subst e; exact State.rf_wf_same _ _ _ hf hv
  · rw [State.rf_wf_ne _ _ _ _ (by omega), hs]

/-- A field written with one value at the addresses of a list reads as that value at each of them. -/
theorem rf_foldl_wf {β : Type} {ad : β → Nat} (hf : f.lo + f.len ≤ 32) (hv : v < 2 ^ f.len) {l : List β} {e : β} (he : e ∈ l) (s : State) :
    (l.foldl (fun s e => s.wf (ad e) f v) s).rf (ad e) f = v := by
  refine foldl_brings (P := fun t => t.rf (ad e) f = v) (fun t => ?_) (fun t d ht => ?_) he s
  · exact State.rf_wf_same _ _ _ hf hv
  · exact State.rf_wf_again _ hf hv ht

theorem mem_chmSeams {chms : List Nat} : (c, k) ∈ chmSeams chms ↔ c ∈ chms ∧ k < 4 := by
  simp [chmSeams]

theorem seamOf_lt (hg : g < 32) (hc : c < 16) (hk : k < 4) : seamOf g c k < 2048 := by
  unfold seamOf; omega

@[simp] theorem State.seamsWf_half (s : State) (h x : Half) (g : Nat) (chms : List Nat) (f : Fld) (v : Nat) :
    (s.seamsWf h g chms f v).half x = s.half x := half_foldl (fun _ _ => State.wf_half ..) _ _

theorem rf_seamsWf (s : State) (h : Half) (g : Nat) {chms : List Nat} (hf : f.lo + f.len ≤ 32) (hv : v < 2 ^ f.len) (hc : c ∈ chms) (hk : k < 4) :
    (s.seamsWf h g chms f v).rf (SEAM_STATUS h (seamOf g c k)) f = v := by
  have e := rf_foldl_wf (ad := fun e : Nat × Nat => SEAM_STATUS h (seamOf g e.1 e.2)) hf hv (mem_chmSeams.2 ⟨hc, hk⟩) s
  exact e

theorem rf_seamsWf_ne (s : State) (h : Half) (g : Nat) (chms : List Nat) (v : Nat) (ha : ∀ n, a + f'.off ≠ SEAM_STATUS h n + f.off) :
    (s.seamsWf h g chms f v).rf a f' = s.rf a f' :=
  rf_foldl (fun _ _ => State.rf_wf_ne _ _ _ _ (ha _)) _ _

theorem latchFld_fits (l : Nat) : (latchFld l).off = 0 ∧ (latchFld l).lo + (latchFld l).len ≤ 32 ∧ (latchFld l).len = 1 := by
  unfold latchFld
  split <;> decide

/-! ## The waves of a Gallery -/

theorem State.gal_congr (e : (t.half h).gals = (s.half h).gals) (g : Nat) : t.gal h g = s.gal h g := by
  unfold State.gal; rw [e]

theorem State.gal_setGal (s : State) (h : Half) (g j : Nat) (y : Gal) : (s.setGal h g y).gal h j = if j = g then y else s.gal h j := by
  unfold State.gal State.setGal
  rw [State.half_modHalf_same]
  exact mapGet_mapSet ..

@[simp] theorem State.setGal_nv (s : State) (h x : Half) (g : Nat) (y : Gal) : ((s.setGal h g y).half x).nv = (s.half x).nv := by
  cases h <;> cases x <;> rfl
@[simp] theorem State.setGal_mem (s : State) (h x : Half) (g : Nat) (y : Gal) : ((s.setGal h g y).half x).mem = (s.half x).mem := by
  cases h <;> cases x <;> rfl
@[simp] theorem State.setGal_rf (s : State) (h : Half) (g : Nat) (y : Gal) (a : Nat) (f : Fld) : (s.setGal h g y).rf a f = s.rf a f :=
  State.modHalf_rf ..

theorem waves_setWave (s : State) (h : Half) (g i : Nat) (w : Wave) : ((s.setWave h g i w).gal h g).waves = (s.gal h g).waves.set i w := by
  rw [State.setWave, State.gal_setGal, if_pos rfl]
theorem waves_dropWave (s : State) (h : Half) (g i : Nat) : ((s.dropWave h g i).gal h g).waves = (s.gal h g).waves.eraseIdx i := by
  rw [State.dropWave, State.gal_setGal, if_pos rfl]

@[simp] theorem State.setWave_nv (s : State) (h : Half) (g i : Nat) (w : Wave) : ((s.setWave h g i w).half h).nv = (s.half h).nv :=
  State.setGal_nv ..
@[simp] theorem State.setWave_mem (s : State) (h : Half) (g i : Nat) (w : Wave) : ((s.setWave h g i w).half h).mem = (s.half h).mem :=
  State.setGal_mem ..
@[simp] theorem State.setWave_rf (s : State) (h : Half) (g i : Nat) (w : Wave) (a : Nat) (f : Fld) : (s.setWave h g i w).rf a f = s.rf a f :=
  State.setGal_rf ..
theorem State.waveChms_setWave (s : State) (h : Half) (g i : Nat) (v w : Wave) : (s.setWave h g i v).waveChms w = s.waveChms w := by
  unfold State.waveChms State.node State.graph State.setWave State.setGal
  rw [State.modHalf_graphs]

/-- Of a half, the NV controller and every Gallery's waves stay. -/
structure KeepsWaves (h : Half) (s t : State) : Prop where
  nv : (t.half h).nv = (s.half h).nv
  waves : ∀ g, (t.gal h g).waves = (s.gal h g).waves

namespace KeepsWaves

theorem refl (s : State) : KeepsWaves h s s := ⟨rfl, fun _ => rfl⟩

theorem trans (k : KeepsWaves h s t) (l : KeepsWaves h t u) : KeepsWaves h s u :=
  ⟨l.nv.trans k.nv, fun g => (l.waves g).trans (k.waves g)⟩

theorem of_gals (hn : (t.half h).nv = (s.half h).nv) (e : (t.half h).gals = (s.half h).gals) : KeepsWaves h s t :=
  ⟨hn, fun g => by rw [State.gal_congr e]⟩

theorem of_half (e : t.half h = s.half h) : KeepsWaves h s t := of_gals (by rw [e]) (by rw [e])

theorem foldl {β : Type} {F : State → β → State} (hF : ∀ t e, KeepsWaves h t (F t e)) (l : List β) (s : State) :
    KeepsWaves h s (l.foldl F s) := by
  induction l generalizing s with
  | nil => exact refl s
  | cons e l ih => exact (hF s e).trans (ih _)

theorem log (s : State) (h x : Half) (r : LogReq) (hc : r.cls < 64) : KeepsWaves h s (s.log x r) :=
  of_gals (sameHalves_nv (sameHalves_log s x r hc) h) (sameHalves_gals (sameHalves_log s x r hc) h)

theorem logNode (s : State) (h x : Half) (r : NodeRef) (q : LogReq) (hc : q.cls < 64) : KeepsWaves h s (s.logNode x r q) :=
  log s h x _ hc

theorem modNode (s : State) (h : Half) (r : NodeRef) (F : Node → Node) : KeepsWaves h s (s.modNode r F) := of_half rfl

theorem endNode (s : State) (h : Half) (r : NodeRef) (p : Nat) : KeepsWaves h s (s.endNode r p) := modNode ..

theorem setGal (s : State) (h x : Half) (g : Nat) {y : Gal} (hy : y.waves = (s.gal x g).waves) : KeepsWaves h s (s.setGal x g y) where
  nv := State.setGal_nv ..
  waves j := by
    by_cases e : h = x
    · subst e
      rw [State.gal_setGal]
      split
      · next hj => subst hj; exact hy
      · rfl
    · rw [State.gal_congr (s := s) (by rw [State.setGal, State.half_modHalf, if_neg e])]

/-! ### A unit's read (R235) -/

theorem markBad (s : State) (h x : Half) (tier n : Nat) : KeepsWaves h s (s.markBad x tier n) := by
  unfold State.markBad
  refine of_gals ?_ ?_ <;> rw [State.half_modHalf] <;> split
  case _ e => subst e; split <;> split <;> rfl
  case _ => rfl
  case _ e => subst e; split <;> split <;> rfl
  case _ => rfl

theorem countBad (s : State) (h x : Half) (tier n : Nat) : KeepsWaves h s (s.countBad x tier n) := by
  refine of_half ?_
  unfold State.countBad
  split
  · rfl
  · split <;> exact (State.wf_half ..).trans (State.wf_half ..)

theorem checkRead (s : State) (h : Half) (o : Obj) (off len : Nat) (chk : Scan) : KeepsWaves h s (s.checkRead o off len chk).1 := by
  have hfind : KeepsWaves h (s.scanCount o.half o.tier chk) ((s.scanCount o.half o.tier chk).findBad o.half o.tier (o.addr + off) len chk.bad) :=
    foldl (fun t _ => markBad t h o.half o.tier _) _ _
  exact (((of_half (State.scanCount_half ..)).trans hfind).trans (countBad ..)).trans
    (foldl (fun t n => log t h o.half _ (by simp [logData])) _ _)

theorem unitRead (s : State) (h : Half) (r : NodeRef) (o : Obj) (off len : Nat) (chk : Scan) : KeepsWaves h s (s.unitRead r o off len chk).1 := by
  have hread : KeepsWaves h s (if min len (o.size - off) = 0 then (s, false) else s.checkRead o off (min len (o.size - off)) chk).1 := by
    split
    · exact refl s
    · exact checkRead ..
  have hmark : ∀ p : State × Bool, KeepsWaves h s p.1 → KeepsWaves h s (if p.2 then p.1.markNode r 3 else p.1) := fun p k => by
    split
    · exact k.trans (modNode ..)
    · exact k
  exact (hmark _ hread).trans (of_half rfl)

/-! ### The end of a node (R287) -/

theorem galMaybeEnd (s : State) (h : Half) (r : NodeRef) : KeepsWaves h s (s.galMaybeEnd r) := by
  unfold State.galMaybeEnd
  split
  · exact refl s
  · split
    · refine trans (foldl (fun t j => ?_) _ _) (endNode ..)
      exact setGal t h _ j rfl
    · exact refl s

end KeepsWaves

theorem galMaybeEnd_rf (s : State) (r : NodeRef) (a : Nat) (f : Fld) : (s.galMaybeEnd r).rf a f = s.rf a f := by
  unfold State.galMaybeEnd
  split
  · rfl
  · split
    · exact rf_foldl (fun t j => State.setGal_rf ..) _ _
    · rfl

theorem galMaybeEnd_mem (s : State) (r : NodeRef) (h : Half) : ((s.galMaybeEnd r).half h).mem = (s.half h).mem := by
  have hl : ∀ (l : List Nat) (x : Half) (s : State), ((l.foldl (fun s j => s.setGal x j { s.gal x j with node := none, started := false })
      s).half h).mem = (s.half h).mem := fun l x s => by
    induction l generalizing s with
    | nil => rfl
    | cons j l ih => exact (ih _).trans (State.setGal_mem ..)
  unfold State.galMaybeEnd
  split
  · rfl
  · split
    · exact hl _ _ _
    · rfl

/-! ### A refused wave (R61, R160) -/

theorem refuseWave_nv (s : State) (h : Half) (g i : Nat) (w : Wave) : ((s.refuseWave h g i w).half h).nv = (s.half h).nv :=
  (congrArg HalfState.nv (State.seamsWf_half ..)).trans (State.setGal_nv ..)

theorem refuseWave_mem (s : State) (h : Half) (g i : Nat) (w : Wave) : ((s.refuseWave h g i w).half h).mem = (s.half h).mem :=
  (congrArg HalfState.mem (State.seamsWf_half ..)).trans (State.setGal_mem ..)

theorem refuseWave_waves (s : State) (h : Half) (g i : Nat) (w : Wave) :
    ((s.refuseWave h g i w).gal h g).waves = (s.gal h g).waves.eraseIdx i :=
  (congrArg Gal.waves (State.gal_congr (congrArg HalfState.gals (State.seamsWf_half ..)) g)).trans (waves_dropWave ..)

theorem refuseWave_rf (s : State) (h : Half) (g i : Nat) (w : Wave) (ha : ∀ n, a + f.off ≠ SEAM_STATUS h n) :
    (s.refuseWave h g i w).rf a f = s.rf a f :=
  (rf_seamsWf_ne _ _ _ _ _ (by simpa [(latchFld_fits w.latch).1] using ha)).trans (State.setGal_rf ..)

end Sys2Proof.Machine
end

section
/-! PROOF. Waves are fed, select their plane and start, or are refused (R55 to R57, R61, R74, R160). -/

namespace Sys2Proof.Machine

variable {s t u : State} {h : Half} {a g i c k p : Nat} {f : Fld} {w : Wave}

/-! ## INPUT_BLOCK_DELIVERED (R74) -/

theorem exec_inputBlockDelivered (hl : s.live = true) (hg : g < 32) (chk : Scan) :
    exec (.inputBlockDelivered h g chk) s = .next (s.inputDelivered h g chk) :=
  (whenLive_of_live hl (fun s => if g < 32 then s.inputDelivered h g chk else s)).trans (by rw [if_pos hg])

theorem inputDelivered_eq {o : Obj} (hw : s.waveIn h g [.filling] = some (i, w)) (ho : s.bindObj w.node 0 = some o) (hb : w.begun = true)
    (chk : Scan) : s.inputDelivered h g chk = ((w.readBlocks s o chk).1.setWave h g i
      { w with phase := .latched, blocks := (w.readBlocks s o chk).2 }).seamsWf h g (s.waveChms w) (latchFld w.latch) 1 := by
  unfold State.inputDelivered
  simp only [hw, ho, hb, Bool.true_eq_false, if_false]

theorem length_readBlocks (w : Wave) (s : State) (o : Obj) (chk : Scan) : (w.readBlocks s o chk).2.length = 4 * w.g := by
  rw [Wave.readBlocks, List.length_map, List.length_range]

theorem KeepsWaves.readBlocks (s : State) (h : Half) (w : Wave) (o : Obj) (chk : Scan) : KeepsWaves h s (w.readBlocks s o chk).1 := .unitRead ..

theorem inputDelivered_fills {o : Obj} (hw : s.waveIn h g [.filling] = some (i, w)) (ho : s.bindObj w.node 0 = some o) (hb : w.begun = true)
    (chk : Scan) :
    (∃ bs, ((s.inputDelivered h g chk).gal h g).waves = (s.gal h g).waves.set i { w with phase := .latched, blocks := bs } ∧
      bs.length = 4 * w.g) ∧
    (∀ k < 4, ∀ c ∈ s.waveChms w, (s.inputDelivered h g chk).rf (SEAM_STATUS h (seamOf g c k)) (latchFld w.latch) = 1) ∧
    ((s.inputDelivered h g chk).half h).nv = (s.half h).nv := by
  have kr := KeepsWaves.readBlocks s h w o chk
  obtain ⟨-, hfit, hlen⟩ := latchFld_fits w.latch
  rw [inputDelivered_eq hw ho hb]
  refine ⟨⟨_, ?_, length_readBlocks w s o chk⟩, fun k hk c hc => rf_seamsWf _ _ _ hfit (by rw [hlen]; decide) hc hk, ?_⟩
  · rw [State.gal_congr (congrArg HalfState.gals (State.seamsWf_half ..)), waves_setWave, kr.waves]
  · rw [State.seamsWf_half, State.setWave_nv, kr.nv]

/-! ## Slices begin (R52, R53) -/

/-- The wave at index i goes on in its phase with its Chambers; the Seams' status and the Gallery's activity stay. -/
structure EntersSlice (h : Half) (g i : Nat) (w : Wave) (s t : State) : Prop where
  waves : ∃ v, (t.gal h g).waves = (s.gal h g).waves.set i v ∧ v.phase = w.phase ∧ v.chms.map Prod.fst = w.chms.map Prod.fst
  nv : (t.half h).nv = (s.half h).nv
  seams : ∀ n f, f.off = 0 → t.rf (SEAM_STATUS h n) f = s.rf (SEAM_STATUS h n) f
  active : t.rf (GAL_STATUS h g) GAL_STATUS.WAVE_ACTIVE = s.rf (GAL_STATUS h g) GAL_STATUS.WAVE_ACTIVE

theorem State.countSkips_half (s : State) (h : Half) (g : Nat) (w : Wave) (b : Nat) (x : Half) : (s.countSkips h g w b).half x = s.half x := by
  refine half_foldl (fun t e => ?_) _ _
  split
  · exact State.wf_half ..
  · rfl

theorem rf_countSkips (s : State) (h : Half) (g : Nat) (w : Wave) (b : Nat) (ha : ∀ n, a + f.off ≠ SEAM_SKIP_COUNT h n) :
    (s.countSkips h g w b).rf a f = s.rf a f := by
  refine rf_foldl (fun t e => ?_) _ _
  split
  · exact State.rf_wf_ne _ _ _ _ (ha _)
  · rfl

theorem EntersSlice.of_setWave (h : Half) (g i : Nat) {v w : Wave} (hp : v.phase = w.phase) (hc : v.chms.map Prod.fst = w.chms.map Prod.fst) :
    EntersSlice h g i w s (s.setWave h g i v) where
  waves := ⟨v, waves_setWave .., hp, hc⟩
  nv := State.setWave_nv ..
  seams _ _ _ := State.setWave_rf ..
  active := State.setWave_rf ..

theorem rf_wf_active (s : State) (h : Half) (g : Nat) (f : Fld) (v : Nat) (hf : f.off = 0 ∧ 1 ≤ f.lo) :
    (s.wf (GAL_STATUS h g) f v).rf (GAL_STATUS h g) GAL_STATUS.WAVE_ACTIVE = s.rf (GAL_STATUS h g) GAL_STATUS.WAVE_ACTIVE :=
  State.rf_wf_disjoint _ _ _ f GAL_STATUS.WAVE_ACTIVE _ hf.1.symm (.inr hf.2)

/-- A write of GAL_STATUS.PASS or SLICE. -/
theorem EntersSlice.wf (k : EntersSlice h g i w s t) (f : Fld) (v : Nat) (hf : f.off = 0 ∧ 1 ≤ f.lo) :
    EntersSlice h g i w s (t.wf (GAL_STATUS h g) f v) where
  waves := by rw [State.gal_congr (s := t) (by rw [State.wf_half])]; exact k.waves
  nv := by rw [State.wf_half, k.nv]
  seams n f' hf' := by
    rw [State.rf_wf_ne _ _ _ _ (by rw [hf.1, hf']; simp only [SEAM_STATUS, GAL_STATUS]; omega), k.seams n f' hf']
  active := by rw [rf_wf_active _ _ _ _ _ hf, k.active]

theorem EntersSlice.after_countSkips {v : Wave} (b : Nat) (k : EntersSlice h g i w (s.countSkips h g v b) t) : EntersSlice h g i w s t where
  waves := by
    rw [← State.gal_congr (t := s.countSkips h g v b) (s := s) (by rw [State.countSkips_half])]
    exact k.waves
  nv := by rw [k.nv, State.countSkips_half]
  seams n f hf := by
    rw [k.seams n f hf, rf_countSkips _ _ _ _ _ fun m => by rw [hf]; simp only [SEAM_STATUS, SEAM_SKIP_COUNT]; omega]
  active := by rw [k.active, rf_countSkips _ _ _ _ _ fun m => by simp only [GAL_STATUS, SEAM_SKIP_COUNT]; omega]

theorem armSlice_chms (w : Wave) (b : Nat) : (w.armSlice b).chms.map Prod.fst = w.chms.map Prod.fst := by
  rw [Wave.armSlice, List.map_map]
  rfl

theorem entersSlice (s : State) (h : Half) (g i : Nat) (w : Wave) (bs : List Nat) : EntersSlice h g i w s (s.enterSlice h g i w bs) := by
  induction bs generalizing s with
  | nil =>
    have k := EntersSlice.of_setWave (s := s) h g i (v := { w with slice := w.slices, pass := 7 }) (w := w) rfl rfl
    exact k.wf GAL_STATUS.PASS 7 (by decide)
  | cons b bs ih =>
    refine EntersSlice.after_countSkips (v := w) b ?_
    unfold State.enterSlice
    dsimp only
    split
    · exact ih _
    · next p _ =>
      have k := EntersSlice.of_setWave (s := s.countSkips h g w b) h g i (v := { w.armSlice b with pass := p }) (w := w) rfl (armSlice_chms w b)
      exact (k.wf GAL_STATUS.PASS p (by decide)).wf GAL_STATUS.SLICE b (by decide)

/-! ## The test of the plane (R56, R61) -/

/-- The Seams of a wave's Chambers. -/
def seamsOf (g : Nat) (chms : List Nat) : List Nat := (chmSeams chms).map (fun e => seamOf g e.1 e.2)

/-- The Seams that refuse the wave's plane: it is not enabled, or hidden (R61, R437). -/
def State.offSeams (s : State) (h : Half) (g : Nat) (w : Wave) : List Nat :=
  (seamsOf g (s.waveChms w)).filter (fun x => !s.planeEn h (16 * x + w.plane) || s.debugHides h (16 * x + w.plane))

/-- The widths of the plane's weights in the wave's Seams. -/
def State.widths (s : State) (h : Half) (g : Nat) (w : Wave) : List Bool :=
  (seamsOf g (s.waveChms w)).map (fun x => s.planeW7 h (16 * x + w.plane))

/-- Are the widths different? -/
def State.mixed (s : State) (h : Half) (g : Nat) (w : Wave) : Bool :=
  (s.widths h g w).contains true && (s.widths h g w).contains false

theorem mem_seamsOf {chms : List Nat} (hc : c ∈ chms) (hk : k < 4) : seamOf g c k ∈ seamsOf g chms :=
  List.mem_map.2 ⟨(c, k), mem_chmSeams.2 ⟨hc, hk⟩, rfl⟩

theorem forall_mem_seamsOf {P : Nat → Prop} {chms : List Nat} (hP : ∀ c ∈ chms, ∀ k < 4, P (seamOf g c k)) :
    ∀ x ∈ seamsOf g chms, P x := by
  intro x hx
  obtain ⟨⟨c, k⟩, he, rfl⟩ := List.mem_map.1 hx
  obtain ⟨hc, hk⟩ := mem_chmSeams.1 he
  exact hP c hc k hk

/-- The plane of an accepted wave is enabled and shown in every Seam, with weights of one width. -/
def State.accepts (s : State) (h : Half) (g : Nat) (w : Wave) (w7 : Bool) : Prop :=
  ∀ c ∈ s.waveChms w, ∀ k < 4, s.planeEn h (16 * seamOf g c k + w.plane) = true ∧ s.debugHides h (16 * seamOf g c k + w.plane) = false ∧
    s.planeW7 h (16 * seamOf g c k + w.plane) = w7

theorem offSeams_of_accepts {w7 : Bool} (ha : s.accepts h g w w7) : s.offSeams h g w = [] := by
  refine List.filter_eq_nil_iff.2 (forall_mem_seamsOf fun c hc k hk => ?_)
  obtain ⟨he, hd, -⟩ := ha c hc k hk
  simp [he, hd]

theorem mixed_of_accepts {w7 : Bool} (ha : s.accepts h g w w7) : s.mixed h g w = false := by
  have hall : ∀ b ∈ s.widths h g w, b = w7 := by
    simp only [State.widths, List.forall_mem_map]
    exact forall_mem_seamsOf fun c hc k hk => (ha c hc k hk).2.2
  unfold State.mixed
  rw [Bool.and_eq_false_iff, List.contains_eq_mem, List.contains_eq_mem, decide_eq_false_iff_not, decide_eq_false_iff_not]
  cases w7
  case false => exact .inl fun hm => absurd (hall _ hm) (by decide)
  case true => exact .inr fun hm => absurd (hall _ hm) (by decide)

/-- An accepted wave as it begins its slices. -/
def State.runWave (s : State) (h : Half) (g : Nat) (w : Wave) : Wave :=
  let w1 : Wave := { w with
    phase := .slices
    w7 := (s.widths h g w).headD false
    chms := (s.waveChms w).map (fun c => (c, { c := List.replicate 544 0, clamped := List.replicate 544 false })) }
  { w1 with stuck := s.stuckTerms h g w1 (s.waveChms w) }

/-- The registers of an accepted wave's Seams and Gallery show that it runs. -/
def State.showRun (s : State) (h : Half) (g : Nat) (w : Wave) : State :=
  let s2 := (seamsOf g (s.waveChms w)).foldl (fun s x => s.add (SEAM_WAVE_COUNT h x) SEAM_WAVE_COUNT.WAVES 1)
    ((s.seamsWf h g (s.waveChms w) SEAM_STATUS.PLANE w.plane).seamsWf h g (s.waveChms w) SEAM_STATUS.STATE 3)
  let s3 := ((s2.wf (GAL_STATUS h g) GAL_STATUS.WAVE_ACTIVE 1).wf (GAL_STATUS h g) GAL_STATUS.GAIN w.gain).wf (GAL_STATUS h g) GAL_STATUS.RPP w.rpp
  (s3.wf (GAL_STATUS h g) GAL_STATUS.GROUP w.group).wf (GAL_STATUS h g) GAL_STATUS.OUTFMT w.outfmt

theorem startSlices_accepted {w7 : Bool} (ha : s.accepts h g w w7) :
    s.startSlices h g i w = (s.showRun h g w).enterSlice h g i (s.runWave h g w) ((s.runWave h g w).slicesFrom 0) := by
  have ho := offSeams_of_accepts ha
  have hm := mixed_of_accepts ha
  unfold State.startSlices
  exact if_neg (by
    change ¬ (!(s.offSeams h g w).isEmpty || s.mixed h g w) = true
    rw [ho, hm]
    decide)

theorem runWave_chms (s : State) (h : Half) (g : Nat) (w : Wave) : (s.runWave h g w).chms.map Prod.fst = s.waveChms w := by
  change ((s.waveChms w).map _).map Prod.fst = _
  rw [List.map_map]
  exact List.map_id _

@[simp] theorem State.showRun_half (s : State) (h x : Half) (g : Nat) (w : Wave) : (s.showRun h g w).half x = s.half x := by
  unfold State.showRun
  simp only [State.wf_half]
  exact (half_foldl (fun _ _ => State.wf_half ..) _ _).trans ((State.seamsWf_half ..).trans (State.seamsWf_half ..))

theorem showRun_active (s : State) (h : Half) (g : Nat) (w : Wave) : (s.showRun h g w).rf (GAL_STATUS h g) GAL_STATUS.WAVE_ACTIVE = 1 := by
  unfold State.showRun
  dsimp only
  rw [rf_wf_active _ h g GAL_STATUS.OUTFMT _ (by decide), rf_wf_active _ h g GAL_STATUS.GROUP _ (by decide),
    rf_wf_active _ h g GAL_STATUS.RPP _ (by decide), rf_wf_active _ h g GAL_STATUS.GAIN _ (by decide),
    State.rf_wf_same _ _ _ (by decide) (by decide)]

theorem showRun_state (s : State) (h : Half) (g : Nat) {w : Wave} (hc : c ∈ s.waveChms w) (hk : k < 4) :
    (s.showRun h g w).rf (SEAM_STATUS h (seamOf g c k)) SEAM_STATUS.STATE = 3 := by
  have hne : ∀ n, SEAM_STATUS h n + 0 ≠ GAL_STATUS h g + 0 := fun n => by simp only [SEAM_STATUS, GAL_STATUS]; omega
  have hcount : ∀ (l : List Nat) (t : State) (n : Nat), (l.foldl (fun s x => s.add (SEAM_WAVE_COUNT h x) SEAM_WAVE_COUNT.WAVES 1) t).rf
      (SEAM_STATUS h n) SEAM_STATUS.STATE = t.rf (SEAM_STATUS h n) SEAM_STATUS.STATE := fun l t n => by
    refine rf_foldl (fun u m => ?_) l t
    exact State.rf_wf_ne _ _ _ _ (by simp only [SEAM_STATUS, SEAM_WAVE_COUNT]; omega)
  unfold State.showRun
  dsimp only
  rw [State.rf_wf_ne _ _ _ _ (hne _), State.rf_wf_ne _ _ _ _ (hne _), State.rf_wf_ne _ _ _ _ (hne _), State.rf_wf_ne _ _ _ _ (hne _),
    State.rf_wf_ne _ _ _ _ (hne _), hcount,
    rf_seamsWf _ _ _ (by decide) (by decide) hc hk]

/-- An accepted wave runs its slices in its Chambers. -/
theorem startSlices_runs {w7 : Bool} (ha : s.accepts h g w w7) :
    (∃ v, ((s.startSlices h g i w).gal h g).waves = (s.gal h g).waves.set i v ∧ v.phase = .slices ∧ v.chms.map Prod.fst = s.waveChms w) ∧
    (∀ k < 4, ∀ c ∈ s.waveChms w, (s.startSlices h g i w).rf (SEAM_STATUS h (seamOf g c k)) SEAM_STATUS.STATE = 3) ∧
    (s.startSlices h g i w).on (GAL_STATUS h g) GAL_STATUS.WAVE_ACTIVE = true ∧ ((s.startSlices h g i w).half h).nv = (s.half h).nv := by
  rw [startSlices_accepted ha]
  obtain ⟨⟨v, hv, hphase, hchms⟩, hnv, hseams, hactive⟩ :=
    entersSlice (s.showRun h g w) h g i (s.runWave h g w) ((s.runWave h g w).slicesFrom 0)
  refine ⟨⟨v, ?_, hphase, hchms.trans (runWave_chms ..)⟩, fun k hk c hc => (hseams _ _ rfl).trans (showRun_state s h g hc hk), ?_, ?_⟩
  · rw [hv, State.gal_congr (s := s) (by rw [State.showRun_half])]
  · rw [State.on, hactive, showRun_active]; rfl
  · rw [hnv, State.showRun_half]

/-- The registers of a refused wave's Seams show the plane, and why it was refused. -/
def State.showRefusal (s : State) (h : Half) (g : Nat) (w : Wave) : State :=
  let s2 := (s.offSeams h g w).foldl (fun s x => s.wf (SEAM_EVENT h x) SEAM_EVENT.DISABLED_PLANE 1)
    (s.seamsWf h g (s.waveChms w) SEAM_STATUS.PLANE w.plane)
  if s.mixed h g w then (seamsOf g (s.waveChms w)).foldl (fun s x => s.wf (SEAM_EVENT h x) SEAM_EVENT.W7_MISMATCH 1) s2 else s2

theorem startSlices_of_off (i : Nat) (ho : s.offSeams h g w ≠ []) : ∃ q : LogReq, q.cls < 64 ∧ s.startSlices h g i w =
    ((((s.showRefusal h g w).refuseWave h g i w).seamsWf h g (s.waveChms w) SEAM_STATUS.STATE 2).logNode h w.node q).galMaybeEnd w.node := by
  refine ⟨_, ?_, if_pos ?_⟩
  · simp [logSoft]
  · change (!(s.offSeams h g w).isEmpty || s.mixed h g w) = true
    simp [ho]

@[simp] theorem State.showRefusal_half (s : State) (h x : Half) (g : Nat) (w : Wave) : (s.showRefusal h g w).half x = s.half x := by
  have h2 := (half_foldl (x := x) (fun t y => State.wf_half t (SEAM_EVENT h y) SEAM_EVENT.DISABLED_PLANE 1 x) (s.offSeams h g w)
    (s.seamsWf h g (s.waveChms w) SEAM_STATUS.PLANE w.plane)).trans (State.seamsWf_half ..)
  unfold State.showRefusal
  dsimp only
  split
  · exact (half_foldl (fun _ _ => State.wf_half ..) _ _).trans h2
  · exact h2

theorem showRefusal_disabled (s : State) (h : Half) (g : Nat) {x : Nat} (hx : x ∈ s.offSeams h g w) :
    (s.showRefusal h g w).rf (SEAM_EVENT h x) SEAM_EVENT.DISABLED_PLANE = 1 := by
  have h2 := rf_foldl_wf (ad := SEAM_EVENT h) (f := SEAM_EVENT.DISABLED_PLANE) (v := 1) (by decide) (by decide) hx
    (s.seamsWf h g (s.waveChms w) SEAM_STATUS.PLANE w.plane)
  unfold State.showRefusal
  dsimp only
  split
  · refine (rf_foldl (fun t y => ?_) _ _).trans h2
    exact State.rf_wf_disjoint _ _ _ SEAM_EVENT.W7_MISMATCH SEAM_EVENT.DISABLED_PLANE _ rfl (by decide)
  · exact h2

theorem rf_logNode (s : State) (h : Half) (r : NodeRef) (q : LogReq) (hq : q.cls < 64) (ha : arrayReg (a + f.off)) :
    (s.logNode h r q).rf a f = s.rf a f := congrArg (getF · f) (rd_log s h _ hq ha)

theorem arrayReg_seamEvent (h : Half) {n : Nat} (hn : n < 2048) : arrayReg (SEAM_EVENT h n) := by
  simp only [SEAM_EVENT, Nat.add_assoc]; rw [arrayReg_iff] <;> omega

/-- A wave whose plane a Seam refuses leaves, and the Seam shows it (R61). -/
theorem startSlices_refused (i : Nat) (hg : g < 32) (hc : c < 16) (hk : k < 4) (hm : c ∈ s.waveChms w)
    (he : s.planeEn h (16 * seamOf g c k + w.plane) = false) :
    ((s.startSlices h g i w).gal h g).waves = (s.gal h g).waves.eraseIdx i ∧
    (s.startSlices h g i w).rf (SEAM_EVENT h (seamOf g c k)) SEAM_EVENT.DISABLED_PLANE = 1 ∧
    (s.startSlices h g i w).rf (SEAM_STATUS h (seamOf g c k)) SEAM_STATUS.STATE = 2 ∧
    ((s.startSlices h g i w).half h).nv = (s.half h).nv := by
  have hoff : seamOf g c k ∈ s.offSeams h g w := List.mem_filter.2 ⟨mem_seamsOf hm hk, by simp [he]⟩
  have hlt := seamOf_lt hg hc hk
  obtain ⟨q, hq, e⟩ := startSlices_of_off i (List.ne_nil_of_mem hoff)
  rw [e]
  set s4 := ((s.showRefusal h g w).refuseWave h g i w).seamsWf h g (s.waveChms w) SEAM_STATUS.STATE 2 with hs4
  have kl := (KeepsWaves.logNode s4 h h w.node q hq).trans (.galMaybeEnd _ h w.node)
  refine ⟨?_, ?_, ?_, ?_⟩
  · rw [kl.waves, State.gal_congr (congrArg HalfState.gals (State.seamsWf_half ..)), refuseWave_waves,
      State.gal_congr (s := s) (by rw [State.showRefusal_half])]
  · rw [galMaybeEnd_rf, rf_logNode _ _ _ _ hq (arrayReg_seamEvent h hlt), hs4,
      rf_seamsWf_ne _ _ _ _ _ (fun n => by simp only [SEAM_EVENT, SEAM_STATUS]; omega),
      refuseWave_rf _ _ _ _ _ (fun n => by simp only [SEAM_EVENT, SEAM_STATUS]; omega), showRefusal_disabled s h g hoff]
  · rw [galMaybeEnd_rf, rf_logNode _ _ _ _ hq (arrayReg_seamStatus h hlt), hs4, rf_seamsWf _ _ _ (by decide) (by decide) hm hk]
  · rw [kl.nv, hs4, State.seamsWf_half, refuseWave_nv, State.showRefusal_half]

/-! ## WAVE_START and PLANE_SELECT_DONE (R56, R57, R160) -/

theorem exec_waveStart (hl : s.live = true) (hg : g < 32) : exec (.waveStart h g) s = .next (s.waveStart h g) :=
  (whenLive_of_live hl (fun s => if g < 32 then s.waveStart h g else s)).trans (by rw [if_pos hg])

theorem exec_planeSelectDone (hl : s.live = true) (hg : g < 32) : exec (.planeSelectDone h g) s = .next (s.selectDone h g) :=
  (whenLive_of_live hl (fun s => if g < 32 then s.selectDone h g else s)).trans (by rw [if_pos hg])

theorem selectDone_eq (hw : s.waveIn h g [.selecting] = some (i, w)) (ha : s.nodeAborted w.node = false) :
    s.selectDone h g = s.startSlices h g i w := by
  unfold State.selectDone
  simp only [hw, ha, Bool.false_eq_true, if_false]

/-- The Seams that do not hold the plane READY (R56). -/
def State.needsSelect (s : State) (h : Half) (g : Nat) (w : Wave) (p : Nat) : List (Nat × Nat) :=
  (chmSeams (s.waveChms w)).filter (fun e => s.rf (SEAM_STATUS h (seamOf g e.1 e.2)) SEAM_STATUS.STATE != 2 ||
    s.rf (SEAM_STATUS h (seamOf g e.1 e.2)) SEAM_STATUS.PLANE != p)

/-- A Seam selects a plane. -/
def State.selectPlane (h : Half) (g p : Nat) (s : State) (e : Nat × Nat) : State :=
  (s.wf (SEAM_STATUS h (seamOf g e.1 e.2)) SEAM_STATUS.STATE 1).wf (SEAM_STATUS h (seamOf g e.1 e.2)) SEAM_STATUS.PLANE p

/-- The plane of the wave's logical plane in its node's slot. -/
def State.planeOf (s : State) (h : Half) (w : Wave) : Option Nat := (s.pinOf w.node).bind (fun p => s.mapPlane h p.1 p.2 w.lplane)

section
variable (hw : s.waveIn h g [.latched] = some (i, w)) (hm : s.mayStart h g w = true) (ha : s.nodeAborted w.node = false)
include hw hm ha

theorem waveStart_unmapped (hp : s.planeOf h w = none) : s.waveStart h g = s.refuseLplane h g i w := by
  unfold State.planeOf at hp
  unfold State.waveStart
  simp only [hw, hm, ha, hp, Bool.not_true, Bool.or_self, Bool.false_eq_true, if_false]

theorem waveStart_mapped (hp : s.planeOf h w = some p) : s.waveStart h g =
    if (s.needsSelect h g w p).isEmpty then (s.setWave h g i { w with plane := p }).startSlices h g i { w with plane := p }
    else (s.needsSelect h g w p).foldl (State.selectPlane h g p) (s.setWave h g i { w with plane := p, phase := .selecting }) := by
  unfold State.planeOf at hp
  unfold State.waveStart
  simp only [hw, hm, ha, hp, Bool.not_true, Bool.or_self, Bool.false_eq_true, if_false]
  rfl

end

theorem State.selectPlane_half (s : State) (h x : Half) (g p : Nat) (e : Nat × Nat) : (s.selectPlane h g p e).half x = s.half x :=
  (State.wf_half ..).trans (State.wf_half ..)

/-- The plane that a map gives is one of 16 (R159). -/
theorem planeOf_lt (hp : s.planeOf h w = some p) : p < 16 := by
  obtain ⟨⟨set, slot⟩, -, hmap⟩ := Option.bind_eq_some_iff.1 hp
  unfold State.mapPlane at hmap
  dsimp only at hmap
  split at hmap
  · have hlt : ∀ x lo, bits x lo 4 < 16 := fun x lo => Nat.mod_lt _ (by decide)
    rw [← Option.some.inj hmap]
    split <;> exact hlt _ _
  · exact absurd hmap (by simp)

/-- The Seams that need it select the plane. -/
theorem selects_foldl (hp : p < 16) {l : List (Nat × Nat)} (hl : (c, k) ∈ l) (s : State) :
    (l.foldl (State.selectPlane h g p) s).rf (SEAM_STATUS h (seamOf g c k)) SEAM_STATUS.STATE = 1 ∧
    (l.foldl (State.selectPlane h g p) s).rf (SEAM_STATUS h (seamOf g c k)) SEAM_STATUS.PLANE = p := by
  have hother : ∀ (t : State) (b a : Nat), (t.wf b SEAM_STATUS.PLANE p).rf a SEAM_STATUS.STATE = t.rf a SEAM_STATUS.STATE := fun t b a =>
    State.rf_wf_disjoint _ _ _ SEAM_STATUS.PLANE SEAM_STATUS.STATE _ rfl (by decide)
  refine foldl_brings (P := fun t => t.rf (SEAM_STATUS h (seamOf g c k)) SEAM_STATUS.STATE = 1 ∧
    t.rf (SEAM_STATUS h (seamOf g c k)) SEAM_STATUS.PLANE = p) (fun t => ⟨?_, ?_⟩) (fun t d ht => ⟨?_, ?_⟩) hl s
  · exact (hother ..).trans (State.rf_wf_same _ _ _ (by decide) (by decide))
  · rw [State.selectPlane, State.rf_wf_same _ _ _ (by decide) hp]
  · exact (hother ..).trans (State.rf_wf_again _ (by decide) (by decide) ht.1)
  · rw [State.selectPlane]
    exact State.rf_wf_again _ (by decide) hp ((State.rf_wf_disjoint _ _ _ SEAM_STATUS.STATE SEAM_STATUS.PLANE _ rfl (by decide)).trans ht.2)

theorem refuseLplane_leaves (s : State) (h : Half) (g i : Nat) (w : Wave) :
    ((s.refuseLplane h g i w).gal h g).waves = (s.gal h g).waves.eraseIdx i ∧ ((s.refuseLplane h g i w).half h).nv = (s.half h).nv ∧
    ((s.refuseLplane h g i w).half h).mem = (s.half h).mem := by
  unfold State.refuseLplane
  dsimp only
  have kl := (KeepsWaves.logNode (s.refuseWave h g i w) h h w.node { logSoft 2 (w.lplane + 16 * ((s.pinOf w.node).getD (0, 0)).2) with
    subject := ((s.pinOf w.node).getD (0, 0)).1, kind := 10 } (by simp [logSoft])).trans (.galMaybeEnd _ h w.node)
  refine ⟨by rw [kl.waves, refuseWave_waves], by rw [kl.nv, refuseWave_nv], ?_⟩
  rw [galMaybeEnd_mem, State.logNode, sameHalves_mem (sameHalves_log _ _ _ (by simp [logSoft])), refuseWave_mem]

/-- Node.chms lists Chambers below 16. -/
theorem waveChms_lt (hc : c ∈ s.waveChms w) : c < 16 := by
  unfold State.waveChms at hc
  split at hc
  · unfold Node.chms at hc
    exact List.mem_range.1 (List.mem_filter.1 hc).1
  · exact absurd hc List.not_mem_nil

/-- A wave that needs no select starts at once on the plane that its Seams hold. -/
theorem waveStart_ready (hw : s.waveIn h g [.latched] = some (i, w)) (hm : s.mayStart h g w = true) (ha : s.nodeAborted w.node = false)
    (hp : s.planeOf h w = some p)
    (hr : ∀ c ∈ s.waveChms w, ∀ k < 4, s.rf (SEAM_STATUS h (seamOf g c k)) SEAM_STATUS.STATE = 2 ∧
      s.rf (SEAM_STATUS h (seamOf g c k)) SEAM_STATUS.PLANE = p) :
    s.waveStart h g = (s.setWave h g i { w with plane := p }).startSlices h g i { w with plane := p } := by
  have hn : s.needsSelect h g w p = [] := by
    refine List.filter_eq_nil_iff.2 ?_
    rintro ⟨c, k⟩ he
    obtain ⟨hc, hk⟩ := mem_chmSeams.1 he
    obtain ⟨h1, h2⟩ := hr c hc k hk
    simp [h1, h2]
  rw [waveStart_mapped hw hm ha hp, hn]
  rfl

/-- A wave selects its plane where a Seam does not hold it READY. -/
theorem waveStart_selects (hw : s.waveIn h g [.latched] = some (i, w)) (hm : s.mayStart h g w = true) (ha : s.nodeAborted w.node = false)
    (hp : s.planeOf h w = some p) (hc : c ∈ s.waveChms w) (hk : k < 4)
    (hr : s.rf (SEAM_STATUS h (seamOf g c k)) SEAM_STATUS.STATE ≠ 2 ∨ s.rf (SEAM_STATUS h (seamOf g c k)) SEAM_STATUS.PLANE ≠ p) :
    ((s.waveStart h g).gal h g).waves = (s.gal h g).waves.set i { w with plane := p, phase := .selecting } ∧
    (s.waveStart h g).rf (SEAM_STATUS h (seamOf g c k)) SEAM_STATUS.STATE = 1 ∧
    (s.waveStart h g).rf (SEAM_STATUS h (seamOf g c k)) SEAM_STATUS.PLANE = p ∧
    ((s.waveStart h g).half h).nv = (s.half h).nv ∧ ((s.waveStart h g).half h).mem = (s.half h).mem := by
  have hn : (c, k) ∈ s.needsSelect h g w p := List.mem_filter.2 ⟨mem_chmSeams.2 ⟨hc, hk⟩, by simpa [Bool.or_eq_true] using hr⟩
  obtain ⟨h1, h2⟩ := selects_foldl (h := h) (g := g) (planeOf_lt hp) hn (s.setWave h g i { w with plane := p, phase := .selecting })
  have hhalf := half_foldl (x := h) (fun t e => State.selectPlane_half t h h g p e) (s.needsSelect h g w p)
    (s.setWave h g i { w with plane := p, phase := .selecting })
  rw [waveStart_mapped hw hm ha hp, if_neg (by simpa using List.ne_nil_of_mem hn)]
  refine ⟨?_, h1, h2, ?_, ?_⟩
  · rw [State.gal_congr (congrArg HalfState.gals hhalf), waves_setWave]
  · rw [hhalf, State.setWave_nv]
  · rw [hhalf, State.setWave_mem]

/-- Acceptance goes by registers and the node, which a change of the list of waves leaves. -/
theorem accepts_setWave {v : Wave} {w7 : Bool} (ha : s.accepts h g w w7) : (s.setWave h g i v).accepts h g w w7 := by
  unfold State.accepts State.planeEn State.debugHides State.on State.planeW7 at *
  simpa only [State.waveChms_setWave, State.setWave_rf] using ha

/-- Settles O33: each clause by the path of the model that its wave takes; an accepted wave takes the same path after a select and
without one. -/
theorem waveStarts : Obligations.WaveStarts := by
  refine ⟨?delivered, ?selects, ?ready, ?unmapped, ?selected, ?disabled⟩
  case delivered =>
    intro s h g i w o chk hl hg hw ho hb
    obtain ⟨⟨bs, hwaves, hlen⟩, hlatch, hnv⟩ := inputDelivered_fills hw ho hb chk
    refine ⟨_, exec_inputBlockDelivered hl hg chk, ?_⟩
    rw [hwaves, List.map_set, List.map_set, hlen]
    exact ⟨rfl, fun c _ k hk hc => hlatch k hk c hc, rfl, hnv⟩
  case selects =>
    intro s h g i w p c k hl hg hw hm ha hp _ hk hin hr
    exact ⟨_, exec_waveStart hl hg, waveStart_selects hw hm ha hp hin hk hr⟩
  case ready =>
    intro s h g i w p w7 hl hg hw hm ha hp hr hacc
    have hacc' : s.accepts h g { w with plane := p } w7 := fun c hc => hacc c (waveChms_lt hc) hc
    obtain ⟨⟨v, hwaves, hphase, hchms⟩, hstate, hactive, hnv⟩ := startSlices_runs (i := i)
      (accepts_setWave (i := i) (v := { w with plane := p }) hacc')
    rw [waves_setWave, List.set_set] at hwaves
    rw [State.waveChms_setWave] at hchms
    refine ⟨_, exec_waveStart hl hg, ?_⟩
    rw [waveStart_ready hw hm ha hp fun c hc => hr c (waveChms_lt hc) hc, hwaves, List.map_set, List.map_set, hphase, hchms]
    exact ⟨rfl, rfl, fun c _ k hk hc => hstate k hk c (by rwa [State.waveChms_setWave]), hactive, by rw [hnv, State.setWave_nv]⟩
  case unmapped =>
    intro s h g i w hl hg hw hm ha hp
    refine ⟨_, exec_waveStart hl hg, ?_⟩
    rw [waveStart_unmapped hw hm ha hp]
    exact refuseLplane_leaves s h g i w
  case selected =>
    intro s h g i w w7 hl hg hw ha hacc
    have hacc' : s.accepts h g w w7 := fun c hc => hacc c (waveChms_lt hc) hc
    obtain ⟨⟨v, hwaves, hphase, hchms⟩, hstate, hactive, hnv⟩ := startSlices_runs (i := i) hacc'
    refine ⟨_, exec_planeSelectDone hl hg, ?_⟩
    rw [selectDone_eq hw ha, hwaves, List.map_set, List.map_set, hphase, hchms]
    exact ⟨rfl, rfl, fun c _ k hk hc => hstate k hk c hc, hactive, by rw [hnv]⟩
  case disabled =>
    intro s h g i w c k hl hg hw ha hc hk hin he
    refine ⟨_, exec_planeSelectDone hl hg, ?_⟩
    rw [selectDone_eq hw ha]
    exact startSlices_refused i hg hc hk hin he

end Sys2Proof.Machine
end

section
/-! PROOF. The count that a Seam column delivers lies within the error term of the numeric contract (R46, R47, R83, R84). -/

namespace Sys2Proof.Machine

variable {g a st sp sn free : Nat} {d e n p x lo hi : Int}

/-- The lowest count within `e` of the difference `d` of the sums, at `p` units per count, and within `e / p` of the ideal count `n`. -/
def lowCount (e d n p : Int) : Int := max (-((e - d) / p)) (n - e / p)
/-- The highest such count. -/
def highCount (e d n p : Int) : Int := min ((d + e) / p) (n + e / p)

theorem count_between_iff (hp : 0 < p) :
    (lowCount e d n p ≤ x ∧ x ≤ highCount e d n p) ↔ |p * x - d| ≤ e ∧ |x - n| ≤ e / p := by
  have hlow : -((e - d) / p) ≤ x ↔ d - e ≤ x * p := by
    rw [neg_le, Int.le_ediv_iff_mul_le hp, neg_mul]
    omega
  have hhigh : x ≤ (d + e) / p ↔ x * p ≤ d + e := Int.le_ediv_iff_mul_le hp
  unfold lowCount highCount
  rw [max_le_iff, le_min_iff, hlow, hhigh, abs_le, abs_le, mul_comm p x]
  omega

theorem free_between (h : lo ≤ hi) (free : Nat) :
    lo ≤ lo + ((free % (hi - lo + 1).toNat : Nat) : Int) ∧ lo + ((free % (hi - lo + 1).toNat : Nat) : Int) ≤ hi := by
  have hlt := Nat.mod_lt free (show 0 < (hi - lo + 1).toNat by omega)
  omega

/-- A flip step is its charge sum over 2^g, rounded: half a step above at most, and less than half a step below. -/
theorem flipStep_rounds (g S : Nat) : 2 * (2 ^ g * flipStep g S) ≤ 2 * S + 2 ^ g ∧ 2 * S < 2 * (2 ^ g * flipStep g S) + 2 ^ g := by
  have hle := Nat.div_mul_le_self (2 * S + 2 ^ g) (2 ^ (g + 1))
  have hlt := Nat.lt_div_mul_add (a := 2 * S + 2 ^ g) (Nat.two_pow_pos (g + 1))
  have e : (2 * S + 2 ^ g) / 2 ^ (g + 1) * 2 ^ (g + 1) = 2 * (2 ^ g * flipStep g S) := by
    rw [flipStep, pow_succ]; ring
  rw [e] at hle hlt
  rw [pow_succ] at hlt
  omega

/-- Two rounded flip steps differ from the exact difference by the rounding term at most (R84). -/
theorem idealCount_near (g sp sn : Nat) :
    |(2 ^ g : Int) * ((flipStep g sp : Int) - (flipStep g sn : Int)) - ((sp : Int) - (sn : Int))| ≤ 2 ^ g - 1 := by
  obtain ⟨hp1, hp2⟩ := flipStep_rounds g sp
  obtain ⟨hn1, hn2⟩ := flipStep_rounds g sn
  zify at hp1 hp2 hn1 hn2
  rw [mul_sub, abs_le]
  omega

theorem delivered_eq (ha : a ≠ 0) (hst : st < 3) (sp sn free : Nat) :
    let lo := lowCount (errTerm g a st) ((sp : Int) - sn) ((flipStep g sp : Int) - flipStep g sn) (2 ^ g)
    let hi := highCount (errTerm g a st) ((sp : Int) - sn) ((flipStep g sp : Int) - flipStep g sn) (2 ^ g)
    delivered g a st sp sn free = lo + ((free % (hi - lo + 1).toNat : Nat) : Int) := by
  unfold delivered
  exact (if_neg ha).trans (if_neg (by omega))

theorem rounding_le_errTerm (ha : a ≠ 0) (g st : Nat) : (2 ^ g - 1 : Int) ≤ errTerm g a st := by
  have hpos := Nat.two_pow_pos g
  rw [errTerm, if_neg ha]
  push_cast [hpos]
  omega

/-- The ideal count is one of those that the contract allows. -/
theorem idealCount_between (ha : a ≠ 0) (g st sp sn : Nat) :
    lowCount (errTerm g a st) ((sp : Int) - sn) ((flipStep g sp : Int) - flipStep g sn) (2 ^ g) ≤ (flipStep g sp : Int) - flipStep g sn ∧
    (flipStep g sp : Int) - flipStep g sn ≤ highCount (errTerm g a st) ((sp : Int) - sn) ((flipStep g sp : Int) - flipStep g sn) (2 ^ g) := by
  refine (count_between_iff (by positivity)).2 ⟨(idealCount_near g sp sn).trans (rounding_le_errTerm ha g st), ?_⟩
  rw [sub_self, abs_zero]
  positivity

theorem delivered_near (ha : a ≠ 0) (hst : st < 3) (sp sn free : Nat) :
    |(2 ^ g : Int) * delivered g a st sp sn free - ((sp : Int) - sn)| ≤ errTerm g a st ∧
    |delivered g a st sp sn free - ((flipStep g sp : Int) - flipStep g sn)| ≤ (errTerm g a st : Int) / 2 ^ g := by
  obtain ⟨hlo, hhi⟩ := idealCount_between ha g st sp sn
  rw [← count_between_iff (by positivity), delivered_eq ha hst]
  exact free_between (hlo.trans hhi) free

/-- A pass in which a Seam drives no row delivers zero. -/
theorem delivered_undriven (g st sp sn free : Nat) : delivered g 0 st sp sn free = 0 := by
  unfold delivered
  exact if_pos rfl

theorem delivered_within (hst : st < 3) (h0 : a = 0 → sp = 0 ∧ sn = 0) :
    ((2 ^ g : Int) * delivered g a st sp sn free - ((sp : Int) - (sn : Int))).natAbs ≤ errTerm g a st ∧
    (delivered g a st sp sn free - ((flipStep g sp : Int) - (flipStep g sn : Int))).natAbs ≤ errTerm g a st / 2 ^ g := by
  by_cases ha : a = 0
  · obtain ⟨rfl, rfl⟩ := h0 ha
    subst ha
    simp [delivered_undriven]
  · obtain ⟨hd, hn⟩ := delivered_near (g := g) ha hst sp sn free
    constructor
    · zify; exact hd
    · zify; exact hn

end Sys2Proof.Machine
end

section
/-! PROOF. A pass of a slice ends (R69, R76 to R81): what the Chambers' passes, the Gallery's counters and the next slice leave. -/

namespace Sys2Proof.Machine

variable {s t u : State} {h : Half} {g i : Nat} {w v : Wave}

theorem exec_slicePassEnd (hl : s.live = true) (hg : g < 32) : exec (.slicePassEnd h g) s = .next (s.passEnd h g) :=
  (whenLive_of_live hl (fun s => if g < 32 then s.passEnd h g else s)).trans (by rw [if_pos hg])

/-! ## The wave that runs -/

theorem waveIn_get {ph : List WavePhase} (hw : s.waveIn h g ph = some (i, w)) : (s.gal h g).waves[i]? = some w := by
  obtain ⟨v, hv, e⟩ := Option.map_eq_some_iff.1 hw
  obtain ⟨rfl, rfl⟩ := Prod.mk.inj e
  exact hv

/-! ## What a pass leaves -/

/-- Free values, outputs, the NV controller, the memory, the phases of the Gallery's waves and its count of split passes stay. -/
structure KeepsPass (h : Half) (g : Nat) (s t : State) : Prop where
  freeCtr : t.freeCtr = s.freeCtr
  outbox : t.outbox = s.outbox
  nv : (t.half h).nv = (s.half h).nv
  mem : (t.half h).mem = (s.half h).mem
  phases : (t.gal h g).waves.map Wave.phase = (s.gal h g).waves.map Wave.phase
  passes : t.rf (GAL_RETRY_COUNT h g) GAL_RETRY_COUNT.PASSES = s.rf (GAL_RETRY_COUNT h g) GAL_RETRY_COUNT.PASSES

namespace KeepsPass

theorem refl (s : State) : KeepsPass h g s s := ⟨rfl, rfl, rfl, rfl, rfl, rfl⟩

theorem trans (k : KeepsPass h g s t) (l : KeepsPass h g t u) : KeepsPass h g s u :=
  ⟨l.freeCtr.trans k.freeCtr, l.outbox.trans k.outbox, l.nv.trans k.nv, l.mem.trans k.mem, l.phases.trans k.phases, l.passes.trans k.passes⟩

theorem ite {p : Prop} [Decidable p] (k : KeepsPass h g s t) (l : KeepsPass h g s u) : KeepsPass h g s (if p then t else u) := by
  split
  · exact k
  · exact l

theorem foldl {β : Type} {F : State → β → State} (hF : ∀ t e, KeepsPass h g t (F t e)) (l : List β) (s : State) :
    KeepsPass h g s (l.foldl F s) := by
  induction l generalizing s with
  | nil => exact refl s
  | cons e l ih => exact (hF s e).trans (ih _)

theorem foldlFst {β γ : Type} {F : State × γ → β → State × γ} (hF : ∀ p e, KeepsPass h g p.1 (F p e).1) (l : List β) {p : State × γ} :
    KeepsPass h g p.1 (l.foldl F p).1 := by
  induction l generalizing p with
  | nil => exact refl p.1
  | cons e l ih => exact (hF p e).trans ih

theorem wf (k : KeepsPass h g s t) {a : Nat} {f : Fld} {v : Nat} (ha : GAL_RETRY_COUNT h g ≠ a + f.off) : KeepsPass h g s (t.wf a f v) where
  freeCtr := k.freeCtr
  outbox := k.outbox
  nv := by rw [State.wf_half, k.nv]
  mem := by rw [State.wf_half, k.mem]
  phases := by rw [State.gal_congr (s := t) (by rw [State.wf_half]), k.phases]
  passes := (State.rf_wf_ne _ _ _ _ ha).trans k.passes

theorem setWave (hp : ((s.gal h g).waves.map Wave.phase)[i]? = some v.phase) : KeepsPass h g s (s.setWave h g i v) where
  freeCtr := by cases h <;> rfl
  outbox := by cases h <;> rfl
  nv := State.setWave_nv ..
  mem := State.setWave_mem ..
  phases := by
    obtain ⟨hlt, hget⟩ := List.getElem?_eq_some_iff.1 hp
    rw [waves_setWave, List.map_set, ← hget, List.set_getElem_self]
  passes := State.setWave_rf ..

/-! ### A Chamber's pass (R76, R78, R79) -/

theorem seamCounts (s : State) (n : Nat) (cols : List ColOut) : KeepsPass h g s (s.seamCounts h n cols) := by
  have hslices : GAL_RETRY_COUNT h g ≠ SEAM_SLICE_COUNT h n + 0 := by simp only [GAL_RETRY_COUNT, SEAM_SLICE_COUNT]; omega
  have hsats : GAL_RETRY_COUNT h g ≠ SEAM_SAT_COUNT h n + 0 := by simp only [GAL_RETRY_COUNT, SEAM_SAT_COUNT]; omega
  have hevent : GAL_RETRY_COUNT h g ≠ SEAM_EVENT h n + 0 := by simp only [GAL_RETRY_COUNT, SEAM_EVENT]; omega
  unfold State.seamCounts
  lift_lets
  intro m s1 s2
  have k1 : KeepsPass h g s s1 := ((refl s).wf hslices).wf hsats
  have k2 : KeepsPass h g s s2 := ite (k1.wf hevent) k1
  exact ite (k2.wf hevent) k2

theorem chmPass (s : State) (w : Wave) (c : Nat) (a : ChmAcc) : KeepsPass h g s (s.chmPass h g w c a).1 := by
  have hretry : GAL_RETRY_COUNT h g ≠ CHM_RETRY h (16 * g + c) + 0 := by simp only [GAL_RETRY_COUNT, CHM_RETRY]; omega
  have hclip : GAL_RETRY_COUNT h g ≠ CHM_CLIP h (16 * g + c) + 0 := by simp only [GAL_RETRY_COUNT, CHM_CLIP]; omega
  have hclamps : GAL_RETRY_COUNT h g ≠ GAL_CLIP_COUNT h g + 0 := by simp only [GAL_RETRY_COUNT, GAL_CLIP_COUNT]; omega
  unfold State.chmPass
  lift_lets
  intro outs drove conv s1 nsat i s2 parts s3 sbAbs v cl q e s4
  have k1 : KeepsPass h g s s1 := foldl (fun t k => seamCounts t _ _) _ s
  have k2 : KeepsPass h g s s2 := ite (k1.wf hretry) k1
  have k3 : KeepsPass h g s s3 := ite k2 (k2.wf hretry)
  have k4 : KeepsPass h g s s4 := (k2.wf hclamps).wf hclip
  split
  · exact k3
  · exact k4

/-! ### The next slice (R53) -/

theorem countSkips (s : State) (w : Wave) (b : Nat) : KeepsPass h g s (s.countSkips h g w b) :=
  foldl (fun t _ => ite ((refl t).wf (by simp only [GAL_RETRY_COUNT, SEAM_SKIP_COUNT]; omega)) (refl t)) _ _

theorem wfStatus (k : KeepsPass h g s t) {f : Fld} {v : Nat} (hf : f.off = 0) : KeepsPass h g s (t.wf (GAL_STATUS h g) f v) :=
  k.wf (by simp only [hf, GAL_RETRY_COUNT, GAL_STATUS]; omega)

theorem enterSlice (bs : List Nat) (hp : ((s.gal h g).waves.map Wave.phase)[i]? = some w.phase) :
    KeepsPass h g s (s.enterSlice h g i w bs) := by
  induction bs generalizing s with
  | nil => exact (setWave (v := { w with slice := w.slices, pass := 7 }) hp).wfStatus rfl
  | cons b bs ih =>
    have kc := countSkips (h := h) (g := g) s w b
    have hp' := (congrArg (·[i]?) kc.phases).trans hp
    unfold State.enterSlice
    dsimp only
    split
    · exact kc.trans (ih hp')
    · next p _ => exact ((kc.trans (setWave (v := { w.armSlice b with pass := p }) hp')).wfStatus rfl).wfStatus rfl

end KeepsPass

/-! ## SLICE_PASS_END -/

/-- The pass's counts reach the Chambers that need it (R78). -/
def State.chmPasses (s : State) (h : Half) (g : Nat) (w : Wave) : State × List (Nat × ChmAcc) :=
  w.chms.foldl (fun p e =>
    if e.2.need.contains w.pass then
      let q := p.1.chmPass h g w e.1 e.2
      (q.1, p.2 ++ [(e.1, q.2)])
    else (p.1, p.2 ++ [e])) (s, ([] : List (Nat × ChmAcc)))

/-- The free values of the pass's columns are taken, and a split pass is counted. -/
def State.passCounted (s : State) (h : Half) (g : Nat) (w : Wave) : State :=
  let s1 := { (s.chmPasses h g w).1 with freeCtr := s.freeCtr + 544 * 64 }
  if w.pass ≠ 0 then s1.add (GAL_RETRY_COUNT h g) GAL_RETRY_COUNT.PASSES 1 else s1

theorem KeepsPass.chmPasses (s : State) (w : Wave) : KeepsPass h g s (s.chmPasses h g w).1 := by
  unfold State.chmPasses
  refine foldlFst (p := (s, [])) (fun p e => ?_) _
  split
  · dsimp only
    exact chmPass p.1 w e.1 e.2
  · exact refl p.1

/-- The wave with what its Chambers have formed in the pass. -/
def State.passWave (s : State) (h : Half) (g : Nat) (w : Wave) : Wave := { w with chms := (s.chmPasses h g w).2 }

/-- The wave goes on with a further pass, or its slice ends and the next one follows. -/
def State.passNext (s : State) (h : Half) (g i : Nat) (w : Wave) : State :=
  match (s.passCounted h g w).nextPass h g (s.passWave h g w) (w.pass + 1) with
  | some p => ((s.passCounted h g w).setWave h g i { s.passWave h g w with pass := p }).wf (GAL_STATUS h g) GAL_STATUS.PASS p
  | none => (if (s.passWave h g w).endSlice.2 then (s.passCounted h g w).wf (GAL_EVENT h g) GAL_EVENT.ACC_SAT 1
      else s.passCounted h g w).enterSlice h g i (s.passWave h g w).endSlice.1 ((s.passWave h g w).endSlice.1.slicesFrom (w.slice + 1))

theorem passEnd_eq (hw : s.waveIn h g [.slices] = some (i, w)) (hp : w.pass < 7) : s.passEnd h g = s.passNext h g i w := by
  unfold State.passEnd
  rw [hw]
  exact if_neg (by omega)

/-- What the wave does next leaves what the pass has taken and counted. -/
theorem KeepsPass.passNext (hi : (((s.passCounted h g w).gal h g).waves.map Wave.phase)[i]? = some w.phase) :
    KeepsPass h g (s.passCounted h g w) (s.passNext h g i w) := by
  have hsat : GAL_RETRY_COUNT h g ≠ GAL_EVENT h g + 0 := by simp only [GAL_RETRY_COUNT, GAL_EVENT]; omega
  unfold State.passNext
  split
  · next p _ => exact (setWave (v := { s.passWave h g w with pass := p }) hi).wfStatus rfl
  · have ks := ite (p := (s.passWave h g w).endSlice.2 = true) (((refl (s.passCounted h g w)).wf (f := GAL_EVENT.ACC_SAT) (v := 1) hsat))
      (refl (s.passCounted h g w))
    exact ks.trans (enterSlice _ ((congrArg (·[i]?) ks.phases).trans hi))

/-- A pass takes one free value for each column of the Gallery's 64 Seams, and counts if it is a split pass. -/
theorem passCounted_counts (s : State) (w : Wave) :
    (s.passCounted h g w).freeCtr = s.freeCtr + 544 * 64 ∧ (s.passCounted h g w).outbox = s.outbox ∧
    ((s.passCounted h g w).half h).nv = (s.half h).nv ∧ ((s.passCounted h g w).half h).mem = (s.half h).mem ∧
    ((s.passCounted h g w).gal h g).waves.map Wave.phase = (s.gal h g).waves.map Wave.phase ∧
    (s.passCounted h g w).rf (GAL_RETRY_COUNT h g) GAL_RETRY_COUNT.PASSES =
      (s.rf (GAL_RETRY_COUNT h g) GAL_RETRY_COUNT.PASSES + b2n (decide (w.pass ≠ 0))) % 2 ^ 32 := by
  obtain ⟨-, hout, hnv, hmem, hphases, hpasses⟩ := KeepsPass.chmPasses (h := h) s w
  unfold State.passCounted
  by_cases hp : w.pass = 0
  · have hlt := State.rf_lt (s := s) (GAL_RETRY_COUNT h g) GAL_RETRY_COUNT.PASSES
    dsimp only
    rw [if_neg (not_not.2 hp), decide_eq_false (not_not.2 hp)]
    exact ⟨rfl, hout, hnv, hmem, hphases, hpasses.trans (Nat.mod_eq_of_lt hlt).symm⟩
  · dsimp only
    rw [if_pos hp, decide_eq_true hp]
    refine ⟨rfl, hout, hnv, hmem, hphases, ?_⟩
    rw [← hpasses]
    exact State.rf_wf _ _ GAL_RETRY_COUNT.PASSES _ (by decide)

theorem passEnd_runs (hw : s.waveIn h g [.slices] = some (i, w)) (hp : w.pass < 7) :
    (s.passEnd h g).freeCtr = s.freeCtr + 544 * 64 ∧
    ((s.passEnd h g).gal h g).waves.map Wave.phase = (s.gal h g).waves.map Wave.phase ∧
    (s.passEnd h g).rf (GAL_RETRY_COUNT h g) GAL_RETRY_COUNT.PASSES =
      (s.rf (GAL_RETRY_COUNT h g) GAL_RETRY_COUNT.PASSES + b2n (decide (w.pass ≠ 0))) % 2 ^ 32 ∧
    ((s.passEnd h g).half h).nv = (s.half h).nv ∧ ((s.passEnd h g).half h).mem = (s.half h).mem ∧ (s.passEnd h g).outbox = s.outbox := by
  obtain ⟨hfree, hout, hnv, hmem, hphases, hpasses⟩ := passCounted_counts (h := h) s w
  have hi : (((s.passCounted h g w).gal h g).waves.map Wave.phase)[i]? = some w.phase := by
    rw [hphases, List.getElem?_map, waveIn_get hw, Option.map_some]
  have k := KeepsPass.passNext (s := s) hi
  rw [passEnd_eq hw hp]
  exact ⟨k.freeCtr.trans hfree, k.phases.trans hphases, k.passes.trans hpasses, k.nv.trans hnv, k.mem.trans hmem, k.outbox.trans hout⟩

end Sys2Proof.Machine
end

section
/-! PROOF. The checksum test of a wave's end (R93 to R98): what misses, clean waves and the refreshes that follow leave of the Galleries, the stored
rows and the status of Seams. -/

namespace Sys2Proof.Machine

variable {s t u : State} {h : Half} {a g n : Nat} {f : Fld}

/-- The waves, the stored rows, whether a Gallery's wave runs, and of each Seam in which no step runs the state and the latches stay; no further
step runs. -/
structure KeepsSeams (h : Half) (s t : State) : Prop where
  gals : (t.half h).gals = (s.half h).gals
  rows : (t.half h).nv.rows = (s.half h).nv.rows
  running : ∀ e ∈ (t.half h).nv.running, e ∈ (s.half h).nv.running
  active : ∀ g < 32, ∀ f, f.off = 0 → t.rf (GAL_STATUS h g) f = s.rf (GAL_STATUS h g) f
  seams : ∀ n < 2048, (∀ e ∈ (s.half h).nv.running, e.1 % 2048 ≠ n) → ∀ f, f.off = 0 ∧ (9 ≤ f.lo ∨ f.lo + f.len ≤ 8) →
    t.rf (SEAM_STATUS h n) f = s.rf (SEAM_STATUS h n) f

namespace KeepsSeams

theorem refl (s : State) : KeepsSeams h s s := ⟨rfl, rfl, fun _ he => he, fun _ _ _ _ => rfl, fun _ _ _ _ _ => rfl⟩

theorem trans (k : KeepsSeams h s t) (l : KeepsSeams h t u) : KeepsSeams h s u where
  gals := l.gals.trans k.gals
  rows := l.rows.trans k.rows
  running e he := k.running e (l.running e he)
  active g hg f hf := (l.active g hg f hf).trans (k.active g hg f hf)
  seams n hn hr f hf := (l.seams n hn (fun e he => hr e (k.running e he)) f hf).trans (k.seams n hn hr f hf)

theorem ite {p : Prop} [Decidable p] (k : KeepsSeams h s t) (l : KeepsSeams h s u) : KeepsSeams h s (if p then t else u) := by
  split
  · exact k
  · exact l

theorem foldl {β : Type} {F : State → β → State} (hF : ∀ t e, KeepsSeams h t (F t e)) (l : List β) (s : State) :
    KeepsSeams h s (l.foldl F s) := by
  induction l generalizing s with
  | nil => exact refl s
  | cons e l ih => exact (hF s e).trans (ih _)

/-- A change that touches neither the halves nor a register of the arrays. -/
theorem of_sameHalves (k : sameHalves s t) (hrd : ∀ a, arrayReg a → t.rd a = s.rd a) : KeepsSeams h s t where
  gals := sameHalves_gals k h
  rows := by rw [sameHalves_nv k]
  running e he := by rwa [sameHalves_nv k] at he
  active g hg f hf := congrArg (getF · f) (hrd _ (by simp only [hf, GAL_STATUS, Nat.add_assoc]; rw [arrayReg_iff] <;> omega))
  seams n hn _ f hf := congrArg (getF · f) (hrd _ (by rw [hf.1]; exact arrayReg_seamStatus h hn))

theorem log (s : State) (h x : Half) (r : LogReq) (hc : r.cls < 64) : KeepsSeams h s (s.log x r) :=
  of_sameHalves (sameHalves_log s x r hc) fun _ ha => rd_log s x r hc ha

theorem modNode (s : State) (h : Half) (r : NodeRef) (F : Node → Node) : KeepsSeams h s (s.modNode r F) :=
  of_sameHalves (fun _ => rfl) fun _ _ => rfl

theorem need (s : State) (h : Half) {d : Nat} (hd : d < 144) : KeepsSeams h s (s.need d) :=
  of_sameHalves (sameHalves_need s d) fun _ ha => rd_need s hd ha

/-- A change of the NV controller that starts and ends no step and writes no row. -/
theorem modNv (k : KeepsSeams h s t) {F : NvHalf → NvHalf} (hF : ∀ n, (F n).rows = n.rows ∧ (F n).running = n.running) :
    KeepsSeams h s (t.modNv h F) := k.trans {
  gals := by unfold State.modNv; rw [State.half_modHalf_same]
  rows := by rw [State.modNv_nv, (hF _).1]
  running e he := by rwa [State.modNv_nv, (hF _).2] at he
  active _ _ _ _ := State.modNv_rf ..
  seams _ _ _ _ _ := State.modNv_rf .. }

theorem modPlane (k : KeepsSeams h s t) (q : Nat) (F : PlaneRec → PlaneRec) : KeepsSeams h s (t.modPlane h q F) := by
  unfold State.modPlane
  exact k.modNv fun _ => ⟨rfl, rfl⟩

theorem wf (k : KeepsSeams h s t) {v : Nat} (hg : ∀ n < 32, GAL_STATUS h n ≠ a + f.off) (hs : ∀ n < 2048, SEAM_STATUS h n ≠ a + f.off) :
    KeepsSeams h s (t.wf a f v) := k.trans {
  gals := by rw [State.wf_half]
  rows := by rw [State.wf_half]
  running e he := by rwa [State.wf_half] at he
  active g hg' f' hf' := State.rf_wf_ne _ _ _ _ (by rw [hf']; exact hg g hg')
  seams n hn _ f' hf' := State.rf_wf_ne _ _ _ _ (by rw [hf'.1]; exact hs n hn) }

/-- A write of one of the NV controller's registers. -/
theorem wfNv (k : KeepsSeams h s t) {v : Nat} (ha : h.base + 0xC00000 ≤ a + f.off) : KeepsSeams h s (t.wf a f v) :=
  k.wf (fun n hn => by simp only [GAL_STATUS]; omega) (fun n hn => by simp only [SEAM_STATUS]; omega)

/-- A write of one of a Gallery's registers above GAL_STATUS. -/
theorem wfGal (k : KeepsSeams h s t) {v : Nat} (hg : g < 32) (ha : GAL_STATUS h g < a + f.off ∧ a + f.off < GAL_STATUS h g + 0x100) :
    KeepsSeams h s (t.wf a f v) := by
  simp only [GAL_STATUS] at ha
  exact k.wf (fun n hn => by simp only [GAL_STATUS]; omega) (fun n hn => by simp only [SEAM_STATUS]; omega)

/-! ### Refreshes start and stop (R101 to R103) -/

theorem showPending (s : State) (h : Half) (n : Nat) : KeepsSeams h s (s.showPending h n) where
  gals := by rw [State.showPending_half]
  rows := by rw [State.showPending_half]
  running e he := by rwa [State.showPending_half] at he
  active g hg f hf := State.rf_wf_ne _ _ _ _ (by rw [hf]; simp only [GAL_STATUS, SEAM_STATUS]; omega)
  seams _ _ _ _ hf := State.rf_showPending _ _ _ _ hf

theorem askStep (s : State) (h : Half) (x : NvStep) : KeepsSeams h s (s.askStep h x) := by
  refine (((refl s).modNv ?_).trans (showPending ..)).trans (need _ h (galDom_lt h (seamGal_lt (x.plane / 16))))
  exact fun _ => ⟨rfl, rfl⟩

/-- Steps dropped show in the Seams where they ran, and in what is pending. -/
theorem dropSteps (s : State) (h : Half) (P : NvStep → Bool) : KeepsSeams h s (s.dropSteps h P) where
  gals := by rw [dropSteps_half]; unfold State.modNv; rw [State.half_modHalf_same]
  rows := by rw [dropSteps_half, State.modNv_nv]; rfl
  running e he := by
    rw [dropSteps_half, State.modNv_nv] at he
    exact List.mem_of_mem_filter he
  active g hg f hf := by
    have hne : ∀ n, GAL_STATUS h g + f.off ≠ SEAM_STATUS h (n % 2048) + 0 := fun n => by
      rw [hf]; simp only [GAL_STATUS, SEAM_STATUS]; omega
    refine (rf_foldl (fun t n => State.rf_wf_ne _ _ _ _ (hne n)) _ _).trans ((rf_foldl (fun t n => ?_) _ _).trans (State.modNv_rf ..))
    rw [State.rf_wf_ne _ _ _ _ (hne n), State.rf_wf_ne _ _ _ _ (hne n)]
  seams n hn hr f hf := by
    refine (rf_foldl (fun t m => State.rf_showPending t h m _ hf) _ _).trans
      (congrArg (getF · f) ((rd_foldl_mem (fun m hm t => ?_) _).trans (State.modNv_rd ..)))
    obtain ⟨e, he, rfl⟩ := List.mem_map.1 hm
    have hne : SEAM_STATUS h n + f.off ≠ SEAM_STATUS h (e.1 % 2048) + 0 := by
      have := hr e (List.mem_of_mem_filter he)
      rw [hf.1]
      simp only [SEAM_STATUS]
      omega
    rw [State.rd_wf_ne _ _ _ hne, State.rd_wf_ne _ _ _ hne]

theorem checkCatchup (s : State) (h : Half) : KeepsSeams h s (s.checkCatchup h) := by
  unfold State.checkCatchup
  split
  · exact refl s
  · exact (refl s).wfNv (by simp only [NV_REFRESH_CTRL]; omega)

theorem stopBarred (s : State) (h : Half) : KeepsSeams h s (s.stopBarred h) := by
  unfold State.stopBarred
  dsimp only
  split
  · exact refl s
  · refine ((refl s).modNv ?_).trans (dropSteps ..)
    exact fun _ => ⟨rfl, rfl⟩

theorem modRefresh (s : State) (h : Half) (q : Nat) (F : Refresh → Refresh) : KeepsSeams h s (s.modRefresh h q F) := by
  unfold State.modRefresh
  exact (refl s).modNv fun _ => ⟨rfl, rfl⟩

theorem schedule (k : Nat) (s : State) (h : Half) : KeepsSeams h s (s.schedule h k) := by
  induction k generalizing s with
  | zero => exact refl s
  | succ k ih =>
    unfold State.schedule
    split
    · exact refl s
    · exact ((modRefresh ..).trans (askStep ..)).trans (ih _)

theorem runRefresh (s : State) (h : Half) : KeepsSeams h s (s.runRefresh h) :=
  ((checkCatchup s h).trans (stopBarred ..)).trans (schedule ..)

/-! ### Misses and clean waves (R95 to R99) -/

theorem wfHealth (k : KeepsSeams h s t) {q v : Nat} (hf : f.off = 0) : KeepsSeams h s (t.wf (NV_PLANE_HEALTH h q) f v) :=
  k.wfNv (by rw [hf]; simp only [NV_PLANE_HEALTH]; omega)

theorem queueUrgent (k : KeepsSeams h s t) (q : Nat) : KeepsSeams h s (t.queueUrgent h q) := by
  unfold State.queueUrgent
  refine k.modNv fun n => ?_
  split <;> exact ⟨rfl, rfl⟩

/-- A plane becomes SUSPECT, or a refresh or a reprogram of it becomes due. -/
theorem enterHealth (k : KeepsSeams h s t) (q : Nat) {code : Nat} (hc : code = 1 ∨ code = 2 ∨ code = 4) :
    KeepsSeams h s (t.enterHealth h q code) := by
  have k1 := (k.wfHealth (q := q) (f := NV_PLANE_HEALTH.STATE) (v := code) rfl).modPlane q (fun r => { r with clean := 0 })
  obtain rfl | rfl | rfl := hc
  · exact k1
  · exact k1.queueUrgent q
  · exact k1.trans (log _ h h _ (by simp [logHealth]))

theorem chargeMiss (s : State) (h : Half) (q : Nat) (gs : List Nat) : KeepsSeams h s (s.chargeMiss h q gs) := by
  unfold State.chargeMiss
  lift_lets
  intro b mask s1 s2 s3 reached
  have k1 : KeepsSeams h s s1 := (refl s).wfNv (by simp only [b, NV_PLANE_SUSPECT]; omega)
  have k2 : KeepsSeams h s s2 := (k1.wfHealth rfl).modPlane ..
  have k3 : KeepsSeams h s s3 := ite (k2.enterHealth q (.inl rfl)) k2
  exact ite k1 (ite (k3.enterHealth q (.inr (.inl rfl))) (ite (k3.enterHealth q (.inr (.inr rfl))) k3))

theorem cleanWave (s : State) (h : Half) (q : Nat) : KeepsSeams h s (s.cleanWave h q) := ite ((refl s).modPlane ..) (refl s)

/-! ### The test (R93 to R96) -/

theorem chkMiss (s : State) (hg : g < 32) (w : Wave) (ms : List ChkOut) : KeepsSeams h s (s.chkMiss h g w ms) := by
  unfold State.chkMiss
  split
  · exact refl s
  · next m _ =>
    lift_lets
    intro s1 a s2 delta tol s3 q s4 s5
    have k1 : KeepsSeams h s s1 := ((refl s).wfGal hg (by simp only [GAL_STATUS, GAL_CHK_EVENT]; omega)).wfGal hg
      (by simp only [GAL_STATUS, GAL_CHK_MISSES]; omega)
    have ha : GAL_STATUS h g < a + 0 ∧ a + 0 < GAL_STATUS h g + 0x100 := by simp only [a, GAL_STATUS, GAL_CHK_LAST]; omega
    have k2 : KeepsSeams h s s2 := ((k1.wfGal hg ha).wfGal hg ha).wfGal hg ha
    have k3 : KeepsSeams h s s3 := (k2.wfGal hg (by simp only [GAL_STATUS, GAL_CHK_LAST_DELTA]; omega)).wfGal hg
      (by simp only [GAL_STATUS, GAL_CHK_LAST_TOL]; omega)
    have k4 : KeepsSeams h s s4 := k3.trans (log _ h h _ (by simp [q, logData]))
    have k5 : KeepsSeams h s s5 := ite (k4.trans (modNode ..)) k4
    exact k5.trans (foldl (fun t e => foldl (fun t k => ite (chargeMiss ..) (refl t)) _ t) _ _)

theorem chkClean (s : State) (h : Half) (g : Nat) (w : Wave) (xs : List ChkOut) : KeepsSeams h s (s.chkClean h g w xs) :=
  foldl (fun t _ => foldl (fun t _ => ite (refl t) (cleanWave ..)) _ t) _ s

theorem chkWave (s : State) (hg : g < 32) (w : Wave) : KeepsSeams h s (s.chkWave h g w).1 := by
  unfold State.chkWave
  split
  · lift_lets
    intro xs ms s1 s2
    have k1 : KeepsSeams h s s1 := (refl s).wfGal hg (by simp only [GAL_STATUS, GAL_CHK_TESTS]; omega)
    have k2 : KeepsSeams h s s2 := ite (k1.wfGal hg (by simp only [GAL_STATUS, GAL_CHK_EVENT]; omega)) k1
    exact ((k2.trans (chkMiss _ hg w ms)).trans (chkClean ..)).trans (runRefresh ..)
  · exact refl s

end KeepsSeams
end Sys2Proof.Machine
end

section
/-! PROOF. A wave ends (R57, R69 to R71), a plane's watch expires (R98), and the statement on waves that run and end. -/

namespace Sys2Proof.Machine

variable {s t u : State} {h : Half} {g i c k : Nat} {w : Wave}

/-! ## WAVE_END -/

theorem exec_waveEnd (hl : s.live = true) (hg : g < 32) : exec (.waveEnd h g) s = .next (s.waveEnd h g) :=
  (whenLive_of_live hl (fun s => if g < 32 then s.waveEnd h g else s)).trans (by rw [if_pos hg])

/-- A wave with T and the clamp marks of its output groups (R70, R82). -/
def Wave.formed (w : Wave) : Wave := { w with
  t := (w.groups (w.chms.map Prod.fst)).map (fun og => (og, (w.groupT og).1))
  clampT := (w.groups (w.chms.map Prod.fst)).map (fun og => (og, (w.groupT og).2)) }

/-- The Seams are READY, the latch is free and no wave of the Gallery runs. -/
def State.showEnd (s : State) (h : Half) (g : Nat) (w : Wave) : State :=
  ((s.seamsWf h g (w.chms.map Prod.fst) SEAM_STATUS.STATE 2).seamsWf h g (w.chms.map Prod.fst) (latchFld w.latch) 0).wf
    (GAL_STATUS h g) GAL_STATUS.WAVE_ACTIVE 0

/-- A clamped column shows in the Gallery and marks the node (R82). -/
def State.showClip (s : State) (h : Half) (g : Nat) (w : Wave) : State :=
  if w.formed.clampT.any (fun e => e.2.contains true) then ((s.showEnd h g w).wf (GAL_EVENT h g) GAL_EVENT.CLIPPED 1).markNode w.node 2
  else s.showEnd h g w

theorem waveEnd_eq (hw : s.waveIn h g [.slices] = some (i, w)) (hp : 7 ≤ w.pass) (ha : s.nodeAborted w.node = false) :
    ∃ y : Gal, y.waves = (((s.showClip h g w).chkWave h g w.formed).1.gal h g).waves ∧
      s.waveEnd h g = (((s.showClip h g w).chkWave h g w.formed).1.setGal h g y).setWave h g i { w.formed with phase := .ended } := by
  unfold State.waveEnd
  rw [hw]
  refine ⟨_, ?_, (if_neg (by omega)).trans (if_neg (by rw [ha]; decide))⟩
  rfl

@[simp] theorem State.showEnd_half (s : State) (h x : Half) (g : Nat) (w : Wave) : (s.showEnd h g w).half x = s.half x := by
  unfold State.showEnd
  rw [State.wf_half, State.seamsWf_half, State.seamsWf_half]

theorem showEnd_active (s : State) (h : Half) (g : Nat) (w : Wave) : (s.showEnd h g w).rf (GAL_STATUS h g) GAL_STATUS.WAVE_ACTIVE = 0 :=
  State.rf_wf_same _ _ _ (by decide) (by decide)

theorem latchFld_lo (l : Nat) : 10 ≤ (latchFld l).lo := by
  unfold latchFld
  split <;> decide

theorem showEnd_seam (s : State) (h : Half) (g : Nat) {w : Wave} (hc : c ∈ w.chms.map Prod.fst) (hk : k < 4) :
    (s.showEnd h g w).rf (SEAM_STATUS h (seamOf g c k)) SEAM_STATUS.STATE = 2 ∧
    (s.showEnd h g w).rf (SEAM_STATUS h (seamOf g c k)) (latchFld w.latch) = 0 := by
  obtain ⟨hoff, hfit, hlen⟩ := latchFld_fits w.latch
  have hlo := latchFld_lo w.latch
  have hne : ∀ n, SEAM_STATUS h n ≠ GAL_STATUS h g := fun n => by simp only [SEAM_STATUS, GAL_STATUS]; omega
  unfold State.showEnd
  constructor
  · rw [State.rf_wf_ne _ _ _ _ (hne _)]
    refine (rf_foldl (fun t e => ?_) _ _).trans (rf_seamsWf s h g (by decide) (by decide) hc hk)
    exact State.rf_wf_disjoint _ _ _ _ _ _ hoff.symm (.inr (by simp only; omega))
  · rw [State.rf_wf_ne _ _ _ _ (by rw [hoff]; exact hne _)]
    exact rf_seamsWf _ h g hfit (by rw [hlen]; decide) hc hk

theorem KeepsSeams.showClip (s : State) (hg : g < 32) (w : Wave) : KeepsSeams h (s.showEnd h g w) (s.showClip h g w) := by
  have k := (refl (h := h) (s.showEnd h g w)).wfGal (a := GAL_EVENT h g) (f := GAL_EVENT.CLIPPED) (v := 1) hg
    (by simp only [GAL_STATUS, GAL_EVENT]; omega)
  exact ite (k.trans (modNode ..)) (refl _)

/-- The wave stands ended with its T, and its Seams are READY for the next one. -/
theorem waveEnd_ends (hg : g < 32) (hw : s.waveIn h g [.slices] = some (i, w)) (hp : 7 ≤ w.pass) (ha : s.nodeAborted w.node = false) :
    ((s.waveEnd h g).gal h g).waves = (s.gal h g).waves.set i { w.formed with phase := .ended } ∧
    (s.waveEnd h g).on (GAL_STATUS h g) GAL_STATUS.WAVE_ACTIVE = false ∧
    (∀ c < 16, ∀ k < 4, c ∈ w.chms.map Prod.fst → (∀ e ∈ (s.half h).nv.running, e.1 % 2048 ≠ seamOf g c k) →
      (s.waveEnd h g).rf (SEAM_STATUS h (seamOf g c k)) SEAM_STATUS.STATE = 2 ∧
      (s.waveEnd h g).rf (SEAM_STATUS h (seamOf g c k)) (latchFld w.latch) = 0) ∧
    ((s.waveEnd h g).half h).nv.rows = (s.half h).nv.rows := by
  obtain ⟨y, hy, e⟩ := waveEnd_eq hw hp ha
  have kt := (KeepsSeams.showClip (h := h) s hg w).trans (KeepsSeams.chkWave _ hg w.formed)
  obtain ⟨hoff, -, -⟩ := latchFld_fits w.latch
  rw [e]
  refine ⟨?_, ?_, fun c hc k hk hm hr => ?_, ?_⟩
  · rw [waves_setWave, State.gal_setGal, if_pos rfl, hy, State.gal_congr kt.gals, State.gal_congr (congrArg HalfState.gals (State.showEnd_half ..))]
  · rw [State.on, State.setWave_rf, State.setGal_rf, kt.active g hg _ rfl, showEnd_active]
    rfl
  · obtain ⟨hstate, hlatch⟩ := showEnd_seam s h g hm hk
    have hseam := kt.seams _ (seamOf_lt hg hc hk) (by rwa [State.showEnd_half])
    rw [State.setWave_rf, State.setGal_rf, State.setWave_rf, State.setGal_rf, hseam _ ⟨rfl, .inr (by decide)⟩,
      hseam _ ⟨hoff, .inl (Nat.le_of_lt (latchFld_lo w.latch))⟩]
    exact ⟨hstate, hlatch⟩
  · rw [State.setWave_nv, State.setGal_nv, kt.rows, State.showEnd_half]

/-! ## HEALTH_WATCH_EXPIRE (R98) -/

theorem exec_healthWatchExpire {p : Nat} (hl : s.live = true) (hp : p < 32768) (hh : s.health h p = 3)
    (hc : s.watchWaves h ≤ (s.planeRec h p).clean) : exec (.healthWatchExpire h p) s = .next (s.enterHealth h p 0) :=
  (whenLive_of_live hl (fun s =>
    if s.health h p = 3 ∧ (s.planeRec h p).clean ≥ s.watchWaves h ∧ p < 32768 then s.enterHealth h p 0 else s)).trans
    (by rw [if_pos ⟨hh, hc, hp⟩])

theorem enterHealth_healthy_shows (s : State) (h : Half) (p : Nat) : (s.enterHealth h p 0).health h p = 0 ∧
    (s.enterHealth h p 0).rf (NV_PLANE_HEALTH h p) NV_PLANE_HEALTH.MISS_COUNT = 0 ∧
    (s.enterHealth h p 0).rf (NV_PLANE_SUSPECT h p) NV_PLANE_SUSPECT.GROUPS = 0 := by
  have hother : NV_PLANE_HEALTH h p + 0 ≠ NV_PLANE_SUSPECT h p + 0 := by simp only [NV_PLANE_HEALTH, NV_PLANE_SUSPECT]; omega
  rw [State.enterHealth_healthy]
  refine ⟨?_, ?_, State.rf_wf_same _ _ _ (by decide) (by decide)⟩
  · rw [State.health, State.rf_wf_ne _ _ _ _ hother, State.rf_wf_field _ _ NV_PLANE_HEALTH.MISS_COUNT NV_PLANE_HEALTH.STATE _ rfl (.inr (by decide)),
      State.modPlane_rf]
    exact State.rf_wf_same _ _ _ (by decide) (by decide)
  · rw [State.rf_wf_ne _ _ _ _ hother]
    exact State.rf_wf_same _ _ _ (by decide) (by decide)

theorem onlyRegs_enterHealth_healthy (s : State) (h : Half) (p : Nat) :
    onlyRegs [NV_PLANE_HEALTH h p, NV_PLANE_SUSPECT h p] s ((s.enterHealth h p 0).setHalf h (s.half h)) := by
  rw [State.enterHealth_healthy, State.wf_setHalf, State.wf_setHalf, State.modPlane, State.modNv_setHalf, State.wf_setHalf, State.setHalf_self]
  exact onlyRegs_wf (onlyRegs_wf (onlyRegs_wf (onlyRegs_refl _ s) _ _ _ (by simp)) _ _ _ (by simp)) _ _ _ (by simp)

/-! ## The statement -/

/-- Settles O34: a pass by what it takes and what it leaves, the delivered count by the interval that holds the ideal count, a wave's end by
what its checksum test leaves of the Seams, and a watch that expires by its writes. -/
theorem wavesRunAndEnd : Obligations.WavesRunAndEnd := by
  refine ⟨?pass, ?count, ?ends, ?watch⟩
  case pass =>
    intro s h g i w hl hg hw hp _
    exact ⟨_, exec_slicePassEnd hl hg, passEnd_runs hw hp⟩
  case count =>
    intro g a st sp sn free _ hst h0
    exact delivered_within hst h0
  case ends =>
    intro s h g i w hl hg hw hp _ ha hr _
    obtain ⟨hwaves, hactive, hseams, hrows⟩ := waveEnd_ends hg hw hp ha
    refine ⟨_, exec_waveEnd hl hg, ?_, ?_, hactive, fun c hc k hk hm => hseams c hc k hk hm fun e he => hr e he c hm k hk, hrows⟩
    · rw [hwaves, List.map_set]
    · rw [hwaves, List.map_set]
      rfl
  case watch =>
    intro s h p hl hp hh hc
    obtain ⟨hhealth, hmiss, hgroups⟩ := enterHealth_healthy_shows s h p
    exact ⟨_, exec_healthWatchExpire hl hp hh hc, hhealth, hmiss, hgroups, onlyRegs_enterHealth_healthy s h p⟩

end Sys2Proof.Machine
end

section
/-! PROOF. Records of the Ledger are committed and compacted (R131, R146 to R148). -/

namespace Sys2Proof.Machine

variable {s : State} {h x : Half} {p : NvPort} {r : LedgerRec} {n : NvHalf}

/-! ## The banks and the stored rows -/

/-- A controller with nothing but its Ledger's banks and its stored rows. -/
def NvHalf.banks (n : NvHalf) : NvHalf := { bank := n.bank, bank0 := n.bank0, bank1 := n.bank1, nextSeq := n.nextSeq, rows := n.rows }

@[simp] theorem NvHalf.banks_setPort (n : NvHalf) (p : NvPort) (y : NvPortSt) : (n.setPort p y).banks = n.banks := by cases p <;> rfl

@[simp] theorem progress_half (s : State) (h : Half) (p : NvPort) (done total : Nat) : (s.progress h p done total).half x = s.half x := by
  cases p
  case loader => rfl
  case host => exact (State.wf_half ..).trans (State.wf_half ..)

@[simp] theorem showLedger_half (s : State) (h : Half) : (s.showLedger h).half x = s.half x := by simp [State.showLedger]

@[simp] theorem showIncomplete_half (s : State) (h : Half) : (s.showIncomplete h).half x = s.half x := by
  refine (half_foldl (fun t i => ?_) _ _).trans (State.wf_half ..)
  split <;> exact (State.wf_half ..).trans (State.wf_half ..)

@[simp] theorem setIncomplete_nv (s : State) (h : Half) (q : Nat) (v : Bool) : ((s.setIncomplete h q v).half h).nv =
    { (s.half h).nv with incomplete := if v then insertNat q (s.half h).nv.incomplete else (s.half h).nv.incomplete.filter (· != q) } := by
  simp [State.setIncomplete]

/-- A program/erase cycle is counted in a register, and may be recorded. -/
@[simp] theorem peCycle_nv (s : State) (h : Half) (q : Nat) : ((s.peCycle h q).half x).nv = (s.half x).nv := by
  have ha : ((s.addSat (NV_PLANE_HEALTH h q) NV_PLANE_HEALTH.PE_CYCLES 1).half x).nv = (s.half x).nv := congrArg HalfState.nv (State.wf_half ..)
  unfold State.peCycle
  dsimp only
  split
  · exact (sameHalves_nv (sameHalves_log _ _ _ (by simp [logHealth])) x).trans ha
  · exact ha

/-- A plane's EN bit set or cleared has a commit due, and changes nothing else of the controller. -/
theorem setEn_nv (s : State) (h : Half) (q : Nat) (v : Bool) : ∃ l, ((s.setEn h q v).half h).nv = { (s.half h).nv with committing := l } := by
  unfold State.setEn State.cfgPending
  split
  · exact ⟨_, rfl⟩
  · dsimp only
    rw [State.modNv_nv, State.wf_half, State.wf_half]
    split <;> exact ⟨_, rfl⟩

theorem setEn_banks (s : State) (h : Half) (q : Nat) (v : Bool) : ((s.setEn h q v).half h).nv.banks = (s.half h).nv.banks := by
  obtain ⟨l, e⟩ := setEn_nv s h q v
  rw [e]
  rfl

theorem modCmd_banks (s : State) (h : Half) (p : NvPort) (g : NvCmd → NvCmd) : ((s.modCmd h p g).half h).nv.banks = (s.half h).nv.banks := by
  rw [State.modCmd_nv, NvHalf.banks_setPort]

theorem eraseBegin_banks (s : State) (h : Half) (p : NvPort) (q : Nat) : ((s.eraseBegin h p q).half h).nv.banks = (s.half h).nv.banks :=
  (modCmd_banks ..).trans (setEn_banks ..)

theorem protDone_banks (s : State) (h : Half) (p : NvPort) (g mode : Nat) :
    ((s.protDone h p g mode).half h).nv.banks = (s.half h).nv.banks := by
  rw [State.protDone, State.askLedger_nv]
  exact modCmd_banks ..

theorem protApply_banks (s : State) (h : Half) (c : NvCmd) : ((s.protApply h c).half h).nv.banks = (s.half h).nv.banks := by
  unfold State.protApply
  split <;> rw [State.modNv_nv, State.wf_half] <;> rfl

/-- An ERASE_DONE that has committed: the plane's cycle is counted and the plane is no longer INCOMPLETE (R131). -/
theorem eraseDone_banks (s : State) (h : Half) (q : Nat) :
    (((s.peCycle h q).setIncomplete h q false).half h).nv.banks = (s.half h).nv.banks := by
  rw [setIncomplete_nv, peCycle_nv]
  rfl

/-- What a committed record guards proceeds without a further record and without a change of a stored row. -/
theorem ledgerStep_banks (s : State) (h : Half) (p : NvPort) (r : LedgerRec) :
    ((s.ledgerStep h p r).half h).nv.banks = (s.half h).nv.banks := by
  unfold State.ledgerStep
  split
  case h_1 => rfl
  case h_2 c _ =>
    split
    case h_1 =>
      split
      · rw [State.askPulse_nv]; exact modCmd_banks ..
      · rfl
    case h_2 =>
      split
      · rfl
      · next q rest _ =>
        dsimp only
        split
        · refine (modCmd_banks ..).trans ?_
          rw [progress_half]
          refine (modCmd_banks ..).trans ?_
          rw [State.fresh_half]
          exact eraseDone_banks s h q
        · have hstep : ((((((s.peCycle h q).setIncomplete h q false).modCmd h p (fun c => { c with planes := rest })).progress h p
              (64 - rest.length) 64).half h).nv).banks = (s.half h).nv.banks := by
            rw [progress_half]
            exact (modCmd_banks ..).trans (eraseDone_banks s h q)
          split
          · exact (eraseBegin_banks ..).trans hstep
          · exact (protDone_banks ..).trans hstep
    case h_3 =>
      split
      · exact protDone_banks ..
      · split
        · exact eraseBegin_banks ..
        · exact protDone_banks ..
    case h_4 => exact (modCmd_banks ..).trans (protApply_banks ..)
    case h_5 => rfl

/-! ## LEDGER_COMMIT (R131, R146) -/

theorem NvHalf.bankOf_congr {m : NvHalf} (e : m.banks = n.banks) (b : Nat) : m.bankOf b = n.bankOf b := by
  have e0 : m.bank0 = n.bank0 := (congrArg NvHalf.bank0 e :)
  have e1 : m.bank1 = n.bank1 := (congrArg NvHalf.bank1 e :)
  unfold NvHalf.bankOf
  rw [e0, e1]

@[simp] theorem NvHalf.bankOf_setBank (n : NvHalf) (b : Nat) (l : List LedgerRec) : (n.setBank b l).bankOf b = l := by
  unfold NvHalf.bankOf NvHalf.setBank
  split <;> rfl

/-- Writing the other bank leaves a bank as it was. -/
theorem NvHalf.bankOf_setBank_other (n : NvHalf) (b : Nat) (l : List LedgerRec) : (n.setBank (1 - b) l).bankOf b = n.bankOf b := by
  unfold NvHalf.bankOf NvHalf.setBank
  by_cases hb : b = 0
  · subst hb; rfl
  · rw [if_pos (show 1 - b = 0 by omega), if_neg hb, if_neg hb]

/-- A controller without the records of its banks and without a compaction. -/
def NvHalf.besideBanks (n : NvHalf) : NvHalf := { n with bank0 := [], bank1 := [], compacting := false }

theorem NvHalf.setBank_besideBanks (n : NvHalf) (b : Nat) (l : List LedgerRec) : (n.setBank b l).besideBanks = n.besideBanks := by
  unfold NvHalf.setBank
  split <;> rfl

theorem NvHalf.startCompact_besideBanks (n : NvHalf) : n.startCompact.besideBanks = n.besideBanks := by
  unfold NvHalf.startCompact
  split
  · exact n.setBank_besideBanks (1 - n.bank) []
  · rfl

/-- A compaction that begins empties the bank that is not active (R148). -/
theorem NvHalf.startCompact_bankOf (n : NvHalf) : n.startCompact.bankOf n.bank = n.bankOf n.bank := by
  unfold NvHalf.startCompact
  split
  · exact n.bankOf_setBank_other n.bank []
  · rfl

/-- A controller whose active bank has a record written in its next slot. -/
def NvHalf.wrote (n : NvHalf) (r : LedgerRec) : NvHalf :=
  { n.setBank n.bank (n.bankOf n.bank ++ [r.sealed n.nextSeq]) with nextSeq := n.nextSeq + 1, ledgerQ := n.ledgerQ.tail }

theorem NvHalf.wrote_besideBanks (n : NvHalf) (r : LedgerRec) :
    (n.wrote r).besideBanks = { n.besideBanks with nextSeq := n.nextSeq + 1, ledgerQ := n.ledgerQ.tail } :=
  congrArg (fun m : NvHalf => { m with nextSeq := n.nextSeq + 1, ledgerQ := n.ledgerQ.tail }) (n.setBank_besideBanks ..)

theorem ledgerWrite_nv (s : State) (h : Half) (r : LedgerRec) :
    ((s.ledgerWrite h r).half h).nv = ((s.half h).nv.wrote r).startCompact := by
  unfold State.ledgerWrite
  rw [showLedger_half, State.modNv_nv]
  rfl

theorem ledgerWrite_besideBanks (s : State) (h : Half) (r : LedgerRec) : ((s.ledgerWrite h r).half h).nv.besideBanks =
    { (s.half h).nv.besideBanks with nextSeq := (s.half h).nv.nextSeq + 1, ledgerQ := (s.half h).nv.ledgerQ.tail } := by
  rw [ledgerWrite_nv, NvHalf.startCompact_besideBanks, NvHalf.wrote_besideBanks]

theorem ledgerWrite_bankOf (s : State) (h : Half) (r : LedgerRec) : ((s.ledgerWrite h r).half h).nv.bankOf (s.half h).nv.bank =
    (s.half h).nv.bankOf (s.half h).nv.bank ++ [r.sealed (s.half h).nv.nextSeq] := by
  have hb : ((s.half h).nv.wrote r).bank = (s.half h).nv.bank := (congrArg NvHalf.bank (NvHalf.wrote_besideBanks ..) :)
  have e := ((s.half h).nv.wrote r).startCompact_bankOf
  rw [hb] at e
  rw [ledgerWrite_nv, e]
  exact NvHalf.bankOf_setBank ..

theorem exec_ledgerCommit (hl : s.live = true) : exec (.ledgerCommit h) s = .next (s.ledgerCommit h) :=
  whenLive_of_live hl (fun s => s.ledgerCommit h)

section
variable {e : LedgerRec × LedgerFor} (hs : (s.half h).nv.stopping = false) (hsc : (s.half h).nv.scanned = true)
  (hco : (s.half h).nv.compacting = false) (hf : (s.half h).nv.ledgerQ.find? (s.commitReady h) = some e) (hp : e.2 = .cmd p)
include hs hsc hco hf hp

/-- The oldest record that may be committed is written, and its command goes on. -/
theorem ledgerCommit_eq : s.ledgerCommit h =
    ((s.modNv h (fun n => { n with ledgerQ := e :: n.ledgerQ.erase e })).ledgerWrite h e.1).ledgerStep h p e.1 := by
  simp only [State.ledgerCommit, hs, hsc, hco, hf, hp, Bool.not_true, Bool.false_eq_true, or_self, if_false]

/-- The record stands in the active bank under the next SEQ (R146). -/
theorem ledgerCommit_writes :
    ((s.ledgerCommit h).half h).nv.bankOf (s.half h).nv.bank =
      (s.half h).nv.bankOf (s.half h).nv.bank ++ [e.1.sealed (s.half h).nv.nextSeq] ∧
    ((s.ledgerCommit h).half h).nv.nextSeq = (s.half h).nv.nextSeq + 1 ∧ ((s.ledgerCommit h).half h).nv.bank = (s.half h).nv.bank ∧
    ((s.ledgerCommit h).half h).nv.rows = (s.half h).nv.rows := by
  rw [ledgerCommit_eq hs hsc hco hf hp]
  set u := s.modNv h (fun n => { n with ledgerQ := e :: n.ledgerQ.erase e })
  have hu : (u.half h).nv = { (s.half h).nv with ledgerQ := e :: (s.half h).nv.ledgerQ.erase e } := State.modNv_nv ..
  have k := ledgerStep_banks (u.ledgerWrite h e.1) h p e.1
  have hw := ledgerWrite_besideBanks u h e.1
  have hb := ledgerWrite_bankOf u h e.1
  rw [hu] at hw hb
  exact ⟨(NvHalf.bankOf_congr k _).trans hb, (congrArg NvHalf.nextSeq k :).trans (congrArg NvHalf.nextSeq hw :),
    (congrArg NvHalf.bank k :).trans (congrArg NvHalf.bank hw :), (congrArg NvHalf.rows k :).trans (congrArg NvHalf.rows hw :)⟩

/-- An ERASE_BEGIN that is committed lets its plane's first erase pulse ask for the budget (R131). -/
theorem ledgerCommit_eraseBegin {c : NvCmd} {q : Nat} {l : List Nat} (ht : e.1.type = 1) (hc : s.nvCmd h p = some c)
    (hpl : c.planes = q :: l) :
    ((s.ledgerCommit h).nvCmd h p).map (fun c => c.phase) = some .steps ∧
    ((s.ledgerCommit h).half h).nv.pulseQ = (s.half h).nv.pulseQ ++ [{ own := .cmd p, kind := .erase, plane := q }] := by
  rw [ledgerCommit_eq hs hsc hco hf hp]
  set u := s.modNv h (fun n => { n with ledgerQ := e :: n.ledgerQ.erase e })
  have hw := ledgerWrite_besideBanks u h e.1
  rw [show (u.half h).nv = { (s.half h).nv with ledgerQ := e :: (s.half h).nv.ledgerQ.erase e } from State.modNv_nv ..] at hw
  set w := u.ledgerWrite h e.1
  have hport : (w.half h).nv.port p = (s.half h).nv.port p := by
    cases p
    case host => exact (congrArg NvHalf.host hw :)
    case loader => exact (congrArg NvHalf.ldr hw :)
  have hwc : w.nvCmd h p = some c := (State.nvCmd_congr hport).trans hc
  have hpulse : (w.half h).nv.pulseQ = (s.half h).nv.pulseQ := (congrArg NvHalf.pulseQ hw :)
  have e1 : w.ledgerStep h p e.1 =
      (w.modCmd h p (fun c => { c with phase := .steps })).askPulse h { own := .cmd p, kind := .erase, plane := q } := by
    simp only [State.ledgerStep, hwc, ht, hpl]
  rw [e1]
  refine ⟨?_, ?_⟩
  · rw [(KeepsJobs.askPulse ..).cmd, State.nvCmd_modCmd, hwc]; rfl
  · rw [State.askPulse_nv, State.modCmd_nv, ← hpulse]
    cases p <;> rfl
end

/-! ## LEDGER_COMPACT_DONE (R147, R148) -/

theorem exec_ledgerCompactDone (hl : s.live = true) : exec (.ledgerCompactDone h) s = .next (s.ledgerCompact h) :=
  whenLive_of_live hl (fun s => s.ledgerCompact h)

/-- A record that the device writes is present where its TYPE is listed (R147). -/
theorem sealed_valid (k : Nat) (h1 : 1 ≤ r.type) (h6 : r.type ≤ 6) : (r.sealed k).valid = true := by
  simp [LedgerRec.valid, LedgerRec.sealed, LedgerRec.body, h1, h6]

/-- Compaction copies ERASE_BEGIN, PROT_BEGIN and ATTEST_ADVANCE records alone. -/
theorem type_of_mem_ledgerLive {l : List LedgerRec} (hr : r ∈ ledgerLive l) : r.type = 1 ∨ r.type = 3 ∨ r.type = 5 := by
  induction l with
  | nil => simp [ledgerLive] at hr
  | cons x l ih =>
    unfold ledgerLive at hr
    dsimp only at hr
    split at hr
    · next hk =>
      rcases List.mem_cons.1 hr with rfl | hr
      · simp only [Bool.or_eq_true, Bool.and_eq_true, beq_iff_eq] at hk
        omega
      · exact ih hr
    · exact ih hr

/-- Copied records are all present, with their types, subjects and values. -/
theorem reseq_present {l : List LedgerRec} (hl : ∀ r ∈ l, 1 ≤ r.type ∧ r.type ≤ 6) (k : Nat) :
    ((reseq k l).filter LedgerRec.valid).map (fun r => (r.type, r.subject, r.value)) = l.map (fun r => (r.type, r.subject, r.value)) := by
  induction l generalizing k with
  | nil => rfl
  | cons r l ih =>
    obtain ⟨h1, h6⟩ := hl r List.mem_cons_self
    rw [reseq, List.filter_cons_of_pos (sealed_valid k h1 h6), List.map_cons, ih fun x hx => hl x (List.mem_cons_of_mem _ hx)]
    rfl

/-- The BANK_OPEN of the bank that follows the active one. -/
def NvHalf.nextOpen (n : NvHalf) : LedgerRec := { type := 6, subject := 0, seq := 0, value := (n.bankGen n.bank).getD 0 + 1 }

theorem NvHalf.nextOpen_valid (n : NvHalf) (k : Nat) : (n.nextOpen.sealed k).valid = true :=
  sealed_valid k (Nat.le_add_left 1 5) (Nat.le_refl 6)

/-- A controller whose other bank holds its own BANK_OPEN and the live records, and is the active one. -/
def NvHalf.compacted (n : NvHalf) : NvHalf :=
  { n.setBank (1 - n.bank) (n.nextOpen.sealed (n.nextSeq + (ledgerLive n.ledger).length) :: reseq n.nextSeq (ledgerLive n.ledger)) with
    bank := 1 - n.bank, nextSeq := n.nextSeq + (ledgerLive n.ledger).length + 1, compacting := false }

theorem ledgerCompact_eq (hc : (s.half h).nv.compacting = true) : s.ledgerCompact h = (s.modNv h NvHalf.compacted).showLedger h := by
  unfold State.ledgerCompact
  rw [if_pos hc]
  rfl

theorem compacted_bankOf (n : NvHalf) : n.compacted.bankOf (1 - n.bank) =
    n.nextOpen.sealed (n.nextSeq + (ledgerLive n.ledger).length) :: reseq n.nextSeq (ledgerLive n.ledger) :=
  NvHalf.bankOf_setBank ..

theorem compacted_bankGen (n : NvHalf) : n.compacted.bankGen (1 - n.bank) = some ((n.bankGen n.bank).getD 0 + 1) := by
  have hv := n.nextOpen_valid (n.nextSeq + (ledgerLive n.ledger).length)
  rw [NvHalf.bankGen, compacted_bankOf]
  simp only [hv]
  rfl

theorem compacted_ledger (n : NvHalf) : n.compacted.ledger.map (fun r => (r.type, r.subject, r.value)) =
    (6, 0, (n.bankGen n.bank).getD 0 + 1) :: (ledgerLive n.ledger).map (fun r => (r.type, r.subject, r.value)) := by
  have hl : ∀ r ∈ ledgerLive n.ledger, 1 ≤ r.type ∧ r.type ≤ 6 := fun r hr => by
    have := type_of_mem_ledgerLive hr
    omega
  rw [NvHalf.ledger, show n.compacted.bank = 1 - n.bank from rfl, compacted_bankOf,
    List.filter_cons_of_pos (n.nextOpen_valid _), List.map_cons, reseq_present hl]
  rfl

theorem onlyRegs_ledgerCompact (hc : (s.half h).nv.compacting = true) :
    onlyRegs [NV_LEDGER_STATUS h] s ((s.ledgerCompact h).setHalf h (s.half h)) := by
  rw [ledgerCompact_eq hc]
  simp only [State.showLedger, State.wf_setHalf, State.modNv_setHalf, State.setHalf_self]
  exact onlyRegs_wf (onlyRegs_wf (onlyRegs_wf (onlyRegs_refl _ s) _ _ _ (by simp)) _ _ _ (by simp)) _ _ _ (by simp)

end Sys2Proof.Machine
end

section
/-! PROOF. The Ledger scan takes planes with an open ERASE_BEGIN out of use (R104, R149), a brown-out stops the controller (R150), and the statement
on the Ledger and brown-outs. -/

namespace Sys2Proof.Machine

variable {s t u : State} {h : Half} {a q r : Nat}

/-! ## Plane enable bits and INCOMPLETE planes -/

theorem bit_withBit_false (n i j : Nat) : bit (withBit n i false) j = (decide (j ≠ i) && bit n j) := by
  by_cases hb : bit n i = true
  · obtain ⟨k, hk⟩ : ∃ k, n = 2 ^ i * (2 * k + 1) + n % 2 ^ i := by
      rw [bit_eq_testBit, Nat.testBit_eq_decide_div_mod_eq, decide_eq_true_iff] at hb
      refine ⟨n / 2 ^ i / 2, ?_⟩
      rw [show 2 * (n / 2 ^ i / 2) + 1 = n / 2 ^ i by omega, Nat.div_add_mod]
    have hlt : n % 2 ^ i < 2 ^ i := Nat.mod_lt _ (Nat.two_pow_pos i)
    have hw : withBit n i false = 2 ^ i * (2 * k) + n % 2 ^ i := by
      have : withBit n i false = n - 2 ^ i := by simp [withBit, hb, b2n]
      rw [this]
      rw [Nat.mul_add] at hk
      omega
    rw [bit_eq_testBit, bit_eq_testBit, hw, Nat.testBit_two_pow_mul_add _ hlt]
    conv_rhs => rw [hk, Nat.testBit_two_pow_mul_add _ hlt]
    rcases Nat.lt_trichotomy j i with hj | rfl | hj
    · simp [hj, hj.ne]
    · simp
    · obtain ⟨m, hm⟩ : ∃ m, j - i = m + 1 := ⟨j - i - 1, by omega⟩
      rw [if_neg (by omega), if_neg (by omega), decide_eq_true (by omega), Bool.true_and, hm, Nat.testBit_succ, Nat.testBit_succ]
      congr 1
      omega
  · have hw : withBit n i false = n := by simp [withBit, hb, b2n]
    rw [hw]
    by_cases hj : j = i
    · subst hj; simp [hb]
    · simp [hj]

/-- Of a plane disabled the EN bit is 0, and every other plane's is as it was. -/
theorem planeEn_setEn_false (s : State) (h : Half) (r q : Nat) :
    (s.setEn h r false).planeEn h q = (decide (q ≠ r) && s.planeEn h q) := by
  unfold State.setEn
  split
  · next he =>
    by_cases hq : q = r
    · subst hq; simp [he]
    · simp [hq]
  · dsimp only
    rw [State.planeEn_congr (State.cfgPending_rd _ _ _ (planeCfg_ne_status h (q / 16) (r / 16)))]
    by_cases hn : q / 16 = r / 16
    · unfold State.planeEn
      rw [hn, State.rf_wf _ _ SEAM_PLANE_CFG.EN _ (by decide), bit_eq_testBit, Nat.testBit_mod_two_pow,
        decide_eq_true (show q % 16 < SEAM_PLANE_CFG.EN.len from Nat.mod_lt _ (by decide)), Bool.true_and, ← bit_eq_testBit,
        bit_withBit_false]
      congr 1
      exact decide_eq_decide.2 (by omega)
    · have hne : SEAM_PLANE_CFG h (q / 16) ≠ SEAM_PLANE_CFG h (r / 16) + 0 := by simp only [SEAM_PLANE_CFG]; omega
      rw [State.planeEn_congr (State.rd_wf_ne _ _ _ hne), decide_eq_true (by rintro rfl; exact hn rfl), Bool.true_and]

theorem setEn_mem (s : State) (h : Half) (q : Nat) (v : Bool) : ((s.setEn h q v).half h).mem = (s.half h).mem := by
  unfold State.setEn State.cfgPending
  split
  · rfl
  · dsimp only
    rw [State.modNv_mem, State.wf_half, State.wf_half]

theorem mem_insertNat {x y : Nat} {l : List Nat} : y ∈ insertNat x l ↔ y = x ∨ y ∈ l := by
  induction l with
  | nil => simp [insertNat]
  | cons z l ih =>
    unfold insertNat
    split
    · exact List.mem_cons
    · split
      · next hx => subst hx; simp
      · rw [List.mem_cons, ih, List.mem_cons, or_left_comm]

/-- The list of INCOMPLETE planes shows in NV_LEDGER_STATUS and NV_INCOMPLETE alone. -/
theorem rd_showIncomplete (s : State) (h : Half) (hs : a ≠ NV_LEDGER_STATUS h) (hi : ∀ i < 4, a ≠ NV_INCOMPLETE h i) :
    (s.showIncomplete h).rd a = s.rd a := by
  refine (rd_foldl_mem (fun i hi' t => ?_) _).trans (State.rd_wf_ne _ _ _ hs)
  have hne : a ≠ NV_INCOMPLETE h i + 0 := hi i (List.mem_range.1 hi')
  split <;> rw [State.rd_wf_ne _ _ _ hne, State.rd_wf_ne _ _ _ hne]

theorem rd_showLedger (s : State) (h : Half) (ha : a ≠ NV_LEDGER_STATUS h) : (s.showLedger h).rd a = s.rd a := by
  have hne : a ≠ NV_LEDGER_STATUS h + 0 := ha
  unfold State.showLedger
  dsimp only
  rw [State.rd_wf_ne _ _ _ hne, State.rd_wf_ne _ _ _ hne, State.rd_wf_ne _ _ _ hne]

theorem rd_planeCfg_showIncomplete (s : State) (h : Half) (n : Nat) :
    (s.showIncomplete h).rd (SEAM_PLANE_CFG h n) = s.rd (SEAM_PLANE_CFG h n) := by
  refine rd_showIncomplete s h ?_ fun i _ => ?_ <;> simp only [SEAM_PLANE_CFG, NV_LEDGER_STATUS, NV_INCOMPLETE] <;> omega

theorem planeEn_setIncomplete (s : State) (h : Half) (r : Nat) (v : Bool) (q : Nat) :
    (s.setIncomplete h r v).planeEn h q = s.planeEn h q := by
  refine State.planeEn_congr ((rd_planeCfg_showIncomplete ..).trans ?_)
  rw [State.rd_wf_ne _ _ _ (by simp only [SEAM_PLANE_CFG, NV_PLANE_HEALTH]; omega), State.modNv_rd]

/-! ## LEDGER_SCAN_DONE (R104, R149) -/

theorem exec_ledgerScanDone (hl : s.live = true) : exec (.ledgerScanDone h) s = .next (s.scanDone h) :=
  whenLive_of_live hl (fun s => s.scanDone h)

/-- The plane is INCOMPLETE and disabled. -/
def State.outOfUse (s : State) (h : Half) (q : Nat) : Prop := q ∈ (s.half h).nv.incomplete ∧ s.planeEn h q = false

/-- A plane with an open ERASE_BEGIN is found. -/
def State.takeOut (h : Half) (s : State) (r : Nat) : State := (s.setIncomplete h r true).setEn h r false

theorem takeOut_outOfUse (k : q = r ∨ s.outOfUse h q) : (s.takeOut h r).outOfUse h q := by
  obtain ⟨l, e⟩ := setEn_nv (s.setIncomplete h r true) h r false
  refine ⟨?_, ?_⟩
  · rw [State.takeOut, e, setIncomplete_nv]
    exact mem_insertNat.2 (k.imp_right And.left)
  · rw [State.takeOut, planeEn_setEn_false, planeEn_setIncomplete]
    rcases k with rfl | ⟨-, hen⟩
    · simp
    · simp [hen]

theorem takeOut_scanned (s : State) (h : Half) (r : Nat) :
    ((s.takeOut h r).half h).nv.scanned = (s.half h).nv.scanned ∧ ((s.takeOut h r).half h).mem = (s.half h).mem := by
  obtain ⟨l, e⟩ := setEn_nv (s.setIncomplete h r true) h r false
  refine ⟨by rw [State.takeOut, e, setIncomplete_nv], ?_⟩
  rw [State.takeOut, setEn_mem, State.setIncomplete, showIncomplete_half, State.wf_half, State.modNv_mem]

theorem foldl_takeOut_scanned (l : List Nat) (s : State) :
    ((l.foldl (State.takeOut h) s).half h).nv.scanned = (s.half h).nv.scanned ∧
    ((l.foldl (State.takeOut h) s).half h).mem = (s.half h).mem := by
  induction l generalizing s with
  | nil => exact ⟨rfl, rfl⟩
  | cons r l ih =>
    obtain ⟨hs, hm⟩ := takeOut_scanned s h r
    exact ⟨(ih _).1.trans hs, (ih _).2.trans hm⟩

theorem foldl_takeOut_outOfUse (l : List Nat) (k : q ∈ l ∨ s.outOfUse h q) :
    (l.foldl (State.takeOut h) s).outOfUse h q := by
  induction l generalizing s with
  | nil => exact k.resolve_left List.not_mem_nil
  | cons r l ih =>
    refine ih ?_
    rcases k with k | k
    · rcases List.mem_cons.1 k with k | k
      · exact .inr (takeOut_outOfUse (.inl k))
      · exact .inl k
    · exact .inr (takeOut_outOfUse (.inr k))

/-- What the scan has found of the planes stays, and the memory. -/
structure KeepsScan (h : Half) (s t : State) : Prop where
  scanned : (t.half h).nv.scanned = (s.half h).nv.scanned
  incomplete : (t.half h).nv.incomplete = (s.half h).nv.incomplete
  mem : (t.half h).mem = (s.half h).mem
  cfg : ∀ n < 2048, t.rd (SEAM_PLANE_CFG h n) = s.rd (SEAM_PLANE_CFG h n)

namespace KeepsScan

theorem trans (k : KeepsScan h s t) (l : KeepsScan h t u) : KeepsScan h s u where
  scanned := l.scanned.trans k.scanned
  incomplete := l.incomplete.trans k.incomplete
  mem := l.mem.trans k.mem
  cfg n hn := (l.cfg n hn).trans (k.cfg n hn)

theorem of_table (k : KeepsTable h s t) : KeepsScan h s t where
  scanned := (congrArg NvHalf.scanned k.nv :)
  incomplete := (congrArg NvHalf.incomplete k.nv :)
  mem := k.mem
  cfg _ hn := k.rd _ (tableReg_planeCfg h hn)

/-- Urgent refreshes are queued again. -/
theorem queueUrgent (l : List Nat) (s : State) : KeepsScan h s (l.foldl (fun s q => s.queueUrgent h q) s) := by
  induction l generalizing s with
  | nil => exact of_table (.refl s)
  | cons _ l ih =>
    refine trans (of_table ?_) (ih _)
    unfold State.queueUrgent
    refine KeepsTable.modNv s h _ fun _ => ?_
    split <;> rfl

theorem startCompact (s : State) (h : Half) : KeepsScan h s (s.modNv h NvHalf.startCompact) where
  scanned := by rw [State.modNv_nv]; exact (congrArg NvHalf.scanned (NvHalf.startCompact_besideBanks _) :)
  incomplete := by rw [State.modNv_nv]; exact (congrArg NvHalf.incomplete (NvHalf.startCompact_besideBanks _) :)
  mem := State.modNv_mem ..
  cfg _ _ := State.modNv_rd ..

theorem shows (s : State) (h : Half) : KeepsScan h s ((s.showLedger h).showIncomplete h) where
  scanned := by rw [showIncomplete_half, showLedger_half]
  incomplete := by rw [showIncomplete_half, showLedger_half]
  mem := by rw [showIncomplete_half, showLedger_half]
  cfg _ _ := by
    rw [rd_planeCfg_showIncomplete, rd_showLedger _ _ (by simp only [SEAM_PLANE_CFG, NV_LEDGER_STATUS]; omega)]

theorem outOfUse (k : KeepsScan h s t) (hq : q < 32768) (o : s.outOfUse h q) : t.outOfUse h q := by
  refine ⟨by rw [k.incomplete]; exact o.1, ?_⟩
  rw [State.planeEn_congr (k.cfg _ (by omega)), o.2]

end KeepsScan

/-- A controller that has been scanned: the bank with the higher generation is the active one (R149). -/
def NvHalf.rescanned (n : NvHalf) : NvHalf := { n with scanned := true, bank := n.newestBank }

/-- The planes with an ERASE_BEGIN and no ERASE_DONE are found. -/
def State.scanFound (s : State) (h : Half) : State :=
  (((ledgerOpen 1 2 (s.half h).nv.rescanned.ledger).map (· % 32768)).foldl (State.takeOut h) (s.modNv h NvHalf.rescanned))

theorem ledgerScan_eq (s : State) (h : Half) : s.ledgerScan h =
    (((((s.scanFound h).urgentPlanes h).foldl (fun s q => s.queueUrgent h q) (s.scanFound h)).modNv h NvHalf.startCompact).showLedger
      h).showIncomplete h := by
  unfold State.ledgerScan State.scanFound
  dsimp only
  rw [State.modNv_nv]
  rfl

theorem scanDone_keeps (hs : (s.half h).nv.stopping = false) (hsc : (s.half h).nv.scanned = false) :
    KeepsScan h (s.scanFound h) (s.scanDone h) := by
  have e : s.scanDone h = (s.ledgerScan h).runRefresh h := if_neg (by simp [hs, hsc])
  rw [e, ledgerScan_eq]
  exact (((KeepsScan.queueUrgent ..).trans (.startCompact ..)).trans (.shows ..)).trans (.of_table (.runRefresh ..))

theorem scanDone_finds (hs : (s.half h).nv.stopping = false) (hsc : (s.half h).nv.scanned = false) :
    ((s.scanDone h).half h).nv.scanned = true ∧
    (∀ q < 32768, q ∈ (ledgerOpen 1 2 (s.half h).nv.rescanned.ledger).map (fun n => n % 32768) → (s.scanDone h).outOfUse h q) ∧
    ((s.scanDone h).half h).mem = (s.half h).mem := by
  have k := scanDone_keeps hs hsc
  obtain ⟨hscan, hmem⟩ := foldl_takeOut_scanned (h := h) ((ledgerOpen 1 2 (s.half h).nv.rescanned.ledger).map (· % 32768))
    (s.modNv h NvHalf.rescanned)
  rw [State.modNv_nv] at hscan
  rw [State.modNv_mem] at hmem
  exact ⟨k.scanned.trans hscan, fun q hq hm => k.outOfUse hq (foldl_takeOut_outOfUse _ (.inl hm)), k.mem.trans hmem⟩

/-! ## BROWNOUT_TRIP and BROWNOUT_RECOVER (R150) -/

/-- A device that has power does what a command says. -/
theorem whenPowered_of_on (hp : s.stage ≠ .off) (f : State → State) : whenPowered s f = .next (f s) := congrArg Host.Outcome.next (if_neg hp)

/-- A controller that stops: only running pulses are left of its steps, and the key sequence is at its beginning. -/
def NvHalf.stopped (n : NvHalf) : NvHalf :=
  { n.dropped (fun _ => true) with stopping := true, host := { n.host with step := 0, key := 0 } }

theorem nvStop_nv (s : State) (h : Half) : ((s.nvStop h).half h).nv = (s.half h).nv.stopped := by
  rw [State.nvStop, State.modPort_nv, State.modNv_nv, dropSteps_half, State.modNv_nv]
  rfl

theorem rd_nvStop (s : State) (h : Half) (hs : ∀ n < 2048, a ≠ SEAM_STATUS h n) (hc : a ≠ NV_CMD_STATUS h) :
    (s.nvStop h).rd a = s.rd a := by
  rw [State.nvStop, State.rd_modPort _ _ _ _ hc, State.modNv_rd, rd_dropSteps s h _ hs]

theorem rf_brownout_nvStop (s : State) (h : Half) {f : Fld} (hf : f.off = 0) :
    (s.nvStop h).rf (NV_BROWNOUT h) f = s.rf (NV_BROWNOUT h) f := by
  unfold State.rf
  rw [rd_nvStop] <;> intros <;> rw [hf] <;> simp only [NV_BROWNOUT, SEAM_STATUS, NV_CMD_STATUS] <;> omega

theorem exec_brownoutTrip (hp : s.stage ≠ .off) : exec (.brownoutTrip h) s = .next (s.brownout h) :=
  whenPowered_of_on hp (fun s => s.brownout h)

/-- The trip is counted, up to 65,535, and shows until the rail is back. -/
theorem brownout_shows (s : State) (h : Half) : (s.brownout h).rf (NV_BROWNOUT h) NV_BROWNOUT.ACTIVE = 1 ∧
    (s.brownout h).rf (NV_BROWNOUT h) NV_BROWNOUT.TRIPS = min (s.rf (NV_BROWNOUT h) NV_BROWNOUT.TRIPS + 1) 65535 := by
  unfold State.brownout
  refine ⟨(rf_brownout_nvStop _ _ rfl).trans (State.rf_wf_same _ _ _ (by decide) (by decide)), (rf_brownout_nvStop _ _ rfl).trans ?_⟩
  rw [State.rf_wf_field _ _ NV_BROWNOUT.ACTIVE NV_BROWNOUT.TRIPS _ rfl (by decide)]
  exact State.rf_wf_same _ _ _ (by decide) (by simp only; omega)

theorem brownout_nv (s : State) (h : Half) : ((s.brownout h).half h).nv = (s.half h).nv.stopped := by
  rw [State.brownout, nvStop_nv, State.wf_half, State.addSat, State.wf_half]

theorem brownout_other (s : State) (h : Half) : (s.brownout h).half h.other = s.half h.other := by
  rw [State.brownout, nvStop_other, State.wf_half, State.addSat, State.wf_half]

theorem exec_brownoutRecover (hp : s.stage ≠ .off) :
    exec (.brownoutRecover h) s = .next (s.wf (NV_BROWNOUT h) NV_BROWNOUT.ACTIVE 0) :=
  whenPowered_of_on hp (fun s => s.wf (NV_BROWNOUT h) NV_BROWNOUT.ACTIVE 0)

/-! ## The statement -/

/-- Settles O24: a record committed, a compaction, the scan after a reset of the controller, and a brown-out. -/
theorem ledgerAndBrownout : Obligations.LedgerAndBrownout := by
  refine ⟨?commit, ?eraseBegin, ?compact, ?scan, ?trip, ?recover⟩
  case commit =>
    intro s h e p hl hs hsc hco hf hp
    exact ⟨_, exec_ledgerCommit hl, ledgerCommit_writes hs hsc hco hf hp⟩
  case eraseBegin =>
    intro s h e p c q l hl hs hsc hco hf hp ht hc hpl
    exact ⟨_, exec_ledgerCommit hl, ledgerCommit_eraseBegin hs hsc hco hf hp ht hc hpl⟩
  case compact =>
    intro s h hl hc
    have hnv : ((s.ledgerCompact h).half h).nv = (s.half h).nv.compacted := by
      rw [ledgerCompact_eq hc, showLedger_half, State.modNv_nv]
    refine ⟨_, exec_ledgerCompactDone hl, ?_⟩
    rw [hnv]
    exact ⟨rfl, compacted_bankGen _, rfl, compacted_ledger _, onlyRegs_ledgerCompact hc⟩
  case scan =>
    intro s h hl hs hsc
    exact ⟨_, exec_ledgerScanDone hl, scanDone_finds hs hsc⟩
  case trip =>
    intro s h hp
    obtain ⟨hactive, htrips⟩ := brownout_shows s h
    refine ⟨_, exec_brownoutTrip hp, ?_⟩
    rw [brownout_nv]
    exact ⟨rfl, rfl, hactive, htrips, List.filter_eq_nil_iff.2 (by simp), rfl, brownout_other s h⟩
  case recover =>
    intro s h hp
    exact ⟨_, exec_brownoutRecover hp, State.rf_wf_same _ _ _ (by decide) (by decide),
      State.rf_wf_field _ _ _ _ _ rfl (by decide), onlyRegs_wf (onlyRegs_refl _ s) _ _ _ (by simp)⟩

end Sys2Proof.Machine
end

section
/-! PROOF. What stops, interrupts and resets an NV controller leaves the boot's own state, and so the flash, as it was (R150, R152, R154). -/

namespace Sys2Proof.Machine

variable {s t : State}

theorem boot_foldl {β : Type} {f : State → β → State} (hf : ∀ t b, (f t b).boot = t.boot) (l : List β) (s : State) :
    (l.foldl f s).boot = s.boot := by
  induction l generalizing s with
  | nil => rfl
  | cons b l ih => exact (ih (f s b)).trans (hf s b)

/-! ## Records, vectors and wake requests -/

theorem onlyLogged_boot {as : List Nat} (k : onlyLogged as s t) : t.boot = s.boot := (congrArg State.boot k.1 :)

theorem log_boot (s : State) (h : Half) (r : LogReq) (hc : r.cls < 64) : (s.log h r).boot = s.boot :=
  onlyLogged_boot (log_onlyLogged s h r hc)

@[simp] theorem msix_boot (s : State) (f e : Nat) : (s.msix f e).boot = s.boot := onlyLogged_boot (onlyLogged_msix (onlyLogged_refl [] s) f e)

@[simp] theorem need_boot (s : State) (d : Nat) : (s.need d).boot = s.boot := by
  unfold State.need
  split
  · rfl
  · rcases wake_cases s d with e | e <;> rw [e]
    · rw [log_boot _ _ _ (by simp [logPower]), State.wf_boot]
    · refine boot_foldl (fun t d => ?_) _ s
      rcases t.enqueueWake_cases d with ⟨-, l, e⟩ | ⟨-, l, e, -⟩ <;> exact (congrArg State.boot e :)

/-! ## The controller's operations -/

@[simp] theorem modNv_boot (s : State) (h : Half) (g : NvHalf → NvHalf) : (s.modNv h g).boot = s.boot := State.modHalf_boot ..
@[simp] theorem modPort_boot (s : State) (h : Half) (p : NvPort) (g : NvPortSt → NvPortSt) : (s.modPort h p g).boot = s.boot :=
  (State.wf_boot ..).trans (modNv_boot ..)
@[simp] theorem modCmd_boot (s : State) (h : Half) (p : NvPort) (g : NvCmd → NvCmd) : (s.modCmd h p g).boot = s.boot := modPort_boot ..
@[simp] theorem showPending_boot (s : State) (h : Half) (n : Nat) : (s.showPending h n).boot = s.boot := State.wf_boot ..
@[simp] theorem showLedger_boot (s : State) (h : Half) : (s.showLedger h).boot = s.boot := by simp [State.showLedger]
@[simp] theorem writeRow_boot (s : State) (h : Half) (q row : Nat) (v : List (Nat × Nat)) (want : List Int) :
    (s.writeRow h q row v want).boot = s.boot := (modNv_boot ..).trans (modNv_boot ..)

@[simp] theorem setIncomplete_boot (s : State) (h : Half) (q : Nat) (v : Bool) : (s.setIncomplete h q v).boot = s.boot := by
  have hshow : ∀ t : State, (t.showIncomplete h).boot = t.boot := fun t => by
    refine (boot_foldl (fun u i => ?_) _ _).trans (State.wf_boot ..)
    split <;> simp
  exact (hshow _).trans (by simp)

@[simp] theorem dropSteps_boot (s : State) (h : Half) (P : NvStep → Bool) : (s.dropSteps h P).boot = s.boot :=
  (boot_foldl (fun _ _ => showPending_boot ..) _ _).trans ((boot_foldl (fun _ _ => by simp) _ _).trans (modNv_boot ..))

@[simp] theorem askStep_boot (s : State) (h : Half) (x : NvStep) : (s.askStep h x).boot = s.boot := by simp [State.askStep]
@[simp] theorem askPulse_boot (s : State) (h : Half) (x : NvStep) : (s.askPulse h x).boot = s.boot := by simp [State.askPulse]

/-! ## Refreshes and rows that go on -/

theorem schedule_boot (k : Nat) (s : State) (h : Half) : (s.schedule h k).boot = s.boot := by
  induction k generalizing s with
  | zero => rfl
  | succ k ih =>
    unfold State.schedule
    split
    · rfl
    · exact (ih _).trans (by simp [State.modRefresh])

@[simp] theorem runRefresh_boot (s : State) (h : Half) : (s.runRefresh h).boot = s.boot := by
  have hcatch : (s.checkCatchup h).boot = s.boot := by
    unfold State.checkCatchup
    split <;> simp
  refine (schedule_boot ..).trans (Eq.trans ?_ hcatch)
  unfold State.stopBarred
  dsimp only
  split <;> simp

@[simp] theorem endRefresh_boot (s : State) (h : Half) (q : Nat) : (s.endRefresh h q).boot = s.boot := by simp [State.endRefresh]

theorem feedRow_boot (s : State) (h : Half) (p : NvPort) (k : Nat) : (s.feedRow h p k).boot = s.boot := by
  unfold State.feedRow
  split
  · rfl
  · split
    · rfl
    · split <;> simp

theorem feedPort_boot (s : State) (h : Half) (p : NvPort) : (s.feedPort h p).boot = s.boot := by
  unfold State.feedPort
  split
  · split
    · exact boot_foldl (fun _ _ => feedRow_boot ..) _ _
    · rfl
  · rfl

@[simp] theorem feed_boot (s : State) (h : Half) : (s.feed h).boot = s.boot := by
  rw [State.feed_eq]
  split
  · rfl
  · exact (feedPort_boot ..).trans (feedPort_boot ..)

/-! ## Commands cut short (R153, R154) -/

theorem cutShort_boot (s : State) (h : Half) (p : NvPort) (c : NvCmd) : (s.cutShort h p c).boot = s.boot := by
  have htable : ∀ (t : State) ps, (t.tableEnOff h ps).boot = t.boot := fun _ _ => modNv_boot ..
  have hjob : ∀ (t : State) r, (t.partialJob h r).boot = t.boot := fun t r => by
    unfold State.partialJob
    exact writeRow_boot ..
  have hrow : ∀ (t : State) q row top, (t.partialRow h q row top).boot = t.boot := fun t q row top => by
    unfold State.partialRow
    exact writeRow_boot ..
  unfold State.cutShort
  dsimp only
  split
  · refine (boot_foldl hjob _ _).trans ((htable ..).trans ?_)
    exact (boot_foldl (fun _ _ => modNv_boot ..) _ _).trans (by simp)
  · exact (boot_foldl (fun _ _ => endRefresh_boot ..) _ _).trans (by simp)
  · simp
  · split
    · simp
    · rw [setIncomplete_boot, htable]
      split
      · exact (boot_foldl (fun _ _ => hrow ..) _ _).trans (by simp)
      · simp

@[simp] theorem nvComplete_boot (s : State) (h : Half) (p : NvPort) (code result tag : Nat) (ws : List Nat) :
    (s.nvComplete h p code result tag ws).boot = s.boot := by
  cases p
  case loader => simp [State.nvComplete]
  case host =>
    unfold State.nvComplete
    dsimp only
    split <;> simp

theorem nvCut_boot (s : State) (h : Half) (p : NvPort) (result : Nat) : (s.nvCut h p result).boot = s.boot := by
  have htell : ∀ (t : State) c, (t.tellLoader h p c result).boot = t.boot := fun t c => by
    cases p
    case host => rfl
    case loader => exact State.modHalf_boot ..
  unfold State.nvCut
  split
  · rfl
  · rw [runRefresh_boot, feed_boot, htell]
    refine (boot_foldl (fun _ _ => nvComplete_boot ..) _ _).trans ?_
    rw [nvComplete_boot, modPort_boot, cutShort_boot]

theorem interrupt_boot (s : State) (h : Half) (p : NvPort) : (s.interrupt h p).boot = s.boot := by
  have hcut : ∀ (t : State) c, (t.logCut h p c).boot = t.boot := fun t c => log_boot _ _ _ (by simp [logNv])
  unfold State.interrupt
  split
  · rfl
  · split
    · rfl
    · exact (nvCut_boot ..).trans ((boot_foldl (fun _ _ => hcut ..) _ _).trans (hcut ..))

/-! ## The controller stops and is reset -/

@[simp] theorem nvStop_boot (s : State) (h : Half) : (s.nvStop h).boot = s.boot := by simp [State.nvStop]

theorem endCont_boot (s : State) (h : Half) (p : NvPort) : (s.endCont h p).boot = s.boot := by
  cases p
  case loader => rfl
  case host =>
    refine (modNv_boot ..).trans ((boot_foldl (fun t r => ?_) _ _).trans (modPort_boot ..))
    cases h
    · rfl
    · exact State.modHalf_boot ..

theorem nvReset_boot (s : State) (h : Half) : (s.nvReset h).boot = s.boot := by
  refine (showLedger_boot ..).trans ((boot_foldl (fun _ _ => showPending_boot ..) _ _).trans ((modNv_boot ..).trans ?_))
  rw [endCont_boot, interrupt_boot, interrupt_boot]

theorem nvDevReset_boot (s : State) (h : Half) : (s.nvDevReset h).boot = s.boot := by
  unfold State.nvDevReset
  dsimp only
  split
  · rw [nvReset_boot, nvStop_boot]
  · exact nvStop_boot s h

end Sys2Proof.Machine
end

section
/-! PROOF. An NV controller with no command and no step is stopped and reset (R104, R152): its arrays stay, and of the registers only those of its
port and its Ledger may change. -/

namespace Sys2Proof.Machine

variable {s t u : State} {h : Half}

/-! ## Controllers at a standstill -/

/-- A controller with nothing but its planes' rows, its plane table, its Ledger and its OTP row (Table 16.4). -/
def NvHalf.arrays (n : NvHalf) : NvHalf :=
  { rows := n.rows, cfg := n.cfg, wsets := n.wsets, otp := n.otp, bank := n.bank, bank0 := n.bank0, bank1 := n.bank1 }

/-- No command stands on a port of the controller, and no step of it runs or waits for its Seam. -/
structure NvHalf.Still (n : NvHalf) : Prop where
  host : n.host.cmd = none
  loader : n.ldr.cmd = none
  running : n.running = []
  pending : n.pending = []

/-- Does a register show the host port of a controller, or its Ledger? -/
def portReg (a : Nat) : Prop := ∃ h, a = NV_CMD_STATUS h ∨ a = NV_LEDGER_STATUS h

/-- The arrays of both halves stay, a controller that stands still does so after, and only registers of ports and Ledgers change. -/
structure KeepsArrays (s t : State) : Prop where
  arrays : ∀ x, (t.half x).nv.arrays = (s.half x).nv.arrays
  still : ∀ x, (s.half x).nv.Still → (t.half x).nv.Still
  rd : ∀ a, ¬portReg a → t.rd a = s.rd a

theorem nv_modNv (s : State) (h x : Half) (g : NvHalf → NvHalf) :
    ((s.modNv h g).half x).nv = if x = h then g (s.half x).nv else (s.half x).nv := by
  cases h <;> cases x <;> rfl

namespace KeepsArrays

/-- A change that touches neither a controller nor a register. -/
theorem of_nv (hn : ∀ x, (t.half x).nv = (s.half x).nv) (hr : t.regs = s.regs) : KeepsArrays s t where
  arrays x := by rw [hn]
  still x hs := by rwa [hn]
  rd _ _ := State.rd_congr hr _

theorem refl (s : State) : KeepsArrays s s := of_nv (fun _ => rfl) rfl

theorem trans (k : KeepsArrays s t) (l : KeepsArrays t u) : KeepsArrays s u where
  arrays x := (l.arrays x).trans (k.arrays x)
  still x hs := l.still x (k.still x hs)
  rd a ha := (l.rd a ha).trans (k.rd a ha)

theorem foldl {β : Type} {f : State → β → State} (hf : ∀ t b, KeepsArrays t (f t b)) (l : List β) (s : State) :
    KeepsArrays s (l.foldl f s) := by
  induction l generalizing s with
  | nil => exact refl s
  | cons b l ih => exact (hf s b).trans (ih _)

theorem modNv (s : State) (h : Half) {g : NvHalf → NvHalf} (hg : ∀ n, (g n).arrays = n.arrays ∧ (n.Still → (g n).Still)) :
    KeepsArrays s (s.modNv h g) where
  arrays x := by
    rw [nv_modNv]
    split
    · exact (hg _).1
    · rfl
  still x hs := by
    rw [nv_modNv]
    split
    · exact (hg _).2 hs
    · exact hs
  rd _ _ := State.modNv_rd ..

theorem wf (s : State) {a : Nat} (f : Fld) (v : Nat) (ha : portReg (a + f.off)) : KeepsArrays s (s.wf a f v) where
  arrays x := by rw [State.wf_half]
  still x hs := by rwa [State.wf_half]
  rd b hb := State.rd_wf_ne _ _ _ (by rintro rfl; exact hb ha)

/-- A change of the host port that keeps its command. -/
theorem modHost (s : State) (h : Half) {g : NvPortSt → NvPortSt} (hg : ∀ y, (g y).cmd = y.cmd) : KeepsArrays s (s.modPort h .host g) := by
  have hreg : portReg (nvStatusAddr h .host + NV_CMD_STATUS.PORT_STATE.off) := ⟨h, .inl rfl⟩
  refine trans ⟨fun x => ?_, fun x hs => ?_, fun _ _ => State.modNv_rd ..⟩ (wf _ _ _ hreg)
  · rw [nv_modNv]
    split <;> rfl
  · rw [nv_modNv]
    split
    · next hx => subst hx; exact ⟨(hg _).trans hs.host, hs.loader, hs.running, hs.pending⟩
    · exact hs

theorem showLedger (s : State) (h : Half) : KeepsArrays s (s.showLedger h) := by
  have hreg : portReg (NV_LEDGER_STATUS h + 0) := ⟨h, .inr rfl⟩
  exact ((wf _ _ _ hreg).trans (wf _ _ _ hreg)).trans (wf _ _ _ hreg)

/-- The bytes of a read go out, or to West over the Passage (R34). -/
theorem readGive (s : State) (h : Half) (f off : Nat) (bs : List Byte) : KeepsArrays s (s.readGive h f off bs) := by
  cases h
  · exact of_nv (fun x => by cases x <;> rfl) rfl
  · exact of_nv (fun x => by cases x <;> rfl) rfl

/-- A continuous read ends (R136, R145). -/
theorem endCont (s : State) (h : Half) : KeepsArrays s (s.endCont h .host) := by
  unfold State.endCont State.flushReads
  refine trans (trans (modHost s h ?_) (foldl ?_ _ _)) (modNv _ h ?_)
  · exact fun _ => rfl
  · exact fun _ _ => readGive ..
  · exact fun n => ⟨rfl, fun hn => ⟨hn.host, hn.loader, hn.running, hn.pending⟩⟩

end KeepsArrays

/-! ## Stop and reset -/

theorem dropSteps_of_still (hs : (s.half h).nv.Still) (P : NvStep → Bool) : s.dropSteps h P = s.modNv h (fun n => n.dropped P) := by
  unfold State.dropSteps
  dsimp only
  rw [hs.pending, hs.running]
  rfl

theorem KeepsArrays.nvStop (hs : (s.half h).nv.Still) : KeepsArrays s (s.nvStop h) := by
  rw [State.nvStop, dropSteps_of_still hs]
  refine trans (trans (modNv s h ?_) (modNv _ h ?_)) (modHost _ h ?_)
  · refine fun n => ⟨rfl, fun hn => ?_⟩
    exact ⟨hn.host, hn.loader, by simp [NvHalf.dropped, hn.running], by simp [NvHalf.dropped, hn.pending]⟩
  · exact fun n => ⟨rfl, fun hn => ⟨hn.host, hn.loader, hn.running, hn.pending⟩⟩
  · exact fun _ => rfl

theorem interrupt_none {p : NvPort} (hc : s.nvCmd h p = none) : s.interrupt h p = s := by simp only [State.interrupt, hc]

theorem KeepsArrays.nvReset (hs : (s.half h).nv.Still) : KeepsArrays s (s.nvReset h) := by
  have hhost : s.nvCmd h .host = none := hs.host
  have hloader : s.nvCmd h .loader = none := hs.loader
  unfold State.nvReset
  rw [interrupt_none hhost, interrupt_none hloader, hs.pending]
  refine trans (trans (endCont s h) (modNv _ h ?_)) (showLedger ..)
  exact fun n => ⟨rfl, fun hn => ⟨hn.host, hn.loader, hn.running, rfl⟩⟩

theorem KeepsArrays.nvDevReset (hs : (s.half h).nv.Still) : KeepsArrays s (s.nvDevReset h) := by
  have k := KeepsArrays.nvStop hs
  unfold State.nvDevReset
  dsimp only
  split
  · exact k.trans (.nvReset (k.still h hs))
  · exact k

/-! ## What the controllers keep through a reset and without power -/

@[simp] theorem NvHalf.kept_arrays (n : NvHalf) : n.kept.arrays = n.arrays := by
  unfold NvHalf.kept
  dsimp only
  split <;> rfl

@[simp] theorem NvHalf.cold_arrays (n : NvHalf) : n.cold.arrays = n.arrays := n.kept_arrays

end Sys2Proof.Machine
end

section
/-! PROOF. A wipe of the registers (R114, R441, R455, Table 16.4): what is kept reads as before, all else as after power-on, but for what shows the
plane tables. -/

namespace Sys2Proof.Machine

variable {s t u : State} {h : Half} {a : Nat}

/-! ## Changes of registers alone -/

/-- Everything but the registers is the same. -/
def sameButRegs (s t : State) : Prop := ({ t with regs := s.regs } : State) = s

theorem sameButRegs_trans (k : sameButRegs s t) (l : sameButRegs t u) : sameButRegs s u :=
  (congrArg (fun x : State => { x with regs := s.regs }) l :).trans k

theorem sameButRegs_foldl {β : Type} {f : State → β → State} (hf : ∀ t b, sameButRegs t (f t b)) (l : List β) (s : State) :
    sameButRegs s (l.foldl f s) := by
  induction l generalizing s with
  | nil => rfl
  | cons b l ih => exact sameButRegs_trans (hf s b) (ih _)

theorem sameButRegs_wf (k : sameButRegs s t) (a : Nat) (f : Fld) (v : Nat) : sameButRegs s (t.wf a f v) := k

theorem sameButRegs_stage (k : sameButRegs s t) : t.stage = s.stage := (congrArg State.stage k :)
theorem sameButRegs_pending (k : sameButRegs s t) : t.pending = s.pending := (congrArg State.pending k :)
theorem sameButRegs_outbox (k : sameButRegs s t) : t.outbox = s.outbox := (congrArg State.outbox k :)
theorem sameButRegs_boot (k : sameButRegs s t) : t.boot = s.boot := (congrArg State.boot k :)

theorem sameButRegs_half (k : sameButRegs s t) (h : Half) : t.half h = s.half h := by
  cases h
  · exact (congrArg State.west k :)
  · exact (congrArg State.east k :)

theorem sameButRegs_loadTable (s : State) (h : Half) (ms : List (Nat × Nat)) : sameButRegs s (s.loadTable h ms) := by
  refine sameButRegs_trans (sameButRegs_trans (sameButRegs_foldl ?_ _ _) (sameButRegs_foldl ?_ _ _)) (sameButRegs_foldl ?_ _ _)
  all_goals exact fun _ _ => rfl

theorem sameButRegs_wipe (s : State) (keep : Nat → Bool) : sameButRegs s (s.wipe keep) := by
  have hfilter : sameButRegs s { s with regs := s.regs.filter (fun e => keep e.1) } := rfl
  exact sameButRegs_trans (sameButRegs_trans hfilter (sameButRegs_loadTable _ .west _)) (sameButRegs_loadTable _ .east _)

/-! ## The registers after a wipe -/

theorem mapGet_filter {α : Type} (d : Nat → α) (P : Nat → Bool) (m : List (Nat × α)) (k : Nat) :
    mapGet d (m.filter (fun e => P e.1)) k = if P k then mapGet d m k else d k := by
  induction m with
  | nil => simp [mapGet]
  | cons e m ih =>
    by_cases he : k = e.1
    · subst he
      rw [List.filter_cons]
      split
      · next hP => simp [mapGet]
      · next hP => rw [ih, if_neg hP]
    · rw [List.filter_cons, mapGet, if_neg he, ← ih]
      split
      · rw [mapGet, if_neg he]
      · rfl

/-- Is the register a protection group's (R138)? -/
def protReg (h : Half) (a : Nat) : Prop := NV_PROT_STATE h 0 ≤ a ∧ a < NV_PROT_STATE h 512

/-- The modes of protection groups are written in the registers of protection groups. -/
theorem protReg_of_mem_protModes {e : Nat × Nat} (he : e ∈ s.protModes h) : protReg h (NV_PROT_STATE h e.1) := by
  simp only [State.protModes, List.mem_map, List.mem_filter, Bool.and_eq_true, decide_eq_true_eq] at he
  obtain ⟨r, ⟨-, hlo, hhi⟩, rfl⟩ := he
  simp only [protReg, NV_PROT_STATE] at *
  omega

/-- With no Seam's plane enable and no weight set committed a plane table shows in the registers of protection groups alone. -/
theorem rd_loadTable (hcfg : (t.half h).nv.cfg = []) (hw : (t.half h).nv.wsets = []) (ha : ¬protReg h a) :
    (t.loadTable h (s.protModes h)).rd a = t.rd a := by
  have hmodes : ((s.protModes h).foldl (fun t e => t.wf (NV_PROT_STATE h e.1) NV_PROT_STATE.MODE e.2) t).rd a = t.rd a :=
    rd_foldl_mem (fun e he u => State.rd_wf_ne _ _ _ (by rintro rfl; exact ha (protReg_of_mem_protModes he))) t
  unfold State.loadTable
  dsimp only
  rw [hcfg, hw, List.foldl_nil, List.foldl_nil, hmodes]

/-- A wipe keeps the registers that it names, and gives all others their reset values. -/
theorem rd_wipe (hcfg : ∀ h, (s.half h).nv.cfg = []) (hw : ∀ h, (s.half h).nv.wsets = []) (keep : Nat → Bool) (ha : ∀ h, ¬protReg h a) :
    (s.wipe keep).rd a = if keep a then s.rd a else resetWord a := by
  set t : State := { s with regs := s.regs.filter (fun e => keep e.1) } with ht
  have he : (t.loadTable .west (s.protModes .west)).half .east = t.half .east := sameButRegs_half (sameButRegs_loadTable ..) _
  have hfilter : t.rd a = if keep a then s.rd a else resetWord a := mapGet_filter resetWord keep s.regs a
  rw [← hfilter]
  refine (rd_loadTable (h := .east) ?_ ?_ (ha .east)).trans (rd_loadTable (h := .west) (hcfg .west) (hw .west) (ha .west))
  · rw [he]; exact hcfg .east
  · rw [he]; exact hw .east

/-! ## The registers that survive (Table 16.4) -/

theorem keptReg_iff : keptReg a = true ↔ a < 0x04000000 ∧ (a % 0x02000000 = 0xC01010 ∨
    (0xC40000 ≤ a % 0x02000000 ∧ a % 0x02000000 < 0xC42000) ∨ (0xC80000 ≤ a % 0x02000000 ∧ a % 0x02000000 < 0xD00000) ∨
    a % 0x02000000 = 0xC01008 ∨ (0xF80000 ≤ a % 0x02000000 ∧ a % 0x02000000 < 0xFA0000)) := by
  simp only [keptReg, keptCold, Bool.or_eq_true, Bool.and_eq_true, decide_eq_true_eq, beq_iff_eq]
  omega

theorem keptReg_of_keptCold (ha : keptCold a = true) : keptReg a = true := by simp [keptReg, ha]

theorem not_portReg_of_kept (ha : keptReg a = true) : ¬portReg a := by
  rw [keptReg_iff] at ha
  rintro ⟨h, rfl | rfl⟩ <;> cases h <;> simp only [NV_CMD_STATUS, NV_LEDGER_STATUS, Half.base] at ha <;> omega

theorem not_protReg_of_kept (ha : keptReg a = true) (h : Half) : ¬protReg h a := by
  rw [keptReg_iff] at ha
  rintro ⟨hlo, hhi⟩
  cases h <;> simp only [NV_PROT_STATE, Half.base] at hlo hhi <;> omega

end Sys2Proof.Machine
end

section
/-! PROOF. A device reset, a power-off and a thermal trip end all work and keep the arrays (R114, R400, R441, R464 to R468, Table 16.4), and the
statement on power, resets and trips. -/

namespace Sys2Proof.Machine

variable {s t u : State} {h : Half} {a n : Nat}

/-! ## The end of all work -/

/-- No work is left in the device, its memory is empty, and the boot flash is as it was. -/
structure Emptied (s t : State) : Prop where
  graphs : t.graphs = []
  ctxs : t.ctxs = []
  engines : t.engines = []
  ports : t.ports = []
  flash : t.boot.flash = s.boot.flash
  half : ∀ h, (t.half h).mem = {} ∧ (t.half h).cswOps = [] ∧ (t.half h).accesses = []

theorem Emptied.of_sameButRegs (k : Emptied s t) (l : sameButRegs t u) : Emptied s u where
  graphs := (congrArg State.graphs l :).trans k.graphs
  ctxs := (congrArg State.ctxs l :).trans k.ctxs
  engines := (congrArg State.engines l :).trans k.engines
  ports := (congrArg State.ports l :).trans k.ports
  flash := (congrArg BootSt.flash (sameButRegs_boot l)).trans k.flash
  half h := by rw [sameButRegs_half l]; exact k.half h

/-- The stored rows, the plane tables, the Ledgers and the OTP rows are as they were. -/
def sameArrays (s t : State) : Prop := ∀ h, (t.half h).nv.arrays = (s.half h).nv.arrays

theorem sameArrays.stored (k : sameArrays s t) (h : Half) : (t.half h).nv.rows = (s.half h).nv.rows ∧
    (t.half h).nv.ledger = (s.half h).nv.ledger ∧ (t.half h).nv.otp = (s.half h).nv.otp :=
  ⟨(congrArg NvHalf.rows (k h) :), (congrArg NvHalf.ledger (k h) :), (congrArg NvHalf.otp (k h) :)⟩

/-- Both controllers stand still, with no plane enabled and no weight set committed. -/
structure State.Quiet (s : State) : Prop where
  still : ∀ h, (s.half h).nv.Still
  cfg : ∀ h, (s.half h).nv.cfg = []
  wsets : ∀ h, (s.half h).nv.wsets = []

theorem State.Quiet.of_nv (q : s.Quiet) (hn : ∀ h, (t.half h).nv = (s.half h).nv) : t.Quiet where
  still h := by rw [hn]; exact q.still h
  cfg h := by rw [hn]; exact q.cfg h
  wsets h := by rw [hn]; exact q.wsets h

/-- A wipe of a state whose arrays are those of a quiet one. -/
theorem rd_wipe_of_quiet (q : s.Quiet) (k : sameArrays s t) (keep : Nat → Bool) (ha : ∀ h, ¬protReg h a) :
    (t.wipe keep).rd a = if keep a then t.rd a else resetWord a :=
  rd_wipe (fun h => (congrArg NvHalf.cfg (k h) :).trans (q.cfg h)) (fun h => (congrArg NvHalf.wsets (k h) :).trans (q.wsets h)) keep ha

/-! ## The device reset (R152, R441, Table 16.4) -/

/-- The device reset has reached both NV controllers. -/
def State.nvBothReset (s : State) : State := (({ s with pcie := {}, csw := {} } : State).nvDevReset .west).nvDevReset .east

/-- A device held in reset, without its work. -/
def State.heldIdle (s : State) (cause : Nat) : State :=
  { s with
    west := s.west.kept
    east := s.east.kept
    stage := .held
    power := {}
    pcie := {}
    boot := { s.boot with update := none, svns := [0, 0, 0], digests := [], minMgmt := 0, minPower := 0, cause := cause }
    sec := { drawn := s.sec.drawn, scope := s.sec.pendScope }
    engines := []
    ports := []
    csw := {}
    ctxs := []
    graphs := []
    admitSeq := 0
    jctWait := []
    escalSeq := 0
    rrNext := 0
    jctPage := none }

theorem devReset_eq (s : State) (cause : Nat) : s.devReset cause =
    (((s.nvBothReset.heldIdle cause).wipe keptReg).wf PWR_EVENT PWR_EVENT.TRIP (s.rf PWR_EVENT PWR_EVENT.TRIP)).wf
      SEC_STATE SEC_STATE.DEBUG_OPEN (s.rf SEC_STATE SEC_STATE.DEBUG_PENDING) := rfl

theorem devReset_sameButRegs (s : State) (cause : Nat) : sameButRegs (s.nvBothReset.heldIdle cause) (s.devReset cause) := by
  rw [devReset_eq]
  exact sameButRegs_wf (sameButRegs_wf (sameButRegs_wipe ..) ..) ..

theorem heldIdle_rd (s : State) (cause a : Nat) : (s.heldIdle cause).rd a = s.rd a := rfl

theorem heldIdle_half (s : State) (cause : Nat) (h : Half) : (s.heldIdle cause).half h = (s.half h).kept := by cases h <;> rfl

theorem nvBothReset_boot (s : State) : s.nvBothReset.boot = s.boot := (nvDevReset_boot ..).trans (nvDevReset_boot ..)

theorem heldIdle_emptied (s : State) (cause : Nat) : Emptied s (s.nvBothReset.heldIdle cause) where
  graphs := rfl
  ctxs := rfl
  engines := rfl
  ports := rfl
  flash := (congrArg BootSt.flash (nvBothReset_boot s) : s.nvBothReset.boot.flash = s.boot.flash)
  half h := by rw [heldIdle_half]; exact ⟨rfl, rfl, rfl⟩

theorem devReset_emptied (s : State) (cause : Nat) : Emptied s (s.devReset cause) :=
  (heldIdle_emptied s cause).of_sameButRegs (devReset_sameButRegs s cause)

theorem devReset_stage (s : State) (cause : Nat) : (s.devReset cause).stage = .held := sameButRegs_stage (devReset_sameButRegs s cause)

theorem devReset_cause (s : State) (cause : Nat) : (s.devReset cause).boot.cause = cause :=
  congrArg BootSt.cause (sameButRegs_boot (devReset_sameButRegs s cause))

theorem KeepsArrays.nvBothReset (hs : ∀ h, (s.half h).nv.Still) : KeepsArrays s s.nvBothReset := by
  have k0 : KeepsArrays s { s with pcie := {}, csw := {} } := .of_nv (fun h => by cases h <;> rfl) rfl
  have k1 := k0.trans (.nvDevReset (h := .west) (k0.still _ (hs _)))
  exact k1.trans (.nvDevReset (h := .east) (k1.still _ (hs _)))

section
variable (q : s.Quiet) (cause : Nat)
include q

theorem heldIdle_sameArrays : sameArrays s (s.nvBothReset.heldIdle cause) := fun h => by
  rw [heldIdle_half]
  exact (NvHalf.kept_arrays _).trans ((KeepsArrays.nvBothReset q.still).arrays h)

theorem devReset_sameArrays : sameArrays s (s.devReset cause) := fun h => by
  rw [sameButRegs_half (devReset_sameButRegs s cause)]
  exact heldIdle_sameArrays q cause h

theorem rd_devReset (hp : a ≠ PWR_EVENT) (hs : a ≠ SEC_STATE) (ha : ∀ h, ¬protReg h a) :
    (s.devReset cause).rd a = if keptReg a then s.nvBothReset.rd a else resetWord a := by
  have hp' : a ≠ PWR_EVENT + 0 := hp
  have hs' : a ≠ SEC_STATE + 0 := hs
  rw [devReset_eq, State.rd_wf_ne _ _ _ hs', State.rd_wf_ne _ _ _ hp', rd_wipe_of_quiet q (heldIdle_sameArrays q cause) _ ha,
    heldIdle_rd]

/-- The plane table's registers, the wall minutes and the error log survive (R105, R114, R441, R455). -/
theorem rd_devReset_kept (ha : keptReg a = true) : (s.devReset cause).rd a = s.rd a := by
  have hk := keptReg_iff.1 ha
  rw [rd_devReset q cause (by rintro rfl; simp only [PWR_EVENT] at hk; omega) (by rintro rfl; simp only [SEC_STATE] at hk; omega)
    (not_protReg_of_kept ha), if_pos ha]
  exact (KeepsArrays.nvBothReset q.still).rd a (not_portReg_of_kept ha)

theorem rd_devReset_lost (ha : keptReg a = false) (hp : a ≠ PWR_EVENT) (hs : a ≠ SEC_STATE) (hprot : ∀ h, ¬protReg h a) :
    (s.devReset cause).rd a = resetWord a := by
  rw [rd_devReset q cause hp hs hprot, ha]
  rfl
end

/-! ## DEVICE_RESET (R467) -/

/-- PERST_N is asserted, and the flash is reset with the device. -/
def State.asserted (s : State) : State := ({ s with boot := { s.boot with perst := true } } : State).send (.pin "XSPI_RESET_N" false)

/-- An assertion of 10 µs or more resets the device, unless a trip holds it. -/
theorem exec_deviceReset (hp : s.stage ≠ .off) (hb : s.boot.perst = false) (hn : 10000 ≤ n) :
    exec (.deviceReset n) s = .next (if s.stage = .thermHeld then s else s.devReset 1).asserted := by
  have he : exec (.deviceReset n) s = execDeviceReset n s := rfl
  rw [he, execDeviceReset, whenPowered_of_on hp]
  dsimp only
  rw [if_neg (by omega), if_pos hn, hb]
  rfl

theorem exec_deviceReset_running (hp : s.stage ≠ .off) (ht : s.stage ≠ .thermHeld) (hb : s.boot.perst = false) (hn : 10000 ≤ n) :
    exec (.deviceReset n) s = .next (s.devReset 1).asserted := by
  rw [exec_deviceReset hp hb hn, if_neg ht]

/-- An assertion below 1 µs is ignored. -/
theorem exec_deviceReset_short (hn : n < 1000) : exec (.deviceReset n) s = .next s := by
  have he : exec (.deviceReset n) s = execDeviceReset n s := rfl
  rw [he, execDeviceReset, whenPowered]
  dsimp only
  rw [if_pos hn, ite_self]

theorem asserted_shows (s : State) : s.asserted.stage = s.stage ∧ s.asserted.boot.perst = true ∧
    s.asserted.boot.cause = s.boot.cause ∧ s.asserted.outbox.getLast? = some (.pin "XSPI_RESET_N" false) :=
  ⟨rfl, rfl, rfl, List.getLast?_concat ..⟩

theorem deviceReset_shows (s : State) : (s.devReset 1).asserted.stage = .held ∧ (s.devReset 1).asserted.boot.perst = true ∧
    (s.devReset 1).asserted.boot.cause = 1 ∧ (s.devReset 1).asserted.outbox.getLast? = some (.pin "XSPI_RESET_N" false) := by
  obtain ⟨hstage, hperst, hcause, hpin⟩ := asserted_shows (s.devReset 1)
  exact ⟨hstage.trans (devReset_stage s 1), hperst, hcause.trans (devReset_cause s 1), hpin⟩

theorem asserted_rd (s : State) (a : Nat) : s.asserted.rd a = s.rd a := rfl

theorem asserted_half (s : State) (h : Half) : s.asserted.half h = s.half h := by cases h <;> rfl

theorem Emptied.asserted (k : Emptied s t) : Emptied s t.asserted where
  graphs := k.graphs
  ctxs := k.ctxs
  engines := k.engines
  ports := k.ports
  flash := k.flash
  half h := by rw [asserted_half]; exact k.half h

/-! ## THERMAL_TRIP (R400) -/

/-- The record of a trip. -/
def State.tripLogged (s : State) : State :=
  s.log .west { logPower with sev := 3, event := 4, detail := s.rf PWR_TEMP PWR_TEMP.TMAX }

/-- The device is held by a trip: its registers show TRIP and the temperature of the trip. -/
def State.holdTrip (s : State) (temp : Word) : State :=
  ((({ s with stage := .thermHeld } : State).wr PWR_TEMP temp).wf PWR_EVENT PWR_EVENT.TRIP 1).send (.pin "THERMTRIP_N" false)

/-- The device has tripped. -/
def State.tripped (s : State) : State := (s.tripLogged.devReset 2).holdTrip (s.rd PWR_TEMP)

theorem exec_thermalTrip (hp : s.stage ≠ .off) (ht : s.stage ≠ .thermHeld) : exec .thermalTrip s = .next s.tripped := by
  have he : exec .thermalTrip s = execThermalTrip s := rfl
  rw [he, execThermalTrip, whenPowered_of_on hp, if_neg ht]
  rfl

theorem holdTrip_half (s : State) (temp : Word) (h : Half) : (s.holdTrip temp).half h = s.half h := by cases h <;> rfl

theorem holdTrip_shows (s : State) (temp : Word) : (s.holdTrip temp).stage = .thermHeld ∧ (s.holdTrip temp).boot = s.boot ∧
    (s.holdTrip temp).rf PWR_EVENT PWR_EVENT.TRIP = 1 ∧ (s.holdTrip temp).rd PWR_TEMP = temp ∧
    (s.holdTrip temp).outbox.getLast? = some (.pin "THERMTRIP_N" false) := by
  refine ⟨rfl, rfl, ?_, ?_, List.getLast?_concat ..⟩
  · rw [State.holdTrip, State.send_rf, State.rf_wf_same _ _ _ (by decide) (by decide)]
  · rw [State.holdTrip, State.send_rd, State.rd_wf_ne _ _ _ (by decide), State.rd_wr_same]

theorem Emptied.holdTrip (k : Emptied s t) (temp : Word) : Emptied s (t.holdTrip temp) where
  graphs := k.graphs
  ctxs := k.ctxs
  engines := k.engines
  ports := k.ports
  flash := k.flash
  half h := by rw [holdTrip_half]; exact k.half h

theorem tripped_shows (s : State) : s.tripped.stage = .thermHeld ∧ s.tripped.boot.cause = 2 ∧ s.tripped.rf PWR_EVENT PWR_EVENT.TRIP = 1 ∧
    s.tripped.rd PWR_TEMP = s.rd PWR_TEMP ∧ s.tripped.outbox.getLast? = some (.pin "THERMTRIP_N" false) := by
  obtain ⟨hstage, hboot, hrest⟩ := holdTrip_shows (s.tripLogged.devReset 2) (s.rd PWR_TEMP)
  exact ⟨hstage, (congrArg BootSt.cause hboot).trans (devReset_cause _ 2), hrest⟩

theorem tripLogged_boot (s : State) : s.tripLogged.boot = s.boot := log_boot _ _ _ (by simp [logPower])

theorem tripped_emptied (s : State) : Emptied s s.tripped := by
  obtain ⟨hgraphs, hctxs, hengines, hports, hflash, hhalf⟩ := (devReset_emptied s.tripLogged 2).holdTrip (s.rd PWR_TEMP)
  exact ⟨hgraphs, hctxs, hengines, hports, hflash.trans (congrArg BootSt.flash (tripLogged_boot s)), hhalf⟩

theorem tripped_sameArrays (q : s.Quiet) : sameArrays s s.tripped := fun h => by
  have hnv : ∀ x, (s.tripLogged.half x).nv = (s.half x).nv := sameHalves_nv (sameHalves_log _ _ _ (by simp [logPower]))
  rw [State.tripped, holdTrip_half, devReset_sameArrays (q.of_nv hnv) 2 h, hnv]

/-! ## POWER_OFF (R464 to R466) -/

/-- The power fails in a half: running pulses end, and its NV controller is reset. -/
def State.nvCutOff (s : State) (h : Half) : State := ((s.nvStop h).modNv h (fun n => { n with running := [], pulsing := [] })).nvReset h

/-- The power has failed in both halves. -/
def State.nvBothCutOff (s : State) : State := (s.nvCutOff .west).nvCutOff .east

/-- A device without power that has ended as `u`, before its registers are lost. -/
def State.dark (s u : State) : State :=
  { pending := s.pending
    regs := u.regs
    west := { nv := u.west.nv.cold }
    east := { nv := u.east.nv.cold }
    outbox := s.outbox
    freeCtr := u.freeCtr
    stage := .off
    boot := { flash := s.boot.flash }
    sec := { drawn := s.sec.drawn } }

theorem unpowered_eq (s : State) : s.unpowered = (s.dark s.nvBothCutOff).wipe keptCold := by
  simp only [State.unpowered, State.dark, State.nvBothCutOff, State.nvCutOff]

theorem exec_powerOff (hp : s.stage ≠ .off) : exec .powerOff s = .next s.unpowered := whenPowered_of_on hp State.unpowered

theorem dark_rd (s u : State) (a : Nat) : (s.dark u).rd a = u.rd a := rfl

theorem dark_half (s u : State) (h : Half) : (s.dark u).half h = { nv := (u.half h).nv.cold } := by cases h <;> rfl

theorem unpowered_sameButRegs (s : State) : sameButRegs (s.dark s.nvBothCutOff) s.unpowered := by
  rw [unpowered_eq]
  exact sameButRegs_wipe ..

theorem dark_emptied (s u : State) : Emptied s (s.dark u) where
  graphs := rfl
  ctxs := rfl
  engines := rfl
  ports := rfl
  flash := rfl
  half h := by rw [dark_half]; exact ⟨rfl, rfl, rfl⟩

theorem dark_stays (s u : State) : (s.dark u).stage = .off ∧ (s.dark u).outbox = s.outbox ∧ (s.dark u).pending = s.pending :=
  ⟨rfl, rfl, rfl⟩

theorem unpowered_emptied (s : State) : Emptied s s.unpowered := (dark_emptied s _).of_sameButRegs (unpowered_sameButRegs s)

theorem unpowered_stays (s : State) : s.unpowered.stage = .off ∧ s.unpowered.outbox = s.outbox ∧ s.unpowered.pending = s.pending := by
  have k := unpowered_sameButRegs s
  obtain ⟨hstage, hout, hpending⟩ := dark_stays s s.nvBothCutOff
  exact ⟨(sameButRegs_stage k).trans hstage, (sameButRegs_outbox k).trans hout, (sameButRegs_pending k).trans hpending⟩

theorem KeepsArrays.nvCutOff (hs : (s.half h).nv.Still) : KeepsArrays s (s.nvCutOff h) := by
  have k1 := KeepsArrays.nvStop hs
  have k2 : KeepsArrays s ((s.nvStop h).modNv h (fun n => { n with running := [], pulsing := [] })) :=
    k1.trans (.modNv _ h fun n => ⟨rfl, fun hn => ⟨hn.host, hn.loader, rfl, hn.pending⟩⟩)
  exact k2.trans (.nvReset (k2.still h hs))

section
variable (q : s.Quiet)
include q

theorem KeepsArrays.nvBothCutOff : KeepsArrays s s.nvBothCutOff := by
  have k := KeepsArrays.nvCutOff (q.still .west)
  exact k.trans (.nvCutOff (k.still _ (q.still _)))

theorem dark_sameArrays : sameArrays s (s.dark s.nvBothCutOff) := fun h => by
  rw [dark_half]
  exact (NvHalf.cold_arrays _).trans ((KeepsArrays.nvBothCutOff q).arrays h)

theorem unpowered_sameArrays : sameArrays s s.unpowered := fun h => by
  rw [sameButRegs_half (unpowered_sameButRegs s)]
  exact dark_sameArrays q h

theorem rd_unpowered (ha : ∀ h, ¬protReg h a) :
    s.unpowered.rd a = if keptCold a then s.nvBothCutOff.rd a else resetWord a := by
  rw [unpowered_eq, rd_wipe_of_quiet q (dark_sameArrays q) _ ha, dark_rd]

/-- The plane table's registers survive without power (R114). -/
theorem rd_unpowered_kept (ha : keptCold a = true) : s.unpowered.rd a = s.rd a := by
  have hk := keptReg_of_keptCold ha
  rw [rd_unpowered q (not_protReg_of_kept hk), if_pos ha]
  exact (KeepsArrays.nvBothCutOff q).rd a (not_portReg_of_kept hk)

theorem rd_unpowered_lost (ha : keptCold a = false) (hprot : ∀ h, ¬protReg h a) : s.unpowered.rd a = resetWord a := by
  rw [rd_unpowered q hprot, ha]
  rfl
end

/-! ## The statement -/

/-- Settles O45: power, device resets and trips, of a device whose NV controllers stand still and of any other, and the loss of REFCLK. -/
theorem powerResetsAndTrips : Obligations.PowerResetsAndTrips := by
  refine ⟨?powerOn, ?offQuiet, ?rail, ?resetQuiet, ?short, ?tripQuiet, ?refclk, ?trip, ?off, ?reset, ?tripHeld⟩
  case powerOn =>
    intro s v hs
    exact congrArg Host.Outcome.next (if_pos hs)
  case offQuiet =>
    intro s hp hhost hldr hrun hpend hw hcfg _ _
    have q : s.Quiet := ⟨fun h => ⟨hhost h, hldr h, hrun h, hpend h⟩, hcfg, hw⟩
    have k := unpowered_emptied s
    exact ⟨_, exec_powerOff hp, (unpowered_stays s).1, k.flash, k.graphs, k.ctxs, k.engines, k.ports,
      fun h => ⟨(k.half h).1, (unpowered_sameArrays q).stored h⟩, fun _ => rd_unpowered_kept q, fun _ => rd_unpowered_lost q⟩
  case rail => exact fun _ _ => rfl
  case resetQuiet =>
    intro s n hp ht hb hn hhost hldr hrun hpend hw hcfg _ _
    have q : s.Quiet := ⟨fun h => ⟨hhost h, hldr h, hrun h, hpend h⟩, hcfg, hw⟩
    have k := (devReset_emptied s 1).asserted
    have harr : sameArrays s (s.devReset 1).asserted := fun h => by rw [asserted_half]; exact devReset_sameArrays q 1 h
    obtain ⟨hstage, hperst, hcause, -⟩ := deviceReset_shows s
    refine ⟨_, exec_deviceReset_running hp ht hb hn, hstage, hperst, hcause, k.flash, k.graphs, k.ctxs, k.engines, k.ports,
      fun h => ⟨(k.half h).1, harr.stored h⟩, fun a ha => ?_, fun a ha hpwr hsec hprot => ?_⟩ <;> rw [asserted_rd]
    · exact rd_devReset_kept q 1 ha
    · exact rd_devReset_lost q 1 ha hpwr hsec hprot
  case short =>
    intro s n hn
    exact exec_deviceReset_short hn
  case tripQuiet =>
    intro s hp ht hhost hldr hrun hpend hw hcfg _ _
    have q : s.Quiet := ⟨fun h => ⟨hhost h, hldr h, hrun h, hpend h⟩, hcfg, hw⟩
    have k := tripped_emptied s
    obtain ⟨hstage, hcause, htrip, htemp, hpin⟩ := tripped_shows s
    exact ⟨_, exec_thermalTrip hp ht, hstage, hcause, htrip, htemp, hpin, k.graphs, k.ctxs, k.engines, k.ports,
      fun h => ⟨(k.half h).1, (tripped_sameArrays q).stored h⟩⟩
  case refclk =>
    intro s hp
    exact ⟨congrArg Host.Outcome.next (if_neg hp), congrArg Host.Outcome.next (if_neg hp)⟩
  case trip =>
    intro s hp ht
    have k := tripped_emptied s
    obtain ⟨hstage, hcause, htrip, htemp, hpin⟩ := tripped_shows s
    exact ⟨_, exec_thermalTrip hp ht, hstage, hcause, htrip, htemp, hpin, k.graphs, k.ctxs, k.engines, k.ports, k.flash, k.half⟩
  case off =>
    intro s hp
    have k := unpowered_emptied s
    obtain ⟨hstage, hout, hpending⟩ := unpowered_stays s
    exact ⟨_, exec_powerOff hp, hstage, hout, hpending, k.graphs, k.ctxs, k.engines, k.ports, k.flash, k.half⟩
  case reset =>
    intro s n hp ht hb hn
    have k := (devReset_emptied s 1).asserted
    obtain ⟨hstage, hperst, hcause, hpin⟩ := deviceReset_shows s
    exact ⟨_, exec_deviceReset_running hp ht hb hn, hstage, hperst, hcause, hpin, k.graphs, k.ctxs, k.engines, k.ports, k.flash, k.half⟩
  case tripHeld =>
    intro s n ht hb hn
    rw [exec_deviceReset (by rw [ht]; decide) hb hn, if_pos ht]
    rfl

end Sys2Proof.Machine
end

section
/-! PROOF. Rules of the command ports (R118, R122): changes of a port, and completions. The statement on the host port's key sequence, and the one on
commands that complete at once, which fails. -/

namespace Sys2Proof.Machine

variable {s t u : State} {h : Half} {p q : NvPort} {a : Nat} {f : Fld}

/-! ## Ports -/

/-- The status registers of both ports lie among the NV controller's. -/
theorem arrayReg_nvStatus (h : Half) (p : NvPort) : arrayReg (nvStatusAddr h p) := by
  cases p <;> simp only [nvStatusAddr, NV_CMD_STATUS, NV_LDR_STATUS] <;> rw [arrayReg_iff] <;> omega

/-- A record leaves the status registers of the ports. -/
theorem rf_log_status (s : State) (h : Half) (r : LogReq) (hc : r.cls < 64) (p : NvPort) (hf : f.off = 0) :
    (s.log h r).rf (nvStatusAddr h p) f = s.rf (nvStatusAddr h p) f := by
  unfold State.rf
  rw [hf, Nat.add_zero, rd_log s h r hc (arrayReg_nvStatus h p)]

theorem log_nv (s : State) (h x : Half) (r : LogReq) (hc : r.cls < 64) : ((s.log h r).half x).nv = (s.half x).nv :=
  sameHalves_nv (sameHalves_log s h r hc) x

/-- PORT_STATE follows a change of the port (R118). -/
theorem rf_modPort_state (s : State) (h : Half) (p : NvPort) (g : NvPortSt → NvPortSt) :
    (s.modPort h p g).rf (nvStatusAddr h p) NV_CMD_STATUS.PORT_STATE = (g ((s.half h).nv.port p)).state % 8 :=
  State.rf_wf _ _ _ _ (by decide)

/-- Besides the port itself, a change of it writes its status register alone. -/
theorem onlyRegs_modPort (s : State) (h : Half) (p : NvPort) (g : NvPortSt → NvPortSt) :
    onlyRegs [nvStatusAddr h p] s ((s.modPort h p g).setHalf h (s.half h)) := by
  simp only [State.modPort, State.wf_setHalf, State.modNv_setHalf, State.setHalf_self]
  exact onlyRegs_wf (onlyRegs_refl _ s) _ _ _ (by simp)

/-- Two states that a record tells apart are told apart by no more once the same half is put back into both. -/
theorem onlyLogged_setHalf {as : List Nat} (k : onlyLogged as s t) (h : Half) (y : HalfState) :
    onlyLogged as (s.setHalf h y) (t.setHalf h y) := by
  refine ⟨?_, fun b hb hw he => by rw [State.setHalf_rd, State.setHalf_rd]; exact k.2 b hb hw he⟩
  have e := congrArg (fun x : State => x.setHalf h y) k.1
  cases h <;> exact e

/-! ## Completions (R122) -/

theorem msix_regs (s : State) (g e : Nat) : (s.msix g e).regs = s.regs := by
  unfold State.msix
  split
  · rfl
  · split
    · rfl
    · split <;> rfl

theorem msix_half (s : State) (g e : Nat) (x : Half) : (s.msix g e).half x = s.half x := by
  unfold State.msix
  split
  · cases x <;> rfl
  · split
    · cases x <;> rfl
    · split <;> cases x <;> rfl

/-- The status register shows the command that has completed, its result, and DONE. -/
def State.showDone (s : State) (a code result : Nat) : State :=
  ((s.wf a NV_CMD_STATUS.CMD code).wf a NV_CMD_STATUS.RESULT result).wf a NV_CMD_STATUS.DONE 1

/-- The registers after a completion: its vector writes none. -/
theorem nvComplete_regs (s : State) (h : Half) (p : NvPort) (code result tag : Nat) (ws : List Nat) :
    (s.nvComplete h p code result tag ws).regs = (s.showDone (nvStatusAddr h p) code result).regs := by
  cases p
  case loader => rfl
  case host =>
    unfold State.nvComplete
    dsimp only
    split
    · exact (msix_regs ..).trans (State.modHalf_regs ..)
    · exact State.modHalf_regs ..

/-- Of the half, a completion changes the result area alone. -/
theorem nvComplete_half (s : State) (h : Half) (p : NvPort) (code result tag : Nat) (ws : List Nat) :
    ∃ l, (s.nvComplete h p code result tag ws).half h = { s.half h with nv := { (s.half h).nv with result := l } } := by
  cases p
  case loader => exact ⟨(s.half h).nv.result, by cases h <;> rfl⟩
  case host =>
    refine ⟨resultArea ([code + 256 * result, tag] ++ ws), ?_⟩
    unfold State.nvComplete
    dsimp only
    split
    · rw [msix_half]
      cases h <;> rfl
    · cases h <;> rfl

theorem nvComplete_port (s : State) (h : Half) (p : NvPort) (code result tag : Nat) (ws : List Nat) (q : NvPort) :
    ((s.nvComplete h p code result tag ws).half h).nv.port q = (s.half h).nv.port q := by
  obtain ⟨l, e⟩ := nvComplete_half s h p code result tag ws
  rw [e]
  cases q <;> rfl

theorem nvComplete_cmd (s : State) (h : Half) (p : NvPort) (code result tag : Nat) (ws : List Nat) :
    (s.nvComplete h p code result tag ws).rf (nvStatusAddr h p) NV_CMD_STATUS.CMD = code % 256 := by
  rw [State.rf_congr (nvComplete_regs ..), State.showDone,
    State.rf_wf_field _ _ NV_CMD_STATUS.DONE NV_CMD_STATUS.CMD _ rfl (.inl (by decide)),
    State.rf_wf_field _ _ NV_CMD_STATUS.RESULT NV_CMD_STATUS.CMD _ rfl (.inr (by decide))]
  exact State.rf_wf _ _ _ _ (by decide)

theorem nvComplete_result (s : State) (h : Half) (p : NvPort) (code result tag : Nat) (ws : List Nat) :
    (s.nvComplete h p code result tag ws).rf (nvStatusAddr h p) NV_CMD_STATUS.RESULT = result % 256 := by
  rw [State.rf_congr (nvComplete_regs ..), State.showDone,
    State.rf_wf_field _ _ NV_CMD_STATUS.DONE NV_CMD_STATUS.RESULT _ rfl (.inl (by decide))]
  exact State.rf_wf _ _ _ _ (by decide)

theorem nvComplete_done (s : State) (h : Half) (p : NvPort) (code result tag : Nat) (ws : List Nat) :
    (s.nvComplete h p code result tag ws).rf (nvStatusAddr h p) NV_CMD_STATUS.DONE = 1 := by
  rw [State.rf_congr (nvComplete_regs ..), State.showDone]
  exact State.rf_wf_same _ _ _ (by decide) (by decide)

/-! ## The key sequence (R115, R118) -/

theorem exec_seqAWrite (hl : s.live = true) (w v : Nat) : exec (.seqAWrite h 0 w v) s = .next (s.seqWrite h false w v) :=
  whenLive_of_live hl (fun s => s.seqWrite h false w v)

theorem exec_seqBWrite (hl : s.live = true) (w v : Nat) : exec (.seqBWrite h 0 w v) s = .next (s.seqWrite h true w v) :=
  whenLive_of_live hl (fun s => s.seqWrite h true w v)

theorem exec_seqTimeout (hl : s.live = true) : exec (.seqTimeout h) s = .next (s.seqTimeout h) :=
  whenLive_of_live hl (fun s => s.seqTimeout h)

section
variable (hs : (s.half h).nv.stopping = false)
include hs

theorem seqWrite_key1 (hk : (s.half h).nv.host.step = 0) :
    s.seqWrite h false 2 0xC3 = s.modPort h .host (fun x => { x with step := 1 }) := by
  simp [State.seqWrite, hs, hk]

theorem seqWrite_key2 (hk : (s.half h).nv.host.step = 1) :
    s.seqWrite h true 2 0x3C = s.modPort h .host (fun x => { x with step := 2 }) := by
  simp [State.seqWrite, hs, hk]

theorem seqWrite_command (hk : (s.half h).nv.host.step = 2) {v : Nat} (hv : v < 256) :
    s.seqWrite h false 2 v = s.modPort h .host (fun x => { x with step := 3, key := v }) := by
  simp [State.seqWrite, hs, hk, hv]

end

/-- Any other write of SEQ_B than the second key in its turn breaks the sequence. -/
theorem seqWrite_breaks {w v : Nat} (hb : (s.half h).nv.stopping = true ∨ (s.half h).nv.host.step ≠ 1 ∨ w ≠ 2 ∨ v ≠ 0x3C) :
    s.seqWrite h true w v = s.seqErr h := by
  unfold State.seqWrite
  dsimp only
  split
  · rfl
  · next hs =>
    split
    case h_1 _ hisB _ => cases hisB
    case h_2 hk _ hw =>
      exact if_neg fun hv => by simp [hs, hk, of_decide_eq_true hw, hv] at hb
    case h_3 _ hisB _ => cases hisB
    case h_4 => rfl

/-- A broken sequence (R118): the port is IDLE, SEQ_ERR shows it, and a record is the rest. -/
theorem seqErr_breaks (s : State) (h : Half) :
    ((s.seqErr h).half h).nv.host.step = 0 ∧ ((s.seqErr h).half h).nv.host.key = 0 ∧
    (s.seqErr h).rf (NV_CMD_STATUS h) NV_CMD_STATUS.SEQ_ERR = 1 ∧ onlyLogged [NV_CMD_STATUS h] s ((s.seqErr h).setHalf h (s.half h)) := by
  have hcls : ({ logNv (s.half h).nv.host.key 0 2 with event := 5 } : LogReq).cls < 64 := by simp [logNv]
  have hnv : ((s.seqErr h).half h).nv = (s.half h).nv.setPort .host { (s.half h).nv.host with step := 0, key := 0 } :=
    (log_nv _ _ _ _ hcls).trans ((congrArg HalfState.nv (State.wf_half ..)).trans (State.modPort_nv ..))
  refine ⟨by rw [hnv]; rfl, by rw [hnv]; rfl, ?_, ?_⟩
  · refine (rf_log_status _ _ _ hcls .host rfl).trans ?_
    exact State.rf_wf_same _ _ _ (by decide) (by decide)
  · have kreg : onlyRegs [NV_CMD_STATUS h] s (((s.modPort h .host (fun x => { x with step := 0, key := 0 })).wf (NV_CMD_STATUS h)
        NV_CMD_STATUS.SEQ_ERR 1).setHalf h (s.half h)) := by
      rw [State.wf_setHalf]
      exact onlyRegs_wf (onlyRegs_modPort s h .host _) _ _ _ (by simp [nvStatusAddr])
    exact onlyLogged_trans (onlyLogged_of_onlyRegs kreg)
      (onlyLogged_setHalf (onlyLogged_mono (by simp) (log_onlyLogged _ h _ hcls)) h _)

/-- A sequence that waits 10 ms is over, with a completion and a record. -/
theorem seqTimeout_ends (hk : (s.half h).nv.host.step ≠ 0) :
    ((s.seqTimeout h).half h).nv.host.step = 0 ∧ (s.seqTimeout h).rf (NV_CMD_STATUS h) NV_CMD_STATUS.RESULT = 3 ∧
    (s.seqTimeout h).rf (NV_CMD_STATUS h) NV_CMD_STATUS.DONE = 1 ∧
    ((s.seqTimeout h).half h).nv.host.cmd = (s.half h).nv.host.cmd := by
  set c := if (s.half h).nv.host.step = 3 then (s.half h).nv.host.key else 0 with hc
  set v := s.modPort h .host (fun x => { x with step := 0, key := 0 }) with hv
  have e : s.seqTimeout h = (v.nvComplete h .host c 3 0 []).log h (logNv c 0 3) := by
    unfold State.seqTimeout
    exact if_neg hk
  have hcls : (logNv c 0 3).cls < 64 := by simp [logNv]
  have hport : ((s.seqTimeout h).half h).nv.host = { (s.half h).nv.host with step := 0, key := 0 } := by
    rw [e, log_nv _ _ _ _ hcls]
    refine (nvComplete_port v h .host c 3 0 [] .host).trans ?_
    rw [hv, State.modPort_nv]
    rfl
  refine ⟨by rw [hport], ?_, ?_, by rw [hport]⟩ <;> rw [e] <;> refine (rf_log_status _ _ _ hcls .host rfl).trans ?_
  · exact nvComplete_result v h .host c 3 0 []
  · exact nvComplete_done v h .host c 3 0 []

/-- Settles O20: the three writes of the sequence, what breaks it, writes of a virtual function, and its end after 10 ms. -/
theorem hostKeySequence : Obligations.HostKeySequence := by
  refine ⟨?key1, ?key2, ?command, ?breaks, ?discarded, ?timeout⟩
  case key1 =>
    intro s h hl hs hk
    refine ⟨_, exec_seqAWrite hl _ _, ?_⟩
    rw [seqWrite_key1 hs hk]
    refine ⟨?_, ?_, onlyRegs_modPort s h .host _, ?_⟩
    · rw [State.modPort_nv]; rfl
    · rw [State.modPort_nv]; rfl
    · rw [State.modPort, State.wf_half, State.modNv_mem]
  case key2 =>
    intro s h hl hs hk
    refine ⟨_, exec_seqBWrite hl _ _, ?_⟩
    rw [seqWrite_key2 hs hk]
    exact ⟨by rw [State.modPort_nv]; rfl, onlyRegs_modPort s h .host _⟩
  case command =>
    intro s h v hl hs hk hv
    refine ⟨_, exec_seqAWrite hl _ _, ?_⟩
    rw [seqWrite_command hs hk hv]
    refine ⟨by rw [State.modPort_nv]; rfl, by rw [State.modPort_nv]; rfl, fun hcmd hcont => ?_⟩
    refine (rf_modPort_state s h .host _).trans ?_
    simp [NvPortSt.state, NvHalf.port, hcmd, hcont]
  case breaks =>
    intro s h w v hl hb
    refine ⟨_, exec_seqBWrite hl _ _, ?_⟩
    rw [seqWrite_breaks hb]
    exact seqErr_breaks s h
  case discarded =>
    intro s h g w v hl hg
    exact ⟨(whenLive_of_live hl (fun s => if g = 0 then s.seqWrite h false w v else s)).trans (by rw [if_neg hg]),
      (whenLive_of_live hl (fun s => if g = 0 then s.seqWrite h true w v else s)).trans (by rw [if_neg hg])⟩
  case timeout =>
    intro s h hl hk
    exact ⟨_, exec_seqTimeout hl, seqTimeout_ends hk⟩

/-! ## NV_COMMAND_COMPLETE (R122, R150) -/

theorem exec_nvCommandComplete_host (hl : s.live = true) : exec (.nvCommandComplete h .host) s = .next (s.nvEnd h .host).1 :=
  whenLive_of_live hl (fun s => (s.nvEnd h .host).1)

/-- A controller that waits for its reset completes no command: the reset ends it with INTERRUPTED (R150). -/
theorem nvEnd_stopping (hs : (s.half h).nv.stopping = true) : s.nvEnd h p = (s, none) := by
  unfold State.nvEnd
  split
  · rfl
  · exact if_pos hs

/-- Refutes O21: its clause on NV_COMMAND_COMPLETE of the host port lets a command that has ended complete in any state of the controller. Between a
brown-out and the controller's reset none does (R150); the reset gives it INTERRUPTED. With a MARGIN_READ that has ended OK on West's stopping
controller, the model leaves the port's command as it stands where the clause has it gone. -/
theorem not_hostCommandsThatEndAtOnce : ¬ Obligations.HostCommandsThatEndAtOnce := by
  rintro ⟨-, -, -, -, -, -, -, hcomplete, -⟩
  obtain ⟨t, hexec, hgone, -⟩ := hcomplete
    { stage := .running, west := { nv := { stopping := true, host := { cmd := some { code := 0x40, phase := .ending 0 } } } } } .west
    { code := 0x40, phase := .ending 0 } 0 rfl rfl rfl (by decide) (by decide)
  rw [exec_nvCommandComplete_host rfl, nvEnd_stopping rfl] at hexec
  cases hexec
  exact absurd hgone (by decide)

end Sys2Proof.Machine
end

section
/-! PROOF. A launch that passes its checks (R117, R119), and what every command leaves that it begins: the ports, their registers, the loader, and
planes that are disabled. -/

namespace Sys2Proof.Machine

variable {s t u : State} {h : Half} {p : NvPort} {a q code : Nat} {f : Fld} {c : NvCmd}

/-! ## Launches (R117 to R119) -/

/-- The launched command's key sequence is spent, and NV_CMD_TAG shows its TAG (R117, R122). -/
def State.launched (s : State) (h : Half) : State :=
  (s.modPort h .host (fun x => { x with step := 0, key := 0 })).wf (NV_CMD_TAG h) NV_CMD_TAG.TAG ((s.paramBlock h).getD 1 0)

/-- The records of the list that a launch of PROGRAM_ROWS names (R126). -/
def State.launchRecs (s : State) (h : Half) (code : Nat) : List RowRec :=
  let b := s.paramBlock h
  if code = 0x10 then rowRecs (b.getD 3 0) (s.listBytes h (b.getD 2 0) (min 1024 (b.getD 3 0))) else []

theorem armed_iff : s.armed h code = true ↔
    (s.half h).nv.stopping = false ∧ (s.half h).nv.host.step = 3 ∧ (s.half h).nv.host.key = code ∧ (s.half h).nv.host.accepts code = true ∧
    headerCheck .host code code (s.paramBlock h) = 0 ∧ paramCheck code (s.paramBlock h) = 0 ∧
    s.preCheck h .host false code (s.paramBlock h) (s.launchRecs h code) = 0 := by
  simp [State.armed, State.launchRecs, and_assoc]

/-- What the preconditions look at: the commands of the ports, the protection modes, and what is known of the planes. -/
structure SameGuards (h : Half) (s t : State) : Prop where
  cmd : ∀ p, t.nvCmd h p = s.nvCmd h p
  mode : ∀ n, t.rf (NV_PROT_STATE h n) NV_PROT_STATE.MODE = s.rf (NV_PROT_STATE h n) NV_PROT_STATE.MODE
  incomplete : (t.half h).nv.incomplete = (s.half h).nv.incomplete
  planes : (t.half h).nv.planes = (s.half h).nv.planes
  fails : (t.half h).nv.unlockFails = (s.half h).nv.unlockFails

namespace SameGuards

theorem protMode (k : SameGuards h s t) : t.protMode h = s.protMode h := funext fun _ => k.mode _

theorem mayProgram (k : SameGuards h s t) : t.mayProgram h p = s.mayProgram h p := by
  unfold State.mayProgram
  rw [k.protMode]

theorem heldByOther (k : SameGuards h s t) : t.heldByOther h p = s.heldByOther h p := by
  funext q
  unfold State.heldByOther
  rw [k.cmd]
  split
  · rfl
  · rw [k.mode]

theorem planeRec (k : SameGuards h s t) : t.planeRec h = s.planeRec h := funext fun q => State.planeRec_congr k.planes q

theorem recsCheck (k : SameGuards h s t) : t.recsCheck h p = s.recsCheck h p := by
  unfold State.recsCheck
  rw [k.incomplete, k.heldByOther, k.mayProgram, k.planeRec]

theorem planeCheck (k : SameGuards h s t) : t.planeCheck h p = s.planeCheck h p := by
  unfold State.planeCheck
  rw [k.heldByOther]

theorem preCheck (k : SameGuards h s t) : t.preCheck h p = s.preCheck h p := by
  funext enc code b rs
  unfold State.preCheck
  dsimp only
  rw [k.recsCheck, k.planeCheck, k.protMode, k.mode, k.fails]

end SameGuards

/-- A key sequence that is spent leaves what the preconditions look at. -/
theorem SameGuards.modHost (s : State) (h : Half) {g : NvPortSt → NvPortSt} (hg : ∀ y, (g y).cmd = y.cmd) :
    SameGuards h s (s.modPort h .host g) where
  cmd p := by
    unfold State.nvCmd
    rw [State.modPort_nv]
    cases p
    case host => exact hg _
    case loader => rfl
  mode n := State.rf_modPort s h .host g (by simp only [nvStatusAddr, NV_PROT_STATE, NV_CMD_STATUS]; omega)
  incomplete := by rw [State.modPort_nv]; rfl
  planes := by rw [State.modPort_nv]; rfl
  fails := by rw [State.modPort_nv]; rfl

/-- A launch that passes its checks begins its command (R119). -/
theorem portCmd_armed (ha : s.armed h code = true) :
    s.portCmd h .host code = (s.launched h).nvStart h .host code (s.paramBlock h) (s.launchRecs h code) := by
  obtain ⟨hs, hstep, hkey, hacc, hhead, hparam, hpre⟩ := armed_iff.1 ha
  have hport : ((s.modPort h .host (fun x => { x with step := 0, key := 0 })).half h).nv.port .host =
      { (s.half h).nv.host with step := 0, key := 0 } := by rw [State.modPort_nv]; rfl
  have hacc' : NvPortSt.accepts { (s.half h).nv.host with step := 0, key := 0 } code = true := hacc
  have kg : SameGuards h s (s.modPort h .host (fun x => { x with step := 0, key := 0 })) := .modHost s h fun _ => rfl
  rw [← kg.preCheck] at hpre
  unfold State.portCmd State.launchWrite
  simp only [hs, hstep, hkey, Bool.false_eq_true, ne_eq, not_true_eq_false, or_self, if_false]
  have hrecs : (if code = 0x10 then rowRecs ((s.paramBlock h).getD 3 0) (if code = 0x10 then
      s.listBytes h ((s.paramBlock h).getD 2 0) (min 1024 ((s.paramBlock h).getD 3 0)) else []) else []) = s.launchRecs h code := by
    unfold State.launchRecs
    split <;> rfl
  unfold State.nvRun
  simp only [hrecs, hport, hacc', hhead, hparam, hpre, Bool.not_true, Bool.false_eq_true, ne_eq, not_true_eq_false, if_false]
  rfl

theorem exec_armed (hl : s.live = true) (ha : s.armed h code = true) : whenLive s (fun s => s.portCmd h .host code) =
    .next ((s.launched h).nvStart h .host code (s.paramBlock h) (s.launchRecs h code)) := by
  rw [whenLive_of_live hl, portCmd_armed ha]

/-- A launch leaves the controller but for its key sequence. -/
theorem launched_nv (s : State) (h : Half) : ((s.launched h).half h).nv =
    (s.half h).nv.setPort .host { (s.half h).nv.host with step := 0, key := 0 } :=
  (congrArg HalfState.nv (State.wf_half ..)).trans (State.modPort_nv ..)

theorem passHash_launched (s : State) (h : Half) (b : List Nat) : (s.launched h).passHash h b = s.passHash h b := by
  unfold State.passHash
  rw [launched_nv]
  rfl

/-- A launch writes NV_CMD_STATUS and NV_CMD_TAG; no protection mode changes. -/
theorem protMode_launched (s : State) (h : Half) (q : Nat) : (s.launched h).protMode h q = s.protMode h q := by
  refine (State.rf_wf_ne _ _ _ _ ?_).trans (State.rf_modPort s h .host _ ?_)
  · simp only [NV_PROT_STATE, NV_CMD_TAG]; omega
  · simp only [nvStatusAddr, NV_PROT_STATE, NV_CMD_STATUS]; omega

/-! ## A command on its port -/

theorem putCmd_nv (s : State) (h : Half) (p : NvPort) (c : NvCmd) (n : Nat) :
    ((s.putCmd h p c n).half h).nv = (s.half h).nv.setPort p { (s.half h).nv.port p with cmd := some c } := by
  rw [State.putCmd, progress_half, State.modPort_nv]

theorem rows_putCmd_launched (s : State) (h : Half) (c : NvCmd) (n : Nat) :
    (((s.launched h).putCmd h .host c n).half h).nv.rows = (s.half h).nv.rows := by
  rw [putCmd_nv, NvHalf.setPort_rows, launched_nv, NvHalf.setPort_rows]

theorem ledgerQ_putCmd_launched (s : State) (h : Half) (c : NvCmd) (n : Nat) :
    (((s.launched h).putCmd h .host c n).half h).nv.ledgerQ = (s.half h).nv.ledgerQ := by
  rw [putCmd_nv, NvHalf.setPort_ledgerQ, launched_nv, NvHalf.setPort_ledgerQ]

@[simp] theorem nvCmd_putCmd (s : State) (h : Half) (p : NvPort) (c : NvCmd) (n : Nat) : (s.putCmd h p c n).nvCmd h p = some c := by
  unfold State.nvCmd
  rw [putCmd_nv, NvHalf.port_setPort]

theorem nvCmd_putCmd_ne (s : State) (h : Half) (c : NvCmd) (n : Nat) {q : NvPort} (hq : q ≠ p) : (s.putCmd h p c n).nvCmd h q = s.nvCmd h q :=
  State.nvCmd_congr (by rw [putCmd_nv, NvHalf.port_setPort_ne _ _ hq])

/-- The host port shows BUSY and the number of units. -/
theorem putCmd_shows (s : State) (h : Half) (c : NvCmd) {n : Nat} (hn : n < 2 ^ 16) :
    (s.putCmd h .host c n).rf (NV_CMD_STATUS h) NV_CMD_STATUS.PORT_STATE = 4 ∧
    (s.putCmd h .host c n).rf (NV_CMD_PROGRESS h) NV_CMD_PROGRESS.TOTAL_UNITS = n := by
  have hne : NV_CMD_STATUS h + 0 ≠ NV_CMD_PROGRESS h + 0 := by simp only [NV_CMD_STATUS, NV_CMD_PROGRESS]; omega
  refine ⟨?_, State.rf_wf_same _ _ _ (by decide) hn⟩
  refine (State.rf_wf_ne _ _ _ _ hne).trans ((State.rf_wf_ne _ _ _ _ hne).trans ?_)
  exact rf_modPort_state s h .host _

/-- Of the registers, a command put on a port changes the port's status and, on the host port, the progress. -/
theorem rd_putCmd (s : State) (h : Half) (p : NvPort) (c : NvCmd) (n : Nat) (hs : a ≠ nvStatusAddr h p) (hp : a ≠ NV_CMD_PROGRESS h) :
    (s.putCmd h p c n).rd a = s.rd a := by
  refine Eq.trans ?_ (State.rd_modPort s h p (fun x => { x with cmd := some c }) hs)
  cases p
  case loader => rfl
  case host => exact (State.rd_wf_ne _ _ _ hp).trans (State.rd_wf_ne _ _ _ hp)

theorem protMode_putCmd (s : State) (h : Half) (p : NvPort) (c : NvCmd) (n r : Nat) :
    (s.putCmd h p c n).protMode h r = s.protMode h r := by
  unfold State.protMode State.rf
  rw [rd_putCmd]
  · cases p <;> simp only [nvStatusAddr, NV_PROT_STATE, NV_CMD_STATUS, NV_LDR_STATUS] <;> omega
  · simp only [NV_PROT_STATE, NV_CMD_PROGRESS]; omega

theorem nvCmd_askLedger (s : State) (h : Half) (ty sub v : Nat) (w : LedgerFor) (p : NvPort) :
    (s.askLedger h ty sub v w).nvCmd h p = s.nvCmd h p :=
  State.nvCmd_congr (by rw [State.askLedger_nv]; cases p <;> rfl)

/-! ## The loader -/

theorem modNv_ldr (s : State) (h : Half) (g : NvHalf → NvHalf) : ((s.modNv h g).half h).ldr = (s.half h).ldr := by cases h <;> rfl

@[simp] theorem modPort_ldr (s : State) (h : Half) (p : NvPort) (g : NvPortSt → NvPortSt) :
    ((s.modPort h p g).half h).ldr = (s.half h).ldr :=
  (congrArg HalfState.ldr (State.wf_half ..)).trans (modNv_ldr ..)

theorem putCmd_ldr (s : State) (h : Half) (p : NvPort) (c : NvCmd) (n : Nat) : ((s.putCmd h p c n).half h).ldr = (s.half h).ldr := by
  rw [State.putCmd, progress_half, modPort_ldr]

theorem dropSteps_ldr (s : State) (h : Half) (P : NvStep → Bool) : ((s.dropSteps h P).half h).ldr = (s.half h).ldr := by
  rw [dropSteps_half, modNv_ldr]

theorem askStep_ldr (s : State) (h : Half) (x : NvStep) : ((s.askStep h x).half h).ldr = (s.half h).ldr := by
  unfold State.askStep
  exact (congrArg HalfState.ldr (sameHalves_need _ _ h) :).trans (by rw [State.showPending_half, modNv_ldr])

theorem schedule_ldr (k : Nat) (s : State) (h : Half) : ((s.schedule h k).half h).ldr = (s.half h).ldr := by
  induction k generalizing s with
  | zero => rfl
  | succ k ih =>
    unfold State.schedule
    split
    · rfl
    · rw [ih, askStep_ldr, State.modRefresh, modNv_ldr]

theorem runRefresh_ldr (s : State) (h : Half) : ((s.runRefresh h).half h).ldr = (s.half h).ldr := by
  have hcatch : ((s.checkCatchup h).half h).ldr = (s.half h).ldr := by
    unfold State.checkCatchup
    split
    · rfl
    · rw [State.wf_half]
  refine (schedule_ldr ..).trans (Eq.trans ?_ hcatch)
  unfold State.stopBarred
  dsimp only
  split
  · rfl
  · rw [dropSteps_ldr, modNv_ldr]

theorem endRefresh_ldr (s : State) (h : Half) (q : Nat) : ((s.endRefresh h q).half h).ldr = (s.half h).ldr := by
  rw [State.endRefresh, dropSteps_ldr, modNv_ldr]

theorem setEn_ldr (s : State) (h : Half) (q : Nat) (v : Bool) : ((s.setEn h q v).half h).ldr = (s.half h).ldr := by
  unfold State.setEn State.cfgPending
  split
  · rfl
  · dsimp only
    rw [modNv_ldr, State.wf_half, State.wf_half]

/-! ## What stays once a command stands on its port -/

/-- Registers that show a port's state or its command's progress. -/
def shownReg (h : Half) (a : Nat) : Prop := a = NV_CMD_STATUS h ∨ a = NV_LDR_STATUS h ∨ a = NV_CMD_PROGRESS h

theorem shownReg_status (h : Half) (p : NvPort) : shownReg h (nvStatusAddr h p) := by
  cases p
  · exact .inl rfl
  · exact .inr (.inl rfl)

theorem tableReg_shown (ha : shownReg h a) : tableReg h a := by
  rcases ha with rfl | rfl | rfl
  all_goals
    refine ⟨?_, ?_, fun n _ => ?_⟩
    · simp only [NV_CMD_STATUS, NV_LDR_STATUS, NV_CMD_PROGRESS]; rw [arrayReg_iff] <;> omega
    all_goals simp only [NV_CMD_STATUS, NV_LDR_STATUS, NV_CMD_PROGRESS, NV_REFRESH_CTRL, SEAM_STATUS]; omega

/-- The ports with their registers, the loader, the stored rows and the Ledger's waiting records stay, and no plane becomes enabled. -/
structure KeepsPorts (h : Half) (s t : State) : Prop where
  port : ∀ p, (t.half h).nv.port p = (s.half h).nv.port p
  ldr : (t.half h).ldr = (s.half h).ldr
  rows : (t.half h).nv.rows = (s.half h).nv.rows
  rd : ∀ a, shownReg h a → t.rd a = s.rd a
  disabled : ∀ q < 32768, s.planeEn h q = false → t.planeEn h q = false

namespace KeepsPorts

theorem refl (s : State) : KeepsPorts h s s := ⟨fun _ => rfl, rfl, rfl, fun _ _ => rfl, fun _ _ e => e⟩

theorem trans (k : KeepsPorts h s t) (l : KeepsPorts h t u) : KeepsPorts h s u where
  port p := (l.port p).trans (k.port p)
  ldr := l.ldr.trans k.ldr
  rows := l.rows.trans k.rows
  rd a ha := (l.rd a ha).trans (k.rd a ha)
  disabled q hq e := l.disabled q hq (k.disabled q hq e)

theorem cmd (k : KeepsPorts h s t) (p : NvPort) : t.nvCmd h p = s.nvCmd h p := State.nvCmd_congr (k.port p)

theorem rf (k : KeepsPorts h s t) (ha : shownReg h a) (hf : f.off = 0) : t.rf a f = s.rf a f := by
  unfold State.rf
  rw [hf, Nat.add_zero, k.rd a ha]

/-- Steps and refreshes leave the ports. -/
theorem of_table (k : KeepsTable h s t) (hl : (t.half h).ldr = (s.half h).ldr) : KeepsPorts h s t where
  port := k.port
  ldr := hl
  rows := k.rows
  rd a ha := k.rd a (tableReg_shown ha)
  disabled _ hq e := (k.planeEn hq).trans e

theorem askStep (s : State) (h : Half) (x : NvStep) : KeepsPorts h s (s.askStep h x) := of_table (.askStep ..) (askStep_ldr ..)
theorem runRefresh (s : State) (h : Half) : KeepsPorts h s (s.runRefresh h) := of_table (.runRefresh ..) (runRefresh_ldr ..)
theorem endRefresh (s : State) (h : Half) (q : Nat) : KeepsPorts h s (s.endRefresh h q) := of_table (.endRefresh ..) (endRefresh_ldr ..)

/-- A plane is disabled, and the commit of its Seam is due (R62, R64). -/
theorem disable (s : State) (h : Half) (hq : q < 32768) : KeepsPorts h s (s.setEn h q false) where
  port p := by
    obtain ⟨l, e⟩ := setEn_nv s h q false
    rw [e]
    cases p <;> rfl
  ldr := setEn_ldr ..
  rows := (KeepsJobs.setEn s h .host q false).rows
  rd a ha := by
    have hne : a ≠ SEAM_PLANE_CFG h (q / 16) + 0 ∧ a ≠ SEAM_STATUS h (q / 16) := by
      obtain ⟨-, -, hseam⟩ := tableReg_shown ha
      refine ⟨?_, hseam _ (by omega)⟩
      rcases ha with rfl | rfl | rfl <;> simp only [NV_CMD_STATUS, NV_LDR_STATUS, NV_CMD_PROGRESS, SEAM_PLANE_CFG] <;> omega
    unfold State.setEn
    split
    · rfl
    · exact (State.cfgPending_rd _ _ _ hne.2).trans (State.rd_wf_ne _ _ _ hne.1)
  disabled r _ e := by rw [planeEn_setEn_false, e, Bool.and_false]

end KeepsPorts

/-- The planes of a list of rows are disabled, and their refreshes end (R62, R103). -/
def State.disableRows (s : State) (h : Half) (jobs : List RowJob) : State :=
  jobs.foldl (fun s r => (s.setEn h r.plane false).endRefresh h r.plane) s

theorem KeepsPorts.disableRows (jobs : List RowJob) (hj : ∀ r ∈ jobs, r.plane < 32768) (s : State) (h : Half) :
    KeepsPorts h s (s.disableRows h jobs) := by
  induction jobs generalizing s with
  | nil => exact .refl s
  | cons r jobs ih =>
    obtain ⟨hr, hjobs⟩ := List.forall_mem_cons.1 hj
    exact ((KeepsPorts.disable s h hr).trans (.endRefresh ..)).trans (ih hjobs _)

theorem planeEn_disableRows (jobs : List RowJob) (hj : ∀ r ∈ jobs, r.plane < 32768) (s : State) {r : RowJob} (hr : r ∈ jobs) :
    (s.disableRows h jobs).planeEn h r.plane = false := by
  induction jobs generalizing s with
  | nil => exact absurd hr List.not_mem_nil
  | cons x jobs ih =>
    obtain ⟨hx, hjobs⟩ := List.forall_mem_cons.1 hj
    rcases List.mem_cons.1 hr with rfl | hr
    · refine (KeepsPorts.disableRows jobs hjobs _ h).disabled _ hx ((KeepsPorts.endRefresh ..).disabled _ hx ?_)
      rw [planeEn_setEn_false]
      simp
    · exact ih hjobs _ hr

end Sys2Proof.Machine
end

section
/-! PROOF. Commands begin on their ports (R126 to R133, R139 to R145, R169, R170), and the statement on them. -/

namespace Sys2Proof.Machine

variable {s t : State} {h : Half} {p : NvPort} {code : Nat} {b : List Nat} {rs : List RowRec} {c : NvCmd}

/-! ## PROGRAM_ROWS (R126 to R128) -/

theorem length_rowRecs (k : Nat) (l : List Byte) : (rowRecs k l).length = k := by
  induction k generalizing l with
  | zero => rfl
  | succ k ih => simp [rowRecs, ih]

/-- A list of a launch that passes its checks has 1 to 1,024 records (R126). -/
theorem launchRecs_length (ha : s.armed h 0x10 = true) :
    (s.launchRecs h 0x10).length = (s.paramBlock h).getD 3 0 ∧ (s.paramBlock h).getD 3 0 ≤ 1024 := by
  obtain ⟨-, -, -, -, -, hparam, -⟩ := armed_iff.1 ha
  refine ⟨length_rowRecs .., ?_⟩
  by_contra hlt
  unfold paramCheck at hparam
  dsimp only at hparam
  rw [if_pos (show _ ∨ _ ∨ _ from .inr (.inr (by omega)))] at hparam
  split at hparam
  · exact absurd hparam (by decide)
  · exact absurd hparam (show (5 : Nat) ≠ 0 by decide)

/-- The rows that a PROGRAM_ROWS is to program, as the launch finds their planes. -/
def State.rowJobs (s : State) (h : Half) (rs : List RowRec) : List RowJob := rs.map (s.rowJob h)

theorem plane_rowJobs (s : State) (h : Half) (rs : List RowRec) : ∀ r ∈ s.rowJobs h rs, r.plane < 32768 := by
  intro r hr
  obtain ⟨x, -, rfl⟩ := List.mem_map.1 hr
  exact Nat.mod_lt _ (by decide)

/-- The command of a PROGRAM_ROWS: it waits for the commit of its planes' EN bits (R128). -/
def State.programCmd (s : State) (h : Half) (tag : Nat) (range : Nat × Nat) (rs : List RowRec) : NvCmd :=
  { code := 0x10, tag := tag, phase := .commit, rows := s.rowJobs h rs, range := range }

theorem nvStart_programRows (s : State) (h : Half) (p : NvPort) (b : List Nat) (rs : List RowRec) : ∃ range,
    s.nvStart h p 0x10 b rs = ((s.putCmd h p (s.programCmd h (b.getD 1 0) range rs) (s.rowJobs h rs).length).disableRows h
      (s.rowJobs h rs)).runRefresh h := ⟨_, rfl⟩

/-- Once its command stands on the port, a PROGRAM_ROWS disables its planes and leaves the ports. -/
theorem programRows_keeps (s : State) (h : Half) (p : NvPort) (b : List Nat) (rs : List RowRec) : ∃ range,
    KeepsPorts h (s.putCmd h p (s.programCmd h (b.getD 1 0) range rs) (s.rowJobs h rs).length) (s.nvStart h p 0x10 b rs) := by
  obtain ⟨range, e⟩ := nvStart_programRows s h p b rs
  rw [e]
  exact ⟨range, (KeepsPorts.disableRows _ (plane_rowJobs s h rs) ..).trans (.runRefresh ..)⟩

theorem programRows_disables (s : State) (h : Half) (p : NvPort) (b : List Nat) (rs : List RowRec) :
    ∀ r ∈ s.rowJobs h rs, (s.nvStart h p 0x10 b rs).planeEn h r.plane = false := by
  intro r hr
  obtain ⟨range, e⟩ := nvStart_programRows s h p b rs
  rw [e]
  exact (KeepsPorts.runRefresh ..).disabled _ (plane_rowJobs s h rs r hr) (planeEn_disableRows _ (plane_rowJobs s h rs) _ hr)

/-! ## ERASE_PLANE (R131) -/

theorem bits_lt (n lo len : Nat) : bits n lo len < 2 ^ len := Nat.mod_lt _ (Nat.two_pow_pos len)

theorem plane_lt (n : Nat) : bits n 0 15 < 32768 := bits_lt n 0 15

/-- The command of an ERASE_PLANE or REFRESH_PLANE with parameters `b`. -/
def onePlaneCmd (code : Nat) (b : List Nat) : NvCmd := { code := code, tag := b.getD 1 0, planes := [bits (b.getD 2 0) 0 15] }

theorem nvStart_erasePlane (s : State) (h : Half) (p : NvPort) (b : List Nat) (rs : List RowRec) : s.nvStart h p 0x20 b rs =
    ((s.putCmd h p (onePlaneCmd 0x20 b) 1).setEn h (bits (b.getD 2 0) 0 15) false).modCmd h p (fun c => { c with phase := .commit }) := rfl

/-! ## REFRESH_PLANE (R132) -/

/-- A refresh that a command has asked for is queued or runs. -/
def State.cmdRefresh (s : State) (h : Half) (q : Nat) : Bool := (s.half h).nv.refreshes.any (fun r => r.plane == q && r.cmd)

theorem cmdRefresh_iff {q : Nat} : s.cmdRefresh h q = true ↔ ∃ r ∈ (s.half h).nv.refreshes, r.plane = q ∧ r.cmd = true := by
  simp [State.cmdRefresh]

/-- A refresh that a command has asked for is not stopped, whatever EN (R103). -/
theorem cmdRefresh_stopBarred {q : Nat} (k : s.cmdRefresh h q = true) : (s.stopBarred h).cmdRefresh h q = true := by
  obtain ⟨r, hr, hq, hc⟩ := cmdRefresh_iff.1 k
  unfold State.stopBarred
  dsimp only
  split
  · exact k
  · refine cmdRefresh_iff.2 ⟨r, ?_, hq, hc⟩
    rw [dropSteps_half, State.modNv_nv, State.modNv_nv]
    exact List.mem_filterMap.2 ⟨r, hr, if_neg (by simp [State.barred, hc])⟩

/-- Refreshes that start stay their commands'. -/
theorem cmdRefresh_schedule {q : Nat} (k : Nat) (s : State) (hs : s.cmdRefresh h q = true) : (s.schedule h k).cmdRefresh h q = true := by
  induction k generalizing s with
  | zero => exact hs
  | succ k ih =>
    unfold State.schedule
    split
    · exact hs
    · next x _ =>
      obtain ⟨r, hr, hq, hc⟩ := cmdRefresh_iff.1 hs
      refine ih _ (cmdRefresh_iff.2 ⟨if r.plane == x.plane then { r with running := true } else r, ?_, ?_, ?_⟩)
      · rw [State.askStep_nv, State.modRefresh, State.modNv_nv]
        exact List.mem_map_of_mem hr
      all_goals split <;> assumption

theorem cmdRefresh_runRefresh {q : Nat} (hs : s.cmdRefresh h q = true) : (s.runRefresh h).cmdRefresh h q = true := by
  refine cmdRefresh_schedule _ _ (cmdRefresh_stopBarred ?_)
  unfold State.checkCatchup
  split
  · exact hs
  · exact hs

theorem nvStart_refreshPlane (s : State) (h : Half) (p : NvPort) (b : List Nat) (rs : List RowRec) : s.nvStart h p 0x30 b rs =
    (s.putCmd h p (onePlaneCmd 0x30 b) 1).askRefresh h (bits (b.getD 2 0) 0 15) (bit (b.getD 2 0) 16) := rfl

theorem cmdRefresh_askRefresh (s : State) (h : Half) (q : Nat) (urgent : Bool) : (s.askRefresh h q urgent).cmdRefresh h q = true := by
  unfold State.askRefresh
  refine cmdRefresh_runRefresh ?_
  rw [State.cmdRefresh, State.modNv_nv, List.any_append]
  simp

theorem KeepsPorts.askRefresh (s : State) (h : Half) (q : Nat) (urgent : Bool) : KeepsPorts h s (s.askRefresh h q urgent) := by
  refine ((KeepsPorts.endRefresh s h q).trans (.of_table (.modNv _ h _ ?_) (modNv_ldr ..))).trans (.runRefresh ..)
  exact fun _ => rfl

/-! ## MARGIN_READ (R133) -/

/-- The command of a MARGIN_READ with parameters `b`. -/
def marginCmd (b : List Nat) : NvCmd :=
  { code := 0x40
    tag := b.getD 1 0
    planes := [bits (b.getD 2 0) 0 15]
    first := bits (b.getD 3 0) 0 10
    next := bits (b.getD 3 0) 0 10
    last := bits (b.getD 3 0) 16 10
    digest := b.getD 4 0
    expect := wordsLE ((b.drop 8).take 8) }

/-- The first step of a MARGIN_READ. -/
def marginStep (p : NvPort) (b : List Nat) : NvStep :=
  { own := .cmd p, kind := .margin, plane := bits (b.getD 2 0) 0 15, row := bits (b.getD 3 0) 0 10 }

theorem nvStart_marginRead (s : State) (h : Half) (p : NvPort) (b : List Nat) (rs : List RowRec) : s.nvStart h p 0x40 b rs =
    (s.putCmd h p (marginCmd b) (bits (b.getD 3 0) 16 10 + 1 - bits (b.getD 3 0) 0 10)).askStep h (marginStep p b) := rfl

/-! ## PROTECT_SET, PROTECT_UNLOCK and OTP_PROGRAM (R139 to R143) -/

/-- The command of a PROTECT_SET with parameters `b`: its PROT_BEGIN is due (R139). -/
def State.protectCmd (s : State) (h : Half) (b : List Nat) : NvCmd :=
  { code := 0x60
    tag := b.getD 1 0
    phase := .ledgerBegin
    group := bits (b.getD 2 0) 0 9
    mode := bits (b.getD 2 0) 16 2
    hash := s.passHash h b }

theorem nvStart_protectSet (s : State) (h : Half) (p : NvPort) (b : List Nat) (rs : List RowRec) : s.nvStart h p 0x60 b rs =
    (s.putCmd h p (s.protectCmd h b) 0).askLedger h 3 (bits (b.getD 2 0) 0 9) (bits (b.getD 2 0) 16 2) (.cmd p) := rfl

/-- The command of a PROTECT_UNLOCK with parameters `b` that is in phase `x` and is to erase the planes `ps`. -/
def unlockCmd (b : List Nat) (x : NvPhase) (ps : List Nat) : NvCmd :=
  { code := 0x61, tag := b.getD 1 0, phase := x, group := bits (b.getD 2 0) 0 9, planes := ps }

/-- Do the parameters hold the password of the group that they name (R139)? -/
def State.rightPass (s : State) (h : Half) (b : List Nat) : Prop :=
  s.passHash h b = mapGet (fun _ => []) (s.half h).nv.hashes (bits (b.getD 2 0) 0 9)

theorem rightPass_launched : (s.launched h).rightPass h b ↔ s.rightPass h b := by
  unfold State.rightPass
  rw [passHash_launched, launched_nv, NvHalf.setPort_hashes]

/-- The right password: PROT_BEGIN is due, and the planes of a confidential group are to be erased (R140, R141). -/
theorem nvStart_protectUnlock (s : State) (h : Half) (p : NvPort) (rs : List RowRec) (hpass : s.rightPass h b) : ∃ ps n,
    s.nvStart h p 0x61 b rs = (s.putCmd h p (unlockCmd b .ledgerBegin ps) n).askLedger h 3 (bits (b.getD 2 0) 0 9) 0 (.cmd p) :=
  ⟨_, _, if_pos hpass⟩

/-- A wrong password: the command only waits for its delay (R140). -/
theorem nvStart_protectUnlock_wrong (s : State) (h : Half) (p : NvPort) (rs : List RowRec) (hpass : ¬s.rightPass h b) :
    s.nvStart h p 0x61 b rs = s.putCmd h p (unlockCmd b .delay []) 0 :=
  if_neg hpass

theorem nvStart_otpProgram (s : State) (h : Half) (p : NvPort) (b : List Nat) (rs : List RowRec) : s.nvStart h p 0x71 b rs =
    s.putCmd h p { code := 0x71, tag := b.getD 1 0, phase := .steps, words := [bits (b.getD 2 0) 0 6, b.getD 3 0] } 0 := rfl

/-! ## Requests of the loader (R169, R170) -/

/-- A command with the given byte stands on the port; the loader and the other port's command stay. -/
structure Begun (h : Half) (p : NvPort) (code : Nat) (s t : State) : Prop where
  code : (t.nvCmd h p).map NvCmd.code = some code
  ldr : (t.half h).ldr = (s.half h).ldr
  other : ∀ q, q ≠ p → t.nvCmd h q = s.nvCmd h q

theorem Begun.putCmd (s : State) (h : Half) (p : NvPort) (c : NvCmd) (n : Nat) : Begun h p c.code s (s.putCmd h p c n) where
  code := by rw [nvCmd_putCmd]; rfl
  ldr := putCmd_ldr ..
  other _ hq := nvCmd_putCmd_ne s h c n hq

theorem Begun.keeps {u : State} (k : Begun h p code s t) (l : KeepsPorts h t u) : Begun h p code s u where
  code := by rw [l.cmd]; exact k.code
  ldr := l.ldr.trans k.ldr
  other q hq := (l.cmd q).trans (k.other q hq)

theorem begun_programRows (s : State) (h : Half) (p : NvPort) (b : List Nat) (rs : List RowRec) :
    Begun h p 0x10 s (s.nvStart h p 0x10 b rs) := by
  obtain ⟨range, k⟩ := programRows_keeps s h p b rs
  exact (Begun.putCmd s h p (s.programCmd h (b.getD 1 0) range rs) _).keeps k

theorem begun_marginRead (s : State) (h : Half) (p : NvPort) (b : List Nat) (rs : List RowRec) :
    Begun h p 0x40 s (s.nvStart h p 0x40 b rs) :=
  (Begun.putCmd s h p (marginCmd b) _).keeps (.askStep ..)

theorem begun_erasePlane (s : State) (h : Half) (p : NvPort) (b : List Nat) (rs : List RowRec) :
    Begun h p 0x20 s (s.nvStart h p 0x20 b rs) := by
  have k := (Begun.putCmd s h p (onePlaneCmd 0x20 b) 1).keeps
    (.disable _ h (plane_lt (b.getD 2 0)))
  rw [nvStart_erasePlane]
  refine ⟨?_, (modPort_ldr ..).trans k.ldr, fun q hq => ?_⟩
  · rw [State.nvCmd_modCmd, Option.map_map]
    exact k.code
  · exact (KeepsJobs.modCmd _ h hq _).cmd.trans (k.other q hq)

/-- A request of the loader that fails a check stands on its port all the same, until the loader takes it up (R119). -/
theorem begun_nvRun (enc : Bool) (launch : Nat) (recs : List Byte) (k : ∀ rs, Begun h .loader code s (s.nvStart h .loader code b rs)) :
    Begun h .loader code s (s.nvRun h .loader enc code launch b recs) :=
  iteInduction (motive := Begun h .loader code s)
    (fun _ => Begun.putCmd s h .loader { code := code, tag := b.getD 1 0, phase := .ending _, refused := true } 0) (fun _ => k _)

/-- Is a command the loader's next request: the rows of a list to program, a plane to prove, or a plane to erase? -/
def LoaderSt.requests (l : LoaderSt) (code : Nat) : Prop :=
  (code = 0x10 ∧ l.phase = .program ∧ l.recs ≠ []) ∨ (code = 0x40 ∧ l.phase = .prove ∧ l.planes ≠ []) ∨
  (code = 0x20 ∧ l.phase = .erase ∧ l.planes ≠ [])

theorem begun_request {l : LoaderSt} (k : l.requests code) (s : State) (h : Half) (p : NvPort) (b : List Nat) (rs : List RowRec) :
    Begun h p code s (s.nvStart h p code b rs) := by
  rcases k with ⟨rfl, -⟩ | ⟨rfl, -⟩ | ⟨rfl, -⟩
  · exact begun_programRows ..
  · exact begun_marginRead ..
  · exact begun_erasePlane ..

/-- The loader has asked for a command on its port. -/
def State.asked (s : State) (h : Half) : State := s.modLdr h (fun l => { l with asked := true })

theorem asked_half (s : State) (h : Half) : (s.asked h).half h = { s.half h with ldr := { (s.half h).ldr with asked := true } } :=
  State.half_modHalf_same ..

section
variable (hs : (s.half h).nv.stopping = false) (hc : s.nvCmd h .loader = none) (ha : (s.half h).ldr.asked = false)
  (hr : (s.half h).ldr.requests code)
include hs hc ha hr

/-- With its port free the loader's next request runs there, under the same checks as a launch. -/
theorem ldAsk_request : ∃ b recs, s.ldAsk h code = (s.asked h).nvRun h .loader (s.half h).ldr.enc code code b recs := by
  rcases hr with ⟨rfl, hp, hr⟩ | ⟨rfl, hp, hr⟩ | ⟨rfl, hp, hr⟩ <;> obtain ⟨x, l, hl⟩ := List.exists_cons_of_ne_nil hr <;>
    simp only [State.ldAsk, hs, hc, ha, hp, hl, List.isEmpty_cons, Bool.false_eq_true, if_false]
  · exact ⟨_, _, rfl⟩
  · exact ⟨_, _, rfl⟩
  · exact ⟨_, _, rfl⟩

/-- The loader's request stands on its port, has been asked for, and leaves the host's command. -/
theorem ldAsk_begins : ((s.ldAsk h code).nvCmd h .loader).map NvCmd.code = some code ∧ ((s.ldAsk h code).half h).ldr.asked = true ∧
    (s.ldAsk h code).nvCmd h .host = s.nvCmd h .host := by
  obtain ⟨b, recs, e⟩ := ldAsk_request hs hc ha hr
  have k := begun_nvRun (s := s.asked h) (b := b) (s.half h).ldr.enc code recs (begun_request hr _ h .loader b)
  rw [e]
  refine ⟨k.code, ?_, (k.other .host (by decide)).trans (State.nvCmd_congr ?_)⟩
  · rw [k.ldr, asked_half]
  · rw [asked_half]

end

/-- The loader asks for PROGRAM_ROWS, MARGIN_READ and ERASE_PLANE, and for CMD_RESET; every other row of its port changes nothing. -/
theorem ldAsk_hostOnly (s : State) (h : Half) (hcode : code ≠ 0x10 ∧ code ≠ 0x20 ∧ code ≠ 0x40 ∧ code ≠ 0xF0) : s.ldAsk h code = s := by
  obtain ⟨h10, h20, h40, hf0⟩ := hcode
  unfold State.ldAsk
  dsimp only
  split
  · rfl
  · split
    · exact if_neg fun k => hf0 k.1
    · split
      · rfl
      · split
        · exact absurd rfl h10
        · exact absurd rfl h40
        · exact absurd rfl h20
        · rfl

/-! ## CMD_RESET on a port with a command (R122, R145) -/

/-- The port's command is gone, and its status shows a completed CMD_RESET. -/
def State.resetDone (s : State) (h : Half) (p : NvPort) : Prop :=
  s.nvCmd h p = none ∧ s.rf (nvStatusAddr h p) NV_CMD_STATUS.CMD = 0xF0

theorem nvCmd_nvComplete (s : State) (h : Half) (p : NvPort) (code result tag : Nat) (ws : List Nat) :
    (s.nvComplete h p code result tag ws).nvCmd h p = s.nvCmd h p :=
  State.nvCmd_congr (nvComplete_port ..)

theorem resetDone_nvComplete (result tag : Nat) (ws : List Nat) (hc : s.nvCmd h p = none) :
    (s.nvComplete h p 0xF0 result tag ws).resetDone h p :=
  ⟨(nvCmd_nvComplete ..).trans hc, nvComplete_cmd ..⟩

theorem resetDone_congr (k : s.resetDone h p) (hc : t.nvCmd h p = s.nvCmd h p) (hr : t.rd (nvStatusAddr h p) = s.rd (nvStatusAddr h p)) :
    t.resetDone h p := by
  refine ⟨hc.trans k.1, Eq.trans ?_ k.2⟩
  unfold State.rf
  rw [show nvStatusAddr h p + NV_CMD_STATUS.CMD.off = nvStatusAddr h p from rfl, hr]

theorem resetDone_tellLoader (k : s.resetDone h p) (q : NvPort) (c : NvCmd) (r : Nat) : (s.tellLoader h q c r).resetDone h p := by
  cases q
  case host => exact k
  case loader =>
    refine resetDone_congr k (State.nvCmd_congr ?_) (State.modHalf_rd ..)
    rw [State.tellLoader, State.half_modHalf_same]

/-- Rows of the other port's command may go into program. -/
theorem resetDone_feedRow (k : s.resetDone h p) {q : NvPort} (hq : p ≠ q) (i : Nat) : (s.feedRow h q i).resetDone h p := by
  refine resetDone_congr k (KeepsJobs.feedRow s h hq i).cmd ?_
  have hne : nvStatusAddr h p ≠ nvStatusAddr h q := by
    cases p <;> cases q
    case host.host | loader.loader => exact absurd rfl hq
    all_goals simp only [nvStatusAddr, NV_CMD_STATUS, NV_LDR_STATUS]; omega
  have hpump : pumpDom h < 144 := by cases h <;> decide
  unfold State.feedRow
  split
  · rfl
  · split
    · rfl
    · split
      · rfl
      · unfold State.askPulse
        rw [rd_need _ hpump (arrayReg_nvStatus h p), State.modNv_rd]
        exact State.rd_modPort _ _ _ _ hne

theorem resetDone_feedPort (k : s.resetDone h p) (q : NvPort) : (s.feedPort h q).resetDone h p := by
  unfold State.feedPort
  split
  · next c hc =>
    have hq : p ≠ q := by
      rintro rfl
      exact absurd (hc.symm.trans k.1) (by simp)
    split
    · generalize List.range c.rows.length = l
      clear hc
      induction l generalizing s with
      | nil => exact k
      | cons i l ih => exact ih (resetDone_feedRow k hq i)
    · exact k
  · exact k

theorem resetDone_feed (k : s.resetDone h p) : (s.feed h).resetDone h p := by
  rw [State.feed_eq]
  split
  · exact k
  · exact resetDone_feedPort (resetDone_feedPort k .host) .loader

theorem resetDone_keeps (k : s.resetDone h p) (l : KeepsPorts h s t) : t.resetDone h p :=
  resetDone_congr k (l.cmd p) (l.rd _ (shownReg_status h p))

/-- CMD_RESETs that waited complete one after the other; the last of them shows. -/
theorem resetDone_foldl (result : Nat) (l : List Nat) (tag : Nat) (s : State) (hc : s.nvCmd h p = none) :
    ((l ++ [tag]).foldl (fun s t => s.nvComplete h p 0xF0 result t []) s).resetDone h p := by
  rw [List.foldl_append]
  refine resetDone_nvComplete _ _ _ ?_
  induction l generalizing s with
  | nil => exact hc
  | cons i l ih => exact ih _ ((nvCmd_nvComplete ..).trans hc)

theorem resetDone_nvCut (l : List Nat) (tag result : Nat) (hc : s.nvCmd h p = some c) (ha : c.abort = l ++ [tag]) :
    (s.nvCut h p result).resetDone h p := by
  simp only [State.nvCut, hc, ha]
  refine resetDone_keeps (resetDone_feed (resetDone_tellLoader (resetDone_foldl _ _ _ _ ?_) p c result)) (.runRefresh ..)
  rw [nvCmd_nvComplete, State.nvCmd, State.modPort_nv, NvHalf.port_setPort]

theorem resetDone_resetCmd (tag : Nat) (hc : s.nvCmd h p = some c) (ho : (s.half h).nv.ownPulse p = false) :
    (s.resetCmd h p tag).resetDone h p := by
  simp only [State.resetCmd, hc, ho, Bool.false_eq_true, if_false]
  split
  · refine resetDone_tellLoader (resetDone_nvComplete _ _ _ ?_) ..
    rw [nvCmd_nvComplete, State.nvCmd, State.modPort_nv, NvHalf.port_setPort]
  · refine resetDone_nvCut (c := { c with abort := c.abort ++ [tag] }) c.abort tag _ ?_ rfl
    rw [State.nvCmd_modCmd, (KeepsJobs.dropSteps ..).cmd, hc]
    rfl

theorem ldAsk_cmdReset (hs : (s.half h).nv.stopping = false) (hc : s.nvCmd h .loader = some c) (ha : c.abort = [])
    (hab : (s.half h).ldr.aborted = true) : s.ldAsk h 0xF0 = s.resetCmd h .loader 0 := by
  simp only [State.ldAsk, hs, hc, ha, hab, List.isEmpty_nil, and_self, if_true, Bool.false_eq_true, if_false]

/-! ## The statement -/

/-- Settles O22: the seven commands that begin on the host port, the loader's requests, its CMD_RESET, and the rows that its port does not have. -/
theorem commandsBegun : Obligations.CommandsBegun := by
  refine ⟨?program, ?erase, ?refresh, ?margin, ?protect, ?unlock, ?wrong, ?otp, ?ldProgram, ?ldMargin, ?ldErase, ?ldReset, ?ldNone⟩
  case program =>
    intro s h hl ha _ _
    obtain ⟨hlen, hmax⟩ := launchRecs_length ha
    refine ⟨_, exec_armed hl ha, ?_⟩
    set rs := s.launchRecs h 0x10
    obtain ⟨range, k⟩ := programRows_keeps (s.launched h) h .host (s.paramBlock h) rs
    have hjobs : ((s.launched h).rowJobs h rs).length = (s.paramBlock h).getD 3 0 := by rw [State.rowJobs, List.length_map, hlen]
    have hcmd := (k.cmd .host).trans (nvCmd_putCmd ..)
    obtain ⟨hstate, htotal⟩ := putCmd_shows (s.launched h) h ((s.launched h).programCmd h ((s.paramBlock h).getD 1 0) range rs)
      (n := ((s.launched h).rowJobs h rs).length) (by omega)
    refine ⟨?_, ?_, ?_, ?_, fun i _ hi => ?_⟩
    · rw [hcmd, ← hjobs]; rfl
    · rw [k.rf (.inr (.inr rfl)) rfl, htotal, hjobs]
    · rw [k.rf (.inl rfl) rfl, hstate]
    · rw [k.rows, rows_putCmd_launched]
    · have hlt : i < ((s.launched h).rowJobs h rs).length := by omega
      have e := programRows_disables (s.launched h) h .host (s.paramBlock h) rs _ (List.getElem_mem hlt)
      rw [hcmd]
      simpa [State.programCmd, List.getD_eq_getElem?_getD, hlt] using e
  case erase =>
    intro s h hl ha _ _
    refine ⟨_, exec_armed hl ha, ?_⟩
    rw [nvStart_erasePlane]
    have k := KeepsPorts.disable ((s.launched h).putCmd h .host (onePlaneCmd 0x20 (s.paramBlock h)) 1) h
      (plane_lt ((s.paramBlock h).getD 2 0))
    refine ⟨?_, ?_, ?_⟩
    · rw [State.nvCmd_modCmd, k.cmd, nvCmd_putCmd]
      rfl
    · rw [State.modCmd, State.planeEn_congr (State.rd_modPort _ h .host _ ?_), planeEn_setEn_false]
      · simp
      · simp only [nvStatusAddr, SEAM_PLANE_CFG, NV_CMD_STATUS]; omega
    · rw [State.modCmd_nv, NvHalf.setPort_rows, k.rows, rows_putCmd_launched]
  case refresh =>
    intro s h hl ha _ _
    refine ⟨_, exec_armed hl ha, ?_⟩
    rw [nvStart_refreshPlane]
    refine ⟨?_, cmdRefresh_askRefresh .., ?_⟩
    · rw [(KeepsPorts.askRefresh ..).cmd, nvCmd_putCmd]
      rfl
    · rw [(KeepsPorts.askRefresh ..).rows, rows_putCmd_launched]
  case margin =>
    intro s h hl ha _ _
    have hseam : (marginStep .host (s.paramBlock h)).plane / 16 % 2048 = bits ((s.paramBlock h).getD 2 0) 0 15 / 16 :=
      Nat.mod_eq_of_lt (by have := plane_lt ((s.paramBlock h).getD 2 0); simp only [marginStep]; omega)
    refine ⟨_, exec_armed hl ha, ?_⟩
    rw [nvStart_marginRead]
    refine ⟨?_, ?_, ?_⟩
    · rw [(KeepsPorts.askStep ..).cmd, nvCmd_putCmd]
      rfl
    · rw [State.askStep_nv, hseam, pendingOf_setPending]
      simp [marginStep]
    · exact hseam ▸ State.rf_askStep_pending _ h (marginStep .host (s.paramBlock h))
  case protect =>
    intro s h hl ha _ _
    refine ⟨_, exec_armed hl ha, ?_⟩
    rw [nvStart_protectSet]
    refine ⟨?_, ?_, ?_⟩
    · rw [State.askLedger_nv, ledgerQ_putCmd_launched]
    · rw [nvCmd_askLedger, nvCmd_putCmd, ← passHash_launched]
      rfl
    · refine (State.modNv_rf ..).trans ?_
      exact (protMode_putCmd ..).trans (protMode_launched ..)
  case unlock =>
    intro s h hl ha _ _ hpass
    refine ⟨_, exec_armed hl ha, ?_⟩
    obtain ⟨ps, n, e⟩ := nvStart_protectUnlock (s.launched h) h .host (s.launchRecs h 0x61) (rightPass_launched.2 hpass)
    rw [e]
    refine ⟨?_, ?_⟩
    · rw [nvCmd_askLedger, nvCmd_putCmd]
      rfl
    · rw [State.askLedger_nv, ledgerQ_putCmd_launched]
      exact List.length_append
  case wrong =>
    intro s h hl ha _ _ hpass
    refine ⟨_, exec_armed hl ha, ?_⟩
    rw [nvStart_protectUnlock_wrong _ h .host _ (mt rightPass_launched.1 hpass)]
    refine ⟨?_, ?_⟩
    · rw [nvCmd_putCmd]
      rfl
    · rw [ledgerQ_putCmd_launched]
  case otp =>
    intro s h hl ha _ _
    refine ⟨_, exec_armed hl ha, ?_⟩
    rw [nvStart_otpProgram]
    refine ⟨?_, ?_⟩
    · rw [nvCmd_putCmd]
      rfl
    · rw [putCmd_nv, launched_nv]
      rfl
  case ldProgram =>
    intro s h hl hs hc ha hp hr
    exact ⟨_, whenLive_of_live hl (fun s => s.ldAsk h 0x10), ldAsk_begins hs hc ha (.inl ⟨rfl, hp, hr⟩)⟩
  case ldMargin =>
    intro s h hl hs hc ha hp hr
    exact ⟨_, whenLive_of_live hl (fun s => s.ldAsk h 0x40), ldAsk_begins hs hc ha (.inr (.inl ⟨rfl, hp, hr⟩))⟩
  case ldErase =>
    intro s h hl hs hc ha hp hr
    exact ⟨_, whenLive_of_live hl (fun s => s.ldAsk h 0x20), ldAsk_begins hs hc ha (.inr (.inr ⟨rfl, hp, hr⟩))⟩
  case ldReset =>
    intro s h c hl hs hc ha hab ho
    refine ⟨_, whenLive_of_live hl (fun s => s.ldAsk h 0xF0), ?_⟩
    rw [ldAsk_cmdReset hs hc ha hab]
    exact resetDone_resetCmd 0 hc ho
  case ldNone =>
    intro s h hl
    have hnone : ∀ code, (code ≠ 0x10 ∧ code ≠ 0x20 ∧ code ≠ 0x40 ∧ code ≠ 0xF0) → whenLive s (fun s => s.ldAsk h code) = .next s :=
      fun code hcode => (whenLive_of_live hl _).trans (congrArg _ (ldAsk_hostOnly s h hcode))
    exact ⟨hnone 0x30 (by decide), hnone 0x50 (by decide), hnone 0x5F (by decide), hnone 0x60 (by decide), hnone 0x61 (by decide),
      hnone 0x70 (by decide), hnone 0x71 (by decide)⟩

end Sys2Proof.Machine
end

section
/-! PROOF. The registers of weight sets (Tables 6.1, 6.9): what wake requests, refreshes and changes of plane enable bits leave of them, and planes
that are disabled in every Seam of a footprint (R157, R163, R174). -/

namespace Sys2Proof.Machine

variable {s t u : State} {h : Half} {a n i q slot : Nat} {f g : Fld} {as : List Nat}

/-! ## Reading after a write -/

theorem rf_of_onlyRegs (k : onlyRegs as s t) (ha : a + f.off ∉ as) : t.rf a f = s.rf a f := by
  unfold State.rf; rw [k.2 _ ha]

/-- A field of another register keeps its value while a word is written. -/
theorem State.rf_wr_ne (s : State) {b : Nat} (v : Word) (hb : b + f.off ≠ a) : (s.wr a v).rf b f = s.rf b f := by
  unfold State.rf; rw [State.rd_wr_ne _ _ hb]

/-- Of a register written with 0 every field reads 0. -/
theorem State.rf_wr_zero (s : State) (a : Nat) (hf : f.off = 0) : (s.wr a 0).rf a f = 0 := by
  unfold State.rf
  rw [hf, Nat.add_zero, State.rd_wr_same]
  exact Nat.eq_of_testBit_eq fun i => by simp [getF_testBit]

/-! ## The registers of a set -/

/-- Addresses of the registers of a half's 512 weight sets. -/
def wsetReg (h : Half) (a : Nat) : Prop := h.base + 0x380000 ≤ a ∧ a < h.base + 0x388000

theorem wsetReg_ctrl (h : Half) (hn : n < 512) : wsetReg h (JCT_WSET_CTRL h n) := by
  simp only [wsetReg, JCT_WSET_CTRL]; omega
theorem wsetReg_foot (h : Half) (hn : n < 512) : wsetReg h (JCT_WSET_FOOT h n) := by
  simp only [wsetReg, JCT_WSET_FOOT]; omega
theorem wsetReg_slot (h : Half) (hi : i < 1024) : wsetReg h (JCT_WSET_SLOT h i) := by
  simp only [wsetReg, JCT_WSET_SLOT]; omega

/-- They lie beyond the power registers and below the log. -/
theorem wsetReg_bounds (ha : wsetReg h a) : 0x380000 ≤ a ∧ a % 0x02000000 < 0xF80000 := by
  cases h <;> simp only [wsetReg, Half.base] at ha <;> omega

theorem wsetReg_ne_seam (ha : wsetReg h a) (x : Nat) : a ≠ SEAM_PLANE_CFG h x ∧ a ≠ SEAM_STATUS h x := by
  simp only [wsetReg, SEAM_PLANE_CFG, SEAM_STATUS] at *; omega

/-! ## Wake requests and refreshes -/

theorem rd_wset_wake (s : State) {d : Nat} (hd : d < 144) (ha : wsetReg h a) : (s.wake d).1.rd a = s.rd a := by
  obtain ⟨hlo, hhi⟩ := wsetReg_bounds ha
  rcases wake_cases s d with e | e <;> rw [e]
  · rw [rd_of_onlyLogged (log_onlyLogged _ _ _ (by simp [logPower])) (by simp) hhi, State.rd_wf_ne]
    simp only [PWR_EVENT]; omega
  · refine (onlyRegsPower_foldl _ (wakeOrder_lt s hd)).2 a ?_
    simp only [domRegs, List.mem_map, List.mem_range, PWR_DOMAIN_STATUS, not_exists, not_and]
    intros; omega

theorem rd_wset_askStep (s : State) (x : NvStep) (ha : wsetReg h a) : (s.askStep h x).rd a = s.rd a := by
  have hneed : ∀ (t : State) {d : Nat}, d < 144 → (t.need d).rd a = t.rd a := fun t d hd => by
    unfold State.need
    split
    · rfl
    · exact rd_wset_wake t hd ha
  exact (hneed _ (galDom_lt h (seamGal_lt (x.plane / 16)))).trans
    ((State.rd_wf_ne _ _ _ (wsetReg_ne_seam ha _).2).trans (State.modNv_rd ..))

theorem rd_wset_schedule (k : Nat) (s : State) (ha : wsetReg h a) : (s.schedule h k).rd a = s.rd a := by
  induction k generalizing s with
  | zero => rfl
  | succ k ih =>
    unfold State.schedule
    split
    · rfl
    · rw [ih, rd_wset_askStep _ _ ha, State.modRefresh, State.modNv_rd]

theorem rd_wset_runRefresh (s : State) (ha : wsetReg h a) : (s.runRefresh h).rd a = s.rd a := by
  have hcatch : (s.checkCatchup h).rd a = s.rd a := by
    unfold State.checkCatchup
    split
    · rfl
    · refine State.rd_wf_ne _ _ _ ?_
      simp only [wsetReg, NV_REFRESH_CTRL] at *; omega
  refine (rd_wset_schedule _ _ ha).trans (Eq.trans ?_ hcatch)
  unfold State.stopBarred
  dsimp only
  split
  · rfl
  · rw [rd_dropSteps _ _ _ fun x _ => (wsetReg_ne_seam ha x).2, State.modNv_rd]

/-- The registers of a half's weight sets and its stored rows stay. -/
structure KeepsSets (h : Half) (s t : State) : Prop where
  rd : ∀ a, wsetReg h a → t.rd a = s.rd a
  rows : (t.half h).nv.rows = (s.half h).nv.rows

namespace KeepsSets

theorem refl (s : State) : KeepsSets h s s := ⟨fun _ _ => rfl, rfl⟩

theorem trans (k : KeepsSets h s t) (l : KeepsSets h t u) : KeepsSets h s u :=
  ⟨fun a ha => (l.rd a ha).trans (k.rd a ha), l.rows.trans k.rows⟩

theorem foldl {β : Type} {F : State → β → State} (hF : ∀ t b, KeepsSets h t (F t b)) (l : List β) (s : State) :
    KeepsSets h s (l.foldl F s) := by
  induction l generalizing s with
  | nil => exact refl s
  | cons b l ih => exact (hF s b).trans (ih _)

theorem rf (k : KeepsSets h s t) (ha : wsetReg h (a + f.off)) : t.rf a f = s.rf a f := by
  unfold State.rf; rw [k.rd _ ha]

theorem slotState (k : KeepsSets h s t) (hi : 2 * n + slot < 1024) : t.slotState h n slot = s.slotState h n slot :=
  k.rf (wsetReg_slot h hi)

theorem foot (k : KeepsSets h s t) (hn : n < 512) : t.foot h n = s.foot h n :=
  Prod.ext (k.rf (wsetReg_foot h hn)) (k.rf (wsetReg_foot h hn))

theorem runRefresh (s : State) (h : Half) : KeepsSets h s (s.runRefresh h) :=
  ⟨fun _ ha => rd_wset_runRefresh s ha, (KeepsTable.runRefresh s h).rows⟩

theorem setEn (s : State) (h : Half) (q : Nat) (v : Bool) : KeepsSets h s (s.setEn h q v) where
  rd a ha := by
    obtain ⟨hcfg, hstatus⟩ := wsetReg_ne_seam ha (q / 16)
    unfold State.setEn
    split
    · rfl
    · exact (State.cfgPending_rd _ _ _ hstatus).trans (State.rd_wf_ne _ _ _ hcfg)
  rows := by
    obtain ⟨l, e⟩ := setEn_nv s h q v
    rw [e]

theorem setPlaneEn (s : State) (h : Half) (ft : Nat × Nat) (p : Nat) (v : Bool) : KeepsSets h s (s.setPlaneEn h ft p v) :=
  foldl (fun _ _ => setEn ..) _ _

end KeepsSets

/-! ## Planes disabled in a footprint -/

/-- Planes are disabled in every Seam of a footprint. -/
def State.disablePlanes (s : State) (h : Half) (ft : Nat × Nat) (ps : List Nat) : State :=
  ps.foldl (fun s p => s.setPlaneEn h ft p false) s

theorem KeepsSets.disablePlanes (s : State) (h : Half) (ft : Nat × Nat) (ps : List Nat) : KeepsSets h s (s.disablePlanes h ft ps) :=
  .foldl (fun _ _ => .setPlaneEn ..) _ _

/-- A plane that is not enabled stays so while another is disabled. -/
theorem planeEn_setEn_of_off (hq : s.planeEn h q = false) (r : Nat) : (s.setEn h r false).planeEn h q = false := by
  rw [planeEn_setEn_false, hq, Bool.and_false]

theorem planeEn_setPlaneEn_of_off (hq : s.planeEn h q = false) (ft : Nat × Nat) (p : Nat) : (s.setPlaneEn h ft p false).planeEn h q = false := by
  unfold State.setPlaneEn
  induction footSeams ft generalizing s with
  | nil => exact hq
  | cons x l ih => exact ih (planeEn_setEn_of_off hq _)

theorem planeEn_setPlaneEn {ft : Nat × Nat} {x : Nat} (hx : x ∈ footSeams ft) (s : State) (p : Nat) :
    (s.setPlaneEn h ft p false).planeEn h (16 * x + p) = false := by
  refine foldl_brings (P := fun t => t.planeEn h (16 * x + p) = false) (fun t => ?_) (fun t y ht => planeEn_setEn_of_off ht _) hx s
  rw [planeEn_setEn_false, decide_eq_false (not_not_intro rfl), Bool.false_and]

theorem planeEn_disablePlanes {ft : Nat × Nat} {ps : List Nat} {x p : Nat} (hx : x ∈ footSeams ft) (hp : p ∈ ps) (s : State) :
    (s.disablePlanes h ft ps).planeEn h (16 * x + p) = false :=
  foldl_brings (P := fun t => t.planeEn h (16 * x + p) = false) (F := fun t r => t.setPlaneEn h ft r false)
    (fun t => planeEn_setPlaneEn hx t p) (fun _ r ht => planeEn_setPlaneEn_of_off ht ft r) hp s

/-- Disabling planes leaves the set's footprint, wherever it is looked up. -/
theorem foldl_setPlaneEn_foot (hn : n < 512) (ps : List Nat) (s : State) :
    ps.foldl (fun s p => s.setPlaneEn h (s.foot h n) p false) s = s.disablePlanes h (s.foot h n) ps := by
  induction ps generalizing s with
  | nil => rfl
  | cons p ps ih =>
    refine (ih _).trans ?_
    rw [(KeepsSets.setPlaneEn s h (s.foot h n) p false).foot hn]
    rfl

theorem dropPlanes_eq (s : State) (h : Half) (hn : n < 512) (slot : Nat) :
    s.dropPlanes h n slot = (s.disablePlanes h (s.foot h n) (s.ownPlanes h n slot)).runRefresh h :=
  congrArg (fun t => State.runRefresh t h) (foldl_setPlaneEn_foot hn _ s)

theorem footSeams_lt {ft : Nat × Nat} {x : Nat} (hft : ft.1 + ft.2 ≤ 512) (hx : x ∈ footSeams ft) : x < 2048 := by
  simp only [footSeams, List.mem_map, List.mem_range] at hx
  omega

theorem mapPlane_lt {l p : Nat} (hm : s.mapPlane h n slot l = some p) : p < 16 := by
  unfold State.mapPlane at hm
  dsimp only at hm
  split at hm
  · obtain rfl := Option.some.inj hm
    split <;> exact bits_lt _ _ 4
  · cases hm

theorem mem_slotMap {l p : Nat} : (l, p) ∈ s.slotMap h n slot ↔ l < 16 ∧ s.mapPlane h n slot l = some p := by
  simp only [State.slotMap, List.mem_filterMap, List.mem_range, Option.map_eq_some_iff, Prod.mk.injEq]
  constructor
  · rintro ⟨_, hl, _, hm, rfl, rfl⟩
    exact ⟨hl, hm⟩
  · rintro ⟨hl, hm⟩
    exact ⟨l, hl, p, hm, rfl, rfl⟩

theorem ownPlanes_lt {p : Nat} (hp : p ∈ s.ownPlanes h n slot) : p < 16 := by
  obtain ⟨⟨l, p⟩, hm, rfl⟩ := List.mem_map.1 (List.mem_of_mem_filter hp)
  exact mapPlane_lt (mem_slotMap.1 hm).2

/-- While the other slot is EMPTY, every plane that a slot maps is its own. -/
theorem mem_ownPlanes {l p : Nat} (hl : l < 16) (hm : s.mapPlane h n slot l = some p) (he : s.slotState h n (1 - slot) = 0) :
    p ∈ s.ownPlanes h n slot := by
  unfold State.ownPlanes
  rw [if_pos he]
  exact List.mem_filter.2 ⟨List.mem_map.2 ⟨_, mem_slotMap.2 ⟨hl, hm⟩, rfl⟩, by simp⟩

/-! ## Planes that a release disables (R174) -/

theorem foldl_regs {β : Type} {F G : State → β → State} {l : List β}
    (hFG : ∀ b ∈ l, ∀ s t : State, t.regs = s.regs → (F t b).regs = (G s b).regs)
    (e : t.regs = s.regs) : (l.foldl F t).regs = (l.foldl G s).regs := by
  induction l generalizing s t with
  | nil => exact e
  | cons b l ih =>
    exact ih (fun c hc => hFG c (List.mem_cons_of_mem _ hc)) (hFG b List.mem_cons_self s t e)

theorem State.wf_regs_congr (e : t.regs = s.regs) (a : Nat) (f : Fld) (v : Nat) : (t.wf a f v).regs = (s.wf a f v).regs := by
  simp only [State.wf, State.wr, State.rd, e]

/-- A release writes the registers as a disabling does; only its commit is another (R174). -/
theorem releaseEn_regs {p : Nat} (hp : p < 16) (ft : Nat × Nat) (e : t.regs = s.regs) :
    (t.releaseEn h ft p).regs = (s.setPlaneEn h ft p false).regs := by
  refine foldl_regs (fun x _ s t e => ?_) e
  have hrf := State.rf_congr e
  have hen : t.planeEn h (16 * x + p) = s.planeEn h (16 * x + p) := by unfold State.planeEn; rw [hrf]
  unfold State.setEn State.cfgPending
  rw [hen, show (16 * x + p) / 16 = x by omega, show (16 * x + p) % 16 = p by omega]
  cases s.planeEn h (16 * x + p)
  · exact e
  · rw [if_pos rfl, if_neg (by decide), hrf]
    exact (State.wf_regs_congr (State.wf_regs_congr e ..) ..).trans (State.modHalf_regs ..).symm

theorem foldl_releaseEn_regs {ps : List Nat} (hps : ∀ p ∈ ps, p < 16) (s : State) (h : Half) (ft : Nat × Nat) :
    (ps.foldl (fun s p => s.releaseEn h ft p) s).regs = (s.disablePlanes h ft ps).regs :=
  foldl_regs (fun p hp _ _ e => releaseEn_regs (hps p hp) ft e) rfl

theorem releaseEn_half (s : State) (h x : Half) (ft : Nat × Nat) (p : Nat) : (s.releaseEn h ft p).half x = s.half x := by
  refine half_foldl (fun t y => ?_) _ s
  split
  · rw [State.wf_half, State.wf_half]
  · rfl

end Sys2Proof.Machine
end

section
/-! PROOF. Set commands (R158, R161 to R163, R177): their answers and commits, and the statement on them. -/

namespace Sys2Proof.Machine

variable {s t u : State} {h : Half} {a c i n q slot v op code : Nat} {f : Fld} {as : List Nat}

@[simp] theorem State.wr_half (s : State) (a : Nat) (v : Word) (x : Half) : (s.wr a v).half x = s.half x := by cases x <;> rfl

/-! ## Commits (R176) -/

/-- Of two states a half's NV controller alone may differ, and not in its stored rows. -/
def onlyNv (h : Half) (s t : State) : Prop := ∃ g : NvHalf → NvHalf, t = s.modNv h g ∧ ∀ m, (g m).rows = m.rows

namespace onlyNv

theorem modNv (s : State) (h : Half) {g : NvHalf → NvHalf} (hg : ∀ m, (g m).rows = m.rows) : onlyNv h s (s.modNv h g) := ⟨g, rfl, hg⟩

theorem refl (s : State) (h : Half) : onlyNv h s s := ⟨id, by cases h <;> rfl, fun _ => rfl⟩

theorem trans (k : onlyNv h s t) (l : onlyNv h t u) : onlyNv h s u := by
  obtain ⟨g, rfl, hg⟩ := k
  obtain ⟨g', rfl, hg'⟩ := l
  exact ⟨g' ∘ g, by cases h <;> rfl, fun m => (hg' _).trans (hg m)⟩

theorem rd (k : onlyNv h s t) (a : Nat) : t.rd a = s.rd a := by
  obtain ⟨g, rfl, -⟩ := k
  exact State.modNv_rd ..

theorem rf (k : onlyNv h s t) (a : Nat) (f : Fld) : t.rf a f = s.rf a f := by
  obtain ⟨g, rfl, -⟩ := k
  exact State.modNv_rf ..

theorem rows (k : onlyNv h s t) : (t.half h).nv.rows = (s.half h).nv.rows := by
  obtain ⟨g, rfl, hg⟩ := k
  rw [State.modNv_nv, hg]

/-- Of the half nothing else differs. -/
theorem half (k : onlyNv h s t) : ∃ m, t.half h = { s.half h with nv := m } := by
  obtain ⟨g, rfl, -⟩ := k
  cases h <;> exact ⟨_, rfl⟩

theorem mem (k : onlyNv h s t) (x : Half) : (t.half x).mem = (s.half x).mem := by
  obtain ⟨g, rfl, -⟩ := k
  exact State.modNv_mem ..

theorem other (k : onlyNv h s t) : t.half h.other = s.half h.other := by
  obtain ⟨g, rfl, -⟩ := k
  exact State.half_modHalf_other ..

theorem setHalf (k : onlyNv h s t) (y : HalfState) : t.setHalf h y = s.setHalf h y := by
  obtain ⟨g, rfl, -⟩ := k
  exact State.modNv_setHalf ..

theorem keepsSets (k : onlyNv h s t) : KeepsSets h s t := ⟨fun _ _ => k.rd _, k.rows⟩

/-- Registers apart, a command changes the half's controller alone. -/
theorem onlyRegs (k : onlyNv h s t) (l : onlyRegs as u s) (e : s.half h = u.half h) : Machine.onlyRegs as u (t.setHalf h (u.half h)) := by
  rw [k.setHalf, ← e, State.setHalf_self]
  exact l

end onlyNv

/-- A commit that starts takes over the changes that wait (R176). -/
theorem onlyNv_commitSets (s : State) (h : Half) : onlyNv h s (s.commitSets h) := by
  unfold State.commitSets
  dsimp only
  split
  · exact .modNv s h fun _ => rfl
  · exact .refl s h

theorem onlyNv_markSet (s : State) (h : Half) (n : Nat) : onlyNv h s (s.markSet h n) := .modNv s h fun _ => rfl

theorem onlyNv_setChanged (s : State) (h : Half) (n : Nat) : onlyNv h s (s.setChanged h n) :=
  (onlyNv_markSet s h n).trans (onlyNv_commitSets ..)

/-! ## Answers (Table 6.9) -/

/-- An accepted command answers and has its commit due. -/
theorem onlyNv_setAccept (s : State) (h : Half) (n op slot : Nat) : onlyNv h (s.setAnswer h n op slot 0) (s.setAccept h n op slot) := by
  refine onlyNv.trans (.modNv _ h ?_) (onlyNv_setChanged _ h n)
  exact fun _ => rfl

theorem onlyRegs_setAnswer (s : State) (h : Half) (n op slot code : Nat) :
    onlyRegs [JCT_WSET_RESULT h n] s (s.setAnswer h n op slot code) := by
  have hmem : JCT_WSET_RESULT h n + 0 ∈ [JCT_WSET_RESULT h n] := List.mem_cons_self
  exact onlyRegs_wf (onlyRegs_wf (onlyRegs_wf (onlyRegs_wf (onlyRegs_refl _ s) _ _ _ hmem) _ _ _ hmem) _ _ _ hmem) _ _ _ hmem

@[simp] theorem State.setAnswer_half (s : State) (h x : Half) (n op slot code : Nat) :
    (s.setAnswer h n op slot code).half x = s.half x := by simp [State.setAnswer]

theorem setAnswer_op (s : State) (h : Half) (n slot code : Nat) (ho : op < 16) :
    (s.setAnswer h n op slot code).rf (JCT_WSET_RESULT h n) JCT_WSET_RESULT.OP = op := by
  unfold State.setAnswer
  dsimp only
  simp (disch := decide) only [State.rf_wf_field]
  exact State.rf_wf_same _ _ _ (by decide) ho

theorem setAnswer_code (s : State) (h : Half) (n op slot : Nat) (hc : code < 256) :
    (s.setAnswer h n op slot code).rf (JCT_WSET_RESULT h n) JCT_WSET_RESULT.CODE = code := by
  unfold State.setAnswer
  dsimp only
  simp (disch := decide) only [State.rf_wf_field]
  exact State.rf_wf_same _ _ _ (by decide) hc

theorem setAnswer_done (s : State) (h : Half) (n op slot code : Nat) :
    (s.setAnswer h n op slot code).rf (JCT_WSET_RESULT h n) JCT_WSET_RESULT.DONE = if code = 0 then 0 else 1 := by
  have hb : b2n (decide (code ≠ 0)) = if code = 0 then 0 else 1 := by
    by_cases hz : code = 0 <;> simp [b2n, hz]
  unfold State.setAnswer
  dsimp only
  rw [State.rf_wf_same _ _ _ (by decide) (by rw [hb]; split <;> decide), hb]

/-- A refused command shows its code with DONE, and changes nothing else. -/
theorem setAnswer_refuses (s : State) (h : Half) (n op slot : Nat) (hz : code ≠ 0) (hc : code < 256) :
    (s.setAnswer h n op slot code).rf (JCT_WSET_RESULT h n) JCT_WSET_RESULT.CODE = code ∧
    (s.setAnswer h n op slot code).rf (JCT_WSET_RESULT h n) JCT_WSET_RESULT.DONE = 1 ∧
    onlyRegs [JCT_WSET_RESULT h n] s (s.setAnswer h n op slot code) :=
  ⟨setAnswer_code s h n op slot hc, (setAnswer_done ..).trans (if_neg hz), onlyRegs_setAnswer ..⟩

/-- What the registers show once a command has been accepted: its answer with CODE 0, DONE still to come, and elsewhere the change. -/
theorem rf_setAccept (s : State) (h : Half) (n op slot : Nat) (ha : a + f.off ≠ JCT_WSET_RESULT h n) :
    (s.setAccept h n op slot).rf a f = s.rf a f :=
  ((onlyNv_setAccept ..).rf ..).trans (rf_of_onlyRegs (onlyRegs_setAnswer ..) (by simpa using ha))

theorem setAccept_code (s : State) (h : Half) (n op slot : Nat) :
    (s.setAccept h n op slot).rf (JCT_WSET_RESULT h n) JCT_WSET_RESULT.CODE = 0 :=
  ((onlyNv_setAccept ..).rf ..).trans (setAnswer_code _ _ _ _ _ (by decide))

theorem setAccept_done (s : State) (h : Half) (n op slot : Nat) :
    (s.setAccept h n op slot).rf (JCT_WSET_RESULT h n) JCT_WSET_RESULT.DONE = 0 :=
  ((onlyNv_setAccept ..).rf ..).trans (setAnswer_done ..)

theorem setAccept_op (s : State) (h : Half) (n slot : Nat) (ho : op < 16) :
    (s.setAccept h n op slot).rf (JCT_WSET_RESULT h n) JCT_WSET_RESULT.OP = op :=
  ((onlyNv_setAccept ..).rf ..).trans (setAnswer_op _ _ _ _ _ ho)

theorem setAccept_mem (s : State) (h x : Half) (n op slot : Nat) : ((s.setAccept h n op slot).half x).mem = (s.half x).mem := by
  rw [(onlyNv_setAccept ..).mem, State.setAnswer_half]

theorem setAccept_rows (s : State) (h : Half) (n op slot : Nat) : ((s.setAccept h n op slot).half h).nv.rows = (s.half h).nv.rows := by
  rw [(onlyNv_setAccept ..).rows, State.setAnswer_half]

theorem onlyRegs_setAccept (k : onlyRegs as s t) (e : t.half h = s.half h) (hr : JCT_WSET_RESULT h n ∈ as) (op slot : Nat) :
    onlyRegs as s ((t.setAccept h n op slot).setHalf h (s.half h)) := by
  refine (onlyNv_setAccept t h n op slot).onlyRegs (onlyRegs_trans k (onlyRegs_mono ?_ (onlyRegs_setAnswer ..))) ((State.setAnswer_half ..).trans e)
  intro b hb
  obtain rfl := List.mem_singleton.1 hb
  exact hr

/-! ## Addresses of one set's registers -/

theorem wsetSlot_ne_result (h : Half) (n i : Nat) : JCT_WSET_SLOT h i ≠ JCT_WSET_RESULT h n := by
  simp only [JCT_WSET_SLOT, JCT_WSET_RESULT]; omega
theorem wsetCtrl_ne_result (h : Half) (n m : Nat) : JCT_WSET_CTRL h m ≠ JCT_WSET_RESULT h n := by
  simp only [JCT_WSET_CTRL, JCT_WSET_RESULT]; omega
theorem wsetCtrl_ne_slot (h : Half) (n i : Nat) : JCT_WSET_CTRL h n ≠ JCT_WSET_SLOT h i := by
  simp only [JCT_WSET_CTRL, JCT_WSET_SLOT]; omega
theorem wsetSlot_ne_slot (h : Half) {i j : Nat} (hij : i ≠ j) : JCT_WSET_SLOT h i ≠ JCT_WSET_SLOT h j := by
  simp only [JCT_WSET_SLOT]; omega
theorem wsetReg_ne_ctxT0 (ha : wsetReg h a) (c : Nat) : a ≠ MEM_CTX_T0 h c := by
  simp only [wsetReg, MEM_CTX_T0] at *; omega

/-! ## CREATE (R158) -/

theorem exec_create (hl : s.live = true) (hn : n < 512) (hc : c < 256) : exec (.create h n c) s = .next (s.wsetCreate h n c) :=
  (whenLive_of_live hl (fun s => if n < 512 ∧ c < 256 then s.wsetCreate h n c else s)).trans (by rw [if_pos ⟨hn, hc⟩])

theorem createCheck_lt (s : State) (h : Half) (n c : Nat) : s.createCheck h n c < 256 := by
  unfold State.createCheck
  dsimp only
  repeat' split
  all_goals decide

theorem wsetCreate_refused (hc : s.createCheck h n c ≠ 0) : s.wsetCreate h n c = s.setAnswer h n 1 0 (s.createCheck h n c) := if_pos hc

/-- A set that has been created: of the context, without a CURRENT slot, both slots EMPTY with VERSION 0. -/
def State.created (s : State) (h : Half) (n c : Nat) : State :=
  (((((s.wf (JCT_WSET_CTRL h n) JCT_WSET_CTRL.CONTEXT c).wf (JCT_WSET_CTRL h n) JCT_WSET_CTRL.VALID 1).wf (JCT_WSET_CTRL h n)
    JCT_WSET_CTRL.CUR_SLOT 0).wf (JCT_WSET_CTRL h n) JCT_WSET_CTRL.HAS_CURRENT 0).wr (JCT_WSET_SLOT h (2 * n)) 0).wr
    (JCT_WSET_SLOT h (2 * n + 1)) 0

/-- The context is charged for its sets (R158). -/
def State.charged (s : State) (h : Half) (c : Nat) : State := s.wf (MEM_CTX_T0 h c) MEM_CTX_T0.USED (s.t0Charge h c [])

theorem wsetCreate_accepted (hc : s.createCheck h n c = 0) :
    s.wsetCreate h n c = ((s.created h n c).charged h c).setAccept h n 1 0 := if_neg (not_not_intro hc)

theorem rf_charged (s : State) (c : Nat) (ha : wsetReg h (a + f.off)) : (s.charged h c).rf a f = s.rf a f :=
  State.rf_wf_ne _ _ _ _ (wsetReg_ne_ctxT0 ha c)

theorem created_valid (s : State) (h : Half) (n c : Nat) : (s.created h n c).rf (JCT_WSET_CTRL h n) JCT_WSET_CTRL.VALID = 1 := by
  have hne := wsetCtrl_ne_slot h n
  unfold State.created
  rw [State.rf_wr_ne _ _ (hne _), State.rf_wr_ne _ _ (hne _)]
  simp (disch := decide) only [State.rf_wf_field, State.rf_wf_same]

theorem created_context (s : State) (h : Half) (n : Nat) (hc : c < 256) :
    (s.created h n c).rf (JCT_WSET_CTRL h n) JCT_WSET_CTRL.CONTEXT = c := by
  have hne := wsetCtrl_ne_slot h n
  unfold State.created
  rw [State.rf_wr_ne _ _ (hne _), State.rf_wr_ne _ _ (hne _)]
  simp (disch := decide) only [State.rf_wf_field]
  exact State.rf_wf_same _ _ _ (by decide) hc

theorem created_slots (s : State) (h : Half) (n c : Nat) {f : Fld} (hf : f.off = 0) :
    (s.created h n c).rf (JCT_WSET_SLOT h (2 * n)) f = 0 ∧ (s.created h n c).rf (JCT_WSET_SLOT h (2 * n + 1)) f = 0 := by
  refine ⟨?_, State.rf_wr_zero _ _ hf⟩
  refine (State.rf_wr_ne _ _ ?_).trans (State.rf_wr_zero _ _ hf)
  rw [hf]
  exact wsetSlot_ne_slot h (by omega)

theorem onlyRegs_created (s : State) (h : Half) (n c : Nat) : onlyRegs [JCT_WSET_CTRL h n, JCT_WSET_SLOT h (2 * n), JCT_WSET_SLOT h (2 * n + 1),
    MEM_CTX_T0 h c, JCT_WSET_RESULT h n] s ((s.created h n c).charged h c) := by
  unfold State.charged State.created
  refine onlyRegs_wf (onlyRegs_wr (onlyRegs_wr (onlyRegs_wf (onlyRegs_wf (onlyRegs_wf (onlyRegs_wf (onlyRegs_refl _ s) _ _ _ ?_) _ _ _ ?_)
    _ _ _ ?_) _ _ _ ?_) _ _ ?_) _ _ ?_) _ _ _ ?_ <;> simp

theorem charged_half (s : State) (h x : Half) (n c : Nat) : ((s.created h n c).charged h c).half x = s.half x := by
  simp only [State.charged, State.created, State.wf_half, State.wr_half]

theorem wsetCreate_creates (hn : n < 512) (hc : c < 256) (hk : s.createCheck h n c = 0) :
    (s.wsetCreate h n c).setValid h n = true ∧ (s.wsetCreate h n c).setCtxNo h n = c ∧
    (∀ f : Fld, f.off = 0 → ∀ j < 2, (s.wsetCreate h n c).rf (JCT_WSET_SLOT h (2 * n + j)) f = 0) := by
  rw [wsetCreate_accepted hk]
  have hctrl : ∀ f : Fld, f.off = 0 → (((s.created h n c).charged h c).setAccept h n 1 0).rf (JCT_WSET_CTRL h n) f =
      (s.created h n c).rf (JCT_WSET_CTRL h n) f := fun f hf =>
    (rf_setAccept _ _ _ _ _ (by rw [hf]; exact wsetCtrl_ne_result h n n)).trans (rf_charged _ _ (by rw [hf]; exact wsetReg_ctrl h hn))
  refine ⟨?_, (hctrl _ rfl).trans (created_context s h n hc), fun f hf j hj => ?_⟩
  · unfold State.setValid State.on
    rw [hctrl _ rfl, created_valid]
    rfl
  · refine (rf_setAccept _ _ _ _ _ (by rw [hf]; exact wsetSlot_ne_result h n _)).trans
      ((rf_charged _ _ (by rw [hf]; exact wsetReg_slot h (by omega))).trans ?_)
    obtain ⟨h0, h1⟩ := created_slots s h n c hf
    interval_cases j
    · exact h0
    · exact h1

/-! ## OPEN (R162) -/

theorem exec_openSlot (hl : s.live = true) (hn : n < 512) (hs : slot < 2) (hv : v < 65536) :
    exec (.openSlot h n slot v) s = .next (s.wsetOpen h n slot v) :=
  (whenLive_of_live hl (fun s => if n < 512 ∧ slot < 2 ∧ v < 65536 then s.wsetOpen h n slot v else s)).trans (by rw [if_pos ⟨hn, hs, hv⟩])

/-- A slot that has been opened: LOADING with its version and an empty map. -/
def State.opened (s : State) (h : Half) (i v : Nat) : State :=
  ((((s.wf (JCT_WSET_SLOT h i) JCT_WSET_SLOT.STATE 1).wf (JCT_WSET_SLOT h i) JCT_WSET_SLOT.VERSION v).wr (JCT_WSET_MAP_LO h i) 0).wr
    (JCT_WSET_MAP_HI h i) 0).wf (JCT_WSET_LIVE h i) JCT_WSET_LIVE.LVALID 0

theorem wsetOpen_accepted (hv : s.setValid h n = true) (he : s.slotState h n slot = 0) (h0 : s.slotVersion h n 0 < v)
    (h1 : s.slotVersion h n 1 < v) : s.wsetOpen h n slot v = (s.opened h (2 * n + slot) v).setAccept h n 2 slot := by
  unfold State.wsetOpen
  rw [if_neg (by simp [hv, he]), if_neg (by omega)]
  rfl

theorem wsetOpen_old (hv : s.setValid h n = true) (he : s.slotState h n slot = 0) (ho : v ≤ s.slotVersion h n 0 ∨ v ≤ s.slotVersion h n 1) :
    s.wsetOpen h n slot v = s.setAnswer h n 2 slot 4 := by
  unfold State.wsetOpen
  rw [if_neg (by simp [hv, he]), if_pos (.inr ho)]

theorem rf_opened_slot (s : State) (h : Half) (i j v : Nat) (hf : f.off = 0) : (s.opened h i v).rf (JCT_WSET_SLOT h j) f =
    ((s.wf (JCT_WSET_SLOT h i) JCT_WSET_SLOT.STATE 1).wf (JCT_WSET_SLOT h i) JCT_WSET_SLOT.VERSION v).rf (JCT_WSET_SLOT h j) f := by
  unfold State.opened
  rw [State.rf_wf_ne, State.rf_wr_ne, State.rf_wr_ne] <;>
    simp only [hf, JCT_WSET_SLOT, JCT_WSET_LIVE, JCT_WSET_MAP_LO, JCT_WSET_MAP_HI] <;> omega

theorem opened_state (s : State) (h : Half) (i v : Nat) : (s.opened h i v).rf (JCT_WSET_SLOT h i) JCT_WSET_SLOT.STATE = 1 := by
  rw [rf_opened_slot _ _ _ _ _ rfl]
  simp (disch := decide) only [State.rf_wf_field, State.rf_wf_same]

theorem opened_version (s : State) (h : Half) (i : Nat) (hv : v < 65536) :
    (s.opened h i v).rf (JCT_WSET_SLOT h i) JCT_WSET_SLOT.VERSION = v := by
  rw [rf_opened_slot _ _ _ _ _ rfl, State.rf_wf_same _ _ _ (by decide) hv]

theorem opened_other (s : State) (h : Half) {i j : Nat} (hij : j ≠ i) (v : Nat) :
    (s.opened h i v).rf (JCT_WSET_SLOT h j) JCT_WSET_SLOT.STATE = s.rf (JCT_WSET_SLOT h j) JCT_WSET_SLOT.STATE := by
  have hne := wsetSlot_ne_slot h hij
  rw [rf_opened_slot _ _ _ _ _ rfl, State.rf_wf_ne _ _ _ _ hne, State.rf_wf_ne _ _ _ _ hne]

/-- A slot without a valid entry has an empty map. -/
theorem slotMap_nil (hm : s.rf (JCT_WSET_LIVE h (2 * n + slot)) JCT_WSET_LIVE.LVALID = 0) : s.slotMap h n slot = [] := by
  have hnone : ∀ l, s.mapPlane h n slot l = none := fun l => by
    unfold State.mapPlane
    dsimp only
    rw [hm, bit_eq_testBit, Nat.zero_testBit]
    rfl
  simp [State.slotMap, hnone]

theorem opened_map (s : State) (h : Half) (n slot v : Nat) : (s.opened h (2 * n + slot) v).slotMap h n slot = [] :=
  slotMap_nil (State.rf_wf_same _ _ _ (by decide) (by decide))

/-- Accepting a command leaves the map of every slot. -/
theorem slotMap_setAccept (s : State) (h : Half) (n op slot m j : Nat) : (s.setAccept h n op slot).slotMap h m j = s.slotMap h m j := by
  have hrf : ∀ b, (b = JCT_WSET_LIVE h (2 * m + j) ∨ b = JCT_WSET_MAP_LO h (2 * m + j) ∨ b = JCT_WSET_MAP_HI h (2 * m + j)) → ∀ f : Fld,
      f.off = 0 → (s.setAccept h n op slot).rf b f = s.rf b f := fun b hb f hf => by
    refine rf_setAccept _ _ _ _ _ ?_
    rcases hb with rfl | rfl | rfl <;> simp only [hf, JCT_WSET_LIVE, JCT_WSET_MAP_LO, JCT_WSET_MAP_HI, JCT_WSET_RESULT] <;> omega
  unfold State.slotMap State.mapPlane
  dsimp only
  rw [hrf _ (.inl rfl) _ rfl, hrf _ (.inr (.inl rfl)) _ rfl, hrf _ (.inr (.inr rfl)) _ rfl]

theorem wsetOpen_opens (hs : slot < 2) (hv : v < 65536) (hval : s.setValid h n = true) (he : s.slotState h n slot = 0)
    (h0 : s.slotVersion h n 0 < v) (h1 : s.slotVersion h n 1 < v) :
    (s.wsetOpen h n slot v).slotState h n slot = 1 ∧ (s.wsetOpen h n slot v).slotVersion h n slot = v ∧
    (s.wsetOpen h n slot v).slotMap h n slot = [] ∧
    (s.wsetOpen h n slot v).rf (JCT_WSET_RESULT h n) JCT_WSET_RESULT.CODE = 0 ∧
    (s.wsetOpen h n slot v).rf (JCT_WSET_RESULT h n) JCT_WSET_RESULT.DONE = 0 ∧
    (s.wsetOpen h n slot v).slotState h n (1 - slot) = s.slotState h n (1 - slot) := by
  rw [wsetOpen_accepted hval he h0 h1]
  have hslot : ∀ j, ∀ f : Fld, f.off = 0 → ((s.opened h (2 * n + slot) v).setAccept h n 2 slot).rf (JCT_WSET_SLOT h j) f =
      (s.opened h (2 * n + slot) v).rf (JCT_WSET_SLOT h j) f := fun j f hf =>
    rf_setAccept _ _ _ _ _ (by rw [hf]; exact wsetSlot_ne_result h n j)
  exact ⟨(hslot _ _ rfl).trans (opened_state ..), (hslot _ _ rfl).trans (opened_version s h _ hv),
    (slotMap_setAccept ..).trans (opened_map ..), setAccept_code .., setAccept_done ..,
    (hslot _ _ rfl).trans (opened_other s h (by omega) v)⟩

/-! ## ARM (R163) -/

theorem exec_arm (hl : s.live = true) (hn : n < 512) (hs : slot < 2) : exec (.arm h n slot) s = .next (s.wsetArm h n slot) :=
  (whenLive_of_live hl (fun s => if n < 512 ∧ slot < 2 then s.wsetArm h n slot else s)).trans (by rw [if_pos ⟨hn, hs⟩])

theorem armCheck_lt (s : State) (h : Half) (n slot : Nat) : s.armCheck h n slot < 256 := by
  unfold State.armCheck
  dsimp only
  repeat' split
  all_goals decide

/-- A slot's STATE is written. -/
def State.putSlot (s : State) (h : Half) (i v : Nat) : State := s.wf (JCT_WSET_SLOT h i) JCT_WSET_SLOT.STATE v

theorem putSlot_same (s : State) (h : Half) (i : Nat) (hv : v < 8) : (s.putSlot h i v).rf (JCT_WSET_SLOT h i) JCT_WSET_SLOT.STATE = v :=
  State.rf_wf_same _ _ _ (by decide) hv

theorem putSlot_other (s : State) (h : Half) {i j : Nat} (hij : j ≠ i) (v : Nat) :
    (s.putSlot h i v).rf (JCT_WSET_SLOT h j) JCT_WSET_SLOT.STATE = s.rf (JCT_WSET_SLOT h j) JCT_WSET_SLOT.STATE :=
  State.rf_wf_ne _ _ _ _ (wsetSlot_ne_slot h hij)

theorem wsetArm_refused (hc : s.armCheck h n slot ≠ 0) : s.wsetArm h n slot = s.setAnswer h n 3 slot (s.armCheck h n slot) := if_pos hc

theorem wsetArm_accepted (hc : s.armCheck h n slot = 0) : s.wsetArm h n slot = (s.putSlot h (2 * n + slot) 2).setAccept h n 3 slot :=
  if_neg (not_not_intro hc)

theorem wsetArm_arms (hc : s.armCheck h n slot = 0) : (s.wsetArm h n slot).slotState h n slot = 2 ∧
    onlyRegs [JCT_WSET_SLOT h (2 * n + slot), JCT_WSET_RESULT h n] s ((s.wsetArm h n slot).setHalf h (s.half h)) := by
  have hput : onlyRegs [JCT_WSET_SLOT h (2 * n + slot), JCT_WSET_RESULT h n] s (s.putSlot h (2 * n + slot) 2) :=
    onlyRegs_wf (onlyRegs_refl _ s) _ _ _ (by simp)
  rw [wsetArm_accepted hc]
  exact ⟨(rf_setAccept _ _ _ _ _ (wsetSlot_ne_result h _ _)).trans (putSlot_same _ _ _ (by decide)),
    onlyRegs_setAccept hput (State.wf_half ..) (by simp) _ _⟩

/-! ## DISCARD (Table 6.2) -/

theorem exec_discard (hl : s.live = true) (hn : n < 512) (hs : slot < 2) : exec (.discard h n slot) s = .next (s.wsetDiscard h n slot) :=
  (whenLive_of_live hl (fun s => if n < 512 ∧ slot < 2 then s.wsetDiscard h n slot else s)).trans (by rw [if_pos ⟨hn, hs⟩])

theorem wsetDiscard_accepted (hv : s.setValid h n = true) (hst : s.slotState h n slot = 1 ∨ s.slotState h n slot = 2)
    (hr : s.loadRuns h n slot = false) (hi : s.inFlight h n slot = 0) :
    s.wsetDiscard h n slot = ((s.dropPlanes h n slot).putSlot h (2 * n + slot) 0).setAccept h n 4 slot := by
  unfold State.wsetDiscard
  dsimp only
  rw [if_neg (by rcases hst with e | e <;> simp [hv, hr, e]), if_neg (not_not_intro hi)]
  rfl

theorem KeepsSets.dropPlanes (s : State) (h : Half) (hn : n < 512) (slot : Nat) : KeepsSets h s (s.dropPlanes h n slot) := by
  rw [dropPlanes_eq _ _ hn]
  exact (KeepsSets.disablePlanes ..).trans (.runRefresh ..)

/-- The planes that only the slot maps are disabled. -/
theorem planeEn_dropPlanes (hn : n < 512) (hf : (s.foot h n).1 + (s.foot h n).2 ≤ 512) {x p : Nat} (hx : x ∈ footSeams (s.foot h n))
    (hp : p ∈ s.ownPlanes h n slot) : (s.dropPlanes h n slot).planeEn h (16 * x + p) = false := by
  have hx' := footSeams_lt hf hx
  have hp' := ownPlanes_lt hp
  rw [dropPlanes_eq _ _ hn, (KeepsTable.runRefresh ..).planeEn (by omega), planeEn_disablePlanes hx hp]

/-- Accepting a command leaves the plane enable bits. -/
theorem planeEn_setAccept (s : State) (h : Half) (n op slot q : Nat) :
    (s.setAccept h n op slot).planeEn h q = s.planeEn h q := by
  refine State.planeEn_congr (((onlyNv_setAccept ..).rd _).trans ((onlyRegs_setAnswer ..).2 _ ?_))
  simp only [List.mem_singleton, SEAM_PLANE_CFG, JCT_WSET_RESULT]; omega

theorem planeEn_putSlot (s : State) (h : Half) (i v q : Nat) (hi : i < 1024) : (s.putSlot h i v).planeEn h q = s.planeEn h q :=
  State.planeEn_congr (State.rd_wf_ne _ _ _ (wsetReg_ne_seam (wsetReg_slot h hi) _).1.symm)

theorem wsetDiscard_discards (hn : n < 512) (hs : slot < 2) (hf : (s.foot h n).1 + (s.foot h n).2 ≤ 512) (hv : s.setValid h n = true)
    (hst : s.slotState h n slot = 1 ∨ s.slotState h n slot = 2) (hr : s.loadRuns h n slot = false) (hi : s.inFlight h n slot = 0) :
    (s.wsetDiscard h n slot).slotState h n slot = 0 ∧
    (s.wsetDiscard h n slot).rf (JCT_WSET_RESULT h n) JCT_WSET_RESULT.CODE = 0 ∧
    (s.wsetDiscard h n slot).slotState h n (1 - slot) = s.slotState h n (1 - slot) ∧
    (∀ x ∈ footSeams (s.foot h n), ∀ p ∈ s.ownPlanes h n slot, (s.wsetDiscard h n slot).planeEn h (16 * x + p) = false) ∧
    ((s.wsetDiscard h n slot).half h).nv.rows = (s.half h).nv.rows := by
  have k := KeepsSets.dropPlanes s h hn slot
  have hslot : ∀ j, ∀ t : State, (t.setAccept h n 4 slot).slotState h n j = t.slotState h n j := fun j t =>
    rf_setAccept _ _ _ _ _ (wsetSlot_ne_result h n _)
  rw [wsetDiscard_accepted hv hst hr hi]
  refine ⟨(hslot ..).trans (putSlot_same _ _ _ (by decide)), setAccept_code .., ?_, fun x hx p hp => ?_, ?_⟩
  · exact (hslot ..).trans ((putSlot_other _ _ (by omega) _).trans (k.slotState (by omega)))
  · rw [planeEn_setAccept, planeEn_putSlot _ _ _ _ _ (by omega), planeEn_dropPlanes hn hf hx hp]
  · rw [setAccept_rows, State.putSlot, State.wf_half, k.rows]

/-! ## DELETE (R177) -/

theorem exec_delete (hl : s.live = true) (hn : n < 512) : exec (.delete h n) s = .next (s.wsetDelete h n) :=
  (whenLive_of_live hl (fun s => if n < 512 then s.wsetDelete h n else s)).trans (by rw [if_pos hn])

theorem wsetDelete_bad (h4 : s.slotState h n 0 = 4) : s.wsetDelete h n = s.setAnswer h n 5 0 1 := by
  unfold State.wsetDelete
  dsimp only
  rw [if_pos (.inr (.inl (by simp [h4])))]

/-- The planes that a set's slots map while they are not EMPTY. -/
def State.setPlanes (s : State) (h : Half) (n : Nat) : List Nat :=
  [0, 1].flatMap (fun t => if s.slotState h n t = 0 then [] else (s.slotMap h n t).map Prod.snd)

/-- A set that has been deleted: both slots EMPTY, and neither VALID nor HAS_CURRENT. -/
def State.deleted (s : State) (h : Half) (n : Nat) : State :=
  (((s.putSlot h (2 * n) 0).putSlot h (2 * n + 1) 0).wf (JCT_WSET_CTRL h n) JCT_WSET_CTRL.VALID 0).wf (JCT_WSET_CTRL h n)
    JCT_WSET_CTRL.HAS_CURRENT 0

theorem wsetDelete_accepted (hn : n < 512) (hv : s.setValid h n = true)
    (hst : ∀ t < 2, s.slotState h n t ≠ 1 ∧ s.slotState h n t ≠ 4 ∧ s.inFlight h n t = 0) : s.wsetDelete h n =
    (((((s.disablePlanes h (s.foot h n) (s.setPlanes h n)).runRefresh h).deleted h n).charged h (s.setCtxNo h n)).setAccept h n 5 0) := by
  obtain ⟨h01, h04, hi0⟩ := hst 0 (by decide)
  obtain ⟨h11, h14, hi1⟩ := hst 1 (by decide)
  unfold State.wsetDelete
  dsimp only
  rw [if_neg (by simp [hv, h01, h04, h11, h14]), if_neg (by simp [hi0, hi1]), foldl_setPlaneEn_foot hn]
  rfl

theorem deleted_ctrl (s : State) (h : Half) (n : Nat) : (s.deleted h n).rf (JCT_WSET_CTRL h n) JCT_WSET_CTRL.VALID = 0 ∧
    (s.deleted h n).rf (JCT_WSET_CTRL h n) JCT_WSET_CTRL.HAS_CURRENT = 0 := by
  unfold State.deleted
  constructor <;> simp (disch := decide) only [State.rf_wf_field, State.rf_wf_same]

theorem deleted_slots (s : State) (h : Half) (n : Nat) : (s.deleted h n).slotState h n 0 = 0 ∧ (s.deleted h n).slotState h n 1 = 0 := by
  have hctrl : ∀ j f v, ∀ t : State, f.off = 0 → (t.wf (JCT_WSET_CTRL h n) f v).rf (JCT_WSET_SLOT h j) JCT_WSET_SLOT.STATE =
      t.rf (JCT_WSET_SLOT h j) JCT_WSET_SLOT.STATE := fun j f v t hf =>
    State.rf_wf_ne _ _ _ _ (by rw [hf]; exact (wsetCtrl_ne_slot h n j).symm)
  unfold State.deleted State.slotState
  rw [hctrl _ _ _ _ rfl, hctrl _ _ _ _ rfl, hctrl _ _ _ _ rfl, hctrl _ _ _ _ rfl]
  exact ⟨(putSlot_other _ _ (by omega) _).trans (putSlot_same _ _ _ (by decide)), putSlot_same _ _ _ (by decide)⟩

theorem wsetDelete_deletes (hn : n < 512) (hv : s.setValid h n = true)
    (hst : ∀ t < 2, s.slotState h n t ≠ 1 ∧ s.slotState h n t ≠ 4 ∧ s.inFlight h n t = 0) :
    (s.wsetDelete h n).setValid h n = false ∧ (s.wsetDelete h n).on (JCT_WSET_CTRL h n) JCT_WSET_CTRL.HAS_CURRENT = false ∧
    (s.wsetDelete h n).rf (JCT_WSET_RESULT h n) JCT_WSET_RESULT.CODE = 0 ∧ (s.wsetDelete h n).slotState h n 0 = 0 ∧
    (s.wsetDelete h n).slotState h n 1 = 0 ∧ ((s.wsetDelete h n).half h).nv.rows = (s.half h).nv.rows := by
  rw [wsetDelete_accepted hn hv hst]
  set r := (s.disablePlanes h (s.foot h n) (s.setPlanes h n)).runRefresh h with hr
  have k : KeepsSets h s r := (KeepsSets.disablePlanes ..).trans (.runRefresh ..)
  obtain ⟨hvalid, hcurrent⟩ := deleted_ctrl r h n
  obtain ⟨hslot0, hslot1⟩ := deleted_slots r h n
  have hctrl : ∀ f : Fld, f.off = 0 → (((r.deleted h n).charged h (s.setCtxNo h n)).setAccept h n 5 0).rf (JCT_WSET_CTRL h n) f =
      (r.deleted h n).rf (JCT_WSET_CTRL h n) f := fun f hf =>
    (rf_setAccept _ _ _ _ _ (by rw [hf]; exact wsetCtrl_ne_result h n n)).trans (rf_charged _ _ (by rw [hf]; exact wsetReg_ctrl h hn))
  have hslot : ∀ j < 2, (((r.deleted h n).charged h (s.setCtxNo h n)).setAccept h n 5 0).slotState h n j = (r.deleted h n).slotState h n j :=
    fun j hj => (rf_setAccept _ _ _ _ _ (wsetSlot_ne_result h n _)).trans (rf_charged _ _ (wsetReg_slot h (by omega)))
  refine ⟨?_, ?_, setAccept_code .., (hslot 0 (by decide)).trans hslot0, (hslot 1 (by decide)).trans hslot1, ?_⟩
  · unfold State.setValid State.on
    rw [hctrl _ rfl, hvalid]
    rfl
  · unfold State.on
    rw [hctrl _ rfl, hcurrent]
    rfl
  · rw [setAccept_rows]
    simp only [State.charged, State.deleted, State.putSlot, State.wf_half]
    exact k.rows

/-! ## The statement -/

/-- Settles O27: each command's check, and then its change, its answer and the commit that is due. -/
theorem weightSetCommands : Obligations.WeightSetCommands := by
  refine ⟨?create, ?createRefused, ?openNew, ?openOld, ?arm, ?discard, ?delete, ?deleteRefused⟩
  case create =>
    intro s h n c hl hn hc hk
    obtain ⟨hvalid, hctx, hslots⟩ := wsetCreate_creates hn hc hk
    refine ⟨_, exec_create hl hn hc, hvalid, hctx, hslots _ rfl 0 (by decide), hslots _ rfl 1 (by decide), hslots _ rfl 0 (by decide),
      hslots _ rfl 1 (by decide), ?_⟩
    rw [wsetCreate_accepted hk]
    refine ⟨setAccept_op _ _ _ _ (by decide), setAccept_code .., setAccept_done .., ?_, ?_⟩
    · rw [setAccept_mem, charged_half]
    · exact onlyRegs_setAccept (onlyRegs_created s h n c) (charged_half ..) (by simp) 1 0
  case createRefused =>
    intro s h n c hl hn hc hk
    refine ⟨_, exec_create hl hn hc, ?_⟩
    rw [wsetCreate_refused hk]
    exact setAnswer_refuses s h n 1 0 hk (createCheck_lt ..)
  case openNew =>
    intro s h n slot v hl hn hs hv hval he h0 h1
    exact ⟨_, exec_openSlot hl hn hs hv, wsetOpen_opens hs hv hval he h0 h1⟩
  case openOld =>
    intro s h n slot v hl hn hs hv hval he ho
    refine ⟨_, exec_openSlot hl hn hs hv, ?_⟩
    rw [wsetOpen_old hval he ho]
    exact setAnswer_refuses s h n 2 slot (by decide) (by decide)
  case arm =>
    intro s h n slot hl hn hs
    refine ⟨_, exec_arm hl hn hs, ?_⟩
    split
    · next hk =>
      refine ⟨?_, wsetArm_arms hk⟩
      rw [wsetArm_accepted hk, hk, setAccept_code]
    · next hk =>
      rw [wsetArm_refused hk]
      obtain ⟨hcode, -, honly⟩ := setAnswer_refuses s h n 3 slot hk (armCheck_lt ..)
      exact ⟨hcode, honly⟩
  case discard =>
    intro s h n slot hl hn hs hf hv hst hr hi
    obtain ⟨hempty, hcode, hother, hoff, hrows⟩ := wsetDiscard_discards hn hs hf hv hst hr hi
    exact ⟨_, exec_discard hl hn hs, hempty, hcode, hother, fun l hl p _ x _ hm he hx => hoff x hx p (mem_ownPlanes hl hm he), hrows⟩
  case delete =>
    intro s h n hl hn _ hv hst
    exact ⟨_, exec_delete hl hn, wsetDelete_deletes hn hv hst⟩
  case deleteRefused =>
    intro s h n hl hn _ h4
    refine ⟨_, exec_delete hl hn, ?_⟩
    rw [wsetDelete_bad h4]
    exact setAnswer_refuses s h n 5 0 (by decide) (by decide)

end Sys2Proof.Machine
end

section
/-! PROOF. Switches of weight sets, releases of drained slots and commits (R172 to R174, R176), and the statement on them. -/

namespace Sys2Proof.Machine

variable {s t u : State} {h : Half} {a c n q slot : Nat} {f : Fld} {as : List Nat}

/-! ## A set switches (R172) -/

/-- The registers of a set that has switched to a slot: the slot CURRENT, the old CURRENT slot DRAINING. -/
def State.switched (s : State) (h : Half) (n t : Nat) : State :=
  let s1 := s.putSlot h (2 * n + t) 3
  let s2 := if s.slotState h n (1 - t) = 3 then s1.putSlot h (2 * n + (1 - t)) 4 else s1
  (s2.wf (JCT_WSET_CTRL h n) JCT_WSET_CTRL.CUR_SLOT t).wf (JCT_WSET_CTRL h n) JCT_WSET_CTRL.HAS_CURRENT 1

theorem onlyNv_switchSet (s : State) (h : Half) (n t : Nat) : onlyNv h (s.switched h n t) (s.switchSet h n t) := onlyNv_markSet ..

theorem switched_half (s : State) (h x : Half) (n t : Nat) : (s.switched h n t).half x = s.half x := by
  unfold State.switched State.putSlot
  dsimp only
  split <;> simp only [State.wf_half]

theorem switched_slot (s : State) (h : Half) (n t j : Nat) : (s.switched h n t).slotState h n j =
    (if s.slotState h n (1 - t) = 3 then (s.putSlot h (2 * n + t) 3).putSlot h (2 * n + (1 - t)) 4
      else s.putSlot h (2 * n + t) 3).slotState h n j := by
  have hne : ∀ f : Fld, f.off = 0 → JCT_WSET_SLOT h (2 * n + j) + 0 ≠ JCT_WSET_CTRL h n + f.off := fun f hf => by
    rw [hf]; exact (wsetCtrl_ne_slot h n _).symm
  exact (State.rf_wf_ne _ _ _ _ (hne _ rfl)).trans (State.rf_wf_ne _ _ _ _ (hne _ rfl))

theorem switched_current (s : State) (h : Half) (n : Nat) {t : Nat} (ht : t < 2) : (s.switched h n t).slotState h n t = 3 := by
  rw [switched_slot]
  have hput := putSlot_same s h (2 * n + t) (v := 3) (by decide)
  split
  · exact (putSlot_other _ _ (by omega) _).trans hput
  · exact hput

theorem switched_old (s : State) (h : Half) (n : Nat) {t : Nat} (ht : t < 2) :
    (s.switched h n t).slotState h n (1 - t) = if s.slotState h n (1 - t) = 3 then 4 else s.slotState h n (1 - t) := by
  rw [switched_slot]
  split
  · exact putSlot_same _ _ _ (by decide)
  · exact putSlot_other _ _ (by omega) _

theorem switched_ctrl (s : State) (h : Half) (n : Nat) {t : Nat} (ht : t < 2) :
    (s.switched h n t).rf (JCT_WSET_CTRL h n) JCT_WSET_CTRL.CUR_SLOT = t ∧
    (s.switched h n t).rf (JCT_WSET_CTRL h n) JCT_WSET_CTRL.HAS_CURRENT = 1 := by
  refine ⟨?_, State.rf_wf_same _ _ _ (by decide) (by decide)⟩
  unfold State.switched
  simp (disch := decide) only [State.rf_wf_field]
  exact State.rf_wf_same _ _ _ (by decide) ht

/-- A switch's commit starts with it, or waits. -/
theorem onlyNv_switchCommit (s : State) (h : Half) (n t : Nat) : onlyNv h (s.switched h n t) ((s.switchSet h n t).commitSets h) :=
  (onlyNv_switchSet ..).trans (onlyNv_commitSets ..)

/-! ## SWITCH (R172, R173) -/

theorem exec_switchSets (hl : s.live = true) (hc : c < 256) : exec (.switchSets c) s = .next (s.switchGo c) :=
  (whenLive_of_live hl (fun s => if c < 256 then s.switchGo c else s)).trans (by rw [if_pos hc])

/-- JCT_WSET_SWITCH shows the context of the switch and its code. -/
def State.switchShown (s : State) (c code : Nat) : State :=
  ((s.wf JCT_WSET_SWITCH JCT_WSET_SWITCH.CONTEXT c).wf JCT_WSET_SWITCH JCT_WSET_SWITCH.GO 0).wf JCT_WSET_SWITCH JCT_WSET_SWITCH.CODE code

@[simp] theorem switchShown_half (s : State) (c code : Nat) (x : Half) : (s.switchShown c code).half x = s.half x := by
  simp only [State.switchShown, State.wf_half]

theorem switchShown_code (s : State) (c : Nat) {code : Nat} (hc : code < 256) :
    (s.switchShown c code).rf JCT_WSET_SWITCH JCT_WSET_SWITCH.CODE = code := State.rf_wf_same _ _ _ (by decide) hc

theorem onlyRegs_switchShown (s : State) (c code : Nat) : onlyRegs [JCT_WSET_SWITCH] s (s.switchShown c code) := by
  have hmem : JCT_WSET_SWITCH + 0 ∈ [JCT_WSET_SWITCH] := List.mem_cons_self
  exact onlyRegs_wf (onlyRegs_wf (onlyRegs_wf (onlyRegs_refl _ s) _ _ _ hmem) _ _ _ hmem) _ _ _ hmem

theorem wsetReg_ne_switch (ha : wsetReg h a) : a ≠ JCT_WSET_SWITCH := by
  cases h <;> simp only [wsetReg, Half.base, JCT_WSET_SWITCH] at * <;> omega

theorem rf_switchShown (s : State) (c code : Nat) (ha : wsetReg h (a + f.off)) : (s.switchShown c code).rf a f = s.rf a f :=
  rf_of_onlyRegs (onlyRegs_switchShown ..) (by simpa using wsetReg_ne_switch ha)

theorem switchCheck_lt (s : State) (c : Nat) (e : Half × Nat × Nat) : s.switchCheck c e < 256 := by
  unfold State.switchCheck
  repeat' split
  all_goals decide

/-- The code of a switch: that of the first entry of its list that fails, or 0. -/
def State.switchCode (s : State) (c : Nat) : Nat := ((s.switchList.map (s.switchCheck c)).find? (· != 0)).getD 0

theorem switchCode_lt (s : State) (c : Nat) : s.switchCode c < 256 := by
  unfold State.switchCode
  cases hf : (s.switchList.map (s.switchCheck c)).find? (· != 0) with
  | none => decide
  | some k =>
    obtain ⟨e, -, rfl⟩ := List.mem_map.1 (List.mem_of_find?_eq_some hf)
    exact switchCheck_lt s c e

theorem switchCode_ne_zero (hb : s.switchList.any (fun e => s.switchCheck c e != 0) = true) : s.switchCode c ≠ 0 := by
  unfold State.switchCode
  cases hf : (s.switchList.map (s.switchCheck c)).find? (· != 0) with
  | none =>
    obtain ⟨e, he, hne⟩ := List.any_eq_true.1 hb
    exact absurd hne (List.find?_eq_none.1 hf _ (List.mem_map_of_mem he))
  | some k => simpa using List.find?_some hf

theorem switchGo_refused (hz : s.switchCode c ≠ 0) : s.switchGo c = s.switchShown c (s.switchCode c) := if_pos hz

theorem switchGo_west (hl : s.switchList = [(.west, n, slot)]) (hc : s.switchCheck c (.west, n, slot) = 0) :
    s.switchGo c = ((s.switchShown c 0).switchSet .west n slot).commitSets .west := by
  unfold State.switchGo
  dsimp only
  rw [hl, List.map_singleton, hc]
  rfl

theorem switchGo_east (hl : s.switchList = [(.east, n, slot)]) (hc : s.switchCheck c (.east, n, slot) = 0) :
    s.switchGo c = ((s.switchShown c 0).commitSets .west).passControl .east (.switch [(n, slot)]) := by
  unfold State.switchGo
  dsimp only
  rw [hl, List.map_singleton, hc]
  rfl

/-- Sets and slots of a switch list are those that its fields can hold. -/
theorem switchList_lt {e : Half × Nat × Nat} (he : e ∈ s.switchList) : e.2.1 < 512 ∧ e.2.2 < 2 := by
  obtain ⟨i, -, rfl⟩ := List.mem_map.1 he
  exact ⟨State.rf_lt _ _ _, State.rf_lt _ _ _⟩

/-- An entry of West that passes its check has the other slot CURRENT or EMPTY. -/
theorem otherSlot_of_switchCheck (hc : s.switchCheck c (.west, n, slot) = 0) :
    s.slotState .west n (1 - slot) = 3 ∨ s.slotState .west n (1 - slot) = 0 := by
  unfold State.switchCheck at hc
  split at hc
  · cases hc
  · split at hc
    · cases hc
    · split at hc
      · cases hc
      · next ho => exact or_iff_not_imp_left.2 fun h3 => not_not.1 fun h0 => ho ⟨h3, h0⟩

theorem switchGo_west_switches (hl : s.switchList = [(.west, n, slot)]) (hc : s.switchCheck c (.west, n, slot) = 0) :
    (s.switchGo c).rf JCT_WSET_SWITCH JCT_WSET_SWITCH.CODE = 0 ∧ (s.switchGo c).slotState .west n slot = 3 ∧
    (s.switchGo c).slotState .west n (1 - slot) = (if s.slotState .west n (1 - slot) = 3 then 4 else 0) ∧
    (s.switchGo c).rf (JCT_WSET_CTRL .west n) JCT_WSET_CTRL.CUR_SLOT = slot ∧
    (s.switchGo c).on (JCT_WSET_CTRL .west n) JCT_WSET_CTRL.HAS_CURRENT = true ∧
    (s.switchGo c).half .east = s.half .east ∧ ((s.switchGo c).half .west).mem = (s.half .west).mem := by
  obtain ⟨hn, hs⟩ : n < 512 ∧ slot < 2 := switchList_lt (by rw [hl]; exact List.mem_cons_self)
  rw [switchGo_west hl hc]
  set v := s.switchShown c 0 with hv
  have k := onlyNv_switchCommit v .west n slot
  have hslot : ∀ j < 2, v.slotState .west n j = s.slotState .west n j := fun j hj => rf_switchShown _ _ _ (wsetReg_slot _ (by omega))
  obtain ⟨hcur, hhas⟩ := switched_ctrl v .west n hs
  refine ⟨?_, (k.rf ..).trans (switched_current _ _ _ hs), (k.rf ..).trans ?_, (k.rf ..).trans hcur, ?_, ?_, ?_⟩
  · refine (k.rf ..).trans (Eq.trans ?_ (switchShown_code s c (code := 0) (by decide)))
    unfold State.switched State.putSlot
    dsimp only
    have hctrl := wsetReg_ne_switch (wsetReg_ctrl .west hn)
    have hs1 := wsetReg_ne_switch (wsetReg_slot .west (i := 2 * n + slot) (by omega))
    have hs2 := wsetReg_ne_switch (wsetReg_slot .west (i := 2 * n + (1 - slot)) (by omega))
    rw [State.rf_wf_ne _ _ _ _ (by exact hctrl.symm), State.rf_wf_ne _ _ _ _ (by exact hctrl.symm)]
    split
    · rw [State.rf_wf_ne _ _ _ _ (by exact hs2.symm), State.rf_wf_ne _ _ _ _ (by exact hs1.symm)]
    · rw [State.rf_wf_ne _ _ _ _ (by exact hs1.symm)]
  · refine (switched_old _ _ _ hs).trans ?_
    rw [hslot _ (by omega)]
    split
    · rfl
    · next h3 => exact (otherSlot_of_switchCheck hc).resolve_left h3
  · unfold State.on
    rw [k.rf, hhas]
    rfl
  · have e := k.other
    rw [switched_half, hv, switchShown_half] at e
    exact e
  · rw [k.mem, switched_half, hv, switchShown_half]

theorem switchGo_east_sends (hl : s.switchList = [(.east, n, slot)]) (hc : s.switchCheck c (.east, n, slot) = 0) :
    (s.switchGo c).east.control = s.east.control ++ [PassMsg.switch [(n, slot)]] ∧
    (s.switchGo c).slotState .east n slot = s.slotState .east n slot ∧ (s.switchGo c).west.mem = s.west.mem ∧
    onlyRegs [JCT_WSET_SWITCH] s (((s.switchGo c).setHalf .east s.east).setHalf .west s.west) := by
  obtain ⟨hn, hs⟩ : n < 512 ∧ slot < 2 := switchList_lt (by rw [hl]; exact List.mem_cons_self)
  rw [switchGo_east hl hc]
  have k := onlyNv_commitSets (s.switchShown c 0) .west
  have heast : ((s.switchShown c 0).commitSets .west).east = s.east := k.other
  refine ⟨?_, ?_, ?_, ?_⟩
  · rw [← heast]; rfl
  · exact (k.rf ..).trans (rf_switchShown _ _ _ (wsetReg_slot .east (by omega)))
  · exact k.mem .west
  · have e : ((((s.switchShown c 0).commitSets .west).passControl .east (.switch [(n, slot)])).setHalf .east s.east).setHalf .west s.west =
        ((s.switchShown c 0).commitSets .west).setHalf .west s.west := by
      rw [State.passControl, State.modHalf_setHalf, ← heast]
      rfl
    rw [e]
    exact k.onlyRegs (onlyRegs_switchShown s c 0) rfl

/-! ## WSET_SWITCH_MSG_ARRIVE (R173) -/

theorem exec_wsetSwitchMsgArrive {l : List (Nat × Nat)} {q : List PassMsg} (hl : s.live = true) (hm : s.east.control = .switch l :: q)
    (hp : s.passOn = true) : exec .wsetSwitchMsgArrive s = .next ((s.modHalf .east (fun x => { x with control := q })).switchArrive l) := by
  simp only [exec, execWsetSwitchMsgArrive]
  rw [whenLive_of_live hl, hm]
  exact congrArg _ (if_pos hp)

theorem switchArrive_one (s : State) (n slot : Nat) : s.switchArrive [(n, slot)] = (s.switchSet .east n slot).commitSets .east := rfl

/-! ## WSET_RELEASE (R174) -/

theorem exec_wsetRelease (hl : s.live = true) (hn : n < 512) (hs : slot < 2) :
    exec (.wsetRelease h n slot) s = .next (s.wsetRelease h n slot) :=
  (whenLive_of_live hl (fun s => if n < 512 ∧ slot < 2 then s.wsetRelease h n slot else s)).trans (by rw [if_pos ⟨hn, hs⟩])

/-- The release of a slot as the half holds it until its commit. -/
def State.releaseOf (s : State) (h : Half) (n slot : Nat) : WsetRel :=
  { set := n, slot := slot, foot := s.foot h n, planes := s.ownPlanes h n slot }

/-- A slot's own planes are disabled and the slot is EMPTY. -/
def State.drained (s : State) (h : Half) (n slot : Nat) : State :=
  ((s.ownPlanes h n slot).foldl (fun t p => t.releaseEn h (s.foot h n) p) s).putSlot h (2 * n + slot) 0

/-- A release waits for its commit. -/
def State.addRelease (s : State) (h : Half) (r : WsetRel) : State := s.modNv h (fun x => { x with wsetRel := x.wsetRel ++ [r] })

theorem wsetRelease_eq (h4 : s.slotState h n slot = 4) (hi : s.inFlight h n slot = 0) : s.wsetRelease h n slot =
    (((s.drained h n slot).addRelease h (s.releaseOf h n slot)).setChanged h n).runRefresh h := if_pos ⟨h4, hi⟩

/-- The disabled planes show as any disabled plane does. -/
theorem rd_released (s : State) (h : Half) (n slot a : Nat) :
    ((s.ownPlanes h n slot).foldl (fun t p => t.releaseEn h (s.foot h n) p) s).rd a =
      (s.disablePlanes h (s.foot h n) (s.ownPlanes h n slot)).rd a :=
  State.rd_congr (foldl_releaseEn_regs (fun _ hp => ownPlanes_lt hp) s h _) a

theorem drained_half (s : State) (h x : Half) (n slot : Nat) : (s.drained h n slot).half x = s.half x :=
  (State.wf_half ..).trans (half_foldl (fun t p => releaseEn_half t h x _ p) _ s)

theorem mem_releases_commitSets {r : WsetRel} (hr : r ∈ (s.half h).nv.wsetRel) : r ∈ ((s.commitSets h).half h).nv.releases := by
  unfold State.commitSets NvHalf.releases
  dsimp only
  split
  · rw [State.modNv_nv]
    exact hr
  · exact List.mem_append_left _ hr

theorem mem_releases_setChanged {r : WsetRel} (n : Nat) (hr : r ∈ (s.half h).nv.wsetRel) : r ∈ ((s.setChanged h n).half h).nv.releases :=
  mem_releases_commitSets (by rw [State.markSet, State.modNv_nv]; exact hr)

theorem KeepsTable.releases (k : KeepsTable h s t) : (t.half h).nv.releases = (s.half h).nv.releases := (congrArg NvHalf.releases k.nv :)

theorem wsetRelease_releases (hn : n < 512) (hs : slot < 2) (hf : (s.foot h n).1 + (s.foot h n).2 ≤ 512) (h4 : s.slotState h n slot = 4)
    (hi : s.inFlight h n slot = 0) :
    (s.wsetRelease h n slot).slotState h n slot = 0 ∧ s.releaseOf h n slot ∈ ((s.wsetRelease h n slot).half h).nv.releases ∧
    (∀ x ∈ footSeams (s.foot h n), ∀ p ∈ s.ownPlanes h n slot, (s.wsetRelease h n slot).planeEn h (16 * x + p) = false) ∧
    (s.wsetRelease h n slot).slotState h n (1 - slot) = s.slotState h n (1 - slot) ∧
    ((s.wsetRelease h n slot).half h).nv.rows = (s.half h).nv.rows := by
  rw [wsetRelease_eq h4 hi]
  set d := s.drained h n slot with hd
  set v := d.addRelease h (s.releaseOf h n slot) with hv
  have kadd : onlyNv h d v := .modNv d h fun _ => rfl
  have kch : onlyNv h d (v.setChanged h n) := kadd.trans (onlyNv_setChanged ..)
  have kt := KeepsTable.runRefresh (v.setChanged h n) h
  have ks : KeepsSets h d ((v.setChanged h n).runRefresh h) := kch.keepsSets.trans (.runRefresh ..)
  refine ⟨?_, ?_, fun x hx p hp => ?_, ?_, ?_⟩
  · exact (ks.slotState (by omega)).trans (putSlot_same _ _ _ (by decide))
  · rw [kt.releases]
    refine mem_releases_setChanged n ?_
    rw [hv, State.addRelease, State.modNv_nv]
    exact List.mem_append_right _ List.mem_cons_self
  · have hx' := footSeams_lt hf hx
    have hp' := ownPlanes_lt hp
    rw [kt.planeEn (by omega), State.planeEn_congr (kch.rd _), hd, State.drained, planeEn_putSlot _ _ _ _ _ (by omega),
      State.planeEn_congr (rd_released ..), planeEn_disablePlanes hx hp]
  · refine (ks.slotState (by omega)).trans ((putSlot_other _ _ (by omega) _).trans ?_)
    refine Eq.trans ?_ ((KeepsSets.disablePlanes s h (s.foot h n) (s.ownPlanes h n slot)).slotState (n := n) (by omega))
    unfold State.slotState State.rf
    rw [rd_released]
  · rw [ks.rows, hd, drained_half]

/-! ## WSET_COMMIT_DONE (R174, R176) -/

theorem exec_wsetCommitDone (hl : s.live = true) : exec (.wsetCommitDone h) s = .next (s.wsetCommit h) :=
  whenLive_of_live hl (fun s => s.wsetCommit h)

/-- The words of the commit that ends are in the plane table, and no commit runs. -/
def NvHalf.setsCommitted (x : NvHalf) : NvHalf := { x with
  wsets := x.wsetSnap.foldl (fun m e => mapSet (fun _ => 0) m e.1 e.2) x.wsets
  wsetRun := []
  wsetSnap := []
  wsetRelRun := []
  wsetDoneRun := [] }

/-- DONE is set for the commands that the commit includes. -/
def State.setsDone (s : State) (h : Half) : State :=
  (s.half h).nv.wsetDoneRun.foldl (fun s x => s.wf (JCT_WSET_RESULT h x) JCT_WSET_RESULT.DONE 1) (s.modNv h NvHalf.setsCommitted)

theorem wsetCommit_eq (hr : (s.half h).nv.wsetRun = [n]) : s.wsetCommit h =
    ((s.half h).nv.wsetRelRun.foldl (fun s r => s.released h r) (s.setsDone h)).commitSets h := by
  unfold State.wsetCommit
  dsimp only
  rw [hr]
  rfl

/-- With no change waiting no commit starts. -/
theorem commitSets_of_clean (hd : (s.half h).nv.wsetDirty = []) : s.commitSets h = s := by
  unfold State.commitSets
  dsimp only
  rw [hd]
  exact if_neg (by simp)

theorem setsDone_nv (s : State) (h : Half) : ((s.setsDone h).half h).nv = (s.half h).nv.setsCommitted := by
  rw [State.setsDone, half_foldl (fun _ _ => State.wf_half ..), State.modNv_nv]

/-- Of the controller a release's commit changes SEAM_PLANE_CFG as committed, and which Seams have a commit due. -/
theorem commitFoot_nv (s : State) (h : Half) (r : WsetRel) :
    ∃ m l, ((s.commitFoot h r).half h).nv = { (s.half h).nv with cfg := m, committing := l } := by
  unfold State.commitFoot
  induction footSeams r.foot generalizing s with
  | nil => exact ⟨_, _, rfl⟩
  | cons x xs ih =>
    obtain ⟨m, l, e⟩ := ih _
    refine ⟨m, l, e.trans ?_⟩
    dsimp only
    split
    · split
      · rw [State.modNv_nv]
      · rw [State.wf_half, State.modNv_nv]
    · unfold State.cfgPending
      dsimp only
      rw [State.modNv_nv, State.wf_half, State.modNv_nv]
      split <;> rfl

theorem released_nv (s : State) (h : Half) (r : WsetRel) :
    ∃ m l, ((s.released h r).half h).nv = { (s.half h).nv with cfg := m, committing := l } := by
  obtain ⟨m, l, e⟩ := commitFoot_nv s h r
  refine ⟨m, l, ?_⟩
  unfold State.released
  dsimp only
  rw [msix_half, State.wf_half, e]

/-- A release that has been committed shows in RELEASED. -/
theorem released_shows (s : State) (h : Half) {r : WsetRel} (hr : r.slot < 2) :
    bit ((s.released h r).rf (JCT_WSET_RESULT h r.set) JCT_WSET_RESULT.RELEASED) r.slot = true := by
  have hreg : ∀ v, (s.released h r).rf (JCT_WSET_RESULT h r.set) v = ((s.commitFoot h r).wf (JCT_WSET_RESULT h r.set) JCT_WSET_RESULT.RELEASED
      (s.rf (JCT_WSET_RESULT h r.set) JCT_WSET_RESULT.RELEASED ||| 2 ^ r.slot)).rf (JCT_WSET_RESULT h r.set) v := fun v =>
    State.rf_congr (msix_regs ..) _ _
  rw [hreg, State.rf_wf _ _ _ _ (by decide), bit_eq_testBit, Nat.testBit_mod_two_pow, Nat.testBit_or, Nat.testBit_two_pow_self]
  simp [hr]

/-! ## The statement -/

/-- Settles O28: a switch refused, of West, and of East, there as its message arrives; a release, and the end of a commit. -/
theorem weightSetSwitches : Obligations.WeightSetSwitches := by
  refine ⟨?refused, ?west, ?east, ?arrive, ?release, ?commit, ?commitRelease⟩
  case refused =>
    intro s c hl hc hb
    have hz := switchCode_ne_zero hb
    refine ⟨_, exec_switchSets hl hc, ?_⟩
    rw [switchGo_refused hz, switchShown_code _ _ (switchCode_lt s c)]
    exact ⟨hz, onlyRegs_switchShown ..⟩
  case west =>
    intro s c n slot hl hc hlist hk
    exact ⟨_, exec_switchSets hl hc, switchGo_west_switches hlist hk⟩
  case east =>
    intro s c n slot hl hc hlist hk
    exact ⟨_, exec_switchSets hl hc, switchGo_east_sends hlist hk⟩
  case arrive =>
    intro s n slot q hl hn hs hm hp
    refine ⟨_, exec_wsetSwitchMsgArrive hl hm hp, ?_⟩
    rw [switchArrive_one]
    set v := s.modHalf .east (fun x => { x with control := q }) with hv
    have k := onlyNv_switchCommit v .east n slot
    have hhalf := fun x => switched_half v .east x n slot
    refine ⟨(k.rf ..).trans (switched_current _ _ _ hs), ?_, fun h3 => ?_, ?_⟩
    · obtain ⟨m, e⟩ := k.half
      rw [hhalf] at e
      exact (congrArg HalfState.control e :)
    · refine (k.rf ..).trans ((switched_old _ _ _ hs).trans ?_)
      exact if_pos ((State.modHalf_rf ..).trans h3)
    · exact k.other.trans (hhalf .west)
  case release =>
    intro s h n slot hl hn hs hf h4 hi
    exact ⟨_, exec_wsetRelease hl hn hs, wsetRelease_releases hn hs hf h4 hi⟩
  case commit =>
    intro s h n hl hn hrun hdirty hrel hdone
    have e : s.wsetCommit h = s.setsDone h := by
      rw [wsetCommit_eq hrun, hrel]
      exact commitSets_of_clean (by rw [List.foldl_nil, setsDone_nv]; exact hdirty)
    have hwf : s.setsDone h = (s.modNv h NvHalf.setsCommitted).wf (JCT_WSET_RESULT h n) JCT_WSET_RESULT.DONE 1 := by
      rw [State.setsDone, hdone]
      rfl
    refine ⟨_, exec_wsetCommitDone hl, ?_⟩
    rw [e, setsDone_nv]
    refine ⟨?_, rfl, rfl, ?_⟩
    · rw [hwf]
      exact State.rf_wf_same _ _ _ (by decide) (by decide)
    · rw [hwf, State.wf_setHalf, State.modNv_setHalf, State.setHalf_self]
      exact onlyRegs_wf (onlyRegs_refl _ s) _ _ _ (by simp)
  case commitRelease =>
    intro s h n r hl hn hset hslot hf hrun hdirty hrel
    obtain ⟨m, l, hnv⟩ := released_nv (s.setsDone h) h r
    rw [setsDone_nv] at hnv
    have e : s.wsetCommit h = (s.setsDone h).released h r := by
      rw [wsetCommit_eq hrun, hrel]
      exact commitSets_of_clean (by rw [List.foldl_cons, List.foldl_nil, hnv]; exact hdirty)
    refine ⟨_, exec_wsetCommitDone hl, ?_⟩
    rw [e, hnv, ← hset]
    exact ⟨released_shows _ _ hslot, rfl⟩

end Sys2Proof.Machine
end

section
/-! PROOF. The loader's ring (R166, R168 to R170): what reading a descriptor, taking it and ending it leave of the half, and the statement on it. -/

namespace Sys2Proof.Machine

variable {s t u : State} {h : Half} {a n q code : Nat} {f : Fld} {as : List Nat} {d desc image : List Byte}

/-! ## What an operation leaves of a half's loader, NV controller and memory -/

theorem half_modHalf_cases (s : State) (h x : Half) (g : HalfState → HalfState) :
    (s.modHalf x g).half h = g (s.half h) ∨ (s.modHalf x g).half h = s.half h := by
  cases h <;> cases x
  · exact .inl rfl
  · exact .inr rfl
  · exact .inr rfl
  · exact .inl rfl

/-- Registers outside a list, and the loader, the NV controller and the memory of a half, are as they were. -/
structure KeepsLoader (as : List Nat) (h : Half) (s t : State) : Prop where
  rd : ∀ a, a ∉ as → t.rd a = s.rd a
  ldr : (t.half h).ldr = (s.half h).ldr
  nv : (t.half h).nv = (s.half h).nv
  mem : (t.half h).mem = (s.half h).mem

namespace KeepsLoader

theorem refl (as : List Nat) (h : Half) (s : State) : KeepsLoader as h s s := ⟨fun _ _ => rfl, rfl, rfl, rfl⟩

theorem trans (k : KeepsLoader as h s t) (l : KeepsLoader as h t u) : KeepsLoader as h s u :=
  ⟨fun a ha => (l.rd a ha).trans (k.rd a ha), l.ldr.trans k.ldr, l.nv.trans k.nv, l.mem.trans k.mem⟩

theorem modHalf (s : State) (h x : Half) {g : HalfState → HalfState} (hl : ∀ y, (g y).ldr = y.ldr) (hn : ∀ y, (g y).nv = y.nv)
    (hm : ∀ y, (g y).mem = y.mem) : KeepsLoader as h s (s.modHalf x g) := by
  have hrd : ∀ a, a ∉ as → (s.modHalf x g).rd a = s.rd a := fun a _ => State.modHalf_rd ..
  rcases half_modHalf_cases s h x g with e | e
  · exact ⟨hrd, by rw [e, hl], by rw [e, hn], by rw [e, hm]⟩
  · exact ⟨hrd, by rw [e], by rw [e], by rw [e]⟩

theorem wf (s : State) (h : Half) (v : Nat) (ha : a + f.off ∈ as) : KeepsLoader as h s (s.wf a f v) :=
  ⟨fun b hb => State.rd_wf_ne _ _ _ (ne_of_mem_of_not_mem ha hb).symm, by rw [State.wf_half], by rw [State.wf_half], by rw [State.wf_half]⟩

theorem setRq (s : State) (h x : Half) (q : Nat) (r : RecvQ) : KeepsLoader as h s (s.setRq x q r) :=
  .modHalf s h x (fun _ => rfl) (fun _ => rfl) fun _ => rfl

theorem rqDetach (s : State) (h x : Half) (q : Nat) (p : Party) : KeepsLoader [CSW_RQ_STATE x q] h s (s.rqDetach x q p) := by
  unfold State.rqDetach
  dsimp only
  split
  · exact (setRq ..).trans (.wf _ h _ List.mem_cons_self)
  · exact setRq ..

/-- Leaving a queue or not, beyond what a state already keeps. -/
theorem mayDetach {p : Prop} [Decidable p] (k : KeepsLoader [CSW_RQ_STATE h q] h s t) (r : Party) :
    KeepsLoader [CSW_RQ_STATE h q] h s (if p then t.rqDetach h q r else t) := by
  split
  · exact k.trans (.rqDetach ..)
  · exact k

theorem t3Get (s : State) (h x : Half) (func pasid a len : Nat) : KeepsLoader as h s (s.t3Get x func pasid a len) := by
  refine KeepsLoader.trans (t := s.translate x func pasid a len) ?_ ⟨fun _ _ => rfl, ?_, ?_, ?_⟩
  · unfold State.translate
    split
    · exact .modHalf s h x (fun _ => rfl) (fun _ => rfl) fun _ => rfl
    · exact .refl ..
  all_goals cases h <;> rfl

end KeepsLoader

theorem modLdr_ldr (s : State) (h : Half) (g : LoaderSt → LoaderSt) : ((s.modLdr h g).half h).ldr = g (s.half h).ldr := by
  unfold State.modLdr; rw [State.half_modHalf_same]

theorem modLdr_nv (s : State) (h : Half) (g : LoaderSt → LoaderSt) : ((s.modLdr h g).half h).nv = (s.half h).nv := by
  unfold State.modLdr; rw [State.half_modHalf_same]

theorem modLdr_mem (s : State) (h x : Half) (g : LoaderSt → LoaderSt) : ((s.modLdr h g).half x).mem = (s.half x).mem := by
  cases h <;> cases x <;> rfl

theorem modLdr_regs (s : State) (h : Half) (g : LoaderSt → LoaderSt) : (s.modLdr h g).regs = s.regs := State.modHalf_regs ..

/-! ## The descriptor at HEAD (R168, R169) -/

theorem t3Get_regs (s : State) (h : Half) (func pasid a len : Nat) : (s.t3Get h func pasid a len).regs = s.regs := by
  unfold State.t3Get State.translate
  split
  · exact State.modHalf_regs ..
  · rfl

/-- A word of a run that meets it is one that the run covers in part at least. -/
theorem lt_of_mem_badIn {tier len w : Nat} (hw : w ∈ s.badIn h tier a len) : wordBytes tier * w < a + len := by
  have hmem : ∀ l : List Nat, w ∈ l.foldr insertNat [] → w ∈ l := fun l => by
    induction l with
    | nil => exact id
    | cons x l ih => exact fun hm => List.mem_cons.2 ((mem_insertNat.1 hm).imp_right ih)
  have := hmem _ hw
  simp only [List.mem_filter, Bool.and_eq_true, decide_eq_true_eq] at this
  exact this.2.1

/-- A read of T1 of which every byte is good, where the checkers find nothing new, leaves the state as it is. -/
theorem ldScan_whole {len : Nat} (hg : (s.ldScan h 1 a len {}).2 = len) (hlen : 0 < len) : (s.ldScan h 1 a len {}).1 = s := by
  have e : s.ldScan h 1 a len {} = match s.badIn h 1 a len with
      | [] => (s, len)
      | w :: _ => ((s.countBad h 1 1).logWord h 1 w 0, min len (wordBytes 1 * w - a)) := rfl
  cases hb : s.badIn h 1 a len with
  | nil => rw [e, hb]
  | cons w ws =>
    have hw : wordBytes 1 * w < a + len := lt_of_mem_badIn (hb ▸ List.mem_cons_self)
    rw [e, hb] at hg
    have : min len (wordBytes 1 * w - a) = len := hg
    omega

/-- A descriptor that is read whole: the read leaves registers, loader, NV controller and memory as they are. -/
theorem ldrRead_whole (hr : (s.ldrRead h desc).2 = 64) : (s.ldrRead h desc).1.regs = s.regs ∧ KeepsLoader [] h s (s.ldrRead h desc).1 := by
  unfold State.ldrRead at hr ⊢
  dsimp only at hr ⊢
  split at hr
  · next h1 =>
    rw [if_pos h1, ldScan_whole hr (by decide)]
    exact ⟨rfl, .refl ..⟩
  · next h1 =>
    rw [if_neg h1]
    split at hr
    · cases hr
    · next hlen =>
      rw [if_neg hlen]
      exact ⟨t3Get_regs .., .t3Get ..⟩

/-- The checks of a descriptor look only at the registers, and so do the planes of its mask. -/
theorem ldCheck_congr (e : t.regs = s.regs) : t.ldCheck h d = s.ldCheck h d := by
  calc t.ldCheck h d = ({ s with regs := t.regs } : State).ldCheck h d := rfl
    _ = s.ldCheck h d := by rw [e]

theorem ldAllPlanes_congr (e : t.regs = s.regs) (n slot m : Nat) : t.ldAllPlanes h n slot m = s.ldAllPlanes h n slot m := by
  calc t.ldAllPlanes h n slot m = ({ s with regs := t.regs } : State).ldAllPlanes h n slot m := rfl
    _ = s.ldAllPlanes h n slot m := by rw [e]

theorem State.on_congr (e : t.regs = s.regs) (a : Nat) (f : Fld) : t.on a f = s.on a f := by unfold State.on; rw [State.rf_congr e]

theorem State.foot_congr (e : t.regs = s.regs) (h : Half) (n : Nat) : t.foot h n = s.foot h n := by
  unfold State.foot; rw [State.rf_congr e, State.rf_congr e]

/-! ## A descriptor is taken, and ends -/

/-- The loader of a half that has taken a descriptor. -/
def takenLdr (d : List Byte) : LoaderSt := { desc := d, phase := .ended, load := ldOp d == 1, set := ldWset d, slot := ldSlot d }

theorem ldTake_half (s : State) (h : Half) (d : List Byte) : (s.ldTake h d).half h = { s.half h with ldr := takenLdr d } :=
  (State.wf_half ..).trans (State.half_modHalf_same ..)

theorem ldTake_busy (s : State) (h : Half) (d : List Byte) : (s.ldTake h d).rf (NV_LDR_HEAD h) NV_LDR_HEAD.BUSY = 1 :=
  State.rf_wf_same _ _ _ (by decide) (by decide)

theorem ldTake_rd (s : State) (h : Half) (d : List Byte) (ha : a ≠ NV_LDR_HEAD h) : (s.ldTake h d).rd a = s.rd a :=
  (State.rd_wf_ne _ _ _ (by exact ha)).trans (State.modHalf_rd ..)

theorem ldTake_nv (s : State) (h : Half) (d : List Byte) : ((s.ldTake h d).half h).nv = (s.half h).nv := by rw [ldTake_half]

theorem ldTake_mem (s : State) (h : Half) (d : List Byte) : ((s.ldTake h d).half h).mem = (s.half h).mem := by rw [ldTake_half]

/-- The loader of a half whose descriptor has ended. -/
def LoaderSt.ends (l : LoaderSt) (code : Nat) : LoaderSt := { l with phase := .ended, result := code, asked := false }

/-- A descriptor that ends leaves its receive queue, and no more than that of registers, NV controller and memory changes. -/
theorem ldEnd_ends (s : State) (h : Half) (code : Nat) : ∃ u, s.ldEnd h code = u.modLdr h (fun l => l.ends code) ∧
    KeepsLoader [CSW_RQ_STATE h (ldAddress (s.half h).ldr.desc)] h s u := by
  unfold State.ldEnd
  cases h with
  | west => exact ⟨_, rfl, .mayDetach (.refl ..) _⟩
  | east =>
    refine ⟨_, rfl, .mayDetach (.trans (.modHalf _ _ .west ?_ ?_ ?_) (.modHalf _ _ .east ?_ ?_ ?_)) _⟩ <;> exact fun _ => rfl

theorem ldEnd_ldr (s : State) (h : Half) (code : Nat) : ((s.ldEnd h code).half h).ldr = (s.half h).ldr.ends code := by
  obtain ⟨u, e, k⟩ := ldEnd_ends s h code
  rw [e, modLdr_ldr, k.ldr]

theorem ldEnd_nv (s : State) (h : Half) (code : Nat) : ((s.ldEnd h code).half h).nv = (s.half h).nv := by
  obtain ⟨u, e, k⟩ := ldEnd_ends s h code
  rw [e, modLdr_nv, k.nv]

theorem ldEnd_mem (s : State) (h : Half) (code : Nat) : ((s.ldEnd h code).half h).mem = (s.half h).mem := by
  obtain ⟨u, e, k⟩ := ldEnd_ends s h code
  rw [e, modLdr_mem, k.mem]

theorem ldEnd_rd (s : State) (h : Half) (code : Nat) (ha : a ≠ CSW_RQ_STATE h (ldAddress (s.half h).ldr.desc)) :
    (s.ldEnd h code).rd a = s.rd a := by
  obtain ⟨u, e, k⟩ := ldEnd_ends s h code
  rw [e, State.modLdr, State.modHalf_rd, k.rd a (by simpa using ha)]

/-- The loader's own registers are no receive queue's. -/
theorem ldrReg_ne_rq (h : Half) (q : Nat) : NV_LDR_HEAD h ≠ CSW_RQ_STATE h q ∧ NV_LDR_RING_CTRL h ≠ CSW_RQ_STATE h q := by
  simp only [NV_LDR_HEAD, NV_LDR_RING_CTRL, CSW_RQ_STATE]; omega

theorem rf_ldEnd (s : State) (h : Half) (code : Nat) (hf : f.off = 0) (ha : ∀ q, a ≠ CSW_RQ_STATE h q) : (s.ldEnd h code).rf a f = s.rf a f := by
  unfold State.rf
  rw [hf, ldEnd_rd _ _ _ (by exact ha _)]

/-! ## LOAD (R169) -/

theorem exec_load {chk : Scan} {fault : Bool} (hl : s.live = true) (hm : s.ldrMayTake h = true) (hr : (s.ldrRead h desc).2 = 64)
    (ho : ldOp (s.ldrDesc h desc) ≠ 2) :
    exec (.load h desc image chk fault) s = .next ((s.ldrRead h desc).1.ldLoad h (s.ldrDesc h desc) image chk fault) := by
  simp only [exec, execLoad]
  rw [whenLive_of_live hl, if_pos hm, if_neg ho, if_pos hr]

theorem ldLoad_refused {chk : Scan} {fault : Bool} (hc : s.ldCheck h d ≠ 0) :
    s.ldLoad h d image chk fault = (s.ldTake h d).ldEnd h (s.ldCheck h d) := if_pos hc

/-- A load that has its planes and is still without its image. -/
def State.ldBegin (s : State) (h : Half) (d : List Byte) : State := (s.ldTake h d).modLdr h (fun l => { l with
  phase := .program
  enc := s.on (JCT_WSET_CTRL h (ldWset d)) JCT_WSET_CTRL.ROUTE
  planes := s.ldAllPlanes h (ldWset d) (ldSlot d) (ldMask d) })

theorem ldLoad_begins {chk : Scan} {fault : Bool} (hc : s.ldCheck h d = 0) :
    s.ldLoad h d image chk fault = ((s.ldBegin h d).ldSourceRead h image chk fault).ldStep h := if_neg (not_not.2 hc)

/-- What a load from host memory reads where no byte is missing. -/
theorem ldSourceRead_host (hd : (s.half h).ldr.desc = d) (hs : ldSource d = 0) (hlen : ldLength d ≤ image.length) :
    s.ldSourceRead h image {} false =
      (s.t3Get h 0 (ldPasid d) (ldAddress d) (ldLength d)).ldAdd h (image.take (ldLength d)) false := by
  unfold State.ldSourceRead
  simp [hd, hs, Nat.not_lt.2 hlen]

/-- The view of a packed image of which all has come. -/
theorem ldLook_packed (he : (s.half h).ldr.enc = false) (hf : (s.half h).ldr.failed = false)
    (hi : ldLength (s.half h).ldr.desc ≤ (s.half h).ldr.image.length) : s.ldLook h =
      packedImage (s.half h).ldr.image (ldLength (s.half h).ldr.desc) (s.foot h (s.half h).ldr.set).2 .all := by
  unfold State.ldLook
  simp [he, hf, hi]

/-- The rows of an image that a mask selects. -/
def maskRecs (m : Nat) (recs : List (List Byte)) : List (List Byte) := recs.filter (fun r => bit m (fld r 0 3 0))

theorem ldList_lists (s : State) (h : Half) (todo : List (List Byte)) :
    ∃ l, s.ldList h todo = s.modLdr h (fun x => { x with used := x.used + todo.length, recs := l }) := ⟨_, rfl⟩

/-- A load whose whole image is good programs its first list of rows. -/
theorem ldStep_programs {hd : List Byte} {recs : List (List Byte)} {c : Nat} (hp : (s.half h).ldr.phase = .program)
    (ha : (s.half h).ldr.asked = false) (hn : (s.half h).ldr.recs = []) (hu : (s.half h).ldr.used = 0)
    (hlook : s.ldLook h = .good hd recs (some (true, c))) (hm : maskRecs (ldMask (s.half h).ldr.desc) recs ≠ []) :
    s.ldStep h = (s.ldW7 h hd).ldList h ((maskRecs (ldMask (s.half h).ldr.desc) recs).take 1024) := by
  have hgo : s.ldStep h = s.ldGo h := by
    unfold State.ldStep
    rw [if_neg (not_not.2 hp), hlook]
  rw [hgo]
  unfold State.ldGo
  dsimp only
  rw [if_neg (by simp [hp, ha, hn]), hlook, hu]
  exact if_pos (Or.inr ⟨rfl, by simpa [maskRecs] using hm⟩)

/-! ### W7 of the planes (step 4) -/

/-- Of a half's loader, rows and memory nothing has changed. -/
def KeepsLoad (h : Half) (s t : State) : Prop :=
  (t.half h).ldr = (s.half h).ldr ∧ (t.half h).nv.rows = (s.half h).nv.rows ∧ (t.half h).mem = (s.half h).mem

namespace KeepsLoad

theorem refl (h : Half) (s : State) : KeepsLoad h s s := ⟨rfl, rfl, rfl⟩

theorem trans (k : KeepsLoad h s t) (l : KeepsLoad h t u) : KeepsLoad h s u :=
  ⟨l.1.trans k.1, l.2.1.trans k.2.1, l.2.2.trans k.2.2⟩

theorem foldl {β : Type} {F : State → β → State} (hF : ∀ t b, KeepsLoad h t (F t b)) (l : List β) (s : State) :
    KeepsLoad h s (l.foldl F s) := by
  induction l generalizing s with
  | nil => exact .refl ..
  | cons b l ih => exact (hF s b).trans (ih _)

theorem setW7 (s : State) (h : Half) (p : Nat) (v : Bool) : KeepsLoad h s (s.setW7 h p v) := by
  unfold State.setW7
  split
  · exact .refl ..
  · dsimp only [State.cfgPending, State.modNv]
    unfold KeepsLoad
    rw [State.half_modHalf_same, State.wf_half, State.wf_half]
    refine ⟨rfl, ?_, rfl⟩
    dsimp only
    split <;> rfl

end KeepsLoad

/-- The header of an image sets W7 of planes, and the loader keeps it. -/
theorem ldW7_header (he : (s.half h).ldr.header = []) (hd : List Byte) :
    ∃ u, s.ldW7 h hd = u.modLdr h (fun l => { l with header := hd }) ∧ KeepsLoad h s u := by
  unfold State.ldW7
  dsimp only
  rw [he]
  refine ⟨_, rfl, .foldl (fun v lp => ?_) _ s⟩
  split
  · exact .foldl (fun _ _ => .setW7 ..) _ v
  · exact .refl ..

/-! ## ERASE (R170) -/

theorem exec_eraseSet (hl : s.live = true) (hm : s.ldrMayTake h = true) (hr : (s.ldrRead h desc).2 = 64)
    (ho : ldOp (s.ldrDesc h desc) = 2) :
    exec (.eraseSet h desc false) s = .next ((s.ldrRead h desc).1.ldErase h (s.ldrDesc h desc)) := by
  simp only [exec, execEraseSet]
  rw [whenLive_of_live hl, if_pos hm, if_neg Bool.false_ne_true, if_neg (not_not.2 hr), if_pos ho]

/-- An erase that has its planes. -/
def State.ldErasing (s : State) (h : Half) (d : List Byte) : State := (s.ldTake h d).modLdr h (fun l => { l with
  phase := .erase
  planes := s.ldAllPlanes h (ldWset d) (ldSlot d) (ldMask d) })

/-- The loader does not go on while a plane of its list remains. -/
theorem ldNext_of_planes (hp : (s.half h).ldr.planes ≠ []) : s.ldNext h = s := if_pos (by simpa using hp)

theorem ldErase_begins (hc : s.ldCheck h d = 0) (hp : s.ldAllPlanes h (ldWset d) (ldSlot d) (ldMask d) ≠ []) :
    s.ldErase h d = s.ldErasing h d :=
  (if_neg (not_not.2 hc)).trans (ldNext_of_planes (by rw [modLdr_ldr]; exact hp))

/-! ## LDR_ABORT (R168) -/

theorem exec_ldrAbort (hl : s.live = true) : exec (.ldrAbort h) s = .next (s.ldrAbort h) := whenLive_of_live hl (fun s => s.ldrAbort h)

/-- EN is cleared and ABORT set. -/
def State.ldrStopped (s : State) (h : Half) : State :=
  (s.wf (NV_LDR_RING_CTRL h) NV_LDR_RING_CTRL.EN 0).wf (NV_LDR_RING_CTRL h) NV_LDR_RING_CTRL.ABORT 1

theorem ldrStopped_ctrl (s : State) (h : Half) : (s.ldrStopped h).rf (NV_LDR_RING_CTRL h) NV_LDR_RING_CTRL.EN = 0 ∧
    (s.ldrStopped h).rf (NV_LDR_RING_CTRL h) NV_LDR_RING_CTRL.ABORT = 1 := by
  unfold State.ldrStopped
  simp (disch := decide) only [State.rf_wf_field, State.rf_wf_same, and_self]

theorem ldrStopped_rd (s : State) (h : Half) (ha : a ≠ NV_LDR_RING_CTRL h) : (s.ldrStopped h).rd a = s.rd a :=
  (State.rd_wf_ne _ _ _ (by exact ha)).trans (State.rd_wf_ne _ _ _ (by exact ha))

theorem ldrStopped_half (s : State) (h : Half) : (s.ldrStopped h).half h = s.half h := (State.wf_half ..).trans (State.wf_half ..)

theorem ldrAbort_running (hi : (s.half h).ldr.phase ≠ .idle) (he : (s.half h).ldr.phase ≠ .ended) : s.ldrAbort h =
    if (s.half h).ldr.asked then (s.ldrStopped h).modLdr h (fun l => { l with aborted := true }) else (s.ldrStopped h).ldEnd h 0x2B :=
  if_neg (not_or.2 ⟨hi, he⟩)

/-! ## LDR_DESC_DONE (R168) -/

theorem exec_ldrDescDone (hl : s.live = true) : exec (.ldrDescDone h) s = .next (s.ldFinish h) := whenLive_of_live hl (fun s => s.ldFinish h)

/-- The result fields of a descriptor, from byte 0x28 on (Table 6.6). -/
def ldResult (l : LoaderSt) : List Byte := leBytes 4 (l.result + 256 + l.nvResult * 2 ^ 16) ++ leBytes 4 l.rows ++ leBytes 4 l.pairs ++
  leBytes 4 (if l.result ≤ 1 then l.proved.length else 0) ++ leBytes 4 l.failPlane

theorem ldResult_length (l : LoaderSt) : (ldResult l).length = 20 := by simp [ldResult, leBytes]

/-- HEAD has advanced, and neither BUSY nor ABORT stands. -/
def State.ldrAdvanced (s : State) (h : Half) (hd : Nat) : State := ((s.wf (NV_LDR_HEAD h) NV_LDR_HEAD.HEAD hd).wf (NV_LDR_HEAD h)
  NV_LDR_HEAD.BUSY 0).wf (NV_LDR_RING_CTRL h) NV_LDR_RING_CTRL.ABORT 0

theorem ldrAdvanced_half (s : State) (h x : Half) (hd : Nat) : (s.ldrAdvanced h hd).half x = s.half x := by
  simp only [State.ldrAdvanced, State.wf_half]

theorem ldrAdvanced_head (s : State) (h : Half) {hd : Nat} (hh : hd < 1024) : (s.ldrAdvanced h hd).ldrHead h = hd ∧
    (s.ldrAdvanced h hd).rf (NV_LDR_HEAD h) NV_LDR_HEAD.BUSY = 0 := by
  have hctrl : ∀ {f : Fld}, f.off = 0 → NV_LDR_HEAD h + f.off ≠ NV_LDR_RING_CTRL h + NV_LDR_RING_CTRL.ABORT.off := fun hf => by
    rw [hf]; simp only [NV_LDR_HEAD, NV_LDR_RING_CTRL]; omega
  unfold State.ldrHead State.ldrAdvanced
  rw [State.rf_wf_ne _ _ _ _ (hctrl rfl), State.rf_wf_ne _ _ _ _ (hctrl rfl)]
  constructor
  · simp (disch := decide) only [State.rf_wf_field]
    exact State.rf_wf_same _ _ _ (by decide) hh
  · exact State.rf_wf_same _ _ _ (by decide) (by decide)

/-- A ring has at least one descriptor and at most 1,024. -/
theorem ldrRing_bounds (s : State) (h : Half) : 0 < s.ldrRing h ∧ s.ldrRing h ≤ 1024 := by
  unfold State.ldrRing
  dsimp only
  split
  · next hz => exact ⟨Nat.two_pow_pos _, Nat.pow_le_pow_right Nat.two_pos hz.2⟩
  · decide

/-- The next HEAD. -/
def State.ldrNext (s : State) (h : Half) : Nat := (s.ldrHead h + 1) % s.ldrRing h

theorem ldrNext_lt (s : State) (h : Half) : s.ldrNext h < 1024 :=
  have ⟨h0, h1⟩ := ldrRing_bounds s h
  Nat.lt_of_lt_of_le (Nat.mod_lt _ h0) h1

/-- Where the result fields of the descriptor at HEAD stand in T1. -/
def State.resultPlace (s : State) (h : Half) : Half × Nat := ldrPlace (s.ldrAddr h + 0x28)

/-- Descriptors stand at multiples of 64 bytes, so their result fields at whole words. -/
theorem resultPlace_word (s : State) (h : Half) : (s.resultPlace h).2 = 4 * ((s.resultPlace h).2 / 4) := by
  simp only [State.resultPlace, ldrPlace, State.ldrAddr]; omega

/-- The result fields stand in the ring in T1. -/
def State.resultStored (s : State) (h : Half) : State := s.memPut (s.resultPlace h).1 1 (s.resultPlace h).2 (ldResult (s.half h).ldr)

theorem storeResult (s : State) (h : Half) :
    s.storeBytes (s.resultPlace h).1 1 (s.resultPlace h).2 (ldResult (s.half h).ldr) = s.resultStored h := by
  unfold State.resultStored
  rw [resultPlace_word]
  exact State.storeBytes_whole s _ 1 _ 5 _ (ldResult_length _)

theorem resultStored_memBytes (s : State) (h : Half) :
    (s.resultStored h).memBytes (s.resultPlace h).1 1 (s.resultPlace h).2 20 = ldResult (s.half h).ldr := by
  have e := State.memBytes_memPut s (s.resultPlace h).1 1 (s.resultPlace h).2 (ldResult (s.half h).ldr)
  rwa [ldResult_length] at e

theorem memPut_nv (s : State) (h x : Half) (tier a : Nat) (bs : List Byte) : ((s.memPut x tier a bs).half h).nv = (s.half h).nv := by
  unfold State.memPut
  rcases half_modHalf_cases s h x _ with e | e <;> rw [e]
  split <;> rfl

theorem State.memBytes_congr (x : Half) (e : (t.half x).mem = (s.half x).mem) (tier a len : Nat) :
    t.memBytes x tier a len = s.memBytes x tier a len := by
  unfold State.memBytes; rw [e]

/-- The result fields stand in the ring in T1, HEAD has advanced, and the loader is idle. -/
def State.ldrWritten (s : State) (h : Half) : State := ((s.resultStored h).ldrAdvanced h (s.ldrNext h)).modLdr h (fun _ => {})

/-- Beyond that, the end of a descriptor at most raises the loader's vector. -/
theorem ldFinish_writes (hp : (s.half h).ldr.phase = .ended) (ht : (s.half h).ldr.told = none) (h1 : s.ldrInT1 h = true) :
    (s.ldFinish h).regs = (s.ldrWritten h).regs ∧ ∀ x, (s.ldFinish h).half x = (s.ldrWritten h).half x := by
  have e : s.ldFinish h = if s.on (NV_LDR_RING_CTRL h) NV_LDR_RING_CTRL.IRQ_EN then (s.ldrWritten h).msix 0 (4 + h.num)
      else s.ldrWritten h := by
    unfold State.ldFinish
    rw [ht]
    dsimp only
    rw [if_neg (not_not.2 hp), if_pos h1]
    unfold State.ldrWritten
    rw [← storeResult]
    rfl
  rw [e]
  split
  · exact ⟨msix_regs .., fun x => msix_half ..⟩
  · exact ⟨rfl, fun x => rfl⟩

theorem ldrWritten_head (s : State) (h : Half) : (s.ldrWritten h).ldrHead h = (s.ldrHead h + 1) % s.ldrRing h ∧
    (s.ldrWritten h).rf (NV_LDR_HEAD h) NV_LDR_HEAD.BUSY = 0 := by
  obtain ⟨hhead, hbusy⟩ := ldrAdvanced_head (s.resultStored h) h (ldrNext_lt s h)
  have e : (s.ldrWritten h).regs = ((s.resultStored h).ldrAdvanced h (s.ldrNext h)).regs := modLdr_regs ..
  exact ⟨(State.rf_congr e ..).trans hhead, (State.rf_congr e ..).trans hbusy⟩

theorem ldrWritten_mem (s : State) (h x : Half) : ((s.ldrWritten h).half x).mem = ((s.resultStored h).half x).mem := by
  rw [State.ldrWritten, modLdr_mem, ldrAdvanced_half]

theorem ldrWritten_nv (s : State) (h : Half) : ((s.ldrWritten h).half h).nv = (s.half h).nv := by
  rw [State.ldrWritten, modLdr_nv, ldrAdvanced_half, State.resultStored, memPut_nv]

/-! ## LOAD as a whole -/

/-- A refused LOAD ends with its code; the descriptor's read before it leaves what the statement speaks of. -/
theorem ldLoad_ends {r : State} {chk : Scan} {fault : Bool} (e : r.regs = s.regs) (k : KeepsLoader [] h s r) (hc : s.ldCheck h d ≠ 0) :
    ((r.ldLoad h d image chk fault).half h).ldr = (takenLdr d).ends (s.ldCheck h d) ∧
    (r.ldLoad h d image chk fault).rf (NV_LDR_HEAD h) NV_LDR_HEAD.BUSY = 1 ∧
    ((r.ldLoad h d image chk fault).half h).nv = (s.half h).nv ∧ ((r.ldLoad h d image chk fault).half h).mem = (s.half h).mem ∧
    ∀ a, a ≠ NV_LDR_HEAD h → a ≠ CSW_RQ_STATE h (ldAddress d) → (r.ldLoad h d image chk fault).rd a = s.rd a := by
  have hcode : r.ldCheck h d = s.ldCheck h d := ldCheck_congr e
  rw [ldLoad_refused (hcode ▸ hc), hcode]
  refine ⟨?_, ?_, ?_, ?_, fun a hh hq => ?_⟩
  · rw [ldEnd_ldr, ldTake_half]
  · rw [rf_ldEnd _ _ _ rfl fun q => (ldrReg_ne_rq h q).1, ldTake_busy]
  · rw [ldEnd_nv, ldTake_nv, k.nv]
  · rw [ldEnd_mem, ldTake_mem, k.mem]
  · rw [ldEnd_rd _ _ _ (by rw [ldTake_half]; exact hq), ldTake_rd _ _ _ hh, k.rd a List.not_mem_nil]

/-- The loader of a half that has read all of a packed image. -/
def readLdr (d : List Byte) (planes : List Nat) (image : List Byte) : LoaderSt :=
  { takenLdr d with phase := .program, planes := planes, image := image }

/-- A LOAD of a packed image that host memory gives whole has read it. -/
theorem ldLoad_reads (hc : s.ldCheck h d = 0) (hs : ldSource d = 0) (hro : s.on (JCT_WSET_CTRL h (ldWset d)) JCT_WSET_CTRL.ROUTE = false)
    (hlen : ldLength d ≤ image.length) : ∃ v : State, s.ldLoad h d image {} false = v.ldStep h ∧
      (v.half h).ldr = readLdr d (s.ldAllPlanes h (ldWset d) (ldSlot d) (ldMask d)) (image.take (ldLength d)) ∧
      (v.half h).nv = (s.half h).nv ∧ (v.half h).mem = (s.half h).mem ∧ ∀ n < 512, v.foot h n = s.foot h n := by
  rw [ldLoad_begins hc]
  have hb : ((s.ldBegin h d).half h).ldr = readLdr d (s.ldAllPlanes h (ldWset d) (ldSlot d) (ldMask d)) [] := by
    rw [State.ldBegin, modLdr_ldr, ldTake_half, hro]
    rfl
  have kt := KeepsLoader.t3Get (as := []) (s.ldBegin h d) h h 0 (ldPasid d) (ldAddress d) (ldLength d)
  have e := ldSourceRead_host (s := s.ldBegin h d) (h := h) (image := image) (by rw [hb]; rfl) hs hlen
  refine ⟨_, congrArg (·.ldStep h) e, ?_, ?_, ?_, fun n hn => ?_⟩
  · rw [State.ldAdd, modLdr_ldr, kt.ldr, hb]
    rfl
  · rw [State.ldAdd, modLdr_nv]
    exact kt.nv.trans ((modLdr_nv ..).trans (ldTake_nv ..))
  · rw [State.ldAdd, modLdr_mem]
    exact kt.mem.trans ((modLdr_mem ..).trans (ldTake_mem ..))
  · have hne : JCT_WSET_FOOT h n ≠ NV_LDR_HEAD h := by simp only [JCT_WSET_FOOT, NV_LDR_HEAD]; omega
    have hrd : ∀ a, a ≠ NV_LDR_HEAD h → ((s.ldBegin h d).t3Get h 0 (ldPasid d) (ldAddress d) (ldLength d)).rd a = s.rd a := fun a ha =>
      (kt.rd a List.not_mem_nil).trans ((State.modHalf_rd ..).trans (ldTake_rd _ _ _ ha))
    unfold State.foot State.rf State.ldAdd State.modLdr
    rw [State.modHalf_rd, hrd _ (by exact hne)]

/-- A load that has read a good image of which the mask selects rows programs them. -/
theorem ldStep_readLdr {planes : List Nat} {hd : List Byte} {recs : List (List Byte)} (hv : (s.half h).ldr = readLdr d planes image)
    (hi : ldLength d ≤ image.length) (hg : packedImage image (ldLength d) (s.foot h (ldWset d)).2 .all = .good hd recs (some (true, 0)))
    (hm : maskRecs (ldMask d) recs ≠ []) : ∃ l, ((s.ldStep h).half h).ldr =
      { readLdr d planes image with header := hd, used := min 1024 (maskRecs (ldMask d) recs).length, recs := l } ∧
      ((s.ldStep h).half h).nv.rows = (s.half h).nv.rows ∧ ((s.ldStep h).half h).mem = (s.half h).mem := by
  have hlook : s.ldLook h = .good hd recs (some (true, 0)) :=
    (ldLook_packed (by rw [hv]; rfl) (by rw [hv]; rfl) (by rw [hv]; exact hi)).trans (by rw [hv]; exact hg)
  have e := ldStep_programs (by rw [hv]; rfl) (by rw [hv]; rfl) (by rw [hv]; rfl) (by rw [hv]; rfl) hlook (by rw [hv]; exact hm)
  obtain ⟨u, hu, hldr, hrows, hmem⟩ := ldW7_header (s := s) (h := h) (by rw [hv]; rfl) hd
  obtain ⟨l, hl⟩ := ldList_lists (s.ldW7 h hd) h ((maskRecs (ldMask d) recs).take 1024)
  rw [e, hv]
  refine ⟨l, ?_⟩
  rw [show (readLdr d planes image).desc = d from rfl, hl, hu]
  refine ⟨?_, ?_, ?_⟩
  · rw [modLdr_ldr, modLdr_ldr, hldr, hv]
    simp [readLdr, takenLdr]
  · rw [modLdr_nv, modLdr_nv, hrows]
  · rw [modLdr_mem, modLdr_mem, hmem]

/-! ## The statement -/

/-- Settles O26: a doorbell; a LOAD refused, and one that programs; an ERASE; an ABORT; and the end of a descriptor. -/
theorem loaderRing : Obligations.LoaderRing := by
  refine ⟨?doorbell, ?refused, ?load, ?erase, ?abort, ?done⟩
  case doorbell =>
    intro s h n hl
    exact ⟨_, whenLive_of_live hl (fun s => s.wf (NV_LDR_TAIL h) NV_LDR_TAIL.TAIL n), State.rf_wf _ _ _ _ (by decide),
      onlyRegs_wf (onlyRegs_refl _ s) _ _ _ (by simp)⟩
  case refused =>
    intro s h desc image chk fault hl hm hr ho hc
    obtain ⟨e, k⟩ := ldrRead_whole hr
    refine ⟨_, exec_load hl hm hr ho, ?_⟩
    obtain ⟨hldr, hrest⟩ := ldLoad_ends (image := image) (chk := chk) (fault := fault) e k hc
    rw [hldr]
    exact ⟨rfl, rfl, hrest⟩
  case load =>
    intro s h desc image hd recs hl hm hr ho hs hc hro hlen hg hrecs
    obtain ⟨e, k⟩ := ldrRead_whole hr
    obtain ⟨v, hv, hldr, hnv, hmem, hfoot⟩ := ldLoad_reads (image := image) ((ldCheck_congr e).trans hc) hs
      ((State.on_congr e ..).trans hro) hlen
    have hset : ldWset (s.ldrDesc h desc) < 512 := bits_lt ..
    have hfe : v.foot h (ldWset (s.ldrDesc h desc)) = s.foot h (ldWset (s.ldrDesc h desc)) :=
      (hfoot _ hset).trans (State.foot_congr e ..)
    have hmask : maskRecs (ldMask (s.ldrDesc h desc)) recs ≠ [] := by simpa [maskRecs] using hrecs
    obtain ⟨l, hlist, hrows, hkept⟩ := ldStep_readLdr hldr (by simp [hlen]) (by rw [hfe]; exact hg) hmask
    refine ⟨_, exec_load hl hm hr (by rw [ho]; decide), ?_⟩
    rw [hv, hlist, hrows, hkept, hnv, hmem, k.nv, k.mem]
    exact ⟨rfl, ldAllPlanes_congr e .., rfl, rfl, rfl, rfl, rfl⟩
  case erase =>
    intro s h desc hl hm hr ho hc hp
    obtain ⟨e, k⟩ := ldrRead_whole hr
    have hplanes := ldAllPlanes_congr (h := h) e (ldWset (s.ldrDesc h desc)) (ldSlot (s.ldrDesc h desc)) (ldMask (s.ldrDesc h desc))
    refine ⟨_, exec_eraseSet hl hm hr ho, ?_⟩
    rw [ldErase_begins ((ldCheck_congr e).trans hc) (hplanes ▸ hp), State.ldErasing, hplanes, modLdr_ldr, modLdr_nv, modLdr_mem]
    refine ⟨rfl, rfl, (State.rf_congr (modLdr_regs ..) ..).trans (ldTake_busy ..), fun a ha => ?_, ?_, ?_⟩
    · exact (State.modHalf_rd ..).trans ((ldTake_rd _ _ _ ha).trans (k.rd a List.not_mem_nil))
    · rw [ldTake_nv, k.nv]
    · rw [ldTake_mem, k.mem]
  case abort =>
    intro s h hl hi he
    refine ⟨_, exec_ldrAbort hl, ?_⟩
    rw [ldrAbort_running hi he]
    obtain ⟨hen, habort⟩ := ldrStopped_ctrl s h
    have hhalf := ldrStopped_half s h
    cases ha : (s.half h).ldr.asked with
    | true =>
      rw [if_pos rfl, if_pos rfl, modLdr_ldr, modLdr_nv, hhalf]
      have hregs := modLdr_regs (s.ldrStopped h) h (fun l => { l with aborted := true })
      exact ⟨(State.rf_congr hregs ..).trans hen, (State.rf_congr hregs ..).trans habort, rfl,
        fun a hc _ => (State.rd_congr hregs a).trans (ldrStopped_rd _ _ hc), rfl⟩
    | false =>
      have hctrl := fun f hf => rf_ldEnd (f := f) (s.ldrStopped h) h 0x2B hf fun q => (ldrReg_ne_rq h q).2
      rw [if_neg Bool.false_ne_true, if_neg Bool.false_ne_true, ldEnd_ldr, ldEnd_nv, hhalf, hctrl _ rfl, hctrl _ rfl]
      exact ⟨hen, habort, ⟨rfl, rfl⟩, fun a hc hq => (ldEnd_rd _ _ _ (by rw [hhalf]; exact hq)).trans (ldrStopped_rd _ _ hc), rfl⟩
  case done =>
    intro s h hl hp ht h1
    obtain ⟨hregs, hhalf⟩ := ldFinish_writes hp ht h1
    obtain ⟨hhead, hbusy⟩ := ldrWritten_head s h
    refine ⟨_, exec_ldrDescDone hl, ?_, (State.rf_congr hregs ..).trans hhead, (State.rf_congr hregs ..).trans hbusy, ?_, ?_⟩
    · rw [hhalf]
      exact modLdr_ldr ..
    · refine (State.memBytes_congr _ ?_ ..).trans (resultStored_memBytes s h)
      rw [hhalf, ldrWritten_mem]
    · rw [hhalf, ldrWritten_nv]

end Sys2Proof.Machine
end

section
/-! PROOF. What a unit's reads and stores (R232 to R235), its marks on nodes, wake requests and records leave of the home table, of the counters of the
Plaza and the registers of the Sidestreet, of the bytes of T1 and T2, and of the nodes. -/

namespace Sys2Proof.Machine

variable {s t u : State} {h x : Half} {a d : Nat} {f : Fld} {r q : NodeRef} {o : Obj}

/-! ## Nodes after a change of one node -/

theorem State.graph_modGraph (s : State) (c g d e : Nat) {F : Graph → Graph} (hF : ∀ y, (F y).ctx = y.ctx ∧ (F y).gid = y.gid) :
    (s.modGraph c g F).graph d e = (s.graph d e).map (fun y => if y.ctx == c && y.gid == g then F y else y) := by
  have hkey : ((fun y : Graph => y.ctx == d && y.gid == e) ∘ fun y => if y.ctx == c && y.gid == g then F y else y) =
      fun y => y.ctx == d && y.gid == e := by
    funext y
    dsimp only [Function.comp]
    split
    · rw [(hF y).1, (hF y).2]
    · rfl
  unfold State.graph State.modGraph
  rw [List.find?_map, hkey]

/-- A change of one node changes that node alone. -/
theorem State.node_modNode (s : State) (r q : NodeRef) (F : Node → Node) :
    ((s.modNode r F).node q).map Prod.snd = (s.node q).map (fun y => if q = r then F y.2 else y.2) := by
  unfold State.node State.modNode
  rw [State.graph_modGraph _ _ _ _ _ (by exact fun _ => ⟨rfl, rfl⟩)]
  cases hg : s.graph q.ctx q.gid with
  | none => rfl
  | some y =>
    obtain ⟨hc, hi⟩ : y.ctx = q.ctx ∧ y.gid = q.gid := by simpa using List.find?_some hg
    have hq : q = r ↔ (q.ctx = r.ctx ∧ q.gid = r.gid) ∧ r.node = q.node := by
      cases q; cases r; simp [and_assoc, eq_comm]
    simp only [Option.map_some, hc, hi]
    by_cases hm : q.ctx = r.ctx ∧ q.gid = r.gid
    · rw [if_pos (by simpa using hm)]
      simp only [List.getElem?_modify]
      cases y.nodes[q.node]? <;> by_cases hn : r.node = q.node <;> simp [hq, hm, hn]
    · rw [if_neg (by simpa using hm)]
      cases y.nodes[q.node]? <;> simp [hq, hm]

/-- The node a reference names, without the graph. -/
def State.nodeAt (s : State) (r : NodeRef) : Option Node := (s.node r).map Prod.snd

theorem State.nodeAt_modNode (s : State) (r q : NodeRef) (F : Node → Node) :
    (s.modNode r F).nodeAt q = (s.nodeAt q).map (fun n => if q = r then F n else n) :=
  (State.node_modNode ..).trans (by unfold State.nodeAt; rw [Option.map_map]; rfl)

theorem State.nodeAt_congr (e : t.graphs = s.graphs) (r : NodeRef) : t.nodeAt r = s.nodeAt r := by
  unfold State.nodeAt State.node State.graph; rw [e]

theorem State.nodeAt_of_node {g : Graph} {n : Node} (hn : s.node r = some (g, n)) : s.nodeAt r = some n := congrArg (Option.map Prod.snd) hn

/-- A node without the statuses it is marked with and what it holds of its correction set. -/
def Node.steady (n : Node) : Node := { n with prim := 0, flags := 0, setBound := false, late := false }

/-- Nodes are at most marked, bound to a correction set, or late for it. -/
def sameNodes (s t : State) : Prop := ∀ q, (t.nodeAt q).map Node.steady = (s.nodeAt q).map Node.steady

theorem sameNodes_trans (k : sameNodes s t) (l : sameNodes t u) : sameNodes s u := fun q => (l q).trans (k q)

theorem sameNodes_of_graphs (e : t.graphs = s.graphs) : sameNodes s t := fun q => by rw [State.nodeAt_congr e]

theorem sameNodes_modNode (s : State) (r : NodeRef) {F : Node → Node} (hF : ∀ n, (F n).steady = n.steady) : sameNodes s (s.modNode r F) :=
  fun q => by
    rw [State.nodeAt_modNode, Option.map_map]
    refine congrArg (Option.map · _) (funext fun n => ?_)
    dsimp only [Function.comp]
    split
    · exact hF n
    · rfl

/-- What marks and sets do not touch of a node stays. -/
theorem sameNodes_get {α : Type} (k : sameNodes s t) {F : Node → α} (hF : ∀ n, F n.steady = F n) (r : NodeRef) :
    (t.nodeAt r).map F = (s.nodeAt r).map F := by
  have e := congrArg (Option.map F) (k r)
  simpa only [Option.map_map, Function.comp_def, hF] using e

/-- A unit that is done with a running node ends it (R287). -/
theorem nodeAt_endNode {p : Nat} (hr : (s.nodeAt r).map Node.phase = some .running) :
    ((s.endNode r p).nodeAt r).map Node.phase = some .ended := by
  obtain ⟨n, hn, hp⟩ := Option.map_eq_some_iff.1 hr
  rw [State.endNode, State.nodeAt_modNode, hn]
  simp [hp]

/-! ## What a unit's work keeps -/

/-- Addresses of a half's home table, and from the Plaza's operation count on to the end of the Sidestreet's registers. -/
def unitReg (a : Nat) : Prop :=
  0x500000 ≤ a % 0x02000000 ∧ a % 0x02000000 < 0x600000 ∨ 0x800008 ≤ a % 0x02000000 ∧ a % 0x02000000 < 0xA00000

theorem unitReg_iff (h : Half) (n : Nat) (hn : n < 0x02000000) :
    unitReg (h.base + n) ↔ 0x500000 ≤ n ∧ n < 0x600000 ∨ 0x800008 ≤ n ∧ n < 0xA00000 := by
  cases h <;> simp only [unitReg, Half.base] <;> omega

/-- A half without the sequence number of its log, the words of its memory known to be uncorrectable, and its rings. -/
def HalfState.steady (y : HalfState) : HalfState := { y with logSeq := 0, rings := [], mem := { y.mem with badT1 := [], badT2 := [] } }

/-- Those registers, the halves as far as they are steady, and the nodes but for their marks. -/
structure KeepsUnit (s t : State) : Prop where
  rd : ∀ a, unitReg a → t.rd a = s.rd a
  half : ∀ h, (t.half h).steady = (s.half h).steady
  nodes : sameNodes s t

namespace KeepsUnit

theorem refl (s : State) : KeepsUnit s s := ⟨fun _ _ => rfl, fun _ => rfl, fun _ => rfl⟩

theorem trans (k : KeepsUnit s t) (l : KeepsUnit t u) : KeepsUnit s u where
  rd a ha := (l.rd a ha).trans (k.rd a ha)
  half h := (l.half h).trans (k.half h)
  nodes := sameNodes_trans k.nodes l.nodes

theorem ite {p : Prop} [Decidable p] (k : KeepsUnit s t) (l : KeepsUnit s u) : KeepsUnit s (if p then t else u) := by
  split
  · exact k
  · exact l

theorem foldl_mem {β : Type} {F : State → β → State} {l : List β} (hF : ∀ b ∈ l, ∀ t, KeepsUnit t (F t b)) (s : State) :
    KeepsUnit s (l.foldl F s) := by
  induction l generalizing s with
  | nil => exact refl s
  | cons b l ih => exact (hF b List.mem_cons_self s).trans (ih (fun c hc => hF c (List.mem_cons_of_mem b hc)) _)

theorem foldl {β : Type} {F : State → β → State} (hF : ∀ t b, KeepsUnit t (F t b)) (l : List β) (s : State) : KeepsUnit s (l.foldl F s) :=
  foldl_mem (fun b _ t => hF t b) s

theorem rf (k : KeepsUnit s t) (ha : unitReg (a + f.off)) : t.rf a f = s.rf a f := by
  unfold State.rf; rw [k.rd _ ha]

theorem t1 (k : KeepsUnit s t) (h : Half) : (t.half h).mem.t1 = (s.half h).mem.t1 := (congrArg (fun y => y.mem.t1) (k.half h) :)
theorem t2 (k : KeepsUnit s t) (h : Half) : (t.half h).mem.t2 = (s.half h).mem.t2 := (congrArg (fun y => y.mem.t2) (k.half h) :)

theorem memBytes (k : KeepsUnit s t) (h : Half) (tier a len : Nat) : t.memBytes h tier a len = s.memBytes h tier a len := by
  unfold State.memBytes; rw [k.t1, k.t2]

theorem objRead (k : KeepsUnit s t) (o : Obj) (off len : Nat) : t.objRead o off len = s.objRead o off len := k.memBytes ..

/-! ## Single changes -/

theorem of_rest (hr : t.regs = s.regs) (hh : ∀ h, t.half h = s.half h) (hg : t.graphs = s.graphs) : KeepsUnit s t where
  rd a _ := by unfold State.rd; rw [hr]
  half h := by rw [hh h]
  nodes := sameNodes_of_graphs hg

theorem wf {v : Nat} (s : State) (ha : ¬unitReg (a + f.off)) : KeepsUnit s (s.wf a f v) where
  rd b hb := State.rd_wf_ne _ _ _ (by rintro rfl; exact ha hb)
  half h := by rw [State.wf_half]
  nodes := sameNodes_of_graphs rfl

theorem modNode (s : State) (r : NodeRef) {F : Node → Node} (hF : ∀ n, (F n).steady = n.steady) : KeepsUnit s (s.modNode r F) where
  rd _ _ := rfl
  half _ := rfl
  nodes := sameNodes_modNode s r hF

theorem markNode (s : State) (r : NodeRef) (p : Nat) : KeepsUnit s (s.markNode r p) := modNode s r fun _ => rfl

theorem modHalf (s : State) (h : Half) {F : HalfState → HalfState} (hF : ∀ y, (F y).steady = y.steady) : KeepsUnit s (s.modHalf h F) where
  rd _ _ := State.modHalf_rd ..
  half x := by
    rcases half_modHalf_cases s x h F with e | e <;> rw [e]
    exact hF _
  nodes := sameNodes_of_graphs (State.modHalf_graphs ..)

theorem of_sameHalves (hr : ∀ a, unitReg a → t.rd a = s.rd a) (hh : sameHalves s t) (hg : t.graphs = s.graphs) : KeepsUnit s t where
  rd := hr
  half x := by rw [← hh x]; rfl
  nodes := sameNodes_of_graphs hg

theorem log (s : State) (h : Half) (q : LogReq) (hc : q.cls < 64) : KeepsUnit s (s.log h q) :=
  of_sameHalves (fun a ha => rd_of_onlyLogged (log_onlyLogged s h q hc) (by simp) (by unfold unitReg at ha; omega)) (sameHalves_log s h q hc)
    (onlyLogged_graphs (log_onlyLogged s h q hc))

/-! ## A unit's read (R231 to R235) -/

/-- The registers that count what checkers find lie below the home table. -/
theorem not_unitReg_low (h : Half) {n : Nat} (hn : n < 0x500000) : ¬unitReg (h.base + n) := by
  rw [unitReg_iff] <;> omega

theorem wfLow {v : Nat} (s : State) {a : Nat} (hn : a < 0x500000) (hf : f.off = 0) : KeepsUnit s (s.wf (x.base + a) f v) :=
  wf s (by rw [hf]; exact not_unitReg_low x hn)

theorem markBad (s : State) (tier n : Nat) : KeepsUnit s (s.markBad x tier n) :=
  modHalf s x fun y => by split <;> split <;> rfl

theorem scanCount (s : State) (tier : Nat) (c : Scan) : KeepsUnit s (s.scanCount x tier c) := by
  have hreplay : KeepsUnit s (if c.replayed = 0 then s else s.add (MEM_PARITY_REPLAY x) MEM_PARITY_REPLAY.REPLAYS c.replayed) :=
    ite (refl s) (wfLow s (by decide) rfl)
  exact ite hreplay (hreplay.trans ((wfLow _ (by decide) rfl).trans (wfLow _ (by decide) rfl)))

theorem findBad (s : State) (tier n len : Nat) (offs : List Nat) : KeepsUnit s (s.findBad x tier n len offs) := foldl (fun t _ => markBad t ..) _ _

theorem countBad (s : State) (tier n : Nat) : KeepsUnit s (s.countBad x tier n) :=
  ite (refl s) (ite ((wfLow s (by decide) rfl).trans (wfLow _ (by decide) rfl)) ((wfLow s (by decide) rfl).trans (wfLow _ (by decide) rfl)))

theorem logWord (s : State) (tier w n : Nat) : KeepsUnit s (s.logWord x tier w n) := log _ _ _ (by simp [logData])

theorem checkRead (s : State) (o : Obj) (off len : Nat) (chk : Scan) : KeepsUnit s (s.checkRead o off len chk).1 :=
  (((scanCount ..).trans (findBad ..)).trans (countBad ..)).trans (foldl (fun t _ => logWord t ..) _ _)

theorem unitRead (s : State) (r : NodeRef) (o : Obj) (off len : Nat) (chk : Scan) : KeepsUnit s (s.unitRead r o off len chk).1 := by
  have hread : KeepsUnit s (if min len (o.size - off) = 0 then (s, false) else s.checkRead o off (min len (o.size - off)) chk).1 := by
    split
    · exact refl s
    · exact checkRead ..
  exact (hread.trans (ite (markNode ..) (refl _))).trans (of_rest rfl (fun h => by cases h <;> rfl) rfl)

end KeepsUnit

/-- Inside an object a unit reads the object's bytes. -/
theorem unitRead_inside (s : State) (r : NodeRef) {o : Obj} {off len : Nat} (chk : Scan) (hlen : off + len ≤ o.size) :
    (s.unitRead r o off len chk).2 = s.objRead o off len := by
  have hin : min len (o.size - off) = len := by omega
  simp [State.unitRead, hin]

/-! ## Objects (R207, R222) -/

theorem unitReg_home (h : Half) {i : Nat} (hi : i < 32768) (hf : f.off < 32) : unitReg (MEM_HOME h i + f.off) := by
  rw [MEM_HOME, Nat.add_assoc, Nat.add_assoc, unitReg_iff] <;> omega

theorem objAt_congr (k : KeepsUnit s t) (h : Half) {i : Nat} (hi : i < 32768) : t.objAt h i = s.objAt h i := by
  have hrf : ∀ f : Fld, f.off < 32 → t.rf (MEM_HOME h i) f = s.rf (MEM_HOME h i) f := fun f hf => k.rf (unitReg_home h hi hf)
  unfold State.objAt State.objSize
  rw [hrf _ (by decide), hrf _ (by decide), hrf _ (by decide), hrf _ (by decide)]

/-- The home that the node keeps for a handle, if it keeps one. -/
def Node.homeOf (v : Nat) (n : Node) : Option (Nat × Nat × Nat) := n.homes.find? (fun x => x.1 == v)

/-- An object at the home that a node keeps for it. -/
def Obj.atHome (o : Obj) (m : Option (Nat × Nat × Nat)) : Obj := m.elim o fun x => { o with tier := x.2.1, addr := x.2.2 }

theorem nodeObj_eq (s : State) (r : NodeRef) (v : Nat) :
    s.nodeObj r v = (s.objAt (handleHalf v) (handleIdx v)).atHome ((s.nodeAt r).map (Node.homeOf v)).join := by
  unfold State.nodeObj State.nodeAt
  cases s.node r with
  | none => rfl
  | some p =>
    simp only [Option.map_some, Option.join_some, Node.homeOf]
    cases p.2.homes.find? (fun x => x.1 == v) <;> rfl

/-- An object of a node stays where it is while units read and count. -/
theorem nodeObj_congr (k : KeepsUnit s t) (r : NodeRef) (v : Nat) : t.nodeObj r v = s.nodeObj r v := by
  have ho : t.objAt (handleHalf v) (handleIdx v) = s.objAt (handleHalf v) (handleIdx v) := objAt_congr k _ (plane_lt v)
  rw [nodeObj_eq, nodeObj_eq, sameNodes_get k.nodes (fun _ => rfl), ho]

end Sys2Proof.Machine
end

section
/-! PROOF. The Plaza's operations (R182 to R185, R189, R191): each reads its operands, puts its result into the output object and is done with it. -/

namespace Sys2Proof.Machine

variable {s t u : State} {h : Half} {r : NodeRef} {op : List Byte} {o : Obj} {bs : List Byte} {n : Nat} {f : Fld}

/-! ## Strings of bytes -/

@[simp] theorem leBytes_length (k n : Nat) : (leBytes k n).length = k := by
  induction k generalizing n with
  | zero => rfl
  | succ k ih => rw [leBytes, List.length_cons, ih]

/-- A string made of pieces of one length. -/
theorem length_flatMap_const {α : Type} {f : α → List Byte} (hf : ∀ x, (f x).length = n) (l : List α) : (l.flatMap f).length = l.length * n := by
  simp only [List.length_flatMap, hf, List.map_const', List.sum_replicate, smul_eq_mul]

/-! ## What a unit's store leaves in the object -/

/-- A store of whole words inside an object reads back. -/
theorem unitWrite_reads (s : State) {off : Nat} (hsize : off + bs.length ≤ o.size) (hw : partWords (wordBytes o.tier) (o.addr + off) bs.length = []) :
    s.unitWrite o off bs = s.memPut o.half o.tier (o.addr + off) bs ∧ (s.unitWrite o off bs).objRead o off bs.length = bs := by
  have hput : s.unitWrite o off bs = s.memPut o.half o.tier (o.addr + off) bs := by
    rw [State.unitWrite, List.take_of_length_le (by omega)]
    exact State.storeBytes_clean _ _ _ _ _ hw
  refine ⟨hput, ?_⟩
  rw [hput]
  exact State.memBytes_memPut ..

/-- The Plaza has put its result into the object. -/
def State.wrote (s : State) (h : Half) (o : Obj) (bs : List Byte) : State := (s.unitWrite o 0 bs).modPlaza h (fun x => { x with written := true })

theorem mem_modPlaza (s : State) (h x : Half) (F : PlazaSt → PlazaSt) : ((s.modPlaza h F).half x).mem = (s.half x).mem := by
  unfold State.modPlaza
  rcases half_modHalf_cases s x h _ with e | e <;> rw [e]

theorem wrote_reads (s : State) (h : Half) (hlen : bs.length = n) (hsize : n ≤ o.size) (hw : partWords (wordBytes o.tier) (o.addr + 0) n = []) :
    (s.wrote h o bs).objRead o 0 n = bs ∧ ((s.wrote h o bs).half h).plaza.written = true := by
  subst hlen
  constructor
  · exact (State.memBytes_congr _ (mem_modPlaza ..) ..).trans (unitWrite_reads s (by omega) hw).2
  · rw [State.wrote, State.modPlaza, State.half_modHalf_same]

/-! ## Rows of the result (R185, R189) -/

/-- The Plaza's event bits lie before its counters. -/
theorem KeepsUnit.plzEvent (s : State) (h : Half) (hf : f.off = 0) (v : Nat) : KeepsUnit s (s.wf (PLZ_EVENT h) f v) :=
  .wf s (by rw [hf, PLZ_EVENT, Nat.add_assoc, unitReg_iff] <;> omega)

theorem KeepsUnit.rowEvents (s : State) (h : Half) (g : Nat) (x : TailOut) : KeepsUnit s (s.rowEvents h g x) := by
  have hrange := KeepsUnit.ite (p := (x.vals.map (convertOut g)).any (fun c => c.range) = true) (plzEvent s h (f := PLZ_EVENT.FP_RANGE) rfl 1) (.refl s)
  have hnan := hrange.trans (.ite (p := (x.vals.map (convertOut g)).any (fun c => c.nan) = true) (plzEvent _ h (f := PLZ_EVENT.NAN_OUT) rfl 1) (.refl _))
  exact hnan.trans (.ite (plzEvent _ h rfl 1) (.refl _))

/-- A row as BF16. -/
def bf16Row (xs : List Nat) : List Byte := xs.flatMap (fun x => leBytes 2 (convertOut 7 x).code)

theorem bf16Row_length (xs : List Nat) : (bf16Row xs).length = 2 * xs.length :=
  (length_flatMap_const (fun _ => leBytes_length ..) xs).trans (Nat.mul_comm ..)

/-- A row that no TOPK has cut goes out in BF16 as its converted values (R185). -/
theorem rowBytes_bf16 (s : State) (xs : List Nat) : s.rowBytes 7 { vals := xs } = (s, bf16Row xs) := by
  have hk : fmtOutKnown 7 = true := by decide
  simp [State.rowBytes, hk, bf16Row, List.flatMap_map, fmtBits]

/-- An operation without functions has no tail. -/
theorem opChain_of_func (hf : opFunc op = 0) : opChain op = [] := by simp [opChain, hf, bits]

theorem run_of_func (hf : opFunc op = 0) {x : Tail} (hx : x.op = op) (m : Nat) (xs : List Nat) : x.run m xs = { vals := xs } := by
  simp [Tail.run, hx, opChain_of_func hf]

/-- One row without tail, put out in BF16. -/
theorem putRows_bf16 (s : State) (hf : opFunc op = 0) (hout : opOutFmt op = 7) (xs : List Nat) :
    ∃ u : State, s.putRows h r op [xs] = u.wrote h (s.nodeObj r (opOut op)) (bf16Row xs) := by
  refine ⟨s.rowEvents h 7 { vals := xs }, ?_⟩
  unfold State.putRows
  simp only [List.length_singleton, List.range_one, List.foldl_cons, List.foldl_nil, hout, run_of_func hf, List.getD_cons_zero, rowBytes_bf16]
  rfl

/-- The sums of products of two INT8 matrices, `m` rows and `n` columns of length `k`, as INT32 (R184). -/
def intProduct (m n k : Nat) (a b : List Byte) : List Byte := (List.range m).flatMap fun i => (List.range n).flatMap fun j =>
  leBytes 4 (unsigned 32 (dotInt (fun x => signed 8 (elemCode 9 a (i * k + x))) (fun x => signed 8 (elemCode 9 b (j * k + x))) k).1)

theorem intProduct_length (m n k : Nat) (a b : List Byte) : (intProduct m n k a b).length = 4 * (m * n) := by
  have hrow : ∀ i, ((List.range n).flatMap fun j => leBytes 4 (unsigned 32 (dotInt (fun x => signed 8 (elemCode 9 a (i * k + x)))
      (fun x => signed 8 (elemCode 9 b (j * k + x))) k).1)).length = n * 4 := fun i => by
    rw [length_flatMap_const (fun _ => leBytes_length ..), List.length_range]
  rw [intProduct, length_flatMap_const hrow, List.length_range, ← Nat.mul_assoc, Nat.mul_comm]

/-- An INT8 MATMUL into INT32 puts out its accumulators. -/
theorem product_ints (s : State) (ha : opAFmt op = 9) (hout : opOutFmt op = 11) (a b : List Byte) (b' : Nat → Nat → Fp) :
    ∃ u : State, s.product h r op a (fun j x => signed 8 (elemCode 9 b (j * opK op + x))) b' =
      u.wrote h (s.nodeObj r (opOut op)) (intProduct (opM op) (opN op) (opK op) a b) := by
  set rows := (List.range (opM op)).map (fun i => (List.range (opN op)).map (fun j =>
    dotInt (fun x => signed 8 (elemCode 9 a (i * opK op + x))) (fun x => signed 8 (elemCode 9 b (j * opK op + x))) (opK op))) with hrows
  set s1 := if rows.any (fun l => l.any Prod.snd) then s.wf (PLZ_EVENT h) PLZ_EVENT.INT_SAT 1 else s with hs1
  have k : KeepsUnit s s1 := .ite (.plzEvent s h rfl 1) (.refl s)
  have e : s.product h r op a (fun j x => signed 8 (elemCode 9 b (j * opK op + x))) b' = s1.putInts h r op (rows.map (fun l => l.map Prod.fst)) := by
    unfold State.product
    simp only [ha, hout, if_true]
    rfl
  refine ⟨s1, ?_⟩
  rw [e, State.putInts, nodeObj_congr k, hrows]
  simp only [List.flatMap_map]
  rfl

/-! ## Operands (R181) -/

theorem operandBytes_int8 (m k : Nat) : operandBytes 9 m k = m * k := by
  simp [operandBytes, elemBytes, fmtMx, fmtBits, ceilDiv]; omega

theorem operandBytes_bf16 (m k : Nat) : operandBytes 7 m k = 2 * (m * k) := by
  simp [operandBytes, elemBytes, fmtMx, fmtBits, ceilDiv]; omega

theorem KeepsUnit.operand (s : State) (r : NodeRef) (v f m n : Nat) : KeepsUnit s (s.operand r v f m n).1 := .unitRead ..

/-- An operand inside its object is read as it stands. -/
theorem operand_inside (k : KeepsUnit s t) (r : NodeRef) (v f : Nat) {m n : Nat} (hsize : operandBytes f m n ≤ (s.nodeObj r v).size) :
    (t.operand r v f m n).2 = s.objRead (s.nodeObj r v) 0 (operandBytes f m n) := by
  rw [State.operand, nodeObj_congr k, unitRead_inside _ _ _ (by omega), k.objRead]

/-- The rows of `n` elements that a BF16 table of `size` bytes has, and the bytes they fill. -/
theorem tableRows_bf16 (size : Nat) (hn : 0 < n) :
    8 * size / max 1 (n * fmtBits 7 + (if fmtMx 7 then 8 * ceilDiv n 32 else 0)) = size / (2 * n) := by
  have hbits : max 1 (n * fmtBits 7 + (if fmtMx 7 then 8 * ceilDiv n 32 else 0)) = 8 * (2 * n) := by
    simp [fmtMx, fmtBits]; omega
  rw [hbits, Nat.mul_div_mul_left _ _ (by decide)]

theorem table_bf16_le (size n : Nat) : operandBytes 7 (size / (2 * n)) n ≤ size := by
  calc operandBytes 7 (size / (2 * n)) n = size / (2 * n) * (2 * n) := by rw [operandBytes_bf16]; ring
    _ ≤ size := Nat.div_mul_le_self ..

/-! ## MATMUL, GATHER and VECTOR -/

/-- With A and B in their objects, MATMUL puts out the sums of their products (R182). -/
theorem matmulPlain_ints (s : State) (ha : opAFmt op = 9) (hb : opBFmt op = 9) (hout : opOutFmt op = 11)
    (hasize : opM op * opK op ≤ (s.nodeObj r (opA op)).size) (hbsize : opN op * opK op ≤ (s.nodeObj r (opB op)).size) :
    ∃ u : State, s.matmulPlain h r op = u.wrote h (s.nodeObj r (opOut op)) (intProduct (opM op) (opN op) (opK op)
      (s.objRead (s.nodeObj r (opA op)) 0 (opM op * opK op)) (s.objRead (s.nodeObj r (opB op)) 0 (opN op * opK op))) := by
  have k : KeepsUnit s (s.operand r (opA op) (opAFmt op) (opM op) (opK op)).1 := .operand ..
  have l := k.trans (.operand _ r (opB op) (opBFmt op) (opN op) (opK op))
  have hadata := operand_inside (.refl s) r (opA op) 9 ((operandBytes_int8 ..).trans_le hasize)
  have hbdata := operand_inside k r (opB op) 9 ((operandBytes_int8 ..).trans_le hbsize)
  rw [operandBytes_int8, ← ha] at hadata
  rw [operandBytes_int8, ← hb] at hbdata
  rw [← hadata, ← hbdata, ← nodeObj_congr l]
  exact product_ints _ ha hout ..

/-- One row of a VECTOR without tail is converted (R189). -/
theorem vectorRun_bf16 (s : State) (hm : opM op = 1) (hf : opFunc op = 0) (hout : opOutFmt op = 7)
    (hsize : operandBytes (opAFmt op) 1 (opN op) ≤ (s.nodeObj r (opA op)).size) :
    ∃ u : State, s.vectorRun h r op = u.wrote h (s.nodeObj r (opOut op)) (bf16Row ((List.range (opN op)).map fun j =>
      (operandAt (opAFmt op) 1 (opN op) (s.objRead (s.nodeObj r (opA op)) 0 (operandBytes (opAFmt op) 1 (opN op))) 0 j).bits32)) := by
  have k : KeepsUnit s (s.operand r (opA op) (opAFmt op) 1 (opN op)).1 := .operand ..
  rw [← operand_inside (.refl s) r (opA op) (opAFmt op) hsize, ← nodeObj_congr k]
  unfold State.vectorRun
  rw [hm]
  exact putRows_bf16 _ hf hout _

/-- The row of a BF16 table that the index names goes out converted (R191). -/
theorem gatherRun_bf16 (s : State) {i : Nat} (hm : opM op = 1) (hb : opBFmt op = 7) (hout : opOutFmt op = 7) (hn : 0 < opN op)
    (hasize : 4 ≤ (s.nodeObj r (opA op)).size) (hi : i = u32 (s.objRead (s.nodeObj r (opA op)) 0 4) 0)
    (hrow : i < (s.nodeObj r (opB op)).size / (2 * opN op)) :
    ∃ u : State, s.gatherRun h r op = u.wrote h (s.nodeObj r (opOut op)) (bf16Row ((List.range (opN op)).map fun j =>
      (operandAt 7 ((s.nodeObj r (opB op)).size / (2 * opN op)) (opN op) (s.objRead (s.nodeObj r (opB op)) 0
        (operandBytes 7 ((s.nodeObj r (opB op)).size / (2 * opN op)) (opN op))) i j).bits32)) := by
  set tb := s.nodeObj r (opB op) with htb
  set rows := tb.size / (2 * opN op) with hrows
  have hrows' : 8 * tb.size / max 1 (opN op * fmtBits 7 + (if fmtMx 7 then 8 * ceilDiv (opN op) 32 else 0)) = rows := tableRows_bf16 _ hn
  have htable : operandBytes 7 rows (opN op) ≤ tb.size := table_bf16_le ..
  set pi := s.unitRead r (s.nodeObj r (opA op)) 0 (4 * 1) {} with hpi
  have k : KeepsUnit s pi.1 := .unitRead ..
  have hidx : u32 pi.2 0 = i := by rw [hi, hpi, unitRead_inside _ _ _ (by omega)]
  set pt := pi.1.unitRead r tb 0 (operandBytes 7 rows (opN op)) {} with hpt
  have l : KeepsUnit s pt.1 := k.trans (.unitRead ..)
  have hdata : pt.2 = s.objRead tb 0 (operandBytes 7 rows (opN op)) := by rw [hpt, unitRead_inside _ _ _ (by omega), k.objRead]
  have hknown : fmtOutKnown 7 = true := by decide
  rw [← hdata, ← nodeObj_congr l]
  refine ⟨pt.1.rowEvents h 7 { vals := (List.range (opN op)).map fun j => (operandAt 7 rows (opN op) pt.2 i j).bits32 }, ?_⟩
  unfold State.gatherRun
  simp only [hm, hb, hout, hrows', ← hpi, ← htb, ← hpt, List.range_one, List.map_cons, List.map_nil, Nat.mul_zero, hidx, List.any_cons, List.any_nil,
    Bool.or_false, decide_eq_true_eq, if_neg (Nat.not_le.2 hrow), hknown, Nat.reduceEqDiff, decide_false, Bool.not_true, Bool.and_false,
    Bool.false_eq_true, if_false, List.foldl_cons, List.foldl_nil, rowBytes_bf16]
  rfl

theorem bf16Row_map {α : Type} (f : α → Nat) (l : List α) : bf16Row (l.map f) = l.flatMap fun j => leBytes 2 (convertOut 7 (f j)).code :=
  List.flatMap_map ..

/-! ## Commands -/

section
variable (hl : s.live = true)
include hl

theorem exec_matmul (hp : s.plazaOp h 1 = some (r, op)) (hg : s.power.gateOpen = true) : exec (.matmul h) s =
    .next (if (s.half h).plaza.fallback then s.fallbackGo h r op else if opStreamed op then s.matmulStream h r op else s.matmulPlain h r op) := by
  show execMatmul h s = _
  rw [execMatmul, whenLive_of_live hl, hp]
  simp [hg]

theorem exec_gather (hp : s.plazaOp h 2 = some (r, op)) : exec (.gather h) s = .next (s.gatherRun h r op) := by
  show execGather h s = _
  rw [execGather, whenLive_of_live hl, hp]

theorem exec_vector (hp : s.plazaOp h 3 = some (r, op)) : exec (.vector h) s = .next (s.vectorRun h r op) := by
  show execVector h s = _
  rw [execVector, whenLive_of_live hl, hp]

/-- A Plaza that has no result to form does nothing. -/
theorem exec_plaza_none (hp : ∀ kind, s.plazaOp h kind = none) : exec (.matmul h) s = .next s ∧ exec (.gather h) s = .next s ∧
    exec (.vector h) s = .next s ∧ exec (.lowrankFallback h) s = .next s := by
  refine ⟨?matmul, ?gather, ?vector, ?fallback⟩
  case matmul => show execMatmul h s = _; rw [execMatmul, whenLive_of_live hl, hp]
  case gather => show execGather h s = _; rw [execGather, whenLive_of_live hl, hp]
  case vector => show execVector h s = _; rw [execVector, whenLive_of_live hl, hp]
  case fallback => show execLowrankFallback h s = _; rw [execLowrankFallback, whenLive_of_live hl, hp]

end

theorem plazaOp_of_written (hw : (s.half h).plaza.written = true) (kind : Nat) : s.plazaOp h kind = none := by
  unfold State.plazaOp
  split
  · rfl
  · split
    · exact if_neg fun ⟨_, _, hn⟩ => by simp [hw] at hn
    · rfl

/-- Settles O36: each operation reads its operands as they stand, stores its result whole and is then done with it. -/
theorem plazaOperations : Obligations.PlazaOperations := by
  unfold Obligations.PlazaOperations
  refine ⟨?matmul, ?gather, ?vector, ?once⟩
  case matmul =>
    intro s h r op hl hp hstr hg hfb ha hb hout hasize hbsize hsize hw
    obtain ⟨u, e⟩ := matmulPlain_ints (h := h) s ha hb hout hasize hbsize
    refine ⟨_, exec_matmul hl hp hg, ?_⟩
    rw [hfb, hstr, if_neg Bool.false_ne_true, if_neg Bool.false_ne_true, e]
    exact wrote_reads u h (intProduct_length ..) hsize hw
  case gather =>
    intro s h r op i hl hp hm hb hout hn hasize hsize hi hrow hw
    obtain ⟨u, e⟩ := gatherRun_bf16 (h := h) s hm hb hout hn hasize hi hrow
    refine ⟨_, exec_gather hl hp, ?_⟩
    rw [e, ← bf16Row_map]
    exact wrote_reads u h ((bf16Row_length _).trans (by simp)) hsize hw
  case vector =>
    intro s h r op hl hp hm hf hout hasize hsize hw
    obtain ⟨u, e⟩ := vectorRun_bf16 (h := h) s hm hf hout hasize
    refine ⟨_, exec_vector hl hp, ?_⟩
    rw [e, ← bf16Row_map]
    exact wrote_reads u h ((bf16Row_length _).trans (by simp)) hsize hw
  case once => exact fun s h hl hw => exec_plaza_none hl (plazaOp_of_written hw)

end Sys2Proof.Machine
end

section
/-! PROOF. The Sidestreet's corrections, the merge and the output (R200 to R203, R278, R311, R482). -/

namespace Sys2Proof.Machine

variable {s t u : State} {h : Half} {g i : Nat} {w v : Wave} {gr : Graph} {n : Node} {r : NodeRef} {o : Obj} {l : List Wave}

/-! ## Corrections (R200, R201, R203) -/

theorem exec_correctionReady (hl : s.live = true) (hg : g < 32) : exec (.correctionReady h g) s = .next (s.correctionReady h g) :=
  (whenLive_of_live hl (fun s => if g < 32 then s.correctionReady h g else s)).trans (by rw [if_pos hg])

/-- The wave of a list that the Sidestreet comes to next. -/
def nextCorr (l : List Wave) : Nat :=
  l.findIdx (fun w => [WavePhase.slices, .ended].contains w.phase && !w.corrReady && decide (w.outfmt ≠ 3))

/-- The wave has its correction. -/
def Wave.corrected (w : Wave) (c : List (Nat × Nat)) : Wave := { w with corr := c, corrReady := true }

section
variable (hi : i = nextCorr (s.gal h g).waves) (hw : (s.gal h g).waves[i]? = some w) (hn : s.node w.node = some (gr, n)) (hv : s.viaSds h w n = true)
include hi hw hn hv

/-- A wave of a node without a set takes its stuck-cell terms in its turn. -/
theorem correctionReady_stuck (hc : n.cset = 0x1FF) (ht : s.sdsTurn h g w = true) :
    s.correctionReady h g = s.setWave h g i (w.corrected w.stuckCorr) := by
  subst hi
  rw [nextCorr] at hw ⊢
  unfold State.correctionReady
  simp only [hw, hn, hv, hc, ht, Bool.not_true, Bool.false_eq_true, if_false, true_or, if_true]
  rfl

/-- A wave of a node bound to its set takes the full correction in its turn. -/
theorem correctionReady_full (hc : n.cset ≠ 0x1FF) (hb : n.setBound = true) (ht : s.sdsTurn h g w = true) :
    s.correctionReady h g = (s.fullCorr h w n (g - n.galFirst) (w.chms.map Prod.fst)).1.setWave h g i
      (w.corrected (s.fullCorr h w n (g - n.galFirst) (w.chms.map Prod.fst)).2) := by
  subst hi
  rw [nextCorr] at hw ⊢
  unfold State.correctionReady
  simp only [hw, hn, hv, hc, hb, ht, Bool.not_true, Bool.false_eq_true, if_false, or_true, if_true]
  rfl

/-- A wave whose set comes too late takes its stuck-cell terms, is counted, and its node is marked (R203). -/
theorem correctionReady_late (hc : n.cset ≠ 0x1FF) (hb : n.setBound = false) (hlate : n.late = true) (hp : w.phase = .ended) :
    s.correctionReady h g = (((s.add (SDS_SKIP_COUNT h) SDS_SKIP_COUNT.WAVES 1).wf (SDS_EVENT h) SDS_EVENT.SKIPPED 1).markNode w.node 1).setWave h g i
      (w.corrected w.stuckCorr) := by
  subst hi
  rw [nextCorr] at hw ⊢
  unfold State.correctionReady
  simp only [hw, hn, hv, hc, hb, Bool.not_true, Bool.false_eq_true, if_false, or_false]
  exact if_pos ⟨hlate, hp⟩

end

/-- Forming a correction reads the node's side input, and at most sets OUTLIER_UNMASKED beyond. -/
theorem fullCorr_reads (s : State) (h : Half) (w : Wave) (n : Node) (ord : Nat) (chms : List Nat) : ∃ u, KeepsUnit s u ∧ KeepsWaves h s u ∧
    ∀ x, ((s.fullCorr h w n ord chms).1.half x) = u.half x := by
  have hflag : ∀ (p : Prop) [Decidable p] (u : State) (x : Half), ((if p then u.wf (SDS_EVENT h) SDS_EVENT.OUTLIER_UNMASKED 1 else u).half x) = u.half x :=
    fun p _ u x => by split <;> rfl
  unfold State.fullCorr
  cases s.bindObj w.node 3 with
  | none => exact ⟨s, .refl s, .refl s, hflag _ _⟩
  | some o => exact ⟨_, .unitRead .., .unitRead .., hflag _ _⟩

theorem correctionReady_full_keeps (hi : i = nextCorr (s.gal h g).waves) (hw : (s.gal h g).waves[i]? = some w) (hn : s.node w.node = some (gr, n))
    (hv : s.viaSds h w n = true) (hc : n.cset ≠ 0x1FF) (hb : n.setBound = true) (ht : s.sdsTurn h g w = true) :
    (∃ c, ((s.correctionReady h g).gal h g).waves = (s.gal h g).waves.set i (w.corrected c)) ∧
    ((s.correctionReady h g).half h).mem.t1 = (s.half h).mem.t1 := by
  obtain ⟨u, ku, kw, e⟩ := fullCorr_reads s h w n (g - n.galFirst) (w.chms.map Prod.fst)
  rw [correctionReady_full hi hw hn hv hc hb ht]
  constructor
  · exact ⟨_, (waves_setWave ..).trans (by rw [State.gal_congr (congrArg HalfState.gals (e h)), kw.waves])⟩
  · rw [State.setWave_mem, e, ku.t1]

theorem rf_markNode (s : State) (r : NodeRef) (p a : Nat) (f : Fld) : (s.markNode r p).rf a f = s.rf a f := rfl
theorem waves_markNode (s : State) (r : NodeRef) (p : Nat) : ((s.markNode r p).gal h g).waves = (s.gal h g).waves := rfl

/-- A skipped correction is counted and shown. -/
theorem skipped_counts (s : State) (h : Half) :
    ((s.add (SDS_SKIP_COUNT h) SDS_SKIP_COUNT.WAVES 1).wf (SDS_EVENT h) SDS_EVENT.SKIPPED 1).rf (SDS_SKIP_COUNT h) SDS_SKIP_COUNT.WAVES =
      (s.rf (SDS_SKIP_COUNT h) SDS_SKIP_COUNT.WAVES + 1) % 2 ^ 32 ∧
    ((s.add (SDS_SKIP_COUNT h) SDS_SKIP_COUNT.WAVES 1).wf (SDS_EVENT h) SDS_EVENT.SKIPPED 1).rf (SDS_EVENT h) SDS_EVENT.SKIPPED = 1 := by
  have hne : SDS_SKIP_COUNT h + SDS_SKIP_COUNT.WAVES.off ≠ SDS_EVENT h + SDS_EVENT.SKIPPED.off := by simp only [SDS_SKIP_COUNT, SDS_EVENT]; omega
  exact ⟨(State.rf_wf_ne _ _ _ _ hne).trans (State.rf_wf _ _ _ _ (by decide)), State.rf_wf_same _ _ _ (by decide) (by decide)⟩

/-- What two waves have in common is the same after one has taken the other's place. -/
theorem map_set_of_eq {α : Type} {f : Wave → α} (hw : l[i]? = some w) (hf : f v = f w) : (l.set i v).map f = l.map f := by
  obtain ⟨hlt, rfl⟩ := List.getElem?_eq_some_iff.1 hw
  rw [List.map_set, hf, ← List.getElem_map f (h := by simpa using hlt), List.set_getElem_self]

/-! ## The merge deadline (R203) -/

theorem exec_mergeDeadline (hl : s.live = true) (hn : s.node r = some (gr, n)) (hp : n.phase = .running) (hk : n.kind = 1) (hc : n.cset ≠ 0x1FF)
    (hd : n.deadline ≠ 0) (hb : n.setBound = false) : exec (.mergeDeadline r) s = .next (s.modNode r (fun n => { n with late := true })) := by
  show execMergeDeadline r s = _
  rw [execMergeDeadline, whenLive_of_live hl, hn]
  exact congrArg Host.Outcome.next (if_pos ⟨hp, hk, hc, hd, hb⟩)

/-! ## Waves that have landed (R482) -/

/-- A list of which the first wave in output still has a beat loses none. -/
theorem landedRest_of_first (hi : l[i]? = some w) (hw : w.phase = .output) (hb : w.beats ≠ [])
    (hlt : ∀ j < i, ∀ v, l[j]? = some v → v.phase ≠ .output) : landedRest l = l := by
  induction l generalizing i with
  | nil => rfl
  | cons x l ih =>
    cases i with
    | zero =>
      obtain rfl : x = w := by simpa using hi
      rw [landedRest, if_pos hw, if_neg (by simpa using hb)]
    | succ i =>
      rw [landedRest, if_neg (hlt 0 (by omega) x rfl), ih (i := i) (by simpa using hi) fun j hj v hv => hlt (j + 1) (by omega) v (by simpa using hv)]

theorem galMaybeEnd_foldl_mem (l : List Wave) (s : State) (x : Half) :
    ((l.foldl (fun s w => s.galMaybeEnd w.node) s).half x).mem = (s.half x).mem := by
  induction l generalizing s with
  | nil => rfl
  | cons w l ih => exact (ih _).trans (galMaybeEnd_mem ..)

/-- While the first wave in output has a beat left, no wave leaves and the memory stays. -/
theorem waveLanded_of_first (hi : (s.gal h g).waves[i]? = some w) (hw : w.phase = .output) (hb : w.beats ≠ [])
    (hlt : ∀ j < i, ∀ v, (s.gal h g).waves[j]? = some v → v.phase ≠ .output) :
    KeepsWaves h s (s.waveLanded h g) ∧ ∀ x, ((s.waveLanded h g).half x).mem = (s.half x).mem := by
  have hrest : landedRest (s.gal h g).waves = (s.gal h g).waves := landedRest_of_first hi hw hb hlt
  unfold State.waveLanded
  constructor
  · exact (KeepsWaves.setGal s h h g hrest).trans (.foldl (fun t (v : Wave) => .galMaybeEnd t h v.node) _ _)
  · exact fun x => (galMaybeEnd_foldl_mem ..).trans (State.setGal_mem ..)

/-! ## The first wave in a phase -/

section
variable {ph : WavePhase}

theorem waveIn_index (hw : s.waveIn h g [ph] = some (i, w)) : i = (s.gal h g).waves.findIdx (fun w => [ph].contains w.phase) := by
  obtain ⟨_, -, e⟩ := Option.map_eq_some_iff.1 hw
  exact (Prod.mk.inj e).1.symm

/-- It is in the phase, and no wave before it is. -/
theorem waveIn_phase (hw : s.waveIn h g [ph] = some (i, w)) : w.phase = ph := by
  obtain ⟨hlt, hget⟩ := List.getElem?_eq_some_iff.1 (waveIn_get hw)
  subst hget
  have hi := waveIn_index hw
  subst hi
  simpa using List.findIdx_getElem (w := hlt)

theorem waveIn_before (hw : s.waveIn h g [ph] = some (i, w)) {j : Nat} (hj : j < i) (hv : (s.gal h g).waves[j]? = some v) : v.phase ≠ ph := by
  obtain ⟨hlt, hget⟩ := List.getElem?_eq_some_iff.1 hv
  rw [waveIn_index hw] at hj
  simpa [hget] using List.not_of_lt_findIdx hj

theorem waveIn_none (hw : s.waveIn h g [ph] = none) {j : Nat} (hv : (s.gal h g).waves[j]? = some v) : v.phase ≠ ph := by
  intro hp
  have hlen := List.getElem?_eq_none_iff.1 (Option.map_eq_none_iff.1 hw)
  have hlt := List.findIdx_lt_length_of_exists (p := fun w => [ph].contains w.phase) ⟨v, List.mem_of_getElem? hv, by simp [hp]⟩
  omega

end

/-! ## The output stage (R72, R73, R278) -/

theorem exec_mergePass (hl : s.live = true) (hg : g < 32) : exec (.mergePass h g) s = .next (s.mergePass h g) :=
  (whenLive_of_live hl (fun s => if g < 32 then s.mergePass h g else s)).trans (by rw [if_pos hg])

/-- The wave is in its output as INT32. -/
def Wave.toInts (w : Wave) (first : Nat) : Wave := { w with
  phase := .output
  beats := beatsOf (w.outOff + w.colBase first (w.chms.map Prod.fst) * 4) ((w.outputs (w.chms.map Prod.fst) []).flatMap (fun y => leBytes 4 y.code)) }

/-- An INT32 output raises no flag and needs neither scale nor bias. -/
theorem outputStage_ints (ho : w.outfmt = 3) (he : w.emit = true) (n : Node) :
    s.outputStage h g i w n = s.setWave h g i (w.toInts (g - n.galFirst)) := by
  have hplain : ∀ y ∈ w.outputs (w.chms.map Prod.fst) [], y.range = false ∧ y.nan = false := by
    intro y hy
    obtain ⟨j, -, rfl⟩ := List.mem_map.1 hy
    simp [outValue, ho]
  have hrange : (w.outputs (w.chms.map Prod.fst) []).any (·.range) = false := by simpa using fun y hy => (hplain y hy).1
  have hnan : (w.outputs (w.chms.map Prod.fst) []).any (·.nan) = false := by simpa using fun y hy => (hplain y hy).2
  unfold State.outputStage Wave.toInts
  simp only [ho, ne_eq, not_true_eq_false, false_and, if_false, if_true, hrange, hnan, Bool.false_eq_true, he]
  rfl

/-- A wave with Chambers has an output group (R70). -/
theorem groups_ne_nil (hgrp : w.group ≤ 4) {c : Nat} {chms : List Nat} (hc : c ∈ chms) (hlt : c < 16) : w.groups chms ≠ [] := by
  have hdvd : 16 / w.g * w.g = 16 := Nat.div_mul_cancel (pow_dvd_pow 2 hgrp)
  have hpos : 0 < w.g := Nat.two_pow_pos _
  refine List.ne_nil_of_mem (a := c / w.g) (List.mem_filter.2 ⟨List.mem_range.2 ((Nat.div_lt_iff_lt_mul hpos).2 (by omega)), ?_⟩)
  exact List.any_eq_true.2 ⟨c, hc, by simp⟩

/-- Each of its groups gives at least eight beats. -/
theorem toInts_beats (hgrp : w.group ≤ 4) (hch : w.chms ≠ []) (hlt : w.chms.all (fun e => decide (e.1 < 16)) = true) (first : Nat) :
    (w.toInts first).beats ≠ [] := by
  obtain ⟨e, he⟩ := List.exists_mem_of_ne_nil _ hch
  have hgroups : 0 < (w.groups (w.chms.map Prod.fst)).length :=
    List.length_pos_iff.2 (groups_ne_nil hgrp (List.mem_map_of_mem he) (by simpa using List.all_eq_true.1 hlt e he))
  have hwidth : 256 ≤ w.width := by unfold Wave.width; split <;> omega
  have hlen : ((w.outputs (w.chms.map Prod.fst) []).flatMap (fun y => leBytes 4 y.code)).length = (w.groups (w.chms.map Prod.fst)).length * w.width * 4 := by
    rw [length_flatMap_const (fun _ => leBytes_length ..), Wave.outputs, List.length_map, List.length_range]
  have hcols : 256 ≤ (w.groups (w.chms.map Prod.fst)).length * w.width := by nlinarith
  refine List.ne_nil_of_length_pos ?_
  rw [Wave.toInts, beatsOf, List.length_map, List.length_range, hlen]
  omega

/-- With no wave in output before, an INT32 wave at the merge is the only one there. -/
theorem mergePass_ints (hw : s.waveIn h g [.ended] = some (i, w)) (hn : s.node w.node = some (gr, n)) (ha : gr.aborted = false) (ho : w.outfmt = 3)
    (he : w.emit = true) (hgrp : w.group ≤ 4) (hch : w.chms ≠ []) (hnone : s.waveIn h g [.output] = none)
    (hlt : w.chms.all (fun e => decide (e.1 < 16)) = true) :
    ((s.mergePass h g).gal h g).waves = (s.gal h g).waves.set i (w.toInts (g - n.galFirst)) ∧ ((s.mergePass h g).half h).mem = (s.half h).mem := by
  have hvia : s.viaSds h w n = false := by simp [State.viaSds, ho]
  have e : s.mergePass h g = (s.setWave h g i (w.toInts (g - n.galFirst))).waveLanded h g := by
    unfold State.mergePass
    simp only [hw, hn, ha, hvia, Bool.false_eq_true, false_and, if_false, outputStage_ints ho he]
  obtain ⟨hi, -⟩ := List.getElem?_eq_some_iff.1 (waveIn_get hw)
  obtain ⟨hwaves, hmem⟩ := waveLanded_of_first (s := s.setWave h g i (w.toInts (g - n.galFirst))) (h := h) (g := g) (i := i)
    (by rw [waves_setWave, List.getElem?_set_self hi]) rfl (toInts_beats hgrp hch hlt _)
    (fun j hj v hv => by rw [waves_setWave, List.getElem?_set_ne (by omega)] at hv; exact waveIn_none hnone hv)
  rw [e]
  exact ⟨(hwaves.waves g).trans (waves_setWave ..), (hmem h).trans (State.setWave_mem ..)⟩

/-! ## A beat lands (R311, R482) -/

theorem exec_outputLand (hl : s.live = true) (hg : g < 32) (chk : Scan) : exec (.outputLand h g chk) s = .next (s.outputLand h g chk) :=
  (whenLive_of_live hl (fun s => if g < 32 then s.outputLand h g chk else s)).trans (by rw [if_pos hg])

/-- A byte outside a store stays. -/
theorem memBytes_memPut_outside (s : State) (x : Half) (tier : Nat) {a b : Nat} {bs : List Byte} (hb : b < a ∨ a + bs.length ≤ b) :
    (s.memPut x tier a bs).memBytes x tier b 1 = s.memBytes x tier b 1 := by
  have hout : ¬(a ≤ b ∧ b < a + bs.length) := by omega
  unfold State.memBytes State.memPut
  rw [State.half_modHalf_same]
  split <;> simp only [memRead, mapGet_memWrite, if_neg hout]

theorem memPut_gals (s : State) (h x : Half) (tier a : Nat) (bs : List Byte) : ((s.memPut x tier a bs).half h).gals = (s.half h).gals := by
  unfold State.memPut
  rcases half_modHalf_cases s h x _ with e | e <;> rw [e]
  split <;> rfl

theorem KeepsWaves.memPut (s : State) (h x : Half) (tier a : Nat) (bs : List Byte) : KeepsWaves h s (s.memPut x tier a bs) :=
  .of_gals (memPut_nv ..) (memPut_gals ..)

theorem accBeat_length (old : List Byte) {new : List Byte} (hlen : new.length % 4 = 0) : (accBeat old new).1.length = new.length := by
  rw [accBeat, length_flatMap_const (fun _ => leBytes_length ..), List.length_map, List.length_range]
  omega

/-- The words that an accumulating beat is added to have been read, and a sum that saturates is shown (R311). -/
def State.accRead (s : State) (h : Half) (g : Nat) (r : NodeRef) (o : Obj) (b : Nat × List Byte) : State :=
  if (accBeat (s.unitRead r o b.1 b.2.length {}).2 b.2).2 then
    (s.unitRead r o b.1 b.2.length {}).1.wf (GAL_SEQ_EVENT h g) GAL_SEQ_EVENT.DEST_SAT 1
  else (s.unitRead r o b.1 b.2.length {}).1

theorem accRead_keeps (s : State) (h : Half) (g : Nat) (r : NodeRef) (o : Obj) (b : Nat × List Byte) : KeepsWaves h s (s.accRead h g r o b) ∧
    ∀ x tier a len, (s.accRead h g r o b).memBytes x tier a len = s.memBytes x tier a len := by
  have kw : KeepsWaves h s (s.unitRead r o b.1 b.2.length {}).1 := .unitRead ..
  have ku : KeepsUnit s (s.unitRead r o b.1 b.2.length {}).1 := .unitRead ..
  unfold State.accRead
  split
  · exact ⟨kw.trans (.of_half (State.wf_half ..)), fun x tier a len =>
      (State.memBytes_congr x (by rw [State.wf_half]) ..).trans (ku.memBytes x tier a len)⟩
  · exact ⟨kw, ku.memBytes⟩

/-- The bytes that a beat of a wave leaves in the output object: with ACC on, those there are added to. -/
def State.landed (s : State) (o : Obj) (w : Wave) (b : Nat × List Byte) : List Byte :=
  if w.acc then (accBeat (s.objRead o b.1 b.2.length) b.2).1 else b.2

section
variable {b : Nat × List Byte} {bs : List (Nat × List Byte)}

theorem landed_length (s : State) (o : Obj) (w : Wave) (hlen : b.2.length % 4 = 0) : (s.landed o w b).length = b.2.length := by
  unfold State.landed
  split
  · exact accBeat_length _ hlen
  · rfl

variable (hw : s.waveIn h g [.output] = some (i, w)) (hbeats : w.beats = b :: bs) (ho : s.bindObj w.node 1 = some o)
  (hsize : b.1 + b.2.length ≤ o.size) (hlen : b.2.length % 4 = 0) (hword : partWords (wordBytes o.tier) (o.addr + b.1) b.2.length = [])
include hw hbeats ho hsize hlen hword

/-- The wave's next beat is stored, on memory as it was, and the wave goes on with the others. -/
theorem outputLand_stores : ∃ u : State, s.outputLand h g {} = (u.memPut o.half o.tier (o.addr + b.1) (s.landed o w b)).waveLanded h g ∧
    KeepsWaves h (s.setWave h g i { w with beats := bs }) u ∧ ∀ x tier a len, u.memBytes x tier a len = s.memBytes x tier a len := by
  set s0 := s.setWave h g i { w with beats := bs } with hs0
  have hmem : ∀ x tier a len, s0.memBytes x tier a len = s.memBytes x tier a len := fun x =>
    State.memBytes_congr x (State.setGal_mem s h x g { s.gal h g with waves := (s.gal h g).waves.set i { w with beats := bs } })
  have hput : ∀ (u : State) (y : List Byte), y.length = b.2.length → u.unitWrite o b.1 y = u.memPut o.half o.tier (o.addr + b.1) y := fun u y hy =>
    (unitWrite_reads u (by omega) (by rw [hy]; exact hword)).1
  have hl := landed_length s o w hlen
  unfold State.outputLand
  simp only [hw, hbeats, ho]
  unfold State.landed at hl ⊢
  by_cases hacc : w.acc = true
  · rw [if_pos hacc] at hl ⊢
    have hdata : (s0.unitRead w.node o b.1 b.2.length {}).2 = s.objRead o b.1 b.2.length := by rw [unitRead_inside _ _ _ hsize]; exact hmem ..
    obtain ⟨kw, ku⟩ := accRead_keeps s0 h g w.node o b
    exact ⟨_, by rw [if_pos hacc, ← hdata, ← hput _ _ (hdata ▸ hl), State.accRead], kw, fun x tier a len => (ku ..).trans (hmem ..)⟩
  · rw [if_neg hacc] at hl ⊢
    exact ⟨s0, by rw [if_neg hacc, hput _ _ hl], .refl s0, hmem⟩

/-- While beats are left, the wave stays the first in output, and of the memory the beat's bytes alone change. -/
theorem outputLand_lands (hbs : bs ≠ []) : ((s.outputLand h g {}).gal h g).waves = (s.gal h g).waves.set i { w with beats := bs } ∧
    (s.outputLand h g {}).objRead o b.1 b.2.length = s.landed o w b ∧
    ∀ a, a < o.addr + b.1 ∨ o.addr + b.1 + b.2.length ≤ a → (s.outputLand h g {}).memBytes o.half o.tier a 1 = s.memBytes o.half o.tier a 1 := by
  obtain ⟨u, e, kw, hmem⟩ := outputLand_stores hw hbeats ho hsize hlen hword
  have hl := landed_length s o w hlen
  set t := u.memPut o.half o.tier (o.addr + b.1) (s.landed o w b) with ht
  have hwaves : (t.gal h g).waves = (s.gal h g).waves.set i { w with beats := bs } :=
    ((kw.trans (.memPut ..)).waves g).trans (waves_setWave ..)
  obtain ⟨hi, -⟩ := List.getElem?_eq_some_iff.1 (waveIn_get hw)
  obtain ⟨kl, hland⟩ := waveLanded_of_first (s := t) (h := h) (g := g) (w := { w with beats := bs }) (i := i)
    (by rw [hwaves, List.getElem?_set_self hi]) (show w.phase = .output from waveIn_phase hw) hbs
    (fun j hj v hv => by rw [hwaves, List.getElem?_set_ne (by omega)] at hv; exact waveIn_before hw hj hv)
  rw [e]
  refine ⟨(kl.waves g).trans hwaves, ?_, fun a ha => ?_⟩
  · have hread := State.memBytes_memPut u o.half o.tier (o.addr + b.1) (s.landed o w b)
    rw [hl] at hread
    exact (State.memBytes_congr _ (hland _) ..).trans hread
  · rw [State.memBytes_congr _ (hland _), ht, memBytes_memPut_outside _ _ _ (by omega), hmem]

end

/-- Settles O35: each wave's step, its correction, the merge and a beat's landing, leaves the other waves and the other bytes as they were. -/
theorem correctionsAndOutput : Obligations.CorrectionsAndOutput := by
  unfold Obligations.CorrectionsAndOutput
  refine ⟨?stuck, ?full, ?late, ?deadline, ?merge, ?land⟩
  case stuck =>
    intro s h g i w gr n hl hg hi hw hn hv hc ht
    refine ⟨_, exec_correctionReady hl hg, ?_⟩
    rw [correctionReady_stuck hi hw hn hv hc ht]
    refine ⟨waves_setWave .., ?_⟩
    rw [State.setWave, State.setGal, State.modHalf_setHalf, State.setHalf_self]
    exact onlyRegs_refl ..
  case full =>
    intro s h g i w gr n hl hg hi hw hn hv hc hb ht
    obtain ⟨⟨c, hwaves⟩, hmem⟩ := correctionReady_full_keeps hi hw hn hv hc hb ht
    refine ⟨_, exec_correctionReady hl hg, ?_, ?_, hmem⟩
    · rw [hwaves, List.map_set]; rfl
    · rw [hwaves]
      exact map_set_of_eq hw rfl
  case late =>
    intro s h g i w gr n hl hg hi hw hn hv hc hb hlate hp
    refine ⟨_, exec_correctionReady hl hg, ?_⟩
    rw [correctionReady_late hi hw hn hv hc hb hlate hp]
    obtain ⟨hcount, hflag⟩ := skipped_counts s h
    refine ⟨?_, ?_, ?_⟩
    · rw [waves_setWave, waves_markNode, State.gal_congr (s := s) (by rw [State.wf_half, State.add, State.wf_half])]
      rfl
    · rw [State.setWave_rf, rf_markNode, hcount]
    · rw [State.setWave_rf, rf_markNode, hflag]
  case deadline =>
    intro s r gr n hl hn hp hk hc hd hb
    refine ⟨_, exec_mergeDeadline hl hn hp hk hc hd hb, ?_, onlyRegs_refl ..⟩
    refine (State.nodeAt_modNode s r r _).trans ?_
    rw [State.nodeAt_of_node hn]
    simp
  case merge =>
    intro s h g i w gr n hl hg hw hn ha ho he hgrp hch hnone hlt
    exact ⟨_, exec_mergePass hl hg, mergePass_ints hw hn ha ho he hgrp hch hnone hlt⟩
  case land =>
    intro s h g i w o b bs hl hg hw hbeats hbs ho hsize hlen hword
    exact ⟨_, exec_outputLand hl hg {}, outputLand_lands hw hbeats ho hsize hlen hword hbs⟩

end Sys2Proof.Machine
end

section
/-! PROOF. The fallback and the end of a Plaza operation (R187, R193). -/

namespace Sys2Proof.Machine

variable {s t u : State} {h x : Half} {r : NodeRef} {op : List Byte} {o : Obj} {a us0 : Nat} {f : Fld} {n : Node} {gr : Graph}

/-! ## LOWRANK_FALLBACK (R193) -/

/-- The operation gives up on its ring: the slots still to come are to be released unread. -/
def State.fallenBack (s : State) (h : Half) (op : List Byte) : State :=
  (s.modPlaza h (fun x => { x with data := [], fallback := true, skip := opTiles op - x.tiles })).wf (PLZ_STATUS h) PLZ_STATUS.FALLBACK 1

theorem exec_lowrankFallback (hl : s.live = true) (hp : s.plazaOp h 1 = some (r, op)) (hu : (s.half h).plaza.startUs = some us0) :
    exec (.lowrankFallback h) s = .next (if opStreamed op && opLowrank op && (decide (opDeadline op ≠ 0) && decide (opDeadline op ≤ s.us h - us0)) &&
      s.plazaWaits h then s.fallenBack h op else s) := by
  show execLowrankFallback h s = _
  rw [execLowrankFallback, whenLive_of_live hl, hp]
  simp only [hu, Option.any_some]
  rfl

theorem plazaOp_written {kind : Nat} (hp : s.plazaOp h kind = some (r, op)) : (s.half h).plaza.written = false := by
  by_contra hw
  rw [plazaOp_of_written (by simpa using hw)] at hp
  cases hp

theorem fallenBack_plaza (s : State) (h : Half) (op : List Byte) : ((s.fallenBack h op).half h).plaza =
    { (s.half h).plaza with data := [], fallback := true, skip := opTiles op - (s.half h).plaza.tiles } := by
  rw [State.fallenBack, State.wf_half, State.modPlaza, State.half_modHalf_same]

/-- A Plaza in its fallback waits for no slot. -/
theorem plazaWaits_of_fallback (hf : (s.half h).plaza.fallback = true) : s.plazaWaits h = false := by
  unfold State.plazaWaits
  split
  · rfl
  · split
    · simp [State.plazaNeeds, hf]
    · rfl

theorem onlyRegs_fallenBack (s : State) (h : Half) (op : List Byte) : onlyRegs [PLZ_STATUS h] s ((s.fallenBack h op).setHalf h (s.half h)) := by
  rw [State.fallenBack, State.modPlaza, State.wf_setHalf, State.modHalf_setHalf, State.setHalf_self]
  exact onlyRegs_wf (onlyRegs_refl ..) _ _ _ (by simp)

/-! ## Registers that a unit's stores leave -/

/-- The home table, the Plaza's counters and the Sidestreet's registers are as they were. -/
structure KeepsUnitRegs (s t : State) : Prop where
  rd : ∀ a, unitReg a → t.rd a = s.rd a

theorem KeepsUnit.regs (k : KeepsUnit s t) : KeepsUnitRegs s t := ⟨k.rd⟩

namespace KeepsUnitRegs

theorem refl (s : State) : KeepsUnitRegs s s := ⟨fun _ _ => rfl⟩
theorem trans (k : KeepsUnitRegs s t) (l : KeepsUnitRegs t u) : KeepsUnitRegs s u := ⟨fun a ha => (l.rd a ha).trans (k.rd a ha)⟩
theorem of_regs (e : t.regs = s.regs) : KeepsUnitRegs s t := ⟨fun a _ => by unfold State.rd; rw [e]⟩

theorem rf (k : KeepsUnitRegs s t) (ha : unitReg (a + f.off)) : t.rf a f = s.rf a f := by
  unfold State.rf; rw [k.rd _ ha]

theorem putParts (s : State) (tier n : Nat) (bs : List Byte) (bad : List Nat) : KeepsUnitRegs s (s.putParts x tier n bs bad) := by
  have hput : ∀ n bs, KeepsUnitRegs s (s.memPut x tier n bs) := fun n bs => of_regs (State.memPut_regs ..)
  have hnote : ∀ (t : State) (w : Nat), KeepsUnit t ((t.wf (MEM_EVENT x) MEM_EVENT.SUBWORD_DISCARD 1).log x
      { logData 3 with event := 5, addr := max n (wordBytes tier * w) }) := fun t w =>
    (KeepsUnit.wfLow t (by decide) rfl).trans (.log _ _ _ (by simp [logData]))
  unfold State.putParts
  split
  · exact hput ..
  · exact (hput ..).trans (KeepsUnit.foldl hnote _ _).regs

theorem unitWrite (s : State) (o : Obj) (off : Nat) (bs : List Byte) : KeepsUnitRegs s (s.unitWrite o off bs) := by
  unfold State.unitWrite State.objWrite State.storeBytes
  dsimp only
  split
  · exact of_regs (State.memPut_regs ..)
  · have hfresh : KeepsUnitRegs s s.fresh.2 := of_regs rfl
    exact ((hfresh.trans (KeepsUnit.scanCount ..).regs).trans (KeepsUnit.foldl (fun t w => .markBad t o.tier w) _ _).regs).trans (putParts ..)

theorem rowBytes (s : State) (g : Nat) (y : TailOut) : KeepsUnitRegs s (s.rowBytes g y).1 := by
  unfold State.rowBytes
  dsimp only
  split <;> exact of_regs rfl

theorem foldlFst {α β : Type} {F : State × α → β → State × α} (hF : ∀ p b, KeepsUnitRegs p.1 (F p b).1) (l : List β) (p : State × α) :
    KeepsUnitRegs p.1 (l.foldl F p).1 := by
  induction l generalizing p with
  | nil => exact refl _
  | cons b l ih => exact (hF p b).trans (ih _)

end KeepsUnitRegs

/-- Rows are put out, and the result is formed. -/
theorem putRows_writes (s : State) (h : Half) (r : NodeRef) (op : List Byte) (rows : List (List Nat)) : ∃ u, KeepsUnitRegs s u ∧
    s.putRows h r op rows = u.modPlaza h (fun x => { x with written := true }) := by
  refine ⟨_, ?_, rfl⟩
  refine KeepsUnitRegs.foldlFst (fun p m => ?_) _ (s, 0)
  exact ((KeepsUnit.rowEvents ..).regs.trans (KeepsUnitRegs.rowBytes ..)).trans (.unitWrite ..)

/-! ## The fallback's products -/

theorem factor_keeps (s : State) (r : NodeRef) (v g rows m : Nat) : KeepsUnitRegs s (s.factor r v g rows m).1 := by
  unfold State.factor
  dsimp only
  split
  · exact (KeepsUnit.operand ..).regs
  · exact .of_regs rfl

theorem hiddenEvents_keeps (s : State) (h : Half) (cs : List Conv) : KeepsUnit s (s.hiddenEvents h cs) :=
  (KeepsUnit.ite (.plzEvent s h rfl 1) (.refl s)).trans (.ite (.plzEvent _ h rfl 1) (.refl _))

theorem half_markNode (s : State) (r : NodeRef) (p : Nat) (x : Half) : (s.markNode r p).half x = s.half x := rfl

/-- The fallback forms its result and counts itself. -/
theorem fallback_writes (s : State) (h : Half) (r : NodeRef) (op : List Byte) : ∃ u, KeepsUnitRegs s u ∧ (u.half h).plaza.written = true ∧
    s.fallback h r op = ((u.add (PLZ_FALLBACK_COUNT h) PLZ_FALLBACK_COUNT.FALLBACKS 1).wf (PLZ_EVENT h) PLZ_EVENT.FALLBACK 1).markNode r 1 := by
  set pa := s.operand r (opA op) (opAFmt op) (opM op) (opK op)
  set pu := pa.1.factor r (opU op) (opBFmt op) (opRank op) (opK op)
  set pv := pu.1.factor r (opV op) (opBFmt op) (opN op) (opRank op)
  have k : KeepsUnitRegs s pv.1 := ((KeepsUnit.operand ..).regs.trans (factor_keeps ..)).trans (factor_keeps ..)
  set hid := (List.range (opM op)).map (fun i => (List.range (opRank op)).map (fun j =>
    convert bf16 (dotFp (operandAt (opAFmt op) (opM op) (opK op) pa.2 i) (operandAt (opBFmt op) (opRank op) (opK op) pu.2 j) (opK op))))
  obtain ⟨u, ku, e⟩ := putRows_writes (pv.1.hiddenEvents h hid.flatten) h r op ((List.range (opM op)).map (fun i => (List.range (opN op)).map (fun j =>
    dotFp (fun x => Fp.ofBits bf16 (((hid.getD i []).map (fun c => c.code)).getD x 0)) (operandAt (opBFmt op) (opN op) (opRank op) pv.2 j) (opRank op))))
  refine ⟨u.modPlaza h (fun x => { x with written := true }), (k.trans (hiddenEvents_keeps ..).regs).trans (ku.trans (.of_regs (State.modHalf_regs ..))),
    by rw [State.modPlaza, State.half_modHalf_same], ?_⟩
  rw [← e]
  rfl

/-- The Plaza's counters are among the registers that stores leave. -/
theorem rf_plzFallbacks (k : KeepsUnitRegs s t) (h : Half) :
    t.rf (PLZ_FALLBACK_COUNT h) PLZ_FALLBACK_COUNT.FALLBACKS = s.rf (PLZ_FALLBACK_COUNT h) PLZ_FALLBACK_COUNT.FALLBACKS :=
  k.rf (a := PLZ_FALLBACK_COUNT h) (f := PLZ_FALLBACK_COUNT.FALLBACKS) (by rw [Nat.add_zero, PLZ_FALLBACK_COUNT, unitReg_iff] <;> omega)
theorem rf_plzOps (k : KeepsUnitRegs s t) (h : Half) : t.rf (PLZ_OP_COUNT h) PLZ_OP_COUNT.OPS = s.rf (PLZ_OP_COUNT h) PLZ_OP_COUNT.OPS :=
  k.rf (a := PLZ_OP_COUNT h) (f := PLZ_OP_COUNT.OPS) (by rw [Nat.add_zero, PLZ_OP_COUNT, unitReg_iff] <;> omega)

theorem fallback_ends (s : State) (h : Half) (r : NodeRef) (op : List Byte) : ((s.fallback h r op).half h).plaza.written = true ∧
    (s.fallback h r op).rf (PLZ_EVENT h) PLZ_EVENT.FALLBACK = 1 ∧ (s.fallback h r op).rf (PLZ_FALLBACK_COUNT h) PLZ_FALLBACK_COUNT.FALLBACKS =
      (s.rf (PLZ_FALLBACK_COUNT h) PLZ_FALLBACK_COUNT.FALLBACKS + 1) % 2 ^ 32 := by
  obtain ⟨u, ku, hw, e⟩ := fallback_writes s h r op
  have hne : PLZ_FALLBACK_COUNT h + PLZ_FALLBACK_COUNT.FALLBACKS.off ≠ PLZ_EVENT h + PLZ_EVENT.FALLBACK.off := by
    simp only [PLZ_FALLBACK_COUNT, PLZ_EVENT]; omega
  rw [e, rf_markNode, rf_markNode]
  refine ⟨?_, State.rf_wf_same _ _ _ (by decide) (by decide), ?_⟩
  · rw [half_markNode, State.wf_half, State.add, State.wf_half, hw]
  · rw [State.rf_wf_ne _ _ _ _ hne, ← rf_plzFallbacks ku]
    exact State.rf_wf _ _ _ _ (by decide)

/-! ## PLAZA_OP_COMPLETE (R187) -/

theorem KeepsUnit.setRing (s : State) (q : Nat) (y : Ring) : KeepsUnit s (s.setRing x q y) := .modHalf _ _ fun _ => rfl

section
variable {q : Nat} (hq : q < 64)
include hq

theorem KeepsUnit.showRing (s : State) : KeepsUnit s (s.showRing x q) := by
  have hstate : ∀ (t : State) (f : Fld) (v : Nat), f.off = 0 → KeepsUnit t (t.wf (STR_RING_STATE x q) f v) := fun t f v hf =>
    .wf t (by rw [hf, STR_RING_STATE]; cases x <;> simp only [unitReg, Half.base] <;> omega)
  exact ((hstate s _ _ rfl).trans (hstate _ _ _ rfl)).trans (hstate _ _ _ rfl)

theorem KeepsUnit.ringReset (s : State) : KeepsUnit s (s.ringReset x q) := by
  have hstate : ∀ (t : State) (f : Fld) (v : Nat), f.off = 0 → KeepsUnit t (t.wf (STR_RING_STATE x q) f v) := fun t f v hf =>
    .wf t (by rw [hf, STR_RING_STATE]; cases x <;> simp only [unitReg, Half.base] <;> omega)
  have herr : ∀ t : State, KeepsUnit t (t.wf (STR_RING_ERR x q) STR_RING_ERR.SLOT_ERR 0) := fun t =>
    .wf t (by rw [STR_RING_ERR]; cases x <;> simp only [unitReg, Half.base] <;> omega)
  have hset : KeepsUnit s (s.setRing x q { s.ring x q with fill := 0, lens := [], taken := 0 }) := .setRing ..
  exact ((((hset.trans (hstate _ _ _ rfl)).trans (hstate _ _ _ rfl)).trans (hstate _ _ _ rfl)).trans (herr _)).trans (.showRing hq _)

theorem KeepsUnit.ringLeave (s : State) (p : Party) : KeepsUnit s (s.ringLeave x q p) := by
  have hset : ∀ y, KeepsUnit s ((s.setRing x q y).showRing x q) := fun y => (KeepsUnit.setRing s q y).trans (.showRing hq _)
  exact .ite ((hset _).trans (.ringReset hq _)) (hset _)

end

/-- A party leaves its rings without a change of what a unit keeps. -/
theorem KeepsUnit.leaveRings (s : State) (p : Party) : KeepsUnit s (s.leaveRings x p false) := by
  refine .foldl_mem (fun q hq t => ?_) s
  simpa using KeepsUnit.ringLeave (x := x) (by simpa [State.ringsOf] using (List.mem_filter.1 hq).2) t p

theorem KeepsUnit.scanNew (s : State) (tier a len : Nat) (offs : List Nat) : KeepsUnit s (s.scanNew x tier a len offs).1 :=
  (KeepsUnit.findBad ..).trans (.countBad ..)

theorem KeepsUnit.logWords (s : State) (o : Obj) (ws : List Nat) :
    KeepsUnit s (ws.foldl (fun s w => s.logWord o.half o.tier w (s.handleOf o.half o.idx)) s) := .foldl (fun t w => .logWord t _ w _) ws s

theorem KeepsUnit.plazaChecks (s : State) (r : NodeRef) (op : List Byte) (chk : Scan) : KeepsUnit s (s.plazaChecks r op chk) := by
  set o := s.nodeObj r (opA op)
  set p := fun len => (s.scanCount o.half o.tier chk).scanNew o.half o.tier o.addr len chk.bad
  have hlog : ∀ len, KeepsUnit s ((p len).2.foldl (fun s w => s.logWord o.half o.tier w (s.handleOf o.half o.idx)) (p len).1) := fun len =>
    ((KeepsUnit.scanCount ..).trans (.scanNew ..)).trans (.logWords ..)
  exact .ite (hlog _) ((hlog _).trans (.markNode ..))

/-- The Plaza is idle and has counted the operation. -/
theorem plazaIdle_shows (s : State) (h : Half) : ((s.plazaIdle h).half h).plaza = {} ∧ (s.plazaIdle h).rf (PLZ_STATUS h) PLZ_STATUS.BUSY = 0 ∧
    (s.plazaIdle h).rf (PLZ_OP_COUNT h) PLZ_OP_COUNT.OPS = (s.rf (PLZ_OP_COUNT h) PLZ_OP_COUNT.OPS + 1) % 2 ^ 32 ∧
    ((s.plazaIdle h).half h).mem = (s.half h).mem := by
  have hne : PLZ_STATUS h + 0 ≠ PLZ_OP_COUNT h + 0 := by simp only [PLZ_STATUS, PLZ_OP_COUNT]; omega
  unfold State.plazaIdle
  refine ⟨?_, ?_, ?_, ?_⟩
  · rw [State.modPlaza, State.half_modHalf_same]
  · rw [State.modPlaza, State.modHalf_rf, State.add, State.rf_wf_ne _ _ _ _ hne,
      State.rf_wf_field (g := PLZ_STATUS.BUSY) (f := PLZ_STATUS.FALLBACK) _ _ _ rfl (by decide)]
    exact State.rf_wf_same _ _ _ (by decide) (by decide)
  · rw [State.modPlaza, State.modHalf_rf]
    refine (State.rf_wf _ _ _ _ (by decide)).trans ?_
    rw [State.rf_wf_ne _ _ _ _ hne.symm, State.rf_wf_ne _ _ _ _ hne.symm]
  · rw [mem_modPlaza, State.add, State.wf_half, State.wf_half, State.wf_half]

/-- The operation is over: its checks are recorded, its rings left, the Plaza is idle, and its node ends. -/
def State.plazaEnded (s : State) (h : Half) (r : NodeRef) (op : List Byte) (chk : Scan) : State :=
  (((s.plazaChecks r op chk).leaveRings h .plaza false).plazaIdle h).endNode r 0

theorem exec_plazaOpComplete (hl : s.live = true) (hp : (s.half h).plaza.node = some r) (hn : s.node r = some (gr, n))
    (hw : (s.half h).plaza.written = true) (chk : Scan) : exec (.plazaOpComplete h chk) s = .next (s.plazaEnded h r n.op chk) := by
  show execPlazaOpComplete h chk s = _
  rw [execPlazaOpComplete, whenLive_of_live hl, hp]
  simp only [hw, hn, if_true]
  rfl

theorem plazaEnded_shows (hr : (s.nodeAt r).map Node.phase = some .running) (h : Half) (op : List Byte) (chk : Scan) :
    ((s.plazaEnded h r op chk).half h).plaza = {} ∧ (s.plazaEnded h r op chk).rf (PLZ_STATUS h) PLZ_STATUS.BUSY = 0 ∧
    (s.plazaEnded h r op chk).rf (PLZ_OP_COUNT h) PLZ_OP_COUNT.OPS = (s.rf (PLZ_OP_COUNT h) PLZ_OP_COUNT.OPS + 1) % 2 ^ 32 ∧
    ((s.plazaEnded h r op chk).nodeAt r).map Node.phase = some .ended ∧ ((s.plazaEnded h r op chk).half h).mem.t1 = (s.half h).mem.t1 := by
  set u := (s.plazaChecks r op chk).leaveRings h .plaza false
  have k : KeepsUnit s u := (KeepsUnit.plazaChecks ..).trans (.leaveRings ..)
  obtain ⟨hidle, hbusy, hops, hmem⟩ := plazaIdle_shows u h
  refine ⟨hidle, hbusy, hops.trans ?_, nodeAt_endNode ?_, ?_⟩
  · rw [rf_plzOps k.regs]
  · rw [State.nodeAt_congr (s := u) (by rw [State.plazaIdle, State.modPlaza, State.modHalf_graphs]; rfl), sameNodes_get k.nodes (fun _ => rfl), hr]
  · exact (congrArg MemHalf.t1 hmem).trans (k.t1 h)

end Sys2Proof.Machine
end

section
/-! PROOF. The registers of correction sets (R199, R205): a set takes its region against the context's quota, or is refused it. -/

namespace Sys2Proof.Machine

variable {s t u : State} {h : Half} {k v c : Nat}

theorem exec_sdsSetCtrlWrite (hl : s.live = true) (hk : k < 256) : exec (.sdsSetCtrlWrite h k v) s = .next (s.setCtrlWrite h k v) :=
  (whenLive_of_live hl (fun s => if k < 256 then s.setCtrlWrite h k v else s)).trans (by rw [if_pos hk])

theorem exec_sdsSetRegionWrite (hl : s.live = true) (hk : k < 256) : exec (.sdsSetRegionWrite h k v) s = .next (s.setRegionWrite h k v) :=
  (whenLive_of_live hl (fun s => if k < 256 then s.setRegionWrite h k v else s)).trans (by rw [if_pos hk])

theorem bits_byte (v : Nat) : bits v 0 8 = v % 256 := by simp [bits]
theorem bits_word (v : Nat) : bits v 0 32 = v % 2 ^ 32 := by simp [bits]

/-- A refusal is shown and recorded, and changes nothing else. -/
theorem regionRefused_shows (s : State) (h : Half) (k v : Nat) : (s.regionRefused h k v).rf (SDS_EVENT h) SDS_EVENT.REGION_REFUSED = 1 ∧
    onlyLogged [SDS_EVENT h] s (s.regionRefused h k v) := by
  have hflag : onlyLogged [SDS_EVENT h] s (s.wf (SDS_EVENT h) SDS_EVENT.REGION_REFUSED 1) :=
    onlyLogged_of_onlyRegs (onlyRegs_wf (onlyRegs_refl ..) _ _ _ (by simp))
  have hcls : LogReq.cls { logSoft 5 v with event := 3, subject := k, kind := 11 } < 64 := by simp [logSoft]
  refine ⟨(rf_of_onlyLogged (log_onlyLogged _ _ _ hcls) (by simp) ?_).trans (State.rf_wf_same _ _ _ (by decide) (by decide)),
    onlyLogged_log hflag _ _ hcls⟩
  cases h <;> decide

/-! ## A set becomes VALID, or stops being so -/

/-- The set is VALID in a context, EMPTY, and its region counts against the context's quota. -/
def State.csetTaken (s : State) (h : Half) (k c : Nat) : State :=
  (((s.wf (SDS_SET_CTRL h k) SDS_SET_CTRL.CONTEXT c).wf (SDS_SET_CTRL h k) SDS_SET_CTRL.VALID 1).setCsetState h k 0).add (SDS_CTX_QUOTA h c)
    SDS_CTX_QUOTA.USED (s.csetSize h k)

/-- The set is not VALID, and its region counts no more. -/
def State.csetFreed (s : State) (h : Half) (k c : Nat) : State :=
  ((s.wf (SDS_SET_CTRL h k) SDS_SET_CTRL.VALID 0).setCsetState h k 0).sub (SDS_CTX_QUOTA h c) SDS_CTX_QUOTA.USED (s.csetSize h k)

theorem setCtrlWrite_takes (hv : s.csetValid h k = false) (hb : bit v 8 = true) : s.setCtrlWrite h k v =
    if s.regionMeets h k (s.csetBase h k) (s.csetSize h k) = true ∨ s.regionFits h (v % 256) (s.csetSize h k) = false then s.regionRefused h k v
    else s.csetTaken h k (v % 256) := by
  unfold State.setCtrlWrite
  simp only [hv, hb, bits_byte, Bool.false_eq_true, if_false, Bool.not_true, Bool.not_eq_true']
  rfl

theorem setCtrlWrite_frees (hv : s.csetValid h k = true) (hb : bit v 8 = false) (hc : v % 256 = s.rf (SDS_SET_CTRL h k) SDS_SET_CTRL.CONTEXT)
    (hu : s.csetUsers h k = 0) (hs : s.stagesSet h k = false) : s.setCtrlWrite h k v = s.csetFreed h k (v % 256) := by
  unfold State.setCtrlWrite
  simp only [hv, hb, bits_byte, hc, hu, hs, Bool.false_eq_true, if_false, if_true, ne_eq, not_true_eq_false, or_self]
  rfl

/-- Control registers of sets lie below the quotas. -/
theorem setCtrl_ne_quota (hk : k < 256) : SDS_SET_CTRL h k + 0 ≠ SDS_CTX_QUOTA h c + 0 := by simp only [SDS_SET_CTRL, SDS_CTX_QUOTA]; omega

/-- A fitting region does not overflow the count. -/
theorem used_of_regionFits {m : Nat} (hf : s.regionFits h c m = true) : s.rf (SDS_CTX_QUOTA h c) SDS_CTX_QUOTA.USED + m < 2 ^ 16 := by
  have hle : s.rf (SDS_CTX_QUOTA h c) SDS_CTX_QUOTA.USED + m ≤ s.rf (SDS_CTX_QUOTA h c) SDS_CTX_QUOTA.LIMIT := of_decide_eq_true hf
  exact hle.trans_lt (State.rf_lt ..)

theorem csetTaken_shows (hk : k < 256) (hc : c < 256) (hf : s.regionFits h c (s.csetSize h k) = true) :
    (s.csetTaken h k c).csetValid h k = true ∧ (s.csetTaken h k c).rf (SDS_SET_CTRL h k) SDS_SET_CTRL.CONTEXT = c ∧
    (s.csetTaken h k c).csetState h k = 0 ∧ (s.csetTaken h k c).rf (SDS_CTX_QUOTA h c) SDS_CTX_QUOTA.USED =
      s.rf (SDS_CTX_QUOTA h c) SDS_CTX_QUOTA.USED + s.csetSize h k ∧
    onlyRegs [SDS_SET_CTRL h k, SDS_CTX_QUOTA h c] s (s.csetTaken h k c) := by
  have hne := setCtrl_ne_quota (h := h) (c := c) hk
  have hctrl : ∀ g : Fld, g.off = 0 → (s.csetTaken h k c).rf (SDS_SET_CTRL h k) g =
      (((s.wf (SDS_SET_CTRL h k) SDS_SET_CTRL.CONTEXT c).wf (SDS_SET_CTRL h k) SDS_SET_CTRL.VALID 1).setCsetState h k 0).rf (SDS_SET_CTRL h k) g :=
    fun g hg => State.rf_wf_ne _ _ _ _ (by rw [hg]; exact hne)
  refine ⟨?valid, ?context, ?state, ?used, ?regs⟩
  case valid =>
    unfold State.csetValid State.on
    rw [hctrl _ rfl, State.setCsetState]
    simp (disch := decide) only [State.rf_wf_field, State.rf_wf]
    rfl
  case context =>
    rw [hctrl _ rfl, State.setCsetState]
    simp (disch := decide) only [State.rf_wf_field, State.rf_wf]
    exact Nat.mod_eq_of_lt hc
  case state =>
    unfold State.csetState
    rw [hctrl _ rfl]
    exact State.rf_wf_same _ _ _ (by decide) (by decide)
  case used =>
    refine (State.rf_wf _ _ _ _ (by decide)).trans ?_
    rw [State.setCsetState, State.rf_wf_ne _ _ _ _ hne.symm, State.rf_wf_ne _ _ _ _ hne.symm, State.rf_wf_ne _ _ _ _ hne.symm]
    exact Nat.mod_eq_of_lt (used_of_regionFits hf)
  case regs =>
    exact onlyRegs_wf (onlyRegs_wf (onlyRegs_wf (onlyRegs_wf (onlyRegs_refl ..) _ _ _ (by simp)) _ _ _ (by simp)) _ _ _ (by simp)) _ _ _ (by simp)

theorem csetFreed_shows (hk : k < 256) : (s.csetFreed h k c).csetValid h k = false ∧ (s.csetFreed h k c).csetState h k = 0 ∧
    (s.csetFreed h k c).rf (SDS_CTX_QUOTA h c) SDS_CTX_QUOTA.USED = s.rf (SDS_CTX_QUOTA h c) SDS_CTX_QUOTA.USED - s.csetSize h k := by
  have hne := setCtrl_ne_quota (h := h) (c := c) hk
  have hctrl : ∀ g : Fld, g.off = 0 → (s.csetFreed h k c).rf (SDS_SET_CTRL h k) g =
      ((s.wf (SDS_SET_CTRL h k) SDS_SET_CTRL.VALID 0).setCsetState h k 0).rf (SDS_SET_CTRL h k) g :=
    fun g hg => State.rf_wf_ne _ _ _ _ (by rw [hg]; exact hne)
  refine ⟨?valid, ?state, ?used⟩
  case valid =>
    unfold State.csetValid State.on
    rw [hctrl _ rfl, State.setCsetState]
    simp (disch := decide) only [State.rf_wf_field, State.rf_wf]
    rfl
  case state =>
    unfold State.csetState
    rw [hctrl _ rfl]
    exact State.rf_wf_same _ _ _ (by decide) (by decide)
  case used =>
    refine (State.rf_wf _ _ _ _ (by decide)).trans ?_
    rw [State.setCsetState, State.rf_wf_ne _ _ _ _ hne.symm, State.rf_wf_ne _ _ _ _ hne.symm]
    exact Nat.mod_eq_of_lt ((Nat.sub_le ..).trans_lt (State.rf_lt ..))

/-! ## A set's region is written -/

/-- While the set is not VALID, a region that is clear of the others and fits the quota is taken as written. -/
theorem setRegionWrite_takes (hv : s.csetValid h k = false) : s.setRegionWrite h k v =
    if s.regionMeets h k (v % 65536) (v / 65536 % 65536) = true ∨
      s.regionFits h (s.rf (SDS_SET_CTRL h k) SDS_SET_CTRL.CONTEXT) (v / 65536 % 65536) = false then s.regionRefused h k v
    else s.wr (SDS_SET_REGION h k) (BitVec.ofNat 32 v) := by
  have hlo : v % 2 ^ 32 % 65536 = v % 65536 := by omega
  have hhi : v % 2 ^ 32 / 65536 = v / 65536 % 65536 := by omega
  have hword : BitVec.ofNat 32 (v % 2 ^ 32) = BitVec.ofNat 32 v := BitVec.eq_of_toNat_eq (by simp)
  unfold State.setRegionWrite
  simp only [hv, bits_word, hlo, hhi, hword, Bool.false_eq_true, if_false, Bool.not_eq_true']

theorem wrRegion_shows (s : State) (h : Half) (k v : Nat) : (s.wr (SDS_SET_REGION h k) (BitVec.ofNat 32 v)).csetBase h k = v % 65536 ∧
    (s.wr (SDS_SET_REGION h k) (BitVec.ofNat 32 v)).csetSize h k = v / 65536 % 65536 := by
  have hget : ∀ f : Fld, f.off = 0 → (s.wr (SDS_SET_REGION h k) (BitVec.ofNat 32 v)).rf (SDS_SET_REGION h k) f = v % 2 ^ 32 / 2 ^ f.lo % 2 ^ f.len :=
    fun f hf => by
      unfold State.rf getF
      rw [hf, Nat.add_zero, State.rd_wr_same, BitVec.extractLsb'_toNat, BitVec.toNat_ofNat, Nat.shiftRight_eq_div_pow]
  unfold State.csetBase State.csetSize
  rw [hget _ rfl, hget _ rfl]
  constructor <;> (simp only; omega)

end Sys2Proof.Machine
end

section
/-! PROOF. A STAGE starts, and its set becomes READY (R196, R197). -/

namespace Sys2Proof.Machine

variable {s t u : State} {h x : Half} {a k d q : Nat} {f : Fld} {r : NodeRef} {n : Node} {gr : Graph} {data : List Byte} {chk : Scan} {fault : Bool}

/-! ## Nodes -/

theorem State.node_map {α : Type} (s : State) (r : NodeRef) (F : Node → α) : (s.node r).map (fun x => F x.2) = (s.nodeAt r).map F := by
  unfold State.nodeAt
  rw [Option.map_map]
  rfl

theorem phase_of_node {p : NodePhase} (hn : s.node r = some (gr, n)) (hp : n.phase = p) : (s.nodeAt r).map Node.phase = some p := by
  rw [State.nodeAt_of_node hn, Option.map_some, hp]

theorem nodeIn_of_nodeAt {p : NodePhase} (hp : (s.nodeAt r).map Node.phase = some p) : s.nodeIn r p = true := by
  rw [← State.node_map, Option.map_eq_some_iff] at hp
  obtain ⟨⟨g, m⟩, hm, hp⟩ := hp
  simp only [State.nodeIn, hm]
  exact beq_iff_eq.2 hp

theorem KeepsUnit.logNode (s : State) (h : Half) (r : NodeRef) (y : LogReq) (hc : y.cls < 64) : KeepsUnit s (s.logNode h r y) := log s h _ hc

/-! ## What the copy's reader leaves -/

/-- Registers of a half's correction sets. -/
theorem unitReg_cset (h : Half) (hk : k < 256) (hf : f.off = 0) : unitReg (SDS_SET_CTRL h k + f.off) := by
  rw [hf, Nat.add_zero, SDS_SET_CTRL, Nat.add_assoc, unitReg_iff] <;> omega
theorem unitReg_region (h : Half) (hk : k < 256) (hf : f.off = 0) : unitReg (SDS_SET_REGION h k + f.off) := by
  rw [hf, Nat.add_zero, SDS_SET_REGION, Nat.add_assoc, unitReg_iff] <;> omega

theorem rd_unit_wake (s : State) (hd : d < 144) (ha : unitReg a) : (s.wake d).1.rd a = s.rd a := by
  unfold unitReg at ha
  rcases wake_cases s d with e | e <;> rw [e]
  · rw [rd_of_onlyLogged (log_onlyLogged _ _ _ (by simp [logPower])) (by simp) (by omega), State.rd_wf_ne]
    simp only [PWR_EVENT]; omega
  · refine (onlyRegsPower_foldl _ (wakeOrder_lt s hd)).2 a ?_
    simp only [domRegs, List.mem_map, List.mem_range, PWR_DOMAIN_STATUS, not_exists, not_and]
    intros; omega

theorem rd_unit_keepWake (s : State) (hd : d < 144) (ha : unitReg a) : (s.keepWakes [d]).rd a = s.rd a := by
  unfold State.keepWakes
  rw [List.foldl_cons, List.foldl_nil]
  split
  · exact rd_unit_wake s hd ha
  · rfl

/-- The STAGE of a half copies for the same node as before, into the same bytes, and the states of its sets stay. -/
structure KeepsCopy (h : Half) (s t : State) : Prop where
  cset : ∀ k < 256, t.csetState h k = s.csetState h k
  node : (t.half h).stage.node = (s.half h).stage.node
  running : (t.half h).stage.running = (s.half h).stage.running
  sdsBuf : (t.half h).sdsBuf = (s.half h).sdsBuf

namespace KeepsCopy

theorem refl (s : State) : KeepsCopy h s s := ⟨fun _ _ => rfl, rfl, rfl, rfl⟩

theorem trans (k : KeepsCopy h s t) (l : KeepsCopy h t u) : KeepsCopy h s u :=
  ⟨fun j hj => (l.cset j hj).trans (k.cset j hj), l.node.trans k.node, l.running.trans k.running, l.sdsBuf.trans k.sdsBuf⟩

theorem ite {p : Prop} [Decidable p] (k : KeepsCopy h s t) (l : KeepsCopy h s u) : KeepsCopy h s (if p then t else u) := by
  split
  · exact k
  · exact l

theorem modHalf (s : State) {F : HalfState → HalfState} (hF : ∀ y, (F y).stage.node = y.stage.node ∧ (F y).stage.running = y.stage.running ∧
    (F y).sdsBuf = y.sdsBuf) : KeepsCopy h s (s.modHalf h F) where
  cset _ _ := State.modHalf_rf ..
  node := by rw [State.half_modHalf_same, (hF _).1]
  running := by rw [State.half_modHalf_same, (hF _).2.1]
  sdsBuf := by rw [State.half_modHalf_same, (hF _).2.2]

theorem send (s : State) (o : Output) : KeepsCopy h s (s.send o) := by cases h <;> exact ⟨fun _ _ => rfl, rfl, rfl, rfl⟩

theorem keepWake (s : State) (hd : d < 144) : KeepsCopy h s (s.keepWakes [d]) where
  cset j hj := by
    unfold State.csetState State.rf
    rw [rd_unit_keepWake s hd (unitReg_cset h hj rfl)]
  node := (congrArg (fun y => y.stage.node) (sameHalves_keepWakes [d] s h) :)
  running := (congrArg (fun y => y.stage.running) (sameHalves_keepWakes [d] s h) :)
  sdsBuf := (congrArg HalfState.sdsBuf (sameHalves_keepWakes [d] s h) :)

theorem dropSense (s : State) (j : Nat) : KeepsCopy h s (s.dropSense h j) := modHalf s fun _ => ⟨rfl, rfl, rfl⟩

theorem asked (s : State) (j q : Nat) : KeepsCopy h s (s.modHalf h (fun y => { y with nv := { y.nv with slcAsk := y.nv.slcAsk ++ [(j, q)] } })) :=
  modHalf s fun _ => ⟨rfl, rfl, rfl⟩

theorem took (s : State) (bs : List Byte) : KeepsCopy h s (s.modHalf h (fun y => { y with stage := { y.stage with data := y.stage.data ++ bs } })) :=
  modHalf s fun _ => ⟨rfl, rfl, rfl⟩

/-- A row asked for lies on a plane of the half, or is the next one. -/
theorem askSense (s : State) (j : Nat) (hq : q ≤ 2 ^ 25) : KeepsCopy h s (s.askSense h j q) := by
  have hdom : galDom h (q / 2 ^ 20) < 144 := by cases h <;> simp only [galDom, Half.num] <;> omega
  exact ite (refl s) (((dropSense s j).trans (asked ..)).trans (keepWake _ hdom))

theorem translate (s : State) (func pasid addr len : Nat) : KeepsCopy h s (s.translate h func pasid addr len) := by
  unfold State.translate
  split
  · exact modHalf s fun _ => ⟨rfl, rfl, rfl⟩
  · exact refl s

theorem t3Get (s : State) (func pasid addr len : Nat) : KeepsCopy h s (s.t3Get h func pasid addr len) := by
  unfold State.t3Get
  exact (translate ..).trans (send ..)

theorem stageSense (s : State) (n : Node) (hdata : (s.half h).stage.data = []) : KeepsCopy h s (s.stageSense h n) := by
  have hrow : s.stageRow h n + 1 ≤ 2 ^ 25 := by
    have hplane := plane_lt (stgAddr n)
    have hword := bits_lt (stgAddr n) 16 10
    simp only [State.stageRow, hdata, List.length_nil]; omega
  have hread : ∀ bs, KeepsCopy h s ((s.modHalf h (fun y => { y with stage := { y.stage with data := y.stage.data ++ bs } })).dropSense h 64) :=
    fun bs => (took s bs).trans (dropSense ..)
  exact ite (refl s) (ite (ite (hread _) ((hread _).trans (askSense _ _ hrow))) (askSense _ _ (by omega)))

end KeepsCopy

/-! ## STAGE (R196) -/

/-- The set is STAGING and the copy runs. -/
def State.staging (s : State) (h : Half) (k : Nat) : State :=
  ((s.setCsetState h k 1).wf (SDS_SET_CTRL h k) SDS_SET_CTRL.STAGE_WAITING 0).modHalf h (fun x => { x with stage := { x.stage with running := true } })

theorem staging_half (s : State) (h : Half) (k : Nat) : (s.staging h k).half h = { s.half h with stage := { (s.half h).stage with running := true } } := by
  rw [State.staging, State.half_modHalf_same, State.wf_half, State.setCsetState, State.wf_half]

theorem staging_csetState (s : State) (h : Half) (k : Nat) : (s.staging h k).csetState h k = 1 := by
  unfold State.csetState
  rw [State.staging, State.modHalf_rf,
    State.rf_wf_field (f := SDS_SET_CTRL.STAGE_WAITING) (g := SDS_SET_CTRL.STATE) _ _ _ rfl (by decide)]
  exact State.rf_wf_same _ _ _ (by decide) (by decide)

theorem onlyRegs_staging (s : State) (h : Half) (k : Nat) : onlyRegs [SDS_SET_CTRL h k] s ((s.staging h k).setHalf h (s.half h)) := by
  rw [State.staging, State.modHalf_setHalf, State.setCsetState, State.wf_setHalf, State.wf_setHalf, State.setHalf_self]
  exact onlyRegs_wf (onlyRegs_wf (onlyRegs_refl ..) _ _ _ (by simp)) _ _ _ (by simp)

theorem stgSet_lt (n : Node) : stgSet n < 256 := bits_lt _ 0 8

theorem exec_stage (hl : s.live = true) (hs : (s.half h).stage = { node := some r, running := false }) (hn : s.node r = some (gr, n))
    (hp : n.phase = .running) (hm : s.stageMine h r n = true) (ht : s.stageT0Ok h r n = true) (hu : s.csetUsers h (stgSet n) = 0)
    (hg : s.power.gateOpen = true) : exec (.stage h) s = .next (s.stageStart h r n) := by
  have hin : s.nodeIn r .running = true := by simp [State.nodeIn, hn, hp]
  show execStage h s = _
  rw [execStage, whenLive_of_live hl]
  simp only [hs, hn, hin, hm, ht, hu, hg, Bool.not_true, Bool.false_eq_true, if_false, ne_eq, not_true_eq_false]

/-- Beyond that, a STAGE asks its source for bytes. -/
theorem stageStart_asks (hs : (s.half h).stage = { node := some r, running := false }) :
    KeepsCopy h (s.staging h (stgSet n)) (s.stageStart h r n) := by
  have e : s.stageStart h r n = if stgSource n = 3 then (s.staging h (stgSet n)).t3Get h (s.ctxFunc r.ctx) (stgPasid n) (stgAddr n) (stgLength n)
      else (s.staging h (stgSet n)).stageSense h n := rfl
  rw [e]
  split
  · exact .t3Get ..
  · exact .stageSense _ n (by rw [staging_half, hs])

theorem stageStart_local (h0 : stgSource n ≠ 0) (h3 : stgSource n ≠ 3) : s.stageStart h r n = s.staging h (stgSet n) := by
  unfold State.stageStart State.stageSense
  simp only [h0, h3, if_false, ne_eq, not_false_eq_true, true_or, if_true]
  rfl

theorem stageStart_host (h3 : stgSource n = 3) : Output.t3Read (s.ctxFunc r.ctx) (if (s.func (s.ctxFunc r.ctx)).pasidEn then some (stgPasid n) else none)
    (stgAddr n) (stgLength n) ∈ (s.stageStart h r n).outbox := by
  have e : s.stageStart h r n = (s.staging h (stgSet n)).t3Get h (s.ctxFunc r.ctx) (stgPasid n) (stgAddr n) (stgLength n) := if_pos h3
  have hfunc : (s.staging h (stgSet n)).func (s.ctxFunc r.ctx) = s.func (s.ctxFunc r.ctx) := by
    unfold State.func; rw [State.staging, State.modHalf_pcie]; rfl
  rw [e, State.t3Get, State.send_outbox_append, hfunc]
  simp

/-! ## STAGE_DONE (R196, R197) -/

/-- The halves as far as they are steady, the nodes but for their marks, and the states of correction sets. -/
structure KeepsStates (s t : State) : Prop where
  half : ∀ h, (t.half h).steady = (s.half h).steady
  nodes : sameNodes s t
  cset : ∀ h, ∀ k < 256, t.csetState h k = s.csetState h k

namespace KeepsStates

theorem refl (s : State) : KeepsStates s s := ⟨fun _ => rfl, fun _ => rfl, fun _ _ _ => rfl⟩

theorem trans (k : KeepsStates s t) (l : KeepsStates t u) : KeepsStates s u :=
  ⟨fun h => (l.half h).trans (k.half h), sameNodes_trans k.nodes l.nodes, fun h j hj => (l.cset h j hj).trans (k.cset h j hj)⟩

theorem foldl {β : Type} {F : State → β → State} (hF : ∀ t b, KeepsStates t (F t b)) (l : List β) (s : State) : KeepsStates s (l.foldl F s) := by
  induction l generalizing s with
  | nil => exact refl s
  | cons b l ih => exact (hF s b).trans (ih _)

theorem modNode (s : State) (r : NodeRef) {F : Node → Node} (hF : ∀ n, (F n).steady = n.steady) : KeepsStates s (s.modNode r F) :=
  ⟨fun _ => rfl, sameNodes_modNode s r hF, fun _ _ _ => rfl⟩

theorem bindCset (s : State) (r : NodeRef) (n : Node) : KeepsStates s (s.bindCset r n) := by
  have hadd : KeepsStates s (s.add (SDS_SET_CTRL n.half n.cset) SDS_SET_CTRL.USERS 1) := {
    half := fun h => congrArg HalfState.steady (State.wf_half ..)
    nodes := sameNodes_of_graphs rfl
    cset := fun h k _ => State.rf_wf_disjoint _ _ _ _ _ _ rfl (by decide) }
  exact hadd.trans (modNode _ r fun _ => rfl)

theorem of_unit (k : KeepsUnit s t) : KeepsStates s t := ⟨k.half, k.nodes, fun h _ hj => k.rf (unitReg_cset h hj rfl)⟩

/-- A set that has become READY is bound, or its nodes go without it. -/
theorem lateBind (s : State) (h : Half) (k : Nat) : KeepsStates s (s.lateBind h k) := by
  refine foldl (fun t e => ?_) _ s
  split
  · exact bindCset ..
  · have hlog : KeepsUnit t (t.logNode h e.1 { logSoft 5 0 with subject := k, kind := 11 }) := .logNode _ _ _ _ (show 4 < 64 by decide)
    exact (of_unit (hlog.trans (.markNode ..))).trans (modNode _ e.1 (F := fun n => { n with late := true }) fun _ => rfl)

end KeepsStates

/-- The STAGE of the half is over, with its set READY. -/
theorem stageEnd_half (s : State) (h : Half) (k v : Nat) : ((s.stageEnd h k v).half h).stage = {} ∧
    ((s.stageEnd h k v).half h).sdsBuf = (s.half h).sdsBuf := by
  unfold State.stageEnd State.dropSense
  rw [State.half_modHalf_same, State.half_modHalf_same, State.wf_half, State.setCsetState, State.wf_half]
  exact ⟨rfl, rfl⟩

theorem stageEnd_csetState (s : State) (h : Half) (k : Nat) : (s.stageEnd h k 2).csetState h k = 2 := by
  unfold State.csetState State.stageEnd State.dropSense
  rw [State.modHalf_rf, State.modHalf_rf, State.rf_wf_field (f := SDS_SET_CTRL.STAGE_WAITING) (g := SDS_SET_CTRL.STATE) _ _ _ rfl (by decide)]
  exact State.rf_wf_same _ _ _ (by decide) (by decide)

theorem stageEnd_graphs (s : State) (h : Half) (k v : Nat) : (s.stageEnd h k v).graphs = s.graphs := by
  unfold State.stageEnd State.dropSense
  rw [State.modHalf_graphs, State.modHalf_graphs]
  rfl

/-- The set's bytes stand in its region. -/
def State.copied (s : State) (h : Half) (k : Nat) (bs : List Byte) : State :=
  s.modHalf h (fun x => { x with sdsBuf := memWrite zeroByte x.sdsBuf (64 * s.csetBase h k) bs })

/-- The set is READY, its waiting nodes are bound, and the STAGE's node ends. -/
def State.stageReady (s : State) (h : Half) (r : NodeRef) (k : Nat) (bs : List Byte) : State :=
  (((s.copied h k bs).stageEnd h k 2).lateBind h k).endNode r 0

theorem stageReady_shows (hr : (s.nodeAt r).map Node.phase = some .running) (hk : k < 256) (bs : List Byte) :
    (s.stageReady h r k bs).csetState h k = 2 ∧ ((s.stageReady h r k bs).half h).stage = {} ∧
    ((s.stageReady h r k bs).nodeAt r).map Node.phase = some .ended ∧
    memRead zeroByte ((s.stageReady h r k bs).half h).sdsBuf (64 * s.csetBase h k) bs.length = bs := by
  set u := (s.copied h k bs).stageEnd h k 2 with hu
  have kl : KeepsStates u (u.lateBind h k) := .lateBind ..
  obtain ⟨hstage, hbuf⟩ := stageEnd_half (s.copied h k bs) h k 2
  refine ⟨?_, ?_, nodeAt_endNode ?_, ?_⟩
  · exact (kl.cset h k hk).trans (stageEnd_csetState ..)
  · exact (congrArg HalfState.stage (kl.half h)).trans hstage
  · rw [sameNodes_get kl.nodes (fun _ => rfl), State.nodeAt_congr (s := s) (by rw [hu, stageEnd_graphs, State.copied, State.modHalf_graphs])]
    exact hr
  · have e : ((u.lateBind h k).half h).sdsBuf = memWrite zeroByte (s.half h).sdsBuf (64 * s.csetBase h k) bs :=
      (congrArg HalfState.sdsBuf (kl.half h)).trans (hbuf.trans (by rw [State.copied, State.half_modHalf_same]))
    exact (congrArg (fun m => memRead zeroByte m _ _) e).trans (memRead_memWrite ..)

theorem exec_stageDone (hl : s.live = true) (hs : (s.half h).stage.node = some r) (hr : (s.half h).stage.running = true) (hn : s.node r = some (gr, n))
    (hsrc : stgSource n ≠ 0 ∨ (s.half h).stage.data.length = stgLength n) :
    exec (.stageDone h data chk fault) s = .next (s.stageDone h r n data chk fault) := by
  show execStageDone h data chk fault s = _
  rw [execStageDone, whenLive_of_live hl]
  simp only [hs, hn]
  exact congrArg Host.Outcome.next (if_pos ⟨hr, hsrc⟩)

/-- Reading a STAGE's source leaves what units leave. -/
theorem stageBytes_keeps (s : State) (h : Half) (r : NodeRef) (n : Node) (data : List Byte) (chk : Scan) (fault : Bool) :
    KeepsUnit s (s.stageBytes h r n data chk fault).1 := by
  unfold State.stageBytes
  split
  · exact .refl s
  · exact .refl s
  · exact .checkRead ..

theorem stageBytes_host (h3 : stgSource n = 3) (hlen : stgLength n ≤ data.length) :
    s.stageBytes h r n data chk false = (s, data.take (stgLength n), false) := by
  unfold State.stageBytes
  simp [h3, hlen]

/-- A STAGE that has read a good set whole makes it READY. -/
theorem stageDone_eq {p : State × List Byte × Bool} (hb : s.stageBytes h r n data chk fault = p) (hread : p.2.2 = false)
    (hgood : csetGood p.2.1 (64 * s.csetSize h (stgSet n)) = true) (hlen : p.2.1.length ≤ 64 * s.csetSize h (stgSet n)) :
    s.stageDone h r n data chk fault = p.1.stageReady h r (stgSet n) p.2.1 := by
  subst hb
  have hbase : (s.stageBytes h r n data chk fault).1.csetBase h (stgSet n) = s.csetBase h (stgSet n) :=
    (stageBytes_keeps ..).rf (unitReg_region h (stgSet_lt n) rfl)
  unfold State.stageDone State.stageReady State.copied
  rw [hbase]
  exact if_neg (by simp [hread, hgood, hlen])

/-- Settles O37: the fallback, the Plaza's end and STAGE are stated of what they keep beside the registers that they write. -/
theorem plazaEndAndSidestreetSets : Obligations.PlazaEndAndSidestreetSets := by
  unfold Obligations.PlazaEndAndSidestreetSets
  refine ⟨?fallback, ?early, ?products, ?complete, ?take, ?free, ?region, ?stage, ?host, ?done⟩
  case fallback =>
    intro s h r op us0 hl hp hs hr hd hu hlate hw
    refine ⟨s.fallenBack h op, ?_, ?_, ?_, ?_, ?_, ?_, onlyRegs_fallenBack ..⟩
    · rw [exec_lowrankFallback hl hp hu, hs, hr, hw]
      simp [hd, hlate]
    · rw [fallenBack_plaza]
    · rw [fallenBack_plaza]; exact plazaOp_written hp
    · rw [fallenBack_plaza]
    · exact State.rf_wf_same _ _ _ (by decide) (by decide)
    · exact plazaWaits_of_fallback (by rw [fallenBack_plaza])
  case early =>
    intro s h r op us0 hl hp hu hlt
    rw [exec_lowrankFallback hl hp hu]
    simp [Nat.not_le.2 hlt]
  case products =>
    intro s h r op hl hp hg hf hskip
    refine ⟨_, exec_matmul hl hp hg, ?_⟩
    rw [hf, if_pos rfl, State.fallbackGo, if_pos hskip]
    exact fallback_ends ..
  case complete =>
    intro s h r g n chk hl hs hn hp hw
    obtain ⟨hidle, hbusy, hops, hend, hmem⟩ := plazaEnded_shows (phase_of_node hn hp) h n.op chk
    exact ⟨_, exec_plazaOpComplete hl hs hn hw chk, hidle, hbusy, hops, (State.node_map ..).trans hend, hmem⟩
  case take =>
    intro s h k v hl hk hv hb
    refine ⟨_, exec_sdsSetCtrlWrite hl hk, ?_⟩
    rw [setCtrlWrite_takes hv hb]
    split
    · exact regionRefused_shows ..
    · next hc => exact csetTaken_shows hk (Nat.mod_lt _ (by decide)) (by simpa using (not_or.1 hc).2)
  case free =>
    intro s h k v hl hk hv hb hc hu hs
    refine ⟨_, exec_sdsSetCtrlWrite hl hk, ?_⟩
    rw [setCtrlWrite_frees hv hb hc hu hs]
    exact csetFreed_shows hk
  case region =>
    intro s h k v hl hk hv
    refine ⟨_, exec_sdsSetRegionWrite hl hk, ?_⟩
    rw [setRegionWrite_takes hv]
    split
    · exact regionRefused_shows ..
    · obtain ⟨hbase, hsize⟩ := wrRegion_shows s h k v
      exact ⟨hbase, hsize, onlyRegs_wr (onlyRegs_refl ..) _ _ (by simp)⟩
  case stage =>
    intro s h r g n hl hs hn hp hm ht hu hg
    have k := stageStart_asks (r := r) (n := n) hs
    refine ⟨_, exec_stage hl hs hn hp hm ht hu hg, ?_, ?_, ?_, ?_, fun h0 h3 => ?_, stageStart_host⟩
    · exact (k.cset _ (stgSet_lt n)).trans (staging_csetState ..)
    · rw [k.node, staging_half, hs]
    · rw [k.running, staging_half]
    · rw [k.sdsBuf, staging_half]
    · rw [stageStart_local h0 h3]
      exact onlyRegs_staging ..
  case host =>
    intro s h r g n data chk hl hs hn hp h3 hlen hsize hgood
    have hb := stageBytes_host (s := s) (h := h) (r := r) (chk := chk) h3 hlen
    have htake : (data.take (stgLength n)).length = stgLength n := by rw [List.length_take]; omega
    obtain ⟨hset, hstage, hend, hbuf⟩ := stageReady_shows (h := h) (phase_of_node hn hp) (stgSet_lt n) (data.take (stgLength n))
    refine ⟨_, exec_stageDone hl (by rw [hs]) (by rw [hs]) hn (.inl (by omega)), ?_⟩
    rw [stageDone_eq hb rfl hgood (htake.trans_le hsize)]
    rw [htake] at hbuf
    exact ⟨hset, hstage, (State.node_map ..).trans hend, hbuf⟩
  case done =>
    intro s h r g n data chk f hl hs hr hn hp hsrc hread hgood hlen
    have hphase : ((s.stageBytes h r n data chk f).1.nodeAt r).map Node.phase = some .running :=
      (sameNodes_get (stageBytes_keeps ..).nodes (fun _ => rfl) r).trans (phase_of_node hn hp)
    obtain ⟨hset, hstage, hend, -⟩ := stageReady_shows (h := h) hphase (stgSet_lt n) (s.stageBytes h r n data chk f).2.1
    refine ⟨_, exec_stageDone hl hs hr hn hsrc, ?_⟩
    rw [stageDone_eq rfl hread hgood hlen]
    exact ⟨hset, hstage, nodeIn_of_nodeAt hend⟩

end Sys2Proof.Machine
end

section
/-! PROOF. Rules of the memory tiers' registers and operations (R207 to R219, R242): which part of the registers each operation writes, and that the
time and the queues of waiting commands stay. -/

namespace Sys2Proof.Machine

variable {s t u : State} {h x : Half} {a c d i j n : Nat} {f g : Fld}

/-! ## The parts of the memory tiers' registers (R242) -/

/-- The command block, the pool region, events and errors, counts of work, quotas, the Sweeper, and the home table. -/
inductive MemZone where
  | cmd
  | pool
  | event
  | count
  | quota
  | sweep
  | home
  | other

/-- The part that an offset within a half lies in. -/
def zoneOf (n : Nat) : MemZone :=
  if n < 0x400000 then .other else if n < 0x400100 then .cmd else if n < 0x400120 then .pool else if n < 0x400140 then .event
  else if n < 0x401000 then .count else if n < 0x403000 then .quota else if n < 0x500000 then .sweep else if n < 0x600000 then .home else .other

def memZone (a : Nat) : MemZone := zoneOf (a % 0x02000000)

theorem memZone_base (h : Half) (hn : n < 0x02000000) : memZone (h.base + n) = zoneOf n := by
  have e : (h.base + n) % 0x02000000 = n := by cases h <;> simp only [Half.base] <;> omega
  rw [memZone, e]

theorem zoneOf_ne_other (hz : zoneOf n ≠ .other) : 0x400000 ≤ n ∧ n < 0x600000 := by
  constructor
  · by_contra hn; exact hz (if_pos (by omega))
  · by_contra hn
    refine hz ?_
    unfold zoneOf
    rw [if_neg, if_neg, if_neg, if_neg, if_neg, if_neg, if_neg, if_neg] <;> omega

theorem zoneOf_home (hn : 0x500000 ≤ n ∧ n < 0x600000) : zoneOf n = .home := by
  unfold zoneOf
  rw [if_neg, if_neg, if_neg, if_neg, if_neg, if_neg, if_neg, if_pos] <;> omega

theorem zoneOf_quota (hn : 0x401000 ≤ n ∧ n < 0x403000) : zoneOf n = .quota := by
  unfold zoneOf
  rw [if_neg, if_neg, if_neg, if_neg, if_neg, if_pos] <;> omega

theorem memZone_home (h : Half) (hi : i < 32768) (hf : f.off < 32) : memZone (MEM_HOME h i + f.off) = .home := by
  rw [MEM_HOME, Nat.add_assoc, Nat.add_assoc, memZone_base _ (by omega), zoneOf_home (by omega)]

theorem memZone_quota (h : Half) (hn : 0x401000 ≤ n ∧ n < 0x403000) : memZone (h.base + n) = .quota := by
  rw [memZone_base _ (by omega), zoneOf_quota hn]

theorem zone_cmdCtrl (h : Half) : memZone (MEM_CMD_CTRL h) = .cmd := memZone_base h (by decide)

theorem zone_cmd (h : Half) {k : Nat} (hk : k < 8) : memZone (MEM_CMD h k) = .cmd := by
  rw [MEM_CMD, Nat.add_assoc, memZone_base _ (by omega), zoneOf, if_neg (by omega), if_pos (by omega)]

/-! ## What an operation touches -/

/-- A half's time, and its queues of placements and of commands that wait. -/
def HalfState.queues (y : HalfState) : Nat × List AllocReq × List (MemSrc × List Byte) := (y.us, y.mem.allocWait, y.mem.waiting)

/-- Of the memory tiers' registers only those of the parts `Z` may differ, and time and queues stay. -/
structure Touches (Z : List MemZone) (s t : State) : Prop where
  rd : ∀ a, memZone a ≠ .other → memZone a ∉ Z → t.rd a = s.rd a
  half : ∀ x, (t.half x).queues = (s.half x).queues

variable {Z W : List MemZone} {z : MemZone}

namespace Touches

theorem refl (Z : List MemZone) (s : State) : Touches Z s s := ⟨fun _ _ _ => rfl, fun _ => rfl⟩

theorem trans (k : Touches Z s t) (l : Touches Z t u) : Touches Z s u :=
  ⟨fun a ho hz => (l.rd a ho hz).trans (k.rd a ho hz), fun x => (l.half x).trans (k.half x)⟩

theorem mono (hs : ∀ z ∈ Z, z ∈ W) (k : Touches Z s t) : Touches W s t := ⟨fun a ho hz => k.rd a ho fun hm => hz (hs _ hm), k.half⟩

theorem ite {p : Prop} [Decidable p] (k : Touches Z s t) (l : Touches Z s u) : Touches Z s (if p then t else u) := by
  split
  · exact k
  · exact l

theorem foldl_mem {β : Type} {F : State → β → State} {l : List β} (hF : ∀ b ∈ l, ∀ t, Touches Z t (F t b)) (s : State) :
    Touches Z s (l.foldl F s) := by
  induction l generalizing s with
  | nil => exact refl Z s
  | cons b l ih => exact (hF b List.mem_cons_self s).trans (ih (fun c hc => hF c (List.mem_cons_of_mem b hc)) _)

/-! ### What it leaves -/

theorem rf (k : Touches Z s t) (ha : memZone (a + f.off) = z) (ho : z ≠ .other) (hz : z ∉ Z) : t.rf a f = s.rf a f := by
  subst ha
  unfold State.rf; rw [k.rd _ ho hz]

/-- A register whose fields are all in one word. -/
theorem reg (k : Touches Z s t) (ha : memZone a = z) (hf : f.off = 0) (ho : z ≠ .other) (hz : z ∉ Z) : t.rf a f = s.rf a f :=
  k.rf (by rw [hf]; exact ha) ho hz

theorem home (k : Touches Z s t) (hi : i < 32768) (hf : f.off < 32) (hz : .home ∉ Z) : t.rf (MEM_HOME h i) f = s.rf (MEM_HOME h i) f :=
  k.rf (memZone_home h hi hf) (by simp) hz

theorem objState (k : Touches Z s t) (hi : i < 32768) (hz : .home ∉ Z) : t.objState h i = s.objState h i := k.home hi (by decide) hz

theorem us (k : Touches Z s t) (x : Half) : t.us x = s.us x := congrArg Prod.fst (k.half x)
theorem allocWait (k : Touches Z s t) (x : Half) : (t.half x).mem.allocWait = (s.half x).mem.allocWait := congrArg (fun y => y.2.1) (k.half x)
theorem waiting (k : Touches Z s t) (x : Half) : (t.half x).mem.waiting = (s.half x).mem.waiting := congrArg (fun y => y.2.2) (k.half x)

/-! ### Single changes -/

theorem wr (s : State) (v : Word) (hz : memZone a ∈ Z) : Touches Z s (s.wr a v) :=
  ⟨fun b _ hb => State.rd_wr_ne s v fun (e : b = a) => hb (e ▸ hz), fun x => by cases x <;> rfl⟩

theorem wf (s : State) (v : Nat) (hz : memZone (a + f.off) ∈ Z) : Touches Z s (s.wf a f v) := wr s _ hz

theorem wfHome (s : State) (v : Nat) (hi : i < 32768) (hf : f.off < 32) (hz : .home ∈ Z) : Touches Z s (s.home h i f v) :=
  wf s v (by rwa [memZone_home h hi hf])

theorem modHalf (Z : List MemZone) (s : State) (h : Half) {F : HalfState → HalfState} (hF : ∀ y, (F y).queues = y.queues) :
    Touches Z s (s.modHalf h F) where
  rd _ _ _ := State.modHalf_rd ..
  half x := by
    rcases half_modHalf_cases s x h F with e | e <;> rw [e]
    exact hF _

theorem modMem (Z : List MemZone) (s : State) (h : Half) {F : MemHalf → MemHalf} (hF : ∀ m, (F m).allocWait = m.allocWait ∧ (F m).waiting = m.waiting) :
    Touches Z s (s.modMem h F) :=
  modHalf Z s h fun y => by rw [HalfState.queues, (hF y.mem).1, (hF y.mem).2]; rfl

theorem of_rest (Z : List MemZone) (hr : t.regs = s.regs) (hh : ∀ x, t.half x = s.half x) : Touches Z s t :=
  ⟨fun _ _ _ => State.rd_congr hr _, fun x => by rw [hh x]⟩

theorem of_sameHalves (hr : ∀ a, memZone a ≠ .other → t.rd a = s.rd a) (hh : sameHalves s t) : Touches Z s t :=
  ⟨fun a ho _ => hr a ho, fun x => by rw [← hh x]; rfl⟩

/-- A record lies outside the memory tiers' registers. -/
theorem log (Z : List MemZone) (s : State) (h : Half) (q : LogReq) (hc : q.cls < 64) : Touches Z s (s.log h q) :=
  of_sameHalves (fun a ho => rd_of_onlyLogged (log_onlyLogged s h q hc) (by simp) (by have := zoneOf_ne_other ho; omega)) (sameHalves_log s h q hc)

/-- So does a wake request. -/
theorem wake (Z : List MemZone) (s : State) (hd : d < 144) : Touches Z s (s.wake d).1 := by
  refine of_sameHalves (fun a ho => ?_) (sameHalves_wake s d)
  have hz := zoneOf_ne_other ho
  rcases wake_cases s d with e | e <;> rw [e]
  · rw [rd_of_onlyLogged (log_onlyLogged _ _ _ (by simp [logPower])) (by simp) (by omega), State.rd_wf_ne]
    simp only [PWR_EVENT]; omega
  · refine (onlyRegsPower_foldl _ (wakeOrder_lt s hd)).2 a ?_
    simp only [domRegs, List.mem_map, List.mem_range, PWR_DOMAIN_STATUS, not_exists, not_and]
    intros; omega

theorem keepWakes (Z : List MemZone) (s : State) {ds : List Nat} (hd : ∀ d ∈ ds, d < 144) : Touches Z s (s.keepWakes ds) :=
  foldl_mem (fun d hm t => ite (wake Z t (hd d hm)) (refl Z t)) s

end Touches

/-! ## Home-table entries (R207, R208) -/

/-- Do two fields of a register share no bit? -/
def Fld.apart (f g : Fld) : Bool := decide (f.off ≠ g.off) || decide (f.lo + f.len ≤ g.lo) || decide (g.lo + g.len ≤ f.lo)

theorem State.rf_wf_apart (s : State) (a v : Nat) (hfg : f.apart g = true) : (s.wf a f v).rf a g = s.rf a g := by
  simp only [Fld.apart, Bool.or_eq_true, decide_eq_true_eq] at hfg
  by_cases e : g.off = f.off
  · exact State.rf_wf_field _ _ _ _ _ e (by omega)
  · exact State.rf_wf_ne _ _ _ _ (by omega)

theorem State.rf_home (s : State) (h : Half) (i v : Nat) (hf : f.lo + f.len ≤ 32) : (s.home h i f v).rf (MEM_HOME h i) f = v % 2 ^ f.len :=
  State.rf_wf _ _ _ _ hf

theorem State.rf_home_apart (s : State) (h : Half) (i v : Nat) (hfg : f.apart g = true) :
    (s.home h i f v).rf (MEM_HOME h i) g = s.rf (MEM_HOME h i) g := State.rf_wf_apart s _ v hfg

/-- A write of one entry leaves the others. -/
theorem State.rf_home_ne (s : State) (h : Half) (v : Nat) (hij : j ≠ i) (hf : f.off < 32) (hg : g.off < 32) :
    (s.home h i f v).rf (MEM_HOME h j) g = s.rf (MEM_HOME h j) g := by
  unfold State.home
  exact State.rf_wf_ne s f g v (by unfold MEM_HOME; omega)

/-- Fields of an entry written one after the other. -/
def State.homes (s : State) (h : Half) (i : Nat) (l : List (Fld × Nat)) : State := l.foldl (fun s e => s.home h i e.1 e.2) s

theorem State.rf_homes_apart (s : State) (h : Half) (i : Nat) {l : List (Fld × Nat)} (hl : ∀ e ∈ l, e.1.apart g = true) :
    (s.homes h i l).rf (MEM_HOME h i) g = s.rf (MEM_HOME h i) g := by
  induction l generalizing s with
  | nil => rfl
  | cons e l ih => exact (ih _ fun x hx => hl x (List.mem_cons_of_mem e hx)).trans (State.rf_home_apart s h i _ (hl e List.mem_cons_self))

theorem State.rf_homes_ne (s : State) (h : Half) (hij : j ≠ i) {l : List (Fld × Nat)} (hl : ∀ e ∈ l, e.1.off < 32) (hg : g.off < 32) :
    (s.homes h i l).rf (MEM_HOME h j) g = s.rf (MEM_HOME h j) g := by
  induction l generalizing s with
  | nil => rfl
  | cons e l ih => exact (ih _ fun x hx => hl x (List.mem_cons_of_mem e hx)).trans (State.rf_home_ne s h _ hij (hl e List.mem_cons_self) hg)

/-- Of fields that share no bit, each reads as written. -/
theorem State.rf_homes (s : State) (h : Half) (i : Nat) {l : List (Fld × Nat)} (hp : (l.map Prod.fst).Pairwise (fun f g => g.apart f = true))
    (hm : (f, n) ∈ l) (hf : f.lo + f.len ≤ 32) : (s.homes h i l).rf (MEM_HOME h i) f = n % 2 ^ f.len := by
  induction l generalizing s with
  | nil => cases hm
  | cons e l ih =>
    obtain ⟨hhead, htail⟩ := List.pairwise_cons.1 hp
    rcases List.mem_cons.1 hm with rfl | hm
    · exact (State.rf_homes_apart _ h i fun x hx => hhead x.1 (List.mem_map_of_mem hx)).trans (State.rf_home s h i n hf)
    · exact ih _ htail hm

/-- The fields of an entry in the order in which an ALLOC writes them. -/
def entryFields : List Fld := [MEM_HOME.STATE, MEM_HOME.TIER, MEM_HOME.CONTEXT, MEM_HOME.GEN, MEM_HOME.SWEEP, MEM_HOME.EVICT_FAIL, MEM_HOME.FLAGS,
  MEM_HOME.USE_W, MEM_HOME.USE_R, MEM_HOME.SIZE_LO, MEM_HOME.SIZE_HI, MEM_HOME.BASE, MEM_HOME.DEST, MEM_HOME.DEST_TIER, MEM_HOME.LAST_USE,
  MEM_HOME.BACKING]

theorem entryFields_apart : entryFields.Pairwise (fun f g => g.apart f = true) := by decide

/-- What an ALLOC writes into them. -/
def State.entryOf (s : State) (h : Half) (q : AllocReq) (swept : Bool) : List (Fld × Nat) :=
  entryFields.zip [1, q.tier, q.ctx, nextGen (s.rf (MEM_HOME h q.idx) MEM_HOME.GEN), b2n swept, 0, q.flags, 0, 0, q.size, q.size / 2 ^ 32, q.base, 0, 0,
    s.us h, q.backing.getD 0]

theorem allocEntry_eq (s : State) (h : Half) (q : AllocReq) (swept : Bool) : s.allocEntry h q swept = s.homes h q.idx (s.entryOf h q swept) := rfl

theorem entryOf_off (s : State) (h : Half) (q : AllocReq) (swept : Bool) : ∀ e ∈ s.entryOf h q swept, e.1.off < 32 := by
  have hoff : ∀ f ∈ entryFields, f.off < 32 := by decide
  exact fun e he => hoff _ (List.of_mem_zip he).1

theorem rf_allocEntry (s : State) (h : Half) (q : AllocReq) (swept : Bool) (hm : (f, n) ∈ s.entryOf h q swept) (hf : f.lo + f.len ≤ 32) :
    (s.allocEntry h q swept).rf (MEM_HOME h q.idx) f = n % 2 ^ f.len :=
  State.rf_homes s h q.idx entryFields_apart hm hf

theorem nextGen_lt (hn : n < 2 ^ 14) : nextGen n < 2 ^ 14 := by
  unfold nextGen; split <;> omega

/-- An ALLOC that completes leaves its entry RESIDENT, at its place, with the next GEN (R208). -/
theorem allocEntry_shows (s : State) (h : Half) (q : AllocReq) (swept : Bool) : (s.allocEntry h q swept).objState h q.idx = 1 ∧
    (s.allocEntry h q swept).rf (MEM_HOME h q.idx) MEM_HOME.TIER = q.tier % 4 ∧
    (s.allocEntry h q swept).rf (MEM_HOME h q.idx) MEM_HOME.BASE = q.base % 2 ^ 20 ∧
    (s.allocEntry h q swept).rf (MEM_HOME h q.idx) MEM_HOME.SWEEP = b2n swept % 2 ∧
    (s.allocEntry h q swept).rf (MEM_HOME h q.idx) MEM_HOME.GEN = nextGen (s.rf (MEM_HOME h q.idx) MEM_HOME.GEN) := by
  refine ⟨?state, ?tier, ?base, ?sweep, ?gen⟩
  case state => exact rf_allocEntry (n := 1) s h q swept (by simp [State.entryOf, entryFields]) (by decide)
  case tier => exact rf_allocEntry s h q swept (by simp [State.entryOf, entryFields]) (by decide)
  case base => exact rf_allocEntry s h q swept (by simp [State.entryOf, entryFields]) (by decide)
  case sweep => exact rf_allocEntry s h q swept (by simp [State.entryOf, entryFields]) (by decide)
  case gen =>
    exact (rf_allocEntry s h q swept (n := nextGen (s.rf (MEM_HOME h q.idx) MEM_HOME.GEN)) (by simp [State.entryOf, entryFields]) (by decide)).trans
      (Nat.mod_eq_of_lt (nextGen_lt (State.rf_lt ..)))

/-! ## The halves after an operation -/

@[simp] theorem State.modMem_mem (s : State) (h : Half) (F : MemHalf → MemHalf) : ((s.modMem h F).half h).mem = F (s.half h).mem := by
  rw [State.modMem, State.half_modHalf_same]
@[simp] theorem State.modMem_other (s : State) (h : Half) (F : MemHalf → MemHalf) : (s.modMem h F).half h.other = s.half h.other :=
  State.half_modHalf_other ..
@[simp] theorem State.modMem_rd (s : State) (h : Half) (F : MemHalf → MemHalf) (a : Nat) : (s.modMem h F).rd a = s.rd a := State.modHalf_rd ..
@[simp] theorem State.modMem_rf (s : State) (h : Half) (F : MemHalf → MemHalf) (a : Nat) (f : Fld) : (s.modMem h F).rf a f = s.rf a f :=
  State.modHalf_rf ..
@[simp] theorem State.modMem_regs (s : State) (h : Half) (F : MemHalf → MemHalf) : (s.modMem h F).regs = s.regs := State.modHalf_regs ..

@[simp] theorem State.add_half (s : State) (a : Nat) (f : Fld) (v : Nat) (x : Half) : (s.add a f v).half x = s.half x := State.wf_half ..
@[simp] theorem State.home_half (s : State) (h : Half) (i : Nat) (f : Fld) (v : Nat) (x : Half) : (s.home h i f v).half x = s.half x := State.wf_half ..
@[simp] theorem State.setUsed_half (s : State) (h : Half) (c tier : Nat) (p : Bool) (v : Nat) (x : Half) :
    (s.setUsed h c tier p v).half x = s.half x := by
  unfold State.setUsed; split_ifs <;> exact State.wf_half ..
@[simp] theorem State.charge_half (s : State) (h : Half) (c tier : Nat) (p : Bool) (v : Nat) (x : Half) : (s.charge h c tier p v).half x = s.half x :=
  State.setUsed_half ..
@[simp] theorem State.uncharge_half (s : State) (h : Half) (c tier : Nat) (p : Bool) (v : Nat) (x : Half) :
    (s.uncharge h c tier p v).half x = s.half x := State.setUsed_half ..
@[simp] theorem State.allocEntry_half (s : State) (h : Half) (q : AllocReq) (w : Bool) (x : Half) : (s.allocEntry h q w).half x = s.half x :=
  half_foldl (fun _ _ => State.home_half ..) _ s
@[simp] theorem State.memEnd_half (s : State) (h : Half) (src : MemSrc) (code : Nat) (v : Option Nat) (x : Half) :
    (s.memEnd h src code v).half x = s.half x := by
  cases src with
  | regs => cases v <;> simp [State.memEnd]
  | node r => cases x <;> rfl
@[simp] theorem State.keepWakes_mem (s : State) (ds : List Nat) (x : Half) : ((s.keepWakes ds).half x).mem = (s.half x).mem :=
  sameHalves_mem (sameHalves_keepWakes ds s) x
@[simp] theorem State.release_mem (s : State) (h : Half) (r : Fill) :
    ((s.release h r).half h).mem = { (s.half h).mem with fills := (s.half h).mem.fills ++ [r] } := by
  rw [State.release, State.keepWakes_mem, State.modMem_mem]

/-! ## Domains of the memories (Table 14.2) -/

theorem bankDom_lt (h : Half) {b : Nat} (hb : b < 16) : bankDom h b < 144 := by cases h <;> simp only [bankDom, Half.num] <;> omega
theorem phyDom_lt (h : Half) {k : Nat} (hk : k < 2) : phyDom h k < 144 := by cases h <;> simp only [phyDom, Half.num] <;> omega

theorem banks_lt (h : Half) : ∀ d ∈ (List.range 16).map (bankDom h), d < 144 := by
  intro d hd
  obtain ⟨b, hb, rfl⟩ := List.mem_map.1 hd
  exact bankDom_lt h (List.mem_range.1 hb)

theorem phys_lt (h : Half) : ∀ d ∈ [phyDom h 0, phyDom h 1], d < 144 := by
  simp [phyDom_lt]

theorem memDoms_lt (h : Half) : ∀ d ∈ memDoms h, d < 144 := fun d hd => (List.mem_append.1 hd).elim (banks_lt h d) (phys_lt h d)

theorem runDoms_lt (h : Half) (tier base len : Nat) : ∀ d ∈ runDoms h tier base len, d < 144 := by
  intro d hd
  unfold runDoms at hd
  split at hd
  · obtain ⟨b, hb, rfl⟩ := List.mem_map.1 hd
    exact bankDom_lt h (List.mem_range.1 (List.mem_of_mem_filter hb))
  · exact phys_lt h d hd

/-! ## What the shared operations touch -/

theorem memZone_used (h : Half) (hc : c < 256) (tier : Nat) (p : Bool) : memZone ((if tier = 2 then MEM_CTX_T2_USED h c else if p then MEM_CTX_POOL h c
    else MEM_CTX_T1 h c) + 0) = .quota := by
  split_ifs
  · rw [MEM_CTX_T2_USED, Nat.add_assoc, Nat.add_assoc]; exact memZone_quota h (by omega)
  · rw [MEM_CTX_POOL, Nat.add_assoc, Nat.add_assoc]; exact memZone_quota h (by omega)
  · rw [MEM_CTX_T1, Nat.add_assoc, Nat.add_assoc]; exact memZone_quota h (by omega)

namespace Touches

theorem setUsed (s : State) (h : Half) (hc : c < 256) (tier : Nat) (p : Bool) (v : Nat) (hz : .quota ∈ Z) : Touches Z s (s.setUsed h c tier p v) := by
  have hq := memZone_used h hc tier p
  unfold State.setUsed
  split_ifs at hq ⊢
  all_goals exact wf s v (by rwa [hq])

theorem charge (s : State) (h : Half) (hc : c < 256) (tier : Nat) (p : Bool) (v : Nat) (hz : .quota ∈ Z) : Touches Z s (s.charge h c tier p v) :=
  setUsed s h hc tier p _ hz
theorem uncharge (s : State) (h : Half) (hc : c < 256) (tier : Nat) (p : Bool) (v : Nat) (hz : .quota ∈ Z) : Touches Z s (s.uncharge h c tier p v) :=
  setUsed s h hc tier p _ hz

theorem memEnd (s : State) (h : Half) (src : MemSrc) (code : Nat) (v : Option Nat) (hz : .cmd ∈ Z) : Touches Z s (s.memEnd h src code v) := by
  have hblk : ∀ k < 8, memZone (MEM_CMD h k) ∈ Z := fun k hk => by rwa [zone_cmd h hk]
  have hctl : ∀ (t : State) (f : Fld) (v : Nat), f.off = 0 → Touches Z t (t.wf (MEM_CMD_CTRL h) f v) := fun t f v hf =>
    wf t v (by rwa [hf, Nat.add_zero, zone_cmdCtrl])
  cases src with
  | regs =>
    have hcode : Touches Z s (s.wf (MEM_CMD h 6) { lo := 0, len := 9 } (code + 256)) := wf s _ (hblk 6 (by decide))
    refine (Touches.trans ?_ (hctl _ _ _ rfl)).trans ((hctl _ _ _ rfl).trans (hctl _ _ _ rfl))
    cases v with
    | none => exact hcode
    | some v => exact hcode.trans (wr _ _ (hblk 1 (by decide)))
  | node r => exact of_rest Z rfl fun x => by cases x <;> rfl

theorem allocEntry (s : State) (h : Half) {q : AllocReq} (w : Bool) (hi : q.idx < 32768) (hz : .home ∈ Z) : Touches Z s (s.allocEntry h q w) := by
  rw [allocEntry_eq]
  exact foldl_mem (fun e he t => wfHome t _ hi (entryOf_off s h q w e he) hz) s

theorem release (Z : List MemZone) (s : State) (h : Half) (r : Fill) : Touches Z s (s.release h r) := by
  have hfill : Touches Z s (s.modMem h fun m => { m with fills := m.fills ++ [r] }) := modMem Z s h fun _ => ⟨rfl, rfl⟩
  exact hfill.trans (keepWakes Z _ (runDoms_lt h r.tier r.base r.len))

end Touches

/-! ## A command of the registers begins and ends (R211, R212) -/

/-- A command of the registers ends with a code: it is no longer BUSY, DONE is set, and RESULT is the code. -/
theorem memEnd_shows (s : State) (h : Half) {code : Nat} (v : Option Nat) (hc : code < 256) :
    (s.memEnd h .regs code v).rf (MEM_CMD_CTRL h) MEM_CMD_CTRL.BUSY = 0 ∧ (s.memEnd h .regs code v).rf (MEM_CMD_CTRL h) MEM_CMD_CTRL.DONE = 1 ∧
    (s.memEnd h .regs code v).rf (MEM_CMD_CTRL h) MEM_CMD_CTRL.RESULT = code := by
  refine ⟨?busy, ?done, ?result⟩
  case busy => simp (disch := decide) only [State.memEnd, State.rf_wf_apart, State.rf_wf]; rfl
  case done => simp (disch := decide) only [State.memEnd, State.rf_wf_apart, State.rf_wf]; rfl
  case result => exact State.rf_wf_same _ _ _ (by decide) hc

/-- A new handle stands in word 1 of the block. -/
theorem memEnd_handle (s : State) (h : Half) (code v : Nat) : (s.memEnd h .regs code (some v)).rd (MEM_CMD h 1) = BitVec.ofNat 32 v := by
  have hne : MEM_CMD h 1 ≠ MEM_CMD_CTRL h + 0 := by unfold MEM_CMD MEM_CMD_CTRL; omega
  unfold State.memEnd
  rw [State.rd_wf_ne _ _ _ hne, State.rd_wf_ne _ _ _ hne, State.rd_wf_ne _ _ _ hne]
  exact State.rd_wr_same ..

/-- Without one, only the block's result and MEM_CMD_CTRL change. -/
theorem onlyRegs_memEnd {as : List Nat} (k : onlyRegs as s t) (h : Half) (code : Nat) (h6 : MEM_CMD h 6 ∈ as) (hctl : MEM_CMD_CTRL h ∈ as) :
    onlyRegs as s (t.memEnd h .regs code none) :=
  onlyRegs_wf (onlyRegs_wf (onlyRegs_wf (onlyRegs_wf k _ _ _ h6) _ _ _ hctl) _ _ _ hctl) _ _ _ hctl

/-- A GO: the registers' command is BUSY. -/
def State.begun (s : State) (h : Half) : State := s.wf (MEM_CMD_CTRL h) MEM_CMD_CTRL.BUSY 1

@[simp] theorem begun_half (s : State) (h x : Half) : (s.begun h).half x = s.half x := State.wf_half ..

theorem begun_busy (s : State) (h : Half) : (s.begun h).rf (MEM_CMD_CTRL h) MEM_CMD_CTRL.BUSY = 1 := State.rf_wf_same _ _ _ (by decide) (by decide)

theorem onlyRegs_begun (s : State) (h : Half) {as : List Nat} (hctl : MEM_CMD_CTRL h ∈ as) : onlyRegs as s (s.begun h) :=
  onlyRegs_wf (onlyRegs_refl as s) _ _ _ hctl

/-- It leaves every register of its half but MEM_CMD_CTRL. -/
theorem rd_begun (s : State) (h : Half) (hn : n ≠ 0x400020) : (s.begun h).rd (h.base + n) = s.rd (h.base + n) :=
  State.rd_wf_ne _ _ _ (by simp only [MEM_CMD_CTRL]; omega)

theorem rf_begun_home (s : State) (h : Half) (i : Nat) (f : Fld) : (s.begun h).rf (MEM_HOME h i) f = s.rf (MEM_HOME h i) f := by
  rw [State.begun, State.rf_wf_ne]
  simp only [MEM_HOME, MEM_CMD_CTRL]; omega

theorem rd_begun_base (s : State) (h : Half) {f : Fld} (hn : n ≠ 0x400020) (hf : f.off = 0) : (s.begun h).rf (h.base + n) f = s.rf (h.base + n) f := by
  unfold State.rf
  rw [hf, Nat.add_zero, rd_begun s h hn]

@[simp] theorem objState_begun (s : State) (h : Half) (i : Nat) : (s.begun h).objState h i = s.objState h i := rf_begun_home ..
@[simp] theorem objSize_begun (s : State) (h : Half) (i : Nat) : (s.begun h).objSize h i = s.objSize h i := by
  unfold State.objSize; rw [rf_begun_home, rf_begun_home]
@[simp] theorem objGranules_begun (s : State) (h : Half) (i : Nat) : (s.begun h).objGranules h i = s.objGranules h i := by
  unfold State.objGranules; rw [objSize_begun, rf_begun_home]
@[simp] theorem pool_begun (s : State) (h : Half) : (s.begun h).pool h = s.pool h :=
  Prod.ext (rd_begun_base s h (by decide) rfl) (rd_begun_base s h (by decide) rfl)

@[simp] theorem quotaUsed_begun (s : State) (h : Half) (c tier : Nat) (p : Bool) : (s.begun h).quotaUsed h c tier p = s.quotaUsed h c tier p := by
  simp only [State.quotaUsed, MEM_CTX_T2_USED, MEM_CTX_POOL, MEM_CTX_T1, Nat.add_assoc]
  rw [rd_begun_base s h (by omega) rfl, rd_begun_base s h (by omega) rfl, rd_begun_base s h (by omega) rfl]
@[simp] theorem quotaLimit_begun (s : State) (h : Half) (c tier : Nat) (p : Bool) : (s.begun h).quotaLimit h c tier p = s.quotaLimit h c tier p := by
  simp only [State.quotaLimit, MEM_CTX_T2_LIMIT, MEM_CTX_POOL, MEM_CTX_T1, Nat.add_assoc]
  rw [rd_begun_base s h (by omega) rfl, rd_begun_base s h (by omega) rfl, rd_begun_base s h (by omega) rfl]
@[simp] theorem quotaFits_begun (s : State) (h : Half) (c tier : Nat) (p : Bool) (n : Nat) : (s.begun h).quotaFits h c tier p n = s.quotaFits h c tier p n := by
  unfold State.quotaFits; rw [quotaUsed_begun, quotaLimit_begun]

/-! ### The entries that are not FREE -/

section
variable {α : Type} {P : Nat × α → Bool} {k : Nat}

theorem filter_mapErase (hP : ∀ v, P (k, v) = false) (m : List (Nat × α)) : (mapErase m k).filter P = m.filter P := by
  rw [mapErase, List.filter_filter]
  refine List.filter_congr fun e _ => ?_
  by_cases he : e.1 = k
  · obtain ⟨_, v⟩ := e
    subst he
    simp [hP v]
  · simp [he]

theorem filter_mapInsert (hP : ∀ v, P (k, v) = false) (v : α) (m : List (Nat × α)) : (mapInsert k v m).filter P = m.filter P := by
  induction m with
  | nil => simp [mapInsert, hP v]
  | cons e m ih =>
    unfold mapInsert
    split
    · rw [List.filter_cons, if_neg (by simp [hP v])]
    · rw [List.filter_cons, List.filter_cons, ih]

/-- An entry that a test does not meet may change without effect on what meets it. -/
theorem filter_mapSet [DecidableEq α] (hP : ∀ v, P (k, v) = false) (d : Nat → α) (m : List (Nat × α)) (v : α) :
    (mapSet d m k v).filter P = m.filter P := by
  unfold mapSet
  split
  · exact filter_mapErase hP m
  · rw [filter_mapInsert hP, filter_mapErase hP]

end

@[simp] theorem liveEntries_begun (s : State) (h : Half) : (s.begun h).liveEntries h = s.liveEntries h := by
  unfold State.liveEntries
  refine congrArg (List.map _) (filter_mapSet (fun v => ?_) _ _ _)
  have hlt : ¬MEM_HOME h 0 ≤ MEM_CMD_CTRL h + 0 := by simp only [MEM_HOME, MEM_CMD_CTRL]; omega
  simp only [hlt, decide_false, Bool.false_and]

@[simp] theorem runs_begun (s : State) (h : Half) (tier : Nat) : (s.begun h).runs h tier = s.runs h tier := by
  simp only [State.runs, State.t1Runs, liveEntries_begun, rf_begun_home, objState_begun, objSize_begun, objGranules_begun, begun_half]

@[simp] theorem tryTier_begun (s : State) (h : Half) (c tier size : Nat) (p : Option Nat) :
    (s.begun h).tryTier h c tier size p = s.tryTier h c tier size p := by
  simp only [State.tryTier, State.place, quotaFits_begun, runs_begun, pool_begun]

@[simp] theorem freeEntry_begun (s : State) (h : Half) : (s.begun h).freeEntry h = s.freeEntry h := by
  simp only [State.freeEntry, liveEntries_begun, begun_half]

/-! ### The checks (R213) -/

theorem handleOk_begun (s : State) (h : Half) (c v : Nat) : (s.begun h).handleOk h c v = s.handleOk h c v := by
  unfold State.handleOk
  rw [objState_begun, rf_begun_home, rf_begun_home]

@[simp] theorem memCheck_begun (s : State) (h : Half) (b : List Byte) : (s.begun h).memCheck h b = s.memCheck h b := by
  unfold State.memCheck
  rw [handleOk_begun]

/-- A GO with a block of the operation, while no command is BUSY, begins that command. -/
theorem memOp_regs {op : Nat} (hb : s.on (MEM_CMD_CTRL h) MEM_CMD_CTRL.BUSY = false) (ho : blkOp (s.memCmdBlock h) = op) :
    s.memOp h op .regs = (s.begun h).memTake h .regs (s.memCmdBlock h) := by
  rw [State.memOp, if_pos ho, State.memGo, hb]
  rfl

/-- A command that is no FREE of a MOVING object is run and nothing else. -/
theorem memTake_eq_memRun {src : MemSrc} {b : List Byte} (hb : ¬(blkOp b = 2 ∧ s.objState h (handleIdx (blkHandle b)) = 2)) :
    s.memTake h src b = s.memRun h src b := if_neg hb

/-- A block that fails a check ends its command with the code. -/
theorem memRun_refused {src : MemSrc} {b : List Byte} (hc : s.memCheck h b ≠ 0) : s.memRun h src b = s.memEnd h src (s.memCheck h b) none := if_pos hc

section
variable {src : MemSrc} {b : List Byte} (hc : s.memCheck h b = 0)
include hc

theorem memRun_alloc (ho : blkOp b = 1) : s.memRun h src b = s.allocCmd h src b := by simp [State.memRun, hc, ho]
theorem memRun_free (ho : blkOp b = 2) : s.memRun h src b = s.freeCmd h src b := by simp [State.memRun, hc, ho]
theorem memRun_move (ho : blkOp b = 3) : s.memRun h src b = s.moveCmd h src b := by simp [State.memRun, hc, ho]
theorem memRun_setSweep (ho : blkOp b = 4) : s.memRun h src b = s.setSweepCmd h src b := by simp [State.memRun, hc, ho]

end

/-- The codes of the checks are result codes of Table 8.5. -/
theorem memCheck_lt (s : State) (h : Half) (b : List Byte) : s.memCheck h b < 256 := by
  unfold State.memCheck
  dsimp only
  split_ifs <;> decide

end Sys2Proof.Machine
end

section
/-! PROOF. ALLOC (R208, R213, R217): placements, charges and new entries, and the statement on it. -/

namespace Sys2Proof.Machine

variable {s t : State} {h : Half} {c i j g n tier size : Nat} {f : Fld} {q : AllocReq} {p : Bool} {at' : Option Nat} {src : MemSrc} {b : List Byte}

/-! ## Quotas (R215) -/

/-- A usage lies in its register's field. -/
theorem quotaUsed_setUsed (s : State) (h : Half) (c tier : Nat) (p : Bool) (v : Nat) :
    (s.setUsed h c tier p v).quotaUsed h c tier p = v % 2 ^ (if tier = 2 then 20 else 16) := by
  unfold State.setUsed State.quotaUsed
  split_ifs <;> exact State.rf_wf _ _ _ _ (by decide)

theorem quotaLimit_lt (s : State) (h : Half) (c tier : Nat) (p : Bool) : s.quotaLimit h c tier p < 2 ^ (if tier = 2 then 20 else 16) := by
  unfold State.quotaLimit
  split_ifs <;> exact State.rf_lt ..

theorem quotaUsed_lt (s : State) (h : Half) (c tier : Nat) (p : Bool) : s.quotaUsed h c tier p < 2 ^ (if tier = 2 then 20 else 16) := by
  unfold State.quotaUsed
  split_ifs <;> exact State.rf_lt ..

/-- A charge that fits the quota adds to the usage. -/
theorem quotaUsed_charge (hf : s.quotaFits h c tier p n = true) : (s.charge h c tier p n).quotaUsed h c tier p = s.quotaUsed h c tier p + n := by
  have hle : s.quotaUsed h c tier p + n ≤ s.quotaLimit h c tier p := of_decide_eq_true hf
  rw [State.charge, quotaUsed_setUsed, Nat.mod_eq_of_lt (hle.trans_lt (quotaLimit_lt ..))]

/-- A charge that ends is taken from the usage. -/
theorem quotaUsed_uncharge (s : State) (h : Half) (c tier : Nat) (p : Bool) (n : Nat) :
    (s.uncharge h c tier p n).quotaUsed h c tier p = s.quotaUsed h c tier p - n := by
  rw [State.uncharge, quotaUsed_setUsed, Nat.mod_eq_of_lt ((Nat.sub_le ..).trans_lt (quotaUsed_lt ..))]

theorem Touches.quotaUsed {Z : List MemZone} (k : Touches Z s t) (hc : c < 256) (tier : Nat) (p : Bool) (hz : .quota ∉ Z) :
    t.quotaUsed h c tier p = s.quotaUsed h c tier p := by
  have hq := memZone_used h hc tier p
  unfold State.quotaUsed
  split_ifs at hq ⊢
  all_goals exact k.rf hq (by simp) hz

/-! ## Placement (R217) -/

/-- What picks one of the starts it is offered ends with one of them. -/
theorem foldl_picks {F : Option Nat → Nat → Option Nat} (hF : ∀ m b, F m b = some b ∨ F m b = m) (l : List Nat) {m : Option Nat} {b : Nat}
    (hl : l.foldl F m = some b) : m = some b ∨ b ∈ l := by
  induction l generalizing m with
  | nil => exact .inl hl
  | cons x l ih =>
    rcases ih hl with e | hm
    · rcases hF m x with e' | e'
      · exact .inr (by rw [← Option.some.inj (e'.symm.trans e)]; exact List.mem_cons_self)
      · exact .inl (e'.symm.trans e)
    · exact .inr (List.mem_cons_of_mem x hm)

theorem firstFit_free {used : List (Nat × Nat)} {lo hi b : Nat} (hb : firstFit used lo hi n = some b) : runFree used lo hi b n = true := by
  unfold firstFit at hb
  have hm := foldl_picks (fun m x => by
    cases m with
    | none => exact .inl rfl
    | some y => exact (min_choice x y).imp (congrArg some) (congrArg some)) _ hb
  rcases hm with e | hm
  · cases e
  · exact (List.mem_filter.1 hm).2

/-- A run that is placed lies in its tier. -/
theorem place_lt (hp : s.place h tier n at' = .ok g) : g + n ≤ tierSize tier := by
  have hfree : ∀ used, runFree used 0 (tierSize tier) g n = true → g + n ≤ tierSize tier := fun used hr => by
    simp only [runFree, Bool.and_eq_true, decide_eq_true_eq] at hr
    exact hr.1.2
  unfold State.place at hp
  dsimp only at hp
  generalize s.runs h tier ++ _ = used at hp
  cases at' with
  | some b =>
    dsimp only at hp
    split at hp
    · next hr => cases hp; exact hfree _ hr
    · cases hp
  | none =>
    dsimp only at hp
    split at hp
    · next hr => cases hp; exact hfree _ (firstFit_free hr)
    · cases hp

/-- A place is found only where the quota has room, and inside the tier. -/
theorem tryTier_ok (hp : s.tryTier h c tier size at' = .ok g) : s.quotaFits h c tier false (granulesOf tier size) = true ∧ g < 2 ^ 20 := by
  unfold State.tryTier at hp
  split at hp
  · next hq =>
    have hle := place_lt hp
    have hsize : tierSize tier < 2 ^ 20 := by unfold tierSize; split <;> decide
    exact ⟨hq, by omega⟩
  · cases hp

/-- The free entry found lies in the home table. -/
theorem freeEntry_lt (hi : s.freeEntry h = some i) : i < 32768 := by
  unfold State.freeEntry at hi
  dsimp only at hi
  split at hi
  · next hlt => cases hi; exact hlt
  · cases hi

/-! ## An ALLOC that has its place -/

/-- The context is charged for the place, but not for a backing that holds its charge already. -/
def State.placeCharged (s : State) (h : Half) (q : AllocReq) : State :=
  if q.backing = some q.base ∧ q.tier = 2 then s else s.charge h q.ctx q.tier q.pool (granulesOf q.tier q.size)

/-- The entry is RESIDENT. -/
def State.allocated (s : State) (h : Half) (q : AllocReq) : State := (s.placeCharged h q).allocEntry h q false

/-- The fill that an ALLOC with INIT_ZERO waits for. -/
def AllocReq.fill (q : AllocReq) : Fill :=
  { tier := q.tier, base := q.base, len := granulesOf q.tier q.size, ctx := q.ctx, pool := q.pool, charged := false, entry := some q.idx }

theorem allocPlaced_now (s : State) (h : Half) (q : AllocReq) : s.allocPlaced h q false =
    ((s.allocated h q).memEnd h q.src 0 (some ((s.allocated h q).handleOf h q.idx))).keepWakes (memDoms h) := rfl

theorem allocPlaced_zero (s : State) (h : Half) (q : AllocReq) : s.allocPlaced h q true =
    ((s.placeCharged h q).modMem h (fun m => { m with allocs := m.allocs ++ [q], fills := m.fills ++ [q.fill] })).keepWakes (memDoms h) := rfl

@[simp] theorem placeCharged_half (s : State) (h x : Half) (q : AllocReq) : (s.placeCharged h q).half x = s.half x := by
  unfold State.placeCharged; split
  · rfl
  · exact State.charge_half ..

theorem Touches.placeCharged {Z : List MemZone} (s : State) (h : Half) (hc : q.ctx < 256) (hz : .quota ∈ Z) : Touches Z s (s.placeCharged h q) :=
  .ite (.refl Z s) (.charge s h hc _ _ _ hz)

theorem Touches.allocPlaced {Z : List MemZone} (s : State) (h : Half) (zero : Bool) (hc : q.ctx < 256) (hi : q.idx < 32768) (hcmd : .cmd ∈ Z)
    (hquota : .quota ∈ Z) (hhome : .home ∈ Z) : Touches Z s (s.allocPlaced h q zero) := by
  have hcharge : Touches Z s (s.placeCharged h q) := .placeCharged s h hc hquota
  cases zero with
  | false =>
    rw [allocPlaced_now]
    exact (hcharge.trans ((Touches.allocEntry _ h _ hi hhome).trans (.memEnd _ h _ _ _ hcmd))).trans (.keepWakes Z _ (memDoms_lt h))
  | true =>
    rw [allocPlaced_zero]
    refine (hcharge.trans ?_).trans (.keepWakes Z _ (memDoms_lt h))
    exact .modMem Z _ h fun _ => ⟨rfl, rfl⟩

/-- What the end of a command and the wakes of the memories leave of what the ALLOC wrote. -/
theorem Touches.afterAlloc (s : State) (h : Half) (q : AllocReq) : Touches [.cmd] (s.allocated h q) (s.allocPlaced h q false) := by
  rw [allocPlaced_now]
  exact (Touches.memEnd _ h _ _ _ (by simp)).trans (.keepWakes _ _ (memDoms_lt h))

@[simp] theorem allocPlaced_mem (s : State) (h : Half) (q : AllocReq) : ((s.allocPlaced h q false).half h).mem = (s.half h).mem := by
  simp [allocPlaced_now, State.allocated]

/-- Wakes leave a command's result as it is. -/
theorem keepWakes_ctrl (s : State) (h : Half) {ds : List Nat} (hd : ∀ d ∈ ds, d < 144) (hf : f.off = 0) :
    (s.keepWakes ds).rf (MEM_CMD_CTRL h) f = s.rf (MEM_CMD_CTRL h) f :=
  (Touches.keepWakes [] s hd).reg (zone_cmdCtrl h) hf (by simp) (by simp)

/-- The entry stands at its place, with the next GEN, and every other entry as before. -/
theorem allocPlaced_entry (s : State) (h : Half) (hi : q.idx < 32768) (hc : q.ctx < 256) (ht : q.tier < 4) (hb : q.base < 2 ^ 20) :
    (s.allocPlaced h q false).objState h q.idx = 1 ∧
    (s.allocPlaced h q false).rf (MEM_HOME h q.idx) MEM_HOME.TIER = q.tier ∧ (s.allocPlaced h q false).rf (MEM_HOME h q.idx) MEM_HOME.BASE = q.base ∧
    (s.allocPlaced h q false).rf (MEM_HOME h q.idx) MEM_HOME.GEN = nextGen (s.rf (MEM_HOME h q.idx) MEM_HOME.GEN) := by
  have k := Touches.afterAlloc s h q
  have hcharge : Touches [.quota] s (s.placeCharged h q) := .placeCharged s h hc (by simp)
  obtain ⟨hstate, htier, hbase, -, hgen⟩ := allocEntry_shows (s.placeCharged h q) h q false
  refine ⟨(k.objState hi (by simp)).trans hstate, ?_, ?_, ?_⟩
  · rw [k.home hi (by decide) (by simp), State.allocated, htier, Nat.mod_eq_of_lt ht]
  · rw [k.home hi (by decide) (by simp), State.allocated, hbase, Nat.mod_eq_of_lt hb]
  · rw [k.home hi (by decide) (by simp), State.allocated, hgen, hcharge.home hi (by decide) (by simp)]

theorem allocPlaced_others (s : State) (h : Half) (hc : q.ctx < 256) (hj : j < 32768) (hne : j ≠ q.idx) :
    (s.allocPlaced h q false).objState h j = s.objState h j := by
  have hcharge : Touches [.quota] s (s.placeCharged h q) := .placeCharged s h hc (by simp)
  refine ((Touches.afterAlloc s h q).objState hj (by simp)).trans (Eq.trans ?_ (hcharge.objState hj (by simp)))
  exact State.rf_homes_ne _ h hne (entryOf_off _ h q false) (by decide)

/-- The command has ended OK, with the new handle. -/
theorem allocPlaced_ends (s : State) (h : Half) (hi : q.idx < 32768) (hsrc : q.src = .regs) :
    (s.allocPlaced h q false).rf (MEM_CMD_CTRL h) MEM_CMD_CTRL.BUSY = 0 ∧ (s.allocPlaced h q false).rf (MEM_CMD_CTRL h) MEM_CMD_CTRL.DONE = 1 ∧
    (s.allocPlaced h q false).rf (MEM_CMD_CTRL h) MEM_CMD_CTRL.RESULT = 0 ∧
    (s.allocPlaced h q false).rd (MEM_CMD h 1) = BitVec.ofNat 32 ((s.allocPlaced h q false).handleOf h q.idx) := by
  have hgen : (s.allocPlaced h q false).handleOf h q.idx = (s.allocated h q).handleOf h q.idx := by
    unfold State.handleOf
    rw [(Touches.afterAlloc s h q).home hi (by decide) (by simp)]
  obtain ⟨hbusy, hdone, hresult⟩ := memEnd_shows (s.allocated h q) h (some ((s.allocated h q).handleOf h q.idx)) (code := 0) (by decide)
  rw [hgen, allocPlaced_now, hsrc, keepWakes_ctrl _ h (memDoms_lt h) rfl, keepWakes_ctrl _ h (memDoms_lt h) rfl,
    keepWakes_ctrl _ h (memDoms_lt h) rfl]
  refine ⟨hbusy, hdone, hresult, ?_⟩
  rw [(Touches.keepWakes [] _ (memDoms_lt h)).rd _ (by rw [zone_cmd h (by decide)]; simp) (by simp), memEnd_handle]

/-- The context is charged for the place. -/
theorem allocPlaced_charges (s : State) (h : Half) (hc : q.ctx < 256) (hi : q.idx < 32768) (hb : q.backing = none)
    (hf : s.quotaFits h q.ctx q.tier q.pool (granulesOf q.tier q.size) = true) : (s.allocPlaced h q false).quotaUsed h q.ctx q.tier q.pool =
      s.quotaUsed h q.ctx q.tier q.pool + granulesOf q.tier q.size := by
  have hcharge : s.placeCharged h q = s.charge h q.ctx q.tier q.pool (granulesOf q.tier q.size) := if_neg (by simp [hb])
  have hentry : Touches [.home] (s.placeCharged h q) (s.allocated h q) := .allocEntry _ h _ hi (by simp)
  rw [(Touches.afterAlloc s h q).quotaUsed hc _ _ (by simp), hentry.quotaUsed hc _ _ (by simp), hcharge, quotaUsed_charge hf]

/-! ## The command (R213, R217) -/

/-- What an ALLOC block asks for, with the entry and the place found. -/
def State.allocReq (s : State) (h : Half) (src : MemSrc) (b : List Byte) (i tier base : Nat) : AllocReq :=
  { idx := i, src := src, block := b, ctx := blkCtx b, flags := blkFlags b, size := blkSize b, startUs := s.us h, tier := tier, base := base }

/-- The place that a block with PLACE names. -/
def blkAt (b : List Byte) : Option Nat := if blkPlace b then some (blkBase b) else none

theorem flagsValid_of_memCheck (hc : s.memCheck h b = 0) (ho : blkOp b = 1) : flagsValid (blkFlags b) = true := by
  by_contra hv
  simp [State.memCheck, ho, Bool.eq_false_iff.2 hv] at hc

/-- A valid flag set has one placement class (R210). -/
theorem flagsValid_class {f : Nat} (hv : flagsValid f = true) : (flagPin f = true → flagT2Only f = false ∧ flagEvictable f = false) ∧
    (flagT2Only f = true → flagPin f = false) := by
  unfold flagsValid b2n at hv
  cases hp : flagPin f <;> cases ht : flagT2Only f <;> cases he : flagEvictable f <;> cases hr : flagPrefer f <;> simp_all

/-- An ALLOC of an object that is not EVICTABLE takes the first tier of its class where that has room. -/
theorem allocCmd_fits {k : Nat} (hi : s.freeEntry h = some i) (hv : flagsValid (blkFlags b) = true) (he : flagEvictable (blkFlags b) = false)
    (hk : k = if flagT2Only (blkFlags b) then 2 else 1) (hp : s.tryTier h (blkCtx b) k (blkSize b) (blkAt b) = .ok g) :
    s.allocCmd h src b = s.allocPlaced h (s.allocReq h src b i k g) (blkInitZero b) := by
  subst hk
  unfold State.allocCmd
  simp only [hi]
  unfold blkAt at hp
  by_cases hpin : flagPin (blkFlags b) = true
  · rw [((flagsValid_class hv).1 hpin).1] at hp ⊢
    rw [if_pos hpin]
    simp only [Bool.false_eq_true, if_false] at hp ⊢
    rw [hp]; rfl
  · rw [if_neg hpin]
    cases ht : flagT2Only (blkFlags b) <;> simp only [ht, he, Bool.false_eq_true, if_false, if_true] at hp ⊢ <;> rw [hp] <;> rfl

theorem exec_alloc (hl : s.live = true) : exec (.alloc h) s = .next (s.memOp h 1 .regs) := whenLive_of_live hl (fun s => s.memOp h 1 .regs)

section
variable (hl : s.live = true) (hb : s.on (MEM_CMD_CTRL h) MEM_CMD_CTRL.BUSY = false) (ho : blkOp (s.memCmdBlock h) = 1)
include hl hb ho

theorem exec_alloc_runs : exec (.alloc h) s = .next ((s.begun h).memRun h .regs (s.memCmdBlock h)) := by
  rw [exec_alloc hl, memOp_regs hb ho, memTake_eq_memRun (by simp [ho])]

/-- A block that passes its checks and finds room is placed. -/
theorem exec_alloc_fits {k : Nat} (hc : s.memCheck h (s.memCmdBlock h) = 0) (hi : s.freeEntry h = some i)
    (he : flagEvictable (blkFlags (s.memCmdBlock h)) = false) (hk : k = if flagT2Only (blkFlags (s.memCmdBlock h)) then 2 else 1)
    (hp : s.tryTier h (blkCtx (s.memCmdBlock h)) k (blkSize (s.memCmdBlock h)) (blkAt (s.memCmdBlock h)) = .ok g) :
    exec (.alloc h) s = .next ((s.begun h).allocPlaced h ((s.begun h).allocReq h .regs (s.memCmdBlock h) i k g)
      (blkInitZero (s.memCmdBlock h))) := by
  rw [exec_alloc_runs hl hb ho, memRun_alloc (by rwa [memCheck_begun]) ho,
    allocCmd_fits (by rwa [freeEntry_begun]) (flagsValid_of_memCheck hc ho) he hk (by rwa [tryTier_begun])]

end

/-- An ALLOC with INIT_ZERO holds its place and waits for its fill. -/
theorem allocPlaced_waits (s : State) (h : Half) (hc : q.ctx < 256) : ((s.allocPlaced h q true).half h).mem.fills = (s.half h).mem.fills ++ [q.fill] ∧
    Touches [.quota] s (s.allocPlaced h q true) := by
  rw [allocPlaced_zero]
  refine ⟨by simp, ?_⟩
  refine Touches.trans ((Touches.placeCharged s h hc (by simp)).trans ?_) (.keepWakes _ _ (memDoms_lt h))
  exact .modMem _ _ h fun _ => ⟨rfl, rfl⟩

theorem blkCtx_lt (b : List Byte) : blkCtx b < 256 := bits_lt _ 8 8

/-- Settles O9: a block that passes its checks is placed in the tier of its class, and completes or waits for its fill. -/
theorem allocCommand : Obligations.AllocCommand := by
  unfold Obligations.AllocCommand
  refine ⟨?pinned, ?refused, ?placed⟩
  case pinned =>
    intro s h i g hl hb ho hc hi hpin hz hp
    obtain ⟨hnot2, hnotEv⟩ := (flagsValid_class (flagsValid_of_memCheck hc ho)).1 hpin
    obtain ⟨hfits, hg⟩ := tryTier_ok hp
    refine ⟨_, exec_alloc_fits hl hb ho hc hi hnotEv (k := 1) (by rw [hnot2]; rfl) hp, ?_⟩
    rw [hz]
    set q := (s.begun h).allocReq h .regs (s.memCmdBlock h) i 1 g with hq
    have hidx : q.idx < 32768 := freeEntry_lt hi
    have hctx : q.ctx < 256 := blkCtx_lt _
    obtain ⟨hbusy, hdone, hresult, hhandle⟩ := allocPlaced_ends (s.begun h) h hidx rfl
    obtain ⟨hstate, htier, hbase, hgen⟩ := allocPlaced_entry (s.begun h) h hidx hctx (by decide : 1 < 4) hg
    have hused := allocPlaced_charges (s.begun h) h hctx hidx rfl (by rw [quotaFits_begun]; exact hfits)
    refine ⟨hbusy, hdone, hresult, hstate, htier, hbase, ?_, hhandle, ?_, fun j hj hne => ?_, ?_⟩
    · exact hgen.trans (congrArg nextGen (rf_begun_home ..))
    · rw [← quotaUsed_begun s]; exact hused
    · exact (allocPlaced_others (s.begun h) h hctx hj hne).trans (objState_begun ..)
    · rw [allocPlaced_mem, begun_half]
  case refused =>
    intro s h hl hb ho hc
    refine ⟨_, exec_alloc_runs hl hb ho, ?_⟩
    rw [memRun_refused (by rwa [memCheck_begun]), memCheck_begun]
    obtain ⟨-, hdone, hresult⟩ := memEnd_shows (s.begun h) h none (memCheck_lt s h (s.memCmdBlock h))
    exact ⟨hresult, hdone, onlyRegs_memEnd (onlyRegs_begun s h (by simp)) h _ (by simp) (by simp)⟩
  case placed =>
    intro s h i g hl hb ho hc hi he hp
    obtain ⟨-, hg⟩ := tryTier_ok hp
    refine ⟨_, exec_alloc_fits hl hb ho hc hi he rfl hp, ?_⟩
    set k := if flagT2Only (blkFlags (s.memCmdBlock h)) then 2 else 1 with hk
    set q := (s.begun h).allocReq h .regs (s.memCmdBlock h) i k g with hq
    have hidx : q.idx < 32768 := freeEntry_lt hi
    have hctx : q.ctx < 256 := blkCtx_lt _
    cases hz : blkInitZero (s.memCmdBlock h) with
    | true =>
      obtain ⟨hfills, hkeep⟩ := allocPlaced_waits (s.begun h) h hctx
      rw [if_pos rfl]
      refine ⟨(hkeep.objState hidx (by simp)).trans (objState_begun ..), ?_, ?_⟩
      · exact (hkeep.reg (zone_cmdCtrl h) rfl (by simp) (by simp)).trans (begun_busy s h)
      · exact hfills.trans (by rw [begun_half]; rfl)
    | false =>
      obtain ⟨hbusy, -, hresult, -⟩ := allocPlaced_ends (s.begun h) h hidx rfl
      obtain ⟨hstate, htier, hbase, hgen⟩ := allocPlaced_entry (s.begun h) h hidx hctx (show k < 4 by rw [hk]; split <;> decide) hg
      rw [if_neg Bool.false_ne_true]
      exact ⟨hstate, htier, hbase, hgen.trans (congrArg nextGen (rf_begun_home ..)), hbusy, hresult⟩

end Sys2Proof.Machine
end

section
/-! PROOF. FREE, MOVE and SET_SWEEP (R224 to R229, R239), and the statement on these commands given through MEM_CMD. -/

namespace Sys2Proof.Machine

variable {s t : State} {h : Half} {i j g tier : Nat} {src : MemSrc} {b : List Byte} {as : List Nat}

/-! ## Changes of a half's memories that are put back -/

@[simp] theorem State.modMem_modMem (s : State) (h : Half) (F G : MemHalf → MemHalf) :
    (s.modMem h F).modMem h G = s.modMem h (fun m => G (F m)) := by cases h <;> rfl

theorem State.modMem_of_eq {F : MemHalf → MemHalf} (hF : F (s.half h).mem = (s.half h).mem) : s.modMem h F = s :=
  State.modHalf_of_eq (by rw [hF])

theorem State.wf_modMem (s : State) (h : Half) (F : MemHalf → MemHalf) (a : Nat) (f : Fld) (v : Nat) :
    (s.wf a f v).modMem h F = (s.modMem h F).wf a f v := by cases h <;> rfl

/-! ## FREE (R229) -/

/-- The entry that a FREE leaves. -/
def freedFields : List (Fld × Nat) := [(MEM_HOME.STATE, 0), (MEM_HOME.TIER, 0), (MEM_HOME.EVICT_FAIL, 0), (MEM_HOME.SWEEP, 0)]

theorem freedFields_off : ∀ e ∈ freedFields, e.1.off < 32 := by decide

/-- The fill of the backing of an EVICTABLE object in the pool. -/
def State.backFill (s : State) (h : Half) (i : Nat) : Fill :=
  { tier := 2, base := s.rf (MEM_HOME h i) MEM_HOME.BACKING, len := granulesOf 2 (s.objSize h i), ctx := s.rf (MEM_HOME h i) MEM_HOME.CONTEXT }

theorem freeEntryRuns_eq (s : State) (h : Half) (i : Nat) : s.freeEntryRuns h i =
    let t := (s.homes h i freedFields).release h (s.homeFill h i)
    if flagEvictable (s.rf (MEM_HOME h i) MEM_HOME.FLAGS) ∧ s.rf (MEM_HOME h i) MEM_HOME.TIER = 1 then t.release h (s.backFill h i) else t := rfl

@[simp] theorem State.homes_half (s : State) (h x : Half) (i : Nat) (l : List (Fld × Nat)) : (s.homes h i l).half x = s.half x :=
  half_foldl (fun _ _ => State.home_half ..) _ s

theorem Touches.homes {Z : List MemZone} (s : State) (h : Half) {l : List (Fld × Nat)} (hi : i < 32768) (hl : ∀ e ∈ l, e.1.off < 32)
    (hz : .home ∈ Z) : Touches Z s (s.homes h i l) :=
  foldl_mem (fun e he t => wfHome t _ hi (hl e he) hz) s

/-- The fills of the runs that a FREE gives back. -/
def State.freedFills (s : State) (h : Half) (i : Nat) : List Fill :=
  s.homeFill h i ::
    if flagEvictable (s.rf (MEM_HOME h i) MEM_HOME.FLAGS) ∧ s.rf (MEM_HOME h i) MEM_HOME.TIER = 1 then [s.backFill h i] else []

theorem freeEntryRuns_mem (s : State) (h : Half) (i : Nat) :
    ((s.freeEntryRuns h i).half h).mem = { (s.half h).mem with fills := (s.half h).mem.fills ++ s.freedFills h i } := by
  rw [freeEntryRuns_eq, State.freedFills]
  dsimp only
  split
  · rw [State.release_mem, State.release_mem, State.homes_half, List.append_assoc]; rfl
  · rw [State.release_mem, State.homes_half]

/-- Releasing the runs changes no register. -/
theorem touches_freeEntryRuns (s : State) (h : Half) (i : Nat) : Touches [] (s.homes h i freedFields) (s.freeEntryRuns h i) := by
  have k := Touches.release [] (s.homes h i freedFields) h (s.homeFill h i)
  rw [freeEntryRuns_eq]
  exact .ite (k.trans (.release ..)) k

theorem objState_freeEntryRuns (s : State) (h : Half) (hi : i < 32768) : (s.freeEntryRuns h i).objState h i = 0 := by
  rw [(touches_freeEntryRuns s h i).objState hi (by simp)]
  exact State.rf_homes s h i (n := 0) (by decide) (by simp [freedFields]) (by decide)

theorem objState_freeEntryRuns_ne (s : State) (h : Half) (hj : j < 32768) (hne : j ≠ i) : (s.freeEntryRuns h i).objState h j = s.objState h j := by
  rw [(touches_freeEntryRuns s h i).objState hj (by simp)]
  exact State.rf_homes_ne s h hne freedFields_off (by decide)

/-- A FREE of an unbound object ends OK; its runs are given back. -/
theorem freeResident_unbound (hr : s.rf (MEM_HOME h i) MEM_HOME.USE_R = 0) (hw : s.rf (MEM_HOME h i) MEM_HOME.USE_W = 0) :
    s.freeResident h i src = (s.freeEntryRuns h i).memEnd h src 0 none := by simp [State.freeResident, hr, hw]

theorem freeResident_inUse (hr : s.rf (MEM_HOME h i) MEM_HOME.USE_R ≠ 0) : s.freeResident h i src = s.memEnd h src 0x47 none := by
  simp [State.freeResident, hr]

theorem freeCmd_resident (hi : i = handleIdx (blkHandle b)) (hs : s.objState h i = 1) : s.freeCmd h src b = s.freeResident h i src := by
  subst hi; simp [State.freeCmd, hs]

/-- A command on an object that is EVICTING waits for the eviction. -/
def State.memWait (s : State) (h : Half) (src : MemSrc) (b : List Byte) : State :=
  s.modMem h (fun m => { m with waiting := m.waiting ++ [(src, b)] })

theorem freeCmd_evicting (hi : i = handleIdx (blkHandle b)) (hs : s.objState h i = 3) : s.freeCmd h src b = s.memWait h src b := by
  subst hi; simp [State.freeCmd, hs, State.memWait]

/-! ## MOVE (R224 to R226) -/

theorem moveCmd_evicting (hi : i = handleIdx (blkHandle b)) (hs : s.objState h i = 3) : s.moveCmd h src b = s.memWait h src b := by
  subst hi; simp [State.moveCmd, hs, State.memWait]

/-- What a MOVE writes into its object's entry. -/
def movedFields (tier base : Nat) : List (Fld × Nat) := [(MEM_HOME.STATE, 2), (MEM_HOME.DEST, base), (MEM_HOME.DEST_TIER, tier - 1)]

theorem movedFields_off (tier base : Nat) : ∀ e ∈ movedFields tier base, e.1.off < 32 := by
  simp [movedFields, MEM_HOME.STATE, MEM_HOME.DEST, MEM_HOME.DEST_TIER]

theorem startMove_eq (s : State) (h : Half) (i tier base : Nat) (src : MemSrc) (other : Option Nat) : s.startMove h i tier base src other =
    ((s.homes h i (movedFields tier base)).modMem h
      (fun m => { m with copies := m.copies ++ [{ idx := i, evict := false, src := src, other := other }] })).keepWakes
      (s.objDoms h i ++ runDoms (if other.isSome then h.other else h) tier base (granulesOf tier (s.objSize h i))) := rfl

theorem startMove_mem (s : State) (h : Half) (i tier base : Nat) (src : MemSrc) (other : Option Nat) :
    ((s.startMove h i tier base src other).half h).mem =
      { (s.half h).mem with copies := (s.half h).mem.copies ++ [{ idx := i, evict := false, src := src, other := other }] } := by
  rw [startMove_eq, State.keepWakes_mem, State.modMem_mem, State.homes_half]

/-- After the entry is written, a MOVE only takes its place among the copies and wakes what it needs. -/
theorem touches_startMove (s : State) (h : Half) (i tier base : Nat) (src : MemSrc) (other : Option Nat) :
    Touches [] (s.homes h i (movedFields tier base)) (s.startMove h i tier base src other) := by
  rw [startMove_eq]
  refine Touches.trans ?copies (.keepWakes _ _ fun d hd => ?wakes)
  case copies => exact .modMem _ _ h fun _ => ⟨rfl, rfl⟩
  case wakes => exact (List.mem_append.1 hd).elim (runDoms_lt _ _ _ _ d) (runDoms_lt _ _ _ _ d)

theorem touches_startMove_home (s : State) (h : Half) (hi : i < 32768) (tier base : Nat) (src : MemSrc) (other : Option Nat) :
    Touches [.home] s (s.startMove h i tier base src other) :=
  (Touches.homes s h hi (movedFields_off tier base) (by simp)).trans ((touches_startMove s h i tier base src other).mono (by simp))

/-- The object is MOVING to its destination. -/
theorem startMove_shows (s : State) (h : Half) (hi : i < 32768) (ht : tier = 1 ∨ tier = 2) (hg : g < 2 ^ 20) (src : MemSrc) (other : Option Nat) :
    (s.startMove h i tier g src other).objState h i = 2 ∧ (s.startMove h i tier g src other).rf (MEM_HOME h i) MEM_HOME.DEST = g ∧
    (s.startMove h i tier g src other).rf (MEM_HOME h i) MEM_HOME.DEST_TIER = tier - 1 := by
  have k := touches_startMove s h i tier g src other
  have hp : ((movedFields tier g).map Prod.fst).Pairwise (fun f g => g.apart f = true) := by
    change [MEM_HOME.STATE, MEM_HOME.DEST, MEM_HOME.DEST_TIER].Pairwise _
    decide
  have hshow : ∀ {f : Fld} {n : Nat}, (f, n) ∈ movedFields tier g → f.off < 32 → f.lo + f.len ≤ 32 → n < 2 ^ f.len →
      (s.startMove h i tier g src other).rf (MEM_HOME h i) f = n := fun hm hoff hlen hn => by
    rw [k.home hi hoff (by simp), State.rf_homes s h i hp hm hlen, Nat.mod_eq_of_lt hn]
  refine ⟨?_, ?_, ?_⟩
  · exact hshow (n := 2) (by simp [movedFields]) (by decide) (by decide) (by decide)
  · exact hshow (by simp [movedFields]) (by decide) (by decide) hg
  · exact hshow (by simp [movedFields]) (by decide) (by decide) (by rcases ht with rfl | rfl <;> decide)

section
variable (hi : i = handleIdx (blkHandle b)) (hs : s.objState h i = 1) (hm : flagMovable (s.rf (MEM_HOME h i) MEM_HOME.FLAGS) = true)
  (ht : flagT2Only (s.rf (MEM_HOME h i) MEM_HOME.FLAGS) = false) (ho : blkDestOther b = false)
include hi hs hm ht ho

/-- A MOVE that finds its place in the other tier begins. -/
theorem moveCmd_begins (he : flagEvictable (s.rf (MEM_HOME h i) MEM_HOME.FLAGS) = false) (htier : tier = if blkDestT2 b then 2 else 1)
    (hne : tier ≠ s.rf (MEM_HOME h i) MEM_HOME.TIER) (hp : s.tryTier h (s.rf (MEM_HOME h i) MEM_HOME.CONTEXT) tier (s.objSize h i) (blkAt b) = .ok g) :
    s.moveCmd h src b =
      (s.charge h (s.rf (MEM_HOME h i) MEM_HOME.CONTEXT) tier false (granulesOf tier (s.objSize h i))).startMove h i tier g src none := by
  subst hi htier
  unfold blkAt at hp
  unfold State.moveCmd
  dsimp only
  rw [if_neg (by simp [hs]), if_neg (by simp [hm]), if_neg (by simp [ho]), if_neg (by simp [ht]), if_neg (by simp [hne]), if_neg (by simp [he]), hp]

/-- An EVICTABLE object in the pool moves to its backing. -/
theorem moveCmd_toBacking (he : flagEvictable (s.rf (MEM_HOME h i) MEM_HOME.FLAGS) = true) (hd : blkDestT2 b = true)
    (h1 : s.rf (MEM_HOME h i) MEM_HOME.TIER = 1) :
    s.moveCmd h src b = s.startMove h i 2 (s.rf (MEM_HOME h i) MEM_HOME.BACKING) src none := by
  subst hi
  unfold State.moveCmd
  dsimp only
  rw [if_neg (by simp [hs]), if_neg (by simp [hm]), if_neg (by simp [ho]), if_neg (by simp [ht]), if_neg (by simp [hd, h1]), if_pos he,
    if_pos (by simp [hd])]

end

/-! ## Commands given through MEM_CMD -/

theorem exec_free (hl : s.live = true) : exec (.free h src) s = .next (s.memOp h 2 src) := whenLive_of_live hl (fun s => s.memOp h 2 src)
theorem exec_move (hl : s.live = true) : exec (.move h src) s = .next (s.memOp h 3 src) := whenLive_of_live hl (fun s => s.memOp h 3 src)
theorem exec_setSweep (hl : s.live = true) : exec (.setSweep h src) s = .next (s.memOp h 4 src) :=
  whenLive_of_live hl (fun s => s.memOp h 4 src)

@[simp] theorem homeFill_begun (s : State) (h : Half) (i : Nat) : (s.begun h).homeFill h i = s.homeFill h i := by
  simp only [State.homeFill, rf_begun_home, objSize_begun]

theorem handleIdx_lt (v : Nat) : handleIdx v < 32768 := bits_lt v 0 15

section
variable (hl : s.live = true) (hb : s.on (MEM_CMD_CTRL h) MEM_CMD_CTRL.BUSY = false) (hc : s.memCheck h (s.memCmdBlock h) = 0)
include hl hb hc

/-- A FREE that passes its checks, of an object that is not MOVING. -/
theorem exec_free_runs (ho : blkOp (s.memCmdBlock h) = 2) (hs : s.objState h (handleIdx (blkHandle (s.memCmdBlock h))) ≠ 2) :
    exec (.free h .regs) s = .next ((s.begun h).freeCmd h .regs (s.memCmdBlock h)) := by
  rw [exec_free hl, memOp_regs hb ho, memTake_eq_memRun (by rw [objState_begun]; exact fun e => hs e.2), memRun_free (by rwa [memCheck_begun]) ho]

theorem exec_move_runs (ho : blkOp (s.memCmdBlock h) = 3) : exec (.move h .regs) s = .next ((s.begun h).moveCmd h .regs (s.memCmdBlock h)) := by
  rw [exec_move hl, memOp_regs hb ho, memTake_eq_memRun (by simp [ho]), memRun_move (by rwa [memCheck_begun]) ho]

theorem exec_setSweep_runs (ho : blkOp (s.memCmdBlock h) = 4) :
    exec (.setSweep h .regs) s = .next ((s.begun h).setSweepCmd h .regs (s.memCmdBlock h)) := by
  rw [exec_setSweep hl, memOp_regs hb ho, memTake_eq_memRun (by simp [ho]), memRun_setSweep (by rwa [memCheck_begun]) ho]

/-- A FREE of an unbound RESIDENT object. -/
theorem exec_free_unbound (ho : blkOp (s.memCmdBlock h) = 2) (hi : i = handleIdx (blkHandle (s.memCmdBlock h))) (hs : s.objState h i = 1)
    (hr : s.rf (MEM_HOME h i) MEM_HOME.USE_R = 0) (hw : s.rf (MEM_HOME h i) MEM_HOME.USE_W = 0) :
    exec (.free h .regs) s = .next (((s.begun h).freeEntryRuns h i).memEnd h .regs 0 none) := by
  rw [exec_free_runs hl hb hc ho (by rw [← hi, hs]; decide), freeCmd_resident hi (by rwa [objState_begun]),
    freeResident_unbound (by rwa [rf_begun_home]) (by rwa [rf_begun_home])]

end

/-- The end of a command leaves the home table. -/
theorem memEnd_objState (s : State) (h : Half) (src : MemSrc) (code : Nat) (hj : j < 32768) :
    (s.memEnd h src code none).objState h j = s.objState h j :=
  (Touches.memEnd (Z := [.cmd]) s h src code none (by simp)).objState hj (by simp)

/-- A waiting command leaves the registers but for its BUSY. -/
theorem begun_memWait (s : State) (h : Half) (b : List Byte) :
    ((s.begun h).memWait h .regs b).rf (MEM_CMD_CTRL h) MEM_CMD_CTRL.BUSY = 1 ∧
    (((s.begun h).memWait h .regs b).half h).mem.waiting = (s.half h).mem.waiting ++ [(MemSrc.regs, b)] ∧
    onlyRegs [MEM_CMD_CTRL h] s (((s.begun h).memWait h .regs b).modMem h (fun _ => (s.half h).mem)) := by
  refine ⟨?_, ?_, ?_⟩
  · rw [State.memWait, State.modMem_rf, begun_busy]
  · rw [State.memWait, State.modMem_mem, begun_half]
  · rw [State.memWait, State.modMem_modMem, State.modMem_of_eq (by rw [begun_half])]
    exact onlyRegs_begun s h (by simp)

/-- A SET_SWEEP sets the SWEEP bit of its object (R239). -/
theorem setSweepCmd_sweep (s : State) (h : Half) (src : MemSrc) (b : List Byte) :
    (s.setSweepCmd h src b).rf (MEM_HOME h (handleIdx (blkHandle b))) MEM_HOME.SWEEP = 1 := by
  have k : Touches [.cmd] (s.home h (handleIdx (blkHandle b)) MEM_HOME.SWEEP 1) (s.setSweepCmd h src b) := .memEnd _ h src 0 none (by simp)
  rw [k.home (handleIdx_lt _) (by decide) (by simp), State.rf_home _ _ _ _ (by decide)]
  rfl

/-- Settles O10: each clause is what the command's own operation does once the GO has begun it. -/
theorem objectCommandsByRegisters : Obligations.ObjectCommandsByRegisters := by
  unfold Obligations.ObjectCommandsByRegisters
  refine ⟨?freed, ?inUse, ?moved, ?swept, ?freedAny, ?freeWaits, ?moveWaits, ?toBacking⟩
  case freed =>
    intro s h i hl hb ho hc hi hs hr hw he
    have hi' : i < 32768 := hi ▸ handleIdx_lt _
    obtain ⟨-, hdone, hresult⟩ := memEnd_shows ((s.begun h).freeEntryRuns h i) h none (code := 0) (by decide)
    have hmem := freeEntryRuns_mem (s.begun h) h i
    refine ⟨_, exec_free_unbound hl hb hc ho hi hs hr hw, ?_, hresult, hdone, ?_, ?_, ?_, fun j hj hne => ?_⟩
    · rw [memEnd_objState _ h _ _ hi', objState_freeEntryRuns _ h hi']
    · rw [State.memEnd_half, hmem, begun_half, State.freedFills, rf_begun_home, if_neg (by simp [he]), homeFill_begun]
      simp [State.homeFill, he]
    · rw [State.memEnd_half, hmem, begun_half]
    · rw [State.memEnd_half, hmem, begun_half]
    · rw [memEnd_objState _ h _ _ hj, objState_freeEntryRuns_ne _ h hj hne, objState_begun]
  case inUse =>
    intro s h hl hb ho hc hs hr
    obtain ⟨-, -, hresult⟩ := memEnd_shows (s.begun h) h none (code := 0x47) (by decide)
    refine ⟨_, ?_, hresult, onlyRegs_memEnd (onlyRegs_begun s h (by simp)) h _ (by simp) (by simp)⟩
    rw [exec_free_runs hl hb hc ho (by rw [hs]; decide), freeCmd_resident rfl (by rwa [objState_begun]), freeResident_inUse (by rwa [rf_begun_home])]
  case moved =>
    intro s h i g tier hl hb ho hc hi hs hm he ht hdo htier hne hp
    have hi' : i < 32768 := hi ▸ handleIdx_lt _
    obtain ⟨hfits, hg⟩ := tryTier_ok hp
    have ht12 : tier = 1 ∨ tier = 2 := by rw [htier]; split <;> simp
    have hctx : s.rf (MEM_HOME h i) MEM_HOME.CONTEXT < 256 := State.rf_lt ..
    refine ⟨_, exec_move_runs hl hb hc ho, ?_⟩
    rw [moveCmd_begins (tier := tier) (g := g) hi (by rwa [objState_begun]) (by rwa [rf_begun_home]) (by rwa [rf_begun_home]) hdo
      (by rwa [rf_begun_home]) htier (by rwa [rf_begun_home]) (by rw [rf_begun_home, objSize_begun, tryTier_begun]; exact hp), rf_begun_home,
      objSize_begun]
    set u := (s.begun h).charge h (s.rf (MEM_HOME h i) MEM_HOME.CONTEXT) tier false (granulesOf tier (s.objSize h i)) with hu
    have hmem := startMove_mem u h i tier g .regs none
    have hhalf : u.half h = s.half h := by rw [hu, State.charge_half, begun_half]
    have k : Touches [.home] u (u.startMove h i tier g .regs none) := touches_startMove_home u h hi' tier g .regs none
    obtain ⟨hstate, hdest, hdtier⟩ := startMove_shows u h hi' ht12 hg .regs none
    refine ⟨hstate, hdest, hdtier, ?_, ?_, ?_, ?_, ?_⟩
    · have kc : Touches [.quota] (s.begun h) u := .charge _ h hctx _ _ _ (by simp)
      rw [k.reg (zone_cmdCtrl h) rfl (by simp) (by simp), kc.reg (zone_cmdCtrl h) rfl (by simp) (by simp), begun_busy]
    · rw [hmem, hhalf]
    · rw [k.quotaUsed hctx _ _ (by simp), hu, quotaUsed_charge (by rwa [quotaFits_begun]), quotaUsed_begun]
    · rw [hmem, hhalf]
    · rw [hmem, hhalf]
  case swept =>
    intro s h hl hb ho hc
    obtain ⟨-, -, hresult⟩ := memEnd_shows ((s.begun h).home h (handleIdx (blkHandle (s.memCmdBlock h))) MEM_HOME.SWEEP 1) h none (code := 0) (by decide)
    refine ⟨_, exec_setSweep_runs hl hb hc ho, ?_, hresult, onlyRegs_memEnd ?_ h _ (by simp) (by simp)⟩
    · exact setSweepCmd_sweep (s.begun h) h .regs (s.memCmdBlock h)
    · exact onlyRegs_wf (onlyRegs_begun s h (by simp)) _ _ _ (by simp)
  case freedAny =>
    intro s h i hl hb ho hc hi hs hr hw
    have hi' : i < 32768 := hi ▸ handleIdx_lt _
    obtain ⟨-, hdone, hresult⟩ := memEnd_shows ((s.begun h).freeEntryRuns h i) h none (code := 0) (by decide)
    refine ⟨_, exec_free_unbound hl hb hc ho hi hs hr hw, ?_, ?_, hresult, hdone⟩
    · rw [memEnd_objState _ h _ _ hi', objState_freeEntryRuns _ h hi']
    · rw [State.memEnd_half, freeEntryRuns_mem, begun_half, State.freedFills, homeFill_begun]
      exact (List.prefix_append_right_inj _).2 (List.prefix_append [_] _)
  case freeWaits =>
    intro s h i hl hb ho hc hi hs
    refine ⟨_, ?_, begun_memWait s h (s.memCmdBlock h)⟩
    rw [exec_free_runs hl hb hc ho (by rw [← hi, hs]; decide), freeCmd_evicting hi (by rwa [objState_begun])]
  case moveWaits =>
    intro s h i hl hb ho hc hi hs
    refine ⟨_, ?_, begun_memWait s h (s.memCmdBlock h)⟩
    rw [exec_move_runs hl hb hc ho, moveCmd_evicting hi (by rwa [objState_begun])]
  case toBacking =>
    intro s h i hl hb ho hc hi hs hm he ht hdo hd h1
    refine ⟨_, exec_move_runs hl hb hc ho, ?_⟩
    rw [moveCmd_toBacking hi (by rwa [objState_begun]) (by rwa [rf_begun_home]) (by rwa [rf_begun_home]) hdo (by rwa [rf_begun_home]) hd
      (by rwa [rf_begun_home]), rf_begun_home]
    obtain ⟨hstate, hdest, hdtier⟩ := startMove_shows (s.begun h) h (hi ▸ handleIdx_lt _) (.inr rfl)
      (State.rf_lt s (MEM_HOME h i) MEM_HOME.BACKING) .regs none
    exact ⟨hstate, hdest, hdtier, by rw [startMove_mem, begun_half]⟩

end Sys2Proof.Machine
end

section
/-! PROOF. Object commands carried by MEMORY nodes (R211, R213): the clause on a FREE that fails its checks does not hold of every state. -/

namespace Sys2Proof.Machine

variable {s : State} {h : Half} {i : Nat} {e : MemSrc × List Byte}

/-- A refused command that waited is taken from the queue, and nothing else waits for the object. -/
theorem memRecheck_refused (hw : (s.half h).mem.waiting = [e]) (hi : handleIdx (blkHandle e.2) = i) (ho : blkOp e.2 = 2) (hs : s.objState h i = 2)
    (hv : blkVersion e.2 ≠ 1) : ((s.memRecheck h i).half h).mem.waiting = [] := by
  have hready : s.memReady h i = some e := by simp [State.memReady, hw, hi, ho, hs]
  have hcheck : ∀ t : State, t.memCheck h e.2 = 0x40 := fun t => by simp [State.memCheck, hv]
  rw [State.memRecheck, hw, List.length_singleton, State.recheckGo, hready]
  dsimp only
  rw [State.recheckGo, memRun_refused (by rw [hcheck]; decide), State.memEnd_half, State.modMem_mem, hw]
  simp

/-- A running MEMORY node whose payload carries the operation, and whose command has not been taken. -/
theorem memOp_node {r : NodeRef} {g : Graph} {n : Node} {op : Nat} {b : List Byte} (hn : s.node r = some (g, n)) (hk : n.kind = 5) (hh : n.half = h)
    (hp : n.phase = .running) (hb : slice n.bytes 0x40 32 = b) (hop : blkOp b = op ∧ s.memTaken h (.node r) = false) :
    s.memOp h op (.node r) = s.memTake h (.node r) b := by
  subst hb
  obtain ⟨ho, ht⟩ := hop
  unfold State.memOp
  simp only [hn, hk, hh, hp, ho, ht, and_self, if_true]

/-- A FREE of handle 0 in West, whose VERSION is none that R213 knows. -/
def badFree : List Byte := 32 :: zeros 31

/-- A MEMORY node with that FREE, for an object that is MOVING and that a FREE waits for. -/
def freeWaitsForMove : State := ({
  stage := .running
  west := { mem := { waiting := [(.regs, badFree)] } }
  graphs := [{ ctx := 1, gid := 0, nodes := [{ bytes := 5 :: zeros 63 ++ badFree, phase := .running }] }] } : State).home .west 0 MEM_HOME.STATE 2

/-- Refutes O11: a FREE whose object is MOVING lets the commands that waited for the object go on, also where it failed its checks (`State.memTake`).
With a FREE in that queue, which the clause does not rule out, the queue and MEM_CMD_CTRL change. -/
theorem not_objectCommandsByNodes : ¬ Obligations.ObjectCommandsByNodes := by
  rintro ⟨hfree, -⟩
  have hmoving : freeWaitsForMove.objState .west 0 = 2 := State.rf_home _ _ _ _ (by decide)
  have hcheck : ∀ t : State, t.memCheck .west badFree = 0x40 := fun t => rfl
  have hrefused : freeWaitsForMove.memRun .west (.node ⟨1, 0, 0⟩) badFree = freeWaitsForMove.memEnd .west (.node ⟨1, 0, 0⟩) 0x40 none :=
    memRun_refused (by rw [hcheck]; decide)
  obtain ⟨t, hexec, -, -, hrest⟩ := hfree freeWaitsForMove .west ⟨1, 0, 0⟩ _ _ rfl rfl rfl rfl rfl rfl rfl (by decide)
  have hrun : exec (.free .west (.node ⟨1, 0, 0⟩)) freeWaitsForMove =
      .next ((freeWaitsForMove.memEnd .west (.node ⟨1, 0, 0⟩) 0x40 none).memRecheck .west 0) := by
    have htaken : freeWaitsForMove.memOp .west 2 (.node ⟨1, 0, 0⟩) = freeWaitsForMove.memTake .west (.node ⟨1, 0, 0⟩) badFree :=
      memOp_node rfl rfl rfl rfl rfl ⟨rfl, rfl⟩
    rw [exec_free rfl, htaken, State.memTake, hrefused]
    exact congrArg _ (if_pos ⟨rfl, hmoving⟩)
  rw [hrun] at hexec
  cases hexec
  have hsame := congrArg (fun u : State => u.west.mem.waiting) hrest
  have hgone : (((freeWaitsForMove.memEnd .west (.node ⟨1, 0, 0⟩) 0x40 none).memRecheck .west 0).half .west).mem.waiting = [] := by
    refine memRecheck_refused (e := (.regs, badFree)) (by rw [State.memEnd_half]; rfl) rfl rfl ?_ (by decide)
    exact (memEnd_objState _ .west _ _ (by decide)).trans hmoving
  cases hgone.symm.trans hsame

end Sys2Proof.Machine
end

section
/-! PROOF. Quota limits and the pool region (R214, R216). -/

namespace Sys2Proof.Machine

variable {s : State} {h : Half} {c w : Nat}

theorem bits_low (w n : Nat) : bits w 0 n = w % 2 ^ n := by rw [bits, Nat.shiftRight_zero]

theorem exec_quotaWrite {k : QuotaKind} (hl : s.live = true) (hc : c < 256) : exec (.quotaWrite h k c w) s = .next (s.quotaWrite h k c w) := by
  refine (whenLive_of_live hl _).trans ?_
  rw [if_pos hc]

/-- A limit for T2 that is not below the usage, and that the tier has room for. -/
theorem quotaWrite_t2 (hu : s.quotaUsed h c 2 false ≤ w % 2 ^ 20) (hs : s.limitSum h .t2 c (w % 2 ^ 20) ≤ 786432) :
    s.quotaWrite h .t2 c w = s.wf (MEM_CTX_T2_LIMIT h c) MEM_CTX_T2_LIMIT.LIMIT (w % 2 ^ 20) := by
  unfold State.quotaWrite
  simp only [bits_low, hu, hs, decide_true, Bool.and_self, if_true]

theorem quotaWrite_pool (hu : s.quotaUsed h c 1 true ≤ w % 2 ^ 16) :
    s.quotaWrite h .pool c w = s.wf (MEM_CTX_POOL h c) MEM_CTX_POOL.LIMIT (w % 2 ^ 16) := by
  unfold State.quotaWrite
  simp only [bits_low, hu, decide_true, Bool.and_self, if_true]

/-- A limit below the usage is discarded with a record. -/
theorem quotaWrite_t1_below (hu : w % 2 ^ 16 < s.quotaUsed h c 1 false) : s.quotaWrite h .t1 c w = s.log h { logSoft 3 w with ctx := some c } := by
  unfold State.quotaWrite
  simp only [bits_low, Nat.not_le.2 hu, decide_false, Bool.false_and, Bool.false_eq_true, if_false]

theorem exec_poolCtrlWrite (hl : s.live = true) : exec (.poolCtrlWrite h w) s = .next (s.poolCtrlWrite h w) :=
  whenLive_of_live hl (fun s => s.poolCtrlWrite h w)

/-- A pool region within T1 that cuts no object and leaves the limits room is taken. -/
theorem poolCtrlWrite_fits (hb : w % 2 ^ 16 + w / 2 ^ 16 % 2 ^ 16 ≤ 32768) (hs : s.limitSum h .t1 256 0 + w / 2 ^ 16 % 2 ^ 16 ≤ 32768)
    (hcut : s.poolCuts h (w % 2 ^ 16) (w / 2 ^ 16 % 2 ^ 16) = false) :
    s.poolCtrlWrite h w = ((s.wf (MEM_POOL_CTRL h) MEM_POOL_CTRL.BASE (w % 2 ^ 16)).wf (MEM_POOL_CTRL h) MEM_POOL_CTRL.SIZE
      (w / 2 ^ 16 % 2 ^ 16)).keepWakes ((List.range 16).map (bankDom h)) := by
  have hsize : bits w 16 16 = w / 2 ^ 16 % 2 ^ 16 := by rw [bits, Nat.shiftRight_eq_div_pow]
  unfold State.poolCtrlWrite
  rw [bits_low, hsize]
  exact if_neg (not_or.2 ⟨Nat.not_lt.2 hb, not_or.2 ⟨Nat.not_lt.2 hs, by rw [hcut]; decide⟩⟩)

theorem zone_poolCtrl (h : Half) : memZone (MEM_POOL_CTRL h) = .pool := memZone_base h (by decide)

/-- Settles O13: each limit and region that fits is taken, and one below the usage is only recorded. -/
theorem quotaAndPoolWrites : Obligations.QuotaAndPoolWrites := by
  unfold Obligations.QuotaAndPoolWrites
  refine ⟨?t2, ?pool, ?refused, ?region⟩
  case t2 =>
    intro s h c w hl hc hu hs
    refine ⟨_, exec_quotaWrite hl hc, ?_⟩
    rw [quotaWrite_t2 hu hs]
    refine ⟨?_, onlyRegs_wf (onlyRegs_refl _ s) _ _ _ (by simp)⟩
    exact State.rf_wf_same _ _ _ (by decide) (Nat.mod_lt _ (by decide))
  case pool =>
    intro s h c w hl hc hu
    refine ⟨_, exec_quotaWrite hl hc, ?_⟩
    rw [quotaWrite_pool hu]
    refine ⟨?_, ?_, onlyRegs_wf (onlyRegs_refl _ s) _ _ _ (by simp)⟩
    · exact State.rf_wf_same _ _ _ (by decide) (Nat.mod_lt _ (by decide))
    · exact State.rf_wf_apart s _ _ (by decide)
  case refused =>
    intro s h k c w hl hc hk hu
    subst hk
    refine ⟨_, exec_quotaWrite hl hc, ?_⟩
    rw [quotaWrite_t1_below hu]
    exact log_onlyLogged s h _ (by simp [logSoft])
  case region =>
    intro s h w hl hb hs hcut
    refine ⟨_, exec_poolCtrlWrite hl, ?_⟩
    rw [poolCtrlWrite_fits hb hs hcut]
    have k : ∀ t : State, Touches [] t (t.keepWakes ((List.range 16).map (bankDom h))) := fun t => .keepWakes _ t (banks_lt h)
    refine ⟨Prod.ext ?_ ?_, ?_⟩
    · refine ((k _).reg (zone_poolCtrl h) rfl (by simp) (by simp)).trans ?_
      rw [State.rf_wf_apart _ _ _ (by decide)]
      exact State.rf_wf_same _ _ _ (by decide) (Nat.mod_lt _ (by decide))
    · refine ((k _).reg (zone_poolCtrl h) rfl (by simp) (by simp)).trans ?_
      exact State.rf_wf_same _ _ _ (by decide) (Nat.mod_lt _ (by decide))
    · rw [State.keepWakes_mem, State.wf_half, State.wf_half]

end Sys2Proof.Machine
end

section
/-! PROOF. Reads of the memory tiers and what their checkers find (R231 to R235), the BAR2 aperture (R230, R363) and the Sweeper (R239 to R241). -/

namespace Sys2Proof.Machine

variable {s t : State} {h x : Half} {a b f i n off len tier : Nat} {bs : List Byte} {chk : Scan} {wr : Option (List Byte)} {as : List Nat}

/-! ## Reads -/

theorem zone_event (h : Half) {k : Nat} (hk : 0x400120 ≤ k ∧ k < 0x400140) : memZone (h.base + k) = .event := by
  rw [memZone_base _ (by omega), zoneOf, if_neg (by omega), if_neg (by omega), if_neg (by omega), if_pos (by omega)]

theorem zone_sweep (h : Half) {k : Nat} (hk : 0x403000 ≤ k ∧ k < 0x500000) : memZone (h.base + k) = .sweep := by
  rw [memZone_base _ (by omega), zoneOf, if_neg (by omega), if_neg (by omega), if_neg (by omega), if_neg (by omega), if_neg (by omega),
    if_neg (by omega), if_pos (by omega)]

namespace Touches

/-- The event bits and the counters of the checkers. -/
theorem wfEvent {Z : List MemZone} (s : State) (h : Half) {k : Nat} {f : Fld} (v : Nat) (hk : 0x400120 ≤ k ∧ k < 0x400140) (hf : f.off = 0)
    (hz : .event ∈ Z) : Touches Z s (s.wf (h.base + k) f v) :=
  wf s v (by rwa [hf, Nat.add_zero, zone_event h hk])

variable {Z : List MemZone} (s : State) (h : Half)

theorem markBad (Z : List MemZone) (tier w : Nat) : Touches Z s (s.markBad h tier w) :=
  modHalf Z s h fun y => by split <;> split <;> rfl

theorem logWord (Z : List MemZone) (tier w n : Nat) : Touches Z s (s.logWord h tier w n) := log Z s h _ (by simp [logData])

theorem scanCount (tier : Nat) (c : Scan) (hz : .event ∈ Z) : Touches Z s (s.scanCount h tier c) := by
  have hreplay : Touches Z s (if c.replayed = 0 then s else s.add (MEM_PARITY_REPLAY h) MEM_PARITY_REPLAY.REPLAYS c.replayed) :=
    ite (refl Z s) (wfEvent s h _ (by decide) rfl hz)
  exact ite hreplay (hreplay.trans ((wfEvent _ h _ (by decide) rfl hz).trans (wfEvent _ h _ (by decide) rfl hz)))

theorem countBad (tier n : Nat) (hz : .event ∈ Z) : Touches Z s (s.countBad h tier n) :=
  ite (refl Z s) (ite ((wfEvent s h _ (by decide) rfl hz).trans (wfEvent _ h _ (by decide) rfl hz))
    ((wfEvent s h _ (by decide) rfl hz).trans (wfEvent _ h _ (by decide) rfl hz)))

theorem scan (tier a len : Nat) (c : Scan) (hz : .event ∈ Z) : Touches Z s (s.scan h tier a len c).1 :=
  ((scanCount s h tier c hz).trans (foldl_mem (fun _ _ t => markBad t h Z tier _) _)).trans (countBad _ h tier _ hz)

theorem logWords (Z : List MemZone) (tier : Nat) (g : State → Nat → Nat) (ws : List Nat) :
    Touches Z s (ws.foldl (fun s w => s.logWord h tier w (g s w)) s) :=
  foldl_mem (fun w _ t => logWord t h Z tier w _) s

end Touches

theorem KeepsUnit.scan (s : State) (h : Half) (tier a len : Nat) (c : Scan) : KeepsUnit s (s.scan h tier a len c).1 :=
  ((KeepsUnit.scanCount ..).trans (.findBad ..)).trans (.countBad ..)

theorem scanCount_none (s : State) (h : Half) (tier : Nat) : s.scanCount h tier {} = s := if_pos (.inr rfl)

theorem scanCount_outbox (s : State) (h : Half) (tier : Nat) (c : Scan) : (s.scanCount h tier c).outbox = s.outbox := by
  unfold State.scanCount; dsimp only; split_ifs <;> rfl

/-- Checkers that find nothing of their own report the words that are known to be uncorrectable. -/
theorem scan_known (s : State) (h : Half) (tier a len : Nat) :
    s.scan h tier a len {} = (s.countBad h tier (s.badIn h tier a len).length, s.badIn h tier a len) := by
  unfold State.scan
  rw [scanCount_none]
  rfl

theorem badIn_of_memBad (hb : s.memBad h tier a len = false) : s.badIn h tier a len = [] := by
  simpa [State.memBad] using hb

theorem scan_clean (hb : s.memBad h tier a len = false) : s.scan h tier a len {} = (s, []) := by
  rw [scan_known, badIn_of_memBad hb]; rfl

theorem onlyRegs_countBad (s : State) (h : Half) (tier n : Nat) : onlyRegs [MEM_EVENT h, MEM_PARITY_UE h, MEM_SECDED_UE h] s (s.countBad h tier n) := by
  unfold State.countBad
  split
  · exact onlyRegs_refl _ s
  · split <;> exact onlyRegs_wf (onlyRegs_wf (onlyRegs_refl _ s) _ _ _ (by simp)) _ _ _ (by simp)

theorem onlyLogged_logWords (k : onlyLogged as s t) (h : Half) (tier : Nat) (g : State → Nat → Nat) (ws : List Nat) :
    onlyLogged as s (ws.foldl (fun s w => s.logWord h tier w (g s w)) t) := by
  induction ws generalizing t with
  | nil => exact k
  | cons w ws ih => exact ih (onlyLogged_log k h _ (by simp [logData]))

/-! ## The BAR2 aperture -/

theorem exec_bar2Access (hl : s.live = true) : exec (.bar2Access f off len wr chk) s = .next (s.bar2 f off len wr chk) :=
  whenLive_of_live hl (fun s => s.bar2 f off len wr chk)

/-- Bytes that an access covers: those it writes, or as many as it reads. -/
def accessLen (len : Nat) (wr : Option (List Byte)) : Nat := (wr.getD (zeros len)).length

@[simp] theorem accessLen_some (len : Nat) (bs : List Byte) : accessLen len (some bs) = bs.length := rfl
@[simp] theorem accessLen_none (len : Nat) : accessLen len none = len := List.length_replicate ..

/-- An access of a function that takes accesses, within a 64-byte block of the aperture, reaches its half. -/
theorem bar2_valid (hf : s.funcActive f = true) (ho : off < 0x10000000) (hn : 0 < accessLen len wr) (hb : off % 64 + accessLen len wr ≤ 64) :
    s.bar2 f off len wr chk = if off < 0x08000000 then s.bar2Here f off (accessLen len wr) wr chk
      else s.passControl .east (.access { func := f, off := off, width := accessLen len wr, bar2 := some (wr, chk) }) := by
  have hexists : s.funcExists f = true := by
    unfold State.funcActive at hf
    simp only [Bool.and_eq_true] at hf
    exact hf.1.1
  have hrange : ¬((!s.funcActive f) = true ∨ off ≥ 0x10000000 ∨ accessLen len wr = 0 ∨ accessLen len wr > 64 ∨
      off % 64 + accessLen len wr > 64) := by
    rw [hf]
    simp only [Bool.not_true, Bool.false_eq_true, false_or]
    omega
  have hcheck : s.bar2 f off len wr chk = if (!s.funcExists f) = true then s
      else if (!s.funcActive f) = true ∨ off ≥ 0x10000000 ∨ accessLen len wr = 0 ∨ accessLen len wr > 64 ∨ off % 64 + accessLen len wr > 64 then
        s.badAccess f off (accessLen len wr) wr.isSome (wrValue wr)
      else if off < 0x08000000 then s.bar2Here f off (accessLen len wr) wr chk
      else s.passControl .east (.access { func := f, off := off, width := accessLen len wr, bar2 := some (wr, chk) }) := by
    cases wr with
    | some bs => rfl
    | none => simp only [accessLen_none]; rfl
  rw [hcheck, if_neg (by simp [hexists]), if_neg hrange]

theorem ofNum_west (ho : off < 0x08000000) : Half.ofNum (off / 0x08000000) = .west := by
  rw [Nat.div_eq_of_lt ho]; rfl

section
variable (ho : off < 0x08000000) (ha : (List.range n).all (fun i => s.bar2Allowed .west f (off + i)) = true)
  (hd : s.domOn (bankDom .west (off / 0x800000)) = true)
include ho ha hd

/-- A write of West's T1 that the function may make, with the bank on. -/
theorem bar2Here_write : s.bar2Here f off n (some bs) chk = s.bar2Write .west off bs chk := by
  unfold State.bar2Here
  simp only [ofNum_west ho, Nat.mod_eq_of_lt ho]
  rw [if_pos ha, if_neg (by simp [hd])]

theorem bar2Here_read : s.bar2Here f off n none chk = s.bar2Read .west f off off n chk := by
  unfold State.bar2Here
  simp only [ofNum_west ho, Nat.mod_eq_of_lt ho]
  rw [if_pos ha, if_neg (by simp [hd])]

end

/-- An access that the function may not make is recorded; a read gives zeros. -/
def State.bar2Refused (s : State) (f off : Nat) (wr : Option (List Byte)) : State :=
  (s.wf (MEM_EVENT .west) MEM_EVENT.ACCESS_REFUSED 1).log .west { logSoft 3 (wrValue wr) with event := 7, func := f, addr := off }

theorem bar2Here_refused (ho : off < 0x08000000) (ha : (List.range n).all (fun i => s.bar2Allowed .west f (off + i)) = false) :
    s.bar2Here f off n wr chk = if wr.isSome then s.bar2Refused f off wr else (s.bar2Refused f off wr).send (.readDone f off (zeros n)) := by
  unfold State.bar2Here
  simp only [ofNum_west ho, Nat.mod_eq_of_lt ho]
  rw [if_neg (by simp [ha])]
  rfl

/-- The refusal's event bit is set, and the memories are as they were. -/
theorem bar2Refused_shows (s : State) (f off : Nat) (wr : Option (List Byte)) :
    (s.bar2Refused f off wr).rf (MEM_EVENT .west) MEM_EVENT.ACCESS_REFUSED = 1 ∧ ∀ g, ((s.bar2Refused f off wr).half g).mem = (s.half g).mem := by
  have k := log_onlyLogged (s.wf (MEM_EVENT .west) MEM_EVENT.ACCESS_REFUSED 1) .west
    { logSoft 3 (wrValue wr) with event := 7, func := f, addr := off } (by simp [logSoft])
  refine ⟨(rf_of_onlyLogged k (by simp) (by decide)).trans (State.rf_wf_same _ _ _ (by decide) (by decide)), fun g => ?_⟩
  rw [State.bar2Refused, onlyLogged_mem k, State.wf_half]

/-- The physical function may reach every byte of T1. -/
theorem bar2Allowed_physical (s : State) (h : Half) (n off : Nat) : (List.range n).all (fun i => s.bar2Allowed h 0 (off + i)) = true := by
  simp [State.bar2Allowed]

section
variable (hl : s.live = true) (hf : s.funcActive f = true) (ho : off < 0x08000000) (hd : s.domOn (bankDom .west (off / 0x800000)) = true)
include hl hf ho hd

theorem exec_bar2_write (hn : 0 < bs.length) (hb : off % 64 + bs.length ≤ 64)
    (ha : (List.range bs.length).all (fun i => s.bar2Allowed .west f (off + i)) = true) :
    exec (.bar2Access f off 0 (some bs) chk) s = .next (s.bar2Write .west off bs chk) := by
  rw [exec_bar2Access hl, bar2_valid hf (by omega) (by simpa using hn) (by simpa using hb), if_pos ho, accessLen_some, bar2Here_write ho ha hd]

theorem exec_bar2_read (hn : 0 < n) (hb : off % 64 + n ≤ 64) (ha : (List.range n).all (fun i => s.bar2Allowed .west f (off + i)) = true) :
    exec (.bar2Access f off n none chk) s = .next (s.bar2Read .west f off off n chk) := by
  rw [exec_bar2Access hl, bar2_valid hf (by omega) (by simpa using hn) (by simpa using hb), if_pos ho, accessLen_none, bar2Here_read ho ha hd]

end

/-- A write that finds no word uncorrectable among those it covers in part. -/
theorem bar2Write_clean (hc : chk.bad = []) (hb : (partWords 4 a bs.length).any (fun w => (s.half h).mem.badT1.contains w) = false) :
    s.bar2Write h a bs chk = (s.scanCount h 1 chk).memPut h 1 a bs := by
  have hparts : (partWords (wordBytes 1) a bs.length).filter (fun w => ((s.scanCount h 1 chk).badWords h 1).contains w) = [] := by
    rw [State.badWords_congr (State.scanCount_half ..)]
    exact List.filter_eq_nil_iff.2 (by simpa [State.badWords, wordBytes] using hb)
  unfold State.bar2Write State.putFinds
  simp only [hc, List.any_nil, List.filter_false, List.foldl_nil, hparts]
  rfl

theorem mapGet_memPut_t1 (s : State) (h : Half) (a : Nat) (bs : List Byte) (j : Nat) : mapGet zeroByte ((s.memPut h 1 a bs).half h).mem.t1 j =
    if a ≤ j ∧ j < a + bs.length then bs.getD (j - a) 0 else mapGet zeroByte (s.half h).mem.t1 j := by
  rw [State.memPut, State.half_modHalf_same, if_pos rfl]
  exact mapGet_memWrite ..

/-- A read gives the bytes as they are, with a record of each uncorrectable word. -/
theorem bar2Read_west (s : State) (f off a n : Nat) (chk : Scan) : ∃ u : State, s.bar2Read .west f off a n chk =
    u.send (.readDone f off (s.memBytes .west 1 a n)) ∧ KeepsUnit s u :=
  ⟨_, rfl, (KeepsUnit.scan ..).trans (.foldl (fun t _ => .logWord t ..) _ _)⟩

/-! ## The Sweeper -/

theorem exec_sweepBurst (hl : s.live = true) : exec (.sweepBurst h chk) s = .next (s.sweepBurst h chk) :=
  whenLive_of_live hl (fun s => s.sweepBurst h chk)

/-- The Sweeper's position after a burst. -/
def State.sweptTo (s : State) (h : Half) (tier b : Nat) : State :=
  (s.wf (SWP_STATUS h) SWP_STATUS.TIER (tier - 1)).wf (SWP_POS h) SWP_POS.BURST (b + 1)

/-- What a burst's read found is counted and recorded. -/
def sweptFound (h : Half) (tier i : Nat) (chk : Scan) (p : State × List Nat) : State :=
  let s2 := if tier = 1 ∨ chk.corrected = 0 then p.1 else p.1.add (SWP_CE h) SWP_CE.WORDS chk.corrected
  let s3 := if p.2 = [] then s2 else s2.add (SWP_UE h) SWP_UE.WORDS p.2.length
  p.2.foldl (fun u w => u.logWord h tier w (u.handleOf h i)) s3

theorem sweepBurst_reads (hg : s.power.gateOpen = true) (hn : s.sweepNext h = some (tier, i, b)) (hd : (s.objDoms h i).all s.domOn = true) :
    s.sweepBurst h chk = sweptFound h tier i chk ((s.sweptTo h tier b).scan h tier (64 * b) 64 chk) := by
  unfold State.sweepBurst
  rw [if_neg (by simp [hg]), hn]
  dsimp only
  rw [if_neg (by simp [hd])]
  rfl

/-- The burst's tier is T1 or T2. -/
theorem sweepNext_tier (hn : s.sweepNext h = some (tier, i, b)) : tier = 1 ∨ tier = 2 := by
  have ht2 : ∀ p, (if s.on (SWP_CTRL h) SWP_CTRL.EN_T2 then (nextBurst (s.sweepRuns h 2) p).map (fun e => (2, e)) else none) =
      some (tier, i, b) → tier = 2 := fun p e => by
    split at e
    · obtain ⟨_, -, e⟩ := Option.map_eq_some_iff.1 e
      cases e; rfl
    · cases e
  unfold State.sweepNext at hn
  dsimp only at hn
  split at hn
  · exact .inr (ht2 _ hn)
  · split at hn
    · cases hn; exact .inl rfl
    · exact .inr (ht2 _ hn)

/-- What the burst found leaves the Sweeper's position. -/
theorem sweptFound_keeps (h : Half) (tier i : Nat) (chk : Scan) (p : State × List Nat) {f : Fld} {k : Nat} (hk : k = 0x404008 ∨ k = 0x40400C)
    (hf : f.off = 0) : (sweptFound h tier i chk p).rf (h.base + k) f = p.1.rf (h.base + k) f := by
  have hce : ∀ u : State, (u.add (SWP_CE h) SWP_CE.WORDS chk.corrected).rf (h.base + k) f = u.rf (h.base + k) f := fun u =>
    State.rf_wf_ne u _ _ _ (by simp only [SWP_CE, hf]; omega)
  have hue : ∀ u : State, (u.add (SWP_UE h) SWP_UE.WORDS p.2.length).rf (h.base + k) f = u.rf (h.base + k) f := fun u =>
    State.rf_wf_ne u _ _ _ (by simp only [SWP_UE, hf]; omega)
  unfold sweptFound
  rw [(Touches.logWords _ h [] tier _ p.2).reg (zone_sweep h (by omega)) hf (by simp) (by simp)]
  split_ifs
  · rfl
  · rw [hce]
  · rw [hue]
  · rw [hue, hce]

/-- A burst moves the Sweeper on, whatever it finds. -/
theorem sweepBurst_moves (ht : tier = 1 ∨ tier = 2) {p : State × List Nat} (hp : p = (s.sweptTo h tier b).scan h tier (64 * b) 64 chk) :
    (sweptFound h tier i chk p).rf (SWP_POS h) SWP_POS.BURST = (b + 1) % 2 ^ 32 ∧
    (sweptFound h tier i chk p).rf (SWP_STATUS h) SWP_STATUS.TIER = tier - 1 := by
  have k : Touches [.event] (s.sweptTo h tier b) p.1 := hp ▸ Touches.scan _ h tier _ _ chk (by simp)
  refine ⟨?_, ?_⟩
  · refine (sweptFound_keeps h tier i chk p (.inr rfl) rfl).trans ?_
    refine (k.reg (zone_sweep h (by decide)) rfl (by simp) (by simp)).trans ?_
    exact State.rf_wf _ _ _ _ (by decide)
  · refine (sweptFound_keeps h tier i chk p (.inl rfl) rfl).trans ?_
    refine (k.reg (zone_sweep h (by decide)) rfl (by simp) (by simp)).trans ?_
    rw [State.sweptTo, State.rf_wf_ne _ _ _ _ (by simp only [SWP_POS]; omega)]
    exact State.rf_wf_same _ _ _ (by decide) (by rcases ht with rfl | rfl <;> decide)

@[simp] theorem sweptTo_half (s : State) (h x : Half) (tier b : Nat) : (s.sweptTo h tier b).half x = s.half x := by simp [State.sweptTo]

theorem badIn_congr (e : t.half h = s.half h) (tier a len : Nat) : t.badIn h tier a len = s.badIn h tier a len := by
  unfold State.badIn; rw [State.badWords_congr e]

theorem onlyRegs_sweptTo (s : State) (h : Half) (tier b : Nat) : onlyRegs [SWP_POS h, SWP_STATUS h] s (s.sweptTo h tier b) :=
  onlyRegs_wf (onlyRegs_wf (onlyRegs_refl _ s) _ _ _ (by simp)) _ _ _ (by simp)

theorem sweptFound_uncorrected (hc : chk.corrected = 0) (p : State × List Nat) : sweptFound h tier i chk p =
    p.2.foldl (fun u w => u.logWord h tier w (u.handleOf h i)) (if p.2 = [] then p.1 else p.1.add (SWP_UE h) SWP_UE.WORDS p.2.length) := by
  unfold sweptFound
  rw [if_pos (.inr hc)]

theorem zone_sweptUe (h : Half) : memZone (SWP_UE h) = .sweep := zone_sweep h (by decide)

/-- The count of the words that a burst finds uncorrectable. -/
theorem sweptFound_counts {p : State × List Nat} (hc : chk.corrected = 0) :
    (sweptFound h tier i chk p).rf (SWP_UE h) SWP_UE.WORDS = (p.1.rf (SWP_UE h) SWP_UE.WORDS + p.2.length) % 2 ^ 32 := by
  rw [sweptFound_uncorrected hc]
  refine ((Touches.logWords _ h [] tier _ p.2).reg (zone_sweptUe h) rfl (by simp) (by simp)).trans ?_
  split
  · next he => rw [he, List.length_nil, Nat.add_zero, Nat.mod_eq_of_lt (State.rf_lt ..)]
  · exact State.rf_wf _ _ _ _ (by decide)

/-- Where the checkers find nothing of their own, a burst changes its registers and the log only. -/
theorem onlyLogged_sweptFound {p : State × List Nat} (k : onlyLogged as s p.1) (hc : chk.corrected = 0) (hue : SWP_UE h ∈ as) :
    onlyLogged as s (sweptFound h tier i chk p) := by
  rw [sweptFound_uncorrected hc]
  refine onlyLogged_logWords ?_ h tier (fun u _ => u.handleOf h i) p.2
  split
  · exact k
  · exact onlyLogged_wf k _ _ _ (.inl (by simpa using hue))

/-- A burst's findings leave the bytes of the tiers. -/
theorem sweptFound_bytes (h : Half) (tier i : Nat) (chk : Scan) (p : State × List Nat) : KeepsUnit p.1 (sweptFound h tier i chk p) := by
  have hce : KeepsUnit p.1 (if tier = 1 ∨ chk.corrected = 0 then p.1 else p.1.add (SWP_CE h) SWP_CE.WORDS chk.corrected) :=
    .ite (.refl _) (.wfLow _ (by decide) rfl)
  unfold sweptFound
  exact (KeepsUnit.ite hce (hce.trans (.wfLow _ (by decide) rfl))).trans (.foldl (fun t _ => .logWord t ..) _ _)

/-- The pass is counted and the next one begins. -/
def State.sweepBegun (s : State) (h : Half) : State :=
  (((s.add (SWP_PASSES h) SWP_PASSES.PASSES 1).wf (SWP_STATUS h) SWP_STATUS.TIER 0).wf (SWP_POS h) SWP_POS.BURST 0).modMem h
    (fun m => { m with sweep := s.sweepList h, sweepUs := s.us h })

def State.sweepEnded (s : State) (h : Half) : State :=
  if s.sweepLate h then (s.sweepBegun h).wf (SWP_STATUS h) SWP_STATUS.BEHIND 1 else s.sweepBegun h

theorem sweepBegun_shows (s : State) (h : Half) :
    (s.sweepBegun h).rf (SWP_PASSES h) SWP_PASSES.PASSES = (s.rf (SWP_PASSES h) SWP_PASSES.PASSES + 1) % 2 ^ 32 ∧
    (s.sweepBegun h).rf (SWP_STATUS h) SWP_STATUS.TIER = 0 ∧ (s.sweepBegun h).rf (SWP_POS h) SWP_POS.BURST = 0 := by
  refine ⟨?_, ?_, ?_⟩ <;> rw [State.sweepBegun, State.modMem_rf]
  · rw [State.rf_wf_ne _ _ _ _ (by simp only [SWP_PASSES, SWP_POS]; omega), State.rf_wf_ne _ _ _ _ (by simp only [SWP_PASSES, SWP_STATUS]; omega)]
    exact State.rf_wf _ _ _ _ (by decide)
  · rw [State.rf_wf_ne _ _ _ _ (by simp only [SWP_STATUS, SWP_POS]; omega)]
    exact State.rf_wf_same _ _ _ (by decide) (by decide)
  · exact State.rf_wf_same _ _ _ (by decide) (by decide)

theorem onlyRegs_sweepBegun (s : State) (h : Half) :
    onlyRegs [SWP_PASSES h, SWP_STATUS h, SWP_POS h] s ((s.sweepBegun h).modMem h (fun _ => (s.half h).mem)) := by
  rw [State.sweepBegun, State.modMem_modMem, State.modMem_of_eq (by simp)]
  exact onlyRegs_wf (onlyRegs_wf (onlyRegs_wf (onlyRegs_refl _ s) _ _ _ (by simp)) _ _ _ (by simp)) _ _ _ (by simp)

theorem exec_sweepPassEnd (hl : s.live = true) (hn : s.sweepNext h = none) : exec (.sweepPassEnd h) s = .next (s.sweepEnded h) := by
  change execSweepPassEnd h s = _
  rw [execSweepPassEnd, whenLive_of_live hl, if_neg (by simp [hn])]
  rfl

/-- Settles O14: an access that reaches West's bytes reads or writes them there, and a burst and a pass end change the Sweeper's registers. -/
theorem apertureAndSweeper : Obligations.ApertureAndSweeper := by
  unfold Obligations.ApertureAndSweeper
  refine ⟨?write, ?read, ?east, ?clean, ?uncorrectable, ?passEnd, ?burst, ?refused, ?writes, ?reads⟩
  case write =>
    intro s off bs hl hf ho hn hb hd hgood
    refine ⟨_, exec_bar2_write hl hf ho hd hn hb (bar2Allowed_physical ..), ?_⟩
    rw [bar2Write_clean rfl (by simp [hgood]), scanCount_none]
    exact ⟨fun a => mapGet_memPut_t1 .., State.memPut_regs .., State.memPut_outbox ..⟩
  case read =>
    intro s off n hl hf ho hn hb hd hgood
    refine ⟨_, exec_bar2_read hl hf ho hd hn hb (bar2Allowed_physical ..), ?_⟩
    unfold State.bar2Read
    rw [scan_clean hgood]
    exact ⟨rfl, rfl⟩
  case east =>
    intro s off n hl hf ho hlt hn hb
    refine ⟨_, exec_bar2Access hl, ?_⟩
    rw [bar2_valid hf hlt (by simpa using hn) (by simpa using hb), if_neg (by omega), accessLen_none]
    exact ⟨rfl, rfl⟩
  case clean =>
    intro s h x i b hl hg hn hd hgood hx
    have hp : (s.sweptTo h x b).scan h x (64 * b) 64 {} = (s.sweptTo h x b, []) :=
      scan_clean (by unfold State.memBad; rw [badIn_congr (sweptTo_half ..)]; exact hgood)
    obtain ⟨hpos, htier⟩ := sweepBurst_moves (i := i) (chk := {}) hx hp.symm
    refine ⟨_, exec_sweepBurst hl, ?_⟩
    rw [sweepBurst_reads hg hn hd, hp]
    refine ⟨hpos, htier, ?_⟩
    rw [sweptFound_uncorrected rfl]
    exact onlyRegs_sweptTo s h x b
  case uncorrectable =>
    intro s h x i b hl hg hn hd hbad hx
    refine ⟨_, exec_sweepBurst hl, ?_⟩
    rw [sweepBurst_reads hg hn hd, scan_known, badIn_congr (sweptTo_half ..)]
    set u := (s.sweptTo h x b).countBad h x (s.badIn h x (64 * b) 64).length with hu
    have k : onlyRegs [SWP_POS h, SWP_STATUS h, SWP_UE h, MEM_EVENT h, MEM_PARITY_UE h, MEM_SECDED_UE h] s u :=
      onlyRegs_trans (onlyRegs_mono (by simp) (onlyRegs_sweptTo s h x b)) (onlyRegs_mono (by simp) (onlyRegs_countBad ..))
    refine ⟨?_, onlyLogged_sweptFound (onlyLogged_of_onlyRegs k) rfl (by simp)⟩
    rw [sweptFound_counts rfl]
    have hue : u.rf (SWP_UE h) SWP_UE.WORDS = s.rf (SWP_UE h) SWP_UE.WORDS := by
      refine ((Touches.countBad (Z := [.event]) _ h x _ (by simp)).reg (zone_sweptUe h) rfl (by simp) (by simp)).trans ?_
      rw [State.sweptTo, State.rf_wf_ne _ _ _ _ (by simp only [SWP_UE, SWP_POS]; omega), State.rf_wf_ne _ _ _ _ (by simp only [SWP_UE, SWP_STATUS]; omega)]
    rw [hue]
  case passEnd =>
    intro s h hl hn
    obtain ⟨hpasses, htier, hpos⟩ := sweepBegun_shows s h
    have hlist : ((s.sweepBegun h).half h).mem.sweep = s.sweepList h := by rw [State.sweepBegun, State.modMem_mem]
    refine ⟨_, exec_sweepPassEnd hl hn, ?_⟩
    unfold State.sweepEnded
    split
    · next hlate =>
      refine ⟨?_, (State.rf_wf_apart _ _ _ (by decide)).trans htier, ?_, fun _ => State.rf_wf_same _ _ _ (by decide) (by decide), ?_, ?_⟩
      · exact (State.rf_wf_ne _ _ _ _ (by simp only [SWP_PASSES, SWP_STATUS]; omega)).trans hpasses
      · exact (State.rf_wf_ne _ _ _ _ (by simp only [SWP_POS, SWP_STATUS]; omega)).trans hpos
      · rw [State.wf_half, hlist]
      · rw [State.wf_modMem]
        exact onlyRegs_wf (onlyRegs_sweepBegun s h) _ _ _ (by simp)
    · next hlate => exact ⟨hpasses, htier, hpos, fun e => absurd e hlate, hlist, onlyRegs_sweepBegun s h⟩
  case burst =>
    intro s h x i b chk hl hg hn hd
    obtain ⟨hpos, htier⟩ := sweepBurst_moves (i := i) (b := b) (h := h) (s := s) (chk := chk) (sweepNext_tier hn) rfl
    have k := (KeepsUnit.scan (s.sweptTo h x b) h x (64 * b) 64 chk).trans (sweptFound_bytes h x i chk _)
    refine ⟨_, exec_sweepBurst hl, ?_⟩
    rw [sweepBurst_reads hg hn hd]
    exact ⟨hpos, htier, by rw [k.t1, sweptTo_half], by rw [k.t2, sweptTo_half]⟩
  case refused =>
    intro s f off len wr chk h hl hf hlt hh hn hb hw ha
    subst hw
    have ho : off < 0x08000000 := by
      unfold Half.ofNum at hh
      split at hh
      · omega
      · cases hh
    rw [Nat.mod_eq_of_lt ho] at ha
    obtain ⟨hevent, hmem⟩ := bar2Refused_shows s f off wr
    refine ⟨_, exec_bar2Access hl, ?_⟩
    rw [bar2_valid hf hlt hn hb, if_pos ho, bar2Here_refused (n := accessLen len wr) ho ha]
    cases wr with
    | some bs => exact ⟨hevent, hmem, fun e => by cases e⟩
    | none => exact ⟨hevent, hmem, fun _ => by simp [State.send]⟩
  case writes =>
    intro s f off bs chk hl hf ho hn hb ha hd hc hgood
    refine ⟨_, exec_bar2_write hl hf ho hd hn hb ha, ?_⟩
    rw [bar2Write_clean hc hgood]
    exact ⟨State.memBytes_memPut .., congrArg HalfState.mem (State.scanCount_half s .west .east 1 chk),
      (State.memPut_outbox ..).trans (scanCount_outbox ..)⟩
  case reads =>
    intro s f off n chk hl hf ho hn hb ha hd
    obtain ⟨u, hu, k⟩ := bar2Read_west s f off off n chk
    refine ⟨_, exec_bar2_read hl hf ho hd hn hb ha, ?_⟩
    rw [hu]
    exact ⟨by simp [State.send], k.t1 .west⟩

end Sys2Proof.Machine
end

section
/-! PROOF. Zero fills that end (R217, R229), and placements that wait for the pool (R217 to R219). -/

namespace Sys2Proof.Machine

variable {s t u : State} {h x : Half} {b i j k n : Nat} {f : Fill} {fs : List Fill} {a : AllocReq} {q : List AllocReq} {Z : List MemZone}

/-! ## Zero fills -/

theorem mapGet_mapEraseRange_outside {α : Type} (d : Nat → α) (m : List (Nat × α)) {lo len k : Nat} (hk : ¬(lo ≤ k ∧ k < lo + len)) :
    mapGet d (mapEraseRange m lo len) k = mapGet d m k := by
  unfold mapEraseRange
  induction m with
  | nil => rfl
  | cons e m ih =>
    rw [List.filter_cons]
    split
    · rw [mapGet, mapGet, ih]
    · next he =>
      have hne : k ≠ e.1 := by
        rintro rfl
        simp only [Bool.or_eq_true, decide_eq_true_eq] at he
        omega
      rw [ih, mapGet, if_neg hne]

/-- The bytes of a tier. -/
def MemHalf.tierCells (m : MemHalf) (tier : Nat) : List Host.Cell := if tier = 1 then m.t1 else m.t2

theorem memZero_cells (s : State) (h : Half) (tier a len : Nat) :
    ((s.memZero h tier a len).half h).mem.tierCells tier = mapEraseRange ((s.half h).mem.tierCells tier) a len := by
  unfold State.memZero MemHalf.tierCells
  rw [State.half_modHalf_same]
  split <;> rfl

theorem memZero_allocs (s : State) (h : Half) (tier a len : Nat) : ((s.memZero h tier a len).half h).mem.allocs = (s.half h).mem.allocs := by
  unfold State.memZero
  rw [State.half_modHalf_same]
  split <;> rfl

/-- The run reads zero, and the fill is no longer listed. -/
def State.filled (s : State) (h : Half) (f : Fill) (fs : List Fill) : State :=
  (s.memZero h f.tier (f.base * granule f.tier) (f.len * granule f.tier)).modMem h (fun m => { m with fills := fs })

theorem filled_cells (s : State) (h : Half) (f : Fill) (fs : List Fill) : ((s.filled h f fs).half h).mem.tierCells f.tier =
    mapEraseRange ((s.half h).mem.tierCells f.tier) (f.base * granule f.tier) (f.len * granule f.tier) := by
  rw [← memZero_cells, State.filled, State.modMem_mem]; rfl

@[simp] theorem filled_fills (s : State) (h : Half) (f : Fill) (fs : List Fill) : ((s.filled h f fs).half h).mem.fills = fs := by
  rw [State.filled, State.modMem_mem]

theorem touches_filled (s : State) (h : Half) (f : Fill) (fs : List Fill) : Touches [] s (s.filled h f fs) := by
  have hzero : Touches [] s (s.memZero h f.tier (f.base * granule f.tier) (f.len * granule f.tier)) :=
    .modHalf _ s h fun y => by split <;> rfl
  refine hzero.trans ?_
  exact .modMem _ _ h fun _ => ⟨rfl, rfl⟩

theorem exec_zeroFillDone (hl : s.live = true) : exec (.zeroFillDone h) s = .next (s.fillDone h) := whenLive_of_live hl (fun s => s.fillDone h)

section
variable (hf : (s.half h).mem.fills = f :: fs) (hd : (runDoms h f.tier f.base f.len).all s.domOn = true)
include hf hd

/-- The fill of a run that an object left ends that run's charge. -/
theorem fillDone_released (he : f.entry = none) :
    s.fillDone h = if f.charged then (s.filled h f fs).uncharge h f.ctx f.tier f.pool f.len else s.filled h f fs := by
  unfold State.fillDone
  rw [hf]
  dsimp only
  rw [if_neg (by simp [hd]), he]
  rfl

/-- The object of an ALLOC that waited for the fill. -/
def State.fillAlloc (s : State) (h : Half) (f : Fill) (fs : List Fill) (a : AllocReq) : State :=
  ((s.filled h f fs).modMem h (fun m => { m with allocs := m.allocs.filter (fun x => !(x.idx == a.idx)) })).allocEntry h a true

theorem fillDone_alloc (he : f.entry = some a.idx) (ha : (s.half h).mem.allocs.find? (fun y => y.idx == a.idx) = some a) :
    s.fillDone h = (s.fillAlloc h f fs a).memEnd h a.src 0 (some ((s.fillAlloc h f fs a).handleOf h a.idx)) := by
  have hfind : ((s.filled h f fs).half h).mem.allocs.find? (fun y => y.idx == a.idx) = some a := by
    rw [State.filled, State.modMem_mem]
    exact (congrArg (List.find? _) (memZero_allocs ..)).trans ha
  unfold State.fillDone
  rw [hf]
  dsimp only
  rw [if_neg (by simp [hd]), he]
  unfold State.filled at hfind
  dsimp only
  rw [hfind]
  rfl

end

/-- What a released run's fill leaves: the list, the charge, and the bytes. -/
theorem fillDone_shows (hf : (s.half h).mem.fills = f :: fs) (hd : (runDoms h f.tier f.base f.len).all s.domOn = true) (he : f.entry = none)
    (hc : f.ctx < 256) : (s.fillDone h).half h = (s.filled h f fs).half h ∧ (s.fillDone h).half h.other = s.half h.other ∧
    (f.charged = true → (s.fillDone h).quotaUsed h f.ctx f.tier f.pool = s.quotaUsed h f.ctx f.tier f.pool - f.len) := by
  have hother : (s.filled h f fs).half h.other = s.half h.other := by rw [State.filled, State.modMem_other, State.memZero, State.half_modHalf_other]
  rw [fillDone_released hf hd he]
  split
  · refine ⟨State.uncharge_half .., (State.uncharge_half ..).trans hother, fun _ => ?_⟩
    rw [quotaUsed_uncharge, (touches_filled s h f fs).quotaUsed hc _ _ (by simp)]
  · next hn => exact ⟨rfl, hother, fun e => absurd e hn⟩

/-! ## Placements that wait for the pool -/

/-- The pool lies in the numbers of granules. -/
theorem poolFit_lt (hb : s.poolFit h n = some b) : b < 2 ^ 20 := by
  have hfree := firstFit_free hb
  have hbase : (s.pool h).1 < 2 ^ 16 := State.rf_lt ..
  have hsize : (s.pool h).2 < 2 ^ 16 := State.rf_lt ..
  simp only [runFree, Bool.and_eq_true, decide_eq_true_eq] at hfree
  omega

/-- A try settles a placement in its backing, in the pool, or with NO_SPACE. -/
theorem poolTry_settled {waited : Bool} (hs : (s.poolTry h a waited).2 = true) : (s.poolTry h a waited).1 = s.poolBacked h a ∨
    (∃ b, (s.poolTry h a waited).1 = s.poolPlaced h a b) ∨ (s.poolTry h a waited).1 = s.poolNoSpace h a waited := by
  revert hs
  unfold State.poolTry
  split
  · exact fun _ => .inl rfl
  · split
    · exact fun _ => .inr (.inl ⟨_, rfl⟩)
    · split
      · exact fun e => by cases e
      · split
        · exact fun e => by cases e
        · split
          · exact fun e => by cases e
          · exact fun _ => .inr (.inr rfl)

namespace Touches

theorem wfCount (s : State) (h : Half) {k : Nat} {f : Fld} (v : Nat) (hk : 0x400140 ≤ k ∧ k < 0x401000) (hf : f.off = 0) (hz : .count ∈ Z) :
    Touches Z s (s.wf (h.base + k) f v) :=
  wf s v (by rwa [hf, Nat.add_zero, memZone_base _ (by omega), zoneOf, if_neg (by omega), if_neg (by omega), if_neg (by omega), if_neg (by omega),
    if_pos (by omega)])

theorem startMove (s : State) (h : Half) (hi : i < 32768) (tier base : Nat) (src : MemSrc) (other : Option Nat) (hz : .home ∈ Z) :
    Touches Z s (s.startMove h i tier base src other) :=
  (touches_startMove_home s h hi tier base src other).mono (by simpa using hz)

section
variable (hquota : .quota ∈ Z) (hhome : .home ∈ Z)
include hquota hhome

theorem moveOtherGo (s : State) (h : Half) (src : MemSrc) (hi : i < 32768) (hc : a.ctx < 256) : Touches Z s (s.moveOtherGo h i src a) := by
  have hcharge : Touches Z s (s.charge h.other a.ctx a.tier a.pool (granulesOf a.tier a.size)) := .charge s _ hc _ _ _ hquota
  refine (hcharge.trans ?_).trans (.startMove _ h hi _ _ _ _ hhome)
  exact .modMem Z _ h.other fun _ => ⟨rfl, rfl⟩

end

section
variable (hc : a.ctx < 256) (hi : a.idx < 32768) (ho : ∀ e ∈ a.other, e.2 < 32768) (hcmd : .cmd ∈ Z) (hquota : .quota ∈ Z) (hhome : .home ∈ Z)
include hc hi ho hcmd hquota hhome

theorem poolPlaced (s : State) (h : Half) (base : Nat) : Touches Z s (s.poolPlaced h a base) := by
  unfold State.poolPlaced
  split
  · next e he => exact .moveOtherGo hquota hhome s e.1 a.src (ho e he) hc
  · exact .ite ((Touches.charge s h hc _ _ _ hquota).trans (.startMove _ h hi _ _ _ _ hhome)) (.allocPlaced s h _ hc hi hcmd hquota hhome)

theorem poolBacked (s : State) (h : Half) : Touches Z s (s.poolBacked h a) := by
  unfold State.poolBacked
  dsimp only
  split
  · next e he => exact (Touches.uncharge s h hc _ _ _ hquota).trans (.moveOtherGo hquota hhome _ e.1 a.src (ho e he) hc)
  · exact .ite (.memEnd s h _ _ _ hcmd) (.allocPlaced s h _ hc hi hcmd hquota hhome)

end

theorem dropBacking (s : State) (h : Half) (hc : a.ctx < 256) (hz : .quota ∈ Z) : Touches Z s (s.dropBacking h a) := by
  unfold State.dropBacking
  split
  · exact .ite (.refl Z s) (.uncharge s h hc _ _ _ hz)
  · exact .refl Z s

theorem allocFail (s : State) (h : Half) (code : Nat) (hc : a.ctx < 256) (hcmd : .cmd ∈ Z) (hquota : .quota ∈ Z) :
    Touches Z s (s.allocFail h a code) :=
  (Touches.dropBacking s h hc hquota).trans (.memEnd _ _ _ _ _ hcmd)

theorem poolNoSpace (s : State) (h : Half) (waited : Bool) (hc : a.ctx < 256) (hcmd : .cmd ∈ Z) (hquota : .quota ∈ Z) (hevent : .event ∈ Z) :
    Touches Z s (s.poolNoSpace h a waited) :=
  (Touches.ite (.wfEvent s h 1 (by decide) rfl hevent) (.refl Z s)).trans (.allocFail _ h _ hc hcmd hquota)

/-- A try that settles a placement leaves time, queues, and the counts of work. -/
theorem poolTry (s : State) (h : Half) (waited : Bool) (hc : a.ctx < 256) (hi : a.idx < 32768) (ho : ∀ e ∈ a.other, e.2 < 32768)
    (hs : (s.poolTry h a waited).2 = true) : Touches [.cmd, .event, .quota, .home] s (s.poolTry h a waited).1 := by
  rcases poolTry_settled hs with e | ⟨b, e⟩ | e <;> rw [e]
  · exact .poolBacked hc hi ho (by simp) (by simp) (by simp) s h
  · exact .poolPlaced hc hi ho (by simp) (by simp) (by simp) s h b
  · exact .poolNoSpace s h waited hc (by simp) (by simp) (by simp)

end Touches

theorem exec_poolRetry (hl : s.live = true) : exec (.poolRetry h) s = .next (s.poolRetry h) := whenLive_of_live hl (fun s => s.poolRetry h)
theorem exec_allocTimeout (hl : s.live = true) : exec (.allocTimeout h k) s = .next (s.allocTimeout h k) :=
  whenLive_of_live hl (fun s => s.allocTimeout h k)

/-- A settled try takes the placement from the queue, and its wait is counted. -/
theorem poolRetry_settled (ha : (s.half h).mem.allocWait = a :: q) (hs : s.poolStands h a = true)
    (ht : ((s.modMem h (fun m => { m with allocWait := q })).poolTry h a true).2 = true) :
    s.poolRetry h = ((s.modMem h (fun m => { m with allocWait := q })).poolTry h a true).1.allocWaited h a := by
  unfold State.poolRetry
  rw [ha]
  dsimp only
  rw [if_neg (by simp [hs]), if_pos ht]

theorem allocWaited_half (s : State) (h x : Half) (a : AllocReq) : (s.allocWaited h a).half x = s.half x := State.add_half ..

theorem touches_allocWaited (s : State) (h : Half) (a : AllocReq) : Touches [.count] s (s.allocWaited h a) :=
  .wfCount s h _ (by decide) rfl (by simp)

theorem zone_allocWait (h : Half) : memZone (MEM_ALLOC_WAIT h) = .count := memZone_base h (by decide)
theorem zone_memEvent (h : Half) : memZone (MEM_EVENT h) = .event := memZone_base h (by decide)

/-- The k-th placement leaves the queue. -/
def State.unqueued (s : State) (h : Half) (k : Nat) : State := s.modMem h (fun m => { m with allocWait := m.allocWait.eraseIdx k })

theorem allocTimeout_eq (hk : (s.half h).mem.allocWait[k]? = some a) :
    s.allocTimeout h k = ((s.unqueued h k).allocWaited h a).poolNoSpace h a true := by
  unfold State.allocTimeout
  rw [hk]
  rfl

/-- A placement that has waited TIMEOUT leaves the queue with its event, and its command ends with NO_SPACE. -/
theorem allocTimeout_shows (hk : (s.half h).mem.allocWait[k]? = some a) (hc : a.ctx < 256) :
    ((s.allocTimeout h k).half h).mem.allocWait = (s.half h).mem.allocWait.eraseIdx k ∧
    (s.allocTimeout h k).rf (MEM_EVENT h) MEM_EVENT.ALLOC_TIMEOUT = 1 ∧
    (a.src = .regs → (s.allocTimeout h k).rf (MEM_CMD_CTRL (a.cmdHalf h)) MEM_CMD_CTRL.RESULT = 0x44 ∧
      (s.allocTimeout h k).rf (MEM_CMD_CTRL (a.cmdHalf h)) MEM_CMD_CTRL.DONE = 1) := by
  rw [allocTimeout_eq hk]
  set u := (s.unqueued h k).allocWaited h a with hu
  have hfail : Touches [.cmd, .quota] (u.wf (MEM_EVENT h) MEM_EVENT.ALLOC_TIMEOUT 1) (u.poolNoSpace h a true) :=
    .allocFail _ h 0x44 hc (by simp) (by simp)
  refine ⟨?_, ?_, fun hsrc => ?_⟩
  · rw [hfail.allocWait, State.wf_half, hu, allocWaited_half, State.unqueued, State.modMem_mem]
  · exact (hfail.reg (zone_memEvent h) rfl (by simp) (by simp)).trans (State.rf_wf_same _ _ _ (by decide) (by decide))
  · obtain ⟨-, hdone, hresult⟩ := memEnd_shows ((u.wf (MEM_EVENT h) MEM_EVENT.ALLOC_TIMEOUT 1).dropBacking h a) (a.cmdHalf h) none
      (code := 0x44) (by decide)
    rw [← hsrc] at hdone hresult
    exact ⟨hresult, hdone⟩

theorem onlyRegs_wf_modMem {as : List Nat} {F : MemHalf → MemHalf} (k : onlyRegs as s (t.modMem h F)) (c : Nat) (g : Fld) (v : Nat)
    (hc : c + g.off ∈ as) : onlyRegs as s ((t.wf c g v).modMem h F) := by
  rw [State.wf_modMem]
  exact onlyRegs_wf k _ _ _ hc

theorem memEnd_modMem (s : State) (h : Half) (F : MemHalf → MemHalf) (code : Nat) :
    (s.memEnd h .regs code none).modMem h F = (s.modMem h F).memEnd h .regs code none := by
  cases h <;> rfl

/-- An ALLOC that gives its backing up gives up its charge. -/
theorem dropBacking_charge (hm : a.move = false) :
    s.dropBacking h a = s ∨ ∃ v, s.dropBacking h a = s.wf (MEM_CTX_T2_USED h a.ctx) MEM_CTX_T2_USED.USED v := by
  unfold State.dropBacking
  split
  · rw [if_neg (by simp [hm])]
    exact .inr ⟨_, rfl⟩
  · exact .inl rfl

/-- Of the registers, the wait's count, the event, the backing's charge and the command's end change. -/
theorem onlyRegs_allocTimeout (hk : (s.half h).mem.allocWait[k]? = some a) (hm : a.move = false) (ho : a.other = none) (hsrc : a.src = .regs) :
    onlyRegs [MEM_ALLOC_WAIT h, MEM_EVENT h, MEM_CTX_T2_USED h a.ctx, MEM_CMD h 6, MEM_CMD_CTRL h] s
      ((s.allocTimeout h k).modMem h (fun m => { m with allocWait := (s.half h).mem.allocWait })) := by
  have hwait : onlyRegs [MEM_ALLOC_WAIT h, MEM_EVENT h, MEM_CTX_T2_USED h a.ctx, MEM_CMD h 6, MEM_CMD_CTRL h] s
      ((s.unqueued h k).modMem h (fun m => { m with allocWait := (s.half h).mem.allocWait })) := by
    rw [State.unqueued, State.modMem_modMem, State.modMem_of_eq rfl]
    exact onlyRegs_refl _ s
  have hcount := onlyRegs_wf_modMem hwait (MEM_ALLOC_WAIT h) MEM_ALLOC_WAIT.US
    ((s.unqueued h k).rf (MEM_ALLOC_WAIT h) MEM_ALLOC_WAIT.US + ((s.unqueued h k).us h - a.startUs)) (by simp)
  have hevent := onlyRegs_wf_modMem hcount (MEM_EVENT h) MEM_EVENT.ALLOC_TIMEOUT 1 (by simp)
  rw [allocTimeout_eq hk, State.poolNoSpace, State.allocFail, AllocReq.cmdHalf, ho, hsrc, if_pos rfl, memEnd_modMem]
  refine onlyRegs_memEnd ?_ h _ (by simp) (by simp)
  rcases dropBacking_charge (s := ((s.unqueued h k).allocWaited h a).wf (MEM_EVENT h) MEM_EVENT.ALLOC_TIMEOUT 1) (h := h) hm with e | ⟨v, e⟩ <;>
    rw [e]
  · exact hevent
  · exact onlyRegs_wf_modMem hevent _ _ v (by simp)

end Sys2Proof.Machine
end

section
/-! PROOF. Copies of MOVEs and evictions (R220, R224 to R228, R235): what their ends change and keep. -/

namespace Sys2Proof.Machine

variable {s t u : State} {h x : Half} {a b i j n tier base : Nat} {c : Copy} {r : AllocReq} {chk : Scan} {f g : Fld} {v : Nat} {Z : List MemZone}
  {as : List Nat}

/-! ## What is stored, and what the commands hold -/

/-- A half's memories without the words known to be uncorrectable, the fills, and the runs that bound nodes still use. -/
def MemHalf.stored (m : MemHalf) : MemHalf := { m with badT1 := [], badT2 := [], fills := [], olds := [] }

/-- The bytes of both tiers, and the copies and commands under way, are as they were. -/
structure KeepsStored (s t : State) : Prop where
  mem : ∀ x, (t.half x).mem.stored = (s.half x).mem.stored

namespace KeepsStored

theorem refl (s : State) : KeepsStored s s := ⟨fun _ => rfl⟩
theorem trans (k : KeepsStored s t) (l : KeepsStored t u) : KeepsStored s u := ⟨fun x => (l.mem x).trans (k.mem x)⟩

theorem ite {p : Prop} [Decidable p] (k : KeepsStored s t) (l : KeepsStored s u) : KeepsStored s (if p then t else u) := by
  split
  · exact k
  · exact l

theorem of_mem (e : ∀ x, (t.half x).mem = (s.half x).mem) : KeepsStored s t := ⟨fun x => by rw [e x]⟩

theorem modMem (s : State) (h : Half) {F : MemHalf → MemHalf} (hF : ∀ m, (F m).stored = m.stored) : KeepsStored s (s.modMem h F) where
  mem x := by
    unfold State.modMem
    rcases half_modHalf_cases s x h (fun y => { y with mem := F y.mem }) with e | e <;> rw [e]
    exact hF _

theorem wf (s : State) (a : Nat) (f : Fld) (v : Nat) : KeepsStored s (s.wf a f v) := of_mem fun x => by rw [State.wf_half]
theorem add (s : State) (a : Nat) (f : Fld) (v : Nat) : KeepsStored s (s.add a f v) := of_mem fun x => by rw [State.add_half]
theorem homes (s : State) (h : Half) (i : Nat) (l : List (Fld × Nat)) : KeepsStored s (s.homes h i l) := of_mem fun x => by rw [State.homes_half]
theorem memEnd (s : State) (h : Half) (src : MemSrc) (code : Nat) (v : Option Nat) : KeepsStored s (s.memEnd h src code v) :=
  of_mem fun x => by rw [State.memEnd_half]

theorem release (s : State) (h : Half) (f : Fill) : KeepsStored s (s.release h f) := by
  have hfill : KeepsStored s (s.modMem h fun m => { m with fills := m.fills ++ [f] }) := modMem s h fun _ => rfl
  exact hfill.trans (of_mem fun x => State.keepWakes_mem ..)

/-! ### What it leaves -/

theorem t1 (k : KeepsStored s t) (x : Half) : (t.half x).mem.t1 = (s.half x).mem.t1 := (congrArg MemHalf.t1 (k.mem x) :)
theorem t2 (k : KeepsStored s t) (x : Half) : (t.half x).mem.t2 = (s.half x).mem.t2 := (congrArg MemHalf.t2 (k.mem x) :)
theorem copies (k : KeepsStored s t) (x : Half) : (t.half x).mem.copies = (s.half x).mem.copies := (congrArg MemHalf.copies (k.mem x) :)
theorem allocs (k : KeepsStored s t) (x : Half) : (t.half x).mem.allocs = (s.half x).mem.allocs := (congrArg MemHalf.allocs (k.mem x) :)
theorem waiting (k : KeepsStored s t) (x : Half) : (t.half x).mem.waiting = (s.half x).mem.waiting := (congrArg MemHalf.waiting (k.mem x) :)

theorem copyOf (k : KeepsStored s t) (x : Half) (i : Nat) : t.copyOf x i = s.copyOf x i := by
  unfold State.copyOf; rw [k.copies]

theorem memBytes (k : KeepsStored s t) (x : Half) (tier a len : Nat) : t.memBytes x tier a len = s.memBytes x tier a len := by
  unfold State.memBytes; rw [k.t1, k.t2]

end KeepsStored

/-! ## The entry's fields -/

theorem Touches.objSize (k : Touches Z s t) (hi : i < 32768) (hz : .home ∉ Z) : t.objSize h i = s.objSize h i := by
  unfold State.objSize
  rw [k.home hi (by decide) hz, k.home hi (by decide) hz]

/-- Fields of an entry written leave those of the other half's. -/
theorem State.rf_homes_other (s : State) (h : Half) {l : List (Fld × Nat)} (hi : i < 32768) (hj : j < 32768) (hl : ∀ e ∈ l, e.1.off < 32)
    (hg : g.off < 32) : (s.homes h i l).rf (MEM_HOME h.other j) g = s.rf (MEM_HOME h.other j) g := by
  induction l generalizing s with
  | nil => rfl
  | cons e l ih =>
    refine (ih _ fun y hy => hl y (List.mem_cons_of_mem e hy)).trans (State.rf_wf_ne s _ _ _ ?_)
    have := hl e List.mem_cons_self
    cases h <;> simp only [MEM_HOME, Half.base, Half.other] <;> omega

theorem onlyRegs_homes (k : onlyRegs as s t) (h : Half) (i : Nat) {l : List (Fld × Nat)} (hl : ∀ e ∈ l, MEM_HOME h i + e.1.off ∈ as) :
    onlyRegs as s (t.homes h i l) := by
  induction l generalizing t with
  | nil => exact k
  | cons e l ih => exact ih (onlyRegs_wf k _ _ _ (hl e List.mem_cons_self)) fun y hy => hl y (List.mem_cons_of_mem e hy)

theorem State.homes_modMem (s : State) (h : Half) (i : Nat) (l : List (Fld × Nat)) (F : MemHalf → MemHalf) :
    (s.homes h i l).modMem h F = (s.modMem h F).homes h i l := by
  induction l generalizing s with
  | nil => rfl
  | cons e l ih => exact (ih _).trans (congrArg (fun w => State.homes w h i l) (State.wf_modMem ..))

/-! ## Copies and their checks -/

theorem copyOf_idx (hc : s.copyOf h i = some c) : c.idx = i := by simpa using List.find?_some hc

/-- An ended copy is listed no longer. -/
theorem dropCopy_copyOf (s : State) (h : Half) (i : Nat) : (s.dropCopy h i).copyOf h i = none := by
  unfold State.copyOf State.dropCopy
  rw [State.modMem_mem, List.find?_eq_none]
  simp [List.mem_filter]

theorem touches_dropCopy (s : State) (h : Half) (i : Nat) : Touches [] s (s.dropCopy h i) := by
  exact .modMem _ s h fun _ => ⟨rfl, rfl⟩

/-- The state in which the copied bytes have been checked and the copy is no longer listed. -/
def State.copyChecked (s : State) (h : Half) (i : Nat) (chk : Scan) : State := (s.copyScan h i chk).1.dropCopy h i

theorem copyScan_keeps (s : State) (h : Half) (i : Nat) (chk : Scan) : KeepsUnit s (s.copyScan h i chk).1 :=
  (KeepsUnit.scan ..).trans (.foldl (fun t _ => .logWord t ..) _ _)

theorem touches_copyScan (s : State) (h : Half) (i : Nat) (chk : Scan) : Touches [.event] s (s.copyScan h i chk).1 := by
  have hscan : Touches [.event] s (s.scan h (s.objAt h i).tier (s.objAt h i).addr (s.objAt h i).size chk).1 := .scan s h _ _ _ chk (by simp)
  unfold State.copyScan
  exact hscan.trans (.logWords _ h _ _ (fun w _ => w.handleOf h i) _)

/-- Good bytes, and checkers that find nothing of their own. -/
theorem copyScan_clean (hb : s.memBad h (s.rf (MEM_HOME h i) MEM_HOME.TIER) (s.objAt h i).addr (s.objSize h i) = false) :
    s.copyScan h i {} = (s, false) := by
  unfold State.copyScan
  dsimp only
  rw [show s.scan h (s.objAt h i).tier (s.objAt h i).addr (s.objAt h i).size {} = (s, []) from scan_clean hb]
  rfl

theorem touches_copyChecked (s : State) (h : Half) (i : Nat) (chk : Scan) : Touches [.event] s (s.copyChecked h i chk) :=
  (touches_copyScan ..).trans ((touches_dropCopy ..).mono (by simp))

theorem copyChecked_t1 (s : State) (h x : Half) (i : Nat) (chk : Scan) : ((s.copyChecked h i chk).half x).mem.t1 = (s.half x).mem.t1 := by
  have hdrop : ∀ w : State, ((w.dropCopy h i).half x).mem.t1 = (w.half x).mem.t1 := fun w => by cases h <;> cases x <;> rfl
  exact (hdrop _).trans ((copyScan_keeps ..).t1 x)

theorem copyChecked_t2 (s : State) (h x : Half) (i : Nat) (chk : Scan) : ((s.copyChecked h i chk).half x).mem.t2 = (s.half x).mem.t2 := by
  have hdrop : ∀ w : State, ((w.dropCopy h i).half x).mem.t2 = (w.half x).mem.t2 := fun w => by cases h <;> cases x <;> rfl
  exact (hdrop _).trans ((copyScan_keeps ..).t2 x)

theorem copyChecked_waiting (s : State) (h : Half) (i : Nat) (chk : Scan) :
    ((s.copyChecked h i chk).half h).mem.waiting = (s.half h).mem.waiting := (touches_copyChecked ..).waiting h

theorem copyChecked_fills (s : State) (h : Half) (i : Nat) (chk : Scan) : ((s.copyChecked h i chk).half h).mem.fills = (s.half h).mem.fills := by
  rw [State.copyChecked, State.dropCopy, State.modMem_mem]
  exact (congrArg (fun y => y.mem.fills) ((copyScan_keeps ..).half h) :)

/-- Nothing waits for the object: nothing is checked afresh. -/
theorem memRecheck_idle (hw : (s.half h).mem.waiting = []) : s.memRecheck h i = s := by
  rw [State.memRecheck, hw]; rfl

/-! ## The home switches (R225) -/

/-- What the switch writes into the entry. -/
def rehomedFields (tier base : Nat) : List (Fld × Nat) := [(MEM_HOME.TIER, tier), (MEM_HOME.BASE, base), (MEM_HOME.STATE, 1)]

/-- The bytes stand at the new home, which the entry names. -/
def State.rehomed (s : State) (h : Half) (i tier base : Nat) : State := (s.copyBytes h i tier base).homes h i (rehomedFields tier base)

theorem rehomedFields_off (tier base : Nat) : ∀ e ∈ rehomedFields tier base, e.1.off < 32 := by
  simp [rehomedFields, MEM_HOME.TIER, MEM_HOME.BASE, MEM_HOME.STATE]

theorem touches_memPut (s : State) (h : Half) (tier a : Nat) (bs : List Byte) : Touches [] s (s.memPut h tier a bs) := by
  unfold State.memPut
  exact .modHalf _ s h fun y => by split <;> rfl

theorem memPut_rest (s : State) (h : Half) (tier a : Nat) (bs : List Byte) :
    ((s.memPut h tier a bs).half h).mem.copies = (s.half h).mem.copies ∧ ((s.memPut h tier a bs).half h).mem.fills = (s.half h).mem.fills := by
  unfold State.memPut
  rw [State.half_modHalf_same]
  split <;> exact ⟨rfl, rfl⟩

theorem memPut_t1 (s : State) (h : Half) (a : Nat) (bs : List Byte) : ((s.memPut h 2 a bs).half h).mem.t1 = (s.half h).mem.t1 := by
  unfold State.memPut
  rw [State.half_modHalf_same]
  rfl

theorem touches_rehomed (s : State) (h : Half) (hi : i < 32768) (tier base : Nat) : Touches [.home] s (s.rehomed h i tier base) :=
  ((touches_memPut ..).mono (by simp)).trans (.homes _ h hi (rehomedFields_off tier base) (by simp))

theorem rehomed_shows (s : State) (h : Half) (i : Nat) (ht : tier < 4) (hb : base < 2 ^ 20) : (s.rehomed h i tier base).objState h i = 1 ∧
    (s.rehomed h i tier base).rf (MEM_HOME h i) MEM_HOME.TIER = tier ∧ (s.rehomed h i tier base).rf (MEM_HOME h i) MEM_HOME.BASE = base := by
  have hp : ((rehomedFields tier base).map Prod.fst).Pairwise (fun f g => g.apart f = true) := by
    change [MEM_HOME.TIER, MEM_HOME.BASE, MEM_HOME.STATE].Pairwise _
    decide
  have hshow : ∀ {f : Fld} {n : Nat}, (f, n) ∈ rehomedFields tier base → f.lo + f.len ≤ 32 → n < 2 ^ f.len →
      (s.rehomed h i tier base).rf (MEM_HOME h i) f = n := fun hm hlen hn => by
    rw [State.rehomed, State.rf_homes _ h i hp hm hlen, Nat.mod_eq_of_lt hn]
  refine ⟨?_, ?_, ?_⟩
  · exact hshow (n := 1) (by simp [rehomedFields]) (by decide) (by decide)
  · exact hshow (by simp [rehomedFields]) (by decide) ht
  · exact hshow (by simp [rehomedFields]) (by decide) hb

/-- The object's bytes read the same at the new home. -/
theorem rehomed_bytes (s : State) (h : Half) (i tier base : Nat) : (s.rehomed h i tier base).memBytes h tier (base * granule tier) (s.objSize h i) =
    s.memBytes h (s.rf (MEM_HOME h i) MEM_HOME.TIER) (s.objAt h i).addr (s.objSize h i) := by
  have hlen : (s.objRead (s.objAt h i) 0 (s.objAt h i).size).length = s.objSize h i := memRead_length ..
  rw [State.rehomed, (KeepsStored.homes ..).memBytes]
  refine (congrArg _ hlen.symm).trans ?_
  exact State.memBytes_memPut ..

/-- A copy to T2 leaves T1. -/
theorem rehomed_t1 (s : State) (h : Half) (i base : Nat) : ((s.rehomed h i 2 base).half h).mem.t1 = (s.half h).mem.t1 := by
  rw [State.rehomed, State.homes_half]
  exact memPut_t1 ..

theorem rehomed_rest (s : State) (h : Half) (i tier base : Nat) : ((s.rehomed h i tier base).half h).mem.copies = (s.half h).mem.copies ∧
    ((s.rehomed h i tier base).half h).mem.fills = (s.half h).mem.fills := by
  rw [State.rehomed, State.homes_half]
  exact memPut_rest ..

/-! ## The source run (R225) -/

theorem touches_leaveSource (s : State) (h : Half) (i v : Nat) (f : Fill) (backing : Bool) : Touches [] s (s.leaveSource h i v f backing) := by
  have hold : Touches [] s (s.keepOldHome v f.tier (f.base * granule f.tier)) := .of_rest _ rfl fun x => by cases x <;> rfl
  have holds : Touches [] (s.keepOldHome v f.tier (f.base * granule f.tier))
      ((s.keepOldHome v f.tier (f.base * granule f.tier)).modMem h fun m => { m with olds := m.olds ++ [(v, f)] }) :=
    .modMem _ _ h fun _ => ⟨rfl, rfl⟩
  exact .ite (.ite hold (hold.trans holds)) (.ite (.refl _ s) (.release _ s h f))

theorem leaveSource_stored (s : State) (h : Half) (i v : Nat) (f : Fill) (backing : Bool) : KeepsStored s (s.leaveSource h i v f backing) := by
  have hold : KeepsStored s (s.keepOldHome v f.tier (f.base * granule f.tier)) := .of_mem fun x => by cases x <;> rfl
  have holds : KeepsStored (s.keepOldHome v f.tier (f.base * granule f.tier))
      ((s.keepOldHome v f.tier (f.base * granule f.tier)).modMem h fun m => { m with olds := m.olds ++ [(v, f)] }) :=
    .modMem _ h fun _ => rfl
  exact .ite (.ite hold (hold.trans holds)) (.ite (.refl s) (.release s h f))

end Sys2Proof.Machine
end

section
/-! PROOF. The ends of MOVEs and evictions (R220, R225, R228), and the start of a copy (R224). -/

namespace Sys2Proof.Machine

variable {s t u : State} {h x : Half} {a b i j n tier base : Nat} {c : Copy} {r : AllocReq} {chk : Scan} {f g : Fld} {v : Nat} {Z : List MemZone}
  {as : List Nat}

/-! ## MOVE_COPY_START -/

theorem exec_moveCopyStart (hl : s.live = true) : exec (.moveCopyStart h i) s = .next (s.moveCopyStart h i) :=
  whenLive_of_live hl (fun s => s.moveCopyStart h i)

/-- The copy is marked as started. -/
def State.copyStarted (s : State) (h : Half) (i : Nat) : State :=
  s.modMem h (fun m => { m with copies := m.copies.map (fun y => if y.idx == i then { y with started := true } else y) })

theorem copyStarted_copyOf (hc : s.copyOf h i = some c) : (s.copyStarted h i).copyOf h i = some { c with started := true } := by
  have hsame : ((fun y : Copy => y.idx == i) ∘ fun y => if y.idx == i then { y with started := true } else y) = fun y => y.idx == i := by
    funext y
    by_cases hy : y.idx = i <;> simp [hy]
  unfold State.copyOf State.copyStarted at *
  rw [State.modMem_mem, List.find?_map, hsame, hc]
  simp [copyOf_idx (s := s) (h := h) hc]

section
variable (hc : s.copyOf h i = some c) (he : c.evict = false) (hs : c.started = false) (hw : s.rf (MEM_HOME h i) MEM_HOME.USE_W = 0)
  (hd : s.copyOn h i c = true)
include hc he hs hw hd

/-- With the memories on and no writer bound, a copy within its half starts. -/
theorem moveCopyStart_here (ho : c.other = none) : s.moveCopyStart h i = s.copyStarted h i := by
  unfold State.moveCopyStart
  rw [hc]
  dsimp only
  rw [if_neg (by simp [he, hs, hw, hd]), ho]
  rfl

/-- One to the other half travels there in the Move class. -/
theorem moveCopyStart_there (ho : c.other = some j) (ha : (s.half h.other).mem.allocs.find? (fun y => y.idx == j) = some r) :
    s.moveCopyStart h i = (s.copyStarted h i).passMove h.other
      (.move i r.tier (r.base * granule r.tier) ((s.copyStarted h i).objRead ((s.copyStarted h i).objAt h i) 0 ((s.copyStarted h i).objAt h i).size)) := by
  have hfind : ((s.copyStarted h i).half h.other).mem.allocs.find? (fun y => y.idx == j) = some r := by
    rw [State.copyStarted, State.modMem_other, ha]
  unfold State.copyStarted at hfind ⊢
  unfold State.moveCopyStart
  rw [hc]
  dsimp only
  rw [if_neg (by simp [he, hs, hw, hd]), ho]
  dsimp only
  rw [hfind]

end

/-- The bytes of an object are the same while its copy starts. -/
theorem copyStarted_objRead (s : State) (h : Half) (i : Nat) : (s.copyStarted h i).objRead ((s.copyStarted h i).objAt h i) 0
    ((s.copyStarted h i).objAt h i).size = s.objRead (s.objAt h i) 0 (s.objSize h i) := by
  have hobj : (s.copyStarted h i).objAt h i = s.objAt h i := by cases h <;> rfl
  have hcells : ((s.copyStarted h i).half h).mem.t1 = (s.half h).mem.t1 ∧ ((s.copyStarted h i).half h).mem.t2 = (s.half h).mem.t2 := by
    rw [State.copyStarted, State.modMem_mem]
    exact ⟨rfl, rfl⟩
  rw [hobj, State.objRead, State.objRead, State.memBytes, State.memBytes]
  rw [show (s.objAt h i).half = h from rfl, hcells.1, hcells.2]
  rfl

/-! ## MOVE_COPY_DONE -/

theorem exec_moveCopyDone (hl : s.live = true) : exec (.moveCopyDone h i chk) s = .next (s.moveCopyDone h i chk).rebind :=
  whenLive_of_live hl (fun s => (s.moveCopyDone h i chk).rebind)

section
variable (hc : s.copyOf h i = some c) (he : c.evict = false) (hs : c.started = true)
include hc he hs

theorem moveCopyDone_good (hf : c.failed = false) (ho : c.other = none) (hp : (s.copyScan h i chk).2 = false) :
    s.moveCopyDone h i chk = ((s.copyChecked h i chk).moveHere h i c).memRecheck h i := by
  unfold State.moveCopyDone
  rw [hc]
  dsimp only
  rw [if_neg (by simp [he, hs, ho]), if_neg (by simp [hp, hf]), ho]
  rfl

theorem moveCopyDone_there (hf : c.failed = false) (ho : c.other = some j) (hm : (s.half h.other).move.any (fun m => m.moves i) = false)
    (hp : (s.copyScan h i chk).2 = false) : s.moveCopyDone h i chk = ((s.copyChecked h i chk).moveThere h i j c).memRecheck h i := by
  unfold State.moveCopyDone
  rw [hc]
  dsimp only
  rw [if_neg (by simp [he, hs, hm]), if_neg (by simp [hp, hf]), ho]
  rfl

/-- Bad data, or data lost on the Passage, end the MOVE where it began. -/
theorem moveCopyDone_bad (ho : c.other = none) (hb : (s.copyScan h i chk).2 = true ∨ c.failed = true) :
    s.moveCopyDone h i chk = ((s.copyScan h i chk).1.moveBad h i c).memRecheck h i := by
  unfold State.moveCopyDone
  rw [hc]
  dsimp only
  rw [if_neg (by simp [he, hs, ho]), if_pos (by simpa using hb)]

end

/-! ### A MOVE within its half -/

/-- The home has switched and the source run is left. -/
def State.moved (s : State) (h : Half) (i : Nat) : State :=
  let t := s.rf (MEM_HOME h i) MEM_HOME.DEST_TIER + 1
  let f := s.homeFill h i
  (s.rehomed h i t (s.rf (MEM_HOME h i) MEM_HOME.DEST)).leaveSource h i (s.handleOf h i) f
    (flagEvictable (s.rf (MEM_HOME h i) MEM_HOME.FLAGS) && f.tier == 2)

theorem moveHere_eq (s : State) (h : Half) (i : Nat) (c : Copy) :
    s.moveHere h i c = ((s.moved h i).add (MEM_MOVE_COUNT h) MEM_MOVE_COUNT.OBJECTS 1).memEnd h c.src 0 none := rfl

theorem zone_moveCount (h : Half) : memZone (MEM_MOVE_COUNT h) = .count := memZone_base h (by decide)
theorem zone_evictCount (h : Half) : memZone (MEM_EVICT_COUNT h) = .count := memZone_base h (by decide)

theorem touches_moved (s : State) (h : Half) (i : Nat) : Touches []
    (s.rehomed h i (s.rf (MEM_HOME h i) MEM_HOME.DEST_TIER + 1) (s.rf (MEM_HOME h i) MEM_HOME.DEST)) (s.moved h i) := touches_leaveSource ..

/-- After the switch only the count of moves and the command's end follow. -/
theorem touches_moveHere (s : State) (h : Half) (i : Nat) (c : Copy) : Touches [.count, .cmd]
    (s.rehomed h i (s.rf (MEM_HOME h i) MEM_HOME.DEST_TIER + 1) (s.rf (MEM_HOME h i) MEM_HOME.DEST)) (s.moveHere h i c) := by
  rw [moveHere_eq]
  refine (((touches_moved s h i).mono (by simp)).trans ?_).trans (.memEnd _ h _ _ _ (by simp))
  exact .wfCount _ h _ (by decide) rfl (by simp)

theorem moveHere_stored (s : State) (h : Half) (i : Nat) (c : Copy) : KeepsStored
    (s.rehomed h i (s.rf (MEM_HOME h i) MEM_HOME.DEST_TIER + 1) (s.rf (MEM_HOME h i) MEM_HOME.DEST)) (s.moveHere h i c) := by
  rw [moveHere_eq]
  exact ((leaveSource_stored ..).trans (.add ..)).trans (.memEnd ..)

/-- The object stands at its destination. -/
theorem moveHere_shows (s : State) (h : Half) (hi : i < 32768) (c : Copy) : (s.moveHere h i c).objState h i = 1 ∧
    (s.moveHere h i c).rf (MEM_HOME h i) MEM_HOME.TIER = s.rf (MEM_HOME h i) MEM_HOME.DEST_TIER + 1 ∧
    (s.moveHere h i c).rf (MEM_HOME h i) MEM_HOME.BASE = s.rf (MEM_HOME h i) MEM_HOME.DEST := by
  have k := touches_moveHere s h i c
  have ht : s.rf (MEM_HOME h i) MEM_HOME.DEST_TIER + 1 < 4 := by
    have hlt : s.rf (MEM_HOME h i) MEM_HOME.DEST_TIER < 2 := State.rf_lt ..
    omega
  obtain ⟨hstate, htier, hbase⟩ := rehomed_shows s h i ht (State.rf_lt s (MEM_HOME h i) MEM_HOME.DEST)
  exact ⟨(k.objState hi (by simp)).trans hstate, (k.home hi (by decide) (by simp)).trans htier, (k.home hi (by decide) (by simp)).trans hbase⟩

/-- The move is counted. -/
theorem moveHere_counts (s : State) (h : Half) (hi : i < 32768) (c : Copy) : (s.moveHere h i c).rf (MEM_MOVE_COUNT h) MEM_MOVE_COUNT.OBJECTS =
    (s.rf (MEM_MOVE_COUNT h) MEM_MOVE_COUNT.OBJECTS + 1) % 2 ^ 32 := by
  have hend : Touches [.cmd] ((s.moved h i).add (MEM_MOVE_COUNT h) MEM_MOVE_COUNT.OBJECTS 1) (s.moveHere h i c) := by
    rw [moveHere_eq]
    exact .memEnd _ h _ _ _ (by simp)
  have hmoved : Touches [.home] s (s.moved h i) := (touches_rehomed s h hi _ _).trans ((touches_moved s h i).mono (by simp))
  refine (hend.reg (zone_moveCount h) rfl (by simp) (by simp)).trans ((State.rf_wf _ _ _ _ (by decide)).trans ?_)
  rw [hmoved.reg (zone_moveCount h) rfl (by simp) (by simp)]

/-- Its command ends OK. -/
theorem moveHere_ends (s : State) (h : Half) (i : Nat) (hsrc : c.src = .regs) : (s.moveHere h i c).rf (MEM_CMD_CTRL h) MEM_CMD_CTRL.RESULT = 0 ∧
    (s.moveHere h i c).rf (MEM_CMD_CTRL h) MEM_CMD_CTRL.DONE = 1 := by
  rw [moveHere_eq, hsrc]
  obtain ⟨-, hdone, hresult⟩ := memEnd_shows ((s.moved h i).add (MEM_MOVE_COUNT h) MEM_MOVE_COUNT.OBJECTS 1) h none (code := 0) (by decide)
  exact ⟨hresult, hdone⟩

theorem moveHere_copyOf (s : State) (h : Half) (i : Nat) (c : Copy) : (s.moveHere h i c).copyOf h i = s.copyOf h i := by
  rw [(moveHere_stored ..).copyOf]
  unfold State.copyOf
  rw [(rehomed_rest ..).1]

/-! ### A MOVE that ends with DATA_ERROR -/

/-- What an abandoned move leaves: the destination is released. -/
theorem dropDest_keeps (s : State) (h : Half) (i : Nat) (ho : c.other = none) : Touches [] s (s.dropDest h i c) ∧ KeepsStored s (s.dropDest h i c) := by
  unfold State.dropDest
  simp only [ho]
  exact ⟨.ite (.refl _ s) (.release ..), .ite (.refl s) (.release ..)⟩

theorem moveBad_shows (s : State) (h : Half) (hi : i < 32768) (ho : c.other = none) (hsrc : c.src = .regs) :
    (s.moveBad h i c).objState h i = 1 ∧ (s.moveBad h i c).rf (MEM_HOME h i) MEM_HOME.TIER = s.rf (MEM_HOME h i) MEM_HOME.TIER ∧
    (s.moveBad h i c).rf (MEM_HOME h i) MEM_HOME.BASE = s.rf (MEM_HOME h i) MEM_HOME.BASE ∧
    (s.moveBad h i c).rf (MEM_CMD_CTRL h) MEM_CMD_CTRL.RESULT = 0x4A ∧ (s.moveBad h i c).rf (MEM_CMD_CTRL h) MEM_CMD_CTRL.DONE = 1 := by
  have hend : Touches [.cmd] (((s.dropDest h i c).dropCopy h i).home h i MEM_HOME.STATE 1) (s.moveBad h i c) := .memEnd _ h _ _ _ (by simp)
  have hdrop : Touches [] s ((s.dropDest h i c).dropCopy h i) := (dropDest_keeps s h i ho).1.trans (touches_dropCopy ..)
  obtain ⟨-, hdone, hresult⟩ := memEnd_shows (((s.dropDest h i c).dropCopy h i).home h i MEM_HOME.STATE 1) h none (code := 0x4A) (by decide)
  rw [← hsrc] at hdone hresult
  refine ⟨?_, ?_, ?_, hresult, hdone⟩
  · exact (hend.objState hi (by simp)).trans (State.rf_home _ h i 1 (by decide))
  · rw [hend.home hi (by decide) (by simp), State.rf_home_apart _ _ _ _ (by decide), hdrop.home hi (by decide) (by simp)]
  · rw [hend.home hi (by decide) (by simp), State.rf_home_apart _ _ _ _ (by decide), hdrop.home hi (by decide) (by simp)]

theorem moveBad_rest (s : State) (h : Half) (i : Nat) (ho : c.other = none) : (s.moveBad h i c).copyOf h i = none ∧
    ((s.moveBad h i c).half h).mem.t1 = (s.half h).mem.t1 ∧ ((s.moveBad h i c).half h).mem.t2 = (s.half h).mem.t2 ∧
    ((s.moveBad h i c).half h).mem.waiting = (s.half h).mem.waiting := by
  have hend : ((s.moveBad h i c).half h).mem = (((s.dropDest h i c).dropCopy h i).half h).mem := by
    rw [State.moveBad, State.memEnd_half, State.home_half]
  have k := (dropDest_keeps s h i ho).2
  refine ⟨?_, ?_, ?_, ?_⟩
  · unfold State.copyOf
    rw [hend]
    exact dropCopy_copyOf ..
  all_goals rw [hend, State.dropCopy, State.modMem_mem]
  · exact k.t1 h
  · exact k.t2 h
  · exact k.waiting h

/-! ### A MOVE to the other half -/

/-- What the end of a move to the other half writes into the entry it leaves. -/
def leftFields (g : Nat) : List (Fld × Nat) :=
  [(MEM_HOME.STATE, 0), (MEM_HOME.TIER, 0), (MEM_HOME.GEN, g), (MEM_HOME.USE_R, 0), (MEM_HOME.SWEEP, 0), (MEM_HOME.EVICT_FAIL, 0)]

theorem leftFields_off (g : Nat) : ∀ e ∈ leftFields g, e.1.off < 32 := by
  simp [leftFields, MEM_HOME.STATE, MEM_HOME.TIER, MEM_HOME.GEN, MEM_HOME.USE_R, MEM_HOME.SWEEP, MEM_HOME.EVICT_FAIL]

/-- The new entry is RESIDENT in the other half. -/
def State.arrived (s : State) (h : Half) (j : Nat) (r : AllocReq) : State :=
  (s.modMem h.other (fun m => { m with allocs := m.allocs.filter (fun y => !(y.idx == j)) })).allocEntry h.other r false

/-- The runs that the object leaves. -/
def State.departed (s : State) (h : Half) (i j : Nat) (r : AllocReq) : State :=
  let s1 := s.arrived h j r
  let f := s1.homeFill h i
  let s2 := s1.leaveSource h i (s.handleOf h i) f false
  if f.pool then s2.release h { tier := 2, base := s.rf (MEM_HOME h i) MEM_HOME.BACKING, len := granulesOf 2 (s.objSize h i), ctx := f.ctx } else s2

/-- The state but for the count and the command's end. -/
def State.movedThere (s : State) (h : Half) (i j : Nat) (r : AllocReq) : State :=
  (s.departed h i j r).homes h i (leftFields (nextGen (s.rf (MEM_HOME h i) MEM_HOME.GEN)))

theorem moveThere_eq (ha : (s.half h.other).mem.allocs.find? (fun y => y.idx == j) = some r) : s.moveThere h i j c =
    ((s.movedThere h i j r).add (MEM_MOVE_COUNT h) MEM_MOVE_COUNT.OBJECTS 1).memEnd h c.src 0 (some ((s.movedThere h i j r).handleOf h.other j)) := by
  unfold State.moveThere
  rw [ha]
  rfl

theorem departed_keeps (s : State) (h : Half) (i j : Nat) (r : AllocReq) :
    Touches [] (s.arrived h j r) (s.departed h i j r) ∧ KeepsStored (s.arrived h j r) (s.departed h i j r) := by
  have hleave : ∀ f, Touches [] (s.arrived h j r) ((s.arrived h j r).leaveSource h i (s.handleOf h i) f false) ∧
      KeepsStored (s.arrived h j r) ((s.arrived h j r).leaveSource h i (s.handleOf h i) f false) := fun f =>
    ⟨touches_leaveSource .., leaveSource_stored ..⟩
  unfold State.departed
  exact ⟨.ite ((hleave _).1.trans (.release ..)) (hleave _).1, .ite ((hleave _).2.trans (.release ..)) (hleave _).2⟩

/-- Both entries after the move: the old one is FREE with the next GEN, the new one RESIDENT. -/
theorem movedThere_shows (s : State) (h : Half) (hi : i < 32768) (hj : r.idx < 32768) : (s.movedThere h i r.idx r).objState h i = 0 ∧
    (s.movedThere h i r.idx r).objState h.other r.idx = 1 ∧
    (s.movedThere h i r.idx r).rf (MEM_HOME h i) MEM_HOME.GEN = nextGen (s.rf (MEM_HOME h i) MEM_HOME.GEN) := by
  set g := nextGen (s.rf (MEM_HOME h i) MEM_HOME.GEN) with hg
  have hp : ((leftFields g).map Prod.fst).Pairwise (fun f g => g.apart f = true) := by
    change [MEM_HOME.STATE, MEM_HOME.TIER, MEM_HOME.GEN, MEM_HOME.USE_R, MEM_HOME.SWEEP, MEM_HOME.EVICT_FAIL].Pairwise _
    decide
  refine ⟨?_, ?_, ?_⟩
  · exact State.rf_homes _ h i (n := 0) hp (by simp [leftFields]) (by decide)
  · refine (State.rf_homes_other _ h hi hj (leftFields_off g) (by decide)).trans ?_
    refine ((departed_keeps s h i r.idx r).1.objState hj (by simp)).trans ?_
    exact (allocEntry_shows _ h.other r false).1
  · refine (State.rf_homes _ h i hp (f := MEM_HOME.GEN) (n := g) (by simp [leftFields]) (by decide)).trans ?_
    exact Nat.mod_eq_of_lt (nextGen_lt (State.rf_lt ..))

theorem movedThere_copyOf (s : State) (h : Half) (i j : Nat) (r : AllocReq) : (s.movedThere h i j r).copyOf h i = s.copyOf h i := by
  have harrived : ((s.arrived h j r).half h).mem.copies = (s.half h).mem.copies := by
    rw [State.arrived, State.allocEntry_half]
    cases h <;> rfl
  rw [State.movedThere, (KeepsStored.homes ..).copyOf, (departed_keeps ..).2.copyOf]
  unfold State.copyOf
  rw [harrived]

/-! ## EVICT_DONE -/

theorem exec_evictDone (hl : s.live = true) : exec (.evictDone h i chk) s = .next (s.evictDone h i chk).rebind :=
  whenLive_of_live hl (fun s => (s.evictDone h i chk).rebind)

/-- The object stands in its backing, and its granules of the pool are released. -/
def State.evicted (s : State) (h : Half) (i : Nat) (chk : Scan) : State :=
  (((s.copyChecked h i chk).rehomed h i 2 (s.rf (MEM_HOME h i) MEM_HOME.BACKING)).release h (s.homeFill h i)).add (MEM_EVICT_COUNT h)
    MEM_EVICT_COUNT.OBJECTS 1

/-- The object stays in the pool with EVICT_FAIL. -/
def State.evictFailed (s : State) (h : Half) (i : Nat) (chk : Scan) : State :=
  (((s.copyChecked h i chk).homes h i [(MEM_HOME.STATE, 1), (MEM_HOME.EVICT_FAIL, 1)]).wf (MEM_EVENT h) MEM_EVENT.EVICT_FAIL 1).log h
    { logData 3 with event := 6, handle := s.handleOf h i }

section
variable (hc : s.copyOf h i = some c) (he : c.evict = true) (hd : s.copyOn h i c = true)
include hc he hd

theorem evictDone_good (hp : (s.copyScan h i chk).2 = false) : s.evictDone h i chk = (s.evicted h i chk).memRecheck h i := by
  unfold State.evictDone
  rw [hc]
  dsimp only
  rw [if_neg (by simp [he, hd]), if_neg (by simp [hp])]
  rfl

theorem evictDone_bad (hp : (s.copyScan h i chk).2 = true) : s.evictDone h i chk = (s.evictFailed h i chk).memRecheck h i := by
  unfold State.evictDone
  rw [hc]
  dsimp only
  rw [if_neg (by simp [he, hd]), if_pos hp]
  rfl

end

theorem touches_evicted (s : State) (h : Half) (i : Nat) (chk : Scan) :
    Touches [.count] ((s.copyChecked h i chk).rehomed h i 2 (s.rf (MEM_HOME h i) MEM_HOME.BACKING)) (s.evicted h i chk) := by
  refine Touches.trans (.release _ _ h (s.homeFill h i)) ?_
  exact .wfCount _ h _ (by decide) rfl (by simp)

theorem evicted_stored (s : State) (h : Half) (i : Nat) (chk : Scan) :
    KeepsStored ((s.copyChecked h i chk).rehomed h i 2 (s.rf (MEM_HOME h i) MEM_HOME.BACKING)) (s.evicted h i chk) :=
  (KeepsStored.release ..).trans (.add ..)

theorem evicted_shows (s : State) (h : Half) (hi : i < 32768) (chk : Scan) : (s.evicted h i chk).objState h i = 1 ∧
    (s.evicted h i chk).rf (MEM_HOME h i) MEM_HOME.TIER = 2 ∧
    (s.evicted h i chk).rf (MEM_HOME h i) MEM_HOME.BASE = s.rf (MEM_HOME h i) MEM_HOME.BACKING := by
  have k := touches_evicted s h i chk
  obtain ⟨hstate, htier, hbase⟩ := rehomed_shows (s.copyChecked h i chk) h i (by decide : 2 < 4) (State.rf_lt s (MEM_HOME h i) MEM_HOME.BACKING)
  exact ⟨(k.objState hi (by simp)).trans hstate, (k.home hi (by decide) (by simp)).trans htier, (k.home hi (by decide) (by simp)).trans hbase⟩

theorem evicted_fills (s : State) (h : Half) (i : Nat) (chk : Scan) :
    ((s.evicted h i chk).half h).mem.fills = (s.half h).mem.fills ++ [s.homeFill h i] := by
  rw [State.evicted, State.add_half, State.release_mem]
  exact congrArg (· ++ [s.homeFill h i]) ((rehomed_rest ..).2.trans (copyChecked_fills ..))

theorem evicted_counts (s : State) (h : Half) (hi : i < 32768) (chk : Scan) : (s.evicted h i chk).rf (MEM_EVICT_COUNT h) MEM_EVICT_COUNT.OBJECTS =
    (s.rf (MEM_EVICT_COUNT h) MEM_EVICT_COUNT.OBJECTS + 1) % 2 ^ 32 := by
  have k : Touches [.event, .home] s
      (((s.copyChecked h i chk).rehomed h i 2 (s.rf (MEM_HOME h i) MEM_HOME.BACKING)).release h (s.homeFill h i)) :=
    ((touches_copyChecked s h i chk).mono (by simp)).trans (((touches_rehomed _ h hi _ _).mono (by simp)).trans (.release ..))
  refine (State.rf_wf _ _ _ _ (by decide)).trans ?_
  rw [k.reg (zone_evictCount h) rfl (by simp) (by simp)]

end Sys2Proof.Machine
end

section
/-! PROOF. The registers that an eviction's end changes (R220, R235), and the statement on fills, waits, moves and evictions. -/

namespace Sys2Proof.Machine

variable {s t u : State} {h x : Half} {a b i j n tier base : Nat} {c : Copy} {r : AllocReq} {chk : Scan} {f : Fld} {as : List Nat}

/-! ## A half's memory put back -/

/-- With the half's memory put back, only the registers named and the error log changed. -/
def loggedBut (as : List Nat) (h : Half) (s t : State) : Prop := onlyLogged as s (t.modMem h (fun _ => (s.half h).mem))

theorem onlyLogged_modMem (k : onlyLogged as s t) (h : Half) (m : MemHalf) :
    onlyLogged as (s.modMem h (fun _ => m)) (t.modMem h (fun _ => m)) := by
  refine ⟨?_, fun a ha hw he => ?_⟩
  · have e := congrArg (fun w => State.modMem w h (fun _ => m)) k.1
    cases h <;> exact e
  · rw [State.modMem_rd, State.modMem_rd]; exact k.2 a ha hw he

namespace loggedBut

theorem refl (as : List Nat) (h : Half) (s : State) : loggedBut as h s s := by
  unfold loggedBut
  rw [State.modMem_of_eq rfl]
  exact onlyLogged_refl as s

theorem trans (k : loggedBut as h s t) (l : onlyLogged as t u) : loggedBut as h s u := onlyLogged_trans k (onlyLogged_modMem l h _)

/-- A change of the memory alone. -/
theorem of_modMem (k : loggedBut as h s t) (e : ∀ m, u.modMem h (fun _ => m) = t.modMem h (fun _ => m)) : loggedBut as h s u := by
  unfold loggedBut
  rw [e]
  exact k

end loggedBut

theorem findBad_modMem (s : State) (h : Half) (tier a len : Nat) (offs : List Nat) (m : MemHalf) :
    (s.findBad h tier a len offs).modMem h (fun _ => m) = s.modMem h (fun _ => m) := by
  have hmark : ∀ (t : State) (w : Nat), (t.markBad h tier w).modMem h (fun _ => m) = t.modMem h (fun _ => m) := fun t w => by
    unfold State.markBad
    cases h <;> (simp only [State.modMem, State.modHalf]; split_ifs <;> rfl)
  unfold State.findBad
  induction offs.filter (fun o => decide (o < len)) generalizing s with
  | nil => rfl
  | cons o l ih => exact (ih _).trans (hmark ..)

theorem onlyRegs_scanCount (s : State) (h : Half) (tier : Nat) (chk : Scan) :
    onlyRegs [MEM_EVENT h, MEM_PARITY_REPLAY h, MEM_SECDED_CE h] s (s.scanCount h tier chk) := by
  have hreplay : onlyRegs [MEM_EVENT h, MEM_PARITY_REPLAY h, MEM_SECDED_CE h] s
      (if chk.replayed = 0 then s else s.add (MEM_PARITY_REPLAY h) MEM_PARITY_REPLAY.REPLAYS chk.replayed) := by
    split
    · exact onlyRegs_refl _ s
    · exact onlyRegs_wf (onlyRegs_refl _ s) _ _ _ (by simp)
  unfold State.scanCount
  dsimp only
  split
  · exact hreplay
  · exact onlyRegs_wf (onlyRegs_wf hreplay _ _ _ (by simp)) _ _ _ (by simp)

/-- The registers of the checkers. -/
def checkRegs (h : Half) : List Nat := [MEM_EVENT h, MEM_PARITY_UE h, MEM_SECDED_UE h, MEM_PARITY_REPLAY h, MEM_SECDED_CE h]

theorem copyChecked_logged (s : State) (h : Half) (i : Nat) (chk : Scan) : loggedBut (checkRegs h) h s (s.copyChecked h i chk) := by
  have hcount : loggedBut (checkRegs h) h s (s.scanCount h (s.objAt h i).tier chk) :=
    (loggedBut.refl ..).trans (onlyLogged_of_onlyRegs (onlyRegs_mono (by simp [checkRegs]) (onlyRegs_scanCount ..)))
  have hfind := hcount.of_modMem (findBad_modMem _ h (s.objAt h i).tier (s.objAt h i).addr (s.objAt h i).size chk.bad)
  have hscan : loggedBut (checkRegs h) h s (s.scan h (s.objAt h i).tier (s.objAt h i).addr (s.objAt h i).size chk).1 :=
    hfind.trans (onlyLogged_of_onlyRegs (onlyRegs_mono (by simp [checkRegs]) (onlyRegs_countBad ..)))
  have hwords : loggedBut (checkRegs h) h s (s.copyScan h i chk).1 :=
    hscan.trans (onlyLogged_logWords (onlyLogged_refl ..) h _ (fun w _ => w.handleOf h i) _)
  refine hwords.of_modMem fun m => ?_
  rw [State.copyChecked, State.dropCopy, State.modMem_modMem]

/-! ## Evictions -/

theorem evictFailed_log (s : State) (h : Half) (i : Nat) (chk : Scan) : onlyLogged []
    (((s.copyChecked h i chk).homes h i [(MEM_HOME.STATE, 1), (MEM_HOME.EVICT_FAIL, 1)]).wf (MEM_EVENT h) MEM_EVENT.EVICT_FAIL 1)
    (s.evictFailed h i chk) := log_onlyLogged _ h _ (by simp [logData])

theorem evictFailed_logged (s : State) (h : Half) (i : Nat) (chk : Scan) : loggedBut [MEM_HOME h i, MEM_EVENT h, MEM_PARITY_UE h, MEM_SECDED_UE h,
    MEM_PARITY_REPLAY h, MEM_SECDED_CE h] h s (s.evictFailed h i chk) := by
  have hcheck : loggedBut [MEM_HOME h i, MEM_EVENT h, MEM_PARITY_UE h, MEM_SECDED_UE h, MEM_PARITY_REPLAY h, MEM_SECDED_CE h] h s
      (s.copyChecked h i chk) := onlyLogged_mono (by simp [checkRegs]) (copyChecked_logged s h i chk)
  have hentry := onlyRegs_homes (onlyRegs_refl [MEM_HOME h i, MEM_EVENT h, MEM_PARITY_UE h, MEM_SECDED_UE h, MEM_PARITY_REPLAY h, MEM_SECDED_CE h]
    (s.copyChecked h i chk)) h i (l := [(MEM_HOME.STATE, 1), (MEM_HOME.EVICT_FAIL, 1)]) (by simp)
  have hevent := onlyRegs_wf hentry (MEM_EVENT h) MEM_EVENT.EVICT_FAIL 1 (by simp)
  exact hcheck.trans (onlyLogged_trans (onlyLogged_of_onlyRegs hevent) (onlyLogged_mono (by simp) (evictFailed_log s h i chk)))

theorem evictFailed_mem (s : State) (h : Half) (i : Nat) (chk : Scan) : ((s.evictFailed h i chk).half h).mem = ((s.copyChecked h i chk).half h).mem := by
  rw [onlyLogged_mem (evictFailed_log s h i chk), State.wf_half, State.homes_half]

theorem evictFailed_shows (s : State) (h : Half) (hi : i < 32768) (chk : Scan) : (s.evictFailed h i chk).objState h i = 1 ∧
    (s.evictFailed h i chk).rf (MEM_HOME h i) MEM_HOME.EVICT_FAIL = 1 ∧ (s.evictFailed h i chk).rf (MEM_EVENT h) MEM_EVENT.EVICT_FAIL = 1 := by
  set w := (s.copyChecked h i chk).homes h i [(MEM_HOME.STATE, 1), (MEM_HOME.EVICT_FAIL, 1)] with hw
  have hlog : Touches [] (w.wf (MEM_EVENT h) MEM_EVENT.EVICT_FAIL 1) (s.evictFailed h i chk) := .log _ _ h _ (by simp [logData])
  have hevent : Touches [.event] w (w.wf (MEM_EVENT h) MEM_EVENT.EVICT_FAIL 1) := .wfEvent _ h 1 (by decide) rfl (by simp)
  have k : Touches [.event] w (s.evictFailed h i chk) := hevent.trans (hlog.mono (by simp))
  refine ⟨?_, ?_, ?_⟩
  · exact (k.objState hi (by simp)).trans (State.rf_homes _ h i (n := 1) (by decide) (by simp) (by decide))
  · exact (k.home hi (by decide) (by simp)).trans (State.rf_homes _ h i (n := 1) (by decide) (by simp) (by decide))
  · exact (hlog.reg (zone_memEvent h) rfl (by simp) (by simp)).trans (State.rf_wf_same _ _ _ (by decide) (by decide))

/-- A run whose domains are on is released without a wake. -/
theorem release_awake {y : Fill} (hd : ∀ d ∈ runDoms h y.tier y.base y.len, s.domOn d = true) :
    s.release h y = s.modMem h (fun m => { m with fills := m.fills ++ [y] }) := by
  refine keepWakes_of_awake _ fun d hm => ?_
  have hon : (s.modMem h (fun m => { m with fills := m.fills ++ [y] })).dom d = 3 := (State.modMem_rf ..).trans (eq_of_beq (hd d hm))
  rw [hon]; decide

theorem memPut_modMem (s : State) (h : Half) (a : Nat) (bs : List Byte) (m : MemHalf) :
    (s.memPut h 2 a bs).modMem h (fun _ => m) = s.modMem h (fun _ => m) := by cases h <;> rfl

theorem rehomed_regs (s : State) (h : Half) (i base : Nat) (m : MemHalf) : onlyRegs [MEM_HOME h i, MEM_HOME h i + 16] (s.modMem h (fun _ => m))
    ((s.rehomed h i 2 base).modMem h (fun _ => m)) := by
  have hput : (s.copyBytes h i 2 base).modMem h (fun _ => m) = s.modMem h (fun _ => m) := memPut_modMem ..
  rw [State.rehomed, State.homes_modMem, hput]
  exact onlyRegs_homes (onlyRegs_refl ..) h i (by simp [rehomedFields])

/-- An eviction of good bytes changes its entry and the count of evictions, and the half's memory. -/
theorem evicted_regs (hs : s.copyScan h i {} = (s, false)) (hd : s.copyOn h i c = true) :
    onlyRegs [MEM_HOME h i, MEM_HOME h i + 16, MEM_EVICT_COUNT h] s ((s.evicted h i {}).modMem h (fun _ => (s.half h).mem)) := by
  have hchecked : s.copyChecked h i {} = s.dropCopy h i := by rw [State.copyChecked, hs]
  set w := (s.dropCopy h i).rehomed h i 2 (s.rf (MEM_HOME h i) MEM_HOME.BACKING) with hw
  have hback : (s.dropCopy h i).modMem h (fun _ => (s.half h).mem) = s := by
    rw [State.dropCopy, State.modMem_modMem, State.modMem_of_eq rfl]
  have hregs : onlyRegs [MEM_HOME h i, MEM_HOME h i + 16] s (w.modMem h (fun _ => (s.half h).mem)) := by
    have k := rehomed_regs (s.dropCopy h i) h i (s.rf (MEM_HOME h i) MEM_HOME.BACKING) (s.half h).mem
    rwa [hback] at k
  have hon : ∀ d ∈ s.objDoms h i, w.domOn d = true := fun d hm => by
    have hlt : d < 144 := runDoms_lt _ _ _ _ d hm
    have hdom : w.dom d = s.dom d := by
      unfold State.dom State.rf
      rw [← State.modMem_rd w h (fun _ => (s.half h).mem), hregs.2]
      simp only [PWR_DOMAIN_STATUS, MEM_HOME, List.mem_cons, List.not_mem_nil, or_false, not_or]
      omega
    have hsd : s.domOn d = true := List.all_eq_true.1 hd d (List.mem_append_left _ hm)
    unfold State.domOn at hsd ⊢
    rwa [hdom]
  rw [State.evicted, hchecked, ← hw, release_awake (y := s.homeFill h i) hon]
  refine onlyRegs_wf_modMem ?_ _ _ _ (by simp)
  rw [State.modMem_modMem]
  exact onlyRegs_mono (by simp) hregs

/-- The byte at an address of a run that is filled reads zero. -/
theorem memBytes_one (s : State) (h : Half) (tier a : Nat) : s.memBytes h tier a 1 = [mapGet zeroByte ((s.half h).mem.tierCells tier) a] := rfl

theorem filled_t1 {y : Fill} (s : State) (h : Half) (fs : List Fill) (ht : y.tier = 2) :
    ((s.filled h y fs).half h).mem.t1 = (s.half h).mem.t1 := by
  rw [State.filled, State.modMem_mem, State.memZero, State.half_modHalf_same, ht]
  rfl

/-! ## What a copy's check leaves of its object -/

theorem Touches.objAt {Z : List MemZone} (k : Touches Z s t) (hi : i < 32768) (hz : .home ∉ Z) : t.objAt h i = s.objAt h i := by
  unfold State.objAt
  rw [k.home hi (by decide) hz, k.home hi (by decide) hz, k.objSize hi hz]

theorem copyChecked_memBytes (s : State) (h x : Half) (i : Nat) (chk : Scan) (tier a len : Nat) :
    (s.copyChecked h i chk).memBytes x tier a len = s.memBytes x tier a len := by
  unfold State.memBytes
  rw [copyChecked_t1, copyChecked_t2]

theorem copyChecked_allocs (s : State) (h : Half) (i : Nat) (chk : Scan) :
    ((s.copyChecked h i chk).half h.other).mem.allocs = (s.half h.other).mem.allocs := by
  rw [State.copyChecked, State.dropCopy, State.modMem_other]
  exact (congrArg (fun y => y.mem.allocs) ((copyScan_keeps ..).half h.other) :)

/-- The object's bytes, after its copy's check, read the same at a new home. -/
theorem rehomed_checked_bytes (s : State) (h : Half) (hi : i < 32768) (chk : Scan) (tier base : Nat) :
    ((s.copyChecked h i chk).rehomed h i tier base).memBytes h tier (base * granule tier) (s.objSize h i) =
      s.memBytes h (s.rf (MEM_HOME h i) MEM_HOME.TIER) (s.objAt h i).addr (s.objSize h i) := by
  have k := touches_copyChecked s h i chk
  have e := rehomed_bytes (s.copyChecked h i chk) h i tier base
  rwa [k.objSize hi (by simp), k.home hi (by decide) (by simp), k.objAt hi (by simp), copyChecked_memBytes] at e

/-- The address of an object whose entry names a home. -/
theorem objAt_addr (ht : s.rf (MEM_HOME h i) MEM_HOME.TIER = tier) (hb : s.rf (MEM_HOME h i) MEM_HOME.BASE = base) :
    (s.objAt h i).addr = base * granule tier := by rw [State.objAt, ht, hb]

theorem moveHere_waiting (s : State) (h : Half) (hi : i < 32768) (c : Copy) :
    ((s.moveHere h i c).half h).mem.waiting = (s.half h).mem.waiting :=
  ((touches_moveHere s h i c).waiting h).trans ((touches_rehomed s h hi _ _).waiting h)

theorem evicted_waiting (s : State) (h : Half) (hi : i < 32768) (chk : Scan) :
    ((s.evicted h i chk).half h).mem.waiting = (s.half h).mem.waiting :=
  ((touches_evicted s h i chk).waiting h).trans (((touches_rehomed _ h hi _ _).waiting h).trans (copyChecked_waiting ..))

/-! ## Placements and crossings -/

theorem quotaFits_modMem (s : State) (h x : Half) (F : MemHalf → MemHalf) (c tier : Nat) (p : Bool) (n : Nat) :
    (s.modMem x F).quotaFits h c tier p n = s.quotaFits h c tier p n := by
  have hused : (s.modMem x F).quotaUsed h c tier p = s.quotaUsed h c tier p := by simp only [State.quotaUsed, State.modMem_rf]
  have hlimit : (s.modMem x F).quotaLimit h c tier p = s.quotaLimit h c tier p := by simp only [State.quotaLimit, State.modMem_rf]
  unfold State.quotaFits
  rw [hused, hlimit]

theorem poolTry_placed {waited : Bool} (hq : s.quotaFits h r.ctx 1 true (granulesOf 1 r.size) = true)
    (hb : s.poolFit h (granulesOf 1 r.size) = some b) : s.poolTry h r waited = (s.poolPlaced h r b, true) := by
  unfold State.poolTry
  rw [if_neg (by simp [hq]), hb]

/-- An ALLOC that finds a run of the pool and needs no fill. -/
theorem poolPlaced_now (hm : r.move = false) (ho : r.other = none) (hz : blkInitZero r.block = false) :
    s.poolPlaced h r b = s.allocPlaced h { r with tier := 1, base := b, pool := true } false := by
  unfold State.poolPlaced
  rw [ho]
  dsimp only
  rw [if_neg (by simp [hm]), hz]

theorem passMove_half (s : State) (h : Half) (m : PassMsg) : (s.passMove h.other m).half h = s.half h := by cases h <;> rfl

/-- Settles O12: the end of each fill, wait, copy and eviction, taken before what waits for it goes on. -/
theorem fillsWaitsMovesAndEvictions : Obligations.FillsWaitsMovesAndEvictions := by
  unfold Obligations.FillsWaitsMovesAndEvictions
  refine ⟨?fillT2, ?poolPlaced, ?timeout, ?copyStarts, ?moveT2, ?moveBad, ?evictT2, ?evictBad, ?fill, ?fillAlloc, ?poolSettled, ?timeoutAny, ?evict,
    ?copyCrosses, ?move, ?moveOther⟩
  case fillT2 =>
    intro s h f fs hl hf he hch hc ht hp hd
    obtain ⟨hhalf, hother, hcharge⟩ := fillDone_shows hf hd he hc
    have hcells := filled_cells s h f fs
    refine ⟨_, exec_zeroFillDone hl, ?_, ?_, fun a => ?_, ?_, hother⟩
    · rw [hhalf, filled_fills]
    · simpa only [ht, hp] using hcharge hch
    · rw [ht, show granule 2 = 65536 from rfl] at hcells
      have ht2 : ((s.filled h f fs).half h).mem.t2 = mapEraseRange (s.half h).mem.t2 (f.base * 65536) (f.len * 65536) := hcells
      rw [hhalf, ht2]
      split
      · next hin => exact mapGet_mapEraseRange _ _ _ _ _ hin
      · next hout => exact mapGet_mapEraseRange_outside _ _ hout
    · rw [hhalf, filled_t1 s h fs ht]
  case poolPlaced =>
    intro s h a q b hl ha hm ho hsrc hc hi hq hz hb
    set w := s.modMem h (fun m => { m with allocWait := q }) with hw
    have htry : w.poolTry h a true = (w.poolPlaced h a b, true) := poolTry_placed (by rw [hw, quotaFits_modMem]; exact hq) hb
    have hstands : s.poolStands h a = true := by simp [State.poolStands, ho, hm]
    set y : AllocReq := { a with tier := 1, base := b, pool := true } with hy
    obtain ⟨-, hdone, hresult, -⟩ := allocPlaced_ends w h (q := y) hi hsrc
    obtain ⟨hstate, -, hbase, -⟩ := allocPlaced_entry w h (q := y) hi hc (by decide : 1 < 4) (poolFit_lt hb)
    have k := touches_allocWaited (w.allocPlaced h y false) h a
    refine ⟨_, exec_poolRetry hl, ?_⟩
    rw [poolRetry_settled ha hstands (by rw [htry]), ← hw, htry, poolPlaced_now hm ho hz]
    refine ⟨?_, (k.objState hi (by simp)).trans hstate, ?_, ?_, ?_⟩
    · rw [allocWaited_half, allocPlaced_mem, hw, State.modMem_mem]
    · rw [k.home hi (by decide) (by simp), hbase, Nat.mod_eq_of_lt (poolFit_lt hb)]
    · exact (k.reg (zone_cmdCtrl h) rfl (by simp) (by simp)).trans hresult
    · exact (k.reg (zone_cmdCtrl h) rfl (by simp) (by simp)).trans hdone
  case timeout =>
    intro s h k a hl ha hm ho hsrc hc
    obtain ⟨hwait, hevent, hend⟩ := allocTimeout_shows ha hc
    obtain ⟨hresult, -⟩ := hend hsrc
    rw [AllocReq.cmdHalf, ho] at hresult
    exact ⟨_, exec_allocTimeout hl, hwait, hevent, hresult, onlyRegs_allocTimeout ha hm ho hsrc⟩
  case copyStarts =>
    intro s h i c hl hc he hs ho hw hd
    refine ⟨_, exec_moveCopyStart hl, ?_⟩
    rw [moveCopyStart_here hc he hs hw hd ho]
    exact ⟨copyStarted_copyOf hc, State.modMem_regs .., State.modMem_other ..⟩
  case moveT2 =>
    intro s h i c hl hi hc he hs hf ho hsrc hw ht hdt hgood
    have hclean : s.copyScan h i {} = (s, false) := copyScan_clean (by rwa [ht])
    have k := touches_copyChecked s h i {}
    set u := s.copyChecked h i {} with hu
    have hdest : u.rf (MEM_HOME h i) MEM_HOME.DEST_TIER + 1 = 2 := by rw [k.home hi (by decide) (by simp), hdt]
    obtain ⟨hstate, htier, hbase⟩ := moveHere_shows u h hi c
    obtain ⟨hresult, hdone⟩ := moveHere_ends u h i hsrc
    have hstored := moveHere_stored u h i c
    rw [hdest] at htier hstored
    have hbytes := rehomed_checked_bytes s h hi {} 2 (u.rf (MEM_HOME h i) MEM_HOME.DEST)
    refine ⟨u.moveHere h i c, ?_, hstate, htier, ?_, ?_, ?_, ?_, hresult, hdone⟩
    · rw [exec_moveCopyDone hl, moveCopyDone_good hc he hs hf ho (by rw [hclean]), ← hu,
        memRecheck_idle (by rw [moveHere_waiting u h hi, copyChecked_waiting, hw])]
    · rw [hbase, k.home hi (by decide) (by simp)]
    · rw [moveHere_copyOf]; exact dropCopy_copyOf ..
    · rw [objAt_addr htier hbase, hstored.memBytes, hbytes, ht]
    · rw [hstored.t1, rehomed_t1, hu, copyChecked_t1]
  case moveBad =>
    intro s h i c chk hl hi hc he hs ho hsrc hw hbad
    have k := touches_copyScan s h i chk
    have kept := copyScan_keeps s h i chk
    set u := (s.copyScan h i chk).1 with hu
    obtain ⟨hstate, htier, hbase, hresult, hdone⟩ := moveBad_shows u h hi ho hsrc
    obtain ⟨hcopy, ht1, ht2, hwait⟩ := moveBad_rest u h i ho
    refine ⟨u.moveBad h i c, ?_, hstate, ?_, ?_, hcopy, ?_, ?_, hresult, hdone⟩
    · rw [exec_moveCopyDone hl, moveCopyDone_bad hc he hs ho hbad, ← hu, memRecheck_idle (by rw [hwait, k.waiting, hw])]
    · rw [htier, k.home hi (by decide) (by simp)]
    · rw [hbase, k.home hi (by decide) (by simp)]
    · rw [ht1, kept.t1]
    · rw [ht2, kept.t2]
  case evictT2 =>
    intro s h i c hl hi hc he hw ht hd hgood
    have hclean : s.copyScan h i {} = (s, false) := copyScan_clean (by rwa [ht])
    obtain ⟨hstate, htier, hbase⟩ := evicted_shows s h hi {}
    have hbytes := rehomed_checked_bytes s h hi {} 2 (s.rf (MEM_HOME h i) MEM_HOME.BACKING)
    refine ⟨s.evicted h i {}, ?_, hstate, htier, hbase, evicted_fills s h i {}, ?_, evicted_regs hclean hd⟩
    · rw [exec_evictDone hl, evictDone_good hc he hd (by rw [hclean]), memRecheck_idle (by rw [evicted_waiting s h hi, hw])]
    · rw [objAt_addr htier hbase, (evicted_stored ..).memBytes, hbytes, ht]
  case evictBad =>
    intro s h i c chk hl hi hc he hw hd hbad
    obtain ⟨hstate, hfail, hevent⟩ := evictFailed_shows s h hi chk
    have hidle : (s.evictFailed h i chk).memRecheck h i = s.evictFailed h i chk :=
      memRecheck_idle (by rw [evictFailed_mem, copyChecked_waiting, hw])
    refine ⟨s.evictFailed h i chk, ?_, hstate, hfail, hevent, ?_, ?_, evictFailed_logged s h i chk⟩
    · rw [exec_evictDone hl, evictDone_bad hc he hd hbad, hidle]
    · rw [evictFailed_mem, copyChecked_t1]
    · rw [evictFailed_mem, copyChecked_t2]
  case fill =>
    intro s h f fs hl hf hc hd he
    obtain ⟨hhalf, -, hcharge⟩ := fillDone_shows hf hd he hc
    refine ⟨_, exec_zeroFillDone hl, by rw [hhalf, filled_fills], hcharge, fun k hk => ?_⟩
    rw [memBytes_one, hhalf, filled_cells, mapGet_mapEraseRange _ _ _ _ _ (by omega)]
    rfl
  case fillAlloc =>
    intro s h f fs i a hl hf hd he hi ha
    obtain rfl : a.idx = i := by simpa using List.find?_some ha
    have hkeep : Touches [] s ((s.filled h f fs).modMem h (fun m => { m with allocs := m.allocs.filter (fun x => !(x.idx == a.idx)) })) := by
      refine (touches_filled s h f fs).trans ?_
      exact .modMem _ _ h fun _ => ⟨rfl, rfl⟩
    have hend : Touches [.cmd] (s.fillAlloc h f fs a) ((s.fillAlloc h f fs a).memEnd h a.src 0 (some ((s.fillAlloc h f fs a).handleOf h a.idx))) :=
      .memEnd _ h _ _ _ (by simp)
    obtain ⟨hstate, -, -, hsweep, hgen⟩ := allocEntry_shows
      ((s.filled h f fs).modMem h (fun m => { m with allocs := m.allocs.filter (fun x => !(x.idx == a.idx)) })) h a true
    refine ⟨_, exec_zeroFillDone hl, ?_⟩
    rw [fillDone_alloc hf hd he ha]
    refine ⟨?_, (hend.objState hi (by simp)).trans hstate, (hend.home hi (by decide) (by simp)).trans hsweep, ?_, fun hsrc => ?_⟩
    · rw [State.memEnd_half, State.fillAlloc, State.allocEntry_half, State.modMem_mem]
      exact filled_fills ..
    · refine (hend.home hi (by decide) (by simp)).trans (hgen.trans ?_)
      rw [hkeep.home hi (by decide) (by simp)]
    · rw [hsrc]
      exact (memEnd_shows _ h _ (by decide)).2.1
  case poolSettled =>
    intro s h a q hl ha hs hc hi ho ht
    set w := s.modMem h (fun m => { m with allocWait := q }) with hw
    have hother : ∀ e ∈ a.other, e.2 < 32768 := fun e he => by
      rw [Option.mem_def.1 he] at ho
      exact of_decide_eq_true ho
    have k := Touches.poolTry w h true hc hi hother ht
    refine ⟨_, exec_poolRetry hl, ?_⟩
    rw [poolRetry_settled ha hs ht]
    refine ⟨?_, (State.rf_wf _ _ _ _ (by decide)).trans ?_⟩
    · rw [allocWaited_half, k.allocWait, hw, State.modMem_mem]
    · have hus : w.us h = s.us h := by cases h <;> rfl
      rw [k.reg (zone_allocWait h) rfl (by simp) (by simp), k.us, hus, hw, State.modMem_rf]
  case timeoutAny =>
    intro s h k a hl ha hc
    exact ⟨_, exec_allocTimeout hl, allocTimeout_shows ha hc⟩
  case evict =>
    intro s h i c chk hl hi hc he hd hgood
    obtain ⟨hstate, htier, hbase⟩ := evicted_shows s h hi chk
    refine ⟨s.evicted h i chk, ?_, hstate, htier, hbase, evicted_fills s h i chk, evicted_counts s h hi chk⟩
    rw [exec_evictDone hl, evictDone_good hc he hd hgood]
  case copyCrosses =>
    intro s h i j c a hl hc he hs hw hd ho ha
    refine ⟨_, exec_moveCopyStart hl, ?_⟩
    rw [moveCopyStart_there hc he hs hw hd ho ha, copyStarted_objRead]
    refine ⟨?_, ?_, ?_⟩
    · unfold State.copyOf
      rw [passMove_half]
      exact copyStarted_copyOf hc
    · rw [State.passMove, State.half_modHalf_same, State.copyStarted, State.modMem_other]
    · rw [State.passMove, State.modHalf_regs, State.copyStarted, State.modMem_regs]
  case move =>
    intro s h i c chk hl hi hc he hs hf ho hgood
    have k := touches_copyChecked s h i chk
    obtain ⟨hstate, htier, hbase⟩ := moveHere_shows (s.copyChecked h i chk) h hi c
    refine ⟨(s.copyChecked h i chk).moveHere h i c, ?_, hstate, ?_, ?_, ?_, ?_, fun hsrc => moveHere_ends _ h i hsrc⟩
    · rw [exec_moveCopyDone hl, moveCopyDone_good hc he hs hf ho hgood]
    · rw [htier, k.home hi (by decide) (by simp)]
    · rw [hbase, k.home hi (by decide) (by simp)]
    · rw [moveHere_copyOf]; exact dropCopy_copyOf ..
    · rw [moveHere_counts _ h hi, k.reg (zone_moveCount h) rfl (by simp) (by simp)]
  case moveOther =>
    intro s h i j c a chk hl hi hj hc he hs hf ho hm ha hgood
    obtain rfl : a.idx = j := by simpa using List.find?_some ha
    set u := s.copyChecked h i chk with hu
    have hfind : (u.half h.other).mem.allocs.find? (fun y => y.idx == a.idx) = some a := by rw [hu, copyChecked_allocs, ha]
    obtain ⟨hold, hnew, hgen⟩ := movedThere_shows u h (r := a) hi hj
    have hend : Touches [.count, .cmd] (u.movedThere h i a.idx a) (u.moveThere h i a.idx c) := by
      rw [moveThere_eq hfind]
      refine Touches.trans ?_ (.memEnd _ h _ _ _ (by simp))
      exact .wfCount _ h _ (by decide) rfl (by simp)
    have hcopies : KeepsStored (u.movedThere h i a.idx a) (u.moveThere h i a.idx c) := by
      rw [moveThere_eq hfind]
      exact (KeepsStored.add ..).trans (.memEnd ..)
    refine ⟨u.moveThere h i a.idx c, ?_, (hend.objState hi (by simp)).trans hold, (hend.objState hj (by simp)).trans hnew, ?_, ?_⟩
    · rw [exec_moveCopyDone hl, moveCopyDone_there hc he hs hf ho hm hgood]
    · rw [hend.home hi (by decide) (by simp), hgen, hu, (touches_copyChecked s h i chk).home hi (by decide) (by simp)]
    · rw [hcopies.copyOf, movedThere_copyOf]; exact dropCopy_copyOf ..

end Sys2Proof.Machine
end
